-- ==== Sys2Proof/Word.lean ====
section
/-! DEFINITION. The word types of the block: a register word (R125), a byte, and four things in a row (the carriages). -/
namespace Sys2Proof

/-- A register word (R125). -/
abbrev Word := BitVec 32

/-- A byte. -/
abbrev Byte := BitVec 8

end Sys2Proof
end

