-- ==== Sys2Proof/Syntax.lean ====
section
/-! DEFINITION. The commands of the block, whole: one constructor per row of spec/opcode_table.json. -/
namespace Sys2Proof

/-- A firmware image header as the boot ROM reads it (R98), with the verdicts of the signature and of the body hash, which
other standards define (R99). -/
structure ImageHeader where
  magic : Nat
  hdrver : Nat
  secver : Nat
  fwver : Nat
  length : Nat
  load : Nat
  entry : Nat
  flags : Nat
  reservedZero : Bool
  sigOk : Bool
  bodyOk : Bool
  /-- The body as the flash gives it (R98). -/
  body : List (BitVec 8) := []
  deriving DecidableEq, Repr

/-- What a core's access does: instruction fetch, load, store, load-reserved, store-conditional, atomic memory operation (R512). -/
inductive CoreAccess
  | fetch | load | store | lr | sc | amo
  deriving DecidableEq, Repr

/-- What one reader gave in a servo gate (R324-R328, R358): the 24 bits nearest the SAM and their place from its expected position in
bits, the SAM's end tS and the stripe crossings of groups A and B in 1/16 sample period, the 40 ID bits, and the preamble's amplitudes
A1 and A3. -/
structure ServoRead where
  samBits : Nat
  samAt : Int
  tS : Int
  crossA : List Int
  crossB : List Int
  idBits : Nat
  a1 : Rat
  a3 : Rat
  deriving DecidableEq, Repr

/-- One wedge: both readers, the SAM-to-SAM interval in 1/16 sample period, the time from the SAM to the message's departure in 2.5 ns
units (R362). -/
structure ServoWedge where
  readerA : ServoRead
  readerB : ServoRead
  period : Nat
  age : Nat
  deriving DecidableEq, Repr

/-- What a head's readers give over one stretch between servo gates (R195, R206): the sample at which the stretch begins, counted from
the first preamble bit of the sector, the voltages of lanes A and B at RDIN in mV at the 4.0 GHz samples from there, the channel bits
of the stretch, and those that the servo gate then lasts, 0 after the last. -/
structure Stretch where
  first : Nat
  laneA : List Rat
  laneB : List Rat
  bits : Nat
  gate : Nat
  deriving DecidableEq, Repr

/-- Protection fields of a command (R427 and the NVMe specifications): PRACT, PRCHK with guard in bit 2, application tag in bit 1 and
reference tag in bit 0, the initial reference tag, the application tag and its mask. -/
structure Prot where
  act : Bool := false
  chk : Nat := 0
  ilbrt : Nat := 0
  lbat : Nat := 0
  lbatm : Nat := 0
  deriving DecidableEq, Repr

/-- How a command points to its data (R421): PRP entries, SGL data block, segment and last segment descriptors, or an SGL with a bit bucket. -/
inductive DataPtr where
  | prp | sgl | bitBucket
  deriving DecidableEq, Repr

/-- A submission entry as the engine fetches it (R437 and the NVMe specifications): `clean` says that every reserved field and
FUSE are 0; `nlb` is the number of blocks; `ordered` is CDW13 bit [8]; `addr` and `maddr` the first host addresses of its data and of a
separate metadata buffer. -/
structure SqEntry where
  opc : Nat
  clean : Bool
  cid : Nat
  nsid : Nat
  slba : Nat
  nlb : Nat
  ordered : Bool
  addr : Nat
  maddr : Nat := 0
  prot : Prot := {}
  ptr : DataPtr := .prp
  deriving DecidableEq, Repr

/-- One message of a twin (R569) but for its KIND, as it stands in the inbox: FLAGS, MSEQ, NSID, COUNT, SLBA, TAG, and the payload, whose length
is PLEN. -/
structure TwinFrame where
  flags : Nat
  mseq : Nat
  nsid : Nat
  count : Nat
  slba : Nat
  tag : Nat
  payload : List (BitVec 8)
  deriving DecidableEq, Repr

/-- One sector of a head's reserved adaptation track read with CH_ADAPT.ACT set (R239): its position and what the readers give over it. -/
structure TrackRead where
  index : Nat
  signal : List Stretch
  deriving DecidableEq, Repr

/-- What firmware meets on the reserved adaptation track of one head in the first calibration pass (R239): sectors of 16 that
converged on the fly and the sum of their iteration counts, at the check and at the repeated check, and the sectors read in between with
CH_ADAPT.ACT set. -/
structure HeadCheck where
  carriage : Nat
  head : Nat
  converged : Nat
  iterations : Nat
  convergedAgain : Nat
  iterationsAgain : Nat
  adapting : List TrackRead := []
  deriving DecidableEq, Repr

/-- A register of a function's configuration space (R410, R411). Where a capability stands in it is the PCI Express specification's. -/
inductive CfgReg where
  /-- Device and Vendor ID. -/
  | ids
  /-- Status and Command. -/
  | command
  /-- Class code and Revision ID. -/
  | classRevision
  /-- Base address register 0-5. -/
  | bar (k : Nat)
  /-- Subsystem ID and Subsystem Vendor ID. -/
  | subsystem
  /-- Interrupt pin and line. -/
  | interrupt
  /-- The identifier of the k-th capability of R410's list. -/
  | capability (k : Nat)
  /-- A half of the Device Serial Number. -/
  | serial (high : Bool)
  /-- Power Management Control and Status. -/
  | power
  /-- MSI-X Message Control; the place of its table and of its pending bits. -/
  | msix
  | msixTable
  | msixPba
  /-- PCI Express capability: Device Capabilities, Device Control, Link Capabilities, Link Status and Control. -/
  | deviceCap
  | deviceControl
  | linkCap
  | linkControl
  /-- Data Link Feature Capabilities. -/
  | dataLinkFeature
  /-- Word `k` of the Advanced Error Reporting capability after its header: 0 to 5 are uncorrectable status, mask and severity, correctable
  status and mask, control. -/
  | aer (k : Nat)
  deriving DecidableEq, Repr

/-- The commands of the block: one constructor per row of the command table. Operands that are not in the spec's text of a
row are what the surroundings supply with the event (a measured value, a verdict of a computation another standard defines). -/
inductive Instr where
  /-- RESET_IN_N_RISE (R91): A rise of RESET_IN_N begins a power-on or hot-insertion start, classified by the raw level of PRSNT_N. `prsnt` is the raw level of PRSNT_N. -/
  | resetInNRise (prsnt : Bool)
  /-- RESET_IN_N_FALL (R66): A fall of RESET_IN_N puts the device in reset, or first runs the power-loss retract when heads are loaded or the spindle turns. -/
  | resetInNFall
  /-- STRAP_SAMPLING (R73): 50 µs after RESET_IN_N rises, the straps are sampled eight times and latched, and unstable pins read 0. `samples` are the eight samples of the 22 pins. -/
  | strapSampling (samples : List Nat)
  /-- PRSNT_N_DEBOUNCED_CHANGE (R65): PRSNT_N holds a new level for its 10 ms debounce, and the device acts on the debounced level. -/
  | prsntNDebouncedChange (level : Bool)
  /-- HOT_REMOVAL_ABANDON (R121): 200 ms into hot removal, every command not yet on the medium is abandoned per atomicity unit. -/
  | hotRemovalAbandon
  /-- L2_INVALIDATE_DONE (R102): The hardware L2 invalidate of 4,160 cycles ends, and core 0 starts the boot ROM. -/
  | l2InvalidateDone
  /-- SRAM_ECC_SELF_TEST (R103): Each SECDED checker is exercised with injected errors, and its error counters are then cleared. `region` none is the hub, else a carriage. -/
  | sramEccSelfTest (region : Option Nat) (pass : Bool)
  /-- LPDDR4X_TRAINING_DONE (R104): A training attempt of LPDDR4X ends, and a failure is retried up to three times. -/
  | lpddr4xTrainingDone (trained : Bool) (eccPass : Bool)
  /-- IMAGE_SLOT_CHECK (R99): The boot ROM checks a slot header, signature, body hash and security floor, and accepts or refuses the slot. -/
  | imageSlotCheck (slot : Nat) (jedecOk : Bool) (image : ImageHeader)
  /-- RECOVERY_START (R100): A write of 1 to 1A00:048.0 makes the boot ROM check the image in the claim and start it or report refusal. -/
  | recoveryStart (sess : Nat) (sigOk : Bool) (bodyOk : Bool)
  /-- FIRMWARE_START (R93): Firmware starts on core 0, releases cores 1–3 and opens the heartbeat window. -/
  | firmwareStart
  /-- START_FAILURE (R118): A start failure sets PW_BOOT.FAIL, raises a record and takes the reaction of its code. -/
  | startFailure (code : Nat) (detail : Nat)
  /-- TEMPERATURE_GATE_REREAD (R107): Every 1 s while the temperature gate holds, the motor-die sensor is read again and the gate opens at 0 °C or above. `temp` in 1/8 degree. -/
  | temperatureGateReread (temp : Int)
  /-- ADMIN_READY (R112): The start reaches stage 0x07; configuration requests complete normally and a pending CC.EN sets CSTS.RDY. -/
  | adminReady
  /-- SPINDLE_START_GATE_OPEN (R93): With both the mate and the temperature gates open, the start begins spindle start at stage 0x09. -/
  | spindleStartGateOpen
  /-- HEAD_LOAD_FAILED (R109): No wedge is decoded within two revolutions of a load; the carriage unloads and retries, and is fenced after three failures. -/
  | headLoadFailed (c : Nat)
  /-- FIRST_CALIBRATION_PASS (R110): Each loaded carriage locks wedges, calibrates EOFS, loads tables and replays its journal; the hub restores the map, ledger and operations. -/
  | firstCalibrationPass (settingsGood : List Nat) (mapGood : List Nat) (replays : List Nat) (checks : List HeadCheck)
  /-- MEDIA_READY (R94): The start reaches stage 0x0C and I/O commands are accepted. -/
  | mediaReady
  /-- CONFIG_REQUEST (R112): A PCIe configuration request is answered with retry status before admin ready and completed normally after it. -/
  | configRequest (p : Nat) (reg : CfgReg) (write : Option Nat)
  /-- LINK_FLIT_CRC_ERROR (R19): A die-to-die flit arrives with a CRC error and the receiver requests it again. Links: 0-3 hub to carriage, 4 hub to motor die, 5-8 sidebands. `toward` says whether the flit goes toward the hub or the carriage, `retry` whether it is a retry of the flit that failed before. -/
  | linkFlitCrcError (l : Nat) (toward : Bool) (retry : Bool)
  /-- LINK_DOWN (R19): Eight consecutive retries of one flit fail, the link is declared down, and the far die takes the consequence of R31. -/
  | linkDown (l : Nat)
  /-- LINK_TRAINED (R105): A die-to-die link reaches state up, or the carriage is fenced when it fails within 5 ms. `lat` is a sideband's latency measured at training, ns. -/
  | linkTrained (l : Nat) (up : Bool) (lat : Nat)
  /-- REGISTER_WRITE (R14): A write to a register with no row of its own acts according to the access codes of its fields. -/
  | registerWrite (src : Nat) (a : Nat) (data : Nat)
  /-- POSTED_WRITE_ACCEPTED (R127): The bridge accepts a posted write and sets BUSY, or drops it and sets the source's LOSTS bit. -/
  | postedWriteAccepted (src : Nat) (a : Nat) (data : Nat)
  /-- POSTED_WRITE_LANDS (R127): A posted write lands on the far side and BUSY clears. -/
  | postedWriteLands (page : Nat)
  /-- BRIDGE_FAR_SIDE_READY (R38): The far side of a bridge leaves reset or reports its clock stable, and FAR and BUSY clear. -/
  | bridgeFarSideReady (page : Nat)
  /-- MISALIGNED_ACCESS (R125): A register access that is not an aligned 32-bit access is not performed and sets BRG.SIZE. -/
  | misalignedAccess (a : Nat) (write : Bool)
  /-- RC_FIELD_READ (R132): A read of an RC field returns it and clears it when the read comes from a control core. -/
  | rcFieldRead (src : Nat) (a : Nat)
  /-- READ (R133): A dictionary Read returns the value of one object after validation. -/
  | readObject (sess : Nat) (u : Nat) (p : Nat) (e : Nat)
  /-- WRITE (R133): A dictionary Write sets the value of one object after validation, applied to each member for a group. -/
  | writeObject (sess : Nat) (u : Nat) (p : Nat) (e : Nat) (ty : Nat) (value : List (BitVec 8))
  /-- READ_EACH (R161): A Read each returns the parameter of every non-absent member of a group, in a record or through a claim. -/
  | readEach (sess : Nat) (u : Nat) (p : Nat) (e : Nat) (claim : Option Nat)
  /-- DESCRIBE (R171): A Describe returns type, roles, origin and default of one object. -/
  | describe (sess : Nat) (u : Nat) (p : Nat) (e : Nat)
  /-- SUBSCRIBE (R157): A Subscribe registers change notification for an object with an interval and deadband. -/
  | subscribe (sess : Nat) (u : Nat) (p : Nat) (e : Nat) (ty : Nat) (interval : Nat) (deadband : List (BitVec 8))
  /-- UNSUBSCRIBE (R157): An Unsubscribe removes the session's subscription to an object. -/
  | unsubscribe (sess : Nat) (u : Nat) (p : Nat) (e : Nat)
  /-- BLOCK_READ (R189): A Block read moves a BLOB value into the requester's claim of the bulk window. -/
  | blockRead (sess : Nat) (u : Nat) (p : Nat) (e : Nat) (first : Nat) (n : Nat)
  /-- BLOCK_WRITE (R189): A Block write takes a BLOB value from the requester's claim of the bulk window. -/
  | blockWrite (sess : Nat) (u : Nat) (p : Nat) (e : Nat) (first : Nat) (n : Nat)
  /-- FENCE (R142): A write of 1 to fence control fences the unit with the consequence of R31. -/
  | fence (sess : Nat) (u : Nat)
  /-- UNFENCE (R143): A write of 0 to fence control re-initialises and unfences the smallest fenced set holding the unit. -/
  | unfence (sess : Nat) (u : Nat)
  /-- RE_INITIALISE (R144): A write of 1 to 004 re-initialises the unit as Stair 2. -/
  | reInitialise (sess : Nat) (u : Nat)
  /-- ACKNOWLEDGE_FAULTS (R141): A write of 2 to 004 clears fault-summary bits whose cause has ended. -/
  | acknowledgeFaults (sess : Nat) (u : Nat)
  /-- POWER_STATE_REQUEST (R145): A write to 005 requests a state for the unit's power domain, which takes the highest state requested. -/
  | powerStateRequest (sess : Nat) (u : Nat) (x : Nat)
  /-- FAULT_FORCE (R146): A write to 006 sets force bits, raising those fault classes as if detected. -/
  | faultForce (sess : Nat) (u : Nat) (mask : Nat)
  /-- DEVICE_RESET_REQUEST (R151): A write of 0x5A to 0000:010.0 takes Stair 3. -/
  | deviceResetRequest (sess : Nat) (x : Nat)
  /-- SESSION_ROLE_WRITE (R148): A write to 0000:013.0 requests a role, ending the current challenge, or falls back to Observer on 0. -/
  | sessionRoleWrite (sess : Nat) (role : Nat)
  /-- CHALLENGE_READ (R149): A read of 0000:011.1 or 011.2 returns the session's challenge, making a fresh one when none is current. -/
  | challengeRead (sess : Nat) (half : Nat)
  /-- RESPONSE_WRITE (R149): A write of 0000:012.2 checks the tag and grants the role or fails with 0x0A. -/
  | responseWrite (sess : Nat) (half : Nat) (x : Nat)
  /-- CHALLENGE_EXPIRY (R149): A challenge ends 10 s after it was made. -/
  | challengeExpiry (sess : Nat)
  /-- CHALLENGE_LOCKOUT_END (R149): The 10 s refusal of challenge reads after three failed responses ends and the count restarts. -/
  | challengeLockoutEnd (sess : Nat)
  /-- SESSION_FALLBACK (R150): A Quablink or BAR2 session without a transaction for 600 s falls back to Observer and loses its subscriptions and claims. -/
  | sessionFallback (sess : Nat)
  /-- SETTINGS_COMMIT (R153): A write of 1 to 0000:015.0 commits every live stored value to every unfenced carriage's system area and verifies each copy. -/
  | settingsCommit (sess : Nat) (verified : Nat)
  /-- SETTINGS_REVERT (R153): A write of 2 to 0000:015.0 sets every stored entry's live value to its factory value. -/
  | settingsRevert (sess : Nat)
  /-- NOTIFICATION_CYCLE (R158): Once per 1 ms management cycle, subscribed values are compared and notifications are queued. -/
  | notificationCycle
  /-- NOTIFICATION_RETRY (R176): A notification not acknowledged within 50 ms is sent again, and dropped after three repeats. -/
  | notificationRetry (sess : Nat) (seq : Nat)
  /-- QUABLINK_REQUEST (R172): A request frame is checked for form and duplicates, its transactions are performed in order and a response is queued. -/
  | quablinkRequest (src : Nat) (seq : Nat) (count : Nat) (body : List (BitVec 8))
  /-- NOTIFICATION_ACKNOWLEDGE (R176): A notification acknowledge with a matching SEQ ends the repeats of that notification. -/
  | notificationAcknowledge (sess : Nat) (seq : Nat)
  /-- BEACON (R183): An accepted beacon slews or steps the device's minute boundary. -/
  | beacon (src : Nat) (minute : Nat) (until_ : Nat) (e : Int)
  /-- ALERT_ACKNOWLEDGE (R178): An alert acknowledge with the alert's SEQ ends the alert's repeats. -/
  | alertAcknowledge (src : Nat) (seq : Nat)
  /-- WINDOW_DATA_REQUEST (R190): A window data request moves up to 1,024 bytes between the requester and its own claim. -/
  | windowDataRequest (src : Nat) (seq : Nat) (count : Nat) (sect : Nat) (dir : Nat) (offset : Nat) (wlen : Nat) (clean : Bool) (data : List (BitVec 8))
  /-- IGNORED_FRAME (R170): A frame of another EtherType, unknown kind or bad header is discarded and counted. -/
  | ignoredFrame (dest : Nat) (etherType : Nat) (payload : List (BitVec 8))
  /-- PLCA_SETTING_TAKES_EFFECT (R167): A written PLCA setting takes effect at the next beacon seen, or within 20 ms without one. -/
  | plcaSettingTakesEffect
  /-- PLCA_BEACON_LOSS (R168): No PLCA beacon for 100 ms sets status 0 and holds the transmit queue. -/
  | plcaBeaconLoss
  /-- ALERT_RAISED (R177): An alert is raised for a Stair 4 request, a severe record, a halt or a thermal trip. -/
  | alertRaised (code : Nat) (detail : Nat)
  /-- ALERT_REPEAT (R178): An unacknowledged alert is sent again every 1 s, up to 60 sends. -/
  | alertRepeat (seq : Nat)
  /-- MANAGEMENT_PORT_RESUME (R654): The management port can send again and sends held alerts and one notification per subscription. -/
  | managementPortResume
  /-- SYNC_HOLDOVER (R184): 180 s without an accepted beacon puts the sync state in holdover. -/
  | syncHoldover
  /-- MINUTE_BOUNDARY (R556): At a minute boundary the ledger counters are snapshotted, written as a minute bank and the entry window is filled. -/
  | minuteBoundary
  /-- CLAIM (R187): A write of a mask to 1920:011.0 claims contiguous free sections for the session. -/
  | claim (sess : Nat) (mask : Nat)
  /-- RELEASE (R188): A write of 0 to 1920:011.0 releases the session's sections into Clearing. -/
  | release (sess : Nat)
  /-- SECTION_CLEARED (R186): A section in Clearing finishes zeroing and becomes Free. -/
  | sectionCleared (n : Nat)
  /-- LEASE_EXPIRY (R192): A Held section whose owner is idle for the lease time returns to Free through Clearing. -/
  | leaseExpiry (n : Nat)
  /-- BAR2_WINDOW_ACCESS (R191): A BAR2 access to the bulk window is performed for the port's own Held sections and otherwise dropped or read as 0. -/
  | bar2WindowAccess (p : Nat) (o : Nat) (n : Nat) (requester : Nat) (write : Bool) (data : List (BitVec 8))
  /-- MAILBOX_GO (R418): A write of HP_MBCTL.GO performs the transaction in HP_MBREQ and posts the response record. -/
  | mailboxGo (p : Nat)
  /-- NOTIFICATION_RING_ENABLE (R419): A write of HP_NRCFG.ENA resets the ring tail and phase. -/
  | notificationRingEnable (p : Nat) (data : Nat)
  /-- PA_SIF_CMD_WRITE (R71): A write of PA_SIF_CMD starts a firmware preamplifier frame, or is dropped with DROP when a frame is active. `data` is the word that lands. -/
  | paSifCmdWrite (c : Nat) (data : Nat)
  /-- PREAMP_FRAME_DONE (R69): A preamplifier serial frame ends and its acknowledge or read data is recorded. -/
  | preampFrameDone (c : Nat) (ack : Nat) (rdata : Nat) (parityOk : Bool)
  /-- PREAMP_FAULT (R56): CAc_FLT_N low for 20 ns records a preamplifier fault. -/
  | preampFault (c : Nat)
  /-- CALIBRATION_WRITE_HOLD (R47): A write-side step that has waited the write-side wait limit makes the engine hold new writes to the carriage. -/
  | calibrationWriteHold (c : Nat)
  /-- CALIBRATION_HOLD_RELEASE (R47): A hold that would delay a held write beyond 20 ms is released and counted as a deferral. -/
  | calibrationHoldRelease (c : Nat)
  /-- CALIBRATION_STEP_START (R46): A calibration step starts on a carriage within its share and delay limits. A step of `ms` milliseconds, write-side or read-side. -/
  | calibrationStepStart (c : Nat) (write : Bool) (ms : Nat)
  /-- SECTOR_START (R199): At a sector start the channel latches the NBP and CTF cutoff, or refuses the sector. Head, zone group, ZBP, seed, read mode (3 the default), direction, the buffer tag of a write sector's ciphertext, the code bits before each split, and what the head's readers give over the sector. -/
  | sectorStart (c : Nat) (hd : Nat) (group : Nat) (zbp : Nat) (seed : Nat) (mode : Nat) (write : Bool) (buf : Nat) (cuts : List Nat) (signal : List Stretch)
  /-- SERVO_GATE_RISE (R307): The bit counter reaches BPW, CAc_SG rises and the wedge number advances. -/
  | servoGateRise (c : Nat)
  /-- SERVO_ADDRESS_MARK (R307): The demodulator reports a servo address mark and the bit counter is corrected. `bc` is the bit counter when the mark is reported. -/
  | servoAddressMark (c : Nat) (bc : Nat)
  /-- THERMAL_ASPERITY (R209): A thermal asperity span is found, its LLRs erased and counted. The next span of the sector in progress shows. -/
  | thermalAsperity (c : Nat)
  /-- TIMING_SLIP (R205): The frequency clamp holds for 256 bits or lock falls during data, and the sector is marked slipped. -/
  | timingSlip (c : Nat)
  /-- CODEWORD_DECODED (R221): The decoder ends a global iteration of a codeword by convergence, iteration limit or stall. Engine `i` holds the codeword. -/
  | codewordDecoded (c : Nat) (i : Nat)
  /-- DECODER_QUEUE_OVERFLOW (R222): A seventh codeword arrives and the oldest codeword still decoding ends as an on-the-fly failure. -/
  | decoderQueueOverflow (c : Nat)
  /-- BUFFER_RETRY (R224): A sector that failed on the fly is pinned and retried from its sample slot by the enabled steps. -/
  | bufferRetry (c : Nat)
  /-- VERIFY_REPORT (R226): The verify decode of a written sector ends and its report goes to the formatter. -/
  | verifyReport (c : Nat)
  /-- ADAPTER_UPDATE (R233): A qualifying sector's error updates its coefficient set at the next sector boundary. -/
  | adapterUpdate (c : Nat)
  /-- ACTIVE_ADAPTATION_REQUEST (R236): A set without passive update for STALE minutes raises an active adaptation request. -/
  | activeAdaptationRequest (c : Nat) (hd : Nat) (z : Nat)
  /-- AREQ_CLEAR (R236): Firmware clears CH_ASTAT.AREQ and the next pending request appears. -/
  | areqClear (c : Nat)
  /-- CH_TADDR_WRITE (R230): A write of CH_TADDR selects a set and word, loading staging when the set changes. `data` is the word that lands. -/
  | chTaddrWrite (c : Nat) (data : Nat)
  /-- COEFFICIENT_COMMIT (R230): CH_TADDR with COMMIT copies staging to active at once or at the head's next sector boundary. `data` is the word that lands. -/
  | coefficientCommit (c : Nat) (data : Nat)
  /-- CH_TDATA_ACCESS (R230): A CH_TDATA access reads or writes the addressed word and increments WORD. -/
  | chTdataAccess (c : Nat) (write : Bool) (data : Nat)
  /-- CHANNEL_REINITIALISE (R240): A U of 0xd100 ends the sector in progress as Failed, flushes the queue and unpins slots. -/
  | channelReinitialise (c : Nat) (frontEnd : Bool)
  /-- MARK_MISS (R255): No mark candidate exists; the miss is recorded and the sector retried on the next revolutions. -/
  | markMiss (c : Nat)
  /-- MARK_MISS_LIMIT (R255): Mark misses of a carriage within one minute exceed the limit and raise class [12]. -/
  | markMissLimit (c : Nat)
  /-- READ_REVOLUTION_RETRY (R257): A failed sector is read again on the next revolution, up to RREV reads. -/
  | readRevolutionRetry (c : Nat)
  /-- REASSIGN (R258): A sector is written and verified at a spare and entered in the grown-defect list. -/
  | reassign (c : Nat) (ok : Bool)
  /-- WRITE_UNSAFE (R260): Write-unsafe or a preamplifier fault during a sector drops WG within 8 bits and the sector counts as not written. -/
  | writeUnsafe (c : Nat)
  /-- HOME_REWRITE (R265): A home sector with verify outcome 2 or 3 is rewritten in place on the next revolution, then reassigned. -/
  | homeRewrite (c : Nat) (ok : Bool)
  /-- LANDING_FULL (R272): Landing free space falls below the low mark or 131 positions and sets LLOW or LFULL. -/
  | landingFull (c : Nat)
  /-- POOL_EMPTY (R276): A reassignment finds the spare pool empty and sets the extent read-only. -/
  | poolEmpty (c : Nat)
  /-- LANDING_CHECKPOINT (R277): Every 16,384 positions or at orderly spin-down, a verified Landing checkpoint is written. -/
  | landingCheckpoint (c : Nat) (ok : Bool)
  /-- POWER_LOSS_SECTOR_END (R279): On power loss the formatter completes the sector in flight, raises WG no more and releases the heads. -/
  | powerLossSectorEnd (c : Nat)
  /-- CONTROL_STORE_COPY_DONE (R285): The ROM copy into the control store ends and the FM bridge clears FAR. -/
  | controlStoreCopyDone (c : Nat)
  /-- FM_RQPUSH (R299): Firmware pushes FM_RQW0–3 into the request queue, or the push is dropped when the queue is full. -/
  | fmRqpush (c : Nat)
  /-- ENGINE_REQUEST_PUSH (R299): The command engine pushes a request into a formatter's request queue. -/
  | engineRequestPush (c : Nat) (opc : Nat) (tag : Nat) (w1 : Nat) (w2 : Nat) (w3 : Nat)
  /-- ROUTINE_START (R299): With RUN set and no routine running, the oldest request starts at OPC × 8. -/
  | routineStart (c : Nat)
  /-- MICROWORD (R289): The sequencer executes one microword: operands, ALU, register, port, loop counter and next address. -/
  | microword (c : Nat)
  /-- WAIT_CONDITION_MET (R292): A WAIT word's condition becomes true and its effects happen once. -/
  | waitConditionMet (c : Nat)
  /-- SQ_PUSH (R308): The staged descriptor is pushed into the sector queue. -/
  | sqPush (c : Nat)
  /-- SIF (R313): A formatter serial frame is queued for the preamplifier. `v` holds the command word in [31:16] and the data in [15:0]. -/
  | sif (c : Nat) (v : Nat)
  /-- RPT_TAKE (R311): The oldest report moves into RPT0–RPT3. -/
  | rptTake (c : Nat)
  /-- SQ_FLUSH (R296): Every descriptor not yet started is removed. -/
  | sqFlush (c : Nat)
  /-- REQ_DONE (R301): The running request completes with its status and FM_PROG. -/
  | reqDone (c : Nat) (status : Nat)
  /-- SECT (R296): One sector's outcome is reported to the command engine. `v` as RPT0. -/
  | sect (c : Nat) (v : Nat)
  /-- FW_IRQ (R296): FM_MIRQS.USER bits are set. -/
  | fwIrq (c : Nat) (v : Nat)
  /-- SEEK (R344): A seek request goes from the formatter to the servo. -/
  | seek (c : Nat) (hd : Nat) (track : Nat)
  /-- DEFADD (R296): The staged grown-defect entry is committed. -/
  | defadd (c : Nat)
  /-- LIDX (R271): The Landing index is updated for a destaged record. -/
  | lidx (c : Nat) (seq : Nat)
  /-- HALT (R301): The routine ends, completing with status 5 when REQ_DONE was not reached. -/
  | halt (c : Nat)
  /-- IRET (R303): An interrupt handler returns, restoring flags and resuming at FM_IRET. -/
  | iret (c : Nat)
  /-- SAFE_POINT_OVERRUN (R298): The safe-point distance reaches 1,024 cycles and the routine halts with OVR. -/
  | safePointOverrun (c : Nat)
  /-- FORMATTER_INTERRUPT_TAKEN (R303): A pending interrupt level is taken at a safe point, a waiting SAFE word or at once. -/
  | formatterInterruptTaken (c : Nat)
  /-- FORMATTER_ABORT (R305): The command engine aborts a TAG, removing a queued request or raising level 1. -/
  | formatterAbort (c : Nat) (tag : Nat)
  /-- FWREQ (R302): A write of FM_INT.FWREQ raises interrupt level 2. -/
  | fwreq (c : Nat)
  /-- RUN_CLEAR (R306): Clearing FM_MCTL.RUN holds the sequencer at its next safe point. -/
  | runClear (c : Nat)
  /-- PATCH_LOAD_START (R317): A write of FM_PLOAD.START begins a patch load, or is refused with FAIL 6. -/
  | patchLoadStart (c : Nat)
  /-- PATCH_LOAD_DONE (R317): The patch loader ends with the patch loaded or failed. `readable`: no uncorrectable error met the read of the image. -/
  | patchLoadDone (c : Nat) (readable : Bool)
  /-- DESCRIPTOR_START (R309): A descriptor starts at its position's arrival, or is refused. `signal` is what the head's readers give over the position. -/
  | descriptorStart (c : Nat) (signal : List Stretch)
  /-- DESCRIPTOR_REPORT (R311): A descriptor ends and its report is queued. -/
  | descriptorReport (c : Nat)
  /-- LANDING_RUN_CLOSE (R310): A Landing run closes after RUNEND or four positions without a Landing descriptor. `n` further positions pass so. -/
  | landingRunClose (c : Nat) (n : Nat)
  /-- STU_POWER_LOSS (R314): On power loss the STU removes unstarted descriptors and raises level 0. -/
  | stuPowerLoss (c : Nat)
  /-- FORMATTER_REINITIALISE (R320): A U of the formatter or carriage fence ends the routine and completes every request with status 4. -/
  | formatterReinitialise (c : Nat)
  /-- SERVO_SAMPLE (R334): At each wedge the servo computes position, the control law, ELPH, write-unsafe and ONTRK. -/
  | servoSample (c : Nat) (w : ServoWedge)
  /-- WEDGE_LOCK (R328): Eight consistent SAMs declare wedge lock. `pos` is the writer position in 1/1,024 track of the sample that completes lock. -/
  | wedgeLock (c : Nat)
  /-- LOCK_LOST (R340): Four consecutive missed SAMs lose lock and the engine enters Coast. -/
  | lockLost (c : Nat)
  /-- COAST_TIMEOUT (R340): Lock not regained within 16 wedges makes the engine retract and park. -/
  | coastTimeout (c : Nat)
  /-- SV_SEEK_WRITE (R344): A firmware write of SV_SEEK requests a seek, dropped with SKREF while RUN is 1. `data` is the word that lands. -/
  | svSeekWrite (c : Nat) (data : Nat)
  /-- SEEK_START (R345): An accepted seek is planned into flights and the engine enters Seek. -/
  | seekStart (c : Nat)
  /-- HANDOVER (R349): The profile has ended and the error is within HOVTH; the steady law takes over bumplessly. -/
  | handover (c : Nat) (age : Nat)
  /-- ONTRK (R339): NSET consecutive samples within SETTH make ONTRK true and the state Follow. -/
  | ontrk (c : Nat)
  /-- SEEK_FAIL (R350): A seek fails by timeout or stall and is retried once, then raises class [8]. -/
  | seekFail (c : Nat)
  /-- HEAD_SWITCH (R351): A seek to another head queues a head-select frame and waits for its acknowledge. -/
  | headSwitch (c : Nat)
  /-- BANK_SWAP (R342): The interpolated shadow bank is swapped in at a sample boundary. -/
  | bankSwap (c : Nat)
  /-- SV_BANK_COMMIT (R343): SV_CADDR with COMMIT checks a staged grid bank and accepts or refuses it. `data` is the word that lands. -/
  | svBankCommit (c : Nat) (data : Nat)
  /-- RC_REVOLUTION (R354): A counted learning revolution adds its errors to the accumulator; after 2^NR a candidate is ready. -/
  | rcRevolution (c : Nat)
  /-- RC_COMMIT (R356): SV_RC.COMMIT replaces the correction table with the candidate at a boundary with no run open. -/
  | rcCommit (c : Nat)
  /-- BAND_LAW_BLOCK (R359): A band law's block of wedges ends and its output steps when the mean leaves the band. -/
  | bandLawBlock (c : Nat) (hd : Nat)
  /-- READ_CLEARANCE_STEP (R360): A read-clearance step is written to HTRR and sent to the preamplifier when no run is open. -/
  | readClearanceStep (c : Nat) (hd : Nat)
  /-- BAND_APPLY (R361): SV_HBCTL.APPLY copies pending write-clearance and laser outputs at a boundary with no run open. -/
  | bandApply (c : Nat) (hd : Nat)
  /-- SERVO_ENABLE (R363): SV_CTL.ENA set while heads leave the ramp puts the engine in Search. -/
  | servoEnable (c : Nat)
  /-- SERVO_REINITIALISE (R364): A U of the servo or carriage fence retracts loaded heads and parks. -/
  | servoReinitialise (c : Nat)
  /-- CONTROL_PERIOD (R374): Every 5 µs the spindle current loops compute and apply the voltage vector. Measured currents in mA, buses in mV, the observer's angle in turns and speed in rpm, nanoseconds since the wedge source's SAM. -/
  | controlPeriod (u1 : Int) (u2 : Int) (v1 : Int) (v2 : Int) (v12 : Nat) (v5 : Nat)
  /-- OBSERVER_EVALUATION (R378): Every 64 control periods the observer's confidence is computed and lock or loss is declared. -/
  | observerEvaluation
  /-- SPEED_LOOP (R381): Every 200 µs the speed loop computes iq_ref and moves the speed reference. -/
  | speedLoop
  /-- BUSY_REPORT (R448): Every 10 ms the command engine reports each carriage's busy fraction. -/
  | busyReport (c : Nat)
  /-- DEMAND_GOVERNOR (R384): Every 100 ms in Running the governor raises or lowers the speed request. -/
  | demandGovernor
  /-- SPINDLE_START (R389): SP_CMD start begins a start from Measuring, or is refused or has no effect by state. -/
  | spindleStart
  /-- SPINDLE_STOP (R393): SP_CMD stop decelerates the spindle under control, refused while drives are not Parked. -/
  | spindleStop
  /-- SPINDLE_COAST (R393): SP_CMD coast sets the gates low and the spindle coasts. -/
  | spindleCoast
  /-- MEASURING_END (R390): After 20 ms of back-EMF measurement the start catches, decelerates, brakes or aligns. -/
  | measuringEnd (crossings : List (Nat × Rat))
  /-- ALIGNMENT_END (R391): The alignment time ends and the open-loop ramp begins. -/
  | alignmentEnd
  /-- OPEN_LOOP_SPEED_REACHED (R391): The open-loop ramp reaches 300 rpm and holds awaiting observer lock. -/
  | openLoopSpeedReached
  /-- START_ATTEMPT_FAIL (R392): No lock within 500 ms or speed below 150 rpm fails the attempt; the third makes the spindle Faulted. -/
  | startAttemptFail
  /-- AT_SPEED (R391): The spindle reaches its target and enters Running. -/
  | atSpeed
  /-- BRAKING_END (R393): A timed braking period or a stop's low-current period ends. -/
  | brakingEnd
  /-- COAST_TO_STOPPED (R655): No back-EMF crossing for 500 ms makes a coasting spindle Stopped. -/
  | coastToStopped
  /-- SPINDLE_RESET_CHECK (R655): Within 20 ms of a reset the back-EMF is checked and the state becomes Stopped or stays Coasting. -/
  | spindleResetCheck (crossing : Bool)
  /-- WEDGE_FALLBACK (R394): Observer loss with heads loaded switches commutation to wedge timing, and back after four agreements. -/
  | wedgeFallback
  /-- RE_CATCH (R395): Observer loss without wedge timing coasts the spindle and re-catches it from zero crossings. -/
  | reCatch (crossings : List (Nat × Rat))
  /-- RE_CATCH_FAIL (R395): A re-catch not made within 1 s or below 300 rpm makes the spindle Faulted. -/
  | reCatchFail (crossings : List (Nat × Rat))
  /-- ECAL_START (R388): SP_ECALc.START begins an EOFS calibration run on carriage c. -/
  | ecalStart (c : Nat)
  /-- ECAL_END (R388): After 640 messages EOFS is computed, or the run ends with FAIL. -/
  | ecalEnd (c : Nat)
  /-- POWER_LOSS (R396): A bus falls below its threshold for 4 µs and the supply monitor signals power loss to every die. -/
  | powerLoss (v12 : Nat) (v5 : Nat)
  /-- HOLD_UP_END (R397): Every drive is Parked and the spindle coasts, or hold-up fails below 600 rpm. -/
  | holdUpEnd
  /-- SUPPLY_RETURN (R398): After the sequence the buses hold for 10 ms, HU_CTL goes low and PWRBACK is set. -/
  | supplyReturn (v12 : Nat) (v5 : Nat)
  /-- OVERCURRENT (R405): Phase current above 1.25 IMAX in two periods sets the gates low. -/
  | overcurrent
  /-- BUS_OVERVOLTAGE (R405): VBUS12 above 15.0 V for 4 µs sets gates low and retracts every loaded drive. -/
  | busOvervoltage (v12 : Nat)
  /-- ACTUATOR_MESSAGE (R400): A sideband message sets the voice-coil and microactuator outputs or drives the drive's state. -/
  | actuatorMessage (c : Nat) (vcm : Int) (ma : Int) (wedge : Nat) (elph : Nat) (age : Nat) (period : Nat) (flags : Nat) (sensed : Int)
  /-- CURRENT_MISMATCH (R400): Sensed voice-coil current differs by more than 10 % for 1 ms and the drive retracts. -/
  | currentMismatch (c : Nat)
  /-- SIDEBAND_TIMEOUT (R402): No message for four wedge periods makes the drive retract. -/
  | sidebandTimeout (c : Nat)
  /-- HOLDING_TIMEOUT (R402): Sixteen consecutive messages with CMDV 0 while Holding make the drive retract. -/
  | holdingTimeout (c : Nat)
  /-- LOAD (R403): AC_CMD load runs the load profile, or is refused with LDFAIL. -/
  | load (c : Nat)
  /-- UNLOAD (R403): AC_CMD unload runs the unload profile. -/
  | unload (c : Nat)
  /-- RETRACT (R403): AC_CMD retract runs the retract profile. -/
  | retract (c : Nat)
  /-- PROFILE_PHASE_END (R403): A phase of a load, unload or retract profile ends and the next phase or state follows. -/
  | profilePhaseEnd (c : Nat)
  /-- LOAD_TIMEOUT (R403): No valid message within two revolutions of a load makes the drive retract and set LDFAIL. -/
  | loadTimeout (c : Nat)
  /-- PERST (R415): Hx_PERST_N, hot reset or link down resets one port as L. -/
  | perst (p : Nat) (kind : Nat)
  /-- FUNCTION_LEVEL_RESET (R415): A function-level reset resets one port with the link kept. -/
  | functionLevelReset (p : Nat)
  /-- CONTROLLER_DISABLE (R415): CC.EN written from 1 to 0 resets the controller and deletes its queues. -/
  | controllerDisable (p : Nat)
  /-- CONTROLLER_ENABLE (R113): CC.EN set makes the controller ready, or sets CSTS.CFS when halted. -/
  | controllerEnable (p : Nat) (asqs : Nat) (acqs : Nat)
  /-- SHUTDOWN (R417): CC.SHN completes when the controller's commands have ended. -/
  | shutdown (p : Nat)
  /-- COMMAND_FETCH (R436): A submission entry is fetched by round robin, given an ISN and checked at intake. -/
  | commandFetch (p : Nat) (sq : Nat) (waiting : List Nat) (entry : SqEntry)
  /-- DELETE_IO_SQ (R423): Admin Delete I/O Submission Queue. -/
  | deleteIoSq (p : Nat) (cid : Nat) (qid : Nat)
  /-- CREATE_IO_SQ (R423): Admin Create I/O Submission Queue. -/
  | createIoSq (p : Nat) (cid : Nat) (qid : Nat) (size : Nat) (cqid : Nat)
  /-- DELETE_IO_CQ (R423): Admin Delete I/O Completion Queue. -/
  | deleteIoCq (p : Nat) (cid : Nat) (qid : Nat)
  /-- CREATE_IO_CQ (R423): Admin Create I/O Completion Queue. -/
  | createIoCq (p : Nat) (cid : Nat) (qid : Nat) (size : Nat) (vector : Nat) (ien : Bool)
  /-- GET_LOG_PAGE (R425): Admin Get Log Page returns a supported log page such as the minute ledger. -/
  | getLogPage (p : Nat) (cid : Nat) (lid : Nat) (nsid : Nat) (off : Nat) (len : Nat)
  /-- IDENTIFY (R423): Admin Identify returns a supported CNS structure. -/
  | identify (p : Nat) (cid : Nat) (cns : Nat) (nsid : Nat) (cntid : Nat)
  /-- ABORT (R459): Admin Abort is serialised against the target's completion commit. -/
  | abort (p : Nat) (cid : Nat) (sq : Nat) (tcid : Nat)
  /-- SET_FEATURES (R424): Admin Set Features sets a supported feature. -/
  | setFeatures (p : Nat) (cid : Nat) (fid : Nat) (nsid : Nat) (value : Nat) (table : List Nat)
  /-- GET_FEATURES (R424): Admin Get Features returns a supported feature. -/
  | getFeatures (p : Nat) (cid : Nat) (fid : Nat) (nsid : Nat) (sel : Nat)
  /-- ASYNCHRONOUS_EVENT_REQUEST (R423): Admin Asynchronous Event Request, up to eight outstanding. -/
  | asynchronousEventRequest (p : Nat) (cid : Nat)
  /-- NAMESPACE_MANAGEMENT (R426): Admin Namespace Management creates or deletes a namespace in whole extents. -/
  | namespaceManagement (p : Nat) (cid : Nat) (sel : Nat) (nsid : Nat) (nsze : Nat) (ncap : Nat) (fmt : Nat) (pi : Nat) (mset' : Bool) (pil : Bool)
  /-- NAMESPACE_ATTACHMENT (R426): Admin Namespace Attachment attaches or detaches a namespace. -/
  | namespaceAttachment (p : Nat) (cid : Nat) (sel : Nat) (nsid : Nat) (ctrls : Nat)
  /-- FORMAT_NVM (R464): Format NVM destages, advances the epoch, optionally overwrites and rewrites tags for one namespace. -/
  | formatNvm (p : Nat) (cid : Nat) (nsid : Nat) (fmt : Nat) (pi : Nat) (ses : Nat) (mset' : Bool) (pil : Bool)
  /-- SANITIZE (R465): Sanitize crypto-erases or overwrites the subsystem, or exits failure mode. -/
  | sanitize (p : Nat) (cid : Nat) (sanact : Nat) (ause : Bool) (owpass : Nat) (oipbp : Bool) (ovrpat : Nat)
  /-- TWIN_PAIR (R431): Twin Pair verifies its tag and pairs with the partner over the peer path. -/
  | twinPair (p : Nat) (cid : Nat) (page : List (BitVec 8))
  /-- TWIN_IDENTIFY (R430): Twin Identify returns twin state and a fresh pairing nonce. -/
  | twinIdentify (p : Nat) (cid : Nat)
  /-- TWIN_UNPAIR (R584): Twin Unpair ends mirroring, clears flags and erases the pair record. -/
  | twinUnpair (p : Nat) (cid : Nat)
  /-- TWIN_RESILVER (R582): Twin Resilver starts or stops resilvering of divergent extents. -/
  | twinResilver (p : Nat) (cid : Nat) (cdw10 : Nat) (peerSolow : Bool) (peerDivergent : List Nat)
  /-- FLUSH (R452): I/O Flush completes when earlier writes of the namespace from the queue have completed. -/
  | flush (slot : Nat)
  /-- WRITE_COMMAND (R443): I/O Write takes the Landing or stream path per piece. -/
  | writeCommand (slot : Nat) (blocks : List Nat) (metas : List Nat) (failed : Bool)
  /-- READ_COMMAND (R451): I/O Read reads blocks from galleries, the Landing or home. -/
  | readCommand (slot : Nat) (bad : List Nat)
  /-- WRITE_ZEROES (R443): I/O Write Zeroes writes enciphered zeros as a Write. -/
  | writeZeroes (slot : Nat)
  /-- VERIFY_COMMAND (R423): I/O Verify reads and checks protection information without data transfer. -/
  | verifyCommand (slot : Nat) (bad : List Nat)
  /-- RESERVATION_REGISTER (R423): I/O Reservation Register. -/
  | reservationRegister (slot : Nat) (rrega : Nat) (iekey : Bool) (crkey : Nat) (nrkey : Nat) (cptpl : Nat)
  /-- RESERVATION_REPORT (R423): I/O Reservation Report. -/
  | reservationReport (slot : Nat) (numd : Nat)
  /-- RESERVATION_ACQUIRE (R423): I/O Reservation Acquire. -/
  | reservationAcquire (slot : Nat) (racqa : Nat) (iekey : Bool) (crkey : Nat) (prkey : Nat) (rtype : Nat)
  /-- RESERVATION_RELEASE (R423): I/O Reservation Release. -/
  | reservationRelease (slot : Nat) (rrela : Nat) (iekey : Bool) (crkey : Nat) (rtype : Nat)
  /-- PAGES_ALLOCATED (R478): A command waiting in ISN order receives its pool pages. -/
  | pagesAllocated
  /-- PAGES_FREED (R479): A command's pages return to the pool once it has ended and no read copies from them. -/
  | pagesFreed (slot : Nat)
  /-- PIECE_ON_MEDIUM (R453): A piece's record or sectors pass verify and the piece counts as on the medium. -/
  | pieceOnMedium (slot : Nat) (i : Nat) (err : Nat)
  /-- COMPLETION_COMMIT (R453): Every piece is on the medium or delivered and the completion slot is committed once. -/
  | completionCommit (slot : Nat) (failed : Bool)
  /-- COMPLETION_POST (R454): A committed completion entry is posted when its completion queue has room. -/
  | completionPost (p : Nat) (cq : Nat) (head : Nat)
  /-- ORDER_RELEASE (R449): A command waiting on ordering or overlap is released when the earlier command completes or is abandoned. -/
  | orderRelease (slot : Nat)
  /-- FENCE_DURING_EXECUTION (R462): A fence while commands are in flight ends their pieces there with Extent Fenced. -/
  | fenceDuringExecution
  /-- EXTENT_MAP_CHANGE (R442): A map change is written with verify to every unfenced carriage's system area. -/
  | extentMapChange (c : Nat)
  /-- DESTAGE (R271): A record's newest copies are moved home, the index updated and DSEQ advanced. -/
  | destage (c : Nat) (seq : Nat) (bad : List Nat) (us : Nat)
  /-- LANDING_WRITE (R268): A Landing write places its data sectors and then its verified journal record. Piece `i` of the command in `slot`; `fails` are the positions that fail verify, `gap` the free positions passed with fillers before the record. -/
  | landingWrite (slot : Nat) (i : Nat) (fails : List Nat) (gap : Nat)
  /-- REPLAY (R278): The Landing journal is replayed from the checkpoint to rebuild the Landing index. -/
  | replay (c : Nat) (readable : Bool)
  /-- FORMAT_SANITIZE_RESUME (R466): At restore an interrupted Format NVM or Sanitize resumes from its newest progress record. -/
  | formatSanitizeResume
  /-- APST_IDLE_TIMEOUT (R469): A controller's autonomous transition idle time expires and it changes power state. -/
  | apstIdleTimeout (p : Nat)
  /-- NO_READY_CONTROLLER_TIMEOUT (R469): Neither controller ready for 60 s puts the device in PS3. -/
  | noReadyControllerTimeout
  /-- POWER_STATE_EXIT_ON_IO (R470): An I/O command to a controller in PS3 or PS4 returns it to its last operational state. -/
  | powerStateExitOnIo (p : Nat)
  /-- OPERATIONAL_STATE_CHANGE (R632): A transition among PS0–PS2 sets new limits by hardware within 1 ms. -/
  | operationalStateChange
  /-- LOW_POWER_TRANSITION_BEGIN (R633): The always-on island begins an entry to or exit from PS3 or PS4 and interrupts firmware. -/
  | lowPowerTransitionBegin
  /-- PW_PSCMD_GO (R633): PW_PSCMD with GO and STATE equal to TGT completes the transition. `data` is the word that lands. -/
  | pwPscmdGo (data : Nat)
  /-- DOMAIN_POWER_DOWN (R635): A domain switched off first saves its settings to the shadow store. -/
  | domainPowerDown (d : Nat)
  /-- DOMAIN_POWER_UP (R635): A domain powered up has its settings restored before its bridges clear FAR. -/
  | domainPowerUp (d : Nat)
  /-- DM_CTRL_START (R493): START 1 with FROM 0 reads the cart at DM_COACH and the channel runs. -/
  | dmCtrlStart (n : Nat) (byEngine : Bool)
  /-- DM_CTRL_RESUME (R493): START 1 with FROM 1 continues the stopped cart at the first byte not moved. -/
  | dmCtrlResume (n : Nat) (byEngine : Bool)
  /-- DM_CTRL_STOP (R497): Clearing START stops a Running channel with a read-back and a status-1 record, or idles it. -/
  | dmCtrlStop (n : Nat) (byEngine : Bool)
  /-- DM_BELL (R494): A bell sets BELLP on a Running channel or rereads the link of a Parked one. -/
  | dmBell (data : Nat)
  /-- CART_START (R494): The engine reads a cart and checks it, ending with status 4 when it is bad. -/
  | cartStart (n : Nat)
  /-- DMA_BEAT (R492): A 64-byte beat is read from the source and written to the destination. -/
  | dmaBeat (n : Nat)
  /-- CART_END (R494): A cart ends, the link is followed or the coach ends and the channel parks. -/
  | cartEnd (n : Nat)
  /-- DMA_RECORD_WRITE (R498): After the read-back a record is written to the channel's record queue when room exists. -/
  | dmaRecordWrite (n : Nat)
  /-- DMA_BUS_ERROR (R500): A beat ends with status 2 or 3 and every channel is halted. -/
  | dmaBusError (n : Nat) (st : Nat) (a : Nat)
  /-- DMA_HALT_CLEAR (R501): Writing 1 to DM_GSTAT.HALT releases held bells and lets the command engine resume its channels. -/
  | dmaHaltClear
  /-- DM_RQCFG_WRITE (R499): A write of DM_RQCFG on an Idle channel resets its record queue tail and phase. -/
  | dmRqcfgWrite (n : Nat) (data : Nat) (byEngine : Bool)
  /-- DMA_CHANNEL_REINITIALISE (R502): A U or fence of a DMA channel or the engine stops channels and reissues engine moves. -/
  | dmaChannelReinitialise (ch : Option Nat)
  /-- MEMORY_CORRECTABLE_ERROR (R483): A correctable memory error is corrected, written back and added to the bucket. `u` is the unit of the memory: 0x1410, 0x7100, 0x7200, 0x1750 the L2, 0x1710-0x1740 core-local memory, or carriage c by 0xd000 with its SRAM region (R41). -/
  | memoryCorrectableError (u : Nat) (region : Nat)
  /-- MEMORY_UNCORRECTABLE_ERROR (R483): An uncorrectable burst is poisoned and raises class [1] in its die. -/
  | memoryUncorrectableError (a : Nat) (group : Bool)
  /-- BUCKET_LEAK (R486): Each leak interval every non-empty bucket loses 1. -/
  | bucketLeak
  /-- SCRUB (R485): Once per scrub period every far group and near word is read and corrected. -/
  | scrub (errors : List Nat) (bad : List Nat)
  /-- MR4_READ (R481): Every 16 ms each LPDDR4X die's MR4 is read and the refresh rate set. -/
  | mr4Read (die : Nat) (rate : Nat) (hot : Bool)
  /-- OWNERSHIP_VIOLATION (R480): An access to a page not owned by its slot is refused, raising class [6]. -/
  | ownershipViolation (slot : Nat) (a : Nat)
  /-- CORE_RELEASE (R509): A write of CC_CORE.REL releases a core to fetch from CC_BOOT. -/
  | coreRelease (data : Nat)
  /-- CBO_CLEAN (R521): CBO.CLEAN writes back a dirty line and keeps it clean. -/
  | cboClean (k : Nat) (a : Nat)
  /-- CBO_INVAL (R521): CBO.INVAL discards a line without write-back. -/
  | cboInval (k : Nat) (a : Nat)
  /-- CBO_FLUSH (R521): CBO.FLUSH writes back a dirty line and discards it. -/
  | cboFlush (k : Nat) (a : Nat)
  /-- CC_MOP_CLEAN (R523): CC_MOP with OP clean walks a range or ways cleaning lines. -/
  | ccMopClean (data : Nat)
  /-- CC_MOP_INVALIDATE (R523): CC_MOP with OP invalidate walks a range or ways discarding lines. -/
  | ccMopInvalidate (data : Nat)
  /-- CC_MOP_FLUSH (R523): CC_MOP with OP flush walks a range or ways flushing lines. -/
  | ccMopFlush (data : Nat)
  /-- CACHE_OPERATION_DONE (R523): The last write-back of a range or way operation completes and BUSY clears. -/
  | cacheOperationDone
  /-- CC_WLOCK_WRITE (R519): A masked write of CC_WLOCK locks or unlocks ways, freeing Reserved slots of unlocked ways. -/
  | ccWlockWrite (data : Nat)
  /-- L2_MISS_FILL (R515): An L2 miss allocates a miss register and fills an eligible way. -/
  | l2MissFill (k : Nat) (a : Nat) (kind : CoreAccess) (size : Nat) (fill : Bool) (bytes : List Nat) (cycles : Nat)
  /-- L2_UNCORRECTABLE_ERROR (R527): An uncorrectable L2 error discards a clean line or writes back a dirty one poisoned and faults the access. -/
  | l2UncorrectableError (k : Nat) (a : Nat) (kind : CoreAccess) (tag : Bool)
  /-- CORE_ACCESS_FAULT (R513): A core access that cannot complete raises a precise exception. -/
  | coreAccessFault (k : Nat) (a : Nat) (kind : CoreAccess) (size : Nat) (bad : Bool)
  /-- INTERRUPT_SOURCE_CHANGE (R529): A unit interrupt source rises or falls and the routed core's MEIP follows. -/
  | interruptSourceChange (n : Nat) (level : Bool)
  /-- TIMER_COMPARE (R530): CC_MTIME reaches a core's compare value and raises its timer interrupt. -/
  | timerCompare (k : Nat)
  /-- CORE_REINITIALISE (R531): A U of a core resets it, clears its L1 and restarts it at CC_BOOT. -/
  | coreReinitialise (k : Nat)
  /-- L2_RESET_INVALIDATE (R518): At P, H, D or domain 6 power-up the L2, victim cache and miss registers are invalidated. -/
  | l2ResetInvalidate
  /-- KEY_DERIVATION (R538): A key is derived on two CMAC engines and compared. -/
  | keyDerivation (n : Nat) (kgen : Nat) (agree : Bool)
  /-- DATA_UNIT_CIPHER (R541): Both pipelines compute a data unit and it is released when they agree. -/
  | dataUnitCipher (slot : Nat) (i : Nat)
  /-- CIPHER_MISMATCH (R542): A compare mismatch is computed again, and a second mismatch raises class [13]. -/
  | cipherMismatch (slot : Nat) (i : Nat)
  /-- GENERATION_MOVE (R547): A piece that would exceed the usage limit moves the namespace to a new write generation. -/
  | generationMove (n : Nat) (units : Nat)
  /-- RESERVATION_MARK_RAISE (R545): Before USED passes RESV, RESV is raised by 2^20 and the Hall written. -/
  | reservationMarkRaise (n : Nat) (units : Nat)
  /-- HALL_WRITE_DONE (R545): A Hall copy write ends and the Hall change takes effect. -/
  | hallWriteDone (ok : Bool)
  /-- REKEY_START (R550): A queued re-key starts on its carriage with a fixed target generation. -/
  | rekeyStart (c : Nat)
  /-- REKEY_CHUNK (R550): A re-key chunk's record passes verify and the durable pointer advances. `fails` and `gap` as for LANDING_WRITE. -/
  | rekeyChunk (c : Nat) (fails : List Nat) (gap : Nat)
  /-- REKEY_END (R550): After the last chunk the extent takes the target generation. -/
  | rekeyEnd (c : Nat)
  /-- EPOCH_ADVANCE (R553): A namespace's epoch advances, retiring all its earlier keys. -/
  | epochAdvance (n : Nat)
  /-- ROLE_KEY_INSTALL (R539): A Block write of a role key entry unwraps and stores the new key. -/
  | roleKeyInstall (sess : Nat) (custodian : Bool) (first : Nat)
  /-- POWER_LOSS_BANK (R559): 10 µs after a power-loss signal reaches the hub, the ledger snapshot is written as the power-loss bank. -/
  | powerLossBank
  /-- TWIN_PAD (R568): A pad message is passed over in the inbox ring. -/
  | twinPad
  /-- TWIN_HELLO (R573): A Hello is checked and, when valid, the Requester ID is recorded and Confirm sent. -/
  | twinHello (f : TwinFrame) (requester : Nat)
  /-- TWIN_CONFIRM (R573): A Confirm completes pairing or a return to STATE 2. -/
  | twinConfirm (f : TwinFrame)
  /-- TWIN_WRITE_MESSAGE (R576): The second twin applies a Write message as an internal command and acknowledges it. -/
  | twinWriteMessage (f : TwinFrame)
  /-- TWIN_ACK (R576): An Ack or refusal marks mirrored units on the medium or divergent. -/
  | twinAck (f : TwinFrame)
  /-- TWIN_STATE_MESSAGE (R576): A State message applies a namespace operation on the second twin. -/
  | twinStateMessage (f : TwinFrame)
  /-- TWIN_LEDGER_MESSAGE (R576): A Ledger message stores the closed minute's entries as the partner ledger. -/
  | twinLedgerMessage (f : TwinFrame)
  /-- TWIN_CHUNK_MESSAGE (R582): A resilver Chunk is written as one Landing write and acknowledged. -/
  | twinChunkMessage (f : TwinFrame)
  /-- TWIN_UNPAIR_MESSAGE (R584): An Unpair message makes the receiver unpair without sending one. -/
  | twinUnpairMessage (f : TwinFrame)
  /-- TWIN_BEAT (R568): Every 10 ms a twin advances BEAT in its partner's inbox. -/
  | twinBeat
  /-- HELLO_RESEND (R573): A pairing or solo twin writes a Hello into its partner's inbox every 100 ms or 1 s. -/
  | helloResend
  /-- PAIRING_TIMEOUT (R573): Twin Pair without Confirm both ways within 2 s ends with 0xC4. -/
  | pairingTimeout
  /-- PARTNER_LOST (R579): A loss or acknowledge timeout, peer link down or bad message puts the twin in STATE 3. -/
  | partnerLost (cause : Nat)
  /-- UNSETTLED_LIST_LEAVE (R581): An extent leaves the unsettled list 1 s after its last Ack. -/
  | unsettledListLeave (e : Nat)
  /-- STARTUP_HELLO_WAIT_END (R581): At a paired device's start, the 2 s wait for a Hello ends and writes are accepted solo. -/
  | startupHelloWaitEnd
  /-- RESILVER_CHUNK_SEND (R582): The source sends the next resilver chunk of a divergent extent. -/
  | resilverChunkSend (e : Nat)
  /-- FAULT_DETECTED (R588): A leaf detects a fault, latches its class, acts, records and carries out its reaction. -/
  | faultDetected (u : Nat) (k : Nat) (persists : Bool)
  /-- TH_HBEAT_WRITE (R596): A heartbeat key write restarts the window, or is a miss when the key is wrong. -/
  | thHbeatWrite (key : Nat)
  /-- HEARTBEAT_MISS (R596): 100 ms without a correct heartbeat raises class [5] and a device reset. -/
  | heartbeatMiss
  /-- ALIVE_STOP (R597): A stop cause drives ALIVE low 2 ms later and records the cause. -/
  | aliveStop
  /-- TEMPERATURE_READING (R598): Each die's sensor is read once per 1 ms and its zone updated. Dies: 0 hub, 1-4 carriages, 5 motor die; `raw` in 1/8 degree. -/
  | temperatureReading (die : Nat) (raw : Int)
  /-- SENSOR_BROKEN (R599): A diode open or short, or 64 readings off the neighbours' median, breaks a sensor. -/
  | sensorBroken (die : Nat)
  /-- THERMAL_SHUTDOWN_END (R604): TEMP below TRS for 10 s ends the Shutdown and the unit recovers. -/
  | thermalShutdownEnd (die : Nat)
  /-- HARDWARE_TRIP (R606): A die at 125 °C for 100 µs trips and takes its trip action. -/
  | hardwareTrip (die : Nat)
  /-- TRIP_HOLD_UP_END (R606): During a motor-die trip in hold-up, every drive Parked or 200 ms end hold-up and the gates go low. -/
  | tripHoldUpEnd
  /-- TRIP_RECOVERY (R607): A tripped die below 105 °C for 1 s recovers. -/
  | tripRecovery (die : Nat)
  /-- TH_FORCE_WRITE (R594): A write of TH_FORCE forces a die's reading, refused in sealed mode except from source 6. `data` is the word that lands, from a source of R129. -/
  | thForceWrite (die : Nat) (source : Nat) (data : Nat)
  /-- RECORD_RAISED (R617): A unit raises an event record, which is merged or queued, or dropped at a full queue. -/
  | recordRaised (u : Nat) (code : Nat) (severity : Nat) (detail : Nat)
  /-- RECORD_STORE (R617): A queued record is stored in its area by phase and severity. -/
  | recordStore
  /-- RECORDS_LOST (R619): When the queue falls below 32 entries a records-lost record is stored. -/
  | recordsLost
  /-- OPERATING_TIME_SAVE (R611): Once per second operating time is saved to the state block. -/
  | operatingTimeSave
  /-- EV_RSEL_WRITE (R623): A write of EV_RSEL snapshots a store slot into EV_RDATA. -/
  | evRselWrite (data : Nat)
  /-- EV_FWCODE_WRITE (R627): A write of EV_FWCODE raises a firmware record. `data` is the word that lands. -/
  | evFwcodeWrite (data : Nat)
  /-- EV_PSLOT_GO (R622): EV_PSLOT.GO writes EV_PDATA to a progress or bitmap slot. `data` is the word that lands. -/
  | evPslotGo (data : Nat)
  /-- CLEAR (R625): A verified write of 1810:012.0 zeroes the named areas and stores a clear record. -/
  | clear (sess : Nat) (tag : Nat)
  /-- CLEAR_DONE (R625): The zeroing of a clear ends and the clear record is stored. -/
  | clearDone
  /-- POWER_LOSS_FLUSH (R622): On power loss the recorder completes area writes, stores its queue and saves the state block. -/
  | powerLossFlush
  /-- DEVICE_RESET (R637): A Stair 3 trigger stops fetching, ends sectors, retracts and holds domains in reset. -/
  | deviceReset (cause : Nat) (u : Nat)
  /-- DEVICE_RESET_RELEASE (R637): Once every drive is Parked the domains are reset and released, and the D start runs. -/
  | deviceResetRelease
  /-- REINITIALISE_COMPLETE (R144): A unit re-initialise (Stair 2) ends, and the unit leaves Starting with 004 reading 0, or 2 when it failed; a pending unfence then takes effect. -/
  | reinitialiseComplete (u : Nat) (ok : Bool)
  /-- STRAP_PIN_CHANGE (R76): A strap pin changes level after sampling, which updates 1A10:017.0 and sets bit [2] of the strap anomaly entry. -/
  | strapPinChange (live : Nat)
  /-- TAP_CLOCK (R87): A TCK edge advances the IEEE 1149.1 TAP, shifting data and updating instructions, guarded ones included. `still`: the spindle is still. `levels` are the parallel inputs of the 270 boundary cells. -/
  | tapClock (tms : Bool) (tdi : Bool) (still : Bool) (levels : Nat)
  /-- TRST_N_LOW (R87): TRST_N low puts the TAP in Test-Logic-Reset and selects IDCODE. -/
  | trstNLow
  /-- LINKTEST_DONE (R90): The LINKTEST loopback of all die-to-die links ends and loads the 32-bit result register. -/
  | linktestDone (pass : Nat) (flits : Nat)
  /-- HX_PERST_N_RISE (R415): Hx_PERST_N rises, the port's PHY leaves electrical idle and link training begins within 20 ms. -/
  | hxPerstNRise (p : Nat)
  /-- PCIE_LINK_UP (R112): A port's PCIe link finishes training at its negotiated speed and width, and HP_LSTAT shows them. -/
  | pcieLinkUp (p : Nat) (speed : Nat) (width : Nat) (reversed : Bool)
  /-- PLCA_BEACON_SEEN (R168): A PLCA beacon arrives on the segment, and PLCA status returns to following and the transmit queue is released. -/
  | plcaBeaconSeen
  /-- TRANSMIT_OPPORTUNITY (R168): The device's PLCA transmit opportunity arrives and it sends its queued frames up to the burst limit. -/
  | transmitOpportunity
  /-- PAIR_RECORD_WRITE (R583): While MSEQ advances, the pair record is written to the system areas at least once per second. -/
  | pairRecordWrite
  deriving DecidableEq, Repr

end Sys2Proof
end

