-- ==== Sys2Proof/Config.lean ====
section
/-! DEFINITION. What an implementation fixes and what the spec leaves open or takes from another standard: constants without
a body, so that no proof can see their values. -/
namespace Sys2Proof

/-- Free 128-bit random values (R149 challenges, R430 nonces), by draw (log entry 5). -/
opaque Config.random : Nat → Nat

/-- A free value by draw, for the values the spec leaves open (see the assumption log for each use). -/
opaque Config.freeNat : Nat → Nat

/-- Functions of real numbers that the loops use, on exact rationals: the sine and cosine of an angle in turns, the angle in
turns of a vector (sine part first), square root, natural logarithm. No rational function is these; their values are open. -/
opaque Config.sinTurns : Rat → Rat
opaque Config.cosTurns : Rat → Rat
opaque Config.atanTurns : Rat → Rat → Rat
opaque Config.sqrt : Rat → Rat
opaque Config.ln : Rat → Rat
opaque Config.cbrt : Rat → Rat

/-- A quotient of a number by 0, where the spec states a quotient and no value of the divisor. -/
opaque Config.byZero : Rat → Rat

/-- The hard decision of an LLR of 0, which R215 and R221 do not state. -/
opaque Config.llrZero : Bool

/-- The parts of the read channel whose law the spec does not state (log entry 44): the voltage ratio of a gain in dB (no rational
function is it), the filter of R195 on the samples so far (cutoff in Hz, boost in dB, newest first), the tap of the interpolator at a phase,
the tentative decision of the slicer (target, outputs newest first), the gain loop (shift, AT, the two fine gains, |y|), the fine gain a
sector starts with, the criterion of gain at the end of acquisition (AT, mean |y|), the DC loop (fast setting, offset, ADC output), and the
low-passed output, baseline and noise deviation of R209 from the ADC outputs (newest first). -/
opaque Config.dbRatio : Rat → Rat
opaque Config.ctf : Nat → Rat → List Rat → Rat
opaque Config.interpTap : Nat → Nat → Rat
opaque Config.slice : Int × Int × Int × Nat → List Int → Rat
opaque Config.agc : Nat → Nat → Nat × Nat → Rat → Nat × Nat
opaque Config.startGain : Nat
opaque Config.gainReached : Nat → Rat → Bool
opaque Config.dcLoop : Bool → Int → Int → Int
opaque Config.lowPass : List Int → Rat × Rat × Rat

/-- Hold-up gains of R397, mA per mV, for which the spec states no value. -/
opaque Config.khu : Rat
opaque Config.khi : Rat

/-- The observer (R373, R377), whose filter and gains the spec leaves open: the low-pass at 2 kHz of one back-EMF component from its last
output and the present estimate, the phase-locked loop from angle in turns, speed in rpm and phase error; radians as turns. -/
opaque Config.emfFilter : Rat → Rat → Rat
opaque Config.pll : Rat → Rat → Rat → Rat × Rat
opaque Config.radTurns : Rat → Rat

/-- The word of the carriage die's microcode ROM at an address (R284), which the spec does not list. -/
opaque Config.romWord : Nat → Nat

/-- The number that FM_PROG gives a step of a base routine (R301): by OPC and stage; the spec does not state it. -/
opaque Config.romStep : Nat → Nat → Nat

/-- DNR of a status for which the spec states none, by status (R437, log entry 112). -/
opaque Config.dnr : Nat → Bool

/-- The estimate of seek and rotation from head position and wedge (track, head, wedge) to a request's place (track, head, index), whose
figures the spec does not give (R446, log entry 64). -/
opaque Config.accessTime : Nat × Nat × Nat → Option (Nat × Nat × Nat) → Nat

/-- The home bands of the device as manufactured (R438): entry number, carriage, head, first track. -/
opaque Config.factoryBands : List (Nat × Nat × Nat × Nat)

/-- The position numbers of a band, from its first, that the primary defect list slips (R274), rising: from the list's bytes, the head and the
band's first track. The spec does not give the list's layout. -/
opaque Config.bandSlips : List (BitVec 8) → Nat → Nat → List Nat

/-- Track and index, in the system area of a head, of a sector of the carriage pool (R274): the spec does not place it. -/
opaque Config.poolSector : Nat → Nat × Nat × Nat

/-- The fused secrets that the model's keys come from (R535), 256 bits each. -/
opaque Config.mediaRoot : BitVec 256
opaque Config.factoryRoot : BitVec 256
opaque Config.productRoot : BitVec 256

/-- AES-256-GCM (R315-R317, R571) under a key and a 96-bit nonce: byte `i` of its key stream, and the tag of a ciphertext with its additional
data, as the little-endian value of its 16 bytes. -/
opaque Config.gcmStream : BitVec 256 → List (BitVec 8) → Nat → BitVec 8
opaque Config.gcmTag : BitVec 256 → List (BitVec 8) → List (BitVec 8) → List (BitVec 8) → BitVec 128

/-- AES-CMAC with a 256-bit key (R148, R431, R537, R625): the tag of a message, as the little-endian value of its 16 bytes. -/
opaque Config.cmac : BitVec 256 → List (BitVec 8) → BitVec 128

/-- XTS-AES-256 (R540) under Key 1, Key 2 and a data unit sequence number: a permutation of the 4,096-byte blocks. -/
opaque Config.xts : BitVec 256 → BitVec 256 → BitVec 128 → Equiv.Perm (BitVec 32768)

/-- The wrapping permutation of AES Key Wrap (R539) under a 256-bit key, on the 40 bytes of the check value and a role key. -/
opaque Config.keyWrap : BitVec 256 → Equiv.Perm (BitVec 320)

/-- Fused device identifier DID, 64 bits (R410), and its number. -/
opaque Config.fusedId : BitVec 64
def Config.deviceId : Nat := Config.fusedId.toNat

/-- Teldaza's assigned PCI vendor identifier and the die revision, from fuses (R410). -/
opaque Config.vendorId : Nat
opaque Config.dieRevision : Nat

/-- The factory value, by entry key, of an entry whose Default column names one without a number (R653): a number, and the bytes of a
BLOB. -/
opaque Config.factoryNumber : Nat → Nat
opaque Config.factoryBytes : Nat → List (BitVec 8)

/-- The UUID that the subsystem NQN derives from DID, as its characters (R421): the spec does not give the derivation. -/
opaque Config.nqnUuid : List (BitVec 8)

/-- Metadata of a block whose tag sector has never been written (R428), key 262,144 e + b: the spec does not give it. -/
opaque Config.rawTag : Nat → Nat

end Sys2Proof
end

