-- ==== Sys2Proof/Machine/SMap.lean ====
section
/-! DEFINITION. Sparse maps: a list of (key, value) pairs in one canonical form (keys strictly rising, no entry equal to
the default of its key). Memory, the register file and every long table of the block are held so, and equal contents are
equal data. -/
namespace Sys2Proof.Machine

/-- A sparse map from keys to values; an unlisted key reads as the default the reader names. -/
abbrev SMap (β : Type) := List (Nat × β)

/-- The value at `k`; `d` says what an unlisted key reads as. -/
def mget {β : Type} (d : Nat → β) : SMap β → Nat → β
  | [], k => d k
  | (a, v) :: m, k => if a = k then v else mget d m k

/-- Without the entries of `k`. -/
def mdel {β : Type} (m : SMap β) (k : Nat) : SMap β := m.filter (fun p => !(p.1 == k))

/-- Put a pair before the first larger key. -/
def minsert {β : Type} (m : SMap β) (k : Nat) (v : β) : SMap β :=
  match m with
  | [] => [(k, v)]
  | (a, w) :: r => if k < a then (k, v) :: (a, w) :: r else (a, w) :: minsert r k v

/-- Write `v` at `k`, in canonical form: a value equal to the default is not listed. -/
def mset {β : Type} [DecidableEq β] (d : Nat → β) (m : SMap β) (k : Nat) (v : β) : SMap β :=
  if v = d k then mdel m k else minsert (mdel m k) k v

/-- Keys strictly rising. -/
def msorted {β : Type} : SMap β → Bool
  | [] => true
  | [_] => true
  | (a, _) :: (b, w) :: r => decide (a < b) && msorted ((b, w) :: r)

/-- The canonical form: keys strictly rising and no entry equal to its default. -/
def mwf {β : Type} [DecidableEq β] (d : Nat → β) (m : SMap β) : Bool :=
  msorted m && m.all (fun p => !(decide (p.2 = d p.1)))

end Sys2Proof.Machine
end

