-- ==== Sys2Proof/Machine/RegisterTypes.lean ====
section
/-! DEFINITION. What a register table says of a field (R14, R15). -/
namespace Sys2Proof.Machine

/-- The access codes of R14; the posted-write code PW is a mark beside them. -/
inductive Acc where
  | rw | ro | wo | w1c | w1s | wm | rc
  deriving DecidableEq, Repr

/-- The resets of R15. -/
inductive ResetKind where
  /-- Power-on. -/
  | P
  /-- Hot insertion. -/
  | H
  /-- Device reset (Stair 3). -/
  | D
  /-- Unit re-initialise (Stair 2). -/
  | U
  /-- NVMe controller reset. -/
  | C
  /-- PCIe function-level reset. -/
  | F
  /-- PCIe link reset. -/
  | L
  deriving DecidableEq, Repr

/-- A field of a register: the register's key (its byte offset from 0x4000_0000, instance 0) and its highest and lowest
bit. -/
structure Fld where
  key : Nat
  hi : Nat
  lo : Nat
  deriving DecidableEq, Repr

/-- One line of a register table. -/
structure FieldDef where
  fld : Fld
  acc : Acc
  /-- Carries the code PW: written posted (R126). -/
  posted : Bool
  reset : Nat
  letters : List ResetKind
  deriving DecidableEq, Repr

/-- One register: `count` of them, `stride` bytes apart. -/
structure RegDef where
  key : Nat
  count : Nat
  stride : Nat
  fields : List FieldDef
  deriving DecidableEq, Repr

/-- The letter groups that the tables use (R15). -/
def rNone : List ResetKind := []
def rPD : List ResetKind := [.P, .D]
def rPDU : List ResetKind := [.P, .D, .U]
def rPH : List ResetKind := [.P, .H]
def rPHD : List ResetKind := [.P, .H, .D]
def rPHDU : List ResetKind := [.P, .H, .D, .U]
def rPHDFL : List ResetKind := [.P, .H, .D, .F, .L]
def rPHDUCFL : List ResetKind := [.P, .H, .D, .U, .C, .F, .L]

end Sys2Proof.Machine
end

