-- ==== Sys2Proof/Machine/Registers.lean ====
section
/-! DEFINITION. The register tables of the spec, one handle per field (key of the register, high bit, low bit), one key
per register, and per page the list of its registers with access codes, reset values and reset letters (R14, R15, R123).
Written from the tables of each chapter (the rule is named at each register). A key is the byte offset of the register
from 0x4000_0000 (R123) for instance 0. -/
namespace Sys2Proof.Machine

/-- PA_SIF_CMD, 02 R71. -/
def PA_SIF_CMD : Nat := 0xb00100
def PA_SIF_CMD_RD : Fld := ⟨PA_SIF_CMD, 31, 31⟩
def PA_SIF_CMD_HEAD : Fld := ⟨PA_SIF_CMD, 30, 28⟩
def PA_SIF_CMD_ADDR : Fld := ⟨PA_SIF_CMD, 27, 20⟩
def PA_SIF_CMD_DIV : Fld := ⟨PA_SIF_CMD, 19, 18⟩
def PA_SIF_CMD_WDATA : Fld := ⟨PA_SIF_CMD, 15, 0⟩
/-- PA_SIF_STAT, 02 R71. -/
def PA_SIF_STAT : Nat := 0xb00104
def PA_SIF_STAT_ACTIVE : Fld := ⟨PA_SIF_STAT, 31, 31⟩
def PA_SIF_STAT_DROP : Fld := ⟨PA_SIF_STAT, 30, 30⟩
def PA_SIF_STAT_ACK : Fld := ⟨PA_SIF_STAT, 29, 28⟩
def PA_SIF_STAT_RPERR : Fld := ⟨PA_SIF_STAT, 27, 27⟩
def PA_SIF_STAT_RDATA : Fld := ⟨PA_SIF_STAT, 15, 0⟩
/-- PW_BOOT, 03 R115. -/
def PW_BOOT : Nat := 0xe00000
def PW_BOOT_HALT : Fld := ⟨PW_BOOT, 23, 23⟩
def PW_BOOT_RECOV : Fld := ⟨PW_BOOT, 22, 22⟩
def PW_BOOT_MATED : Fld := ⟨PW_BOOT, 21, 21⟩
def PW_BOOT_TCOLD : Fld := ⟨PW_BOOT, 20, 20⟩
def PW_BOOT_SLOT : Fld := ⟨PW_BOOT, 17, 16⟩
def PW_BOOT_FAIL : Fld := ⟨PW_BOOT, 15, 8⟩
def PW_BOOT_STAGE : Fld := ⟨PW_BOOT, 7, 0⟩
/-- MG_BWS, 05 R194. -/
def MG_BWS : Nat := 0x700200
def MG_BWS_STATE : Fld := ⟨MG_BWS, 17, 16⟩
def MG_BWS_OWNER : Fld := ⟨MG_BWS, 15, 0⟩
/-- MG_BWERR, 05 R194. -/
def MG_BWERR : Nat := 0x700220
def MG_BWERR_DROPS : Fld := ⟨MG_BWERR, 31, 16⟩
def MG_BWERR_LEASES : Fld := ⟨MG_BWERR, 15, 0⟩
/-- CH_CTL, 06 R244. -/
def CH_CTL : Nat := 0x800000
def CH_CTL_ENA : Fld := ⟨CH_CTL, 31, 31⟩
def CH_CTL_MODE : Fld := ⟨CH_CTL, 30, 29⟩
def CH_CTL_GTRACK : Fld := ⟨CH_CTL, 28, 28⟩
def CH_CTL_WAVG : Fld := ⟨CH_CTL, 27, 25⟩
/-- CH_STAT, 06 R244. -/
def CH_STAT : Nat := 0x800004
def CH_STAT_ACTIVE : Fld := ⟨CH_STAT, 31, 31⟩
def CH_STAT_AMODE : Fld := ⟨CH_STAT, 29, 28⟩
def CH_STAT_HEAD : Fld := ⟨CH_STAT, 27, 24⟩
def CH_STAT_GROUP : Fld := ⟨CH_STAT, 23, 21⟩
def CH_STAT_LOCK : Fld := ⟨CH_STAT, 20, 20⟩
def CH_STAT_PINNED : Fld := ⟨CH_STAT, 19, 16⟩
def CH_STAT_QUEUE : Fld := ⟨CH_STAT, 15, 12⟩
/-- CH_ZBP, 06 R244. -/
def CH_ZBP : Nat := 0x800010
def CH_ZBP_ZBP : Fld := ⟨CH_ZBP, 23, 0⟩
/-- CH_NBP, 06 R244. -/
def CH_NBP : Nat := 0x800014
def CH_NBP_NBP : Fld := ⟨CH_NBP, 23, 0⟩
/-- CH_WPER, 06 R244. -/
def CH_WPER : Nat := 0x800018
def CH_WPER_WPER : Fld := ⟨CH_WPER, 23, 0⟩
/-- CH_TLOOP, 06 R244. -/
def CH_TLOOP : Nat := 0x800020
def CH_TLOOP_KPSA : Fld := ⟨CH_TLOOP, 31, 28⟩
def CH_TLOOP_KISA : Fld := ⟨CH_TLOOP, 27, 23⟩
def CH_TLOOP_KPST : Fld := ⟨CH_TLOOP, 22, 19⟩
def CH_TLOOP_KIST : Fld := ⟨CH_TLOOP, 18, 14⟩
def CH_TLOOP_FLIM : Fld := ⟨CH_TLOOP, 13, 10⟩
def CH_TLOOP_ACQL : Fld := ⟨CH_TLOOP, 7, 0⟩
/-- CH_TSTAT, 06 R244. -/
def CH_TSTAT : Nat := 0x800024
def CH_TSTAT_LOCK : Fld := ⟨CH_TSTAT, 31, 31⟩
def CH_TSTAT_SLIP : Fld := ⟨CH_TSTAT, 30, 30⟩
def CH_TSTAT_FOFS : Fld := ⟨CH_TSTAT, 15, 0⟩
/-- CH_AGC, 06 R244. -/
def CH_AGC : Nat := 0x800030
def CH_AGC_AT : Fld := ⟨CH_AGC, 31, 22⟩
def CH_AGC_KAA : Fld := ⟨CH_AGC, 21, 18⟩
def CH_AGC_KAT : Fld := ⟨CH_AGC, 17, 14⟩
def CH_AGC_HOLD : Fld := ⟨CH_AGC, 13, 13⟩
/-- CH_FE, 06 R244. -/
def CH_FE : Nat := 0x800040
def CH_FE_LAEN : Fld := ⟨CH_FE, 31, 31⟩
def CH_FE_LBEN : Fld := ⟨CH_FE, 30, 30⟩
def CH_FE_CTFK : Fld := ⟨CH_FE, 29, 26⟩
def CH_FE_BOOST : Fld := ⟨CH_FE, 25, 22⟩
def CH_FE_SATTH : Fld := ⟨CH_FE, 21, 14⟩
/-- CH_TA, 06 R244. -/
def CH_TA : Nat := 0x800060
def CH_TA_TAEN : Fld := ⟨CH_TA, 31, 31⟩
def CH_TA_TATH : Fld := ⟨CH_TA, 30, 23⟩
def CH_TA_TAMIN : Fld := ⟨CH_TA, 22, 16⟩
def CH_TA_TAMRG : Fld := ⟨CH_TA, 15, 8⟩
/-- CH_LDPC, 06 R244. -/
def CH_LDPC : Nat := 0x800100
def CH_LDPC_LI : Fld := ⟨CH_LDPC, 31, 27⟩
def CH_LDPC_GI : Fld := ⟨CH_LDPC, 26, 26⟩
def CH_LDPC_VLI : Fld := ⟨CH_LDPC, 25, 21⟩
def CH_LDPC_OFFS : Fld := ⟨CH_LDPC, 20, 19⟩
def CH_LDPC_STALL : Fld := ⟨CH_LDPC, 18, 15⟩
def CH_LDPC_WTH : Fld := ⟨CH_LDPC, 14, 11⟩
/-- CH_RETRY, 06 R244. -/
def CH_RETRY : Nat := 0x800104
def CH_RETRY_STEPS : Fld := ⟨CH_RETRY, 31, 28⟩
def CH_RETRY_PIN : Fld := ⟨CH_RETRY, 27, 25⟩
/-- CH_DSTAT, 06 R244. -/
def CH_DSTAT : Nat := 0x800108
def CH_DSTAT_RESULT : Fld := ⟨CH_DSTAT, 31, 30⟩
def CH_DSTAT_RSTEP : Fld := ⟨CH_DSTAT, 29, 27⟩
def CH_DSTAT_GLOB : Fld := ⟨CH_DSTAT, 26, 24⟩
def CH_DSTAT_ITER : Fld := ⟨CH_DSTAT, 23, 16⟩
def CH_DSTAT_UNSAT : Fld := ⟨CH_DSTAT, 15, 0⟩
/-- CH_VSTAT, 06 R244. -/
def CH_VSTAT : Nat := 0x80010c
def CH_VSTAT_CONV : Fld := ⟨CH_VSTAT, 31, 31⟩
def CH_VSTAT_VITER : Fld := ⟨CH_VSTAT, 30, 26⟩
def CH_VSTAT_WEAK : Fld := ⟨CH_VSTAT, 25, 16⟩
def CH_VSTAT_RAW : Fld := ⟨CH_VSTAT, 15, 0⟩
/-- CH_ADAPT, 06 R244. -/
def CH_ADAPT : Nat := 0x800140
def CH_ADAPT_PEN : Fld := ⟨CH_ADAPT, 31, 31⟩
def CH_ADAPT_NPEN : Fld := ⟨CH_ADAPT, 30, 30⟩
def CH_ADAPT_VAEN : Fld := ⟨CH_ADAPT, 29, 29⟩
def CH_ADAPT_MUE : Fld := ⟨CH_ADAPT, 28, 24⟩
def CH_ADAPT_MUG : Fld := ⟨CH_ADAPT, 23, 19⟩
def CH_ADAPT_LAM : Fld := ⟨CH_ADAPT, 18, 15⟩
def CH_ADAPT_REVEN : Fld := ⟨CH_ADAPT, 14, 14⟩
def CH_ADAPT_STALE : Fld := ⟨CH_ADAPT, 13, 3⟩
def CH_ADAPT_ACT : Fld := ⟨CH_ADAPT, 2, 2⟩
/-- CH_ASTAT, 06 R244. -/
def CH_ASTAT : Nat := 0x800144
def CH_ASTAT_AREQ : Fld := ⟨CH_ASTAT, 31, 31⟩
def CH_ASTAT_AHEAD : Fld := ⟨CH_ASTAT, 30, 28⟩
def CH_ASTAT_AGRP : Fld := ⟨CH_ASTAT, 27, 25⟩
def CH_ASTAT_REVS : Fld := ⟨CH_ASTAT, 15, 8⟩
/-- CH_AMSE, 06 R244. -/
def CH_AMSE : Nat := 0x800148
def CH_AMSE_MSE : Fld := ⟨CH_AMSE, 15, 0⟩
/-- CH_TADDR, 06 R244. -/
def CH_TADDR : Nat := 0x800200
def CH_TADDR_COMMIT : Fld := ⟨CH_TADDR, 31, 31⟩
def CH_TADDR_SRC : Fld := ⟨CH_TADDR, 30, 30⟩
def CH_TADDR_HEAD : Fld := ⟨CH_TADDR, 24, 22⟩
def CH_TADDR_GRP : Fld := ⟨CH_TADDR, 21, 19⟩
def CH_TADDR_WORD : Fld := ⟨CH_TADDR, 5, 0⟩
/-- CH_TDATA, 06 R244. -/
def CH_TDATA : Nat := 0x800204
def CH_TDATA_DATA : Fld := ⟨CH_TDATA, 31, 0⟩
/-- CH_IRQS, 06 R244. -/
def CH_IRQS : Nat := 0x800800
def CH_IRQS_OTF : Fld := ⟨CH_IRQS, 0, 0⟩
def CH_IRQS_RTRY : Fld := ⟨CH_IRQS, 1, 1⟩
def CH_IRQS_TA : Fld := ⟨CH_IRQS, 2, 2⟩
def CH_IRQS_SAT : Fld := ⟨CH_IRQS, 3, 3⟩
def CH_IRQS_SLIP : Fld := ⟨CH_IRQS, 4, 4⟩
def CH_IRQS_AREQ : Fld := ⟨CH_IRQS, 5, 5⟩
def CH_IRQS_AREV : Fld := ⟨CH_IRQS, 6, 6⟩
def CH_IRQS_PINF : Fld := ⟨CH_IRQS, 7, 7⟩
def CH_IRQS_TERR : Fld := ⟨CH_IRQS, 8, 8⟩
def CH_IRQS_NBPR : Fld := ⟨CH_IRQS, 9, 9⟩
def CH_IRQS_CMT : Fld := ⟨CH_IRQS, 10, 10⟩
/-- CH_IRQE, 06 R244. -/
def CH_IRQE : Nat := 0x800804
def CH_IRQE_OTF : Fld := ⟨CH_IRQE, 0, 0⟩
def CH_IRQE_RTRY : Fld := ⟨CH_IRQE, 1, 1⟩
def CH_IRQE_TA : Fld := ⟨CH_IRQE, 2, 2⟩
def CH_IRQE_SAT : Fld := ⟨CH_IRQE, 3, 3⟩
def CH_IRQE_SLIP : Fld := ⟨CH_IRQE, 4, 4⟩
def CH_IRQE_AREQ : Fld := ⟨CH_IRQE, 5, 5⟩
def CH_IRQE_AREV : Fld := ⟨CH_IRQE, 6, 6⟩
def CH_IRQE_PINF : Fld := ⟨CH_IRQE, 7, 7⟩
def CH_IRQE_TERR : Fld := ⟨CH_IRQE, 8, 8⟩
def CH_IRQE_NBPR : Fld := ⟨CH_IRQE, 9, 9⟩
def CH_IRQE_CMT : Fld := ⟨CH_IRQE, 10, 10⟩
/-- CH_CNT, 06 R244. -/
def CH_CNT : Nat := 0x800900
def CH_CNT_COUNT : Fld := ⟨CH_CNT, 31, 0⟩
/-- CH_HFE0, 06 R244. -/
def CH_HFE0 : Nat := 0x800400
def CH_HFE0_VGAA : Fld := ⟨CH_HFE0, 7, 0⟩
def CH_HFE0_VGAB : Fld := ⟨CH_HFE0, 15, 8⟩
def CH_HFE0_DCA : Fld := ⟨CH_HFE0, 23, 16⟩
def CH_HFE0_DCB : Fld := ⟨CH_HFE0, 31, 24⟩
/-- CH_HFE1, 06 R244. -/
def CH_HFE1 : Nat := 0x800404
def CH_HFE1_MRAA : Fld := ⟨CH_HFE1, 7, 0⟩
def CH_HFE1_MRAB : Fld := ⟨CH_HFE1, 15, 8⟩
/-- CH_HWR, 06 R244. -/
def CH_HWR : Nat := 0x800408
def CH_HWR_SWING : Fld := ⟨CH_HWR, 2, 0⟩
def CH_HWR_PC1 : Fld := ⟨CH_HWR, 8, 4⟩
def CH_HWR_PC2 : Fld := ⟨CH_HWR, 14, 10⟩
/-- FM_SFMT, 07 R282. -/
def FM_SFMT : Nat := 0x900400
def FM_SFMT_PRE : Fld := ⟨FM_SFMT, 31, 28⟩
def FM_SFMT_RSY : Fld := ⟨FM_SFMT, 27, 24⟩
def FM_SFMT_PAD : Fld := ⟨FM_SFMT, 23, 16⟩
/-- FM_MARK, 07 R282. -/
def FM_MARK : Nat := 0x900404
def FM_MARK_W : Fld := ⟨FM_MARK, 31, 25⟩
def FM_MARK_MTH : Fld := ⟨FM_MARK, 24, 17⟩
def FM_MARK_MSTEP : Fld := ⟨FM_MARK, 16, 12⟩
def FM_MARK_MRETRY : Fld := ⟨FM_MARK, 11, 8⟩
/-- FM_VCRIT, 07 R282. -/
def FM_VCRIT : Nat := 0x900408
def FM_VCRIT_RAWMAX : Fld := ⟨FM_VCRIT, 31, 16⟩
def FM_VCRIT_RAWWARN : Fld := ⟨FM_VCRIT, 15, 0⟩
/-- FM_VCRIT2, 07 R282. -/
def FM_VCRIT2 : Nat := 0x90040c
def FM_VCRIT2_WKMAX : Fld := ⟨FM_VCRIT2, 31, 22⟩
def FM_VCRIT2_WRETRY : Fld := ⟨FM_VCRIT2, 21, 18⟩
def FM_VCRIT2_RREV : Fld := ⟨FM_VCRIT2, 17, 14⟩
def FM_VCRIT2_RLTH : Fld := ⟨FM_VCRIT2, 13, 10⟩
/-- FM_GATE, 07 R282. -/
def FM_GATE : Nat := 0x900410
def FM_GATE_HPRE : Fld := ⟨FM_GATE, 31, 24⟩
def FM_GATE_LPRE : Fld := ⟨FM_GATE, 23, 16⟩
def FM_GATE_LPOST : Fld := ⟨FM_GATE, 15, 8⟩
def FM_GATE_WGLEAD : Fld := ⟨FM_GATE, 7, 0⟩
/-- FM_RSTAT, 07 R282. -/
def FM_RSTAT : Nat := 0x900420
def FM_RSTAT_OUT : Fld := ⟨FM_RSTAT, 31, 30⟩
def FM_RSTAT_CAND : Fld := ⟨FM_RSTAT, 29, 28⟩
def FM_RSTAT_SCORE : Fld := ⟨FM_RSTAT, 27, 20⟩
def FM_RSTAT_MOFS : Fld := ⟨FM_RSTAT, 19, 12⟩
def FM_RSTAT_REV : Fld := ⟨FM_RSTAT, 11, 8⟩
/-- FM_WSTAT, 07 R282. -/
def FM_WSTAT : Nat := 0x900424
def FM_WSTAT_OUT : Fld := ⟨FM_WSTAT, 31, 30⟩
def FM_WSTAT_TRY : Fld := ⟨FM_WSTAT, 29, 26⟩
def FM_WSTAT_SPARE : Fld := ⟨FM_WSTAT, 25, 25⟩
/-- FM_LHEAD, 07 R282. -/
def FM_LHEAD : Nat := 0x900440
def FM_LHEAD_VALUE : Fld := ⟨FM_LHEAD, 31, 0⟩
/-- FM_LTAIL, 07 R282. -/
def FM_LTAIL : Nat := 0x900444
def FM_LTAIL_VALUE : Fld := ⟨FM_LTAIL, 31, 0⟩
/-- FM_LSEQL, 07 R282. -/
def FM_LSEQL : Nat := 0x900448
def FM_LSEQL_VALUE : Fld := ⟨FM_LSEQL, 31, 0⟩
/-- FM_LSEQH, 07 R282. -/
def FM_LSEQH : Nat := 0x90044c
def FM_LSEQH_VALUE : Fld := ⟨FM_LSEQH, 31, 0⟩
/-- FM_LDSEQL, 07 R282. -/
def FM_LDSEQL : Nat := 0x900450
def FM_LDSEQL_VALUE : Fld := ⟨FM_LDSEQL, 31, 0⟩
/-- FM_LDSEQH, 07 R282. -/
def FM_LDSEQH : Nat := 0x900454
def FM_LDSEQH_VALUE : Fld := ⟨FM_LDSEQH, 31, 0⟩
/-- FM_DEFS, 07 R282. -/
def FM_DEFS : Nat := 0x900460
def FM_DEFS_GUSED : Fld := ⟨FM_DEFS, 31, 16⟩
def FM_DEFS_POOLFREE : Fld := ⟨FM_DEFS, 15, 0⟩
/-- FM_DEFS2, 07 R282. -/
def FM_DEFS2 : Nat := 0x900464
def FM_DEFS2_RESFREE : Fld := ⟨FM_DEFS2, 31, 24⟩
def FM_DEFS2_LPINS : Fld := ⟨FM_DEFS2, 15, 0⟩
/-- FM_SIRQS, 07 R282. -/
def FM_SIRQS : Nat := 0x900480
def FM_SIRQS_MISS : Fld := ⟨FM_SIRQS, 0, 0⟩
def FM_SIRQS_RFAIL : Fld := ⟨FM_SIRQS, 1, 1⟩
def FM_SIRQS_VFAIL : Fld := ⟨FM_SIRQS, 2, 2⟩
def FM_SIRQS_MARG : Fld := ⟨FM_SIRQS, 3, 3⟩
def FM_SIRQS_REASG : Fld := ⟨FM_SIRQS, 4, 4⟩
def FM_SIRQS_POOLLOW : Fld := ⟨FM_SIRQS, 5, 5⟩
def FM_SIRQS_PFLT : Fld := ⟨FM_SIRQS, 6, 6⟩
def FM_SIRQS_WINH : Fld := ⟨FM_SIRQS, 7, 7⟩
def FM_SIRQS_LLOW : Fld := ⟨FM_SIRQS, 8, 8⟩
def FM_SIRQS_LFULL : Fld := ⟨FM_SIRQS, 9, 9⟩
def FM_SIRQS_MMLIM : Fld := ⟨FM_SIRQS, 10, 10⟩
def FM_SIRQS_REFUSE : Fld := ⟨FM_SIRQS, 11, 11⟩
/-- FM_SIRQE, 07 R282. -/
def FM_SIRQE : Nat := 0x900484
def FM_SIRQE_MISS : Fld := ⟨FM_SIRQE, 0, 0⟩
def FM_SIRQE_RFAIL : Fld := ⟨FM_SIRQE, 1, 1⟩
def FM_SIRQE_VFAIL : Fld := ⟨FM_SIRQE, 2, 2⟩
def FM_SIRQE_MARG : Fld := ⟨FM_SIRQE, 3, 3⟩
def FM_SIRQE_REASG : Fld := ⟨FM_SIRQE, 4, 4⟩
def FM_SIRQE_POOLLOW : Fld := ⟨FM_SIRQE, 5, 5⟩
def FM_SIRQE_PFLT : Fld := ⟨FM_SIRQE, 6, 6⟩
def FM_SIRQE_WINH : Fld := ⟨FM_SIRQE, 7, 7⟩
def FM_SIRQE_LLOW : Fld := ⟨FM_SIRQE, 8, 8⟩
def FM_SIRQE_LFULL : Fld := ⟨FM_SIRQE, 9, 9⟩
def FM_SIRQE_MMLIM : Fld := ⟨FM_SIRQE, 10, 10⟩
def FM_SIRQE_REFUSE : Fld := ⟨FM_SIRQE, 11, 11⟩
/-- FM_SCNT, 07 R282. -/
def FM_SCNT : Nat := 0x900500
def FM_SCNT_COUNT : Fld := ⟨FM_SCNT, 31, 0⟩
/-- PA_FLT, 07 R282. -/
def PA_FLT : Nat := 0xb00110
def PA_FLT_PIN : Fld := ⟨PA_FLT, 31, 31⟩
def PA_FLT_LATCH : Fld := ⟨PA_FLT, 30, 30⟩
def PA_FLT_CODE : Fld := ⟨PA_FLT, 5, 0⟩
/-- PA_HLVL, 07 R282. -/
def PA_HLVL : Nat := 0xb00400
def PA_HLVL_HTRR : Fld := ⟨PA_HLVL, 7, 0⟩
def PA_HLVL_HTRW : Fld := ⟨PA_HLVL, 15, 8⟩
def PA_HLVL_LSRW : Fld := ⟨PA_HLVL, 23, 16⟩
def PA_HLVL_LSRB : Fld := ⟨PA_HLVL, 31, 24⟩
/-- PA_HBIAS, 07 R282. -/
def PA_HBIAS : Nat := 0xb00404
def PA_HBIAS_RBA : Fld := ⟨PA_HBIAS, 7, 0⟩
def PA_HBIAS_RBB : Fld := ⟨PA_HBIAS, 15, 8⟩
def PA_HBIAS_WCUR : Fld := ⟨PA_HBIAS, 23, 16⟩
/-- PA_HSTAT, 07 R282. -/
def PA_HSTAT : Nat := 0xb00408
def PA_HSTAT_SYNC : Fld := ⟨PA_HSTAT, 0, 0⟩
/-- FM_MCTL, 08 R322. -/
def FM_MCTL : Nat := 0x900000
def FM_MCTL_RUN : Fld := ⟨FM_MCTL, 31, 31⟩
/-- FM_MSTAT, 08 R322. -/
def FM_MSTAT : Nat := 0x900004
def FM_MSTAT_IDLE : Fld := ⟨FM_MSTAT, 31, 31⟩
def FM_MSTAT_IACT : Fld := ⟨FM_MSTAT, 30, 30⟩
def FM_MSTAT_ILEV : Fld := ⟨FM_MSTAT, 29, 28⟩
def FM_MSTAT_FHALT : Fld := ⟨FM_MSTAT, 27, 27⟩
def FM_MSTAT_SDEPTH : Fld := ⟨FM_MSTAT, 26, 23⟩
def FM_MSTAT_OVR : Fld := ⟨FM_MSTAT, 22, 22⟩
def FM_MSTAT_PC : Fld := ⟨FM_MSTAT, 13, 0⟩
/-- FM_PROG, 08 R322. -/
def FM_PROG : Nat := 0x900008
def FM_PROG_VALUE : Fld := ⟨FM_PROG, 31, 0⟩
/-- FM_IRET, 08 R322. -/
def FM_IRET : Nat := 0x90000c
def FM_IRET_VALUE : Fld := ⟨FM_IRET, 31, 0⟩
/-- FM_MOUT, 08 R322. -/
def FM_MOUT : Nat := 0x900010
def FM_MOUT_VALUE : Fld := ⟨FM_MOUT, 31, 0⟩
/-- FM_RQW, 08 R322. -/
def FM_RQW : Nat := 0x900020
def FM_RQW_WORD : Fld := ⟨FM_RQW, 31, 0⟩
/-- FM_RQPUSH, 08 R322. -/
def FM_RQPUSH : Nat := 0x900030
def FM_RQPUSH_PUSH : Fld := ⟨FM_RQPUSH, 31, 31⟩
/-- FM_RQSTAT, 08 R322. -/
def FM_RQSTAT : Nat := 0x900034
def FM_RQSTAT_DEPTH : Fld := ⟨FM_RQSTAT, 31, 27⟩
def FM_RQSTAT_RUNNING : Fld := ⟨FM_RQSTAT, 26, 26⟩
def FM_RQSTAT_TAG : Fld := ⟨FM_RQSTAT, 15, 0⟩
/-- FM_RQDONE, 08 R322. -/
def FM_RQDONE : Nat := 0x900038
def FM_RQDONE_STATUS : Fld := ⟨FM_RQDONE, 31, 28⟩
def FM_RQDONE_TAG : Fld := ⟨FM_RQDONE, 15, 0⟩
/-- FM_INT, 08 R322. -/
def FM_INT : Nat := 0x900040
def FM_INT_FWREQ : Fld := ⟨FM_INT, 31, 31⟩
def FM_INT_PEND : Fld := ⟨FM_INT, 3, 0⟩
/-- FM_INTARG, 08 R322. -/
def FM_INTARG : Nat := 0x900044
def FM_INTARG_ARG : Fld := ⟨FM_INTARG, 31, 0⟩
/-- FM_SGT, 08 R322. -/
def FM_SGT : Nat := 0x900050
def FM_SGT_SGTAIL : Fld := ⟨FM_SGT, 31, 24⟩
def FM_SGT_SAMB : Fld := ⟨FM_SGT, 15, 0⟩
/-- FM_BC, 08 R322. -/
def FM_BC : Nat := 0x900054
def FM_BC_WEDGE : Fld := ⟨FM_BC, 31, 22⟩
def FM_BC_BC : Fld := ⟨FM_BC, 15, 0⟩
/-- FM_SQSTAT, 08 R322. -/
def FM_SQSTAT : Nat := 0x900058
def FM_SQSTAT_SELHEAD : Fld := ⟨FM_SQSTAT, 14, 12⟩
def FM_SQSTAT_RUNOPEN : Fld := ⟨FM_SQSTAT, 11, 11⟩
def FM_SQSTAT_VRPT : Fld := ⟨FM_SQSTAT, 10, 8⟩
def FM_SQSTAT_RPTQ : Fld := ⟨FM_SQSTAT, 7, 4⟩
def FM_SQSTAT_SQ : Fld := ⟨FM_SQSTAT, 2, 0⟩
/-- FM_PLADL, 08 R322. -/
def FM_PLADL : Nat := 0x900080
def FM_PLADL_ADDR : Fld := ⟨FM_PLADL, 31, 0⟩
/-- FM_PLADH, 08 R322. -/
def FM_PLADH : Nat := 0x900084
def FM_PLADH_ADDR : Fld := ⟨FM_PLADH, 31, 0⟩
/-- FM_PLOAD, 08 R322. -/
def FM_PLOAD : Nat := 0x900088
def FM_PLOAD_START : Fld := ⟨FM_PLOAD, 31, 31⟩
/-- FM_PSTAT, 08 R322. -/
def FM_PSTAT : Nat := 0x90008c
def FM_PSTAT_STATE : Fld := ⟨FM_PSTAT, 31, 30⟩
def FM_PSTAT_FAIL : Fld := ⟨FM_PSTAT, 3, 0⟩
/-- FM_PVER, 08 R322. -/
def FM_PVER : Nat := 0x900090
def FM_PVER_PVER : Fld := ⟨FM_PVER, 31, 0⟩
/-- FM_BVER, 08 R322. -/
def FM_BVER : Nat := 0x900094
def FM_BVER_BVER : Fld := ⟨FM_BVER, 31, 0⟩
/-- FM_MIRQS, 08 R322. -/
def FM_MIRQS : Nat := 0x9000c0
def FM_MIRQS_USER : Fld := ⟨FM_MIRQS, 7, 0⟩
def FM_MIRQS_DONE : Fld := ⟨FM_MIRQS, 8, 8⟩
def FM_MIRQS_OVR : Fld := ⟨FM_MIRQS, 9, 9⟩
def FM_MIRQS_ILL : Fld := ⟨FM_MIRQS, 10, 10⟩
def FM_MIRQS_PLDONE : Fld := ⟨FM_MIRQS, 11, 11⟩
def FM_MIRQS_PLFAIL : Fld := ⟨FM_MIRQS, 12, 12⟩
def FM_MIRQS_RQDROP : Fld := ⟨FM_MIRQS, 13, 13⟩
def FM_MIRQS_UERR : Fld := ⟨FM_MIRQS, 14, 14⟩
/-- FM_MIRQE, 08 R322. -/
def FM_MIRQE : Nat := 0x9000c4
def FM_MIRQE_USER : Fld := ⟨FM_MIRQE, 7, 0⟩
def FM_MIRQE_DONE : Fld := ⟨FM_MIRQE, 8, 8⟩
def FM_MIRQE_OVR : Fld := ⟨FM_MIRQE, 9, 9⟩
def FM_MIRQE_ILL : Fld := ⟨FM_MIRQE, 10, 10⟩
def FM_MIRQE_PLDONE : Fld := ⟨FM_MIRQE, 11, 11⟩
def FM_MIRQE_PLFAIL : Fld := ⟨FM_MIRQE, 12, 12⟩
def FM_MIRQE_RQDROP : Fld := ⟨FM_MIRQE, 13, 13⟩
def FM_MIRQE_UERR : Fld := ⟨FM_MIRQE, 14, 14⟩
/-- FM_MCNT, 08 R322. -/
def FM_MCNT : Nat := 0x900100
def FM_MCNT_COUNT : Fld := ⟨FM_MCNT, 31, 0⟩
/-- SV_CTL, 09 R369. -/
def SV_CTL : Nat := 0xa00000
def SV_CTL_ENA : Fld := ⟨SV_CTL, 31, 31⟩
def SV_CTL_MAEN : Fld := ⟨SV_CTL, 30, 30⟩
def SV_CTL_RCEN : Fld := ⟨SV_CTL, 29, 29⟩
def SV_CTL_PREDEN : Fld := ⟨SV_CTL, 28, 28⟩
/-- SV_STAT, 09 R369. -/
def SV_STAT : Nat := 0xa00004
def SV_STAT_LOCK : Fld := ⟨SV_STAT, 31, 31⟩
def SV_STAT_STATE : Fld := ⟨SV_STAT, 30, 28⟩
def SV_STAT_ONTRK : Fld := ⟨SV_STAT, 27, 27⟩
def SV_STAT_WUNSAFE : Fld := ⟨SV_STAT, 26, 26⟩
def SV_STAT_HEAD : Fld := ⟨SV_STAT, 25, 23⟩
def SV_STAT_SAT : Fld := ⟨SV_STAT, 22, 22⟩
def SV_STAT_MASAT : Fld := ⟨SV_STAT, 21, 21⟩
def SV_STAT_MISS : Fld := ⟨SV_STAT, 20, 18⟩
/-- SV_SEEK, 09 R369. -/
def SV_SEEK : Nat := 0xa00008
def SV_SEEK_HEAD : Fld := ⟨SV_SEEK, 31, 29⟩
def SV_SEEK_TRACK : Fld := ⟨SV_SEEK, 23, 0⟩
/-- SV_TGT, 09 R369. -/
def SV_TGT : Nat := 0xa0000c
def SV_TGT_HEAD : Fld := ⟨SV_TGT, 31, 29⟩
def SV_TGT_TRACK : Fld := ⟨SV_TGT, 23, 0⟩
/-- SV_POS, 09 R369. -/
def SV_POS : Nat := 0xa00010
def SV_POS_TRACK : Fld := ⟨SV_POS, 23, 0⟩
/-- SV_PES, 09 R369. -/
def SV_PES : Nat := 0xa00014
def SV_PES_EC : Fld := ⟨SV_PES, 15, 0⟩
/-- SV_VEL, 09 R369. -/
def SV_VEL : Nat := 0xa00018
def SV_VEL_VEL : Fld := ⟨SV_VEL, 31, 0⟩
/-- SV_TOFS, 09 R369. -/
def SV_TOFS : Nat := 0xa0001c
def SV_TOFS_TOFS : Fld := ⟨SV_TOFS, 15, 0⟩
/-- SV_LIM, 09 R369. -/
def SV_LIM : Nat := 0xa00020
def SV_LIM_WUTH : Fld := ⟨SV_LIM, 31, 24⟩
def SV_LIM_SETTH : Fld := ⟨SV_LIM, 23, 16⟩
def SV_LIM_NSET : Fld := ⟨SV_LIM, 15, 12⟩
def SV_LIM_HOVTH : Fld := ⟨SV_LIM, 11, 0⟩
/-- SV_VMAX, 09 R369. -/
def SV_VMAX : Nat := 0xa00024
def SV_VMAX_VMAX : Fld := ⟨SV_VMAX, 23, 0⟩
/-- SV_AMAX, 09 R369. -/
def SV_AMAX : Nat := 0xa00028
def SV_AMAX_AMAX : Fld := ⟨SV_AMAX, 23, 0⟩
/-- SV_JMAX, 09 R369. -/
def SV_JMAX : Nat := 0xa0002c
def SV_JMAX_JMAX : Fld := ⟨SV_JMAX, 23, 0⟩
/-- SV_AFS, 09 R369. -/
def SV_AFS : Nat := 0xa00030
def SV_AFS_AFS : Fld := ⟨SV_AFS, 23, 0⟩
/-- SV_MA, 09 R369. -/
def SV_MA : Nat := 0xa00034
def SV_MA_MALIM : Fld := ⟨SV_MA, 15, 0⟩
/-- SV_ROT, 09 R369. -/
def SV_ROT : Nat := 0xa00040
def SV_ROT_PP : Fld := ⟨SV_ROT, 31, 28⟩
/-- SV_SPD, 09 R369. -/
def SV_SPD : Nat := 0xa00044
def SV_SPD_RPM : Fld := ⟨SV_SPD, 31, 16⟩
def SV_SPD_LAM : Fld := ⟨SV_SPD, 9, 0⟩
/-- SV_WPER, 09 R369. -/
def SV_WPER : Nat := 0xa00048
def SV_WPER_WPER : Fld := ⟨SV_WPER, 23, 0⟩
/-- SV_RC, 09 R369. -/
def SV_RC : Nat := 0xa00060
def SV_RC_ARM : Fld := ⟨SV_RC, 31, 31⟩
def SV_RC_KIND : Fld := ⟨SV_RC, 30, 30⟩
def SV_RC_HEAD : Fld := ⟨SV_RC, 29, 27⟩
def SV_RC_ZONE : Fld := ⟨SV_RC, 26, 21⟩
def SV_RC_NR : Fld := ⟨SV_RC, 20, 18⟩
def SV_RC_KSH : Fld := ⟨SV_RC, 17, 13⟩
def SV_RC_LEAD : Fld := ⟨SV_RC, 12, 8⟩
def SV_RC_COMMIT : Fld := ⟨SV_RC, 7, 7⟩
/-- SV_RCSTAT, 09 R369. -/
def SV_RCSTAT : Nat := 0xa00064
def SV_RCSTAT_READY : Fld := ⟨SV_RCSTAT, 31, 31⟩
def SV_RCSTAT_BUSY : Fld := ⟨SV_RCSTAT, 30, 30⟩
def SV_RCSTAT_REVS : Fld := ⟨SV_RCSTAT, 29, 22⟩
/-- SV_CADDR, 09 R369. -/
def SV_CADDR : Nat := 0xa00200
def SV_CADDR_COMMIT : Fld := ⟨SV_CADDR, 31, 31⟩
def SV_CADDR_SRC : Fld := ⟨SV_CADDR, 30, 30⟩
def SV_CADDR_BANK : Fld := ⟨SV_CADDR, 9, 6⟩
def SV_CADDR_WORD : Fld := ⟨SV_CADDR, 5, 0⟩
/-- SV_CDATA, 09 R369. -/
def SV_CDATA : Nat := 0xa00204
def SV_CDATA_DATA : Fld := ⟨SV_CDATA, 31, 0⟩
/-- SV_IRQS, 09 R369. -/
def SV_IRQS : Nat := 0xa00800
def SV_IRQS_LOCKL : Fld := ⟨SV_IRQS, 0, 0⟩
def SV_IRQS_MISS : Fld := ⟨SV_IRQS, 1, 1⟩
def SV_IRQS_WUS : Fld := ⟨SV_IRQS, 2, 2⟩
def SV_IRQS_SKDONE : Fld := ⟨SV_IRQS, 3, 3⟩
def SV_IRQS_SKERR : Fld := ⟨SV_IRQS, 4, 4⟩
def SV_IRQS_SKREF : Fld := ⟨SV_IRQS, 5, 5⟩
def SV_IRQS_SWAP : Fld := ⟨SV_IRQS, 6, 6⟩
def SV_IRQS_CREF : Fld := ⟨SV_IRQS, 7, 7⟩
def SV_IRQS_RCRDY : Fld := ⟨SV_IRQS, 8, 8⟩
def SV_IRQS_RCCMT : Fld := ⟨SV_IRQS, 9, 9⟩
def SV_IRQS_BAND : Fld := ⟨SV_IRQS, 10, 10⟩
def SV_IRQS_RETR : Fld := ⟨SV_IRQS, 11, 11⟩
/-- SV_IRQE, 09 R369. -/
def SV_IRQE : Nat := 0xa00804
def SV_IRQE_LOCKL : Fld := ⟨SV_IRQE, 0, 0⟩
def SV_IRQE_MISS : Fld := ⟨SV_IRQE, 1, 1⟩
def SV_IRQE_WUS : Fld := ⟨SV_IRQE, 2, 2⟩
def SV_IRQE_SKDONE : Fld := ⟨SV_IRQE, 3, 3⟩
def SV_IRQE_SKERR : Fld := ⟨SV_IRQE, 4, 4⟩
def SV_IRQE_SKREF : Fld := ⟨SV_IRQE, 5, 5⟩
def SV_IRQE_SWAP : Fld := ⟨SV_IRQE, 6, 6⟩
def SV_IRQE_CREF : Fld := ⟨SV_IRQE, 7, 7⟩
def SV_IRQE_RCRDY : Fld := ⟨SV_IRQE, 8, 8⟩
def SV_IRQE_RCCMT : Fld := ⟨SV_IRQE, 9, 9⟩
def SV_IRQE_BAND : Fld := ⟨SV_IRQE, 10, 10⟩
def SV_IRQE_RETR : Fld := ⟨SV_IRQE, 11, 11⟩
/-- SV_CNT, 09 R369. -/
def SV_CNT : Nat := 0xa00900
def SV_CNT_COUNT : Fld := ⟨SV_CNT, 31, 0⟩
/-- SV_HEOFS, 09 R369. -/
def SV_HEOFS : Nat := 0xa00400
def SV_HEOFS_VALID : Fld := ⟨SV_HEOFS, 31, 31⟩
def SV_HEOFS_EOFS : Fld := ⟨SV_HEOFS, 15, 0⟩
/-- SV_HGAIN, 09 R369. -/
def SV_HGAIN : Nat := 0xa00404
def SV_HGAIN_GTRIM : Fld := ⟨SV_HGAIN, 15, 0⟩
/-- SV_HBAND0, 09 R369. -/
def SV_HBAND0 : Nat := 0xa00408
def SV_HBAND0_CRLO : Fld := ⟨SV_HBAND0, 15, 0⟩
def SV_HBAND0_CRHI : Fld := ⟨SV_HBAND0, 31, 16⟩
/-- SV_HBAND1, 09 R369. -/
def SV_HBAND1 : Nat := 0xa0040c
def SV_HBAND1_CWLO : Fld := ⟨SV_HBAND1, 15, 0⟩
def SV_HBAND1_CWHI : Fld := ⟨SV_HBAND1, 31, 16⟩
/-- SV_HBAND2, 09 R369. -/
def SV_HBAND2 : Nat := 0xa00410
def SV_HBAND2_LLO : Fld := ⟨SV_HBAND2, 15, 0⟩
def SV_HBAND2_LHI : Fld := ⟨SV_HBAND2, 31, 16⟩
/-- SV_HBLIM, 09 R369. -/
def SV_HBLIM : Nat := 0xa00414
def SV_HBLIM_HMIN : Fld := ⟨SV_HBLIM, 7, 0⟩
def SV_HBLIM_HMAX : Fld := ⟨SV_HBLIM, 15, 8⟩
def SV_HBLIM_LBMIN : Fld := ⟨SV_HBLIM, 23, 16⟩
def SV_HBLIM_LBMAX : Fld := ⟨SV_HBLIM, 31, 24⟩
/-- SV_HBCTL, 09 R369. -/
def SV_HBCTL : Nat := 0xa00418
def SV_HBCTL_RDEN : Fld := ⟨SV_HBCTL, 31, 31⟩
def SV_HBCTL_WREN : Fld := ⟨SV_HBCTL, 30, 30⟩
def SV_HBCTL_LBEN : Fld := ⟨SV_HBCTL, 29, 29⟩
def SV_HBCTL_APPLY : Fld := ⟨SV_HBCTL, 28, 28⟩
def SV_HBCTL_NBS : Fld := ⟨SV_HBCTL, 27, 24⟩
def SV_HBCTL_PHTRW : Fld := ⟨SV_HBCTL, 23, 16⟩
def SV_HBCTL_PLSRB : Fld := ⟨SV_HBCTL, 15, 8⟩
def SV_HBCTL_PWV : Fld := ⟨SV_HBCTL, 1, 1⟩
def SV_HBCTL_PLV : Fld := ⟨SV_HBCTL, 0, 0⟩
/-- SV_HCLR, 09 R369. -/
def SV_HCLR : Nat := 0xa0041c
def SV_HCLR_CLR : Fld := ⟨SV_HCLR, 15, 0⟩
/-- SP_CMD, 10 R406. -/
def SP_CMD : Nat := 0xc00000
def SP_CMD_CMD : Fld := ⟨SP_CMD, 31, 30⟩
/-- SP_CTL, 10 R406. -/
def SP_CTL : Nat := 0xc00004
def SP_CTL_GOV : Fld := ⟨SP_CTL, 31, 31⟩
def SP_CTL_WSRC : Fld := ⟨SP_CTL, 30, 28⟩
def SP_CTL_WFBEN : Fld := ⟨SP_CTL, 27, 27⟩
/-- SP_STAT, 10 R406. -/
def SP_STAT : Nat := 0xc00008
def SP_STAT_STATE : Fld := ⟨SP_STAT, 31, 28⟩
def SP_STAT_CSRC : Fld := ⟨SP_STAT, 27, 26⟩
def SP_STAT_DIR : Fld := ⟨SP_STAT, 25, 25⟩
def SP_STAT_VCLAMP : Fld := ⟨SP_STAT, 24, 24⟩
def SP_STAT_FW : Fld := ⟨SP_STAT, 23, 23⟩
def SP_STAT_WCAR : Fld := ⟨SP_STAT, 22, 20⟩
def SP_STAT_ATTEMPT : Fld := ⟨SP_STAT, 19, 16⟩
def SP_STAT_CONF : Fld := ⟨SP_STAT, 15, 8⟩
/-- SP_TGT, 10 R406. -/
def SP_TGT : Nat := 0xc00010
def SP_TGT_RPM : Fld := ⟨SP_TGT, 15, 0⟩
/-- SP_SPD, 10 R406. -/
def SP_SPD : Nat := 0xc00014
def SP_SPD_REF : Fld := ⟨SP_SPD, 31, 16⟩
def SP_SPD_RPM : Fld := ⟨SP_SPD, 15, 0⟩
/-- SP_GLIM, 10 R406. -/
def SP_GLIM : Nat := 0xc00018
def SP_GLIM_CEIL : Fld := ⟨SP_GLIM, 31, 16⟩
def SP_GLIM_FLOOR : Fld := ⟨SP_GLIM, 15, 0⟩
/-- SP_RATE, 10 R406. -/
def SP_RATE : Nat := 0xc0001c
def SP_RATE_GRATE : Fld := ⟨SP_RATE, 31, 16⟩
def SP_RATE_BRATE : Fld := ⟨SP_RATE, 15, 0⟩
/-- SP_GOV, 10 R406. -/
def SP_GOV : Nat := 0xc00020
def SP_GOV_UHI : Fld := ⟨SP_GOV, 31, 25⟩
def SP_GOV_ULO : Fld := ⟨SP_GOV, 24, 18⟩
def SP_GOV_DWELL : Fld := ⟨SP_GOV, 17, 10⟩
def SP_GOV_STEPUP : Fld := ⟨SP_GOV, 9, 5⟩
def SP_GOV_STEPDN : Fld := ⟨SP_GOV, 4, 0⟩
/-- SP_LIM, 10 R406. -/
def SP_LIM : Nat := 0xc00024
def SP_LIM_MMAX : Fld := ⟨SP_LIM, 31, 24⟩
def SP_LIM_FWTH : Fld := ⟨SP_LIM, 23, 16⟩
def SP_LIM_IMAX : Fld := ⟨SP_LIM, 15, 0⟩
/-- SP_CLG, 10 R406. -/
def SP_CLG : Nat := 0xc00028
def SP_CLG_KPC : Fld := ⟨SP_CLG, 31, 16⟩
def SP_CLG_KIC : Fld := ⟨SP_CLG, 15, 0⟩
/-- SP_SLG, 10 R406. -/
def SP_SLG : Nat := 0xc0002c
def SP_SLG_KPW : Fld := ⟨SP_SLG, 31, 16⟩
def SP_SLG_KIW : Fld := ⟨SP_SLG, 15, 0⟩
/-- SP_OBS, 10 R406. -/
def SP_OBS : Nat := 0xc00030
def SP_OBS_CLOCK : Fld := ⟨SP_OBS, 31, 24⟩
def SP_OBS_CLOST : Fld := ⟨SP_OBS, 23, 16⟩
/-- SP_ECAL, 10 R406. -/
def SP_ECAL : Nat := 0xc00040
def SP_ECAL_START : Fld := ⟨SP_ECAL, 31, 31⟩
def SP_ECAL_DONE : Fld := ⟨SP_ECAL, 30, 30⟩
def SP_ECAL_FAIL : Fld := ⟨SP_ECAL, 29, 29⟩
def SP_ECAL_COUNT : Fld := ⟨SP_ECAL, 28, 19⟩
def SP_ECAL_EOFS : Fld := ⟨SP_ECAL, 15, 0⟩
/-- SP_IRQS, 10 R406. -/
def SP_IRQS : Nat := 0xc00080
def SP_IRQS_ATSPD : Fld := ⟨SP_IRQS, 0, 0⟩
def SP_IRQS_LOCK : Fld := ⟨SP_IRQS, 1, 1⟩
def SP_IRQS_OLOST : Fld := ⟨SP_IRQS, 2, 2⟩
def SP_IRQS_WSW : Fld := ⟨SP_IRQS, 3, 3⟩
def SP_IRQS_RECATCH : Fld := ⟨SP_IRQS, 4, 4⟩
def SP_IRQS_STFAIL : Fld := ⟨SP_IRQS, 5, 5⟩
def SP_IRQS_VCLAMP : Fld := ⟨SP_IRQS, 6, 6⟩
def SP_IRQS_PLOSS : Fld := ⟨SP_IRQS, 7, 7⟩
def SP_IRQS_PWRBACK : Fld := ⟨SP_IRQS, 8, 8⟩
def SP_IRQS_ECAL : Fld := ⟨SP_IRQS, 9, 9⟩
def SP_IRQS_OCUR : Fld := ⟨SP_IRQS, 10, 10⟩
def SP_IRQS_CREF : Fld := ⟨SP_IRQS, 11, 11⟩
/-- SP_IRQE, 10 R406. -/
def SP_IRQE : Nat := 0xc00084
def SP_IRQE_ATSPD : Fld := ⟨SP_IRQE, 0, 0⟩
def SP_IRQE_LOCK : Fld := ⟨SP_IRQE, 1, 1⟩
def SP_IRQE_OLOST : Fld := ⟨SP_IRQE, 2, 2⟩
def SP_IRQE_WSW : Fld := ⟨SP_IRQE, 3, 3⟩
def SP_IRQE_RECATCH : Fld := ⟨SP_IRQE, 4, 4⟩
def SP_IRQE_STFAIL : Fld := ⟨SP_IRQE, 5, 5⟩
def SP_IRQE_VCLAMP : Fld := ⟨SP_IRQE, 6, 6⟩
def SP_IRQE_PLOSS : Fld := ⟨SP_IRQE, 7, 7⟩
def SP_IRQE_PWRBACK : Fld := ⟨SP_IRQE, 8, 8⟩
def SP_IRQE_ECAL : Fld := ⟨SP_IRQE, 9, 9⟩
def SP_IRQE_OCUR : Fld := ⟨SP_IRQE, 10, 10⟩
def SP_IRQE_CREF : Fld := ⟨SP_IRQE, 11, 11⟩
/-- SP_CNT, 10 R406. -/
def SP_CNT : Nat := 0xc00100
def SP_CNT_COUNT : Fld := ⟨SP_CNT, 31, 0⟩
/-- SP_VBUS, 10 R406. -/
def SP_VBUS : Nat := 0xc00300
def SP_VBUS_V12 : Fld := ⟨SP_VBUS, 31, 16⟩
def SP_VBUS_V5 : Fld := ⟨SP_VBUS, 15, 0⟩
/-- SP_PLTH, 10 R406. -/
def SP_PLTH : Nat := 0xc00304
def SP_PLTH_PL12 : Fld := ⟨SP_PLTH, 31, 16⟩
def SP_PLTH_PL5 : Fld := ⟨SP_PLTH, 15, 0⟩
/-- SP_HU, 10 R406. -/
def SP_HU : Nat := 0xc00308
def SP_HU_VHU : Fld := ⟨SP_HU, 31, 16⟩
def SP_HU_VBRK : Fld := ⟨SP_HU, 15, 0⟩
/-- SP_PSTAT, 10 R406. -/
def SP_PSTAT : Nat := 0xc0030c
def SP_PSTAT_PLOSS : Fld := ⟨SP_PSTAT, 31, 31⟩
def SP_PSTAT_HU : Fld := ⟨SP_PSTAT, 30, 30⟩
def SP_PSTAT_CAUSE : Fld := ⟨SP_PSTAT, 29, 28⟩
def SP_PSTAT_MINV : Fld := ⟨SP_PSTAT, 15, 0⟩
/-- AC_CMD, 10 R406. -/
def AC_CMD : Nat := 0xd00000
def AC_CMD_CMD : Fld := ⟨AC_CMD, 31, 30⟩
/-- AC_STAT, 10 R406. -/
def AC_STAT : Nat := 0xd00004
def AC_STAT_STATE : Fld := ⟨AC_STAT, 31, 29⟩
def AC_STAT_LEAVING : Fld := ⟨AC_STAT, 28, 28⟩
def AC_STAT_IMEAS : Fld := ⟨AC_STAT, 15, 0⟩
/-- AC_PROF, 10 R406. -/
def AC_PROF : Nat := 0xd00008
def AC_PROF_ILOAD : Fld := ⟨AC_PROF, 31, 24⟩
def AC_PROF_IRET : Fld := ⟨AC_PROF, 23, 16⟩
def AC_PROF_IPARK : Fld := ⟨AC_PROF, 15, 8⟩
def AC_PROF_IUNL : Fld := ⟨AC_PROF, 7, 0⟩
/-- AC_TIME, 10 R406. -/
def AC_TIME : Nat := 0xd0000c
def AC_TIME_TLD1 : Fld := ⟨AC_TIME, 31, 24⟩
def AC_TIME_TLD2 : Fld := ⟨AC_TIME, 23, 16⟩
def AC_TIME_TRET1 : Fld := ⟨AC_TIME, 15, 8⟩
def AC_TIME_TPARK : Fld := ⟨AC_TIME, 7, 0⟩
/-- AC_CAL, 10 R406. -/
def AC_CAL : Nat := 0xd00010
def AC_CAL_VOFS : Fld := ⟨AC_CAL, 31, 16⟩
def AC_CAL_IFS : Fld := ⟨AC_CAL, 15, 0⟩
/-- AC_IRQS, 10 R406. -/
def AC_IRQS : Nat := 0xd00080
def AC_IRQS_LOADED : Fld := ⟨AC_IRQS, 0, 0⟩
def AC_IRQS_LDFAIL : Fld := ⟨AC_IRQS, 1, 1⟩
def AC_IRQS_PARKED : Fld := ⟨AC_IRQS, 2, 2⟩
def AC_IRQS_RETR : Fld := ⟨AC_IRQS, 3, 3⟩
def AC_IRQS_SBTO : Fld := ⟨AC_IRQS, 4, 4⟩
def AC_IRQS_IMIS : Fld := ⟨AC_IRQS, 5, 5⟩
/-- AC_IRQE, 10 R406. -/
def AC_IRQE : Nat := 0xd00084
def AC_IRQE_LOADED : Fld := ⟨AC_IRQE, 0, 0⟩
def AC_IRQE_LDFAIL : Fld := ⟨AC_IRQE, 1, 1⟩
def AC_IRQE_PARKED : Fld := ⟨AC_IRQE, 2, 2⟩
def AC_IRQE_RETR : Fld := ⟨AC_IRQE, 3, 3⟩
def AC_IRQE_SBTO : Fld := ⟨AC_IRQE, 4, 4⟩
def AC_IRQE_IMIS : Fld := ⟨AC_IRQE, 5, 5⟩
/-- AC_CNT, 10 R406. -/
def AC_CNT : Nat := 0xd00100
def AC_CNT_COUNT : Fld := ⟨AC_CNT, 31, 0⟩
/-- HP_LSTAT, 11 R420. -/
def HP_LSTAT : Nat := 0x100000
def HP_LSTAT_SPEED : Fld := ⟨HP_LSTAT, 31, 29⟩
def HP_LSTAT_WIDTH : Fld := ⟨HP_LSTAT, 28, 27⟩
def HP_LSTAT_REV : Fld := ⟨HP_LSTAT, 26, 26⟩
def HP_LSTAT_LDOWNS : Fld := ⟨HP_LSTAT, 15, 0⟩
/-- HP_MBCTL, 11 R420. -/
def HP_MBCTL : Nat := 0x100100
def HP_MBCTL_GO : Fld := ⟨HP_MBCTL, 31, 31⟩
def HP_MBCTL_BUSY : Fld := ⟨HP_MBCTL, 30, 30⟩
def HP_MBCTL_DONE : Fld := ⟨HP_MBCTL, 29, 29⟩
def HP_MBCTL_OVR : Fld := ⟨HP_MBCTL, 28, 28⟩
def HP_MBCTL_MALF : Fld := ⟨HP_MBCTL, 27, 27⟩
def HP_MBCTL_IEN : Fld := ⟨HP_MBCTL, 26, 26⟩
/-- HP_NRBL, 11 R420. -/
def HP_NRBL : Nat := 0x100110
def HP_NRBL_BASE : Fld := ⟨HP_NRBL, 31, 0⟩
/-- HP_NRBH, 11 R420. -/
def HP_NRBH : Nat := 0x100114
def HP_NRBH_BASE : Fld := ⟨HP_NRBH, 31, 0⟩
/-- HP_NRCFG, 11 R420. -/
def HP_NRCFG : Nat := 0x100118
def HP_NRCFG_ENA : Fld := ⟨HP_NRCFG, 31, 31⟩
def HP_NRCFG_IEN : Fld := ⟨HP_NRCFG, 30, 30⟩
def HP_NRCFG_NRSZ : Fld := ⟨HP_NRCFG, 3, 0⟩
/-- HP_NRHEAD, 11 R420. -/
def HP_NRHEAD : Nat := 0x10011c
def HP_NRHEAD_HEAD : Fld := ⟨HP_NRHEAD, 11, 0⟩
/-- HP_NRTAIL, 11 R420. -/
def HP_NRTAIL : Nat := 0x100120
def HP_NRTAIL_TAIL : Fld := ⟨HP_NRTAIL, 11, 0⟩
/-- HP_MBREQ, 11 R420. -/
def HP_MBREQ : Nat := 0x100200
def HP_MBREQ_REQ : Fld := ⟨HP_MBREQ, 31, 0⟩
/-- HP_MBRSP, 11 R420. -/
def HP_MBRSP : Nat := 0x100400
def HP_MBRSP_RSP : Fld := ⟨HP_MBRSP, 31, 0⟩
/-- HQ_STAT, 12 R472. -/
def HQ_STAT : Nat := 0x000000
def HQ_STAT_FETCH : Fld := ⟨HQ_STAT, 31, 31⟩
def HQ_STAT_SANI : Fld := ⟨HQ_STAT, 30, 30⟩
def HQ_STAT_FMT : Fld := ⟨HQ_STAT, 29, 29⟩
def HQ_STAT_INFL : Fld := ⟨HQ_STAT, 28, 16⟩
def HQ_STAT_FENCED : Fld := ⟨HQ_STAT, 15, 12⟩
def HQ_STAT_LWAIT : Fld := ⟨HQ_STAT, 11, 8⟩
/-- BM_CFG, 13 R504. -/
def BM_CFG : Nat := 0x200000
def BM_CFG_SCRUBH : Fld := ⟨BM_CFG, 15, 0⟩
/-- BM_BKCFG, 13 R504. -/
def BM_BKCFG : Nat := 0x200004
def BM_BKCFG_LEAK : Fld := ⟨BM_BKCFG, 15, 0⟩
def BM_BKCFG_DEPTH : Fld := ⟨BM_BKCFG, 31, 24⟩
/-- BM_BKT, 13 R504. -/
def BM_BKT : Nat := 0x200008
def BM_BKT_NEAR : Fld := ⟨BM_BKT, 7, 0⟩
def BM_BKT_DIE0 : Fld := ⟨BM_BKT, 15, 8⟩
def BM_BKT_DIE1 : Fld := ⟨BM_BKT, 23, 16⟩
/-- BM_CECNT, 13 R504. -/
def BM_CECNT : Nat := 0x200010
def BM_CECNT_COUNT : Fld := ⟨BM_CECNT, 31, 0⟩
/-- BM_UECNT, 13 R504. -/
def BM_UECNT : Nat := 0x20001c
def BM_UECNT_NEAR : Fld := ⟨BM_UECNT, 15, 0⟩
def BM_UECNT_FAR : Fld := ⟨BM_UECNT, 31, 16⟩
/-- BM_UEADDRL, 13 R504. -/
def BM_UEADDRL : Nat := 0x200020
def BM_UEADDRL_ADDR : Fld := ⟨BM_UEADDRL, 31, 0⟩
/-- BM_UEADDRH, 13 R504. -/
def BM_UEADDRH : Nat := 0x200024
def BM_UEADDRH_ADDR : Fld := ⟨BM_UEADDRH, 31, 0⟩
/-- BM_POOL, 13 R504. -/
def BM_POOL : Nat := 0x200030
def BM_POOL_FREE : Fld := ⟨BM_POOL, 18, 0⟩
/-- BM_IRQS, 13 R504. -/
def BM_IRQS : Nat := 0x200080
def BM_IRQS_CEOVF : Fld := ⟨BM_IRQS, 0, 0⟩
def BM_IRQS_UE : Fld := ⟨BM_IRQS, 1, 1⟩
def BM_IRQS_POOLW : Fld := ⟨BM_IRQS, 2, 2⟩
def BM_IRQS_OWN : Fld := ⟨BM_IRQS, 3, 3⟩
def BM_IRQS_LIDXF : Fld := ⟨BM_IRQS, 4, 4⟩
/-- BM_IRQE, 13 R504. -/
def BM_IRQE : Nat := 0x200084
def BM_IRQE_ENA : Fld := ⟨BM_IRQE, 4, 0⟩
/-- DM_CTRL, 13 R505. -/
def DM_CTRL : Nat := 0x300000
def DM_CTRL_START : Fld := ⟨DM_CTRL, 31, 31⟩
def DM_CTRL_FROM : Fld := ⟨DM_CTRL, 30, 30⟩
/-- DM_STAT, 13 R505. -/
def DM_STAT : Nat := 0x300004
def DM_STAT_STATE : Fld := ⟨DM_STAT, 31, 29⟩
def DM_STAT_BELLP : Fld := ⟨DM_STAT, 28, 28⟩
def DM_STAT_RQF : Fld := ⟨DM_STAT, 27, 27⟩
def DM_STAT_LSTAT : Fld := ⟨DM_STAT, 26, 24⟩
/-- DM_COACHL, 13 R505. -/
def DM_COACHL : Nat := 0x300008
def DM_COACHL_ADDR : Fld := ⟨DM_COACHL, 31, 0⟩
/-- DM_COACHH, 13 R505. -/
def DM_COACHH : Nat := 0x30000c
def DM_COACHH_ADDR : Fld := ⟨DM_COACHH, 31, 0⟩
/-- DM_CURL, 13 R505. -/
def DM_CURL : Nat := 0x300010
def DM_CURL_ADDR : Fld := ⟨DM_CURL, 31, 0⟩
/-- DM_CURH, 13 R505. -/
def DM_CURH : Nat := 0x300014
def DM_CURH_ADDR : Fld := ⟨DM_CURH, 31, 0⟩
/-- DM_CNT, 13 R505. -/
def DM_CNT : Nat := 0x300018
def DM_CNT_CNT : Fld := ⟨DM_CNT, 24, 0⟩
/-- DM_IDX, 13 R505. -/
def DM_IDX : Nat := 0x30001c
def DM_IDX_IDX : Fld := ⟨DM_IDX, 16, 0⟩
/-- DM_RQBL, 13 R505. -/
def DM_RQBL : Nat := 0x300020
def DM_RQBL_BASE : Fld := ⟨DM_RQBL, 31, 0⟩
/-- DM_RQBH, 13 R505. -/
def DM_RQBH : Nat := 0x300024
def DM_RQBH_BASE : Fld := ⟨DM_RQBH, 31, 0⟩
/-- DM_RQCFG, 13 R505. -/
def DM_RQCFG : Nat := 0x300028
def DM_RQCFG_RQSZ : Fld := ⟨DM_RQCFG, 3, 0⟩
/-- DM_RQHEAD, 13 R505. -/
def DM_RQHEAD : Nat := 0x30002c
def DM_RQHEAD_HEAD : Fld := ⟨DM_RQHEAD, 11, 0⟩
/-- DM_RQTAIL, 13 R505. -/
def DM_RQTAIL : Nat := 0x300030
def DM_RQTAIL_TAIL : Fld := ⟨DM_RQTAIL, 11, 0⟩
/-- DM_LASTL, 13 R505. -/
def DM_LASTL : Nat := 0x300034
def DM_LASTL_ADDR : Fld := ⟨DM_LASTL, 31, 0⟩
/-- DM_LASTH, 13 R505. -/
def DM_LASTH : Nat := 0x300038
def DM_LASTH_ADDR : Fld := ⟨DM_LASTH, 31, 0⟩
/-- DM_BELL, 13 R505. -/
def DM_BELL : Nat := 0x300800
def DM_BELL_RING : Fld := ⟨DM_BELL, 31, 0⟩
/-- DM_GSTAT, 13 R505. -/
def DM_GSTAT : Nat := 0x300804
def DM_GSTAT_HALT : Fld := ⟨DM_GSTAT, 31, 31⟩
def DM_GSTAT_SREF : Fld := ⟨DM_GSTAT, 30, 30⟩
def DM_GSTAT_ECH : Fld := ⟨DM_GSTAT, 20, 16⟩
def DM_GSTAT_ESTAT : Fld := ⟨DM_GSTAT, 10, 8⟩
/-- DM_EADDRL, 13 R505. -/
def DM_EADDRL : Nat := 0x300808
def DM_EADDRL_ADDR : Fld := ⟨DM_EADDRL, 31, 0⟩
/-- DM_EADDRH, 13 R505. -/
def DM_EADDRH : Nat := 0x30080c
def DM_EADDRH_ADDR : Fld := ⟨DM_EADDRH, 31, 0⟩
/-- DM_OWN, 13 R505. -/
def DM_OWN : Nat := 0x300810
def DM_OWN_CE : Fld := ⟨DM_OWN, 31, 0⟩
/-- DM_IRQS, 13 R505. -/
def DM_IRQS : Nat := 0x300820
def DM_IRQS_CH : Fld := ⟨DM_IRQS, 31, 0⟩
/-- DM_IRQE, 13 R505. -/
def DM_IRQE : Nat := 0x300824
def DM_IRQE_ENA : Fld := ⟨DM_IRQE, 31, 0⟩
/-- DM_GIRQE, 13 R505. -/
def DM_GIRQE : Nat := 0x300828
def DM_GIRQE_HALTE : Fld := ⟨DM_GIRQE, 0, 0⟩
/-- CC_CORE, 14 R533. -/
def CC_CORE : Nat := 0x500000
def CC_CORE_REL : Fld := ⟨CC_CORE, 3, 0⟩
/-- CC_BOOTL, 14 R533. -/
def CC_BOOTL : Nat := 0x500008
def CC_BOOTL_ADDR : Fld := ⟨CC_BOOTL, 31, 0⟩
/-- CC_BOOTH, 14 R533. -/
def CC_BOOTH : Nat := 0x50000c
def CC_BOOTH_ADDR : Fld := ⟨CC_BOOTH, 31, 0⟩
/-- CC_WALLOC, 14 R533. -/
def CC_WALLOC : Nat := 0x500010
def CC_WALLOC_MASK : Fld := ⟨CC_WALLOC, 15, 0⟩
/-- CC_WLOCK, 14 R533. -/
def CC_WLOCK : Nat := 0x500020
def CC_WLOCK_LOCK : Fld := ⟨CC_WLOCK, 15, 0⟩
/-- CC_MOP, 14 R533. -/
def CC_MOP : Nat := 0x500030
def CC_MOP_OP : Fld := ⟨CC_MOP, 31, 30⟩
def CC_MOP_SCOPE : Fld := ⟨CC_MOP, 29, 29⟩
def CC_MOP_WAYS : Fld := ⟨CC_MOP, 15, 0⟩
/-- CC_MSTAT, 14 R533. -/
def CC_MSTAT : Nat := 0x500034
def CC_MSTAT_BUSY : Fld := ⟨CC_MSTAT, 31, 31⟩
def CC_MSTAT_REF : Fld := ⟨CC_MSTAT, 30, 30⟩
/-- CC_MSTARTL, 14 R533. -/
def CC_MSTARTL : Nat := 0x500038
def CC_MSTARTL_ADDR : Fld := ⟨CC_MSTARTL, 31, 0⟩
/-- CC_MSTARTH, 14 R533. -/
def CC_MSTARTH : Nat := 0x50003c
def CC_MSTARTH_ADDR : Fld := ⟨CC_MSTARTH, 31, 0⟩
/-- CC_MENDL, 14 R533. -/
def CC_MENDL : Nat := 0x500040
def CC_MENDL_ADDR : Fld := ⟨CC_MENDL, 31, 0⟩
/-- CC_MENDH, 14 R533. -/
def CC_MENDH : Nat := 0x500044
def CC_MENDH_ADDR : Fld := ⟨CC_MENDH, 31, 0⟩
/-- CC_L2STAT, 14 R533. -/
def CC_L2STAT : Nat := 0x500050
def CC_L2STAT_MSHR : Fld := ⟨CC_L2STAT, 29, 24⟩
def CC_L2STAT_VICT : Fld := ⟨CC_L2STAT, 20, 16⟩
/-- CC_CECNT, 14 R533. -/
def CC_CECNT : Nat := 0x500054
def CC_CECNT_COUNT : Fld := ⟨CC_CECNT, 31, 0⟩
/-- CC_UEADDRL, 14 R533. -/
def CC_UEADDRL : Nat := 0x500058
def CC_UEADDRL_ADDR : Fld := ⟨CC_UEADDRL, 31, 0⟩
/-- CC_UEADDRH, 14 R533. -/
def CC_UEADDRH : Nat := 0x50005c
def CC_UEADDRH_ADDR : Fld := ⟨CC_UEADDRH, 31, 0⟩
/-- CC_STALL, 14 R533. -/
def CC_STALL : Nat := 0x500060
def CC_STALL_COUNT : Fld := ⟨CC_STALL, 31, 0⟩
/-- CC_IRT, 14 R533. -/
def CC_IRT : Nat := 0x500100
def CC_IRT_ENA : Fld := ⟨CC_IRT, 31, 31⟩
def CC_IRT_CORE : Fld := ⟨CC_IRT, 1, 0⟩
/-- CC_IPEND, 14 R533. -/
def CC_IPEND : Nat := 0x500180
def CC_IPEND_LINE : Fld := ⟨CC_IPEND, 31, 0⟩
/-- CC_CLAIM, 14 R533. -/
def CC_CLAIM : Nat := 0x500190
def CC_CLAIM_SRC : Fld := ⟨CC_CLAIM, 5, 0⟩
/-- CC_MSIP, 14 R533. -/
def CC_MSIP : Nat := 0x5001a0
def CC_MSIP_MSIP : Fld := ⟨CC_MSIP, 0, 0⟩
/-- CC_MTIMEL, 14 R533. -/
def CC_MTIMEL : Nat := 0x5001c0
def CC_MTIMEL_TIME : Fld := ⟨CC_MTIMEL, 31, 0⟩
/-- CC_MTIMEH, 14 R533. -/
def CC_MTIMEH : Nat := 0x5001c4
def CC_MTIMEH_TIME : Fld := ⟨CC_MTIMEH, 31, 0⟩
/-- CC_MTCMPL, 14 R533. -/
def CC_MTCMPL : Nat := 0x5001d0
def CC_MTCMPL_CMP : Fld := ⟨CC_MTCMPL, 31, 0⟩
/-- CC_MTCMPH, 14 R533. -/
def CC_MTCMPH : Nat := 0x5001d4
def CC_MTCMPH_CMP : Fld := ⟨CC_MTCMPH, 31, 0⟩
/-- CY_STAT, 15 R563. -/
def CY_STAT : Nat := 0x400000
def CY_STAT_READY : Fld := ⟨CY_STAT, 31, 31⟩
def CY_STAT_SEAL : Fld := ⟨CY_STAT, 30, 30⟩
def CY_STAT_KCACHE : Fld := ⟨CY_STAT, 29, 24⟩
def CY_STAT_RKACT : Fld := ⟨CY_STAT, 23, 20⟩
def CY_STAT_HALLS : Fld := ⟨CY_STAT, 7, 0⟩
/-- CY_RK, 15 R563. -/
def CY_RK : Nat := 0x400010
def CY_RK_ACT : Fld := ⟨CY_RK, 31, 31⟩
def CY_RK_CHUNK : Fld := ⟨CY_RK, 28, 16⟩
def CY_RK_ENTRY : Fld := ⟨CY_RK, 15, 0⟩
/-- CY_MSTAT, 15 R563. -/
def CY_MSTAT : Nat := 0x400040
def CY_MSTAT_VALID : Fld := ⟨CY_MSTAT, 31, 31⟩
def CY_MSTAT_PLW : Fld := ⟨CY_MSTAT, 30, 30⟩
def CY_MSTAT_BANK : Fld := ⟨CY_MSTAT, 29, 28⟩
/-- CY_MMINL, 15 R563. -/
def CY_MMINL : Nat := 0x400044
def CY_MMINL_MINUTE : Fld := ⟨CY_MMINL, 31, 0⟩
/-- CY_MMINH, 15 R563. -/
def CY_MMINH : Nat := 0x400048
def CY_MMINH_MINUTE : Fld := ⟨CY_MMINH, 31, 0⟩
/-- CY_MSEL, 15 R563. -/
def CY_MSEL : Nat := 0x40004c
def CY_MSEL_NSID : Fld := ⟨CY_MSEL, 7, 0⟩
def CY_MSEL_WORD : Fld := ⟨CY_MSEL, 11, 8⟩
/-- CY_MDATA, 15 R563. -/
def CY_MDATA : Nat := 0x400050
def CY_MDATA_DATA : Fld := ⟨CY_MDATA, 31, 0⟩
/-- CY_IRQS, 15 R563. -/
def CY_IRQS : Nat := 0x400080
def CY_IRQS_MISM : Fld := ⟨CY_IRQS, 0, 0⟩
def CY_IRQS_FAIL : Fld := ⟨CY_IRQS, 1, 1⟩
def CY_IRQS_GMOVE : Fld := ⟨CY_IRQS, 2, 2⟩
def CY_IRQS_RKDONE : Fld := ⟨CY_IRQS, 3, 3⟩
def CY_IRQS_MCLOSE : Fld := ⟨CY_IRQS, 4, 4⟩
def CY_IRQS_MBFAIL : Fld := ⟨CY_IRQS, 5, 5⟩
def CY_IRQS_KEYCHG : Fld := ⟨CY_IRQS, 6, 6⟩
/-- CY_IRQE, 15 R563. -/
def CY_IRQE : Nat := 0x400084
def CY_IRQE_ENA : Fld := ⟨CY_IRQE, 6, 0⟩
/-- CY_CNT, 15 R563. -/
def CY_CNT : Nat := 0x400100
def CY_CNT_COUNT : Fld := ⟨CY_CNT, 31, 0⟩
/-- HQ_TWIN, 16 R586. -/
def HQ_TWIN : Nat := 0x000100
def HQ_TWIN_STATE : Fld := ⟨HQ_TWIN, 31, 29⟩
def HQ_TWIN_PEERUP : Fld := ⟨HQ_TWIN, 28, 28⟩
def HQ_TWIN_SOLOW : Fld := ⟨HQ_TWIN, 27, 27⟩
def HQ_TWIN_SRC : Fld := ⟨HQ_TWIN, 26, 26⟩
def HQ_TWIN_UNACK : Fld := ⟨HQ_TWIN, 15, 0⟩
/-- TH_TEMP, 17 R609. -/
def TH_TEMP : Nat := 0xf00000
def TH_TEMP_VALID : Fld := ⟨TH_TEMP, 31, 31⟩
def TH_TEMP_BROKEN : Fld := ⟨TH_TEMP, 30, 30⟩
def TH_TEMP_SUBST : Fld := ⟨TH_TEMP, 29, 29⟩
def TH_TEMP_FORCED : Fld := ⟨TH_TEMP, 28, 28⟩
def TH_TEMP_ZONE : Fld := ⟨TH_TEMP, 27, 25⟩
def TH_TEMP_TEMP : Fld := ⟨TH_TEMP, 15, 0⟩
/-- TH_RAW, 17 R609. -/
def TH_RAW : Nat := 0xf00004
def TH_RAW_RAW : Fld := ⟨TH_RAW, 15, 0⟩
/-- TH_THR, 17 R609. -/
def TH_THR : Nat := 0xf00008
def TH_THR_TCOLD : Fld := ⟨TH_THR, 31, 24⟩
def TH_THR_TWARN : Fld := ⟨TH_THR, 23, 16⟩
def TH_THR_TSD : Fld := ⟨TH_THR, 15, 8⟩
def TH_THR_TRS : Fld := ⟨TH_THR, 7, 0⟩
/-- TH_TRIP, 17 R609. -/
def TH_TRIP : Nat := 0xf0000c
def TH_TRIP_TRIPPED : Fld := ⟨TH_TRIP, 31, 31⟩
def TH_TRIP_TLATCH : Fld := ⟨TH_TRIP, 30, 30⟩
/-- TH_XCHK, 17 R609. -/
def TH_XCHK : Nat := 0xf00010
def TH_XCHK_XDEV : Fld := ⟨TH_XCHK, 31, 24⟩
def TH_XCHK_SUBOFS : Fld := ⟨TH_XCHK, 23, 16⟩
/-- TH_FORCE, 17 R609. -/
def TH_FORCE : Nat := 0xf00014
def TH_FORCE_FEN : Fld := ⟨TH_FORCE, 31, 31⟩
def TH_FORCE_FTEMP : Fld := ⟨TH_FORCE, 15, 0⟩
/-- TH_FLMASK, 17 R609. -/
def TH_FLMASK : Nat := 0xf00020
def TH_FLMASK_MASK : Fld := ⟨TH_FLMASK, 14, 0⟩
/-- TH_FLSTAT, 17 R609. -/
def TH_FLSTAT : Nat := 0xf00024
def TH_FLSTAT_FSUM : Fld := ⟨TH_FLSTAT, 14, 0⟩
/-- TH_HBEAT, 17 R609. -/
def TH_HBEAT : Nat := 0xf00200
def TH_HBEAT_KEY : Fld := ⟨TH_HBEAT, 7, 0⟩
/-- TH_HBSTAT, 17 R609. -/
def TH_HBSTAT : Nat := 0xf00204
def TH_HBSTAT_ARMED : Fld := ⟨TH_HBSTAT, 31, 31⟩
def TH_HBSTAT_ALIVE : Fld := ⟨TH_HBSTAT, 30, 30⟩
def TH_HBSTAT_STOPPED : Fld := ⟨TH_HBSTAT, 29, 29⟩
def TH_HBSTAT_CAUSE : Fld := ⟨TH_HBSTAT, 23, 20⟩
def TH_HBSTAT_NEXT : Fld := ⟨TH_HBSTAT, 7, 0⟩
/-- EV_STAT, 18 R627. -/
def EV_STAT : Nat := 0x600000
def EV_STAT_READY : Fld := ⟨EV_STAT, 31, 31⟩
def EV_STAT_FLUSH : Fld := ⟨EV_STAT, 30, 30⟩
def EV_STAT_QUEUE : Fld := ⟨EV_STAT, 29, 23⟩
/-- EV_RSEQ, 18 R627. -/
def EV_RSEQ : Nat := 0x600004
def EV_RSEQ_RSEQ : Fld := ⟨EV_RSEQ, 31, 0⟩
/-- EV_CFG, 18 R627. -/
def EV_CFG : Nat := 0x600008
def EV_CFG_IRQSEV : Fld := ⟨EV_CFG, 2, 0⟩
/-- EV_RSEL, 18 R627. -/
def EV_RSEL : Nat := 0x600010
def EV_RSEL_SLOT : Fld := ⟨EV_RSEL, 14, 0⟩
/-- EV_RDATA, 18 R627. -/
def EV_RDATA : Nat := 0x600020
def EV_RDATA_DATA : Fld := ⟨EV_RDATA, 31, 0⟩
/-- EV_FWDET, 18 R627. -/
def EV_FWDET : Nat := 0x600040
def EV_FWDET_DETAIL : Fld := ⟨EV_FWDET, 31, 0⟩
/-- EV_FWUNIT, 18 R627. -/
def EV_FWUNIT : Nat := 0x600044
def EV_FWUNIT_UNIT : Fld := ⟨EV_FWUNIT, 15, 0⟩
def EV_FWUNIT_SEV : Fld := ⟨EV_FWUNIT, 18, 16⟩
/-- EV_FWCODE, 18 R627. -/
def EV_FWCODE : Nat := 0x600048
def EV_FWCODE_CODE : Fld := ⟨EV_FWCODE, 15, 0⟩
/-- EV_PSLOT, 18 R627. -/
def EV_PSLOT : Nat := 0x600050
def EV_PSLOT_GO : Fld := ⟨EV_PSLOT, 31, 31⟩
def EV_PSLOT_SLOT : Fld := ⟨EV_PSLOT, 10, 0⟩
/-- EV_PDATA, 18 R627. -/
def EV_PDATA : Nat := 0x600060
def EV_PDATA_DATA : Fld := ⟨EV_PDATA, 31, 0⟩
/-- EV_IRQS, 18 R627. -/
def EV_IRQS : Nat := 0x600080
def EV_IRQS_STORED : Fld := ⟨EV_IRQS, 0, 0⟩
def EV_IRQS_DROP : Fld := ⟨EV_IRQS, 1, 1⟩
def EV_IRQS_REPL : Fld := ⟨EV_IRQS, 2, 2⟩
def EV_IRQS_CLR : Fld := ⟨EV_IRQS, 3, 3⟩
/-- EV_IRQE, 18 R627. -/
def EV_IRQE : Nat := 0x600084
def EV_IRQE_ENA : Fld := ⟨EV_IRQE, 3, 0⟩
/-- PW_PSTATE, 19 R646. -/
def PW_PSTATE : Nat := 0xe00010
def PW_PSTATE_DEV : Fld := ⟨PW_PSTATE, 31, 29⟩
def PW_PSTATE_TGT : Fld := ⟨PW_PSTATE, 28, 26⟩
def PW_PSTATE_TRANS : Fld := ⟨PW_PSTATE, 25, 25⟩
def PW_PSTATE_BAR4 : Fld := ⟨PW_PSTATE, 24, 24⟩
def PW_PSTATE_PREF : Fld := ⟨PW_PSTATE, 23, 23⟩
def PW_PSTATE_CEIL : Fld := ⟨PW_PSTATE, 15, 0⟩
/-- PW_PSCMD, 19 R646. -/
def PW_PSCMD : Nat := 0xe00014
def PW_PSCMD_GO : Fld := ⟨PW_PSCMD, 31, 31⟩
def PW_PSCMD_STATE : Fld := ⟨PW_PSCMD, 30, 28⟩
/-- PW_DOM, 19 R646. -/
def PW_DOM : Nat := 0xe00018
def PW_DOM_ON : Fld := ⟨PW_DOM, 23, 0⟩
/-- PW_RSN, 19 R646. -/
def PW_RSN : Nat := 0xe0001c
def PW_RSN_KIND : Fld := ⟨PW_RSN, 31, 28⟩
def PW_RSN_DCAUSE : Fld := ⟨PW_RSN, 27, 24⟩
def PW_RSN_UNIT : Fld := ⟨PW_RSN, 15, 0⟩
/-- HQ_BRG, 04 R129. -/
def HQ_BRG : Nat := 0x000ffc
def HQ_BRG_BUSY : Fld := ⟨HQ_BRG, 31, 31⟩
def HQ_BRG_FAR : Fld := ⟨HQ_BRG, 30, 30⟩
def HQ_BRG_SIZE : Fld := ⟨HQ_BRG, 29, 29⟩
def HQ_BRG_LOST : Fld := ⟨HQ_BRG, 28, 28⟩
def HQ_BRG_LOSTS : Fld := ⟨HQ_BRG, 23, 16⟩
def HQ_BRG_LSRC : Fld := ⟨HQ_BRG, 15, 12⟩
def HQ_BRG_LOFF : Fld := ⟨HQ_BRG, 11, 0⟩
/-- HP_BRG, 04 R129. -/
def HP_BRG : Nat := 0x100ffc
def HP_BRG_BUSY : Fld := ⟨HP_BRG, 31, 31⟩
def HP_BRG_FAR : Fld := ⟨HP_BRG, 30, 30⟩
def HP_BRG_SIZE : Fld := ⟨HP_BRG, 29, 29⟩
def HP_BRG_LOST : Fld := ⟨HP_BRG, 28, 28⟩
def HP_BRG_LOSTS : Fld := ⟨HP_BRG, 23, 16⟩
def HP_BRG_LSRC : Fld := ⟨HP_BRG, 15, 12⟩
def HP_BRG_LOFF : Fld := ⟨HP_BRG, 11, 0⟩
/-- BM_BRG, 04 R129. -/
def BM_BRG : Nat := 0x200ffc
def BM_BRG_BUSY : Fld := ⟨BM_BRG, 31, 31⟩
def BM_BRG_FAR : Fld := ⟨BM_BRG, 30, 30⟩
def BM_BRG_SIZE : Fld := ⟨BM_BRG, 29, 29⟩
def BM_BRG_LOST : Fld := ⟨BM_BRG, 28, 28⟩
def BM_BRG_LOSTS : Fld := ⟨BM_BRG, 23, 16⟩
def BM_BRG_LSRC : Fld := ⟨BM_BRG, 15, 12⟩
def BM_BRG_LOFF : Fld := ⟨BM_BRG, 11, 0⟩
/-- DM_BRG, 04 R129. -/
def DM_BRG : Nat := 0x300ffc
def DM_BRG_BUSY : Fld := ⟨DM_BRG, 31, 31⟩
def DM_BRG_FAR : Fld := ⟨DM_BRG, 30, 30⟩
def DM_BRG_SIZE : Fld := ⟨DM_BRG, 29, 29⟩
def DM_BRG_LOST : Fld := ⟨DM_BRG, 28, 28⟩
def DM_BRG_LOSTS : Fld := ⟨DM_BRG, 23, 16⟩
def DM_BRG_LSRC : Fld := ⟨DM_BRG, 15, 12⟩
def DM_BRG_LOFF : Fld := ⟨DM_BRG, 11, 0⟩
/-- CY_BRG, 04 R129. -/
def CY_BRG : Nat := 0x400ffc
def CY_BRG_BUSY : Fld := ⟨CY_BRG, 31, 31⟩
def CY_BRG_FAR : Fld := ⟨CY_BRG, 30, 30⟩
def CY_BRG_SIZE : Fld := ⟨CY_BRG, 29, 29⟩
def CY_BRG_LOST : Fld := ⟨CY_BRG, 28, 28⟩
def CY_BRG_LOSTS : Fld := ⟨CY_BRG, 23, 16⟩
def CY_BRG_LSRC : Fld := ⟨CY_BRG, 15, 12⟩
def CY_BRG_LOFF : Fld := ⟨CY_BRG, 11, 0⟩
/-- CC_BRG, 04 R129. -/
def CC_BRG : Nat := 0x500ffc
def CC_BRG_BUSY : Fld := ⟨CC_BRG, 31, 31⟩
def CC_BRG_FAR : Fld := ⟨CC_BRG, 30, 30⟩
def CC_BRG_SIZE : Fld := ⟨CC_BRG, 29, 29⟩
def CC_BRG_LOST : Fld := ⟨CC_BRG, 28, 28⟩
def CC_BRG_LOSTS : Fld := ⟨CC_BRG, 23, 16⟩
def CC_BRG_LSRC : Fld := ⟨CC_BRG, 15, 12⟩
def CC_BRG_LOFF : Fld := ⟨CC_BRG, 11, 0⟩
/-- EV_BRG, 04 R129. -/
def EV_BRG : Nat := 0x600ffc
def EV_BRG_BUSY : Fld := ⟨EV_BRG, 31, 31⟩
def EV_BRG_FAR : Fld := ⟨EV_BRG, 30, 30⟩
def EV_BRG_SIZE : Fld := ⟨EV_BRG, 29, 29⟩
def EV_BRG_LOST : Fld := ⟨EV_BRG, 28, 28⟩
def EV_BRG_LOSTS : Fld := ⟨EV_BRG, 23, 16⟩
def EV_BRG_LSRC : Fld := ⟨EV_BRG, 15, 12⟩
def EV_BRG_LOFF : Fld := ⟨EV_BRG, 11, 0⟩
/-- MG_BRG, 04 R129. -/
def MG_BRG : Nat := 0x700ffc
def MG_BRG_BUSY : Fld := ⟨MG_BRG, 31, 31⟩
def MG_BRG_FAR : Fld := ⟨MG_BRG, 30, 30⟩
def MG_BRG_SIZE : Fld := ⟨MG_BRG, 29, 29⟩
def MG_BRG_LOST : Fld := ⟨MG_BRG, 28, 28⟩
def MG_BRG_LOSTS : Fld := ⟨MG_BRG, 23, 16⟩
def MG_BRG_LSRC : Fld := ⟨MG_BRG, 15, 12⟩
def MG_BRG_LOFF : Fld := ⟨MG_BRG, 11, 0⟩
/-- CH_BRG, 04 R129. -/
def CH_BRG : Nat := 0x800ffc
def CH_BRG_BUSY : Fld := ⟨CH_BRG, 31, 31⟩
def CH_BRG_FAR : Fld := ⟨CH_BRG, 30, 30⟩
def CH_BRG_SIZE : Fld := ⟨CH_BRG, 29, 29⟩
def CH_BRG_LOST : Fld := ⟨CH_BRG, 28, 28⟩
def CH_BRG_LOSTS : Fld := ⟨CH_BRG, 23, 16⟩
def CH_BRG_LSRC : Fld := ⟨CH_BRG, 15, 12⟩
def CH_BRG_LOFF : Fld := ⟨CH_BRG, 11, 0⟩
/-- FM_BRG, 04 R129. -/
def FM_BRG : Nat := 0x900ffc
def FM_BRG_BUSY : Fld := ⟨FM_BRG, 31, 31⟩
def FM_BRG_FAR : Fld := ⟨FM_BRG, 30, 30⟩
def FM_BRG_SIZE : Fld := ⟨FM_BRG, 29, 29⟩
def FM_BRG_LOST : Fld := ⟨FM_BRG, 28, 28⟩
def FM_BRG_LOSTS : Fld := ⟨FM_BRG, 23, 16⟩
def FM_BRG_LSRC : Fld := ⟨FM_BRG, 15, 12⟩
def FM_BRG_LOFF : Fld := ⟨FM_BRG, 11, 0⟩
/-- SV_BRG, 04 R129. -/
def SV_BRG : Nat := 0xa00ffc
def SV_BRG_BUSY : Fld := ⟨SV_BRG, 31, 31⟩
def SV_BRG_FAR : Fld := ⟨SV_BRG, 30, 30⟩
def SV_BRG_SIZE : Fld := ⟨SV_BRG, 29, 29⟩
def SV_BRG_LOST : Fld := ⟨SV_BRG, 28, 28⟩
def SV_BRG_LOSTS : Fld := ⟨SV_BRG, 23, 16⟩
def SV_BRG_LSRC : Fld := ⟨SV_BRG, 15, 12⟩
def SV_BRG_LOFF : Fld := ⟨SV_BRG, 11, 0⟩
/-- PA_BRG, 04 R129. -/
def PA_BRG : Nat := 0xb00ffc
def PA_BRG_BUSY : Fld := ⟨PA_BRG, 31, 31⟩
def PA_BRG_FAR : Fld := ⟨PA_BRG, 30, 30⟩
def PA_BRG_SIZE : Fld := ⟨PA_BRG, 29, 29⟩
def PA_BRG_LOST : Fld := ⟨PA_BRG, 28, 28⟩
def PA_BRG_LOSTS : Fld := ⟨PA_BRG, 23, 16⟩
def PA_BRG_LSRC : Fld := ⟨PA_BRG, 15, 12⟩
def PA_BRG_LOFF : Fld := ⟨PA_BRG, 11, 0⟩
/-- SP_BRG, 04 R129. -/
def SP_BRG : Nat := 0xc00ffc
def SP_BRG_BUSY : Fld := ⟨SP_BRG, 31, 31⟩
def SP_BRG_FAR : Fld := ⟨SP_BRG, 30, 30⟩
def SP_BRG_SIZE : Fld := ⟨SP_BRG, 29, 29⟩
def SP_BRG_LOST : Fld := ⟨SP_BRG, 28, 28⟩
def SP_BRG_LOSTS : Fld := ⟨SP_BRG, 23, 16⟩
def SP_BRG_LSRC : Fld := ⟨SP_BRG, 15, 12⟩
def SP_BRG_LOFF : Fld := ⟨SP_BRG, 11, 0⟩
/-- AC_BRG, 04 R129. -/
def AC_BRG : Nat := 0xd00ffc
def AC_BRG_BUSY : Fld := ⟨AC_BRG, 31, 31⟩
def AC_BRG_FAR : Fld := ⟨AC_BRG, 30, 30⟩
def AC_BRG_SIZE : Fld := ⟨AC_BRG, 29, 29⟩
def AC_BRG_LOST : Fld := ⟨AC_BRG, 28, 28⟩
def AC_BRG_LOSTS : Fld := ⟨AC_BRG, 23, 16⟩
def AC_BRG_LSRC : Fld := ⟨AC_BRG, 15, 12⟩
def AC_BRG_LOFF : Fld := ⟨AC_BRG, 11, 0⟩
/-- PW_BRG, 04 R129. -/
def PW_BRG : Nat := 0xe00ffc
def PW_BRG_BUSY : Fld := ⟨PW_BRG, 31, 31⟩
def PW_BRG_FAR : Fld := ⟨PW_BRG, 30, 30⟩
def PW_BRG_SIZE : Fld := ⟨PW_BRG, 29, 29⟩
def PW_BRG_LOST : Fld := ⟨PW_BRG, 28, 28⟩
def PW_BRG_LOSTS : Fld := ⟨PW_BRG, 23, 16⟩
def PW_BRG_LSRC : Fld := ⟨PW_BRG, 15, 12⟩
def PW_BRG_LOFF : Fld := ⟨PW_BRG, 11, 0⟩
/-- TH_BRG, 04 R129. -/
def TH_BRG : Nat := 0xf00ffc
def TH_BRG_BUSY : Fld := ⟨TH_BRG, 31, 31⟩
def TH_BRG_FAR : Fld := ⟨TH_BRG, 30, 30⟩
def TH_BRG_SIZE : Fld := ⟨TH_BRG, 29, 29⟩
def TH_BRG_LOST : Fld := ⟨TH_BRG, 28, 28⟩
def TH_BRG_LOSTS : Fld := ⟨TH_BRG, 23, 16⟩
def TH_BRG_LSRC : Fld := ⟨TH_BRG, 15, 12⟩
def TH_BRG_LOFF : Fld := ⟨TH_BRG, 11, 0⟩

/-- The registers of page HQ. -/
def regsHQ : List RegDef := [
  ⟨HQ_STAT, 1, 0x0, [
    ⟨HQ_STAT_FETCH, .ro, false, 0x0, rPDU⟩,
    ⟨HQ_STAT_SANI, .ro, false, 0x0, rPD⟩,
    ⟨HQ_STAT_FMT, .ro, false, 0x0, rPD⟩,
    ⟨HQ_STAT_INFL, .ro, false, 0x0, rPDU⟩,
    ⟨HQ_STAT_FENCED, .ro, false, 0x0, rPDU⟩,
    ⟨HQ_STAT_LWAIT, .ro, false, 0x0, rPDU⟩]⟩,
  ⟨HQ_TWIN, 1, 0x0, [
    ⟨HQ_TWIN_STATE, .ro, false, 0x0, rPD⟩,
    ⟨HQ_TWIN_PEERUP, .ro, false, 0x0, rPDU⟩,
    ⟨HQ_TWIN_SOLOW, .ro, false, 0x0, rPD⟩,
    ⟨HQ_TWIN_SRC, .ro, false, 0x0, rPDU⟩,
    ⟨HQ_TWIN_UNACK, .ro, false, 0x0, rPDU⟩]⟩,
  ⟨HQ_BRG, 1, 0x0, [
    ⟨HQ_BRG_BUSY, .ro, false, 0x0, rPHDU⟩,
    ⟨HQ_BRG_FAR, .ro, false, 0x1, rPHD⟩,
    ⟨HQ_BRG_SIZE, .w1c, false, 0x0, rPHDU⟩,
    ⟨HQ_BRG_LOST, .ro, false, 0x0, rPHDU⟩,
    ⟨HQ_BRG_LOSTS, .w1c, false, 0x0, rPHDU⟩,
    ⟨HQ_BRG_LSRC, .ro, false, 0xf, rPHDU⟩,
    ⟨HQ_BRG_LOFF, .ro, false, 0x0, rPHDU⟩]⟩]

/-- The registers of page HP. -/
def regsHP : List RegDef := [
  ⟨HP_LSTAT, 1, 0x0, [
    ⟨HP_LSTAT_SPEED, .ro, false, 0x0, rPHDFL⟩,
    ⟨HP_LSTAT_WIDTH, .ro, false, 0x0, rPHDFL⟩,
    ⟨HP_LSTAT_REV, .ro, false, 0x0, rPHDFL⟩,
    ⟨HP_LSTAT_LDOWNS, .ro, false, 0x0, rPHD⟩]⟩,
  ⟨HP_MBCTL, 1, 0x0, [
    ⟨HP_MBCTL_GO, .w1s, false, 0x0, rPHDUCFL⟩,
    ⟨HP_MBCTL_BUSY, .ro, false, 0x0, rPHDUCFL⟩,
    ⟨HP_MBCTL_DONE, .w1c, false, 0x0, rPHDUCFL⟩,
    ⟨HP_MBCTL_OVR, .w1c, false, 0x0, rPHDUCFL⟩,
    ⟨HP_MBCTL_MALF, .w1c, false, 0x0, rPHDUCFL⟩,
    ⟨HP_MBCTL_IEN, .rw, false, 0x0, rPHDUCFL⟩]⟩,
  ⟨HP_NRBL, 1, 0x0, [
    ⟨HP_NRBL_BASE, .rw, false, 0x0, rPHDUCFL⟩]⟩,
  ⟨HP_NRBH, 1, 0x0, [
    ⟨HP_NRBH_BASE, .rw, false, 0x0, rPHDUCFL⟩]⟩,
  ⟨HP_NRCFG, 1, 0x0, [
    ⟨HP_NRCFG_ENA, .rw, false, 0x0, rPHDUCFL⟩,
    ⟨HP_NRCFG_IEN, .rw, false, 0x0, rPHDUCFL⟩,
    ⟨HP_NRCFG_NRSZ, .rw, false, 0x4, rPHDUCFL⟩]⟩,
  ⟨HP_NRHEAD, 1, 0x0, [
    ⟨HP_NRHEAD_HEAD, .rw, false, 0x0, rPHDUCFL⟩]⟩,
  ⟨HP_NRTAIL, 1, 0x0, [
    ⟨HP_NRTAIL_TAIL, .ro, false, 0x0, rPHDUCFL⟩]⟩,
  ⟨HP_MBREQ, 128, 0x4, [
    ⟨HP_MBREQ_REQ, .rw, false, 0x0, rNone⟩]⟩,
  ⟨HP_MBRSP, 128, 0x4, [
    ⟨HP_MBRSP_RSP, .ro, false, 0x0, rNone⟩]⟩,
  ⟨HP_BRG, 1, 0x0, [
    ⟨HP_BRG_BUSY, .ro, false, 0x0, rPHDU⟩,
    ⟨HP_BRG_FAR, .ro, false, 0x1, rPHD⟩,
    ⟨HP_BRG_SIZE, .w1c, false, 0x0, rPHDU⟩,
    ⟨HP_BRG_LOST, .ro, false, 0x0, rPHDU⟩,
    ⟨HP_BRG_LOSTS, .w1c, false, 0x0, rPHDU⟩,
    ⟨HP_BRG_LSRC, .ro, false, 0xf, rPHDU⟩,
    ⟨HP_BRG_LOFF, .ro, false, 0x0, rPHDU⟩]⟩]

/-- The registers of page BM. -/
def regsBM : List RegDef := [
  ⟨BM_CFG, 1, 0x0, [
    ⟨BM_CFG_SCRUBH, .rw, true, 0x18, rPDU⟩]⟩,
  ⟨BM_BKCFG, 1, 0x0, [
    ⟨BM_BKCFG_LEAK, .rw, true, 0xa, rPDU⟩,
    ⟨BM_BKCFG_DEPTH, .rw, true, 0x40, rPDU⟩]⟩,
  ⟨BM_BKT, 1, 0x0, [
    ⟨BM_BKT_NEAR, .ro, false, 0x0, rPDU⟩,
    ⟨BM_BKT_DIE0, .ro, false, 0x0, rPDU⟩,
    ⟨BM_BKT_DIE1, .ro, false, 0x0, rPDU⟩]⟩,
  ⟨BM_CECNT, 3, 0x4, [
    ⟨BM_CECNT_COUNT, .ro, false, 0x0, rPD⟩]⟩,
  ⟨BM_UECNT, 1, 0x0, [
    ⟨BM_UECNT_NEAR, .ro, false, 0x0, rPD⟩,
    ⟨BM_UECNT_FAR, .ro, false, 0x0, rPD⟩]⟩,
  ⟨BM_UEADDRL, 1, 0x0, [
    ⟨BM_UEADDRL_ADDR, .ro, false, 0x0, rPD⟩]⟩,
  ⟨BM_UEADDRH, 1, 0x0, [
    ⟨BM_UEADDRH_ADDR, .ro, false, 0x0, rPD⟩]⟩,
  ⟨BM_POOL, 1, 0x0, [
    ⟨BM_POOL_FREE, .ro, false, 0x5fc00, rPD⟩]⟩,
  ⟨BM_IRQS, 1, 0x0, [
    ⟨BM_IRQS_CEOVF, .w1c, false, 0x0, rPDU⟩,
    ⟨BM_IRQS_UE, .w1c, false, 0x0, rPDU⟩,
    ⟨BM_IRQS_POOLW, .w1c, false, 0x0, rPDU⟩,
    ⟨BM_IRQS_OWN, .w1c, false, 0x0, rPDU⟩,
    ⟨BM_IRQS_LIDXF, .w1c, false, 0x0, rPDU⟩]⟩,
  ⟨BM_IRQE, 1, 0x0, [
    ⟨BM_IRQE_ENA, .rw, true, 0x0, rPDU⟩]⟩,
  ⟨BM_BRG, 1, 0x0, [
    ⟨BM_BRG_BUSY, .ro, false, 0x0, rPHDU⟩,
    ⟨BM_BRG_FAR, .ro, false, 0x1, rPHD⟩,
    ⟨BM_BRG_SIZE, .w1c, false, 0x0, rPHDU⟩,
    ⟨BM_BRG_LOST, .ro, false, 0x0, rPHDU⟩,
    ⟨BM_BRG_LOSTS, .w1c, false, 0x0, rPHDU⟩,
    ⟨BM_BRG_LSRC, .ro, false, 0xf, rPHDU⟩,
    ⟨BM_BRG_LOFF, .ro, false, 0x0, rPHDU⟩]⟩]

/-- The registers of page DM. -/
def regsDM : List RegDef := [
  ⟨DM_CTRL, 32, 0x40, [
    ⟨DM_CTRL_START, .rw, true, 0x0, rPDU⟩,
    ⟨DM_CTRL_FROM, .wo, true, 0x0, rPDU⟩]⟩,
  ⟨DM_STAT, 32, 0x40, [
    ⟨DM_STAT_STATE, .ro, false, 0x0, rPDU⟩,
    ⟨DM_STAT_BELLP, .ro, false, 0x0, rPDU⟩,
    ⟨DM_STAT_RQF, .ro, false, 0x0, rPDU⟩,
    ⟨DM_STAT_LSTAT, .ro, false, 0x0, rPDU⟩]⟩,
  ⟨DM_COACHL, 32, 0x40, [
    ⟨DM_COACHL_ADDR, .rw, true, 0x0, rPDU⟩]⟩,
  ⟨DM_COACHH, 32, 0x40, [
    ⟨DM_COACHH_ADDR, .rw, true, 0x0, rPDU⟩]⟩,
  ⟨DM_CURL, 32, 0x40, [
    ⟨DM_CURL_ADDR, .ro, false, 0x0, rPDU⟩]⟩,
  ⟨DM_CURH, 32, 0x40, [
    ⟨DM_CURH_ADDR, .ro, false, 0x0, rPDU⟩]⟩,
  ⟨DM_CNT, 32, 0x40, [
    ⟨DM_CNT_CNT, .ro, false, 0x0, rPDU⟩]⟩,
  ⟨DM_IDX, 32, 0x40, [
    ⟨DM_IDX_IDX, .ro, false, 0x0, rPDU⟩]⟩,
  ⟨DM_RQBL, 32, 0x40, [
    ⟨DM_RQBL_BASE, .rw, true, 0x0, rPDU⟩]⟩,
  ⟨DM_RQBH, 32, 0x40, [
    ⟨DM_RQBH_BASE, .rw, true, 0x0, rPDU⟩]⟩,
  ⟨DM_RQCFG, 32, 0x40, [
    ⟨DM_RQCFG_RQSZ, .rw, true, 0x4, rPDU⟩]⟩,
  ⟨DM_RQHEAD, 32, 0x40, [
    ⟨DM_RQHEAD_HEAD, .rw, true, 0x0, rPDU⟩]⟩,
  ⟨DM_RQTAIL, 32, 0x40, [
    ⟨DM_RQTAIL_TAIL, .ro, false, 0x0, rPDU⟩]⟩,
  ⟨DM_LASTL, 32, 0x40, [
    ⟨DM_LASTL_ADDR, .ro, false, 0x0, rPDU⟩]⟩,
  ⟨DM_LASTH, 32, 0x40, [
    ⟨DM_LASTH_ADDR, .ro, false, 0x0, rPDU⟩]⟩,
  ⟨DM_BELL, 1, 0x0, [
    ⟨DM_BELL_RING, .wo, true, 0x0, rPDU⟩]⟩,
  ⟨DM_GSTAT, 1, 0x0, [
    ⟨DM_GSTAT_HALT, .w1c, false, 0x0, rPDU⟩,
    ⟨DM_GSTAT_SREF, .w1c, false, 0x0, rPDU⟩,
    ⟨DM_GSTAT_ECH, .ro, false, 0x0, rPDU⟩,
    ⟨DM_GSTAT_ESTAT, .ro, false, 0x0, rPDU⟩]⟩,
  ⟨DM_EADDRL, 1, 0x0, [
    ⟨DM_EADDRL_ADDR, .ro, false, 0x0, rPDU⟩]⟩,
  ⟨DM_EADDRH, 1, 0x0, [
    ⟨DM_EADDRH_ADDR, .ro, false, 0x0, rPDU⟩]⟩,
  ⟨DM_OWN, 1, 0x0, [
    ⟨DM_OWN_CE, .ro, false, 0xff, rNone⟩]⟩,
  ⟨DM_IRQS, 1, 0x0, [
    ⟨DM_IRQS_CH, .w1c, false, 0x0, rPDU⟩]⟩,
  ⟨DM_IRQE, 1, 0x0, [
    ⟨DM_IRQE_ENA, .rw, true, 0x0, rPDU⟩]⟩,
  ⟨DM_GIRQE, 1, 0x0, [
    ⟨DM_GIRQE_HALTE, .rw, true, 0x0, rPDU⟩]⟩,
  ⟨DM_BRG, 1, 0x0, [
    ⟨DM_BRG_BUSY, .ro, false, 0x0, rPHDU⟩,
    ⟨DM_BRG_FAR, .ro, false, 0x1, rPHD⟩,
    ⟨DM_BRG_SIZE, .w1c, false, 0x0, rPHDU⟩,
    ⟨DM_BRG_LOST, .ro, false, 0x0, rPHDU⟩,
    ⟨DM_BRG_LOSTS, .w1c, false, 0x0, rPHDU⟩,
    ⟨DM_BRG_LSRC, .ro, false, 0xf, rPHDU⟩,
    ⟨DM_BRG_LOFF, .ro, false, 0x0, rPHDU⟩]⟩]

/-- The registers of page CY. -/
def regsCY : List RegDef := [
  ⟨CY_STAT, 1, 0x0, [
    ⟨CY_STAT_READY, .ro, false, 0x0, rPDU⟩,
    ⟨CY_STAT_SEAL, .ro, false, 0x0, rPH⟩,
    ⟨CY_STAT_KCACHE, .ro, false, 0x0, rPDU⟩,
    ⟨CY_STAT_RKACT, .ro, false, 0x0, rPDU⟩,
    ⟨CY_STAT_HALLS, .ro, false, 0x0, rPDU⟩]⟩,
  ⟨CY_RK, 4, 0x4, [
    ⟨CY_RK_ACT, .ro, false, 0x0, rPDU⟩,
    ⟨CY_RK_CHUNK, .ro, false, 0x0, rPDU⟩,
    ⟨CY_RK_ENTRY, .ro, false, 0x0, rPDU⟩]⟩,
  ⟨CY_MSTAT, 1, 0x0, [
    ⟨CY_MSTAT_VALID, .ro, false, 0x0, rPDU⟩,
    ⟨CY_MSTAT_PLW, .ro, false, 0x0, rPDU⟩,
    ⟨CY_MSTAT_BANK, .ro, false, 0x0, rPDU⟩]⟩,
  ⟨CY_MMINL, 1, 0x0, [
    ⟨CY_MMINL_MINUTE, .ro, false, 0x0, rPDU⟩]⟩,
  ⟨CY_MMINH, 1, 0x0, [
    ⟨CY_MMINH_MINUTE, .ro, false, 0x0, rPDU⟩]⟩,
  ⟨CY_MSEL, 1, 0x0, [
    ⟨CY_MSEL_NSID, .rw, true, 0x1, rPDU⟩,
    ⟨CY_MSEL_WORD, .rw, true, 0x0, rPDU⟩]⟩,
  ⟨CY_MDATA, 1, 0x0, [
    ⟨CY_MDATA_DATA, .ro, false, 0x0, rPDU⟩]⟩,
  ⟨CY_IRQS, 1, 0x0, [
    ⟨CY_IRQS_MISM, .w1c, false, 0x0, rPDU⟩,
    ⟨CY_IRQS_FAIL, .w1c, false, 0x0, rPDU⟩,
    ⟨CY_IRQS_GMOVE, .w1c, false, 0x0, rPDU⟩,
    ⟨CY_IRQS_RKDONE, .w1c, false, 0x0, rPDU⟩,
    ⟨CY_IRQS_MCLOSE, .w1c, false, 0x0, rPDU⟩,
    ⟨CY_IRQS_MBFAIL, .w1c, false, 0x0, rPDU⟩,
    ⟨CY_IRQS_KEYCHG, .w1c, false, 0x0, rPDU⟩]⟩,
  ⟨CY_IRQE, 1, 0x0, [
    ⟨CY_IRQE_ENA, .rw, true, 0x0, rPDU⟩]⟩,
  ⟨CY_CNT, 6, 0x4, [
    ⟨CY_CNT_COUNT, .ro, false, 0x0, rPD⟩]⟩,
  ⟨CY_BRG, 1, 0x0, [
    ⟨CY_BRG_BUSY, .ro, false, 0x0, rPHDU⟩,
    ⟨CY_BRG_FAR, .ro, false, 0x1, rPHD⟩,
    ⟨CY_BRG_SIZE, .w1c, false, 0x0, rPHDU⟩,
    ⟨CY_BRG_LOST, .ro, false, 0x0, rPHDU⟩,
    ⟨CY_BRG_LOSTS, .w1c, false, 0x0, rPHDU⟩,
    ⟨CY_BRG_LSRC, .ro, false, 0xf, rPHDU⟩,
    ⟨CY_BRG_LOFF, .ro, false, 0x0, rPHDU⟩]⟩]

/-- The registers of page CC. -/
def regsCC : List RegDef := [
  ⟨CC_CORE, 1, 0x0, [
    ⟨CC_CORE_REL, .w1s, false, 0x1, rPHD⟩]⟩,
  ⟨CC_BOOTL, 1, 0x0, [
    ⟨CC_BOOTL_ADDR, .rw, false, 0x0, rPHD⟩]⟩,
  ⟨CC_BOOTH, 1, 0x0, [
    ⟨CC_BOOTH_ADDR, .rw, false, 0x0, rPHD⟩]⟩,
  ⟨CC_WALLOC, 4, 0x4, [
    ⟨CC_WALLOC_MASK, .rw, false, 0xffff, rPHD⟩]⟩,
  ⟨CC_WLOCK, 1, 0x0, [
    ⟨CC_WLOCK_LOCK, .wm, false, 0x0, rPHD⟩]⟩,
  ⟨CC_MOP, 1, 0x0, [
    ⟨CC_MOP_OP, .rw, false, 0x0, rPHD⟩,
    ⟨CC_MOP_SCOPE, .rw, false, 0x0, rPHD⟩,
    ⟨CC_MOP_WAYS, .rw, false, 0x0, rPHD⟩]⟩,
  ⟨CC_MSTAT, 1, 0x0, [
    ⟨CC_MSTAT_BUSY, .ro, false, 0x0, rPHD⟩,
    ⟨CC_MSTAT_REF, .w1c, false, 0x0, rPHD⟩]⟩,
  ⟨CC_MSTARTL, 1, 0x0, [
    ⟨CC_MSTARTL_ADDR, .rw, false, 0x0, rPHD⟩]⟩,
  ⟨CC_MSTARTH, 1, 0x0, [
    ⟨CC_MSTARTH_ADDR, .rw, false, 0x0, rPHD⟩]⟩,
  ⟨CC_MENDL, 1, 0x0, [
    ⟨CC_MENDL_ADDR, .rw, false, 0x0, rPHD⟩]⟩,
  ⟨CC_MENDH, 1, 0x0, [
    ⟨CC_MENDH_ADDR, .rw, false, 0x0, rPHD⟩]⟩,
  ⟨CC_L2STAT, 1, 0x0, [
    ⟨CC_L2STAT_MSHR, .ro, false, 0x0, rPHD⟩,
    ⟨CC_L2STAT_VICT, .ro, false, 0x0, rPHD⟩]⟩,
  ⟨CC_CECNT, 1, 0x0, [
    ⟨CC_CECNT_COUNT, .ro, false, 0x0, rPHD⟩]⟩,
  ⟨CC_UEADDRL, 1, 0x0, [
    ⟨CC_UEADDRL_ADDR, .ro, false, 0x0, rPHD⟩]⟩,
  ⟨CC_UEADDRH, 1, 0x0, [
    ⟨CC_UEADDRH_ADDR, .ro, false, 0x0, rPHD⟩]⟩,
  ⟨CC_STALL, 1, 0x0, [
    ⟨CC_STALL_COUNT, .ro, false, 0x0, rPHD⟩]⟩,
  ⟨CC_IRT, 32, 0x4, [
    ⟨CC_IRT_ENA, .rw, false, 0x0, rPHD⟩,
    ⟨CC_IRT_CORE, .rw, false, 0x0, rPHD⟩]⟩,
  ⟨CC_IPEND, 1, 0x0, [
    ⟨CC_IPEND_LINE, .ro, false, 0x0, rPHD⟩]⟩,
  ⟨CC_CLAIM, 4, 0x4, [
    ⟨CC_CLAIM_SRC, .ro, false, 0x3f, rPHD⟩]⟩,
  ⟨CC_MSIP, 4, 0x4, [
    ⟨CC_MSIP_MSIP, .rw, false, 0x0, rPHD⟩]⟩,
  ⟨CC_MTIMEL, 1, 0x0, [
    ⟨CC_MTIMEL_TIME, .ro, false, 0x0, rPHD⟩]⟩,
  ⟨CC_MTIMEH, 1, 0x0, [
    ⟨CC_MTIMEH_TIME, .ro, false, 0x0, rPHD⟩]⟩,
  ⟨CC_MTCMPL, 4, 0x8, [
    ⟨CC_MTCMPL_CMP, .rw, false, 0xffffffff, rPHD⟩]⟩,
  ⟨CC_MTCMPH, 4, 0x8, [
    ⟨CC_MTCMPH_CMP, .rw, false, 0xffffffff, rPHD⟩]⟩,
  ⟨CC_BRG, 1, 0x0, [
    ⟨CC_BRG_BUSY, .ro, false, 0x0, rPHDU⟩,
    ⟨CC_BRG_FAR, .ro, false, 0x1, rPHD⟩,
    ⟨CC_BRG_SIZE, .w1c, false, 0x0, rPHDU⟩,
    ⟨CC_BRG_LOST, .ro, false, 0x0, rPHDU⟩,
    ⟨CC_BRG_LOSTS, .w1c, false, 0x0, rPHDU⟩,
    ⟨CC_BRG_LSRC, .ro, false, 0xf, rPHDU⟩,
    ⟨CC_BRG_LOFF, .ro, false, 0x0, rPHDU⟩]⟩]

/-- The registers of page EV. -/
def regsEV : List RegDef := [
  ⟨EV_STAT, 1, 0x0, [
    ⟨EV_STAT_READY, .ro, false, 0x0, rPHD⟩,
    ⟨EV_STAT_FLUSH, .ro, false, 0x0, rPHD⟩,
    ⟨EV_STAT_QUEUE, .ro, false, 0x0, rPHDU⟩]⟩,
  ⟨EV_RSEQ, 1, 0x0, [
    ⟨EV_RSEQ_RSEQ, .ro, false, 0x0, rNone⟩]⟩,
  ⟨EV_CFG, 1, 0x0, [
    ⟨EV_CFG_IRQSEV, .rw, true, 0x5, rPHD⟩]⟩,
  ⟨EV_RSEL, 1, 0x0, [
    ⟨EV_RSEL_SLOT, .rw, true, 0x0, rPHDU⟩]⟩,
  ⟨EV_RDATA, 8, 0x4, [
    ⟨EV_RDATA_DATA, .ro, false, 0x0, rPHDU⟩]⟩,
  ⟨EV_FWDET, 1, 0x0, [
    ⟨EV_FWDET_DETAIL, .rw, true, 0x0, rPHDU⟩]⟩,
  ⟨EV_FWUNIT, 1, 0x0, [
    ⟨EV_FWUNIT_UNIT, .rw, true, 0x0, rPHDU⟩,
    ⟨EV_FWUNIT_SEV, .rw, true, 0x0, rPHDU⟩]⟩,
  ⟨EV_FWCODE, 1, 0x0, [
    ⟨EV_FWCODE_CODE, .wo, true, 0x0, rPHDU⟩]⟩,
  ⟨EV_PSLOT, 1, 0x0, [
    ⟨EV_PSLOT_GO, .wo, true, 0x0, rPHDU⟩,
    ⟨EV_PSLOT_SLOT, .rw, true, 0x0, rPHDU⟩]⟩,
  ⟨EV_PDATA, 8, 0x4, [
    ⟨EV_PDATA_DATA, .rw, true, 0x0, rPHDU⟩]⟩,
  ⟨EV_IRQS, 1, 0x0, [
    ⟨EV_IRQS_STORED, .w1c, false, 0x0, rPHDU⟩,
    ⟨EV_IRQS_DROP, .w1c, false, 0x0, rPHDU⟩,
    ⟨EV_IRQS_REPL, .w1c, false, 0x0, rPHDU⟩,
    ⟨EV_IRQS_CLR, .w1c, false, 0x0, rPHDU⟩]⟩,
  ⟨EV_IRQE, 1, 0x0, [
    ⟨EV_IRQE_ENA, .rw, true, 0x0, rPHDU⟩]⟩,
  ⟨EV_BRG, 1, 0x0, [
    ⟨EV_BRG_BUSY, .ro, false, 0x0, rPHDU⟩,
    ⟨EV_BRG_FAR, .ro, false, 0x1, rPHD⟩,
    ⟨EV_BRG_SIZE, .w1c, false, 0x0, rPHDU⟩,
    ⟨EV_BRG_LOST, .ro, false, 0x0, rPHDU⟩,
    ⟨EV_BRG_LOSTS, .w1c, false, 0x0, rPHDU⟩,
    ⟨EV_BRG_LSRC, .ro, false, 0xf, rPHDU⟩,
    ⟨EV_BRG_LOFF, .ro, false, 0x0, rPHDU⟩]⟩]

/-- The registers of page MG. -/
def regsMG : List RegDef := [
  ⟨MG_BWS, 8, 0x4, [
    ⟨MG_BWS_STATE, .ro, false, 0x0, rPHD⟩,
    ⟨MG_BWS_OWNER, .ro, false, 0xffff, rPHD⟩]⟩,
  ⟨MG_BWERR, 1, 0x0, [
    ⟨MG_BWERR_DROPS, .rc, false, 0x0, rPHD⟩,
    ⟨MG_BWERR_LEASES, .rc, false, 0x0, rPHD⟩]⟩,
  ⟨MG_BRG, 1, 0x0, [
    ⟨MG_BRG_BUSY, .ro, false, 0x0, rPHDU⟩,
    ⟨MG_BRG_FAR, .ro, false, 0x1, rPHD⟩,
    ⟨MG_BRG_SIZE, .w1c, false, 0x0, rPHDU⟩,
    ⟨MG_BRG_LOST, .ro, false, 0x0, rPHDU⟩,
    ⟨MG_BRG_LOSTS, .w1c, false, 0x0, rPHDU⟩,
    ⟨MG_BRG_LSRC, .ro, false, 0xf, rPHDU⟩,
    ⟨MG_BRG_LOFF, .ro, false, 0x0, rPHDU⟩]⟩]

/-- The registers of page CH. -/
def regsCH : List RegDef := [
  ⟨CH_CTL, 1, 0x0, [
    ⟨CH_CTL_ENA, .rw, true, 0x0, rPDU⟩,
    ⟨CH_CTL_MODE, .rw, true, 0x0, rPDU⟩,
    ⟨CH_CTL_GTRACK, .rw, true, 0x1, rPDU⟩,
    ⟨CH_CTL_WAVG, .rw, true, 0x3, rPDU⟩]⟩,
  ⟨CH_STAT, 1, 0x0, [
    ⟨CH_STAT_ACTIVE, .ro, false, 0x0, rPDU⟩,
    ⟨CH_STAT_AMODE, .ro, false, 0x0, rPDU⟩,
    ⟨CH_STAT_HEAD, .ro, false, 0xf, rPDU⟩,
    ⟨CH_STAT_GROUP, .ro, false, 0x0, rPDU⟩,
    ⟨CH_STAT_LOCK, .ro, false, 0x0, rPDU⟩,
    ⟨CH_STAT_PINNED, .ro, false, 0x0, rPDU⟩,
    ⟨CH_STAT_QUEUE, .ro, false, 0x0, rPDU⟩]⟩,
  ⟨CH_ZBP, 1, 0x0, [
    ⟨CH_ZBP_ZBP, .ro, false, 0x0, rPDU⟩]⟩,
  ⟨CH_NBP, 1, 0x0, [
    ⟨CH_NBP_NBP, .ro, false, 0x0, rPDU⟩]⟩,
  ⟨CH_WPER, 1, 0x0, [
    ⟨CH_WPER_WPER, .ro, false, 0x0, rPDU⟩]⟩,
  ⟨CH_TLOOP, 1, 0x0, [
    ⟨CH_TLOOP_KPSA, .rw, true, 0x4, rPDU⟩,
    ⟨CH_TLOOP_KISA, .rw, true, 0x9, rPDU⟩,
    ⟨CH_TLOOP_KPST, .rw, true, 0x6, rPDU⟩,
    ⟨CH_TLOOP_KIST, .rw, true, 0xd, rPDU⟩,
    ⟨CH_TLOOP_FLIM, .rw, true, 0x8, rPDU⟩,
    ⟨CH_TLOOP_ACQL, .rw, true, 0x10, rPDU⟩]⟩,
  ⟨CH_TSTAT, 1, 0x0, [
    ⟨CH_TSTAT_LOCK, .ro, false, 0x0, rPDU⟩,
    ⟨CH_TSTAT_SLIP, .w1c, false, 0x0, rPDU⟩,
    ⟨CH_TSTAT_FOFS, .ro, false, 0x0, rPDU⟩]⟩,
  ⟨CH_AGC, 1, 0x0, [
    ⟨CH_AGC_AT, .rw, true, 0xa0, rPDU⟩,
    ⟨CH_AGC_KAA, .rw, true, 0x4, rPDU⟩,
    ⟨CH_AGC_KAT, .rw, true, 0xa, rPDU⟩,
    ⟨CH_AGC_HOLD, .rw, true, 0x0, rPDU⟩]⟩,
  ⟨CH_FE, 1, 0x0, [
    ⟨CH_FE_LAEN, .rw, true, 0x1, rPDU⟩,
    ⟨CH_FE_LBEN, .rw, true, 0x1, rPDU⟩,
    ⟨CH_FE_CTFK, .rw, true, 0x7, rPDU⟩,
    ⟨CH_FE_BOOST, .rw, true, 0x6, rPDU⟩,
    ⟨CH_FE_SATTH, .rw, true, 0x40, rPDU⟩]⟩,
  ⟨CH_TA, 1, 0x0, [
    ⟨CH_TA_TAEN, .rw, true, 0x1, rPDU⟩,
    ⟨CH_TA_TATH, .rw, true, 0x30, rPDU⟩,
    ⟨CH_TA_TAMIN, .rw, true, 0x8, rPDU⟩,
    ⟨CH_TA_TAMRG, .rw, true, 0x10, rPDU⟩]⟩,
  ⟨CH_LDPC, 1, 0x0, [
    ⟨CH_LDPC_LI, .rw, true, 0xa, rPDU⟩,
    ⟨CH_LDPC_GI, .rw, true, 0x1, rPDU⟩,
    ⟨CH_LDPC_VLI, .rw, true, 0x6, rPDU⟩,
    ⟨CH_LDPC_OFFS, .rw, true, 0x1, rPDU⟩,
    ⟨CH_LDPC_STALL, .rw, true, 0x4, rPDU⟩,
    ⟨CH_LDPC_WTH, .rw, true, 0x4, rPDU⟩]⟩,
  ⟨CH_RETRY, 1, 0x0, [
    ⟨CH_RETRY_STEPS, .rw, true, 0xf, rPDU⟩,
    ⟨CH_RETRY_PIN, .rw, true, 0x4, rPDU⟩]⟩,
  ⟨CH_DSTAT, 1, 0x0, [
    ⟨CH_DSTAT_RESULT, .ro, false, 0x0, rPDU⟩,
    ⟨CH_DSTAT_RSTEP, .ro, false, 0x0, rPDU⟩,
    ⟨CH_DSTAT_GLOB, .ro, false, 0x0, rPDU⟩,
    ⟨CH_DSTAT_ITER, .ro, false, 0x0, rPDU⟩,
    ⟨CH_DSTAT_UNSAT, .ro, false, 0x0, rPDU⟩]⟩,
  ⟨CH_VSTAT, 1, 0x0, [
    ⟨CH_VSTAT_CONV, .ro, false, 0x0, rPDU⟩,
    ⟨CH_VSTAT_VITER, .ro, false, 0x0, rPDU⟩,
    ⟨CH_VSTAT_WEAK, .ro, false, 0x0, rPDU⟩,
    ⟨CH_VSTAT_RAW, .ro, false, 0x0, rPDU⟩]⟩,
  ⟨CH_ADAPT, 1, 0x0, [
    ⟨CH_ADAPT_PEN, .rw, true, 0x1, rPDU⟩,
    ⟨CH_ADAPT_NPEN, .rw, true, 0x1, rPDU⟩,
    ⟨CH_ADAPT_VAEN, .rw, true, 0x1, rPDU⟩,
    ⟨CH_ADAPT_MUE, .rw, true, 0x10, rPDU⟩,
    ⟨CH_ADAPT_MUG, .rw, true, 0x12, rPDU⟩,
    ⟨CH_ADAPT_LAM, .rw, true, 0x6, rPDU⟩,
    ⟨CH_ADAPT_REVEN, .rw, true, 0x1, rPDU⟩,
    ⟨CH_ADAPT_STALE, .rw, true, 0x3c, rPDU⟩,
    ⟨CH_ADAPT_ACT, .rw, true, 0x0, rPDU⟩]⟩,
  ⟨CH_ASTAT, 1, 0x0, [
    ⟨CH_ASTAT_AREQ, .w1c, false, 0x0, rPDU⟩,
    ⟨CH_ASTAT_AHEAD, .ro, false, 0x0, rPDU⟩,
    ⟨CH_ASTAT_AGRP, .ro, false, 0x0, rPDU⟩,
    ⟨CH_ASTAT_REVS, .rc, false, 0x0, rPDU⟩]⟩,
  ⟨CH_AMSE, 1, 0x0, [
    ⟨CH_AMSE_MSE, .ro, false, 0x0, rPDU⟩]⟩,
  ⟨CH_TADDR, 1, 0x0, [
    ⟨CH_TADDR_COMMIT, .wo, true, 0x0, rPDU⟩,
    ⟨CH_TADDR_SRC, .rw, true, 0x0, rPDU⟩,
    ⟨CH_TADDR_HEAD, .rw, true, 0x0, rPDU⟩,
    ⟨CH_TADDR_GRP, .rw, true, 0x0, rPDU⟩,
    ⟨CH_TADDR_WORD, .rw, true, 0x0, rPDU⟩]⟩,
  ⟨CH_TDATA, 1, 0x0, [
    ⟨CH_TDATA_DATA, .rw, true, 0x0, rNone⟩]⟩,
  ⟨CH_IRQS, 1, 0x0, [
    ⟨CH_IRQS_OTF, .w1c, false, 0x0, rPDU⟩,
    ⟨CH_IRQS_RTRY, .w1c, false, 0x0, rPDU⟩,
    ⟨CH_IRQS_TA, .w1c, false, 0x0, rPDU⟩,
    ⟨CH_IRQS_SAT, .w1c, false, 0x0, rPDU⟩,
    ⟨CH_IRQS_SLIP, .w1c, false, 0x0, rPDU⟩,
    ⟨CH_IRQS_AREQ, .w1c, false, 0x0, rPDU⟩,
    ⟨CH_IRQS_AREV, .w1c, false, 0x0, rPDU⟩,
    ⟨CH_IRQS_PINF, .w1c, false, 0x0, rPDU⟩,
    ⟨CH_IRQS_TERR, .w1c, false, 0x0, rPDU⟩,
    ⟨CH_IRQS_NBPR, .w1c, false, 0x0, rPDU⟩,
    ⟨CH_IRQS_CMT, .w1c, false, 0x0, rPDU⟩]⟩,
  ⟨CH_IRQE, 1, 0x0, [
    ⟨CH_IRQE_OTF, .rw, true, 0x0, rPDU⟩,
    ⟨CH_IRQE_RTRY, .rw, true, 0x0, rPDU⟩,
    ⟨CH_IRQE_TA, .rw, true, 0x0, rPDU⟩,
    ⟨CH_IRQE_SAT, .rw, true, 0x0, rPDU⟩,
    ⟨CH_IRQE_SLIP, .rw, true, 0x0, rPDU⟩,
    ⟨CH_IRQE_AREQ, .rw, true, 0x0, rPDU⟩,
    ⟨CH_IRQE_AREV, .rw, true, 0x0, rPDU⟩,
    ⟨CH_IRQE_PINF, .rw, true, 0x0, rPDU⟩,
    ⟨CH_IRQE_TERR, .rw, true, 0x0, rPDU⟩,
    ⟨CH_IRQE_NBPR, .rw, true, 0x0, rPDU⟩,
    ⟨CH_IRQE_CMT, .rw, true, 0x0, rPDU⟩]⟩,
  ⟨CH_CNT, 6, 0x4, [
    ⟨CH_CNT_COUNT, .ro, false, 0x0, rPDU⟩]⟩,
  ⟨CH_HFE0, 6, 0x80, [
    ⟨CH_HFE0_VGAA, .rw, true, 0x78, rPHD⟩,
    ⟨CH_HFE0_VGAB, .rw, true, 0x78, rPHD⟩,
    ⟨CH_HFE0_DCA, .rw, true, 0x0, rPHD⟩,
    ⟨CH_HFE0_DCB, .rw, true, 0x0, rPHD⟩]⟩,
  ⟨CH_HFE1, 6, 0x80, [
    ⟨CH_HFE1_MRAA, .rw, true, 0x0, rPHD⟩,
    ⟨CH_HFE1_MRAB, .rw, true, 0x0, rPHD⟩]⟩,
  ⟨CH_HWR, 6, 0x80, [
    ⟨CH_HWR_SWING, .rw, true, 0x4, rPHD⟩,
    ⟨CH_HWR_PC1, .rw, true, 0x0, rPHD⟩,
    ⟨CH_HWR_PC2, .rw, true, 0x0, rPHD⟩]⟩,
  ⟨CH_BRG, 1, 0x0, [
    ⟨CH_BRG_BUSY, .ro, false, 0x0, rPHDU⟩,
    ⟨CH_BRG_FAR, .ro, false, 0x1, rPHD⟩,
    ⟨CH_BRG_SIZE, .w1c, false, 0x0, rPHDU⟩,
    ⟨CH_BRG_LOST, .ro, false, 0x0, rPHDU⟩,
    ⟨CH_BRG_LOSTS, .w1c, false, 0x0, rPHDU⟩,
    ⟨CH_BRG_LSRC, .ro, false, 0xf, rPHDU⟩,
    ⟨CH_BRG_LOFF, .ro, false, 0x0, rPHDU⟩]⟩]

/-- The registers of page FM. -/
def regsFM : List RegDef := [
  ⟨FM_SFMT, 1, 0x0, [
    ⟨FM_SFMT_PRE, .rw, true, 0xc, rPDU⟩,
    ⟨FM_SFMT_RSY, .rw, true, 0x8, rPDU⟩,
    ⟨FM_SFMT_PAD, .rw, true, 0x40, rPDU⟩]⟩,
  ⟨FM_MARK, 1, 0x0, [
    ⟨FM_MARK_W, .rw, true, 0x18, rPDU⟩,
    ⟨FM_MARK_MTH, .rw, true, 0xc0, rPDU⟩,
    ⟨FM_MARK_MSTEP, .rw, true, 0x10, rPDU⟩,
    ⟨FM_MARK_MRETRY, .rw, true, 0x3, rPDU⟩]⟩,
  ⟨FM_VCRIT, 1, 0x0, [
    ⟨FM_VCRIT_RAWMAX, .rw, true, 0x800, rPDU⟩,
    ⟨FM_VCRIT_RAWWARN, .rw, true, 0x400, rPDU⟩]⟩,
  ⟨FM_VCRIT2, 1, 0x0, [
    ⟨FM_VCRIT2_WKMAX, .rw, true, 0x3ff, rPDU⟩,
    ⟨FM_VCRIT2_WRETRY, .rw, true, 0x1, rPDU⟩,
    ⟨FM_VCRIT2_RREV, .rw, true, 0x8, rPDU⟩,
    ⟨FM_VCRIT2_RLTH, .rw, true, 0x4, rPDU⟩]⟩,
  ⟨FM_GATE, 1, 0x0, [
    ⟨FM_GATE_HPRE, .rw, true, 0x28, rPDU⟩,
    ⟨FM_GATE_LPRE, .rw, true, 0xa, rPDU⟩,
    ⟨FM_GATE_LPOST, .rw, true, 0xa, rPDU⟩,
    ⟨FM_GATE_WGLEAD, .rw, true, 0x10, rPDU⟩]⟩,
  ⟨FM_RSTAT, 1, 0x0, [
    ⟨FM_RSTAT_OUT, .ro, false, 0x0, rPDU⟩,
    ⟨FM_RSTAT_CAND, .ro, false, 0x0, rPDU⟩,
    ⟨FM_RSTAT_SCORE, .ro, false, 0x0, rPDU⟩,
    ⟨FM_RSTAT_MOFS, .ro, false, 0x0, rPDU⟩,
    ⟨FM_RSTAT_REV, .ro, false, 0x0, rPDU⟩]⟩,
  ⟨FM_WSTAT, 1, 0x0, [
    ⟨FM_WSTAT_OUT, .ro, false, 0x0, rPDU⟩,
    ⟨FM_WSTAT_TRY, .ro, false, 0x0, rPDU⟩,
    ⟨FM_WSTAT_SPARE, .ro, false, 0x0, rPDU⟩]⟩,
  ⟨FM_LHEAD, 1, 0x0, [
    ⟨FM_LHEAD_VALUE, .rw, true, 0x0, rPDU⟩]⟩,
  ⟨FM_LTAIL, 1, 0x0, [
    ⟨FM_LTAIL_VALUE, .rw, true, 0x0, rPDU⟩]⟩,
  ⟨FM_LSEQL, 1, 0x0, [
    ⟨FM_LSEQL_VALUE, .rw, true, 0x0, rPDU⟩]⟩,
  ⟨FM_LSEQH, 1, 0x0, [
    ⟨FM_LSEQH_VALUE, .rw, true, 0x0, rPDU⟩]⟩,
  ⟨FM_LDSEQL, 1, 0x0, [
    ⟨FM_LDSEQL_VALUE, .rw, true, 0x0, rPDU⟩]⟩,
  ⟨FM_LDSEQH, 1, 0x0, [
    ⟨FM_LDSEQH_VALUE, .rw, true, 0x0, rPDU⟩]⟩,
  ⟨FM_DEFS, 1, 0x0, [
    ⟨FM_DEFS_GUSED, .ro, false, 0x0, rPDU⟩,
    ⟨FM_DEFS_POOLFREE, .ro, false, 0x0, rPDU⟩]⟩,
  ⟨FM_DEFS2, 1, 0x0, [
    ⟨FM_DEFS2_RESFREE, .ro, false, 0x0, rPDU⟩,
    ⟨FM_DEFS2_LPINS, .ro, false, 0x0, rPDU⟩]⟩,
  ⟨FM_SIRQS, 1, 0x0, [
    ⟨FM_SIRQS_MISS, .w1c, false, 0x0, rPDU⟩,
    ⟨FM_SIRQS_RFAIL, .w1c, false, 0x0, rPDU⟩,
    ⟨FM_SIRQS_VFAIL, .w1c, false, 0x0, rPDU⟩,
    ⟨FM_SIRQS_MARG, .w1c, false, 0x0, rPDU⟩,
    ⟨FM_SIRQS_REASG, .w1c, false, 0x0, rPDU⟩,
    ⟨FM_SIRQS_POOLLOW, .w1c, false, 0x0, rPDU⟩,
    ⟨FM_SIRQS_PFLT, .w1c, false, 0x0, rPDU⟩,
    ⟨FM_SIRQS_WINH, .w1c, false, 0x0, rPDU⟩,
    ⟨FM_SIRQS_LLOW, .w1c, false, 0x0, rPDU⟩,
    ⟨FM_SIRQS_LFULL, .w1c, false, 0x0, rPDU⟩,
    ⟨FM_SIRQS_MMLIM, .w1c, false, 0x0, rPDU⟩,
    ⟨FM_SIRQS_REFUSE, .w1c, false, 0x0, rPDU⟩]⟩,
  ⟨FM_SIRQE, 1, 0x0, [
    ⟨FM_SIRQE_MISS, .rw, true, 0x0, rPDU⟩,
    ⟨FM_SIRQE_RFAIL, .rw, true, 0x0, rPDU⟩,
    ⟨FM_SIRQE_VFAIL, .rw, true, 0x0, rPDU⟩,
    ⟨FM_SIRQE_MARG, .rw, true, 0x0, rPDU⟩,
    ⟨FM_SIRQE_REASG, .rw, true, 0x0, rPDU⟩,
    ⟨FM_SIRQE_POOLLOW, .rw, true, 0x0, rPDU⟩,
    ⟨FM_SIRQE_PFLT, .rw, true, 0x0, rPDU⟩,
    ⟨FM_SIRQE_WINH, .rw, true, 0x0, rPDU⟩,
    ⟨FM_SIRQE_LLOW, .rw, true, 0x0, rPDU⟩,
    ⟨FM_SIRQE_LFULL, .rw, true, 0x0, rPDU⟩,
    ⟨FM_SIRQE_MMLIM, .rw, true, 0x0, rPDU⟩,
    ⟨FM_SIRQE_REFUSE, .rw, true, 0x0, rPDU⟩]⟩,
  ⟨FM_SCNT, 8, 0x4, [
    ⟨FM_SCNT_COUNT, .ro, false, 0x0, rPDU⟩]⟩,
  ⟨FM_MCTL, 1, 0x0, [
    ⟨FM_MCTL_RUN, .rw, true, 0x0, rPDU⟩]⟩,
  ⟨FM_MSTAT, 1, 0x0, [
    ⟨FM_MSTAT_IDLE, .ro, false, 0x1, rPDU⟩,
    ⟨FM_MSTAT_IACT, .ro, false, 0x0, rPDU⟩,
    ⟨FM_MSTAT_ILEV, .ro, false, 0x0, rPDU⟩,
    ⟨FM_MSTAT_FHALT, .ro, false, 0x0, rPDU⟩,
    ⟨FM_MSTAT_SDEPTH, .ro, false, 0x0, rPDU⟩,
    ⟨FM_MSTAT_OVR, .w1c, false, 0x0, rPDU⟩,
    ⟨FM_MSTAT_PC, .ro, false, 0x0, rPDU⟩]⟩,
  ⟨FM_PROG, 1, 0x0, [
    ⟨FM_PROG_VALUE, .ro, false, 0x0, rPDU⟩]⟩,
  ⟨FM_IRET, 1, 0x0, [
    ⟨FM_IRET_VALUE, .ro, false, 0x0, rPDU⟩]⟩,
  ⟨FM_MOUT, 4, 0x4, [
    ⟨FM_MOUT_VALUE, .ro, false, 0x0, rPDU⟩]⟩,
  ⟨FM_RQW, 4, 0x4, [
    ⟨FM_RQW_WORD, .rw, true, 0x0, rPDU⟩]⟩,
  ⟨FM_RQPUSH, 1, 0x0, [
    ⟨FM_RQPUSH_PUSH, .wo, true, 0x0, rPDU⟩]⟩,
  ⟨FM_RQSTAT, 1, 0x0, [
    ⟨FM_RQSTAT_DEPTH, .ro, false, 0x0, rPDU⟩,
    ⟨FM_RQSTAT_RUNNING, .ro, false, 0x0, rPDU⟩,
    ⟨FM_RQSTAT_TAG, .ro, false, 0x0, rPDU⟩]⟩,
  ⟨FM_RQDONE, 1, 0x0, [
    ⟨FM_RQDONE_STATUS, .ro, false, 0x0, rPDU⟩,
    ⟨FM_RQDONE_TAG, .ro, false, 0x0, rPDU⟩]⟩,
  ⟨FM_INT, 1, 0x0, [
    ⟨FM_INT_FWREQ, .w1s, false, 0x0, rPDU⟩,
    ⟨FM_INT_PEND, .ro, false, 0x0, rPDU⟩]⟩,
  ⟨FM_INTARG, 1, 0x0, [
    ⟨FM_INTARG_ARG, .rw, true, 0x0, rPDU⟩]⟩,
  ⟨FM_SGT, 1, 0x0, [
    ⟨FM_SGT_SGTAIL, .rw, true, 0x10, rPDU⟩,
    ⟨FM_SGT_SAMB, .rw, true, 0x0, rPDU⟩]⟩,
  ⟨FM_BC, 1, 0x0, [
    ⟨FM_BC_WEDGE, .ro, false, 0x0, rPDU⟩,
    ⟨FM_BC_BC, .ro, false, 0x0, rPDU⟩]⟩,
  ⟨FM_SQSTAT, 1, 0x0, [
    ⟨FM_SQSTAT_SELHEAD, .ro, false, 0x7, rPDU⟩,
    ⟨FM_SQSTAT_RUNOPEN, .ro, false, 0x0, rPDU⟩,
    ⟨FM_SQSTAT_VRPT, .ro, false, 0x0, rPDU⟩,
    ⟨FM_SQSTAT_RPTQ, .ro, false, 0x0, rPDU⟩,
    ⟨FM_SQSTAT_SQ, .ro, false, 0x0, rPDU⟩]⟩,
  ⟨FM_PLADL, 1, 0x0, [
    ⟨FM_PLADL_ADDR, .rw, true, 0x0, rPDU⟩]⟩,
  ⟨FM_PLADH, 1, 0x0, [
    ⟨FM_PLADH_ADDR, .rw, true, 0x0, rPDU⟩]⟩,
  ⟨FM_PLOAD, 1, 0x0, [
    ⟨FM_PLOAD_START, .wo, true, 0x0, rPDU⟩]⟩,
  ⟨FM_PSTAT, 1, 0x0, [
    ⟨FM_PSTAT_STATE, .ro, false, 0x0, rPHD⟩,
    ⟨FM_PSTAT_FAIL, .ro, false, 0x0, rPHD⟩]⟩,
  ⟨FM_PVER, 1, 0x0, [
    ⟨FM_PVER_PVER, .ro, false, 0x0, rPHD⟩]⟩,
  ⟨FM_BVER, 1, 0x0, [
    ⟨FM_BVER_BVER, .ro, false, 0x10400, rNone⟩]⟩,
  ⟨FM_MIRQS, 1, 0x0, [
    ⟨FM_MIRQS_USER, .w1c, false, 0x0, rPDU⟩,
    ⟨FM_MIRQS_DONE, .w1c, false, 0x0, rPDU⟩,
    ⟨FM_MIRQS_OVR, .w1c, false, 0x0, rPDU⟩,
    ⟨FM_MIRQS_ILL, .w1c, false, 0x0, rPDU⟩,
    ⟨FM_MIRQS_PLDONE, .w1c, false, 0x0, rPDU⟩,
    ⟨FM_MIRQS_PLFAIL, .w1c, false, 0x0, rPDU⟩,
    ⟨FM_MIRQS_RQDROP, .w1c, false, 0x0, rPDU⟩,
    ⟨FM_MIRQS_UERR, .w1c, false, 0x0, rPDU⟩]⟩,
  ⟨FM_MIRQE, 1, 0x0, [
    ⟨FM_MIRQE_USER, .rw, true, 0x0, rPDU⟩,
    ⟨FM_MIRQE_DONE, .rw, true, 0x0, rPDU⟩,
    ⟨FM_MIRQE_OVR, .rw, true, 0x0, rPDU⟩,
    ⟨FM_MIRQE_ILL, .rw, true, 0x0, rPDU⟩,
    ⟨FM_MIRQE_PLDONE, .rw, true, 0x0, rPDU⟩,
    ⟨FM_MIRQE_PLFAIL, .rw, true, 0x0, rPDU⟩,
    ⟨FM_MIRQE_RQDROP, .rw, true, 0x0, rPDU⟩,
    ⟨FM_MIRQE_UERR, .rw, true, 0x0, rPDU⟩]⟩,
  ⟨FM_MCNT, 4, 0x4, [
    ⟨FM_MCNT_COUNT, .ro, false, 0x0, rPDU⟩]⟩,
  ⟨FM_BRG, 1, 0x0, [
    ⟨FM_BRG_BUSY, .ro, false, 0x0, rPHDU⟩,
    ⟨FM_BRG_FAR, .ro, false, 0x1, rPHD⟩,
    ⟨FM_BRG_SIZE, .w1c, false, 0x0, rPHDU⟩,
    ⟨FM_BRG_LOST, .ro, false, 0x0, rPHDU⟩,
    ⟨FM_BRG_LOSTS, .w1c, false, 0x0, rPHDU⟩,
    ⟨FM_BRG_LSRC, .ro, false, 0xf, rPHDU⟩,
    ⟨FM_BRG_LOFF, .ro, false, 0x0, rPHDU⟩]⟩]

/-- The registers of page SV. -/
def regsSV : List RegDef := [
  ⟨SV_CTL, 1, 0x0, [
    ⟨SV_CTL_ENA, .rw, true, 0x0, rPDU⟩,
    ⟨SV_CTL_MAEN, .rw, true, 0x1, rPDU⟩,
    ⟨SV_CTL_RCEN, .rw, true, 0x0, rPDU⟩,
    ⟨SV_CTL_PREDEN, .rw, true, 0x1, rPDU⟩]⟩,
  ⟨SV_STAT, 1, 0x0, [
    ⟨SV_STAT_LOCK, .ro, false, 0x0, rPDU⟩,
    ⟨SV_STAT_STATE, .ro, false, 0x0, rPDU⟩,
    ⟨SV_STAT_ONTRK, .ro, false, 0x0, rPDU⟩,
    ⟨SV_STAT_WUNSAFE, .ro, false, 0x1, rPDU⟩,
    ⟨SV_STAT_HEAD, .ro, false, 0x7, rPDU⟩,
    ⟨SV_STAT_SAT, .ro, false, 0x0, rPDU⟩,
    ⟨SV_STAT_MASAT, .ro, false, 0x0, rPDU⟩,
    ⟨SV_STAT_MISS, .ro, false, 0x0, rPDU⟩]⟩,
  ⟨SV_SEEK, 1, 0x0, [
    ⟨SV_SEEK_HEAD, .wo, true, 0x0, rPDU⟩,
    ⟨SV_SEEK_TRACK, .wo, true, 0x0, rPDU⟩]⟩,
  ⟨SV_TGT, 1, 0x0, [
    ⟨SV_TGT_HEAD, .ro, false, 0x7, rPDU⟩,
    ⟨SV_TGT_TRACK, .ro, false, 0x0, rPDU⟩]⟩,
  ⟨SV_POS, 1, 0x0, [
    ⟨SV_POS_TRACK, .ro, false, 0x0, rPDU⟩]⟩,
  ⟨SV_PES, 1, 0x0, [
    ⟨SV_PES_EC, .ro, false, 0x0, rPDU⟩]⟩,
  ⟨SV_VEL, 1, 0x0, [
    ⟨SV_VEL_VEL, .ro, false, 0x0, rPDU⟩]⟩,
  ⟨SV_TOFS, 1, 0x0, [
    ⟨SV_TOFS_TOFS, .rw, true, 0x0, rPDU⟩]⟩,
  ⟨SV_LIM, 1, 0x0, [
    ⟨SV_LIM_WUTH, .rw, true, 0x80, rPDU⟩,
    ⟨SV_LIM_SETTH, .rw, true, 0x40, rPDU⟩,
    ⟨SV_LIM_NSET, .rw, true, 0x8, rPDU⟩,
    ⟨SV_LIM_HOVTH, .rw, true, 0x800, rPDU⟩]⟩,
  ⟨SV_VMAX, 1, 0x0, [
    ⟨SV_VMAX_VMAX, .rw, true, 0xea60, rPDU⟩]⟩,
  ⟨SV_AMAX, 1, 0x0, [
    ⟨SV_AMAX_AMAX, .rw, true, 0x1f40, rPDU⟩]⟩,
  ⟨SV_JMAX, 1, 0x0, [
    ⟨SV_JMAX_JMAX, .rw, true, 0x9c40, rPDU⟩]⟩,
  ⟨SV_AFS, 1, 0x0, [
    ⟨SV_AFS_AFS, .rw, true, 0x2ee0, rPDU⟩]⟩,
  ⟨SV_MA, 1, 0x0, [
    ⟨SV_MA_MALIM, .rw, true, 0x800, rPDU⟩]⟩,
  ⟨SV_ROT, 1, 0x0, [
    ⟨SV_ROT_PP, .rw, true, 0x0, rPDU⟩]⟩,
  ⟨SV_SPD, 1, 0x0, [
    ⟨SV_SPD_RPM, .ro, false, 0x0, rPDU⟩,
    ⟨SV_SPD_LAM, .ro, false, 0x0, rPDU⟩]⟩,
  ⟨SV_WPER, 1, 0x0, [
    ⟨SV_WPER_WPER, .ro, false, 0x0, rPDU⟩]⟩,
  ⟨SV_RC, 1, 0x0, [
    ⟨SV_RC_ARM, .rw, true, 0x0, rPDU⟩,
    ⟨SV_RC_KIND, .rw, true, 0x0, rPDU⟩,
    ⟨SV_RC_HEAD, .rw, true, 0x0, rPDU⟩,
    ⟨SV_RC_ZONE, .rw, true, 0x0, rPDU⟩,
    ⟨SV_RC_NR, .rw, true, 0x4, rPDU⟩,
    ⟨SV_RC_KSH, .rw, true, 0x1, rPDU⟩,
    ⟨SV_RC_LEAD, .rw, true, 0x3, rPDU⟩,
    ⟨SV_RC_COMMIT, .wo, true, 0x0, rPDU⟩]⟩,
  ⟨SV_RCSTAT, 1, 0x0, [
    ⟨SV_RCSTAT_READY, .ro, false, 0x0, rPDU⟩,
    ⟨SV_RCSTAT_BUSY, .ro, false, 0x0, rPDU⟩,
    ⟨SV_RCSTAT_REVS, .ro, false, 0x0, rPDU⟩]⟩,
  ⟨SV_CADDR, 1, 0x0, [
    ⟨SV_CADDR_COMMIT, .wo, true, 0x0, rPDU⟩,
    ⟨SV_CADDR_SRC, .rw, true, 0x0, rPDU⟩,
    ⟨SV_CADDR_BANK, .rw, true, 0x0, rPDU⟩,
    ⟨SV_CADDR_WORD, .rw, true, 0x0, rPDU⟩]⟩,
  ⟨SV_CDATA, 1, 0x0, [
    ⟨SV_CDATA_DATA, .rw, true, 0x0, rNone⟩]⟩,
  ⟨SV_IRQS, 1, 0x0, [
    ⟨SV_IRQS_LOCKL, .w1c, false, 0x0, rPDU⟩,
    ⟨SV_IRQS_MISS, .w1c, false, 0x0, rPDU⟩,
    ⟨SV_IRQS_WUS, .w1c, false, 0x0, rPDU⟩,
    ⟨SV_IRQS_SKDONE, .w1c, false, 0x0, rPDU⟩,
    ⟨SV_IRQS_SKERR, .w1c, false, 0x0, rPDU⟩,
    ⟨SV_IRQS_SKREF, .w1c, false, 0x0, rPDU⟩,
    ⟨SV_IRQS_SWAP, .w1c, false, 0x0, rPDU⟩,
    ⟨SV_IRQS_CREF, .w1c, false, 0x0, rPDU⟩,
    ⟨SV_IRQS_RCRDY, .w1c, false, 0x0, rPDU⟩,
    ⟨SV_IRQS_RCCMT, .w1c, false, 0x0, rPDU⟩,
    ⟨SV_IRQS_BAND, .w1c, false, 0x0, rPDU⟩,
    ⟨SV_IRQS_RETR, .w1c, false, 0x0, rPDU⟩]⟩,
  ⟨SV_IRQE, 1, 0x0, [
    ⟨SV_IRQE_LOCKL, .rw, true, 0x0, rPDU⟩,
    ⟨SV_IRQE_MISS, .rw, true, 0x0, rPDU⟩,
    ⟨SV_IRQE_WUS, .rw, true, 0x0, rPDU⟩,
    ⟨SV_IRQE_SKDONE, .rw, true, 0x0, rPDU⟩,
    ⟨SV_IRQE_SKERR, .rw, true, 0x0, rPDU⟩,
    ⟨SV_IRQE_SKREF, .rw, true, 0x0, rPDU⟩,
    ⟨SV_IRQE_SWAP, .rw, true, 0x0, rPDU⟩,
    ⟨SV_IRQE_CREF, .rw, true, 0x0, rPDU⟩,
    ⟨SV_IRQE_RCRDY, .rw, true, 0x0, rPDU⟩,
    ⟨SV_IRQE_RCCMT, .rw, true, 0x0, rPDU⟩,
    ⟨SV_IRQE_BAND, .rw, true, 0x0, rPDU⟩,
    ⟨SV_IRQE_RETR, .rw, true, 0x0, rPDU⟩]⟩,
  ⟨SV_CNT, 6, 0x4, [
    ⟨SV_CNT_COUNT, .ro, false, 0x0, rPDU⟩]⟩,
  ⟨SV_HEOFS, 6, 0x40, [
    ⟨SV_HEOFS_VALID, .rw, true, 0x0, rPHD⟩,
    ⟨SV_HEOFS_EOFS, .rw, true, 0x0, rPHD⟩]⟩,
  ⟨SV_HGAIN, 6, 0x40, [
    ⟨SV_HGAIN_GTRIM, .rw, true, 0x4000, rPHD⟩]⟩,
  ⟨SV_HBAND0, 6, 0x40, [
    ⟨SV_HBAND0_CRLO, .rw, true, 0x0, rPHD⟩,
    ⟨SV_HBAND0_CRHI, .rw, true, 0xffff, rPHD⟩]⟩,
  ⟨SV_HBAND1, 6, 0x40, [
    ⟨SV_HBAND1_CWLO, .rw, true, 0x0, rPHD⟩,
    ⟨SV_HBAND1_CWHI, .rw, true, 0xffff, rPHD⟩]⟩,
  ⟨SV_HBAND2, 6, 0x40, [
    ⟨SV_HBAND2_LLO, .rw, true, 0x8000, rPHD⟩,
    ⟨SV_HBAND2_LHI, .rw, true, 0x7fff, rPHD⟩]⟩,
  ⟨SV_HBLIM, 6, 0x40, [
    ⟨SV_HBLIM_HMIN, .rw, true, 0x0, rPHD⟩,
    ⟨SV_HBLIM_HMAX, .rw, true, 0x0, rPHD⟩,
    ⟨SV_HBLIM_LBMIN, .rw, true, 0x0, rPHD⟩,
    ⟨SV_HBLIM_LBMAX, .rw, true, 0x0, rPHD⟩]⟩,
  ⟨SV_HBCTL, 6, 0x40, [
    ⟨SV_HBCTL_RDEN, .rw, true, 0x0, rPHD⟩,
    ⟨SV_HBCTL_WREN, .rw, true, 0x0, rPHD⟩,
    ⟨SV_HBCTL_LBEN, .rw, true, 0x0, rPHD⟩,
    ⟨SV_HBCTL_APPLY, .w1s, true, 0x0, rPHDU⟩,
    ⟨SV_HBCTL_NBS, .rw, true, 0x6, rPHD⟩,
    ⟨SV_HBCTL_PHTRW, .ro, false, 0x0, rPDU⟩,
    ⟨SV_HBCTL_PLSRB, .ro, false, 0x0, rPDU⟩,
    ⟨SV_HBCTL_PWV, .ro, false, 0x0, rPDU⟩,
    ⟨SV_HBCTL_PLV, .ro, false, 0x0, rPDU⟩]⟩,
  ⟨SV_HCLR, 6, 0x40, [
    ⟨SV_HCLR_CLR, .ro, false, 0x0, rPDU⟩]⟩,
  ⟨SV_BRG, 1, 0x0, [
    ⟨SV_BRG_BUSY, .ro, false, 0x0, rPHDU⟩,
    ⟨SV_BRG_FAR, .ro, false, 0x1, rPHD⟩,
    ⟨SV_BRG_SIZE, .w1c, false, 0x0, rPHDU⟩,
    ⟨SV_BRG_LOST, .ro, false, 0x0, rPHDU⟩,
    ⟨SV_BRG_LOSTS, .w1c, false, 0x0, rPHDU⟩,
    ⟨SV_BRG_LSRC, .ro, false, 0xf, rPHDU⟩,
    ⟨SV_BRG_LOFF, .ro, false, 0x0, rPHDU⟩]⟩]

/-- The registers of page PA. -/
def regsPA : List RegDef := [
  ⟨PA_SIF_CMD, 1, 0x0, [
    ⟨PA_SIF_CMD_RD, .rw, true, 0x0, rPDU⟩,
    ⟨PA_SIF_CMD_HEAD, .rw, true, 0x0, rPDU⟩,
    ⟨PA_SIF_CMD_ADDR, .rw, true, 0x0, rPDU⟩,
    ⟨PA_SIF_CMD_DIV, .rw, true, 0x0, rPDU⟩,
    ⟨PA_SIF_CMD_WDATA, .rw, true, 0x0, rPDU⟩]⟩,
  ⟨PA_SIF_STAT, 1, 0x0, [
    ⟨PA_SIF_STAT_ACTIVE, .ro, false, 0x0, rPDU⟩,
    ⟨PA_SIF_STAT_DROP, .w1c, false, 0x0, rPDU⟩,
    ⟨PA_SIF_STAT_ACK, .ro, false, 0x0, rPDU⟩,
    ⟨PA_SIF_STAT_RPERR, .ro, false, 0x0, rPDU⟩,
    ⟨PA_SIF_STAT_RDATA, .ro, false, 0x0, rPDU⟩]⟩,
  ⟨PA_FLT, 1, 0x0, [
    ⟨PA_FLT_PIN, .ro, false, 0x0, rPDU⟩,
    ⟨PA_FLT_LATCH, .w1c, false, 0x0, rPDU⟩,
    ⟨PA_FLT_CODE, .ro, false, 0x0, rPDU⟩]⟩,
  ⟨PA_HLVL, 6, 0x20, [
    ⟨PA_HLVL_HTRR, .rw, true, 0x0, rPHD⟩,
    ⟨PA_HLVL_HTRW, .rw, true, 0x0, rPHD⟩,
    ⟨PA_HLVL_LSRW, .rw, true, 0x0, rPHD⟩,
    ⟨PA_HLVL_LSRB, .rw, true, 0x0, rPHD⟩]⟩,
  ⟨PA_HBIAS, 6, 0x20, [
    ⟨PA_HBIAS_RBA, .rw, true, 0x0, rPHD⟩,
    ⟨PA_HBIAS_RBB, .rw, true, 0x0, rPHD⟩,
    ⟨PA_HBIAS_WCUR, .rw, true, 0x0, rPHD⟩]⟩,
  ⟨PA_HSTAT, 6, 0x20, [
    ⟨PA_HSTAT_SYNC, .ro, false, 0x0, rPDU⟩]⟩,
  ⟨PA_BRG, 1, 0x0, [
    ⟨PA_BRG_BUSY, .ro, false, 0x0, rPHDU⟩,
    ⟨PA_BRG_FAR, .ro, false, 0x1, rPHD⟩,
    ⟨PA_BRG_SIZE, .w1c, false, 0x0, rPHDU⟩,
    ⟨PA_BRG_LOST, .ro, false, 0x0, rPHDU⟩,
    ⟨PA_BRG_LOSTS, .w1c, false, 0x0, rPHDU⟩,
    ⟨PA_BRG_LSRC, .ro, false, 0xf, rPHDU⟩,
    ⟨PA_BRG_LOFF, .ro, false, 0x0, rPHDU⟩]⟩]

/-- The registers of page SP. -/
def regsSP : List RegDef := [
  ⟨SP_CMD, 1, 0x0, [
    ⟨SP_CMD_CMD, .wo, true, 0x0, rPDU⟩]⟩,
  ⟨SP_CTL, 1, 0x0, [
    ⟨SP_CTL_GOV, .rw, true, 0x1, rPDU⟩,
    ⟨SP_CTL_WSRC, .rw, true, 0x0, rPDU⟩,
    ⟨SP_CTL_WFBEN, .rw, true, 0x1, rPDU⟩]⟩,
  ⟨SP_STAT, 1, 0x0, [
    ⟨SP_STAT_STATE, .ro, false, 0x8, rPDU⟩,
    ⟨SP_STAT_CSRC, .ro, false, 0x0, rPDU⟩,
    ⟨SP_STAT_DIR, .ro, false, 0x0, rPDU⟩,
    ⟨SP_STAT_VCLAMP, .ro, false, 0x0, rPDU⟩,
    ⟨SP_STAT_FW, .ro, false, 0x0, rPDU⟩,
    ⟨SP_STAT_WCAR, .ro, false, 0x7, rPDU⟩,
    ⟨SP_STAT_ATTEMPT, .ro, false, 0x0, rPDU⟩,
    ⟨SP_STAT_CONF, .ro, false, 0x0, rPDU⟩]⟩,
  ⟨SP_TGT, 1, 0x0, [
    ⟨SP_TGT_RPM, .rw, true, 0xe10, rPDU⟩]⟩,
  ⟨SP_SPD, 1, 0x0, [
    ⟨SP_SPD_REF, .ro, false, 0x0, rPDU⟩,
    ⟨SP_SPD_RPM, .ro, false, 0x0, rPDU⟩]⟩,
  ⟨SP_GLIM, 1, 0x0, [
    ⟨SP_GLIM_CEIL, .rw, true, 0x1c20, rPD⟩,
    ⟨SP_GLIM_FLOOR, .rw, true, 0xe10, rPD⟩]⟩,
  ⟨SP_RATE, 1, 0x0, [
    ⟨SP_RATE_GRATE, .rw, true, 0x78, rPDU⟩,
    ⟨SP_RATE_BRATE, .rw, true, 0x0, rPDU⟩]⟩,
  ⟨SP_GOV, 1, 0x0, [
    ⟨SP_GOV_UHI, .rw, true, 0x4b, rPDU⟩,
    ⟨SP_GOV_ULO, .rw, true, 0x25, rPDU⟩,
    ⟨SP_GOV_DWELL, .rw, true, 0x14, rPDU⟩,
    ⟨SP_GOV_STEPUP, .rw, true, 0x9, rPDU⟩,
    ⟨SP_GOV_STEPDN, .rw, true, 0x3, rPDU⟩]⟩,
  ⟨SP_LIM, 1, 0x0, [
    ⟨SP_LIM_MMAX, .rw, true, 0xf6, rPDU⟩,
    ⟨SP_LIM_FWTH, .rw, true, 0xec, rPDU⟩,
    ⟨SP_LIM_IMAX, .rw, true, 0x0, rPDU⟩]⟩,
  ⟨SP_CLG, 1, 0x0, [
    ⟨SP_CLG_KPC, .rw, true, 0x0, rPDU⟩,
    ⟨SP_CLG_KIC, .rw, true, 0x0, rPDU⟩]⟩,
  ⟨SP_SLG, 1, 0x0, [
    ⟨SP_SLG_KPW, .rw, true, 0x0, rPDU⟩,
    ⟨SP_SLG_KIW, .rw, true, 0x0, rPDU⟩]⟩,
  ⟨SP_OBS, 1, 0x0, [
    ⟨SP_OBS_CLOCK, .rw, true, 0xa0, rPDU⟩,
    ⟨SP_OBS_CLOST, .rw, true, 0x40, rPDU⟩]⟩,
  ⟨SP_ECAL, 4, 0x4, [
    ⟨SP_ECAL_START, .w1s, true, 0x0, rPDU⟩,
    ⟨SP_ECAL_DONE, .ro, false, 0x0, rPDU⟩,
    ⟨SP_ECAL_FAIL, .ro, false, 0x0, rPDU⟩,
    ⟨SP_ECAL_COUNT, .ro, false, 0x0, rPDU⟩,
    ⟨SP_ECAL_EOFS, .ro, false, 0x0, rPDU⟩]⟩,
  ⟨SP_IRQS, 1, 0x0, [
    ⟨SP_IRQS_ATSPD, .w1c, false, 0x0, rPDU⟩,
    ⟨SP_IRQS_LOCK, .w1c, false, 0x0, rPDU⟩,
    ⟨SP_IRQS_OLOST, .w1c, false, 0x0, rPDU⟩,
    ⟨SP_IRQS_WSW, .w1c, false, 0x0, rPDU⟩,
    ⟨SP_IRQS_RECATCH, .w1c, false, 0x0, rPDU⟩,
    ⟨SP_IRQS_STFAIL, .w1c, false, 0x0, rPDU⟩,
    ⟨SP_IRQS_VCLAMP, .w1c, false, 0x0, rPDU⟩,
    ⟨SP_IRQS_PLOSS, .w1c, false, 0x0, rPDU⟩,
    ⟨SP_IRQS_PWRBACK, .w1c, false, 0x0, rPDU⟩,
    ⟨SP_IRQS_ECAL, .w1c, false, 0x0, rPDU⟩,
    ⟨SP_IRQS_OCUR, .w1c, false, 0x0, rPDU⟩,
    ⟨SP_IRQS_CREF, .w1c, false, 0x0, rPDU⟩]⟩,
  ⟨SP_IRQE, 1, 0x0, [
    ⟨SP_IRQE_ATSPD, .rw, true, 0x0, rPDU⟩,
    ⟨SP_IRQE_LOCK, .rw, true, 0x0, rPDU⟩,
    ⟨SP_IRQE_OLOST, .rw, true, 0x0, rPDU⟩,
    ⟨SP_IRQE_WSW, .rw, true, 0x0, rPDU⟩,
    ⟨SP_IRQE_RECATCH, .rw, true, 0x0, rPDU⟩,
    ⟨SP_IRQE_STFAIL, .rw, true, 0x0, rPDU⟩,
    ⟨SP_IRQE_VCLAMP, .rw, true, 0x0, rPDU⟩,
    ⟨SP_IRQE_PLOSS, .rw, true, 0x0, rPDU⟩,
    ⟨SP_IRQE_PWRBACK, .rw, true, 0x0, rPDU⟩,
    ⟨SP_IRQE_ECAL, .rw, true, 0x0, rPDU⟩,
    ⟨SP_IRQE_OCUR, .rw, true, 0x0, rPDU⟩,
    ⟨SP_IRQE_CREF, .rw, true, 0x0, rPDU⟩]⟩,
  ⟨SP_CNT, 6, 0x4, [
    ⟨SP_CNT_COUNT, .ro, false, 0x0, rPDU⟩]⟩,
  ⟨SP_VBUS, 1, 0x0, [
    ⟨SP_VBUS_V12, .ro, false, 0x0, rPDU⟩,
    ⟨SP_VBUS_V5, .ro, false, 0x0, rPDU⟩]⟩,
  ⟨SP_PLTH, 1, 0x0, [
    ⟨SP_PLTH_PL12, .rw, true, 0x2a30, rPDU⟩,
    ⟨SP_PLTH_PL5, .rw, true, 0x1194, rPDU⟩]⟩,
  ⟨SP_HU, 1, 0x0, [
    ⟨SP_HU_VHU, .rw, true, 0x2328, rPDU⟩,
    ⟨SP_HU_VBRK, .rw, true, 0x3390, rPDU⟩]⟩,
  ⟨SP_PSTAT, 1, 0x0, [
    ⟨SP_PSTAT_PLOSS, .ro, false, 0x0, rPD⟩,
    ⟨SP_PSTAT_HU, .ro, false, 0x0, rPD⟩,
    ⟨SP_PSTAT_CAUSE, .ro, false, 0x0, rPD⟩,
    ⟨SP_PSTAT_MINV, .ro, false, 0x0, rPD⟩]⟩,
  ⟨SP_BRG, 1, 0x0, [
    ⟨SP_BRG_BUSY, .ro, false, 0x0, rPHDU⟩,
    ⟨SP_BRG_FAR, .ro, false, 0x1, rPHD⟩,
    ⟨SP_BRG_SIZE, .w1c, false, 0x0, rPHDU⟩,
    ⟨SP_BRG_LOST, .ro, false, 0x0, rPHDU⟩,
    ⟨SP_BRG_LOSTS, .w1c, false, 0x0, rPHDU⟩,
    ⟨SP_BRG_LSRC, .ro, false, 0xf, rPHDU⟩,
    ⟨SP_BRG_LOFF, .ro, false, 0x0, rPHDU⟩]⟩]

/-- The registers of page AC. -/
def regsAC : List RegDef := [
  ⟨AC_CMD, 1, 0x0, [
    ⟨AC_CMD_CMD, .wo, true, 0x0, rPDU⟩]⟩,
  ⟨AC_STAT, 1, 0x0, [
    ⟨AC_STAT_STATE, .ro, false, 0x0, rPDU⟩,
    ⟨AC_STAT_LEAVING, .ro, false, 0x0, rPDU⟩,
    ⟨AC_STAT_IMEAS, .ro, false, 0x0, rPDU⟩]⟩,
  ⟨AC_PROF, 1, 0x0, [
    ⟨AC_PROF_ILOAD, .rw, true, 0x14, rPDU⟩,
    ⟨AC_PROF_IRET, .rw, true, 0x1e, rPDU⟩,
    ⟨AC_PROF_IPARK, .rw, true, 0xc, rPDU⟩,
    ⟨AC_PROF_IUNL, .rw, true, 0xf, rPDU⟩]⟩,
  ⟨AC_TIME, 1, 0x0, [
    ⟨AC_TIME_TLD1, .rw, true, 0x14, rPDU⟩,
    ⟨AC_TIME_TLD2, .rw, true, 0xa, rPDU⟩,
    ⟨AC_TIME_TRET1, .rw, true, 0x32, rPDU⟩,
    ⟨AC_TIME_TPARK, .rw, true, 0x64, rPDU⟩]⟩,
  ⟨AC_CAL, 1, 0x0, [
    ⟨AC_CAL_VOFS, .rw, true, 0x0, rPDU⟩,
    ⟨AC_CAL_IFS, .rw, true, 0x0, rPDU⟩]⟩,
  ⟨AC_IRQS, 1, 0x0, [
    ⟨AC_IRQS_LOADED, .w1c, false, 0x0, rPDU⟩,
    ⟨AC_IRQS_LDFAIL, .w1c, false, 0x0, rPDU⟩,
    ⟨AC_IRQS_PARKED, .w1c, false, 0x0, rPDU⟩,
    ⟨AC_IRQS_RETR, .w1c, false, 0x0, rPDU⟩,
    ⟨AC_IRQS_SBTO, .w1c, false, 0x0, rPDU⟩,
    ⟨AC_IRQS_IMIS, .w1c, false, 0x0, rPDU⟩]⟩,
  ⟨AC_IRQE, 1, 0x0, [
    ⟨AC_IRQE_LOADED, .rw, true, 0x0, rPDU⟩,
    ⟨AC_IRQE_LDFAIL, .rw, true, 0x0, rPDU⟩,
    ⟨AC_IRQE_PARKED, .rw, true, 0x0, rPDU⟩,
    ⟨AC_IRQE_RETR, .rw, true, 0x0, rPDU⟩,
    ⟨AC_IRQE_SBTO, .rw, true, 0x0, rPDU⟩,
    ⟨AC_IRQE_IMIS, .rw, true, 0x0, rPDU⟩]⟩,
  ⟨AC_CNT, 4, 0x4, [
    ⟨AC_CNT_COUNT, .ro, false, 0x0, rPDU⟩]⟩,
  ⟨AC_BRG, 1, 0x0, [
    ⟨AC_BRG_BUSY, .ro, false, 0x0, rPHDU⟩,
    ⟨AC_BRG_FAR, .ro, false, 0x1, rPHD⟩,
    ⟨AC_BRG_SIZE, .w1c, false, 0x0, rPHDU⟩,
    ⟨AC_BRG_LOST, .ro, false, 0x0, rPHDU⟩,
    ⟨AC_BRG_LOSTS, .w1c, false, 0x0, rPHDU⟩,
    ⟨AC_BRG_LSRC, .ro, false, 0xf, rPHDU⟩,
    ⟨AC_BRG_LOFF, .ro, false, 0x0, rPHDU⟩]⟩]

/-- The registers of page PW. -/
def regsPW : List RegDef := [
  ⟨PW_BOOT, 1, 0x0, [
    ⟨PW_BOOT_HALT, .ro, false, 0x0, rPHD⟩,
    ⟨PW_BOOT_RECOV, .ro, false, 0x0, rPHD⟩,
    ⟨PW_BOOT_MATED, .ro, false, 0x0, rPHD⟩,
    ⟨PW_BOOT_TCOLD, .ro, false, 0x0, rPHD⟩,
    ⟨PW_BOOT_SLOT, .ro, false, 0x0, rPHD⟩,
    ⟨PW_BOOT_FAIL, .ro, false, 0x0, rPHD⟩,
    ⟨PW_BOOT_STAGE, .ro, false, 0x0, rPHD⟩]⟩,
  ⟨PW_PSTATE, 1, 0x0, [
    ⟨PW_PSTATE_DEV, .ro, false, 0x0, rPHD⟩,
    ⟨PW_PSTATE_TGT, .ro, false, 0x0, rPHD⟩,
    ⟨PW_PSTATE_TRANS, .ro, false, 0x0, rPHD⟩,
    ⟨PW_PSTATE_BAR4, .ro, false, 0x0, rPHD⟩,
    ⟨PW_PSTATE_PREF, .w1c, false, 0x0, rPHD⟩,
    ⟨PW_PSTATE_CEIL, .ro, false, 0x1c20, rPHD⟩]⟩,
  ⟨PW_PSCMD, 1, 0x0, [
    ⟨PW_PSCMD_GO, .wo, true, 0x0, rPHD⟩,
    ⟨PW_PSCMD_STATE, .wo, true, 0x0, rPHD⟩]⟩,
  ⟨PW_DOM, 1, 0x0, [
    ⟨PW_DOM_ON, .ro, false, 0x80, rPHD⟩]⟩,
  ⟨PW_RSN, 1, 0x0, [
    ⟨PW_RSN_KIND, .ro, false, 0x0, rNone⟩,
    ⟨PW_RSN_DCAUSE, .ro, false, 0x0, rNone⟩,
    ⟨PW_RSN_UNIT, .ro, false, 0x0, rNone⟩]⟩,
  ⟨PW_BRG, 1, 0x0, [
    ⟨PW_BRG_BUSY, .ro, false, 0x0, rPHDU⟩,
    ⟨PW_BRG_FAR, .ro, false, 0x1, rPHD⟩,
    ⟨PW_BRG_SIZE, .w1c, false, 0x0, rPHDU⟩,
    ⟨PW_BRG_LOST, .ro, false, 0x0, rPHDU⟩,
    ⟨PW_BRG_LOSTS, .w1c, false, 0x0, rPHDU⟩,
    ⟨PW_BRG_LSRC, .ro, false, 0xf, rPHDU⟩,
    ⟨PW_BRG_LOFF, .ro, false, 0x0, rPHDU⟩]⟩]

/-- The registers of page TH. -/
def regsTH : List RegDef := [
  ⟨TH_TEMP, 1, 0x0, [
    ⟨TH_TEMP_VALID, .ro, false, 0x0, rPHD⟩,
    ⟨TH_TEMP_BROKEN, .ro, false, 0x0, rPHD⟩,
    ⟨TH_TEMP_SUBST, .ro, false, 0x0, rPHD⟩,
    ⟨TH_TEMP_FORCED, .ro, false, 0x0, rPHD⟩,
    ⟨TH_TEMP_ZONE, .ro, false, 0x0, rPHD⟩,
    ⟨TH_TEMP_TEMP, .ro, false, 0x0, rPHD⟩]⟩,
  ⟨TH_RAW, 1, 0x0, [
    ⟨TH_RAW_RAW, .ro, false, 0x0, rPHD⟩]⟩,
  ⟨TH_THR, 1, 0x0, [
    ⟨TH_THR_TCOLD, .rw, true, 0xf6, rPHD⟩,
    ⟨TH_THR_TWARN, .rw, true, 0x5f, rPHD⟩,
    ⟨TH_THR_TSD, .rw, true, 0x73, rPHD⟩,
    ⟨TH_THR_TRS, .rw, true, 0x64, rPHD⟩]⟩,
  ⟨TH_TRIP, 1, 0x0, [
    ⟨TH_TRIP_TRIPPED, .ro, false, 0x0, rPH⟩,
    ⟨TH_TRIP_TLATCH, .w1c, false, 0x0, rPH⟩]⟩,
  ⟨TH_XCHK, 1, 0x0, [
    ⟨TH_XCHK_XDEV, .rw, true, 0x19, rPHD⟩,
    ⟨TH_XCHK_SUBOFS, .rw, true, 0xa, rPHD⟩]⟩,
  ⟨TH_FORCE, 1, 0x0, [
    ⟨TH_FORCE_FEN, .rw, true, 0x0, rPHDU⟩,
    ⟨TH_FORCE_FTEMP, .rw, true, 0x0, rPHDU⟩]⟩,
  ⟨TH_FLMASK, 1, 0x0, [
    ⟨TH_FLMASK_MASK, .rw, true, 0x7fff, rPHD⟩]⟩,
  ⟨TH_FLSTAT, 1, 0x0, [
    ⟨TH_FLSTAT_FSUM, .ro, false, 0x0, rPHD⟩]⟩,
  ⟨TH_HBEAT, 1, 0x0, [
    ⟨TH_HBEAT_KEY, .wo, true, 0x0, rPHD⟩]⟩,
  ⟨TH_HBSTAT, 1, 0x0, [
    ⟨TH_HBSTAT_ARMED, .ro, false, 0x0, rPHD⟩,
    ⟨TH_HBSTAT_ALIVE, .ro, false, 0x0, rPHD⟩,
    ⟨TH_HBSTAT_STOPPED, .ro, false, 0x0, rPHD⟩,
    ⟨TH_HBSTAT_CAUSE, .ro, false, 0x0, rPHD⟩,
    ⟨TH_HBSTAT_NEXT, .ro, false, 0xa5, rPHD⟩]⟩,
  ⟨TH_BRG, 1, 0x0, [
    ⟨TH_BRG_BUSY, .ro, false, 0x0, rPHDU⟩,
    ⟨TH_BRG_FAR, .ro, false, 0x1, rPHD⟩,
    ⟨TH_BRG_SIZE, .w1c, false, 0x0, rPHDU⟩,
    ⟨TH_BRG_LOST, .ro, false, 0x0, rPHDU⟩,
    ⟨TH_BRG_LOSTS, .w1c, false, 0x0, rPHDU⟩,
    ⟨TH_BRG_LSRC, .ro, false, 0xf, rPHDU⟩,
    ⟨TH_BRG_LOFF, .ro, false, 0x0, rPHDU⟩]⟩]

/-- The registers of the page with block code `code` (R123). -/
def pageRegs : Nat → List RegDef
  | 0 => regsHQ
  | 1 => regsHP
  | 2 => regsBM
  | 3 => regsDM
  | 4 => regsCY
  | 5 => regsCC
  | 6 => regsEV
  | 7 => regsMG
  | 8 => regsCH
  | 9 => regsFM
  | 10 => regsSV
  | 11 => regsPA
  | 12 => regsSP
  | 13 => regsAC
  | 14 => regsPW
  | 15 => regsTH
  | _ => []

/-- How many instances (pages) a block has (R13). -/
def pageInstances : Nat → Nat
  | 1 => 2
  | 8 => 4
  | 9 => 4
  | 10 => 4
  | 11 => 4
  | 13 => 4
  | 15 => 6
  | c => if c < 16 then 1 else 0

end Sys2Proof.Machine
end

