-- ==== Sys2Proof/Machine/DictTable.lean ====
section
/-! DEFINITION. The dictionary's entries from parameter 010 upward, from the entry tables of each chapter: type code (R137),
roles, default and origin (R152), range (R138), element count of an array, the register fields behind it (R154) and the
length of a BLOB. A unit that repeats another's entries (carriages 1-3, heads, channels, port B, cores) is looked up at the
path the table shows (`entryHome`). -/
namespace Sys2Proof.Machine

/-- Where a default comes from (R152). -/
inductive Origin where
  | fixed | strap | fuse | stored
  deriving DecidableEq, Repr

/-- One entry of the dictionary. -/
structure EntDef where
  path : Nat
  param : Nat
  /-- Type code of R137. -/
  ty : Nat
  /-- Role that may read and write: 0 Observer to 3 Factory; none: no session. -/
  rd : Option Nat
  wr : Option Nat
  deflt : Nat
  origin : Origin
  lo : Nat
  hi : Nat
  /-- Elements of an array, 0 for a scalar. -/
  count : Nat
  /-- Register fields behind the entry, each with the lowest bit of the value it fills (R154). -/
  parts : List (Fld × Nat)
  /-- Bytes from the register of one element to the next. -/
  step : Nat
  /-- Full length of a BLOB, bytes. -/
  size : Nat
  deriving DecidableEq, Repr

/-- Entries of the device units. -/
def deviceEntries : List EntDef := [
  ⟨0x0000, 0x010, 1, some 0, some 2, 0, .fixed, 90, 90, 0, [], 0, 0⟩,
  ⟨0x0000, 0x011, 4, some 0, none, 0, .fixed, 0, 18446744073709551615, 2, [], 0, 0⟩,
  ⟨0x0000, 0x012, 4, none, some 0, 0, .fixed, 0, 18446744073709551615, 2, [], 0, 0⟩,
  ⟨0x0000, 0x013, 10, some 0, some 0, 0, .fixed, 0, 3, 0, [], 0, 0⟩,
  ⟨0x0000, 0x014, 2, some 0, none, 0, .fixed, 0, 65535, 0, [], 0, 0⟩,
  ⟨0x0000, 0x015, 10, some 0, some 2, 0, .fixed, 1, 2, 0, [], 0, 0⟩,
  ⟨0x0000, 0x016, 2, some 0, none, 256, .fixed, 0, 65535, 0, [], 0, 0⟩,
  ⟨0x0000, 0x020, 10, some 0, none, 0, .stored, 0, 255, 0, [(HQ_TWIN_STATE, 0)], 0, 0⟩,
  ⟨0x0000, 0x021, 2, some 0, some 2, 100, .stored, 20, 2000, 0, [], 0, 0⟩,
  ⟨0x0000, 0x022, 2, some 0, some 2, 500, .stored, 100, 5000, 0, [], 0, 0⟩,
  ⟨0x0000, 0x023, 3, some 0, none, 0, .stored, 0, 4294967295, 0, [], 0, 0⟩,
  ⟨0x0000, 0x024, 1, some 0, some 1, 1, .fixed, 1, 128, 0, [], 0, 0⟩,
  ⟨0x0000, 0x025, 3, some 0, none, 0, .stored, 0, 4294967295, 0, [], 0, 0⟩,
  ⟨0x0000, 0x026, 3, some 0, none, 0, .stored, 0, 4294967295, 0, [], 0, 0⟩,
  ⟨0x0000, 0x027, 13, some 1, none, 0, .stored, 0, 0, 0, [], 0, 92224⟩]

/-- Entries of the hub units, part 1. -/
def hubEntries1 : List EntDef := [
  ⟨0x1110, 0x010, 10, some 0, none, 0, .fixed, 0, 255, 0, [(HP_LSTAT_SPEED, 0)], 0, 0⟩,
  ⟨0x1110, 0x011, 10, some 0, none, 0, .fixed, 0, 255, 0, [(HP_LSTAT_WIDTH, 0)], 0, 0⟩,
  ⟨0x1110, 0x012, 10, some 0, some 2, 5, .stored, 1, 5, 0, [], 0, 0⟩,
  ⟨0x1110, 0x013, 3, some 0, none, 0, .fixed, 0, 4294967295, 0, [], 0, 0⟩,
  ⟨0x1110, 0x014, 3, some 0, none, 0, .fixed, 0, 4294967295, 0, [], 0, 0⟩,
  ⟨0x1120, 0x010, 10, some 0, none, 0, .fixed, 0, 255, 0, [], 0, 0⟩,
  ⟨0x1120, 0x011, 9, some 0, some 2, 0, .stored, 0, 1, 0, [], 0, 0⟩,
  ⟨0x1120, 0x012, 3, some 0, none, 0, .fixed, 0, 4294967295, 0, [], 0, 0⟩,
  ⟨0x1300, 0x010, 2, some 0, none, 0, .fixed, 0, 65535, 0, [], 0, 0⟩,
  ⟨0x1300, 0x011, 3, some 0, some 2, 131072, .stored, 16384, 262144, 0, [], 0, 0⟩,
  ⟨0x1300, 0x012, 10, some 0, none, 0, .fixed, 0, 255, 0, [], 0, 0⟩,
  ⟨0x1300, 0x013, 3, some 0, none, 0, .fixed, 0, 4294967295, 0, [], 0, 0⟩,
  ⟨0x1310, 0x010, 3, some 0, none, 0, .fixed, 0, 4294967295, 0, [], 0, 0⟩,
  ⟨0x1320, 0x010, 1, some 0, some 2, 50, .stored, 10, 90, 0, [], 0, 0⟩,
  ⟨0x1320, 0x011, 2, some 0, none, 0, .fixed, 0, 65535, 4, [], 0, 0⟩,
  ⟨0x1320, 0x012, 2, some 0, some 2, 500, .stored, 50, 2000, 0, [], 0, 0⟩,
  ⟨0x1330, 0x010, 3, some 0, none, 0, .stored, 0, 4294967295, 0, [], 0, 0⟩,
  ⟨0x1330, 0x011, 3, some 0, none, 0, .stored, 0, 4294967295, 0, [], 0, 0⟩,
  ⟨0x1330, 0x012, 4, some 0, none, 0, .stored, 0, 18446744073709551615, 0, [], 0, 0⟩,
  ⟨0x1330, 0x100, 13, some 0, none, 0, .stored, 0, 0, 0, [], 0, 2097152⟩,
  ⟨0x1340, 0x010, 3, some 0, none, 0, .fixed, 0, 4294967295, 6, [], 0, 0⟩,
  ⟨0x1400, 0x010, 1, some 0, some 2, 64, .stored, 8, 255, 0, [(BM_BKCFG_DEPTH, 0)], 0, 0⟩,
  ⟨0x1400, 0x011, 2, some 0, some 2, 10, .stored, 1, 3600, 0, [(BM_BKCFG_LEAK, 0)], 0, 0⟩,
  ⟨0x1400, 0x012, 2, some 0, some 2, 24, .stored, 0, 720, 0, [(BM_CFG_SCRUBH, 0)], 0, 0⟩,
  ⟨0x1410, 0x010, 3, some 0, none, 0, .fixed, 0, 4294967295, 0, [(⟨BM_CECNT, 31, 0⟩, 0)], 0, 0⟩,
  ⟨0x1410, 0x011, 1, some 0, none, 0, .fixed, 0, 255, 0, [(BM_BKT_NEAR, 0)], 0, 0⟩,
  ⟨0x1420, 0x010, 3, some 0, none, 392192, .fixed, 0, 4294967295, 0, [(BM_POOL_FREE, 0)], 0, 0⟩,
  ⟨0x1420, 0x011, 3, some 0, none, 0, .fixed, 0, 4294967295, 0, [], 0, 0⟩,
  ⟨0x1500, 0x010, 3, some 0, none, 0, .fixed, 0, 4294967295, 0, [(⟨DM_GSTAT, 31, 0⟩, 0)], 0, 0⟩,
  ⟨0x1511, 0x010, 10, some 0, none, 0, .fixed, 0, 255, 0, [(DM_STAT_STATE, 0)], 0, 0⟩,
  ⟨0x1511, 0x011, 3, some 0, none, 0, .fixed, 0, 4294967295, 0, [], 0, 0⟩,
  ⟨0x1600, 0x010, 4, some 0, some 2, 68719476736, .stored, 16777216, 68719476736, 0, [], 0, 0⟩,
  ⟨0x1600, 0x011, 3, some 0, none, 0, .fixed, 0, 4294967295, 0, [], 0, 0⟩,
  ⟨0x1600, 0x012, 2, some 0, none, 0, .fixed, 0, 65535, 4, [], 0, 0⟩,
  ⟨0x1600, 0x100, 3, some 0, none, 0, .fixed, 0, 4294967295, 6, [(⟨CY_CNT, 31, 0⟩, 0)], 4, 0⟩,
  ⟨0x1630, 0x010, 13, none, some 2, 0, .stored, 0, 0, 0, [], 0, 40⟩,
  ⟨0x1630, 0x011, 13, none, some 2, 0, .stored, 0, 0, 0, [], 0, 40⟩,
  ⟨0x1630, 0x012, 1, some 0, none, 0, .stored, 0, 255, 0, [], 0, 0⟩,
  ⟨0x1640, 0x010, 13, some 0, none, 0, .stored, 0, 0, 0, [], 0, 128⟩,
  ⟨0x1640, 0x011, 3, some 0, none, 0, .stored, 0, 4294967295, 0, [], 0, 0⟩]

/-- Entries of the hub units, part 2. -/
def hubEntries2 : List EntDef := [
  ⟨0x1640, 0x012, 4, some 0, none, 0, .fixed, 0, 18446744073709551615, 0, [(⟨CY_MMINH, 31, 0⟩, 32), (⟨CY_MMINL, 31, 0⟩, 0)], 0, 0⟩,
  ⟨0x1640, 0x101, 13, some 1, none, 0, .stored, 0, 0, 0, [], 0, 0⟩,
  ⟨0x1700, 0x010, 1, some 0, none, 1, .fixed, 0, 255, 0, [(CC_CORE_REL, 0)], 0, 0⟩,
  ⟨0x1710, 0x010, 4, some 0, none, 0, .fixed, 0, 18446744073709551615, 0, [], 0, 0⟩,
  ⟨0x1710, 0x011, 3, some 0, none, 0, .fixed, 0, 4294967295, 0, [], 0, 0⟩,
  ⟨0x1750, 0x010, 2, some 0, none, 0, .fixed, 0, 65535, 0, [(CC_WLOCK_LOCK, 0)], 0, 0⟩,
  ⟨0x1750, 0x011, 3, some 0, none, 0, .fixed, 0, 4294967295, 0, [(⟨CC_CECNT, 31, 0⟩, 0)], 0, 0⟩,
  ⟨0x1750, 0x012, 3, some 0, none, 0, .fixed, 0, 4294967295, 0, [(⟨CC_STALL, 31, 0⟩, 0)], 0, 0⟩,
  ⟨0x1800, 0x010, 3, some 0, none, 0, .stored, 0, 4294967295, 0, [(⟨EV_RSEQ, 31, 0⟩, 0)], 0, 0⟩,
  ⟨0x1800, 0x011, 3, some 0, none, 0, .stored, 0, 4294967295, 0, [], 0, 0⟩,
  ⟨0x1800, 0x012, 3, some 0, none, 0, .fixed, 0, 4294967295, 0, [], 0, 0⟩,
  ⟨0x1800, 0x013, 1, some 0, some 1, 5, .stored, 0, 7, 0, [(EV_CFG_IRQSEV, 0)], 0, 0⟩,
  ⟨0x1800, 0x014, 4, some 0, none, 0, .fixed, 0, 18446744073709551615, 0, [], 0, 0⟩,
  ⟨0x1800, 0x015, 12, some 0, none, 0, .stored, 0, 18446744073709551615, 0, [], 0, 0⟩,
  ⟨0x1800, 0x016, 4, some 0, none, 0, .fixed, 0, 18446744073709551615, 4, [], 0, 0⟩,
  ⟨0x1810, 0x010, 2, some 0, none, 0, .stored, 0, 65535, 4, [], 0, 0⟩,
  ⟨0x1810, 0x011, 1, some 0, some 2, 0, .fixed, 0, 7, 0, [], 0, 0⟩,
  ⟨0x1810, 0x012, 4, none, some 2, 0, .fixed, 0, 18446744073709551615, 0, [], 0, 0⟩,
  ⟨0x1810, 0x100, 13, some 0, none, 0, .stored, 0, 0, 0, [], 0, 32768⟩,
  ⟨0x1810, 0x101, 13, some 0, none, 0, .stored, 0, 0, 0, [], 0, 32768⟩,
  ⟨0x1810, 0x102, 13, some 0, none, 0, .stored, 0, 0, 0, [], 0, 917504⟩,
  ⟨0x1810, 0x103, 13, some 0, none, 0, .stored, 0, 0, 0, [], 0, 65536⟩,
  ⟨0x1900, 0x010, 2, some 0, some 2, 65535, .stored, 0, 65535, 0, [], 0, 0⟩,
  ⟨0x1900, 0x011, 10, some 0, none, 0, .fixed, 0, 255, 0, [], 0, 0⟩,
  ⟨0x1900, 0x012, 4, some 0, none, 0, .fixed, 0, 18446744073709551615, 0, [], 0, 0⟩,
  ⟨0x1900, 0x013, 6, some 0, none, 0, .fixed, 0, 4294967295, 0, [], 0, 0⟩,
  ⟨0x1900, 0x014, 2, some 0, some 2, 65535, .stored, 0, 65535, 0, [], 0, 0⟩,
  ⟨0x1900, 0x015, 1, some 0, some 1, 5, .stored, 0, 7, 0, [], 0, 0⟩,
  ⟨0x1900, 0x016, 1, some 0, some 1, 1, .stored, 0, 15, 0, [], 0, 0⟩,
  ⟨0x1900, 0x017, 3, some 0, none, 0, .fixed, 0, 4294967295, 0, [], 0, 0⟩,
  ⟨0x1900, 0x018, 3, some 0, none, 0, .fixed, 0, 4294967295, 0, [], 0, 0⟩,
  ⟨0x1900, 0x019, 3, some 0, none, 0, .fixed, 0, 4294967295, 0, [], 0, 0⟩,
  ⟨0x1910, 0x010, 9, some 0, some 2, 1, .stored, 0, 1, 0, [], 0, 0⟩,
  ⟨0x1910, 0x011, 1, some 0, some 2, 0, .strap, 0, 254, 0, [], 0, 0⟩,
  ⟨0x1910, 0x012, 1, some 0, some 2, 33, .stored, 1, 255, 0, [], 0, 0⟩,
  ⟨0x1910, 0x013, 1, some 0, some 2, 32, .stored, 1, 255, 0, [], 0, 0⟩,
  ⟨0x1910, 0x014, 1, some 0, some 2, 0, .stored, 0, 255, 0, [], 0, 0⟩,
  ⟨0x1910, 0x015, 1, some 0, some 2, 128, .stored, 1, 255, 0, [], 0, 0⟩,
  ⟨0x1910, 0x016, 10, some 0, none, 0, .fixed, 0, 255, 0, [], 0, 0⟩,
  ⟨0x1920, 0x010, 2, some 0, none, 0, .fixed, 0, 65535, 8, [], 0, 0⟩]

/-- Entries of the hub units, part 3. -/
def hubEntries3 : List EntDef := [
  ⟨0x1920, 0x011, 1, some 0, some 0, 0, .fixed, 0, 255, 0, [], 0, 0⟩,
  ⟨0x1920, 0x012, 2, some 0, some 2, 30, .stored, 5, 600, 0, [], 0, 0⟩,
  ⟨0x1a00, 0x040, 10, some 0, none, 0, .fixed, 0, 255, 0, [(PW_BOOT_STAGE, 0)], 0, 0⟩,
  ⟨0x1a00, 0x041, 1, some 0, none, 0, .fixed, 0, 255, 0, [(PW_BOOT_FAIL, 0)], 0, 0⟩,
  ⟨0x1a00, 0x042, 10, some 0, none, 0, .fixed, 0, 255, 0, [(PW_BOOT_SLOT, 0)], 0, 0⟩,
  ⟨0x1a00, 0x043, 3, some 0, none, 0, .fixed, 0, 4294967295, 0, [], 0, 0⟩,
  ⟨0x1a00, 0x044, 2, some 0, none, 0, .fuse, 0, 65535, 0, [], 0, 0⟩,
  ⟨0x1a00, 0x045, 3, some 0, none, 0, .fixed, 0, 4294967295, 0, [], 0, 0⟩,
  ⟨0x1a00, 0x046, 10, some 0, none, 0, .fixed, 0, 255, 0, [(PW_RSN_KIND, 0)], 0, 0⟩,
  ⟨0x1a00, 0x047, 1, some 0, none, 0, .fixed, 0, 255, 0, [], 0, 0⟩,
  ⟨0x1a00, 0x048, 1, some 0, some 0, 0, .fixed, 1, 1, 0, [], 0, 0⟩,
  ⟨0x1a00, 0x050, 5, some 0, none, 0, .fixed, 0, 65535, 6, [(TH_TEMP_TEMP, 0)], 4096, 0⟩,
  ⟨0x1a00, 0x051, 3, some 0, some 2, 4133450596, .stored, 0, 4294967295, 0, [(⟨TH_THR, 31, 0⟩, 0)], 0, 0⟩,
  ⟨0x1a00, 0x052, 2, some 0, some 2, 6410, .stored, 0, 65535, 0, [(TH_XCHK_XDEV, 8), (TH_XCHK_SUBOFS, 0)], 0, 0⟩,
  ⟨0x1a00, 0x053, 2, some 0, some 2, 5400, .stored, 3600, 7200, 0, [], 0, 0⟩,
  ⟨0x1a00, 0x054, 1, some 0, none, 0, .fixed, 0, 255, 6, [], 0, 0⟩,
  ⟨0x1a00, 0x055, 3, some 0, none, 0, .stored, 0, 4294967295, 6, [], 0, 0⟩,
  ⟨0x1a00, 0x056, 3, some 0, none, 0, .stored, 0, 4294967295, 6, [], 0, 0⟩,
  ⟨0x1a00, 0x057, 3, some 0, some 2, 0, .fixed, 0, 4294967295, 6, [(⟨TH_FORCE, 31, 0⟩, 0)], 4096, 0⟩,
  ⟨0x1a00, 0x058, 2, some 0, some 1, 32767, .stored, 0, 65535, 6, [(⟨TH_FLMASK, 31, 0⟩, 0)], 4096, 0⟩,
  ⟨0x1a00, 0x059, 1, some 0, some 2, 3, .stored, 1, 15, 0, [], 0, 0⟩,
  ⟨0x1a00, 0x05a, 2, some 0, some 2, 24, .stored, 1, 168, 0, [], 0, 0⟩,
  ⟨0x1a00, 0x060, 10, some 0, none, 0, .fixed, 0, 255, 0, [(PW_PSTATE_DEV, 0)], 0, 0⟩,
  ⟨0x1a00, 0x061, 2, some 0, some 2, 6000, .stored, 3600, 7200, 0, [], 0, 0⟩,
  ⟨0x1a00, 0x062, 2, some 0, some 2, 4800, .stored, 3600, 7200, 0, [], 0, 0⟩,
  ⟨0x1a00, 0x063, 2, some 0, some 2, 3600, .stored, 3600, 7200, 0, [], 0, 0⟩,
  ⟨0x1a00, 0x064, 3, some 0, none, 128, .fixed, 0, 4294967295, 0, [(⟨PW_DOM, 31, 0⟩, 0)], 0, 0⟩,
  ⟨0x1a00, 0x065, 3, some 0, none, 0, .fixed, 0, 4294967295, 0, [(⟨PW_RSN, 31, 0⟩, 0)], 0, 0⟩,
  ⟨0x1a00, 0x066, 3, some 0, none, 0, .stored, 0, 4294967295, 5, [], 0, 0⟩,
  ⟨0x1a10, 0x010, 2, some 0, none, 0, .strap, 0, 65535, 0, [], 0, 0⟩,
  ⟨0x1a10, 0x011, 1, some 0, none, 0, .strap, 0, 255, 0, [], 0, 0⟩,
  ⟨0x1a10, 0x012, 1, some 0, none, 0, .strap, 0, 255, 0, [], 0, 0⟩,
  ⟨0x1a10, 0x013, 10, some 0, none, 0, .strap, 0, 255, 0, [], 0, 0⟩,
  ⟨0x1a10, 0x014, 10, some 0, none, 0, .strap, 0, 255, 0, [], 0, 0⟩,
  ⟨0x1a10, 0x015, 1, some 0, none, 0, .strap, 0, 255, 0, [], 0, 0⟩,
  ⟨0x1a10, 0x016, 10, some 0, none, 0, .strap, 0, 255, 0, [], 0, 0⟩,
  ⟨0x1a10, 0x017, 3, some 0, none, 0, .fixed, 0, 4294967295, 0, [], 0, 0⟩,
  ⟨0x1a10, 0x018, 1, some 0, none, 0, .strap, 0, 255, 0, [], 0, 0⟩,
  ⟨0x1a40, 0x010, 3, some 0, none, 0, .stored, 0, 4294967295, 0, [], 0, 0⟩,
  ⟨0x1a40, 0x011, 10, some 0, none, 0, .fixed, 0, 255, 0, [], 0, 0⟩]

/-- Entries of the hub units, part 4. -/
def hubEntries4 : List EntDef := [
  ⟨0x1a40, 0x012, 10, some 0, none, 0, .fixed, 0, 255, 0, [(TH_HBSTAT_CAUSE, 0)], 0, 0⟩]

/-- Entries of the carriage units, part 1. -/
def carriageEntries1 : List EntDef := [
  ⟨0x2000, 0x020, 2, some 0, some 2, 30, .stored, 5, 100, 0, [], 0, 0⟩,
  ⟨0x2000, 0x021, 2, some 0, none, 20, .fixed, 0, 65535, 0, [], 0, 0⟩,
  ⟨0x2000, 0x022, 2, some 0, some 2, 60, .stored, 10, 600, 0, [], 0, 0⟩,
  ⟨0x2000, 0x023, 2, some 0, none, 0, .fixed, 0, 65535, 0, [], 0, 0⟩,
  ⟨0x2000, 0x024, 3, some 0, none, 0, .fixed, 0, 4294967295, 0, [], 0, 0⟩,
  ⟨0x2000, 0x030, 3, some 0, none, 0, .fixed, 0, 4294967295, 0, [], 0, 0⟩,
  ⟨0x2000, 0x031, 10, some 0, none, 0, .fixed, 0, 255, 0, [], 0, 0⟩,
  ⟨0x2000, 0x032, 1, some 0, none, 4, .fixed, 0, 255, 0, [], 0, 0⟩,
  ⟨0x2000, 0x034, 3, some 0, none, 0, .fixed, 0, 4294967295, 0, [], 0, 0⟩,
  ⟨0x2000, 0x035, 10, some 0, none, 0, .fixed, 0, 255, 0, [], 0, 0⟩,
  ⟨0x2100, 0x010, 10, some 0, some 1, 0, .stored, 0, 2, 0, [(CH_CTL_MODE, 0)], 0, 0⟩,
  ⟨0x2100, 0x011, 1, some 0, some 2, 10, .stored, 1, 31, 0, [(CH_LDPC_LI, 0)], 0, 0⟩,
  ⟨0x2100, 0x012, 9, some 0, some 2, 1, .stored, 0, 1, 0, [(CH_LDPC_GI, 0)], 0, 0⟩,
  ⟨0x2100, 0x013, 1, some 0, some 2, 6, .stored, 1, 31, 0, [(CH_LDPC_VLI, 0)], 0, 0⟩,
  ⟨0x2100, 0x014, 9, some 0, some 2, 1, .stored, 0, 1, 0, [(CH_ADAPT_PEN, 0)], 0, 0⟩,
  ⟨0x2100, 0x015, 2, some 0, some 2, 60, .stored, 5, 1440, 0, [(CH_ADAPT_STALE, 0)], 0, 0⟩,
  ⟨0x2100, 0x016, 1, some 0, some 2, 4, .stored, 1, 5, 0, [(CH_RETRY_PIN, 0)], 0, 0⟩,
  ⟨0x2100, 0x017, 1, some 0, some 2, 15, .stored, 0, 15, 0, [(CH_RETRY_STEPS, 0)], 0, 0⟩,
  ⟨0x2100, 0x100, 3, some 0, none, 0, .fixed, 0, 4294967295, 6, [(⟨CH_CNT, 31, 0⟩, 0)], 4, 0⟩,
  ⟨0x2110, 0x010, 2, some 0, none, 0, .fixed, 0, 65535, 0, [], 0, 0⟩,
  ⟨0x2110, 0x011, 2, some 0, none, 0, .fixed, 0, 65535, 0, [], 0, 0⟩,
  ⟨0x2110, 0x012, 3, some 0, none, 0, .fixed, 0, 4294967295, 0, [], 0, 0⟩,
  ⟨0x2110, 0x013, 4, some 0, some 2, 30840, .stored, 0, 18446744073709551615, 0, [(⟨CH_HFE1, 31, 0⟩, 32), (⟨CH_HFE0, 31, 0⟩, 0)], 0, 0⟩,
  ⟨0x2110, 0x014, 3, some 0, some 2, 4, .stored, 0, 4294967295, 0, [(⟨CH_HWR, 31, 0⟩, 0)], 0, 0⟩,
  ⟨0x2110, 0x100, 13, some 0, some 2, 0, .stored, 0, 0, 0, [], 0, 2048⟩,
  ⟨0x2110, 0xf00, 13, some 0, some 3, 0, .stored, 0, 0, 0, [], 0, 2048⟩,
  ⟨0x2200, 0x010, 1, some 0, some 2, 128, .stored, 32, 255, 0, [(SV_LIM_WUTH, 0)], 0, 0⟩,
  ⟨0x2200, 0x011, 1, some 0, some 2, 64, .stored, 8, 255, 0, [(SV_LIM_SETTH, 0)], 0, 0⟩,
  ⟨0x2200, 0x012, 1, some 0, some 2, 8, .stored, 1, 15, 0, [(SV_LIM_NSET, 0)], 0, 0⟩,
  ⟨0x2200, 0x013, 3, some 0, some 2, 60000, .stored, 1, 16777215, 0, [(⟨SV_VMAX, 31, 0⟩, 0)], 0, 0⟩,
  ⟨0x2200, 0x014, 3, some 0, some 2, 8000, .stored, 1, 4294967295, 0, [(⟨SV_AMAX, 31, 0⟩, 0)], 0, 0⟩,
  ⟨0x2200, 0x015, 3, some 0, some 2, 40000, .stored, 1, 16777215, 0, [(⟨SV_JMAX, 31, 0⟩, 0)], 0, 0⟩,
  ⟨0x2200, 0x016, 3, some 0, some 3, 12000, .stored, 0, 4294967295, 0, [(⟨SV_AFS, 31, 0⟩, 0)], 0, 0⟩,
  ⟨0x2200, 0x017, 2, some 0, some 3, 2048, .stored, 0, 65535, 0, [(SV_MA_MALIM, 0)], 0, 0⟩,
  ⟨0x2200, 0x018, 1, some 0, some 2, 4, .stored, 0, 7, 0, [(SV_RC_NR, 0)], 0, 0⟩,
  ⟨0x2200, 0x100, 13, some 0, some 3, 0, .stored, 0, 0, 0, [], 0, 2304⟩,
  ⟨0x2200, 0x101, 3, some 0, none, 0, .fixed, 0, 4294967295, 6, [(⟨SV_CNT, 31, 0⟩, 0)], 4, 0⟩,
  ⟨0x2210, 0x010, 3, some 0, some 3, 0, .stored, 0, 4294967295, 0, [], 0, 0⟩,
  ⟨0x2210, 0x011, 2, some 0, none, 0, .fixed, 0, 65535, 0, [(SV_HEOFS_EOFS, 0)], 0, 0⟩,
  ⟨0x2210, 0x012, 2, some 0, some 2, 16384, .stored, 8192, 32767, 0, [(SV_HGAIN_GTRIM, 0)], 0, 0⟩]

/-- Entries of the carriage units, part 2. -/
def carriageEntries2 : List EntDef := [
  ⟨0x2210, 0x013, 4, some 0, some 2, 18446462603027742720, .stored, 0, 18446744073709551615, 0, [(⟨SV_HBAND1, 31, 0⟩, 32), (⟨SV_HBAND0, 31, 0⟩, 0)], 0, 0⟩,
  ⟨0x2210, 0x014, 4, some 0, some 2, 2147450880, .stored, 0, 18446744073709551615, 0, [(⟨SV_HBLIM, 31, 0⟩, 32), (⟨SV_HBAND2, 31, 0⟩, 0)], 0, 0⟩,
  ⟨0x2210, 0x015, 1, some 0, some 2, 6, .stored, 0, 239, 0, [(SV_HBCTL_RDEN, 7), (SV_HBCTL_WREN, 6), (SV_HBCTL_LBEN, 5), (SV_HBCTL_NBS, 0)], 0, 0⟩,
  ⟨0x2210, 0x016, 2, some 0, none, 0, .fixed, 0, 65535, 0, [(SV_HCLR_CLR, 0)], 0, 0⟩,
  ⟨0x2210, 0x100, 13, some 0, some 2, 0, .stored, 0, 0, 0, [], 0, 122880⟩,
  ⟨0x2210, 0x101, 13, some 0, some 3, 0, .stored, 0, 0, 0, [], 0, 256⟩,
  ⟨0x2300, 0x010, 1, some 0, some 2, 24, .stored, 1, 64, 0, [(FM_MARK_W, 0)], 0, 0⟩,
  ⟨0x2300, 0x011, 1, some 0, some 2, 192, .stored, 64, 255, 0, [(FM_MARK_MTH, 0)], 0, 0⟩,
  ⟨0x2300, 0x012, 1, some 0, some 2, 3, .stored, 0, 15, 0, [(FM_MARK_MRETRY, 0)], 0, 0⟩,
  ⟨0x2300, 0x013, 2, some 0, some 2, 2048, .stored, 256, 8192, 0, [(FM_VCRIT_RAWMAX, 0)], 0, 0⟩,
  ⟨0x2300, 0x014, 1, some 0, some 2, 1, .stored, 0, 15, 0, [(FM_VCRIT2_WRETRY, 0)], 0, 0⟩,
  ⟨0x2300, 0x015, 1, some 0, some 2, 8, .stored, 1, 15, 0, [(FM_VCRIT2_RREV, 0)], 0, 0⟩,
  ⟨0x2300, 0x016, 2, some 0, some 2, 256, .stored, 0, 65535, 0, [], 0, 0⟩,
  ⟨0x2300, 0x100, 13, some 0, some 3, 0, .stored, 0, 0, 0, [], 0, 6144⟩,
  ⟨0x2300, 0x101, 3, some 0, none, 0, .fixed, 0, 4294967295, 8, [(⟨FM_SCNT, 31, 0⟩, 0)], 4, 0⟩,
  ⟨0x2310, 0x010, 3, some 0, none, 66560, .fixed, 0, 4294967295, 0, [(⟨FM_BVER, 31, 0⟩, 0)], 0, 0⟩,
  ⟨0x2310, 0x011, 3, some 0, none, 0, .fixed, 0, 4294967295, 0, [(⟨FM_PVER, 31, 0⟩, 0)], 0, 0⟩,
  ⟨0x2310, 0x012, 10, some 0, none, 0, .fixed, 0, 255, 0, [(FM_PSTAT_STATE, 0)], 0, 0⟩,
  ⟨0x2310, 0x013, 3, some 0, none, 0, .fixed, 0, 4294967295, 0, [(⟨FM_PROG, 31, 0⟩, 0)], 0, 0⟩,
  ⟨0x2310, 0x014, 3, some 0, none, 0, .fixed, 0, 4294967295, 4, [(⟨FM_MCNT, 31, 0⟩, 0)], 4, 0⟩,
  ⟨0x2320, 0x010, 3, some 0, none, 524288, .fixed, 0, 4294967295, 0, [], 0, 0⟩,
  ⟨0x2320, 0x011, 3, some 0, none, 0, .fixed, 0, 4294967295, 0, [], 0, 0⟩,
  ⟨0x2320, 0x012, 4, some 0, none, 0, .fixed, 0, 18446744073709551615, 0, [], 0, 0⟩,
  ⟨0x2320, 0x013, 4, some 0, none, 0, .fixed, 0, 18446744073709551615, 0, [], 0, 0⟩,
  ⟨0x2320, 0x014, 3, some 0, some 2, 32768, .stored, 1024, 262144, 0, [], 0, 0⟩,
  ⟨0x2320, 0x015, 2, some 0, none, 0, .fixed, 0, 65535, 0, [(FM_DEFS2_LPINS, 0)], 0, 0⟩,
  ⟨0x2330, 0x010, 2, some 0, none, 0, .stored, 0, 65535, 0, [], 0, 0⟩,
  ⟨0x2330, 0x011, 2, some 0, none, 8192, .stored, 0, 65535, 0, [(FM_DEFS_POOLFREE, 0)], 0, 0⟩,
  ⟨0x2330, 0x012, 1, some 0, none, 64, .stored, 0, 255, 0, [(FM_DEFS2_RESFREE, 0)], 0, 0⟩,
  ⟨0x2330, 0x100, 13, some 0, none, 0, .stored, 0, 0, 0, [], 0, 262144⟩,
  ⟨0x2330, 0x101, 13, some 0, some 3, 0, .stored, 0, 0, 0, [], 0, 262144⟩,
  ⟨0x2410, 0x010, 3, some 0, some 2, 0, .stored, 0, 4294967295, 0, [(⟨PA_HLVL, 31, 0⟩, 0)], 0, 0⟩,
  ⟨0x2410, 0x011, 3, some 0, some 2, 0, .stored, 0, 4294967295, 0, [(⟨PA_HBIAS, 31, 0⟩, 0)], 0, 0⟩,
  ⟨0x2500, 0x010, 1, some 0, some 2, 7, .stored, 0, 15, 0, [(CH_FE_CTFK, 0)], 0, 0⟩,
  ⟨0x2500, 0x011, 1, some 0, some 2, 6, .stored, 0, 15, 0, [(CH_FE_BOOST, 0)], 0, 0⟩,
  ⟨0x2510, 0x010, 3, some 0, none, 0, .fixed, 0, 4294967295, 0, [], 0, 0⟩,
  ⟨0x2520, 0x010, 3, some 0, none, 0, .fixed, 0, 4294967295, 0, [], 0, 0⟩]

/-- Entries of the motor units. -/
def motorEntries : List EntDef := [
  ⟨0x6000, 0x030, 3, some 0, none, 0, .fixed, 0, 0, 0, [], 0, 0⟩,
  ⟨0x6000, 0x031, 10, some 0, none, 0, .fixed, 0, 0, 0, [], 0, 0⟩,
  ⟨0x6000, 0x032, 1, some 0, none, 4, .fixed, 0, 0, 0, [], 0, 0⟩,
  ⟨0x6110, 0x010, 2, some 0, some 3, 0, .stored, 0, 65535, 0, [], 0, 0⟩,
  ⟨0x6110, 0x011, 2, some 0, some 3, 0, .stored, 0, 65535, 0, [], 0, 0⟩,
  ⟨0x6110, 0x012, 2, some 0, some 3, 0, .stored, 0, 65535, 0, [], 0, 0⟩,
  ⟨0x6110, 0x013, 2, some 0, some 3, 0, .stored, 100, 1527, 0, [], 0, 0⟩,
  ⟨0x6110, 0x014, 2, some 0, some 2, 0, .stored, 500, 65535, 0, [(SP_LIM_IMAX, 0)], 0, 0⟩,
  ⟨0x6110, 0x015, 3, some 0, some 3, 0, .stored, 0, 4294967295, 0, [(⟨SP_CLG, 31, 0⟩, 0)], 0, 0⟩,
  ⟨0x6120, 0x010, 1, some 0, none, 0, .fixed, 0, 255, 0, [(SP_STAT_CONF, 0)], 0, 0⟩,
  ⟨0x6120, 0x011, 2, some 0, some 2, 41024, .stored, 0, 65535, 0, [(SP_OBS_CLOCK, 8), (SP_OBS_CLOST, 0)], 0, 0⟩,
  ⟨0x6130, 0x010, 10, some 0, none, 0, .fixed, 0, 255, 0, [(SP_STAT_STATE, 0)], 0, 0⟩,
  ⟨0x6130, 0x011, 2, some 0, none, 0, .fixed, 0, 65535, 0, [(SP_SPD_RPM, 0)], 0, 0⟩,
  ⟨0x6130, 0x012, 10, some 0, some 1, 1, .stored, 0, 1, 0, [(SP_CTL_GOV, 0)], 0, 0⟩,
  ⟨0x6130, 0x013, 2, some 0, some 1, 3600, .stored, 3600, 7200, 0, [(SP_TGT_RPM, 0)], 0, 0⟩,
  ⟨0x6130, 0x014, 2, some 0, some 2, 120, .stored, 10, 400, 0, [(SP_RATE_GRATE, 0)], 0, 0⟩,
  ⟨0x6130, 0x015, 3, some 0, some 2, 2526302499, .stored, 0, 4294967295, 0, [(⟨SP_GOV, 31, 0⟩, 0)], 0, 0⟩,
  ⟨0x6130, 0x016, 3, some 0, none, 471862800, .fixed, 0, 4294967295, 0, [(⟨SP_GLIM, 31, 0⟩, 0)], 0, 0⟩,
  ⟨0x6130, 0x017, 2, some 0, some 2, 0, .stored, 100, 65535, 0, [(SP_RATE_BRATE, 0)], 0, 0⟩,
  ⟨0x6130, 0x100, 3, some 0, none, 0, .fixed, 0, 4294967295, 6, [(⟨SP_CNT, 31, 0⟩, 0)], 4, 0⟩,
  ⟨0x6211, 0x010, 3, some 0, some 2, 337513487, .stored, 0, 4294967295, 0, [(⟨AC_PROF, 31, 0⟩, 0)], 0, 0⟩,
  ⟨0x6211, 0x011, 3, some 0, some 2, 336212580, .stored, 0, 4294967295, 0, [(⟨AC_TIME, 31, 0⟩, 0)], 0, 0⟩,
  ⟨0x6211, 0x012, 3, some 0, some 3, 0, .stored, 0, 4294967295, 0, [(⟨AC_CAL, 31, 0⟩, 0)], 0, 0⟩,
  ⟨0x6211, 0x100, 3, some 0, none, 0, .fixed, 0, 4294967295, 4, [(⟨AC_CNT, 31, 0⟩, 0)], 4, 0⟩,
  ⟨0x6221, 0x010, 5, some 0, none, 0, .fixed, 0, 65535, 0, [], 0, 0⟩,
  ⟨0x6310, 0x010, 3, some 0, none, 0, .fixed, 0, 4294967295, 0, [(⟨SP_VBUS, 31, 0⟩, 0)], 0, 0⟩,
  ⟨0x6310, 0x011, 3, some 0, some 2, 707793300, .stored, 0, 4294967295, 0, [(SP_PLTH_PL12, 16), (SP_PLTH_PL5, 0)], 0, 0⟩,
  ⟨0x6320, 0x010, 2, some 0, some 2, 9000, .stored, 7500, 11000, 0, [(SP_HU_VHU, 0)], 0, 0⟩,
  ⟨0x6320, 0x011, 2, some 0, some 2, 13200, .stored, 12500, 14000, 0, [(SP_HU_VBRK, 0)], 0, 0⟩,
  ⟨0x6320, 0x012, 3, some 0, none, 0, .stored, 0, 4294967295, 0, [], 0, 0⟩,
  ⟨0x6320, 0x013, 2, some 0, none, 0, .fixed, 0, 65535, 0, [(SP_PSTAT_MINV, 0)], 0, 0⟩]

/-- Entries of the memory units. -/
def memoryEntries : List EntDef := [
  ⟨0x7100, 0x010, 3, some 0, none, 0, .fixed, 0, 4294967295, 0, [(⟨BM_CECNT + 4, 31, 0⟩, 0)], 0, 0⟩,
  ⟨0x7100, 0x011, 3, some 0, none, 0, .fixed, 0, 4294967295, 0, [], 0, 0⟩,
  ⟨0x7100, 0x012, 1, some 0, none, 0, .fixed, 0, 255, 0, [(BM_BKT_DIE0, 0)], 0, 0⟩]

/-- The entries of the units whose path has first nibble `n`; the carriages' are listed once. -/
def entriesOf (n : Nat) : List EntDef :=
  match n with
  | 0 => deviceEntries
  | 1 => hubEntries1 ++ hubEntries2 ++ hubEntries3 ++ hubEntries4
  | 2 => carriageEntries1 ++ carriageEntries2
  | 6 => motorEntries
  | 7 => memoryEntries
  | _ => []

end Sys2Proof.Machine
end

