-- ==== Sys2Proof/Machine/PartsHub.lean ====
section
/-! DEFINITION. The state of the hub's management side: pins and straps, test access port, start-up, die-to-die links, unit
parameters, the record store, sessions and the dictionary, Quablink, the minute clock, the bulk window, ALIVE, temperature
and power. State that a register or a dictionary table of the spec holds stands there and not here (one home each). Each
field's default is its value in `State.reset`. -/
namespace Sys2Proof.Machine

/-- The sixteen states of the IEEE 1149.1 controller (R87). -/
inductive TapState where
  | testLogicReset | runTestIdle
  | selectDr | captureDr | shiftDr | exit1Dr | pauseDr | exit2Dr | updateDr
  | selectIr | captureIr | shiftIr | exit1Ir | pauseIr | exit2Ir | updateIr
  deriving DecidableEq, Repr

/-- The test access port (R87-R90). -/
structure Tap where
  /-- Controller state (R87); TRST_N low holds Test-Logic-Reset. -/
  st : TapState := .testLogicReset
  /-- Instruction in force, 8 bits (R87): IDCODE after reset. -/
  ir : Nat := 1
  /-- Instruction shift register, 8 bits (R87). -/
  irShift : Nat := 0
  /-- Data shift register, up to 270 bits (R87, R89, R90). -/
  drShift : Nat := 0
  /-- Update latch of the boundary register, 270 bits (R89). -/
  boundary : Nat := 0
  /-- LINKTEST result register, 32 bits (R90). -/
  linkResult : Nat := 0
  /-- The LINKTEST loopback is running (R90). -/
  linkRun : Bool := false
  /-- TDO, the bit last shifted out (R87). -/
  tdo : Bool := false
  deriving DecidableEq, Repr

/-- What is fused at manufacture (R74, R99, 1A00:044.0): no reset changes it (R639). -/
structure Fuses where
  /-- The sealed fuse (R74): the security mode is sealed whatever STRAP_SEC reads. DESIGN CHOICE false, log entry 4. -/
  sealed : Bool := false
  /-- Security floor, 16 bits (R99, 1A00:044.0). DESIGN CHOICE 0, log entry 4. -/
  floor : Nat := 0
  deriving DecidableEq, Repr

/-- Pins and straps (R55-R76). -/
structure Pins where
  /-- Level of RESET_IN_N (R62, R66); low at reset. -/
  resetIn : Bool := false
  /-- Raw level of PRSNT_N (R65); high: pulled up, not mated (R62). -/
  prsnt : Bool := true
  /-- Debounced level of PRSNT_N (R65). -/
  prsntDebounced : Bool := true
  /-- Present levels of the 22 strap pins, bit i = strap bit i (1A10:017.0, R76). -/
  strapLive : Nat := 0
  /-- Strap values latched at the last sampling, 22 bits (R73). -/
  strap : Nat := 0
  /-- The straps have been sampled since power came (R73). -/
  sampled : Bool := false
  /-- Strap anomaly bits [4:0] (1A10:018.0, R76). -/
  anomaly : Nat := 0
  /-- Level of HA_PERST_N (R57, R415). -/
  perstA : Bool := false
  /-- Level of HB_PERST_N (R57, R415). -/
  perstB : Bool := false
  /-- MG_PHYRST_N: low until the management port leaves reset (R62). -/
  phyRst : Bool := false
  deriving DecidableEq, Repr

/-- How far a hot removal has come (R121). -/
inductive Removal where
  /-- No removal. -/
  | none
  /-- Steps 1-2: fetching stopped, gallery writes being completed. -/
  | draining
  /-- From step 4: heads unload, then the spindle decelerates. -/
  | unloading
  /-- PRSNT_N went high in stage 0x09, 0x0A or 0x0B (R122): heads unload and the spindle decelerates; fetching goes on. -/
  | retreat
  /-- Mated again at or after step 4: the sequence runs to its end and the start resumes (R121). -/
  | remated
  deriving DecidableEq, Repr

/-- How far a device reset has come (R637). -/
inductive DPhase where
  | idle
  /-- The trigger is taken; carriages retract. -/
  | taken
  deriving DecidableEq, Repr

/-- Start-up (R91-R122, R636-R638). -/
structure Boot where
  /-- ENTRY of the accepted image's header (R98, R99). -/
  entry : Nat := 0
  /-- Slot 0 has been refused in this start (R99). -/
  slot0Refused : Bool := false
  /-- Step 15 of the start has been reached: admin ready (R112). -/
  admin : Bool := false
  /-- Carriages that a fence or a re-initialise has taken out of the start before media ready, bit c (R122). -/
  removed : Nat := 0
  /-- Operating time in ms at the reference of the present start (1A00:045.0, R94). -/
  refTime : Nat := 0
  /-- Milliseconds from the reference to media ready, 0 until reached (1A00:045.0). -/
  mediaMs : Nat := 0
  /-- FWVER of the running image (1A00:043.0). -/
  fwver : Nat := 0
  /-- Consecutive failed D starts (1A00:047.0, R120). -/
  failedStarts : Nat := 0
  /-- 1A00:048.0: 0, 1 while checking, 2 after a refusal (R100). -/
  recovery : Nat := 0
  /-- LPDDR4X training attempts failed in this start (R104). -/
  trainFails : Nat := 0
  /-- The LPDDR4X interface is trained (R104). -/
  trained : Bool := false
  /-- SRAM checkers tested in this start (R103). -/
  eccTested : Bool := false
  /-- Hardware L2 invalidate ended in this start, core 0 runs (R102). -/
  l2Ready : Bool := false
  /-- The motor-die sensor read below 0 degC and the temperature gate holds (R107). -/
  coldGate : Bool := false
  /-- Heads of carriage c have been loaded in this start, bit c (R108). -/
  loaded : Nat := 0
  /-- Rejections of carriage c's patch in this start (R106). -/
  patchFails : SMap Nat := []
  /-- Failed loads of carriage c in this start, 4 bits each (R109). -/
  loadFails : SMap Nat := []
  /-- Carriages whose first calibration pass has ended, bit c (R110). -/
  calibrated : Nat := 0
  /-- The hub has restored the extent map, ledger and operations in this start (R110). -/
  restored : Bool := false
  /-- No extent-map copy passed its check in this start (R111). -/
  noMap : Bool := false
  /-- A Stair 4 request has been made in this start (R119). -/
  stair4Asked : Bool := false
  /-- DETAIL of the Stair 4 requests of this power cycle (R119). -/
  stair4Now : List Nat := []
  /-- DETAIL of the Stair 4 requests of the previous power cycle (R119). -/
  stair4Prev : List Nat := []
  /-- Hot removal in progress (R121). -/
  removal : Removal := .none
  /-- A thermal hold is in force (R603). -/
  thermalHold : Bool := false
  /-- Operating time at which the hot removal or thermal hold began whose commands in flight are not abandoned yet (R121, R603). -/
  drainAt : Option Nat := none
  /-- A device reset between its trigger and its release (R637). -/
  dphase : DPhase := .idle
  /-- RESET_IN_N fell while heads were loaded or the spindle turned: domains 21-24 stay powered until the power-loss
  sequence ends (R66). -/
  fallRetract : Bool := false
  deriving DecidableEq, Repr

/-- One die-to-die link or sideband (R19, R86). -/
structure LinkSt where
  /-- 0 training, 1 up, 2 down (2000:031.0, 2000:035.0). -/
  state : Nat := 0
  /-- Flit retries since power-on (2000:030.0, 2000:034.0). -/
  retries : Nat := 0
  /-- Consecutive failed retries of the flit in flight away from the hub or the carriage, and toward it (R19). -/
  failsOut : Nat := 0
  failsIn : Nat := 0
  deriving DecidableEq, Repr

/-- The standard parameters of one leaf unit (R139-R146, R591-R593). -/
structure UnitSt where
  /-- Fault summary (002): latched class bits [14:0] (R141). -/
  summary : Nat := 0
  /-- Fault force (006): class bits [14:0] (R146). -/
  force : Nat := 0
  /-- Class bits whose own cause persists (R141); a class forced through 006 persists by `force`. -/
  cause : Nat := 0
  /-- A re-initialise is in progress: 004 reads 1 and 001 reads Starting (R144). -/
  busy : Bool := false
  /-- The last re-initialise failed: 004 reads 2 (R142). -/
  failed : Bool := false
  /-- Faulted: out of service and not fenced (R140). -/
  faulted : Bool := false
  /-- In service with a lost part that its chapter names (R140). -/
  degraded : Bool := false
  /-- Event filter (007), 0-7 (R139). -/
  filter : Nat := 2
  /-- Power state requested through 005 (R145). -/
  request : Nat := 2
  /-- Reaction waiting for the end of the unit's re-initialise (R591): 0 none, else its strength. -/
  waiting : Nat := 0
  /-- Operating times of the unit's most recent S2 reactions by fault, newest first (R593); kept by every reset. -/
  history : List Nat := []
  deriving DecidableEq, Repr

/-- One event record (R613). -/
structure EvRec where
  /-- TIME [63:44]: power-cycle count. -/
  cycle : Nat := 0
  /-- TIME [43:0]: operating time in ms of the first occurrence. -/
  ms : Nat := 0
  /-- UNIT. -/
  path : Nat := 0
  /-- CODE (R614). -/
  code : Nat := 0
  /-- FLAGS [2:0]. -/
  severity : Nat := 0
  /-- FLAGS [3]: forced (R146). -/
  forced : Bool := false
  /-- FLAGS [4]: a calendar offset was in force when stored. -/
  calendar : Bool := false
  /-- FLAGS [5]: raised before media ready. -/
  bringUp : Bool := false
  /-- STAGE: PW_BOOT.STAGE when stored. -/
  stage : Nat := 0
  /-- REPEAT. -/
  repeats : Nat := 0
  /-- DETAIL. -/
  detail : Nat := 0
  /-- RSEQ. -/
  rseq : Nat := 0
  /-- LASTD. -/
  lastd : Nat := 0
  deriving DecidableEq, Repr

/-- The event recorder (R611-R626). -/
structure Recorder where
  /-- Operating time in ms (R611). -/
  optime : Nat := 0
  /-- Operating time in the state block (R611). -/
  saved : Nat := 0
  /-- Power-cycle count, saturating at 0xF_FFFF (R611). -/
  cycles : Nat := 0
  /-- Host calendar offset, 0 not set (R612, 1800:014.0). -/
  calendar : Nat := 0
  /-- Records waiting to be stored, oldest first, at most 64 (R619). -/
  queue : List EvRec := []
  /-- Store slots 0-30,719: the permanent, circulating and service areas (R616). -/
  slots : SMap (Option EvRec) := []
  /-- Progress and ledger area slots 0-2,047, each 32 bytes as a little-endian number (R621). -/
  area : SMap Nat := []
  /-- Next slot of the circulating ring (R616). -/
  ringNext : Nat := 0
  /-- RSEQ of the newest record (R613, EV_RSEQ). -/
  rseq : Nat := 0
  /-- Bytes 0-31 of the newest record (1800:016.0). -/
  newest : EvRec := {}
  /-- Records dropped since manufacture (1800:011.0). -/
  dropped : Nat := 0
  /-- Records dropped since the last record of code 0x0001 (R619). -/
  dropsSince : Nat := 0
  /-- Records filtered since P, H or D (1800:012.0). -/
  filtered : Nat := 0
  /-- Area mask of a clear in progress, 0 none (R625). -/
  clearing : Nat := 0
  /-- Every named slot below this store slot has been zeroed (R625). -/
  clearPos : Nat := 0
  /-- Session of the clear in progress (R614 code 0x0002). -/
  clearSession : Nat := 0
  deriving DecidableEq, Repr

/-- A Quablink frame in the transmit queue (R168, R169): header fields and the bytes after the header. -/
structure Frame where
  kind : Nat
  seq : Nat
  dst : Nat
  stat : Nat
  count : Nat
  body : List (BitVec 8)
  deriving DecidableEq, Repr

/-- A transaction record (R171). `ty` and `value` are what a request carries. -/
structure Txn where
  op : Nat
  ty : Nat
  unit : Nat
  pe : Nat
  value : List (BitVec 8)
  deriving DecidableEq, Repr

/-- Where a transaction came from: a command of its own, the mailbox of a port (R418), or a request frame (R172). -/
inductive TxnOrigin where
  | direct
  | mailbox (port : Nat)
  | request
  deriving DecidableEq, Repr

/-- A Block read or Block write in progress, its session's sections in state Device (R186, R189), or a transaction that waits behind one of
its session (R136). -/
structure BlockOp where
  session : Nat
  txn : Txn
  origin : TxnOrigin
  /-- 0, or the status that the end carries because the unit was re-initialised, fenced (0x08) or powered down (0x06) meanwhile. -/
  cut : Nat := 0
  /-- The coefficient sets are staged and their commits requested (R231). -/
  staged : Bool := false
  /-- The transaction has started; one that has not waits for the earlier ones of its session (R136). -/
  begun : Bool := true
  /-- The session fell back meanwhile: the sections are released at the end (R192). -/
  release : Bool := false
  deriving DecidableEq, Repr

/-- A request frame that has arrived and is not answered yet (R172, R174). -/
structure Request where
  session : Nat
  seq : Nat
  count : Nat
  /-- Records still to be performed, in order. -/
  todo : List Txn
  /-- Response records of those performed. -/
  done : List (BitVec 8) := []
  deriving DecidableEq, Repr

/-- One session (R147-R150, R174). -/
structure Session where
  /-- Role held: 0 Observer, 1 Operator, 2 Custodian, 3 Factory (R148). -/
  role : Nat := 0
  /-- Role requested by the last write of 0000:013.0 (R148). -/
  wanted : Nat := 0
  /-- Current challenge, 128 bits (R149). -/
  challenge : Option Nat := none
  /-- Low half of the response written to 0000:012.1 (R148). -/
  tagLow : Nat := 0
  /-- Consecutive failed responses (R149). -/
  fails : Nat := 0
  /-- Challenge reads are refused (R149). -/
  lockout : Bool := false
  /-- SEQ of the last performed request (R174). -/
  lastSeq : Option Nat := none
  /-- The copy of that request's response (R174). -/
  lastResp : Option Frame := none
  /-- Clear mask written to 1810:011.0 by this session (R625). -/
  clearMask : Nat := 0
  /-- SEQ of the session's next notification (R176). -/
  noteSeq : Nat := 0
  deriving DecidableEq, Repr

/-- One subscription (R157, R158). -/
structure Sub where
  session : Nat
  path : Nat
  /-- Parameter in [15:4], element in [3:0]. -/
  pe : Nat
  /-- Minimum interval in ms. -/
  interval : Nat
  deadband : Nat
  /-- Last notified value. -/
  last : Nat
  /-- Management cycles since the last notification. -/
  age : Nat
  /-- A notification fell due while the management port could not send (R654). -/
  held : Bool := false
  deriving DecidableEq, Repr

/-- A notification sent and not yet acknowledged (R176). -/
structure Note where
  session : Nat
  seq : Nat
  path : Nat
  pe : Nat
  value : Nat
  repeats : Nat
  /-- A repeat fell due while the management port could not send (R654). -/
  held : Bool := false
  deriving DecidableEq, Repr

/-- A pending alert (R177, R178). -/
structure Alert where
  seq : Nat
  code : Nat
  detail : Nat
  cycle : Nat
  ms : Nat
  /-- Sends made, 0 while it is held (R654). -/
  sends : Nat
  deriving DecidableEq, Repr

/-- The PLCA settings in force (R167). -/
structure Plca where
  enable : Nat := 1
  localId : Nat := 1
  nodes : Nat := 33
  toTimer : Nat := 32
  burst : Nat := 0
  burstTimer : Nat := 128
  deriving DecidableEq, Repr

/-- Quablink and the minute clock (R163-R184). -/
structure Mgmt where
  /-- PLCA settings in force; the written ones are the entries 1910:010-015 (R167). -/
  plca : Plca := {}
  /-- A written setting has not taken effect yet (R167). -/
  plcaPending : Bool := false
  /-- A PLCA beacon was seen and has not been missing for 100 ms (R168). -/
  plcaSeen : Bool := false
  /-- Transmit queue, oldest first, at most 32 frames (R168). -/
  tx : List Frame := []
  /-- Request frames not answered yet, in order of arrival; the first one is being performed (R174). -/
  requests : List Request := []
  /-- Block operations in progress (R189). -/
  blocks : List BlockOp := []
  /-- Notifications sent and not acknowledged (R176). -/
  notes : List Note := []
  /-- Pending alerts, oldest first (R178). -/
  alerts : List Alert := []
  /-- SEQ of the next alert (R178). -/
  alertSeq : Nat := 0
  /-- Frames performed (1900:017.0). -/
  performed : Nat := 0
  /-- Frames ignored (1900:018.0). -/
  ignored : Nat := 0
  /-- Frames dropped (1900:019.0). -/
  drops : Nat := 0
  /-- A notification was dropped since 1900:016.0 was last read (R179 [1]). -/
  dropCause : Bool := false
  /-- Sections returned to Held after a block operation and not accessed since, bit i (R179 [2]). -/
  windowCause : Nat := 0
  /-- Sync state: 0 unsynchronised, 1 synchronised, 2 holdover (1900:011.0, R184). -/
  sync : Nat := 0
  /-- Number of the minute in progress (1900:012.0). -/
  minute : Nat := 0
  /-- E of the last accepted beacon, us, 32-bit two's complement (1900:013.0). -/
  lastE : Nat := 0
  /-- Operating time of the last accepted beacon (R184). -/
  beaconAt : Nat := 0
  /-- Microseconds of correction still to be made in later minutes (R183). -/
  slew : Int := 0
  /-- Correction of the minute in progress, us (R183). -/
  slewNow : Int := 0
  /-- A minute number given by a step for the next minute (R183). -/
  nextMinute : Option Nat := none
  /-- A step whose boundary lies after the present minute's own: the number of the minute that begins there (R183). -/
  stepLater : Option Nat := none
  /-- The minute in progress was stepped (R183). -/
  stepped : Bool := false
  /-- Nodes heard in the last 180 s: node and operating time of the last beacon (R180). -/
  heard : SMap Nat := []
  deriving DecidableEq, Repr

/-- The dictionary agent (R133-R158). -/
structure Dict where
  /-- Live values of the entries that no register and no other field holds, keyed by `entryKey`; an unlisted one is at its
  default (R152). -/
  live : SMap (Option Nat) := []
  /-- Committed values of stored entries, one map per system-area copy of carriages 0-3 (R153). -/
  copies : SMap (SMap (Option Nat)) := []
  /-- Commit number of the copy of carriage c (R153). -/
  commitNo : SMap Nat := []
  /-- Number of the last commit, whether or not a copy verified (R153). -/
  lastNo : Nat := 0
  /-- 0000:015.0: 0 idle, 1 busy, 2 last commit failed (R153). -/
  store : Nat := 0
  /-- Stored values have been loaded in this start (R153). -/
  loaded : Bool := false
  /-- Committed values of BLOB entries, one map per system-area copy of carriages 0-3 (R153). -/
  blobCopies : SMap (SMap (Option (List (BitVec 8)))) := []
  /-- Live values of BLOB entries, keyed by `entryKey`; unlisted: zeros (R653). -/
  blobs : SMap (List (BitVec 8)) := []
  /-- Sessions by session ID (R173). -/
  sessions : SMap Session := []
  /-- Subscriptions, at most 256 (R157). -/
  subs : List Sub := []
  deriving DecidableEq, Repr

/-- ALIVE (R595): 1A40:011.0. -/
inductive Alive where
  | notStarted | toggling | stopped
  deriving DecidableEq, Repr

/-- Thermal supervision of one die that no register holds (R599-R607). -/
structure Thermal where
  /-- Consecutive readings off the neighbours' median by more than XDEV (R599). -/
  deviating : Nat := 0
  /-- Operating time of the first of the readings since which TEMP has stayed below TRS in Shutdown, below 105 degrees when tripped (R604,
  R607, R608); none while the timer does not run. -/
  coolAt : Option Nat := none
  /-- Operating times of the die's trips, newest first (R607). -/
  tripTimes : List Nat := []
  /-- The third trip within 24 h: the die stays tripped until P or H (R607). -/
  tripHeld : Bool := false
  /-- Trips since manufacture (1A00:055.0). -/
  trips : Nat := 0
  /-- Shutdowns since manufacture (1A00:056.0). -/
  shutdowns : Nat := 0
  deriving DecidableEq, Repr

/-- ALIVE, heartbeat, thermal and power state (R595-R608, R629-R635). -/
structure Island where
  /-- ALIVE (R595, 1A40:011.0). -/
  alive : Alive := .notStarted
  /-- Half of the ALIVE square wave in progress; the pin is high in it only while ALIVE toggles (R595). -/
  aliveHalf : Bool := false
  /-- A stop cause was met and ALIVE goes low 2 ms later (R597). -/
  stopDue : Nat := 0
  /-- Operating time of that stop cause. -/
  stopAt : Nat := 0
  /-- Operating time at which the heartbeat window last began: its opening or the last correct write (R596). -/
  beatAt : Nat := 0
  /-- Heartbeat misses since manufacture (1A40:010.0). -/
  misses : Nat := 0
  /-- A correct heartbeat has been written in this start (R596). -/
  beaten : Bool := false
  /-- The six dies: 0 hub, 1-4 carriages, 5 motor die. -/
  dies : SMap Thermal := []
  /-- The motor die tripped with a drive not Parked: its domains are held once the gates are low (R606). -/
  tripHoldUp : Bool := false
  /-- Operating time of the motor die's last trip (R606). -/
  tripAt : Nat := 0
  /-- Saved settings of powered-down domains: register key and value (R635). -/
  shadow : SMap Nat := []
  /-- Domains whose clocks are gated (005 reads 1), bit d - 1 (R145). -/
  domIdle : Nat := 0
  /-- Domains held in reset, bit d - 1 (R606, R637). -/
  domHeld : Nat := 0
  /-- Domains switched off by the device power state, bit d - 1 (R629, R145). -/
  domByState : Nat := 0
  /-- GO was written during a fault reaction: the power transition waits for the reaction's end (R645). -/
  goDue : Bool := false
  /-- The device leaves PS4: the domains are on and the heads are not yet back (R633, standby exit). -/
  exiting : Bool := false
  /-- MR4 of LPDDR4X die 0 or 1 indicated operation beyond the high limit (R598, R603), bit i. -/
  mr4Hot : Nat := 0
  /-- Refresh rate set from MR4 of dies 0 and 1, 8 bits each (R481). -/
  refresh : Nat := 0
  /-- D starts, U by request, U by reaction, Stair 4 requests, Standby entries since manufacture (1A00:066.1-5). -/
  counts : SMap Nat := []
  deriving DecidableEq, Repr

/-- What one step sends out of the block. It is emptied at the start of every command. -/
inductive Output where
  /-- The result of a dictionary transaction: session, status of R134, type code, value as a little-endian number, its bytes. -/
  | reply (session status ty value bytes : Nat)
  /-- The word a register read returned. -/
  | word (w : BitVec 32)
  /-- An Ethernet frame left the management port, from its destination address to its padding (R165, R166, R169). -/
  | frame (bytes : List (BitVec 8))
  /-- A record sent as a notification because the recorder is fenced (R624). -/
  | recordNote (session : Nat) (r : EvRec)
  /-- A completion queue entry posted: port, queue, command identifier, status field with DNR in bit 14, dword 0, submission queue and its
  head, phase tag. -/
  | completion (port queue cid status dw0 sq sqhd : Nat) (phase : Bool)
  /-- Bytes of a log page or an Identify structure returned to the host: port, first byte offset, bytes. -/
  | page (port : Nat) (bytes : List (BitVec 8))
  /-- The answer to a PCIe configuration request: port, true for Configuration Request Retry Status (R112), and the register as it then
  reads (R410). -/
  | config (port : Nat) (retry : Bool) (value : Nat)
  /-- A preamplifier serial frame driven on carriage c: the command word, and the data word of a write (R67, R68). -/
  | preamp (c command data : Nat)
  /-- A preamplifier signal of carriage `c`: 0 CAc_HTR_EN, 1 CAc_LSR_EN, 2 CAc_WG; its level; the time of the edge in ps, counted from the
  first preamble bit of the sector that starts, or from the end of the run's last pad (R259). -/
  | gate (c signal : Nat) (level : Bool) (ps : Int)
  /-- The write data of a sector on CAc_WD: its swing in mV peak-to-peak, and its edges in 1/64 sample period from the first bit of each stretch
  (R228, R249). -/
  | writeData (c : Nat) (swing : Rat) (edges : List (List Nat))
  /-- A servo sideband message of carriage c: VCM, MA, WEDGE, ELPH, AGE, PERIOD, FLAGS (R362). -/
  | sideband (c : Nat) (vcm ma : Int) (wedge elph age period flags : Nat)
  /-- The duty cycles of phases U, V and W that space-vector modulation gives the spindle's gates for a control period (R373, R374). -/
  | gates (u v w : Rat)
  /-- An MSI-X vector is signalled: port, vector (R418, R419, R454). -/
  | msix (port vector : Nat)
  /-- Bytes the device writes to host memory, entries of the notification ring (R419) among them: port, address, bytes. -/
  | host (port address : Nat) (bytes : List (BitVec 8))
  /-- Metadata of a read returned to the host: port, address of its buffer, one 8-byte number a block (R427). -/
  | metadata (port address : Nat) (metas : List Nat)
  /-- A posted memory write into the partner twin's inbox: the port that carries it, its bus address, its bytes (R567, R568). -/
  | peer (port address : Nat) (bytes : List (BitVec 8))
  /-- Bytes returned from the bulk window (R190, R191): session, bytes. -/
  | window (session wstat : Nat) (bytes : List (BitVec 8))
  /-- The bit on TDO (R87). -/
  | tdo (b : Bool)
  /-- Every digital output of the boundary register goes high-impedance: HIGHZ is in effect (R87, R89). -/
  | highz
  /-- The 270 boundary cells driven in EXTEST or CLAMP, after R59 (R88). -/
  | boundary (cells : Nat)
  /-- Blocks of a Read delivered to the host (R453): port, address, one 4,096-byte little-endian number a block. -/
  | data (port address : Nat) (blocks : List Nat)
  /-- A report of the formatter to the command engine (R296, R301): carriage, tag, kind, value. -/
  | engine (c tag kind value : Nat)
  /-- A core's access ended with a precise exception: core, cause (R513). -/
  | exception (core cause : Nat)
  deriving DecidableEq, Repr

end Sys2Proof.Machine
end

