-- ==== Sys2Proof/Machine/PartsCarriage.lean ====
section
/-! DEFINITION. The state of one carriage that no register holds: read channel, sector path and Landing, formatter
micro-sequencer and sector timing unit. -/
namespace Sys2Proof.Machine

/-- Four things in a row, one for each carriage. -/
structure Quad (α : Type) where
  a0 : α
  a1 : α
  a2 : α
  a3 : α
  deriving DecidableEq, Repr

/-- One condition's contribution of a sector to the noise predictor (R234): how often it was seen, and R0, R1, R2. -/
structure NoiseSum where
  count : Nat
  r0 : Rat
  r1 : Rat
  r2 : Rat
  deriving DecidableEq, Repr

/-- What the adapter takes from one qualifying sector (R208, R233-R235): the correlation sums of the taps of reader A and B and of
g1-g3, the sixteen noise conditions, the mean square error in the units of CH_AMSE. -/
structure AdaptSums where
  tapsA : List Rat
  tapsB : List Rat
  target : List Rat
  noise : List NoiseSum
  mse : Nat
  deriving DecidableEq, Repr

/-- One bit instant in a sample slot (R223): the S10 samples of both lanes, and whether the low-passed output of the lane departs from
its baseline by the threshold of R209, or by half of TATH (R224 step 3). -/
structure Samp where
  a : Int
  b : Int
  farA : Bool
  farB : Bool
  halfA : Bool
  halfB : Bool
  deriving DecidableEq, Repr

/-- One sector as the read channel follows it from its start to its result (R199-R226). -/
structure ChSector where
  /-- Number of the sector, given at its start: it ties the result to the descriptor. -/
  id : Nat
  head : Nat
  group : Nat
  /-- Mode in force: 0 joint, 1 reader A, 2 reader B, 3 verify (R212). -/
  mode : Nat
  write : Bool
  /-- NBP latched at the start (R199). -/
  nbp : Nat
  /-- CTF cutoff, Hz, set at the start (R197). -/
  cutoff : Nat
  /-- Scrambler seed (R220). -/
  seed : Nat
  /-- Sample slot (R223). -/
  slot : Nat
  /-- CH_LDPC, CH_RETRY, CH_ADAPT, CH_TA, CH_FE, CH_AGC, CH_TLOOP and FM_MARK as they stood at the start (R33, R242). -/
  ldpc : BitVec 32
  retry : BitVec 32
  adapt : BitVec 32
  ta : BitVec 32 := 0
  fe : BitVec 32 := 0
  agc : BitVec 32 := 0
  tloop : BitVec 32 := 0
  mark : BitVec 32 := 0
  /-- CH_HFE1 of the head at the start: the asymmetry corrections (R195). -/
  asym : BitVec 32 := 0
  /-- The 64 words of the coefficient set at the start (R229). -/
  words : List Nat := []
  /-- Mark-miss retries made of the sector so far (R255). -/
  retries : Nat := 0
  /-- Lengths of the preamble and of a resynchronisation field, and the code bits of each segment before a split (R248, R249). -/
  preamble : Nat := 0
  resync : Nat := 0
  cuts : List Nat := []
  /-- Wedge and bit at which the position ends; 0 and 0 for a sector that no descriptor placed (R307). -/
  endWedge : Nat := 0
  endBit : Nat := 0
  /-- Ciphertext of a write sector in the verify buffer, a little-endian number (R226). -/
  text : Nat := 0
  /-- Thermal asperities of the signal not found yet: first bit of the sector and length (R209). -/
  spans : List (Nat × Nat) := []
  /-- Thermal asperities found. -/
  found : List (Nat × Nat) := []
  /-- The signal slips and the slip has not shown yet; LOCK at the end of the signal (R205). -/
  slipDue : Bool := false
  locked : Bool := false
  /-- LOCK as it shows before the slip does: lock fell in the data, or stands at the end. -/
  lockShown : Bool := false
  /-- Saturations of lanes A and B (R196), f at the end of the sector in ppm, and the word that the write-back of R208 puts into CH_HFE0. -/
  satA : Nat := 0
  satB : Nat := 0
  fofs : Int := 0
  frontEnd : Nat := 0
  /-- Mark candidates, best first, at most three: offset from the expected mark and score (R252). -/
  cands : List (Int × Int) := []
  /-- Unsatisfied checks at the end of the decode of each candidate tried, in their order (R253). -/
  tried : List Nat := []
  /-- Extrinsic LLRs of the last global iteration (R216). -/
  ext : List Int := []
  asperity : Bool := false
  saturated : Bool := false
  slipped : Bool := false
  /-- The sector is an acquisition failure (R213). -/
  acqFail : Bool := false
  /-- CH_HFE0 of the head was written during the sector (R208). -/
  hfeWritten : Bool := false
  /-- Global iterations spent (R221). -/
  globals : Nat := 0
  /-- Decoder iterations spent in all. -/
  iters : Nat := 0
  /-- Unsatisfied checks at the end of the last decode. -/
  unsat : Nat := 0
  /-- First step of R224 not yet tried; 0 is the candidate step of R253. -/
  nextStep : Nat := 0
  deriving DecidableEq, Repr

/-- A result on its way to the formatter (R213, R224): the sector, its result code, the retry step, the mark candidate that
was decoded (0 none, R253, R255), the ciphertext when it converged, and CH_DSTAT as the sector set it (R311). -/
structure ChResult where
  sector : ChSector
  result : Nat
  step : Nat
  cand : Nat
  text : Nat := 0
  word : Nat := 0
  deriving DecidableEq, Repr

/-- An adapter update that waits for the sector boundary of its head (R208, R233): the set update is dropped when a commit of the set
meets it (R230), the write-back is not. -/
structure AdaptDue where
  head : Nat
  group : Nat
  write : Bool
  adapt : BitVec 32
  /-- CH_HFE0 was written during the sector (R208). -/
  hfeWritten : Bool
  frontEnd : Nat
  /-- A commit of the same set met the update. -/
  dropped : Bool := false
  sums : AdaptSums
  deriving DecidableEq, Repr

/-- A verify report (R226). -/
structure VReport where
  /-- Number of the sector. -/
  id : Nat
  raw : Nat
  weak : Nat
  conv : Bool
  viter : Nat
  /-- CH_VSTAT as the report set it (R311). -/
  word : Nat := 0
  deriving DecidableEq, Repr

/-- The read channel (R195-R243). -/
structure Channel where
  /-- Sector in progress (CH_STAT.ACTIVE, R199). -/
  cur : Option ChSector := none
  /-- Codewords waiting or being decoded, those of write sectors among them, oldest first, at most 6; the two engines hold the first two
  (R222, R226). -/
  queue : List ChSector := []
  /-- Sectors pinned in their slots for buffer retries, oldest first (R224, R225). -/
  pinned : List ChSector := []
  /-- Sample slots in the order in which they were last filled, the one filled longest ago first (R223). -/
  order : List Nat := List.range 12
  /-- Content of the sample slots, from the opening of the mark window to the end of the pad, without servo gates (R223). -/
  slots : SMap (List Samp) := []
  /-- Results not yet taken by the formatter, oldest first (R213). -/
  results : List ChResult := []
  /-- Verify reports not yet taken by the formatter, oldest first (R227). -/
  reports : List VReport := []
  /-- Number of the next sector. -/
  nextId : Nat := 0
  /-- Adapter updates not made yet, oldest first (R232, R233). -/
  due : List AdaptDue := []
  /-- Running autocorrelation estimates, key ((8 h + z) 16 + c) 3 + j (R234). -/
  auto : SMap Rat := []
  /-- Sets adapted in the active step in progress, key 8 h + z (R236). -/
  activeSets : SMap Nat := []
  /-- Sets that have taken a checkpoint, key 8 h + z (R235). -/
  checked : SMap Nat := []
  /-- Active coefficient words, key (8 h + z) 64 + word (R229). -/
  active : SMap Nat := []
  /-- Staging coefficient words, same key (R230). -/
  staging : SMap Nat := []
  /-- Committed (stored) coefficient words, same key (R224 step 4, R237). -/
  stored : SMap Nat := []
  /-- Checkpoint words of a set, same key (R235). -/
  checkpoint : SMap Nat := []
  /-- Sets whose staging firmware has written since it was loaded, key 8 h + z (R230). -/
  staged : SMap Nat := []
  /-- Sets with a commit due at the head's next sector boundary, key 8 h + z (R230). -/
  commitDue : SMap Nat := []
  /-- Set that CH_TADDR named last, 8 h + z; none before the first write (R230). -/
  taddr : Option Nat := none
  /-- Coefficient sets that hold valid data, bit 8 h + z; none after the domain's power-up (R241). -/
  setsValid : Nat := 0
  /-- Coefficient sets with an uncorrectable error, bit 8 h + z: the sectors of the head are refused (R243). -/
  badSets : Nat := 0
  /-- MSE of each set, key 8 h + z (R235). -/
  mse : SMap Nat := []
  /-- Qualifying sectors of each set since its checkpoint, key 8 h + z (R235). -/
  qualified : SMap Nat := []
  /-- Qualifying sectors of each set in all, key 8 h + z (R235). -/
  total : SMap Nat := []
  /-- Values of `total` at the set's reverts, newest first (R235). -/
  reverts : SMap (List Nat) := []
  /-- Sets whose passive adaptation is suspended, key 8 h + z (R235). -/
  suspended : SMap Nat := []
  /-- Operating time of a set's last passive update plus 1, key 8 h + z, and of the last load of the heads (R236). -/
  updated : SMap Nat := []
  loadedAt : Nat := 0
  /-- Active adaptation requests waiting behind the one shown, key 8 h + z (R236). -/
  areqs : SMap Nat := []
  /-- Steps of the VGAs due at the head's next sector start, 1 up and 2 down, key 2 head + lane (R207). -/
  vgaSteps : SMap Nat := []
  /-- First of the free values that the words of the sets without valid data hold (R241). -/
  lostBase : Nat := 0
  /-- CTF cutoff set now, Hz (R197). -/
  cutoff : Nat := 0
  /-- Iterations of the head's last 1,024 converged sectors, newest first, key head (2110:010.0). -/
  iterWin : SMap (List Nat) := []
  /-- RAW of the head's last 1,024 verified sectors, newest first, key head (2110:011.0). -/
  rawWin : SMap (List Nat) := []
  /-- Reverts of the head's sets since P, H or D, key head (2110:012.0). -/
  headReverts : SMap Nat := []
  /-- Saturations of lanes A and B since P, H or D (2510:010.0, 2520:010.0). -/
  satA : Nat := 0
  satB : Nat := 0
  deriving DecidableEq, Repr

/-- One record of the Landing journal on the medium (R269). -/
structure LRec where
  seq : Nat
  nsid : Nat
  /-- First data unit of the namespace. -/
  sdu : Nat
  count : Nat
  /-- Landing position of the first data sector. -/
  lpos : Nat
  posmap : Nat
  kgen : Nat
  ordered : Bool
  mirrored : Bool
  /-- Position of the record itself. -/
  pos : Nat
  dseq : Nat
  /-- Time of the record, and the CRC-32C of the ciphertext of each data sector. -/
  time : Nat := 0
  dcrc : List Nat := []
  deriving DecidableEq, Repr

/-- A Landing checkpoint (R277). -/
structure LCheck where
  lhead : Nat := 0
  ltail : Nat := 0
  seq : Nat := 0
  dseq : Nat := 0
  pins : List Nat := []
  deriving DecidableEq, Repr

/-- One entry of the grown-defect list (R275). -/
structure GDef where
  head : Nat
  pend : Bool
  reserve : Bool
  landing : Bool
  sect : Nat
  track : Nat
  /-- [31] pool, [30:0] spare index; 0x7FFF_FFFF while PEND. -/
  spare : Nat
  cause : Nat
  deriving DecidableEq, Repr

/-- A descriptor of the sector timing unit (R308). -/
structure Desc where
  w0 : Nat
  w1 : Nat
  w2 : Nat
  deriving DecidableEq, Repr

/-- A sector that the formatter reads or writes, over several revolutions (R255-R265). -/
structure SecWork where
  write : Bool
  head : Nat
  track : Nat
  index : Nat
  /-- Landing position, for kinds 1, 3 and 4. -/
  landing : Bool
  /-- Reads, or attempts to write, made so far. -/
  tries : Nat := 1
  /-- Mark misses in a row (R255). -/
  misses : Nat := 0
  /-- The last try failed and the sector waits for its next revolution or its spare. -/
  failed : Bool := false
  /-- The sector has its outcome. -/
  finished : Bool := false
  /-- It goes straight to a spare: its grown-defect entry has PEND set (R275). -/
  direct : Bool := false
  /-- The descriptor that named it, and the number of its sector in the channel. -/
  desc : Desc
  id : Nat := 0
  deriving DecidableEq, Repr

/-- The sector path, Landing journal, defect manager and preamplifier interface (R246-R283). -/
structure SectorPath where
  /-- Zone tables in force, 6 x 1,024 bytes; a written BLOB takes effect at the next U of 0xd300 (R247). -/
  zones : List (BitVec 8) := []
  /-- The sectors being read or written, oldest first (R255-R265). -/
  works : List SecWork := []
  /-- Landing descriptors that failed and go to the next free position once the sector queue has room (R265, R270). -/
  again : List Desc := []
  /-- Mark misses in the running minute (R255, 2300:016.0). -/
  missMinute : Nat := 0
  /-- CAc_HTR_EN, CAc_LSR_EN, CAc_WG and CAc_SG (R55, R259). -/
  htrEn : Bool := false
  lsrEn : Bool := false
  wg : Bool := false
  sg : Bool := false
  /-- Head of the open run (R259). -/
  runHead : Nat := 0
  /-- Levels the preamplifier has accepted, key 8 h + (register - 0x10) (R262). -/
  accepted : SMap Nat := []
  /-- A level entry of head h has been committed, bit h (R283). -/
  levelsSet : Nat := 0
  /-- Journal records on the medium, oldest first (R269). -/
  records : List LRec := []
  /-- What the Landing positions hold (R268): the ciphertext of a data sector, or the bytes of a record or filler. -/
  landData : SMap Nat := []
  /-- Landing positions written as type 1, 1 for each: records and fillers (R246, R269). -/
  journal : SMap Nat := []
  /-- Filler positions of Landing writes in progress, which the data of another Landing write may still fill (R268). -/
  gaps : List Nat := []
  /-- Ciphertext at home, key 262,144 e + b for block b of extent entry e (R271, R439); what an unlisted sector holds is
  `fill`. -/
  homeData : SMap Nat := []
  /-- What every home sector not listed holds: 0 as manufactured, else what the last overwrite left (R465). -/
  fill : Nat := 0
  /-- Metadata in the tag sectors of format-1 extents, key 262,144 e + b (R428): 8 bytes as a little-endian number. -/
  homeMeta : SMap (Option Nat) := []
  /-- Entries whose tag sectors have been written with 0xFF bytes (R464, R465): an unlisted block of theirs has metadata of 0xFF bytes. -/
  tagged : List Nat := []
  /-- The newest Landing checkpoint in the system area (R277). -/
  check : LCheck := {}
  /-- Landing positions pinned (R276, R281); their number is FM_DEFS2.LPINS. -/
  pins : List Nat := []
  /-- Positions written since the last checkpoint (R277). -/
  sinceCheck : Nat := 0
  /-- The last checkpoint was that of an orderly spin-down, and the journal has not changed since (R277). -/
  orderly : Bool := false
  /-- Free sectors of the carriage pool, the reserve included, and of the reserve (R274, R282). -/
  poolFree : Nat := 8192
  resFree : Nat := 64
  /-- Positions of adaptation tracks that failed their check: head, zone group, index. Every other one holds a data-type sector whose
  information bits are all 0 (R280). -/
  adaptBad : List (Nat × Nat × Nat) := []
  /-- Grown-defect list, oldest first, at most 16,384 entries (R275). -/
  grown : List GDef := []
  /-- Spares used of each band, key extent entry (R274). -/
  bandUsed : SMap Nat := []
  /-- A Format NVM has formatted extents of the carriage: no Block write of the primary defect list is taken any more (2330:101.0, log
  entry 81). -/
  formatted : Bool := false
  /-- On power loss no WG rises again (R279). -/
  noWrite : Bool := false
  deriving DecidableEq, Repr

/-- A request to the formatter (R299). -/
structure FmReq where
  opc : Nat
  /-- 1 = firmware (word 0 [23]). -/
  src : Bool
  tag : Nat
  w1 : Nat
  w2 : Nat
  w3 : Nat
  deriving DecidableEq, Repr

/-- A descriptor that has started and is not yet reported (R309-R311). -/
structure OpenDesc where
  desc : Desc
  /-- Landing position it took, for kinds 3 and 4. -/
  pos : Nat
  /-- Number of its sector in the channel. -/
  id : Nat
  refused : Bool
  /-- Its position passed in the stall of R312. -/
  skipped : Bool
  /-- R260 ended it: not written. -/
  lost : Bool
  /-- The channel refused it (R200): such a read is made again (R257). -/
  byChannel : Bool := false
  /-- It goes straight to a spare (R275). -/
  direct : Bool := false
  /-- What a write descriptor writes. -/
  text : Nat := 0
  deriving DecidableEq, Repr

/-- A report of the sector timing unit (R311). -/
structure Rpt where
  r0 : Nat
  r1 : Nat
  r2 : Nat
  r3 : Nat
  deriving DecidableEq, Repr

/-- A formatter serial frame waiting or being sent (R313). -/
structure SifFrame where
  command : Nat
  data : Nat
  /-- Sent once already without an accepted acknowledge (R262). -/
  again : Bool
  deriving DecidableEq, Repr

/-- The micro-sequencer and the sector timing unit (R284-R321). -/
structure Formatter where
  /-- G1-G15, key register number (R289). -/
  g : SMap Nat := []
  /-- Loop counters (R291). -/
  lc0 : Nat := 0
  lc1 : Nat := 0
  /-- Flags ZERO, NEG and CARRY (R290). -/
  zero : Bool := false
  neg : Bool := false
  carry : Bool := false
  /-- Flags saved at a handler's entry (R303). -/
  savedFlags : Nat := 0
  /-- Micro-stack, newest first, at most 8 (R293). -/
  stack : List Nat := []
  /-- Stack depth at a handler's entry (R304). -/
  entryDepth : Nat := 0
  /-- Safe-point distance counter (R298). -/
  spd : Nat := 0
  /-- The present word is a WAIT word that waits (R292). -/
  waiting : Bool := false
  /-- RUN was cleared and the sequencer holds at a safe point (R306). -/
  held : Bool := false
  /-- Written shadows not committed yet, oldest first: port and value (R296, R297). -/
  shadows : List (Nat × Nat) := []
  /-- Request queue, oldest first, at most 16 (R299). -/
  queue : List FmReq := []
  /-- Request running (R299). -/
  running : Option FmReq := none
  /-- The running request has completed by REQ_DONE (R301). -/
  done : Bool := false
  /-- Argument of the interrupt being handled (port INTARG, R302). -/
  intArg : Nat := 0
  /-- Argument of the pending level-1 and level-3 interrupts (R302). -/
  argAbort : Nat := 0
  argFault : Nat := 0
  /-- Report last taken, ports RPT0-RPT3 (R296). -/
  taken : Rpt := ⟨0, 0, 0, 0⟩
  /-- Report queue, oldest first, at most 8 (R311). -/
  reports : List Rpt := []
  /-- Descriptor staging DESC0-DESC2 (R296). -/
  desc : Desc := ⟨0, 0, 0⟩
  /-- Sector queue, oldest first, at most 4 (R309). -/
  sq : List Desc := []
  /-- Descriptors started and not yet reported, oldest first (R309-R311). -/
  started : List OpenDesc := []
  /-- A descriptor with RUNEND has completed in the open run (R310). -/
  runEnd : Bool := false
  /-- A Landing write has started: a kind-3 descriptor of it has, and its record has not (R272). -/
  landing : Bool := false
  /-- Positions passed in a row with no Landing descriptor while the run is open (R310). -/
  passed : Nat := 0
  /-- The last word executed was a safe point (R303). -/
  atSafe : Bool := false
  /-- The base microcode runs with no valid trap: it does what R300 says of its routine, a step at each safe point. Its own progress: what stands
  before its data (`romStage`), descriptors pushed, sectors on the medium or read, and Landing positions of data on the medium. -/
  rom : Bool := false
  romStage : Nat := 0
  romPushed : Nat := 0
  romDone : Nat := 0
  romPlaces : List Nat := []
  /-- The handler that runs was taken with no routine running (R303). -/
  fromIdle : Bool := false
  /-- JADDR (R296). -/
  jaddr : Nat := 0
  /-- Journal staging, 64 KiB, by byte (R296). -/
  journal : SMap Nat := []
  /-- Staged grown-defect entry DEF0-DEF3, key 0-3 (R296). -/
  defs : SMap Nat := []
  /-- Formatter serial frames queued, oldest first, at most 4 (R313). -/
  sif : List SifFrame := []
  /-- A formatter frame (true) or a firmware frame (false) is on the wire (R70). -/
  wire : Option Bool := none
  /-- Head whose preamplifier fault during a write waits for the read of register 0x30 (R263). -/
  faultRead : Option Nat := none
  /-- The last formatter frame was acknowledged 0b10 (R294 SIFACK). -/
  sifAck : Bool := false
  /-- CAc_SG has risen since the WEDGE condition was last tested (R294). -/
  wedge : Bool := false
  /-- Corrections by a servo address mark larger than 32 bits (R307). -/
  bigCorrections : Nat := 0
  /-- The supply monitor signals power loss (R294 PLOSS, R314). -/
  ploss : Bool := false
  /-- The ROM copy into the control store has ended (R285). -/
  copied : Bool := false
  /-- Patch RAM words written by a valid load, key 0-1,023 (R286). -/
  patch : SMap (Option Nat) := []
  /-- Trap CAM entries, key 0-31: [31] VALID, [28:16] address, [9:0] patch word (R286, R315). -/
  cam : SMap Nat := []
  deriving DecidableEq, Repr

end Sys2Proof.Machine
end

