-- ==== Sys2Proof/Machine/PartsMotion.lean ====
section
/-! DEFINITION. The state of a carriage's servo, of the spindle drive and of an actuator drive that no register holds. -/
namespace Sys2Proof.Machine

/-- The past inputs and outputs of one biquad section (R334): Q15, of BM 1/1,024 track (R332, R336). -/
structure Biquad where
  x1 : Int := 0
  x2 : Int := 0
  y1 : Int := 0
  y2 : Int := 0
  deriving DecidableEq, Repr

/-- One head's band laws (R359-R361). -/
structure BandLaw where
  /-- Read clearance: sum and number of the block's measures. -/
  rdSum : Int := 0
  rdCount : Nat := 0
  /-- Write clearance. -/
  wrSum : Int := 0
  wrCount : Nat := 0
  /-- Laser bias. -/
  lbSum : Int := 0
  lbCount : Nat := 0
  /-- A read-clearance step waits for the run to close: the new HTRR (R360). -/
  stepDue : Option Nat := none
  deriving DecidableEq, Repr

/-- The control engine and the demodulator (R324-R368). -/
structure Servo where
  /-- Consecutive consistent SAMs in the search (R328). -/
  lockCount : Nat := 0
  /-- Wedge number carried forward (R328). -/
  wedge : Nat := 0
  /-- Wedge numbers read that disagreed (R328). -/
  disagree : Nat := 0
  /-- The last 16 SAM-to-SAM intervals, newest first, 1/16 sample period (R329). -/
  intervals : List Nat := []
  /-- Integrator I, Q15 (R334). -/
  integ : Int := 0
  /-- Biquads B1-B4 (R334). -/
  b1 : Biquad := {}
  b2 : Biquad := {}
  b3 : Biquad := {}
  b4 : Biquad := {}
  /-- Microactuator biquad BM (R336). -/
  bm : Biquad := {}
  /-- Estimated microactuator stroke, 1/1,024 track (R336). -/
  ym : Int := 0
  /-- Previous ec and ev, 1/1,024 track (R334, R338). -/
  ecPrev : Int := 0
  evPrev : Int := 0
  /-- Previous sample had |ec| within WUTH (R338). -/
  ecOk : Bool := false
  /-- At the last sample nothing but the engine's state kept write-unsafe asserted (R338). -/
  quiet : Bool := false
  /-- Command of the previous sample, Q15 (R347, R349). -/
  uv : Int := 0
  /-- Microactuator command of the previous sample, Q15 (R336). -/
  um : Int := 0
  /-- Estimator position, 1/1,024 track, and velocity, 1/256 track per ms (R347); SV_VEL shows the velocity. -/
  xh : Int := 0
  vh : Int := 0
  /-- Position, 1/1,024 track, of the last SAM of a search (R333). -/
  searchPos : Int := 0
  /-- Wedges since the search began (R109, R363). -/
  searched : Nat := 0
  /-- Jerk limit of the present profile, tracks/ms3 (R345, R346). -/
  jerk : Nat := 1
  /-- Start position and direction of the present profile (R345). -/
  x0 : Int := 0
  up : Bool := true
  /-- Durations of flights 1-7, ms (R345). -/
  flights : List Rat := []
  /-- Profile time, ms (R346). -/
  ptime : Rat := 0
  /-- Samples in which the profile time has stood still (R346). -/
  stood : Nat := 0
  /-- Samples since the profile ended (R350). -/
  afterProfile : Nat := 0
  /-- Samples since the handover (R350). -/
  afterHandover : Nat := 0
  /-- Consecutive samples within SETTH (R339). -/
  settled : Nat := 0
  /-- The held seek: head and track (R344). -/
  held : Option (Nat × Nat) := none
  /-- The held seek arrived in Coast and starts when lock is regained (R344, R367). -/
  heldInCoast : Bool := false
  /-- The seek in progress failed once already (R350). -/
  failedOnce : Bool := false
  /-- The flights of the seek in progress have been planned (R345). -/
  planned : Bool := false
  /-- No seek is in progress in Settle: the engine holds the heads after a second failure, a fence of the head or a refused select
  frame (R350, R364, R368). -/
  standing : Bool := false
  /-- Handover is due: the writer position, 1/1,024 track, of the sample at which it became due (R349). -/
  due : Option Int := none
  /-- ec of the learning revolution in progress by wedge, and its consecutive samples (R354). -/
  rev : SMap Int := []
  revCount : Nat := 0
  /-- Head whose select frame waits for its acknowledge (R351). -/
  switching : Option Nat := none
  /-- The select frame of R351 or R333 has been queued. -/
  frameQueued : Bool := false
  /-- The head has changed and none of its samples has been decoded yet (R351). -/
  newHead : Bool := false
  /-- Wedges since lock was lost (R340). -/
  coast : Nat := 0
  /-- RETRACT is set in the messages (R340, R364). -/
  retract : Bool := false
  /-- The actuator drive reports that the heads leave the ramp (R363). -/
  leaving : Bool := false
  /-- Grid banks, key 64 k + word (R341). -/
  grid : SMap Nat := []
  /-- Staging banks, key 64 k + word (R343). -/
  staging : SMap Nat := []
  /-- Bank that SV_CADDR named last (R343). -/
  caddr : Option Nat := none
  /-- Accepted banks waiting for the next sample boundary, key k (R343). -/
  bankDue : SMap Nat := []
  /-- The words of those banks as they passed their check, key 64 k + word (R343). -/
  accepted : SMap Nat := []
  /-- Active bank words (R342). -/
  bank : SMap Nat := []
  /-- Grid position of the active bank, 1/64 step (R342). -/
  lam : Nat := 0
  /-- The shadow bank is filled and waits for the boundary, with its grid position (R342). -/
  shadow : Option (Nat × SMap Nat) := none
  /-- Correction tables, key (48 h + z) 640 + w: FF in [31:16], REF in [15:0] (R352). -/
  tables : SMap Nat := []
  /-- Heads whose table is invalid after an uncorrectable error, bit h (R368). -/
  badTable : Nat := 0
  /-- Learning accumulator by wedge, 1/1,024 track (R354). -/
  acc : SMap Int := []
  /-- Sum of rpm_s over the learning revolutions and their number (R355). -/
  rpmSum : Nat := 0
  /-- Candidate table by wedge (R355). -/
  candidate : SMap Nat := []
  /-- Head and zone of the candidate (R354, R356). -/
  candidateOf : Nat × Nat := (0, 0)
  /-- A COMMIT of the candidate waits for a boundary with no run open (R356). -/
  rcDue : Bool := false
  /-- Band laws by head (R359). -/
  bands : SMap BandLaw := []
  /-- Wedges since the run opened, its first CLR, the sum of those of wedges 4-7 and how many these are (R359). -/
  runWedges : Nat := 0
  runFirst : Option Int := none
  runSum : Int := 0
  runCount : Nat := 0
  deriving DecidableEq, Repr

/-- One sideband message as the actuator drive holds it (R362). -/
structure SbMsg where
  vcm : Int := 0
  ma : Int := 0
  wedge : Nat := 0
  elph : Nat := 0
  age : Nat := 0
  period : Nat := 0
  flags : Nat := 0
  deriving DecidableEq, Repr

/-- The spindle drive and the supply monitor (R371-R398). Physical quantities are exact rationals in the units named. -/
structure Spindle where
  /-- Current-loop integrators Sd and Sq, mV (R374). -/
  sd : Rat := 0
  sq : Rat := 0
  /-- References id_ref and iq_ref, mA (R374, R376, R381). -/
  idRef : Rat := 0
  iqRef : Rat := 0
  /-- Voltage vector applied in the last control period, mV (R374, R375). -/
  vd : Rat := 0
  vq : Rat := 0
  /-- Speed-loop integrator W, mA (R381). -/
  w : Rat := 0
  /-- Hold-up integrator H, mA (R397). -/
  h : Rat := 0
  /-- Speed reference, rpm, of which SP_SPD.REF shows the whole part (R381). -/
  ref : Rat := 0
  /-- Electrical angle in use, turns (R374, R386). -/
  theta : Rat := 0
  /-- Observer angle, turns, and speed, rpm (R377). -/
  obsTheta : Rat := 0
  obsRpm : Rat := 0
  /-- Low-passed back-EMF estimate in the stationary frame, mV, and the sum and number of |phase error| since the last evaluation (R377,
  R378). -/
  emfA : Rat := 0
  emfB : Rat := 0
  epsSum : Rat := 0
  epsCount : Nat := 0
  /-- Averaged currents of phases U and V, mA, and the vector applied, mV, stationary frame (R373, R377). -/
  iU : Rat := 0
  iV : Rat := 0
  va : Rat := 0
  vb : Rat := 0
  /-- Duty cycles of phases U, V and W applied in the last control period (R373, R374). -/
  du : Rat := 0
  dv : Rat := 0
  dw : Rat := 0
  /-- Control periods in the present state; since the lock of a start or catch is awaited; since power loss was signalled (R391, R392, R397). -/
  inState : Nat := 0
  waited : Nat := 0
  lossAge : Nat := 0
  /-- The open-loop speed has been reached (R391). -/
  await : Bool := false
  /-- Consecutive control periods with a phase current above 1.25 IMAX, and with all below 2 % of IMAX (R393, R405). -/
  ocur : Nat := 0
  quiet : Nat := 0
  /-- Length of the present Braking, ms; 0: until the currents have stayed low for 200 ms (R390, R393). -/
  brakeFor : Nat := 0
  /-- The back-EMF check after a reset has not been made (R655). -/
  checkDue : Bool := true
  /-- The hold-up in progress has failed (R397). -/
  holdFailed : Bool := false
  /-- The observer is locked (R378). -/
  locked : Bool := false
  /-- Consecutive evaluations at or above CLOCK, and below CLOST (R378). -/
  good : Nat := 0
  bad : Nat := 0
  /-- Consecutive evaluations in which the observer agreed with the wedge angle (R394). -/
  agree : Nat := 0
  /-- The observer runs: the current loops run (R377, R378). -/
  loops : Bool := false
  /-- The current command's start has reached Running once (R381, R389). -/
  ran : Bool := false
  /-- A stop is wanted when the spindle is caught (R393). -/
  stopping : Bool := false
  /-- What follows the present Braking: true Aligning, false Stopped (R390, R393). -/
  brakeThenAlign : Bool := false
  /-- A failed attempt waits for the spindle to stop before the next one (R392). -/
  retry : Bool := false
  /-- A re-catch is being tried (R395). -/
  recatch : Bool := false
  /-- The deceleration resumes after a re-catch (R404). -/
  resumeDecel : Bool := false
  /-- Demand governor request, rpm (R384). -/
  request : Nat := 3600
  /-- 100 ms periods for which U has been at or below ULO (R384). -/
  dwell : Nat := 0
  /-- Busy fractions of carriages 0-3, 0.1 % (R384, R448, 1320:011). -/
  busy : SMap Nat := []
  /-- EOFS calibration sums of sine and cosine, by carriage (R388). -/
  ecalSin : SMap Rat := []
  ecalCos : SMap Rat := []
  /-- A hold-up sequence is in progress (R397). -/
  holdUp : Bool := false
  /-- Hold-up sequences since manufacture (6320:012.0). -/
  holdUps : Nat := 0
  /-- The gates are driven by the modulation (R373); false: all low, but for Braking (R380). -/
  gates : Bool := false
  /-- Braking: all low-side gates on, all high-side gates off (R380). -/
  lowSide : Bool := false
  /-- A catch is in progress: the observer is seeded and the loops run at zero current (R390, R395). -/
  seeded : Bool := false
  /-- Latency of each carriage's sideband, measured at link training, ns to 5 ns (R386). -/
  lat : SMap Nat := []
  /-- Last sideband message of each carriage (R386). -/
  last : SMap SbMsg := []
  /-- Control periods since each carriage's last message (R386). -/
  ta : SMap Nat := []
  deriving DecidableEq, Repr

/-- A profile of the actuator drive (R403). -/
inductive Profile where
  | none | load | unload | retract
  deriving DecidableEq, Repr

/-- One carriage's actuator drives (R400-R403). -/
structure Drive where
  /-- Profile running and its phase, 1 or 2 (R403). -/
  profile : Profile := .none
  phase : Nat := 0
  /-- Voice-coil command output, Q15 of full scale (R400, R403). -/
  vcm : Int := 0
  /-- Microactuator command of the last applied message, Q15 (6221:010.0). -/
  ma : Int := 0
  /-- Code on MAc, 14 bits (R401). -/
  maCode : Nat := 8192
  /-- Consecutive messages with CMDV 0 while Holding (R402). -/
  holding : Nat := 0
  /-- A re-initialise waits for the drive to be Parked (R404). -/
  reinitDue : Bool := false
  /-- Control periods in the present phase of the profile (R403). -/
  age : Nat := 0
  /-- Turns of the spindle since the load began (R403). -/
  turned : Rat := 0
  /-- Control periods for which the sensed current has differed from the command by more than 10 % of IFS (R400). -/
  offFor : Nat := 0
  /-- The last message's sensed current differs so. -/
  differs : Bool := false
  deriving DecidableEq, Repr

end Sys2Proof.Machine
end

