-- ==== Sys2Proof/Machine/PartsHost.lean ====
section
/-! DEFINITION. The state of the host side that no register holds: the two ports and their NVMe controllers, the command
engine, the extent map, namespaces, Format NVM and Sanitize. -/
namespace Sys2Proof.Machine

/-- An I/O submission queue of a controller (R421, R423). -/
structure SubQ where
  /-- Completion queue it posts to. -/
  cq : Nat
  /-- Entries, at most 1,024. -/
  size : Nat
  /-- Entries fetched, modulo the size (SQ head). -/
  head : Nat := 0
  deriving DecidableEq, Repr

/-- An I/O completion queue of a controller (R421, R423, R454). -/
structure ComQ where
  /-- Entries, at most 1,024. -/
  size : Nat
  /-- MSI-X vector, 65 of none. -/
  vector : Nat := 0
  ien : Bool := false
  /-- Next entry the controller writes (CQ tail). -/
  tail : Nat := 0
  /-- Next entry the host consumes, as its doorbell last said; full when one below it (R454). -/
  head : Nat := 0
  /-- Phase tag of the entries that the controller writes; it turns over at each wrap (R454 and the NVMe specification). -/
  phase : Bool := true
  deriving DecidableEq, Repr

/-- One PCIe port with its NVMe controller (R408-R434). -/
structure Port where
  /-- Configuration and BAR space are enabled: link up since the last L reset (R415). -/
  configured : Bool := false
  /-- Configuration space (R410, R411): the writable bits of the Command register, the addresses in BAR0/1 and BAR2/3, the D-state (0 or
  3, R409), and the MSI-X enable and mask. -/
  cfgCommand : Nat := 0
  bar0 : Nat := 0
  bar2 : Nat := 0
  dstate : Nat := 0
  msixEnable : Bool := false
  msixMask : Bool := false
  /-- PCI Express and AER registers that software writes (R408-R410): payload size 128 << `mps`, read request size 128 << `mrrs`, ASPM L1 on;
  words of the AER capability by their number. -/
  mps : Nat := 0
  mrrs : Nat := 2
  aspmL1 : Bool := false
  aer : SMap Nat := []
  /-- Words of the MSI-X table that have been written, by their number from BAR0 offset 0x2000 on (R411). -/
  msixTable : SMap Nat := []
  /-- Controller registers as the host wrote them: CC, AQA, and the admin queue bases (R411, R421). -/
  cc : Nat := 0
  aqa : Nat := 0
  asq : Nat := 0
  acq : Nat := 0
  /-- CC.EN as the host last wrote it (R113, R415). -/
  en : Bool := false
  /-- CSTS.RDY. -/
  rdy : Bool := false
  /-- CSTS.CFS (R113, R414). -/
  cfs : Bool := false
  /-- CSTS.SHST: 0 normal, 1 occurring, 2 complete (R417). -/
  shst : Nat := 0
  /-- Submission queues by identifier; 0 is the admin queue. -/
  sqs : SMap (Option SubQ) := []
  /-- Completion queues by identifier; 0 is the admin queue. -/
  cqs : SMap (Option ComQ) := []
  /-- Submission queue the burst stands on, and commands left of it (R436). -/
  rrQueue : Nat := 0
  rrLeft : Nat := 0
  /-- Features by feature identifier (R424), an unlisted one at its default. -/
  features : SMap Nat := []
  /-- Asynchronous Event Requests outstanding: command identifiers, at most 8 (R423). -/
  aers : List Nat := []
  /-- Asynchronous events not yet reported: type, information and log page of the completion (R423, R465). -/
  events : List Nat := []
  /-- Aborts outstanding: command identifier of the Abort, target queue and target identifier, at most 4 (R458). -/
  aborts : List (Nat × Nat × Nat) := []
  /-- Power state of the controller, 0-4 (R469). -/
  ps : Nat := 0
  /-- Milliseconds since the controller last had a command in flight (R469). -/
  idle : Nat := 0
  /-- Last operational state, 0-2 (R470). -/
  lastOp : Nat := 0
  /-- Namespaces changed since the Changed Namespace List was read (R425). -/
  changed : List Nat := []
  /-- Error Information log, newest first, at most 64: queue, identifier, namespace, status, LBA (R425, R463). -/
  errors : List (Nat × Nat × Nat × Nat × Nat) := []
  /-- Reservation notifications not yet read, newest last: type 1 registration preempted, 2 reservation released, 3 reservation
  preempted, and namespace (R425 log page 0x80 and the NVMe specification). -/
  notices : List (Nat × Nat) := []
  /-- Autonomous transitions, key power state: [7:3] target, [31:8] idle time in ms (R469 and the NVMe specification). -/
  apst : SMap Nat := []
  /-- Phase bit of the notification ring (R419). -/
  ringPhase : Bool := true
  deriving DecidableEq, Repr

/-- One entry of the extent map (R438). -/
structure Extent where
  nsid : Nat := 0
  car : Nat := 0
  head : Nat := 0
  btrk : Nat := 0
  eidx : Nat := 0
  kgen : Nat := 0
  mirrored : Bool := false
  readonly : Bool := false
  divergent : Bool := false
  fmt1 : Bool := false
  /-- No such band, or band unusable. -/
  retired : Bool := true
  mseq : Nat := 0
  deriving DecidableEq, Repr

/-- A registrant of a namespace's reservation (R423). -/
structure Registrant where
  ctrl : Nat
  key : Nat
  hostId : Nat
  deriving DecidableEq, Repr

/-- One namespace (R426-R428). -/
structure Nspace where
  /-- NSZE, blocks, which its extents hold; NCAP (R426). -/
  size : Nat := 0
  cap : Nat := 0
  /-- LBA format, 0 or 1 (R427). -/
  fmt : Nat := 0
  /-- Protection information type, 0, 1 or 3 (R427). -/
  pi : Nat := 0
  /-- MSET: metadata as extended LBAs. -/
  mset : Bool := false
  /-- PIL. -/
  pil : Bool := false
  /-- Attached controllers, bit 0 port A, bit 1 port B (R426). -/
  attached : Nat := 0
  /-- Creations of this NSID (R426 NGUID). -/
  creations : Nat := 0
  /-- Reservation: type 0 none, 1-6, and holder. -/
  rtype : Nat := 0
  holder : Nat := 0
  regs : List Registrant := []
  /-- Persist through power loss (R423). -/
  ptpl : Bool := false
  /-- Reservation generation. -/
  rgen : Nat := 0
  deriving DecidableEq, Repr

/-- How a piece moves (R443, R451). -/
inductive Path where
  /-- Landing write (R268). -/
  | landing
  /-- Stream write, home with verify. -/
  | stream
  /-- A read from the Landing or home (R273). -/
  | read
  /-- A read served from a gallery, on no carriage (R451). -/
  | gallery
  deriving DecidableEq, Repr

/-- How far a piece has come. -/
inductive PieceSt where
  /-- No step after intake has started. -/
  | waiting
  /-- The cipher step has released its data (R541), or its read has been issued. -/
  | started
  /-- The local copy is on the medium (R453), or the data has been delivered. -/
  | done
  /-- Ended with an error status (R461). -/
  | failed (status : Nat)
  deriving DecidableEq, Repr

/-- One piece of a command: blocks of one extent entry (R439), and for a Landing write its Landing unit (R444, R549). -/
structure Piece where
  entry : Nat
  /-- First block within the extent. -/
  first : Nat
  count : Nat
  path : Path
  st : PieceSt := .waiting
  /-- Generation under which it was enciphered (R547). -/
  kgen : Nat := 0
  /-- The record descriptor has been pushed (R460). -/
  pushed : Bool := false
  /-- A write's ciphertext, one number per data unit released so far (R541). -/
  cipher : List Nat := []
  /-- A Write message has been sent for it (R577). -/
  sent : Bool := false
  /-- Numbers of the Write messages sent for it and not yet acknowledged (R576). -/
  waitsAck : List Nat := []
  deriving DecidableEq, Repr

/-- Who submitted a command of the command engine. -/
inductive Source where
  | host
  /-- A Write message of the twin, with its MSEQ (R576). -/
  | twin (mseq : Nat)
  /-- A re-key chunk of carriage c (R550). -/
  | rekey (c : Nat)
  /-- A resilver chunk sent (R582). -/
  | resilver
  /-- A resilver chunk received, with its MSEQ (R582). -/
  | chunk (mseq : Nat)
  deriving DecidableEq, Repr

/-- What a command waits for between intake and its first step. -/
inductive Stage where
  /-- Waits for pool pages (R478). -/
  | pages
  /-- Waits on order or overlap (R449, R450). -/
  | order
  /-- Its steps after intake may start. -/
  | ready
  deriving DecidableEq, Repr

/-- One command in flight (R435). -/
structure Cmd where
  slot : Nat
  isn : Nat
  port : Nat
  sq : Nat
  cid : Nat
  opc : Nat
  nsid : Nat
  slba : Nat
  nlb : Nat
  ordered : Bool
  /-- A twin's message with ATOMIC: one Landing write (R576). -/
  atomic : Bool := false
  source : Source := .host
  stage : Stage
  /-- First host addresses of its data pointer and of a separate metadata buffer. -/
  addr : Nat := 0
  maddr : Nat := 0
  /-- Its protection fields (R427). -/
  prot : Prot := {}
  /-- It has had to wait for pool pages (1420:011.0). -/
  waited : Bool := false
  /-- Write: its data lies wholly in its gallery with protection information checked. Read: its data is captured (R450). -/
  inGallery : Bool := false
  /-- Plaintext blocks in its gallery, key LBA: 4,096 bytes as a little-endian number. -/
  blocks : SMap (Option Nat) := []
  /-- Metadata of its blocks in a namespace of format 1, key LBA: 8 bytes as a little-endian number (R428). -/
  metas : SMap (Option Nat) := []
  /-- Operating time at which its requests began to wait for their carriages (R446). -/
  since : Nat := 0
  pieces : List Piece := []
  /-- The status that the command will end with, decided before its commit (R437, R461). -/
  verdict : Option Nat := none
  /-- Its controller was reset: it is carried to the medium and nothing is posted (R416). -/
  noPost : Bool := false
  /-- Committed status (R454): code type in [10:8], code in [7:0]. -/
  committed : Option Nat := none
  /-- A mirrored write whose Abort is held until its commit (R577). -/
  abortHeld : Bool := false
  deriving DecidableEq, Repr

/-- Kinds of operation that R466 resumes. -/
inductive OpKind where
  | format | cryptoErase | overwrite
  deriving DecidableEq, Repr

/-- A Format NVM or Sanitize in progress (R464-R466). -/
structure Oper where
  kind : OpKind
  /-- Namespace of a Format NVM. -/
  nsid : Nat := 0
  port : Nat := 0
  cid : Nat := 0
  /-- Fields of the command: new LBA format, protection type, MSET, PIL, SES. -/
  fmt : Nat := 0
  pi : Nat := 0
  mset : Bool := false
  pil : Bool := false
  ses : Nat := 0
  /-- Namespaces whose epoch it has advanced. -/
  advanced : List Nat := []
  /-- Its commands in flight at acceptance have ended: it has started. -/
  started : Bool := false
  /-- OWPASS, OVRPAT, OIPBP and AUSE of a Sanitize. -/
  passes : Nat := 0
  pattern : Nat := 0
  invert : Bool := false
  ause : Bool := false
  /-- Steps done (R464, R465). -/
  step : Nat := 0
  /-- Pass in progress (1300:013.0). -/
  pass : Nat := 0
  /-- Bands done over all passes (R467 SPROG). -/
  bands : Nat := 0
  /-- Number of the State message whose Ack the operation waits for (R576). -/
  ackDue : Option Nat := none
  /-- It came as State message number m of the twin, to acknowledge at its end (R576). -/
  fromTwin : Option Nat := none
  /-- A carriage was fenced at some step: its steps are skipped and the operation fails (R465). -/
  skipped : Bool := false
  /-- A reset dropped its completion (R416). -/
  resumed : Bool := false
  deriving DecidableEq, Repr

/-- The command engine (R435-R473). -/
structure Engine where
  /-- ISN of the next command (R435). -/
  isn : Nat := 0
  /-- Commands in flight, lowest ISN first; their number is HQ_STAT.INFL. -/
  cmds : List Cmd := []
  /-- Completions committed and not yet posted, in commit order: port, completion queue, identifier, submission queue,
  status, dword 0 (R454). -/
  posting : List (Nat × Nat × Nat × Nat × Nat × Nat) := []
  /-- Turn of the two controllers: the port that fetches next (R436). -/
  turn : Nat := 0
  /-- The extent map in the near gallery, key entry number (R438); an unlisted entry has no band. -/
  extents : SMap Extent := []
  /-- Highest MSEQ (R442, 1330:012.0). -/
  mapSeq : Nat := 0
  /-- A map change made in the near gallery and not yet written to every carriage (R442). -/
  mapDue : Bool := false
  /-- Completions that wait for the map change (R442 step 4), as in `posting`. -/
  mapWait : List (Nat × Nat × Nat × Nat × Nat × Nat) := []
  /-- Copies of the map in the system areas of carriages 0-3, key carriage: the highest MSEQ and the entries (R442). A carriage
  not listed holds the map as manufactured, `factoryMap`. -/
  mapCopies : SMap (Option (Nat × List (Nat × Extent))) := []
  /-- Namespaces, key NSID 1-128; one of size 0 does not exist (R426). -/
  spaces : SMap Nspace := []
  /-- Format NVM or Sanitize in progress (R464-R466). -/
  oper : Option Oper := none
  /-- Sanitize Status: 0 never, 1 success, 2 in progress, 3 failed; 4 failed and left by SANACT 1 (R465, R467). -/
  sanitize : Nat := 0
  /-- The failed sanitize was in unrestricted mode (AUSE, R465). -/
  unrestricted : Bool := false
  /-- Completion counters, key 1-6 (1340:010.0). -/
  counters : SMap Nat := []
  /-- Per carriage, since its Landing free space fell below the low mark: requests issued, destages among them (R447). -/
  issued : SMap Nat := []
  destages : SMap Nat := []
  /-- Bit c: the last request issued to carriage c was a destage; carriage c has been Landing-full and has not returned to the low mark (R447). -/
  lastDestage : Nat := 0
  fullMark : Nat := 0
  /-- Records of carriage c whose destage stands at the head of its queue (R445). -/
  urgent : SMap (List Nat) := []
  /-- The last 1,000 ms of carriage c, newest in bit 0: it had a command queued or in execution (R384, R448). -/
  busyWindow : SMap Nat := []
  /-- Milliseconds for which neither controller has been ready (R469). -/
  unready : Nat := 0
  /-- Neither controller has been ready for 60 s (R469). -/
  noReady : Bool := false
  /-- Power-loss signal in force at the hub: no completion is committed (R554). -/
  lossHold : Bool := false
  deriving DecidableEq, Repr

end Sys2Proof.Machine
end

