-- ==== Sys2Proof/Machine/PartsMemory.lean ====
section
/-! DEFINITION. The state of the buffer manager, the DMA engine, the core cluster, the cipher engine, the minute ledger and
twin mirroring that no register holds. -/
namespace Sys2Proof.Machine

/-- The buffer manager (R474-R487). -/
structure Buffer where
  /-- Page chain table, key page: owning command slot and next page (R477); an unlisted page is free. -/
  pages : SMap (Option (Nat × Nat)) := []
  /-- A wait for pages is in progress (R478). -/
  waiting : Bool := false
  /-- Uncorrectable data bursts, key 8 g + k: 1 poisoned and not yet met by a read, 2 reported (R482, R483). -/
  poison : SMap Nat := []
  /-- Uncorrectable near-gallery words, key word number (R484). -/
  badNear : SMap Nat := []
  /-- Landing index of each carriage: sequence numbers of the records held, key carriage (R476). -/
  landIndex : SMap (List Nat) := []
  /-- Uncorrectable bursts of dies 0 and 1 since P, H or D (7100:011.0, 7200:011.0). -/
  ue0 : Nat := 0
  ue1 : Nat := 0
  /-- Operating time of the last leak of the buckets (R486). -/
  leakAt : Nat := 0
  /-- Both dies are in self-refresh (R487). -/
  selfRefresh : Bool := false
  deriving DecidableEq, Repr

/-- A cart as the engine read it (R489). -/
structure Cart where
  src : Nat
  dst : Nat
  len : Nat
  ctl : Nat
  idx : Nat
  nidx : Nat
  esz : Nat
  tag : Nat
  /-- The link word as last read. -/
  link : Nat
  /-- The reserved words at 0x38 and the reserved bits are 0. -/
  clean : Bool
  deriving DecidableEq, Repr

/-- One DMA record (R498). -/
structure DmaRec where
  tag : Nat
  cart : Nat
  done : Nat
  rem : Nat
  status : Nat
  deriving DecidableEq, Repr

/-- What a channel does when its waiting records have been written (R494, R497). -/
inductive AfterRec where
  | nothing
  /-- The coach ended: the channel parks. -/
  | park
  /-- The next cart starts at this address. -/
  | start (a : Nat)
  /-- The channel enters state Stopped (3), Error (4) or Halted (5). -/
  | state (code : Nat)
  deriving DecidableEq, Repr

/-- One DMA channel (R488-R502). -/
structure DmaCh where
  /-- The cart in DM_CUR as it was read when it started. -/
  cart : Option Cart := none
  /-- Last destination beat of the cart, and whether one was written (R496). -/
  lastBeat : Option Nat := none
  /-- Records that wait for room, oldest first (R499). -/
  waiting : List DmaRec := []
  after : AfterRec := .nothing
  /-- Phase bit of the record queue (R499). -/
  phase : Bool := true
  /-- Records written since P, H or D (1511:011.0). -/
  written : Nat := 0
  /-- For channels 0-7: command slot whose data moves (R488, R501). -/
  slot : Option Nat := none
  /-- Channels 0-7: the cart of a move that a U ended and the command engine issues again (R502). -/
  again : Option Nat := none
  deriving DecidableEq, Repr

/-- One line of the second-level cache or of the victim cache (R515, R517, R520). -/
structure Line where
  /-- Line address: byte address / 64. -/
  line : Nat
  way : Nat
  dirty : Bool
  /-- A Reserved slot of a locked way: only the tag is held (R520). -/
  reserved : Bool
  /-- The 64 bytes as a little-endian number. -/
  data : Nat
  deriving DecidableEq, Repr

/-- A request of a core that missed the L2 (R516): `bytes` are what a store, SC or AMO leaves in memory. -/
structure CoreReq where
  core : Nat
  addr : Nat
  kind : CoreAccess
  bytes : List Nat
  deriving DecidableEq, Repr

/-- A miss register (R516): its line and the one to eight requests merged into it, in the order they arrived. -/
structure Miss where
  line : Nat
  reqs : List CoreReq
  deriving DecidableEq, Repr

/-- One PMP entry (R508), as the RISC-V privileged specification lays it out: the configuration byte (R, W, X, A, L) and the address
register. -/
structure PmpEntry where
  cfg : Nat := 0
  addr : Nat := 0
  deriving DecidableEq, Repr

/-- One control core (R507-R514). What a RISC-V core holds beside this belongs to the RISC-V specifications. -/
structure CoreSt where
  /-- Out of reset and fetching (R509). -/
  running : Bool := false
  /-- Address of its first fetch (R509, R531). -/
  start : Nat := 0
  /-- Machine mode; false is user mode (R508). -/
  machine : Bool := true
  /-- The 16 PMP entries (R508), key entry number; all clear at reset. -/
  pmp : SMap PmpEntry := []
  /-- menvcfg: CBIE in bits 5:4 and CBCFE in bit 6 govern the maintenance instructions of user mode (R521). -/
  menvcfg : Nat := 0
  /-- Cause and address of its last access exception (R513): mcause and mtval. -/
  mcause : Nat := 0
  mtval : Nat := 0
  /-- Counters of R507: instructions retired (1710:010.0; each tick adds a free value), L2 read and write misses, stall cycles,
  victim hits. -/
  minstret : Nat := 0
  hpmReadMiss : Nat := 0
  hpmWriteMiss : Nat := 0
  hpmStall : Nat := 0
  hpmVictim : Nat := 0
  /-- Access faults for uncorrectable data since P, H or D (1710:011.0). -/
  faults : Nat := 0
  /-- Lines in its L1 data cache (R514). -/
  l1d : List Nat := []
  /-- Lines in its L1 instruction cache (R514). -/
  l1i : List Nat := []
  /-- The line that its last LR reserved (R512; what reserves and clears is the RISC-V specification's, log entry 94). -/
  resv : Option Nat := none
  /-- Timer and external interrupt lines as last computed: mip.MTIP, mip.MEIP (R529, R530). -/
  mtip : Bool := false
  meip : Bool := false
  deriving DecidableEq, Repr

/-- The core cluster (R507-R534). -/
structure Cluster where
  /-- Valid and Reserved slots of the L2. -/
  lines : List Line := []
  /-- Tree pseudo-LRU bits of each set, 15 bits, key set (R515). -/
  plru : SMap Nat := []
  /-- Victim cache, most recently used first, at most 16 (R517). -/
  victims : List Line := []
  /-- Miss registers in use, at most 32 (R516). -/
  misses : List Miss := []
  /-- Requests that wait, oldest first (R516): primary misses for a miss register, ninth requests for the fill of theirs. -/
  missWait : List CoreReq := []
  /-- What no register shows of interrupt source 22 (R528): bit 0 a power transition (R633), bit 1 a timer or heartbeat cause. -/
  lines22 : Nat := 0
  /-- CC_MTIME, 64 bits (R530); it counts while domain 6 is off. -/
  mtime : Nat := 0
  deriving DecidableEq, Repr

/-- A Hall (R543): what is durable of it stands in two record-store slots (R545). -/
structure Hall where
  /-- 0 absent, 1 active, 2 erasing. -/
  st : Nat := 0
  epoch : Nat := 0
  wgen : Nat := 0
  used : Nat := 0
  resv : Nat := 0
  /-- SEQ of the newer copy. -/
  seq : Nat := 0
  deriving DecidableEq, Repr

/-- The Halls (R543-R545): hardware pages that no register, address or entry reaches. -/
structure Vault where
  /-- Halls, key NSID 1-128. -/
  halls : SMap Hall := []
  /-- The older of a Hall's two copies, key NSID; USED is not part of a copy (R545). -/
  older : SMap Hall := []
  /-- Hall changes whose copy is being written, oldest first: NSID and the Hall that takes effect (R545). -/
  due : List (Nat × Hall) := []
  deriving DecidableEq, Repr

/-- What an epoch advance still has to do (R553). -/
structure Advance where
  nsid : Nat
  /-- Step of R553 last done, 1-4. -/
  step : Nat
  deriving DecidableEq, Repr

/-- A re-key that runs (R550); its entry and its chunks done are CY_RKc. -/
structure Rekey where
  entry : Nat
  nsid : Nat
  target : Nat
  /-- Chunks whose progress record has been written: the durable pointer. -/
  durable : Nat
  deriving DecidableEq, Repr

/-- The ledger counters of one namespace (R554). -/
structure Ledger where
  /-- STATE: 0 never created, 1 live, 2 deleted (R557). -/
  st : Nat := 0
  /-- Created since the last minute boundary: the minute's entry counts from 0 (R556). -/
  fresh : Bool := false
  rbytes : Nat := 0
  wbytes : Nat := 0
  rcmds : Nat := 0
  wcmds : Nat := 0
  ocmds : Nat := 0
  busy0 : Nat := 0
  busy1 : Nat := 0
  busy2 : Nat := 0
  busy3 : Nat := 0
  deriving DecidableEq, Repr

/-- One bank of the ledger (R557). -/
structure Bank where
  /-- Its CRC is valid. -/
  valid : Bool := false
  /-- 0 minute boundary, 1 power loss. -/
  kind : Nat := 0
  mflags : Nat := 0
  bseq : Nat := 0
  minute : Nat := 0
  time : Nat := 0
  cidx : Nat := 0
  recs : SMap Ledger := []
  deriving DecidableEq, Repr

/-- One entry of a closed minute (R429). -/
structure Minute where
  minute : Nat := 0
  flags : Nat := 0
  ocmds : Nat := 0
  rbytes : Nat := 0
  wbytes : Nat := 0
  rcmds : Nat := 0
  wcmds : Nat := 0
  busy0 : Nat := 0
  busy1 : Nat := 0
  busy2 : Nat := 0
  busy3 : Nat := 0
  deriving DecidableEq, Repr

/-- A role key (R539). -/
structure RoleKey where
  /-- Unwrapped at this start or installed since (1630:012.0). -/
  inForce : Bool := false
  /-- The key in force, 256 bits. -/
  key : Nat := 0
  /-- The wrapped copy with the higher SEQ, 320 bits, and its SEQ; none: never installed. -/
  copy : Option (Nat × Nat) := none
  /-- The copy with the lower SEQ. -/
  older : Option (Nat × Nat) := none
  deriving DecidableEq, Repr

/-- The cipher engine and the metering unit (R535-R564). -/
structure Cipher where
  /-- Key cache, most recently used first, at most 32: NSID, EPOCH, KGEN (R538). -/
  keys : List (Nat × Nat × Nat) := []
  /-- Units whose first comparison failed and are computed again: 0x1600 data unit by command slot (R542), none. -/
  retry : Option Nat := none
  /-- The derivation whose first comparison failed and that is computed again: NSID and KGEN (R538). -/
  deriveRetry : Option (Nat × Nat) := none
  /-- Re-keys queued on carriage c, oldest first, key c: entry numbers (R549, R550). -/
  queued : SMap (List Nat) := []
  /-- Re-key running on carriage c, key c (R550). -/
  running : SMap (Option Rekey) := []
  /-- Halls in state 1 as CY_STAT.HALLS counts them (R563). -/
  halls : Nat := 0
  /-- Epoch advance in progress (R553). -/
  advance : Option Advance := none
  operator : RoleKey := {}
  custodian : RoleKey := {}
  /-- Ledger counters, key NSID (R554). -/
  ledger : SMap Ledger := []
  /-- Banks 0, 1 and 2 (R556, R557, R559). -/
  bank0 : Bank := {}
  bank1 : Bank := {}
  bank2 : Bank := {}
  /-- Closed minutes since manufacture (R557 CIDX). -/
  cidx : Nat := 0
  /-- The ledger counters at the last minute boundary, or as loaded at the last start (R556, R559). -/
  base : SMap Ledger := []
  /-- MINUTE of the minute closed last (R184). -/
  lastClosed : Option Nat := none
  /-- The entry window: entry of each namespace for the closed minute, key NSID (R556). -/
  window : SMap Minute := []
  /-- Ledger history, oldest first, at most 1,440 entries, key NSID (R558). -/
  history : SMap (List Minute) := []
  /-- A P, H or D start fell within the minute in progress (R558 FLAGS [3]). -/
  startMark : Bool := false
  /-- Generation moves since P, H or D (1600:011.0). -/
  moves : Nat := 0
  /-- Minutes lost (1640:011.0). -/
  gaps : Nat := 0
  deriving DecidableEq, Repr

/-- A PAIRNONCE made by Twin Identify (R430). -/
structure Nonce where
  value : Nat
  /-- Operating time when it was made; it expires after 10 s. -/
  made : Nat
  deriving DecidableEq, Repr

/-- A message sent to the partner and not yet acknowledged (R576, R579). -/
structure Unacked where
  mseq : Nat
  entry : Nat
  /-- Operating time when it was sent. -/
  sent : Nat
  deriving DecidableEq, Repr

/-- Twin mirroring (R565-R587). STATE, PEERUP, SOLOW, SRC and UNACK are HQ_TWIN. -/
structure Twin where
  /-- The nonce that waits for Twin Pair (R430). -/
  nonce : Option Nonce := none
  /-- Partner's DID, 0 none (R430). -/
  pdid : Nat := 0
  /-- PEER_ADDR and PNODE as accepted by Twin Pair (R431). -/
  peerAddr : Nat := 0
  pnode : Nat := 0xFFFF
  /-- Port that carried Twin Pair (R567). -/
  port : Nat := 0
  /-- Requester ID recorded at pairing (R567, R573). -/
  requester : Option Nat := none
  /-- Identifier of the Twin Pair command that waits, and the operating time of its arrival (R573). -/
  pairing : Option (Nat × Nat) := none
  /-- Own and partner's PAIRNONCE of the pair (R571, R583). -/
  nonceOwn : Nat := 0
  noncePeer : Nat := 0
  /-- K_pair is held (R572): the key, 256 bits. -/
  kpair : Option Nat := none
  /-- K_pair as the pair record holds it, wrapped under the role-key wrapping key (R572, R583): 40 bytes. -/
  kpairWrapped : Option Nat := none
  /-- A Confirm has been sent, and one received, in this pairing or return (R573). -/
  sentConfirm : Bool := false
  gotConfirm : Bool := false
  /-- MSEQ of the last message sent and of the last one taken (R569, R571). -/
  mseqOut : Nat := 0
  mseqIn : Nat := 0
  /-- TAIL of the partner's inbox (R568). -/
  tailOut : Nat := 0
  /-- Messages that wait for room in the partner's inbox, oldest first: KIND and the message before it is sealed (R568). -/
  outbox : List (Nat × TwinFrame) := []
  /-- Bytes of the own inbox consumed: HEAD in the partner's inbox (R568). -/
  headOut : Nat := 0
  /-- BEAT in the partner's inbox, and BEAT last seen in the own inbox with the operating time it advanced (R568, R579). -/
  beatOut : Nat := 0
  beatIn : Nat := 0
  beatTime : Nat := 0
  /-- Messages that wait for an Ack, oldest first (R579). -/
  unacked : List Unacked := []
  /-- MSEQ values to acknowledge in the next Ack message (R576). -/
  acks : List Nat := []
  /-- Unsettled list: entry and operating time of its last Ack, 0 while a message waits (R581). -/
  unsettled : SMap (Option Nat) := []
  /-- The 2 s wait of R581 for a Hello is in progress. -/
  helloWait : Bool := false
  /-- Operating time at which that wait began, and of the last Hello written, none when the next is due (R573, R580, R581). -/
  helloSince : Nat := 0
  helloAt : Option Nat := none
  /-- Resilver pointer: entry and chunk (R582). -/
  pointer : Nat × Nat := (0, 0)
  /-- Resilver chunk in flight on carriage c, key c: its MSEQ (R582). -/
  inFlight : SMap (Option Nat) := []
  /-- Extents that diverge on the partner and are still to resilver, as the source knows them (R582). -/
  peerLeft : List Nat := []
  /-- A Twin Resilver stop waits for the chunk in flight (R582). -/
  stopping : Bool := false
  /-- Partner's closed-minute entries, oldest first, key NSID (R576, 0000:027.0). -/
  partnerLedger : SMap (List Minute) := []
  /-- Partner losses since manufacture (0000:025.0). -/
  losses : Nat := 0
  /-- The pair record of the system areas holds STATE (0 when none), SOLOW and MSEQ (R583). -/
  recState : Nat := 0
  recSolow : Bool := false
  recMseq : Nat := 0
  deriving DecidableEq, Repr

end Sys2Proof.Machine
end

