-- ==== Sys2Proof/Machine/State.lean ====
section
/-! DEFINITION. The state of the block: its hardware, the Halls, and the queue of commands that wait. Plain data. -/
namespace Sys2Proof.Machine

/-- Why a command stops the block. Every event of the spec has an effect in the spec, bus errors and refused transactions
among them, so no meaning ends in a fault: the type has no constructor. -/
inductive Fault where
  deriving DecidableEq, Repr

/-- Why a command is refused. -/
inductive Refusal where
  /-- Raised by an arm of `exec` whose command has no meaning yet, by name. Safe: the block stops. -/
  | notModelled (mnemonic : String)
  deriving DecidableEq, Repr

/-- Calibration of one carriage (R45-R50). The share used, the deferrals and the limits are the entries d000:020-024. -/
structure Calib where
  /-- A step is running: true write-side (R46). -/
  step : Option Bool := none
  /-- Milliseconds the running step still takes, at most 20 (R46). -/
  left : Nat := 0
  /-- Operating times between which a step of the last two seconds ran or runs, newest first (R46, R49). -/
  spans : List (Nat × Nat) := []
  /-- The running read-side step ends at the next sector boundary (R48). -/
  ending : Bool := false
  /-- Milliseconds, plus one, that a write-side step has waited; 0: none waits (R47). -/
  waiting : Nat := 0
  /-- No further step starts in this window (R50). -/
  closed : Bool := false
  /-- Writes to the carriage with this ISN or a later one are held (R47). -/
  hold : Option Nat := none
  /-- Milliseconds for which the hold has delayed the first write it holds (R47). -/
  delay : Nat := 0
  /-- Milliseconds that a write-side step still waits after a released hold (R47). -/
  pause : Nat := 0
  deriving DecidableEq, Repr

/-- One carriage die. -/
structure Carriage where
  chan : Channel := {}
  path : SectorPath := {}
  fmt : Formatter := {}
  servo : Servo := {}
  cal : Calib := {}
  deriving DecidableEq, Repr

/-- Four equal things. -/
def Quad.all {α : Type} (a : α) : Quad α := ⟨a, a, a, a⟩

/-- A posted write a bridge is carrying (R127): register offset from 0x4000_0000, data, source. -/
structure Posted where
  address : Nat
  data : BitVec 32
  source : Nat
  deriving DecidableEq, Repr

/-- All of the block but the Halls and the command queue. -/
structure Hw where
  /-- The register file, key: byte offset from 0x4000_0000 (R123). An unlisted register holds its reset value (R15). -/
  regs : SMap (BitVec 32) := []
  /-- Posted writes in flight, key: offset of the page (R127). -/
  bridges : SMap (Option Posted) := []
  tap : Tap := {}
  fuses : Fuses := {}
  pins : Pins := {}
  boot : Boot := {}
  /-- Links (R19): 0-3 hub to carriage c, 4 hub to motor die, 5-8 sideband of carriage c. -/
  links : SMap LinkSt := []
  /-- Leaf units, key unit path (R139). -/
  units : SMap UnitSt := []
  /-- Fences, key of the fence set (R143): 0 in service, 1 fenced by request, 2 fenced by fault reaction, 3 and 4 the same
  while an unfence re-initialises the set (R142). -/
  fences : SMap Nat := []
  log : Recorder := {}
  mgmt : Mgmt := {}
  dict : Dict := {}
  island : Island := {}
  carriages : Quad Carriage := .all {}
  spindle : Spindle := {}
  drives : Quad Drive := .all {}
  portA : Port := {}
  portB : Port := {}
  engine : Engine := {}
  buffer : Buffer := {}
  /-- DMA channels, key channel 0-31 (R488). -/
  dma : SMap DmaCh := []
  cores : Quad CoreSt := .all {}
  cluster : Cluster := {}
  cipher : Cipher := {}
  twin : Twin := {}
  /-- Memory, key address of R474 and R510: near gallery, far memory, carriage windows and core-local memory. An unlisted
  byte reads 0 (DESIGN CHOICE, log entry 3). -/
  mem : List Host.Cell := []
  /-- Correctable errors corrected in the SRAM regions that no register counts (R41): 0-3 core-local memory of core k; 16 (c + 1) + r of
  carriage c: r 0 sample buffers, 1 decoder and verify buffers, 2 servo tables, 3 repetitive-controller memory, 4 control store, 5 patch
  RAM, 6 defect cache and journal staging. -/
  secded : SMap Nat := []
  /-- How many free values have been drawn. It is the model's own: a free value is an opaque constant of Config applied to
  it. The first 12,288 are the words of the coefficient sets before their first load (R241). -/
  freeCtr : Nat := 12288
  /-- What the present command sent out of the block; emptied at the start of each command. -/
  out : List Output := []
  deriving DecidableEq, Repr

/-- The state of the block. -/
structure State where
  hw : Hw := {}
  vault : Vault := {}
  /-- Commands that wait, first in, first out. -/
  pending : List Instr := []
  deriving DecidableEq, Repr

/-- The block right after reset: power has just come, RESET_IN_N is low, every register is at its power-on value, nothing is
stored in memory and no command waits. -/
def State.reset : State := {}

/-- What a command answers. -/
abbrev Res := Host.Outcome State Fault Refusal

/-- Element `i` of four; 3 and above are the last one. -/
def Quad.get {α : Type} (q : Quad α) (i : Nat) : α :=
  match i with
  | 0 => q.a0
  | 1 => q.a1
  | 2 => q.a2
  | _ => q.a3

/-- Replace element `i` of four. -/
def Quad.set {α : Type} (q : Quad α) (i : Nat) (a : α) : Quad α :=
  match i with
  | 0 => { q with a0 := a }
  | 1 => { q with a1 := a }
  | 2 => { q with a2 := a }
  | _ => { q with a3 := a }

end Sys2Proof.Machine
end

