-- ==== Sys2Proof/Machine/RegOps.lean ====
section
/-! DEFINITION. Named operations over the register file: reset values, fields, the leaf and the power domain of a register,
straps (R13-R15, R72-R75, R123, R244, R282, R504, R505, R533, R609, R627, R648, R650). -/
namespace Sys2Proof.Machine

/-- Bits `hi` to `lo` of a number. -/
def bits (hi lo w : Nat) : Nat := w / 2 ^ lo % 2 ^ (hi + 1 - lo)

/-- Bits `hi` to `lo` of `w` replaced by `v`. -/
def putBits (hi lo v w : Nat) : Nat :=
  w / 2 ^ (hi + 1) * 2 ^ (hi + 1) + v % 2 ^ (hi + 1 - lo) * 2 ^ lo + w % 2 ^ lo

/-- Bit `i` of a number. -/
def bitAt (w i : Nat) : Bool := w / 2 ^ i % 2 == 1

/-- Set or clear bit `i`. -/
def putBit (w i : Nat) (b : Bool) : Nat := putBits i i b.toNat w

/-- The two's complement value of the low `n` bits. -/
def toSigned (n w : Nat) : Int :=
  let v := w % 2 ^ n
  if v < 2 ^ (n - 1) then (v : Int) else (v : Int) - 2 ^ n

/-- The low `n` bits of an integer in two's complement. -/
def ofSigned (n : Nat) (i : Int) : Nat := (i % (2 ^ n : Int)).toNat

/-- A field at which 0 acts as 1. -/
def atLeast1 (n : Nat) : Nat := if n = 0 then 1 else n

/-- Register definition `r` covers the page-0 key `k`. -/
def RegDef.covers (r : RegDef) (k : Nat) : Bool :=
  decide (r.key ≤ k) && (if r.stride = 0 then k == r.key else decide ((k - r.key) % r.stride = 0) && decide ((k - r.key) / r.stride < r.count))

/-- Block code, instance and page offset of an address in register space (R123). -/
def regCode (a : Nat) : Nat := a / 0x100000
def regInst (a : Nat) : Nat := a / 0x1000 % 0x100
def regOff (a : Nat) : Nat := a % 0x1000

/-- The definition of the register at offset `a` from 0x4000_0000, if there is one (R124). -/
def regAt (a : Nat) : Option RegDef :=
  if regInst a < pageInstances (regCode a) then
    (pageRegs (regCode a)).find? (fun r => r.covers (regCode a * 0x100000 + regOff a))
  else none

/-- The reset value of the register at `a` (R15); 0 where no register is (R124). -/
def regReset (a : Nat) : BitVec 32 :=
  match regAt a with
  | some r => BitVec.ofNat 32 (r.fields.foldl (fun w f => w + f.reset * 2 ^ f.fld.lo) 0)
  | none => 0

/-- The word a register holds. -/
def getReg (h : Hw) (a : Nat) : Nat := (mget regReset h.regs a).toNat

/-- Set the word of a register. -/
def setReg (h : Hw) (a : Nat) (w : Nat) : Hw := { h with regs := mset regReset h.regs a (BitVec.ofNat 32 w) }

/-- A field of a register, `d` bytes above the register's own key (instance and head). -/
def getF (h : Hw) (f : Fld) (d : Nat) : Nat := bits f.hi f.lo (getReg h (f.key + d))

/-- Set a field. -/
def setF (h : Hw) (f : Fld) (d : Nat) (v : Nat) : Hw :=
  setReg h (f.key + d) (putBits f.hi f.lo v (getReg h (f.key + d)))

/-- A one-bit field. -/
def flagF (h : Hw) (f : Fld) (d : Nat) : Bool := getF h f d == 1

/-- Add to a counter field: wrapping (`setF` keeps its low bits). -/
def addF (h : Hw) (f : Fld) (d n : Nat) : Hw := setF h f d (getF h f d + n)

/-- Add to a counter field that saturates. -/
def satF (h : Hw) (f : Fld) (d n : Nat) : Hw := setF h f d (min (getF h f d + n) (2 ^ (f.hi + 1 - f.lo) - 1))

/-- A field as a two's complement number. -/
def getS (h : Hw) (f : Fld) (d : Nat) : Int := toSigned (f.hi + 1 - f.lo) (getF h f d)

/-- Set a field to the low bits of an integer. -/
def setS (h : Hw) (f : Fld) (d : Nat) (i : Int) : Hw := setF h f d (ofSigned (f.hi + 1 - f.lo) i)

/-- Displacement of instance `c` of a block (R123). -/
def inst (c : Nat) : Nat := c * 0x1000

/-- Displacement of head `hd` of carriage `c` in the CH, SV and PA per-head blocks. -/
def chHead (c hd : Nat) : Nat := c * 0x1000 + hd * 0x80
def svHead (c hd : Nat) : Nat := c * 0x1000 + hd * 0x40
def paHead (c hd : Nat) : Nat := c * 0x1000 + hd * 0x20

/-! Straps (R72-R75). -/

/-- Populated carriages, 1-4. -/
def population (h : Hw) : Nat := bits 11 10 h.pins.strap + 1

/-- Heads per carriage, 1-6; 0 when invalid (R74). -/
def headsPer (h : Hw) : Nat :=
  let v := bits 14 12 h.pins.strap
  if v = 7 then 0 else v

/-- Dual-port configuration. -/
def dualPort (h : Hw) : Bool := bitAt h.pins.strap 15

/-- Twin role: 0 none, 1 first, 2 second; an invalid value is none (R74). -/
def twinRole (h : Hw) : Nat :=
  let v := bits 17 16 h.pins.strap
  if v = 3 then 0 else v

/-- Spindle motor profile. -/
def motorProfile (h : Hw) : Nat := bits 20 18 h.pins.strap

/-- Security mode: sealed (R74). -/
def isSealed (h : Hw) : Bool := h.fuses.sealed || bitAt h.pins.strap 21

/-- Row of the motor profile table (R371): pole pairs, IMAX and IALIGN in mA, alignment time in ms, start acceleration and
braking limit in rpm/s. -/
structure MotorRow where
  poles : Nat
  imax : Nat
  ialign : Nat
  talign : Nat
  accel : Nat
  brake : Nat
  deriving DecidableEq, Repr

def motorRow (profile : Nat) : MotorRow :=
  match profile with
  | 0 => ⟨4, 3000, 1500, 300, 520, 600⟩
  | 1 => ⟨4, 2500, 1200, 300, 430, 500⟩
  | 2 => ⟨4, 2000, 1000, 400, 350, 400⟩
  | 3 => ⟨6, 3000, 1500, 300, 520, 600⟩
  | 4 => ⟨6, 2500, 1200, 300, 430, 500⟩
  | 5 => ⟨6, 2000, 1000, 400, 350, 400⟩
  | 6 => ⟨8, 3000, 1500, 300, 520, 600⟩
  | _ => ⟨8, 2000, 1000, 400, 350, 400⟩

/-- The strapped motor row. -/
def motor (h : Hw) : MotorRow := motorRow (motorProfile h)

/-- Node ID (R72). -/
def nodeId (h : Hw) : Nat := bits 9 0 h.pins.strap

/-- Carriage `c` is populated. -/
def populated (h : Hw) (c : Nat) : Bool := decide (c < population h)

/-- Head `hd` is populated. -/
def headExists (h : Hw) (hd : Nat) : Bool := decide (hd < headsPer h)

/-! Leaf units (R21-R25, R648). -/

/-- Nibble `i` of a unit path, 0 the lowest. -/
def nib (u i : Nat) : Nat := u / 16 ^ i % 16

/-- The leaves of carriage die nibble `d`, in ascending order. -/
def carriageLeaves (d : Nat) : List Nat :=
  ([0x110, 0x120, 0x130, 0x140, 0x150, 0x160, 0x1F0, 0x210, 0x220, 0x230, 0x240, 0x250, 0x260, 0x2F0,
    0x310, 0x320, 0x330, 0x3F0, 0x410, 0x420, 0x430, 0x440, 0x450, 0x460, 0x4F0, 0x510, 0x520, 0x5F0] : List Nat).map (d * 0x1000 + ·)

/-- The DMA channels 0-31 (R21). -/
def channelLeaves : List Nat := (List.range 32).map (fun n => 0x1500 + (n / 8 + 1) * 16 + (n % 8 + 1))

/-- Leaves of the hub before the DMA channels, after them, and of the motor die and memory. -/
def hubLeaves1 : List Nat := [0x1110, 0x1120, 0x1210, 0x1220, 0x1310, 0x1320, 0x1330, 0x1340, 0x13F0, 0x1410, 0x1420, 0x14F0]
def hubLeaves2 : List Nat := [0x15F0, 0x1610, 0x1620, 0x1630, 0x1640, 0x16F0, 0x1710, 0x1720, 0x1730, 0x1740, 0x1750, 0x17F0,
  0x1810, 0x18F0, 0x1910, 0x1920, 0x19F0, 0x1A10, 0x1A20, 0x1A30, 0x1A40, 0x1AF0]
def motorLeaves : List Nat := [0x6110, 0x6120, 0x6130, 0x61F0, 0x6211, 0x6212, 0x6213, 0x6214, 0x6221, 0x6222, 0x6223, 0x6224,
  0x6310, 0x6320, 0x63F0, 0x7100, 0x7200]

/-- Every leaf unit the device has with all straps populated, ascending. -/
def leafPaths : List Nat :=
  hubLeaves1 ++ channelLeaves ++ hubLeaves2 ++ carriageLeaves 2 ++ carriageLeaves 3 ++ carriageLeaves 4 ++ carriageLeaves 5 ++ motorLeaves

/-- `m` has `p`'s nibble wherever `p`'s nibble is not 0 (R25). -/
def matchesPath (p m : Nat) : Bool :=
  [0, 1, 2, 3].all (fun i => nib p i == 0 || nib p i == nib m i)

/-- The members of a path (R25). -/
def members (p : Nat) : List Nat := leafPaths.filter (matchesPath p)

/-- A path names a unit or group: it has members (R25). -/
def unitExists (p : Nat) : Bool := decide (p < 0x10000) && !(members p).isEmpty

/-- A leaf unit. -/
def isLeaf (p : Nat) : Bool := leafPaths.contains p

/-- The carriage of a path on a carriage die, or of an actuator drive. -/
def carriageOf (u : Nat) : Option Nat :=
  if 2 ≤ nib u 3 ∧ nib u 3 ≤ 5 then some (nib u 3 - 2)
  else if u / 0x100 = 0x62 ∧ nib u 0 ≠ 0 then some (nib u 0 - 1)
  else none

/-- The head of a per-head sub-block. -/
def headOf (u : Nat) : Option Nat :=
  if 2 ≤ nib u 3 ∧ nib u 3 ≤ 5 ∧ (nib u 2 = 1 ∨ nib u 2 = 2 ∨ nib u 2 = 4) ∧ 1 ≤ nib u 1 ∧ nib u 1 ≤ 6 then some (nib u 1 - 1)
  else none

/-- Absent by a strap (R30, R75). -/
def absent (h : Hw) (u : Nat) : Bool :=
  (match carriageOf u with | some c => !(populated h c) | none => false) ||
  (match headOf u with | some hd => !(headExists h hd) | none => false) ||
  (u / 0x100 == 0x12 && !(dualPort h))

/-- The members of a path that are not absent. -/
def present (h : Hw) (p : Nat) : List Nat := (members p).filter (fun m => !(absent h m))

/-- Path of DMA channel `n`, and of the per-head units. -/
def channelPath (n : Nat) : Nat := 0x1500 + (n / 8 + 1) * 16 + (n % 8 + 1)
def chanHead (c hd : Nat) : Nat := (c + 2) * 0x1000 + 0x100 + (hd + 1) * 16
def servoHead (c hd : Nat) : Nat := (c + 2) * 0x1000 + 0x200 + (hd + 1) * 16
def preHead (c hd : Nat) : Nat := (c + 2) * 0x1000 + 0x400 + (hd + 1) * 16
/-- Path of block `b` (low three nibbles) of carriage `c`. -/
def carPath (c b : Nat) : Nat := (c + 2) * 0x1000 + b

/-! Power domains (R39, R649, R650). -/

/-- The power domain of a leaf (R39, R649). -/
def domainOf (u : Nat) : Nat :=
  match nib u 3 with
  | 1 =>
    match nib u 2 with
    | 1 => if nib u 1 = 1 then 1 else 3
    | 2 => if nib u 1 = 1 then 2 else 3
    | 3 => 3
    | 4 => 4
    | 5 => 4
    | 6 => 5
    | 7 => 6
    | 9 => 7
    | _ => 8
  | 6 => if nib u 2 = 1 then 21 else if nib u 2 = 2 then 22 else 23
  | 7 => 4
  | d => match nib u 2 with
    | 5 => 9 + 3 * (d - 2)
    | 1 => 10 + 3 * (d - 2)
    | _ => 11 + 3 * (d - 2)

/-- Domain `d` is on (PW_DOM). -/
def domainOn (h : Hw) (d : Nat) : Bool := bitAt (getF h PW_DOM_ON 0) (d - 1)

/-- Domain `d` is on and not held in reset (R38). -/
def domainUp (h : Hw) (d : Nat) : Bool := domainOn h d && !(bitAt h.island.domHeld (d - 1))

/-- The state of a domain as parameter 005 shows it (R145). -/
def domainState (h : Hw) (d : Nat) : Nat :=
  if domainOn h d then (if bitAt h.island.domIdle (d - 1) then 1 else 2) else 0

/-- What 005 of a leaf reads (R145, R649). -/
def powerOf (h : Hw) (u : Nat) : Nat :=
  if nib u 3 = 7 then (if domainOn h 4 then 2 else 1) else domainState h (domainOf u)

/-- The leaf that holds the register at `a` (R15, R648 and the text beside each register table). R406 gives AC page c to two leaves without
saying whose each field is, and the texts of the PA, SP and AC pages do not name the leaf of xx_BRG: all of an AC page is 0x621(c+1)'s, and
xx_BRG is d4F0's, 0x61F0's and 0x621(c+1)'s (DESIGN CHOICE, log entry 95). -/
def regLeaf (a : Nat) : Nat :=
  let i := regInst a
  let o := regOff a
  match regCode a with
  | 0 => 0x13F0
  | 1 => (if o = 0 then 0x1110 else 0x1120) + i * 0x100
  | 2 => 0x14F0
  | 3 => if o < 0x800 then channelPath (o / 0x40) else 0x15F0
  | 4 => 0x16F0
  | 5 => if 0x10 ≤ o ∧ o ≤ 0x60 then 0x1750 else 0x17F0
  | 6 => 0x18F0
  | 7 => if o = 0xFFC then 0x19F0 else 0x1920
  | 8 => if (0x400 ≤ o ∧ o < 0x700) ∨ o = CH_FE % 0x1000 then carPath i 0x5F0 else carPath i 0x1F0
  | 9 => if o < 0x400 then carPath i 0x310 else carPath i 0x3F0
  | 10 => if 0x400 ≤ o ∧ o < 0x580 then servoHead i ((o - 0x400) / 0x40) else carPath i 0x2F0
  | 11 => if 0x400 ≤ o ∧ o < 0x4C0 then preHead i ((o - 0x400) / 0x20) else carPath i 0x4F0
  | 12 => if 0x300 ≤ o ∧ o < 0x400 then 0x63F0 else 0x61F0
  | 13 => 0x6211 + i
  | 14 => 0x1AF0
  | _ => if i = 0 then (if 0x200 ≤ o ∧ o < 0xFFC then 0x1A40 else 0x1A20) else if i = 5 then 0x6310 else carPath (i - 1) 0x310

/-- The home domain of a page (R650). -/
def pageDomain (a : Nat) : Nat :=
  let i := regInst a
  match regCode a with
  | 0 => 3
  | 1 => 3
  | 2 => 4
  | 3 => 4
  | 4 => 5
  | 5 => 6
  | 6 => 8
  | 7 => 7
  | 8 => 10 + 3 * i
  | 9 => 11 + 3 * i
  | 10 => 11 + 3 * i
  | 11 => 11 + 3 * i
  | 12 => 24
  | 13 => 24
  | 14 => 8
  | _ => if i = 0 then 8 else if i = 5 then 24 else 11 + 3 * (i - 1)

/-- The domain that must be on for the register at `a` itself: its leaf's, or the page's (R650). -/
def regDomain (a : Nat) : Nat := domainOf (regLeaf a)

/-- The page of a unit made absent by a strap behaves as reserved (R124). -/
def pageAbsent (h : Hw) (a : Nat) : Bool :=
  match regCode a with
  | 1 => regInst a == 1 && !(dualPort h)
  | 8 => !(populated h (regInst a))
  | 9 => !(populated h (regInst a))
  | 10 => !(populated h (regInst a))
  | 11 => !(populated h (regInst a))
  | 13 => !(populated h (regInst a))
  | 15 => decide (1 ≤ regInst a) && decide (regInst a ≤ 4) && !(populated h (regInst a - 1))
  | _ => false

/-- A field backs a stored entry of the dictionary (R155). -/
def backsStored (f : Fld) : Bool :=
  [0, 1, 2, 6, 7].any (fun n => (entriesOf n).any (fun e =>
    (match e.origin with | .stored => true | _ => false) &&
    e.parts.any (fun p => p.1.key == f.key && decide (p.1.lo ≤ f.lo) && decide (f.hi ≤ p.1.hi))))

/-- The word `w` of register `r` after reset `k`: the fields whose letters hold `k` return to their reset value. -/
def resetWord (r : RegDef) (k : ResetKind) (w : Nat) : Nat :=
  r.fields.foldl (fun w f =>
    if f.letters.contains k && !(k == .U && backsStored f.fld) then putBits f.fld.hi f.fld.lo f.reset w else w) w

/-- Apply reset `k` to every register whose leaf `sel` selects (R15). -/
def resetRegs (h : Hw) (k : ResetKind) (sel : Nat → Bool) : Hw :=
  { h with regs := h.regs.filterMap (fun p =>
      if sel (regLeaf p.1) then
        match regAt p.1 with
        | some r =>
          let w := BitVec.ofNat 32 (resetWord r k p.2.toNat)
          if w = regReset p.1 then none else some (p.1, w)
        | none => some p
      else some p) }

end Sys2Proof.Machine
end

