-- ==== Sys2Proof/Machine/Base.lean ====
section
/-! DEFINITION. The operations that everything else is written over: running a command, changing one part of the hardware, outputs, sparse
maps, the live values of dictionary entries (R129, R133, R152-R154). -/
namespace Sys2Proof.Machine

/-- A command that changes the hardware: outputs of the last command are dropped, `f` acts. -/
def State.run (s : State) (f : Hw → Hw) : Res := .next { s with hw := f { s.hw with out := [] } }

/-- A command that changes the hardware and the Halls. -/
def State.runBoth (s : State) (f : Hw → Vault → Hw × Vault) : Res :=
  let r := f { s.hw with out := [] } s.vault
  .next { s with hw := r.1, vault := r.2 }

/-- Send something out of the block. -/
def emit (h : Hw) (o : Output) : Hw := { h with out := h.out ++ [o] }

/-- Change one carriage. -/
def onCar (h : Hw) (c : Nat) (f : Carriage → Carriage) : Hw := { h with carriages := h.carriages.set c (f (h.carriages.get c)) }
def car (h : Hw) (c : Nat) : Carriage := h.carriages.get c
/-- Change the channel, sector path, formatter, servo or calibration state of carriage `c`. -/
def onChan (h : Hw) (c : Nat) (f : Channel → Channel) : Hw := onCar h c (fun k => { k with chan := f k.chan })
def onPath (h : Hw) (c : Nat) (f : SectorPath → SectorPath) : Hw := onCar h c (fun k => { k with path := f k.path })
def onFmt (h : Hw) (c : Nat) (f : Formatter → Formatter) : Hw := onCar h c (fun k => { k with fmt := f k.fmt })
def onServo (h : Hw) (c : Nat) (f : Servo → Servo) : Hw := onCar h c (fun k => { k with servo := f k.servo })
def onCal (h : Hw) (c : Nat) (f : Calib → Calib) : Hw := onCar h c (fun k => { k with cal := f k.cal })
/-- Change one actuator drive, one port, the command engine, the twin, the cipher engine, the recorder, the management state. -/
def onDrive (h : Hw) (c : Nat) (f : Drive → Drive) : Hw := { h with drives := h.drives.set c (f (h.drives.get c)) }
def onPort (h : Hw) (p : Nat) (f : Port → Port) : Hw :=
  if p = 0 then { h with portA := f h.portA } else { h with portB := f h.portB }
def port (h : Hw) (p : Nat) : Port := if p = 0 then h.portA else h.portB
def onEngine (h : Hw) (f : Engine → Engine) : Hw := { h with engine := f h.engine }
def onTwin (h : Hw) (f : Twin → Twin) : Hw := { h with twin := f h.twin }
def onCipher (h : Hw) (f : Cipher → Cipher) : Hw := { h with cipher := f h.cipher }
def onLog (h : Hw) (f : Recorder → Recorder) : Hw := { h with log := f h.log }
def onMgmt (h : Hw) (f : Mgmt → Mgmt) : Hw := { h with mgmt := f h.mgmt }
def onBoot (h : Hw) (f : Boot → Boot) : Hw := { h with boot := f h.boot }
def onIsland (h : Hw) (f : Island → Island) : Hw := { h with island := f h.island }
def onSpindle (h : Hw) (f : Spindle → Spindle) : Hw := { h with spindle := f h.spindle }
def onCluster (h : Hw) (f : Cluster → Cluster) : Hw := { h with cluster := f h.cluster }
def onBuffer (h : Hw) (f : Buffer → Buffer) : Hw := { h with buffer := f h.buffer }
def onDict (h : Hw) (f : Dict → Dict) : Hw := { h with dict := f h.dict }
def onPins (h : Hw) (f : Pins → Pins) : Hw := { h with pins := f h.pins }
def onCore (h : Hw) (k : Nat) (f : CoreSt → CoreSt) : Hw := { h with cores := h.cores.set k (f (h.cores.get k)) }
/-- DMA channel `n`. -/
def dmaCh (h : Hw) (n : Nat) : DmaCh := mget (fun _ => {}) h.dma n
def onDma (h : Hw) (n : Nat) (f : DmaCh → DmaCh) : Hw := { h with dma := mset (fun _ => {}) h.dma n (f (dmaCh h n)) }

/-- The formatter and the sector path of carriage `c`. -/
def fm (h : Hw) (c : Nat) : Formatter := (car h c).fmt
def path (h : Hw) (c : Nat) : SectorPath := (car h c).path

/-- Draw a free value: the present index, and the state with the next one. -/
def drawn (h : Hw) : Hw := { h with freeCtr := h.freeCtr + 1 }

/-! Sparse maps of numbers, flags by key, optional values. -/

def zget (m : SMap Nat) (k : Nat) : Nat := mget (fun _ => 0) m k
def zset (m : SMap Nat) (k v : Nat) : SMap Nat := mset (fun _ => 0) m k v
def zadd (m : SMap Nat) (k n : Nat) : SMap Nat := zset m k (zget m k + n)
def oget {β : Type} (m : SMap (Option β)) (k : Nat) : Option β := mget (fun _ => none) m k
def oset {β : Type} [DecidableEq β] (m : SMap (Option β)) (k : Nat) (v : Option β) : SMap (Option β) := mset (fun _ => none) m k v
def lget {β : Type} (m : SMap (List β)) (k : Nat) : List β := mget (fun _ => []) m k
def lset {β : Type} [DecidableEq β] (m : SMap (List β)) (k : Nat) (v : List β) : SMap (List β) := mset (fun _ => []) m k v

/-- A write from source `src` at offset `off` of the page at `page` is lost (R129): its LOSTS bit is set, and LSRC and LOFF
name it when it is the first. -/
def loseWrite (h : Hw) (page src off : Nat) : Hw :=
  let losts : Fld := ⟨page + 0xFFC, 23, 16⟩
  let was := getF h losts 0
  let h := setF h losts 0 (putBit was src true)
  if was = 0 then setF (setF h ⟨page + 0xFFC, 15, 12⟩ 0 src) ⟨page + 0xFFC, 11, 0⟩ 0 off else h

/-! Bytes. -/

/-- The little-endian bytes of a number. -/
def leBytes : Nat → Nat → List (BitVec 8)
  | 0, _ => []
  | n + 1, v => BitVec.ofNat 8 v :: leBytes n (v / 256)

/-- The number that little-endian bytes spell. -/
def leVal : List (BitVec 8) → Nat
  | [] => 0
  | b :: l => b.toNat + 256 * leVal l

/-- Little-endian numbers of `n` bytes each, in order. -/
def numbersOf (n : Nat) : Nat → List (BitVec 8) → List Nat
  | 0, _ => []
  | k + 1, l => leVal (l.take n) :: numbersOf n k (l.drop n)

/-! Dictionary entries (R133, R152-R154). -/

/-- The path whose entry table `u` shares, and the displacement of its registers (the repetitions named in each chapter). -/
def entryHome (u : Nat) : Nat × Nat :=
  match nib u 3 with
  | 1 =>
    if nib u 2 = 2 then (u - 0x100, 0x1000)
    else if nib u 2 = 5 ∧ nib u 1 ≠ 0 ∧ nib u 1 ≠ 15 ∧ nib u 0 ≠ 0 then (0x1511, ((nib u 1 - 1) * 8 + (nib u 0 - 1)) * 0x40)
    else if nib u 2 = 7 ∧ 1 ≤ nib u 1 ∧ nib u 1 ≤ 4 then (0x1710, 0)
    else (u, 0)
  | 6 => if nib u 2 = 2 ∧ nib u 0 ≠ 0 then (u - nib u 0 + 1, (nib u 0 - 1) * 0x1000) else (u, 0)
  | 7 => if u = 0x7200 then (0x7100, 4) else (u, 0)
  | 0 => (u, 0)
  | d =>
    let c := d - 2
    let base := u - (d - 2) * 0x1000
    match headOf u with
    | some hd => (base - hd * 16, c * 0x1000 + hd * (if nib u 2 = 1 then 0x80 else if nib u 2 = 2 then 0x40 else 0x20))
    | none => (base, c * 0x1000)

/-- The entry of parameter `p` of unit `u`, from 010 upward. Ledger entries 101-180 of 1640 are one row of the table. -/
def findEntry (u p : Nat) : Option EntDef :=
  let hm := (entryHome u).1
  let q := if hm = 0x1640 ∧ 0x101 ≤ p ∧ p ≤ 0x180 then 0x101 else p
  (entriesOf (nib hm 3)).find? (fun e => e.path == hm && e.param == q)

/-- Key of a live value: unit path, parameter, element. -/
def entryKey (u p e : Nat) : Nat := u * 0x10000 + p * 16 + e

/-- The live value of an entry that no register holds (R152); unlisted: the factory value. -/
def liveVal (h : Hw) (u p e : Nat) : Nat :=
  match oget h.dict.live (entryKey u p e) with
  | some v => v
  | none => match findEntry u p with
    | some d => d.deflt
    | none => 0

/-- Set such a value. -/
def setLive (h : Hw) (u p e v : Nat) : Hw := onDict h (fun d => { d with live := oset d.live (entryKey u p e) (some v) })

/-- Add to a counter entry of `w` bits. -/
def bumpLive (h : Hw) (u p e n w : Nat) : Hw := setLive h u p e ((liveVal h u p e + n) % 2 ^ w)

end Sys2Proof.Machine
end

