-- ==== Sys2Proof/Machine/CalOps.lean ====
section
/-! DEFINITION. A carriage's calibration step, its share of the carriage's time, and what a submitted command does to it (R46-R48). -/
namespace Sys2Proof.Machine

/-- Calibration of carriage `c`. -/
def cal (h : Hw) (c : Nat) : Calib := (car h c).cal

/-- Milliseconds that steps of carriage `c` occupy between two operating times. -/
def shareUsed (k : Calib) (from' to' : Nat) : Nat :=
  k.spans.foldl (fun n p => n + (min p.2 to' - max p.1 from')) 0

/-- The running step ends now. -/
def stepEnd (h : Hw) (c : Nat) : Hw :=
  onCal h c (fun k => { k with
    step := none, left := 0, ending := false
    spans := match k.spans with
      | p :: l => (p.1, min p.2 (max p.1 h.log.optime)) :: l
      | [] => [] })

/-- A command is submitted to carriage `c` (R48): a read-side step that runs there ends at its next sector boundary. -/
def submitTo (h : Hw) (c : Nat) : Hw := if (cal h c).step = some false then onCal h c (fun k => { k with ending := true }) else h

/-- A sector boundary of carriage `c` (R48). -/
def calBoundary (h : Hw) (c : Nat) : Hw := if (cal h c).ending then stepEnd h c else h

end Sys2Proof.Machine
end

