-- ==== Sys2Proof/Machine/Codeword.lean ====
section
/-! DEFINITION. The codeword of a sector: the LDPC code, its encoder and decoder, the scrambler, the fields of a sector position, the
places of the positions of a track, and the edges of its bits on the wire (R217-R221, R228, R248, R249). -/
namespace Sys2Proof.Machine

/-! The code (R217, R218). A block column is 256 bits, bit j of it code bit 256 c + j. -/

/-- Row step d(c) of an information column (R218). -/
def rowStep (c : Nat) : Nat := 1 + c / 16 % 7

/-- Block (r, c) of the parity-check matrix is not zero (R218). -/
def blockOf (r c : Nat) : Bool :=
  if c < 128 then [0, 1, 2, 3].any (fun m => (c + m * rowStep c) % 16 == r) else r == c - 128 || r == c - 127

/-- Shift s(r, c) of a block (R218). -/
def blockShift (r c : Nat) : Nat := if c < 128 then (37 * r * c + 11 * c + 5 * r) % 256 else 0

/-- What column `c` holding `x` adds to the 256 checks of row `r`: bit i of it is bit (i + s) mod 256 of the column. -/
def blockTerm (r c : Nat) (x : BitVec 256) : BitVec 256 := if blockOf r c then x.rotateRight (blockShift r c) else 0

/-- The sum over GF(2) of the terms of row `r` over the columns `cols`. -/
def rowSum (u : Nat → BitVec 256) (r : Nat) (cols : List Nat) : BitVec 256 := cols.foldl (fun v c => v ^^^ blockTerm r c (u c)) 0

/-- The 256 checks of row `r`; a bit that is 1 is an unsatisfied check. -/
def checkRow (u : Nat → BitVec 256) (r : Nat) : BitVec 256 := rowSum u r (List.range 144)

/-- Number of ones. -/
def onesOf {n : Nat} (x : BitVec n) : Nat := (List.range n).countP (fun i => x.getLsbD i)

/-- Unsatisfied checks of a word of 144 block columns (R221). -/
def unsatisfied (u : Nat → BitVec 256) : Nat := (List.range 16).foldl (fun n r => n + onesOf (checkRow u r)) 0

/-- Parity block t by back-substitution (R219). -/
def parityBlock (u : Nat → BitVec 256) : Nat → BitVec 256
  | 0 => rowSum u 0 (List.range 128)
  | t + 1 => rowSum u (t + 1) (List.range 128) ^^^ parityBlock u t

/-- Block column `c` of the codeword of information columns `u` (R217, R219). -/
def codeColumn (u : Nat → BitVec 256) (c : Nat) : BitVec 256 := if c < 128 then u c else parityBlock u (c - 128)

/-- Information column `c` of a sector's 4,096 bytes, a little-endian number (R217). -/
def infoColumn (text c : Nat) : BitVec 256 := BitVec.ofNat 256 (text / 2 ^ (256 * c))

/-- The 36,864 bits of a sector's codeword, in order (R217, R219). -/
def codewordBits (text : Nat) : List Bool :=
  (List.range 144).flatMap (fun c => let x := codeColumn (infoColumn text) c; (List.range 256).map (fun j => x.getLsbD j))

/-! The scrambler (R220). -/

/-- The state that a seed gives. -/
def scramblerStart (seed : Nat) : BitVec 31 := if seed % 2 ^ 31 = 0 then 0x7FFFFFFF else BitVec.ofNat 31 seed

/-- The next bit q and the next state. -/
def scramblerBit (s : BitVec 31) : Bool := s.getLsbD 30 != s.getLsbD 27
def scramblerNext (s : BitVec 31) : BitVec 31 := s <<< 1 ||| BitVec.ofNat 31 (scramblerBit s).toNat

/-- The bits XORed with the sequence from state `s` on. -/
def scramble : BitVec 31 → List Bool → List Bool
  | _, [] => []
  | s, b :: l => (b != scramblerBit s) :: scramble (scramblerNext s) l

/-- The written bits w of a sector with its seed (R220). -/
def writtenBits (seed text : Nat) : List Bool := scramble (scramblerStart seed) (codewordBits text)

/-- Before decoding, the sign of each LLR where q is 1 is inverted (R220). -/
def descramble : BitVec 31 → List Int → List Int
  | _, [] => []
  | s, x :: l => (if scramblerBit s then -x else x) :: descramble (scramblerNext s) l

/-! A sector position (R248, R249). -/

/-- A number's `n` bits, most significant first. -/
def msbFirst (n v : Nat) : List Bool := (List.range n).map (fun i => v.testBit (n - 1 - i))

/-- `n` bits of repeated 0b1100. -/
def filler (n : Nat) : List Bool := (List.range n).map (fun i => i % 4 < 2)

/-- Lengths of the preamble and the pad, and of a resynchronisation field, in channel bits (R249). -/
def preambleLength (h : Hw) (c : Nat) : Nat := 16 * max 6 (getF h FM_SFMT_PRE (inst c))
def padLength (h : Hw) (c : Nat) : Nat := max 32 (getF h FM_SFMT_PAD (inst c))
def resyncLength (h : Hw) (c : Nat) : Nat := 8 * max 1 (getF h FM_SFMT_RSY (inst c)) + 16

/-- The bits of the preamble and the sync mark, and of a resynchronisation field of `n` bits: repeated 0b1100, then the mark (R249). -/
def markBits : List Bool := msbFirst 48 0x3B4ED61FA4C9
def resyncBits : List Bool := msbFirst 16 0x9D2C
def leadBits (pre : Nat) : List Bool := filler pre ++ markBits
def resyncField (n : Nat) : List Bool := filler (n - 16) ++ resyncBits

/-- The codeword's bits with a resynchronisation field after each split; `cuts` are the bits of each segment before a wedge. -/
def insertResync (field : List Bool) : List Nat → List Bool → List Bool
  | [], l => l
  | n :: cuts, l => l.take n ++ field ++ insertResync field cuts (l.drop n)

/-- What a sector position holds, in order of writing (R249). -/
def positionBits (pre rsy pad : Nat) (cuts : List Nat) (w : List Bool) : List Bool :=
  leadBits pre ++ insertResync (resyncField rsy) cuts w ++ filler pad

/-! The places of the positions of a track (R248). -/

/-- Lengths that place positions: channel bits from wedge to wedge and of the servo field, preamble, resynchronisation field, pad. -/
structure TrackGeometry where
  bpw : Nat
  sfl : Nat
  pre : Nat
  rsy : Nat
  pad : Nat
  deriving DecidableEq, Repr

/-- A position as placed: wedge and bit of its first preamble bit, the code bits before each split, its pad, and the wedge and bit after
it. -/
structure Placed where
  wedge : Nat
  bit : Nat
  cuts : List Nat
  pad : Nat
  endWedge : Nat
  endBit : Nat
  deriving DecidableEq, Repr

/-- A position whose start falls in a stretch of `left` bits before a wedge begins after the servo field (R248). -/
def beginsAfterWedge (g : TrackGeometry) (left : Nat) : Bool := decide (left < g.pre + 48 + 256)

/-- The codeword from `bit` of `wedge` on, `n` code bits left, at most as many further splits as the first argument: the segments before
the splits, and the wedge and bit after its last code bit. -/
def laySegments (g : TrackGeometry) : Nat → Nat → Nat → Nat → List Nat × Nat × Nat
  | 0, n, wedge, bit => ([], wedge, bit + n)
  | k + 1, n, wedge, bit =>
    if n ≤ g.bpw - bit then ([], wedge, bit + n)
    else
      let r := laySegments g k (n - (g.bpw - bit)) (wedge + 1) (g.sfl + g.rsy)
      ((g.bpw - bit) :: r.1, r.2)

/-- Lay a position from `bit` of `wedge` on: after the servo field when the stretch is too short, split at wedges at most four times, its
pad cut short by a servo field (R248). -/
def layPosition (g : TrackGeometry) (wedge bit : Nat) : Placed :=
  let after := beginsAfterWedge g (g.bpw - bit)
  let w := if after then wedge + 1 else wedge
  let b := if after then g.sfl else bit
  let r := laySegments g 4 36864 w (b + g.pre + 48)
  let pad := min g.pad (g.bpw - r.2.2)
  { wedge := w, bit := b, cuts := r.1, pad := pad, endWedge := r.2.1, endBit := r.2.2 + pad }

/-- Position `i` of a track: end to end from bit SFL of wedge 0 (R248). -/
def placePosition (g : TrackGeometry) : Nat → Placed
  | 0 => layPosition g 0 g.sfl
  | i + 1 => let p := placePosition g i; layPosition g p.endWedge p.endBit

/-! The write serialiser (R228). -/

/-- Precoding by the target's sign convention, in which the level is the bit (R211, R228): a 1 where the level changes; `v` is the level
before. A transition goes out for each 1 (DEDUCED, log entry 93). -/
def precode : Bool → List Bool → List Bool
  | _, [] => []
  | v, b :: l => (v != b) :: precode b l

/-- The swing in mV peak-to-peak (R228). -/
def writeSwing (swing : Nat) : Rat := 200 + 400 * (swing : Rat) / 7

/-- The delay of the edge of bit n of the wire, in 1/64 bit, by the transitions of the two previous bits (R228). -/
def edgeDelay (pc1 pc2 : Nat) (before1 before2 : Bool) : Nat :=
  if before1 then pc1 + (if before2 then pc2 else 0) else 0

/-- The edges of precoded bits, in 1/64 of a sample period from the first bit: the bit's instant at `nbp` (UQ4.20 sample periods a bit)
plus its delay, rounded to 1/64 (R228). `before1` and `before2` say whether the two bits before had transitions; `n` is the bit. -/
def edgePlaces (nbp pc1 pc2 : Nat) : Bool → Bool → Nat → List Bool → List Nat
  | _, _, _, [] => []
  | before1, before2, n, b :: l =>
    let at' := (nbp * (64 * n + edgeDelay pc1 pc2 before1 before2) + 2 ^ 19) / 2 ^ 20
    if b then at' :: edgePlaces nbp pc1 pc2 true before1 (n + 1) l else edgePlaces nbp pc1 pc2 false before1 (n + 1) l

/-! The decoder (R221, R222): layered offset min-sum. LLRs and messages are in units of 0.5. -/

/-- Messages are S6, posteriors S8 (R215). -/
def clampS6 (x : Int) : Int := max (-32) (min 31 x)
def clampS8 (x : Int) : Int := max (-128) (min 127 x)

/-- The messages of a check to its bits: the sign of the product of the others, the smallest magnitude of the others less the
offset, at least 0. -/
def checkMessages (offs : Nat) (qs : List Int) : List Int :=
  (List.range qs.length).map (fun k =>
    let others := qs.eraseIdx k
    let mag := others.foldl (fun m q => min m q.natAbs) 32
    let neg := others.countP (fun q => decide (q < 0)) % 2 == 1
    clampS6 (if neg then -((mag - offs : Nat) : Int) else ((mag - offs : Nat) : Int)))

/-- A decoder: the posterior LLRs of the 144 block columns, and the messages of the last pass by row, 256 lists each in the order of
the row's columns. -/
structure Decoder where
  post : List (List Int)
  msgs : List (List (List Int))
  deriving DecidableEq, Repr

/-- The columns of a row. -/
def rowColumns (r : Nat) : List Nat := (List.range 144).filter (fun c => blockOf r c)

/-- One check: the posteriors of its bits less its old messages are the bits' messages; the new messages are added to them. -/
def checkStep (offs r : Nat) (d : Decoder) (i : Nat) : Decoder :=
  let cols := rowColumns r
  let at' := fun (c : Nat) => (i + blockShift r c) % 256
  let old := ((d.msgs.getD r []).getD i [])
  let q := (cols.zipIdx).map (fun (p : Nat × Nat) => (d.post.getD p.1 []).getD (at' p.1) 0 - old.getD p.2 0)
  let new := checkMessages offs (q.map clampS6)
  let post := ((cols.zip (q.zip new))).foldl (fun (post : List (List Int)) (x : Nat × Int × Int) =>
    post.set x.1 ((post.getD x.1 []).set (at' x.1) (clampS8 (x.2.1 + x.2.2)))) d.post
  { post := post, msgs := d.msgs.set r ((d.msgs.getD r []).set i new) }

/-- One layer: the 256 checks of row `r`. -/
def layer (offs : Nat) (d : Decoder) (r : Nat) : Decoder := (List.range 256).foldl (fun d i => checkStep offs r d i) d

/-- The hard decision of an LLR; of 0, an open value (R215: L = ln(P(0) / P(1))). -/
def hardBit (x : Int) : Bool := if x = 0 then Config.llrZero else decide (x < 0)

/-- The hard decisions of a column. -/
def hardColumn (d : Decoder) (c : Nat) : BitVec 256 :=
  BitVec.ofNat 256 ((List.range 256).foldl (fun n j => n + (if hardBit ((d.post.getD c []).getD j 0) then 2 ^ j else 0)) 0)

/-- Unsatisfied checks of the hard decisions. -/
def Decoder.unsat (d : Decoder) : Nat := unsatisfied (hardColumn d)

/-- The layers of one pass from `rs` on; it stops at the end of the first layer after which every check is satisfied (R221). -/
def pass (offs : Nat) : List Nat → Decoder → Decoder
  | [], d => d
  | r :: rs, d => let d := layer offs d r; if d.unsat = 0 then d else pass offs rs d

/-- The iterations of a global iteration: at most `li`; `stall` iterations in a row without fewer unsatisfied checks end it, 0 none
(R221). The answer: iterations done, unsatisfied checks, the decoder. -/
def iterate (offs stall : Nat) : Nat → Nat → Nat → Nat → Decoder → Nat × Nat × Decoder
  | 0, done, unsat, _, d => (done, unsat, d)
  | li + 1, done, unsat, still, d =>
    let d := pass offs (List.range 16) d
    let n := d.unsat
    if n = 0 then (done + 1, 0, d)
    else
      let still := if n < unsat then 0 else still + 1
      if stall ≠ 0 ∧ stall ≤ still then (done + 1, n, d) else iterate offs stall li (done + 1) n still d

/-- A global iteration on the 36,864 LLRs of a codeword (R221): the check-node offset, the no-progress limit and the iteration limit. -/
def decodeCodeword (offs stall li : Nat) (llr : List Int) : Nat × Nat × Decoder :=
  let d : Decoder :=
    { post := (List.range 144).map (fun k => ((llr.drop (256 * k)).take 256).map clampS6)
      msgs := List.replicate 16 (List.replicate 256 []) }
  iterate offs stall li 0 4097 0 d

/-- The information bits of hard decisions, as a little-endian number (R217). -/
def infoText (d : Decoder) : Nat := (List.range 128).foldl (fun n c => n + (hardColumn d c).toNat * 2 ^ (256 * c)) 0

end Sys2Proof.Machine
end

