-- ==== Sys2Proof/Machine/Numeric.lean ====
section
/-! DEFINITION. Rounding, clamping and saturation of exact rationals (R332, R374-R388). Ties round up (DESIGN CHOICE, log entry
10). -/
namespace Sys2Proof.Machine

/-- The fractional part of an angle in turns. -/
def frac (x : Rat) : Rat := x - x.floor

/-- A value kept within bounds. -/
def clampR (lo hi x : Rat) : Rat := max lo (min hi x)

/-- The nearest whole number, halves up. -/
def roundR (x : Rat) : Int := (x + 1 / 2).floor

/-- The absolute value. -/
def absR (x : Rat) : Rat := if x < 0 then -x else x

/-- A quotient; by 0 it is not stated. -/
def divBy (x y : Rat) : Rat := if y = 0 then Config.byZero x else x / y

/-- Round to nearest and saturate to `n` bits of two's complement (R332). -/
def satBits (n : Nat) (x : Rat) : Int := max (-(2 ^ (n - 1) : Int)) (min (2 ^ (n - 1) - 1 : Int) (roundR x))

/-- Round and saturate to Q15, or S16. -/
def q15 (x : Rat) : Int := satBits 16 x

end Sys2Proof.Machine
end

