-- ==== Sys2Proof/Machine/Signal.lean ====
section
/-! DEFINITION. The read channel from the readers' voltages to the samples of a sector: the lanes of the front end, timing recovery,
gain and offset, thermal asperities, equaliser and target (R195-R212, R223). Numbers are exact; a stage rounds where its format says so.
The parts whose law the spec does not state are constants of Config without a body (log entry 44). -/
namespace Sys2Proof.Machine

/-- A field of a register word latched at the sector's start. -/
def latched (f : Fld) (w : BitVec 32) : Nat := bits f.hi f.lo w.toNat

/-! The front end (R195, R196). -/

/-- VGA gain in dB of a code; codes above 240 act as 240. -/
def vgaGain (code : Nat) : Rat := -3 + (min code 240 : Nat) / 8

/-- The step that a fine gain, in 1/1,024, makes due: 1 up or 2 down once it has left 0.5-2.0, 0 none; and a VGA code after it (R207). -/
def vgaDue (gain : Nat) : Nat := if 2048 < gain then 1 else if gain < 512 then 2 else 0
def vgaMoved (step code : Nat) : Nat := if step = 1 then min 240 (code + 1) else if step = 2 then code - 1 else code
def vgaStep (gain code : Nat) : Nat := vgaMoved (vgaDue gain) code

/-- The boost of the continuous-time filter in dB (R195). -/
def ctfBoost (fe : BitVec 32) : Rat := 4 * (latched CH_FE_BOOST fe : Rat) / 5

/-- The ADC: 8 bits, an LSB of 1.5625 mV, and whether it saturates (R196). -/
def adc (mV : Rat) : Int := satBits 8 (mV / (25 / 16))
def adcSaturates (x : Int) : Bool := x == -128 || x == 127

/-- Asymmetry correction x' = x + m x^2 / 2^15. -/
def asymmetry (m x : Int) : Rat := x + m * x * x / 2 ^ 15

/-- Fine gain: a multiplier 0-4 in steps of 2^-10, the output S10, saturating. -/
def fineGain (g : Nat) (x : Rat) : Int := satBits 10 ((min g 4096 : Nat) * x / 1024)

/-- Delay of lane A in channel bits (R195), from word 52 of the set (R229). -/
def laneDelay (w52 : Nat) : Rat := (bits 9 0 w52 : Nat) + (bits 15 10 w52 : Nat) / 64

/-- A lane before its interpolator: VGA code, offset in 0.5 LSB, the analogue values and the ADC outputs so far, newest first, and the
saturations. -/
structure LaneSt where
  vga : Nat
  dc : Int
  inputs : List Rat := []
  adcs : List Int := []
  sat : Nat := 0
  deriving DecidableEq, Repr

/-- One sample of a lane: corrected ADC output, and whether the low-passed output departs from the baseline (R209, R224). -/
structure LaneOut where
  x : Rat
  far : Bool
  half : Bool
  deriving DecidableEq, Repr

/-- The departure from the baseline that makes a span, in ADC LSB: the larger of TATH and six deviations of the baseline's noise (R209). -/
def asperityLevel (ta : BitVec 32) (sigma : Rat) : Rat := max (latched CH_TA_TATH ta : Rat) (6 * sigma)

/-- One sample of a lane through VGA, offset, filter, ADC and asymmetry correction (R195), with the DC loop, whose offset is held to S8, and
the test of R209. -/
def laneStep (x : ChSector) (m : Int) (r : LaneSt × List LaneOut) (mV : Rat) : LaneSt × List LaneOut :=
  let st := r.1
  let inputs := (mV * Config.dbRatio (vgaGain st.vga) - st.dc * (25 / 32)) :: st.inputs
  let out := adc (Config.ctf x.cutoff (ctfBoost x.fe) inputs)
  let adcs := out :: st.adcs
  let low := Config.lowPass adcs
  let dep := absR (low.1 - low.2.1)
  let far := latched CH_TA_TAEN x.ta == 1 && decide (asperityLevel x.ta low.2.2 < dep)
  ({ st with dc := satBits 8 (Config.dcLoop far st.dc out), inputs := inputs, adcs := adcs, sat := st.sat + (adcSaturates out).toNat },
   ⟨asymmetry m out, far, decide ((latched CH_TA_TATH x.ta : Rat) / 2 < dep)⟩ :: r.2)

/-- A lane over the samples of a stretch, oldest first. -/
def laneRun (x : ChSector) (m : Int) (st : LaneSt) (mV : List Rat) : LaneSt × List LaneOut :=
  let r := mV.foldl (laneStep x m) (st, [])
  (r.1, r.2.reverse)

/-- The interpolator (R195, R202): eight taps around instant `t`, its fraction rounded to 1/64 sample period, the output S10 in units of
0.5 LSB. A fraction that rounds to 64 is phase 0 of the next sample. -/
def interpolateAt (outs : List LaneOut) (t : Rat) : Int :=
  let p := roundR (64 * frac t)
  let n : Int := t.floor + p / 64
  let value := fun (k : Int) => if k < 0 then 0 else ((outs[k.toNat]?).map (fun o => o.x)).getD 0
  satBits 10 ((List.range 8).foldl (fun s i => s + Config.interpTap (p % 64).toNat i * (2 * value (n - 3 + i))) 0)

/-- The lane's departure at instant `t`. -/
def farAt (outs : List LaneOut) (t : Rat) : Bool × Bool := ((outs[t.floor.toNat]?).map (fun o => (o.far, o.half))).getD (false, false)

/-! Equaliser and target (R210-R212). -/

/-- A sum of products of taps in Q12 with samples, tap 5 at the cursor: sample k + 5 - i for tap i. -/
def tapSum (taps : List Int) (x : Int → Int) (k : Int) : Rat :=
  ((taps.zipIdx).foldl (fun (s : Int) (t : Int × Nat) => s + t.1 * x (k + 5 - t.2)) 0 : Int) / 4096

/-- The equaliser's output in joint mode, rounded to S10, saturating (R210). -/
def equalise (fA fB : List Int) (xA xB : Int → Int) (k : Int) : Int := satBits 10 (tapSum fA xA k + tapSum fB xB k)

/-- The taps a mode uses (R212), from the coefficient set's words (R229): joint, A only (B's taps 0), B only and verify (the verify
taps on lane B). -/
def tapsAt (set : List Nat) (first : Nat) : List Int :=
  (List.range 16).map (fun i => toSigned 16 (bits (16 * (i % 2) + 15) (16 * (i % 2)) (set.getD (first + i / 2) 0)))
def modeTaps (set : List Nat) (mode : Nat) : List Int × List Int :=
  let none' := List.replicate 16 (0 : Int)
  match mode with
  | 0 => (tapsAt set 0, tapsAt set 8)
  | 1 => (tapsAt set 0, none')
  | _ => (none', tapsAt set 42)

/-- g1-g3 in Q12 and the scale A of a mode's target (R211, R229). -/
def targetOf (set : List Nat) (mode : Nat) : Int × Int × Int × Nat :=
  let w := if mode ≤ 1 then 16 else 50
  let a := set.getD w 0
  let b := set.getD (w + 1) 0
  (toSigned 16 (bits 15 0 a), toSigned 16 (bits 31 16 a), toSigned 16 (bits 15 0 b), bits 25 16 b)

/-- A bit as +1 or -1. -/
def bipolar (b : Bool) : Int := if b then 1 else -1

/-- The ideal output of a bit and the three before it (R211). -/
def idealOutput (g : Int × Int × Int × Nat) (b b1 b2 b3 : Bool) : Rat :=
  (g.2.2.2 : Rat) * (bipolar b + (g.1 * bipolar b1 + g.2.1 * bipolar b2 + g.2.2.1 * bipolar b3 : Int) / 4096)

/-! Timing recovery (R202-R206). -/

/-- The timing loop: the sampling instant in sample periods and the frequency integrator. -/
structure Timing where
  tau : Rat
  f : Rat
  deriving DecidableEq, Repr

/-- KPS takes values 3-10 and KIS 6-20; a value outside acts as the nearest limit (R204). -/
def kpsOf (x : Nat) : Nat := max 3 (min 10 x)
def kisOf (x : Nat) : Nat := max 6 (min 20 x)

/-- Gain shifts KPS and KIS: those of acquisition or of tracking (R204, R206). -/
def loopShifts (w : BitVec 32) (acq : Bool) : Nat × Nat :=
  if acq then (kpsOf (latched CH_TLOOP_KPSA w), kisOf (latched CH_TLOOP_KISA w)) else (kpsOf (latched CH_TLOOP_KPST w), kisOf (latched CH_TLOOP_KIST w))

/-- Bits of acquisition on the preamble: ACQL x 8 (R204). -/
def acqBits (w : BitVec 32) : Nat := 8 * atLeast1 (latched CH_TLOOP_ACQL w)

/-- The clamp of the integrator: FLIM x 250 ppm (R205). -/
def freqLimit (w : BitVec 32) : Rat := (atLeast1 (latched CH_TLOOP_FLIM w) : Rat) * 250 / 1000000

/-- One bit of the loop (R202, R205): NBP in sample periods, phase error e in bit periods. -/
def timingStep (limit : Rat) (shifts : Nat × Nat) (nbp e : Rat) (t : Timing) : Timing :=
  { tau := t.tau + nbp + nbp * (t.f + e / 2 ^ shifts.1)
    f := clampR (-limit) limit (t.f + e / 2 ^ shifts.2) }

/-- One bit while the servo gate is high: f holds (R206). -/
def timingHold (nbp : Rat) (t : Timing) : Timing := { t with tau := t.tau + nbp * (1 + t.f) }

/-- Phase error from the equalised output and the tentative decisions of this bit and the one before; A is the target scale
(R203). The quotient of a scale of 0 is free (log entry 44). -/
def phaseError (y yOld d dOld : Rat) (a : Nat) : Rat :=
  let n := y * dOld - yOld * d
  if a = 0 then Config.byZero n else n / (a * a : Nat)

/-- LOCK: the mean of |e| over the last 256 bits of the sector, or over all while there are fewer, is at most 1/8 (R205; DEDUCED, log
entry 44). -/
def lockOf (es : List Rat) : Bool := decide ((es.foldl (fun s e => s + absR e) 0) ≤ (es.length : Rat) / 8)

/-- The loops of a sector: timing, fine gains of lanes A and B, |e| of the last 256 bits and the outputs, newest first, the bits for which
the clamp has held, the samples of the lanes, newest first, the last output and decision, lock and whether it fell in the data, and the
samples so far. Instant, integrator, last output and last decision start at 0 in every sector: the spec is silent on what a sector starts
with (DESIGN CHOICE, log entry 44). -/
structure LoopSt where
  time : Timing := ⟨0, 0⟩
  gains : Nat × Nat := (Config.startGain, Config.startGain)
  errs : List Rat := []
  outs : List Int := []
  clamped : Nat := 0
  lastA : List Int := []
  lastB : List Int := []
  yOld : Rat := 0
  dOld : Rat := 0
  locked : Bool := false
  fell : Bool := false
  slip : Bool := false
  samples : List Samp := []
  deriving DecidableEq, Repr

/-- One bit instant: samples of both lanes, equalised output, decision, phase error, loops. `first` is the sample at which the stretch
begins; `acq` chooses the acquisition gains, `hold` freezes the gain, `data` tells the data of the sector. The equaliser's look-ahead takes
the samples at the predicted instants (DESIGN CHOICE, log entry 44). -/
def loopBit (x : ChSector) (a b : List LaneOut) (first : Nat) (acq hold data : Bool) (s : LoopSt) : LoopSt :=
  let nbp : Rat := x.nbp / 2 ^ 20
  let ahead := nbp * (1 + s.time.f)
  let tB := s.time.tau - first
  let tA := tB - laneDelay (x.words.getD 52 0) * nbp
  let valueA := fun (o : Rat) => fineGain s.gains.1 (interpolateAt a (tA + o * ahead))
  let valueB := fun (o : Rat) => fineGain s.gains.2 (interpolateAt b (tB + o * ahead))
  let lastA := valueA 0 :: s.lastA.take 15
  let lastB := valueB 0 :: s.lastB.take 15
  let xA := fun (k : Int) => if 0 < k then valueA k else lastA.getD (-k).toNat 0
  let xB := fun (k : Int) => if 0 < k then valueB k else lastB.getD (-k).toNat 0
  let taps := modeTaps x.words x.mode
  let y := equalise taps.1 taps.2 xA xB 0
  let g := targetOf x.words x.mode
  let d := Config.slice g (y :: s.outs)
  let e := phaseError y s.yOld d s.dOld g.2.2.2
  let limit := freqLimit x.tloop
  let time := timingStep limit (loopShifts x.tloop acq) nbp e s.time
  let clamped := if absR time.f = limit then s.clamped + 1 else 0
  let errs := (absR e :: s.errs).take 256
  let locked := lockOf errs
  let at' : Rat := latched CH_AGC_AT x.agc
  { time := time
    gains := if hold then s.gains else Config.agc (if acq then latched CH_AGC_KAA x.agc else latched CH_AGC_KAT x.agc) at'.floor.toNat s.gains y.natAbs
    errs := errs
    outs := y :: s.outs
    clamped := clamped
    lastA := lastA
    lastB := lastB
    yOld := y
    dOld := d
    locked := locked
    fell := s.fell || (data && s.locked && !locked)
    slip := s.slip || decide (256 ≤ clamped) || (data && s.locked && !locked)
    samples := ⟨valueA 0, valueB 0, (farAt a tA).1, (farAt b tB).1, (farAt a tA).2, (farAt b tB).2⟩ :: s.samples }

/-- The channel over a sector: its lanes, its loops, the stretches begun, and lock and gain at the end of acquisition. -/
structure Rx where
  a : LaneSt
  b : LaneSt
  loop : LoopSt := {}
  begun : Nat := 0
  lock : Bool := false
  gain : Bool := false
  deriving DecidableEq, Repr

/-- The mean of |y| over the outputs so far. -/
def meanOut (ys : List Int) : Rat := ((ys.foldl (fun s y => s + y.natAbs) 0 : Nat) : Rat) / (max 1 ys.length : Nat)

/-- One stretch (R204-R207): the VGAs step where the fine gains have left their range, the lanes convert, the loop acquires on the preamble
or on the resynchronisation field and then tracks, and coasts while the servo gate lasts. -/
def stretchRun (x : ChSector) (r : Rx) (s : Stretch) : Rx :=
  let la := laneRun x (toSigned 8 (latched CH_HFE1_MRAA x.asym)) { r.a with vga := vgaStep r.loop.gains.1 r.a.vga } s.laneA
  let lb := laneRun x (toSigned 8 (latched CH_HFE1_MRAB x.asym)) { r.b with vga := vgaStep r.loop.gains.2 r.b.vga } s.laneB
  let acq := if r.begun = 0 then acqBits x.tloop else x.resync
  let held := latched CH_AGC_HOLD x.agc == 1
  let r := (List.range s.bits).foldl (fun (r : Rx) i =>
    let data : Bool := decide (0 < r.begun) || decide (x.preamble + 48 ≤ i)
    let loop := loopBit x la.2 lb.2 s.first (decide (i < acq)) (held && (decide (0 < r.begun) || decide (x.preamble ≤ i))) data r.loop
    if r.begun = 0 ∧ i + 1 = acq then
      { r with loop := loop, lock := loop.locked, gain := Config.gainReached (latched CH_AGC_AT x.agc) (meanOut loop.outs) }
    else { r with loop := loop }) { r with a := la.1, b := lb.1 }
  let time := (List.range s.gate).foldl (fun t _ => timingHold (x.nbp / 2 ^ 20) t) r.loop.time
  { r with loop := { r.loop with time := time }, begun := r.begun + 1 }

/-- The channel over the whole signal of a sector; `hfe0` holds the start values of VGA and offset (R208), `due` the steps of the VGAs of
lanes A and B that the head's last sector left due (R207). -/
def receive (x : ChSector) (hfe0 : BitVec 32) (due : Nat × Nat) (signal : List Stretch) : Rx :=
  signal.foldl (stretchRun x)
    { a := { vga := vgaMoved due.1 (latched CH_HFE0_VGAA hfe0), dc := toSigned 8 (latched CH_HFE0_DCA hfe0) }
      b := { vga := vgaMoved due.2 (latched CH_HFE0_VGAB hfe0), dc := toSigned 8 (latched CH_HFE0_DCB hfe0) } }

/-- The word that the write-back puts into CH_HFE0: the VGA and DC values at the end of the sector (R208). -/
def frontEndWord (r : Rx) : Nat := r.a.vga + 2 ^ 8 * r.b.vga + 2 ^ 16 * ofSigned 8 r.a.dc + 2 ^ 24 * ofSigned 8 r.b.dc

/-! Thermal asperities (R209). -/

/-- The runs of true in a list, as first index and length; `n` is the index, `run` the length of the run that ends before it. -/
def runsOf : Nat → Nat → List Bool → List (Nat × Nat)
  | n, run, [] => if run = 0 then [] else [(n - run, run)]
  | n, run, b :: l => if b then runsOf (n + 1) (run + 1) l else (if run = 0 then [] else [(n - run, run)]) ++ runsOf (n + 1) 0 l

/-- The spans of a lane: at least TAMIN bits (R209). -/
def spansOf (ta : BitVec 32) (flags : List Bool) : List (Nat × Nat) :=
  (runsOf 0 0 flags).filter (fun p => decide (latched CH_TA_TAMIN ta ≤ p.2))

/-- Bit `k` lies in a span or in its margin of `m` bits. -/
def inSpans (spans : List (Nat × Nat)) (m : Nat) (k : Int) : Bool :=
  spans.any (fun p => decide ((p.1 : Int) - m ≤ k) && decide (k < p.1 + p.2 + m))

/-- Bits erased in a sector of `n` bits: the spans and their margins, each bit once. -/
def erasedCount (ta : BitVec 32) (spans : List (Nat × Nat)) (n : Nat) : Nat :=
  (List.range n).countP (fun k => inSpans spans (latched CH_TA_TAMRG ta) k)

end Sys2Proof.Machine
end

