-- ==== Sys2Proof/Machine/Detector.lean ====
section
/-! DEFINITION. From the samples of a slot to a decoded sector: the mark window and its candidates, the segments of the codeword, the
detector, global iterations, the verify comparison and the sums of the adapter (R214-R216, R220-R226, R233, R234, R251-R254). -/
namespace Sys2Proof.Machine

/-! The mark window (R251-R255). -/

/-- Half-width and threshold of the window; retry k doubles the half-width k times and lowers the threshold by k x MSTEP (R255). -/
def markHalf (x : ChSector) : Nat := min 64 (max 1 (min 64 (latched FM_MARK_W x.mark)) * 2 ^ x.retries)
def markThreshold (x : ChSector) : Nat :=
  if x.retries = 0 then latched FM_MARK_MTH x.mark else max 32 (latched FM_MARK_MTH x.mark - x.retries * latched FM_MARK_MSTEP x.mark)

/-- The equalised output at index `k` of a slot, with the taps of a set and a mode (R212, R223). -/
def slotOut (set : List Nat) (mode : Nat) (l : List Samp) (k : Int) : Int :=
  let taps := modeTaps set mode
  let value := fun (f : Samp → Int) (k : Int) => if k < 0 then 0 else ((l[k.toNat]?).map f).getD 0
  equalise taps.1 taps.2 (value Samp.a) (value Samp.b) k

/-- The ideal outputs of `bits`, preceded by `before` (R211). -/
def idealOutputs (g : Int × Int × Int × Nat) (before bits : List Bool) : List Rat :=
  let all := before ++ bits
  let at' := fun (n : Nat) => all.getD n false
  (List.range bits.length).map (fun i =>
    let n := before.length + i
    idealOutput g (at' n) (at' (n - 1)) (at' (n - 2)) (at' (n - 3)))

/-- The score of outputs against the ideal outputs of a mark (R251). -/
def markScore (y dm : List Rat) : Int :=
  let num := (y.zip dm).foldl (fun s p => s + p.1 * p.2) 0
  let den := dm.foldl (fun s d => s + d * d) 0
  max 0 (min 255 (roundR (255 * num / den)))

/-- A position is a candidate: its score reaches the threshold and none within 4 bits scores higher (R252). -/
def isCandidate (score : Int → Int) (th half j : Int) : Bool :=
  decide (th ≤ score j) && (List.range 9).all (fun k => let i := j - 4 + (k : Int); decide (i < -half) || decide (half < i) || decide (score i ≤ score j))

/-- Put a position among the best, the highest score first, the earlier first of equal scores (R252). -/
def rankInto (score : Int → Int) (j : Int) : List Int → List Int
  | [] => [j]
  | k :: l => if score k < score j then j :: k :: l else k :: rankInto score j l

/-- The candidates of a window, best first, at most three (R252). -/
def candidates (score : Int → Int) (th : Int) (half : Nat) : List Int :=
  ((List.range (2 * half + 1)).foldl (fun l n =>
    let j := (n : Int) - half
    if isCandidate score th half j then rankInto score j l else l) []).take 3

/-- The candidates of a sector in its samples: the offset from the expected mark, which stands at the half-width in the slot, and the
score (R251, R252). -/
def sectorCandidates (x : ChSector) (l : List Samp) : List (Int × Int) :=
  let half := markHalf x
  let dm := idealOutputs (targetOf x.words x.mode) (filler x.preamble) markBits
  let score := fun (j : Int) => markScore ((List.range 48).map (fun k => (slotOut x.words x.mode l (half + j + k) : Rat))) dm
  (candidates score (markThreshold x) half).map (fun j => (j, score j))

/-- The position of a resync mark: the best within 16 bits whose score is at least half the threshold, else the nominal one
(R254). -/
def resyncPosition (score : Int → Int) (th : Int) : Int :=
  match (List.range 33).foldl (fun l n => rankInto score ((n : Int) - 16) l) [] with
  | j :: _ => if th ≤ 2 * score j then j else 0
  | [] => 0

/-- The segments of the codeword in a slot from index `start` on: first index and number of code bits; `left` are the code bits left
(R249, R254). -/
def segmentsFrom (x : ChSector) (set : List Nat) (mode : Nat) (l : List Samp) : List Nat → Int → Nat → List (Int × Nat)
  | [], start, left => [(start, left)]
  | n :: cuts, start, left =>
    let nominal := start + n + x.resync - 16
    let dm := idealOutputs (targetOf set mode) (filler (x.resync - 16)) resyncBits
    let score := fun (j : Int) => markScore ((List.range 16).map (fun k => (slotOut set mode l (nominal + j + k) : Rat))) dm
    (start, n) :: segmentsFrom x set mode l cuts (nominal + resyncPosition score (markThreshold x) + 16) (left - n)

/-- The segments at the alignment of a candidate's offset. -/
def segments (x : ChSector) (set : List Nat) (mode : Nat) (l : List Samp) (offset : Int) : List (Int × Nat) :=
  segmentsFrom x set mode l x.cuts (markHalf x + offset + 48) 36864

/-! The detector (R214-R216). -/

/-- Condition of the four most recent bits, the current one included: the oldest highest. -/
def conditionOf (b b1 b2 b3 : Bool) : Nat := b.toNat + 2 * b1.toNat + 4 * b2.toNat + 8 * b3.toNat

/-- The branch metric of a bit (R214, R216): n the noise of this bit and of the two before along the path, p1 and p2 in Q15, sigma2 in
(S10 LSB)^2 / 16, and the a-priori term of a later global iteration. The quotient of a variance of 0 is free, and so is its logarithm (log
entry 44). -/
def branchMetric (n n1 n2 : Rat) (p1 p2 : Int) (sigma2 : Nat) (b : Bool) (prior : Rat) : Rat :=
  let v : Rat := n - p1 * n1 / 32768 - p2 * n2 / 32768
  let s : Rat := (sigma2 : Rat) / 16
  (if sigma2 = 0 then Config.byZero (v * v) else v * v / s) + Config.ln s - bipolar b * prior / 2

/-- An LLR in S6, units of 0.5 (R215). -/
def llrOf (l : Rat) : Int := satBits 6 (2 * l)

/-- The survivor of a state: its metric and its noise of the last bit and of the one before. -/
structure Survivor where
  cost : Rat
  n1 : Rat
  n2 : Rat
  deriving DecidableEq, Repr

/-- A branch: its metric and its noise. -/
structure Branch where
  cost : Rat
  n : Rat
  deriving DecidableEq, Repr

/-- The branch of bit `b` out of state `s`, the last four bits, the newest lowest (R214). -/
def branchOf (set : List Nat) (mode : Nat) (y prior : Rat) (p : Survivor) (s : Nat) (b : Bool) : Branch :=
  let n := y - idealOutput (targetOf set mode) b (bitAt s 0) (bitAt s 1) (bitAt s 2)
  let k := conditionOf b (bitAt s 0) (bitAt s 1) (bitAt s 2)
  let w := set.getD (18 + k) 0
  let v := bits (16 * (k % 2) + 15) (16 * (k % 2)) (set.getD (34 + k / 2) 0)
  ⟨branchMetric n p.n1 p.n2 (toSigned 16 (bits 15 0 w)) (toSigned 16 (bits 31 16 w)) v b prior, n⟩

/-- One bit forward: the branches of bits 0 and 1 out of every state, and the survivors after it; of equal metrics the lower state's
branch survives (DESIGN CHOICE, log entry 44). -/
def forwardStep (set : List Nat) (mode : Nat) (y prior : Rat) (st : List Survivor) : List (Branch × Branch) × List Survivor :=
  let br := (st.zipIdx).map (fun p => (branchOf set mode y prior p.1 p.2 false, branchOf set mode y prior p.1 p.2 true))
  let get := fun (s : Nat) => st.getD s ⟨0, 0, 0⟩
  let out := fun (s : Nat) (b : Bool) => let q := br.getD s (⟨0, 0⟩, ⟨0, 0⟩); if b then q.2 else q.1
  (br, (List.range 16).map (fun t =>
    let b := bitAt t 0
    let lo := t / 2
    let hi := t / 2 + 8
    let s := if (get hi).cost + (out hi b).cost < (get lo).cost + (out lo b).cost then hi else lo
    ⟨(get s).cost + (out s b).cost, (out s b).n, (get s).n1⟩))

/-- The forward recursion over the indices `ks`: survivors before each bit and its branches. -/
def forward (set : List Nat) (mode : Nat) (y prior : Int → Rat) : List Survivor → List Int → List (List Survivor × List (Branch × Branch))
  | _, [] => []
  | st, k :: ks => let r := forwardStep set mode (y k) (prior k) st; (st, r.1) :: forward set mode y prior r.2 ks

/-- The least of a metric over the sixteen states. -/
def leastOf (f : Nat → Rat) : Rat := (List.range 16).foldl (fun m s => min m (f s)) (f 0)

/-- The backward recursion from the end of the trellis: the metrics before the first bit of the list, and the LLR of each of its bits. -/
def backward : List (List Survivor × List (Branch × Branch)) → List Rat × List Int
  | [] => (List.replicate 16 0, [])
  | (st, br) :: l =>
    let r := backward l
    let out := fun (s : Nat) (b : Bool) => let q := br.getD s (⟨0, 0⟩, ⟨0, 0⟩); (if b then q.2.cost else q.1.cost) + r.1.getD ((2 * s + b.toNat) % 16) 0
    let cost := fun (s : Nat) => (st.getD s ⟨0, 0, 0⟩).cost
    let l1 := leastOf (fun s => cost s + out s true)
    let l0 := leastOf (fun s => cost s + out s false)
    ((List.range 16).map (fun s => min (out s false) (out s true)), llrOf ((l1 - l0) / 2) :: r.2)

/-- The LLRs of a window of at most 64 bits from index `start`, with 32 bits of warm-up on each side (R214). -/
def detectWindow (set : List Nat) (mode : Nat) (y prior : Int → Rat) (start : Int) (n : Nat) : List Int :=
  let ks := (List.range (n + 64)).map (fun (i : Nat) => start - 32 + (i : Int))
  (((backward (forward set mode y prior (List.replicate 16 ⟨0, 0, 0⟩) ks)).2).drop 32).take n

/-- The LLRs of a segment, window by window. -/
def detectSegment (set : List Nat) (mode : Nat) (y prior : Int → Rat) (start : Int) (n : Nat) : List Int :=
  (List.range ((n + 63) / 64)).flatMap (fun (i : Nat) => detectWindow set mode y prior (start + 64 * (i : Int)) (min 64 (n - 64 * i)))

/-- Bits of a slot whose LLRs are 0: the spans of R209 with their margins; with `half` also every bit at which a lane's baseline departed by
more than half of TATH (R224 step 3). -/
def erasedAt (x : ChSector) (half : Bool) (l : List Samp) (k : Int) : Bool :=
  inSpans (x.found ++ x.spans) (latched CH_TA_TAMRG x.ta) (k + x.preamble - markHalf x) ||
  (half && decide (0 ≤ k) && ((l[k.toNat]?).map (fun s => s.halfA || s.halfB)).getD false)

/-- The LLRs of a codeword in the order of writing; `prior` are those of the decoder, in the same order (R209, R214-R216). -/
def detect (x : ChSector) (set : List Nat) (mode : Nat) (half : Bool) (l : List Samp) (segs : List (Int × Nat)) (prior : List Int) : List Int :=
  (segs.foldl (fun (r : List Int × List Int) s =>
    let pr := fun (k : Int) => ((r.2.getD (k - s.1).toNat 0 : Int) : Rat) / 2
    let out := detectSegment set mode (fun k => (slotOut set mode l k : Rat)) (fun k => if k < s.1 ∨ s.1 + s.2 ≤ k then 0 else pr k) s.1 s.2
    (r.1 ++ (out.zipIdx).map (fun p => if erasedAt x half l (s.1 + p.2) then 0 else p.1), r.2.drop s.2)) ([], prior)).1

/-- A global iteration: its LLRs before the decoder, iterations, unsatisfied checks, extrinsic LLRs in the order of writing, and the decoder
(R216, R220, R221). -/
structure Global where
  llr : List Int
  iters : Nat
  unsat : Nat
  ext : List Int
  dec : Decoder
  deriving DecidableEq, Repr

/-- Run one global iteration of at most `li` iterations on a slot. -/
def globalIteration (x : ChSector) (set : List Nat) (mode : Nat) (half : Bool) (l : List Samp) (segs : List (Int × Nat)) (li : Nat)
    (prior : List Int) : Global :=
  let llr := detect x set mode half l segs prior
  let code := descramble (scramblerStart x.seed) llr
  let r := decodeCodeword (latched CH_LDPC_OFFS x.ldpc) (latched CH_LDPC_STALL x.ldpc) li code
  let post := r.2.2.post.flatMap (fun col => col)
  { llr := llr, iters := r.1, unsat := r.2.1, dec := r.2.2
    ext := descramble (scramblerStart x.seed) ((post.zip code).map (fun p => clampS6 (p.1 - p.2))) }

/-- What several global iterations in a row come to: iterations, global iterations, unsatisfied checks, extrinsic LLRs, text. -/
structure Decode where
  iters : Nat
  globals : Nat
  unsat : Nat
  ext : List Int
  text : Nat
  deriving DecidableEq, Repr

/-- At most `n` further global iterations; convergence ends them. -/
def globalsFrom (x : ChSector) (set : List Nat) (mode : Nat) (half : Bool) (l : List Samp) (segs : List (Int × Nat)) (li : Nat) : Nat → Decode → Decode
  | 0, d => d
  | n + 1, d =>
    let g := globalIteration x set mode half l segs li d.ext
    let d := { iters := d.iters + g.iters, globals := d.globals + 1, unsat := g.unsat, ext := g.ext, text := infoText g.dec : Decode }
    if g.unsat = 0 then d else globalsFrom x set mode half l segs li n d

/-- Decode a slot from the beginning: `n` global iterations of at most `li` iterations at the alignment of `offset`. -/
def decodeSlot (x : ChSector) (set : List Nat) (mode : Nat) (half : Bool) (l : List Samp) (offset : Int) (n li : Nat) : Decode :=
  globalsFrom x set mode half l (segments x set mode l offset) li n { iters := 0, globals := 0, unsat := 4096, ext := [], text := 0 }

/-! Verify (R226). -/

/-- Offset of the first candidate, 0 when there is none. -/
def firstOffset (x : ChSector) : Int := ((x.cands.head?).map (fun p => p.1)).getD 0

/-- What the verify of a write sector finds: bits that differ, weak bits, convergence, iterations. With no candidate no bit is compared right
and nothing converges (DESIGN CHOICE, log entry 44). -/
structure Verified where
  raw : Nat
  weak : Nat
  conv : Bool
  viter : Nat
  deriving DecidableEq, Repr

/-- Verify a write sector: one global iteration of at most `vli` iterations; `overflow`: the decode was cut off by a seventh codeword (R222). -/
def verifySector (x : ChSector) (l : List Samp) (vli : Nat) (overflow : Bool) : Verified :=
  let w := writtenBits x.seed x.text
  if x.cands.isEmpty then ⟨w.length, w.length, false, 0⟩
  else
    let g := globalIteration x x.words 3 false l (segments x x.words 3 l (firstOffset x)) vli []
    { raw := (g.llr.zip w).countP (fun p => hardBit p.1 != p.2)
      weak := g.llr.countP (fun v => decide (v.natAbs < latched CH_LDPC_WTH x.ldpc))
      conv := !overflow && g.unsat == 0
      viter := if overflow then 0 else g.iters }

/-! The sums of the adapter (R233, R234). -/

/-- One code bit as the adapter sees it: its index in the slot, its written bit and the five written before it. -/
structure CodeBit where
  at' : Int
  b : Bool
  b1 : Bool
  b2 : Bool
  b3 : Bool
  b4 : Bool
  b5 : Bool
  deriving DecidableEq, Repr

/-- The bits of a segment from index `k` on, given the five bits before, the last one first. -/
def codeBitsOf : Int → List Bool → List Bool → List CodeBit
  | _, _, [] => []
  | k, p, b :: l =>
    let at' := fun (i : Nat) => p.getD i false
    ⟨k, b, at' 0, at' 1, at' 2, at' 3, at' 4⟩ :: codeBitsOf (k + 1) (b :: p.take 4) l

/-- The code bits of a sector: those before the first are the sync mark's, those before a later segment the resync mark's. -/
def codeBits : Bool → List (Int × Nat) → List Bool → List CodeBit
  | _, [], _ => []
  | first, (k, n) :: segs, w =>
    codeBitsOf k ((if first then markBits else resyncBits).reverse.take 5) (w.take n) ++ codeBits false segs (w.drop n)

/-- The noise n at a code bit, at the bit before it and at the one before that (R214). -/
structure NoiseAt where
  bit : CodeBit
  n : Rat
  n1 : Rat
  n2 : Rat
  deriving DecidableEq, Repr

/-- The noise at a code bit of a slot. The bits before the first code bit, and before a later segment, are those of its mark, so that n of the
bits before is the mark's (DESIGN CHOICE, log entry 44: R234 is silent there). -/
def noiseAt (g : Int × Int × Int × Nat) (y : Int → Int) (b : CodeBit) : NoiseAt :=
  { bit := b
    n := y b.at' - idealOutput g b.b b.b1 b.b2 b.b3
    n1 := y (b.at' - 1) - idealOutput g b.b1 b.b2 b.b3 b.b4
    n2 := y (b.at' - 2) - idealOutput g b.b2 b.b3 b.b4 b.b5 }

/-- The sums over a sector whose written bits are `w` (R233-R235): epsilon and n are both y less the ideal output. -/
def adaptSums (set : List Nat) (mode : Nat) (l : List Samp) (segs : List (Int × Nat)) (w : List Bool) : AdaptSums :=
  let es := (codeBits true segs w).map (noiseAt (targetOf set mode) (slotOut set mode l))
  let value := fun (f : Samp → Int) (k : Int) => if k < 0 then 0 else ((l[k.toNat]?).map f).getD 0
  let sum := fun (f : CodeBit → Int) => es.foldl (fun (s : Rat) e => s + e.n * f e.bit) 0
  { tapsA := (List.range 16).map (fun i => sum (fun b => value Samp.a (b.at' + 5 - i)))
    tapsB := (List.range 16).map (fun i => sum (fun b => value Samp.b (b.at' + 5 - i)))
    target := [sum (fun b => bipolar b.b1), sum (fun b => bipolar b.b2), sum (fun b => bipolar b.b3)]
    noise := (List.range 16).map (fun k =>
      let own := es.filter (fun e => conditionOf e.bit.b e.bit.b1 e.bit.b2 e.bit.b3 == k)
      let mean := fun (f : NoiseAt → Rat) => own.foldl (fun (s : Rat) e => s + f e) 0 / (max 1 own.length : Nat)
      { count := own.length, r0 := mean (fun e => e.n * e.n), r1 := mean (fun e => e.n * e.n1), r2 := mean (fun e => e.n * e.n2) })
    mse := min 65535 (roundR (16 * es.foldl (fun (s : Rat) e => s + e.n * e.n) 0 / (max 1 es.length : Nat))).toNat }

end Sys2Proof.Machine
end

