-- ==== Sys2Proof/Machine/ChannelOps.lean ====
section
/-! DEFINITION. How sectors of the read channel end: results, verify reports, commits at sector boundaries, and what a re-initialise of the
channel or its front end does to them (R196, R205, R209, R213, R222-R227, R230, R240, R255). -/
namespace Sys2Proof.Machine

def ch (h : Hw) (c : Nat) : Channel := (car h c).chan

/-- The detector domain of carriage `c` works. -/
def chUp (h : Hw) (c : Nat) : Bool := populated h c && domainUp h (10 + 3 * c)

/-- Limits of CH_LDPC and CH_RETRY as latched (R244: 0 acts as 1, PIN 1-5). -/
def latchedLi (x : ChSector) : Nat := atLeast1 (latched CH_LDPC_LI x.ldpc)
def latchedGi (x : ChSector) : Nat := if latched CH_LDPC_GI x.ldpc = 1 then 2 else 1
def latchedVli (x : ChSector) : Nat := atLeast1 (latched CH_LDPC_VLI x.ldpc)
def latchedPin (x : ChSector) : Nat := max 1 (min 5 (latched CH_RETRY_PIN x.retry))
/-- Step `n`, 1-4, of R224 is enabled. -/
def latchedStep (x : ChSector) (n : Nat) : Bool := bitAt (latched CH_RETRY_STEPS x.retry) (n - 1)

/-- The samples of a sector's slot. -/
def slotSamples (h : Hw) (c : Nat) (x : ChSector) : List Samp := lget (ch h c).slots x.slot

/-! Coefficient sets (R229, R230). -/

/-- Key of the coefficient set of a head and zone group. -/
def setKey (hd z : Nat) : Nat := 8 * hd + z

/-- Active word `w` of set `k`; the words of a set without valid data are free (R241). -/
def activeWord (h : Hw) (c k w : Nat) : Nat :=
  if bitAt (ch h c).setsValid k then zget (ch h c).active (64 * k + w) else Config.freeNat ((ch h c).lostBase + 3072 * c + 64 * k + w) % 2 ^ 32

/-- The 64 active words of set `k`. -/
def setWords (h : Hw) (c k : Nat) : List Nat := (List.range 64).map (activeWord h c k)

/-- Load the staging copy of set `k` from the active copy (R230). -/
def loadStaging (h : Hw) (c k : Nat) : Hw :=
  let l := setWords h c k
  onChan h c (fun x => { x with staging := (l.zipIdx).foldl (fun m p => zset m (64 * k + p.2) p.1) x.staging, staged := zset x.staged k 0 })

/-- Copy the 64 words of set `k` between two maps. -/
def copySet (src dst : SMap Nat) (k : Nat) : SMap Nat :=
  (List.range 64).foldl (fun m i => zset m (64 * k + i) (zget src (64 * k + i))) dst

/-- Commit a staged set (R230): active takes staging, staging is loaded anew, CMT. The set holds valid data again after an error or a loss of
its domain (R241, R243). The old checkpoint of the set and its count of qualifying sectors stay in force, and word 53 of the new words does
not replace a checkpoint: the spec does not say what a commit does to them (DESIGN CHOICE, log entry 45). -/
def commitSet (h : Hw) (c k : Nat) : Hw :=
  setF (onChan h c (fun x => { x with
    active := copySet x.staging x.active k, staged := zset x.staged k 0, commitDue := zset x.commitDue k 0,
    setsValid := putBit x.setsValid k true, badSets := putBit x.badSets k false })) CH_IRQS_CMT (inst c) 1

/-- The waiting updates of set `k` fall due at the boundary of its commit and are discarded; their write-back stays (R230). -/
def dropUpdates (h : Hw) (c k : Nat) : Hw :=
  onChan h c (fun x => { x with due := x.due.map (fun d => if setKey d.head d.group = k then { d with dropped := true } else d) })

/-- Save the active coefficient sets of a carriage that hold valid data as the committed value of its heads' BLOBs (R237). -/
def saveSets (h : Hw) (c : Nat) : Hw :=
  onChan h c (fun x => { x with stored := (List.range 48).foldl (fun m k => if bitAt x.setsValid k then copySet x.active m k else m) x.stored })

/-- Firmware saves the sets of the carriages `cs` that are populated and in service (R237, log entry 92). -/
def saveSetsOf (h : Hw) (cs : List Nat) : Hw := cs.foldl (fun h c => if populated h c then saveSets h c else h) h

/-- Commits that wait for the sector boundary of a head (R230). -/
def boundaryCommits (h : Hw) (c hd : Nat) : Hw :=
  (List.range 8).foldl (fun h z =>
    if zget (ch h c).commitDue (setKey hd z) = 1 then dropUpdates (commitSet h c (setKey hd z)) c (setKey hd z) else h) h

/-! Results of reads (R213, R222, R224, R225). -/

/-- Report a read sector (R213, CH_DSTAT): counters and the result for the formatter. -/
def reportRead (h : Hw) (c : Nat) (r : ChResult) : Hw :=
  let x := r.sector
  let w := r.result * 2 ^ 30 + r.step * 2 ^ 27 + min 7 x.globals * 2 ^ 24 + min 255 x.iters * 2 ^ 16 + min 65535 x.unsat
  let h := setReg h (CH_DSTAT + inst c) w
  let h := addF (addF h CH_CNT_COUNT (inst c) 1) CH_CNT_COUNT (inst c + 20) x.iters
  let h := if r.result = 0 ∨ r.result = 2 then
    onChan h c (fun k => { k with iterWin := lset k.iterWin x.head ((x.iters :: lget k.iterWin x.head).take 1024) }) else h
  onChan h c (fun k => { k with results := k.results ++ [{ r with word := w }] })

/-- Show queue and pins. -/
def showQueue (h : Hw) (c : Nat) : Hw :=
  setF (setF h CH_STAT_QUEUE (inst c) (min 6 (ch h c).queue.length)) CH_STAT_PINNED (inst c) (ch h c).pinned.length

/-- A sector that failed on the fly (R224, R225): pinned for its buffer retry, or reported at once when no slot may be pinned. The unsatisfied
checks of a codeword that a seventh one ended before its first global iteration are free, and with them its rank among the candidates: the
spec gives no value (DESIGN CHOICE, log entry 44). -/
def failOnTheFly (h : Hw) (c : Nat) (x : ChSector) : Hw :=
  let n := if x.globals = 0 then Config.freeNat h.freeCtr % 4097 else x.unsat
  let h := if x.globals = 0 then drawn h else h
  let x := { x with unsat := n, tried := [n] }
  let h := setF (addF h CH_CNT_COUNT (inst c + 4) 1) CH_IRQS_OTF (inst c) 1
  if latchedPin x ≤ (ch h c).pinned.length then setF (reportRead h c ⟨x, 1, 0, 1, 0, 0⟩) CH_IRQS_PINF (inst c) 1
  else onChan h c (fun k => { k with pinned := k.pinned ++ [x] })

/-! Verify reports (R226, R227). -/

/-- Verify reports that the formatter has not taken: those of the channel, and those of write descriptors that wait in the report queue
(R227, R296, R311). -/
def untaken (h : Hw) (c : Nat) : Nat :=
  (ch h c).reports.length + ((car h c).fmt.reports.filter (fun r => decide (2 ≤ bits 31 29 r.r0) && bits 28 27 r.r0 != 3)).length

/-- File the verify report of a write sector: CH_VSTAT, the report, the adapter's part when the sector qualifies (R226, R232). -/
def fileVerify (h : Hw) (c : Nat) (x : ChSector) (overflow : Bool) : Hw :=
  let l := slotSamples h c x
  let v := verifySector x l (latchedVli x) overflow
  let raw := min 65535 v.raw
  let weak := min 1023 v.weak
  let w := v.conv.toNat * 2 ^ 31 + v.viter * 2 ^ 26 + weak * 2 ^ 16 + raw
  let h := setReg h (CH_VSTAT + inst c) w
  let h := onChan h c (fun k => { k with
    reports := k.reports ++ [⟨x.id, raw, weak, v.conv, v.viter, w⟩]
    rawWin := lset k.rawWin x.head ((raw :: lget k.rawWin x.head).take 1024)
    due := if v.raw ≤ 1024 ∧ !x.asperity then
        k.due ++ [{ head := x.head, group := x.group, write := true, adapt := x.adapt, hfeWritten := x.hfeWritten, frontEnd := x.frontEnd
                    sums := adaptSums x.words 3 l (segments x x.words 3 l (firstOffset x)) (writtenBits x.seed x.text) }]
      else k.due })
  setF h FM_SQSTAT_VRPT (inst c) (untaken h c)

/-- A seventh codeword: the oldest still decoding ends as an on-the-fly failure (R222). A write codeword whose report would be a fifth untaken
one has ended and waits for room (R227; DEDUCED, log entry 45). -/
def overflowQueue (h : Hw) (c : Nat) : Hw :=
  match (ch h c).queue.find? (fun x => !x.write || decide (untaken h c < 4)) with
  | some x =>
    let h := onChan h c (fun k => { k with queue := k.queue.filter (fun y => y.id != x.id) })
    if x.write then fileVerify h c x true else failOnTheFly h c x
  | none => h

/-! Descriptors of the sector timing unit (R308), and the signals of a run (R259). -/

/-- Kinds that write. -/
def writeKind (k : Nat) : Bool := k == 2 || k == 3 || k == 4
def descKind (d : Desc) : Nat := bits 31 28 d.w0
def descHead (d : Desc) : Nat := bits 26 24 d.w0
def descIndex (d : Desc) : Nat := bits 15 0 d.w0
def descTrack (d : Desc) : Nat := bits 23 0 d.w1
def descBuf (d : Desc) : Nat := bits 15 0 d.w2

/-- Send an edge of a preamplifier signal when its level changes (R259): signals 0 CAc_HTR_EN, 1 CAc_LSR_EN, 2 CAc_WG, 3 CAc_SG. -/
def sendGate (h : Hw) (c signal : Nat) (was level : Bool) (ps : Int) : Hw := if was = level then h else emit h (.gate c signal level ps)

/-- The signals of a run fall (R259): WG within the last pad, CAc_HTR_EN at its end, CAc_LSR_EN LPOST x 10 ns after the last fall of WG. -/
def endRun (h : Hw) (c : Nat) : Hw :=
  let p := path h c
  let h := sendGate (sendGate h c 2 p.wg false 0) c 0 p.htrEn false 0
  let h := sendGate h c 1 p.lsrEn false (getF h FM_GATE_LPOST (inst c) * 10000 : Nat)
  onPath h c (fun p => { p with wg := false, htrEn := false, lsrEn := false })

/-- The run goes on behind write sector `id` of head `hd` (R259): a Landing run is open, or the next descriptor writes the position that
follows. -/
def runGoesOn (h : Hw) (c id hd : Nat) : Bool :=
  flagF h FM_SQSTAT_RUNOPEN (inst c) ||
  match (fm h c).sq.head?, (path h c).works.find? (fun w => w.id == id) with
  | some d, some w => descKind d == 2 && descHead d == hd && descTrack d == w.track && descIndex d == w.index + 1
  | _, _ => false

/-! The end of a sector. -/

/-- The next thermal asperity of the sector in progress shows (R209). -/
def showAsperity (h : Hw) (c : Nat) : Hw :=
  match (ch h c).cur with
  | some x =>
    match x.spans with
    | p :: rest =>
      let h := onChan h c (fun k => { k with cur := some { x with asperity := true, spans := rest, found := x.found ++ [p] } })
      setF (addF h CH_CNT_COUNT (inst c + 12) 1) CH_IRQS_TA (inst c) 1
    | [] => h
  | none => h

/-- The slip of the sector in progress shows (R205). -/
def showSlip (h : Hw) (c : Nat) : Hw :=
  match (ch h c).cur with
  | some x =>
    if x.slipDue then
      let h := onChan h c (fun k => { k with cur := some { x with slipped := true, slipDue := false } })
      let h := setF (setF h CH_TSTAT_SLIP (inst c) 1) CH_IRQS_SLIP (inst c) 1
      let h := setF (setF h CH_STAT_LOCK (inst c) x.locked.toNat) CH_TSTAT_LOCK (inst c) x.locked.toNat
      addF h CH_CNT_COUNT (inst c + 16) 1
    else h
  | none => h

/-- Saturations and FOFS of a sector at its end (R196). -/
def sectorMeasures (h : Hw) (c : Nat) (x : ChSector) : Hw × ChSector :=
  let th := latched CH_FE_SATTH x.fe
  let high : Bool := decide (th < x.satA) || decide (th < x.satB)
  let h := onChan h c (fun k => { k with satA := (k.satA + x.satA) % 2 ^ 32, satB := (k.satB + x.satB) % 2 ^ 32 })
  let h := setS h CH_TSTAT_FOFS (inst c) x.fofs
  (if high then setF h CH_IRQS_SAT (inst c) 1 else h, { x with saturated := x.saturated || high })

/-- A mark miss of the channel's sector `id` (R255): MISS, its counter, the misses of the minute and of the sector. -/
def noteMiss (h : Hw) (c id : Nat) : Hw :=
  let h := addF (setF h FM_SIRQS_MISS (inst c) 1) FM_SCNT_COUNT (inst c + 12) 1
  onPath h c (fun p => { p with missMinute := p.missMinute + 1, works := p.works.map (fun w => if w.id = id ∧ !w.finished then { w with misses := w.misses + 1 } else w) })

/-- What shows of the sector in progress before it ends: every asperity, the slip. -/
def showRest (h : Hw) (c : Nat) : Hw :=
  match (ch h c).cur with
  | some x => showSlip (x.spans.foldl (fun h _ => showAsperity h c) h) c
  | none => h

/-- The sector in progress leaves the channel; the boundary of its head follows (R48, R230). -/
def leaveSector (h : Hw) (c hd : Nat) : Hw := showQueue (boundaryCommits (calBoundary h c) c hd) c

/-- The sector in progress ends (R213, R222, R230, R255): its codeword enters the queue, or a read ends as an acquisition failure or as a mark
miss. -/
def endSector (h : Hw) (c : Nat) : Hw :=
  let h := showRest h c
  match (ch h c).cur with
  | none => h
  | some x =>
    let h := setF (onChan h c (fun k => { k with cur := none })) CH_STAT_ACTIVE (inst c) 0
    let r := sectorMeasures h c x
    let h := r.1
    let x := r.2
    let h :=
      if !x.write && x.acqFail then reportRead h c ⟨x, 3, 0, 0, 0, 0⟩
      else if !x.write && x.cands.isEmpty then reportRead (noteMiss h c x.id) c ⟨x, 1, 0, 0, 0, 0⟩
      else
        let h := if 6 ≤ (ch h c).queue.length then overflowQueue h c else h
        onChan h c (fun k => { k with queue := k.queue ++ [x] })
    let h := if x.endBit = 0 then h else setF (setF h FM_BC_WEDGE (inst c) x.endWedge) FM_BC_BC (inst c) x.endBit
    let h := if x.write && !(runGoesOn h c x.id x.head) then endRun h c else h
    leaveSector h c x.head

/-- A sector ends Failed by a re-initialise (R240): a read's result, or for a write sector the report of a verify that did not
converge. -/
def failSector (h : Hw) (c : Nat) (x : ChSector) : Hw :=
  if x.write then onChan h c (fun k => { k with reports := k.reports ++ [⟨x.id, 65535, 1023, false, 0, 1023 * 2 ^ 16 + 65535⟩] })
  else reportRead h c ⟨x, 1, 0, 0, 0, 0⟩

/-- The channel's part of a U of 0xd100 (R240, R242): every sector under way ends Failed, a buffer retry among them, the queue is flushed, every
slot is unpinned, the sets are kept. -/
def flushChannel (h : Hw) (c : Nat) : Hw :=
  let k := ch h c
  let all := k.cur.toList ++ k.queue ++ k.pinned
  let h := k.cur.toList.foldl (fun h x => (sectorMeasures h c x).1) h
  let h := onChan h c (fun k => { k with cur := none, queue := [], pinned := [] })
  let h := all.foldl (fun h x => failSector h c x) h
  let h := setF h CH_STAT_ACTIVE (inst c) 0
  match k.cur with
  | some x => leaveSector h c x.head
  | none => showQueue h c

/-- The front end's part of a U of 0xd500 (R240): the sector in progress ends as an acquisition failure; a write sector has no verify
then. -/
def frontEndStop (h : Hw) (c : Nat) : Hw :=
  match (ch h c).cur with
  | some x =>
    let h := (sectorMeasures (setF (onChan h c (fun k => { k with cur := none })) CH_STAT_ACTIVE (inst c) 0) c x).1
    leaveSector (if x.write then failSector h c x else reportRead h c ⟨x, 3, 0, 0, 0, 0⟩) c x.head
  | none => h

end Sys2Proof.Machine
end

