-- ==== Sys2Proof/Machine/Geometry.lean ====
section
/-! DEFINITION. Where the sectors of a carriage lie: zone tables, the Landing ring and the positions of its records (R247, R267, R269). -/
namespace Sys2Proof.Machine

/-- One zone of a head (R247). -/
structure Zone where
  ftrk : Nat
  zbp : Nat
  group : Nat
  bpw : Nat
  spt : Nat
  sfl : Nat
  deriving DecidableEq, Repr

/-- Little-endian number of `n` bytes at `o` of the zone tables in force. -/
def zoneBytes (h : Hw) (c o n : Nat) : Nat := leVal (((path h c).zones.drop o).take n)

/-- Entry `i` of head `hd`'s zone table. -/
def zoneEntry (h : Hw) (c hd i : Nat) : Zone :=
  let o := 1024 * hd + 16 * i
  let w := zoneBytes h c (o + 4) 4
  { ftrk := zoneBytes h c o 4, zbp := bits 23 0 w, group := bits 26 24 w, bpw := zoneBytes h c (o + 8) 4,
    spt := zoneBytes h c (o + 12) 2, sfl := zoneBytes h c (o + 14) 2 }

/-- The zone of a track: the last entry that begins at or before it (R247). -/
def trackZone (h : Hw) (c hd track : Nat) : Option Zone :=
  if (path h c).zones.length < 6144 then none
  else (List.range 64).foldl (fun best i =>
    let z := zoneEntry h c hd i
    if z.ftrk ≤ track ∧ z.ftrk ≠ 0xFFFFFFFF then some z else best) none

/-- Sector positions of a head on a track. -/
def positionsOn (h : Hw) (c hd track : Nat) : Nat := match trackZone h c hd track with
  | some z => z.spt
  | none => 0

/-- Number of Landing positions, and the position after `p` in the ring (R267). -/
def ringSize : Nat := 524288
def ringNext (p : Nat) : Nat := (p + 1) % ringSize
/-- Positions from `a` up to `b` in ring order. -/
def ringGap (a b : Nat) : Nat := (b + ringSize - a % ringSize) % ringSize

/-- Head and index of the `p`-th position of a Landing track, heads from `hd` upward. -/
def onTrack (h : Hw) (c track : Nat) : Nat → Nat → Nat → Option (Nat × Nat)
  | 0, _, _ => none
  | n + 1, hd, p =>
    let k := positionsOn h c hd track
    if p < k then some (hd, p) else onTrack h c track n (hd + 1) (p - k)

/-- Track, head and index of a Landing position (R267). -/
def landPlaceFrom (h : Hw) (c : Nat) : Nat → Nat → Nat → Option (Nat × Nat × Nat)
  | 0, _, _ => none
  | n + 1, track, p =>
    let total := (List.range (headsPer h)).foldl (fun a hd => a + positionsOn h c hd track) 0
    if total = 0 then none
    else if p < total then (onTrack h c track (headsPer h) 0 p).map (fun q => (track, q.1, q.2))
    else landPlaceFrom h c n (track + 1) (p - total)
def landPlace (h : Hw) (c p : Nat) : Option (Nat × Nat × Nat) := landPlaceFrom h c (p + 1) 0 p

/-- The Landing position at a track, head and index. -/
def landPosition (h : Hw) (c hd track index : Nat) : Nat :=
  (List.range track).foldl (fun a t => a + (List.range (headsPer h)).foldl (fun b k => b + positionsOn h c k t) 0) 0 +
  (List.range hd).foldl (fun b k => b + positionsOn h c k track) 0 + index

/-- Landing position of data sector `j` of a record: the j-th set bit of POSMAP (R269). -/
def dataPosition (lpos posmap : Nat) (j : Nat) : Nat :=
  (lpos + (((List.range 128).filter (fun i => bitAt posmap i)).getD j 0)) % ringSize

/-! The journal's registers (R272, R282). -/

def lhead (h : Hw) (c : Nat) : Nat := getF h FM_LHEAD_VALUE (inst c)
def ltail (h : Hw) (c : Nat) : Nat := getF h FM_LTAIL_VALUE (inst c)
def lseq (h : Hw) (c : Nat) : Nat := getF h FM_LSEQL_VALUE (inst c) + 2 ^ 32 * getF h FM_LSEQH_VALUE (inst c)
def ldseq (h : Hw) (c : Nat) : Nat := getF h FM_LDSEQL_VALUE (inst c) + 2 ^ 32 * getF h FM_LDSEQH_VALUE (inst c)
def setLseq (h : Hw) (c n : Nat) : Hw := setF (setF h FM_LSEQL_VALUE (inst c) (n % 2 ^ 32)) FM_LSEQH_VALUE (inst c) (n / 2 ^ 32)
def setLdseq (h : Hw) (c n : Nat) : Hw := setF (setF h FM_LDSEQL_VALUE (inst c) (n % 2 ^ 32)) FM_LDSEQH_VALUE (inst c) (n / 2 ^ 32)

/-- The formatter writes a Landing checkpoint (R277); `orderly`: of an orderly spin-down. -/
def makeCheckpoint (h : Hw) (c : Nat) (orderly : Bool) : Hw :=
  onPath h c (fun p => { p with
    check := { lhead := lhead h c, ltail := ltail h c, seq := lseq h c, dseq := ldseq h c, pins := p.pins }, sinceCheck := 0, orderly := orderly })

/-! Adaptation tracks (R280). -/

/-- The zone whose first track is the adaptation track of group `g`: the middle one of the group's zones, the lower of two. -/
def adaptZone (h : Hw) (c hd g : Nat) : Option Zone :=
  if (path h c).zones.length < 6144 then none
  else
    let l := ((List.range 64).map (zoneEntry h c hd)).filter (fun z => z.ftrk != 0xFFFFFFFF && z.group == g)
    l[(l.length - 1) / 2]?

/-- The group whose adaptation track track `t` of head `hd` is. -/
def adaptGroup (h : Hw) (c hd t : Nat) : Option Nat :=
  (List.range 8).find? (fun g => match adaptZone h c hd g with | some z => z.ftrk == t | none => false)

/-! Home bands (R274, R438, R439). -/

/-- Blocks of an extent. -/
def extentBlocks : Nat := 262144

/-- Position number, from the first of a band, of sector `b`, given the position numbers slipped at format time, rising (R274). -/
def slipTo (slips : List Nat) (b : Nat) : Nat := slips.foldl (fun n s => if s ≤ n then n + 1 else n) b

/-- Track and index of position number `n` of a band that begins at `track`. -/
def bandPosition (h : Hw) (c hd : Nat) : Nat → Nat → Nat → Option (Nat × Nat)
  | 0, _, _ => none
  | fuel + 1, track, n =>
    let k := positionsOn h c hd track
    if k = 0 then none else if n < k then some (track, n) else bandPosition h c hd fuel (track + 1) (n - k)

/-- The slipped position numbers of a band: what the primary defect list says of it, whose layout the spec does not give. -/
def bandSlips (h : Hw) (c hd btrk : Nat) : List Nat := Config.bandSlips (lget h.dict.blobs (entryKey (carPath c 0x330) 0x101 0)) hd btrk

/-- Track and index of sector `b` of the band on head `hd` from track `btrk`; its 64 spares are the sectors from 262,144 on. -/
def bandSector (h : Hw) (c hd btrk b : Nat) : Option (Nat × Nat) :=
  let n := slipTo (bandSlips h c hd btrk) b
  bandPosition h c hd (n + 1) btrk n

/-- The sector of a band at a track and index. -/
def sectorOfBand (h : Hw) (c hd btrk track index : Nat) : Nat :=
  let n := (List.range (track - btrk)).foldl (fun a i => a + positionsOn h c hd (btrk + i)) 0 + index
  n - (bandSlips h c hd btrk).countP (fun s => decide (s < n))

end Sys2Proof.Machine
end

