-- ==== Sys2Proof/Machine/StopOps.lean ====
section
/-! DEFINITION. What a re-initialise or a fence of a unit ends at once: the routine and the requests of a formatter, the sectors of a channel,
the servo's motion, a DMA channel, a core (R15, R240, R259, R301, R320, R364, R502, R531). -/
namespace Sys2Proof.Machine

/-- The registers of one unit return by their Reset column (R15, R144). -/
def resetUnitRegs (h : Hw) (u : Nat) : Hw := resetRegs h .U (fun l => l == u)

/-! The formatter (R299-R301, R320). -/

/-- The middle domain of carriage `c`, with servo and formatter, works. -/
def midUp (h : Hw) (c : Nat) : Bool := populated h c && domainUp h (11 + 3 * c)

/-- Show the request queue (FM_RQSTAT). -/
def showReq (h : Hw) (c : Nat) : Hw :=
  let h := setF h FM_RQSTAT_DEPTH (inst c) (fm h c).queue.length
  match (fm h c).running with
  | some r => setF (setF h FM_RQSTAT_RUNNING (inst c) 1) FM_RQSTAT_TAG (inst c) r.tag
  | none => setF h FM_RQSTAT_RUNNING (inst c) 0

/-- A request completes (R301): to FM_RQDONE for firmware, to the command engine otherwise. -/
def completeReq (h : Hw) (c : Nat) (r : FmReq) (status prog : Nat) : Hw :=
  let h := addF h FM_MCNT_COUNT (inst c) 1
  if r.src then
    setF (setF (setF h FM_RQDONE_STATUS (inst c) status) FM_RQDONE_TAG (inst c) r.tag) FM_MIRQS_DONE (inst c) 1
  else emit h (.engine c r.tag status prog)

/-- The running request completes, once (R301). -/
def completeRunning (h : Hw) (c status : Nat) : Hw :=
  match (fm h c).running with
  | some r => if (fm h c).done then h else
      onFmt (completeReq h c r (status % 16) (getF h FM_PROG_VALUE (inst c))) c (fun f => { f with done := true })
  | none => h

/-- The routine or handler ends (R301). -/
def endRoutine (h : Hw) (c : Nat) : Hw :=
  let h := onFmt h c (fun f => { f with running := none, done := false, stack := [], waiting := false, held := false, spd := 0, atSafe := false, fromIdle := false })
  let h := setF (setF (setF h FM_MSTAT_IDLE (inst c) 1) FM_MSTAT_IACT (inst c) 0) FM_MSTAT_SDEPTH (inst c) 0
  showReq h c

/-- Show the queues of FM_SQSTAT. -/
def showStu (h : Hw) (c : Nat) : Hw :=
  let h := setF (setF h FM_SQSTAT_SQ (inst c) (fm h c).sq.length) FM_SQSTAT_RPTQ (inst c) (fm h c).reports.length
  setF h FM_SQSTAT_VRPT (inst c) (untaken h c)

/-- The sequencer and the sector timing unit stop (R320): shadows are discarded, the sector in progress completes, descriptors not started are
removed, every request ends with status 4, the control store is copied again, RUN is 0. -/
def stopFormatter (h : Hw) (c : Nat) : Hw :=
  let h := completeRunning h c 4
  let h := (fm h c).queue.foldl (fun h r => completeReq h c r 4 (getF h FM_PROG_VALUE (inst c))) h
  let h := onFmt h c (fun f => { f with queue := [], shadows := [], sq := [], copied := false })
  let h := setF (setF (endRoutine (showStu h c) c) FM_MCTL_RUN (inst c) 0) FM_BRG_FAR (inst c) 1
  let h := endSector h c
  let p := path h c
  showStu (if p.wg || p.htrEn || p.lsrEn then endRun h c else h) c

/-! The preamplifier's signals and levels, and the end of a write (R259-R262). -/

/-- Raise an interrupt level of the sequencer (R302). -/
def pendLevel (h : Hw) (c n : Nat) : Hw := setF h FM_INT_PEND (inst c) (putBit (getF h FM_INT_PEND (inst c)) n true)

/-- Change the work whose channel sector is `id`. -/
def onWork (h : Hw) (c id : Nat) (f : SecWork → SecWork) : Hw :=
  onPath h c (fun p => { p with works := p.works.map (fun w => if w.id = id ∧ !w.finished then f w else w) })

/-- A write sector in progress ends as not written (R260): WG falls, the laser falls to its bias level. -/
def dropWrite (h : Hw) (c : Nat) : Hw :=
  match (ch h c).cur with
  | some x =>
    if x.write then
      let h := (sectorMeasures (setF (onChan h c (fun k => { k with cur := none })) CH_STAT_ACTIVE (inst c) 0) c x).1
      let h := sendGate (sendGate h c 2 (path h c).wg false 0) c 1 (path h c).lsrEn false 0
      let h := onPath h c (fun p => { p with wg := false, lsrEn := false })
      let h := onFmt h c (fun f => { f with started := f.started.map (fun o => if o.id = x.id ∧ !o.refused then { o with lost := true } else o) })
      leaveSector (onWork (setF h FM_WSTAT_OUT (inst c) 3) c x.id (fun w => { w with failed := true })) c x.head
    else h
  | none => h

/-- Write-unsafe ends a write sector in progress: WINH (R260, R307). -/
def inhibitWrite (h : Hw) (c : Nat) : Hw :=
  match (ch h c).cur with
  | some x => if x.write then setF (dropWrite h c) FM_SIRQS_WINH (inst c) 1 else h
  | none => h

/-- The level of preamplifier register 0x10 + `r` that the head's PA fields ask for (R261). -/
def levelOf (h : Hw) (c hd r : Nat) : Nat :=
  let w := getReg h (PA_HLVL + paHead c hd)
  let b := getReg h (PA_HBIAS + paHead c hd)
  if r < 4 then w / 2 ^ (8 * r) % 256 else b / 2 ^ (8 * (r - 4)) % 256

/-- Register 0x10 + `r` of head `hd` as the preamplifier accepted it last; none before the first. -/
def acceptedOf (h : Hw) (c hd r : Nat) : Option Nat :=
  let v := zget (car h c).path.accepted (8 * hd + r)
  if v = 0 then none else some (v - 1)

/-- The levels that differ between the head's fields and the preamplifier (R262). -/
def levelsDue (h : Hw) (c hd : Nat) : List Nat :=
  (List.range 7).filter (fun r => acceptedOf h c hd r != some (levelOf h c hd r))

/-- Show whether the preamplifier holds the present levels (PA_HSTAT.SYNC). -/
def showSync (h : Hw) (c hd : Nat) : Hw :=
  if headExists h hd then setF h PA_HSTAT_SYNC (paHead c hd) (levelsDue h c hd).isEmpty.toNat else h

/-- WG may not be high now (R260): write-unsafe, the fault pin. -/
def writeBarred (h : Hw) (c : Nat) : Bool := flagF h SV_STAT_WUNSAFE (inst c) || flagF h PA_FLT_PIN (inst c)

/-- WG may not rise for a further sector (R260, R279): power loss bars it too. -/
def writeBlocked (h : Hw) (c : Nat) : Bool := writeBarred h c || (path h c).noWrite

/-- The bit of the wedge at which CAc_SG falls: SFL of the present track's zone less SGTAIL (R307). -/
def gateEnd (h : Hw) (c : Nat) : Option Nat :=
  (trackZone h c (getF h FM_SQSTAT_SELHEAD (inst c)) (getF h SV_POS_TRACK (inst c))).map (fun z => z.sfl - getF h FM_SGT_SGTAIL (inst c))

/-- The servo field has passed: CAc_SG falls. Within a write sector of a run WG rises again, unless R260 bars it, which ends the sector as not
written (R259, R260, R307); a power loss does not, since the sector in flight is completed (R279). -/
def gateFall (h : Hw) (c : Nat) : Hw :=
  let h := match (path h c).sg, gateEnd h c with
    | true, some n => setF h FM_BC_BC (inst c) n
    | _, _ => h
  let h := onPath (sendGate h c 3 (path h c).sg false 0) c (fun p => { p with sg := false })
  match (ch h c).cur with
  | some x =>
    if x.write && (path h c).htrEn then
      if writeBarred h c || !(levelsDue h c x.head).isEmpty then inhibitWrite h c
      else onPath (sendGate h c 2 (path h c).wg true 0) c (fun p => { p with wg := true })
    else h
  | none => h

/-! The servo (R333, R364). -/

def sv (h : Hw) (c : Nat) : Servo := (car h c).servo

/-- States of SV_STAT.STATE (R333). -/
def svOff : Nat := 0
def svSearch : Nat := 1
def svSeek : Nat := 2
def svSettle : Nat := 3
def svFollow : Nat := 4
def svCoast : Nat := 5
def svParked : Nat := 6
def svState (h : Hw) (c : Nat) : Nat := getF h SV_STAT_STATE (inst c)
def setSv (h : Hw) (c st : Nat) : Hw := setF h SV_STAT_STATE (inst c) st

/-- Selected head of carriage `c`; 7 none. -/
def selHead (h : Hw) (c : Nat) : Nat := getF h SV_STAT_HEAD (inst c)

/-- ULIM, Q15. -/
def ulim (v : Servo) : Int := (zget v.bank 3 % 65536 : Nat)

/-- SV_STAT.SAT and MASAT show whether uv stands at ULIM and ym at MALIM (R369); a state without commands has no uv (R333). -/
def showLimits (h : Hw) (c : Nat) : Hw :=
  let v := sv h c
  let driven := decide (svSeek ≤ svState h c ∧ svState h c ≤ svCoast)
  setF (setF h SV_STAT_SAT (inst c) (driven && decide (ulim v ≤ v.uv ∨ v.uv ≤ -(ulim v))).toNat) SV_STAT_MASAT (inst c)
    (driven && decide (getF h SV_MA_MALIM (inst c) ≤ v.ym.natAbs)).toNat

/-- Write-unsafe stands while the state is not Follow (R338). -/
def assertUnsafe (h : Hw) (c : Nat) : Hw :=
  onServo (setF h SV_STAT_WUNSAFE (inst c) 1) c (fun v => { v with ecOk := false, quiet := false })

/-- The engine is Parked: it sends no command and its microactuator states are 0 (R333, R336). -/
def restServo (h : Hw) (c : Nat) : Hw :=
  let h := assertUnsafe (setF (setSv h c svParked) SV_STAT_ONTRK (inst c) 0) c
  showLimits (onServo h c (fun v => { v with
    uv := 0, um := 0, ym := 0, bm := {}, held := none, planned := false, due := none, switching := none, frameQueued := false })) c

/-- The engine requests a retract and sends no further command (R340, R364). -/
def parkServo (h : Hw) (c : Nat) : Hw :=
  onServo (setF (restServo h c) SV_IRQS_RETR (inst c) 1) c (fun v => { v with retract := true })

/-- The engine is Off (R333): it commands nothing and follows no track. -/
def servoOff (h : Hw) (c : Nat) : Hw :=
  showLimits (onServo (assertUnsafe (setF (setSv h c svOff) SV_STAT_ONTRK (inst c) 0) c) c (fun v => { v with
    uv := 0, um := 0, ym := 0, bm := {}, held := none, planned := false, due := none, standing := false, switching := none,
    frameQueued := false, newHead := false, lockCount := 0, searched := 0, retract := false })) c

/-- The drive of carriage `c` holds heads off the ramp: loading, loaded, unloading or retracting (R364). -/
def headsOut (h : Hw) (c : Nat) : Bool := decide (1 ≤ getF h AC_STAT_STATE (inst c) ∧ getF h AC_STAT_STATE (inst c) ≤ 5)

/-- The present track is held with the steady law (R350, R364). -/
def holdHere (h : Hw) (c : Nat) : Hw :=
  let here := (roundR (((sv h c).xh : Rat) / 1024)).toNat
  let h := setF (setF (setF h SV_TGT_TRACK (inst c) here) SV_TGT_HEAD (inst c) (selHead h c)) SV_STAT_ONTRK (inst c) 0
  onServo (setSv h c svSettle) c (fun v => { v with
    planned := false, standing := true, held := none, due := none, settled := 0, afterHandover := 0, switching := none, frameQueued := false })

/-- A fence of the selected head's unit ends any seek at once (R364). -/
def headStop (h : Hw) (c hd : Nat) : Hw := if selHead h c = hd ∧ svState h c = svSeek then holdHere h c else h

/-! The Landing positions of a head (R281). -/

/-- Data positions of the records not destaged that stand on head `hd`. -/
def headPositions (h : Hw) (c hd : Nat) : List Nat :=
  ((path h c).records.filter (fun r => (lget h.buffer.landIndex c).contains r.seq)).flatMap (fun r =>
    ((List.range r.count).map (dataPosition r.lpos r.posmap)).filter (fun p => match landPlace h c p with
      | some (_, k, _) => k == hd
      | none => false))

/-- A head is fenced while it holds Landing records not destaged: its positions are pinned and counted. -/
def pinHead (h : Hw) (c hd : Nat) : Hw :=
  let new := (headPositions h c hd).filter (fun p => !((path h c).pins.contains p))
  setF (onPath h c (fun p => { p with pins := p.pins ++ new })) FM_DEFS2_LPINS (inst c) ((path h c).pins ++ new).length


def unit (h : Hw) (u : Nat) : UnitSt := mget (fun _ => {}) h.units u
def onUnit (h : Hw) (u : Nat) (f : UnitSt → UnitSt) : Hw := { h with units := mset (fun _ => {}) h.units u (f (unit h u)) }

/-- The cause of a class persists, or has ended (R141). -/
def setCause (h : Hw) (u k : Nat) (on : Bool) : Hw := onUnit h u (fun x => { x with cause := putBit x.cause k on })

/-! A DMA channel, a core. -/

/-- A U of DMA channel `n` (R502): it stops, writes no record, and is Idle with its registers reset; the command engine's channels keep the
rings that it set up. -/
def stopDma (h : Hw) (n : Nat) : Hw :=
  let d := 0x40 * n
  let keep := [DM_COACHL_ADDR, DM_COACHH_ADDR, DM_RQBL_BASE, DM_RQBH_BASE, DM_RQCFG_RQSZ].map (fun f => (f, getF h f d))
  let cur := getF h DM_CURL_ADDR d + 2 ^ 32 * getF h DM_CURH_ADDR d
  let moving : Bool := decide (n < 8) && getF h DM_STAT_STATE d == 1 && (dmaCh h n).slot.isSome
  let h := resetUnitRegs h (channelPath n)
  let h := if n < 8 then keep.foldl (fun h p => setF h p.1 d p.2) h else h
  onDma h n (fun c => { written := c.written, slot := c.slot, again := if moving then some cur else c.again })

/-- The command engine issues again the moves of its channels that a U of the engine ended (R502): the cart is read and starts anew. -/
def issueAgain (h : Hw) : Hw :=
  (List.range 8).foldl (fun h n => match (dmaCh h n).again with
    | some a => onDma (setF (setF h DM_STAT_STATE (0x40 * n) 1) DM_CTRL_START (0x40 * n) 1) n (fun c => { c with again := none, after := .start a })
    | none => h) h

/-- Show the cached keys, the running re-keys, and the re-key slot of carriage `c` (R563). -/
def showKeys (h : Hw) : Hw := setF h CY_STAT_KCACHE 0 h.cipher.keys.length
def showRekeys (h : Hw) : Hw :=
  setF h CY_STAT_RKACT 0 ((List.range 4).foldl (fun w c => putBit w c (oget h.cipher.running c).isSome) 0)
def showRekey (h : Hw) (c : Nat) : Hw :=
  match oget h.cipher.running c with
  | some r => setF (setF (setF h CY_RK_ACT (4 * c) 1) CY_RK_CHUNK (4 * c) r.durable) CY_RK_ENTRY (4 * c) r.entry
  | none => setF (setF (setF h CY_RK_ACT (4 * c) 0) CY_RK_CHUNK (4 * c) 0) CY_RK_ENTRY (4 * c) 0

/-- After a reset of the engine's registers its status shows what the engine holds (R563). -/
def showCipher (h : Hw) : Hw :=
  setF ([0, 1, 2, 3].foldl showRekey (showRekeys (showKeys h))) CY_STAT_HALLS 0 h.cipher.halls

/-- A U of the buffer manager empties its buckets, which ends the causes they held (R486, R502); memory and the page chain table are kept. -/
def emptyBuckets (h : Hw) : Hw := [0x1410, 0x7100, 0x7200].foldl (fun h u => setCause h u 0 false) (resetUnitRegs h 0x14F0)

/-- Start address of cores 1-3, and of a core after a U (R509). -/
def bootAddress (h : Hw) : Nat := getF h CC_BOOTL_ADDR 0 / 4 * 4 + 2 ^ 32 * getF h CC_BOOTH_ADDR 0

/-- A U of core `k` (R531): it is reset, its L1 caches are empty, and it starts at CC_BOOT. -/
def restartCore (h : Hw) (k : Nat) : Hw :=
  if k < 4 ∧ bitAt (getF h CC_CORE_REL 0) k then onCore h k (fun c => { running := true, start := bootAddress h, faults := c.faults }) else h

/-- What a U of a leaf ends and resets (R15, R144, R240, R320, R364, R502, R531). -/
def unitStop (h : Hw) (u : Nat) : Hw :=
  match carriageOf u with
  | some c =>
    if nib u 3 = 6 then resetUnitRegs h u
    else if u = carPath c 0x1F0 then resetUnitRegs (flushChannel h c) u
    else if u = carPath c 0x5F0 then resetUnitRegs (frontEndStop h c) u
    else if u = carPath c 0x310 ∨ u = carPath c 0x3F0 then resetUnitRegs (stopFormatter h c) u
    else if u = carPath c 0x2F0 then (if headsOut h c then parkServo (resetUnitRegs h u) c else resetUnitRegs (servoOff h c) u)
    else resetUnitRegs h u
  | none =>
    if u / 0x100 = 0x15 ∧ u ≠ 0x15F0 then stopDma h ((nib u 1 - 1) * 8 + (nib u 0 - 1))
    else if u = 0x15F0 then issueAgain (resetUnitRegs h u)
    else if u = 0x16F0 then showCipher (resetUnitRegs h u)
    else if u = 0x14F0 then emptyBuckets h
    else if u / 0x100 = 0x17 ∧ 1 ≤ nib u 1 ∧ nib u 1 ≤ 4 then restartCore (resetUnitRegs h u) (nib u 1 - 1)
    else if u = 0x61F0 then
      resetUnitRegs (onSpindle h (fun p =>
        { holdUps := p.holdUps, holdUp := p.holdUp, h := p.h, lossAge := p.lossAge, busy := p.busy, lat := p.lat, last := p.last, ta := p.ta,
          iU := p.iU, iV := p.iV })) u
    else resetUnitRegs h u

end Sys2Proof.Machine
end

