-- ==== Sys2Proof/Machine/Ops.lean ====
section
/-! DEFINITION. Named operations that many commands share: unit state, event records, alerts, fences, re-initialises and the reaction to a
fault (R139-R146, R177-R178, R588-R593, R611-R621, R636-R638). -/
namespace Sys2Proof.Machine

/-! Unit state (R139-R146). -/

/-- The fence sets that hold a leaf, the smallest first (R143). -/
def fenceSets (u : Nat) : List Nat :=
  match headOf u, carriageOf u with
  | some hd, some c => [chanHead c hd, carPath c 0]
  | _, some c => [carPath c 0]
  | _, none => [u]

/-- The value of a fence set (see `Hw.fences`). -/
def fenceVal (h : Hw) (k : Nat) : Nat := zget h.fences k
def setFence (h : Hw) (k v : Nat) : Hw := { h with fences := zset h.fences k v }

/-- What 003 of a leaf reads (R142, R143). -/
def fenceRead (h : Hw) (u : Nat) : Nat :=
  let vs := (fenceSets u).map (fenceVal h)
  if vs.any (fun v => v == 2 || v == 4) then 2 else if vs.any (fun v => v == 1 || v == 3) then 1 else 0

/-- A leaf is out of service by a fence. -/
def fenced (h : Hw) (u : Nat) : Bool := fenceRead h u != 0

/-- The leaf reads Starting because a set that holds it is being unfenced and none else fences it (R142). -/
def unfencing (h : Hw) (u : Nat) : Bool :=
  let vs := (fenceSets u).map (fenceVal h)
  vs.any (fun v => v == 3 || v == 4) && !vs.any (fun v => v == 1 || v == 2)

/-- Carriage `c` is fenced as a whole; head `hd` of it is out of service. -/
def carFenced (h : Hw) (c : Nat) : Bool := fenceVal h (carPath c 0) != 0
def headFenced (h : Hw) (c hd : Nat) : Bool := carFenced h c || fenceVal h (chanHead c hd) != 0

/-- The leaves of a fence set (R143). -/
def fenceMembers (h : Hw) (k : Nat) : List Nat :=
  leafPaths.filter (fun u => (fenceSets u).contains k && !(absent h u))

/-- The reactions of R591. -/
inductive Reaction where
  | record | s2 | fence | s3 | s4
  /-- The unit stays Faulted, not fenced (R592 for 0x6110 and class [11], R405). -/
  | faulted
  deriving DecidableEq, Repr

/-- Code of a reaction in a record (R614), its severity (R589) and its strength (R591). -/
def Reaction.code : Reaction → Nat
  | .record => 0 | .s2 => 1 | .fence => 2 | .s3 => 3 | .s4 => 4 | .faulted => 0
def Reaction.severity : Reaction → Nat
  | .record => 3 | .s2 => 4 | .fence => 5 | .s3 => 6 | .s4 => 7 | .faulted => 3
def Reaction.strength : Reaction → Nat
  | .record => 0 | .faulted => 1 | .s2 => 2 | .fence => 3 | .s3 => 4 | .s4 => 5

/-- The reaction table R592: fault class `k` in leaf `u`. Class [3] of the thermal leaves is taken by the commands of R603
and R606. -/
def reaction (u k : Nat) : Reaction :=
  let die := nib u 3
  let isCar : Bool := decide (2 ≤ die ∧ die ≤ 5)
  let b := u % 0x1000
  match k with
  | 0 => .record
  | 1 =>
    if u = 0x1410 then .s3
    else if die = 7 ∨ u = 0x1750 then .record
    else if isCar ∧ (headOf u).isSome ∧ nib u 2 ≠ 4 then .record
    else .s2
  | 2 => .fence
  | 3 => .record
  | 4 => .record
  | 5 => .s3
  | 6 => if (u / 0x100 = 0x15 ∧ u ≠ 0x15F0) ∨ u = 0x1420 then .record else .s2
  | 7 => .s2
  | 8 =>
    if isCar ∧ (headOf u).isSome ∧ nib u 2 = 2 then .fence
    else if die = 6 ∧ nib u 2 = 2 then .fence
    else if u = 0x61F0 ∨ u = 0x6120 then .s4
    else if isCar ∧ b = 0x330 then .record
    else .s2
  | 9 => .s2
  | 10 => .record
  | 11 => if u = 0x1A10 then .record else if u = 0x6110 then .faulted else .fence
  | 12 => if isCar ∧ b = 0x310 then .s2 else .record
  | 13 => .s2
  | _ => .record

/-- The fence of a leaf has the consequence Stair 3 (R31). -/
def fenceIsStair3 (h : Hw) (u : Nat) : Bool :=
  match carriageOf u with
  | some _ => false
  | none =>
    let p := u / 0x100
    if p = 0x11 then !(dualPort h && !(fenced h 0x1210) && !(fenced h 0x1220))
    else if p = 0x12 then fenced h 0x1110 || fenced h 0x1120
    else if p = 0x15 then u == 0x15F0
    else !(p == 0x18 || p == 0x19)

/-- Status 001 of a leaf (R140): the first code that applies. -/
def statusOf (h : Hw) (u : Nat) : Nat :=
  let x := unit h u
  if absent h u then 0
  else if fenced h u && !(unfencing h u) then 5
  else if x.faulted || (headsPer h == 0 && decide (2 ≤ nib u 3 ∧ nib u 3 ≤ 5)) then 6
  else if x.busy || unfencing h u || (domainOn h (domainOf u) && !(domainUp h (domainOf u))) then 1
  else if powerOf h u < 2 then 3
  else if x.degraded || (List.range 15).any (fun k => bitAt x.summary k && reaction u k == .record) then 4
  else 2

/-! Time and event records (R611-R619). -/

/-- The present TIME value (R137, R611). -/
def timeNow (h : Hw) : Nat := h.log.cycles * 2 ^ 44 + h.log.optime

/-- Media ready has not been reached in this start (R617). -/
def inBringUp (h : Hw) : Bool := h.boot.mediaMs == 0

/-- A record of the same unit, code, detail and severity whose last occurrence lies at most 1,000 ms back (R618). -/
def mergeable (now : Nat) (e r : EvRec) : Bool :=
  e.code != 3 && r.path == e.path && r.code == e.code && r.detail == e.detail && r.severity == e.severity &&
  decide (now ≤ r.ms + r.lastd + 1000) && decide (r.repeats < 0xFFFF)

/-- Merge an occurrence at `now` into a record (R618). -/
def mergeInto (now : Nat) (r : EvRec) : EvRec := { r with repeats := r.repeats + 1, lastd := min (now - r.ms) 0xFFFFFFFF }

/-- Replace the last element that satisfies `p`. -/
def updateLast {α : Type} (p : α → Bool) (f : α → α) : List α → List α
  | [] => []
  | a :: l => if p a && !(l.any p) then f a :: l else a :: updateLast p f l

/-- The newest stored record of a unit, with its slot (R618). -/
def newestOf (l : Recorder) (u : Nat) : Option (Nat × EvRec) :=
  l.slots.foldl (fun best p => match p.2 with
    | some r => if r.path = u then
        (match best with
         | some (k, b) => if b.rseq ≤ r.rseq then some (p.1, r) else some (k, b)
         | none => some (p.1, r))
      else best
    | none => best) none

/-- A record arrives at the queue of 64, or is dropped and counted (R619). -/
def queueEvent (h : Hw) (e : EvRec) : Hw :=
  if h.log.queue.length < 64 then onLog h (fun l => { l with queue := l.queue ++ [e] })
  else setF (onLog h (fun l => { l with dropped := (l.dropped + 1) % 2 ^ 32, dropsSince := l.dropsSince + 1 })) EV_IRQS_DROP 0 1

/-- While 0x1800 is fenced a record goes to the sessions that subscribe to 1800:016.0 (R624). -/
def notifyRecord (h : Hw) (e : EvRec) : Hw :=
  h.dict.subs.foldl (fun h s => if s.path = 0x1800 ∧ s.pe / 16 = 0x016 then emit h (.recordNote s.session e) else h) h

/-- The recorder is fenced: it stores no record (R624). -/
def recorderFenced (h : Hw) : Bool := fenced h 0x18F0 || fenced h 0x1810

/-- Merge an occurrence at `now` into the stored record `r` of slot `k` (R618). -/
def mergeStored (h : Hw) (now k : Nat) (r : EvRec) : Hw :=
  onLog h (fun l => { l with slots := oset l.slots k (some (mergeInto now r)), newest := if r.rseq = l.rseq then mergeInto now r else l.newest })

/-- Raise an event record (R617-R619, R624): dropped by the unit's filter, merged, queued, or dropped at a full queue. -/
def raiseRecord (h : Hw) (u code severity detail : Nat) (forced : Bool) : Hw :=
  let now := h.log.optime
  let e : EvRec := { cycle := h.log.cycles, ms := now, path := u, code := code, severity := severity, forced := forced,
                     bringUp := inBringUp h, detail := detail, lastd := if code = 3 then h.log.calendar / 2 ^ 32 % 2 ^ 32 else 0 }
  if !(inBringUp h) && decide (severity < (unit h u).filter) then onLog h (fun l => { l with filtered := l.filtered + 1 })
  else if recorderFenced h then notifyRecord h e
  else
    match (h.log.queue.filter (fun r => r.path == u)).getLast? with
    | some r =>
      if mergeable now e r then onLog h (fun l => { l with queue := updateLast (fun r => r.path == u) (mergeInto now) l.queue }) else queueEvent h e
    | none =>
      match newestOf h.log u with
      | some (k, r) => if mergeable now e r then mergeStored h now k r else queueEvent h e
      | none => queueEvent h e

/-- A record of rule `n` that names no code (R614): code 0x8000 + n. -/
def ruleRecord (h : Hw) (u n severity detail : Nat) : Hw := raiseRecord h u (0x8000 + n) severity detail false

/-! Quablink frames and alerts (R168-R178, R654). -/

/-- The management port can send (R654). A fence of any of its units, 0x1920 or the common part alone too, stops it as R31 fences the whole port
(DESIGN CHOICE, log entry 105). -/
def mgmtUp (h : Hw) : Bool := !(fenced h 0x1910) && !(fenced h 0x1920) && !(fenced h 0x19F0) && domainOn h 7

/-- Queue a frame for transmission; beyond 32 the oldest is dropped and counted (R168). A notification dropped so counts as one for R179,
though it still awaits its acknowledge and repeats (DESIGN CHOICE, log entry 90). -/
def txFrame (h : Hw) (f : Frame) : Hw :=
  if h.mgmt.tx.length < 32 then onMgmt h (fun m => { m with tx := m.tx ++ [f] })
  else onMgmt h (fun m => { m with
    tx := m.tx.drop 1 ++ [f], drops := (m.drops + 1) % 2 ^ 32, dropCause := m.dropCause || (m.tx.take 1).any (fun g => g.kind == 3) })

/-- The frame of an alert (R178). -/
def alertFrame (h : Hw) (a : Alert) : Frame :=
  { kind := 6, seq := a.seq, dst := liveVal h 0x1900 0x014 0, stat := 0, count := 1,
    body := leBytes 1 a.code ++ leBytes 3 0 ++ leBytes 4 a.detail ++ leBytes 8 (a.cycle * 2 ^ 44 + a.ms) }

/-- Raise an alert: it is pending, and sent at once unless the port cannot send (R177, R178, R654). -/
def raiseAlert (h : Hw) (code detail : Nat) : Hw :=
  let a : Alert := { seq := h.mgmt.alertSeq, code := code, detail := detail, cycle := h.log.cycles, ms := h.log.optime,
                     sends := if mgmtUp h then 1 else 0 }
  let h := onMgmt h (fun m => { m with alerts := m.alerts ++ [a], alertSeq := (m.alertSeq + 1) % 0x10000 })
  if mgmtUp h then txFrame h (alertFrame h a) else h

/-- Request Stair 4 for the cause with record code `code` (R119): once per start, and not with a DETAIL that the previous
power cycle already asked with. -/
def askStair4 (h : Hw) (code : Nat) : Hw :=
  if h.boot.stair4Asked || h.boot.stair4Prev.contains code then h
  else
    let h := onBoot h (fun b => { b with stair4Asked := true, stair4Now := b.stair4Now ++ [code] })
    let h := onIsland h (fun i => { i with counts := zadd i.counts 4 1 })
    raiseAlert h 1 code

/-- ALIVE stops 2 ms after the first stop cause, which TH_HBSTAT records (R595, R597). -/
def stopAlive (h : Hw) (cause : Nat) : Hw :=
  if h.island.stopDue = 0 ∧ h.island.alive ≠ .stopped then
    setF (onIsland h (fun i => { i with stopDue := cause, stopAt := h.log.optime })) TH_HBSTAT_CAUSE 0 cause
  else h

/-- The start halts (R118, R177): stage 0x0E, HALT, alert 0x03, ALIVE low. -/
def haltStart (h : Hw) : Hw :=
  let h := setF (setF h PW_BOOT_STAGE 0 0x0E) PW_BOOT_HALT 0 1
  raiseAlert (stopAlive h 4) 3 (getF h PW_BOOT_FAIL 0)

/-! Stair 3 and Stair 2. -/

/-- A percentage of full scale, Q15 (R403). -/
def percent (n : Nat) : Int := 32768 * n / 100

/-- Start the retract profile of carriage `c` (R403): a drive that is Parked or already retracts is left alone. -/
def startRetract (h : Hw) (c : Nat) : Hw :=
  let st := getF h AC_STAT_STATE (inst c)
  if st = 0 ∨ st = 5 then h
  else
    let h := onDrive h c (fun d => { d with profile := .retract, phase := 1, age := 0, vcm := -(percent (getF h AC_PROF_IRET (inst c))), ma := 0, maCode := 8192 })
    let h := setF (setF h AC_STAT_STATE (inst c) 5) AC_STAT_LEAVING (inst c) 0
    addF (setF h AC_IRQS_RETR (inst c) 1) AC_CNT_COUNT (inst c + 8) 1

/-- Retract every populated carriage. -/
def retractAll (h : Hw) : Hw := (List.range 4).foldl (fun h c => if populated h c then startRetract h c else h) h

/-- Device reset cause codes are those of PW_RSN.DCAUSE (R646). Take a Stair 3 (R636, R637 steps 1-3): fetching stops, the
cause is stored as a record, no completion is posted, no WG rises, drives retract. A second trigger before the release gives
one D. A D in a start whose failed-start count has reached 2 halts with code 0x10 (R120). -/
def takeReset (h : Hw) (cause u : Nat) : Hw :=
  if h.boot.dphase = .taken then h
  else if inBringUp h && getF h PW_RSN_KIND 0 == 2 && decide (2 ≤ h.boot.failedStarts) then
    let h := setF h PW_BOOT_FAIL 0 0x10
    let h := onBoot h (fun b => { b with failedStarts := b.failedStarts + 1 })
    let h := raiseRecord h 0x1AF0 0x0210 7 u false
    askStair4 (haltStart h) 0x0210
  else
    let h := if inBringUp h && getF h PW_RSN_KIND 0 == 2 then onBoot h (fun b => { b with failedStarts := b.failedStarts + 1 }) else h
    let h := onBoot h (fun b => { b with dphase := .taken })
    let h := setF (setF h PW_RSN_DCAUSE 0 cause) PW_RSN_UNIT 0 u
    let h := ruleRecord h 0x1AF0 637 3 cause
    let h := (List.range 4).foldl (fun h c => onPath h c (fun p => { p with noWrite := true })) h
    let h := setF h HQ_STAT_FETCH 0 0
    retractAll h

/-- SP_SLG is reset to "stored" (R406) and backs no dictionary entry: its stored value is the one of manufacture, which the spec does not
number (R15, R653). -/
def loadSpeedGains (h : Hw) : Hw :=
  setF (setF h SP_SLG_KPW 0 (Config.factoryNumber SP_SLG_KPW.key)) SP_SLG_KIW 0 (Config.factoryNumber (SP_SLG_KIW.key + 1))

/-- Block operations on a unit of which `us` holds a leaf end with status `st` (R189). -/
def cutBlocks (h : Hw) (us : List Nat) (st : Nat) : Hw :=
  onMgmt h (fun m => { m with blocks := m.blocks.map (fun b =>
    if b.begun ∧ b.cut = 0 ∧ (present h b.txn.unit).any (fun u => us.contains u) then { b with cut := st } else b) })

/-- Begin a Stair 2 of a leaf (R144): its registers return by their Reset column except those that back stored entries
(R15, R155), its fault bits whose cause has ended and its force bits clear (R141, R146), it reads Starting and 004 reads 1.
A U of the formatter group's common part loads the zone tables written before (R247); a U of key derivation empties the key
cache (R639), one of metering the entry window (R560). An actuator drive whose heads are loaded retracts first (R404). -/
def beginReinit (h : Hw) (u : Nat) : Hw :=
  let h := cutBlocks h [u] 8
  let wait : Bool := u / 0x10 == 0x621 && getF h AC_STAT_STATE (inst (nib u 0 - 1)) != 0
  let h := if wait then onDrive (startRetract h (nib u 0 - 1)) (nib u 0 - 1) (fun d => { d with reinitDue := true }) else unitStop h u
  let h := onUnit h u (fun x =>
    { x with busy := true, failed := false, force := 0, summary := x.summary &&& x.cause, faulted := false, degraded := false })
  let h := match carriageOf u with
    | some c => if u = carPath c 0x3F0 then onPath h c (fun p => { p with zones := lget h.dict.blobs (entryKey (carPath c 0x300) 0x100 0) }) else h
    | none => h
  if u = 0x61F0 then loadSpeedGains h
  else if u = 0x1630 then showKeys (onCipher h (fun k => { k with keys := [] }))
  else if u = 0x1640 then setF (onCipher h (fun k => { k with window := [] })) CY_MSTAT_VALID 0 0 else h

/-- Fence a set with value `v`, 1 by request, 2 by fault reaction; a set already fenced keeps its value (R143). -/
def fenceSet (h : Hw) (k v : Nat) : Hw := if fenceVal h k = 0 then setFence h k v else h

/-- The largest set that a fence of leaf `u` fences (R31): a head sub-block fences the head, any other leaf of a carriage or
an actuator drive the carriage, every other leaf itself. -/
def fenceKey (u : Nat) : Nat := (fenceSets u).headD u

/-- Carriage `c` takes part in the start: populated, in service, and not taken out by a write (R109, R122). -/
def inStart (h : Hw) (c : Nat) : Bool := populated h c && !(carFenced h c) && !(bitAt h.boot.removed c)

/-- Head load is over once every carriage that takes part in the start has its heads loaded, one at least (R109, R116). -/
def startProgress (h : Hw) : Hw :=
  if getF h PW_BOOT_STAGE 0 = 0x0A ∧ (List.range 4).any (inStart h) ∧ (List.range 4).all (fun c => !(inStart h c) || bitAt h.boot.loaded c) then
    setF h PW_BOOT_STAGE 0 0x0B
  else h

/-- Carriage `c` goes out of service (R31, R320, R364): its formatter stops, its requests end with status 4, its servo parks, its heads retract;
HQ_STAT shows it. -/
def carriageOut (h : Hw) (c : Nat) : Hw :=
  let h := setF h HQ_STAT_FENCED 0 (putBit (getF h HQ_STAT_FENCED 0) c true)
  let h := stopFormatter h c
  let h := if headsOut h c then parkServo h c else h
  startProgress (if getF h AC_STAT_STATE (inst c) = 0 then h else startRetract h c)

/-- Effects of a fence on the units it takes out of service (R31): the requests of the carriage end with status 4 (R320),
its servo parks, a seek of a fenced head that is selected ends (R364) and the Landing positions of a fenced head are pinned (R281), a DMA channel stops, and with both channels of a carriage fenced the carriage is (R502);
HQ_STAT shows the carriage. -/
def fenceEffects (h : Hw) (k : Nat) : Hw :=
  let h := cutBlocks h (fenceMembers h k) 8
  match carriageOf k with
  | some c =>
    if k = carPath c 0 then carriageOut h c
    else match headOf k with
      | some hd => pinHead (headStop h c hd) c hd
      | none => h
  | none =>
    if k / 0x100 = 0x15 ∧ k ≠ 0x15F0 then
      let n := (nib k 1 - 1) * 8 + (nib k 0 - 1)
      let d := n * 0x40
      let h := onDma (setF (setF h DM_STAT_STATE d 6) DM_CTRL_START d 0) n (fun ch => { ch with waiting := [], after := .nothing })
      let other := n / 2 * 2 + (1 - n % 2)
      let key := carPath (n / 2) 0
      if n < 8 ∧ getF h DM_STAT_STATE (other * 0x40) = 6 ∧ fenceVal h key = 0 then
        carriageOut (cutBlocks (setFence h key 2) (fenceMembers h key) 8) (n / 2)
      else h
    else h

/-- Carry out F (R31, R591). -/
def fenceByFault (h : Hw) (u : Nat) : Hw :=
  if fenceIsStair3 h u then takeReset h 3 u
  else
    let k := fenceKey u
    if fenceVal h k = 0 then fenceEffects (setFence h k 2) k else h

/-- Stair 2 by fault with the history of R593: an S2 beyond the limit becomes F. -/
def s2ByFault (h : Hw) (u : Nat) : Hw :=
  let limit := liveVal h 0x1A00 0x059 0
  let window := liveVal h 0x1A00 0x05A 0 * 3600000
  let recent := (unit h u).history.filter (fun t => decide (h.log.optime ≤ t + window))
  if limit < recent.length then fenceByFault h u
  else
    let h := onUnit h u (fun x => { x with history := (h.log.optime :: x.history).take (limit + 1) })
    let h := onIsland h (fun i => { i with counts := zadd i.counts 3 1 })
    beginReinit h u

/-- The reaction that is carried out: F whose consequence is Stair 3 becomes S3, an S2 beyond the limit becomes F (R593). -/
def effective (h : Hw) (u : Nat) (r : Reaction) : Reaction :=
  match r with
  | .s2 =>
    let limit := liveVal h 0x1A00 0x059 0
    let window := liveVal h 0x1A00 0x05A 0 * 3600000
    if limit < ((unit h u).history.filter (fun t => decide (h.log.optime ≤ t + window))).length then
      (if fenceIsStair3 h u then .s3 else .fence) else .s2
  | .fence => if fenceIsStair3 h u then .s3 else .fence
  | r => r

/-- Carry out a reaction (R591, R593). In a fenced unit only S3 and S4 act; during the unit's own re-initialise the reaction
waits for its end when it is stronger than Rec. -/
def react (h : Hw) (u k : Nat) (r : Reaction) : Hw :=
  if fenced h u && decide (r.strength < 4) then h
  else if (unit h u).busy && decide (0 < r.strength) then
    onUnit h u (fun x => { x with waiting := max x.waiting r.strength })
  else
    match r with
    | .record => h
    | .faulted => onUnit h u (fun x => { x with faulted := true })
    | .s2 => s2ByFault h u
    | .fence => fenceByFault h u
    | .s3 => stopAlive (takeReset h 2 u) 2
    | .s4 => askStair4 (stopAlive (onUnit h u (fun x => { x with faulted := true })) 2) (0x100 + k)

/-- A leaf detects a fault (R588): the class is latched, the record raised, the reaction carried out. The immediate action of
step 2 is the caller's. -/
def raiseFault (h : Hw) (u k : Nat) (forced : Bool) : Hw :=
  let h := onUnit h u (fun x => { x with summary := x.summary ||| 2 ^ k, force := if forced then x.force ||| 2 ^ k else x.force })
  let r := effective h u (reaction u k)
  let h := raiseRecord h u (0x100 + k) r.severity r.code forced
  react h u k r

end Sys2Proof.Machine
end

