-- ==== Sys2Proof/Machine/Keys.lean ====
section
/-! DEFINITION. Keys and what is computed under them: the derivation of keys, the tags of responses, the data units, the wrapping
of role keys (R148, R431, R535-R540, R571, R625). AES itself is the standard's (log entry 6). -/
namespace Sys2Proof.Machine

/-- The big-endian bytes of a number. -/
def beBytes (n v : Nat) : List (BitVec 8) := (leBytes n v).reverse

/-- Bytes under the key stream of AES-256-GCM, which enciphers and deciphers alike (R315-R317, R571). -/
def gcmCipher (key : Nat) (nonce text : List (BitVec 8)) : List (BitVec 8) :=
  text.mapIdx (fun i b => b ^^^ Config.gcmStream (BitVec.ofNat 256 key) nonce i)

/-- The tag of a ciphertext with its additional data, as a number. -/
def gcmTag (key : Nat) (nonce aad cipher : List (BitVec 8)) : Nat := (Config.gcmTag (BitVec.ofNat 256 key) nonce aad cipher).toNat

/-- The plaintext of a ciphertext whose tag verifies. -/
def gcmOpen (key : Nat) (nonce aad cipher : List (BitVec 8)) (tag : Nat) : Option (List (BitVec 8)) :=
  if gcmTag key nonce aad cipher = tag then some (gcmCipher key nonce cipher) else none

/-- AES-CMAC of a message under a 256-bit key, as a number. -/
def tagOf (key : Nat) (msg : List (BitVec 8)) : Nat := (Config.cmac (BitVec.ofNat 256 key) msg).toNat

/-- Block i of the counter-mode KDF (R537): AES-CMAC(root, [i] || Label || 0x00 || Context || [L]). -/
def kdfBlock (root : Nat) (label context : List (BitVec 8)) (bits i : Nat) : List (BitVec 8) :=
  leBytes 16 (tagOf root (beBytes 4 i ++ label ++ [0] ++ context ++ beBytes 4 bits))

/-- The key of `bits` bits that the KDF derives (R537): K(1) || K(2) || .... -/
def kdf (root : Nat) (label context : List (BitVec 8)) (bits : Nat) : Nat :=
  leVal ((List.range (bits / 128)).flatMap (fun i => kdfBlock root label context bits (i + 1)))

/-- "JVA4824-", with which every label begins (R537, R571). -/
def labelHead : List (BitVec 8) := [0x4A, 0x56, 0x41, 0x34, 0x38, 0x32, 0x34, 0x2D]

/-- The root used wherever the media root is named (R536): the test root of 32 bytes of 0 in open mode. -/
def mediaRootOf (isSealed : Bool) : Nat := if isSealed then Config.mediaRoot.toNat else 0

/-- The media key of a namespace (R537), label "JVA4824-XTS", 512 bits. -/
def mediaKey (isSealed : Bool) (nsid epoch kgen : Nat) : Nat :=
  kdf (mediaRootOf isSealed) (labelHead ++ [0x58, 0x54, 0x53]) (beBytes 4 nsid ++ beBytes 4 epoch ++ beBytes 4 kgen) 512

/-- The role-key wrapping key (R537), label "JVA4824-ROLEWRAP". -/
def wrappingKey (isSealed : Bool) : Nat :=
  kdf (mediaRootOf isSealed) (labelHead ++ [0x52, 0x4F, 0x4C, 0x45, 0x57, 0x52, 0x41, 0x50]) (beBytes 8 Config.deviceId) 256

/-- The Factory role key (R537), label "JVA4824-FACTORY". -/
def factoryKey : Nat :=
  kdf Config.factoryRoot.toNat (labelHead ++ [0x46, 0x41, 0x43, 0x54, 0x4F, 0x52, 0x59]) (beBytes 8 Config.deviceId) 256

/-- The patch key of a base microcode version (R316, R537), label "JVA4824-PATCH", from the product root. -/
def patchKey (baseVer : Nat) : Nat :=
  kdf Config.productRoot.toNat (labelHead ++ [0x50, 0x41, 0x54, 0x43, 0x48]) (beBytes 4 baseVer) 256

/-- K_pair (R571), label "JVA4824-TWIN", from the Custodian key, the DIDs and the nonces of the first and of the second twin. -/
def pairKey (custodian did1 did2 nonce1 nonce2 : Nat) : Nat :=
  kdf custodian (labelHead ++ [0x54, 0x57, 0x49, 0x4E]) (beBytes 8 did1 ++ beBytes 8 did2 ++ beBytes 16 nonce1 ++ beBytes 16 nonce2) 256

/-- The permutation of the blocks of a namespace at an LBA (R540): Key 1 is the low half of the media key, Key 2 the high half, the
data unit sequence number the LBA. -/
def dataUnit (isSealed : Bool) (nsid epoch kgen lba : Nat) : Equiv.Perm (BitVec 32768) :=
  let key := mediaKey isSealed nsid epoch kgen
  Config.xts (BitVec.ofNat 256 key) (BitVec.ofNat 256 (key / 2 ^ 256)) (BitVec.ofNat 128 lba)

/-- A block enciphered, and deciphered (R540). -/
def encipher (isSealed : Bool) (nsid epoch kgen lba text : Nat) : Nat :=
  (dataUnit isSealed nsid epoch kgen lba (BitVec.ofNat 32768 text)).toNat
def decipher (isSealed : Bool) (nsid epoch kgen lba cipher : Nat) : Nat :=
  ((dataUnit isSealed nsid epoch kgen lba).symm (BitVec.ofNat 32768 cipher)).toNat

/-- The check value of AES Key Wrap, eight bytes of 0xA6. -/
def wrapCheck : Nat := 0xA6A6A6A6A6A6A6A6

/-- A 256-bit key wrapped under another (R539): the 40 bytes as a little-endian number, the check value in the first eight. -/
def wrapKey (kek key : Nat) : Nat :=
  (Config.keyWrap (BitVec.ofNat 256 kek) (BitVec.ofNat 320 (wrapCheck + 2 ^ 64 * (key % 2 ^ 256)))).toNat

/-- Unwrap 40 bytes; none: the integrity check fails. -/
def unwrapKey (kek wrapped : Nat) : Option Nat :=
  let x := ((Config.keyWrap (BitVec.ofNat 256 kek)).symm (BitVec.ofNat 320 wrapped)).toNat
  if x % 2 ^ 64 = wrapCheck then some (x / 2 ^ 64) else none

/-- A role key wrapped under the role-key wrapping key of the mode in force, and unwrapped (R539). -/
def roleWrap (isSealed : Bool) (key : Nat) : Nat := wrapKey (wrappingKey isSealed) key
def roleUnwrap (isSealed : Bool) (wrapped : Nat) : Option Nat := unwrapKey (wrappingKey isSealed) wrapped

/-- What a response is computed over (R148, R625): the challenge, a byte or two, the session ID as U16. -/
def roleMessage (challenge : Nat) (middle : List Nat) (sess : Nat) : List (BitVec 8) :=
  leBytes 16 challenge ++ middle.map (fun b => BitVec.ofNat 8 b) ++ leBytes 2 sess

/-- The role key of a role: 1 Operator, 2 Custodian, 3 Factory; none when it was never installed or did not unwrap. -/
def roleKey (h : Hw) (role : Nat) : Option Nat :=
  match role with
  | 1 => if h.cipher.operator.inForce then some h.cipher.operator.key else none
  | 2 => if h.cipher.custodian.inForce then some h.cipher.custodian.key else none
  | 3 => some factoryKey
  | _ => none

/-- What the tag of Twin Pair is computed over (R431). -/
def pairMessage (nonce did pdid peerAddr : Nat) : List (BitVec 8) :=
  leBytes 16 nonce ++ leBytes 8 did ++ leBytes 8 pdid ++ leBytes 8 peerAddr

end Sys2Proof.Machine
end

