-- ==== Sys2Proof/Machine/Codes.lean ====
section
/-! DEFINITION. CRC-32C and the byte layout of extent entries and event records (R438, R613). -/
namespace Sys2Proof.Machine

/-- One step of the reflected CRC-32C register, polynomial 0x82F63B78. -/
def crcBit (c : Nat) : Nat := if c % 2 = 1 then (c / 2) ^^^ 0x82F63B78 else c / 2

/-- One byte through the register. -/
def crcByte (c b : Nat) : Nat := crcBit (crcBit (crcBit (crcBit (crcBit (crcBit (crcBit (crcBit (c ^^^ b))))))))

/-- CRC-32C of a byte sequence: start and final inversion all ones. -/
def crc32c (l : List (BitVec 8)) : Nat := (l.foldl (fun c b => crcByte c b.toNat) 0xFFFFFFFF) ^^^ 0xFFFFFFFF

/-- FLAGS of an extent entry (R438). -/
def Extent.flags (e : Extent) : Nat :=
  e.mirrored.toNat + 2 * e.readonly.toNat + 4 * e.divergent.toNat + 8 * e.fmt1.toNat + 16 * e.retired.toNat

/-- The 32 bytes of an extent entry (R438). -/
def Extent.bytes (e : Extent) : List (BitVec 8) :=
  let b := leBytes 2 e.nsid ++ leBytes 1 e.car ++ leBytes 1 e.head ++ leBytes 4 e.btrk ++ leBytes 4 e.eidx ++
    leBytes 4 e.kgen ++ leBytes 2 e.flags ++ leBytes 2 0 ++ leBytes 8 e.mseq
  b ++ leBytes 4 (crc32c b)

/-- The 32 bytes of an event record (R613). -/
def EvRec.bytes (r : EvRec) : List (BitVec 8) :=
  let flags := r.severity % 8 + 8 * r.forced.toNat + 16 * r.calendar.toNat + 32 * r.bringUp.toNat
  let b := leBytes 8 (r.cycle * 2 ^ 44 + r.ms) ++ leBytes 2 r.path ++ leBytes 2 r.code ++ leBytes 1 flags ++
    leBytes 1 r.stage ++ leBytes 2 r.repeats ++ leBytes 4 r.detail ++ leBytes 4 r.rseq ++ leBytes 4 r.lastd
  b ++ leBytes 4 (crc32c b)

/-- `n` zero bytes. -/
def zeros (n : Nat) : List (BitVec 8) := List.replicate n 0

/-- A list padded with zeros to `n` bytes. -/
def padTo (n : Nat) (l : List (BitVec 8)) : List (BitVec 8) := (l ++ zeros (n - l.length)).take n

/-- 32-bit words held in a sparse map, as bytes lowest first, and back. -/
def wordBytes (m : SMap Nat) (base n : Nat) : List (BitVec 8) := (List.range n).flatMap (fun i => leBytes 4 (zget m (base + i)))
def bytesWords : List (BitVec 8) → List Nat
  | a :: b :: c :: d :: l => leVal [a, b, c, d] :: bytesWords l
  | _ => []
def putWords (m : SMap Nat) (base : Nat) : List Nat → SMap Nat
  | [] => m
  | w :: l => putWords (zset m base w) (base + 1) l

end Sys2Proof.Machine
end

