-- ==== Sys2Proof/Machine/MemOps.lean ====
section
/-! DEFINITION. Buffer memory and core memory as one canonical list of cells (R474, R475, R510), and the operations on it. -/
namespace Sys2Proof.Machine

/-- What an unlisted byte reads as (DESIGN CHOICE, log entry 3). -/
def memDefault (_ : Nat) : BitVec 8 := 0

/-- The canonical form of a memory: addresses strictly rising, no entry equal to what an unlisted address reads as. -/
def Memory.wf (m : List Host.Cell) : Bool := mwf memDefault m

/-- Write one byte, and a run of bytes. -/
def memPut (m : List Host.Cell) (a : Nat) (b : BitVec 8) : List Host.Cell := mset memDefault m a b
def memPutAll (m : List Host.Cell) (a : Nat) : List (BitVec 8) → List Host.Cell
  | [] => m
  | b :: l => memPutAll (memPut m a b) (a + 1) l

/-- Zero the bytes from `a` up to and not including `z`. -/
def memZero (m : List Host.Cell) (a z : Nat) : List Host.Cell := m.filter (fun p => !(decide (a ≤ p.1) && decide (p.1 < z)))

/-- Copy `n` bytes from `src` to `dst`, as the source stands before. -/
def memCopy (m : List Host.Cell) (src dst n : Nat) : List Host.Cell :=
  let moved := m.filter (fun p => decide (src ≤ p.1) && decide (p.1 < src + n))
  moved.foldl (fun m p => memPut m (p.1 - src + dst) p.2) (memZero m dst (dst + n))

/-- Bases of the regions of R474 and R475. -/
def nearBase : Nat := 0x80000000
def farBase : Nat := 0x100000000
def poolBase : Nat := 0x120000000
def windowBase : Nat := 0x1DF800000
def farEnd : Nat := 0x1E0000000

/-- The region of R474 that holds a buffer address: 1 near, 2 far (the three far regions together, R474), 3 + c the window of
carriage c; none: unmapped. -/
def regionOf (a : Nat) : Option Nat :=
  if nearBase ≤ a ∧ a < nearBase + 0x800000 then some 1
  else if farBase ≤ a ∧ a < farEnd then some 2
  else if 0x200000000 ≤ a ∧ a < 0x204000000 ∧ (a - 0x200000000) % 0x1000000 < 0x80000 then some (3 + (a - 0x200000000) / 0x1000000)
  else none

/-- An extent entry (R438). -/
def extent (h : Hw) (e : Nat) : Extent := mget (fun _ => {}) h.engine.extents e

/-- The page chain table's word of page `p` (R477). -/
def pageWord (h : Hw) (p : Nat) : Nat :=
  match oget h.buffer.pages p with
  | some (slot, next) => 0x80000000 + slot % 4096 * 2 ^ 19 + next % 2 ^ 19
  | none => 0

/-- One byte as the buffer manager reads it. The extent map and the page chain table stand in the engine's and the buffer
manager's own state, and the near gallery shows them (R475). -/
def memByte (h : Hw) (a : Nat) : BitVec 8 :=
  if nearBase ≤ a ∧ a < nearBase + 0x200000 then
    let o := a - nearBase
    ((extent h (o / 32)).bytes).getD (o % 32) 0
  else if nearBase + 0x4A0000 ≤ a ∧ a < nearBase + 0x61F000 then
    let o := a - nearBase - 0x4A0000
    (leBytes 4 (pageWord h (o / 4))).getD (o % 4) 0
  else mget memDefault h.mem a

/-- `n` bytes from `a`, lowest address first. -/
def memBytes (h : Hw) (a : Nat) : Nat → List (BitVec 8)
  | 0 => []
  | n + 1 => memByte h a :: memBytes h (a + 1) n

/-- The little-endian number at `a`. -/
def memWord (h : Hw) (a n : Nat) : Nat := leVal (memBytes h a n)

/-- Bytes that no agent's write reaches: the extent map and the page chain table, which only their owners change (R442,
R475). -/
def ownedByte (a : Nat) : Bool :=
  (decide (nearBase ≤ a) && decide (a < nearBase + 0x200000)) ||
  (decide (nearBase + 0x4A0000 ≤ a) && decide (a < nearBase + 0x61F000))

/-- Write bytes to memory. -/
def memStore (h : Hw) (a : Nat) (l : List (BitVec 8)) : Hw :=
  if ownedByte a then h else { h with mem := memPutAll h.mem a l }

/-! Beats of the galleries (R482-R484). -/

/-- Number of the data burst of a far address: 8 g + k (R482). -/
def burstOf (a : Nat) : Nat := 8 * ((a - farBase) / 448) + (a - farBase) % 448 / 64

/-- Number of the near-gallery word at an address. -/
def nearWord (a : Nat) : Nat := (a - nearBase) / 8

/-- A full 64-byte write makes the beat good (R483, R484). -/
def beatWritten (h : Hw) (a : Nat) : Hw :=
  match regionOf a with
  | some 1 => onBuffer h (fun b => { b with badNear := (List.range 8).foldl (fun m i => zset m (nearWord (a / 64 * 64) + i) 0) b.badNear })
  | some 2 => onBuffer h (fun b => { b with poison := zset b.poison (burstOf a) 0 })
  | _ => h

/-- Write a full beat. -/
def putBeat (h : Hw) (a : Nat) (l : List (BitVec 8)) : Hw := beatWritten (memStore h a l) a

end Sys2Proof.Machine
end

