-- ==== Sys2Proof/Machine/DmaOps.lean ====
section
/-! DEFINITION. Operations of the buffer manager and the DMA engine that other units use: uncorrectable bursts and buckets, records, bus
errors, the stop of a channel (R482-R487, R496-R500). -/
namespace Sys2Proof.Machine

/-- Memory unit of an address: the near gallery, or the die of its group (R482). -/
def memUnit (a : Nat) : Nat := if a < farBase then 0x1410 else if (a - farBase) / 448 % 2 = 0 then 0x7100 else 0x7200

/-- A 64-byte beat reads uncorrectable (R483, R484). -/
def beatBad (h : Hw) (a : Nat) : Bool :=
  match regionOf a with
  | some 1 => (List.range 8).any (fun i => zget h.buffer.badNear (nearWord (a / 64 * 64) + i) != 0)
  | some 2 => zget h.buffer.poison (burstOf a) != 0
  | _ => false

/-- Depth and level of the bucket of a unit (R486). -/
def bucketDepth (h : Hw) : Nat := max 8 (getF h BM_BKCFG_DEPTH 0)
def bucketFld (u : Nat) : Fld := if u = 0x1410 then BM_BKT_NEAR else if u = 0x7100 then BM_BKT_DIE0 else BM_BKT_DIE1
def bucketUnits : List Nat := [0x1410, 0x7100, 0x7200]

/-- A correctable error in unit `u` (R483, R484, R486): it is counted and added to the bucket. -/
def correctable (h : Hw) (u : Nat) : Hw :=
  let h := addF h BM_CECNT_COUNT (if u = 0x1410 then 0 else if u = 0x7100 then 4 else 8) 1
  let level := getF h (bucketFld u) 0
  if bucketDepth h ≤ level then setF (setCause (raiseFault h u 0 false) u 0 true) BM_IRQS_CEOVF 0 1
  else setF h (bucketFld u) 0 (level + 1)

/-- A far burst is found uncorrectable (R483): the first time, its address shows, it is counted and class [1] is raised in its
die. -/
def poisonFound (h : Hw) (a : Nat) : Hw :=
  if zget h.buffer.poison (burstOf a) = 2 then h
  else
    let h := onBuffer h (fun b => { b with
      poison := zset b.poison (burstOf a) 2
      ue0 := if memUnit a = 0x7100 then (b.ue0 + 1) % 2 ^ 32 else b.ue0
      ue1 := if memUnit a = 0x7200 then (b.ue1 + 1) % 2 ^ 32 else b.ue1 })
    let h := setF (setF h BM_UEADDRL_ADDR 0 (a / 64 * 64)) BM_UEADDRH_ADDR 0 (a / 2 ^ 32)
    let h := satF (setF h BM_IRQS_UE 0 1) BM_UECNT_FAR 0 1
    raiseFault h (memUnit a) 1 false

/-- An uncorrectable error at an address (R483, R484); `group`: the spare word names another group, so that all seven bursts of the
group are uncorrectable. -/
def uncorrectable (h : Hw) (a : Nat) (group : Bool) : Hw :=
  match regionOf a with
  | some 1 =>
    let w := nearWord a
    if zget h.buffer.badNear w ≠ 0 then h
    else
      let h := onBuffer h (fun b => { b with badNear := zset b.badNear w 1 })
      let h := setF (setF h BM_UEADDRL_ADDR 0 (a / 64 * 64)) BM_UEADDRH_ADDR 0 (a / 2 ^ 32)
      let h := satF (setF h BM_IRQS_UE 0 1) BM_UECNT_NEAR 0 1
      raiseFault h 0x1410 1 false
  | some 2 =>
    if group then
      let g := (a - farBase) / 448
      (List.range 7).foldl (fun h k => poisonFound h (farBase + 448 * g + 64 * k)) h
    else poisonFound h a
  | _ => h

/-- Displacement of a channel's registers. -/
def dmd (n : Nat) : Nat := 0x40 * n
def dmState (h : Hw) (n : Nat) : Nat := getF h DM_STAT_STATE (dmd n)
def dmCur (h : Hw) (n : Nat) : Nat := getF h DM_CURL_ADDR (dmd n) + 2 ^ 32 * getF h DM_CURH_ADDR (dmd n)
def setCur (h : Hw) (n a : Nat) : Hw := setF (setF h DM_CURL_ADDR (dmd n) a) DM_CURH_ADDR (dmd n) (a / 2 ^ 32)
def halted (h : Hw) : Bool := flagF h DM_GSTAT_HALT 0

/-- Enter a channel state; START clears with Idle, Error, Halted and Fenced (R505). -/
def enterState (h : Hw) (n k : Nat) : Hw :=
  let h := setF h DM_STAT_STATE (dmd n) k
  if k = 0 ∨ k = 4 ∨ k = 5 ∨ k = 6 then setF h DM_CTRL_START (dmd n) 0 else h

/-- A write is refused (R488, R493). -/
def refuseDma (h : Hw) : Hw := setF h DM_GSTAT_SREF 0 1

/-- Carriage window `c` cannot be reached (R498 status 7). -/
def windowDown (h : Hw) (c : Nat) : Bool :=
  !(populated h c) || carFenced h c || (mget (fun _ => ({} : LinkSt)) h.links c).state != 1 || !(domainUp h (10 + 3 * c))

/-- What keeps an access at `a` from being made: status 2 or 3 as `bus` says for an unmapped or uncorrectable address, 7 for a
carriage that cannot be reached (R498). -/
def accessStatus (h : Hw) (a bus : Nat) (read : Bool) : Option Nat :=
  match regionOf a with
  | none => some bus
  | some r =>
    if 3 ≤ r then (if windowDown h (r - 3) then some 7 else none)
    else if read && beatBad h a then some bus else none

/-- Records in a queue, and the room in it (R499). -/
def queueSize (h : Hw) (n : Nat) : Nat := 2 ^ (min 12 (max 4 (getF h DM_RQCFG_RQSZ (dmd n))))
def queueFull (h : Hw) (n : Nat) : Bool :=
  (getF h DM_RQTAIL_TAIL (dmd n) + 1) % queueSize h n == getF h DM_RQHEAD_HEAD (dmd n) % queueSize h n

/-- The record of the channel's cart as it stands (R498); a bad cart has moved nothing, whatever its LEN (R490). -/
def recordOf (h : Hw) (n st : Nat) : DmaRec :=
  let rem := getF h DM_CNT_CNT (dmd n)
  match (dmaCh h n).cart with
  | some c =>
    if st = 4 then { tag := c.tag, cart := dmCur h n, done := 0, rem := c.len, status := st }
    else { tag := c.tag, cart := dmCur h n, done := c.len - rem, rem := rem, status := st }
  | none => { tag := 0, cart := dmCur h n, done := 0, rem := rem, status := st }

/-- Queue a record for writing and say what the channel does after it. -/
def queueRecord (h : Hw) (n : Nat) (r : DmaRec) (after : AfterRec) : Hw :=
  let h := onDma h n (fun c => { c with waiting := c.waiting ++ [r], after := after })
  if queueFull h n then setF h DM_STAT_RQF (dmd n) 1 else h

/-- Every other Running channel stops with a record of status 6 (R500 step 3). -/
def haltOthers (h : Hw) (n : Nat) : Hw :=
  (List.range 32).foldl (fun h k =>
    if k = n ∨ dmState h k ≠ 1 then h
    else match (dmaCh h k).after with
      | .state _ => h
      | _ => queueRecord h k (recordOf h k 6) (.state 5)) h

/-- A beat, cart or table of channel `n` ends with status 2 or 3 at address `a` (R500). -/
def busError (h : Hw) (n st a : Nat) : Hw :=
  let first := !(halted h)
  let h := queueRecord h n (recordOf h n st) (.state 4)
  let h := if first then
      setF (setF (setF (setF (setF h DM_GSTAT_HALT 0 1) DM_GSTAT_ECH 0 n) DM_GSTAT_ESTAT 0 st) DM_EADDRL_ADDR 0 a) DM_EADDRH_ADDR 0 (a / 2 ^ 32)
    else h
  let h := haltOthers h n
  let h := if regionOf a = none then raiseFault h (channelPath n) 6 false else uncorrectable h a false
  ruleRecord h (channelPath n) 500 3 0

/-- End a cart with a status of 2 or more. -/
def endBad (h : Hw) (n st a : Nat) : Hw :=
  if st = 2 ∨ st = 3 then busError h n st a else queueRecord h n (recordOf h n st) (.state 4)

/-- The read-back before a record of status 0 or 1 (R496): the state with DM_LAST, and the status and address of one that fails, 3 when it reads
uncorrectable, 7 when the carriage can no longer be reached. -/
def readBack (h : Hw) (n : Nat) : Hw × Option (Nat × Nat) :=
  match (dmaCh h n).lastBeat with
  | some a => (setF (setF h DM_LASTL_ADDR (dmd n) a) DM_LASTH_ADDR (dmd n) (a / 2 ^ 32), (accessStatus h a 3 true).map (fun st => (st, a)))
  | none => (h, none)

/-- START 0 (R493, R497). -/
def stopChannel (h : Hw) (n : Nat) : Hw :=
  let h := setF h DM_CTRL_START (dmd n) 0
  match dmState h n with
  | 0 => h
  | 1 =>
    (match (dmaCh h n).after with
     | .state _ => h
     | _ =>
       let (h, bad) := readBack h n
       match bad with
       | some (st, a) => endBad h n st a
       | none => queueRecord h n (recordOf h n 1) (.state 3))
  | _ => enterState h n 0

/-- The 32 bytes of a record (R498). -/
def recordBytes (r : DmaRec) (n : Nat) (phase : Bool) : List (BitVec 8) :=
  leBytes 8 r.tag ++ leBytes 8 r.cart ++ leBytes 4 r.done ++ leBytes 4 r.rem ++ leBytes 1 r.status ++ leBytes 1 n ++ leBytes 5 0 ++
  leBytes 1 phase.toNat

/-- The record's cart asks for the interrupt, or its status does (R498). -/
def recordIrq (h : Hw) (n : Nat) (r : DmaRec) : Bool :=
  decide (2 ≤ r.status) || (match (dmaCh h n).cart with | some c => bitAt c.ctl 1 | none => false)

/-- The oldest waiting record of channel `n` is written when its queue has room (R498, R499); the channel then enters the state it waited for. -/
def writeRecord (h : Hw) (n : Nat) : Hw :=
  match (dmaCh h n).waiting with
  | [] => h
  | r :: rest =>
    if queueFull h n then setF h DM_STAT_RQF (dmd n) 1
    else
      let size := queueSize h n
      let tail := getF h DM_RQTAIL_TAIL (dmd n) % size
      let base := getF h DM_RQBL_BASE (dmd n) / 64 * 64 + 2 ^ 32 * getF h DM_RQBH_BASE (dmd n)
      let h := if regionOf (base + 32 * tail) = none then h else memStore h (base + 32 * tail) (recordBytes r n (dmaCh h n).phase)
      let irq := recordIrq h n r
      let h := setF (setF h DM_RQTAIL_TAIL (dmd n) ((tail + 1) % size)) DM_STAT_LSTAT (dmd n) r.status
      let h := onDma h n (fun c => { c with waiting := rest, written := (c.written + 1) % 2 ^ 32, phase := if tail + 1 = size then !c.phase else c.phase })
      let h := if irq then setF h DM_IRQS_CH 0 (putBit (getF h DM_IRQS_CH 0) n true) else h
      let h := setF h DM_STAT_RQF (dmd n) (if rest ≠ [] ∧ queueFull h n then 1 else 0)
      if rest ≠ [] then h
      else match (dmaCh h n).after with
        | .park => onDma (enterState h n 2) n (fun c => { c with after := .nothing })
        | .state k => onDma (enterState h n k) n (fun c => { c with after := .nothing })
        | _ => h

/-- A channel stops as domain 4 goes off (R487): as by a clear of START, and its records are written as far as its queue has room; the rest wait
(log entry 113). -/
def shutChannel (h : Hw) (n : Nat) : Hw :=
  if dmState h n = 6 ∨ dmState h n = 2 then h
  else
    let h := stopChannel h n
    (dmaCh h n).waiting.foldl (fun h _ => writeRecord h n) h

/-- Step 1 of R487. -/
def shutDma (h : Hw) : Hw := (List.range 32).foldl shutChannel h

end Sys2Proof.Machine
end

