-- ==== Sys2Proof/Machine/Ledger.lean ====
section
/-! DEFINITION. The minute ledger: entries of a closed minute, banks, and the ledger at a start (R429, R554-R560, R184). -/
namespace Sys2Proof.Machine

/-- A counter of `w` bits less its earlier value, modulo its width (R554). -/
def counterDelta (w new old : Nat) : Nat := (new % 2 ^ w + (2 ^ w - old % 2 ^ w)) % 2 ^ w

/-- The entry of one namespace: its counters less those of the last boundary; a namespace created since then counts from 0 (R556). -/
def minuteOf (minute flags : Nat) (now last : Ledger) : Minute :=
  let old := if now.fresh then {} else last
  { minute := minute
    flags := flags
    ocmds := counterDelta 32 now.ocmds old.ocmds
    rbytes := counterDelta 64 now.rbytes old.rbytes
    wbytes := counterDelta 64 now.wbytes old.wbytes
    rcmds := counterDelta 32 now.rcmds old.rcmds
    wcmds := counterDelta 32 now.wcmds old.wcmds
    busy0 := counterDelta 32 now.busy0 old.busy0
    busy1 := counterDelta 32 now.busy1 old.busy1
    busy2 := counterDelta 32 now.busy2 old.busy2
    busy3 := counterDelta 32 now.busy3 old.busy3 }

/-- Entries of a minute: of every namespace that is live or was live at the last boundary. -/
def minuteEntries (minute flags : Nat) (now last : SMap Ledger) : SMap Minute :=
  (now.filter (fun p => p.2.st == 1 || (mget (fun _ => {}) last p.1).st == 1)).foldl (fun m p =>
    mset (fun _ => {}) m p.1 (minuteOf minute flags p.2 (mget (fun _ => {}) last p.1))) []

/-- The newest 1,440 of a list of closed minutes. -/
def lastMinutes (l : List Minute) : List Minute := l.drop (l.length - 1440)

/-- Entries join the history (R558). -/
def keepEntries (c : Cipher) (es : SMap Minute) : Cipher :=
  { c with history := es.foldl (fun m p => lset m p.1 (lastMinutes (lget m p.1 ++ [p.2]))) c.history }

/-- FLAGS of the minute in progress as its bank or entry shows them (R429): renumbered when its number is not above the one before. -/
def minuteFlags (h : Hw) : Nat :=
  let again : Bool := match h.cipher.lastClosed with | some m => decide (h.mgmt.minute ≤ m) | none => false
  h.mgmt.stepped.toNat + 2 * h.mgmt.sync + 8 * h.cipher.startMark.toNat + 16 * again.toNat

/-- Highest BSEQ of the banks. -/
def lastBseq (c : Cipher) : Nat := max c.bank0.bseq (max c.bank1.bseq c.bank2.bseq)

/-- The snapshot of the counters as a bank (R557). -/
def snapshot (h : Hw) (kind : Nat) : Bank :=
  { valid := true, kind := kind, mflags := minuteFlags h, bseq := lastBseq h.cipher + 1, minute := h.mgmt.minute, time := timeNow h,
    cidx := h.cipher.cidx + 1, recs := h.cipher.ledger }

/-- The valid bank with the highest BSEQ, if any. -/
def newestBank (l : List Bank) : Option Bank :=
  (l.filter (fun b => b.valid)).foldl (fun best b => match best with
    | some x => if x.bseq < b.bseq then some b else some x
    | none => some b) none

/-- Records of a bank as they are loaded: the mark of a creation within a minute stays behind. -/
def bankRecords (b : Option Bank) : SMap Ledger :=
  match b with
  | some b => b.recs.map (fun p => (p.1, { p.2 with fresh := false }))
  | none => []

/-- The ledger at a P or H start (R559, R184): the counters of the newest bank; a minute that a power-loss bank shows open is closed at
once, and one without such a bank is lost and counted. The flag says whether a minute was lost. -/
def loadLedger (c : Cipher) (everRan : Bool) : Cipher × Bool :=
  let newest := newestBank [c.bank0, c.bank1, c.bank2]
  let before := newestBank [c.bank0, c.bank1]
  let c := { c with ledger := bankRecords newest, base := bankRecords newest, cidx := (newest.map (fun b => b.cidx)).getD 0 }
  match newest with
  | some b =>
    if b.kind = 1 then
      let es := minuteEntries b.minute (b.mflags ||| 8) b.recs (bankRecords before)
      ({ keepEntries c es with lastClosed := some b.minute }, false)
    else ({ c with gaps := c.gaps + 1, lastClosed := some b.minute }, true)
  | none => ({ c with gaps := c.gaps + everRan.toNat }, everRan)

end Sys2Proof.Machine
end

