-- ==== Sys2Proof/Machine/ResetOps.lean ====
section
/-! DEFINITION. Power domains, and what P, H and D do to everything the block holds (R15, R91-R95, R152, R193, R566, R611,
R635-R639). -/
namespace Sys2Proof.Machine

/-- The pages whose bridge has its far side in domain `d` (R650), by offset. -/
def domainPages (d : Nat) : List Nat :=
  let all := [0x000000, 0x100000, 0x101000, 0x200000, 0x300000, 0x400000, 0x500000, 0x600000, 0x700000,
    0x800000, 0x801000, 0x802000, 0x803000, 0x900000, 0x901000, 0x902000, 0x903000, 0xA00000, 0xA01000, 0xA02000, 0xA03000,
    0xB00000, 0xB01000, 0xB02000, 0xB03000, 0xC00000, 0xD00000, 0xD01000, 0xD02000, 0xD03000, 0xE00000,
    0xF00000, 0xF01000, 0xF02000, 0xF03000, 0xF04000, 0xF05000]
  all.filter (fun p => pageDomain p == d)

/-- FAR of a page (R128): bit [30] of its BRG register. -/
def farFld (p : Nat) : Fld := ⟨p + 0xFFC, 30, 30⟩

/-- The write in flight on the bridge of page `p` is dropped and sets its source's LOSTS bit, as a write to a domain that is off does
(R37, R129; log entry 82). -/
def dropFlight (h : Hw) (p : Nat) : Hw :=
  match oget h.bridges p with
  | some w => loseWrite { h with bridges := oset h.bridges p none } p w.source (regOff w.address)
  | none => h

/-- The far side of every bridge of domain `d` cannot take accesses (R37, R38). -/
def domainFar (h : Hw) (d : Nat) : Hw := (domainPages d).foldl (fun h p => setF (dropFlight h p) (farFld p) 0 1) h

/-- Power a domain on: its bridges report FAR until their far side is ready (R38). -/
def domainOnOp (h : Hw) (d : Nat) : Hw :=
  if domainOn h d then h
  else domainFar (setF h PW_DOM_ON 0 (putBit (getF h PW_DOM_ON 0) (d - 1) true)) d

/-- The fields the shadow store saves: access RW, WM or W1S (R635). -/
def savedWord (r : RegDef) (w : Nat) : Nat :=
  r.fields.foldl (fun a f => match f.acc with
    | .rw => a + bits f.fld.hi f.fld.lo w * 2 ^ f.fld.lo
    | .wm => a + bits f.fld.hi f.fld.lo w * 2 ^ f.fld.lo
    | .w1s => a + bits f.fld.hi f.fld.lo w * 2 ^ f.fld.lo
    | _ => a) 0

/-- A register whose calibration the loss of its domain ends, which the shadow store does not restore (R365, R639): SV_HEOFS. -/
def calibrationReg (a : Nat) : Bool := (List.range 4).any (fun c => (List.range 6).any (fun hd => a == SV_HEOFS + svHead c hd))

/-- Save the settings of domain `d` to the shadow store (R635), but for what R639 excepts. -/
def saveDomain (h : Hw) (d : Nat) : Hw :=
  let keep := h.regs.filterMap (fun p =>
    if domainOf (regLeaf p.1) = d ∧ !(calibrationReg p.1) then
      match regAt p.1 with
      | some r => some (p.1, savedWord r p.2.toNat)
      | none => none
    else none)
  onIsland h (fun i => { i with shadow := keep ++ i.shadow.filter (fun p => !(keep.any (fun q => q.1 == p.1))) })

/-- Every register of domain `d` loses its contents: it returns to its power-on value. CY_STAT.SEAL shows the strap, which only P and H take
anew (R15, R536). -/
def loseDomain (h : Hw) (d : Nat) : Hw :=
  let was := getF h CY_STAT_SEAL 0
  let h := resetRegs h .P (fun l => domainOf l == d)
  if d = 5 then setF h CY_STAT_SEAL 0 was else h

/-- Write the saved settings of domain `d` back (R635): the saved fields only. -/
def restoreDomain (h : Hw) (d : Nat) : Hw :=
  let mine := h.island.shadow.filter (fun p => domainOf (regLeaf p.1) == d)
  let h := mine.foldl (fun h p => match regAt p.1 with
    | some r =>
      setReg h p.1 (r.fields.foldl (fun w f => match f.acc with
        | .rw => putBits f.fld.hi f.fld.lo (bits f.fld.hi f.fld.lo p.2) w
        | .wm => putBits f.fld.hi f.fld.lo (bits f.fld.hi f.fld.lo p.2) w
        | .w1s => putBits f.fld.hi f.fld.lo (bits f.fld.hi f.fld.lo p.2) w
        | _ => w) (getReg h p.1))
    | none => h) h
  onIsland h (fun i => { i with shadow := i.shadow.filter (fun p => !(domainOf (regLeaf p.1) == d)) })

/-- Switch a domain off (R37). -/
def domainOffOp (h : Hw) (d : Nat) : Hw :=
  if domainOn h d then
    let h := cutBlocks (saveDomain h d) (leafPaths.filter (fun u => domainOf u == d)) 6
    let h := loseDomain h d
    domainFar (setF h PW_DOM_ON 0 (putBit (getF h PW_DOM_ON 0) (d - 1) false)) d
  else h

/-- What a start leaves of a carriage: the medium and what is stored on it; everything else is lost (R639). -/
def Carriage.restart (k : Carriage) : Carriage :=
  { chan := { stored := k.chan.stored }
    path := { zones := k.path.zones, records := k.path.records, landData := k.path.landData, journal := k.path.journal, homeData := k.path.homeData
              fill := k.path.fill, homeMeta := k.path.homeMeta, tagged := k.path.tagged, orderly := k.path.orderly, poolFree := k.path.poolFree
              resFree := k.path.resFree, adaptBad := k.path.adaptBad
              check := k.path.check, grown := k.path.grown, bandUsed := k.path.bandUsed, formatted := k.path.formatted }
    fmt := {}
    servo := {}
    cal := {} }

/-- A namespace across a start: its reservation is kept with PTPL (R639). -/
def Nspace.restart (n : Nspace) : Nspace := if n.ptpl then n else { n with rtype := 0, holder := 0, regs := [] }

/-- The twin across a start: what the pair record and the record store hold (R583, R581). -/
def Twin.restart (t : Twin) : Twin :=
  { pdid := t.pdid, peerAddr := t.peerAddr, pnode := t.pnode, port := t.port, requester := t.requester, nonceOwn := t.nonceOwn,
    noncePeer := t.noncePeer, kpairWrapped := t.kpairWrapped, unsettled := t.unsettled, pointer := t.pointer, partnerLedger := t.partnerLedger,
    losses := t.losses, recState := t.recState, recSolow := t.recSolow, recMseq := t.recMseq }

/-- Number of the first minute of a start (R184): one above the highest MINUTE of a valid bank, 0 when there is none. -/
def startMinute (c : Cipher) : Nat :=
  let bs := [c.bank0, c.bank1, c.bank2].filter (fun b => b.valid)
  if bs.isEmpty then 0 else bs.foldl (fun n b => max n b.minute) 0 + 1

/-- Seal bit of CY_STAT and the role keys unwrapped under the mode in force (R536, R539). -/
def loadRoleKey (unwrap : Nat → Option Nat) (k : RoleKey) : RoleKey :=
  match k.copy with
  | some (w, _) => (match unwrap w with
    | some key => { k with inForce := true, key := key }
    | none => { k with inForce := false, key := 0 })
  | none => { k with inForce := false, key := 0 }

/-- Halls at a start (R545): the durable copies, with USED set to RESV; changes not written were never in force. -/
def Vault.restart (v : Vault) : Vault :=
  { halls := v.halls.map (fun p => (p.1, { p.2 with used := p.2.resv })), older := v.older, due := [] }

/-- Everything a P (0), H (1) or D (2) start resets (R152, R611, R636, R639). An H restores what a P restores (R92, R639, R655), also the
fields whose letters name P and not H (log entry 84). -/
def startReset (h : Hw) (kind : Nat) : Hw :=
  let cold : Bool := kind != 2
  let letter : ResetKind := if cold then .P else .D
  let cycles := if cold then min (h.log.cycles + 1) 0xFFFFF else h.log.cycles
  let (ledgers, lost) := if cold then loadLedger h.cipher (decide (0 < h.log.cycles)) else (h.cipher, false)
  let h := loadSpeedGains (resetRegs h letter (fun _ => true))
  let h : Hw := { h with
    bridges := []
    links := if cold then [] else h.links.map (fun p => (p.1, { p.2 with state := 0, failsOut := 0, failsIn := 0 }))
    units := h.units.filterMap (fun p => if p.2.history = [] then none else some (p.1, { history := p.2.history }))
    fences := []
    dict := { copies := h.dict.copies, commitNo := h.dict.commitNo, blobCopies := h.dict.blobCopies,
              live := if cold then [] else h.dict.live.filter (fun p => p.1 / 16 % 0x1000 == 0x024 && decide (0x2000 ≤ p.1 / 0x10000)) }
    mgmt := { plca := { localId := nodeId h % 32 + 1 }, alerts := if cold then [] else h.mgmt.alerts, alertSeq := if cold then 0 else h.mgmt.alertSeq }
    log := if cold then { h.log with cycles := cycles, optime := h.log.saved, calendar := 0, filtered := 0, queue := [], clearing := 0 }
           else { h.log with filtered := 0 }
    island := { misses := h.island.misses, counts := if cold then h.island.counts else zadd h.island.counts 1 1
                dies := h.island.dies.filterMap (fun p =>
                  let d : Thermal := { tripTimes := p.2.tripTimes, trips := p.2.trips, shutdowns := p.2.shutdowns,
                                       tripHeld := p.2.tripHeld && !cold }
                  if d = {} then none else some (p.1, d)) }
    carriages := ⟨h.carriages.a0.restart, h.carriages.a1.restart, h.carriages.a2.restart, h.carriages.a3.restart⟩
    spindle := { holdUps := h.spindle.holdUps }
    drives := .all {}
    portA := {}
    portB := {}
    engine := { mapCopies := h.engine.mapCopies, mapSeq := h.engine.mapSeq, oper := h.engine.oper.map (fun o => { o with resumed := true }),
                sanitize := h.engine.sanitize, unrestricted := h.engine.unrestricted,
                spaces := h.engine.spaces.map (fun p => (p.1, p.2.restart)) }
    buffer := {}
    dma := []
    cores := .all {}
    cluster := {}
    cipher := { ledgers with keys := [], retry := none, deriveRetry := none, moves := 0, window := [], startMark := true }
    twin := h.twin.restart
    secded := []
    mem := [] }
  let h := onBoot h (fun b =>
    { failedStarts := if cold then 0 else b.failedStarts
      stair4Now := if cold then [] else b.stair4Now
      stair4Prev := if cold then b.stair4Now else b.stair4Prev
      refTime := h.log.optime })
  let h := (List.range 6).foldl (fun h die => if getF h TH_TRIP_TRIPPED (inst die) = 1 then setF h TH_TEMP_ZONE (inst die) 4 else h) h
  let h := if getF h TH_TRIP_TRIPPED (inst 5) = 1 then onIsland h (fun i => { i with domHeld := 0x300000 }) else h
  let h := if getF h TH_TRIP_TRIPPED (inst 0) = 1 then onIsland h (fun i => { i with domHeld := i.domHeld ||| 0x3F }) else h
  let h := (List.range 4).foldl (fun h c => if getF h TH_TRIP_TRIPPED (inst (c + 1)) = 1 then
    setF (setFence h (carPath c 0) 2) HQ_STAT_FENCED 0 (putBit (getF h HQ_STAT_FENCED 0) c true) else h) h
  let h := setF h PW_RSN_KIND 0 kind
  let h := setF h EV_STAT_READY 0 1
  let h := if cold then setF (setF h PW_RSN_DCAUSE 0 0) PW_RSN_UNIT 0 0 else h
  let h := onMgmt h (fun m => { m with minute := startMinute h.cipher })
  let h := raiseRecord h 0x1AF0 4 2 kind false
  if lost then ruleRecord h 0x1640 559 3 0 else h

/-- Both role keys are unwrapped under the mode in force; one that fails raises a record (R539). K_pair is unwrapped as they are
(R572). -/
def unwrapKeys (h : Hw) : Hw :=
  let load := loadRoleKey (roleUnwrap (isSealed h))
  let h := onCipher h (fun c => { c with operator := load c.operator, custodian := load c.custodian })
  let h := onTwin h (fun t => { t with kpair := t.kpairWrapped.bind (roleUnwrap (isSealed h)) })
  [h.cipher.operator, h.cipher.custodian].foldl (fun h k => if k.copy.isSome && !k.inForce then ruleRecord h 0x1630 539 3 0 else h) h

/-- Step 3 of a start (R95, R566): stage 0x01; domains 3, 4, 6, 7, 1 and in dual-port configuration 2 are powered; a twin
holds its inbox; the mode, the mate level and the motor profile's values show. -/
def startStep3 (h : Hw) : Hw :=
  let h := [3, 4, 6, 7, 1].foldl domainOnOp h
  let h := if dualPort h then domainOnOp h 2 else h
  let h := onPins h (fun p => { p with phyRst := true })
  let h := setF h PW_BOOT_STAGE 0 1
  let h := setF h PW_BOOT_MATED 0 (if h.pins.prsntDebounced then 0 else 1)
  let h := setF h CY_STAT_SEAL 0 (isSealed h).toNat
  let h := unwrapKeys h
  let h := setF (setF h SP_LIM_IMAX 0 (motor h).imax) SP_RATE_BRATE 0 (motor h).brake
  if twinRole h = 0 then h
  else [4, 5, 6, 7].foldl (fun h n => setF (setF h MG_BWS_STATE (4 * n) 1) MG_BWS_OWNER (4 * n) 0x420) h

end Sys2Proof.Machine
end

