-- ==== Sys2Proof/Machine/Domains.lean ====
section
/-! DEFINITION. Switching a power domain on and off with everything that its units hold (R37, R38, R241, R277, R318, R357, R365, R487,
R518, R531, R635, R639). -/
namespace Sys2Proof.Machine

/-- The reset invalidate of R518: every way empty and unlocked, no reservation, victim cache and miss registers clear, every
CC_WALLOCk 0xFFFF, the L1 caches clear. -/
def l2Invalidate (h : Hw) : Hw :=
  let h := onCluster h (fun k => { k with lines := [], plru := [], victims := [], misses := [], missWait := [] })
  let h := setF h CC_WLOCK_LOCK 0 0
  let h := [0, 1, 2, 3].foldl (fun h k => setF h CC_WALLOC_MASK (4 * k) 0xFFFF) h
  [0, 1, 2, 3].foldl (fun h k => onCore h k (fun c => { c with l1d := [], l1i := [] })) h

/-- The live values of the servo's BLOB entries stay when its domain loses its memories (R357, R365, R639). -/
def keepServoLive (h : Hw) (c : Nat) : Hw :=
  let v := (car h c).servo
  let keep := fun (b : SMap (List (BitVec 8))) (u : Nat) (m : SMap Nat) (base n : Nat) =>
    if m.any (fun p => decide (base ≤ p.1) && decide (p.1 < base + n)) then lset b (entryKey u 0x100 0) (wordBytes m base n) else b
  onDict h (fun d => { d with
    blobs := [0, 1, 2, 3, 4, 5].foldl (fun b hd => keep b (servoHead c hd) v.tables (30720 * hd) 30720) (keep d.blobs (carPath c 0x200) v.grid 0 576) })

/-- Firmware saves the correction tables of the carriages `cs` to their stored entries, the live value and every copy (R357, log entry
92). -/
def saveTables (h : Hw) (c : Nat) : Hw :=
  let v := (car h c).servo
  (List.range 6).foldl (fun h hd =>
    if v.tables.any (fun p => decide (30720 * hd ≤ p.1) && decide (p.1 < 30720 * (hd + 1))) then
      let l := wordBytes v.tables (30720 * hd) 30720
      let k := entryKey (servoHead c hd) 0x100 0
      onDict h (fun d => { d with
        blobs := lset d.blobs k l
        blobCopies := (List.range 4).foldl (fun m i => if populated h i && !(carFenced h i) then mset (fun _ => []) m i (oset (mget (fun _ => []) m i) k (some l)) else m) d.blobCopies })
    else h) h

/-- Firmware saves the channel's sets and the servo's tables of the carriages `cs` (R237, R357, log entry 92). -/
def saveWork (h : Hw) (cs : List Nat) : Hw := cs.foldl (fun h c => if populated h c then saveTables h c else h) (saveSetsOf h cs)

/-- What an orderly spin-down saves on the carriages in service: channel sets, servo tables, the Landing checkpoint (R237, R277, R357). -/
def saveAll (h : Hw) : Hw :=
  let cs := (List.range 4).filter (fun c => populated h c && !(carFenced h c))
  cs.foldl (fun h c => if midUp h c then makeCheckpoint h c true else h) (saveWork h cs)

/-- What a domain holds beside its registers and loses with its power (R241, R318, R357, R365, R487, R639). The medium, the
galleries and what the record store holds stay, and the live values of BLOB entries; the channel's sets are no longer valid. -/
def loseInside (h : Hw) (d : Nat) : Hw :=
  if d = 4 then { onBuffer h (fun b => { b with selfRefresh := true }) with dma := h.dma.map (fun p => (p.1, { p.2 with cart := none, after := .nothing, lastBeat := none })) }
  else if d = 5 then onCipher h (fun k => { k with keys := [] })
  else if d = 6 then
    { onCluster h (fun k => { mtime := k.mtime, lines22 := k.lines22 }) with cores := .all {} }
  else if 9 ≤ d ∧ d ≤ 20 then
    let c := (d - 9) / 3
    if (d - 9) % 3 = 1 then
      onChan { h with freeCtr := h.freeCtr + 12288 } c (fun k =>
        { stored := k.stored, active := k.active, lostBase := h.freeCtr, loadedAt := k.loadedAt, iterWin := k.iterWin, rawWin := k.rawWin
          headReverts := k.headReverts, satA := k.satA, satB := k.satB })
    else if (d - 9) % 3 = 2 then
      onFmt (onServo (keepServoLive h c) c (fun _ => {})) c (fun _ => {})
    else h
  else if d = 21 then onSpindle h (fun p => { holdUps := p.holdUps, holdUp := p.holdUp })
  else if d = 22 then { h with drives := .all {} }
  else h

/-- The dirty lines of the second-level cache go to memory (R531). -/
def flushCache (h : Hw) : Hw :=
  (h.cluster.lines.filter (fun l => l.dirty && !l.reserved)).foldl (fun h l => putBeat h (64 * l.line) (leBytes 64 l.data)) h

/-- Switch a domain off (R37, R635): the cluster first flushes its cache (R531), the DMA engine stops its channels (R487). -/
def powerDown (h : Hw) (d : Nat) : Hw :=
  if domainOn h d then
    let h := if d = 6 then flushCache h else if d = 4 then shutDma h else h
    loseInside (domainOffOp h d) d
  else h

/-- Load the FM_L registers from the Landing checkpoint of an orderly spin-down (R277). -/
def loadCheckpoint (h : Hw) (c : Nat) : Hw :=
  if !((car h c).path.orderly) then h else
  let k := (car h c).path.check
  let i := inst c
  let h := setF (setF h FM_LHEAD_VALUE i k.lhead) FM_LTAIL_VALUE i k.ltail
  let h := setF (setF h FM_LSEQL_VALUE i (k.seq % 2 ^ 32)) FM_LSEQH_VALUE i (k.seq / 2 ^ 32)
  let h := setF (setF h FM_LDSEQL_VALUE i (k.dseq % 2 ^ 32)) FM_LDSEQH_VALUE i (k.dseq / 2 ^ 32)
  setF (onPath h c (fun p => { p with pins := k.pins })) FM_DEFS2_LPINS i k.pins.length

/-- A die that is powered takes the thresholds and the cross-check of TH0 (R609, log entry 103). -/
def takeThresholds (h : Hw) (die : Nat) : Hw :=
  setReg (setReg h (TH_THR + inst die) (getReg h TH_THR)) (TH_XCHK + inst die) (getReg h TH_XCHK)

/-- Switch a domain on (R38, R635): the shadow store writes the saved settings back; core 0 starts at CC_BOOT after the reset
invalidate, and so does every other core that the restored CC_CORE.REL releases (R509, R518, R531, log entry 55); the dies leave self-refresh (R487); a formatter loads the checkpoint of an orderly spin-down (R277). -/
def powerUp (h : Hw) (d : Nat) : Hw :=
  if domainOn h d then h
  else
    let h := domainOnOp h d
    let h := if d = 6 then l2Invalidate h else h
    let h := restoreDomain h d
    if d = 4 then onBuffer h (fun b => { b with selfRefresh := false })
    else if d = 5 then showCipher h
    else if d = 6 then
      let h := setF h CC_WLOCK_LOCK 0 0
      [0, 1, 2, 3].foldl (fun h k => if k = 0 ∨ bitAt (getF h CC_CORE_REL 0) k then
        onCore h k (fun c => { c with running := true, start := getReg h CC_BOOTL / 4 * 4 + getReg h CC_BOOTH * 2 ^ 32 }) else h) h
    else if 9 ≤ d ∧ d ≤ 20 ∧ (d - 9) % 3 = 2 then loadCheckpoint (takeThresholds h ((d - 9) / 3 + 1)) ((d - 9) / 3)
    else if d = 23 then takeThresholds h 5
    else h

/-- Switch a domain on, and with 21 or 22 also 23 and 24 (R40). -/
def powerUpMotor (h : Hw) (d : Nat) : Hw := powerUp (if d = 21 ∨ d = 22 then powerUp (powerUp h 23) 24 else h) d

end Sys2Proof.Machine
end

