-- ==== Sys2Proof/Machine/MotionOps.lean ====
section
/-! DEFINITION. Operations of the motor die that several sequences share: unload, spindle states, stop, power loss (R279, R380,
R393, R396, R397, R403). -/
namespace Sys2Proof.Machine

/-- Start the unload profile of carriage `c` (R403): Following or Holding unloads; a load in progress retracts. -/
def startUnload (h : Hw) (c : Nat) : Hw :=
  let st := getF h AC_STAT_STATE (inst c)
  if st = 2 ∨ st = 3 then
    setF (onDrive h c (fun d => { d with profile := .unload, phase := 1, age := 0, vcm := -(percent (getF h AC_PROF_IUNL (inst c))), ma := 0, maCode := 8192 }))
      AC_STAT_STATE (inst c) 4
  else if st = 1 then startRetract h c
  else h

/-- Spindle states by name (R380). -/
def spStopped : Nat := 0
def spMeasuring : Nat := 1
def spAligning : Nat := 2
def spOpenLoop : Nat := 3
def spAccelerating : Nat := 4
def spRunning : Nat := 5
def spDecelerating : Nat := 6
def spBraking : Nat := 7
def spCoasting : Nat := 8
def spHoldUp : Nat := 9
def spFaulted : Nat := 10

def spState (h : Hw) : Nat := getF h SP_STAT_STATE 0
def setSp (h : Hw) (st : Nat) : Hw := setF (onSpindle h (fun p => { p with inState := 0, checkDue := false })) SP_STAT_STATE 0 st

/-- A calibration run of EOFS ends with FAIL (R388). -/
def ecalFail (h : Hw) (c : Nat) : Hw :=
  if flagF h SP_ECAL_START (4 * c) then setF (setF (setF h SP_ECAL_START (4 * c) 0) SP_ECAL_FAIL (4 * c) 1) SP_IRQS_ECAL 0 1 else h
def ecalFailAll (h : Hw) : Hw := (List.range 4).foldl ecalFail h

/-- The current loops stop: the gates are low, CONF and FW read 0 (R376, R378), and calibration runs end (R388). -/
def loopsOff (h : Hw) : Hw :=
  let h := if h.spindle.loops then ecalFailAll h else h
  let h := onSpindle h (fun p => { p with
    gates := false, lowSide := false, loops := false, seeded := false, locked := false, good := 0, bad := 0, agree := 0,
    sd := 0, sq := 0, idRef := 0, iqRef := 0, vd := 0, vq := 0, w := 0, du := 0, dv := 0, dw := 0,
    va := 0, vb := 0, emfA := 0, emfB := 0, epsSum := 0, epsCount := 0, await := false })
  setF (setF h SP_STAT_CONF 0 0) SP_STAT_FW 0 0

/-- The gates go low and the spindle coasts with no braking. -/
def coast (h : Hw) : Hw :=
  let h := loopsOff h
  if spState h = spStopped ∨ spState h = spFaulted then h else setSp h spCoasting

/-- The spindle coasts out of any hold-up (R606). -/
def gatesLow (h : Hw) : Hw := setF (coast (onSpindle h (fun p => { p with holdUp := false }))) SP_PSTAT_HU 0 0

/-- The spindle becomes Faulted: all gates low. -/
def spFault (h : Hw) : Hw := setSp (loopsOff h) spFaulted

/-- Enter Braking (R380): all low-side gates on; `align` says what follows, `ms` how long it lasts, 0 until the currents are low (R390,
R393). -/
def brake (h : Hw) (align : Bool) (ms : Nat) : Hw :=
  setSp (onSpindle (loopsOff h) (fun p => { p with lowSide := true, brakeThenAlign := align, brakeFor := ms, quiet := 0 })) spBraking

/-- Enter Measuring, the first state of an attempt (R390). -/
def measure (h : Hw) : Hw := setF (setSp (loopsOff h) spMeasuring) SP_STAT_CSRC 0 0

/-- Every drive is Parked. -/
def drivesParked (h : Hw) : Bool := (List.range 4).all (fun c => getF h AC_STAT_STATE (inst c) == 0)

/-- Unload every populated carriage. -/
def unloadAll (h : Hw) : Hw := (List.range 4).foldl (fun h c => if populated h c then startUnload h c else h) h

/-- The motor die is powered and out of reset (R61). -/
def motorPowered (h : Hw) : Bool := domainUp h 24 && (h.pins.resetIn || h.boot.fallRetract)

/-- HU_CTL is high (R61, R397): pulled low while the motor die is unpowered or in reset. -/
def huCtl (h : Hw) : Bool := motorPowered h && flagF h SP_PSTAT_HU 0

/-- The voice-coil command on the VCMc pair, Q15 of full scale: zero differential while the motor die is unpowered or in reset, and for
an unpopulated carriage (R61, R75). -/
def vcmPin (h : Hw) (c : Nat) : Int := if motorPowered h && domainUp h 22 && populated h c then (h.drives.get c).vcm else 0

/-- All low-side gates of the spindle are held on (R380): low while the motor die is unpowered or in reset (R61). -/
def lowGates (h : Hw) : Bool := motorPowered h && domainUp h 21 && h.spindle.lowSide

/-- The code on MAc; none: high-impedance, while the motor die is unpowered or in reset (R61). The output of an unpopulated carriage is at
midscale (R75). -/
def maPin (h : Hw) (c : Nat) : Option Nat :=
  if motorPowered h && domainUp h 22 then some (if populated h c then (h.drives.get c).maCode else 8192) else none

/-- Domains 21 and 22 are held in reset once the gates are low and the retracts have run (R606). -/
def holdMotor (h : Hw) : Hw :=
  domainFar (domainFar (onIsland h (fun i => { i with domHeld := i.domHeld ||| 0x300000 })) 21) 22

/-- A controlled stop by the table of R393, once its refusal does not apply. -/
def spindleStop (h : Hw) : Hw :=
  let st := spState h
  if st = spMeasuring ∨ st = spAligning ∨ st = spOpenLoop then brake h false 100
  else if st = spAccelerating ∨ st = spRunning then setSp (onSpindle h (fun p => { p with stopping := true })) spDecelerating
  else if st = spDecelerating then onSpindle h (fun p => { p with stopping := true })
  else if st = spBraking then onSpindle h (fun p => { p with brakeThenAlign := false })
  else if st = spCoasting then measure (onSpindle h (fun p => { p with stopping := true, retry := false, recatch := false, resumeDecel := false }))
  else h

/-- A sector of carriage `c` is in flight: its formatter releases the heads when it has completed (R279, R397). -/
def sectorInFlight (h : Hw) (c : Nat) : Bool := (ch h c).cur.isSome

/-- Power loss is signalled (R279, R396, R397, R554, R622): SP_PSTAT, the carriages raise no further WG, the command engine
commits nothing, the recorder flushes; with a drive not Parked the motor die holds the bus up and each carriage retracts when its
formatter releases the heads, else a turning spindle coasts. -/
def powerLossSignal (h : Hw) (cause : Nat) : Hw :=
  let h := setF (setF (setF h SP_PSTAT_PLOSS 0 1) SP_PSTAT_CAUSE 0 cause) SP_IRQS_PLOSS 0 1
  let h := setF (addF h SP_CNT_COUNT 20 1) CY_MSTAT_PLW 0 0
  let h := (List.range 4).foldl (fun h c => if populated h c then
    onFmt (onPath h c (fun p => { p with noWrite := true })) c (fun f => { f with ploss := true }) else h) h
  let h := onLog (setF h EV_STAT_FLUSH 0 1) (fun l => { l with saved := l.optime })
  let h := onEngine h (fun e => { e with lossHold := true })
  let h := onSpindle h (fun p => { p with recatch := false, retry := false, resumeDecel := false })
  if drivesParked h then coast h
  else
    let h := setF (setF h SP_PSTAT_HU 0 1) SP_PSTAT_MINV 0 (getF h SP_VBUS_V12 0)
    let h := onSpindle h (fun p => { p with holdUp := true, holdUps := (p.holdUps + 1) % 2 ^ 32, h := 0, gates := true, lowSide := false, loops := true, lossAge := 0, holdFailed := false })
    (List.range 4).foldl (fun h c => if populated h c ∧ !(sectorInFlight h c) then startRetract h c else h) (setSp h spHoldUp)

end Sys2Proof.Machine
end

