-- ==== Sys2Proof/Machine/Units.lean ====
section
/-! DEFINITION. What the writes of 003, 004, 005 and 006 do to leaves and fence sets, and the end of a re-initialise (R29, R31,
R40, R141-R146, R591, R634, R641, R649). The dictionary checks of these writes stand with the transactions. -/
namespace Sys2Proof.Machine

/-- Fence a leaf by request (R142): the set of its row of R31, unless the leaf is fenced already. -/
def fenceLeaf (h : Hw) (u : Nat) : Hw :=
  if fenced h u then h else fenceEffects (setFence h (fenceKey u) 1) (fenceKey u)

/-- A write of 1 to 003 of path `p`, after its checks (R29, R142). -/
def fencePath (h : Hw) (p : Nat) : Hw := (present h p).foldl fenceLeaf h

/-- The smallest fenced set that holds the leaf; one that is being unfenced is fenced until its re-initialises have ended (R143). -/
def unfenceKey (h : Hw) (u : Nat) : Option Nat := (fenceSets u).find? (fun k => fenceVal h k != 0)

/-- The sets that a write of 0 to 003 of path `p` unfences, each once, in ascending order of the members. -/
def unfenceKeys (h : Hw) (p : Nat) : List Nat :=
  ((present h p).filterMap (unfenceKey h)).foldl (fun l k => if l.contains k then l else l ++ [k]) []

/-- A set that reads 2 and has a member with a fault bit (R142, R143). -/
def unfenceBarred (h : Hw) (k : Nat) : Bool :=
  (fenceVal h k == 2 || fenceVal h k == 4) && (fenceMembers h k).any (fun u => (unit h u).summary != 0)

/-- Re-initialise every member of set `k`, in ascending order, so that it unfences when all succeed (R143). -/
def unfenceSet (h : Hw) (k : Nat) : Hw :=
  let v := fenceVal h k
  if v = 1 ∨ v = 2 then (fenceMembers h k).foldl beginReinit (setFence h k (v + 2)) else h

/-- A write of 0 to 003 of path `p`, after its checks. -/
def unfencePath (h : Hw) (p : Nat) : Hw := (unfenceKeys h p).foldl unfenceSet h

/-- A re-initialise of a carriage that is still in stage 0x0A or 0x0B takes it out of the start (R122); a fence does so by itself. -/
def removeFromStart (h : Hw) (p : Nat) : Hw :=
  let stage := getF h PW_BOOT_STAGE 0
  if stage = 0x0A ∨ stage = 0x0B then
    startProgress (onBoot h (fun b => { b with removed := (List.range 4).foldl (fun m c => if p = 0 ∨ p = carPath c 0 then putBit m c true else m) b.removed }))
  else h

/-- A write of 1 to 004 of path `p`, after its checks (R144), counted as a U by request (1A00:066.2). -/
def reinitPath (h : Hw) (p : Nat) : Hw :=
  let h := onIsland ((present h p).foldl beginReinit h) (fun i => { i with counts := zadd i.counts 2 1 })
  removeFromStart h p

/-- A write of 2 to 004 of path `p` (R141): bits whose cause has ended clear; a forced cause persists (R146). -/
def acknowledgePath (h : Hw) (p : Nat) : Hw :=
  (present h p).foldl (fun h u => onUnit h u (fun x => { x with summary := x.summary &&& (x.cause ||| x.force) })) h

/-- A fence set is served again once none of its members re-initialises (R143): carriage sets show in HQ_STAT. -/
def finishUnfence (h : Hw) (k : Nat) : Hw :=
  if (fenceVal h k = 3 ∨ fenceVal h k = 4) ∧ (fenceMembers h k).all (fun u => !(unit h u).busy) then
    let h := setFence h k 0
    match carriageOf k with
    | some c => if k = carPath c 0 then setF h HQ_STAT_FENCED 0 (putBit (getF h HQ_STAT_FENCED 0) c false) else h
    | none => h
  else h

/-- The reaction of a given strength (R591). -/
def reactionOf (n : Nat) : Option Reaction :=
  if n = 2 then some .s2 else if n = 3 then some .fence else if n = 4 then some .s3 else if n = 5 then some .s4
  else if n = 1 then some .faulted else none

/-- REINITIALISE_COMPLETE (R144): the leaf's re-initialise ends, well or not; the set being unfenced follows (R143); a failed
Stair 2 fences the unit (R641); a reaction that waited for the end is carried out (R591). An actuator drive's ends only once it is Parked (R404), a servo's once the drive has unloaded the heads (R364). -/
def execReinitialiseComplete (u : Nat) (ok : Bool) (s : State) : Res := s.run fun h =>
  let c := nib u 0 - 1
  let due : Bool := u / 0x10 == 0x621 && (h.drives.get c).reinitDue
  let unloading : Bool := match carriageOf u with
    | some k => u == carPath k 0x2F0 && (sv h k).retract && headsOut h k
    | none => false
  if due ∧ getF h AC_STAT_STATE (inst c) ≠ 0 ∨ unloading then h
  else if (unit h u).busy then
    let h := if due then onDrive (resetUnitRegs h u) c (fun d => { d with reinitDue := false }) else h
    let waiting := (unit h u).waiting
    let h := onUnit h u (fun x => { x with busy := false, failed := !ok, waiting := 0 })
    let sets := (fenceSets u).filter (fun k => fenceVal h k == 3 || fenceVal h k == 4)
    if ok then
      let h := sets.foldl finishUnfence h
      match reactionOf waiting with
      | some r => react h u 0 r
      | none => h
    else if sets = [] then (if fenced h u then h else fenceByFault h u)
    else sets.foldl (fun h k => setFence h k (fenceVal h k - 2)) h
  else h

/-! Power requests (R40, R145, R634, R649). -/

/-- The leaves of a domain that are not absent. -/
def domainLeaves (h : Hw) (d : Nat) : List Nat := leafPaths.filter (fun u => domainOf u == d && !(absent h u))

/-- R40 holds domain `d` powered: it is 23 or 24, and 21 or 22 is on. -/
def heldByMotor (h : Hw) (d : Nat) : Bool := (d == 23 || d == 24) && (domainOn h 21 || domainOn h 22)

/-- The highest state that the units of domain `d` request (R145). Domain 24 holds no leaf unit (R39), so no request of a unit ever
lowers it (log entry 82). -/
def domainRequest (h : Hw) (d : Nat) : Nat :=
  if d = 24 then 2 else (domainLeaves h d).foldl (fun m u => max m (unit h u).request) 0

/-- Domains that no request switches off or gates (R634). -/
def domainKept (d : Nat) : Bool := d == 3 || d == 4 || d == 6 || d == 8

/-- The device power state holds domain `d` off (R145). -/
def heldOffByState (h : Hw) (d : Nat) : Bool := bitAt h.island.domByState (d - 1) && !(domainOn h d)

/-- The highest state that the units of domain `d` request once path `p` requests `v` (R29, R145). -/
def requestAfter (h : Hw) (p v d : Nat) : Nat :=
  if d = 24 then 2 else (domainLeaves h d).foldl (fun m w => max m (if (present h p).contains w then v else (unit h w).request)) 0

/-- A request of `v` for path `p` would break R40: it leaves domain 23 no request while 21 or 22 stays on. -/
def breaksR40 (h : Hw) (p v : Nat) : Bool :=
  v == 0 && (present h p).any (fun u => domainOf u == 23) && requestAfter h p v 23 == 0 &&
  [21, 22].any (fun d => domainOn h d && requestAfter h p v d != 0)

/-- A write of `v` to 005 of leaf `u` is refused with 0x08 by the domain's own state (R145, R634). -/
def powerBarred (h : Hw) (u v : Nat) : Bool :=
  let d := domainOf u
  (domainKept d && decide (v < 2)) || (heldOffByState h d && decide (1 ≤ v))

/-- Take a request for leaf `u`: the domain goes to the highest state that any of its units requests (R145). A domain that
powers up again is restored from the shadow store (R635). -/
def requestPower (h : Hw) (u v : Nat) : Hw :=
  let h := onUnit h u (fun x => { x with request := v })
  let d := domainOf u
  let r := domainRequest h d
  if r = 0 then (if heldByMotor h d then h else powerDown h d)
  else
    let h := if domainOn h d || heldOffByState h d then h
      else powerUpMotor h d
    onIsland h (fun i => { i with domIdle := putBit i.domIdle (d - 1) (r == 1) })

/-- Set the force bits of `mask` in leaf `u` (R146): each newly set class is raised as if detected, marked as forced. The
thermal class of a thermal leaf is the caller's (R592). -/
def forceBits (h : Hw) (u mask : Nat) (raise : Hw → Nat → Hw) : Hw :=
  (List.range 15).foldl (fun h k =>
    if bitAt mask k && !(bitAt (unit h u).force k) then
      raise (onUnit h u (fun x => { x with force := putBit x.force k true })) k
    else h) h

end Sys2Proof.Machine
end

