-- ==== Sys2Proof/Machine/Startup.lean ====
section
/-! DEFINITION. Start-up, boot recovery, the gates, links, resets of the whole device (R62-R66, R73-R76, R91-R122, R19,
R636-R638). -/
namespace Sys2Proof.Machine

/-- A carriage is taken out of service by a fault reaction (R31). -/
def fenceCarriage (h : Hw) (c : Nat) : Hw :=
  if fenceVal h (carPath c 0) ≠ 1 ∧ fenceVal h (carPath c 0) ≠ 2 then fenceEffects (setFence h (carPath c 0) 2) (carPath c 0) else h

/-- Failure code `k` of a start (R118): FAIL, the record and the reaction; boot recovery does not hold the inbox (R566). `detail` is the unit path or step concerned. -/
def startFail (h : Hw) (k detail : Nat) : Hw :=
  let halts : Bool := k == 0x02 || k == 0x04 || k == 0x10
  let h := setF h PW_BOOT_FAIL 0 k
  let h := raiseRecord h 0x1AF0 (0x200 + k) (if halts then 7 else 5) detail false
  if k = 0x02 then haltStart h
  else if k = 0x04 ∨ k = 0x10 then askStair4 (haltStart h) (0x200 + k)
  else if k = 0x03 ∨ k = 0x09 ∨ k = 0x0A ∨ k = 0x0C ∨ k = 0x0D then
    (match carriageOf detail with
     | some c => fenceCarriage h c
     | none => h)
  else if k = 0x06 ∨ k = 0x07 then
    let h := [4, 5, 6, 7].foldl (fun h n => if getF h MG_BWS_OWNER (4 * n) = 0x420 then setF (setF h MG_BWS_STATE (4 * n) 0) MG_BWS_OWNER (4 * n) 0xFFFF else h) h
    setF (setF h PW_BOOT_STAGE 0 0x0D) PW_BOOT_RECOV 0 1
  else if k = 0x08 ∨ k = 0x0F then stopAlive (takeReset h 6 detail) 2
  else if k = 0x0B then askStair4 (onUnit (spFault h) 0x61F0 (fun x => { x with faulted := true })) 0x20B
  else h

/-- The stage that the gates show once admin ready is passed (R93, R107, R116): 0x08 while not mated, 0x0F while cold, else
0x09. -/
def gateStage (h : Hw) : Nat :=
  if h.pins.prsntDebounced then 0x08 else if h.boot.coldGate then 0x0F else 0x09

/-- Spindle start is possible at all in this start: heads strap valid, no halt, admin ready passed, no failure that stays at
admin ready (R74, R118). -/
def mayStart (h : Hw) : Bool :=
  headsPer h != 0 && getF h PW_BOOT_HALT 0 == 0 && !(h.boot.noMap) && !((unit h 0x61F0).faulted)

/-- The stage that the gates show. -/
def returnToGates (h : Hw) : Hw := setF h PW_BOOT_STAGE 0 (gateStage h)

/-- A return to the spindle phase (R116): only in a start that stands at one of its stages, 0x08 to 0x0C or 0x0F, and may start the
spindle; the loads of each carriage count anew (R109). -/
def backToGates (h : Hw) : Hw :=
  let stage := getF h PW_BOOT_STAGE 0
  if mayStart h ∧ (8 ≤ stage ∧ stage ≤ 0x0C ∨ stage = 0x0F) then returnToGates (onBoot h (fun b => { b with loadFails := [] })) else h

/-- RESET_IN_N_RISE (R91). -/
def execResetInNRise (prsnt : Bool) (s : State) : Res := s.runBoth fun h v =>
  if h.pins.resetIn then (h, v)
  else
    let h := onPins h (fun p => { p with resetIn := true, prsnt := prsnt, sampled := false, anomaly := 0, phyRst := false })
    let h := { h with tap := if h.tap.ir = 3 ∨ h.tap.ir = 4 ∨ h.tap.ir = 5 ∨ h.tap.ir = 0x20 then { h.tap with ir := 0xFF, linkRun := false } else h.tap }
    (startReset h (if prsnt then 1 else 0), v.restart)

/-- Fold of a list of strap samples: bits that agree in all (R73). -/
def strapAgree : List Nat → Nat × Nat
  | [] => (0, 0)
  | a :: l =>
    let high := l.foldl (fun x y => x &&& y) a
    let any := l.foldl (fun x y => x ||| y) a
    (high, any ^^^ high)

/-- STRAP_SAMPLING (R73): the eight samples of the 22 pins; then step 3 of the start. -/
def execStrapSampling (samples : List Nat) (s : State) : Res := s.run fun h =>
  if h.pins.resetIn && !h.pins.sampled && samples.length == 8 then
    let (v, u) := strapAgree (samples.map (fun w => w % 2 ^ 22))
    let last := samples.getLastD 0 % 2 ^ 22
    let h := onPins h (fun p => { p with strap := v, strapLive := last, sampled := true })
    let hpc := bits 14 12 v
    let bad : Nat := (hpc == 0 || hpc == 7).toNat
    let twin : Nat := (bits 17 16 v == 3).toNat
    let differs : Nat := (last != v).toNat
    let sealedBit : Nat := (h.fuses.sealed && !(bitAt v 21)).toNat
    let unstable : Nat := (u != 0).toNat
    let h := onPins h (fun p => { p with anomaly := bad + 2 * twin + 4 * differs + 8 * sealedBit + 16 * unstable })
    let h := startStep3 (onMgmt h (fun m => { m with plca := { m.plca with localId := nodeId h % 32 + 1 } }))
    let h := if bad = 1 then ruleRecord h 0x1A10 74 3 0 else h
    let h := if twin = 1 then ruleRecord h 0x1A10 74 3 1 else h
    let h := if sealedBit = 1 then ruleRecord h 0x1A10 74 3 3 else h
    let h := if bad + twin + sealedBit + unstable = 0 then h else setCause (raiseFault h 0x1A10 11 false) 0x1A10 11 true
    if bad = 1 then startFail h 0x01 0 else h
  else h

/-- The removal sequence of a device that is mated again has run to its end (R121): fetching resumes, and the start goes on at the
gates. -/
def finishRemate (h : Hw) : Hw := backToGates (setF (onBoot h (fun b => { b with removal := .none })) HQ_STAT_FETCH 0 1)

/-- What waits for the carriages to be parked: the stop that a removal, a retreat or a hold wants (R121 step 5, R122, R393, R603), a mate
that came meanwhile, the hold of the motor domains (R606). -/
def afterParked (h : Hw) : Hw :=
  if !(drivesParked h) then h
  else
    let wants : Bool := h.boot.removal == .unloading || h.boot.removal == .remated || h.boot.removal == .retreat || h.boot.thermalHold
    let h := if wants && !h.spindle.holdUp then spindleStop (saveAll h) else h
    let h := if h.boot.removal = .remated then finishRemate h
      else if h.boot.removal = .retreat ∧ !h.pins.prsntDebounced then backToGates (onBoot h (fun b => { b with removal := .none })) else h
    if h.island.tripHoldUp ∧ !h.spindle.holdUp then holdMotor (onIsland h (fun x => { x with tripHoldUp := false })) else h

/-- PRSNT_N_DEBOUNCED_CHANGE (R65): hot removal, its cancellation, or a re-mate (R93, R121, R122). -/
def execPrsntNDebouncedChange (level : Bool) (s : State) : Res := s.run fun h =>
  if level = h.pins.prsntDebounced then onPins h (fun p => { p with prsnt := level })
  else
    let h := onPins h (fun p => { p with prsnt := level, prsntDebounced := level })
    let h := setF h PW_BOOT_MATED 0 (if level then 0 else 1)
    let stage := getF h PW_BOOT_STAGE 0
    if level then
      if stage = 0x0C then
        let h := setF (setF h PW_BOOT_STAGE 0 0x08) HQ_STAT_FETCH 0 0
        let h := onBoot h (fun b => { b with removal := .draining, drainAt := some h.log.optime })
        ruleRecord h 0x1AF0 121 3 0
      else if stage = 0x09 ∨ stage = 0x0A ∨ stage = 0x0B then
        afterParked (unloadAll (onBoot (setF h PW_BOOT_STAGE 0 0x08) (fun b => { b with removal := .retreat })))
      else if stage = 0x0F then setF h PW_BOOT_STAGE 0 0x08
      else if h.boot.removal = .remated then onBoot h (fun b => { b with removal := .unloading })
      else h
    else
      match h.boot.removal with
      | .draining => setF (setF (onBoot h (fun b => { b with removal := .none, drainAt := none })) PW_BOOT_STAGE 0 0x0C) HQ_STAT_FETCH 0 1
      | .unloading => if drivesParked h then finishRemate h else onBoot h (fun b => { b with removal := .remated })
      | .remated => h
      | .retreat => afterParked h
      | .none => if stage = 0x08 then backToGates h else h

/-- L2_INVALIDATE_DONE (R102): the caches are invalid and core 0 runs the boot ROM from address 0 (R509). -/
def execL2InvalidateDone (s : State) : Res := s.run fun h =>
  if domainOn h 6 && !h.boot.l2Ready then
    let h := l2Invalidate h
    let h := onCore h 0 (fun c => { c with running := true, start := 0 })
    let h := onBoot h (fun b => { b with l2Ready := true })
    if getF h PW_BOOT_STAGE 0 = 1 then setF h PW_BOOT_STAGE 0 2 else h
  else h

/-- L2_RESET_INVALIDATE (R518): the same clearing by itself, at P, H, D or the power-up of domain 6. -/
def execL2ResetInvalidate (s : State) : Res := s.run l2Invalidate

/-- The self-test clears the counters of the checkers it tested (R103): those of the near gallery, the L2 and core-local memory, or of the
regions of carriage `c` (R41). -/
def clearHubCounters (h : Hw) : Hw :=
  let h := setF (setF (setF h BM_CECNT_COUNT 0 0) CC_CECNT_COUNT 0 0) BM_UECNT_NEAR 0 0
  { h with secded := h.secded.filter (fun p => !(decide (p.1 < 16))) }
def clearCarriageCounters (h : Hw) (c : Nat) : Hw := { h with secded := h.secded.filter (fun p => !(p.1 / 16 == c + 1)) }

/-- SRAM_ECC_SELF_TEST (R103): `region` none is the hub, else carriage c. The error counters of the tested checkers end at 0. -/
def execSramEccSelfTest (region : Option Nat) (pass : Bool) (s : State) : Res := s.run fun h =>
  match region with
  | none =>
    let h := onBoot (clearHubCounters h) (fun b => { b with eccTested := true })
    if pass then (if getF h PW_BOOT_STAGE 0 = 2 then setF h PW_BOOT_STAGE 0 3 else h) else startFail h 0x02 0
  | some c =>
    if populated h c then
      let h := clearCarriageCounters h c
      if pass then h else startFail h 0x03 (carPath c 0)
    else h

/-- LPDDR4X_TRAINING_DONE (R104): the third failed attempt fails the start; after a training that ends well the inline ECC is
tested and both reserved bursts are left zero (R485). -/
def execLpddr4xTrainingDone (trained eccPass : Bool) (s : State) : Res := s.run fun h =>
  if trained then
    let h := onBoot h (fun b => { b with trained := true })
    let h := { h with mem := memZero (memZero h.mem farBase (farBase + 64)) (farBase + 448) (farBase + 512) }
    let h := setF (setF (setF h BM_CECNT_COUNT 4 0) BM_CECNT_COUNT 8 0) BM_UECNT_FAR 0 0
    let h := onBuffer h (fun b => { b with ue0 := 0, ue1 := 0 })
    if eccPass then (if getF h PW_BOOT_STAGE 0 = 3 then setF h PW_BOOT_STAGE 0 4 else h) else startFail h 0x04 0
  else
    let h := onBoot h (fun b => { b with trainFails := b.trainFails + 1 })
    if h.boot.trainFails < 3 then h else startFail h 0x04 0

/-- Every field of a slot header lies in its range and every reserved byte is 0 (R98, R99). -/
def headerValid (i : ImageHeader) : Bool :=
  i.magic == 0x5746564A && i.hdrver == 1 && i.reservedZero && decide (i.flags < 2) && i.length % 64 == 0 &&
  decide (64 ≤ i.length) && decide (i.length ≤ 8322816) && i.load % 4096 == 0 && decide (farBase ≤ i.load) &&
  decide (i.load + i.length ≤ farBase + 0x4000000) && decide (i.load ≤ i.entry) && decide (i.entry < i.load + i.length)

/-- R99: the image is accepted. -/
def imageAccepted (h : Hw) (i : ImageHeader) : Bool :=
  headerValid i && i.sigOk && i.bodyOk && (!(isSealed h) || decide (h.fuses.floor ≤ i.secver))

/-- Start the image of a slot (R98-R100): SLOT, FWVER, ENTRY; firmware itself starts by FIRMWARE_START. -/
def acceptImage (h : Hw) (slot : Nat) (i : ImageHeader) : Hw :=
  setF (onBoot h (fun b => { b with fwver := i.fwver % 2 ^ 32, entry := i.entry % 2 ^ 64 })) PW_BOOT_SLOT 0 slot

/-- IMAGE_SLOT_CHECK (R98, R99): an accepted image has its body placed at LOAD. At stage 0x04, with no image accepted yet, slot 0 of the flash, or slot 1 after slot 0 was refused; the JEDEC
ID reads valid or not. -/
def execImageSlotCheck (slot : Nat) (jedecOk : Bool) (image : ImageHeader) (s : State) : Res := s.run fun h =>
  if getF h PW_BOOT_STAGE 0 ≠ 4 ∨ getF h PW_BOOT_HALT 0 = 1 ∨ getF h PW_BOOT_SLOT 0 ≠ 0 ∨ h.boot.slot0Refused ≠ decide (slot ≠ 0) then h
  else if !jedecOk then startFail h 0x07 0
  else if imageAccepted h image then
    acceptImage (memStore h image.load (padTo image.length image.body)) (if slot = 0 then 1 else 2) image
  else if slot = 0 then startFail (onBoot h (fun b => { b with slot0Refused := true })) 0x05 0
  else startFail h 0x06 0

/-- Sections of the bulk window that `session` owns in state Held. -/
def heldBy (h : Hw) (session : Nat) : List Nat :=
  (List.range 8).filter (fun n => getF h MG_BWS_OWNER (4 * n) == session && getF h MG_BWS_STATE (4 * n) == 1)

/-- The header that stands at the start of the bulk window (R98, R100); `sigOk` and `bodyOk` are the verdicts of its
signature and hash. -/
def windowHeader (h : Hw) (sigOk bodyOk : Bool) : ImageHeader :=
  let w := fun o n => memWord h (windowBase + o) n
  { magic := w 0 4, hdrver := w 4 2, secver := w 6 2, fwver := w 8 4, length := w 0x0C 4, load := w 0x10 8, entry := w 0x18 8,
    flags := w 0x20 4, reservedZero := w 0x24 60 == 0 && w 0xF0 16 == 0, sigOk := sigOk, bodyOk := bodyOk }

/-- FIRMWARE_START (R93, R98): the accepted image runs on core 0 from the ENTRY of its header, cores 1-3 are released, the heartbeat window opens
(R596), and firmware powers domains 5, 24, 23, 21, 22 and those of every populated carriage (R95). A recovery image takes the stage from
0x0D to 0x05, a decrease that R116 does not list (DESIGN CHOICE, log entry 102). -/
def execFirmwareStart (s : State) : Res := s.run fun h =>
  if getF h PW_BOOT_SLOT 0 = 0 ∨ getF h PW_BOOT_HALT 0 = 1 ∨ 5 ≤ getF h PW_BOOT_STAGE 0 ∧ getF h PW_BOOT_STAGE 0 ≠ 0x0D then h
  else
    let h := onCore h 0 (fun c => { c with running := true, start := h.boot.entry })
    let h := setF h CC_CORE_REL 0 0xF
    let boot := getReg h CC_BOOTL / 4 * 4 + getReg h CC_BOOTH * 2 ^ 32
    let h := [1, 2, 3].foldl (fun h k => onCore h k (fun c => { c with running := true, start := boot })) h
    let h := setF (setF (setF h PW_BOOT_STAGE 0 5) PW_BOOT_RECOV 0 0) TH_HBSTAT_ARMED 0 1
    let h := onIsland (setF h TH_HBSTAT_NEXT 0 0xA5) (fun i => { i with beatAt := h.log.optime })
    let h := [5, 24, 23, 21, 22].foldl domainOnOp h
    (List.range 4).foldl (fun h c => if populated h c then
      domainOnOp (domainOnOp (domainOnOp h (9 + 3 * c)) (10 + 3 * c)) (11 + 3 * c) else h) h

/-- Address of the patch image of carriage `c` (R317), and the version in its header (R315). -/
def patchAddress (h : Hw) (c : Nat) : Nat := getF h FM_PLADL_ADDR (inst c) + 2 ^ 32 * getF h FM_PLADH_ADDR (inst c)
def patchVersion (h : Hw) (c : Nat) : Nat := memWord h (patchAddress h c + 8) 4

/-- The start stands where failure `code` can happen (R118): its check is due, and what State shows of it does not contradict it. The
detail of 0x03, 0x09, 0x0A, 0x0C and 0x0D is the carriage's path. -/
def failureDue (h : Hw) (code detail : Nat) : Bool :=
  let stage := getF h PW_BOOT_STAGE 0
  let c := nib detail 3 - 2
  let mine : Bool := match carriageOf detail with | some c => populated h c && !(carFenced h c) | none => false
  match code with
  | 0x01 => headsPer h == 0
  | 0x02 => stage == 2
  | 0x03 => mine
  | 0x04 => stage == 3
  | 0x05 => stage == 4 && getF h PW_BOOT_SLOT 0 == 0 && !h.boot.slot0Refused
  | 0x06 => stage == 4 && getF h PW_BOOT_SLOT 0 == 0 && h.boot.slot0Refused
  | 0x07 => stage == 4 && getF h PW_BOOT_SLOT 0 == 0
  | 0x08 => stage == 5 || stage == 6
  | 0x09 => mine && stage == 6 && decide (2 ≤ zget h.boot.patchFails c)
  | 0x0A => mine && stage == 6 && getF h FM_PSTAT_STATE (inst c) == 2 && getF h FM_PVER_PVER (inst c) != patchVersion h c
  | 0x0B => stage == 9
  | 0x0C => mine && decide (3 ≤ zget h.boot.loadFails c)
  | 0x0D => mine && stage == 0x0B
  | 0x0E => stage == 0x0B
  | 0x0F => flagF h TH_HBSTAT_ARMED 0 && !h.island.beaten
  | 0x10 => inBringUp h && decide (2 ≤ h.boot.failedStarts)
  | _ => false

/-- START_FAILURE (R118). A failure that stays at admin ready (0x0B, 0x0E) leaves the stage as it is, since R116 lists no return to
0x07 (log entry 83). -/
def execStartFailure (code detail : Nat) (s : State) : Res := s.run fun h =>
  if getF h PW_BOOT_HALT 0 = 0 ∧ failureDue h code detail then
    startFail (onBoot h (fun b => { b with noMap := b.noMap || code == 0x0E, slot0Refused := b.slot0Refused || code == 0x05 })) code detail
  else h

/-- TEMPERATURE_GATE_REREAD (R107): the motor-die sensor in 1/8 degree, or the reading forced on it (R594); the gate opens at 0 degC or
above. The reading shows in TH_RAW and, unless a substitute stands there, in TH_TEMP. -/
def execTemperatureGateReread (temp : Int) (s : State) : Res := s.run fun h =>
  let raw := if flagF h TH_FORCE_FEN (inst 5) then getS h TH_FORCE_FTEMP (inst 5) else temp
  let h := setF (setS h TH_RAW_RAW (inst 5) raw) TH_TEMP_VALID (inst 5) 1
  let h := if flagF h TH_TEMP_SUBST (inst 5) then h else setS h TH_TEMP_TEMP (inst 5) raw
  let cold := decide (getS h TH_TEMP_TEMP (inst 5) < 0)
  let h := setF (onBoot h (fun b => { b with coldGate := cold })) PW_BOOT_TCOLD 0 cold.toNat
  let stage := getF h PW_BOOT_STAGE 0
  if (stage = 0x0F ∨ (stage = 0x09 ∧ cold ∧ getF h SP_STAT_STATE 0 = 0)) ∧ mayStart h then returnToGates h else h

/-- ADMIN_READY (R112): stage 0x07; a CC.EN set earlier takes effect (R113); then the gates decide the stage (R93, R107). -/
def execAdminReady (s : State) : Res := s.run fun h =>
  let stage := getF h PW_BOOT_STAGE 0
  if (stage = 5 ∨ stage = 6) ∧ getF h PW_BOOT_HALT 0 = 0 then
    let h := onBoot (setF h PW_BOOT_STAGE 0 7) (fun b => { b with admin := true })
    let h := [0, 1].foldl (fun h p => onPort h p (fun x => if x.en && !x.cfs then { x with rdy := true } else x)) h
    setF h HQ_STAT_FETCH 0 1
  else h

/-- SPINDLE_START_GATE_OPEN (R93): both gates open: stage 0x09; while one holds the stage shows which. -/
def execSpindleStartGateOpen (s : State) : Res := s.run fun h =>
  let stage := getF h PW_BOOT_STAGE 0
  if (stage = 7 ∨ stage = 8 ∨ stage = 0x0F) ∧ mayStart h ∧ h.boot.removal = .none then returnToGates h else h

/-- No servo wedge has been decoded, or no lock gained, within two revolutions after the heads left the ramp (R109, R363). -/
def loadFailed (h : Hw) (c : Nat) : Bool := svState h c == svSearch && decide (1280 ≤ (sv h c).searched)

/-- A load of carriage `c` has failed (R109, R403): the third one in a row fences it, with failure 0x0C. -/
def countLoadFail (h : Hw) (c : Nat) : Hw :=
  if zget h.boot.loadFails c < 2 then onBoot h (fun b => { b with loadFails := zadd b.loadFails c 1 })
  else startFail (onBoot h (fun b => { b with loadFails := zadd b.loadFails c 1 })) 0x0C (carPath c 0)

/-- HEAD_LOAD_FAILED (R109): the carriage unloads and tries again; the third failure fences it, with failure 0x0C. -/
def execHeadLoadFailed (c : Nat) (s : State) : Res := s.run fun h =>
  if populated h c && !(carFenced h c) && loadFailed h c then
    countLoadFail (if zget h.boot.loadFails c < 2 then startUnload h c else h) c
  else h

/-- Step 5 of a power transition (R633): DEV takes TGT and TRANS clears; an entry to PS4 is counted (R647). -/
def takePowerState (h : Hw) : Hw :=
  let tgt := getF h PW_PSTATE_TGT 0
  let entered : Bool := tgt == 4 && getF h PW_PSTATE_DEV 0 != 4
  let h := onIsland (setF (setF h PW_PSTATE_DEV 0 tgt) PW_PSTATE_TRANS 0 0) (fun i => { i with exiting := false, counts := if entered then zadd i.counts 5 1 else i.counts })
  onCluster h (fun k => { k with lines22 := putBit k.lines22 0 false })

/-- The state whose domains are on: on the way out of PS4 the one that is entered (R633, standby exit step 2). -/
def domainPs (h : Hw) : Nat := if h.island.exiting then getF h PW_PSTATE_TGT 0 else getF h PW_PSTATE_DEV 0

/-- The exit from PS4 ends once every carriage in service has its heads loaded, calibrated and checked (R633, standby exit step 8). -/
def endExit (h : Hw) : Hw :=
  if h.island.exiting && (List.range 4).all (fun c => !(inStart h c) || bitAt h.boot.calibrated c) then takePowerState h else h

/-- MEDIA_READY (R94, R109, R122): every carriage that takes part in the start has passed, or none does: stage 0x0C; service phase begins; failed starts count from 0 (R120). -/
def execMediaReady (s : State) : Res := s.run fun h =>
  let stage := getF h PW_BOOT_STAGE 0
  let none : Bool := !((List.range 4).any (inStart h))
  let passed := (List.range 4).all (fun c => !(inStart h c) || bitAt h.boot.calibrated c)
  if ((stage = 0x0B ∧ (h.boot.restored || none) ∧ passed) ∨ (stage = 0x0A ∧ none)) ∧ !h.boot.noMap ∧ getF h PW_BOOT_HALT 0 = 0 then
    let h := setF h PW_BOOT_STAGE 0 0x0C
    let first : Bool := h.boot.mediaMs == 0
    let h := onBoot h (fun b => { b with failedStarts := 0, mediaMs := if b.mediaMs = 0 then max 1 (h.log.optime - b.refTime) else b.mediaMs })
    let h := endExit (setF h HQ_STAT_FETCH 0 1)
    if first ∧ 2 ≤ h.twin.recState ∧ h.twin.recState ≤ 4 then
      onTwin (setF h HQ_TWIN_STATE 0 3) (fun t => { t with helloWait := true, helloSince := h.log.optime, helloAt := Option.none })
    else h
  else h

/-- The unit that a failed link takes out (R19, R31): carriage c, or the whole device for the hub-motor link. -/
def linkFault (h : Hw) (l : Nat) : Hw :=
  if l < 4 then raiseFault h (carPath l 0x3F0) 2 false
  else if l = 4 then raiseFault h 0x61F0 2 false
  else raiseFault h (carPath (l - 5) 0x2F0) 2 false

def link (h : Hw) (l : Nat) : LinkSt := mget (fun _ => {}) h.links l
def onLink (h : Hw) (l : Nat) (f : LinkSt → LinkSt) : Hw := { h with links := mset (fun _ => {}) h.links l (f (link h l)) }

/-- A link is declared down (R19): its far die takes the consequence of R31; a sideband's drive sees no message (R402). -/
def linkDown (h : Hw) (l : Nat) : Hw := linkFault (onLink h l (fun x => { x with state := 2, failsOut := 0, failsIn := 0 })) l

/-- LINK_FLIT_CRC_ERROR (R19): a flit arrives with a CRC error, away from the hub or the carriage or `toward` it; `retry` says whether
it is a retry of the flit that failed before in this direction. The receiver requests it again, which is counted; when eight consecutive
retries of one flit have failed, the link is down. -/
def execLinkFlitCrcError (l : Nat) (toward retry : Bool) (s : State) : Res := s.run fun h =>
  if l < 9 ∧ (link h l).state = 1 then
    let failed := if retry then (if toward then (link h l).failsIn else (link h l).failsOut) + 1 else 0
    if 8 ≤ failed then linkDown h l
    else onLink h l (fun x => { x with retries := (x.retries + 1) % 2 ^ 32, failsIn := if toward then failed else x.failsIn
                                       failsOut := if toward then x.failsOut else failed })
  else h

/-- LINK_DOWN (R19). -/
def execLinkDown (l : Nat) (s : State) : Res := s.run fun h => if l < 9 ∧ (link h l).state ≠ 2 then linkDown h l else h

/-- LINK_TRAINED (R105, R386): the link is up, and a sideband's latency `lat`, in nanoseconds to 5 ns, has been measured; one not up within 5 ms fences its carriage, and the hub-motor link fails the start
(0x08). -/
def execLinkTrained (l : Nat) (up : Bool) (lat : Nat) (s : State) : Res := s.run fun h =>
  if l < 9 then
    if up then
      let h := onLink h l (fun x => { x with state := 1, failsOut := 0, failsIn := 0 })
      if 5 ≤ l then onSpindle h (fun p => { p with lat := zset p.lat (l - 5) (lat / 5 * 5) }) else h
    else if l = 4 then startFail h 0x08 0x6000
    else linkDown h l
  else h

/-- DEVICE_RESET (R637): a Stair 3 trigger; `cause` is DCAUSE of PW_RSN, `u` the unit of the cause. -/
def execDeviceReset (cause u : Nat) (s : State) : Res := s.run fun h =>
  let h := takeReset h cause u
  if cause = 2 then stopAlive h 2 else if cause = 4 then stopAlive h 1 else if cause = 5 then stopAlive h 3 else h

/-- Every populated drive is Parked. -/
def allParked (h : Hw) : Bool := (List.range 4).all (fun c => !(populated h c) || getF h AC_STAT_STATE (inst c) == 0)

/-- DEVICE_RESET_RELEASE (R637 steps 4-6): once every drive is Parked the domains are reset and released and the D start runs
from step 3. While power loss is signalled the D stays at step 5. -/
def execDeviceResetRelease (s : State) : Res := s.runBoth fun h v =>
  if h.boot.dphase = .taken && allParked h && !(flagF h SP_PSTAT_PLOSS 0) then (startStep3 (startReset h 2), v.restart) else (h, v)

/-- STRAP_PIN_CHANGE (R76): a pin changes level after sampling. -/
def execStrapPinChange (live : Nat) (s : State) : Res := s.run fun h =>
  onPins h (fun p => { p with strapLive := live % 2 ^ 22, anomaly := if p.sampled then putBit p.anomaly 2 (live % 2 ^ 22 != p.strap) else p.anomaly })

end Sys2Proof.Machine
end

