-- ==== Sys2Proof/Machine/Power.lean ====
section
/-! DEFINITION. Device power states and the switching of power domains (R629-R635, R487, R241, R277, R285, R318, R357, R365,
R469, R531). -/
namespace Sys2Proof.Machine

/-- The state that the controllers name (R469): the lowest of the ready ones, PS3 when none has been ready for 60 s; while a
Format NVM or Sanitize runs, PS0; PS4 is barred while a twin pair stands (R578). -/
def wantedState (h : Hw) : Nat :=
  let ready := [h.portA, h.portB].filter (fun p => p.rdy)
  let st : Nat :=
    if h.engine.oper.isSome then 0
    else match ready with
      | [] => if h.engine.noReady then 3 else getF h PW_PSTATE_DEV 0
      | p :: l => l.foldl (fun m q => min m q.ps) p.ps
  let twin := getF h HQ_TWIN_STATE 0
  let barred := twin == 2 || (twin == 3 && !h.twin.helloWait) || twin == 4
  if barred && decide (3 < st) then 3 else st

/-- FLOOR and CEIL of a power state (R630); PS4 has none. -/
def stateLimits (h : Hw) (st : Nat) : Option (Nat × Nat) :=
  match st with
  | 0 => some (3600, 7200)
  | 1 => some (3600, liveVal h 0x1A00 0x061 0)
  | 2 => some (3600, liveVal h 0x1A00 0x062 0)
  | 3 => some (liveVal h 0x1A00 0x063 0, liveVal h 0x1A00 0x063 0)
  | _ => none

/-- Write the limits of a state to SP_GLIM and PW_PSTATE.CEIL (R630). -/
def setLimits (h : Hw) (st : Nat) : Hw :=
  match stateLimits h st with
  | some (lo, hi) => setF (setF (setF h SP_GLIM_FLOOR 0 lo) SP_GLIM_CEIL 0 hi) PW_PSTATE_CEIL 0 hi
  | none => h

/-- Carriages that may write at once (R630). -/
def writerLimit (h : Hw) : Nat :=
  match getF h PW_PSTATE_DEV 0 with
  | 0 => 4
  | 1 => 3
  | 2 => 2
  | _ => 0

/-- The spindle reads Stopped. -/
def spindleStopped (h : Hw) : Bool := getF h SP_STAT_STATE 0 == 0

/-- Carriage `c` is writing: its formatter runs a Write, Landing or destage request (R300, R630). -/
def carriageWriting (h : Hw) (c : Nat) : Bool :=
  match (car h c).fmt.running with
  | some r => r.opc == 2 || r.opc == 3 || r.opc == 5
  | none => false

/-- A write request may start on carriage `c`: fewer carriages than the power state's limit are writing (R630). -/
def writerFree (h : Hw) (c : Nat) : Bool :=
  decide (((List.range 4).filter (fun d => d != c && carriageWriting h d)).length < writerLimit h)

/-- Carriage `c` destages: its formatter runs a destage request. -/
def destaging (h : Hw) (c : Nat) : Bool :=
  match (car h c).fmt.running with
  | some r => r.opc == 5
  | none => false

/-- Domain `d` exists under the straps (R629, R75). -/
def domainExists (h : Hw) (d : Nat) : Bool :=
  if 9 ≤ d ∧ d ≤ 20 then populated h ((d - 9) / 3) else if d = 2 then dualPort h else decide (1 ≤ d ∧ d ≤ 24)

/-- A power state keeps domain `d` on (R629). -/
def stateKeeps (h : Hw) (st d : Nat) : Bool :=
  if st < 3 then true
  else if st = 3 then d != 5 && !(decide (9 ≤ d ∧ d ≤ 20) && (d - 9) % 3 == 1 && !(destaging h ((d - 9) / 3)))
  else !(d == 4 || d == 5 || decide (9 ≤ d ∧ d ≤ 20) || ((d == 21 || d == 22) && spindleStopped h))

/-- Put every domain where a power state wants it (R629, R635). -/
def switchDomains (h : Hw) (st : Nat) : Hw :=
  (List.range 24).foldl (fun h i =>
    let d := i + 1
    if domainExists h d then
      if stateKeeps h st d then
        let h := onIsland h (fun x => { x with domByState := putBit x.domByState i false })
        if domainRequest h d = 0 then h else powerUpMotor h d
      else powerDown (onIsland h (fun x => { x with domByState := putBit x.domByState i true })) d
    else h) h

/-- OPERATIONAL_STATE_CHANGE (R632): among PS0, PS1 and PS2 by hardware alone. -/
def execOperationalStateChange (s : State) : Res := s.run fun h =>
  let st := wantedState h
  if st < 3 ∧ getF h PW_PSTATE_DEV 0 < 3 ∧ getF h PW_PSTATE_TRANS 0 = 0 then setLimits (setF h PW_PSTATE_DEV 0 st) st else h

/-- A fault reaction is in progress: a power transition waits for its end (R645). -/
def reacting (h : Hw) : Bool := h.units.any (fun p => p.2.busy) || h.boot.dphase == .taken

/-- LOW_POWER_TRANSITION_BEGIN (R633 step 1): interrupt source 22 rises with TRANS. -/
def execLowPowerTransitionBegin (s : State) : Res := s.run fun h =>
  let st := wantedState h
  let now := getF h PW_PSTATE_DEV 0
  if st ≠ now ∧ (3 ≤ st ∨ 3 ≤ now) ∧ getF h PW_PSTATE_TRANS 0 = 0 ∧ !(reacting h) then
    let h := setF (setF h PW_PSTATE_TGT 0 st) PW_PSTATE_TRANS 0 1
    onCluster h (fun k => { k with lines22 := putBit k.lines22 0 true })
  else h

/-- Steps 4 and 5 of a transition (R633): the domains are switched, the limits written and the state taken; on the way from PS4 to an
operational state of a device with ready media it is taken at the end of the standby exit. -/
def completeTransition (h : Hw) : Hw :=
  let tgt := getF h PW_PSTATE_TGT 0
  let was := getF h PW_PSTATE_DEV 0
  let h := switchDomains (onIsland h (fun i => { i with goDue := false })) tgt
  let h := setLimits h tgt
  if was = 4 ∧ tgt < 3 ∧ getF h PW_BOOT_STAGE 0 = 0x0C then
    endExit (onBoot (onIsland h (fun i => { i with exiting := true })) (fun b => { b with calibrated := 0 }))
  else takePowerState h

/-- PW_PSCMD_GO (R633): the landing of a write of PW_PSCMD. A STATE other than TGT is ignored and sets PREF; with GO the
transition completes, or waits until a fault reaction in progress has ended (R645). -/
def execPwPscmdGo (data : Nat) (s : State) : Res := s.run fun h =>
  let tgt := getF h PW_PSTATE_TGT 0
  let st := bits 30 28 data
  if st ≠ tgt then setF h PW_PSTATE_PREF 0 1
  else if !(bitAt data 31) ∨ getF h PW_PSTATE_TRANS 0 = 0 ∨ h.island.exiting then h
  else if reacting h then onIsland h (fun i => { i with goDue := true })
  else completeTransition h

/-- A transition that waited for the end of a fault reaction completes (R645). -/
def takeGo (h : Hw) : Hw :=
  if h.island.goDue && !(reacting h) then (if getF h PW_PSTATE_TRANS 0 = 1 then completeTransition h else onIsland h (fun i => { i with goDue := false })) else h

/-- Domain `d` is to be off beside the power state: no unit requests it (R145), its die is shut down or tripped and its heads
are parked (R603, R606), a thermal hold keeps it off (R603). -/
def wantedOff (h : Hw) (d : Nat) : Bool :=
  let zone := fun die => getF h TH_TEMP_ZONE (inst die)
  if heldByMotor h d then false
  else if domainKept d then !(stateKeeps h (domainPs h) d)
  else !(stateKeeps h (domainPs h) d) || domainRequest h d == 0 ||
    (decide (9 ≤ d ∧ d ≤ 20) && decide ((d - 9) % 3 < 2) && decide (3 ≤ zone ((d - 9) / 3 + 1)) &&
      getF h AC_STAT_STATE (inst ((d - 9) / 3)) == 0) ||
    (h.boot.thermalHold && (d == 21 || d == 22) && spindleStopped h) ||
    (h.boot.thermalHold && (d == 5 || decide (9 ≤ d ∧ d ≤ 20)) && (zone 0 == 3 || h.island.mr4Hot != 0) && allParked h)

/-- DOMAIN_POWER_DOWN (R635). -/
def execDomainPowerDown (d : Nat) (s : State) : Res := s.run fun h =>
  if domainExists h d && wantedOff h d then powerDown h d else h

/-- DOMAIN_POWER_UP (R635). -/
def execDomainPowerUp (d : Nat) (s : State) : Res := s.run fun h =>
  if domainExists h d && !(wantedOff h d) then
    powerUpMotor (onIsland h (fun x => { x with domByState := putBit x.domByState (d - 1) false })) d
  else h

/-- A controller's I/O command calls the device back from a low-power state, or from the entry to one (R470, R645): the entry
is abandoned, domains already off are powered and restored. -/
def abandonEntry (h : Hw) : Hw :=
  if getF h PW_PSTATE_TRANS 0 = 1 ∧ 3 ≤ getF h PW_PSTATE_TGT 0 ∧ wantedState h < 3 then
    let h := switchDomains h (wantedState h)
    let h := setLimits h (wantedState h)
    let h := setF (setF h PW_PSTATE_TRANS 0 0) PW_PSTATE_DEV 0 (wantedState h)
    onCluster h (fun k => { k with lines22 := putBit k.lines22 0 false })
  else h

end Sys2Proof.Machine
end

