-- ==== Sys2Proof/Machine/ServoOps.lean ====
section
/-! DEFINITION. Operations of the servo that the actuator drive also starts: preamplifier frames, the beginning of a search (R68, R70, R313,
R333, R351, R363). -/
namespace Sys2Proof.Machine

/-! Preamplifier frames (R68). -/

/-- Number of ones among the low `n` bits. -/
def ones : Nat → Nat → Nat
  | 0, _ => 0
  | n + 1, w => w % 2 + ones n (w / 2)

/-- The command word of a frame (R68); the parity of a write covers the data too. -/
def sifWord (rd : Bool) (head addr data : Nat) : Nat :=
  let w := rd.toNat * 2 ^ 15 + head % 8 * 2 ^ 12 + addr % 256 * 2 ^ 4
  w + (1 - (ones 16 w + if rd then 0 else ones 16 data) % 2)

/-- A free interface takes the next frame (R70): a formatter frame first, else the waiting firmware frame. -/
def startFrame (h : Hw) (c : Nat) : Hw :=
  let f := (car h c).fmt
  match f.wire, f.sif with
  | some _, _ => h
  | none, x :: _ => emit (onFmt h c (fun f => { f with wire := some true })) (.preamp c x.command x.data)
  | none, [] =>
    if flagF h PA_SIF_STAT_ACTIVE (inst c) then
      let rd := flagF h PA_SIF_CMD_RD (inst c)
      let data := getF h PA_SIF_CMD_WDATA (inst c)
      emit (onFmt h c (fun f => { f with wire := some false }))
        (.preamp c (sifWord rd (getF h PA_SIF_CMD_HEAD (inst c)) (getF h PA_SIF_CMD_ADDR (inst c)) data) data)
    else h

/-- Queue a formatter frame, at most four (R313). -/
def queueFrame (h : Hw) (c : Nat) (word data : Nat) : Hw :=
  if (car h c).fmt.sif.length < 4 then startFrame (onFmt h c (fun f => { f with sif := f.sif ++ [⟨word, data, false⟩] })) c else h

/-- Queue the frame that selects head `hd` (R351, R333): register 0x20 with the head and bit 8. -/
def queueSelect (h : Hw) (c hd : Nat) : Hw :=
  if (car h c).fmt.sif.length < 4 then
    onServo (queueFrame h c (sifWord false hd 0x20 (0x100 + hd)) (0x100 + hd)) c (fun v => { v with frameQueued := true })
  else h

/-- The lowest head that a search may use (R333). -/
def lowestHead (h : Hw) (c : Nat) : Option Nat :=
  (List.range (headsPer h)).find? (fun hd => !(fenced h (servoHead c hd)))

/-- The engine begins a search with the heads leaving the ramp (R333, R363), from Off or Parked. -/
def beginSearch (h : Hw) (c : Nat) : Hw :=
  if svState h c = svOff ∨ svState h c = svParked then
    let h := onServo (setSv h c svSearch) c (fun v => { v with retract := false, lockCount := 0, disagree := 0, searched := 0 })
    if selHead h c < 6 then h
    else match lowestHead h c with
      | some hd => queueSelect (onServo h c (fun v => { v with switching := some hd, frameQueued := false })) c hd
      | none => h
  else h

end Sys2Proof.Machine
end

