-- ==== Sys2Proof/Machine/Recorder.lean ====
section
/-! DEFINITION. The event recorder: storing, losing, clearing and flushing records, progress slots (R611-R627). -/
namespace Sys2Proof.Machine

/-- First and last slot of the areas of R616. -/
def permanentEnd : Nat := 1024
def circulatingEnd : Nat := 2048
def serviceEnd : Nat := 30720

/-- The lowest key from `k` on that a rising list does not hold. -/
def firstGap (k : Nat) : List Nat → Nat
  | [] => k
  | a :: l => if a < k then firstGap k l else if a = k then firstGap (k + 1) l else k

/-- Slots in use of a range, ascending. -/
def usedSlots (l : Recorder) (lo hi : Nat) : List Nat :=
  (l.slots.filter (fun p => decide (lo ≤ p.1) && decide (p.1 < hi) && p.2.isSome)).map (fun p => p.1)

/-- The lowest free slot of a range. -/
def freeSlot (l : Recorder) (lo hi : Nat) : Option Nat :=
  let k := firstGap lo (usedSlots l lo hi)
  if k < hi then some k else none

/-- The oldest stored service record of the lowest severity (R617). -/
def victim (l : Recorder) : Option (Nat × EvRec) :=
  l.slots.foldl (fun best p => match p.2 with
    | some r =>
      if circulatingEnd ≤ p.1 ∧ p.1 < serviceEnd then
        match best with
        | some (k, b) => if r.severity < b.severity ∨ (r.severity = b.severity ∧ r.rseq < b.rseq) then some (p.1, r) else some (k, b)
        | none => some (p.1, r)
      else best
    | none => best) none

/-- Count a dropped record (R617, R619). -/
def countDrop (h : Hw) : Hw :=
  setF (onLog h (fun l => { l with dropped := (l.dropped + 1) % 2 ^ 32, dropsSince := l.dropsSince + 1 })) EV_IRQS_DROP 0 1

/-- Store a record in a slot (R613, R620): the stage, the calendar flag and the next RSEQ are filled in; the newest record
changes; severity decides interrupt and alert. -/
def putRecord (h : Hw) (slot : Nat) (r : EvRec) : Hw :=
  let n := (h.log.rseq + 1) % 2 ^ 32
  let r := { r with stage := getF h PW_BOOT_STAGE 0, calendar := decide (h.log.calendar ≠ 0), rseq := n }
  let h := onLog h (fun l => { l with slots := oset l.slots slot (some r), rseq := n, newest := r })
  let h := setReg h EV_RSEQ n
  let h := if getF h EV_CFG_IRQSEV 0 ≤ r.severity then setF h EV_IRQS_STORED 0 1 else h
  if liveVal h 0x1900 0x015 0 ≤ r.severity then raiseAlert h 2 slot else h

/-- File a record in its area (R617). -/
def fileRecord (h : Hw) (r : EvRec) : Hw :=
  if r.bringUp then
    match freeSlot h.log 0 permanentEnd with
    | some k => putRecord h k r
    | none =>
      let k := permanentEnd + h.log.ringNext % 1024
      putRecord (onLog h (fun l => { l with ringNext := (l.ringNext + 1) % 1024 })) k r
  else
    match freeSlot h.log circulatingEnd serviceEnd with
    | some k => putRecord h k r
    | none =>
      match victim h.log with
      | some (k, v) => if v.severity ≤ r.severity then setF (putRecord h k r) EV_IRQS_REPL 0 1 else countDrop h
      | none => countDrop h

/-- Records are stored: the recorder is not fenced (R624) and no clear runs (R626). -/
def storing (h : Hw) : Bool := !(recorderFenced h) && h.log.clearing == 0

/-- Store the oldest queued record. -/
def storeOldest (h : Hw) : Hw :=
  match h.log.queue with
  | [] => h
  | r :: q => fileRecord (onLog h (fun l => { l with queue := q })) r

/-- RECORD_RAISED (R617): a unit raises a record of the given code, severity and DETAIL. -/
def execRecordRaised (u code severity detail : Nat) (s : State) : Res := s.run fun h =>
  if isLeaf u && !(absent h u) then raiseRecord h u (code % 0x10000) (severity % 8) (detail % 2 ^ 32) false else h

/-- RECORD_STORE (R617). -/
def execRecordStore (s : State) : Res := s.run fun h => if storing h then storeOldest h else h

/-- RECORDS_LOST (R619): the queue has fallen below 32 entries after drops. -/
def execRecordsLost (s : State) : Res := s.run fun h =>
  if storing h ∧ 0 < h.log.dropsSince ∧ h.log.queue.length < 32 then
    let n := h.log.dropsSince
    let r : EvRec := { cycle := h.log.cycles, ms := h.log.optime, path := 0x18F0, code := 1, severity := 5, bringUp := inBringUp h, detail := n % 2 ^ 32 }
    fileRecord (onLog h (fun l => { l with dropsSince := 0 })) r
  else h

/-- OPERATING_TIME_SAVE (R611): once per second. -/
def execOperatingTimeSave (s : State) : Res := s.run fun h =>
  onLog h (fun l => if l.saved + 1000 ≤ l.optime then { l with saved := l.optime } else l)

/-- The area slots that firmware may write (R627). -/
def progressSlot (a : Nat) : Bool := decide (1032 ≤ a ∧ a ≤ 1303)

/-- EV_FWCODE_WRITE (R627): a write of EV_FWCODE lands and raises the record from EV_FWDET and EV_FWUNIT. -/
def execEvFwcodeWrite (data : Nat) (s : State) : Res := s.run fun h =>
  raiseRecord h (getF h EV_FWUNIT_UNIT 0) (bits 15 0 data) (getF h EV_FWUNIT_SEV 0) (getReg h EV_FWDET) false

/-- EV_PSLOT_GO (R622, R627): a write of EV_PSLOT lands; with GO, EV_PDATA0-7 are written to a progress or bitmap slot. -/
def execEvPslotGo (data : Nat) (s : State) : Res := s.run fun h =>
  let a := bits 10 0 data
  let h := setF h EV_PSLOT_SLOT 0 a
  if bitAt data 31 && progressSlot a then
    let v := (List.range 8).foldl (fun v n => v + getF h EV_PDATA_DATA (4 * n) * 2 ^ (32 * n)) 0
    onLog h (fun l => { l with area := zset l.area a v })
  else h

/-- The store slots that a clear mask names (R625), ascending. -/
def clearNames (mask slot : Nat) : Bool :=
  (bitAt mask 2 && decide (slot < permanentEnd)) || (bitAt mask 0 && decide (permanentEnd ≤ slot ∧ slot < circulatingEnd)) ||
  (bitAt mask 1 && decide (circulatingEnd ≤ slot ∧ slot < serviceEnd))

/-- Zero the named slots below `pos` (R625). -/
def clearBelow (h : Hw) (pos : Nat) : Hw :=
  onLog h (fun l => { l with slots := l.slots.filter (fun p => !(clearNames l.clearing p.1 && decide (p.1 < pos))), clearPos := max l.clearPos pos })

/-- How far a running clear has come when something looks at it or stops it: a free store slot, never behind an earlier one
(R625, R626). -/
def clearFront (h : Hw) : Hw :=
  if h.log.clearing = 0 then h
  else drawn (clearBelow h (max h.log.clearPos (Config.freeNat h.freeCtr % (serviceEnd + 1))))

/-- CLEAR_DONE (R625): every named slot is zero; the record of code 0x0002 is stored as the first of the service area; CLR. -/
def execClearDone (s : State) : Res := s.run fun h =>
  if h.log.clearing = 0 then h
  else
    let mask := h.log.clearing
    let h := clearBelow h serviceEnd
    let r : EvRec := { cycle := h.log.cycles, ms := h.log.optime, path := 0x1810, code := 2, severity := 5,
                       bringUp := inBringUp h, detail := mask + h.log.clearSession % 0x10000 * 0x10000 }
    let h := onLog h (fun l => { l with clearing := 0, clearPos := 0, ringNext := if bitAt mask 0 then 0 else l.ringNext })
    let h := if recorderFenced h then notifyRecord h r else match freeSlot h.log circulatingEnd serviceEnd with
      | some k => putRecord h k r
      | none => fileRecord h { r with bringUp := false }
    setF h EV_IRQS_CLR 0 1

/-- Store every queued record, oldest first. -/
def storeAll (h : Hw) : Hw := h.log.queue.foldl (fun h _ => storeOldest h) h

/-- POWER_LOSS_FLUSH (R622): the flush that a power-loss signal asked for ends: the queue is stored and the state block saved; a running
clear stops where it is, and its record is lost (R626). -/
def execPowerLossFlush (s : State) : Res := s.run fun h =>
  if !(flagF h EV_STAT_FLUSH 0) then h
  else
  let h := onLog (clearFront h) (fun l => { l with clearing := 0, clearPos := 0, saved := l.optime })
  let h := if storing h then storeAll h else h
  setF h EV_STAT_FLUSH 0 0

end Sys2Proof.Machine
end

