-- ==== Sys2Proof/Machine/Thermal.lean ====
section
/-! DEFINITION. ALIVE, heartbeat, temperature supervision, thermal shutdown and the hardware trip (R594-R608). Dies are numbered
0 hub, 1-4 carriages 0-3, 5 motor die. Temperatures are in 1/8 degree. -/
namespace Sys2Proof.Machine

/-- The thermal leaf of a die (R599), its unit path (R605) and the domain of its sensor (R609). -/
def thermalLeaf (die : Nat) : Nat := if die = 0 then 0x1A20 else if die = 5 then 0x6310 else carPath (die - 1) 0x310
def diePath (die : Nat) : Nat := (die + 1) * 0x1000
def sensorDomain (die : Nat) : Nat := if die = 0 then 8 else if die = 5 then 23 else 11 + 3 * (die - 1)

/-- The die exists and its sensor's domain is on (R598). -/
def supervised (h : Hw) (die : Nat) : Bool :=
  decide (die < 6) && (die == 0 || die == 5 || populated h (die - 1)) && domainOn h (sensorDomain die)

def thermal (h : Hw) (die : Nat) : Thermal := mget (fun _ => {}) h.island.dies die
def onThermal (h : Hw) (die : Nat) (f : Thermal → Thermal) : Hw :=
  onIsland h (fun i => { i with dies := mset (fun _ => {}) i.dies die (f (mget (fun _ => {}) i.dies die)) })

/-- Temperature and zone of a die. -/
def dieTemp (h : Hw) (die : Nat) : Int := getS h TH_TEMP_TEMP (inst die)
def dieZone (h : Hw) (die : Nat) : Nat := getF h TH_TEMP_ZONE (inst die)
/-- Thresholds of a die in 1/8 degree; TCOLD is S8 (R609). -/
def tcold (h : Hw) (die : Nat) : Int := 8 * getS h TH_THR_TCOLD (inst die)
def twarn (h : Hw) (die : Nat) : Int := 8 * getF h TH_THR_TWARN (inst die)
def tsd (h : Hw) (die : Nat) : Int := 8 * getF h TH_THR_TSD (inst die)
def trs (h : Hw) (die : Nat) : Int := 8 * getF h TH_THR_TRS (inst die)

/-- The working, powered neighbours of a die (R599). -/
def neighbours (h : Hw) (die : Nat) : List Nat :=
  let l := if die = 0 then [1, 2, 3, 4, 5] else if die = 5 then [0, 1, 4] else [0, die % 4 + 1, (die + 2) % 4 + 1]
  l.filter (fun n => supervised h n && getF h TH_TEMP_BROKEN (inst n) == 0)

/-- Insertion into a rising list of integers. -/
def sortIn (a : Int) : List Int → List Int
  | [] => [a]
  | b :: l => if a ≤ b then a :: b :: l else b :: sortIn a l

/-- Twice the median of a list; the mean of the middle two of an even number. -/
def twiceMedian (l : List Int) : Int :=
  let s := l.foldr sortIn []
  let n := s.length
  s.getD ((n - 1) / 2) 0 + s.getD (n / 2) 0

/-- The spindle ceiling in force (R602): the lower of SP_GLIM.CEIL and, while any die is Warm or hotter, the thermal ceiling. -/
def ceilingInForce (h : Hw) : Nat :=
  let ceil := getF h SP_GLIM_CEIL 0
  if (List.range 6).any (fun die => decide (2 ≤ dieZone h die)) then min ceil (liveVal h 0x1A00 0x053 0) else ceil

/-- No WG rises on carriage `c` again until the start or the recovery that allows it; the sector in flight is completed (R279). -/
def stopWrites (h : Hw) (c : Nat) : Hw := onPath h c (fun p => { p with noWrite := true })

/-- A thermal hold begins (R603): steps 1-3 of hot removal for the commands in flight, the carriages unload, the spindle stops
once the heads are parked. Fetching goes on: admin commands are served, and every later I/O command ends with Namespace Not Ready. -/
def beginHold (h : Hw) : Hw :=
  let h := onBoot h (fun b => { b with thermalHold := true, drainAt := if b.thermalHold then b.drainAt else some h.log.optime })
  onSpindle (unloadAll h) (fun p => { p with stopping := true })

/-- The cause of class [3] in a die's thermal leaf holds while the die is in Shutdown or tripped (R141, R608). -/
def heatCause (h : Hw) (die : Nat) (on : Bool) : Hw := setCause h (thermalLeaf die) 3 on

/-- Latch and record class [3] in a thermal leaf with the severity of R589. -/
def raiseThermal (h : Hw) (die severity code : Nat) (forced : Bool) : Hw :=
  let u := thermalLeaf die
  let h := onUnit h u (fun x => { x with summary := x.summary ||| 8 })
  raiseRecord h u 0x103 severity code forced

/-- A die enters Shutdown (R603): counted, recorded, and the reaction of its die. -/
def thermalShutdown (h : Hw) (die : Nat) (forced : Bool) : Hw :=
  if 3 ≤ dieZone h die then h
  else
    let h := heatCause (setF h TH_TEMP_ZONE (inst die) 3) die true
    let h := onThermal h die (fun t => { t with shutdowns := (t.shutdowns + 1) % 2 ^ 32, coolAt := none })
    if die = 0 ∨ die = 5 then beginHold (raiseThermal h die 6 0 forced)
    else
      let c := die - 1
      let h := startUnload (stopWrites (raiseThermal h die 5 2 forced) c) c
      let k := carPath c 0
      if fenceVal h k ≠ 1 ∧ fenceVal h k ≠ 2 then
        let h := cutBlocks (setFence h k 2) (fenceMembers h k) 8
        startProgress (stopFormatter (setF h HQ_STAT_FENCED 0 (putBit (getF h HQ_STAT_FENCED 0) c true)) c)
      else h

/-- The zone a temperature puts a die in that is in zone `z` below Shutdown (R601): Warm and Cold are left only 3 degrees
inside their thresholds. -/
def zoneOf (h : Hw) (die : Nat) (z : Nat) (t : Int) : Nat :=
  if tsd h die ≤ t then 3
  else if twarn h die ≤ t then 2
  else if t < tcold h die then 1
  else if z = 2 ∧ twarn h die - 24 ≤ t then 2
  else if z = 1 ∧ t < tcold h die + 24 then 1
  else 0

/-- A die below Shutdown is in the zone its temperature puts it in; entering Warm or Cold raises a record, entering Shutdown its reaction
(R601, R603). -/
def settleZone (h : Hw) (die : Nat) : Hw :=
  let z := dieZone h die
  let n := zoneOf h die z (dieTemp h die)
  if n = 3 then thermalShutdown h die false
  else
    let h := setF h TH_TEMP_ZONE (inst die) n
    if n ≠ z ∧ (n = 1 ∨ n = 2) then ruleRecord h (thermalLeaf die) 601 4 0 else h

/-- A die leaves Shutdown or a trip: it enters the zone of its temperature (R604, R607). -/
def leaveHeat (h : Hw) (die : Nat) : Hw :=
  let h := onThermal (heatCause h die false) die (fun t => { t with coolAt := none })
  settleZone (setF h TH_TEMP_ZONE (inst die) 0) die

/-- Update the zone of a die at a reading (R601), and the cooling timer of a die in Shutdown or tripped (R604, R607). -/
def updateZone (h : Hw) (die : Nat) : Hw :=
  let z := dieZone h die
  let t := dieTemp h die
  let cool : Bool := if z = 4 then decide (t < 840) else z == 3 && decide (t < trs h die) && (die != 0 || h.island.mr4Hot == 0)
  let h := onThermal h die (fun x => { x with coolAt := if cool then some (x.coolAt.getD h.log.optime) else none })
  if 3 ≤ z then h else settleZone h die

/-- The sensor of a die breaks (R599): class [3] is raised once, as Rec. -/
def breakSensor (h : Hw) (die : Nat) : Hw :=
  if getF h TH_TEMP_BROKEN (inst die) = 1 then h
  else
    let h := setF h TH_TEMP_BROKEN (inst die) 1
    let h := onThermal h die (fun t => { t with deviating := 0 })
    raiseThermal h die 3 0 false

/-- TEMP of a die from its reading, or its substitute (R600, R608). -/
def updateTemp (h : Hw) (die : Nat) : Hw :=
  let i := inst die
  if flagF h TH_FORCE_FEN i then
    setS (setF (setF h TH_TEMP_FORCED i 1) TH_TEMP_SUBST i 0) TH_TEMP_TEMP i (getS h TH_FORCE_FTEMP i)
  else
    let h := setF h TH_TEMP_FORCED i 0
    if flagF h TH_TEMP_BROKEN i then
      let ns := neighbours h die
      let t := match ns with
        | [] => tsd h die
        | n :: l => l.foldl (fun m k => max m (dieTemp h k)) (dieTemp h n) + 8 * (getF h TH_XCHK_SUBOFS i : Int)
      setS (setF h TH_TEMP_SUBST i 1) TH_TEMP_TEMP i t
    else setS (setF h TH_TEMP_SUBST i 0) TH_TEMP_TEMP i (getS h TH_RAW_RAW i)

/-- TEMPERATURE_READING (R598): the diode of a supervised die reads `raw`. -/
def execTemperatureReading (die : Nat) (raw : Int) (s : State) : Res := s.run fun h =>
  if supervised h die then
    let i := inst die
    let raw := if flagF h TH_FORCE_FEN i then getS h TH_FORCE_FTEMP i else raw
    let h := setF (setS h TH_RAW_RAW i raw) TH_TEMP_VALID i 1
    let ns := neighbours h die
    let m := twiceMedian (ns.map (fun n => getS h TH_RAW_RAW (inst n)))
    let off := !ns.isEmpty && decide (16 * getF h TH_XCHK_XDEV i < (2 * raw - m).natAbs)
    let h := onThermal h die (fun t => { t with deviating := if off then t.deviating + 1 else 0 })
    let h := if 64 ≤ (thermal h die).deviating then breakSensor h die else h
    updateZone (updateTemp h die) die
  else h

/-- SENSOR_BROKEN (R599): the diode conversion finds an open or a short. -/
def execSensorBroken (die : Nat) (s : State) : Res := s.run fun h =>
  if supervised h die then updateZone (updateTemp (breakSensor h die) die) die else h

/-- Domain `d` is powered where nothing else keeps it off (R145, R603, R629). -/
def powerWanted (h : Hw) (d : Nat) : Hw := if domainExists h d && !(wantedOff h d) then powerUpMotor h d else h

/-- Return to service of a carriage fenced by heat (R604): re-initialised and unfenced as by a write of 0 to 003; its thermal
class does not bar it, as the re-initialise clears it. Its domains are on again. -/
def recoverCarriage (h : Hw) (c : Nat) : Hw :=
  let h := onUnit h (carPath c 0x310) (fun x => { x with summary := x.summary - (x.summary &&& 8), cause := x.cause - (x.cause &&& 8) })
  let h := onPath h c (fun p => { p with noWrite := false })
  let h := powerWanted (powerWanted h (9 + 3 * c)) (10 + 3 * c)
  if unfenceBarred h (carPath c 0) then h else unfenceSet h (carPath c 0)

/-- A thermal hold ends when no die that holds it is left (R603, R604): domains on, fetching, the gates of stage 0x09 (R116). -/
def endHold (h : Hw) : Hw :=
  if h.boot.thermalHold && decide (dieZone h 0 < 3) && decide (dieZone h 5 < 3) && h.island.mr4Hot == 0 then
    let h := onSpindle (onBoot h (fun b => { b with thermalHold := false, drainAt := none })) (fun p => { p with stopping := false })
    backToGates ([5, 21, 22, 9, 10, 11, 12, 13, 14, 15, 16, 17, 18, 19, 20].foldl powerWanted h)
  else h

/-- The cooling timer of a die has run for `ms` (R604, R607). -/
def cooledFor (h : Hw) (die ms : Nat) : Bool :=
  match (thermal h die).coolAt with
  | some t => decide (t + ms ≤ h.log.optime)
  | none => false

/-- THERMAL_SHUTDOWN_END (R604): TEMP has stayed below TRS for 10 s. -/
def execThermalShutdownEnd (die : Nat) (s : State) : Res := s.run fun h =>
  if dieZone h die = 3 ∧ cooledFor h die 10000 ∧ die < 6 then
    let h := leaveHeat h die
    if die = 0 ∨ die = 5 then endHold h else recoverCarriage h (die - 1)
  else h

/-- HARDWARE_TRIP (R605, R606): the die's own diode, or (with a broken sensor) TEMP, reached 125 degrees. A die that
is below Shutdown meets TSD with it: that Shutdown is recorded and counted too (R608, log entry 41). -/
def execHardwareTrip (die : Nat) (s : State) : Res := s.run fun h =>
  if supervised h die ∧ !(flagF h TH_TRIP_TRIPPED (inst die)) ∧
     (!(flagF h TH_TEMP_BROKEN (inst die)) ∨ 1000 ≤ dieTemp h die) then
    let i := inst die
    let now := h.log.optime
    let (code, severity) := if die = 0 ∨ die = 5 then (0, 6) else (2, 5)
    let h := if dieZone h die < 3 then
        onThermal (raiseRecord h (thermalLeaf die) 0x103 severity code false) die (fun t => { t with shutdowns := (t.shutdowns + 1) % 2 ^ 32 })
      else h
    let h := heatCause (setF (setF (setF h TH_TRIP_TRIPPED i 1) TH_TRIP_TLATCH i 1) TH_TEMP_ZONE i 4) die true
    let h := raiseThermal h die severity code false
    let recent := ((thermal h die).tripTimes.filter (fun t => decide (now ≤ t + 86400000))).take 2
    let held := decide (2 ≤ recent.length)
    let h := onThermal h die (fun t => { t with trips := (t.trips + 1) % 2 ^ 32, tripTimes := now :: recent, tripHeld := held, coolAt := none })
    let h := raiseAlert h 4 (diePath die)
    let h := if held then askStair4 h 0x103 else h
    if die = 0 then
      let h := (List.range 6).foldl (fun h d => domainFar h (d + 1)) (onIsland h (fun x => { x with domHeld := x.domHeld ||| 0x3F }))
      let h := (List.range 4).foldl stopWrites h
      stopAlive (gatesLow (retractAll h)) 3
    else if die = 5 then
      let h := onIsland (retractAll h) (fun x => { x with tripAt := now })
      if h.spindle.holdUp then onIsland h (fun x => { x with tripHoldUp := true })
      else
        let h := gatesLow h
        if allParked h then holdMotor h else onIsland h (fun x => { x with tripHoldUp := true })
    else fenceCarriage (startRetract (stopWrites h (die - 1)) (die - 1)) (die - 1)
  else h

/-- TRIP_HOLD_UP_END (R606): every drive is Parked, or 200 ms have passed since the trip of the motor die. -/
def execTripHoldUpEnd (s : State) : Res := s.run fun h =>
  if h.island.tripHoldUp ∧ (drivesParked h ∨ h.island.tripAt + 200 ≤ h.log.optime) then holdMotor (gatesLow (onIsland h (fun x => { x with tripHoldUp := false }))) else h

/-- TRIP_RECOVERY (R607): the die's temperature has stayed below 105 degrees for 1 s. -/
def execTripRecovery (die : Nat) (s : State) : Res := s.run fun h =>
  if die < 6 ∧ flagF h TH_TRIP_TRIPPED (inst die) ∧ !((thermal h die).tripHeld) ∧ cooledFor h die 1000 then
    let h := leaveHeat (setF h TH_TRIP_TRIPPED (inst die) 0) die
    if die = 0 then takeReset h 5 0x1A20
    else if die = 5 then
      let h := onIsland h (fun x => { x with domHeld := x.domHeld - (x.domHeld &&& 0x300000) })
      if h.boot.thermalHold then endHold h else backToGates h
    else if dieZone h die = 3 then h
    else recoverCarriage h (die - 1)
  else h

/-- TH_FORCE_WRITE (R594): a write of TH_FORCE of a die's page lands; in sealed mode only source 6 is taken. -/
def execThForceWrite (die source data : Nat) (s : State) : Res := s.run fun h =>
  if isSealed h ∧ source ≠ 6 then loseWrite h (0xF00000 + inst die) (source % 8) 0x14
  else setF (setF h TH_FORCE_FEN (inst die) (bits 31 31 data)) TH_FORCE_FTEMP (inst die) (bits 15 0 data)

/-- A heartbeat is missed (R596): counted, ALIVE stops, class [5]; a window that closes without a first write (`unbeaten`) is
failure 0x0F (R118). -/
def heartbeatMiss (h : Hw) (unbeaten : Bool) : Hw :=
  let h := setF h TH_HBSTAT_ARMED 0 0
  let h := stopAlive (onIsland h (fun i => { i with misses := (i.misses + 1) % 2 ^ 32 })) 1
  let h := if unbeaten then startFail h 0x0F 0 else takeReset h 4 0
  raiseFault h 0x1A40 5 false

/-- TH_HBEAT_WRITE (R596): a write of TH_HBEAT lands. -/
def execThHbeatWrite (key : Nat) (s : State) : Res := s.run fun h =>
  if !(flagF h TH_HBSTAT_ARMED 0) ∨ !h.pins.resetIn then h
  else
    let next := getF h TH_HBSTAT_NEXT 0
    if key % 256 = next then
      let h := setF h TH_HBSTAT_NEXT 0 (if next = 0xA5 then 0x5A else 0xA5)
      let h := onIsland h (fun i => { i with beaten := true, beatAt := h.log.optime })
      if h.island.alive = .notStarted then setF (onIsland h (fun i => { i with alive := .toggling })) TH_HBSTAT_ALIVE 0 1 else h
    else heartbeatMiss h false

/-- HEARTBEAT_MISS (R596): 100 ms have passed since the last correct write, or since the window opened. -/
def execHeartbeatMiss (s : State) : Res := s.run fun h =>
  if flagF h TH_HBSTAT_ARMED 0 ∧ h.island.beatAt + 100 ≤ h.log.optime then heartbeatMiss h (!h.island.beaten) else h

/-- ALIVE_STOP (R597): 2 ms after a stop cause. -/
def execAliveStop (s : State) : Res := s.run fun h =>
  if h.island.stopDue = 0 ∨ h.log.optime < h.island.stopAt + 2 then h
  else setF (setF (onIsland h (fun i => { i with stopDue := 0, alive := .stopped })) TH_HBSTAT_ALIVE 0 0) TH_HBSTAT_STOPPED 0 1

end Sys2Proof.Machine
end

