-- ==== Sys2Proof/Machine/Spindle.lean ====
section
/-! DEFINITION. The spindle drive: control loops, observer, start, stop, re-catch, glide, supply watch (R66, R371-R398, R405, R655).
Currents in mA, voltages in mV, speeds in rpm, angles in turns. -/
namespace Sys2Proof.Machine

def sp (h : Hw) : Spindle := h.spindle

/-- Heads are loaded on some carriage. -/
def headsLoaded (h : Hw) : Bool := (List.range 4).any (fun c => getF h AC_STAT_STATE (inst c) == 2 || getF h AC_STAT_STATE (inst c) == 3)

/-- Heads are loaded or the spindle turns (R66). -/
def inMotion (h : Hw) : Bool := getF h SP_STAT_STATE 0 != 0 || !(drivesParked h)

/-- A domain enters reset with RESET_IN_N: the motor die's outputs go to their rest levels (R61). -/
def cutDomain (h : Hw) (d : Nat) : Hw :=
  let h := domainFar (setF h PW_DOM_ON 0 (putBit (getF h PW_DOM_ON 0) (d - 1) false)) d
  if d = 22 then { h with drives := .all {} } else if d = 23 then setF h SP_PSTAT_HU 0 0 else h

/-- RESET_IN_N_FALL (R66): heads loaded or the spindle turning keep domains 21-24 for the power-loss sequence, CAUSE 3; the rest
of the device enters reset at once, with ALIVE low (R595). -/
def execResetInNFall (s : State) : Res := s.run fun h =>
  if !h.pins.resetIn then h
  else
    let moving := inMotion h
    let h := if moving ∧ !(flagF h SP_PSTAT_PLOSS 0) then powerLossSignal h 3 else h
    let h := onPins h (fun p => { p with resetIn := false, phyRst := false })
    let h := onIsland h (fun i => { i with alive := .notStarted, stopDue := 0 })
    let h := setF (setF (setF h TH_HBSTAT_ALIVE 0 0) TH_HBSTAT_ARMED 0 0) PW_BOOT_STAGE 0 0
    let h := onBoot h (fun b => { b with fallRetract := moving && h.spindle.holdUp })
    let h := onEngine h (fun e => { e with cmds := [], posting := [] })
    let keep := if moving && h.spindle.holdUp then [21, 22, 23, 24, 8] else [8]
    let h : Hw := { h with cores := .all {} }
    (List.range 24).foldl (fun h i => if keep.contains (i + 1) then h else cutDomain h (i + 1)) h

/-! Commutation (R330, R377-R379, R386, R387). -/

/-- Last sideband message of carriage `c`. -/
def lastMsg (h : Hw) (c : Nat) : SbMsg := mget (fun _ => {}) (sp h).last c

/-- Time since the last message of carriage `c` arrived, and the wedge period that it gives, ns (R386). -/
def msgAge (h : Hw) (c : Nat) : Rat := 5000 * (zget (sp h).ta c : Rat)
def msgPeriod (h : Hw) (c : Nat) : Rat := (lastMsg h c).period * (15625 / 1000000)

/-- Time from the SAM of the last message of carriage `c`, ns (R386). -/
def sinceSam (h : Hw) (c : Nat) : Rat := ((lastMsg h c).age : Rat) * 5 / 2 + zget (sp h).lat c + msgAge h c

/-- The message of carriage `c` satisfies R386: LOCK and EVALID set and at most two wedge periods old; a fenced carriage gives none
(R404). -/
def messageFresh (h : Hw) (c : Nat) : Bool :=
  bitAt (lastMsg h c).flags 1 && bitAt (lastMsg h c).flags 2 && decide (msgAge h c < 2 * msgPeriod h c) && !(carFenced h c)

/-- The wedge source (R387): the named carriage while its messages are good, else the lowest good one; 7 none. -/
def wedgeSource (h : Hw) : Nat :=
  let w := getF h SP_CTL_WSRC 0
  if 1 ≤ w ∧ w ≤ 4 ∧ messageFresh h (w - 1) then w - 1
  else match (List.range 4).find? (messageFresh h) with
    | some c => c
    | none => 7

/-- Wedge timing is available. -/
def wedgeAvailable (h : Hw) : Bool := wedgeSource h != 7

/-- Electrical angle from a sideband message, `since` nanoseconds after its SAM (R330, R386): `T` is PERIOD x 15.625 ps. -/
def wedgeAngle (h : Hw) (m : SbMsg) (since : Rat) : Rat :=
  frac ((m.elph : Rat) / 65536 + divBy (((motor h).poles : Rat) * since) (640 * (m.period : Rat) * (15625 / 1000000)))

/-- Speed from wedge timing (R386). -/
def wedgeSpeed (m : SbMsg) : Rat := divBy (7200 * 833333) (m.period : Rat)

/-- Speed from the commutation source. -/
def speedNow (h : Hw) : Rat :=
  if getF h SP_STAT_CSRC 0 = 0 then (sp h).ref
  else if getF h SP_STAT_CSRC 0 = 2 then wedgeSpeed (lastMsg h (wedgeSource h))
  else (sp h).obsRpm

/-- IMAX, IALIGN in mA. -/
def imax (h : Hw) : Rat := getF h SP_LIM_IMAX 0

/-- Back-EMF voltage that the speed makes, mV (R374): the line-to-line constant over the square root of 3. -/
def emfAt (h : Hw) (rpm : Rat) : Rat := divBy ((liveVal h 0x6110 0x013 0 : Rat) * rpm / 1000) (Config.sqrt 3)

/-- Length of a vector. -/
def norm (a b : Rat) : Rat := Config.sqrt (a * a + b * b)

/-! The current loops (R374-R376, R397). -/

/-- Time of the motor island passes by one control period (R35): ages of messages, phases, states and conditions. -/
def tickMotion (h : Hw) : Hw :=
  let turn : Rat := absR (speedNow h) / 60 * (5 / 1000000)
  let h := (List.range 4).foldl (fun h c => onDrive h c (fun d => { d with
    age := d.age + 1, turned := d.turned + turn, offFor := if d.differs then d.offFor + 1 else 0 })) h
  onSpindle h (fun p => { p with
    inState := p.inState + 1, waited := p.waited + 1, lossAge := p.lossAge + 1
    ta := (List.range 4).foldl (fun m c => zset m c (zget m c + 1)) p.ta })

/-- The averaged phase currents and the buses of a control period (R373, R393, R397, R405). -/
def measureMotor (h : Hw) (iU iV : Rat) (v12 v5 : Nat) : Hw :=
  let h := setF (setF h SP_VBUS_V12 0 v12) SP_VBUS_V5 0 v5
  let h := if (sp h).holdUp ∧ v12 < getF h SP_PSTAT_MINV 0 then setF h SP_PSTAT_MINV 0 v12 else h
  let peak := max (absR iU) (max (absR iV) (absR (iU + iV)))
  onSpindle h (fun p => { p with
    ocur := if 5 / 4 * imax h < peak then p.ocur + 1 else 0
    quiet := if peak < imax h / 50 then p.quiet + 1 else 0 })

/-- The duty cycles of phases U, V and W by which space-vector modulation applies the vector (`va`, `vb`), mV, on a bus of `v12` mV: the phase
voltages shifted together so that the largest and the smallest lie alike about the middle of the bus (R373, R374; DEDUCED, log entry 60). -/
def dutyCycles (va vb v12 : Rat) : Rat × Rat × Rat :=
  let v := (Config.sqrt 3 * vb - va) / 2
  let w := (-(Config.sqrt 3 * vb) - va) / 2
  let mid := (max va (max v w) + min va (min v w)) / 2
  let duty := fun x => clampR 0 1 (1 / 2 + divBy (x - mid) v12)
  (duty va, duty v, duty w)

/-- The applied vector, stationary frame, mV (R373): the duty cycles of the last update times the measured bus, each phase corrected by the
sign of its current for a dead time of 150 ns in the 10 us of the carrier. -/
def appliedVector (h : Hw) (iU iV v12 : Rat) : Rat × Rat :=
  let sign := fun (x : Rat) => if 0 < x then (1 : Rat) else if x < 0 then -1 else 0
  let leg := fun (d i : Rat) => v12 * (d - 15 / 1000 * sign i)
  let u := leg (sp h).du iU
  let v := leg (sp h).dv iV
  let w := leg (sp h).dw (-(iU + iV))
  ((2 * u - v - w) / 3, divBy (v - w) (Config.sqrt 3))

/-- The observer in one control period (R377): the back-EMF estimate, low-passed, drives the phase-locked loop. Resistance in mOhm,
inductance in 0.1 uH. -/
def observe (h : Hw) (iU iV v12 : Rat) : Hw :=
  let p := sp h
  let beta := fun (u v : Rat) => divBy (u + 2 * v) (Config.sqrt 3)
  let v := appliedVector h iU iV v12
  let rs : Rat := liveVal h 0x6110 0x011 0
  let ls : Rat := liveVal h 0x6110 0x012 0
  let part := fun (v i i0 : Rat) => v - rs * i / 1000 - ls * (i - i0) / 50
  let ea := Config.emfFilter p.emfA (part v.1 iU p.iU)
  let eb := Config.emfFilter p.emfB (part v.2 (beta iU iV) (beta p.iU p.iV))
  let eps := divBy (-(ea * Config.cosTurns p.obsTheta) - eb * Config.sinTurns p.obsTheta) (norm ea eb)
  let out := Config.pll p.obsTheta p.obsRpm eps
  onSpindle h (fun p => { p with
    emfA := ea, emfB := eb, obsTheta := frac out.1, obsRpm := out.2, epsSum := p.epsSum + absR eps, epsCount := p.epsCount + 1 })

/-- The observer gives the commutation: CSRC 1. -/
def useObserver (h : Hw) : Hw := setF h SP_STAT_CSRC 0 1

/-- The spindle coasts after an observer loss with no wedge timing and is caught again from its zero crossings, CSRC 3 (R379, R395); during a
power loss it is not (R397). -/
def lostCoast (h : Hw) : Hw :=
  let decel := spState h == spDecelerating
  let h := setSp (loopsOff h) spCoasting
  let again := !(flagF h SP_PSTAT_PLOSS 0)
  let h := onSpindle h (fun p => { p with recatch := again, resumeDecel := decel })
  if again then setF h SP_STAT_CSRC 0 3 else h

/-- Electrical angle of this control period (R374, R379, R386, R391): 0 in Aligning, the turning vector in Open-loop, the wedge map or the
observer. -/
def commutationAngle (h : Hw) : Rat :=
  let csrc := getF h SP_STAT_CSRC 0
  if spState h = spAligning then 0
  else if csrc = 0 then frac ((sp h).theta + (motor h).poles * (sp h).ref / 60 * (5 / 1000000))
  else if csrc = 2 then wedgeAngle h (lastMsg h (wedgeSource h)) (sinceSam h (wedgeSource h))
  else (sp h).obsTheta

/-- The current loops in one control period at angle `theta` (R374-R376, R397). -/
def currentLoops (h : Hw) (iU iV v12 theta : Rat) : Hw :=
  let cs := Config.cosTurns theta
  let sn := Config.sinTurns theta
  let b := divBy (iU + 2 * iV) (Config.sqrt 3)
  let id := iU * cs + b * sn
  let iq := b * cs - iU * sn
  let p := sp h
  let weaken := decide (spState h ≠ spAligning ∧ spState h ≠ spOpenLoop)
  -- hold-up (R397): the current that holds the bus at VHU
  let err : Rat := (getF h SP_HU_VHU 0 : Rat) - v12
  let hI := if p.holdUp then p.h + Config.khi * err else p.h
  let iqRef := if p.holdUp then -(clampR 0 (imax h) (Config.khu * err + p.h)) else p.iqRef
  let iqLim := Config.sqrt (imax h * imax h - p.idRef * p.idRef)
  let iqRef := clampR (-iqLim) iqLim iqRef
  let kp : Rat := (getF h SP_CLG_KPC 0 : Rat) / 1000
  let ki : Rat := (getF h SP_CLG_KIC 0 : Rat) / 1000
  let ed := p.idRef - id
  let eq := iqRef - iq
  let vd := kp * ed + p.sd
  let vq := kp * eq + p.sq + emfAt h (speedNow h)
  let vlim : Rat := divBy ((getF h SP_LIM_MMAX 0 : Rat) / 256 * v12) (Config.sqrt 3)
  let len := norm vd vq
  let vdL := if vlim < len then clampR (-vlim) vlim vd else vd
  let rest := Config.sqrt (vlim * vlim - vdL * vdL)
  let vqL := if vlim < len then clampR (-rest) rest vq else vq
  let cutD := decide (vdL ≠ vd) && decide (0 ≤ ed * (vd - vdL))
  let cutQ := decide (vqL ≠ vq) && decide (0 ≤ eq * (vq - vqL))
  let idRef := if weaken then clampR (-(imax h) / 2) 0 (p.idRef - (divBy len vlim - (getF h SP_LIM_FWTH 0 : Rat) / 256) * imax h / 1024) else p.idRef
  let va := vdL * cs - vqL * sn
  let vb := vdL * sn + vqL * cs
  let (du, dv, dw) := dutyCycles va vb v12
  let h := onSpindle h (fun p => { p with
    theta := theta, sd := if cutD then p.sd else p.sd + ki * ed, sq := if cutQ then p.sq else p.sq + ki * eq,
    vd := vdL, vq := vqL, idRef := idRef, iqRef := iqRef, h := hI, va := va, vb := vb,
    du := du, dv := dv, dw := dw })
  emit (setF h SP_STAT_FW 0 (weaken && decide (idRef < 0)).toNat) (.gates du dv dw)

/-- The open-loop vector turns faster by 300 rpm/s up to 300 rpm (R391). -/
def rampOpenLoop (h : Hw) : Hw :=
  if spState h = spOpenLoop then onSpindle h (fun p => { p with ref := min 300 (p.ref + 300 * (5 / 1000000)) }) else h

/-- With no carriage left as wedge source while CSRC is 2, the spindle coasts (R387, R395, R404). -/
def sourceLost (h : Hw) : Hw := if getF h SP_STAT_CSRC 0 = 2 ∧ !(wedgeAvailable h) then lostCoast h else h

/-- The braking clamp is released when the bus falls 200 mV below VBRK (R382). -/
def releaseClamp (h : Hw) (v12 : Nat) : Hw :=
  if flagF h SP_STAT_VCLAMP 0 ∧ v12 + 200 ≤ getF h SP_HU_VBRK 0 then setF h SP_STAT_VCLAMP 0 0 else h

/-- CONTROL_PERIOD (R35, R373-R377, R391, R397): two samples of each phase current in mA, the buses in mV. -/
def execControlPeriod (u1 u2 v1 v2 : Int) (v12 v5 : Nat) (s : State) : Res := s.run fun h =>
  let iU : Rat := ((u1 + u2 : Int) : Rat) / 2
  let iV : Rat := ((v1 + v2 : Int) : Rat) / 2
  let h := tickMotion h
  let h := if (sp h).holdUp ∧ 30 ≤ (sp h).lossAge then retractAll h else h
  if !(domainUp h 21) then h
  else
    let h := releaseClamp (measureMotor h iU iV v12 v5) v12
    let h := setF (if (sp h).loops then rampOpenLoop (sourceLost h) else h) SP_STAT_WCAR 0 (wedgeSource h)
    if !(sp h).loops then setF (onSpindle h (fun p => { p with iU := iU, iV := iV })) SP_SPD_RPM 0 0
    else
      let h := observe h iU iV v12
      let h := currentLoops (onSpindle h (fun p => { p with iU := iU, iV := iV })) iU iV v12 (commutationAngle h)
      setF (setF h SP_SPD_RPM 0 (roundR (speedNow h)).natAbs) SP_STAT_DIR 0 (decide (speedNow h < 0)).toNat

/-- What the lock of the observer starts (R390, R391, R395): closed loop from the present speed. -/
def onLock (h : Hw) : Hw :=
  let h := setF h SP_IRQS_LOCK 0 1
  let p := sp h
  let ref := p.obsRpm
  if p.seeded then
    let h := if p.recatch then ruleRecord (addF (setF h SP_IRQS_RECATCH 0 1) SP_CNT_COUNT 16 1) 0x6120 395 3 0 else h
    let h := useObserver (onSpindle h (fun p => { p with seeded := false, w := 0, ref := ref, recatch := false, await := false }))
    if ref < 0 then setSp h spDecelerating
    else if p.stopping ∨ p.resumeDecel then setSp (onSpindle h (fun p => { p with resumeDecel := false, stopping := true })) spDecelerating
    else setSp h spAccelerating
  else if spState h = spOpenLoop then
    let w := ((motor h).ialign : Rat) * Config.sinTurns (p.theta - p.obsTheta)
    setSp (useObserver (onSpindle h (fun p => { p with w := w, ref := ref, idRef := 0 }))) spAccelerating
  else h

/-- The observer is declared lost (R378, R394, R395): counted and recorded; wedge timing takes over by WEDGE_FALLBACK when it is
available with heads loaded, else the spindle coasts. -/
def onLoss (h : Hw) : Hw :=
  let h := addF (setF h SP_IRQS_OLOST 0 1) SP_CNT_COUNT 8 1
  let h := ruleRecord h 0x6120 378 3 0
  let h := ecalFailAll (onSpindle h (fun p => { p with locked := false, good := 0, bad := 0, agree := 0 }))
  if getF h SP_STAT_CSRC 0 ≠ 1 then h
  else if headsLoaded h && wedgeAvailable h && flagF h SP_CTL_WFBEN 0 then h
  else lostCoast h

/-- OBSERVER_EVALUATION (R378): after 64 control periods, from the mean absolute phase error and the length of the back-EMF estimate. CONF
below 200 ends the calibration runs with FAIL (R388). -/
def execObserverEvaluation (s : State) : Res := s.run fun h =>
  if !(sp h).loops ∨ (sp h).epsCount < 64 then h
  else
    let l := Config.ln (divBy (norm (sp h).emfA (sp h).emfB) (emfAt h (absR (sp h).obsRpm)))
    let mean := Config.radTurns ((sp h).epsSum / (sp h).epsCount)
    let conf := (max 0 (min 255 (roundR (255 * max 0 (1 - 16 * mean) * max 0 (1 - 4 * absR l))))).toNat
    let h := onSpindle h (fun p => { p with epsSum := 0, epsCount := 0 })
    let h := if conf < 200 then ecalFailAll h else h
    let h := setF h SP_STAT_CONF 0 conf
    let fast := decide (300 ≤ absR (sp h).obsRpm)
    let good := if getF h SP_OBS_CLOCK 0 ≤ conf then (sp h).good + 1 else 0
    let bad := if conf < getF h SP_OBS_CLOST 0 then (sp h).bad + 1 else 0
    let was := (sp h).locked
    let h := onSpindle h (fun p => { p with good := min good 4, bad := min bad 2 })
    let closed := decide ((4 ≤ spState h ∧ spState h ≤ 6) ∨ spState h = spHoldUp)
    if was ∧ (2 ≤ bad ∨ (!fast ∧ closed)) then onLoss h
    else if !was ∧ 4 ≤ good ∧ fast then onLock (onSpindle h (fun p => { p with locked := true, agree := 0 }))
    else if was ∧ getF h SP_STAT_CSRC 0 = 2 then
      let d := frac ((sp h).obsTheta - (sp h).theta)
      let n := if d ≤ 1 / 64 ∨ 63 / 64 ≤ d then (sp h).agree + 1 else 0
      let h := onSpindle h (fun p => { p with agree := n })
      if 4 ≤ n then ruleRecord (setF (useObserver h) SP_IRQS_WSW 0 1) 0x6120 394 3 1 else h
    else h

/-- WEDGE_FALLBACK (R394): within one wedge period of a loss, the commutation source becomes wedge timing. -/
def execWedgeFallback (s : State) : Res := s.run fun h =>
  if (sp h).loops ∧ !(sp h).locked ∧ getF h SP_STAT_CSRC 0 = 1 then
    if headsLoaded h ∧ wedgeAvailable h ∧ flagF h SP_CTL_WFBEN 0 then
      let h := setF (setF (setF h SP_STAT_CSRC 0 2) SP_IRQS_WSW 0 1) SP_STAT_WCAR 0 (wedgeSource h)
      ruleRecord (addF h SP_CNT_COUNT 12 1) 0x6120 394 3 2
    else lostCoast h
  else h

/-! Speed loop and glide (R381-R384). -/

/-- A speed kept within 3,600-7,200 rpm (R383). -/
def inRange (n : Nat) : Nat := max 3600 (min 7200 n)

/-- The effective target (R383), under the thermal ceiling (R602). -/
def effectiveTarget (h : Hw) : Nat :=
  let request := if flagF h SP_CTL_GOV 0 then (sp h).request else getF h SP_TGT_RPM 0
  max (inRange (getF h SP_GLIM_FLOOR 0)) (min (inRange (ceilingInForce h)) (inRange request))

/-- Where the reference goes and its rate, rpm/s (R381): a stop falls to 0 by the braking limit. -/
def goalRate (h : Hw) : Rat × Rat :=
  let st := spState h
  let goal : Rat := if (sp h).ran then effectiveTarget h else 3600
  if st = spDecelerating then (0, getF h SP_RATE_BRATE 0)
  else if st = spRunning then (effectiveTarget h, max 10 (min 400 (getF h SP_RATE_GRATE 0)))
  else (goal, (motor h).accel)

/-- Move `x` toward `goal` by at most `d`. -/
def stepToward (x goal d : Rat) : Rat := if x < goal then min goal (x + d) else max goal (x - d)

/-- SPEED_LOOP (R381): every 200 us. Braking is clamped while the bus is at VBRK, released 200 mV below (R382); below 300 rpm a
deceleration ends in Braking (R390, R393). -/
def execSpeedLoop (s : State) : Res := s.run fun h =>
  let st := spState h
  if !(4 ≤ st ∧ st ≤ 6) ∨ !(sp h).loops then h
  else
    let speed := speedNow h
    if st = spDecelerating ∧ (if speed < 0 then -speed else speed) < 300 then
      let align : Bool := decide (speed < 0) && !(sp h).stopping
      brake (onSpindle h (fun p => { p with stopping := false })) align (if align then 500 else 0)
    else
      let v := getF h SP_VBUS_V12 0
      let vbrk := getF h SP_HU_VBRK 0
      let clampWas := flagF h SP_STAT_VCLAMP 0
      let clamp := if clampWas then decide (vbrk < v + 200) else decide (vbrk ≤ v)
      let h := setF h SP_STAT_VCLAMP 0 clamp.toNat
      let h := if clamp ∧ !clampWas then setF h SP_IRQS_VCLAMP 0 1 else h
      let (goal, rate) := goalRate h
      let p := sp h
      let ref := if clamp then (if clampWas then p.ref else speed) else stepToward p.ref goal (rate / 5000)
      let e := ref - speed
      let raw := (getF h SP_SLG_KPW 0 : Rat) / 256 * e + p.w
      let lim := Config.sqrt (imax h * imax h - p.idRef * p.idRef)
      let lo := if clamp ∧ 0 ≤ speed then 0 else -lim
      let hi := if clamp ∧ speed < 0 then 0 else lim
      let iq := clampR lo hi raw
      let w := if raw ≠ iq ∧ 0 ≤ e * (raw - iq) then p.w else p.w + (getF h SP_SLG_KIW 0 : Rat) / 4096 * e
      let h := onSpindle h (fun p => { p with ref := ref, iqRef := iq, w := w })
      setF h SP_SPD_REF 0 (roundR ref).natAbs

/-- DEMAND_GOVERNOR (R384): every 100 ms in Running, in demand mode. -/
def execDemandGovernor (s : State) : Res := s.run fun h =>
  if spState h = spRunning ∧ flagF h SP_CTL_GOV 0 then
    let u := (List.range 4).foldl (fun m c => if populated h c ∧ !(carFenced h c) then max m (zget (sp h).busy c) else m) 0
    let lo := inRange (getF h SP_GLIM_FLOOR 0)
    let hi := inRange (ceilingInForce h)
    let keep := fun (n : Nat) => max lo (min hi n)
    if 10 * getF h SP_GOV_UHI 0 ≤ u then
      onSpindle h (fun p => { p with request := keep (p.request + 100 * getF h SP_GOV_STEPUP 0), dwell := 0 })
    else if u ≤ 10 * getF h SP_GOV_ULO 0 then
      if 10 * getF h SP_GOV_DWELL 0 ≤ (sp h).dwell + 1 then
        onSpindle h (fun p => { p with request := keep (p.request - 100 * getF h SP_GOV_STEPDN 0), dwell := 0 })
      else onSpindle h (fun p => { p with request := keep p.request, dwell := p.dwell + 1 })
    else onSpindle h (fun p => { p with request := keep p.request, dwell := 0 })
  else h

/-! Start (R389-R392). -/

/-- A command is refused (R389, R393). -/
def refuseCommand (h : Hw) : Hw := setF h SP_IRQS_CREF 0 1

/-- The spindle is not started at all: the temperature gate holds (R107), debounced PRSNT_N is high (R93), or the heads strap is invalid
(R74). SP_IRQS.CREF shows it as any refusal of R389 (log entry 85). -/
def spindleBarred (h : Hw) : Bool := h.boot.coldGate || h.pins.prsntDebounced || headsPer h == 0

/-- A current-sense offset above 5 % of full scale stands with the gates low (R405): the currents measured last, against 6110:010. Currents
of Braking, with the low-side gates on, are none measured so. -/
def senseOffset (h : Hw) : Bool :=
  let full : Rat := liveVal h 0x6110 0x010 0
  !(sp h).gates && !(sp h).lowSide && (decide (full < 20 * absR (sp h).iU) || decide (full < 20 * absR (sp h).iV))

/-- SPINDLE_START (R389): SP_CMD.CMD = 1 lands. -/
def execSpindleStart (s : State) : Res := s.run fun h =>
  let st := spState h
  if getS h TH_TEMP_TEMP (inst 5) < 0 ∨ st = spFaulted ∨ st = spHoldUp ∨ flagF h SP_PSTAT_PLOSS 0 ∨ spindleBarred h then refuseCommand h
  else if 1 ≤ st ∧ st ≤ 5 then h
  else
    let h := addF h SP_CNT_COUNT 0 1
    if st = spDecelerating then setSp (onSpindle (setF h SP_STAT_ATTEMPT 0 1) (fun p => { p with stopping := false })) spAccelerating
    else if senseOffset h then raiseFault (spFault (refuseCommand h)) 0x6110 11 false
    else
      let h := setF h SP_STAT_ATTEMPT 0 1
      measure (onSpindle h (fun p => { p with ran := false, stopping := false, retry := false, recatch := false, resumeDecel := false, brakeThenAlign := false }))

/-- SPINDLE_STOP (R393): SP_CMD.CMD = 2 lands. -/
def execSpindleStop (s : State) : Res := s.run fun h =>
  if !(drivesParked h) ∨ spState h = spHoldUp then refuseCommand h else spindleStop (saveAll h)

/-- SPINDLE_COAST (R393): SP_CMD.CMD = 3 lands. -/
def execSpindleCoast (s : State) : Res := s.run fun h =>
  if !(drivesParked h) ∨ spState h = spHoldUp then refuseCommand h
  else if 1 ≤ spState h ∧ spState h ≤ 6 then coast h
  else h

/-- Seed the observer from the zero crossings (R390, R395): CSRC 3, loops at zero current. -/
def seed (h : Hw) (theta rpm : Rat) : Hw :=
  setF (onSpindle h (fun p => { p with loops := true, gates := true, seeded := true, obsTheta := frac theta, obsRpm := rpm, theta := frac theta, waited := 0,
                                       idRef := 0, iqRef := 0, w := 0, ref := rpm, good := 0, bad := 0, locked := false })) SP_STAT_CSRC 0 3

/-- Which way a crossing follows another: 1 forward, -1 backward, 0 neither. Crossings are numbered by the angle where they stand, sixths
of an electrical turn from the rising crossing of phase U: U rising, W falling, V rising, U falling, W rising, V falling (R385). -/
def crossingStep (a b : Nat × Rat) : Int := if b.1 % 6 = (a.1 + 1) % 6 then 1 else if a.1 % 6 = (b.1 + 1) % 6 then -1 else 0

/-- Steps and intervals between successive crossings, times in ns. -/
def crossingSteps (l : List (Nat × Rat)) : List (Int × Rat) := (l.zip (l.drop 1)).map (fun p => (crossingStep p.1 p.2, p.2.2 - p.1.2))

/-- Speed in rpm that crossings give, negative backward; none with fewer than three, or when their order is neither (R390). -/
def crossingRpm (h : Hw) (l : List (Nat × Rat)) : Option Rat :=
  let steps := crossingSteps l
  let mean := divBy ((steps.map (·.2)).foldl (· + ·) 0) steps.length
  let rpm := divBy 10000000000 ((motor h).poles * mean)
  if l.length < 3 then none
  else if steps.all (fun p => p.1 == 1) then some rpm
  else if steps.all (fun p => p.1 == -1) then some (-rpm)
  else none

/-- Electrical angle at time `t`, ns, from the last crossing (R385). -/
def crossingAngle (h : Hw) (l : List (Nat × Rat)) (rpm t : Rat) : Rat :=
  match l.getLast? with
  | some (k, at_) => frac (1 / 2 + (k % 6 : Nat) / 6 + (motor h).poles * rpm / 60 * (t - at_) / 1000000000)
  | none => 0

/-- MEASURING_END (R390): 20 ms of back-EMF have shown the zero crossings `l`, each with its number and time in ns from the beginning. -/
def execMeasuringEnd (l : List (Nat × Rat)) (s : State) : Res := s.run fun h =>
  if spState h ≠ spMeasuring ∨ (sp h).seeded ∨ (sp h).inState < 4000 then h
  else
    let rpm := (crossingRpm h l).getD 0
    let theta := crossingAngle h l rpm 20000000
    if 300 < rpm then seed h theta rpm
    else if rpm < -300 then setSp (seed h theta rpm) spDecelerating
    else if (sp h).stopping then brake (onSpindle h (fun p => { p with stopping := false })) false 100
    else if l ≠ [] then brake h true 100
    else setSp (onSpindle h (fun p => { p with loops := true, gates := true, theta := 0, ref := 0, idRef := (motor h).ialign, iqRef := 0 })) spAligning

/-- ALIGNMENT_END (R391): the alignment time of the profile has passed. -/
def execAlignmentEnd (s : State) : Res := s.run fun h =>
  if spState h = spAligning ∧ 200 * (motor h).talign ≤ (sp h).inState then setF (setSp h spOpenLoop) SP_STAT_CSRC 0 0 else h

/-- OPEN_LOOP_SPEED_REACHED (R391): the open-loop speed holds at 300 rpm and the lock is awaited. -/
def execOpenLoopSpeedReached (s : State) : Res := s.run fun h =>
  if spState h = spOpenLoop ∧ (sp h).ref = 300 ∧ !(sp h).await then onSpindle h (fun p => { p with await := true, waited := 0 }) else h

/-- An attempt has failed (R392): no lock within 500 ms at the open-loop speed or of a seed outside a re-catch, or below 150 rpm in closed
loop. -/
def attemptFailed (h : Hw) : Bool :=
  let late := decide (100000 ≤ (sp h).waited)
  (spState h == spOpenLoop && (sp h).await && late) || ((sp h).seeded && !(sp h).recatch && late) ||
  (decide (4 ≤ spState h ∧ spState h ≤ 5) && (sp h).loops && decide (absR (speedNow h) < 150))

/-- START_ATTEMPT_FAIL (R392): gates low; after the third failed attempt of one command the spindle is Faulted, class [8] in
0x6100, start failure 0x0B. -/
def execStartAttemptFail (s : State) : Res := s.run fun h =>
  if attemptFailed h then
    let h := addF (setF h SP_IRQS_STFAIL 0 1) SP_CNT_COUNT 4 1
    if 3 ≤ getF h SP_STAT_ATTEMPT 0 then
      let h := raiseFault (spFault h) 0x61F0 8 false
      if inBringUp h then startFail h 0x0B 0x6100 else h
    else onSpindle (setSp (loopsOff h) spCoasting) (fun p => { p with retry := true })
  else h

/-- AT_SPEED (R391): the reference has reached its target: Running; in a start, heads load next (R108, R115). -/
def execAtSpeed (s : State) : Res := s.run fun h =>
  if (sp h).ref ≠ (goalRate h).1 then h
  else if spState h = spAccelerating then
    let h := setF (onSpindle (setSp h spRunning) (fun p => { p with ran := true, dwell := 0 })) SP_IRQS_ATSPD 0 1
    if getF h PW_BOOT_STAGE 0 = 0x09 then setF h PW_BOOT_STAGE 0 0x0A else h
  else if spState h = spRunning then setF h SP_IRQS_ATSPD 0 1
  else h

/-- The present Braking is over: its time has passed, or the currents have stayed below 2 % of IMAX for 200 ms (R390, R393). -/
def brakingOver (h : Hw) : Bool :=
  if (sp h).brakeFor = 0 then decide (40000 ≤ (sp h).quiet) else decide (200 * (sp h).brakeFor ≤ (sp h).inState)

/-- BRAKING_END (R393): the braking is over. -/
def execBrakingEnd (s : State) : Res := s.run fun h =>
  if spState h = spBraking ∧ brakingOver h then
    if (sp h).brakeThenAlign then
      setF (setSp (onSpindle h (fun p => { p with
        brakeThenAlign := false, lowSide := false, loops := true, gates := true, theta := 0, ref := 0, idRef := (motor h).ialign })) spAligning) SP_STAT_CSRC 0 0
    else setSp (onSpindle (loopsOff h) (fun p => { p with stopping := false })) spStopped
  else h

/-- COAST_TO_STOPPED (R655): no crossing for 500 ms; a failed attempt starts again from state 1 (R392). -/
def execCoastToStopped (s : State) : Res := s.run fun h =>
  if spState h = spCoasting ∧ 100000 ≤ (sp h).inState then
    if (sp h).retry then
      measure (onSpindle (addF h SP_STAT_ATTEMPT 0 1) (fun p => { p with retry := false }))
    else setSp (onSpindle (loopsOff h) (fun p => { p with recatch := false, resumeDecel := false, stopping := false })) spStopped
  else h

/-- SPINDLE_RESET_CHECK (R655): within 20 ms of a reset the back-EMF inputs are checked with the gates low. -/
def execSpindleResetCheck (crossing : Bool) (s : State) : Res := s.run fun h =>
  if !(sp h).checkDue then h
  else
    let h := onSpindle h (fun p => { p with checkDue := false })
    if spState h = spCoasting ∧ !(sp h).loops ∧ !crossing then setSp h spStopped else h

/-! Re-catch (R395). -/

/-- Two electrical turns of crossings whose intervals agree within 10 % of their mean (R395). -/
def turnsAgree (l : List (Nat × Rat)) : Bool :=
  let t := (crossingSteps l).map (·.2)
  let mean := t.foldl (· + ·) 0 / 12
  l.length == 13 && t.all (fun x => decide (absR (x - mean) * 10 ≤ mean))

/-- RE_CATCH (R395): the last 13 crossings are two electrical turns that agree; the observer is seeded at the last of them;
its lock makes the re-catch. -/
def execReCatch (l : List (Nat × Rat)) (s : State) : Res := s.run fun h =>
  match crossingRpm h l, l.getLast? with
  | some rpm, some x =>
    if spState h = spCoasting ∧ (sp h).recatch ∧ !(sp h).seeded ∧ turnsAgree l ∧ 300 ≤ absR rpm then
      seed h (crossingAngle h l rpm x.2) rpm
    else h
  | _, _ => h

/-- RE_CATCH_FAIL (R395): 1 s has passed, or the speed that the crossings `l` or the observer give has fallen below 300 rpm. -/
def execReCatchFail (l : List (Nat × Rat)) (s : State) : Res := s.run fun h =>
  let slow : Bool := match crossingRpm h l with
    | some rpm => decide (absR rpm < 300)
    | none => (sp h).seeded && decide (absR (sp h).obsRpm < 300)
  if spState h = spCoasting ∧ (sp h).recatch ∧ (200000 ≤ (sp h).inState ∨ slow) then
    raiseFault (spFault (onSpindle h (fun p => { p with recatch := false }))) 0x6120 8 false
  else h

/-! Calibration of EOFS (R388). -/

/-- ECAL_START (R388): SP_ECALc.START lands. -/
def execEcalStart (c : Nat) (s : State) : Res := s.run fun h =>
  if c < 4 then
    let d := 4 * c
    let h := setF (setF (setF (setF h SP_ECAL_START d 1) SP_ECAL_DONE d 0) SP_ECAL_FAIL d 0) SP_ECAL_COUNT d 0
    onSpindle h (fun p => { p with ecalSin := mset (fun _ => 0) p.ecalSin c 0, ecalCos := mset (fun _ => 0) p.ecalCos c 0 })
  else h

/-- The run on carriage `c` may go on: the observer commutates with CONF at least 200. -/
def ecalGood (h : Hw) : Bool := getF h SP_STAT_CSRC 0 == 1 && decide (200 ≤ getF h SP_STAT_CONF 0)

/-- One message in a run: sine and cosine of the observer angle, back-dated to the SAM, less the wedge angle (R388). -/
def ecalMessage (h : Hw) (c : Nat) (m : SbMsg) (lock : Bool) : Hw :=
  let d := 4 * c
  if !(flagF h SP_ECAL_START d) then h
  else if !lock ∨ !(ecalGood h) then ecalFail h c
  else if getF h SP_ECAL_COUNT d < 640 then
    let back := (m.age : Rat) * 5 / 2 + zget (sp h).lat c
    let delta := (sp h).obsTheta - (motor h).poles * (sp h).obsRpm / 60 * back / 1000000000 - frac (((motor h).poles : Rat) * m.wedge / 640)
    let h := onSpindle h (fun p => { p with
      ecalSin := mset (fun _ => 0) p.ecalSin c (mget (fun _ => 0) p.ecalSin c + Config.sinTurns delta)
      ecalCos := mset (fun _ => 0) p.ecalCos c (mget (fun _ => 0) p.ecalCos c + Config.cosTurns delta) })
    addF h SP_ECAL_COUNT d 1
  else h

/-- ECAL_END (R388): 640 messages are in. -/
def execEcalEnd (c : Nat) (s : State) : Res := s.run fun h =>
  let d := 4 * c
  if c < 4 ∧ flagF h SP_ECAL_START d ∧ getF h SP_ECAL_COUNT d = 640 then
    let h := if ecalGood h then
        let t := Config.atanTurns (mget (fun _ => 0) (sp h).ecalSin c) (mget (fun _ => 0) (sp h).ecalCos c)
        setF (setF h SP_ECAL_DONE d 1) SP_ECAL_EOFS d (roundR (65536 * t) % 65536).toNat
      else setF h SP_ECAL_FAIL d 1
    setF (setF h SP_ECAL_START d 0) SP_IRQS_ECAL 0 1
  else h

/-! Supply (R396-R398, R405). -/

/-- The buses have stood at these voltages, mV. -/
def showBuses (h : Hw) (v12 v5 : Nat) : Hw := setF (setF h SP_VBUS_V12 0 v12) SP_VBUS_V5 0 v5

/-- POWER_LOSS (R396): the buses have stood at `v12` and `v5` for 4 us; one below its threshold is a power loss. -/
def execPowerLoss (v12 v5 : Nat) (s : State) : Res := s.run fun h =>
  if !(domainUp h 23) then h
  else
    let h := showBuses h v12 v5
    let cause := if v12 < getF h SP_PLTH_PL12 0 then 1 else if v5 < getF h SP_PLTH_PL5 0 then 2 else 0
    if flagF h SP_PSTAT_PLOSS 0 ∨ cause = 0 then h else powerLossSignal h cause

/-- After a fall of RESET_IN_N, domains 21-24 go down when the sequence ends (R66). -/
def endFall (h : Hw) : Hw :=
  if h.boot.fallRetract then
    let h := onBoot h (fun b => { b with fallRetract := false })
    [21, 22, 23, 24].foldl cutDomain h
  else h

/-- HOLD_UP_END (R397): every drive is Parked and the sequence ends; or the spindle fell below 600 rpm first and hold-up has failed
(R405), while the drives go on with their profiles. -/
def execHoldUpEnd (s : State) : Res := s.run fun h =>
  if !(sp h).holdUp then h
  else if drivesParked h then
    let h := endFall (coast (onSpindle h (fun p => { p with holdUp := false, holdFailed := false })))
    if h.island.tripHoldUp then holdMotor (onIsland h (fun x => { x with tripHoldUp := false })) else h
  else if absR (speedNow h) < 600 ∧ !(sp h).holdFailed then
    raiseFault (onSpindle h (fun p => { p with holdFailed := true })) 0x6320 4 false
  else h

/-- SUPPLY_RETURN (R398): the buses have stood at `v12` and `v5` for 10 ms after the end of the sequence, RESET_IN_N high. -/
def execSupplyReturn (v12 v5 : Nat) (s : State) : Res := s.run fun h =>
  if !(domainUp h 23) then h
  else
  let h := showBuses h v12 v5
  if 11400 ≤ v12 ∧ 4750 ≤ v5 ∧ flagF h SP_PSTAT_PLOSS 0 ∧ !(sp h).holdUp ∧ h.pins.resetIn then
    let h := setF (setF (setF h SP_PSTAT_PLOSS 0 0) SP_PSTAT_HU 0 0) SP_IRQS_PWRBACK 0 1
    let h := (List.range 4).foldl (fun h c => if populated h c then
      onFmt (onPath h c (fun p => { p with noWrite := decide (3 ≤ getF h TH_TEMP_ZONE (inst (c + 1))) })) c (fun f => { f with ploss := false }) else h) h
    let h := onEngine h (fun e => { e with lossHold := false })
    backToGates h
  else h

/-- OVERCURRENT (R405): a phase current above 1.25 IMAX in two consecutive periods. -/
def execOvercurrent (s : State) : Res := s.run fun h =>
  if ((sp h).loops ∨ (sp h).lowSide) ∧ 2 ≤ (sp h).ocur then raiseFault (setF (setSp (loopsOff h) spCoasting) SP_IRQS_OCUR 0 1) 0x6110 8 false else h

/-- BUS_OVERVOLTAGE (R405): VBUS12 has stood at `v12` mV for 4 us: above 15.0 V it is a fault. -/
def execBusOvervoltage (v12 : Nat) (s : State) : Res := s.run fun h =>
  if domainUp h 23 ∧ 15000 < v12 then raiseFault (retractAll (coast (setF h SP_VBUS_V12 0 v12))) 0x6310 4 false else h

end Sys2Proof.Machine
end

