-- ==== Sys2Proof/Machine/Actuator.lean ====
section
/-! DEFINITION. The voice-coil and microactuator drives of a carriage (R400-R405). -/
namespace Sys2Proof.Machine

/-- State of the drive of carriage `c` (R406). -/
def acState (h : Hw) (c : Nat) : Nat := getF h AC_STAT_STATE (inst c)
def setAc (h : Hw) (c st : Nat) : Hw := setF h AC_STAT_STATE (inst c) st

/-- The microactuator output code (R401): midscale 8,192 unless the drive follows with MAEN and CMDV set. -/
def maCode (ma : Int) : Nat := (roundR ((4 / 5 + 4 / 5 * (ma : Rat) / 32768) * 16383 * 10 / 16)).toNat

/-- The LOCK, EVALID, CMDV, MAEN and RETRACT flags of a sideband message (R362). -/
def sbCmdv (f : Nat) : Bool := bitAt f 0
def sbLock (f : Nat) : Bool := bitAt f 1
def sbEvalid (f : Nat) : Bool := bitAt f 2
def sbRetract (f : Nat) : Bool := bitAt f 3
def sbMaen (f : Nat) : Bool := bitAt f 4

/-- A message with CMDV set drives the voice coil and the microactuator (R400, R401). -/
def applyCommand (h : Hw) (c : Nat) (m : SbMsg) (follow : Bool) : Hw :=
  let v := q15 ((m.vcm + getS h AC_CAL_VOFS (inst c) : Int) : Rat)
  onDrive h c (fun d => { d with vcm := v, ma := if follow ∧ sbMaen m.flags then m.ma else 0,
                                 maCode := if follow ∧ sbMaen m.flags then maCode m.ma else 8192, holding := 0 })

/-- ACTUATOR_MESSAGE (R400): a sideband message of carriage `c` arrives; `sensed` is the voice-coil current in Q15 of IFS. -/
def execActuatorMessage (c : Nat) (vcm ma : Int) (wedge elph age period flags : Nat) (sensed : Int) (s : State) : Res := s.run fun h =>
  if !(populated h c) ∨ !(domainUp h 22) then h
  else
    let m : SbMsg := { vcm := vcm, ma := ma, wedge := wedge, elph := elph, age := age, period := period, flags := flags }
    let h := onSpindle h (fun p => { p with last := mset (fun _ => {}) p.last c m, ta := zset p.ta c 0 })
    let h := setS h AC_STAT_IMEAS (inst c) sensed
    let h := onDrive h c (fun d => { d with differs := sbCmdv flags && decide (32768 < 10 * (sensed - vcm).natAbs) })
    let h := ecalMessage h c m (sbLock flags)
    let st := acState h c
    if sbRetract flags then startRetract h c
    else if st = 0 ∨ st = 4 ∨ st = 5 then h
    else if sbCmdv flags then
      if st = 1 then
        if (h.drives.get c).profile = .none then
          let h := setAc (applyCommand h c m true) c 2
          let h := addF (setF h AC_IRQS_LOADED (inst c) 1) AC_CNT_COUNT (inst c) 1
          let h := onBoot h (fun b => { b with loaded := putBit b.loaded c true, loadFails := zset b.loadFails c 0 })
          let h := onChan (onServo h c (fun v => { v with leaving := false })) c (fun k => { k with loadedAt := h.log.optime })
          startProgress h
        else h
      else setAc (applyCommand h c m true) c 2
    else if st = 1 then h
    else
      let n := (h.drives.get c).holding + 1
      let h := onDrive h c (fun d => { d with holding := n, ma := 0, maCode := 8192 })
      if 16 < n then startRetract h c else setAc h c 3

/-- CURRENT_MISMATCH (R400): the sensed current has differed by more than 10 % of IFS for 1 ms. -/
def execCurrentMismatch (c : Nat) (s : State) : Res := s.run fun h =>
  if populated h c ∧ 200 ≤ (h.drives.get c).offFor then raiseFault (startRetract (setF h AC_IRQS_IMIS (inst c) 1) c) (0x6211 + c) 8 false else h

/-- The expected wedge period of carriage `c`, ns: of its last message, else by the spindle's speed (R402). -/
def expectedPeriod (h : Hw) (c : Nat) : Rat := if 0 < msgPeriod h c then msgPeriod h c else divBy 60000000000 (640 * absR (speedNow h))

/-- The servo sideband of carriage `c` is down (R19, R402). -/
def sidebandDown (h : Hw) (c : Nat) : Bool := (mget (fun _ => {}) h.links (5 + c) : LinkSt).state == 2

/-- SIDEBAND_TIMEOUT (R402): no message for four expected wedge periods, or the sideband down. -/
def execSidebandTimeout (c : Nat) (s : State) : Res := s.run fun h =>
  if populated h c ∧ acState h c ≠ 0 ∧ (4 * expectedPeriod h c ≤ msgAge h c ∨ sidebandDown h c) then
    let h := addF (setF h AC_IRQS_SBTO (inst c) 1) AC_CNT_COUNT (inst c + 12) 1
    ruleRecord (startRetract h c) (0x6211 + c) 402 3 0
  else h

/-- HOLDING_TIMEOUT (R402): 16 consecutive messages with CMDV 0. -/
def execHoldingTimeout (c : Nat) (s : State) : Res := s.run fun h =>
  if acState h c = 3 ∧ 16 ≤ (h.drives.get c).holding then startRetract h c else h

/-- A load is refused or has failed (R403). -/
def loadFail (h : Hw) (c : Nat) : Hw := addF (setF h AC_IRQS_LDFAIL (inst c) 1) AC_CNT_COUNT (inst c + 4) 1

/-- The spindle is Running at 3,600 rpm or above with CSRC 1 or 2 (R403). -/
def loadSpeed (h : Hw) : Bool :=
  spState h == spRunning && decide (3600 ≤ speedNow h) && (getF h SP_STAT_CSRC 0 == 1 || getF h SP_STAT_CSRC 0 == 2)

/-- Carriages load in ascending order in a start (R108): each carriage before `c` that takes part has begun its load, or has failed one
before (R109). -/
def loadTurn (h : Hw) (c : Nat) : Bool :=
  getF h PW_BOOT_STAGE 0 != 0x0A ||
    (List.range c).all (fun k => !(inStart h k) || acState h k != 0 || bitAt h.boot.loaded k || decide (0 < zget h.boot.loadFails k))

/-- LOAD (R403): AC_CMD = 1 lands. A load is refused away from load speed (R403), while debounced PRSNT_N is high (R93), and in a start
before its turn (R108); the last two show as R403's refusal does (log entry 85). -/
def execLoad (c : Nat) (s : State) : Res := s.run fun h =>
  if !(populated h c) then h
  else if acState h c = 0 ∧ loadSpeed h ∧ !h.pins.prsntDebounced ∧ loadTurn h c then
    let h := onDrive h c (fun d => { d with
      profile := .load, phase := 1, age := 0, turned := 0, vcm := percent (getF h AC_PROF_ILOAD (inst c)), holding := 0 })
    let h := setF (setAc h c 1) AC_STAT_LEAVING (inst c) 1
    let h := onServo h c (fun v => { v with leaving := true })
    if flagF h SV_CTL_ENA (inst c) ∧ domainUp h (11 + 3 * c) then beginSearch h c else h
  else loadFail h c

/-- UNLOAD (R403): AC_CMD = 2 lands. -/
def execUnload (c : Nat) (s : State) : Res := s.run fun h => startUnload h c

/-- RETRACT (R403): AC_CMD = 3 lands. -/
def execRetract (c : Nat) (s : State) : Res := s.run fun h => startRetract h c

/-- Time of the running phase, ms (R403). -/
def phaseTime (h : Hw) (c : Nat) : Nat :=
  let d := h.drives.get c
  match d.profile with
  | .load => if d.phase = 1 then getF h AC_TIME_TLD1 (inst c) else getF h AC_TIME_TLD2 (inst c)
  | _ => if d.phase = 1 then getF h AC_TIME_TRET1 (inst c) else getF h AC_TIME_TPARK (inst c)

/-- The heads of carriage `c` are Parked (R333, R403): the servo knows it; a re-initialise that waited for it completes (R404). -/
def parked (h : Hw) (c : Nat) : Hw :=
  let h := setF (setAc h c 0) AC_IRQS_PARKED (inst c) 1
  let h := onBoot h (fun b => { b with loaded := putBit b.loaded c false })
  let h := onServo h c (fun v => { v with leaving := false })
  let h := if svState h c = svOff then h else restServo h c
  afterParked h

/-- PROFILE_PHASE_END (R403): the running phase of the drive's profile has lasted its time. -/
def execProfilePhaseEnd (c : Nat) (s : State) : Res := s.run fun h =>
  let d := h.drives.get c
  let i := inst c
  if d.age < 200 * phaseTime h c then h
  else match d.profile with
  | .none => h
  | .load =>
    if d.phase = 1 then onDrive h c (fun d => { d with phase := 2, age := 0, vcm := -(percent (getF h AC_PROF_ILOAD i) / 2) })
    else
      let h := onServo h c (fun v => { v with leaving := false })
      setF (onDrive h c (fun d => { d with profile := .none, phase := 0, vcm := 0 })) AC_STAT_LEAVING i 0
  | _ =>
    if d.phase = 1 then onDrive h c (fun d => { d with phase := 2, age := 0, vcm := -(percent (getF h AC_PROF_IPARK i)) })
    else parked (onDrive h c (fun d => { d with profile := .none, phase := 0, vcm := 0, ma := 0, maCode := 8192, holding := 0 })) c

/-- LOAD_TIMEOUT (R403): no message with CMDV set within two revolutions of the load's start; it counts as a failed load (R109). -/
def execLoadTimeout (c : Nat) (s : State) : Res := s.run fun h =>
  if acState h c = 1 ∧ 2 ≤ (h.drives.get c).turned then countLoadFail (startRetract (loadFail h c) c) c else h

end Sys2Proof.Machine
end

