-- ==== Sys2Proof/Machine/Servo.lean ====
section
/-! DEFINITION. The servo of a carriage: demodulator, control engine, seeks, repetitive controller, band laws (R324-R368).
Positions and errors are whole numbers of 1/1,024 track, velocities of 1/256 track per ms, commands Q15; each law is computed
exactly and rounded where its result is stored (R332). -/
namespace Sys2Proof.Machine

/-- A write run of carriage `c` is open: the STU's Landing run, or CAc_HTR_EN high, which lasts for a run (R259, R334, R356). -/
def runOpen (h : Hw) (c : Nat) : Bool := flagF h FM_SQSTAT_RUNOPEN (inst c) || (car h c).path.htrEn

/-- Tracks on the surface of a head (0xd2s0:010). -/
def tracksOf (h : Hw) (c hd : Nat) : Nat := liveVal h (servoHead c hd) 0x010 0

/-- A position in the engine's format: U24 tracks with 10 fraction bits, from a position in 1/1,024 track (R332). -/
def satPos (x : Rat) : Int := max 0 (min (2 ^ 34 - 1) (roundR x))

/-! The demodulator (R324-R329). -/

/-- CRC-6 of the ten wedge-number bits: x^6 + x + 1, initial value 0, most significant bit first (R325). -/
def crc6Bit (c : Nat) (b : Nat) : Nat :=
  let t := (c / 32 + b) % 2
  (c * 2 % 64) ^^^ (if t = 1 then 3 else 0)
def crc6 (w : Nat) : Nat := [9, 8, 7, 6, 5, 4, 3, 2, 1, 0].foldl (fun c i => crc6Bit c (w / 2 ^ i % 2)) 0

/-- The wedge number that the ID bits give, when its CRC passes (R325). -/
def idWedge (id : Nat) : Option Nat :=
  let w := bits 15 6 id
  if crc6 w = bits 5 0 id ∧ w < 640 then some w else none

/-- Binary value of a 24-bit Gray code. -/
def grayDecode (g : Nat) : Nat :=
  let g := g ^^^ (g / 2)
  let g := g ^^^ (g / 4)
  let g := g ^^^ (g / 16)
  let g := g ^^^ (g / 256)
  g ^^^ (g / 65536)

/-- The track number of the ID bits (R325). -/
def idTrack (id : Nat) : Nat := grayDecode (bits 39 16 id)

/-- The SAM is found (R328): a match with at most one bit in error, while locked within 32 bits of its expected position. -/
def samFound (locked : Bool) (r : ServoRead) : Bool :=
  decide (ones 24 (r.samBits ^^^ 0xE2935B) ≤ 1) && (!locked || decide (-32 ≤ r.samAt ∧ r.samAt ≤ 32))

/-- A reader has decoded (R327): its SAM was found and both groups gave four crossings. -/
def readerDecoded (locked : Bool) (r : ServoRead) : Bool := samFound locked r && r.crossA.length == 4 && r.crossB.length == 4

/-- Centroid of a group's crossings (R326). -/
def centroid (l : List Int) : Rat := divBy ((l.foldl (· + ·) 0 : Int) : Rat) l.length

/-- Position of a reader near the reference track, tracks (R326). -/
def readerPos (r : ServoRead) (ref : Rat) : Rat :=
  let ds := centroid r.crossB - centroid r.crossA
  let ms := (centroid r.crossA + centroid r.crossB) / 2 - (r.tS : Rat)
  let phi := (divBy (320 * ds) ms - 192) / 16
  4 * (roundR ((ref - 3 / 2 - phi) / 4) : Rat) + 3 / 2 + phi

/-- A point of the jog table: reader A's or B's offset, 1/1,024 track (R327). -/
def jogPoint (h : Hw) (c hd i : Nat) (b : Bool) : Int :=
  let bytes := lget h.dict.blobs (entryKey (servoHead c hd) 0x101 0)
  let k := 4 * i + (if b then 2 else 0)
  toSigned 16 ((bytes.getD k 0).toNat + 256 * (bytes.getD (k + 1) 0).toNat)

/-- Reader offset from the writer at position `x`, tracks, interpolated linearly between points (R327). -/
def jogOffset (h : Hw) (c hd : Nat) (x : Rat) (b : Bool) : Rat :=
  let n : Rat := tracksOf h c hd
  let u : Rat := if n = 0 then 0 else clampR 0 63 (x * 63 / n)
  let i := min u.floor.toNat 62
  let p : Rat := jogPoint h c hd i b
  let q : Rat := jogPoint h c hd (i + 1) b
  (p + (q - p) * (u - (i : Rat))) / 1024

/-- Writer position from the readers that decoded (R327), tracks; `refOf` gives each reader's reference track. -/
def writerPos (h : Hw) (c hd : Nat) (w : ServoWedge) (refOf : ServoRead → Rat) : Option Rat :=
  let locked := flagF h SV_STAT_LOCK (inst c)
  let one := fun (r : ServoRead) (b : Bool) => let x := readerPos r (refOf r); x - jogOffset h c hd x b
  if readerDecoded locked w.readerA then
    if readerDecoded locked w.readerB then some ((one w.readerA false + one w.readerB true) / 2) else some (one w.readerA false)
  else if readerDecoded locked w.readerB then some (one w.readerB true)
  else none

/-- The clearance measure of a wedge (R358): the amplitudes averaged over the readers that decoded. -/
def clearance (locked : Bool) (w : ServoWedge) : Nat :=
  let l := [w.readerA, w.readerB].filter (readerDecoded locked)
  let mean := fun (f : ServoRead → Rat) => divBy ((l.map f).foldl (· + ·) 0) l.length
  (max 0 (min 65535 (roundR (4096 * Config.ln (divBy (mean (·.a1)) (mean (·.a3))))))).toNat

/-- Intervals that agree within 1 % (R328). -/
def intervalsAgree (l : List Nat) : Bool := l.all (fun a => l.all (fun b => decide (a * 99 ≤ b * 100)))

/-- Speed from the last 16 intervals (R329): 0 before the first. -/
def servoRpm (v : Servo) : Rat :=
  let n := v.intervals.length
  let sum := v.intervals.foldl (fun (a b : Nat) => a + b) 0
  if n = 0 ∨ sum = 0 then 0 else 7200 * 833333 * (n : Rat) / (sum : Rat)

/-- The last wedge period in ms (R345-R347). -/
def lastPeriod (v : Servo) : Rat := match v.intervals with
  | [] => 0
  | p :: _ => (p : Rat) * 15625 / 1000000000000

/-- The SAM-to-SAM measurement of a wedge (R329): a missed SAM gives none. -/
def measurePeriod (h : Hw) (c : Nat) (w : ServoWedge) : Hw :=
  let locked := flagF h SV_STAT_LOCK (inst c)
  if (samFound locked w.readerA || samFound locked w.readerB) && decide (0 < w.period) then
    let h := onServo h c (fun v => { v with intervals := (w.period :: v.intervals).take 16 })
    setF (setF h SV_WPER_WPER (inst c) w.period) SV_SPD_RPM (inst c) (roundR (servoRpm (sv h c))).toNat
  else h

/-- The wedge number that the readers give (R325, R328). -/
def wedgeRead (locked : Bool) (w : ServoWedge) : Option Nat :=
  match if samFound locked w.readerA then idWedge w.readerA.idBits else none with
  | some n => some n
  | none => if samFound locked w.readerB then idWedge w.readerB.idBits else none

/-- The track where a search stands (R326, R333): the writer's position with the decoded Gray track as reference; where no reader gave
its groups, the Gray track. -/
def searchPlace (h : Hw) (c : Nat) (w : ServoWedge) : Int :=
  match writerPos h c (selHead h c) w (fun r => (idTrack r.idBits : Nat)) with
  | some x => satPos (x * 1024)
  | none => 1024 * (idTrack (if samFound false w.readerA then w.readerA.idBits else w.readerB.idBits) : Nat)

/-- The search (R328): consecutive SAMs with valid consecutive wedge numbers and intervals that agree with one another; none while the
head's select frame is under way (R333, R351). -/
def searchStep (h : Hw) (c : Nat) (w : ServoWedge) : Hw :=
  let at_ := searchPlace h c w
  match if (sv h c).switching.isSome then none else wedgeRead false w with
  | none => onServo h c (fun v => { v with lockCount := 0, searched := v.searched + 1 })
  | some n => onServo h c (fun v =>
      let follows := v.lockCount != 0 && n == (v.wedge + 1) % 640 && intervalsAgree (v.intervals.take v.lockCount)
      { v with lockCount := if follows then v.lockCount + 1 else 1, wedge := n, searchPos := at_, searched := v.searched + 1 })

/-- The wedge number is carried forward; one read that disagrees is counted and ignored (R328). -/
def carryWedge (h : Hw) (c : Nat) (w : ServoWedge) : Hw :=
  onServo h c (fun v =>
    let n := (v.wedge + 1) % 640
    { v with wedge := n, disagree := match wedgeRead true w with
        | some k => if k = n then v.disagree else v.disagree + 1
        | none => v.disagree })

/-! Banks (R341-R343). -/

/-- What word `i` of a bank holds of a value written: ULIM has 16 bits, words 35-63 are reserved and hold 0 (R341). -/
def bankWord (i w : Nat) : Nat := if i = 3 then w % 65536 else if 34 < i then 0 else w % 2 ^ 32

/-- A bank word as a Q29 number. -/
def q29 (m : SMap Nat) (i : Nat) : Rat := (toSigned 32 (zget m i) : Rat) / 2 ^ 29

/-- A gain or coefficient of the bank in use. -/
def coef (v : Servo) (i : Nat) : Rat := q29 v.bank i

/-- The grid position of a speed, 1/64 step (R342). -/
def gridPos (rpm : Rat) : Nat := (max 0 (min 512 (roundR ((rpm - 3600) / 450 * 64)))).toNat

/-- The shadow at grid position `lam` (R342). -/
def interpolate (v : Servo) (lam : Nat) : SMap Nat :=
  let k := min (lam / 64) 7
  (List.range 64).foldl (fun m i =>
    let a := toSigned 32 (zget v.grid (64 * k + i))
    let b := toSigned 32 (zget v.grid (64 * (k + 1) + i))
    zset m i (ofSigned 32 (roundR ((a : Rat) + (b - a : Int) * ((lam : Rat) - 64 * k) / 64)))) []

/-- Fill the shadow when the speed has moved by a step (R342). -/
def fillShadow (h : Hw) (c : Nat) : Hw :=
  let lam := gridPos (servoRpm (sv h c))
  let h := setF h SV_SPD_LAM (inst c) (sv h c).lam
  if lam = (sv h c).lam then h
  else onServo h c (fun v => { v with shadow := some (lam, interpolate v lam) })

/-- Accepted banks reach the grid at a sample boundary; one that the present interpolation uses refills the shadow (R343). -/
def applyBanks (h : Hw) (c : Nat) : Hw :=
  (sv h c).bankDue.foldl (fun h p =>
    let k := p.1
    let h := onServo h c (fun v => { v with
      bankDue := zset v.bankDue k 0,
      grid := (List.range 64).foldl (fun m i => zset m (64 * k + i) (zget v.accepted (64 * k + i))) v.grid })
    let lam := (sv h c).lam
    let k0 := min (lam / 64) 7
    if k = k0 ∨ k = k0 + 1 then onServo h c (fun v => { v with shadow := some (lam, interpolate v lam) }) else h) h

/-- DC gain of the biquad at word `i` within 2^-8 of 1 (R343). -/
def gainOk (m : SMap Nat) (base i : Nat) : Bool :=
  let w := fun j => q29 m (base + i + j)
  let num := w 0 + w 1 + w 2
  let den := 1 + w 3 + w 4
  decide (den ≠ 0) && decide (absR (num - den) * 256 ≤ absR den)

/-- Staged bank `k` is acceptable (R343). -/
def bankOk (v : Servo) (k : Nat) : Bool :=
  [4, 9, 14, 19, 25].all (gainOk v.staging (64 * k)) && zget v.staging (64 * k + 3) % 65536 != 0

/-- Commit staged bank `k` (R343); 9-15 address none. -/
def commitBank (h : Hw) (c k : Nat) : Hw :=
  if 8 < k then h
  else if bankOk (sv h c) k then onServo h c (fun v => { v with
    bankDue := zset v.bankDue k 1
    accepted := (List.range 64).foldl (fun m i => zset m (64 * k + i) (zget v.staging (64 * k + i))) v.accepted })
  else setF h SV_IRQS_CREF (inst c) 1

/-! The steady law (R334-R336). -/

/-- A 48-bit accumulator of commands (R332): a Q15 value times a Q29 coefficient fills its 44 fraction bits (DEDUCED, log entry 114). -/
def acc48 (x : Rat) : Rat := (satBits 48 (x / 32768 * 2 ^ 44) : Rat) * 32768 / 2 ^ 44

/-- The accumulator of BM (R332): an error in 1/1,024 track times a Q29 coefficient, 39 fraction bits. -/
def accBm (x : Rat) : Rat := (satBits 48 (x / 1024 * 2 ^ 39) : Rat) * 1024 / 2 ^ 39

/-- One biquad section: its output, and its state after, rounded to the 16 bits of its values (R332, R334). -/
def biquad (acc : Rat → Rat) (v : Servo) (i : Nat) (b : Biquad) (x : Rat) : Rat × Biquad :=
  let y := acc (coef v i * x + coef v (i + 1) * b.x1 + coef v (i + 2) * b.x2 - coef v (i + 3) * b.y1 - coef v (i + 4) * b.y2)
  (y, { x1 := q15 x, x2 := b.x1, y1 := q15 y, y2 := b.y1 })

/-- GH of a head (R334). -/
def headGain (h : Hw) (c hd : Nat) : Rat := (getF h SV_HGAIN_GTRIM (svHead c hd) : Rat) / 16384

/-- The RRO zone of a track (R352). -/
def rroZone (h : Hw) (c hd track : Nat) : Nat :=
  let n := tracksOf h c hd
  if n = 0 then 0 else min 47 (48 * track / n)

/-- REF, 1/16,384 track, and FF, Q15, of a head, zone and wedge (R352). -/
def tableRef (v : Servo) (hd z w : Nat) : Int := toSigned 16 (zget v.tables ((48 * hd + z) * 640 + w))
def tableFf (v : Servo) (hd z w : Nat) : Int := toSigned 16 (zget v.tables ((48 * hd + z) * 640 + w) / 65536)

/-- The table applies: RCEN set and the head's table valid (R353, R368). -/
def tableOn (h : Hw) (c hd : Nat) : Bool := flagF h SV_CTL_RCEN (inst c) && !(bitAt (sv h c).badTable hd)

/-- What a sample gives the laws: writer position 1/1,024 track (the prediction on a missed sample), whether it is missed. -/
structure SvSample where
  x : Int
  missed : Bool
  deriving DecidableEq, Repr

/-- e of R334, 1/1,024 track. -/
def errorOf (h : Hw) (c : Nat) (x : Int) : Int :=
  let tofs := if runOpen h c then 0 else getS h SV_TOFS_TOFS (inst c)
  satBits 16 ((getF h SV_TGT_TRACK (inst c) : Int) * 1024 + tofs - x : Int)

/-- ec of R334: the error with the reference correction. -/
def correctedError (h : Hw) (c hd : Nat) (e : Int) : Int :=
  let v := sv h c
  let z := rroZone h c hd (getF h SV_TGT_TRACK (inst c))
  if tableOn h c hd then satBits 16 ((e : Rat) + (tableRef v hd z v.wedge : Rat) / 16) else e

/-- The feedforward term of R334, Q15. -/
def feedforward (h : Hw) (c hd : Nat) : Rat :=
  let v := sv h c
  let z := rroZone h c hd (getF h SV_TGT_TRACK (inst c))
  let r := servoRpm v / 7200
  if tableOn h c hd then (tableFf v hd z v.wedge : Rat) * r * r else 0

/-- A gain on an error in 1/1,024 track, as Q15. -/
def gained (g : Rat) (e : Rat) : Rat := g * e / 1024 * 32768

/-- The microactuator's estimated stroke enters the voice coil's error only while MAEN is set (R334). -/
def strokeNow (h : Hw) (c : Nat) : Int := if flagF h SV_CTL_MAEN (inst c) then (sv h c).ym else 0

/-- The steady law at one sample (R334-R336): VCM and MA commands, integrator, filters. -/
def steadyLaw (h : Hw) (c hd : Nat) (x : Int) (missed : Bool) : Hw :=
  let v := sv h c
  let gh := headGain h c hd
  let ec := correctedError h c hd (errorOf h c x)
  let ev := satBits 16 ((ec + strokeNow h c : Int) : Rat)
  let law := fun (i : Int) =>
    let u0 := acc48 (gained (coef v 0 * gh) ev + (i : Rat) + gained (coef v 2 * gh) (ev - v.evPrev))
    let r1 := biquad acc48 v 4 v.b1 u0
    let r2 := biquad acc48 v 9 v.b2 r1.1
    let r3 := biquad acc48 v 14 v.b3 r2.1
    let r4 := biquad acc48 v 19 v.b4 r3.1
    (acc48 (r4.1 + feedforward h c hd), r1.2, r2.2, r3.2, r4.2)
  let stepped := q15 ((v.integ : Rat) + gained (coef v 1 * gh) ev)
  let lim := ulim v
  let trial := (law stepped).1
  let stop := missed || (decide ((lim : Rat) ≤ absR trial) && ((decide (0 < ev) && decide (0 < trial)) || (decide (ev < 0) && decide (trial < 0))))
  let i := if stop then v.integ else stepped
  let r := law i
  let uv := q15 (clampR (-(lim : Rat)) lim r.1)
  let malim : Rat := getF h SV_MA_MALIM (inst c)
  let kma := coef v 30
  let bm := biquad accBm v 25 v.bm (ec : Rat)
  let ulm := divBy (malim * 32) kma
  let um := if flagF h SV_CTL_MAEN (inst c) then q15 (clampR (-ulm) ulm (gained (coef v 24 * gh) bm.1)) else 0
  let ym := if flagF h SV_CTL_MAEN (inst c) then satBits 16 (kma * (um : Rat) / 32) else 0
  let h := onServo h c (fun v => { v with
    integ := i, b1 := r.2.1, b2 := r.2.2.1, b3 := r.2.2.2.1, b4 := r.2.2.2.2,
    bm := if flagF h SV_CTL_MAEN (inst c) then bm.2 else {}, uv := uv, um := um, ym := ym, evPrev := ev })
  showLimits h c

/-- Voice coil alone (R336): no microactuator, and its states held at 0. -/
def onlyCoil (h : Hw) (c : Nat) (uv : Int) : Hw := showLimits (onServo h c (fun v => { v with uv := uv, um := 0, ym := 0, bm := {} })) c

/-! Seeks (R344-R351). -/

/-- The seven flight durations in ms for distance `D` in tracks (R345); J, A, V are the limits. -/
def planFlights (D J A V : Rat) : List Rat :=
  let A := if V * J < A * A then Config.sqrt (V * J) else A
  let tj := A / J
  let dv := V * (V / A + A / J)
  if dv ≤ D then
    let ta := V / A - tj
    [tj, ta, tj, (D - dv) / V, tj, ta, tj]
  else
    let vp := A / 2 * (-(A / J) + Config.sqrt (A * A / (J * J) + 4 * D / A))
    if A * A / J ≤ vp then
      let ta := vp / A - tj
      [tj, ta, tj, 0, tj, ta, tj]
    else
      let tj := Config.cbrt (D / (2 * J))
      [tj, 0, tj, 0, tj, 0, tj]

/-- Jerk of flight `i` as a multiple of the jerk limit. -/
def flightJerk (i : Nat) : Rat := match i with
  | 0 => 1 | 2 => -1 | 4 => -1 | 6 => 1 | _ => 0

/-- Exact integrals of the jerk over the flights up to profile time `t` (R346): position, velocity, acceleration. -/
def profileAt (J : Rat) : List Rat → Nat → Rat → Rat × Rat × Rat → Rat × Rat × Rat
  | [], _, _, st => st
  | d :: rest, i, t, (x, v, a) =>
    let dt := max 0 (min d t)
    let j := flightJerk i * J
    profileAt J rest (i + 1) (t - dt) (x + v * dt + a * dt * dt / 2 + j * dt * dt * dt / 6, v + a * dt + j * dt * dt / 2, a + j * dt)

/-- Plan the seek in progress from the estimated position (R345). -/
def planSeek (h : Hw) (c : Nat) : Hw :=
  let v := sv h c
  let goal : Int := (getF h SV_TGT_TRACK (inst c) : Int) * 1024
  let d := (goal - v.xh).natAbs
  let f := if d = 0 then [] else
    planFlights ((d : Rat) / 1024) (atLeast1 (getF h SV_JMAX_JMAX (inst c))) (atLeast1 (getF h SV_AMAX_AMAX (inst c)))
      (atLeast1 (getF h SV_VMAX_VMAX (inst c)))
  onServo h c (fun v => { v with
                                 planned := true, jerk := atLeast1 (getF h SV_JMAX_JMAX (inst c)), x0 := v.xh, up := decide (v.xh ≤ goal), flights := f, ptime := 0, stood := 0,
                                 afterProfile := 0, due := none })

/-- The profile has ended. -/
def profileEnded (v : Servo) : Bool := v.planned && decide (v.flights.foldl (fun (a b : Rat) => a + b) 0 ≤ v.ptime)

/-- Enter Seek for a head and track (R339, R344, R351). -/
def beginSeek (h : Hw) (c hd track : Nat) : Hw :=
  let h := setF (setF (setF h SV_TGT_HEAD (inst c) hd) SV_TGT_TRACK (inst c) track) SV_STAT_ONTRK (inst c) 0
  let h := addF (setSv h c svSeek) SV_CNT_COUNT (inst c) 1
  let other := decide (hd ≠ selHead h c)
  showLimits (onServo h c (fun v => { v with
    planned := false, standing := false, held := none, failedOnce := false, settled := 0, due := none, afterHandover := 0,
    afterProfile := 0, um := 0, ym := 0, bm := {},
    switching := if other then some hd else v.switching, frameQueued := if other then false else v.frameQueued })) c

/-- A refused seek (R344). -/
def refuseSeek (h : Hw) (c : Nat) : Hw := setF h SV_IRQS_SKERR (inst c) 1

/-- A seek arrives (R344): refused, held or started. -/
def requestSeek (h : Hw) (c hd track : Nat) : Hw :=
  let st := svState h c
  if hd ≥ headsPer h ∨ fenced h (servoHead c hd) ∨ tracksOf h c hd ≤ track ∨ st = svOff ∨ st = svParked then refuseSeek h c
  else if st = svFollow ∨ (st = svSettle ∧ (sv h c).standing) then beginSeek h c hd track
  else onServo h c (fun v => { v with held := some (hd, track), heldInCoast := st == svCoast })

/-- Start the held seek, when there is one. -/
def startHeld (h : Hw) (c : Nat) : Hw :=
  match (sv h c).held with
  | some (hd, track) => beginSeek h c hd track
  | none => h

/-- Predicted position and velocity at this wedge, tracks and tracks per ms (R347). -/
def predict (h : Hw) (c : Nat) : Rat × Rat :=
  let v := sv h c
  let T := lastPeriod v
  let a : Rat := (getF h SV_AFS_AFS (inst c) : Rat) * v.uv / 32768
  ((v.xh : Rat) / 1024 + (v.vh : Rat) / 256 * T + a * T * T / 2, (v.vh : Rat) / 256 + a * T)

/-- Set the estimator's position and velocity, which SV_VEL shows (R347, R369). -/
def setState (h : Hw) (c : Nat) (x v : Int) : Hw := setS (onServo h c (fun s => { s with xh := x, vh := v })) SV_VEL_VEL (inst c) v

/-- The estimator (R347): `x` is the decoded writer position in tracks, if the sample is not missed. -/
def estimate (h : Hw) (c : Nat) (x : Option Rat) : Hw :=
  let v := sv h c
  let T := lastPeriod v
  let (xp, vp) := predict h c
  let (xh, vh) := match x with
    | some p => (xp + coef v 33 * (p - xp), vp + divBy (coef v 34 * (p - xp)) T)
    | none => (xp, vp)
  setState h c (satPos (xh * 1024)) (satBits 32 (vh * 256))

/-- At each sample profile time moves by the last wedge period, unless the last command is at its limit (R346). -/
def advanceProfile (h : Hw) (c : Nat) : Hw :=
  onServo h c (fun v =>
    if !v.planned then v
    else if v.uv.natAbs = (ulim v).natAbs then { v with stood := v.stood + 1 }
    else { v with ptime := v.ptime + lastPeriod v, stood := 0 })

/-- The seek law (R346, R347). -/
def seekLaw (h : Hw) (c : Nat) : Hw :=
  let v := sv h c
  let lim := ulim v
  let ended := profileEnded v
  let (x, vel, a) := profileAt v.jerk v.flights 0 v.ptime (0, 0, 0)
  let s : Rat := if v.up then 1 else -1
  let afs : Rat := getF h SV_AFS_AFS (inst c)
  let u := divBy (s * a) afs + coef v 31 * ((v.x0 : Rat) / 1024 + s * x - (v.xh : Rat) / 1024) + coef v 32 * (s * vel - (v.vh : Rat) / 256)
  let uv := q15 (clampR (-(lim : Rat)) lim (u * 32768))
  let h := onlyCoil h c uv
  onServo h c (fun w => { w with afterProfile := if ended then w.afterProfile + 1 else 0 })

/-! What a sample also computes (R337-R339, R354, R358, R359). -/

/-- WUTH, SETTH, NSET, HOVTH, of which 0 acts as 1. -/
def wuth (h : Hw) (c : Nat) : Nat := atLeast1 (getF h SV_LIM_WUTH (inst c))
def setth (h : Hw) (c : Nat) : Nat := atLeast1 (getF h SV_LIM_SETTH (inst c))
def nset (h : Hw) (c : Nat) : Nat := atLeast1 (getF h SV_LIM_NSET (inst c))
def hovth (h : Hw) (c : Nat) : Nat := atLeast1 (getF h SV_LIM_HOVTH (inst c))

/-- Write-unsafe (R338): asserted while a condition holds, cleared when none holds and the previous |ec| was within WUTH too; `ym` is the
stroke of this sample. -/
def writeUnsafe (h : Hw) (c : Nat) (ec ym : Int) (missed : Bool) : Hw :=
  let v := sv h c
  let th := wuth h c
  let calm := !(decide (th < ec.natAbs) ||
    (flagF h SV_CTL_PREDEN (inst c) && decide (th < (2 * ec - v.ecPrev).natAbs)) || missed ||
    (flagF h SV_CTL_MAEN (inst c) && decide (getF h SV_MA_MALIM (inst c) ≤ ym.natAbs)))
  let was := flagF h SV_STAT_WUNSAFE (inst c)
  let now := svState h c != svFollow || !calm || (was && !v.ecOk)
  let h := setF h SV_STAT_WUNSAFE (inst c) now.toNat
  let h := if now && !was && svState h c == svFollow then
    addF (setF h SV_IRQS_WUS (inst c) 1) SV_CNT_COUNT (inst c + 12) 1 else h
  onServo h c (fun w => { w with ecPrev := ec, ecOk := decide (ec.natAbs ≤ th), quiet := calm && v.ecOk })

/-- Count samples within SETTH in Settle after a handover, on the selected head and the sought track (R339), and samples since it. -/
def settleCount (h : Hw) (c : Nat) (ec : Int) (missed : Bool) : Hw :=
  if svState h c = svSettle ∧ !(sv h c).standing then
    onServo h c (fun v => { v with settled := if !missed ∧ ec.natAbs ≤ setth h c then v.settled + 1 else 0, afterHandover := v.afterHandover + 1 })
  else h

/-- A learning revolution (R354): 640 consecutive unbroken samples in Follow on the named head and zone. -/
def learnSample (h : Hw) (c : Nat) (ec : Int) (missed : Bool) : Hw :=
  let v := sv h c
  let hd := getF h SV_RC_HEAD (inst c)
  let z := min 47 (getF h SV_RC_ZONE (inst c))
  let good := flagF h SV_RC_ARM (inst c) && !missed && svState h c == svFollow && selHead h c == hd &&
    rroZone h c hd (getF h SV_TGT_TRACK (inst c)) == z
  if !good then setF (onServo h c (fun v => { v with rev := [], revCount := 0 })) SV_RCSTAT_BUSY (inst c) 0
  else if v.revCount < 640 then
    setF (onServo h c (fun v => { v with rev := mset (fun _ => 0) v.rev v.wedge ec, revCount := v.revCount + 1 })) SV_RCSTAT_BUSY (inst c) 1
  else h

/-- A head's band laws may work (R370: both heater limits 0 disable them). -/
def bandsEnabled (h : Hw) (c hd : Nat) : Bool :=
  getF h SV_HBLIM_HMIN (svHead c hd) != 0 || getF h SV_HBLIM_HMAX (svHead c hd) != 0

/-- Change the band laws of a head. -/
def bandOf (h : Hw) (c hd : Nat) : BandLaw := mget (fun _ => {}) (sv h c).bands hd
def onBand (h : Hw) (c hd : Nat) (f : BandLaw → BandLaw) : Hw :=
  onServo h c (fun v => { v with bands := mset (fun _ => {}) v.bands hd (f (mget (fun _ => {}) v.bands hd)) })

/-- A wedge in an open run (R359): counted; its CLR enters the run's first value, or the sum of wedges 4-7. -/
def runWedge (h : Hw) (c : Nat) (clr : Option Nat) : Hw :=
  onServo h c (fun v =>
    let inSum := decide (3 ≤ v.runWedges ∧ v.runWedges ≤ 6)
    match clr with
    | none => { v with runWedges := v.runWedges + 1 }
    | some m => { v with
        runWedges := v.runWedges + 1, runFirst := if v.runWedges = 0 then some (m : Int) else v.runFirst
        runSum := if inSum then v.runSum + m else v.runSum, runCount := if inSum then v.runCount + 1 else v.runCount })

/-- The run has closed: one of at least eight wedges gives the laser law its value (R359). -/
def runClosed (h : Hw) (c hd : Nat) : Hw :=
  let v := sv h c
  let h := match v.runFirst with
    | some f =>
      if flagF h SV_HBCTL_LBEN (svHead c hd) ∧ 8 ≤ v.runWedges ∧ 0 < v.runCount ∧ (bandOf h c hd).lbCount < 16 then
        onBand h c hd (fun b => { b with lbSum := b.lbSum + roundR ((f : Rat) - (v.runSum : Rat) / v.runCount), lbCount := b.lbCount + 1 })
      else h
    | none => h
  onServo h c (fun v => { v with runWedges := 0, runFirst := none, runSum := 0, runCount := 0 })

/-- The clearance measure of a wedge and the band laws' sums (R358, R359). -/
def clearanceSample (h : Hw) (c hd : Nat) (locked : Bool) (w : ServoWedge) (missed : Bool) : Hw :=
  if 5 < hd then h
  else
    let m := clearance locked w
    let d := svHead c hd
    let h := if missed then h else setF h SV_HCLR_CLR d m
    let block := 2 ^ getF h SV_HBCTL_NBS d
    if !(bandsEnabled h c hd) then h
    else if runOpen h c then
      let h := runWedge h c (if missed then none else some m)
      if !missed ∧ flagF h SV_HBCTL_WREN d ∧ 4 ≤ (sv h c).runWedges ∧ (bandOf h c hd).wrCount < block then
        onBand h c hd (fun b => { b with wrSum := b.wrSum + m, wrCount := b.wrCount + 1 })
      else h
    else
      let h := runClosed h c hd
      if !missed ∧ flagF h SV_HBCTL_RDEN d ∧ (bandOf h c hd).rdCount < block then
        onBand h c hd (fun b => { b with rdSum := b.rdSum + m, rdCount := b.rdCount + 1 })
      else h

/-- ELPH (R331). -/
def elph (h : Hw) (c hd : Nat) : Nat :=
  ((roundR ((getF h SV_ROT_PP (inst c) : Rat) * (sv h c).wedge * 512 / 5)).toNat + getF h SV_HEOFS_EOFS (svHead c hd)) % 65536

/-- EVALID (R331, R369). -/
def elphValid (h : Hw) (c hd : Nat) : Bool :=
  flagF h SV_STAT_LOCK (inst c) && decide (hd < 6) && flagF h SV_HEOFS_VALID (svHead c hd) && getF h SV_ROT_PP (inst c) != 0

/-- Send the wedge's sideband message (R362). -/
def sendSideband (h : Hw) (c age : Nat) : Hw :=
  let v := sv h c
  let st := svState h c
  let hd := selHead h c
  let cmdv := decide (svSeek ≤ st ∧ st ≤ svCoast)
  let flags := cmdv.toNat + 2 * getF h SV_STAT_LOCK (inst c) + 4 * (elphValid h c hd).toNat + 8 * v.retract.toNat + 16 * getF h SV_CTL_MAEN (inst c)
  emit h (.sideband c (if cmdv then v.uv else 0) (if st = svSettle ∨ st = svFollow then v.um else 0) v.wedge (elph h c hd) age
    (getF h SV_WPER_WPER (inst c)) flags)

/-- Show the position used (SV_POS) and ec (SV_PES). -/
def showSample (h : Hw) (c : Nat) (x : Int) (ec : Int) : Hw :=
  setS (setF h SV_POS_TRACK (inst c) (min (2 ^ 24 - 1) (roundR ((x : Rat) / 1024)).toNat)) SV_PES_EC (inst c) ec

/-- A missed sample (R340): counted; a sample missed for a head switch does not count toward the loss of lock (R351). -/
def countMiss (h : Hw) (c : Nat) (missed switching : Bool) : Hw :=
  if missed then
    let h := addF (setF h SV_IRQS_MISS (inst c) 1) SV_CNT_COUNT (inst c + 4) 1
    if switching then h else satF h SV_STAT_MISS (inst c) 1
  else setF h SV_STAT_MISS (inst c) 0

/-- The reference track (R326, R348): the decoded Gray track; in Seek only when it lies near the prediction. -/
def referenceTrack (h : Hw) (c : Nat) (r : ServoRead) : Rat :=
  let g : Rat := (idTrack r.idBits : Nat)
  if svState h c = svSeek ∧ !(sv h c).newHead then
    let (xp, vp) := predict h c
    if absR (g - xp) ≤ 4 + absR (vp * lastPeriod (sv h c)) / 8 then g else xp
  else g

/-- A sample boundary swaps a filled shadow in (R342, R367): it becomes the active bank; the states carry over. -/
def swapShadow (h : Hw) (c : Nat) : Hw :=
  match (sv h c).shadow with
  | some (lam, m) =>
    let h := setF (onServo h c (fun v => { v with bank := m, lam := lam, shadow := none })) SV_SPD_LAM (inst c) lam
    addF (setF h SV_IRQS_SWAP (inst c) 1) SV_CNT_COUNT (inst c + 16) 1
  | none => h

/-- One wedge while lock holds: position, estimator, law of the state, write-unsafe, settling, learning (R334-R354). -/
def lockedSample (h : Hw) (c : Nat) (w : ServoWedge) : Hw :=
  let h := carryWedge h c w
  let hd := selHead h c
  let switching := (sv h c).switching.isSome
  let x := if switching then none else writerPos h c hd w (referenceTrack h c)
  let missed := x.isNone
  let h := countMiss h c missed switching
  let st := svState h c
  let h := if st = svSeek ∧ !switching ∧ (5 < hd ∨ fenced h (servoHead c hd)) then holdHere h c else h
  let st := svState h c
  if st = svSeek ∨ st = svSettle ∨ st = svFollow then
    let h := match x with
      | some p => if (sv h c).newHead then onServo (setState h c (satPos (p * 1024)) 0) c (fun v => { v with newHead := false }) else estimate h c x
      | none => estimate h c none
    let px : Int := match x with
      | some p => satPos (p * 1024)
      | none => (sv h c).xh
    let h := if st = svSeek ∧ (sv h c).planned then advanceProfile h c
      else if st = svSeek ∧ !switching ∧ !(sv h c).newHead then planSeek h c else h
    let ym := strokeNow h c
    let e := errorOf h c px
    let ec := correctedError h c hd e
    let h := showSample h c px ec
    let h :=
      if st = svSeek then
        if !missed ∧ profileEnded (sv h c) ∧ e.natAbs ≤ hovth h c then onServo h c (fun v => { v with due := some px })
        else onServo (if (sv h c).planned then seekLaw h c else onlyCoil h c 0) c (fun v => { v with evPrev := ec })
      else steadyLaw h c hd px missed
    let h := writeUnsafe h c ec ym missed
    let h := settleCount h c ec missed
    learnSample h c ec missed
  else learnSample (assertUnsafe h c) c 0 true

/-- SERVO_SAMPLE (R334): one wedge of carriage `c`. A handover that falls due is made by HANDOVER, which then sends the message. -/
def execServoSample (c : Nat) (w : ServoWedge) (s : State) : Res := s.run fun h =>
  if !(midUp h c) then h
  else
    let h := applyBanks (swapShadow h c) c
    let h := measurePeriod h c w
    let h := fillShadow h c
    let locked := flagF h SV_STAT_LOCK (inst c)
    let unread := (sv h c).switching.isSome || !(readerDecoded locked w.readerA || readerDecoded locked w.readerB)
    let h := clearanceSample h c (selHead h c) locked w unread
    let h := if locked then lockedSample h c w else
      let h := learnSample (assertUnsafe (searchStep h c w) c) c 0 true
      if svState h c = svCoast then
        onServo (onlyCoil h c (sv h c).integ) c (fun v => { v with coast := v.coast + 1 })
      else h
    let h := gateFall h c
    if (sv h c).due.isSome then h else sendSideband h c w.age

/-- The handover (R349) at writer position `px`: biquads and integrator preset to the seek command, then the steady law. -/
def handover (h : Hw) (c : Nat) (px : Int) : Hw :=
  let v := sv h c
  let hd := selHead h c
  let gh := headGain h c hd
  let ev := correctedError h c hd (errorOf h c px)
  let uh := v.uv
  let b : Biquad := { x1 := uh, x2 := uh, y1 := uh, y2 := uh }
  let i := q15 ((uh : Rat) - gained (coef v 0 * gh) ev - gained (coef v 2 * gh) (ev - v.evPrev))
  let h := onServo h c (fun v => { v with
    b1 := b, b2 := b, b3 := b, b4 := b, bm := {}, ym := 0, integ := i, due := none, planned := false, standing := false, settled := 0, afterHandover := 0 })
  setF (steadyLaw (setSv h c svSettle) c hd px false) SV_IRQS_SKDONE (inst c) 1

/-- HANDOVER (R349, R344): made at the sample at which it fell due; a held seek starts then. `age` is that of the wedge's message
(R362). -/
def execHandover (c age : Nat) (s : State) : Res := s.run fun h =>
  match (sv h c).due with
  | some px => if svState h c = svSeek then startHeld (sendSideband (handover h c px) c age) c else h
  | none => h

/-- WEDGE_LOCK (R328): eight consistent SAMs; from Search the present track becomes the target through a handover with command 0
(R333), from Coast, within 16 wedges of the loss, the engine seeks to its target again (R340) or to the seek that arrived in Coast (R344). -/
def execWedgeLock (c : Nat) (s : State) : Res := s.run fun h =>
  let v := sv h c
  let pos := v.searchPos
  if !(midUp h c) ∨ v.lockCount < 8 ∨ flagF h SV_STAT_LOCK (inst c) ∨ (svState h c = svCoast ∧ 16 < v.coast) then h
  else
    let h := setF (setF h SV_STAT_LOCK (inst c) 1) SV_STAT_MISS (inst c) 0
    let h := onServo (setState h c pos 0) c (fun v => { v with lockCount := 0, coast := 0 })
    if svState h c = svSearch then
      let t := (roundR ((pos : Rat) / 1024)).toNat
      let h := setF (setF h SV_TGT_TRACK (inst c) t) SV_TGT_HEAD (inst c) (selHead h c)
      let ec := correctedError h c (selHead h c) (errorOf h c pos)
      let h := onServo (showSample h c pos ec) c (fun v => { v with uv := 0, evPrev := ec })
      startHeld (handover h c pos) c
    else if svState h c = svCoast then
      let held := (sv h c).held
      if held.isSome ∧ (sv h c).heldInCoast then startHeld h c
      else onServo (beginSeek h c (getF h SV_TGT_HEAD (inst c)) (getF h SV_TGT_TRACK (inst c))) c (fun v => { v with held := held })
    else h

/-- LOCK_LOST (R328, R340): the fourth consecutive miss: Coast, uv = I, um = 0. An engine that is Parked or Off stays so. -/
def execLockLost (c : Nat) (s : State) : Res := s.run fun h =>
  if flagF h SV_STAT_LOCK (inst c) ∧ 4 ≤ getF h SV_STAT_MISS (inst c) then
    let h := setF (setF h SV_STAT_LOCK (inst c) 0) SV_STAT_ONTRK (inst c) 0
    let h := addF h SV_CNT_COUNT (inst c + 8) 1
    if svState h c = svParked ∨ svState h c = svOff then onServo h c (fun v => { v with lockCount := 0 })
    else
      let h := assertUnsafe (setSv h c svCoast) c
      onServo (onlyCoil h c (sv h c).integ) c (fun v => { v with lockCount := 0, coast := 0, due := none, planned := false })
  else h

/-- COAST_TIMEOUT (R340): lock not regained within 16 wedges. SV_IRQS.LOCKL is set here only (DEDUCED, log entry 115). -/
def execCoastTimeout (c : Nat) (s : State) : Res := s.run fun h =>
  if svState h c = svCoast ∧ (16 < (sv h c).coast ∨ (sv h c).coast = 16 ∧ (sv h c).lockCount < 8) then
    raiseFault (setF (parkServo h c) SV_IRQS_LOCKL (inst c) 1) (carPath c 0x2F0) 8 false
  else h

/-- SV_SEEK_WRITE (R344): the write lands; with FM_MCTL.RUN at 1 it is dropped. -/
def execSvSeekWrite (c data : Nat) (s : State) : Res := s.run fun h =>
  if !(midUp h c) then h
  else if flagF h FM_MCTL_RUN (inst c) then setF h SV_IRQS_SKREF (inst c) 1
  else requestSeek (setReg h (SV_SEEK + inst c) (data % 0xE1000000)) c (bits 31 29 data) (bits 23 0 data)

/-- SEEK_START (R345): the accepted seek is planned. -/
def execSeekStart (c : Nat) (s : State) : Res := s.run fun h =>
  let v := sv h c
  if svState h c = svSeek ∧ !v.planned ∧ v.switching.isNone ∧ !v.newHead then planSeek h c else h

/-- ONTRK (R339): NSET samples within SETTH after a handover; write-unsafe clears with it when nothing else keeps it (R338). A seek held since it arrived in Settle starts here (DEDUCED, log entry
40). -/
def execOntrk (c : Nat) (s : State) : Res := s.run fun h =>
  if svState h c = svSettle ∧ nset h c ≤ (sv h c).settled ∧ selHead h c = getF h SV_TGT_HEAD (inst c) then
    let h := setSv (setF h SV_STAT_ONTRK (inst c) 1) c svFollow
    startHeld (if (sv h c).quiet then setF h SV_STAT_WUNSAFE (inst c) 0 else h) c
  else h

/-- A seek has failed (R346, R350). -/
def seekFailed (h : Hw) (c : Nat) : Bool :=
  let v := sv h c
  (svState h c == svSeek && (decide (32 ≤ v.afterProfile) || decide (64 ≤ v.stood))) ||
  (svState h c == svSettle && decide (128 ≤ v.afterHandover))

/-- SEEK_FAIL (R350): the first failure seeks again to the same target from the estimated position, the second raises class [8]. -/
def execSeekFail (c : Nat) (s : State) : Res := s.run fun h =>
  if !(seekFailed h c) then h
  else if (sv h c).failedOnce then
    let hd := selHead h c
    let next := (sv h c).held
    let h := refuseSeek (holdHere h c) c
    let h := raiseFault (onServo h c (fun v => { v with failedOnce := false })) (servoHead c hd) 8 false
    match next with
    | some (k, t) => if (sv h c).standing then beginSeek h c k t else h
    | none => h
  else
    let held := (sv h c).held
    let h := beginSeek h c (getF h SV_TGT_HEAD (inst c)) (getF h SV_TGT_TRACK (inst c))
    onServo h c (fun v => { v with failedOnce := true, held := held })

/-- HEAD_SWITCH (R351): the select frame of the seek's head enters the formatter's frame queue. -/
def execHeadSwitch (c : Nat) (s : State) : Res := s.run fun h =>
  match (sv h c).switching with
  | some hd => if (sv h c).frameQueued then h else queueSelect h c hd
  | none => h

/-- BANK_SWAP (R342): the filled shadow is swapped in at a sample boundary. -/
def execBankSwap (c : Nat) (s : State) : Res := s.run fun h => swapShadow h c

/-- A write of SV_CADDR (R343, as R230): staging is loaded from the grid when the bank changes. -/
def selectBank (h : Hw) (c data : Nat) : Hw :=
  let k := bits 9 6 data
  let h := setReg h (SV_CADDR + inst c) (bits 30 30 data * 2 ^ 30 + bits 9 0 data)
  if 8 < k ∨ (sv h c).caddr = some k then h
  else onServo h c (fun v => { v with
    caddr := some k
    staging := (List.range 64).foldl (fun m i => zset m (64 * k + i) (zget v.grid (64 * k + i))) v.staging })

/-- SV_BANK_COMMIT (R343): a write of SV_CADDR with COMMIT lands. -/
def execSvBankCommit (c data : Nat) (s : State) : Res := s.run fun h =>
  if !(midUp h c) then h
  else
    let h := selectBank h c data
    if bitAt data 31 then commitBank h c (bits 9 6 data) else h

/-! The repetitive controller (R352-R356). -/

/-- The mean error of wedge `w`, 1/1,024 track, weighted over its neighbours (R355). -/
def smoothed (acc : Nat → Rat) (w : Nat) : Rat :=
  (acc ((w + 638) % 640) + 4 * acc ((w + 639) % 640) + 6 * acc w + 4 * acc ((w + 1) % 640) + acc ((w + 2) % 640)) / 16

/-- The candidate table (R355). -/
def candidateTable (h : Hw) (c : Nat) (rpm : Rat) : SMap Nat :=
  let v := sv h c
  let hd := getF h SV_RC_HEAD (inst c)
  let z := min 47 (getF h SV_RC_ZONE (inst c))
  let n : Rat := 2 ^ getF h SV_RC_NR (inst c)
  let k : Rat := 1 / 2 ^ getF h SV_RC_KSH (inst c)
  let avg := fun w => ((mget (fun _ => 0) v.acc w : Int) : Rat) / n
  (List.range 640).foldl (fun m w =>
    let ref := tableRef v hd z w
    let ff := tableFf v hd z w
    let word := if flagF h SV_RC_KIND (inst c) then
        let q := smoothed avg ((w + getF h SV_RC_LEAD (inst c)) % 640) / 1024
        ofSigned 16 ref + 65536 * ofSigned 16 (q15 ((ff : Rat) + k * q * 32768 * (divBy 7200 rpm * divBy 7200 rpm)))
      else ofSigned 16 (q15 ((ref : Rat) - k * smoothed avg w * 16)) + 65536 * ofSigned 16 ff
    zset m w word) []

/-- RC_REVOLUTION (R354): the revolution counts; after 2^NR the candidate is ready. -/
def execRcRevolution (c : Nat) (s : State) : Res := s.run fun h =>
  let v := sv h c
  if v.revCount < 640 ∨ !(flagF h SV_RC_ARM (inst c)) then h
  else
    let h := onServo h c (fun v => { v with
      acc := v.rev.foldl (fun m p => mset (fun _ => 0) m p.1 (mget (fun _ => 0) m p.1 + p.2)) v.acc,
      rev := [], revCount := 0, rpmSum := v.rpmSum + getF h SV_SPD_RPM (inst c) })
    let h := if v.rpmSum = 0 then setF h SV_RCSTAT_REVS (inst c) 1 else satF h SV_RCSTAT_REVS (inst c) 1
    let h := setF h SV_RCSTAT_BUSY (inst c) 0
    let n := getF h SV_RCSTAT_REVS (inst c)
    if 2 ^ getF h SV_RC_NR (inst c) ≤ n then
      let h := onServo h c (fun w => { w with
        candidate := candidateTable h c ((w.rpmSum : Rat) / (n : Rat))
        candidateOf := (getF h SV_RC_HEAD (inst c), min 47 (getF h SV_RC_ZONE (inst c)))
        acc := [], rpmSum := 0 })
      let h := setF (setF h SV_RCSTAT_READY (inst c) 1) SV_IRQS_RCRDY (inst c) 1
      setF h SV_RC_ARM (inst c) 0
    else h

/-! Band laws (R359, R360). -/

/-- One code up above the band, one down below it, within the limits (R359). -/
def bandStep (m lo hi : Rat) (cur least most : Nat) : Nat :=
  if hi < m then min most (cur + 1) else if m < lo then max least (cur - 1) else cur

/-- A step was made (R359). -/
def countBand (h : Hw) (c : Nat) : Hw := addF (setF h SV_IRQS_BAND (inst c) 1) SV_CNT_COUNT (inst c + 20) 1

/-- The read-clearance law's finished block. -/
def readBlock (h : Hw) (c hd : Nat) : Hw :=
  let d := svHead c hd
  let b := bandOf h c hd
  if flagF h SV_HBCTL_RDEN d ∧ 2 ^ getF h SV_HBCTL_NBS d ≤ b.rdCount then
    let m : Rat := (b.rdSum : Rat) / b.rdCount
    let cur := b.stepDue.getD (getF h PA_HLVL_HTRR (paHead c hd))
    let new := bandStep m (getF h SV_HBAND0_CRLO d) (getF h SV_HBAND0_CRHI d) cur (getF h SV_HBLIM_HMIN d) (getF h SV_HBLIM_HMAX d)
    let h := onBand h c hd (fun b => { b with rdSum := 0, rdCount := 0, stepDue := if new = cur then b.stepDue else some new })
    if new = cur then h else countBand h c
  else h

/-- The write-clearance law's finished block. -/
def writeBlock (h : Hw) (c hd : Nat) : Hw :=
  let d := svHead c hd
  let b := bandOf h c hd
  if flagF h SV_HBCTL_WREN d ∧ 2 ^ getF h SV_HBCTL_NBS d ≤ b.wrCount then
    let m : Rat := (b.wrSum : Rat) / b.wrCount
    let cur := if flagF h SV_HBCTL_PWV d then getF h SV_HBCTL_PHTRW d else getF h PA_HLVL_HTRW (paHead c hd)
    let new := bandStep m (getF h SV_HBAND1_CWLO d) (getF h SV_HBAND1_CWHI d) cur (getF h SV_HBLIM_HMIN d) (getF h SV_HBLIM_HMAX d)
    let h := onBand h c hd (fun b => { b with wrSum := 0, wrCount := 0 })
    if new = cur then h else countBand (setF (setF h SV_HBCTL_PHTRW d new) SV_HBCTL_PWV d 1) c
  else h

/-- The laser-bias law's finished block of 16 runs. -/
def laserBlock (h : Hw) (c hd : Nat) : Hw :=
  let d := svHead c hd
  let b := bandOf h c hd
  if flagF h SV_HBCTL_LBEN d ∧ 16 ≤ b.lbCount then
    let m : Rat := (b.lbSum : Rat) / b.lbCount
    let cur := if flagF h SV_HBCTL_PLV d then getF h SV_HBCTL_PLSRB d else getF h PA_HLVL_LSRB (paHead c hd)
    let new := bandStep m (getS h SV_HBAND2_LLO d) (getS h SV_HBAND2_LHI d) cur (getF h SV_HBLIM_LBMIN d) (getF h SV_HBLIM_LBMAX d)
    let h := onBand h c hd (fun b => { b with lbSum := 0, lbCount := 0 })
    if new = cur then h else countBand (setF (setF h SV_HBCTL_PLSRB d new) SV_HBCTL_PLV d 1) c
  else h

/-- BAND_LAW_BLOCK (R359): the blocks of head `hd` that are full end. -/
def execBandLawBlock (c hd : Nat) (s : State) : Res := s.run fun h =>
  if midUp h c ∧ headExists h hd ∧ bandsEnabled h c hd then laserBlock (writeBlock (readBlock h c hd) c hd) c hd else h

/-- READ_CLEARANCE_STEP (R360): HTRR takes the step at a boundary with no run open, and a frame writes register 0x10. -/
def execReadClearanceStep (c hd : Nat) (s : State) : Res := s.run fun h =>
  match (bandOf h c hd).stepDue with
  | some lvl =>
    if headExists h hd ∧ !(runOpen h c) ∧ (car h c).fmt.sif.length < 4 then
      let h := onBand (setF h PA_HLVL_HTRR (paHead c hd) lvl) c hd (fun b => { b with stepDue := none })
      showSync (queueFrame h c (sifWord false hd 0x10 lvl) lvl) c hd
    else h
  | none => h

/-- SERVO_ENABLE (R363): SV_CTL.ENA is set; with the heads leaving the ramp the engine searches. -/
def execServoEnable (c : Nat) (s : State) : Res := s.run fun h =>
  if !(midUp h c) then h
  else
    let h := setF h SV_CTL_ENA (inst c) 1
    if (sv h c).leaving then beginSearch h c else h

/-- SERVO_REINITIALISE (R364): a U of 0xd200 or a fence of the carriage with heads loaded: RETRACT, no further command, Parked. -/
def execServoReinitialise (c : Nat) (s : State) : Res := s.run fun h =>
  if ((unit h (carPath c 0x2F0)).busy ∨ carFenced h c) ∧ headsOut h c then parkServo h c else h

end Sys2Proof.Machine
end

