-- ==== Sys2Proof/Machine/Preamp.lean ====
section
/-! DEFINITION. The preamplifier interface (R56, R67-R71, R261-R263, R313). -/
namespace Sys2Proof.Machine

/-- PA_SIF_CMD_WRITE (R71): the posted write lands: a frame starts, or the write is dropped while ACTIVE is set. -/
def execPaSifCmdWrite (c data : Nat) (s : State) : Res := s.run fun h =>
  if !(midUp h c) then h
  else if flagF h PA_SIF_STAT_ACTIVE (inst c) then setF h PA_SIF_STAT_DROP (inst c) 1
  else
    let h := setReg h (PA_SIF_CMD + inst c) (bits 31 18 data * 2 ^ 18 + bits 15 0 data)
    startFrame (setF h PA_SIF_STAT_ACTIVE (inst c) 1) c

/-- Queue the level writes of R262, as many as the frame queue takes. -/
def queueLevels (h : Hw) (c hd : Nat) : Hw :=
  (levelsDue h c hd).foldl (fun h r => queueFrame h c (sifWord false hd (0x10 + r) (levelOf h c hd r)) (levelOf h c hd r)) h

/-- The acknowledged formatter write of `addr` for `head` takes effect (R262, R313): the head is selected, or the level is the
preamplifier's. Heads 6 and 7 deselect all. An accepted fault clear releases CAc_FLT_N (DEDUCED, log entry 24). -/
def frameAccepted (h : Hw) (c head addr data : Nat) : Hw :=
  let h := onFmt h c (fun f => { f with sifAck := true })
  if addr = 0x20 then
    let sel := if head < 6 then head else 7
    let h := setF (setF h FM_SQSTAT_SELHEAD (inst c) sel) SV_STAT_HEAD (inst c) sel
    onServo h c (fun v => if v.switching = some head then { v with switching := none, frameQueued := false, newHead := true } else v)
  else if 0x10 ≤ addr ∧ addr ≤ 0x16 then
    showSync (onPath h c (fun p => { p with accepted := zset p.accepted (8 * head + (addr - 0x10)) (data % 256 + 1) })) c head
  else if addr = 0x31 then setF h PA_FLT_PIN (inst c) 0
  else h

/-- A formatter frame is not accepted after its repeat (R262, R368): class [6] in 0xd4s0, and a seek that waits for it is
refused. -/
def frameFailed (h : Hw) (c head addr : Nat) : Hw :=
  let h := onFmt h c (fun f => { f with sifAck := false })
  let h := if addr = 0x20 ∧ (sv h c).switching = some head then
      onServo (if svState h c = svSeek then holdHere (refuseSeek h c) c else h) c (fun v => { v with switching := none, frameQueued := false })
    else h
  if head < 6 then raiseFault (setF h PA_HSTAT_SYNC (paHead c head) 0) (preHead c head) 6 false else h

/-- The read of register 0x30 after a fault during a write has ended (R263, R302): PFLT, level 3 with PA_FLT, class [9] in the head's unit; a fault
clear is queued. -/
def faultRead (h : Hw) (c : Nat) : Hw :=
  match (car h c).fmt.faultRead with
  | some hd =>
    let h := onFmt (setF h FM_SIRQS_PFLT (inst c) 1) c (fun f => { f with faultRead := none, argFault := getReg h (PA_FLT + inst c) })
    raiseFault (queueFrame (pendLevel h c 3) c (sifWord false hd 0x31 0x3F) 0x3F) (preHead c hd) 9 false
  | none => h

/-- PREAMP_FRAME_DONE (R69, R70): the frame on the wire ends with acknowledge bits, or with read data and its parity verdict; the
next frame starts. -/
def execPreampFrameDone (c ack rdata : Nat) (parityOk : Bool) (s : State) : Res := s.run fun h =>
  let f := (car h c).fmt
  match f.wire, f.sif with
  | some true, x :: rest =>
    let head := bits 14 12 x.command
    let addr := bits 11 4 x.command
    let h := onFmt h c (fun f => { f with wire := none })
    let h :=
      if bitAt x.command 15 then
        let h := onFmt h c (fun f => { f with sif := rest })
        if addr = 0x30 then faultRead (if parityOk then setF h PA_FLT_CODE (inst c) (bits 5 0 rdata) else h) c else h
      else if ack = 2 then frameAccepted (onFmt h c (fun f => { f with sif := rest })) c head addr x.data
      else if x.again then frameFailed (onFmt h c (fun f => { f with sif := rest })) c head addr
      else onFmt h c (fun f => { f with sif := ⟨x.command, x.data, true⟩ :: rest })
    startFrame h c
  | some false, _ =>
    let h := setF (onFmt h c (fun f => { f with wire := none })) PA_SIF_STAT_ACTIVE (inst c) 0
    let h := if flagF h PA_SIF_CMD_RD (inst c) then
        setF (setF h PA_SIF_STAT_RPERR (inst c) (!parityOk).toNat) PA_SIF_STAT_RDATA (inst c) rdata
      else setF h PA_SIF_STAT_ACK (inst c) ack
    startFrame h c
  | _, _ => h

end Sys2Proof.Machine
end

