-- ==== Sys2Proof/Machine/Channel.lean ====
section
/-! DEFINITION. The read channel: sector starts, decodes, buffer retries, verify reports, coefficient sets and adaptation (R195-R243). The
readers' voltages come with a sector's start; everything else follows from them and from the registers latched there. -/
namespace Sys2Proof.Machine

/-! Sector starts (R197-R201). -/

/-- Mean wedge period of the last 2^WAVG wedges, 0 without wedge lock (R199, R329). -/
def chWper (h : Hw) (c : Nat) : Nat :=
  if flagF h SV_STAT_LOCK (inst c) then
    let l := (sv h c).intervals.take (2 ^ min 4 (getF h CH_CTL_WAVG (inst c)))
    if l.isEmpty then 0 else l.foldl (fun (a b : Nat) => a + b) 0 / l.length
  else 0

/-- The latched bit period of a zone base bit period (R199). -/
def chNbp (h : Hw) (c zbp : Nat) : Nat :=
  if flagF h CH_CTL_GTRACK (inst c) then zbp * chWper h c / 833333 else zbp

/-- R200: the period is in range, and known when tracking. -/
def nbpOk (h : Hw) (c zbp : Nat) : Bool :=
  let n := chNbp h c zbp
  decide (0x10D794 ≤ n) && decide (n ≤ 0x500000) && !(flagF h CH_CTL_GTRACK (inst c) && chWper h c == 0)

/-- CTF cutoff in Hz (R195, R197). -/
def ctfCutoff (h : Hw) (c nbp : Nat) : Nat :=
  min 1900000000 ((30 + 2 * getF h CH_FE_CTFK (inst c)) * 40000000 * 2 ^ 20 / (if nbp = 0 then 1 else nbp))

/-- Why a sector does not start (R200, R238, R243, R244). -/
def sectorRefused (h : Hw) (c hd mode zbp : Nat) : Bool :=
  !(chUp h c) || !(domainUp h (9 + 3 * c)) || !(flagF h CH_CTL_ENA (inst c)) || bits (8 * hd + 7) (8 * hd) (ch h c).badSets != 0 || !(nbpOk h c zbp) ||
  (!(flagF h CH_FE_LAEN (inst c)) && (mode == 0 || mode == 1)) || (!(flagF h CH_FE_LBEN (inst c)) && mode != 1)

/-- Slot that the next sector takes (R223): the one filled longest ago that is not pinned. -/
def nextSlot (k : Channel) : Nat := ((k.order.find? (fun i => !(k.pinned.any (fun x => x.slot == i)))).getD 0)

/-- Everything that a sector latches at its start (R33, R197, R199, R242). -/
def latchSector (h : Hw) (c hd group zbp seed mode : Nat) (write : Bool) (text retries : Nat) (cuts : List Nat) : ChSector :=
  let nbp := chNbp h c zbp
  let word := fun (a : Nat) => BitVec.ofNat 32 (getReg h (a + inst c))
  { id := (ch h c).nextId, head := hd, group := group, mode := mode, write := write, nbp := nbp, cutoff := ctfCutoff h c nbp
    seed := if seed = 0 then 0x7FFFFFFF else seed, slot := nextSlot (ch h c)
    ldpc := word CH_LDPC, retry := word CH_RETRY, adapt := word CH_ADAPT, ta := word CH_TA, fe := word CH_FE, agc := word CH_AGC
    tloop := word CH_TLOOP, mark := word FM_MARK, asym := BitVec.ofNat 32 (getReg h (CH_HFE1 + chHead c hd))
    words := setWords h c (setKey hd group), retries := retries
    preamble := preambleLength h c, resync := resyncLength h c, cuts := cuts, text := text }

/-- Lengths over which a thermal asperity makes a sector an acquisition failure: the preamble and the mark window (R209). -/
def overlapsStart (x : ChSector) (spans : List (Nat × Nat)) : Bool := spans.any (fun p => decide (p.1 ≤ x.preamble + markHalf x))

/-- What the signal of a sector makes of it: the samples of its slot, oldest first, the sector with its measures (R195-R209, R213,
R250-R252), and the steps of the VGAs that it leaves due (R207). -/
def receiveSector (x : ChSector) (hfe0 : BitVec 32) (due : Nat × Nat) (signal : List Stretch) : ChSector × List Samp × (Nat × Nat) :=
  let r := receive x hfe0 due signal
  let all := r.loop.samples.reverse
  let l := (all.drop (x.preamble - markHalf x)).take 52428
  let spans := (if x.write then [] else spansOf x.ta (all.map (fun s => s.farA))) ++ spansOf x.ta (all.map (fun s => s.farB))
  let short := decide (x.preamble < acqBits x.tloop + 32)
  ({ x with
     spans := spans, slipDue := r.loop.slip, locked := r.loop.locked, lockShown := r.loop.locked || r.loop.fell, satA := r.a.sat, satB := r.b.sat
     fofs := roundR (r.loop.time.f * 1000000), frontEnd := frontEndWord r
     cands := sectorCandidates x l
     acqFail := !x.write && (!r.lock || !r.gain || short || overlapsStart x spans || decide (1024 < erasedCount x.ta spans all.length)) },
   l, (vgaDue r.loop.gains.1, vgaDue r.loop.gains.2))

/-- Start a sector (R197-R200): the state after, or none when the channel refuses it. `mode` 3 stands for CH_CTL.MODE on a read; a write uses
verify mode. `text` is the ciphertext of a write sector, `retries` the mark-miss retries made, `cuts` the code bits before each split,
`signal` what the readers give. -/
def channelStart (h : Hw) (c hd group zbp seed mode : Nat) (write : Bool) (text retries : Nat) (cuts : List Nat) (signal : List Stretch) : Option Hw :=
  let h := endSector h c
  let dflt := getF h CH_CTL_MODE (inst c)
  let mode := if write then 3 else if mode < 3 then mode else if dflt < 3 then dflt else 0
  if sectorRefused h c hd mode zbp then none
  else
    let x := latchSector h c hd group zbp seed mode write text retries cuts
    let steps := (ch h c).vgaSteps
    let r := receiveSector x (BitVec.ofNat 32 (getReg h (CH_HFE0 + chHead c hd))) (zget steps (2 * hd), zget steps (2 * hd + 1)) signal
    let h := onChan h c (fun k => { k with
      cur := some r.1, nextId := k.nextId + 1, cutoff := x.cutoff, slots := lset k.slots x.slot r.2.1
      vgaSteps := zset (zset k.vgaSteps (2 * hd) r.2.2.1) (2 * hd + 1) r.2.2.2, order := k.order.filter (fun i => i != x.slot) ++ [x.slot] })
    let h := setF (setF (setF h CH_STAT_ACTIVE (inst c) 1) CH_STAT_AMODE (inst c) mode) CH_STAT_HEAD (inst c) hd
    let h := setF (setF h CH_STAT_GROUP (inst c) group) CH_STAT_LOCK (inst c) r.1.lockShown.toNat
    let h := setF (setF h CH_TSTAT_LOCK (inst c) r.1.lockShown.toNat) CH_ZBP_ZBP (inst c) zbp
    some (setF h CH_NBP_NBP (inst c) x.nbp)

/-- What a refusal leaves (R200): NBPR when the period is the reason, and REFUSE for the formatter. -/
def channelRefuse (h : Hw) (c zbp : Nat) : Hw :=
  let h := endSector h c
  let h := if nbpOk h c zbp then h else setF h CH_IRQS_NBPR (inst c) 1
  setF h FM_SIRQS_REFUSE (inst c) 1

/-- The 4,096 bytes of buffer tag `t` in carriage `c`'s window (R474), as a little-endian number. -/
def tagAddress (c t : Nat) : Nat := 0x200000000 + c * 0x1000000 + 4096 * (t % 128)
def tagText (h : Hw) (c t : Nat) : Nat := leVal (memBytes h (tagAddress c t) 4096)

/-- Put a sector's 4,096 bytes under a buffer tag. -/
def storeText (h : Hw) (c t text : Nat) : Hw := { h with mem := memPutAll h.mem (tagAddress c t) (leBytes 4096 text) }

/-- The bits of a write sector without the servo fields, stretch by stretch: preamble and mark or a resynchronisation field, code bits, and the
pad behind the last (R248, R249). -/
def writeStretches (rsy pad : Nat) : List Bool → List Nat → List Bool → List (List Bool)
  | lead, [], w => [lead ++ w ++ filler pad]
  | lead, n :: cuts, w => (lead ++ w.take n) :: writeStretches rsy pad (resyncField rsy) cuts (w.drop n)

/-- The edges that go out for a write sector, stretch by stretch (R228, R249). -/
def writeEdges (h : Hw) (c : Nat) (x : ChSector) (pad : Nat) : List (List Nat) :=
  let pc := fun (f : Fld) => getF h f (chHead c x.head)
  (writeStretches x.resync pad (leadBits x.preamble) x.cuts (writtenBits x.seed x.text)).map (fun l =>
    edgePlaces x.nbp (pc CH_HWR_PC1) (pc CH_HWR_PC2) false false 0 (precode false l))

/-- The write serialiser sends a write sector on CAc_WD (R228). -/
def sendWriteData (h : Hw) (c : Nat) (x : ChSector) (pad : Nat) : Hw :=
  emit h (.writeData c (writeSwing (getF h CH_HWR_SWING (chHead c x.head))) (writeEdges h c x pad))

/-- SECTOR_START (R199, R228): head, zone group, ZBP, seed, mode, direction, buffer tag of a write sector's ciphertext, splits, signal. -/
def execSectorStart (c hd group zbp seed mode : Nat) (write : Bool) (buf : Nat) (cuts : List Nat) (signal : List Stretch) (s : State) : Res := s.run fun h =>
  match channelStart h c hd group zbp seed mode write (if write then tagText h c buf else 0) 0 cuts signal with
  | some h => match (ch h c).cur with
    | some x => if write then sendWriteData h c x (padLength h c) else h
    | none => h
  | none => if chUp h c then channelRefuse h c zbp else h

/-- THERMAL_ASPERITY (R209): the next span of the sector in progress shows. -/
def execThermalAsperity (c : Nat) (s : State) : Res := s.run fun h => showAsperity h c

/-- TIMING_SLIP (R205): the clamp held, or lock fell during the data of the sector in progress. -/
def execTimingSlip (c : Nat) (s : State) : Res := s.run fun h => showSlip h c

/-! Decodes (R214-R225). -/

/-- A read sector qualifies for adaptation (R232, R236). -/
def qualifies (h : Hw) (c : Nat) (x : ChSector) : Bool :=
  x.mode == 0 && (flagF h CH_ADAPT_ACT (inst c) || (x.globals == 1 && !x.asperity && !x.saturated && !x.slipped))

/-- What the adapter keeps of a read sector that converged with `text` (R233: its reference is the decoded bits). -/
def readDue (h : Hw) (c : Nat) (x : ChSector) (text : Nat) : AdaptDue :=
  let l := slotSamples h c x
  { head := x.head, group := x.group, write := false, adapt := x.adapt, hfeWritten := x.hfeWritten, frontEnd := x.frontEnd
    sums := adaptSums x.words x.mode l (segments x x.words x.mode l (firstOffset x)) (writtenBits x.seed text) }

/-- One global iteration of an on-the-fly sector at candidate 1 (R216, R221). -/
def flyGlobal (h : Hw) (c : Nat) (x : ChSector) : ChSector × Nat :=
  let l := slotSamples h c x
  let g := globalIteration x x.words x.mode false l (segments x x.words x.mode l (firstOffset x)) (latchedLi x) x.ext
  ({ x with globals := x.globals + 1, iters := x.iters + g.iters, unsat := g.unsat, ext := g.ext }, infoText g.dec)

/-- A global iteration of the read codeword that engine `i` holds, the `i`-th of the queue (R221, R222). -/
def decodeFly (h : Hw) (c i : Nat) : Hw :=
  match (ch h c).queue[i]? with
  | none => h
  | some x =>
    if x.write then h
    else
      let r := flyGlobal h c x
      let rest := (ch h c).queue.eraseIdx i
      if r.1.unsat = 0 then
        let h := onChan h c (fun k => { k with queue := rest, due := if qualifies h c r.1 then k.due ++ [readDue h c r.1 r.2] else k.due })
        showQueue (reportRead h c ⟨r.1, 0, 0, 1, r.2, 0⟩) c
      else if r.1.globals < latchedGi x then onChan h c (fun k => { k with queue := k.queue.set i r.1 })
      else showQueue (failOnTheFly (onChan h c (fun k => { k with queue := rest })) c r.1) c

/-- CODEWORD_DECODED (R221, R222): engine `i` ends a global iteration; with an empty queue the sector in progress ends first. -/
def execCodewordDecoded (c i : Nat) (s : State) : Res := s.run fun h =>
  if !(chUp h c) ∨ 2 ≤ i then h
  else decodeFly (if (ch h c).queue.isEmpty then endSector h c else h) c i

/-- DECODER_QUEUE_OVERFLOW (R222): the sector in progress ends while six codewords are queued. -/
def execDecoderQueueOverflow (c : Nat) (s : State) : Res := s.run fun h =>
  match (ch h c).cur with
  | some x => if !x.acqFail ∧ 6 ≤ (ch h c).queue.length then endSector h c else h
  | none => h

/-- Number of the candidate whose decode ended with the fewest unsatisfied checks, the better-ranked of equals; from 1 (R253). -/
def bestCandidate (x : ChSector) : Nat :=
  ((x.tried.zipIdx).foldl (fun (best : Nat × Nat) p => if p.1 < best.1 then (p.1, p.2 + 1) else best) (4097, 1)).2

/-- Offset of candidate `n`, from 1. -/
def candidateOffset (x : ChSector) (n : Nat) : Int := ((x.cands[n - 1]?).map (fun p => p.1)).getD 0

/-- One step of R224 at alignment `offset`, with the extended limits: four global iterations of at most 31 iterations; step 2 decodes reader B
only, then reader A only. -/
def retryStep (h : Hw) (c : Nat) (x : ChSector) (n : Nat) (offset : Int) : Decode :=
  let l := slotSamples h c x
  let k := setKey x.head x.group
  match n with
  | 2 =>
    let d := decodeSlot x x.words 2 false l offset 4 31
    if d.unsat = 0 then d
    else
      let e := decodeSlot x x.words 1 false l offset 4 31
      { e with iters := d.iters + e.iters, globals := d.globals + e.globals }
  | 3 => decodeSlot x x.words x.mode true l offset 4 31
  | 4 => decodeSlot x ((List.range 64).map (fun i => zget (ch h c).stored (64 * k + i))) x.mode false l offset 4 31
  | _ => decodeSlot x x.words x.mode false l offset 4 31

/-- What the retry of a pinned sector does next (R253, R224): candidate `n` with the on-the-fly limits, a step, or its end as Failed. -/
inductive RetryTask where
  | candidate (n : Nat)
  | step (n : Nat)
  | fail
  deriving DecidableEq, Repr

def retryTask (x : ChSector) : RetryTask :=
  if x.tried.length < x.cands.length then .candidate (x.tried.length + 1)
  else match [1, 2, 3, 4].find? (fun n => decide (x.nextStep ≤ n) && latchedStep x n) with
    | some n => .step n
    | none => .fail

/-- A buffer retry ends: the slot is unpinned, RTRY is set, the result reported (R224). -/
def endRetry (h : Hw) (c : Nat) (r : ChResult) : Hw :=
  let h := setF (onChan h c (fun k => { k with pinned := k.pinned.drop 1 })) CH_IRQS_RTRY (inst c) 1
  let h := if r.result = 2 then addF h CH_CNT_COUNT (inst c + 8) 1 else h
  let h := if r.result = 2 ∧ 2 ≤ r.cand then addF h FM_SCNT_COUNT (inst c + 16) 1 else h
  showQueue (reportRead h c r) c

/-- The pinned sector after a decode that did not converge: the retry goes on, or ends Failed when nothing is left. -/
def retryFailed (h : Hw) (c : Nat) (x : ChSector) : Hw :=
  match retryTask x with
  | .fail => endRetry h c ⟨x, 1, 0, bestCandidate x, 0, 0⟩
  | _ => onChan h c (fun k => { k with pinned := x :: k.pinned.drop 1 })

/-- BUFFER_RETRY (R222, R224, R253): an engine that no on-the-fly codeword needs ends the next decode of the oldest pinned sector. -/
def execBufferRetry (c : Nat) (s : State) : Res := s.run fun h =>
  match (ch h c).pinned with
  | [] => h
  | x :: _ =>
    if 2 ≤ (ch h c).queue.length then h
    else match retryTask x with
      | .candidate n =>
        let d := decodeSlot x x.words x.mode false (slotSamples h c x) (candidateOffset x n) (latchedGi x) (latchedLi x)
        let x := { x with iters := x.iters + d.iters, globals := x.globals + d.globals, unsat := d.unsat, tried := x.tried ++ [d.unsat] }
        if d.unsat = 0 then endRetry h c ⟨x, 2, 0, n, d.text, 0⟩ else retryFailed h c x
      | .step n =>
        let d := retryStep h c x n (candidateOffset x (bestCandidate x))
        let x := { x with iters := x.iters + d.iters, globals := x.globals + d.globals, unsat := d.unsat, nextStep := n + 1 }
        if d.unsat = 0 then endRetry h c ⟨x, 2, n, bestCandidate x, d.text, 0⟩ else retryFailed h c x
      | .fail => endRetry h c ⟨x, 1, 0, bestCandidate x, 0, 0⟩

/-- VERIFY_REPORT (R226, R227): an engine ends the verify decode of the oldest write codeword it holds; with an empty queue the write sector in
progress ends first; at most four reports stand untaken. -/
def execVerifyReport (c : Nat) (s : State) : Res := s.run fun h =>
  let h := if (ch h c).queue.isEmpty then endSector h c else h
  match ((ch h c).queue.take 2).find? (fun x => x.write) with
  | none => h
  | some x =>
    if !(chUp h c) ∨ 4 ≤ untaken h c then h
    else showQueue (fileVerify (onChan h c (fun k => { k with queue := k.queue.filter (fun y => y.id != x.id) })) c x false) c

/-! Coefficient sets (R229-R236). -/

/-- Half-word `j` of set `k`, counting two to a word from word `base`. -/
def half (m : SMap Nat) (k base j : Nat) : Nat := zget m (64 * k + base + j / 2) / 2 ^ (16 * (j % 2)) % 65536
def setHalf (m : SMap Nat) (k base j v : Nat) : SMap Nat :=
  let w := zget m (64 * k + base + j / 2)
  zset m (64 * k + base + j / 2) (if j % 2 = 0 then w / 65536 * 65536 + v % 65536 else v % 65536 * 65536 + w % 65536)

/-- Tap update of R233: each of `sums` moves its half-word by 2^-shift / 2^15 of the sum, sign given; rounded and saturated. -/
def moveHalves (m : SMap Nat) (k base shift : Nat) (scale : Rat) (sums : List Rat) : SMap Nat :=
  (sums.zipIdx).foldl (fun m p =>
    let old : Rat := toSigned 16 (half m k base p.2)
    setHalf m k base p.2 (ofSigned 16 (satBits 16 (old + scale * p.1 * 4096 / (2 ^ shift * 32768))))) m

/-- Adapted predictor and variance of condition `i` (R234): `r` are the new estimates; with a singular system the values are
free. -/
def noiseWords (m : SMap Nat) (k i n : Nat) (r0 r1 r2 : Rat) : SMap Nat :=
  let det := r0 * r0 - r1 * r1
  let p1 := if det = 0 then (toSigned 16 (Config.freeNat n) : Rat) / 32768 else (r0 * r1 - r1 * r2) / det
  let p2 := if det = 0 then (toSigned 16 (Config.freeNat (n + 1)) : Rat) / 32768 else (r0 * r2 - r1 * r1) / det
  let var := r0 - p1 * r1 - p2 * r2
  let m := zset m (64 * k + 18 + i) (ofSigned 16 (satBits 16 (p1 * 32768)) + 65536 * ofSigned 16 (satBits 16 (p2 * 32768)))
  setHalf m k 34 i (max 0 (min 65535 (roundR (16 * var)))).toNat

/-- The noise part of an update (R234): conditions seen fewer than 64 times keep their values. -/
def adaptNoise (h : Hw) (c k lam : Nat) (noise : List NoiseSum) : Hw :=
  (noise.zipIdx).foldl (fun h p =>
    let q := p.1
    let i := p.2
    if q.count < 64 ∨ 15 < i then h
    else
      let w : Rat := 1 / 2 ^ lam
      let key := fun j => (k * 16 + i) * 3 + j
      let est := fun (j : Nat) (x : Rat) => (1 - w) * mget (fun _ => 0) (ch h c).auto (key j) + w * x
      let r0 := est 0 q.r0
      let r1 := est 1 q.r1
      let r2 := est 2 q.r2
      let n := h.freeCtr
      onChan { h with freeCtr := n + 2 } c (fun x => { x with
        auto := mset (fun _ => 0) (mset (fun _ => 0) (mset (fun _ => 0) x.auto (key 0) r0) (key 1) r1) (key 2) r2,
        active := noiseWords x.active k i n r0 r1 r2 })) h

/-- Checkpoint, revert and suspension of a set after a qualifying sector of mean square error `mse` (R235); `reven` as latched. -/
def guardSet (h : Hw) (c k hd mse : Nat) (reven : Bool) : Hw :=
  let x := ch h c
  let base := zget x.checkpoint (64 * k + 53) % 65536
  let ref := if zget x.checked k = 1 then base else zget x.active (64 * k + 53) % 65536
  let n := zget x.qualified k + 1
  let h := onChan h c (fun x => { x with qualified := zset x.qualified k n, total := zadd x.total k 1, mse := zset x.mse k mse,
                                         active := setHalf x.active k 53 1 (min 65535 n) })
  let h := setF h CH_AMSE_MSE (inst c) (min 65535 mse)
  if reven ∧ zget x.checked k = 1 ∧ 3 * base < 2 * mse then
    let total := zget (ch h c).total k
    let h := onChan h c (fun x => { x with
      active := copySet x.checkpoint x.active k, qualified := zset x.qualified k 0,
      reverts := lset x.reverts k ((total :: lget x.reverts k).take 3), headReverts := zadd x.headReverts hd 1 })
    let h := setF (satF h CH_ASTAT_REVS (inst c) 1) CH_IRQS_AREV (inst c) 1
    let h := ruleRecord h (chanHead c hd) 235 3 k
    match lget (ch h c).reverts k with
    | [_, _, oldest] =>
      if total ≤ oldest + 1024 then ruleRecord (onChan h c (fun x => { x with suspended := zset x.suspended k 1 })) (chanHead c hd) 235 3 (0x100 + k) else h
    | _ => h
  else if n % 256 = 0 ∧ 100 * mse ≤ 105 * ref then
    onChan h c (fun x =>
      let act := zset x.active (64 * k + 53) (min 65535 mse)
      { x with active := act, checkpoint := copySet act x.checkpoint k, checked := zset x.checked k 1, qualified := zset x.qualified k 0 })
  else h

/-- An active step has rewritten the failing positions of its groups' adaptation tracks (R280); `ks`: the sets 8 h + z. -/
def restoreTracks (h : Hw) (c : Nat) (ks : List Nat) : Hw :=
  onPath h c (fun p => { p with adaptBad := p.adaptBad.filter (fun a => !(ks.contains (setKey a.1 a.2.1))) })

/-- The end of an active step replaces the checkpoint of the sets it adapted, and their count begins anew (R235, R236). -/
def endActive (h : Hw) (c : Nat) : Hw :=
  (ch h c).activeSets.foldl (fun h p => onChan h c (fun x =>
    let act := zset x.active (64 * p.1 + 53) (min 65535 (zget x.mse p.1))
    { x with active := act, checkpoint := copySet act x.checkpoint p.1, checked := zset x.checked p.1 1, qualified := zset x.qualified p.1 0
             activeSets := zset x.activeSets p.1 0 })) (restoreTracks h c ((ch h c).activeSets.map (fun p => p.1)))

/-- The taps and the target move by the sums of a qualifying sector (R233): those of the verify set for a write sector. -/
def moveSet (m : SMap Nat) (k mue mug : Nat) (write : Bool) (u : AdaptSums) : SMap Nat :=
  if write then
    let scale : Rat := bits 25 16 (zget m (64 * k + 51))
    moveHalves (moveHalves m k 42 mue (-1) (u.tapsB.take 16)) k 50 mug scale (u.target.take 3)
  else
    let scale : Rat := bits 25 16 (zget m (64 * k + 17))
    moveHalves (moveHalves (moveHalves m k 0 mue (-1) (u.tapsA.take 16)) k 8 mue (-1) (u.tapsB.take 16)) k 16 mug scale (u.target.take 3)

/-- The set part of an update (R233-R236): taps and target when their adaptation is enabled, noise when NPEN is 1, neither while passive
adaptation of the set is suspended; then the guard, and a staging copy that firmware has not written follows. -/
def updateSet (h : Hw) (c : Nat) (d : AdaptDue) : Hw :=
  let k := setKey d.head d.group
  let act := flagF h CH_ADAPT_ACT (inst c)
  let step := fun (f : Fld) => max 8 (latched f d.adapt) - (if act then 2 else 0)
  let going := act || zget (ch h c).suspended k == 0
  let taps := going && (if d.write then latched CH_ADAPT_VAEN d.adapt == 1 else act || latched CH_ADAPT_PEN d.adapt == 1)
  let h := if act then onChan h c (fun y => { y with suspended := zset y.suspended k 0, activeSets := zset y.activeSets k 1 })
    else if taps then onChan h c (fun y => { y with updated := zset y.updated k (h.log.optime + 1) }) else h
  let h := if taps then onChan h c (fun y => { y with active := moveSet y.active k (step CH_ADAPT_MUE) (step CH_ADAPT_MUG) d.write d.sums }) else h
  let h := if going && !d.write && latched CH_ADAPT_NPEN d.adapt == 1 then adaptNoise h c k (latched CH_ADAPT_LAM d.adapt) d.sums.noise else h
  let h := guardSet h c k d.head d.sums.mse (latched CH_ADAPT_REVEN d.adapt == 1)
  if zget (ch h c).staged k = 0 then onChan h c (fun y => { y with staging := copySet y.active y.staging k }) else h

/-- The oldest update that waits is made at a sector boundary of its head (R208, R230, R233): the front end's start word unless firmware has
written it, the set unless a commit has met the update or the set holds no valid data. A sector of the head in progress ends first, and its
commits are made. -/
def applyDue (h : Hw) (c : Nat) : Hw :=
  let h := match (ch h c).due.head?, (ch h c).cur with
    | some d, some x => if x.head = d.head then endSector h c else h
    | _, _ => h
  match (ch h c).due with
  | [] => h
  | d :: rest =>
    let h := onChan h c (fun y => { y with due := rest })
    let h := if d.hfeWritten then h else setReg h (CH_HFE0 + chHead c d.head) d.frontEnd
    if d.dropped ∨ !(bitAt (ch h c).setsValid (setKey d.head d.group)) then h else updateSet h c d

/-- ADAPTER_UPDATE (R208, R230, R233): the next sector boundary of the head of the oldest update that waits. -/
def execAdapterUpdate (c : Nat) (s : State) : Res := s.run fun h => applyDue h c

/-- Show the lowest waiting active adaptation request, when none is shown (R236). -/
def showAreq (h : Hw) (c : Nat) : Hw :=
  if flagF h CH_ASTAT_AREQ (inst c) then h
  else match (ch h c).areqs with
    | [] => h
    | (k, _) :: _ =>
      let h := setF (setF (setF h CH_ASTAT_AREQ (inst c) 1) CH_ASTAT_AHEAD (inst c) (k / 8)) CH_ASTAT_AGRP (inst c) (k % 8)
      setF (onChan h c (fun x => { x with areqs := zset x.areqs k 0 })) CH_IRQS_AREQ (inst c) 1

/-- The set of a head whose heads are loaded has had no passive update for STALE minutes since they were (R236). -/
def setStale (h : Hw) (c k : Nat) : Bool :=
  decide (2 ≤ getF h AC_STAT_STATE (inst c) ∧ getF h AC_STAT_STATE (inst c) ≤ 3) &&
  decide (max ((ch h c).loadedAt) (zget (ch h c).updated k - 1) + max 5 (getF h CH_ADAPT_STALE (inst c)) * 60000 ≤ h.log.optime)

/-- ACTIVE_ADAPTATION_REQUEST (R236): a set of a loaded head has had no passive update for STALE minutes. -/
def execActiveAdaptationRequest (c hd z : Nat) (s : State) : Res := s.run fun h =>
  if chUp h c ∧ headExists h hd ∧ z < 8 ∧ setStale h c (setKey hd z) then
    showAreq (onChan h c (fun x => { x with areqs := zset x.areqs (setKey hd z) 1 })) c
  else h

/-- AREQ_CLEAR (R236): the request shown is cleared and the next one appears. -/
def execAreqClear (c : Nat) (s : State) : Res := s.run fun h =>
  if chUp h c then showAreq (setF h CH_ASTAT_AREQ (inst c) 0) c else h

/-- A write of CH_TADDR (R230): staging is loaded when the set changes. -/
def selectSet (h : Hw) (c data : Nat) : Hw :=
  let hd := bits 24 22 data
  let k := setKey hd (bits 21 19 data)
  let h := setReg h (CH_TADDR + inst c) (bits 30 30 data * 2 ^ 30 + bits 24 19 data * 2 ^ 19 + bits 5 0 data)
  if (ch h c).taddr = some k then h
  else if 5 < hd then onChan h c (fun x => { x with taddr := some k })
  else loadStaging (onChan h c (fun x => { x with taddr := some k })) c k

/-- Commit the set that `data` names: at once, or at the head's next sector boundary (R230). -/
def requestCommit (h : Hw) (c data : Nat) : Hw :=
  let hd := bits 24 22 data
  let k := setKey hd (bits 21 19 data)
  if 5 < hd then h
  else
    match (ch h c).cur with
    | some x => if x.head = hd then onChan h c (fun y => { y with commitDue := zset y.commitDue k 1 }) else commitSet h c k
    | none => commitSet h c k

/-- CH_TADDR_WRITE (R230). -/
def execChTaddrWrite (c data : Nat) (s : State) : Res := s.run fun h =>
  if !(chUp h c) then h
  else
    let h := selectSet h c data
    if bitAt data 31 then requestCommit h c data else h

/-- COEFFICIENT_COMMIT (R230): CH_TADDR is written with COMMIT = 1. -/
def execCoefficientCommit (c data : Nat) (s : State) : Res := s.run fun h =>
  if chUp h c then requestCommit (selectSet h c data) c data else h

/-- The bits of word `w` of a set that R229 names; the others read 0. -/
def wordBits (w : Nat) : Nat := if w = 17 ∨ w = 51 then 26 else if w = 52 then 16 else if 54 ≤ w then 0 else 32

/-- CH_TDATA_ACCESS (R229, R230): a read or a write of the addressed word; WORD moves on. -/
def execChTdataAccess (c : Nat) (write : Bool) (data : Nat) (s : State) : Res := s.run fun h =>
  if !(chUp h c) then h
  else
    let hd := getF h CH_TADDR_HEAD (inst c)
    let k := setKey hd (getF h CH_TADDR_GRP (inst c))
    let w := getF h CH_TADDR_WORD (inst c)
    let h :=
      if write then
        if 5 < hd then h else onChan h c (fun x => { x with staging := zset x.staging (64 * k + w) (data % 2 ^ wordBits w), staged := zset x.staged k 1 })
      else
        let v := if flagF h CH_TADDR_SRC (inst c) then activeWord h c k w else zget (ch h c).staging (64 * k + w)
        emit h (.word (BitVec.ofNat 32 (if 5 < hd then 0 else v)))
    setF h CH_TADDR_WORD (inst c) ((w + 1) % 64)

/-- CHANNEL_REINITIALISE (R240): a U of 0xd100; `frontEnd`: of 0xd500. -/
def execChannelReinitialise (c : Nat) (frontEnd : Bool) (s : State) : Res := s.run fun h =>
  if !(populated h c) then h else if frontEnd then unitStop h (carPath c 0x5F0) else unitStop h (carPath c 0x1F0)

end Sys2Proof.Machine
end

