-- ==== Sys2Proof/Machine/Sectors.lean ====
section
/-! DEFINITION. The sector path: zone tables, the Landing ring, retries over revolutions, defects and spares, power loss (R246-R283),
and the sector timing unit's descriptors and reports (R307-R314). -/
namespace Sys2Proof.Machine

/-! Geometry (R246-R248, R267). -/

/-- Scrambler seed of a physical sector (R246). -/
def sectorSeed (hd track index : Nat) (type1 : Bool) : Nat :=
  crc32c (leBytes 1 (hd + 128 * type1.toNat) ++ leBytes 1 0 ++ leBytes 2 index ++ leBytes 4 track) % 2 ^ 31

/-! Landing space (R272). -/

/-- Positions from FM_LHEAD up to FM_LTAIL, the whole ring when no record is held (R272). -/
def landSpan (h : Hw) (c : Nat) : Nat :=
  if (path h c).records.any (fun r => decide (ldseq h c ≤ r.seq)) then ringGap (lhead h c) (ltail h c) else ringSize

/-- Free Landing positions (R272): those of the span less the pinned ones among them. -/
def landFree (h : Hw) (c : Nat) : Nat :=
  let n := landSpan h c
  n - ((path h c).pins.filter (fun p => decide (ringGap (lhead h c) p < n))).length

/-- Sets LLOW and LFULL when space is below its marks (R272). -/
def checkSpace (h : Hw) (c : Nat) : Hw :=
  let n := landFree h c
  let h := if n < liveVal h (carPath c 0x320) 0x014 0 then setF h FM_SIRQS_LLOW (inst c) 1 else h
  if n < 131 then setF h FM_SIRQS_LFULL (inst c) 1 else h

/-- LANDING_FULL (R272). -/
def execLandingFull (c : Nat) (s : State) : Res := s.run fun h => if midUp h c then checkSpace h c else h

/-! The extent map (R438, R442) and the grown-defect list (R274-R276). -/

/-- Change an extent entry: MSEQ moves on and the change waits to be written to the carriages (R442). -/
def changeExtent (h : Hw) (e : Nat) (f : Extent → Extent) : Hw :=
  onEngine h (fun g =>
    let n := g.mapSeq + 1
    { g with mapSeq := n, mapDue := true, extents := mset (fun _ => {}) g.extents e { f (mget (fun _ => {}) g.extents e) with mseq := n } })

/-- The home band that holds a sector: the entry of its carriage and head with the highest first track at or below it. -/
def bandOfTrack (h : Hw) (c hd track : Nat) : Option Nat :=
  (h.engine.extents.foldl (fun best p =>
    if p.2.car = c ∧ p.2.head = hd ∧ p.2.btrk ≤ track ∧ !p.2.retired then
      match best with
      | some (_, b) => if b ≤ p.2.btrk then some (p.1, p.2.btrk) else best
      | none => some (p.1, p.2.btrk)
    else best) none).map (·.1)

/-- Show the list's length, the pool and the pins. -/
def showDefects (h : Hw) (c : Nat) : Hw :=
  let h := setF (setF h FM_DEFS_POOLFREE (inst c) (path h c).poolFree) FM_DEFS2_RESFREE (inst c) (path h c).resFree
  setF (setF h FM_DEFS_GUSED (inst c) (path h c).grown.length) FM_DEFS2_LPINS (inst c) (path h c).pins.length

/-- Enter a grown defect (R275), in place of an entry of the same sector; at most 16,384. -/
def addDefect (h : Hw) (c : Nat) (d : GDef) : Hw :=
  let others := (path h c).grown.filter (fun g => !(g.head == d.head && g.track == d.track && g.sect == d.sect))
  showDefects (if others.length < 16384 then onPath h c (fun p => { p with grown := others ++ [d] }) else h) c

/-- A Landing position that the ring skips (R275), or that is pinned (R272). -/
def landingBad (h : Hw) (c p : Nat) : Bool :=
  (path h c).pins.contains p ||
  match landPlace h c p with
  | some (t, hd, i) => (path h c).grown.any (fun g => g.landing && g.head == hd && g.track == t && g.sect == i)
  | none => false

/-- The next eligible position from `p` in ring order (R310). -/
def eligible (h : Hw) (c : Nat) : Nat → Nat → Nat
  | 0, p => p
  | n + 1, p => if landingBad h c p then eligible h c n (ringNext p) else p

/-- The pool counts as empty for new data (R276). -/
def poolEmpty (h : Hw) (c : Nat) : Bool :=
  decide ((path h c).poolFree ≤ (path h c).resFree) || decide (16384 ≤ (path h c).grown.length + 64)

/-- A reassignment finds the pool empty (R276): the extent becomes read-only. -/
def poolLow (h : Hw) (c hd track : Nat) : Hw :=
  let h := setF h FM_SIRQS_POOLLOW (inst c) 1
  match bandOfTrack h c hd track with
  | some e => if (extent h e).readonly then h else changeExtent h e (fun x => { x with readonly := true })
  | none => h

/-- The spare that a reassignment of a sector takes (R274, R276): SPARE, and whether it lies in the reserve. None: none is left. -/
def nextSpare (h : Hw) (c hd track : Nat) : Option (Nat × Bool) :=
  let p := path h c
  let used := match bandOfTrack h c hd track with
    | some e => zget p.bandUsed e
    | none => 64
  if used < 64 then some (used, false)
  else if !(poolEmpty h c) then some (2 ^ 31 + (8192 - p.poolFree), false)
  else if 0 < p.resFree ∧ 0 < p.poolFree then some (2 ^ 31 + (8192 - p.resFree), true)
  else none

/-- Take that spare. -/
def takeSpare (h : Hw) (c hd track : Nat) (s : Nat × Bool) : Hw :=
  let h := if s.1 < 2 ^ 31 then
      match bandOfTrack h c hd track with
      | some e => onPath h c (fun p => { p with bandUsed := zadd p.bandUsed e 1 })
      | none => h
    else onPath h c (fun p => { p with poolFree := p.poolFree - 1, resFree := p.resFree - s.2.toNat })
  showDefects h c

/-- Reassign a sector (R274, R276): a spare of its band, the pool, the reserve; `ok`: the spare passes verify. -/
def reassign (h : Hw) (c hd track index cause : Nat) (ok : Bool) : Hw :=
  let low : Bool := match nextSpare h c hd track with
    | some s => s.2
    | none => true
  let sp := nextSpare h c hd track
  let h := if low then poolLow h c hd track else h
  match sp with
  | none => h
  | some sp =>
    let h := takeSpare h c hd track sp
    if ok then
      let h := addDefect h c { head := hd, pend := false, reserve := sp.2, landing := false, sect := index, track := track, spare := sp.1, cause := cause }
      addF (setF (setF h FM_SIRQS_REASG (inst c) 1) FM_WSTAT_SPARE (inst c) 1) FM_SCNT_COUNT (inst c + 24) 1
    else h

/-- Head, track and index of a spare of a sector's head (R274): a sector of its band's end, or of the pool. -/
def sparePlace (h : Hw) (c hd track spare : Nat) : Option (Nat × Nat × Nat) :=
  if 2 ^ 31 ≤ spare then some (Config.poolSector (8192 * c + (spare - 2 ^ 31)))
  else match bandOfTrack h c hd track with
    | some e => (bandSector h c hd (extent h e).btrk (extentBlocks + spare)).map (fun p => (hd, p.1, p.2))
    | none => none

/-- Where a home sector's data stands (R274): at its spare once it is reassigned. -/
def homePlace (h : Hw) (c hd track index : Nat) : Nat × Nat × Nat :=
  match (path h c).grown.find? (fun g => !g.pend && !g.landing && g.head == hd && g.track == track && g.sect == index) with
  | some g => (sparePlace h c hd track g.spare).getD (hd, track, index)
  | none => (hd, track, index)

/-- Entry and block of the extent whose data stands at a home sector or spare (R274, R439). -/
def blockAt (h : Hw) (c hd track index : Nat) : Option (Nat × Nat) :=
  let back := (path h c).grown.find? (fun g => !g.pend && !g.landing && sparePlace h c g.head g.track g.spare == some (hd, track, index))
  let p := match back with
    | some g => (g.head, g.track, g.sect)
    | none => (hd, track, index)
  match bandOfTrack h c p.1 p.2.1 with
  | some e =>
    let b := sectorOfBand h c p.1 (extent h e).btrk p.2.1 p.2.2
    if b < extentBlocks then some (e, b) else none
  | none => none

/-! Sectors under way (R255-R265). -/

/-- The first sector under way that `f` names. -/
def workWhere (h : Hw) (c : Nat) (f : SecWork → Bool) : Option SecWork := (path h c).works.find? f

/-- Drop the work of channel sector `id`. -/
def dropWork (h : Hw) (c id : Nat) : Hw := onPath h c (fun p => { p with works := p.works.filter (fun w => w.id != id) })

/-- A read that recovered its sector only after RLTH reads or more (R258), or a home write that goes to a spare: its rewrites are spent or its
entry has PEND set (R265, R275). -/
def spareDue (h : Hw) (c : Nat) (w : SecWork) : Bool :=
  !w.landing && (if w.write then w.failed && (w.direct || decide (getF h FM_VCRIT2_WRETRY (inst c) < w.tries))
    else w.finished && !w.failed && getF h FM_VCRIT2_RLTH (inst c) != 0 && decide (getF h FM_VCRIT2_RLTH (inst c) ≤ w.tries))

/-- The write serialiser sends the codeword of a sector to its spare (R258, R274): its ciphertext stands under the descriptor's tag. -/
def writeSpare (h : Hw) (c : Nat) (w : SecWork) : Hw :=
  match (nextSpare h c w.head w.track).bind (fun sp => sparePlace h c w.head w.track sp.1) with
  | some (hd, track, index) =>
    match trackZone h c hd track with
    | some z =>
      let cuts := (placePosition { bpw := z.bpw, sfl := z.sfl, pre := preambleLength h c, rsy := resyncLength h c, pad := padLength h c } index).cuts
      let x := latchSector h c hd z.group z.zbp (sectorSeed hd track index false) 3 true (tagText h c (bits 15 0 w.desc.w2)) 0 cuts
      addF (sendWriteData h c x (padLength h c)) FM_SCNT_COUNT (inst c) 1
    | none => h
  | none => h

/-- A home block holds a sector's ciphertext from now on. -/
def putBlock (h : Hw) (c : Nat) (w : SecWork) (text : Nat) : Hw :=
  match blockAt h c w.head w.track w.index with
  | some (e, b) => onPath h c (fun p => { p with homeData := mset (fun _ => p.fill) p.homeData (e * extentBlocks + b) text })
  | none => h

/-- The sector of `w` goes to a spare with verify; `ok`: the spare passes. Once no spare is left the sector stays in place and counts as
handled (R258, R276). -/
def toSpare (h : Hw) (c : Nat) (w : SecWork) (ok : Bool) : Hw :=
  let none' : Bool := (nextSpare h c w.head w.track).isNone
  let h := reassign (writeSpare h c w) c w.head w.track w.index (if w.write then 1 else 2) ok
  let h := if ok && w.write then putBlock h c w (tagText h c (bits 15 0 w.desc.w2)) else h
  if !ok && !none' then h
  else if w.direct then onWork h c w.id (fun w => { w with failed := false })
  else dropWork h c w.id

/-- REASSIGN (R258, R265, R274): the oldest sector for which it is due is written to a spare; `ok`: the spare passed verify. -/
def execReassign (c : Nat) (ok : Bool) (s : State) : Res := s.run fun h =>
  match workWhere h c (spareDue h c) with
  | some w => toSpare h c w ok
  | none => h

/-- POOL_EMPTY (R276): a reassignment that is due finds the pool empty. -/
def execPoolEmpty (c : Nat) (s : State) : Res := s.run fun h =>
  match workWhere h c (spareDue h c) with
  | some w => if poolEmpty h c then poolLow h c w.head w.track else h
  | none => h

/-- Note the try of a sector (R255-R265): the same sector again is a further try, unless it has had its outcome. -/
def noteWork (h : Hw) (c : Nat) (w : SecWork) : Hw :=
  let same := fun (v : SecWork) => !v.finished && v.write == w.write && v.head == w.head && v.track == w.track && v.index == w.index
  match workWhere h c same with
  | some v =>
    let h := onPath h c (fun p => { p with works := p.works.map (fun u => if same u then { v with tries := v.tries + 1, failed := false, id := w.id } else u) })
    if w.write then h else addF h FM_SCNT_COUNT (inst c + 20) 1
  | none => onPath h c (fun p => { p with works := p.works.filter (fun v => !v.finished) ++ [w] })

/-! The sector timing unit (R307-R314). -/

/-- Push a descriptor; the queue holds four (R309). -/
def pushDesc (h : Hw) (c : Nat) (d : Desc) : Hw :=
  if (fm h c).sq.length < 4 then showStu (onFmt h c (fun f => { f with sq := f.sq ++ [d] })) c else h

/-- The descriptor at the queue's head has been taken; a failed Landing descriptor that waits for room takes its place at the end. -/
def popDesc (h : Hw) (c : Nat) : Hw :=
  let h := onFmt h c (fun f => { f with sq := f.sq.drop 1 })
  match (path h c).again with
  | d :: rest => pushDesc (onPath h c (fun p => { p with again := rest })) c d
  | [] => showStu h c

/-- Add a descriptor that waits for its report. -/
def openDesc (h : Hw) (c : Nat) (o : OpenDesc) : Hw := onFmt (popDesc h c) c (fun f => { f with started := f.started ++ [o] })

/-- A head whose levels were never committed, or are both 0, is refused for writes (R283). -/
def levelsMissing (h : Hw) (c hd : Nat) : Bool :=
  !(bitAt (path h c).levelsSet hd) || (getReg h (PA_HLVL + paHead c hd) == 0 && getReg h (PA_HBIAS + paHead c hd) == 0)

/-- Geometry of a zone's track (R247-R249). -/
def geometryOf (h : Hw) (c : Nat) (z : Zone) : TrackGeometry :=
  { bpw := z.bpw, sfl := z.sfl, pre := preambleLength h c, rsy := resyncLength h c, pad := padLength h c }

/-- A journal record or filler as a sector of 4,096 bytes, its CRC field written (R269): the first 4,092 bytes, then their CRC-32C. -/
def withCrc (l : List (BitVec 8)) : List (BitVec 8) := let b := padTo 4092 l; b ++ leBytes 4 (crc32c b)

/-- The bytes of a journal record, and of a filler that carries `seq` (R269). -/
def LRec.bytes (r : LRec) : List (BitVec 8) :=
  withCrc (padTo 0x100 (leBytes 4 0x524C564A ++ leBytes 2 1 ++ leBytes 1 1 ++ leBytes 1 (r.ordered.toNat + 2 * r.mirrored.toNat) ++ leBytes 8 r.seq ++
    leBytes 4 r.nsid ++ leBytes 2 r.count ++ leBytes 2 0 ++ leBytes 8 r.sdu ++ leBytes 4 r.lpos ++ leBytes 4 r.kgen ++ leBytes 8 r.time ++ leBytes 8 r.dseq ++
    leBytes 16 r.posmap) ++ r.dcrc.flatMap (fun x => leBytes 4 x))
def fillerBytes (seq : Nat) : List (BitVec 8) := withCrc (leBytes 4 0x524C564A ++ leBytes 2 1 ++ leBytes 1 0 ++ leBytes 1 0 ++ leBytes 8 seq)

/-- A Landing position is written: a record or filler as type 1, the rest as type 0 (R246, R268). The journal is no longer that of an orderly
spin-down (R277). -/
def putPosition (h : Hw) (c p : Nat) (type1 : Bool) (text : Nat) : Hw :=
  onPath h c (fun q => { q with landData := zset q.landData p text, journal := zset q.journal p type1.toNat, orderly := false })

/-- The next `n` positions from FM_LHEAD pass (R268, R310): each free one carries a filler, and FM_LHEAD moves on past all of them. -/
def passFillers (h : Hw) (c : Nat) : Nat → Hw
  | 0 => h
  | n + 1 =>
    let p := lhead h c
    let h := onPath h c (fun q => { q with sinceCheck := q.sinceCheck + 1 })
    let h := if landingBad h c p then h else putPosition h c p true (leVal (fillerBytes (lseq h c + 1)))
    passFillers (setF h FM_LHEAD_VALUE (inst c) (ringNext p)) c n

/-- What a write descriptor writes (R308): the buffer tag's bytes, or the template in journal staging with the CRC field written by the
STU. -/
def descText (h : Hw) (c : Nat) (d : Desc) : Nat :=
  if descKind d = 4 then
    let base := match (fm h c).running with
      | some r => r.w1
      | none => 0
    leVal (withCrc ((List.range 4092).map (fun i => BitVec.ofNat 8 (zget (fm h c).journal ((base + i) % 65536)))))
  else if writeKind (descKind d) then tagText h c (descBuf d)
  else 0

/-- The gates rise for a write sector (R259): CAc_HTR_EN before the first sector of a run, CAc_LSR_EN before WG, WG before the preamble; then the
write data. -/
def startWrite (h : Hw) (c : Nat) (x : ChSector) (p : Placed) : Hw :=
  let lead : Int := (min 32 (getF h FM_GATE_WGLEAD (inst c)) * x.nbp * 250 / 2 ^ 20 : Nat)
  let h := if (path h c).htrEn && (path h c).runHead != x.head then endRun h c else h
  let q := path h c
  let h := sendGate h c 0 q.htrEn true (-(getF h FM_GATE_HPRE (inst c) * 1000000 : Nat))
  let h := sendGate h c 1 q.lsrEn true (-lead - (getF h FM_GATE_LPRE (inst c) * 10000 : Nat))
  let h := sendGate h c 2 q.wg true (-lead)
  let h := sendWriteData h c x p.pad
  onPath h c (fun p => { p with htrEn := true, lsrEn := true, wg := true, sg := false, runHead := x.head })

/-- Kind 1 reads a type-1 position with the type-1 seed, and a Landing data position, which is of type 0, with the type-0 seed: the routines that
read Landing data are Read Landing and Destage (R246, R300, R308; DEDUCED, log entry 106). -/
def type1Seed (h : Hw) (c kind : Nat) : Bool :=
  kind == 4 || (kind == 1 && match (fm h c).running with
    | some r => r.opc != 4 && r.opc != 5
    | none => true)

/-- The place of a descriptor: track, head, index; for kinds 3 and 4 that of Landing position `pos` (R308, R310). -/
def descPlace (h : Hw) (c : Nat) (d : Desc) (pos : Nat) : Option (Nat × Nat × Nat) :=
  if descKind d = 3 ∨ descKind d = 4 then landPlace h c pos else some (descTrack d, descHead d, descIndex d)

/-- R309: the kind is reserved, the track or head is not the present one, a head's levels are missing (R283), or the track has no such
position. -/
def descRefused (h : Hw) (c : Nat) (d : Desc) (pos : Nat) : Bool :=
  match descPlace h c d pos with
  | none => true
  | some (track, hd, index) =>
    decide (4 < descKind d) || track != getF h SV_POS_TRACK (inst c) || hd != getF h FM_SQSTAT_SELHEAD (inst c) ||
    descHead d != getF h FM_SQSTAT_SELHEAD (inst c) || decide (5 < hd) || (writeKind (descKind d) && levelsMissing h c hd) ||
    decide (positionsOn h c hd track ≤ index)

/-- The grown-defect entry of a sector has PEND set (R275). -/
def pendEntry (h : Hw) (c hd track index : Nat) : Bool :=
  (path h c).grown.any (fun g => g.pend && !g.landing && g.head == hd && g.track == track && g.sect == index)

/-- The channel takes the sector of a descriptor whose position is placed (R308-R310). -/
def startDesc (h : Hw) (c : Nat) (d : Desc) (o : OpenDesc) (z : Zone) (track hd index : Nat) (signal : List Stretch) : Hw :=
  let kind := descKind d
  let write := writeKind kind
  let land := kind == 3 || kind == 4
  let p := placePosition (geometryOf h c z) index
  let h := setF (setF h FM_BC_WEDGE (inst c) p.wedge) FM_BC_BC (inst c) p.bit
  let w : SecWork := { write := write, head := hd, track := track, index := index, landing := land || kind == 1, desc := d, id := (ch h c).nextId }
  let h := noteWork h c w
  let misses := ((workWhere h c (fun v => v.id == w.id && !v.finished)).map (fun v => v.misses)).getD 0
  let text := descText h c d
  match channelStart h c hd z.group z.zbp (sectorSeed hd track index (type1Seed h c kind)) (bits 23 22 d.w0) write text misses p.cuts signal with
  | none =>
    let h := channelRefuse h c z.zbp
    openDesc (onChan h c (fun k => { k with nextId := k.nextId + 1 })) c { o with id := w.id, refused := true, byChannel := true }
  | some h =>
    let h := openDesc h c { o with id := w.id, text := text }
    let h := onChan h c (fun k => { k with cur := k.cur.map (fun x => { x with endWedge := p.endWedge, endBit := p.endBit }) })
    let h := match (ch h c).cur with
      | some x => if write then startWrite h c x p else onPath (endRun h c) c (fun p => { p with sg := false })
      | none => h
    if land then
      let h := if flagF h FM_SQSTAT_RUNOPEN (inst c) then h else onFmt (setF h FM_SQSTAT_RUNOPEN (inst c) 1) c (fun f => { f with runEnd := false })
      let h := onFmt h c (fun f => { f with passed := 0, landing := kind == 3 })
      onPath (setF h FM_LHEAD_VALUE (inst c) (ringNext o.pos)) c (fun p => { p with sinceCheck := p.sinceCheck + 1 })
    else h

/-- A write descriptor opens without being written (R264, R265): a home sector so left waits for its rewrite. -/
def openUnwritten (h : Hw) (c : Nat) (o : OpenDesc) (track hd index : Nat) (land : Bool) : Hw :=
  let id := (ch h c).nextId
  let h := noteWork (onChan h c (fun k => { k with nextId := id + 1 })) c
    { write := true, head := hd, track := track, index := index, landing := land, desc := o.desc, id := id, direct := o.direct, failed := o.direct }
  openDesc h c { o with id := id }

/-- DESCRIPTOR_START (R309, R310, R312): the position of the queue's first descriptor arrives; `signal` is what the readers give over it. A read,
or a write on another head, ends the run; a write whose levels the preamplifier does not hold yet waits for the level frames (R262); no
Landing write starts without free space, and below 131 positions only one that has started goes on (R272). -/
def execDescriptorStart (c : Nat) (signal : List Stretch) (s : State) : Res := s.run fun h =>
  match (fm h c).sq with
  | [] => h
  | d :: _ =>
    if !(midUp h c) ∨ 8 ≤ (fm h c).reports.length ∨ (fm h c).ploss then h
    else
      let write := writeKind (descKind d)
      let land := descKind d == 3 || descKind d == 4
      let pos := eligible h c ((path h c).grown.length + (path h c).pins.length + 1) (lhead h c)
      let o : OpenDesc := { desc := d, pos := pos, id := 0, refused := false, skipped := false, lost := false }
      if write ∧ 4 ≤ untaken h c then
        if land then setF h FM_LHEAD_VALUE (inst c) (ringNext pos)
        else openUnwritten h c { o with skipped := true, lost := true } (descTrack d) (descHead d) (descIndex d) false
      else if land ∧ (landSpan h c ≤ ringGap (lhead h c) pos ∨ landFree h c = 0 ∨ (landFree h c < 131 ∧ descKind d = 3 ∧ !(fm h c).landing)) then
        checkSpace h c
      else if descRefused h c d pos ∨ ((descPlace h c d pos).bind (fun q => trackZone h c q.2.1 q.1)).isNone then
        if descKind d = 2 then openUnwritten h c { o with refused := true } (descTrack d) (descHead d) (descIndex d) false
        else openDesc h c { o with refused := true }
      else match descPlace h c d pos with
        | none => h
        | some (track, hd, index) =>
          match trackZone h c hd track with
          | none => h
          | some z =>
            if descKind d = 2 ∧ pendEntry h c hd track index then openUnwritten h c { o with direct := true } track hd index false
            else if write ∧ !(levelsDue h c hd).isEmpty then queueLevels h c hd
            else if write ∧ writeBlocked h c then
              let h := setF (setF h FM_WSTAT_OUT (inst c) 3) FM_SIRQS_WINH (inst c) 1
              openUnwritten (if land then setF h FM_LHEAD_VALUE (inst c) (ringNext pos) else h) c { o with lost := true } track hd index land
            else startDesc h c d o z track hd index signal

/-- Grade of a verify report (R264). -/
def gradeOf (h : Hw) (c : Nat) (v : VReport) : Nat :=
  if v.conv ∧ v.weak ≤ getF h FM_VCRIT2_WKMAX (inst c) then
    if v.raw ≤ getF h FM_VCRIT_RAWWARN (inst c) then 0 else if v.raw ≤ getF h FM_VCRIT_RAWMAX (inst c) then 1 else 2
  else 2

/-- Queue a report (R311). -/
def queueReport (h : Hw) (c : Nat) (r : Rpt) : Hw :=
  showStu (onFmt h c (fun f => { f with reports := f.reports ++ [r], started := f.started.drop 1 })) c

/-- RPT0 (R311). -/
def rpt0 (d : Desc) (out : Nat) (refused skipped : Bool) : Nat :=
  descKind d % 8 * 2 ^ 29 + out * 2 ^ 27 + refused.toNat * 2 ^ 26 + skipped.toNat * 2 ^ 25 + descHead d * 2 ^ 21 + descIndex d

/-- RPT1 (R311). -/
def rpt1 (h : Hw) (c : Nat) (o : OpenDesc) : Nat :=
  match descKind o.desc with
  | 1 => landPosition h c (descHead o.desc) (descTrack o.desc) (descIndex o.desc)
  | 3 => o.pos
  | 4 => o.pos
  | _ => descTrack o.desc

/-- The work of a read that has failed (R255, R257): it waits for its next revolution; MRETRY mark misses in a row end a read failure, and the
window begins anew. At the last read the sector is Unrecovered and enters the grown-defect list with PEND set; one of an adaptation track waits
to be rewritten instead (R280). -/
def readFailed (h : Hw) (c : Nat) (w : SecWork) (missed : Bool) : Hw :=
  let misses := if missed ∧ w.misses ≤ getF h FM_MARK_MRETRY (inst c) then w.misses else 0
  if w.tries < atLeast1 (getF h FM_VCRIT2_RREV (inst c)) then onWork h c w.id (fun w => { w with failed := true, misses := misses })
  else
    let h := setF (setF h FM_RSTAT_OUT (inst c) 2) FM_SIRQS_RFAIL (inst c) 1
    let h := onWork h c w.id (fun w => { w with failed := true, finished := true })
    match adaptGroup h c w.head w.track with
    | some g => onPath h c (fun p => { p with adaptBad := if p.adaptBad.contains (w.head, g, w.index) then p.adaptBad else p.adaptBad ++ [(w.head, g, w.index)] })
    | none => addDefect h c { head := w.head, pend := true, reserve := false, landing := w.landing, sect := w.index, track := w.track,
                              spare := 0x7FFFFFFF, cause := if missed then 4 else 3 }

/-- A read descriptor ends (R255-R258): with channel result `r`, or refused by the channel. Its text goes under its buffer tag; an adaptation read
keeps none (R300). -/
def reportReadDesc (h : Hw) (c : Nat) (o : OpenDesc) (r : Option ChResult) : Hw :=
  let h := onChan h c (fun k => { k with results := k.results.filter (fun q => !(q.sector.id == o.id)) })
  let w := workWhere h c (fun v => v.id == o.id && !v.finished)
  let tries := (w.map (fun w => w.tries)).getD 1
  let good := match r with
    | some r => r.result == 0 || r.result == 2
    | none => false
  let cand := (r.map (fun r => r.cand)).getD 0
  let fly := match r with
    | some r => r.result == 0 && decide (r.cand ≤ 1)
    | none => false
  let mark : Int × Int := match r with
    | some r => if r.cand = 0 then (0, 0) else (r.sector.cands[r.cand - 1]?).getD (0, 0)
    | none => (0, 0)
  let h := if good then setF h FM_RSTAT_OUT (inst c) (if fly ∧ tries ≤ 1 then 0 else 1) else h
  let h := setF (setF (setF h FM_RSTAT_CAND (inst c) cand) FM_RSTAT_SCORE (inst c) mark.2.toNat) FM_RSTAT_MOFS (inst c) (ofSigned 8 mark.1)
  let h := setF h FM_RSTAT_REV (inst c) tries
  let keeps : Bool := match (fm h c).running with | some q => q.opc != 7 | none => true
  let h := match r, w with
    | some r, some w =>
      if good then
        let h := onWork h c w.id (fun w => { w with finished := true, failed := false })
        if keeps then storeText h c (descBuf o.desc) r.text else h
      else readFailed h c w (r.cand == 0 && r.result == 1)
    | none, some w => readFailed h c w false
    | _, none => h
  queueReport h c ⟨rpt0 o.desc (if fly then 0 else if good then 1 else 2) o.refused o.skipped, rpt1 h c o,
    (match r with | some r => r.word | none => getReg h (CH_DSTAT + inst c)), getReg h (FM_RSTAT + inst c)⟩

/-- A Landing descriptor that did not pass goes to the next free position (R265, R270): at the end of the sector queue, or as soon as it has
room. -/
def placeAgain (h : Hw) (c : Nat) (d : Desc) : Hw :=
  if (fm h c).sq.length < 4 then pushDesc h c d else onPath h c (fun p => { p with again := p.again ++ [d] })

/-- A record as it stands on the medium: MAGIC, VER and CRC are correct; KIND, and the record's fields (R269, R278). -/
def journalRecord (pos text : Nat) : Option (Nat × LRec) :=
  let l := leBytes 4096 text
  let at' := fun (o n : Nat) => leVal ((l.drop o).take n)
  if at' 0 4 = 0x524C564A ∧ at' 4 2 = 1 ∧ at' 0xFFC 4 = crc32c (l.take 4092) then
    some (at' 6 1,
      { seq := at' 8 8, nsid := at' 0x10 4, count := at' 0x14 2, sdu := at' 0x18 8, lpos := at' 0x20 4, kgen := at' 0x24 4, time := at' 0x28 8
        dseq := at' 0x30 8, posmap := at' 0x38 16, ordered := bitAt (at' 7 1) 0, mirrored := bitAt (at' 7 1) 1, pos := pos
        dcrc := (List.range (min 64 (at' 0x14 2))).map (fun j => at' (0x100 + 4 * j) 4) })
  else none

/-- What a written sector leaves on the medium (R264, R268, R439): a Landing position its sector, a record joining the journal, a home sector its
block. -/
def leaveOnMedium (h : Hw) (c : Nat) (o : OpenDesc) (w : SecWork) : Hw :=
  match descKind o.desc with
  | 2 => putBlock h c w o.text
  | 3 => putPosition h c o.pos false o.text
  | 4 =>
    let h := putPosition h c o.pos true o.text
    match journalRecord o.pos o.text with
    | some (1, r) => onPath h c (fun p => { p with records := p.records.filter (fun q => q.seq != r.seq) ++ [r] })
    | _ => h
  | _ => h

/-- A written descriptor ends with outcome `out` (R264-R270, R310); `word`: CH_VSTAT as its verify report set it. -/
def reportWriteDesc (h : Hw) (c : Nat) (o : OpenDesc) (out word : Nat) : Hw :=
  let tries := ((workWhere h c (fun v => v.id == o.id && !v.finished)).map (fun w => w.tries)).getD 1
  let land := descKind o.desc == 3 || descKind o.desc == 4
  let h := setF (setF (setF h FM_WSTAT_OUT (inst c) out) FM_WSTAT_TRY (inst c) tries) FM_WSTAT_SPARE (inst c) o.direct.toNat
  let h := if out < 3 then addF h FM_SCNT_COUNT (inst c) 1 else h
  let h := if out = 1 then addF (setF h FM_SIRQS_MARG (inst c) 1) FM_SCNT_COUNT (inst c + 8) 1 else h
  let h := if out = 2 then addF (setF h FM_SIRQS_VFAIL (inst c) 1) FM_SCNT_COUNT (inst c + 4) 1 else h
  let h := if descKind o.desc = 4 ∧ out < 2 then addF h FM_SCNT_COUNT (inst c + 28) 1 else h
  let h := if land ∧ out = 2 then
      match landPlace h c o.pos with
      | some (t, hd, i) => addDefect h c { head := hd, pend := false, reserve := false, landing := true, sect := i, track := t, spare := 0x7FFFFFFF, cause := 1 }
      | none => h
    else h
  let h := match workWhere h c (fun v => v.id == o.id && !v.finished) with
    | some w => if out < 2 ∧ !o.direct then leaveOnMedium h c o w else h
    | none => h
  let h := onWork h c o.id (fun w => if land || decide (out < 2) then { w with finished := true, failed := false } else { w with failed := true })
  let h := if land ∧ 2 ≤ out then placeAgain h c o.desc else h
  let h := if bitAt o.desc.w0 27 ∧ out < 2 then onFmt h c (fun f => { f with runEnd := true }) else h
  let h := queueReport h c ⟨rpt0 o.desc out o.refused o.skipped, rpt1 h c o, word, 0⟩
  if flagF h FM_SQSTAT_RUNOPEN (inst c) ∨ (fm h c).started.any (fun o => writeKind (descKind o.desc)) ∨ (fm h c).sq.any (fun d => writeKind (descKind d)) then h
  else endRun h c

/-- DESCRIPTOR_REPORT (R311): the oldest started descriptor ends and its report is queued. -/
def execDescriptorReport (c : Nat) (s : State) : Res := s.run fun h =>
  match (fm h c).started with
  | [] => h
  | o :: _ =>
    if 8 ≤ (fm h c).reports.length then h
    else if writeKind (descKind o.desc) then
      let word := getReg h (CH_VSTAT + inst c)
      if o.refused ∨ o.lost then reportWriteDesc h c o 3 word
      else if o.direct then
        (match workWhere h c (fun v => v.id == o.id && !v.finished) with
         | some w => if w.failed then h else reportWriteDesc h c o 0 word
         | none => h)
      else match (ch h c).reports.find? (fun v => v.id == o.id) with
        | some v => reportWriteDesc (onChan h c (fun k => { k with reports := k.reports.filter (fun q => !(q.id == o.id)) })) c o (gradeOf h c v) v.word
        | none => h
    else if o.refused then
      if o.byChannel then reportReadDesc h c o none
      else queueReport h c ⟨rpt0 o.desc 2 true false, rpt1 h c o, getReg h (CH_DSTAT + inst c), getReg h (FM_RSTAT + inst c)⟩
    else match (ch h c).results.find? (fun r => r.sector.id == o.id) with
      | some r => reportReadDesc h c o (some r)
      | none => h

/-- LANDING_RUN_CLOSE (R310): `n` further positions pass with no Landing descriptor, and carry fillers while the run is open; it closes once a
descriptor with RUNEND has completed, or when four positions in a row have passed so. -/
def execLandingRunClose (c n : Nat) (s : State) : Res := s.run fun h =>
  if flagF h FM_SQSTAT_RUNOPEN (inst c) ∧ (n = 0 ∨ n < landSpan h c) then
    let h := onFmt (passFillers h c n) c (fun f => { f with passed := f.passed + n })
    if (fm h c).runEnd ∨ 4 ≤ (fm h c).passed then endRun (onFmt (setF h FM_SQSTAT_RUNOPEN (inst c) 0) c (fun f => { f with runEnd := false, passed := 0, landing := false })) c
    else h
  else h

/-! Retries over revolutions (R255-R265). -/

/-- MARK_MISS (R255): no candidate stands in the window of the read in progress; it ends Failed and may be read again. -/
def execMarkMiss (c : Nat) (s : State) : Res := s.run fun h =>
  match (ch h c).cur with
  | some x => if !x.write && !x.acqFail && x.cands.isEmpty then endSector h c else h
  | none => h

/-- MARK_MISS_LIMIT (R255): the misses of the minute exceed the limit. -/
def execMarkMissLimit (c : Nat) (s : State) : Res := s.run fun h =>
  if liveVal h (carPath c 0x300) 0x016 0 < (path h c).missMinute then
    raiseFault (setF h FM_SIRQS_MMLIM (inst c) 1) (carPath c 0x3F0) 12 false
  else h

/-- READ_REVOLUTION_RETRY (R257): the oldest failed read is made again on the next revolution: its descriptor is pushed. -/
def execReadRevolutionRetry (c : Nat) (s : State) : Res := s.run fun h =>
  match workWhere h c (fun w => w.failed && !w.write && !w.finished) with
  | some w => if (fm h c).sq.length < 4 then pushDesc (onWork h c w.id (fun w => { w with failed := false })) c w.desc else h
  | none => h

/-- HOME_REWRITE (R265): the oldest home sector with outcome 2 or 3 is rewritten in place, up to WRETRY times, then reassigned; `ok` is the
verify of the spare. -/
def execHomeRewrite (c : Nat) (ok : Bool) (s : State) : Res := s.run fun h =>
  match workWhere h c (fun w => w.failed && w.write && !w.landing && !w.finished) with
  | some w =>
    if spareDue h c w then toSpare h c w ok
    else if (fm h c).sq.length < 4 then pushDesc (onWork h c w.id (fun w => { w with failed := false })) c w.desc
    else h
  | none => h

/-! Write-unsafe, preamplifier fault, power loss (R56, R260, R263, R279, R314). -/

/-- WRITE_UNSAFE (R260): write-unsafe is signalled or CAc_FLT_N is low during a write sector. -/
def execWriteUnsafe (c : Nat) (s : State) : Res := s.run fun h =>
  if flagF h SV_STAT_WUNSAFE (inst c) || flagF h PA_FLT_PIN (inst c) then inhibitWrite h c else h

/-- A write is still to be made on carriage `c`: a descriptor that is queued or open, or a sector that waits for its rewrite. -/
def writesDue (h : Hw) (c : Nat) : Bool :=
  (fm h c).sq.any (fun d => writeKind (descKind d)) || (fm h c).started.any (fun o => writeKind (descKind o.desc)) ||
  (path h c).works.any (fun w => w.write && !w.finished)

/-- PREAMP_FAULT (R56, R263): CAc_FLT_N low for 20 ns. During a write the run ends and register 0x30 is read, and the same between two runs, with
no run to end (R281); outside, class [9] follows at once (R592). -/
def execPreampFault (c : Nat) (s : State) : Res := s.run fun h =>
  if !(midUp h c) then h
  else
    let h := setF (setF h PA_FLT_PIN (inst c) 1) PA_FLT_LATCH (inst c) 1
    let hd := selHead h c
    let writing : Bool := match (ch h c).cur with | some x => x.write | none => false
    if writing || runOpen h c || writesDue h c then
      let h := endRun (dropWrite h c) c
      queueFrame (onFmt h c (fun f => { f with faultRead := some (hd % 6) })) c (sifWord true (hd % 8) 0x30 0) 0
    else if hd < 6 then raiseFault (queueFrame h c (sifWord false hd 0x31 0x3F) 0x3F) (preHead c hd) 9 false
    else h

/-- STU_POWER_LOSS (R314): descriptors not yet started are removed, level 0 rises. -/
def execStuPowerLoss (c : Nat) (s : State) : Res := s.run fun h =>
  if midUp h c ∧ (fm h c).ploss then pendLevel (showStu (onFmt h c (fun f => { f with sq := [] })) c) c 0 else h

/-- The formatter releases the heads: in a hold-up the drive starts its retract (R279, R397). -/
def releaseHeads (h : Hw) (c : Nat) : Hw := if h.spindle.holdUp then startRetract h c else h

/-- POWER_LOSS_SECTOR_END (R279): the write sector in flight ends at its pad, its verify report is taken, and no WG rises again. A home sector
that fails is entered with PEND set. -/
def execPowerLossSectorEnd (c : Nat) (s : State) : Res := s.run fun h =>
  if !((path h c).noWrite) then h
  else match (ch h c).cur with
    | some x =>
      let h := endSector h c
      if x.write ∧ untaken h c < 4 then
        let h := onChan h c (fun k => { k with queue := k.queue.filter (fun y => y.id != x.id) })
        let h := fileVerify h c x false
        let out := match (ch h c).reports.getLast? with
          | some v => gradeOf h c v
          | none => 2
        let h := match workWhere h c (fun w => w.id == x.id && w.write && !w.landing) with
          | some w => if out = 2 then
              addDefect h c { head := w.head, pend := true, reserve := false, landing := false, sect := w.index, track := w.track, spare := 0x7FFFFFFF, cause := 5 }
            else h
          | none => h
        releaseHeads (endRun h c) c
      else releaseHeads (endRun h c) c
    | none => releaseHeads (endRun h c) c

/-- A Landing checkpoint is due: 16,384 positions have been written since the last (R277), or the routine for it runs (R300). -/
def checkpointDue (h : Hw) (c : Nat) : Bool :=
  decide (16384 ≤ (path h c).sinceCheck) || match (fm h c).running with | some r => r.opc == 9 | none => false

/-- LANDING_CHECKPOINT (R277): one that is due is written; `ok`: it passed verify. An orderly spin-down makes its own. -/
def execLandingCheckpoint (c : Nat) (ok : Bool) (s : State) : Res := s.run fun h =>
  if midUp h c ∧ ok ∧ checkpointDue h c then makeCheckpoint h c false else h

end Sys2Proof.Machine
end

