-- ==== Sys2Proof/Machine/Commands.lean ====
section
/-! DEFINITION. The command engine's commands and pieces: slots, order and overlap, splitting at extents, verdicts and the
commit of a completion (R435-R463, R554). -/
namespace Sys2Proof.Machine

/-- The extent map as manufactured (R438). -/
def factoryMap : List (Nat × Extent) :=
  Config.factoryBands.map (fun b => (b.1, { car := b.2.1, head := b.2.2.1, btrk := b.2.2.2, retired := false }))

/-! Status values: code type in [10:8], code in [7:0] (R433, R437, R461, R575 and the NVMe specifications). -/

def stOk : Nat := 0x000
def stOpcode : Nat := 0x001

/-- SGL Descriptor Type Invalid: a bit bucket is not supported (R421; its check stands with those of R437 step 2). -/
def stSglType : Nat := 0x011
def stField : Nat := 0x002
def stTransfer : Nat := 0x004
def stAborted : Nat := 0x007
def stSqDeleted : Nat := 0x008
def stNamespace : Nat := 0x00B
def stSanitizeFailed : Nat := 0x01C
def stSanitizing : Nat := 0x01D
def stLba : Nat := 0x080
def stNotReady : Nat := 0x082
def stReservation : Nat := 0x083
def stFormatting : Nat := 0x084
def stWriteFault : Nat := 0x280
def stReadError : Nat := 0x281
def stFenced : Nat := 0x780
def stReadOnly : Nat := 0x781
def stStandby : Nat := 0x782
def stDivergent : Nat := 0x783

/-- Do not retry (R114, R461, R575): the statuses whose DNR the spec states; that of any other is open. -/
def dnr (st : Nat) : Bool :=
  if [stReadOnly, 0x282, 0x283, 0x284].contains st then true
  else if [stOk, stTransfer, stAborted, stWriteFault, stReadError, stFenced, stNotReady, stStandby, stDivergent].contains st then false
  else Config.dnr st

/-- The status field of a completion entry: code, code type, DNR in bit 14. -/
def statusField (st : Nat) : Nat := st + 2 ^ 14 * (dnr st).toNat

/-- The command of a slot. -/
def cmdAt (h : Hw) (slot : Nat) : Option Cmd := h.engine.cmds.find? (fun c => c.slot == slot)
def onCmd (h : Hw) (slot : Nat) (f : Cmd → Cmd) : Hw :=
  onEngine h (fun g => { g with cmds := g.cmds.map (fun c => if c.slot == slot then f c else c) })
def dropCmd (h : Hw) (slot : Nat) : Hw := onEngine h (fun g => { g with cmds := g.cmds.filter (fun c => !(c.slot == slot)) })

/-- Write and Write Zeroes write; Read and Verify read (R450). -/
def writes (c : Cmd) : Bool := c.opc == 1 || c.opc == 8
def reads (c : Cmd) : Bool := c.opc == 2 || c.opc == 0xC

/-- Two commands overlap (R450). -/
def overlap (a b : Cmd) : Bool :=
  a.nsid == b.nsid && (writes a || writes b) && (writes a || reads a) && (writes b || reads b) &&
  decide (a.slba < b.slba + b.nlb) && decide (b.slba < a.slba + a.nlb)

/-- Commands of the same namespace with a lower ISN that are in flight: their completion has not been posted (R435, R449). -/
def earlier (h : Hw) (c : Cmd) : List Cmd :=
  h.engine.cmds.filter (fun e => decide (e.isn < c.isn) && e.nsid == c.nsid)

/-- Earlier command `e` does not hold `c` back (R449, R450). -/
def passes (e c : Cmd) : Bool :=
  !(e.ordered) && !(c.ordered) && (!(overlap e c) || (if writes e && writes c then false else e.inGallery))

/-- No earlier command holds `c` back. -/
def released (h : Hw) (c : Cmd) : Bool := (earlier h c).all (fun e => passes e c)

/-! Extents (R438-R443). -/


/-- The extent entry of extent index `x` of namespace `n` (R439). -/
def entryOf (h : Hw) (n x : Nat) : Option Nat :=
  (h.engine.extents.find? (fun p => p.2.nsid == n && p.2.eidx == x)).map (fun p => p.1)

/-- The entries of a namespace. -/
def entriesIn (h : Hw) (n : Nat) : List Nat := (h.engine.extents.filter (fun p => p.2.nsid == n)).map (fun p => p.1)

/-- Cut `count` blocks from `first` into runs of at most `most`. -/
def cut (most : Nat) : Nat → Nat → Nat → List (Nat × Nat)
  | 0, _, _ => []
  | fuel + 1, first, count =>
    if count = 0 then [] else if count ≤ most then [(first, count)] else (first, most) :: cut most fuel (first + most) (count - most)

/-- A command's blocks split at extent boundaries (R439): entry, first block within the extent, count. -/
def split (h : Hw) (n slba nlb : Nat) : List (Nat × Nat × Nat) :=
  (List.range ((slba + nlb + extentBlocks - 1) / extentBlocks - slba / extentBlocks)).filterMap (fun i =>
    let x := slba / extentBlocks + i
    let lo := max slba (x * extentBlocks)
    let hi := min (slba + nlb) ((x + 1) * extentBlocks)
    (entryOf h n x).map (fun e => (e, lo - x * extentBlocks, hi - lo)))

/-- The entry's carriage or surface is fenced (R440). -/
def entryFenced (h : Hw) (e : Nat) : Bool := headFenced h (extent h e).car (extent h e).head

/-- A re-key of the entry is queued or running on its carriage (R549). -/
def rekeying (h : Hw) (e : Nat) : Bool :=
  let c := (extent h e).car
  (lget h.cipher.queued c).contains e ||
  (match oget h.cipher.running c with | some r => r.entry == e | none => false)

/-- The Hall of a namespace. -/
def hall (v : Vault) (n : Nat) : Hall := mget (fun _ => {}) v.halls n

/-- Namespace `n`. -/
def space (h : Hw) (n : Nat) : Nspace := mget (fun _ => {}) h.engine.spaces n
def onSpace (h : Hw) (n : Nat) (f : Nspace → Nspace) : Hw :=
  onEngine h (fun g => { g with spaces := mset (fun _ => {}) g.spaces n (f (mget (fun _ => {}) g.spaces n)) })

/-- Landing writes of at most 64 blocks (R549). -/
def landingCut (e first count : Nat) : List Piece :=
  (cut 64 count first count).map (fun (f, n) => { entry := e, first := f, count := n, path := .landing })

/-- The pieces of a write with their paths (R443, R444). A long one takes the Landing path where the extent's KGEN is not the namespace's WGEN:
its re-key is queued or running, or this write queues it (R549). -/
def writePieces (h : Hw) (v : Vault) (c : Cmd) : List Piece :=
  (split h c.nsid c.slba c.nlb).flatMap (fun (e, first, count) =>
    if c.atomic then [{ entry := e, first := first, count := count, path := .landing }]
    else if (space h c.nsid).fmt = 1 then (cut 63 count first count).map (fun (f, n) => { entry := e, first := f, count := n, path := .landing })
    else if c.nlb * 4096 ≤ liveVal h 0x1300 0x011 0 then [{ entry := e, first := first, count := count, path := .landing }]
    else if (extent h e).kgen != (hall v c.nsid).wgen then landingCut e first count
    else [{ entry := e, first := first, count := count, path := .stream }])

/-- Namespace LBA of block `b` of entry `e`. -/
def lbaOf (h : Hw) (e b : Nat) : Nat := (extent h e).eidx * extentBlocks + b

/-- The newest earlier write in flight that holds block `lba` accepted (R450, R451). -/
def galleryOf (h : Hw) (c : Cmd) (lba : Nat) : Option Cmd :=
  ((earlier h c).filter (fun e => writes e && e.inGallery && e.verdict.isNone && decide (e.slba ≤ lba) && decide (lba < e.slba + e.nlb))).getLast?

/-- Galleries of earlier writes serve every block of a read's piece (R451). -/
def fromGallery (h : Hw) (c : Cmd) (p : Piece) : Bool := (List.range p.count).all (fun k => (galleryOf h c (lbaOf h p.entry (p.first + k))).isSome)

/-- Decide a command's status, unless one stands (R437, R461). -/
def fail (h : Hw) (slot st : Nat) : Hw :=
  onCmd h slot (fun c => if c.verdict.isNone && c.committed.isNone then { c with verdict := some st } else c)

/-! The ledger counters (R554) and the commit (R454, R463). -/

/-- Ledger counters of a namespace. -/
def ledger (h : Hw) (n : Nat) : Ledger := mget (fun _ => {}) h.cipher.ledger n
def onLedger (h : Hw) (n : Nat) (f : Ledger → Ledger) : Hw :=
  onCipher h (fun k => { k with ledger := mset (fun _ => {}) k.ledger n (f (mget (fun _ => {}) k.ledger n)) })

/-- BUSY[c] of a live namespace rises by `us` microseconds (R555). -/
def addBusy (c us : Nat) (l : Ledger) : Ledger :=
  if l.st ≠ 1 then l
  else match c with
    | 0 => { l with busy0 := (l.busy0 + us) % 2 ^ 32 }
    | 1 => { l with busy1 := (l.busy1 + us) % 2 ^ 32 }
    | 2 => { l with busy2 := (l.busy2 + us) % 2 ^ 32 }
    | _ => { l with busy3 := (l.busy3 + us) % 2 ^ 32 }

/-- What a completed command adds to its namespace's counters (R554); they run only while the namespace is live. -/
def charge (c : Cmd) (st : Nat) (l : Ledger) : Ledger :=
  if l.st = 1 then
    if writes c then
      { l with
        wcmds := (l.wcmds + 1) % 2 ^ 32
        wbytes := if st = 0 then (l.wbytes + 4096 * c.nlb) % 2 ^ 64 else l.wbytes }
    else if c.opc = 2 then
      { l with
        rcmds := (l.rcmds + 1) % 2 ^ 32
        rbytes := if st = 0 then (l.rbytes + 4096 * c.nlb) % 2 ^ 64 else l.rbytes }
    else { l with ocmds := (l.ocmds + 1) % 2 ^ 32 }
  else l

/-- Completion queue of submission queue `q` of port `p`. -/
def queueOf (h : Hw) (p q : Nat) : Nat :=
  match oget (port h p).sqs q with
  | some s => s.cq
  | none => 0

/-- Lowest LBA of a failed piece, else the command's first (R463). -/
def failingLba (h : Hw) (c : Cmd) : Nat :=
  match c.pieces.filterMap (fun p => match p.st with | .failed _ => some (lbaOf h p.entry p.first) | _ => none) with
  | [] => c.slba
  | a :: l => l.foldl min a

/-- Add to a completion counter (1340:010.0, elements 1-6). -/
def countEngine (h : Hw) (k n : Nat) : Hw := onEngine h (fun g => { g with counters := zset g.counters k ((zget g.counters k + n) % 2 ^ 32) })

/-- The shutdown of a port completes once its carried writes have ended (R417). -/
def shutdownCheck (h : Hw) (p : Nat) : Hw :=
  if (port h p).shst = 1 ∧ !(h.engine.cmds.any (fun c => c.port == p && c.source == .host)) then onPort h p (fun x => { x with shst := 2 }) else h

/-- Commit the completion of an admin command of port `p`: status and dword 0. -/
def adminDone (h : Hw) (p cid st dw0 : Nat) : Hw :=
  onEngine h (fun g => { g with posting := g.posting ++ [(p, 0, cid, 0, st, dw0)] })

/-- The Aborts that name command `c` complete after it (R459, R577): not aborted when they were held. -/
def endAborts (h : Hw) (c : Cmd) : Hw :=
  let mine := (port h c.port).aborts.filter (fun a => a.2.1 == c.sq && a.2.2 == c.cid)
  let h := onPort h c.port (fun x => { x with aborts := x.aborts.filter (fun a => !(a.2.1 == c.sq && a.2.2 == c.cid)) })
  let h := mine.foldl (fun h a => adminDone h c.port a.1 0 c.abortHeld.toNat) h
  if c.abortHeld then countEngine h 3 mine.length else h

/-- Commit the completion of a command with status `st` (R454): final, posted later. A command of the twin is acknowledged or
refused (R576); a write carried after a reset just ends (R416). -/
def commit (h : Hw) (c : Cmd) (st : Nat) : Hw :=
  match c.source with
  | .host =>
    if c.noPost then shutdownCheck (dropCmd h c.slot) c.port
    else
      let h := onCmd h c.slot (fun x => { x with committed := some st })
      let h := onEngine h (fun g => { g with posting := g.posting ++ [(c.port, queueOf h c.port c.sq, c.cid, c.sq, st, 0)] })
      let h := endAborts h c
      let h := onLedger h c.nsid (charge c st)
      let h := if st = stFenced then countEngine h 5 1 else if st = stReadOnly then countEngine h 6 1 else h
      if st = 0 then h
      else onPort h c.port (fun x => { x with errors := ((c.sq, c.cid, c.nsid, st, failingLba h c) :: x.errors).take 64 })
  | .twin m => onTwin (dropCmd h c.slot) (fun t => { t with acks := t.acks ++ [if st = 0 then m else m + 2 ^ 63] })
  | .chunk m => onTwin (dropCmd h c.slot) (fun t => { t with acks := t.acks ++ [if st = 0 then m else m + 2 ^ 63] })
  | _ => dropCmd h c.slot

/-- Slots that hold no command and own no page come first; else the lowest slot without a command (R435, R479). -/
def freeSlotOf (h : Hw) : Nat :=
  let used := h.engine.cmds.map (fun c => c.slot)
  let owning := h.buffer.pages.filterMap (fun p => p.2.map (fun q => q.1))
  match (List.range 4096).find? (fun k => !(used.contains k) && !(owning.contains k)) with
  | some k => k
  | none => ((List.range 4096).find? (fun k => !(used.contains k))).getD 0

/-- Return the pages of a slot to the pool (R479). -/
def freePages (h : Hw) (slot : Nat) : Hw :=
  let mine := h.buffer.pages.filter (fun p => match p.2 with | some (s, _) => s == slot | none => false)
  let h := onBuffer h (fun b => { b with pages := b.pages.filter (fun p => match p.2 with | some (s, _) => !(s == slot) | none => true) })
  addF h BM_POOL_FREE 0 mine.length

/-- A new command takes the next ISN and a slot (R435). -/
def takeCmd (h : Hw) (c : Cmd) : Hw :=
  let slot := freeSlotOf h
  let h := freePages h slot
  let h := if c.source = .host then onPort h c.port (fun x => { x with idle := 0 }) else h
  onEngine h (fun g => { g with isn := g.isn + 1, cmds := g.cmds ++ [{ c with slot := slot, isn := g.isn }] })

/-- Position of block `lba` in record `r`. -/
def recordPosition (r : LRec) (lba : Nat) : Nat := dataPosition r.lpos r.posmap (lba - r.sdu)

/-- The Landing record that serves block `lba` of namespace `n` on carriage `c` (R273, R276, R451, R551): the newest record that
holds the block, while it is in the index or its position is pinned. -/
def landingCopy (h : Hw) (c n lba : Nat) : Option LRec :=
  let holds := (path h c).records.filter (fun r => r.nsid == n && decide (r.sdu ≤ lba) && decide (lba < r.sdu + r.count))
  (holds.foldl (fun best r => match best with
    | some b => if b.seq ≤ r.seq then some r else some b
    | none => some r) none).filter (fun r => (lget h.buffer.landIndex c).contains r.seq || (path h c).pins.contains (recordPosition r lba))

/-- The home generation of block `b` of entry `e` (R548). -/
def homeGen (h : Hw) (e b : Nat) : Nat :=
  match oget h.cipher.running (extent h e).car with
  | some r => if r.entry = e ∧ b / 64 < r.durable then r.target else (extent h e).kgen
  | none => (extent h e).kgen

/-- Ciphertext and generation of the newest copy of block `b` of entry `e` on the medium (R273, R548). -/
def newestCopy (h : Hw) (e b : Nat) : Nat × Nat :=
  let c := (extent h e).car
  match landingCopy h c (extent h e).nsid (lbaOf h e b) with
  | some r => (zget (path h c).landData (recordPosition r (lbaOf h e b)), r.kgen)
  | none => (mget (fun _ => (path h c).fill) (path h c).homeData (e * extentBlocks + b), homeGen h e b)

/-- Host commands whose data moves by channels 0-7 wait while every channel is stopped (R501). -/
def movesWait (h : Hw) : Bool := flagF h DM_GSTAT_HALT 0

/-- Landing index entries in use on carriage `c` (R476): one for each record that DSEQ has not passed. -/
def indexUsed (h : Hw) (c : Nat) : Nat := (path h c).records.countP (fun r => decide (ldseq h c ≤ r.seq))

/-- Carriage `c` is Landing-full (R272), or counts as it because its Landing index has no free entry (R476). -/
def landingFull (h : Hw) (c : Nat) : Bool := decide (landFree h c < 131) || decide (32768 ≤ indexUsed h c)

/-- Write ciphertext home, block by block. -/
def putHome (h : Hw) (e b : Nat) : List Nat → Hw
  | [] => h
  | w :: l =>
    let c := (extent h e).car
    putHome (onPath h c (fun p => { p with homeData := mset (fun _ => p.fill) p.homeData (e * extentBlocks + b) w })) e (b + 1) l

/-- Write bytes `w` of the present sector in the Landing at successive data positions. -/
def putLanding (h : Hw) (c lpos posmap : Nat) : Nat → List Nat → Hw
  | _, [] => h
  | j, w :: l => putLanding (putPosition h c (dataPosition lpos posmap j) false w) c lpos posmap (j + 1) l

end Sys2Proof.Machine
end

