-- ==== Sys2Proof/Machine/Protection.lean ====
section
/-! DEFINITION. Metadata and protection information of format-1 namespaces: the guard, the checks, generation, and where metadata lies on
the medium (R427, R428, R444, R453). -/
namespace Sys2Proof.Machine

/-- One bit and one byte through the register of the guard CRC, polynomial 0x8BB7 (R427). -/
def guardBit (c : Nat) : Nat := if 0x8000 ≤ c then (2 * c % 0x10000) ^^^ 0x8BB7 else 2 * c
def guardByte (c b : Nat) : Nat := guardBit (guardBit (guardBit (guardBit (guardBit (guardBit (guardBit (guardBit (c ^^^ (256 * b)))))))))

/-- The 16-bit guard of a block. -/
def guardOf (block : Nat) : Nat := (leBytes 4096 block).foldl (fun c b => guardByte c b.toNat) 0

/-- The big-endian number in `n` bytes of metadata from byte `o` on. -/
def metaField (m o n : Nat) : Nat := (((leBytes 8 m).drop o).take n).foldl (fun a b => 256 * a + b.toNat) 0

/-- Metadata that carries a guard, an application tag and a reference tag. -/
def protection (guard app ref : Nat) : Nat := leVal (beBytes 2 guard ++ beBytes 2 app ++ beBytes 4 ref)

/-- Protection information that disables its own checks (the NVMe specification's all-ones application tag, with the reference tag too for
Type 3). -/
def escaped (pi m : Nat) : Bool := metaField m 2 2 == 0xFFFF && (pi == 1 || metaField m 4 4 == 0xFFFFFFFF)

/-- The status of the checks of one block (R427, R428), 0 when they pass: guard, application tag, and for Type 1 the reference tag against
the low 32 bits of the LBA. -/
def protStatus (pi : Nat) (p : Prot) (lba block m : Nat) : Nat :=
  if pi = 0 ∨ escaped pi m then 0
  else if bitAt p.chk 2 && metaField m 0 2 != guardOf block then 0x282
  else if bitAt p.chk 1 && metaField m 2 2 &&& p.lbatm != p.lbat &&& p.lbatm then 0x283
  else if bitAt p.chk 0 && pi == 1 && metaField m 4 4 != lba % 2 ^ 32 then 0x284
  else 0

/-- The metadata that PRACT makes for a block. -/
def madeMeta (pi : Nat) (p : Prot) (lba block : Nat) : Nat :=
  protection (guardOf block) (p.lbat % 0x10000) (if pi = 1 then lba % 2 ^ 32 else p.ilbrt % 2 ^ 32)

/-- The namespace holds protection information and the command has PRACT set: the host gives and takes no metadata. -/
def makesMeta (x : Nspace) (p : Prot) : Bool := x.fmt == 1 && x.pi != 0 && p.act

/-- Block and metadata of LBA `lba` in a command's gallery. -/
def textOf (c : Cmd) (lba : Nat) : Nat := (oget c.blocks lba).getD 0
def metaOf (c : Cmd) (lba : Nat) : Nat := (oget c.metas lba).getD 0

/-- Pages of a slot, and the address of block `i` of a command in them (R477). -/
def slotPages (h : Hw) (slot : Nat) : List Nat :=
  (h.buffer.pages.filter (fun p => match p.2 with | some (k, _) => k == slot | none => false)).map (fun p => p.1)
def blockAddress (h : Hw) (slot i : Nat) : Option Nat := ((slotPages h slot)[i / 2]?).map (fun p => poolBase + 8192 * p + 4096 * (i % 2))

/-- A beat of block `i` in the gallery of a slot reads uncorrectable (R484). -/
def blockBad (h : Hw) (slot i : Nat) : Bool :=
  match blockAddress h slot i with
  | some a => (List.range 64).any (fun k => zget h.buffer.poison (burstOf (a + 64 * k)) != 0)
  | none => false

/-- A read of block `i` in the gallery of a slot finds its uncorrectable beats (R483). -/
def blockFound (h : Hw) (slot i : Nat) : Hw :=
  match blockAddress h slot i with
  | some a => (List.range 64).foldl (fun h k => if zget h.buffer.poison (burstOf (a + 64 * k)) = 0 then h else uncorrectable h (a + 64 * k) false) h
  | none => h

/-- Block `i` is written whole into the gallery of a slot: its beats are good (R483). -/
def blockWritten (h : Hw) (slot i : Nat) : Hw :=
  match blockAddress h slot i with
  | some a => (List.range 64).foldl (fun h k => beatWritten h (a + 64 * k)) h
  | none => h

/-- The status of the protection checks of a whole command, the first failing block's. -/
def commandProt (x : Nspace) (c : Cmd) : Nat :=
  if x.fmt ≠ 1 then 0
  else (((List.range c.nlb).map (fun i => protStatus x.pi c.prot (c.slba + i) (textOf c (c.slba + i)) (metaOf c (c.slba + i)))).find? (fun st => st != 0)).getD 0

/-- A number for each block of a command, key LBA. -/
def byLba (slba n : Nat) (f : Nat → Nat) : SMap (Option Nat) := (List.range n).foldl (fun m i => oset m (slba + i) (some (f i))) []

/-- The metadata sector of a Landing write: the 8 bytes of block j at byte 8 j, then zeros (R444). -/
def packMetas (l : List Nat) : Nat := l.foldr (fun m w => m % 2 ^ 64 + 2 ^ 64 * w) 0

/-- Record `r` carries a metadata sector: one data sector more than blocks. -/
def hasMeta (r : LRec) : Bool := (List.range 128).countP (fun i => r.posmap.testBit i) == r.count + 1

/-- The newest record of the Landing with the metadata of block `lba`, while it is in the index or the block's position is pinned. -/
def metaRecord (h : Hw) (c n lba : Nat) : Option LRec :=
  let holds := (path h c).records.filter (fun r => r.nsid == n && hasMeta r && decide (r.sdu ≤ lba) && decide (lba < r.sdu + r.count))
  (holds.foldl (fun best r => match best with
    | some b => if b.seq ≤ r.seq then some r else some b
    | none => some r) none).filter (fun r => (lget h.buffer.landIndex c).contains r.seq || (path h c).pins.contains (recordPosition r lba))

/-- Metadata of block `lba` in a record's metadata sector. -/
def recordMeta (h : Hw) (c : Nat) (r : LRec) (lba : Nat) : Nat :=
  zget (path h c).landData (dataPosition r.lpos r.posmap r.count) / 2 ^ (64 * (lba - r.sdu)) % 2 ^ 64

/-- Metadata of block `b` of entry `e` in its tag sector. -/
def homeMeta (h : Hw) (e b : Nat) : Nat :=
  let p := path h (extent h e).car
  match oget p.homeMeta (e * extentBlocks + b) with
  | some m => m
  | none => if p.tagged.contains e then 2 ^ 64 - 1 else Config.rawTag (e * extentBlocks + b) % 2 ^ 64

/-- The newest metadata of block `b` of entry `e` on the medium (R273, R428). -/
def newestMeta (h : Hw) (e b : Nat) : Nat :=
  let c := (extent h e).car
  match metaRecord h c (extent h e).nsid (lbaOf h e b) with
  | some r => recordMeta h c r (lbaOf h e b)
  | none => homeMeta h e b

/-- Rewrite the metadata of block `b` of entry `e` in its tag sector (R444). -/
def putMeta (h : Hw) (e b m : Nat) : Hw :=
  onPath h (extent h e).car (fun p => { p with homeMeta := oset p.homeMeta (e * extentBlocks + b) (some m) })

/-- Every tag sector of an entry is written with 0xFF bytes (R464 step 4, R465 step 4). -/
def clearTags (h : Hw) (e : Nat) : Hw :=
  onPath h (extent h e).car (fun p => { p with
    homeMeta := p.homeMeta.filter (fun q => !(q.1 / extentBlocks == e)), tagged := if p.tagged.contains e then p.tagged else p.tagged ++ [e] })

end Sys2Proof.Machine
end

