-- ==== Sys2Proof/Machine/TwinOps.lean ====
section
/-! DEFINITION. Operations of twin mirroring: messages and the partner's inbox, the pair record, divergent extents, the loss of
the partner (R565-R583). -/
namespace Sys2Proof.Machine

/-- One map change for several entries (R442): one MSEQ for all of them. -/
def changeExtents (h : Hw) (es : List Nat) (f : Extent → Extent) : Hw :=
  if es.isEmpty then h
  else
    onEngine h (fun g =>
      let n := g.mapSeq + 1
      { g with
        mapSeq := n
        mapDue := true
        extents := es.foldl (fun m e => mset (fun _ => {}) m e { f (mget (fun _ => {}) m e) with mseq := n }) g.extents })

def twinState (h : Hw) : Nat := getF h HQ_TWIN_STATE 0

/-- Own inbox and the ring of its message area (R568). -/
def inboxBase : Nat := windowBase + 0x400000
def inboxRing : Nat := 4190208

/-- How far the partner has consumed its inbox: HEAD in the own inbox (R568). -/
def partnerHead (h : Hw) : Nat := memWord h (inboxBase + 0x40) 8

/-- Length of a message with `plen` payload bytes (R569). -/
def messageLength (plen : Nat) : Nat := 64 + (plen + 63) / 64 * 64

/-- The 48 header bytes before TAG (R569). -/
def messageHeader (kind : Nat) (f : TwinFrame) (plen : Nat) : List (BitVec 8) :=
  leBytes 4 0x4D54564A ++ leBytes 1 kind ++ leBytes 1 f.flags ++ leBytes 2 0 ++ leBytes 8 f.mseq ++ leBytes 4 f.nsid ++ leBytes 2 f.count ++
  leBytes 2 0 ++ leBytes 8 f.slba ++ leBytes 4 plen ++ leBytes 12 0

/-- The nonce of a message: MSEQ and the sender's role (R571). -/
def messageNonce (mseq role : Nat) : List (BitVec 8) := leBytes 8 mseq ++ leBytes 4 role

/-- The key of a Hello's CMAC (R571, R572): the Custodian role key in STATE 1, K_pair otherwise. -/
def helloKey (h : Hw) : Option Nat := if twinState h = 1 then roleKey h 2 else h.twin.kpair

/-- The CMAC of a Hello. -/
def helloTag (key : Nat) (f : TwinFrame) : Nat := tagOf key (messageHeader 1 f f.payload.length ++ f.payload)

/-- Seal a message (R571): a Hello with its CMAC, any other with AES-256-GCM under K_pair, the header its additional data. -/
def sealFrame (h : Hw) (kind : Nat) (f : TwinFrame) : TwinFrame :=
  if kind = 1 then { f with tag := helloTag ((helloKey h).getD 0) f }
  else
    let key := h.twin.kpair.getD 0
    let text := gcmCipher key (messageNonce f.mseq (twinRole h)) f.payload
    { f with tag := gcmTag key (messageNonce f.mseq (twinRole h)) (messageHeader kind f f.payload.length) text, payload := text }

/-- The plaintext of a sealed message from the partner; none when TAG does not verify. -/
def openFrame (h : Hw) (kind : Nat) (f : TwinFrame) : Option (List (BitVec 8)) :=
  h.twin.kpair.bind (fun k => gcmOpen k (messageNonce f.mseq (3 - twinRole h)) (messageHeader kind f f.payload.length) f.payload f.tag)

/-- The bytes of a sealed message (R569). -/
def twinBytes (kind : Nat) (f : TwinFrame) : List (BitVec 8) :=
  padTo (messageLength f.payload.length) (messageHeader kind f f.payload.length ++ leBytes 16 f.tag ++ f.payload)

/-- Write bytes at offset `off` of the partner's inbox (R567). -/
def peerWrite (h : Hw) (off : Nat) (bytes : List (BitVec 8)) : Hw := emit h (.peer h.twin.port (h.twin.peerAddr + 0xC00000 + off) bytes)

/-- Write waiting messages into the partner's inbox, oldest first, as far as there is room, each before TAIL; a message that does not fit
before the end of the ring is preceded by a pad, whose MSEQ is 0 (R568). -/
def drainOutbox (h : Hw) : List (Nat × TwinFrame) → Hw
  | [] => onTwin h (fun t => { t with outbox := [] })
  | (kind, f) :: rest =>
    let len := messageLength f.payload.length
    let tail := h.twin.tailOut
    let left := inboxRing - tail % inboxRing
    let pad := if left < len then left else 0
    if tail + pad + len ≤ partnerHead h + inboxRing then
      let h := if pad = 0 then h else peerWrite h (0x1000 + tail % inboxRing) (messageHeader 0 ⟨0, 0, 0, 0, 0, 0, []⟩ (pad - 64) ++ leBytes 16 0)
      let h := peerWrite h (0x1000 + (tail + pad) % inboxRing) (twinBytes kind (sealFrame h kind f))
      let h := peerWrite h 0 (leBytes 8 (tail + pad + len))
      drainOutbox (onTwin h (fun t => { t with tailOut := tail + pad + len })) rest
    else onTwin h (fun t => { t with outbox := (kind, f) :: rest })

/-- Queue a message of KIND `kind` with the next MSEQ and send what fits (R568, R569). -/
def sendMessage (h : Hw) (kind : Nat) (f : TwinFrame) : Hw :=
  let n := h.twin.mseqOut + 1
  let h := onTwin h (fun t => { t with mseqOut := n, outbox := t.outbox ++ [(kind, { f with mseq := n })] })
  drainOutbox h h.twin.outbox

/-- A message that names no namespace and no blocks. -/
def plainFrame (payload : List (BitVec 8)) : TwinFrame := ⟨0, 0, 0, 0, 0, 0, payload⟩

/-- Payload of a Write or Chunk (R570): the blocks, and for a format-1 namespace their metadata padded to 4,096 bytes. -/
def writePayload (fmt : Nat) (blocks metas : List Nat) : List (BitVec 8) :=
  blocks.flatMap (leBytes 4096) ++ (if fmt = 1 then padTo 4096 (metas.flatMap (leBytes 8)) else [])

/-- Write the pair record (R583). -/
def writePairRecord (h : Hw) : Hw :=
  onTwin h (fun t => { t with recState := twinState h, recSolow := flagF h HQ_TWIN_SOLOW 0, recMseq := t.mseqOut })

/-- Enter a twin state; the pair record is written with it (R583). -/
def setTwinState (h : Hw) (st : Nat) : Hw := writePairRecord (setF h HQ_TWIN_STATE 0 st)

/-- A pairing in progress ends: the device is unpaired as before it (R433). -/
def endPairing (h : Hw) : Hw :=
  setTwinState (onTwin h (fun t => { t with
    pdid := 0, peerAddr := 0, pnode := 0xFFFF, requester := none, pairing := none, nonceOwn := 0, noncePeer := 0, kpair := none, kpairWrapped := none
    sentConfirm := false, gotConfirm := false, outbox := [] })) 0

/-- Show the messages that wait for an Ack (R586). -/
def showUnacked (h : Hw) : Hw := setF h HQ_TWIN_UNACK 0 (min h.twin.unacked.length 0xFFFF)

/-- Bit `e` of the unsettled bitmap in the progress area (R561, R581). -/
def markBitmap (h : Hw) (e : Nat) (on : Bool) : Hw :=
  onLog h (fun l => { l with area := zset l.area (1048 + e / 256) (putBit (zget l.area (1048 + e / 256)) (e % 256) on) })

/-- An extent enters the unsettled list, or waits in it for an Ack again (R581). -/
def unsettle (h : Hw) (e : Nat) : Hw := markBitmap (onTwin h (fun t => { t with unsettled := oset t.unsettled e (some 0) })) e true

/-- Extents flagged divergent (0000:023.0). -/
def divergentEntries (h : Hw) : List Nat := (h.engine.extents.filter (fun p => p.2.divergent)).map (fun p => p.1)

/-- Extents still to resilver: those that diverge on either twin, as this twin knows them (R582, 0000:026.0). -/
def leftToResilver (h : Hw) : List Nat :=
  let own := divergentEntries h
  own ++ h.twin.peerLeft.filter (fun e => !(own.contains e) && decide ((extent h e).nsid ≠ 0))

/-- Set DIVERGENT in the entries that do not have it, in one map change. -/
def makeDivergent (h : Hw) (es : List Nat) : Hw :=
  changeExtents h (es.filter (fun e => !(extent h e).divergent)) (fun x => { x with divergent := true })

/-- The partner is lost (R579): the extents of unacknowledged messages diverge in one map change, STATE 3, a record of severity 6,
the loss is counted. The writes themselves end once that change is durable. -/
def declareLost (h : Hw) : Hw :=
  if twinState h = 2 ∨ twinState h = 4 then
    let h := makeDivergent h (h.twin.unacked.map (fun u => u.entry)).eraseDups
    let h := onEngine h (fun g => { g with cmds := g.cmds.map (fun c => { c with pieces := c.pieces.map (fun p => { p with waitsAck := [] }) }) })
    let h := onEngine h (fun g => { g with
      cmds := g.cmds.filter (fun c => !(c.source == .resilver)), oper := g.oper.map (fun o => { o with ackDue := none }) })
    let h := onTwin h (fun t => { t with unacked := [], outbox := [], acks := [], inFlight := [], peerLeft := [], stopping := false, losses := (t.losses + 1) % 2 ^ 32, helloAt := none,
                                         sentConfirm := false, gotConfirm := false })
    let h := showUnacked (setF (setF h HQ_TWIN_SRC 0 0) HQ_TWIN_PEERUP 0 0)
    ruleRecord (setTwinState h 3) 0x13F0 579 6 0
  else h

/-- One Write message of a mirrored piece (R576): `f` and `n` are blocks of the extent. -/
def sendWrite (h : Hw) (c : Cmd) (e f n : Nat) (atomic : Bool) : Hw :=
  let lbas := (List.range n).map (fun i => lbaOf h e (f + i))
  let h := unsettle h e
  let h := sendMessage h 3 ⟨atomic.toNat + 2 * c.ordered.toNat, 0, c.nsid, n, lbaOf h e f, 0,
    writePayload (space h c.nsid).fmt (lbas.map (textOf c)) (lbas.map (metaOf c))⟩
  showUnacked (onTwin h (fun t => { t with unacked := t.unacked ++ [{ mseq := t.mseqOut, entry := e, sent := h.log.optime }] }))

/-- The active twin of a pair mirrors (R575, R576). -/
def mirrors (h : Hw) : Bool := (twinState h == 2 || twinState h == 4) && twinRole h == 1

/-- Mirror piece `i` of the command in a slot, whose units have all been released: a Landing unit is one ATOMIC message, a stream
piece goes in messages of at most 64 blocks (R576). -/
def mirrorPiece (h : Hw) (slot i : Nat) : Hw :=
  match cmdAt h slot with
  | some c =>
    match c.pieces[i]? with
    | some p =>
      if mirrors h && (extent h p.entry).mirrored && (c.source == .host) then
        let runs := if p.path = .landing then [(p.first, p.count)] else cut 64 p.count p.first p.count
        let first := h.twin.mseqOut + 1
        let h := runs.foldl (fun h r => sendWrite h c p.entry r.1 r.2 (p.path == .landing)) h
        let nums := (List.range runs.length).map (fun k => first + k)
        onCmd h slot (fun c => { c with pieces := c.pieces.mapIdx (fun k q => if k = i then { q with waitsAck := nums, sent := true } else q) })
      else h
    | none => h
  | none => h

/-- Send the Ack message of what has been applied (R570, R576), at most 512 values. -/
def flushAcks (h : Hw) : Hw :=
  let l := h.twin.acks.take 512
  if l.isEmpty then h
  else sendMessage (onTwin h (fun t => { t with acks := t.acks.drop 512 })) 4 (plainFrame (leBytes 4 l.length ++ leBytes 4 0 ++ l.flatMap (leBytes 8)))

/-- No extent diverges any more on either twin: SOLOW clears and a resilvering twin returns to STATE 2 (R582). -/
def resilverDone (h : Hw) : Hw :=
  if twinState h = 4 ∧ (leftToResilver h).isEmpty then setTwinState (setF (setF h HQ_TWIN_SOLOW 0 0) HQ_TWIN_SRC 0 0) 2 else h

/-- In STATE 3 a write completes only when its extents diverge and the map change that says so is durable (R579, R580). -/
def soloDurable (h : Hw) (c : Cmd) : Bool :=
  twinState h != 3 || !(writes c) || (c.pieces.all (fun p => (extent h p.entry).divergent) && !h.engine.mapDue)

end Sys2Proof.Machine
end

