-- ==== Sys2Proof/Machine/Cipher.lean ====
section
/-! DEFINITION. The cipher engine: key derivation, data units, Halls, generations, re-keys, epoch advances, role keys, the
power-loss bank (R535-R564). -/
namespace Sys2Proof.Machine

/-- Both pipelines and key derivation take work (CY_STAT.READY). -/
def cipherReady (h : Hw) : Bool :=
  domainUp h 5 && [0x1610, 0x1620, 0x1630, 0x16F0].all (fun u => !(fenced h u) && !(unit h u).busy && !(unit h u).faulted)

/-- Show the active Halls (R563). -/
def showHalls (h : Hw) (v : Vault) : Hw :=
  let n := (v.halls.filter (fun p => p.2.st == 1)).length
  setF (onCipher h (fun k => { k with halls := n })) CY_STAT_HALLS 0 n

/-- A key used goes to the front of the cache of 32 (R538). -/
def useKey (h : Hw) (k : Nat × Nat × Nat) : Hw :=
  showKeys (onCipher h (fun x => { x with keys := (k :: x.keys.filter (fun q => !(q == k))).take 32 }))

/-- A comparison failed and is computed again (R538, R542). -/
def countRetry (h : Hw) : Hw := addF (setF h CY_IRQS_MISM 0 1) CY_CNT_COUNT 8 1

/-- KEY_DERIVATION (R538): the media key of a namespace's Hall for generation `kgen`; `agree`: the two CMAC engines agree. The
second mismatch of one derivation raises class [13] in 0x1630 and delivers no key. A cached key is not derived again. -/
def execKeyDerivation (n kgen : Nat) (agree : Bool) (s : State) : Res := s.runBoth fun h v =>
  if !(cipherReady h) ∨ (hall v n).st ≠ 1 ∨ h.cipher.keys.contains (n, (hall v n).epoch, kgen) then (h, v)
  else if agree then
    let h := onCipher h (fun k => { k with deriveRetry := none })
    (useKey (addF h CY_CNT_COUNT 12 1) (n, (hall v n).epoch, kgen), v)
  else if h.cipher.deriveRetry = some (n, kgen) then
    let h := onCipher h (fun k => { k with deriveRetry := none })
    (setF (raiseFault h 0x1630 13 false) CY_IRQS_FAIL 0 1, v)
  else (countRetry (onCipher h (fun k => { k with deriveRetry := some (n, kgen) })), v)

/-! Data units (R541, R542, R547). -/

/-- Units per usage limit (R547). -/
def usageLimit (h : Hw) : Nat := liveVal h 0x1600 0x010 0

/-- A piece of a write of namespace `n` has been begun and not ended: the engine takes the pieces of one Hall one at a time
(R562). -/
def midPiece (h : Hw) (n : Nat) : Bool :=
  h.engine.cmds.any (fun c => c.nsid == n && writes c && c.pieces.any (fun p => p.cipher != [] && decide (p.cipher.length < p.count)))

/-- A write piece that is still to be enciphered, whole or in part. -/
def toEncipher (c : Cmd) (p : Piece) : Bool :=
  writes c && c.inGallery && c.stage == .ready && c.committed.isNone && p.st == .waiting && decide (p.cipher.length < p.count)

/-- Numbers of data units of namespace `n` that wait to be enciphered under one generation (R547, R550): those of each piece not begun,
and an extent's for a re-key at the head of its carriage's queue. -/
def unitsWaiting (h : Hw) (n : Nat) : List Nat :=
  (h.engine.cmds.filter (fun c => c.nsid == n)).flatMap (fun c => (c.pieces.filter (fun p => toEncipher c p && p.cipher == [])).map (fun p => p.count)) ++
  ((List.range 4).filter (fun c => (oget h.cipher.running c).isNone && ((lget h.cipher.queued c).head?.map (fun e => (extent h e).nsid)) == some n)).map (fun _ => extentBlocks) ++
  (match h.engine.oper with
   | some o => if o.kind == .format && o.started && o.step == 2 && o.nsid == n then [extentBlocks] else []
   | none => [])

/-- A data unit of namespace `n` waits, of a piece begun or not. -/
def unitWaiting (h : Hw) (n : Nat) : Bool := h.engine.cmds.any (fun c => c.nsid == n && c.pieces.any (toEncipher c))

/-- A Hall change of namespace `n` waits for its copy to be written (R545). -/
def hallDue (v : Vault) (n : Nat) : Bool := v.due.any (fun d => d.1 == n)

/-- Queue the re-key of an entry on its carriage, unless it is queued or running (R549). -/
def queueRekey (h : Hw) (e : Nat) : Hw :=
  if rekeying h e then h
  else onCipher h (fun k => { k with queued := lset k.queued (extent h e).car (lget k.queued (extent h e).car ++ [e]) })

/-- Change piece `i` of a command. -/
def onPiece (h : Hw) (slot i : Nat) (f : Piece → Piece) : Hw :=
  onCmd h slot (fun c => { c with pieces := c.pieces.mapIdx (fun k q => if k = i then f q else q) })

/-- The next data unit of write piece `p`: it takes place when the Hall is active, the usage limit and the reservation mark leave
room, and its key is cached. The piece keeps the generation of its first unit. -/
def encipherPiece (h : Hw) (v : Vault) (c : Cmd) (i : Nat) (p : Piece) : Hw × Vault :=
  let x := hall v c.nsid
  let begun : Bool := p.cipher != []
  let kgen := if begun then p.kgen else x.wgen
  let key := (c.nsid, x.epoch, kgen)
  if x.st ≠ 1 ∨ hallDue v c.nsid ∨ p.count ≤ p.cipher.length ∨ x.resv ≤ x.used ∨ !(h.cipher.keys.contains key) ∨
     (!begun ∧ (midPiece h c.nsid ∨ usageLimit h < x.used + p.count)) then (h, v)
  else
    let b := p.first + p.cipher.length
    let lba := lbaOf h p.entry b
    if blockBad h c.slot (lba - c.slba) then (fail (onPiece (blockFound h c.slot (lba - c.slba)) c.slot i (fun q => { q with st := .failed stTransfer })) c.slot stTransfer, v)
    else
    let text := textOf c lba
    let w := encipher (isSealed h) c.nsid x.epoch kgen lba text
    let h := addF (useKey h key) CY_CNT_COUNT 0 1
    let v := { v with halls := mset (fun _ => {}) v.halls c.nsid { x with used := x.used + 1 } }
    let h := if !begun ∧ homeGen h p.entry p.first ≠ kgen then queueRekey h p.entry else h
    let h := onPiece h c.slot i (fun q => { q with kgen := kgen, cipher := q.cipher ++ [w] })
    if p.cipher.length + 1 = p.count then
      (mirrorPiece (onPiece h c.slot i (fun q => { q with st := .started })) c.slot i, v)
    else (h, v)

/-- A stream piece not begun of an extent whose KGEN is no longer the namespace's WGEN is carried as Landing writes (R549). -/
def encipherUnit (h : Hw) (v : Vault) (c : Cmd) (i : Nat) (p : Piece) : Hw × Vault :=
  if p.path = .stream ∧ p.cipher = [] ∧ (extent h p.entry).kgen ≠ (hall v c.nsid).wgen then
    let l := landingCut p.entry p.first p.count
    let d := { c with pieces := c.pieces.take i ++ l ++ c.pieces.drop (i + 1) }
    match l with
    | q :: _ => encipherPiece (onCmd h c.slot (fun _ => d)) v d i q
    | [] => (h, v)
  else encipherPiece h v c i p

/-- The next data unit of read piece `p`, from the newest copy on the medium, under that copy's generation (R548). -/
def decipherUnit (h : Hw) (v : Vault) (c : Cmd) (i : Nat) (p : Piece) : Hw :=
  match (List.range p.count).find? (fun k => (oget c.blocks (lbaOf h p.entry (p.first + k))).isNone) with
  | none => h
  | some k =>
    let b := p.first + k
    let lba := lbaOf h p.entry b
    let (w, kgen) := newestCopy h p.entry b
    let key := (c.nsid, (hall v c.nsid).epoch, kgen)
    if (hall v c.nsid).st ≠ 1 ∨ !(h.cipher.keys.contains key) ∨ movesWait h then h
    else
      let text := decipher (isSealed h) c.nsid (hall v c.nsid).epoch kgen lba w
      let h := addF (useKey h key) CY_CNT_COUNT 4 1
      let h := onCmd h c.slot (fun c => { c with
        blocks := oset c.blocks lba (some text)
        metas := if (space h c.nsid).fmt = 1 then oset c.metas lba (some (newestMeta h p.entry b)) else c.metas })
      let h := blockWritten h c.slot (lba - c.slba)
      let full := (List.range p.count).all (fun j => j == k || (oget c.blocks (lbaOf h p.entry (p.first + j))).isSome)
      let h := if full then onPiece h c.slot i (fun q => { q with st := .done }) else h
      onCmd h c.slot (fun c => { c with inGallery := c.pieces.all (fun q => q.st == .done) })

/-- DATA_UNIT_CIPHER (R541): the next data unit of piece `i` of the command in `slot`, on which both pipelines agree. -/
def execDataUnitCipher (slot i : Nat) (s : State) : Res := s.runBoth fun h v =>
  match cmdAt h slot with
  | some c =>
    match c.pieces[i]? with
    | some p =>
      if cipherReady h && c.stage == .ready && c.committed.isNone && (p.st == .waiting || p.st == .started) then
        let h := onCipher h (fun k => { k with retry := none })
        if writes c then (if c.inGallery then encipherUnit h v c i p else (h, v))
        else if p.path = .read ∧ p.st = .started then (decipherUnit h v c i p, v) else (h, v)
      else (h, v)
    | none => (h, v)
  | none => (h, v)

/-- CIPHER_MISMATCH (R542): a comparison of a data unit of piece `i` fails; the second failure raises class [13] and ends the
command. -/
def execCipherMismatch (slot i : Nat) (s : State) : Res := s.run fun h =>
  match cmdAt h slot with
  | some c =>
    if !(cipherReady h) ∨ c.stage ≠ .ready ∨ c.pieces.length ≤ i then h
    else if h.cipher.retry = some slot then
      let st := if writes c then stTransfer else stReadError
      let h := onCipher h (fun k => { k with retry := none })
      let h := setF (raiseFault h 0x16F0 13 false) CY_IRQS_FAIL 0 1
      fail (onPiece h slot i (fun q => { q with st := .failed st })) slot st
    else countRetry (onCipher h (fun k => { k with retry := some slot }))
  | none => h

/-! Halls (R543-R547). -/

/-- Hall `n` as it will be once the changes that are being written have taken effect. -/
def nextHall (v : Vault) (n : Nat) : Hall := match v.due.reverse.find? (fun d => d.1 == n) with
  | some d => d.2
  | none => hall v n

/-- Ask for a Hall change: it takes effect once the older copy has been written with SEQ + 1 (R545). -/
def changeHall (v : Vault) (n : Nat) (x : Hall) : Vault := { v with due := v.due ++ [(n, { x with seq := (nextHall v n).seq + 1 })] }

/-- GENERATION_MOVE (R547): the work that waits, of `units` data units, would exceed the usage limit, so the namespace moves before it.
The same write raises RESV once from 0, as the worked example of chapter 15 has it. -/
def execGenerationMove (n units : Nat) (s : State) : Res := s.runBoth fun h v =>
  let x := hall v n
  if x.st = 1 ∧ !(hallDue v n) ∧ !(midPiece h n) ∧ (unitsWaiting h n).contains units ∧ usageLimit h < x.used + units then
    let h := onCipher h (fun k => { k with moves := (k.moves + 1) % 2 ^ 32 })
    let h := ruleRecord (addF (setF h CY_IRQS_GMOVE 0 1) CY_CNT_COUNT 16 1) 0x16F0 547 3 n
    (h, changeHall v n { x with wgen := (x.wgen + 1) % 2 ^ 32, used := 0, resv := 2 ^ 20 })
  else (h, v)

/-- RESERVATION_MARK_RAISE (R545): USED would pass RESV by the data unit that waits (`units` 1), or by the `units` that an extent's work
reserves at once. -/
def execReservationMarkRaise (n units : Nat) (s : State) : Res := s.runBoth fun h v =>
  let x := hall v n
  if x.st = 1 ∧ !(hallDue v n) ∧ x.resv < x.used + units ∧
     (units = 1 ∧ unitWaiting h n ∨ units = extentBlocks ∧ (unitsWaiting h n).contains extentBlocks) then
    (h, changeHall v n { x with resv := x.resv + 2 ^ 20 })
  else (h, v)

/-- A Hall change takes effect: within one generation USED is the present one. -/
def takeHall (v : Vault) (n : Nat) (x : Hall) : Vault :=
  let now := hall v n
  let used := if x.epoch = now.epoch ∧ x.wgen = now.wgen then now.used else x.used
  { v with
    halls := mset (fun _ => {}) v.halls n { x with used := used }
    older := mset (fun _ => {}) v.older n { now with used := 0 } }

/-- HALL_WRITE_DONE (R545): the oldest Hall copy being written ends; it takes effect when the write succeeded, else CY_IRQS.MBFAIL
is set and it is written again. -/
def execHallWriteDone (ok : Bool) (s : State) : Res := s.runBoth fun h v =>
  match v.due with
  | [] => (h, v)
  | (n, x) :: rest =>
    if ok then
      let v := takeHall { v with due := rest } n x
      (showHalls h v, v)
    else (setF h CY_IRQS_MBFAIL 0 1, v)

/-! Progress records (R621). -/

/-- A progress record as the 32-byte number of its slot. -/
def progressWord (owner seq body : Nat) : Nat :=
  let b := leBytes 1 owner ++ leBytes 1 1 ++ leBytes 2 0 ++ leBytes 4 seq ++ leBytes 20 body
  leVal (b ++ leBytes 4 (crc32c b))

/-- Write a progress record to the copy pair at slots `k` and `k + 1`: the copy with the older SEQ is overwritten. -/
def writeProgress (h : Hw) (k owner body : Nat) : Hw :=
  let seqOf := fun i => zget h.log.area i / 2 ^ 32 % 2 ^ 32
  let a := seqOf k
  let b := seqOf (k + 1)
  onLog h (fun l => { l with area := zset l.area (if b < a then k + 1 else k) (progressWord owner (max a b + 1) body) })

/-- Clear a progress record. -/
def clearProgress (h : Hw) (k : Nat) : Hw := onLog h (fun l => { l with area := zset (zset l.area k 0) (k + 1) 0 })

/-! Re-keys (R549-R551). -/

/-- The progress record of a re-key (R550, R621). -/
def saveRekey (h : Hw) (v : Vault) (c : Nat) (r : Rekey) : Hw :=
  writeProgress h (1034 + 2 * c) 2 (r.entry + 2 ^ 16 * r.durable + 2 ^ 32 * r.target + 2 ^ 64 * r.nsid + 2 ^ 96 * (hall v r.nsid).epoch)

/-- End or abandon the re-key of carriage `c`. -/
def endRekey (h : Hw) (c : Nat) : Hw :=
  showRekeys (showRekey (clearProgress (onCipher h (fun k => { k with running := oset k.running c none })) (1034 + 2 * c)) c)

/-- REKEY_START (R550 step 1): the oldest queued re-key of carriage `c` starts; it reserves 262,144 data units. It waits for a
generation move or a higher mark when they do not fit. A queued re-key of a deleted namespace is abandoned. -/
def execRekeyStart (c : Nat) (s : State) : Res := s.runBoth fun h v =>
  if 4 ≤ c ∨ (oget h.cipher.running c).isSome ∨ carFenced h c ∨ !(cipherReady h) then (h, v)
  else
    match lget h.cipher.queued c with
    | [] => (h, v)
    | e :: rest =>
      let n := (extent h e).nsid
      let x := hall v n
      let next := onCipher h (fun k => { k with queued := lset k.queued c rest })
      if n = 0 then (next, v)
      else if x.st ≠ 1 ∨ hallDue v n ∨ midPiece h n ∨ usageLimit h < x.used + extentBlocks ∨ x.resv < x.used + extentBlocks then (h, v)
      else
        let r : Rekey := { entry := e, nsid := n, target := x.wgen, durable := 0 }
        let h := onCipher next (fun k => { k with running := oset k.running c (some r) })
        let v := { v with halls := mset (fun _ => {}) v.halls n { x with used := x.used + extentBlocks } }
        (showRekeys (showRekey (saveRekey h v c r) c), v)

/-- No command in flight overlaps these blocks in a way that a write must wait for (R450). -/
def writeFree (h : Hw) (n lba count : Nat) : Bool :=
  h.engine.cmds.all (fun e => e.nsid != n ||
    !(decide (e.slba < lba + count) && decide (lba < e.slba + e.nlb)) || (reads e && e.inGallery) || !(reads e || writes e))

/-- Where a Landing write stands (R268-R270): the positions of its data sectors and of its record, those that failed verify on the way, those
that carry fillers. -/
structure LandPlaces where
  data : List Nat
  pos : Nat
  failed : List Nat
  fillers : List Nat
  deriving DecidableEq, Repr

/-- The next eligible position from `p` that does not fail; those that fail join `f`. -/
def takeOne (h : Hw) (c : Nat) (fails : List Nat) : Nat → Nat → List Nat → Nat × List Nat
  | 0, p, f => (p, f)
  | n + 1, p, f =>
    let q := eligible h c ((path h c).grown.length + (path h c).pins.length + 1) p
    if fails.contains q then takeOne h c fails n (ringNext q) (f ++ [q]) else (q, f)

/-- Where the data of a Landing write goes: the positions taken, the filler positions still open to it, the next position of the ring, and those
that failed. -/
structure TakenData where
  places : List Nat
  opened : List Nat
  next : Nat
  failed : List Nat
  deriving DecidableEq, Repr

/-- Add a position; data that does not lie within 128 positions of its first begins anew (R269). -/
def addPlace (ps : List Nat) (p : Nat) : List Nat := match ps.head? with
  | some a => if 128 ≤ ringGap a p then [p] else ps ++ [p]
  | none => [p]

/-- Positions for `need` data sectors in ring order: filler positions of Landing writes in progress first (R268), then from FM_LHEAD on. -/
def takeData (h : Hw) (c : Nat) (fails : List Nat) (need : Nat) : Nat → TakenData → TakenData
  | 0, t => t
  | n + 1, t =>
    if t.places.length = need then t
    else match t.opened with
      | q :: rest =>
        if fails.contains q then takeData h c fails need n { t with opened := rest, failed := t.failed ++ [q] }
        else takeData h c fails need n { t with opened := rest, places := addPlace t.places q }
      | [] =>
        let r := takeOne h c fails (fails.length + 1) t.next t.failed
        takeData h c fails need n { t with places := addPlace t.places r.1, next := ringNext r.1, failed := r.2 }

/-- The places of a Landing write of `need` data sectors: `fails` are the positions that fail verify, `gap` the positions passed before the
record, of which the free ones carry fillers. None when the record would lie more than 130 positions after the first data sector, or the
free space does not hold it. -/
def placeLanding (h : Hw) (c need : Nat) (fails : List Nat) (gap : Nat) : Option LandPlaces :=
  let d := takeData h c fails need (2 * (need + fails.length) + 256) { places := [], opened := (path h c).gaps, next := lhead h c, failed := [] }
  let r := takeOne h c fails (fails.length + 1) ((d.next + gap) % ringSize) d.failed
  match d.places.head? with
  | some a =>
    if d.places.length = need ∧ ringGap a r.1 ≤ 130 ∧ ringGap (lhead h c) r.1 < landSpan h c then
      some { data := d.places, pos := r.1, failed := r.2
             fillers := ((List.range gap).map (fun i => (d.next + i) % ringSize)).filter (fun p => !(landingBad h c p)) }
    else none
  | none => none

/-- LPOS and POSMAP of the data positions (R269). -/
def lposOf (w : LandPlaces) : Nat := w.data.headD 0
def posmapOf (w : LandPlaces) : Nat := w.data.foldl (fun m p => m + 2 ^ ringGap (lposOf w) p) 0

/-- Write a journal record with its data sectors at their places (R268-R270): failed positions join the grown-defect list, FM_LHEAD passes the
record. -/
def addRecord (h : Hw) (c : Nat) (w : LandPlaces) (r : LRec) (texts : List Nat) : Hw :=
  let r := { r with lpos := lposOf w, posmap := posmapOf w, pos := w.pos, time := timeNow h, dcrc := texts.map (fun t => crc32c (leBytes 4096 t)) }
  let h := putLanding h c r.lpos r.posmap 0 texts
  let passed := ringGap (lhead h c) w.pos + 1
  let h := w.fillers.foldl (fun h q => putPosition h c q true (leVal (fillerBytes r.seq))) (putPosition h c r.pos true (leVal r.bytes))
  let h := onPath h c (fun p => { p with
    records := p.records ++ [r], sinceCheck := p.sinceCheck + passed, gaps := p.gaps.filter (fun q => !(w.data.contains q)) ++ w.fillers })
  let h := w.failed.foldl (fun h q => match landPlace h c q with
    | some (t, hd, i) => addDefect (addF (setF h FM_SIRQS_VFAIL (inst c) 1) FM_SCNT_COUNT (inst c + 4) 1) c
        { head := hd, pend := false, reserve := false, landing := true, sect := i, track := t, spare := 0x7FFFFFFF, cause := 1 }
    | none => h) h
  let h := onBuffer h (fun b => { b with landIndex := lset b.landIndex c (lget b.landIndex c ++ [r.seq]) })
  let h := addF h FM_SCNT_COUNT (inst c) (w.data.length + w.failed.length + 1)
  addF (setF (setLseq h c r.seq) FM_LHEAD_VALUE (inst c) (ringNext w.pos)) FM_SCNT_COUNT (inst c + 28) 1

/-- REKEY_CHUNK (R550 steps 2, 3): the record of the next chunk of carriage `c`, with the newest copies under the target, passes
verify at Landing position `pos`; the durable pointer advances. -/
def execRekeyChunk (c : Nat) (fails : List Nat) (gap : Nat) (s : State) : Res := s.runBoth fun h v =>
  match oget h.cipher.running c, placeLanding h c 64 fails gap with
  | some r, some w =>
    let first := 64 * r.durable
    let lba := lbaOf h r.entry first
    if 4096 ≤ r.durable ∨ carFenced h c ∨ !(cipherReady h) ∨ !(writerFree h c) ∨ landFree h c < 131 ∨ 32768 ≤ indexUsed h c ∨ !(writeFree h r.nsid lba 64) then (h, v)
    else
      let epoch := (hall v r.nsid).epoch
      let texts := (List.range 64).map (fun k =>
        let (w, g) := newestCopy h r.entry (first + k)
        encipher (isSealed h) r.nsid epoch r.target (lba + k) (decipher (isSealed h) r.nsid epoch g (lba + k) w))
      let h := onEngine h (fun g => { g with isn := g.isn + 1 })
      let h := addF (addF (addF h CY_CNT_COUNT 0 64) CY_CNT_COUNT 4 64) CY_CNT_COUNT 20 1
      let h := addRecord h c w { seq := lseq h c + 1, nsid := r.nsid, sdu := lba, count := 64, lpos := 0, posmap := 0, kgen := r.target,
                                 ordered := false, mirrored := false, pos := 0, dseq := ldseq h c } texts
      let r := { r with durable := r.durable + 1 }
      let h := onCipher h (fun k => { k with running := oset k.running c (some r) })
      (showRekey (saveRekey h v c r) c, v)
  | _, _ => (h, v)

/-- REKEY_END (R550 step 4): the entry takes the target generation; a fence of the carriage suspends the re-key. -/
def execRekeyEnd (c : Nat) (s : State) : Res := s.run fun h =>
  match oget h.cipher.running c with
  | some r =>
    if r.durable < 4096 ∨ carFenced h c then h
    else setF (endRekey (changeExtents h [r.entry] (fun x => { x with kgen := r.target })) c) CY_IRQS_RKDONE 0 1
  | none => h

/-- Abandon every re-key of namespace `n`, queued or running (R550, R553). -/
def abandonRekeys (h : Hw) (n : Nat) : Hw :=
  let h := onCipher h (fun k => { k with queued := (List.range 4).foldl (fun m c => lset m c ((lget m c).filter (fun e => !((extent h e).nsid == n)))) k.queued })
  (List.range 4).foldl (fun h c => match oget h.cipher.running c with
    | some r => if r.nsid = n then endRekey h c else h
    | none => h) h

/-! Crypto erase (R553). -/

/-- The operation in progress has reached the epoch advance of namespace `n`, and has not made it. -/
def wantsAdvance (h : Hw) (n : Nat) : Bool :=
  match h.engine.oper with
  | some o => o.started && !(o.advanced.contains n) && (match o.kind with
      | .format => o.nsid == n && o.step == 1
      | _ => o.step == 0 && (space h n).size != 0)
  | none => false

/-- EPOCH_ADVANCE (R553): the next step of the advance of namespace `n`; a step that is a Hall change waits for its write. -/
def execEpochAdvance (n : Nat) (s : State) : Res := s.runBoth fun h v =>
  match h.cipher.advance with
  | none =>
    if wantsAdvance h n ∧ !(hallDue v n) then
      let h := showKeys (onCipher h (fun k => { k with keys := k.keys.filter (fun q => !(q.1 == n)), advance := some { nsid := n, step := 1 } }))
      (h, changeHall v n { hall v n with st := 2 })
    else (h, v)
  | some a =>
    if a.nsid ≠ n ∨ hallDue v n then (h, v)
    else
      let at' := fun h k => onCipher h (fun x => { x with advance := some { nsid := n, step := k } })
      match a.step with
      | 1 => if (hall v n).st = 2 then (at' (abandonRekeys h n) 2, v) else (h, changeHall v n { hall v n with st := 2 })
      | 2 => (at' (changeExtents h (entriesIn h n) (fun x => { x with kgen := 0 })) 3, v)
      | 3 => (at' h 4, changeHall v n { st := 1, epoch := ((hall v n).epoch + 1) % 2 ^ 32 })
      | _ => if (hall v n).st ≠ 1 then (h, changeHall v n { st := 1, epoch := ((hall v n).epoch + 1) % 2 ^ 32 }) else
        let h := onCipher h (fun x => { x with advance := none })
        (onEngine h (fun g => { g with oper := g.oper.map (fun o => { o with advanced := o.advanced ++ [n] }) }), v)

/-! Role keys (R539). -/

/-- Install an unwrapped role key: the older copy is overwritten with SEQ + 1. -/
def installKey (h : Hw) (k : RoleKey) (key : Nat) : RoleKey :=
  { inForce := true, key := key, copy := some (roleWrap (isSealed h) key, (k.copy.map (fun c => c.2)).getD 0 + 1),
    older := k.copy }

/-- A Block write of a role key entry (R539), after its checks: `role` is the session's, `custodian` says which key, `wrapped` is
the 40-byte value. True: the key unwrapped and is in force. -/
def writeRoleKey (h : Hw) (role : Nat) (custodian : Bool) (wrapped : Nat) : Hw × Bool :=
  match (roleKey h (if role = 3 then 3 else 2)).bind (fun k => unwrapKey k wrapped) with
  | some key =>
    let h := onCipher h (fun c => if custodian then { c with custodian := installKey h c.custodian key } else { c with operator := installKey h c.operator key })
    (setF h CY_IRQS_KEYCHG 0 1, true)
  | none => (h, false)

/-! The power-loss bank (R559). -/

/-- POWER_LOSS_BANK (R559): 10 us after a power-loss signal with CAUSE 1 or 2 the snapshot is written as bank 2, once for each signal. -/
def execPowerLossBank (s : State) : Res := s.run fun h =>
  if h.engine.lossHold ∧ !(flagF h CY_MSTAT_PLW 0) ∧ (getF h SP_PSTAT_CAUSE 0 = 1 ∨ getF h SP_PSTAT_CAUSE 0 = 2) ∧ domainUp h 5 then
    setF (setF (onCipher h (fun c => { c with bank2 := snapshot h 1 })) CY_MSTAT_PLW 0 1) CY_MSTAT_BANK 0 2
  else h

end Sys2Proof.Machine
end

