-- ==== Sys2Proof/Machine/Buffer.lean ====
section
/-! DEFINITION. The buffer manager: uncorrectable bursts, buckets, scrub, page ownership (R474-R487). -/
namespace Sys2Proof.Machine

/-- A correctable error in an SRAM region without a bucket is corrected in place and counted (R41): that of the L2 in CC_CECNT (R527),
that of core-local memory and of a carriage's region where `secded` says. -/
def correctedSram (h : Hw) (u region : Nat) : Hw :=
  if u = 0x1750 then addF h CC_CECNT_COUNT 0 1
  else if u / 0x10 = 0x171 ∨ u / 0x10 = 0x172 ∨ u / 0x10 = 0x173 ∨ u / 0x10 = 0x174 then { h with secded := zadd h.secded (nib u 1 - 1) 1 }
  else if 2 ≤ u / 0x1000 ∧ u / 0x1000 ≤ 5 ∧ u % 0x1000 = 0 ∧ populated h (u / 0x1000 - 2) ∧ region < 7 then
    { h with secded := zadd h.secded (16 * (u / 0x1000 - 1) + region) 1 }
  else h

/-- MEMORY_CORRECTABLE_ERROR (R41, R483, R484): in the near gallery, die 0 or die 1, or in another SRAM region. -/
def execMemoryCorrectableError (u region : Nat) (s : State) : Res := s.run fun h =>
  if bucketUnits.contains u then (if domainUp h 4 then correctable h u else h) else correctedSram h u region

/-- MEMORY_UNCORRECTABLE_ERROR (R483, R484). -/
def execMemoryUncorrectableError (a : Nat) (group : Bool) (s : State) : Res := s.run fun h =>
  if domainUp h 4 then uncorrectable h a group else h

/-- BUCKET_LEAK (R486): once every leak interval, 0 acting as 1 s, every bucket above 0 loses 1; the cause of class [0] ends below the depth. -/
def execBucketLeak (s : State) : Res := s.run fun h =>
  if h.log.optime < h.buffer.leakAt + 1000 * max 1 (getF h BM_BKCFG_LEAK 0) then h else
  bucketUnits.foldl (fun h u =>
    let n := getF h (bucketFld u) 0
    if n = 0 then h else setCause (setF h (bucketFld u) 0 (n - 1)) u 0 (decide (bucketDepth h ≤ n - 1))) (onBuffer h (fun b => { b with leakAt := h.log.optime }))

/-- SCRUB (R485): one pass over all memory; what it meets: the units of its correctable errors and the addresses of its
uncorrectable ones. -/
def execScrub (errors : List Nat) (bad : List Nat) (s : State) : Res := s.run fun h =>
  if getF h BM_CFG_SCRUBH 0 = 0 ∨ !(domainUp h 4) then h
  else
    let h := errors.foldl (fun h u => if bucketUnits.contains u then correctable h u else h) h
    bad.foldl (fun h a => uncorrectable h a false) h

/-- MR4_READ (R481, R598, R603): die 0 or 1, the refresh rate that MR4 asks for, and whether it shows operation beyond the high
limit, which counts as a shutdown of the hub. That ends by R604 once no die shows it any more. -/
def execMr4Read (die rate : Nat) (hot : Bool) (s : State) : Res := s.run fun h =>
  if die < 2 ∧ domainUp h 4 then
    let h := onIsland h (fun i => { i with refresh := putBits (8 * die + 7) (8 * die) rate i.refresh, mr4Hot := putBit i.mr4Hot die hot })
    if hot then thermalShutdown h 0 false else h
  else h

/-- A pool page address is not owned by `slot` (R480). -/
def notOwned (h : Hw) (slot a : Nat) : Bool :=
  decide (poolBase ≤ a) && decide (a < windowBase) &&
  (match oget h.buffer.pages ((a - poolBase) / 8192) with
   | some (k, _) => k != slot
   | none => true)

/-- The ownership check refuses an access on behalf of a slot (R480). -/
def ownershipFault (h : Hw) (slot : Nat) : Hw := fail (setF (raiseFault h 0x1420 6 false) BM_IRQS_OWN 0 1) slot stTransfer

/-- OWNERSHIP_VIOLATION (R480). -/
def execOwnershipViolation (slot a : Nat) (s : State) : Res := s.run fun h =>
  if notOwned h slot a then ownershipFault h slot else h

end Sys2Proof.Machine
end

