-- ==== Sys2Proof/Machine/Cores.lean ====
section
/-! DEFINITION. The control cores and the shared cache: address map, second-level cache, maintenance operations, errors, interrupts
(R507-R534). -/
namespace Sys2Proof.Machine

/-! The address map (R510). -/

/-- An address below the uncached alias is buffer memory, the carriage windows apart. -/
def inBuffer (a : Nat) : Bool := regionOf a == some 1 || regionOf a == some 2

/-- A core's access at `a` reaches something (R510). -/
def coreMapped (a : Nat) : Bool :=
  decide (a < 0x10000) || decide (0x10000000 ≤ a ∧ a < 0x10100000) || decide (0x20000000 ≤ a ∧ a < 0x20400000) ||
  decide (0x40000000 ≤ a ∧ a < 0x41000000) || (regionOf a).isSome || (decide (0x8000000000 ≤ a) && inBuffer (a - 0x8000000000))

/-- Cacheable addresses (R510). -/
def cacheable (a : Nat) : Bool := inBuffer a

/-- The uncached alias of buffer memory (R510). -/
def inAlias (a : Nat) : Bool := decide (0x8000000000 ≤ a) && inBuffer (a - 0x8000000000)

/-- The boot ROM; core-local memory, one's own and the cores' (R510). -/
def inBootRom (a : Nat) : Bool := decide (a < 0x10000)
def inOwnLocal (a : Nat) : Bool := decide (0x10000000 ≤ a ∧ a < 0x10100000)
def inLocal (a : Nat) : Bool := inOwnLocal a || decide (0x20000000 ≤ a ∧ a < 0x20400000)

/-- The I/O attribute: register space and the carriage windows (R510). -/
def inIo (a : Nat) : Bool := decide (0x40000000 ≤ a ∧ a < 0x41000000) || ((regionOf a).isSome && !(inBuffer a))

/-- satp reads 0: there is no virtual memory (R508). -/
def satp (_ : CoreSt) : Nat := 0

/-- An exception of core `k` (R508, R513): it runs on in machine mode with mcause and mtval written. `data`: for uncorrectable data. -/
def coreException (h : Hw) (k cause a : Nat) (data : Bool) : Hw :=
  emit (onCore h k (fun c => { c with machine := true, mcause := cause, mtval := a, faults := if data then (c.faults + 1) % 2 ^ 32 else c.faults }))
    (.exception k cause)

/-- Cause of an access fault (R513): 1 fetch, 5 load, LR and an AMO's read, 7 store and SC. -/
def faultCause : CoreAccess → Nat
  | .fetch => 1
  | .load => 5
  | .lr => 5
  | .amo => 5
  | .store => 7
  | .sc => 7

/-- Cause of an address-misaligned exception of the RISC-V privileged specification (R508, log entry 94). -/
def misalignedCause : CoreAccess → Nat
  | .fetch => 0
  | .load => 4
  | .lr => 4
  | .store => 6
  | .sc => 6
  | .amo => 6

/-- The access stores. -/
def accStores : CoreAccess → Bool
  | .store => true
  | .sc => true
  | .amo => true
  | _ => false

/-- LR, SC and AMO. -/
def accAtomic : CoreAccess → Bool
  | .lr => true
  | .sc => true
  | .amo => true
  | _ => false

/-! Physical memory protection (R508; the entry's fields and rules are the RISC-V privileged specification's, log entry 94). -/

/-- Ones at the low end of an address register, up to 54. -/
def lowOnes (x : Nat) : Nat := ((List.range 54).find? (fun i => !(bitAt x i))).getD 54

/-- PMP entry `n` of a core. -/
def pmpEntry (c : CoreSt) (n : Nat) : PmpEntry := mget (fun _ => {}) c.pmp n

/-- The addresses `[lo, hi)` that entry `n` covers: A 0 off, 1 top of range, 3 naturally aligned power of two; with a granularity of 64
bytes A 2 is the smallest aligned range, and the low bits of the address register are ignored. -/
def pmpRange (c : CoreSt) (n : Nat) : Nat × Nat :=
  let e := pmpEntry c n
  match bits 4 3 e.cfg with
  | 0 => (0, 0)
  | 1 => (if n = 0 then 0 else (pmpEntry c (n - 1)).addr / 16 * 64, e.addr / 16 * 64)
  | _ =>
    let t := lowOnes (e.addr ||| 7)
    (4 * (e.addr / 2 ^ (t + 1) * 2 ^ (t + 1)), 4 * (e.addr / 2 ^ (t + 1) * 2 ^ (t + 1)) + 2 ^ (t + 3))

/-- The entries of a core that touch one of `n` bytes at `a`. -/
def pmpHit (c : CoreSt) (a n : Nat) : Option Nat :=
  (List.range 16).find? (fun i => decide ((pmpRange c i).1 < a + n) && decide (a < (pmpRange c i).2))

/-- The core may read (bit 0), write (bit 1) or execute (bit 2) the `n` bytes at `a`: the lowest-numbered entry that touches them must
cover them all; an unlocked entry does not bind machine mode; where none matches only machine mode passes. -/
def pmpAllows (c : CoreSt) (bit a n : Nat) : Bool :=
  match pmpHit c a n with
  | none => c.machine
  | some i =>
    let e := pmpEntry c i
    decide ((pmpRange c i).1 ≤ a) && decide (a + n ≤ (pmpRange c i).2) && ((c.machine && !(bitAt e.cfg 7)) || bitAt e.cfg bit)

/-- A write of entry `n` in machine mode: a locked entry, or the address below a locked top of range, keeps its value until reset. -/
def pmpWrite (c : CoreSt) (n : Nat) (e : PmpEntry) : CoreSt :=
  let old := pmpEntry c n
  let next := pmpEntry c (n + 1)
  if bitAt old.cfg 7 || 16 ≤ n then c
  else { c with pmp := mset (fun _ => {}) c.pmp n
                  { cfg := e.cfg % 256, addr := if bitAt next.cfg 7 && bits 4 3 next.cfg == 1 then old.addr else e.addr % 2 ^ 54 } }

/-- The protection lets the access pass: an AMO reads and writes. -/
def pmpPasses (c : CoreSt) (kind : CoreAccess) (a n : Nat) : Bool :=
  match kind with
  | .fetch => pmpAllows c 2 a n
  | .load => pmpAllows c 0 a n
  | .lr => pmpAllows c 0 a n
  | .amo => pmpAllows c 0 a n && pmpAllows c 1 a n
  | .store => pmpAllows c 1 a n
  | .sc => pmpAllows c 1 a n

/-- The attribute of the region allows the access (R510, R512): the boot ROM takes no store, I/O no fetch and no atomic, the uncached
alias no atomic. -/
def attributeAllows (kind : CoreAccess) (a : Nat) : Bool :=
  !(inBootRom a && (accStores kind || accAtomic kind)) && !(inIo a && (accAtomic kind || kind == .fetch)) && !(inAlias a && accAtomic kind)

/-- The exception that `n` bytes at `a` meet before memory is reached (R508, R510, R512, R513): an access fault for protection, an
unmapped address, buffer memory whose domain is off (R634) or the attribute, then misalignment outside cacheable memory; an atomic must be aligned everywhere (log entry 94). -/
def accessCause (h : Hw) (k : Nat) (kind : CoreAccess) (a n : Nat) : Option Nat :=
  let c := h.cores.get k
  if !(coreMapped a) ∨ ((inBuffer a ∨ inAlias a) ∧ !(domainUp h 4)) ∨ !(pmpPasses c kind a n) ∨ !(attributeAllows kind a) then some (faultCause kind)
  else if a % atLeast1 n ≠ 0 ∧ (!(cacheable a) ∨ accAtomic kind) ∧ kind ≠ .fetch then some (misalignedCause kind)
  else none

/-! Lines (R515-R520). -/

def setOf (line : Nat) : Nat := line % 4096
def wayLocked (h : Hw) (w : Nat) : Bool := bitAt (getF h CC_WLOCK_LOCK 0) w
def findLine (h : Hw) (line : Nat) : Option Line := h.cluster.lines.find? (fun l => l.line == line && !l.reserved)
def onLines (h : Hw) (f : List Line → List Line) : Hw := onCluster h (fun k => { k with lines := f k.lines })

/-- Show the miss registers in use and the victim-cache lines (R533). -/
def showCache (h : Hw) : Hw := setF (setF h CC_L2STAT_MSHR 0 h.cluster.misses.length) CC_L2STAT_VICT 0 h.cluster.victims.length

/-- Write a line's bytes to memory. -/
def writeBack (h : Hw) (l : Line) : Hw := putBeat h (64 * l.line) (leBytes 64 l.data)

/-- Remove a line from every first-level cache (R514, R521). -/
def dropL1 (h : Hw) (line : Nat) : Hw :=
  [0, 1, 2, 3].foldl (fun h k => onCore h k (fun c => { c with l1d := c.l1d.filter (fun x => !(x == line)), l1i := c.l1i.filter (fun x => !(x == line)) })) h

/-- Take a line out of the second-level cache; in a locked way its slot becomes Reserved (R520). -/
def dropLine (h : Hw) (line : Nat) : Hw :=
  onLines h (fun ls => ls.filterMap (fun l =>
    if l.line = line ∧ !l.reserved then (if wayLocked h l.way then some { l with reserved := true, dirty := false, data := 0 } else none) else some l))

/-- Tree pseudo-LRU (R515): the way of `[lo, lo + size)` that the bits lead to among the eligible ones; node `n`, `fuel` levels. -/
def plruPick (bits mask : Nat) : Nat → Nat → Nat → Nat → Nat
  | 0, _, lo, _ => lo
  | fuel + 1, n, lo, size =>
    let half := size / 2
    let left := (List.range half).any (fun i => bitAt mask (lo + i))
    let right := (List.range half).any (fun i => bitAt mask (lo + half + i))
    if right && (!left || bitAt bits n) then plruPick bits mask fuel (2 * n + 2) (lo + half) half
    else plruPick bits mask fuel (2 * n + 1) lo half

/-- The bits after a use of `way`: every node on its path points away from it. -/
def plruUse (way : Nat) : Nat → Nat → Nat → Nat → Nat → Nat
  | 0, _, _, _, bits => bits
  | fuel + 1, n, lo, size, bits =>
    let half := size / 2
    if way < lo + half then plruUse way fuel (2 * n + 1) lo half (putBit bits n true)
    else plruUse way fuel (2 * n + 2) (lo + half) half (putBit bits n false)

def touchWay (h : Hw) (set way : Nat) : Hw :=
  onCluster h (fun k => { k with plru := zset k.plru set (plruUse way 4 0 0 16 (zget k.plru set)) })

/-- A line leaves the second-level cache by replacement (R517): it enters the victim cache, and a dirty one is written back from
there. -/
def evict (h : Hw) (l : Line) : Hw :=
  let h := if l.dirty then writeBack h l else h
  let h := onLines (dropL1 h l.line) (fun ls => ls.filter (fun x => !(x.line == l.line)))
  onCluster h (fun k => { k with victims := ({ l with dirty := false } :: k.victims.filter (fun x => !(x.line == l.line))).take 16 })

/-- Put a line into the cache for core `k` (R515, R520): into its Reserved slot, the lowest invalid eligible way, or the eligible way
that pseudo-LRU picks; with no eligible way it is not allocated. -/
def allocate (h : Hw) (k line data : Nat) : Hw :=
  let put := fun (h : Hw) (w : Nat) => touchWay (onLines h (fun ls => ls ++ [{ line := line, way := w, dirty := false, reserved := false, data := data }])) (setOf line) w
  match h.cluster.lines.find? (fun l => l.line == line && l.reserved && wayLocked h l.way) with
  | some slot => put (onLines h (fun ls => ls.filter (fun l => !(l.line == line && l.reserved)))) slot.way
  | none =>
    let mask := (List.range 16).foldl (fun m w => putBit m w (bitAt (getF h CC_WALLOC_MASK (4 * k)) w && !(wayLocked h w))) 0
    let inSet := h.cluster.lines.filter (fun l => setOf l.line == setOf line)
    match (List.range 16).find? (fun w => bitAt mask w && !(inSet.any (fun l => l.way == w))) with
    | some w => put h w
    | none =>
      if mask = 0 then h
      else
        let w := plruPick (zget h.cluster.plru (setOf line)) mask 4 0 0 16
        match inSet.find? (fun l => l.way == w) with
        | some l => put (evict h l) w
        | none => put h w

/-- Bytes of a line with `bytes` stored at offset `o`. -/
def patchLine (data o : Nat) (bytes : List Nat) : Nat :=
  leVal (((leBytes 64 data).take o ++ bytes.map (BitVec.ofNat 8) ++ (leBytes 64 data).drop (o + bytes.length)).take 64)

/-- A store of core `k` writes through to the second-level cache, or to memory when the line is not held; every other core loses its
copy (R514). -/
def coreStore (h : Hw) (k a : Nat) (bytes : List Nat) : Hw :=
  if bytes.isEmpty then h
  else
    let line := a / 64
    let h := [0, 1, 2, 3].foldl (fun h j => if j = k then h else onCore h j (fun c => { c with l1d := c.l1d.filter (fun x => !(x == line)) })) h
    if (findLine h line).isSome then
      onLines h (fun ls => ls.map (fun l => if l.line = line ∧ !l.reserved then { l with dirty := true, data := patchLine l.data (a % 64) bytes } else l))
    else memStore h a (bytes.map (BitVec.ofNat 8))

/-- One line more in a first-level cache of 256 sets of 4 ways (R507); the oldest line of a full set leaves (log entry 94). -/
def l1Insert (line : Nat) (ls : List Nat) : List Nat :=
  let rest := ls.filter (fun x => !(x == line))
  let same := rest.filter (fun x => x % 256 == line % 256)
  line :: rest.filter (fun x => !(decide (4 ≤ same.length) && some x == same.getLast?))

/-- Core `k` holds the line in its first-level cache after a fetch or a load. The L2 is inclusive (R514): a line that the L2 does not
hold enters none. -/
def fillL1 (h : Hw) (k : Nat) (kind : CoreAccess) (line : Nat) : Hw :=
  if (findLine h line).isNone ∨ accStores kind then h
  else if kind = .fetch then onCore h k (fun c => { c with l1i := l1Insert line c.l1i })
  else onCore h k (fun c => { c with l1d := l1Insert line c.l1d })

/-- LR, SC and the stores of every core on the reservations (R512): an LR reserves its line, an SC ends its core's reservation, a write ends the
others' reservations of its line. -/
def reserveReq (h : Hw) (r : CoreReq) (stores : Bool) : Hw :=
  let line := r.addr / 64
  let h := if stores then [0, 1, 2, 3].foldl (fun h j =>
      if j = r.core then h else onCore h j (fun c => { c with resv := if c.resv = some line then none else c.resv })) h else h
  match r.kind with
  | .lr => onCore h r.core (fun c => { c with resv := some line })
  | .sc => onCore h r.core (fun c => { c with resv := none })
  | _ => h

/-- A request reaches the L2's line, or memory where the L2 does not hold it (R514, R515): a use of the line's way, the copy in the
first-level cache, the store; an SC without the reservation of its line stores nothing. -/
def performReq (h : Hw) (r : CoreReq) : Hw :=
  let line := r.addr / 64
  let h := match findLine h line with
    | some l => touchWay h (setOf line) l.way
    | none => h
  let h := fillL1 h r.core r.kind line
  let stores : Bool := accStores r.kind && (r.kind != .sc || (h.cores.get r.core).resv == some line)
  let h := reserveReq h r stores
  if stores then coreStore h r.core r.addr r.bytes else h

/-- A miss takes its place (R516, R517): a line that has come meanwhile serves it, the victim cache serves it, it merges into the
register of its line, takes a free register, or waits. -/
def placeReq (h : Hw) (r : CoreReq) : Hw :=
  let line := r.addr / 64
  let wait := onCluster h (fun c => { c with missWait := c.missWait ++ [r] })
  if (findLine h line).isSome then performReq h r
  else match h.cluster.victims.find? (fun l => l.line == line) with
    | some l =>
      let h := onCore h r.core (fun c => { c with hpmVictim := c.hpmVictim + 1 })
      let h := onCluster h (fun c => { c with victims := c.victims.filter (fun x => !(x.line == line)) })
      performReq (allocate h r.core line l.data) r
    | none =>
      match h.cluster.misses.find? (fun m => m.line == line) with
      | some m =>
        if m.reqs.length < 8 then
          onCluster h (fun c => { c with misses := c.misses.map (fun x => if x.line = line then { x with reqs := x.reqs ++ [r] } else x) })
        else wait
      | none =>
        if h.cluster.misses.length < 32 then onCluster h (fun c => { c with misses := c.misses ++ [{ line := line, reqs := [r] }] })
        else wait

/-- The fill of a miss register returns (R513, R515, R516): the line is allocated for the core of the first request, the register freed
and its requests served in order, or each ends with an access fault where the fill is uncorrectable; then the waiting requests take
their places, oldest first. -/
def fillMiss (h : Hw) (m : Miss) : Hw :=
  let bad := beatBad h (64 * m.line)
  let first := ((m.reqs.head?).map (fun r => r.core)).getD 0
  let h := if bad then uncorrectable h (64 * m.line) false else allocate h first m.line (memWord h (64 * m.line) 64)
  let h := onCluster h (fun k => { k with misses := k.misses.filter (fun x => !(x.line == m.line)) })
  let h := m.reqs.foldl (fun h r => if bad then coreException h r.core (faultCause r.kind) r.addr true else performReq h r) h
  let waiting := h.cluster.missWait
  waiting.foldl placeReq (onCluster h (fun k => { k with missWait := [] }))

/-- An access that the L1 serves alone (R514): a load or a fetch of a line it holds. -/
def l1Hit (h : Hw) (r : CoreReq) : Bool :=
  match r.kind with
  | .fetch => (h.cores.get r.core).l1i.contains (r.addr / 64)
  | .load => (h.cores.get r.core).l1d.contains (r.addr / 64)
  | _ => false

/-- A cacheable access within one line arrives (R515-R517): a hit is performed; a miss is counted and takes its place; one that waits
costs its core `cycles`, and counts in CC_STALL when no register tracks its line. -/
def arrive (h : Hw) (r : CoreReq) (cycles : Nat) : Hw :=
  let line := r.addr / 64
  if l1Hit h r then h
  else if (findLine h line).isSome then performReq h r
  else
    let primary := !(h.cluster.misses.any (fun m => m.line == line))
    let h := onCore h r.core (fun c => if accStores r.kind then { c with hpmWriteMiss := c.hpmWriteMiss + 1 } else { c with hpmReadMiss := c.hpmReadMiss + 1 })
    let before := h.cluster.missWait.length
    let h := placeReq h r
    if before < h.cluster.missWait.length then
      let h := onCore h r.core (fun c => { c with hpmStall := c.hpmStall + cycles })
      if primary then addF h CC_STALL_COUNT 0 1 else h
    else h

/-- The parts of an access in each line that it touches (R508): `n` bytes at `a`, of which a store leaves `bytes`. -/
def lineParts (k a n : Nat) (kind : CoreAccess) (bytes : List Nat) : List CoreReq :=
  let here := 64 - a % 64
  if n ≤ here then [⟨k, a, kind, bytes⟩] else [⟨k, a, kind, bytes.take here⟩, ⟨k, a + here, kind, bytes.drop here⟩]

/-- L2_MISS_FILL (R508, R515-R517). With `fill` false core `k`'s access of `size` bytes at the cacheable address `a` reaches the caches:
it ends with its exception, hits, or misses and takes its place; a store, SC or AMO leaves the first `size` of `bytes`. With `fill`
true the fill of the line of `a` returns, and every request of its register is served. -/
def execL2MissFill (k a : Nat) (kind : CoreAccess) (size : Nat) (fill : Bool) (bytes : List Nat) (cycles : Nat) (s : State) : Res := s.run fun h =>
  if fill then
    match h.cluster.misses.find? (fun m => m.line == a / 64) with
    | none => h
    | some m => showCache (fillMiss h m)
  else if !(cacheable a) ∨ !((h.cores.get k).running) ∨ 4 ≤ k then h
  else match accessCause h k kind a (min size 64) with
    | some cause => coreException h k cause a false
    | none => showCache ((lineParts k a (min size 64) kind (bytes.take (min size 64))).foldl (fun h r => arrive h r cycles) h)

/-! Maintenance (R521-R523). -/

/-- A line's write-back, after which it stays clean. -/
def cleanLine (h : Hw) (line : Nat) : Hw :=
  match findLine h line with
  | some l =>
    if l.dirty then onLines (writeBack h l) (fun ls => ls.map (fun x => if x.line = line ∧ !x.reserved then { x with dirty := false } else x)) else h
  | none => h

/-- A line is discarded everywhere without write-back. -/
def invalLine (h : Hw) (line : Nat) : Hw :=
  onCluster (dropLine (dropL1 h line) line) (fun k => { k with victims := k.victims.filter (fun x => !(x.line == line)) })

/-- Operation 1 clean, 2 invalidate, 3 flush on one line; a miss to it in progress is filled first (R522). -/
def maintain (h : Hw) (op line : Nat) : Hw :=
  let h := match h.cluster.misses.find? (fun m => m.line == line) with
    | some m => fillMiss h m
    | none => h
  let h := if op = 1 ∨ op = 3 then cleanLine h line else h
  if op = 2 ∨ op = 3 then invalLine h line else h

/-- What menvcfg makes of a maintenance instruction (R521): machine mode runs it; in user mode CBCFE enables clean and flush, CBIE 1
makes an invalidate a flush, 3 lets it be, and else the instruction is illegal. -/
def cboAllowed (c : CoreSt) (op : Nat) : Option Nat :=
  if c.machine then some op
  else if op = 2 then (if bits 5 4 c.menvcfg = 1 then some 3 else if bits 5 4 c.menvcfg = 3 then some 2 else none)
  else if bitAt c.menvcfg 6 then some op else none

/-- A Zicbom instruction of core `k` (R521): on an address that is not cacheable, or that the core may neither read nor write, it raises
a store access fault; an illegal one exception 2, whose mtval is a free value. -/
def cbo (h : Hw) (op k a : Nat) : Hw :=
  if 4 ≤ k ∨ !((h.cores.get k).running) then h
  else
    let c := h.cores.get k
    match cboAllowed c op with
    | none => drawn (coreException h k 2 (Config.freeNat h.freeCtr) false)
    | some op =>
      if cacheable a && (pmpAllows c 0 (a / 64 * 64) 64 || pmpAllows c 1 (a / 64 * 64) 64) then showCache (maintain h op (a / 64))
      else coreException h k 7 a false

/-- CBO_CLEAN, CBO_INVAL, CBO_FLUSH (R521). -/
def execCboClean (k a : Nat) (s : State) : Res := s.run fun h => cbo h 1 k a
def execCboInval (k a : Nat) (s : State) : Res := s.run fun h => cbo h 2 k a
def execCboFlush (k a : Nat) (s : State) : Res := s.run fun h => cbo h 3 k a

/-- Lines in rising order of a key. -/
def insertLine (key : Nat → Nat) (x : Nat) : List Nat → List Nat
  | [] => [x]
  | y :: rest => if key x ≤ key y then x :: y :: rest else y :: insertLine key x rest
def sortLines (key : Nat → Nat) (l : List Nat) : List Nat := l.foldr (insertLine key) []

/-- Lines that a range or way operation acts on, in address order or set order (R523). -/
def walked (h : Hw) (ways : Bool) (mask : Nat) : List Nat :=
  let lo := getF h CC_MSTARTL_ADDR 0 / 64 * 64 + 2 ^ 32 * getF h CC_MSTARTH_ADDR 0
  let hi := getF h CC_MENDL_ADDR 0 / 64 * 64 + 2 ^ 32 * getF h CC_MENDH_ADDR 0
  let inRange := fun (l : Nat) => decide (lo ≤ 64 * l) && decide (64 * l < hi) && cacheable (64 * l)
  if ways then sortLines setOf ((h.cluster.lines.filter (fun l => !l.reserved && bitAt mask l.way)).map (fun l => l.line))
  else sortLines id <| ((h.cluster.lines.filter (fun l => !l.reserved && inRange l.line)).map (fun l => l.line)) ++
    ((h.cluster.victims.filter (fun l => inRange l.line)).map (fun l => l.line)) ++
    ((h.cluster.misses.filter (fun m => inRange m.line)).map (fun m => m.line))

/-- A landed write of CC_MOP with OP `op` (R523): while BUSY it is ignored and sets REF. -/
def startWalk (h : Hw) (op data : Nat) : Hw :=
  if flagF h CC_MSTAT_BUSY 0 then setF h CC_MSTAT_REF 0 1
  else
    let h := setF (setF (setF h CC_MOP_OP 0 op) CC_MOP_SCOPE 0 (bits 29 29 data)) CC_MOP_WAYS 0 (bits 15 0 data)
    let h := setF h CC_MSTAT_BUSY 0 1
    showCache ((walked h (bitAt data 29) (bits 15 0 data)).foldl (fun h l => maintain h op l) h)

/-- CC_MOP_CLEAN, CC_MOP_INVALIDATE, CC_MOP_FLUSH (R523): `data` is the written word, whose OP is the row's. -/
def execCcMopClean (data : Nat) (s : State) : Res := s.run fun h => startWalk h 1 data
def execCcMopInvalidate (data : Nat) (s : State) : Res := s.run fun h => startWalk h 2 data
def execCcMopFlush (data : Nat) (s : State) : Res := s.run fun h => startWalk h 3 data

/-- CACHE_OPERATION_DONE (R523). -/
def execCacheOperationDone (s : State) : Res := s.run fun h => setF h CC_MSTAT_BUSY 0 0

/-- CC_WLOCK_WRITE (R14, R519, R520): a masked write; ways 14 and 15 stay unlocked; Reserved slots of unlocked ways become plain
invalid lines. -/
def execCcWlockWrite (data : Nat) (s : State) : Res := s.run fun h =>
  let mask := bits 29 16 data
  let lock := (List.range 14).foldl (fun w i => if bitAt mask i then putBit w i (bitAt data i) else w) (getF h CC_WLOCK_LOCK 0)
  let h := setF h CC_WLOCK_LOCK 0 lock
  onLines h (fun ls => ls.filter (fun l => !(l.reserved && !(bitAt lock l.way))))

/-! Errors (R527). -/

/-- Poison a line's memory (R527): the burst's poison bit in far memory, an uncorrectable check in the near gallery. -/
def poisonLine (h : Hw) (line : Nat) : Hw :=
  let a := 64 * line
  if a < farBase then onBuffer h (fun b => { b with badNear := (List.range 8).foldl (fun m i => zset m (nearWord a + i) 1) b.badNear })
  else onBuffer h (fun b => { b with poison := zset b.poison (burstOf a) 1 })

/-- An uncorrectable error in a valid line: a clean line is discarded and counted, a dirty one written back poisoned and
discarded. -/
def lineError (h : Hw) (l : Line) : Hw :=
  if l.dirty then
    let h := setF (setF h CC_UEADDRL_ADDR 0 (64 * l.line)) CC_UEADDRH_ADDR 0 (64 * l.line / 2 ^ 32)
    dropLine (dropL1 (poisonLine (writeBack h l) l.line) l.line) l.line
  else dropLine (dropL1 (addF h CC_CECNT_COUNT 0 1) l.line) l.line

/-- L2_UNCORRECTABLE_ERROR (R527): met by core `k`'s access at `a`, in the line's data or (tag) in its set's tags. A line of the victim
cache is clean by then, and the fill of a miss register comes again: each is discarded and counted. -/
def execL2UncorrectableError (k a : Nat) (kind : CoreAccess) (tag : Bool) (s : State) : Res := s.run fun h =>
  let line := a / 64
  let hit := h.cluster.lines.filter (fun l => !l.reserved && (if tag then setOf l.line == setOf line else l.line == line))
  if 4 ≤ k then h
  else if hit.isEmpty then
    if h.cluster.victims.any (fun l => l.line == line) then
      showCache (onCluster (addF h CC_CECNT_COUNT 0 1) (fun c => { c with victims := c.victims.filter (fun l => !(l.line == line)) }))
    else if h.cluster.misses.any (fun m => m.line == line) then addF h CC_CECNT_COUNT 0 1
    else h
  else
    let dirty := hit.any (fun l => l.dirty)
    let mine := hit.any (fun l => l.dirty && l.line == line)
    let h := hit.foldl lineError h
    let h := if dirty ∨ tag then raiseFault h 0x1750 1 false else h
    if mine then coreException h k (faultCause kind) a true else h

/-- The unit of the core-local memory at `a` as core `k` sees it (R510). -/
def localUnit (k a : Nat) : Nat := 0x1710 + 0x10 * (if inOwnLocal a then k else (a - 0x20000000) / 0x100000)

/-- CORE_ACCESS_FAULT (R508, R512, R513): core `k`'s access of `size` bytes at `a`, outside the caches, meets its exception: protection,
an unmapped address, the attribute, misalignment, or uncorrectable data: of the gallery behind the uncached alias, or (`bad`) of
core-local memory, which raises class [1] in the core that holds it. An access that meets none completes. -/
def execCoreAccessFault (k a : Nat) (kind : CoreAccess) (size : Nat) (bad : Bool) (s : State) : Res := s.run fun h =>
  if 4 ≤ k ∨ !((h.cores.get k).running) then h
  else match accessCause h k kind a (min size 64) with
    | some cause => coreException h k cause a false
    | none =>
      if bad ∧ inLocal a then coreException (raiseFault h (localUnit k a) 1 false) k (faultCause kind) a true
      else if inAlias a ∧ beatBad h (a - 0x8000000000) then
        coreException (uncorrectable h (a - 0x8000000000) false) k (faultCause kind) a true
      else h

/-! Cores and interrupts (R509, R528-R531). -/

/-- CORE_RELEASE (R509): 1 is written to bits of CC_CORE.REL. -/
def execCoreRelease (data : Nat) (s : State) : Res := s.run fun h =>
  [0, 1, 2, 3].foldl (fun h k =>
    if bitAt data k && !(bitAt (getF h CC_CORE_REL 0) k) then
      onCore (setF h CC_CORE_REL 0 (putBit (getF h CC_CORE_REL 0) k true)) k (fun c => { c with running := true, start := bootAddress h })
    else h) h

/-- Status bits of two registers meet their enables. -/
def irqMeets (h : Hw) (status enable d : Nat) : Bool := (getReg h (status + d) &&& getReg h (enable + d)) != 0

/-- Leaves whose fault summaries drive the line of a die: 0 hub, 1-4 carriages, 5 motor die (R590). -/
def dieLeaves (die : Nat) : List Nat :=
  leafPaths.filter (fun u => let n := nib u 3
    if die = 0 then n == 1 || n == 7 else if die = 5 then n == 6 else n == die + 1)

/-- The OR of a die's fault summaries (R590). -/
def dieFaults (h : Hw) (die : Nat) : Nat := (dieLeaves die).foldl (fun w u => w ||| (unit h u).summary) 0

/-- Level of interrupt source `n` (R528, R590). -/
def sourceHigh (h : Hw) (n : Nat) : Bool :=
  if n < 4 then irqMeets h CH_IRQS CH_IRQE (inst n)
  else if n < 8 then irqMeets h FM_SIRQS FM_SIRQE (inst (n - 4)) || irqMeets h FM_MIRQS FM_MIRQE (inst (n - 4))
  else if n < 12 then irqMeets h SV_IRQS SV_IRQE (inst (n - 8))
  else if n < 16 then irqMeets h AC_IRQS AC_IRQE (inst (n - 12))
  else if n = 16 then irqMeets h SP_IRQS SP_IRQE 0
  else if n = 17 then irqMeets h BM_IRQS BM_IRQE 0
  else if n = 18 then irqMeets h DM_IRQS DM_IRQE 0 || (flagF h DM_GSTAT_HALT 0 && flagF h DM_GIRQE_HALTE 0)
  else if n = 19 then irqMeets h CY_IRQS CY_IRQE 0
  else if n = 20 then irqMeets h EV_IRQS EV_IRQE 0
  else if n = 21 then flagF h HP_MBCTL_BUSY 0 || flagF h HP_MBCTL_BUSY 0x1000 || !h.mgmt.requests.isEmpty
  else if n = 22 then bitAt h.cluster.lines22 0 || bitAt h.cluster.lines22 1
  else if n ≤ 28 then (dieFaults h (n - 23) &&& getF h TH_FLMASK_MASK (inst (n - 23))) != 0
  else false

/-- Source `n` is enabled and routed to core `k` (R529). -/
def routed (h : Hw) (k n : Nat) : Bool := flagF h CC_IRT_ENA (4 * n) && getF h CC_IRT_CORE (4 * n) == k

/-- What CC_CLAIMk reads (R529). -/
def claim (h : Hw) (k : Nat) : Nat := ((List.range 32).find? (fun n => routed h k n && sourceHigh h n)).getD 63

/-- mip.MEIP of every core follows the sources (R529). -/
def updateLines (h : Hw) : Hw :=
  [0, 1, 2, 3].foldl (fun h k => onCore h k (fun c => { c with meip := decide (claim h k ≠ 63) })) h

/-- INTERRUPT_SOURCE_CHANGE (R528, R529): source `n` rises or falls. The level of the always-on island's timers (22) comes with it;
every other source is the level of the state that causes it. -/
def execInterruptSourceChange (n : Nat) (level : Bool) (s : State) : Res := s.run fun h =>
  updateLines (if n = 22 then onCluster h (fun c => { c with lines22 := putBit c.lines22 1 level }) else h)

/-- TIMER_COMPARE (R530): mip.MTIP of core `k` follows its compare. -/
def execTimerCompare (k : Nat) (s : State) : Res := s.run fun h =>
  if 4 ≤ k then h
  else
    let cmp := getF h CC_MTCMPL_CMP (8 * k) + 2 ^ 32 * getF h CC_MTCMPH_CMP (8 * k)
    onCore h k (fun c => { c with mtip := decide (cmp ≤ h.cluster.mtime) })

/-- CORE_REINITIALISE (R531): a U of core `k`. -/
def execCoreReinitialise (k : Nat) (s : State) : Res := s.run fun h => restartCore h k

end Sys2Proof.Machine
end

