-- ==== Sys2Proof/Machine/Formatter.lean ====
section
/-! DEFINITION. The formatter's micro-sequencer: requests, microwords, ports, interrupts, patches (R284-R321), and the sector timing
unit's wedge counter (R307). -/
namespace Sys2Proof.Machine

/-! Requests (R299-R301). -/

/-- HALT (R301): a request not yet completed ends with status 5. -/
def haltOp (h : Hw) (c : Nat) : Hw := endRoutine (completeRunning h c 5) c

/-- The sequencer halts by fault (R319). -/
def seqHalt (h : Hw) (c : Nat) : Hw :=
  let h := completeRunning h c 2
  let h := onFmt h c (fun f => { f with shadows := [], sq := [], reports := [] })
  setF (endRoutine (showStu h c) c) FM_MSTAT_FHALT (inst c) 1

/-- An illegal word (R319). -/
def illegalWord (h : Hw) (c : Nat) : Hw :=
  let h := addF (setF (seqHalt h c) FM_MIRQS_ILL (inst c) 1) FM_MCNT_COUNT (inst c + 12) 1
  raiseFault h (carPath c 0x310) 6 false

/-- The safe-point distance reaches 1,024 (R298). -/
def overrun (h : Hw) (c : Nat) : Hw :=
  let h := setF (setF (seqHalt h c) FM_MIRQS_OVR (inst c) 1) FM_MSTAT_OVR (inst c) 1
  raiseFault (addF h FM_MCNT_COUNT (inst c + 8) 1) (carPath c 0x310) 12 false

/-- Queue a request, at most 16 (R299). -/
def pushReq (h : Hw) (c : Nat) (r : FmReq) : Hw :=
  if (fm h c).queue.length < 16 then showReq (onFmt h c (fun f => { f with queue := f.queue ++ [r] })) c
  else if r.src then setF h FM_MIRQS_RQDROP (inst c) 1 else h

/-- FM_RQPUSH (R299): FM_RQW0-3 enter the queue. -/
def execFmRqpush (c : Nat) (s : State) : Res := s.run fun h =>
  if !(midUp h c) then h
  else
    let w := fun n => getF h FM_RQW_WORD (inst c + 4 * n)
    pushReq h c { opc := bits 31 24 (w 0), src := true, tag := bits 15 0 (w 0), w1 := w 1, w2 := w 2, w3 := w 3 }

/-- ENGINE_REQUEST_PUSH (R299, R446): over the hub-carriage link; the engine keeps at most eight requests in the queue. -/
def execEngineRequestPush (c opc tag w1 w2 w3 : Nat) (s : State) : Res := s.run fun h =>
  if midUp h c ∧ (fm h c).queue.countP (fun r => !r.src) < 8 then pushReq (submitTo h c) c { opc := opc % 256, src := false, tag := tag % 65536, w1 := w1 % 2 ^ 32, w2 := w2 % 2 ^ 32, w3 := w3 % 2 ^ 32 } else h

/-- The valid trap of a control-store address: the lowest index wins (R286). -/
def trapOf (f : Formatter) (a : Nat) : Option Nat :=
  ((List.range 32).find? (fun i => bitAt (zget f.cam i) 31 && bits 28 16 (zget f.cam i) == a)).map (fun i => bits 9 0 (zget f.cam i))

/-- No entry of the trap CAM is valid: the base microcode runs unpatched (R286). -/
def noTrap (f : Formatter) : Bool := (List.range 32).all (fun i => !(bitAt (zget f.cam i) 31))

/-- The lowest pending level. -/
def pendingLevel (h : Hw) (c : Nat) : Option Nat := (List.range 4).find? (fun n => bitAt (getF h FM_INT_PEND (inst c)) n)

/-- The level that is taken now (R303, R304): at a safe point, or with no routine running; in a handler of level 1, 2 or 3 only level 0. -/
def levelNow (h : Hw) (c : Nat) : Option Nat :=
  match pendingLevel h c with
  | some n =>
    let idle := flagF h FM_MSTAT_IDLE (inst c)
    let iact := flagF h FM_MSTAT_IACT (inst c)
    if !(midUp h c) ∨ flagF h FM_MSTAT_FHALT (inst c) ∨ !(fm h c).copied then none
    else if (idle || (fm h c).atSafe) && (!iact || (n == 0 && getF h FM_MSTAT_ILEV (inst c) != 0)) then some n
    else none
  | none => none

/-- Take level `n` (R303). -/
def takeLevel (h : Hw) (c n : Nat) : Hw :=
  let idle := flagF h FM_MSTAT_IDLE (inst c)
  let arg := match n with
    | 1 => (fm h c).argAbort
    | 2 => getF h FM_INTARG_ARG (inst c)
    | 3 => (fm h c).argFault
    | _ => 0
  let h := setF h FM_IRET_VALUE (inst c) (if idle then 0 else getF h FM_MSTAT_PC (inst c))
  let h := onFmt h c (fun f => { f with
    savedFlags := f.zero.toNat + 2 * f.neg.toNat + 4 * f.carry.toNat, entryDepth := f.stack.length, intArg := arg, waiting := false, spd := 0,
    atSafe := false, fromIdle := idle || (f.fromIdle && flagF h FM_MSTAT_IACT (inst c)), rom := if idle then noTrap f else f.rom })
  let h := setF (setF (setF (setF h FM_MSTAT_IACT (inst c) 1) FM_MSTAT_ILEV (inst c) n) FM_MSTAT_IDLE (inst c) 0) FM_MSTAT_PC (inst c) (0x1FC0 + 8 * n)
  let h := setF h FM_INT_PEND (inst c) (putBit (getF h FM_INT_PEND (inst c)) n false)
  let h := if n = 2 then setF h FM_INT_FWREQ (inst c) 0 else h
  addF h FM_MCNT_COUNT (inst c + 4) 1

/-- ROUTINE_START (R299, R300): the oldest request starts; an OPC that neither the base microcode nor a trap provides completes with
status 3. A pending interrupt is taken first (R303). A request of the command engine other than an adaptation read waits for the end of a
calibration step (R48). -/
def execRoutineStart (c : Nat) (s : State) : Res := s.run fun h =>
  let f := fm h c
  match f.queue with
  | [] => h
  | r :: rest =>
    if !(midUp h c) ∨ !f.copied ∨ !(flagF h FM_MCTL_RUN (inst c)) ∨ !(flagF h FM_MSTAT_IDLE (inst c)) ∨ flagF h FM_MSTAT_FHALT (inst c) then h
    else if (pendingLevel h c).isSome then takeLevel h c ((pendingLevel h c).getD 0)
    else if !r.src ∧ r.opc ≠ 7 ∧ (cal h c).step.isSome then submitTo h c
    else
      let h := onFmt h c (fun f => { f with queue := rest })
      if (1 ≤ r.opc ∧ r.opc ≤ 10) ∨ (trapOf f (r.opc * 8)).isSome then
        let h := onFmt h c (fun f => { f with
          running := some r, done := false, stack := [], spd := 0, waiting := false, atSafe := false
          rom := noTrap f, romStage := 0, romPushed := 0, romDone := 0, romPlaces := [] })
        showReq (setF (setF (setF h FM_MSTAT_IDLE (inst c) 0) FM_MSTAT_PC (inst c) (r.opc * 8)) FM_MSTAT_SDEPTH (inst c) 0) c
      else showReq (completeReq h c r 3 (getF h FM_PROG_VALUE (inst c))) c

/-! Action ports (R296). -/

/-- SQ_PUSH: the staged descriptor is queued. -/
def sqPush (h : Hw) (c : Nat) : Hw := pushDesc h c (fm h c).desc
/-- SIF_PUSH: command word and data word are sent as pushed; no bit of them is put in or changed, the parity P of R68 not either (DESIGN CHOICE,
log entry 96). -/
def sifPush (h : Hw) (c v : Nat) : Hw := queueFrame h c (bits 31 16 v) (bits 15 0 v)
def rptTake (h : Hw) (c : Nat) : Hw :=
  match (fm h c).reports with
  | r :: rest => showStu (onFmt h c (fun f => { f with taken := r, reports := rest })) c
  | [] => h
def sqFlush (h : Hw) (c : Nat) : Hw := showStu (onFmt h c (fun f => { f with sq := [] })) c
def sectReport (h : Hw) (c v : Nat) : Hw :=
  emit h (.engine c (match (fm h c).running with | some r => r.tag | none => 0) 0x100 v)
def defAdd (h : Hw) (c : Nat) : Hw :=
  let d := fun i => zget (fm h c).defs i
  addDefect h c { head := bits 7 0 (d 0), pend := bitAt (d 0) 8, reserve := bitAt (d 0) 9, landing := bitAt (d 0) 10, sect := bits 31 16 (d 0),
                  track := d 1, spare := d 2, cause := bits 7 0 (d 3) }
/-- The Landing index loses a destaged record (R271, R296). -/
def landIndexDrop (h : Hw) (c seq : Nat) : Hw :=
  onBuffer h (fun b => { b with landIndex := lset b.landIndex c ((lget b.landIndex c).filter (fun q => !(q == seq))) })

def action (h : Hw) (c port v : Nat) : Hw :=
  match port with
  | 0xC0 => sqPush h c
  | 0xC1 => sifPush h c v
  | 0xC2 => rptTake h c
  | 0xC3 => sqFlush h c
  | 0xC4 => completeRunning h c (v % 16)
  | 0xC5 => sectReport h c v
  | 0xC6 => setF h FM_MIRQS_USER (inst c) (getF h FM_MIRQS_USER (inst c) ||| v % 256)
  | 0xC7 => requestSeek h c (bits 31 29 v) (bits 23 0 v)
  | 0xC8 => defAdd h c
  | 0xC9 => landIndexDrop h c (zget (fm h c).g 14 + 2 ^ 32 * zget (fm h c).g 15)
  | _ => h

/-- SQ_PUSH, RPT_TAKE, SQ_FLUSH, DEFADD (R296): the action-port writes of a routine's safe point. -/
def execSqPush (c : Nat) (s : State) : Res := s.run fun h => if midUp h c then sqPush h c else h
def execRptTake (c : Nat) (s : State) : Res := s.run fun h => if midUp h c then rptTake h c else h
def execSqFlush (c : Nat) (s : State) : Res := s.run fun h => if midUp h c then sqFlush h c else h
def execDefadd (c : Nat) (s : State) : Res := s.run fun h => if midUp h c then defAdd h c else h
/-- SIF (R296, R313): `v` holds the command word and the data. -/
def execSif (c v : Nat) (s : State) : Res := s.run fun h => if midUp h c then sifPush h c v else h
/-- REQ_DONE (R301). -/
def execReqDone (c status : Nat) (s : State) : Res := s.run fun h => if midUp h c then completeRunning h c status else h
/-- SECT (R296). -/
def execSect (c v : Nat) (s : State) : Res := s.run fun h => if midUp h c then sectReport h c v else h
/-- FW_IRQ (R296). -/
def execFwIrq (c v : Nat) (s : State) : Res := s.run fun h => if midUp h c then action h c 0xC6 v else h
/-- SEEK (R344): the formatter's seek request. -/
def execSeek (c hd track : Nat) (s : State) : Res := s.run fun h => if midUp h c then requestSeek h c hd track else h
/-- LIDX (R271): the Landing index is updated for record `seq`. -/
def execLidx (c seq : Nat) (s : State) : Res := s.run fun h => if midUp h c then landIndexDrop h c seq else h

/-! The microword (R288-R298). -/

/-- Fields of a microword. -/
structure Word where
  next : Nat
  seq : Nat
  cond : Nat
  cpol : Bool
  safe : Bool
  cyc : Nat
  aop : Nat
  dst : Nat
  srca : Nat
  srcb : Nat
  bimm : Bool
  iop : Nat
  port : Nat
  lcop : Nat
  imm : Nat
  deriving DecidableEq, Repr

/-- R288. -/
def splitWord (w : Nat) : Word :=
  { next := bits 127 114 w, seq := bits 113 110 w, cond := bits 109 104 w, cpol := bitAt w 103, safe := bitAt w 102, cyc := bits 101 97 w,
    aop := bits 96 93 w, dst := bits 92 89 w, srca := bits 88 85 w, srcb := bits 84 81 w, bimm := bitAt w 80, iop := bits 79 76 w,
    port := bits 75 68 w, lcop := bits 67 64 w, imm := bits 63 32 w }

/-- A legal word (R288-R292, R296, R319). -/
def legalWord (w : Nat) : Bool :=
  let x := splitWord w
  bits 31 0 w == 0 && decide (x.seq < 12) && decide (x.aop < 14) && decide (x.iop < 4) && !(bitAt x.lcop 1) &&
  !(decide (2 ≤ x.iop) && decide (0xC0 ≤ x.port) && !x.safe) && !(x.seq == 9 && x.lcop / 4 != 0)

/-- The word at `a` with the address that execution continues from (R284-R286); none: no implemented or valid word. -/
def fetchWord (h : Hw) (c a : Nat) : Option (Nat × Nat) :=
  let f := fm h c
  let patchAt := fun i => (oget f.patch i).map (fun w => (0x2000 + i, w))
  if a < 0x2000 then
    match trapOf f a with
    | some i => patchAt i
    | none => some (a, Config.romWord a % 2 ^ 128)
  else if a < 0x2400 then patchAt (a - 0x2000)
  else none

/-- Conditions (R294). -/
def condValue (h : Hw) (c n : Nat) : Bool :=
  let f := fm h c
  match n with
  | 0 => true
  | 1 => f.zero
  | 2 => f.neg
  | 3 => f.carry
  | 4 => f.lc0 == 0
  | 5 => f.lc1 == 0
  | 6 => decide (4 ≤ f.sq.length)
  | 7 => f.sq.isEmpty && f.started.isEmpty
  | 8 => !f.reports.isEmpty
  | 9 => decide (4 ≤ untaken h c)
  | 10 => flagF h SV_STAT_ONTRK (inst c)
  | 11 => flagF h SV_STAT_WUNSAFE (inst c)
  | 12 => flagF h PA_FLT_PIN (inst c)
  | 13 => !f.sif.isEmpty || f.wire == some true
  | 14 => f.sifAck
  | 15 => !f.queue.isEmpty
  | 16 => decide (landFree h c < 131)
  | 17 => flagF h FM_SQSTAT_RUNOPEN (inst c)
  | 18 => f.wedge
  | 19 => f.ploss
  | _ => false

/-- G0 reads 0. -/
def gReg (f : Formatter) (n : Nat) : Nat := if n = 0 then 0 else zget f.g n

/-- One journal-staging word (R296). -/
def journalWord (f : Formatter) (a : Nat) : Nat :=
  (List.range 4).foldl (fun w i => w + zget f.journal ((a + i) % 65536) * 256 ^ i) 0

/-- What a port reads (R296). -/
def portIn (h : Hw) (c p : Nat) : Nat :=
  let f := fm h c
  match p with
  | 0x00 => match f.running with | some r => r.opc * 2 ^ 24 + r.src.toNat * 2 ^ 23 + r.tag | none => 0
  | 0x01 => match f.running with | some r => r.w1 | none => 0
  | 0x02 => match f.running with | some r => r.w2 | none => 0
  | 0x03 => match f.running with | some r => r.w3 | none => 0
  | 0x04 => f.intArg
  | 0x08 => f.taken.r0
  | 0x09 => f.taken.r1
  | 0x0A => f.taken.r2
  | 0x0B => f.taken.r3
  | 0x0C => getReg h (FM_BC + inst c)
  | 0x0D => getF h SV_POS_TRACK (inst c)
  | 0x0E => landFree h c
  | 0x40 => f.desc.w0
  | 0x41 => f.desc.w1
  | 0x42 => f.desc.w2
  | 0x44 => f.jaddr
  | 0x45 => journalWord f f.jaddr
  | 0x46 => zget f.defs 0
  | 0x47 => zget f.defs 1
  | 0x48 => zget f.defs 2
  | 0x49 => zget f.defs 3
  | 0x80 => getF h FM_PROG_VALUE (inst c)
  | 0x81 => getF h FM_MOUT_VALUE (inst c)
  | 0x82 => getF h FM_MOUT_VALUE (inst c + 4)
  | 0x83 => getF h FM_MOUT_VALUE (inst c + 8)
  | 0x84 => getF h FM_MOUT_VALUE (inst c + 12)
  | 0x88 => ltail h c
  | 0x89 => getF h FM_LSEQL_VALUE (inst c)
  | 0x8A => getF h FM_LSEQH_VALUE (inst c)
  | 0x8B => getF h FM_LDSEQL_VALUE (inst c)
  | 0x8C => getF h FM_LDSEQH_VALUE (inst c)
  | _ => 0

/-- JDATA moves on by 4 at each access. -/
def jdataStep (h : Hw) (c : Nat) : Hw := onFmt h c (fun f => { f with jaddr := (f.jaddr + 4) % 65536 })

/-- A write to a working or shadowed port (R296); input and unlisted ports ignore it. -/
def portOut (h : Hw) (c p v : Nat) : Hw :=
  match p with
  | 0x40 => onFmt h c (fun f => { f with desc := { f.desc with w0 := v } })
  | 0x41 => onFmt h c (fun f => { f with desc := { f.desc with w1 := v } })
  | 0x42 => onFmt h c (fun f => { f with desc := { f.desc with w2 := v } })
  | 0x44 => onFmt h c (fun f => { f with jaddr := v / 4 * 4 % 65536 })
  | 0x45 => jdataStep (onFmt h c (fun f => { f with
      journal := (List.range 4).foldl (fun m i => zset m ((f.jaddr + i) % 65536) (v / 256 ^ i % 256)) f.journal })) c
  | 0x46 => onFmt h c (fun f => { f with defs := zset f.defs 0 v })
  | 0x47 => onFmt h c (fun f => { f with defs := zset f.defs 1 v })
  | 0x48 => onFmt h c (fun f => { f with defs := zset f.defs 2 v })
  | 0x49 => onFmt h c (fun f => { f with defs := zset f.defs 3 v })
  | p => if (0x80 ≤ p ∧ p ≤ 0x84) ∨ (0x88 ≤ p ∧ p ≤ 0x8C) then onFmt h c (fun f => { f with shadows := f.shadows ++ [(p, v)] }) else h

/-- Commit one shadow (R297). -/
def commitShadow (h : Hw) (c p v : Nat) : Hw :=
  match p with
  | 0x80 => setF h FM_PROG_VALUE (inst c) v
  | 0x81 => setF h FM_MOUT_VALUE (inst c) v
  | 0x82 => setF h FM_MOUT_VALUE (inst c + 4) v
  | 0x83 => setF h FM_MOUT_VALUE (inst c + 8) v
  | 0x84 => setF h FM_MOUT_VALUE (inst c + 12) v
  | 0x88 => setF h FM_LTAIL_VALUE (inst c) v
  | 0x89 => setF h FM_LSEQL_VALUE (inst c) v
  | 0x8A => setF h FM_LSEQH_VALUE (inst c) v
  | 0x8B => setF h FM_LDSEQL_VALUE (inst c) v
  | 0x8C => setF h FM_LDSEQH_VALUE (inst c) v
  | _ => h

/-- The safe point: every shadow written since the last one is committed (R297). -/
def commitShadows (h : Hw) (c : Nat) : Hw :=
  onFmt ((fm h c).shadows.foldl (fun h p => commitShadow h c p.1 p.2) h) c (fun f => { f with shadows := [] })

/-- ALU result and carry (R290); `fresh` stands for the carry of a shift by 0, which the spec does not state. -/
def alu (op a b : Nat) (fresh : Bool) : Nat × Bool :=
  let m := 2 ^ 32
  let n := b % 32
  match op with
  | 1 => (a, false)
  | 2 => (b, false)
  | 3 => ((a + b) % m, decide (m ≤ a + b))
  | 4 => ((a + m - b) % m, decide (a < b))
  | 5 => (a &&& b, false)
  | 6 => (a ||| b, false)
  | 7 => (a ^^^ b, false)
  | 8 => (a * 2 ^ n % m, if n = 0 then fresh else bitAt a (32 - n))
  | 9 => (a / 2 ^ n, if n = 0 then fresh else bitAt a (n - 1))
  | 10 => ((a + 1) % m, decide (m ≤ a + 1))
  | 11 => ((a + m - b) % m, decide (a < b))
  | 12 => ((a + m - 1) % m, decide (a < 1))
  | 13 => (a &&& (m - 1 - b), false)
  | _ => (0, false)

/-- Operand A: the port under IN and INOUT, else the register (R289). -/
def operandA (h : Hw) (c : Nat) (w : Word) : Nat :=
  if w.iop = 1 ∨ w.iop = 3 then portIn h c w.port else gReg (fm h c) w.srca

/-- Steps 1-5 of R289: result, flags, register, working or shadowed port, loop counter. The result comes with the state. -/
def wordEffects (h : Hw) (c : Nat) (w : Word) : Hw × Nat :=
  let a := operandA h c w
  let b := if w.bimm then w.imm else gReg (fm h c) w.srcb
  let shift0 := (w.aop == 8 || w.aop == 9) && b % 32 == 0
  let fresh := Config.freeNat h.freeCtr % 2 == 1
  let h := if shift0 then drawn h else h
  let (r, carry) := alu w.aop a b fresh
  let h := if (w.iop = 1 ∨ w.iop = 3) ∧ w.port = 0x45 then jdataStep h c else h
  let h := if w.aop = 0 then h else onFmt h c (fun f => { f with zero := r == 0, neg := bitAt r 31, carry := carry })
  let h := if w.aop = 0 ∨ w.aop = 11 ∨ w.dst = 0 then h else onFmt h c (fun f => { f with g := zset f.g w.dst r })
  let h := if 2 ≤ w.iop ∧ w.port < 0xC0 then portOut h c w.port r else h
  let sel := bitAt w.lcop 0
  let count := fun (f : Formatter) => if sel then f.lc1 else f.lc0
  let put := fun (f : Formatter) (v : Nat) => if sel then { f with lc1 := v } else { f with lc0 := v }
  let h := match w.lcop / 4 with
    | 1 => onFmt h c (fun f => put f (w.imm % 65536))
    | 2 => onFmt h c (fun f => put f (r % 65536))
    | 3 => onFmt h c (fun f => put f (count f - 1))
    | _ => h
  (h, r)

/-- What follows a word (R292): the next address, the end of the routine, a return from a handler, or an illegal word. -/
inductive Next where
  | go (a : Nat)
  | halt
  | iret
  | illegal
  deriving DecidableEq, Repr

/-- Push the return address (R293). -/
def pushStack (h : Hw) (c pc target : Nat) : Hw × Next :=
  if 8 ≤ (fm h c).stack.length then (h, .illegal)
  else (onFmt h c (fun f => { f with stack := ((pc + 1) % 2 ^ 14) :: f.stack }), .go target)

/-- Pop it (R293). -/
def popStack (h : Hw) (c : Nat) : Hw × Next :=
  match (fm h c).stack with
  | a :: rest => (onFmt h c (fun f => { f with stack := rest }), .go a)
  | [] => (h, .illegal)

/-- The next-address operation (R292). -/
def sequence (h : Hw) (c pc : Nat) (w : Word) (cond : Bool) (r : Nat) : Hw × Next :=
  let fall := Next.go ((pc + 1) % 2 ^ 14)
  match w.seq with
  | 0 => (h, fall)
  | 1 => (h, .go w.next)
  | 2 => (h, if cond then .go w.next else fall)
  | 3 => pushStack h c pc w.next
  | 4 => if cond then pushStack h c pc w.next else (h, fall)
  | 5 => popStack h c
  | 6 => if cond then popStack h c else (h, fall)
  | 7 => (h, fall)
  | 8 => (h, .go ((w.next + r % 16) % 2 ^ 14))
  | 9 =>
    let sel := bitAt w.lcop 0
    let n := if sel then (fm h c).lc1 else (fm h c).lc0
    if n = 0 then (h, fall)
    else (onFmt h c (fun f => if sel then { f with lc1 := n - 1 } else { f with lc0 := n - 1 }), .go w.next)
  | 10 => (h, .halt)
  | 11 => (h, .iret)
  | _ => (h, .illegal)

/-- A bad IRET (R304, R319): outside a handler, in that of level 0, or at another stack depth than at entry. -/
def badIret (h : Hw) (c : Nat) : Bool :=
  !(flagF h FM_MSTAT_IACT (inst c)) || getF h FM_MSTAT_ILEV (inst c) == 0 || (fm h c).stack.length != (fm h c).entryDepth

/-- IRET (R303, R304): flags restored, execution resumes at FM_IRET; a handler taken with no routine running ends. -/
def iretOp (h : Hw) (c : Nat) : Hw :=
  if badIret h c then illegalWord h c
  else
    let h := setF h FM_MSTAT_IACT (inst c) 0
    if (fm h c).fromIdle then endRoutine h c
    else
      let h := onFmt h c (fun f => { f with zero := bitAt f.savedFlags 0, neg := bitAt f.savedFlags 1, carry := bitAt f.savedFlags 2 })
      setF h FM_MSTAT_PC (inst c) (getF h FM_IRET_VALUE (inst c) % 2 ^ 14)

/-- A routine or handler runs and is not held. -/
def sequencing (h : Hw) (c : Nat) : Bool :=
  midUp h c && !(flagF h FM_MSTAT_IDLE (inst c)) && !(flagF h FM_MSTAT_FHALT (inst c)) && !(fm h c).held

/-- The selected condition after CPOL (R292). -/
def wordCond (h : Hw) (c : Nat) (w : Word) : Bool := condValue h c w.cond != w.cpol

/-- Cycles of the safe-point distance at which word `w` ends (R295, R298): a SAFE word ends by resetting the counter, so that its last cycle does
not count. -/
def wordEnd (h : Hw) (c : Nat) (w : Word) : Nat := (fm h c).spd + w.cyc + (!w.safe).toNat

/-- Execute word `w`, fetched for address `pc` (R289, R297, R298): the condition is that after the word's own effects, but for a WAIT word, whose
condition holds. The counter may reach 1,024 before the word's last cycle, in which its effects happen, or in it. -/
def executeWord (h : Hw) (c pc : Nat) (w : Word) : Hw :=
  let h := onFmt h c (fun f => { f with waiting := false })
  let last : Bool := decide (1024 ≤ wordEnd h c w)
  if 1024 ≤ (fm h c).spd + w.cyc then overrun h c
  else
    let (h, r) := wordEffects h c w
    let cond := w.seq == 7 || wordCond h c w
    let h := onFmt h c (fun f => { f with wedge := if w.cond = 18 then false else f.wedge })
    let (h, nx) := sequence h c pc w cond r
    if nx = .illegal ∨ (nx = .iret ∧ badIret h c) then illegalWord h c
    else
      let h :=
        if w.safe then
          let h := commitShadows h c
          let h := if 2 ≤ w.iop ∧ 0xC0 ≤ w.port then action h c w.port r else h
          onFmt h c (fun f => { f with spd := 0, atSafe := true, held := !(flagF h FM_MCTL_RUN (inst c)) })
        else onFmt h c (fun f => { f with spd := f.spd + w.cyc + 1, atSafe := false })
      let h := setF h FM_MSTAT_SDEPTH (inst c) (fm h c).stack.length
      if last then overrun h c
      else match nx with
        | .go a => setF h FM_MSTAT_PC (inst c) a
        | .halt => haltOp h c
        | _ => iretOp h c

/-- One microword at the present address: a WAIT word whose condition does not hold waits (R292, R298). -/
def stepWord (h : Hw) (c : Nat) : Hw :=
  match fetchWord h c (getF h FM_MSTAT_PC (inst c)) with
  | none => illegalWord h c
  | some (pc, raw) =>
    if !(legalWord raw) then illegalWord h c
    else
      let w := splitWord raw
      if w.seq = 7 ∧ !(wordCond h c w) then
        let h := onFmt h c (fun f => { f with waiting := true, wedge := if w.cond = 18 then false else f.wedge, spd := if w.safe then 0 else f.spd + 1,
                                              atSafe := w.safe, held := w.safe && !(flagF h FM_MCTL_RUN (inst c)) })
        if 1024 ≤ (fm h c).spd then overrun h c else h
      else executeWord h c pc w

/-- The waiting word acts once its condition holds (R292). -/
def stepWait (h : Hw) (c : Nat) : Hw :=
  match fetchWord h c (getF h FM_MSTAT_PC (inst c)) with
  | some (pc, raw) =>
    let w := splitWord raw
    if wordCond h c w then executeWord h c pc w else h
  | none => h

/-- HALT (R301). -/
def execHalt (c : Nat) (s : State) : Res := s.run fun h => if sequencing h c then haltOp h c else h

/-- IRET (R303). -/
def execIret (c : Nat) (s : State) : Res := s.run fun h => if sequencing h c then iretOp h c else h

/-- The safe-point distance reaches 1,024 in the present word (R298): it waits and is no safe point, or its cycles reach that count. -/
def overrunDue (h : Hw) (c : Nat) : Bool :=
  match fetchWord h c (getF h FM_MSTAT_PC (inst c)) with
  | some (_, raw) => let w := splitWord raw; (w.seq == 7 && !w.safe && !(wordCond h c w)) || decide (1024 ≤ wordEnd h c w)
  | none => false

/-- SAFE_POINT_OVERRUN (R298): the counter reaches 1,024 in the present word. -/
def execSafePointOverrun (c : Nat) (s : State) : Res := s.run fun h =>
  if sequencing h c ∧ !(fm h c).rom ∧ overrunDue h c then overrun h c else h

/-! Interrupts (R302-R306). -/

/-- FORMATTER_INTERRUPT_TAKEN (R303, R304). -/
def execFormatterInterruptTaken (c : Nat) (s : State) : Res := s.run fun h =>
  match levelNow h c with
  | some n => takeLevel h c n
  | none => h

/-- FORMATTER_ABORT (R302, R305): a queued request is removed with status 1, the running one raises level 1, any other is not
found. -/
def execFormatterAbort (c tag : Nat) (s : State) : Res := s.run fun h =>
  if !(midUp h c) then h
  else match (fm h c).queue.find? (fun r => !r.src && r.tag == tag) with
    | some r =>
      let h := onFmt h c (fun f => { f with queue := f.queue.filter (fun q => !(!q.src && q.tag == tag)) })
      showReq (completeReq h c r 1 0) c
    | none =>
      match (fm h c).running with
      | some r => if r.tag = tag ∧ !(fm h c).done then pendLevel (onFmt h c (fun f => { f with argAbort := tag })) c 1 else emit h (.engine c tag 0x200 0)
      | none => emit h (.engine c tag 0x200 0)

/-- FWREQ (R302): FM_INT.FWREQ is written 1. -/
def execFwreq (c : Nat) (s : State) : Res := s.run fun h => if midUp h c then pendLevel (setF h FM_INT_FWREQ (inst c) 1) c 2 else h

/-- RUN_CLEAR (R306): the sequencer holds at its next safe point, at once in a waiting safe word. -/
def execRunClear (c : Nat) (s : State) : Res := s.run fun h =>
  if midUp h c then
    onFmt (setF h FM_MCTL_RUN (inst c) 0) c (fun f => { f with held := f.held || (f.atSafe && (f.waiting || f.spd == 0) && !(flagF h FM_MSTAT_IDLE (inst c))) })
  else h

/-- RUN is set again (R306). -/
def setRun (h : Hw) (c : Nat) : Hw := onFmt (setF h FM_MCTL_RUN (inst c) 1) c (fun f => { f with held := false })

/-! Stores and patches (R285, R286, R315-R318). -/

/-- Invalidate patch RAM and the CAM. -/
def dropPatch (h : Hw) (c : Nat) : Hw := onFmt h c (fun f => { f with patch := [], cam := [] })

/-- CONTROL_STORE_COPY_DONE (R285): the copy has ended and the FM bridge clears FAR. -/
def execControlStoreCopyDone (c : Nat) (s : State) : Res := s.run fun h =>
  if midUp h c then setF (onFmt h c (fun f => { f with copied := true })) FM_BRG_FAR (inst c) 0 else h

/-- PATCH_LOAD_START (R317): FM_PLOAD.START lands. In a start it is the patch load of stage 0x06 (R106, R115). -/
def execPatchLoadStart (c : Nat) (s : State) : Res := s.run fun h =>
  if !(midUp h c) then h
  else if flagF h FM_MCTL_RUN (inst c) ∨ !(flagF h FM_MSTAT_IDLE (inst c)) ∨ getF h FM_PSTAT_STATE (inst c) = 1 then
    setF (setF h FM_PSTAT_FAIL (inst c) 6) FM_MIRQS_PLFAIL (inst c) 1
  else
    let h := setF (setF (dropPatch h c) FM_PSTAT_STATE (inst c) 1) FM_PSTAT_FAIL (inst c) 0
    if getF h PW_BOOT_STAGE 0 = 5 then setF h PW_BOOT_STAGE 0 6 else h

/-- The content of a patch image (R315): trap entries and microwords. -/
structure PatchImage where
  traps : List Nat
  words : List Nat
  deriving DecidableEq, Repr

/-- NWORDS of the image that the loader of carriage `c` reads. -/
def patchWords (h : Hw) (c : Nat) : Nat := memWord h (patchAddress h c + 0x10) 2

/-- The image decrypted under the patch key of its base version, its header the additional data (R315, R316); none: TAG does not
verify. -/
def openPatch (h : Hw) (c : Nat) : Option PatchImage :=
  let a := patchAddress h c
  let n := patchWords h c
  (gcmOpen (patchKey (memWord h (a + 0xC) 4)) (memBytes h (a + 0x14) 12) (memBytes h a 0x60) (memBytes h (a + 0xC0) (128 + 16 * n))
    (memWord h (a + 0xC0 + 128 + 16 * n) 16)).map (fun l => ⟨numbersOf 4 32 l, numbersOf 16 n (l.drop 128)⟩)

/-- A trap entry has a bit set that must be 0 (R315). -/
def trapReserved (p : PatchImage) : Bool := p.traps.any (fun t => bits 30 29 t != 0 || bits 15 10 t != 0)

/-- A valid trap names a word not below NWORDS. -/
def trapBad (n : Nat) (p : PatchImage) : Bool := p.traps.any (fun t => bitAt t 31 && decide (n ≤ bits 9 0 t))

/-- What a patch load comes to (R317): the image, or the FAIL code. `readable`: no uncorrectable error met the read. -/
def patchResult (h : Hw) (c : Nat) (readable : Bool) : Nat ⊕ PatchImage :=
  let a := patchAddress h c
  let n := patchWords h c
  if !readable || a % 64 != 0 || regionOf a != some 2 || regionOf (a + 0xC0 + 128 + 16 * n + 15) != some 2 then .inl 5
  else if memWord h a 4 ≠ 0x5046564A ∨ memWord h (a + 4) 2 ≠ 1 ∨ memWord h (a + 6) 2 ≠ 0 ∨ memWord h (a + 0x12) 2 ≠ 0 ∨ memWord h (a + 8) 4 = 0 ∨
      (memBytes h (a + 0x20) 64).any (fun b => b != 0) then .inl 1
  else if memWord h (a + 0xC) 4 ≠ getF h FM_BVER_BVER (inst c) then .inl 2
  else if n = 0 ∨ 1024 < n then .inl 4
  else match openPatch h c with
    | none => .inl 3
    | some p => if trapReserved p then .inl 1 else if trapBad n p then .inl 4 else .inr p

/-- A patch of a start is rejected (R106): it is loaded once more; the second rejection fences the carriage with failure 0x09. -/
def patchRejected (h : Hw) (c : Nat) : Hw :=
  if getF h PW_BOOT_STAGE 0 = 6 then
    let h := onBoot h (fun b => { b with patchFails := zadd b.patchFails c 1 })
    if zget h.boot.patchFails c = 2 then startFail h 0x09 (carPath c 0) else h
  else h

/-- PATCH_LOAD_DONE (R317). -/
def execPatchLoadDone (c : Nat) (readable : Bool) (s : State) : Res := s.run fun h =>
  if !(midUp h c) ∨ getF h FM_PSTAT_STATE (inst c) ≠ 1 then h
  else match patchResult h c readable with
    | .inr p =>
      let h := onFmt h c (fun f => { f with
        patch := (p.words.zipIdx).foldl (fun m q => oset m q.2 (some q.1)) []
        cam := (p.traps.zipIdx).foldl (fun m q => zset m q.2 q.1) [] })
      let h := setF (setF h FM_PVER_PVER (inst c) (patchVersion h c)) FM_PSTAT_STATE (inst c) 2
      setF h FM_MIRQS_PLDONE (inst c) 1
    | .inl fail =>
      let h := setF (setF (setF (dropPatch h c) FM_PVER_PVER (inst c) 0) FM_PSTAT_STATE (inst c) 3) FM_PSTAT_FAIL (inst c) fail
      patchRejected (setF h FM_MIRQS_PLFAIL (inst c) 1) c

/-- FORMATTER_REINITIALISE (R320): a U of 0xd310 or 0xd300, or a fence of the carriage. -/
def execFormatterReinitialise (c : Nat) (s : State) : Res := s.run fun h => if populated h c then stopFormatter h c else h

/-! The wedge counter (R307). -/

/-- NBP in force: that of the sector in progress, else that of R199 for the present zone (R307). -/
def gateNbp (h : Hw) (c : Nat) : Nat :=
  match (ch h c).cur with
  | some x => x.nbp
  | none => chNbp h c (match trackZone h c (getF h FM_SQSTAT_SELHEAD (inst c)) (getF h SV_POS_TRACK (inst c)) with
    | some z => z.zbp
    | none => getF h CH_ZBP_ZBP (inst c))

/-- SERVO_GATE_RISE (R307, R206, R259): BC has reached BPW. CAc_SG rises; WG has fallen 16 bits before. -/
def execServoGateRise (c : Nat) (s : State) : Res := s.run fun h =>
  if !(midUp h c) then h
  else
    let h := setF (setF h FM_BC_BC (inst c) 0) FM_BC_WEDGE (inst c) ((getF h FM_BC_WEDGE (inst c) + 1) % 640)
    let early : Int := -((16 * gateNbp h c * 250 / 2 ^ 20 : Nat) : Int)
    let h := sendGate (sendGate h c 2 (path h c).wg false early) c 3 (path h c).sg true 0
    onFmt (onPath h c (fun p => { p with sg := true, wg := false })) c (fun f => { f with wedge := true })

/-- SERVO_ADDRESS_MARK (R307): BC, which stood at `bc`, is corrected to SAMB; more than 32 bits ends a write sector. -/
def execServoAddressMark (c bc : Nat) (s : State) : Res := s.run fun h =>
  if !(midUp h c) then h
  else
    let target := getF h FM_SGT_SAMB (inst c)
    let h := setF h FM_BC_BC (inst c) target
    if target + 32 < bc ∨ bc + 32 < target then inhibitWrite (onFmt h c (fun f => { f with bigCorrections := f.bigCorrections + 1 })) c else h

end Sys2Proof.Machine
end

