-- ==== Sys2Proof/Machine/Dma.lean ====
section
/-! DEFINITION. The DMA engine: channels, carts, beats, records, bells, halts (R488-R503). -/
namespace Sys2Proof.Machine

/-! Carts (R489-R494). -/

/-- The cart at an address as the engine reads it (R489). -/
def cartAt (h : Hw) (a : Nat) : Cart :=
  let w := fun o n => memWord h (a + o) n
  { src := w 0 8, dst := w 8 8, len := w 0x10 4, ctl := w 0x14 4, idx := w 0x18 8, nidx := w 0x20 4, esz := w 0x24 4,
    tag := w 0x28 8, link := w 0x30 8, clean := w 0x38 8 == 0 && bits 5 1 (w 0x30 8) == 0 && w 0x14 4 / 16 == 0 }

def cartMode (c : Cart) : Nat := c.ctl / 4 % 4
/-- The cart writes a record when it ends (REC, or IRQ, which implies it). -/
def cartRec (c : Cart) : Bool := bitAt c.ctl 0 || bitAt c.ctl 1

/-- A range lies within one region (R490). -/
def inOneRegion (a n : Nat) : Bool := regionOf a != none && regionOf a == regionOf (a + n - 1)

/-- R490: the cart is bad. -/
def badCart (c : Cart) : Bool :=
  let m := cartMode c
  let table : Bool := m == 1 || m == 2
  !c.clean || c.len % 64 != 0 || decide (c.len < 64) || decide (16777216 < c.len) ||
  (m != 3 && c.src % 64 != 0) || c.dst % 64 != 0 || c.idx % 64 != 0 ||
  (table && (c.esz % 64 != 0 || c.esz == 0 || c.nidx == 0 || decide (65536 < c.nidx) || c.nidx * c.esz != c.len)) ||
  (!table && (c.idx != 0 || c.nidx != 0 || c.esz != 0)) ||
  (m != 1 && !(inOneRegion c.dst c.len)) || ((m == 0 || m == 1) && !(inOneRegion c.src c.len))

/-- A link word leads to a next cart (R494 step 2). -/
def linkNext (w : Nat) : Option Nat := if w % 2 = 0 ∧ w / 64 * 64 ≠ 0 then some (w / 64 * 64) else none

/-- Start the cart at `a` on channel `n` (R494, R490): it is read with one 64-byte read. The count that an unreadable cart leaves is
open: a free value. -/
def startCart (h : Hw) (n a : Nat) : Hw :=
  let h := setCur (onDma h n (fun c => { c with cart := none, lastBeat := none, after := .nothing, again := none })) n a
  let h := setF h DM_IDX_IDX (dmd n) 0
  match accessStatus h a 2 true with
  | some st => endBad (drawn (setF h DM_CNT_CNT (dmd n) (Config.freeNat h.freeCtr))) n st a
  | none =>
    let c := cartAt h a
    let h := setF (onDma h n (fun x => { x with cart := some c })) DM_CNT_CNT (dmd n) c.len
    if badCart c then endBad h n 4 a else h

/-- A channel takes a write of DM_CTRL (R488, R493). -/
def controlRefused (h : Hw) (n : Nat) (byEngine : Bool) : Bool :=
  (decide (n < 8) && !byEngine) || dmState h n == 6 || halted h

/-- START 1, FROM 0 (R493). -/
def startCoach (h : Hw) (n : Nat) : Hw :=
  let st := dmState h n
  if st = 1 ∨ st = 2 then h
  else
    let a := getF h DM_COACHL_ADDR (dmd n) / 64 * 64 + 2 ^ 32 * getF h DM_COACHH_ADDR (dmd n)
    startCart (setF (enterState h n 1) DM_CTRL_START (dmd n) 1) n a

/-- START 1, FROM 1 (R493): the stopped cart continues by the copy read when it started; one that could not be read is read
again. -/
def resumeCart (h : Hw) (n : Nat) : Hw :=
  let st := dmState h n
  if st = 1 ∨ st = 2 then h
  else if st = 0 then startCoach h n
  else
    let h := onDma (setF (enterState h n 1) DM_CTRL_START (dmd n) 1) n (fun c => { c with after := .nothing })
    match (dmaCh h n).cart with
    | some c => if badCart c then endBad h n 4 (dmCur h n) else h
    | none => startCart h n (dmCur h n)

/-- DM_CTRL_START, DM_CTRL_RESUME, DM_CTRL_STOP (R493): a landed write of a channel's DM_CTRL, by firmware or by the command
engine. -/
def execDmCtrlStart (n : Nat) (byEngine : Bool) (s : State) : Res := s.run fun h =>
  if 32 ≤ n then h else if controlRefused h n byEngine then refuseDma h else startCoach h n
def execDmCtrlResume (n : Nat) (byEngine : Bool) (s : State) : Res := s.run fun h =>
  if 32 ≤ n then h else if controlRefused h n byEngine then refuseDma h else resumeCart h n
def execDmCtrlStop (n : Nat) (byEngine : Bool) (s : State) : Res := s.run fun h =>
  if 32 ≤ n then h else if controlRefused h n byEngine then refuseDma h else stopChannel h n

/-- The engine reads a Parked channel's link word again (R494). -/
def rereadLink (h : Hw) (n : Nat) : Hw :=
  let a := dmCur h n
  match accessStatus h a 2 true with
  | some st => endBad (setF (enterState h n 1) DM_STAT_BELLP (dmd n) 0) n st a
  | none =>
    let h := setF h DM_STAT_BELLP (dmd n) 0
    match linkNext (memWord h (a + 0x30) 8) with
    | some b => startCart (enterState h n 1) n b
    | none => h

/-- A bell rings a channel (R494). -/
def ring (h : Hw) (n : Nat) : Hw :=
  match dmState h n with
  | 1 => setF h DM_STAT_BELLP (dmd n) 1
  | 2 => if halted h then setF h DM_STAT_BELLP (dmd n) 1 else rereadLink h n
  | _ => h

/-- DM_BELL (R494): a landed write. -/
def execDmBell (data : Nat) (s : State) : Res := s.run fun h =>
  (List.range 32).foldl (fun h n => if bitAt data n then ring h n else h) h

/-- CART_START (R494): the cart that a link led to starts once the records before it are written. -/
def execCartStart (n : Nat) (s : State) : Res := s.run fun h =>
  if dmState h n = 1 ∧ (dmaCh h n).waiting = [] ∧ !(halted h) then
    match (dmaCh h n).after with
    | .start a => startCart h n a
    | _ => h
  else h

/-- Source and destination of byte `i` of a cart whose element's offset is `off` (R491); a fill has no source address. -/
def beatPlace (c : Cart) (i off : Nat) : Nat × Nat :=
  match cartMode c with
  | 1 => (c.src + 64 * off + i % c.esz, c.dst + i)
  | 2 => (c.src + i, c.dst + 64 * off + i % c.esz)
  | _ => (c.src + i, c.dst + i)

/-- Move one beat from `i` (R492). -/
def moveBeat (h : Hw) (n : Nat) (c : Cart) (i off : Nat) : Hw :=
  let (src, dst) := beatPlace c i off
  let fill : Bool := cartMode c == 3
  let slot := if n < 8 then (dmaCh h n).slot else none
  let foreign : Bool := match slot with
    | some k => (!fill && notOwned h k src) || notOwned h k dst
    | none => false
  if foreign then ownershipFault h (slot.getD 0)
  else
    match (if fill then none else accessStatus h src 2 true) with
    | some st => endBad h n st src
    | none =>
      match accessStatus h dst 3 false with
      | some st => endBad h n st dst
      | none =>
        let data := if fill then (List.range 64).map (fun j => (leBytes 8 c.src).getD (j % 8) 0) else memBytes h src 64
        let h := putBeat h dst data
        let h := setF h DM_CNT_CNT (dmd n) (c.len - i - 64)
        let h := onDma h n (fun x => { x with lastBeat := some dst })
        if cartMode c = 1 ∨ cartMode c = 2 then setF h DM_IDX_IDX (dmd n) ((i + 64) / c.esz) else h

/-- DMA_BEAT (R491, R492): the next beat of channel `n`; at each element of a gather or scatter its offset is read and the element
checked. -/
def execDmaBeat (n : Nat) (s : State) : Res := s.run fun h =>
  if dmState h n ≠ 1 ∨ halted h ∨ (dmaCh h n).waiting ≠ [] ∨ (dmaCh h n).after ≠ .nothing ∨ !(domainUp h 4) then h
  else
    match (dmaCh h n).cart with
    | none => h
    | some c =>
      let i := c.len - getF h DM_CNT_CNT (dmd n)
      if c.len ≤ i then h
      else if cartMode c = 1 ∨ cartMode c = 2 then
        let at' := c.idx + 4 * (i / c.esz)
        match accessStatus h at' 2 true with
        | some st => endBad h n st at'
        | none =>
          let off := memWord h at' 4
          let base := (if cartMode c = 1 then c.src else c.dst) + 64 * off
          if inOneRegion base c.esz then moveBeat h n c i off else endBad h n 5 base
      else moveBeat h n c i 0

/-- CART_END (R494, R496): a cart with nothing left to move ends. -/
def execCartEnd (n : Nat) (s : State) : Res := s.run fun h =>
  if dmState h n ≠ 1 ∨ halted h ∨ (dmaCh h n).waiting ≠ [] ∨ (dmaCh h n).after ≠ .nothing ∨ getF h DM_CNT_CNT (dmd n) ≠ 0 then h
  else
    match (dmaCh h n).cart with
    | none => h
    | some c =>
      let a := dmCur h n
      let reread := flagF h DM_STAT_BELLP (dmd n)
      match (if reread then accessStatus h a 2 true else none) with
      | some st => endBad (setF h DM_STAT_BELLP (dmd n) 0) n st a
      | none =>
        let link := if reread then memWord h (a + 0x30) 8 else c.link
        let h := onDma (setF h DM_STAT_BELLP (dmd n) 0) n (fun x => { x with cart := some { c with link := link } })
        let next := linkNext link
        if cartRec c || next.isNone then
          let (h, bad) := readBack h n
          match bad with
          | some (st, b) => endBad h n st b
          | none => queueRecord h n (recordOf h n 0) (match next with | some b => .start b | none => .park)
        else onDma h n (fun x => { x with after := match next with | some b => .start b | none => .park })

/-- DMA_RECORD_WRITE (R498, R499). -/
def execDmaRecordWrite (n : Nat) (s : State) : Res := s.run fun h => writeRecord h n

/-- DMA_BUS_ERROR (R500): a beat of Running channel `n` ends with status 2 or 3 at address `a`. -/
def execDmaBusError (n st a : Nat) (s : State) : Res := s.run fun h =>
  if dmState h n = 1 ∧ (st = 2 ∨ st = 3) ∧ (regionOf a = none ∨ beatBad h a) then busError h n st a else h

/-- The command engine takes up its own channels after a halt (R501): Halted ones resume; one that erred ends its command and
starts at the next cart of its coach. -/
def engineResume (h : Hw) (n : Nat) : Hw :=
  if dmState h n = 5 then resumeCart h n
  else if dmState h n = 4 then
    match (dmaCh h n).slot with
    | some k =>
      let ea := getF h DM_EADDRL_ADDR 0 + 2 ^ 32 * getF h DM_EADDRH_ADDR 0
      let source : Bool := getF h DM_STAT_LSTAT (dmd n) == 2 && regionOf ea != none
      let st := if source && n % 2 == 1 then stReadError else stTransfer
      let h := fail h k st
      match ((dmaCh h n).cart.bind (fun c => linkNext c.link)) with
      | some a => startCart (setF (enterState h n 1) DM_CTRL_START (dmd n) 1) n a
      | none => enterState h n 0
    | none => h
  else h

/-- DMA_HALT_CLEAR (R501): 1 is written to DM_GSTAT.HALT. -/
def execDmaHaltClear (s : State) : Res := s.run fun h =>
  if !(halted h) then h
  else
    let h := setF h DM_GSTAT_HALT 0 0
    let h := (List.range 32).foldl (fun h n => if dmState h n = 2 ∧ flagF h DM_STAT_BELLP (dmd n) then rereadLink h n else h) h
    (List.range 8).foldl engineResume h

/-- DM_RQCFG_WRITE (R499): taken only on an Idle channel. -/
def execDmRqcfgWrite (n data : Nat) (byEngine : Bool) (s : State) : Res := s.run fun h =>
  if 32 ≤ n then h
  else if n < 8 ∧ !byEngine then refuseDma h
  else if dmState h n ≠ 0 then h
  else
    let h := setF (setF h DM_RQCFG_RQSZ (dmd n) (bits 3 0 data)) DM_RQTAIL_TAIL (dmd n) 0
    onDma h n (fun c => { c with phase := true })

/-- DMA_CHANNEL_REINITIALISE (R502): a U of channel `n`, or of the whole engine (none), which also clears HALT and issues the moves of channels
0-7 again. -/
def execDmaChannelReinitialise (ch : Option Nat) (s : State) : Res := s.run fun h =>
  match ch with
  | some n => if n < 32 then stopDma h n else h
  | none => unitStop ((List.range 32).foldl stopDma h) 0x15F0

end Sys2Proof.Machine
end

