-- ==== Sys2Proof/Machine/Sessions.lean ====
section
/-! DEFINITION. Sessions and the bulk window: roles, falling back, claims and releases, leases (R147-R150, R185-R193). -/
namespace Sys2Proof.Machine

/-- Session `n`, and a change of it. -/
def session (h : Hw) (n : Nat) : Session := mget (fun _ => {}) h.dict.sessions n
def onSession (h : Hw) (n : Nat) (f : Session → Session) : Hw :=
  onDict h (fun d => { d with sessions := mset (fun _ => {}) d.sessions n (f (mget (fun _ => {}) d.sessions n)) })

/-- Sessions of the control cores (R173), of BAR2, of Quablink. -/
def isCoreSession (n : Nat) : Bool := decide (0x410 ≤ n ∧ n ≤ 0x413)
def isBarSession (n : Nat) : Bool := n == 0x400 || n == 0x401
def isLinkSession (n : Nat) : Bool := decide (n ≤ 0x3FF)

/-- The role a session holds (R147, R148). -/
def roleOf (h : Hw) (n : Nat) : Nat := if isCoreSession n then (if isSealed h then 2 else 3) else (session h n).role

/-! Sections (R186): 0 Free, 1 Held, 2 Device, 3 Clearing. -/

def secState (h : Hw) (n : Nat) : Nat := getF h MG_BWS_STATE (4 * n)
def secOwner (h : Hw) (n : Nat) : Nat := getF h MG_BWS_OWNER (4 * n)
def setSec (h : Hw) (n st owner : Nat) : Hw := setF (setF h MG_BWS_STATE (4 * n) st) MG_BWS_OWNER (4 * n) owner

/-- Sections of a session in a given state. -/
def sections (h : Hw) (sess st : Nat) : List Nat := (List.range 8).filter (fun n => secOwner h n == sess && secState h n == st)

/-- A section goes to Clearing; it has no owner from then on (R186, R194). -/
def clearSection (h : Hw) (n : Nat) : Hw :=
  onMgmt (setSec h n 3 0xFFFF) (fun m => { m with windowCause := putBit m.windowCause n false })

/-- Release every Held section of a session. -/
def releaseHeld (h : Hw) (sess : Nat) : Hw := (sections h sess 1).foldl clearSection h

/-- A session falls back to Observer (R150): it loses its role, challenge, subscriptions and claims; a release of sections by this is
counted and recorded (R192); sections in state Device wait for the end of their operation. The twin's session never falls back (R566). -/
def fallBack (h : Hw) (sess : Nat) : Hw :=
  if isCoreSession sess ∨ sess = 0x420 then h
  else
    let held := sections h sess 1
    let h := onDict h (fun d => { d with subs := d.subs.filter (fun s => !(s.session == sess)) })
    let h := onMgmt h (fun m => { m with
      notes := m.notes.filter (fun n => !(n.session == sess))
      blocks := m.blocks.map (fun b => if b.session = sess ∧ b.begun then { b with release := true } else b) })
    let h := onSession h sess (fun s => { s with role := 0, wanted := 0, challenge := none, tagLow := 0, clearMask := 0 })
    if held.isEmpty then h
    else ruleRecord (satF (releaseHeld h sess) MG_BWERR_LEASES 0 held.length) 0x1920 192 3 sess

/-- The window memory is in self-refresh (R193). -/
def windowAsleep (h : Hw) : Bool := !(domainOn h 4)

/-- A mask's bits are contiguous and at least one is set (R187). -/
def contiguous (mask : Nat) : Bool :=
  mask != 0 && (List.range 8).any (fun lo => (List.range 9).any (fun n => decide (lo + n ≤ 8) && mask == (2 ^ n - 1) * 2 ^ lo))

/-- A write of a mask to 1920:011.0 (R187, R193, R117, R566): the status of R134. -/
def claimStatus (h : Hw) (sess mask : Nat) : Nat :=
  if !(contiguous mask) then 3
  else if windowAsleep h || !(sections h sess 1).isEmpty || !(sections h sess 2).isEmpty then 8
  else if getF h PW_BOOT_STAGE 0 = 0x0D ∧ mask ≠ 0xFF then 8
  else if (List.range 8).any (fun n => bitAt mask n && secState h n != 0) then 8
  else 0

/-- Claim the sections of a mask. -/
def claimSections (h : Hw) (sess mask : Nat) : Hw :=
  (List.range 8).foldl (fun h n => if bitAt mask n then setSec h n 1 sess else h) h

/-- SECTION_CLEARED (R186): section `n` is zeroed and becomes Free. -/
def execSectionCleared (n : Nat) (s : State) : Res := s.run fun h =>
  if n < 8 ∧ secState h n = 3 ∧ !(windowAsleep h) then
    { setSec h n 0 0xFFFF with mem := memZero h.mem (windowBase + n * 0x100000) (windowBase + (n + 1) * 0x100000) }
  else h

/-- LEASE_EXPIRY (R192): the owner of Held section `n` has been idle for the lease time; its sections are released. The lease does not
run for the twin's inbox (R566) nor while the memory sleeps (R193). -/
def execLeaseExpiry (n : Nat) (s : State) : Res := s.run fun h =>
  let sess := secOwner h n
  if n < 8 ∧ secState h n = 1 ∧ sess ≠ 0x420 ∧ !(windowAsleep h) then
    let held := sections h sess 1
    ruleRecord (satF (releaseHeld h sess) MG_BWERR_LEASES 0 held.length) 0x1920 192 3 sess
  else h

/-- SESSION_FALLBACK (R150): 600 s without a transaction. -/
def execSessionFallback (sess : Nat) (s : State) : Res := s.run fun h =>
  if isLinkSession sess ∨ isBarSession sess then fallBack h sess else h

/-- CHALLENGE_EXPIRY (R149): 10 s after it was made. -/
def execChallengeExpiry (sess : Nat) (s : State) : Res := s.run fun h => onSession h sess (fun x => { x with challenge := none })

/-- CHALLENGE_LOCKOUT_END (R149): the 10 s refusal ends and the count restarts. -/
def execChallengeLockoutEnd (sess : Nat) (s : State) : Res := s.run fun h =>
  if (session h sess).lockout then onSession h sess (fun x => { x with lockout := false, fails := 0 }) else h

/-- The challenge of a session, made when there is none (R149). -/
def takeChallenge (h : Hw) (sess : Nat) : Hw × Nat :=
  match (session h sess).challenge with
  | some c => (h, c)
  | none =>
    let c := Config.random h.freeCtr % 2 ^ 128
    (drawn (onSession h sess (fun x => { x with challenge := some c })), c)

/-- A tag of a session is checked (R149, R625): the challenge is consumed; a failure counts, and the third in a row locks challenge
reads out; every grant and failure is recorded. -/
def judgeTag (h : Hw) (sess : Nat) (ok : Bool) : Hw :=
  let h := onSession h sess (fun x =>
    { x with challenge := none, fails := if ok then 0 else x.fails + 1, lockout := !ok && decide (2 ≤ x.fails) })
  ruleRecord h 0x19F0 149 3 sess

end Sys2Proof.Machine
end

