-- ==== Sys2Proof/Machine/Ports.lean ====
section
/-! DEFINITION. The two ports and their controllers: links, resets, enabling, shutdown, queues, power states (R408-R424, R468-R470). -/
namespace Sys2Proof.Machine

/-- Displacement of a port's HP page; its leaves. -/
def hpd (p : Nat) : Nat := inst p
def linkLeaf (p : Nat) : Nat := 0x1110 + 0x100 * p
def ctrlLeaf (p : Nat) : Nat := 0x1120 + 0x100 * p

/-- A port exists under the straps (R75). -/
def portExists (h : Hw) (p : Nat) : Bool := p == 0 || (p == 1 && dualPort h)

/-- What a reset or a shutdown of a controller does to its commands (R416, R417, R457): a write whose data lies in its gallery is carried to the
medium, everything else is abandoned, Asynchronous Event Requests and a Twin Pair that still waits among them; nothing is posted. -/
def resetCommands (h : Hw) (p : Nat) : Hw :=
  let mine := fun (c : Cmd) => c.port == p && c.source == .host
  let carried := fun (c : Cmd) => writes c && c.inGallery && c.committed.isNone && c.verdict.isNone
  let gone := (h.engine.cmds.filter (fun c => mine c && !(carried c) && c.committed.isNone)).length
  let h := onEngine h (fun g => { g with
    cmds := (g.cmds.filter (fun c => !(mine c) || carried c)).map (fun c => if mine c then { c with noPost := true } else c)
    posting := g.posting.filter (fun q => q.1 != p)
    mapWait := g.mapWait.filter (fun q => q.1 != p)
    oper := g.oper.map (fun o => if o.port = p then { o with resumed := true } else o) })
  let h := onPort h p (fun x => { x with aers := [], aborts := [] })
  countEngine (if h.twin.pairing.isSome ∧ h.twin.port = p then endPairing h else h) 4 gone

/-- A reset of letter C, F or L of one port (R15, R150, R415, R416). -/
def resetPort (h : Hw) (p : Nat) (letter : ResetKind) : Hw :=
  let h := resetCommands h p
  let h := onPort h p (fun x => { x with
    en := false, rdy := false, cfs := false, shst := 0, sqs := [], cqs := [], rrQueue := 0, rrLeft := 0, features := [], apst := [],
    events := [], ps := 0, ringPhase := true, cc := 0 })
  let h := if letter = .C then h else onPort h p (fun x => { x with
    cfgCommand := 0, bar0 := 0, bar2 := 0, dstate := 0, msixEnable := false, msixMask := false, mps := 0, mrrs := 2, aspmL1 := false, aer := []
    msixTable := [], aqa := 0, asq := 0, acq := 0 })
  let h := resetRegs h letter (fun l => l == linkLeaf p || l == ctrlLeaf p)
  fallBack h (0x400 + p)

/-- The link of a port goes down (R415, R579): an L reset; a twin whose peer port it is loses its partner. -/
def linkLost (h : Hw) (p : Nat) : Hw :=
  let up := getF h HP_LSTAT_SPEED (hpd p) != 0
  let h := resetPort h p .L
  let h := setF (setF (setF h HP_LSTAT_SPEED (hpd p) 0) HP_LSTAT_WIDTH (hpd p) 0) HP_LSTAT_REV (hpd p) 0
  let h := onPort h p (fun x => { x with configured := false })
  let h := if up then satF h HP_LSTAT_LDOWNS (hpd p) 1 else h
  if h.twin.port = p then declareLost h else h

/-! Configuration space (R112, R409-R411, R414). -/

/-- Configuration requests are answered with Configuration Request Retry Status until step 15, except in boot recovery (R112, R414). -/
def configRetry (h : Hw) : Bool := !h.boot.admin && getF h PW_BOOT_RECOV 0 == 0

/-- The capabilities of R410 in its order, by their identifiers in the PCI Express specification (PRESUMED, log entry 87). -/
def capabilityIds : List Nat := [0x01, 0x10, 0x11, 0x0001, 0x0003, 0x0019, 0x0026, 0x002A, 0x0027, 0x0025]

/-- Reset values of the AER words: severity and correctable mask as the PCI Express specification has them (PRESUMED, log entry 87). -/
def aerReset (k : Nat) : Nat := if k = 2 then 0x00462030 else if k = 4 then 0x2000 else 0

/-- A register of the configuration space of port `p` as it reads (R408-R411). -/
def configValue (h : Hw) (p : Nat) (r : CfgReg) : Nat :=
  let x := port h p
  match r with
  | .ids => Config.vendorId % 2 ^ 16 + 0x4824 * 2 ^ 16
  | .command => x.cfgCommand + 0x00100000
  | .classRevision => Config.dieRevision % 256 + 0x010802 * 256
  | .bar 0 => x.bar0 % 2 ^ 32 + 4
  | .bar 1 => x.bar0 / 2 ^ 32
  | .bar 2 => x.bar2 % 2 ^ 32 + 4
  | .bar 3 => x.bar2 / 2 ^ 32
  | .bar _ => 0
  | .subsystem => Config.vendorId % 2 ^ 16 + 0x4824 * 2 ^ 16
  | .interrupt => 0x100
  | .capability k => capabilityIds.getD k 0
  | .serial high => if high then Config.deviceId / 2 ^ 32 % 2 ^ 32 else Config.deviceId % 2 ^ 32
  | .power => x.dstate
  | .msix => x.msixEnable.toNat * 2 ^ 31 + x.msixMask.toNat * 2 ^ 30 + 65 * 2 ^ 16
  | .msixTable => 0x2000
  | .msixPba => 0x3000
  | .deviceCap => 2 + 2 ^ 28
  | .deviceControl => x.mps * 2 ^ 5 + x.mrrs * 2 ^ 12
  | .linkCap => 5 + 2 * 2 ^ 4 + 2 * 2 ^ 10
  | .linkControl => 2 * x.aspmL1.toNat + getF h HP_LSTAT_SPEED (hpd p) * 2 ^ 16 + getF h HP_LSTAT_WIDTH (hpd p) * 2 ^ 20
  | .dataLinkFeature => 1
  | .aer k => if k < 6 then mget aerReset x.aer k else 0

/-- A write to it: memory space, bus master and INTx disable in the Command register; the address bits of a BAR above its size; D0 and
D3hot; the two bits of MSI-X control; a payload of at most 512 bytes and read requests of at most 4,096; ASPM L1, as L0s is absent; the AER
masks and the severity. Every other bit is read-only. -/
def configWrite (h : Hw) (p : Nat) (r : CfgReg) (v : Nat) : Hw :=
  match r with
  | .command => onPort h p (fun x => { x with cfgCommand := v &&& 0x406 })
  | .bar 0 => onPort h p (fun x => { x with bar0 := x.bar0 / 2 ^ 32 * 2 ^ 32 + v % 2 ^ 32 / 0x4000 * 0x4000 })
  | .bar 1 => onPort h p (fun x => { x with bar0 := v % 2 ^ 32 * 2 ^ 32 + x.bar0 % 2 ^ 32 })
  | .bar 2 => onPort h p (fun x => { x with bar2 := x.bar2 / 2 ^ 32 * 2 ^ 32 + v % 2 ^ 32 / 0x1000000 * 0x1000000 })
  | .bar 3 => onPort h p (fun x => { x with bar2 := v % 2 ^ 32 * 2 ^ 32 + x.bar2 % 2 ^ 32 })
  | .power => if v % 4 = 0 ∨ v % 4 = 3 then onPort h p (fun x => { x with dstate := v % 4 }) else h
  | .msix => onPort h p (fun x => { x with msixEnable := bitAt v 31, msixMask := bitAt v 30 })
  | .deviceControl => onPort h p (fun x => { x with mps := min 2 (bits 7 5 v), mrrs := min 5 (bits 14 12 v) })
  | .linkControl => onPort h p (fun x => { x with aspmL1 := bitAt v 1 })
  | .aer k => if k = 1 ∨ k = 2 ∨ k = 4 then onPort h p (fun x => { x with aer := mset aerReset x.aer k (v % 2 ^ 32) }) else h
  | _ => h

/-- CONFIG_REQUEST (R112, R410): a read, or a write, of a register of the configuration space of port `p`. -/
def execConfigRequest (p : Nat) (reg : CfgReg) (write : Option Nat) (s : State) : Res := s.run fun h =>
  if !(port h p).configured then h
  else if configRetry h then emit h (.config p true 0)
  else
    let h := match write with | some v => configWrite h p reg v | none => h
    emit h (.config p false (configValue h p reg))

/-- PERST (R415): kind 0 Hx_PERST_N falls, 1 hot reset, 2 link down. -/
def execPerst (p kind : Nat) (s : State) : Res := s.run fun h =>
  if !(portExists h p) then h
  else
    let h := if kind = 0 then onPins h (fun x => if p = 0 then { x with perstA := false } else { x with perstB := false }) else h
    linkLost h p

/-- HX_PERST_N_RISE (R415, R112): the PHY leaves electrical idle and training begins. -/
def execHxPerstNRise (p : Nat) (s : State) : Res := s.run fun h =>
  if portExists h p then onPins h (fun x => if p = 0 then { x with perstA := true } else { x with perstB := true }) else h

/-- PCIE_LINK_UP (R112, R408): the link has trained; it runs at no more than the highest speed allowed (1110:012.0). -/
def execPcieLinkUp (p speed width : Nat) (reversed : Bool) (s : State) : Res := s.run fun h =>
  let high := if p = 0 then h.pins.perstA else h.pins.perstB
  if portExists h p ∧ high ∧ domainOn h (1 + p) ∧ 1 ≤ speed ∧ speed ≤ liveVal h (linkLeaf p) 0x012 0 ∧ 1 ≤ width ∧ width ≤ 2 then
    let h := setF (setF (setF h HP_LSTAT_SPEED (hpd p) speed) HP_LSTAT_WIDTH (hpd p) width) HP_LSTAT_REV (hpd p) reversed.toNat
    onPort h p (fun x => { x with configured := true })
  else h

/-- FUNCTION_LEVEL_RESET (R415): as L with the link kept. -/
def execFunctionLevelReset (p : Nat) (s : State) : Res := s.run fun h =>
  if (port h p).configured then
    let keep := [HP_LSTAT_SPEED, HP_LSTAT_WIDTH, HP_LSTAT_REV].map (fun f => (f, getF h f (hpd p)))
    keep.foldl (fun h q => setF h q.1 (hpd p) q.2) (resetPort h p .F)
  else h

/-- CONTROLLER_DISABLE (R415): CC.EN from 1 to 0. -/
def execControllerDisable (p : Nat) (s : State) : Res := s.run fun h => if (port h p).en then resetPort h p .C else h

/-- CONTROLLER_ENABLE (R113, R414, R469): CC.EN is set, with the sizes of the admin queues. In boot recovery it is ignored and
CSTS.CFS reads 1; a halted device sets CSTS.CFS; before admin ready it waits. -/
def execControllerEnable (p asqs acqs : Nat) (s : State) : Res := s.run fun h =>
  let stage := getF h PW_BOOT_STAGE 0
  if !(port h p).configured ∨ (port h p).en then h
  else if stage = 0x0D then onPort h p (fun x => { x with cfs := true })
  else
    let h := onPort h p (fun x => { x with
      en := true
      sqs := oset x.sqs 0 (some { cq := 0, size := asqs })
      cqs := oset x.cqs 0 (some { size := acqs, ien := true }) })
    if flagF h PW_BOOT_HALT 0 then onPort h p (fun x => { x with cfs := true })
    else if 7 ≤ stage then onEngine (onPort h p (fun x => { x with rdy := true })) (fun g => { g with noReady := false })
    else h

/-- CSTS.CFS as it reads (R113, R414): 1 all through boot recovery. -/
def cfsOf (h : Hw) (p : Nat) : Bool := (port h p).cfs || getF h PW_BOOT_STAGE 0 == 0x0D

/-- SHUTDOWN (R417): CC.SHN; CSTS.SHST reads 2 once every command of the controller has ended by R416. -/
def execShutdown (p : Nat) (s : State) : Res := s.run fun h =>
  if (port h p).rdy then shutdownCheck (onPort (resetCommands h p) p (fun x => { x with shst := 1 })) p else h

/-! BAR0 (R411, R421): the NVMe registers at their places in the NVMe specification (PRESUMED, log entry 43), doorbells, MSI-X table and PBA. -/

/-- The capability register of a controller (R421): MQES, CQR, no other arbitration, TO 2, stride 0, no subsystem reset, the NVM command
set, 4 KiB to 64 KiB pages, no persistent region and no memory buffer. -/
def capRegister : Nat := 1023 + 2 ^ 16 + 2 * 2 ^ 24 + 2 ^ 37 + 4 * 2 ^ 52

/-- A word of the MSI-X table: 66 entries of four words, each masked at first. -/
def tableWord (h : Hw) (p k : Nat) : Nat := mget (fun i => if i % 4 = 3 then 1 else 0) (port h p).msixTable k

/-- A word of BAR0 of port `p` as it reads: the pending bits are 0, since a vector is signalled at once. -/
def controlWord (h : Hw) (p o : Nat) : Nat :=
  let x := port h p
  if o = 0 then capRegister % 2 ^ 32
  else if o = 4 then capRegister / 2 ^ 32
  else if o = 8 then 0x20000
  else if o = 0x14 then putBit x.cc 0 x.en
  else if o = 0x1C then x.rdy.toNat + 2 * (cfsOf h p).toNat + 4 * x.shst
  else if o = 0x24 then x.aqa
  else if o = 0x28 then x.asq % 2 ^ 32
  else if o = 0x2C then x.asq / 2 ^ 32
  else if o = 0x30 then x.acq % 2 ^ 32
  else if o = 0x34 then x.acq / 2 ^ 32
  else if 0x2000 ≤ o ∧ o < 0x2420 then tableWord h p ((o - 0x2000) / 4)
  else 0

/-- Where the host's doorbell says the head of completion queue `q` is. -/
def setHead (h : Hw) (p q n : Nat) : Hw :=
  match oget (port h p).cqs q with
  | some c => onPort h p (fun x => { x with cqs := oset x.cqs q (some { c with head := n % (max 1 c.size) }) })
  | none => h

/-- A write of a word of BAR0: CC enables, disables or shuts the controller down; the admin queue registers; the doorbells, a stride of 4 bytes
apart, of which a submission tail only says what the host has placed (COMMAND_FETCH names it); the MSI-X table. -/
def writeControl (h : Hw) (p o data : Nat) : Hw :=
  let x := port h p
  let run := fun (f : State → Res) => match f { hw := h } with | .next t => { t.hw with out := h.out ++ t.hw.out } | _ => h
  if o = 0x14 then
    let h' :=
      if bitAt data 0 && !x.en then run (execControllerEnable p (bits 11 0 x.aqa + 1) (bits 27 16 x.aqa + 1))
      else if !(bitAt data 0) && x.en then run (execControllerDisable p)
      else if bits 15 14 data ≠ 0 ∧ bits 15 14 x.cc = 0 then run (execShutdown p)
      else h
    if bitAt data 0 || !x.en then onPort h' p (fun x => { x with cc := data % 2 ^ 24 }) else h'
  else if o = 0x24 then onPort h p (fun x => { x with aqa := data % 2 ^ 28 })
  else if o = 0x28 then onPort h p (fun x => { x with asq := x.asq / 2 ^ 32 * 2 ^ 32 + data / 4096 * 4096 })
  else if o = 0x2C then onPort h p (fun x => { x with asq := data * 2 ^ 32 + x.asq % 2 ^ 32 })
  else if o = 0x30 then onPort h p (fun x => { x with acq := x.acq / 2 ^ 32 * 2 ^ 32 + data / 4096 * 4096 })
  else if o = 0x34 then onPort h p (fun x => { x with acq := data * 2 ^ 32 + x.acq % 2 ^ 32 })
  else if 0x1000 ≤ o ∧ o < 0x1208 then (if (o - 0x1000) / 4 % 2 = 1 then setHead h p ((o - 0x1000) / 8) (data % 65536) else h)
  else if 0x2000 ≤ o ∧ o < 0x2420 then
    onPort h p (fun x => { x with msixTable := mset (fun i => if i % 4 = 3 then 1 else 0) x.msixTable ((o - 0x2000) / 4) (data % 2 ^ 32) })
  else h

/-! Admin commands. -/

/-- Port `p` takes admin commands. -/
def adminUp (h : Hw) (p : Nat) : Bool := (port h p).rdy && (port h p).shst == 0 && (h.boot.removal == .none || h.boot.removal == .retreat)

/-- The entry of an admin command has been fetched: the head of the admin submission queue moves on. -/
def fetched (h : Hw) (p : Nat) : Hw :=
  onPort h p (fun x => { x with sqs := match oget x.sqs 0 with
    | some s => oset x.sqs 0 (some { s with head := (s.head + 1) % s.size })
    | none => x.sqs })

/-- An admin command of port `p`: `f` gives the state and the completion's status and dword 0. -/
def admin (h : Hw) (p cid : Nat) (f : Hw → Hw × Nat × Nat) : Hw :=
  if adminUp h p then
    let (h, st, dw0) := f (fetched h p)
    adminDone h p cid st dw0
  else h

/-- CREATE_IO_CQ (R421, R423): NVMe statuses 0x101 Invalid Queue Identifier, 0x102 Invalid Queue Size, 0x108 Invalid Interrupt
Vector. -/
def execCreateIoCq (p cid qid size vector : Nat) (ien : Bool) (s : State) : Res := s.run fun h => admin h p cid fun h =>
  if qid = 0 ∨ 64 < qid ∨ (oget (port h p).cqs qid).isSome then (h, 0x101, 0)
  else if size < 2 ∨ 1024 < size then (h, 0x102, 0)
  else if 64 < vector then (h, 0x108, 0)
  else (onPort h p (fun x => { x with cqs := oset x.cqs qid (some { size := size, vector := vector, ien := ien }) }), 0, 0)

/-- CREATE_IO_SQ (R421, R423): 0x100 Completion Queue Invalid. -/
def execCreateIoSq (p cid qid size cqid : Nat) (s : State) : Res := s.run fun h => admin h p cid fun h =>
  if qid = 0 ∨ 64 < qid ∨ (oget (port h p).sqs qid).isSome then (h, 0x101, 0)
  else if size < 2 ∨ 1024 < size then (h, 0x102, 0)
  else if cqid = 0 ∨ (oget (port h p).cqs cqid).isNone then (h, 0x100, 0)
  else (onPort h p (fun x => { x with sqs := oset x.sqs qid (some { cq := cqid, size := size }) }), 0, 0)

/-- DELETE_IO_SQ (R423): commands of the queue not yet committed end with Command Aborted due to SQ Deletion before it. -/
def execDeleteIoSq (p cid qid : Nat) (s : State) : Res := s.run fun h => admin h p cid fun h =>
  if qid = 0 ∨ (oget (port h p).sqs qid).isNone then (h, 0x101, 0)
  else
    let mine := h.engine.cmds.filter (fun c => c.port == p && c.sq == qid && c.source == .host && c.committed.isNone && !c.noPost)
    let h := mine.foldl (fun h c => commit h c stSqDeleted) h
    (onPort h p (fun x => { x with sqs := oset x.sqs qid none }), 0, 0)

/-- DELETE_IO_CQ (R423): 0x10C Invalid Queue Deletion while a submission queue names it. -/
def execDeleteIoCq (p cid qid : Nat) (s : State) : Res := s.run fun h => admin h p cid fun h =>
  if qid = 0 ∨ (oget (port h p).cqs qid).isNone then (h, 0x101, 0)
  else if (port h p).sqs.any (fun q => match q.2 with | some x => x.cq == qid && q.1 != 0 | none => false) then (h, 0x10C, 0)
  else (onPort h p (fun x => { x with cqs := oset x.cqs qid none }), 0, 0)

/-- ASYNCHRONOUS_EVENT_REQUEST (R423): up to 8 wait; one more ends with 0x105. An event not yet reported completes it at once. -/
def execAsynchronousEventRequest (p cid : Nat) (s : State) : Res := s.run fun h =>
  if !(adminUp h p) then h else
  let h := fetched h p
  if 8 ≤ (port h p).aers.length then adminDone h p cid 0x105 0
  else match (port h p).events with
    | e :: rest => adminDone (onPort h p (fun x => { x with events := rest })) p cid 0 e
    | [] => onPort h p (fun x => { x with aers := x.aers ++ [cid] })

/-- An asynchronous event of a controller: it completes the oldest request, or waits for one. -/
def asyncEvent (h : Hw) (p e : Nat) : Hw :=
  match (port h p).aers with
  | cid :: rest => adminDone (onPort h p (fun x => { x with aers := rest })) p cid 0 e
  | [] => onPort h p (fun x => { x with events := x.events ++ [e] })

/-! Features (R424, R469, R612). -/

def featureIds : List Nat := [0x01, 0x02, 0x04, 0x05, 0x07, 0x08, 0x09, 0x0A, 0x0B, 0x0C, 0x0E, 0x81, 0x82, 0x83]

/-- What `features` holds of a feature that no Set Features has set: the arbitration burst is 3, 64 queues of each kind (R421);
a threshold of another sensor than the composite is 0xFFFF (PRESUMED from the NVMe specification, log entry 43); the two composite thresholds
hold 0x10000, which no written value equals, and follow R601; the rest is 0. -/
def featureDefault (fid : Nat) : Nat :=
  if fid = 0x01 then 3 else if fid = 0x07 then 0x003F003F else if fid = 0x400 ∨ fid = 0x410 then 0x10000 else if fid / 16 = 0x40 then 0xFFFF
  else if fid / 2 ^ 32 = 9 then fid % 2 ^ 16 else 0

/-- Where a feature's value stands: a temperature threshold has one value for each selector (dword 11 [21:16]), error recovery one for each
namespace, the vector configuration one for each vector (dword 11 [15:0]). -/
def featureKey (fid nsid value : Nat) : Nat :=
  if fid = 0x04 then 0x400 + bits 21 16 value else if fid = 0x05 then 5 * 2 ^ 32 + nsid else if fid = 0x09 then 9 * 2 ^ 32 + value % 2 ^ 16 else fid

/-- The namespaces whose error recovery a Set Features with this NSID sets. -/
def recoveryOf (nsid : Nat) : List Nat := if nsid = 0xFFFFFFFF then (List.range 128).map (· + 1) else [nsid]

/-- The default of a feature: the composite thresholds are TWARN + 273 K and TCOLD + 273 K (R601). -/
def defaultFeature (h : Hw) (key : Nat) : Nat :=
  let thr := liveVal h 0x1A00 0x051 0
  if key = 0x400 then bits 23 16 thr + 273
  else if key = 0x410 then (toSigned 8 (bits 31 24 thr) + 273).toNat
  else featureDefault key

/-- What a controller holds of a feature by its key. -/
def heldFeature (h : Hw) (p key : Nat) : Nat :=
  let v := mget featureDefault (port h p).features key
  if v = 0x10000 ∧ (key = 0x400 ∨ key = 0x410) then defaultFeature h key else v

/-- The present value of a feature. -/
def featureValue (h : Hw) (p fid nsid : Nat) : Nat :=
  if fid = 0x02 then (port h p).ps
  else if fid = 0x07 then 0x003F003F
  else if fid = 0x83 then (space h nsid).ptpl.toNat
  else if fid = 0x0E then (h.log.calendar + h.log.optime) % 2 ^ 48
  else heldFeature h p (featureKey fid nsid nsid)

/-- SET_FEATURES (R424): `value` is dword 11, or the 64-bit data of Timestamp and Host Identifier; `table` the entries of an
autonomous transition table. The Timestamp sets the calendar offset of R612. -/
def execSetFeatures (p cid fid nsid value : Nat) (table : List Nat) (s : State) : Res := s.run fun h => admin h p cid fun h =>
  if !(featureIds.contains fid) then (h, stField, 0)
  else if fid = 0x02 then
    let ps := value % 32
    if 4 < ps then (h, stField, 0)
    else (onPort h p (fun x => { x with ps := ps, lastOp := if ps < 3 then ps else x.lastOp }), 0, 0)
  else if fid = 0x07 then (h, 0, 0x003F003F)
  else if fid = 0x0C then
    let apst := (List.range 5).foldl (fun (m : SMap Nat) k => zset m k (table.getD k 0)) []
    (onPort h p (fun x => { x with apst := apst, features := mset featureDefault x.features fid (value % 2) }), 0, 0)
  else if fid = 0x0E then
    let h := onLog h (fun l => { l with calendar := (value + 2 ^ 64 - l.optime) % 2 ^ 64 })
    (raiseRecord h 0x18F0 3 2 (h.log.calendar % 2 ^ 32) false, 0, 0)
  else if fid = 0x83 then
    if (space h nsid).size = 0 then (h, stNamespace, 0) else (onSpace h nsid (fun n => { n with ptpl := bitAt value 0 }), 0, 0)
  else if fid = 0x05 ∧ (nsid ≠ 0xFFFFFFFF ∧ (space h nsid).size = 0) then (h, stNamespace, 0)
  else if fid = 0x09 ∧ 65 < value % 2 ^ 16 then (h, stField, 0)
  else
    let keys := if fid = 0x05 then (recoveryOf nsid).map (fun n => featureKey fid n value) else [featureKey fid nsid value]
    (onPort h p (fun x => { x with features := keys.foldl (fun m k => mset featureDefault m k value) x.features }), 0, 0)

/-- GET_FEATURES (R424): `nsid` is the namespace of features 0x05 and 0x83, dword 11 of features 0x04 and
0x09; `sel` 0 the present value, 1 the default; 2 and 3 are not described and give Invalid Field. -/
def execGetFeatures (p cid fid nsid sel : Nat) (s : State) : Res := s.run fun h => admin h p cid fun h =>
  if !(featureIds.contains fid) ∨ 1 < sel then (h, stField, 0)
  else (h, 0, if sel = 1 then defaultFeature h (featureKey fid nsid nsid) else featureValue h p fid nsid)

/-! Power states of the controllers (R469, R470). -/

/-- APST_IDLE_TIMEOUT (R469): the controller has had no command in flight for its state's idle time. -/
def execApstIdleTimeout (p : Nat) (s : State) : Res := s.run fun h =>
  let x := port h p
  let e := zget x.apst x.ps
  if x.rdy ∧ mget featureDefault x.features 0x0C = 1 ∧ e / 256 ≠ 0 ∧ e / 256 ≤ x.idle ∧ bits 7 3 e ≤ 4 ∧
     !(h.engine.cmds.any (fun c => c.port == p && c.source == .host)) then
    onPort h p (fun x => { x with ps := bits 7 3 e, lastOp := if bits 7 3 e < 3 then bits 7 3 e else x.lastOp })
  else h

/-- NO_READY_CONTROLLER_TIMEOUT (R469): neither controller has been ready for 60 s. -/
def execNoReadyControllerTimeout (s : State) : Res := s.run fun h =>
  if h.portA.rdy ∨ h.portB.rdy ∨ h.engine.unready < 60000 then h else onEngine h (fun g => { g with noReady := true })

/-- An I/O command calls a controller back from PS3 or PS4 (R470, R645). -/
def exitOnIo (h : Hw) (p : Nat) : Hw :=
  if (port h p).rdy ∧ 3 ≤ (port h p).ps then abandonEntry (onPort h p (fun x => { x with ps := x.lastOp })) else h

/-- POWER_STATE_EXIT_ON_IO (R470, R645): an I/O command arrives at a controller in PS3 or PS4. -/
def execPowerStateExitOnIo (p : Nat) (s : State) : Res := s.run fun h => exitOnIo h p

end Sys2Proof.Machine
end

