-- ==== Sys2Proof/Machine/Calibration.lean ====
section
/-! DEFINITION. Calibration under live traffic (R45-R50, R471, R602). -/
namespace Sys2Proof.Machine

/-- The device power state (R629, R471). -/
def devicePs (h : Hw) : Nat := getF h PW_PSTATE_DEV 0

/-- Die `c` is Warm or hotter (R601). -/
def dieWarm (h : Hw) (die : Nat) : Bool := decide (2 ≤ getF h TH_TEMP_ZONE (inst die))

/-- Command `x` is a write that the hold of carriage `c` holds back: it arrived after the hold began (R47). -/
def heldBack (h : Hw) (c : Nat) (x : Cmd) : Bool :=
  match (cal h c).hold with
  | some n => writes x && decide (n ≤ x.isn)
  | none => false

/-- Command `x` has a write piece on carriage `c` that has not ended. -/
def writesOn (h : Hw) (c : Nat) (x : Cmd) : Bool :=
  writes x && x.pieces.any (fun p => (p.st == .waiting || p.st == .started) && (extent h p.entry).car == c)

/-- Command `x` is a write to carriage `c` that its hold delays (R47). -/
def heldThere (h : Hw) (c : Nat) (x : Cmd) : Bool := writesOn h c x && heldBack h c x

/-- A write to carriage `c` is queued for execution (R47); one that the hold holds back is not. Which of them the next revolution reaches is
timing: any write that has not ended counts (log entry 86). -/
def writeQueued (h : Hw) (c : Nat) : Bool := h.engine.cmds.any (fun x => writesOn h c x && !(heldBack h c x))

/-- A write-side step may run now (R46, R47, R50, R602): no other step runs, no write is queued, no pause stands and the die is not Warm. -/
def writeSideFree (h : Hw) (c : Nat) : Bool :=
  let k := cal h c
  k.step.isNone && !k.closed && !(writeQueued h c) && k.pause == 0 && !(dieWarm h (c + 1))

/-- A calibration step of `ms` milliseconds may start (R46, R47, R50, R471, R602): no step runs, the share of every 1 s window it
touches holds it, and a write-side step finds no write queued, no pause and no Warm die, and ends before it has delayed a held write beyond
the bound. The fullest window is the one that ends with the step. -/
def stepAllowed (h : Hw) (c : Nat) (write : Bool) (ms : Nat) : Bool :=
  let k := cal h c
  let now := h.log.optime
  populated h c && !(carFenced h c) && k.step.isNone && !k.closed && decide (1 ≤ ms) &&
  decide (ms ≤ liveVal h (carPath c 0) 0x021 0) &&
  decide (shareUsed k (now + ms - 1000) (now + ms) + ms ≤ liveVal h (carPath c 0) 0x020 0) && decide (devicePs h < 3) &&
  !(write && (!(writeSideFree h c) || decide (liveVal h (carPath c 0) 0x021 0 < k.delay + ms)))

/-- CALIBRATION_STEP_START (R46). A write-side step that may not run yet waits (R47). -/
def execCalibrationStepStart (c : Nat) (write : Bool) (ms : Nat) (s : State) : Res := s.run fun h =>
  if stepAllowed h c write ms then
    onCal h c (fun k => { k with
      step := some write, left := ms, ending := false, spans := (h.log.optime, h.log.optime + ms) :: k.spans
      hold := if write then none else k.hold, delay := if write then 0 else k.delay, waiting := if write then 0 else k.waiting })
  else if write ∧ populated h c ∧ !(carFenced h c) ∧ (cal h c).waiting = 0 then onCal h c (fun k => { k with waiting := 1 })
  else h

/-- The write-side step of carriage `c` has waited the write-side wait limit, in seconds, and no pause stands (R47). -/
def holdDue (h : Hw) (c : Nat) : Bool :=
  let k := cal h c
  populated h c && !(carFenced h c) && k.hold.isNone && k.pause == 0 && decide (1000 * liveVal h (carPath c 0) 0x022 0 < k.waiting)

/-- CALIBRATION_WRITE_HOLD (R47): the writes that arrive from now on are held; those already queued complete. -/
def execCalibrationWriteHold (c : Nat) (s : State) : Res := s.run fun h =>
  if holdDue h c then onCal h c (fun k => { k with hold := some h.engine.isn, delay := 0 }) else h

/-- The hold has delayed a write to carriage `c` for the whole of the bound 2000:021 (R47). -/
def releaseDue (h : Hw) (c : Nat) : Bool :=
  h.engine.cmds.any (heldThere h c) && decide (liveVal h (carPath c 0) 0x021 0 ≤ (cal h c).delay)

/-- CALIBRATION_HOLD_RELEASE (R47): the hold would delay a held write beyond 20 ms; it is counted and recorded, and the step waits
a further second. -/
def execCalibrationHoldRelease (c : Nat) (s : State) : Res := s.run fun h =>
  if releaseDue h c then
    let h := onCal h c (fun k => { k with hold := none, delay := 0, pause := 1000 })
    let h := bumpLive h (carPath c 0) 0x024 0 1 32
    ruleRecord h (carPath c 0x3F0) 47 3 (liveVal h (carPath c 0) 0x024 0)
  else h

/-- One millisecond of a carriage's calibration: the running step comes to its end, one that is ending finds a sector boundary, a pause
runs down, a waiting step waits on; at the end of a 1 s window the share used is reported (2000:023) and a new window opens (R46-R50). -/
def calTick (now : Nat) (h : Hw) (c : Nat) : Hw :=
  if cal h c = {} ∧ now % 1000 ≠ 0 then h
  else
    let h := calBoundary h c
    let held := h.engine.cmds.any (heldThere h c)
    let h := if (cal h c).left ≤ 1 then stepEnd h c else h
    let h := onCal h c (fun k => { k with
      left := k.left - 1, pause := k.pause - 1, delay := if held then k.delay + 1 else 0, waiting := if k.waiting = 0 then 0 else k.waiting + 1
      spans := k.spans.filter (fun p => decide (now ≤ p.2 + 2000)) })
    if now % 1000 = 0 then
      let used := shareUsed (cal h c) (now - 1000) now
      let h := onCal h c (fun k => { k with closed := false })
      if liveVal h (carPath c 0) 0x023 0 = used then h else setLive h (carPath c 0) 0x023 0 used
    else h

/-! Write-side steps of the servo that take no carriage time of their own (R356, R361). -/

/-- RC_COMMIT (R356): a COMMIT written with READY set is made at a boundary with no run open; it is a write-side step (R47). -/
def execRcCommit (c : Nat) (s : State) : Res := s.run fun h =>
  if (sv h c).rcDue ∧ !(runOpen h c) ∧ writeSideFree h c then
    let h := onServo h c (fun v => { v with
      rcDue := false,
      tables := (List.range 640).foldl (fun m w =>
        zset m ((48 * v.candidateOf.1 + v.candidateOf.2) * 640 + w) (zget v.candidate w)) v.tables })
    setF h SV_IRQS_RCCMT (inst c) 1
  else h

/-- BAND_APPLY (R361): the valid pending outputs of a head with APPLY set are copied at a boundary with no run
open; with a valid output the copy is a write-side step (R47). -/
def execBandApply (c hd : Nat) (s : State) : Res := s.run fun h =>
  let d := svHead c hd
  if headExists h hd ∧ flagF h SV_HBCTL_APPLY d ∧ !(runOpen h c) ∧
      (writeSideFree h c ∨ !(flagF h SV_HBCTL_PWV d) ∧ !(flagF h SV_HBCTL_PLV d)) then
    let h := if flagF h SV_HBCTL_PWV d then setF (setF h PA_HLVL_HTRW (paHead c hd) (getF h SV_HBCTL_PHTRW d)) SV_HBCTL_PWV d 0 else h
    let h := if flagF h SV_HBCTL_PLV d then setF (setF h PA_HLVL_LSRB (paHead c hd) (getF h SV_HBCTL_PLSRB d)) SV_HBCTL_PLV d 0 else h
    showSync (setF h SV_HBCTL_APPLY d 0) c hd
  else h

end Sys2Proof.Machine
end

