-- ==== Sys2Proof/Machine/Schedule.lean ====
section
/-! DEFINITION. The choice among the requests of a carriage: the age limit, the share of destages, the records whose destage goes first
(R445-R448). -/
namespace Sys2Proof.Machine

/-- Undestaged Landing data of these blocks stands in the way of a home write (R273). -/
def landHeld (h : Hw) (e first count : Nat) : Bool :=
  (List.range count).any (fun k => (landingCopy h (extent h e).car (extent h e).nsid (lbaOf h e (first + k))).isSome)

/-- The low mark of carriage `c`'s Landing (R272). -/
def lowMark (h : Hw) (c : Nat) : Nat := liveVal h (carPath c 0x320) 0x014 0

/-- Piece `p` of command `x` is a request of carriage `c` that order, space and holds allow to start (R446). -/
def requestOn (h : Hw) (c : Nat) (x : Cmd) (p : Piece) : Bool :=
  (extent h p.entry).car == c && x.stage == .ready && x.verdict.isNone && x.committed.isNone &&
  (match p.path with
   | .read => p.st == .waiting && !(fromGallery h x p)
   | .landing => p.st == .started && !p.pushed && !(landingFull h c) && !(heldBack h c x)
   | .stream => p.st == .started && !(landHeld h p.entry p.first p.count) && !(heldBack h c x)
   | .gallery => false)

/-- A command has waited longer than the age limit (R446). -/
def overdue (h : Hw) (x : Cmd) : Bool := decide (x.since + liveVal h 0x1320 0x012 0 < h.log.optime)

/-- The place of a piece's first sector: home, or FM_LHEAD for a Landing write. -/
def placeOf (h : Hw) (c : Nat) (p : Piece) : Option (Nat × Nat × Nat) :=
  match p.path with
  | .landing => landPlace h c (lhead h c)
  | _ => (bandSector h c (extent h p.entry).head (extent h p.entry).btrk p.first).map (fun q => (q.1, (extent h p.entry).head, q.2))

/-- The least estimated access time among the requests of command `x` on carriage `c`, from the present head position and wedge (R446). -/
def accessOf (h : Hw) (c : Nat) (x : Cmd) : Nat :=
  let now := (getF h SV_POS_TRACK (inst c), getF h SV_STAT_HEAD (inst c), (car h c).servo.wedge)
  (((x.pieces.filter (requestOn h c x)).map (fun p => Config.accessTime now (placeOf h c p))).min?).getD 0

/-- No other command has a request on carriage `c` with a lower estimated access time (R446). -/
def leastAccess (h : Hw) (c : Nat) (x : Cmd) : Bool :=
  h.engine.cmds.all (fun y => !(y.pieces.any (requestOn h c y)) || decide (accessOf h c x ≤ accessOf h c y))

/-- Command `x` may have the next request of carriage `c` (R446): the overdue one of the lowest ISN goes before any other; else the one of least
estimated access time. -/
def nextAllows (h : Hw) (c : Nat) (x : Cmd) : Bool :=
  match h.engine.cmds.find? (fun y => y.pieces.any (requestOn h c y) && overdue h y) with
  | some y => y.isn == x.isn
  | none => leastAccess h c x

/-- A host request of carriage `c` waits (R447). -/
def hostWaiting (h : Hw) (c : Nat) : Bool :=
  h.engine.cmds.any (fun x => x.source == .host && x.stage == .ready && x.verdict.isNone && x.committed.isNone && x.pieces.any (fun p =>
    (extent h p.entry).car == c && (match p.path with
      | .read => p.st == .waiting
      | .landing => !p.pushed
      | .stream => p.st == .waiting || p.st == .started
      | .gallery => false)))

/-- Destages may run in the present power state (R471). -/
def powerAllows (h : Hw) (c : Nat) : Bool := decide (devicePs h < 3) || (devicePs h == 3 && decide (landFree h c < lowMark h c))

/-- Records whose destage stands at the head of carriage `c`'s queue (R445). -/
def urgentOf (h : Hw) (c : Nat) : List Nat := (lget h.engine.urgent c).filter (fun q => (lget h.buffer.landIndex c).contains q)

/-- Background work of carriage `c` may have its next request (R447): while no host request waits, or below the low mark. -/
def backgroundAllowed (h : Hw) (c : Nat) : Bool :=
  powerAllows h c && (urgentOf h c).isEmpty && (decide (landFree h c < lowMark h c) || landingFull h c || !(hostWaiting h c))

/-- The destage of record `seq` may be issued: it stands at the head of the queue, or it is background work (R445, R447). -/
def destageAllowed (h : Hw) (c seq : Nat) : Bool :=
  match urgentOf h c with
  | [] => backgroundAllowed h c
  | q :: _ => powerAllows h c && q == seq

/-- The next request of carriage `c` may be a host's (R447): destages keep their share below the low mark, and every other request from
Landing-full until the space is back at the low mark. -/
def hostTurn (h : Hw) (c : Nat) : Bool :=
  if !(powerAllows h c) || (lget h.buffer.landIndex c).isEmpty then true
  else if !((urgentOf h c).isEmpty) then false
  else if lowMark h c ≤ landFree h c ∧ !(landingFull h c) then true
  else if bitAt h.engine.fullMark c || landingFull h c then bitAt h.engine.lastDestage c
  else decide (liveVal h 0x1320 0x010 0 * (zget h.engine.issued c + 1) ≤ 100 * zget h.engine.destages c)

/-- Command `x` may have the next request of carriage `c`. -/
def mayIssue (h : Hw) (c : Nat) (x : Cmd) : Bool := nextAllows h c x && hostTurn h c && (!(writes x) || writerFree h c)

/-- A request was issued to carriage `c` (R447). -/
def noteIssue (h : Hw) (c : Nat) (destage : Bool) : Hw :=
  if lowMark h c ≤ landFree h c ∧ !(landingFull h c) then
    onEngine h (fun g => { g with
      issued := zset g.issued c 0, destages := zset g.destages c 0, lastDestage := putBit g.lastDestage c false, fullMark := putBit g.fullMark c false })
  else
    onEngine h (fun g => { g with
      issued := zadd g.issued c 1, destages := zadd g.destages c destage.toNat, lastDestage := putBit g.lastDestage c destage
      fullMark := if landingFull h c then putBit g.fullMark c true else g.fullMark })

/-- The destages that a home write of these blocks waits for go to the head of the queue, oldest first (R445). -/
def urge (h : Hw) (e first count : Nat) : Hw :=
  let c := (extent h e).car
  let seqs := ((List.range count).filterMap (fun k => (landingCopy h c (extent h e).nsid (lbaOf h e (first + k))).map (fun r => r.seq))).eraseDups
  let new := (lget h.buffer.landIndex c).filter (fun q => seqs.contains q && !((lget h.engine.urgent c).contains q))
  onEngine h (fun g => { g with urgent := lset g.urgent c (urgentOf h c ++ new) })

/-- A command is queued for carriage `c` or in execution there (R384, R448): one that the scheduler has, with a piece there not at its end;
destages and calibration steps are no commands. -/
def carriageBusy (h : Hw) (c : Nat) : Bool :=
  h.engine.cmds.any (fun x => x.stage == .ready && x.committed.isNone && x.pieces.any (fun p =>
    (extent h p.entry).car == c && p.path != .gallery && (p.st == .waiting || p.st == .started)))

/-- One millisecond of the busy windows. -/
def tickWindow (h : Hw) (c : Nat) : Hw :=
  onEngine h (fun g => { g with busyWindow := zset g.busyWindow c ((2 * zget g.busyWindow c + (carriageBusy h c).toNat) % 2 ^ 1000) })

/-- BUSY_REPORT (R384, R448): the share of the last 1 s in which carriage `c` was busy, in 0.1 %, reaches the governor. -/
def execBusyReport (c : Nat) (s : State) : Res := s.run fun h =>
  if populated h c ∧ !(carFenced h c) then onSpindle h (fun p => { p with busy := zset p.busy c (ones 1000 (zget h.engine.busyWindow c)) }) else h

end Sys2Proof.Machine
end

