-- ==== Sys2Proof/Machine/Engine.lean ====
section
/-! DEFINITION. The command engine: fetching and intake, galleries, order, Landing and stream pieces, completions, Abort,
reservations, the copies of the extent map (R271-R281, R435-R463, R476-R479, R576, R580). -/
namespace Sys2Proof.Machine

/-! Intake (R436, R437). -/

/-- Media ready holds (R94, R114). -/
def mediaReady (h : Hw) : Bool := getF h PW_BOOT_STAGE 0 == 0x0C

/-- Submission queues of port `p` that have entries waiting and may be fetched from: `waiting` lists port x 0x1_0000 + queue. -/
def waitingQueues (h : Hw) (waiting : List Nat) (p : Nat) : List Nat :=
  (waiting.filter (fun w => w / 0x10000 == p && w % 0x10000 != 0 && adminUp h p && (oget (port h p).sqs (w % 0x10000)).isSome)).map (fun w => w % 0x10000)

/-- The next queue of a port in round robin order after the one its last burst stood on. -/
def nextQueue (h : Hw) (p : Nat) (l : List Nat) : Option Nat :=
  match (l.filter (fun q => decide ((port h p).rrQueue < q))).min? with
  | some q => some q
  | none => l.min?

/-- The port and queue that the next entry is fetched from (R436): the present burst, else the turn's port, else the other. -/
def chosenQueue (h : Hw) (waiting : List Nat) : Option (Nat × Nat) :=
  let t := h.engine.turn
  if (port h t).rrLeft ≠ 0 ∧ (waitingQueues h waiting t).contains (port h t).rrQueue then some (t, (port h t).rrQueue)
  else
    let first := if (port h t).rrLeft = 0 then t else 1 - t
    match nextQueue h first (waitingQueues h waiting first) with
    | some q => some (first, q)
    | none => (nextQueue h (1 - first) (waitingQueues h waiting (1 - first))).map (fun q => (1 - first, q))

/-- Count the fetch in its burst of 8; the turn passes when the burst ends. -/
def countFetch (h : Hw) (p q : Nat) : Hw :=
  let goingOn : Bool := h.engine.turn == p && (port h p).rrLeft != 0 && (port h p).rrQueue == q
  let left := if goingOn then (port h p).rrLeft - 1 else 7
  let h := onPort h p (fun x => { x with rrQueue := q, rrLeft := left })
  let h := onPort h (1 - p) (fun x => { x with rrLeft := 0 })
  let h := onEngine h (fun g => { g with turn := if left = 0 then 1 - p else p })
  onPort h p (fun x => { x with sqs := match oget x.sqs q with
    | some s => oset x.sqs q (some { s with head := (s.head + 1) % s.size })
    | none => x.sqs })

/-- Host identifier of a controller (R424). -/
def hostIdOf (h : Hw) (p : Nat) : Nat := mget featureDefault (port h p).features 0x81

/-- Registrant `r` is the host of controller `p`. -/
def sameHost (h : Hw) (p : Nat) (r : Registrant) : Bool := r.ctrl == p || (r.hostId != 0 && r.hostId == hostIdOf h p)
def registrant (h : Hw) (n p : Nat) : Option Registrant := (space h n).regs.find? (sameHost h p)

/-- Controller `p` holds the reservation: types 5 and 6 make every registrant a holder. -/
def holds (h : Hw) (n p : Nat) : Bool :=
  match registrant h n p with
  | some r => decide (5 ≤ (space h n).rtype) || r.ctrl == (space h n).holder
  | none => false

/-- A reservation forbids an I/O command of opcode `opc` (R437 check 5; the NVMe specification's table). -/
def reserved (h : Hw) (p n opc : Nat) : Bool :=
  let t := (space h n).rtype
  let rd : Bool := opc == 2 || opc == 0xC
  let wr : Bool := opc == 0 || opc == 1 || opc == 8
  if t = 0 ∨ holds h n p then false
  else if (t = 3 ∨ t = 4) ∧ (registrant h n p).isSome then false
  else if rd then t == 2 || t == 4 || t == 6
  else wr

def ioOpcodes : List Nat := [0x00, 0x01, 0x02, 0x08, 0x0C, 0x0D, 0x0E, 0x11, 0x15]

/-- The admin opcodes of R423. -/
def adminOpcodes : List Nat := [0x00, 0x01, 0x02, 0x04, 0x05, 0x06, 0x08, 0x09, 0x0A, 0x0C, 0x0D, 0x15, 0x80, 0x84, 0xC1, 0xC2, 0xC4, 0xC8]

/-- Bytes of the host buffer that a block takes: in format 1 with extended blocks its metadata counts, unless PRACT makes or strips it (R427; the
NVMe specification's reading of MDTS, log entry 43). -/
def blockBytes (n : Nspace) (p : Prot) : Nat := if n.fmt = 1 ∧ n.mset ∧ !(makesMeta n p) then 4104 else 4096

/-- The status that R437 gives an I/O command at intake, 0 for none; then the twin's refusals (R575, R581). -/
def intakeStatus (h : Hw) (p : Nat) (e : SqEntry) : Nat :=
  let rw : Bool := e.opc == 1 || e.opc == 2 || e.opc == 8 || e.opc == 0xC
  let n := space h e.nsid
  let standby : Bool := (twinState h == 2 || twinState h == 4) && twinRole h == 2
  if !(ioOpcodes.contains e.opc) then stOpcode
  else if e.ptr = .bitBucket then stSglType
  else if !e.clean ∨ (e.ordered ∧ !rw) ∨ ((e.opc = 1 ∨ e.opc = 2) ∧ 2 ^ 20 < e.nlb * blockBytes n e.prot) then stField
  else if n.size = 0 ∨ !(bitAt n.attached p) then stNamespace
  else if rw ∧ n.size < e.slba + e.nlb then stLba
  else if reserved h p e.nsid e.opc then stReservation
  else if !(mediaReady h) ∨ h.boot.thermalHold then stNotReady
  else if h.engine.oper.any (fun o => o.kind == .format && o.nsid == e.nsid) then stFormatting
  else if h.engine.sanitize = 2 then stSanitizing
  else if h.engine.sanitize = 3 then stSanitizeFailed
  else if (standby || h.twin.helloWait) && (e.opc == 1 || e.opc == 8) then stStandby
  else if standby && (e.opc == 0x11 || e.opc == 0x15) then stStandby
  else if standby && (e.opc == 2 || e.opc == 0xC) && (split h e.nsid e.slba e.nlb).any (fun x => (extent h x.1).divergent) then stDivergent
  else 0

/-- COMMAND_FETCH (R423, R435-R437, R470): entry `entry` of submission queue `sq` of port `p` is fetched when round robin has come to it. In PS3
and PS4 it first calls the controller back, and it is fetched after the exit. On the admin
queue, 0, it stands for the entries of opcodes that R423 does not list: they end with Invalid Command Opcode. -/
def execCommandFetch (p sq : Nat) (waiting : List Nat) (entry : SqEntry) (s : State) : Res := s.run fun h =>
  if sq = 0 then (if adminUp h p ∧ !(adminOpcodes.contains entry.opc) then adminDone (fetched h p) p entry.cid stOpcode 0 else h)
  else if 3 ≤ (port h p).ps then exitOnIo h p
  else if domainPs h < 3 ∧ getF h HQ_STAT_FETCH 0 = 1 ∧ domainUp h 4 ∧ h.engine.cmds.length < 4096 ∧ chosenQueue h waiting = some (p, sq) then
    let st := intakeStatus h p entry
    let h := countFetch h p sq
    let paged : Bool := entry.opc == 1 || entry.opc == 2
    let c : Cmd :=
      { slot := 0, isn := 0, port := p, sq := sq, cid := entry.cid, opc := entry.opc, nsid := entry.nsid, slba := entry.slba, nlb := entry.nlb,
        ordered := entry.ordered, addr := entry.addr, maddr := entry.maddr, prot := entry.prot
        stage := if st ≠ 0 then .ready else if paged then .pages else .order
        verdict := if st ≠ 0 then some st else none
        waited := st == 0 && paged && h.buffer.waiting }
    let h := takeCmd h c
    let h := if c.waited then bumpLive h 0x1420 0x011 0 1 32 else h
    if h.engine.cmds.length = 4096 then bumpLive h 0x1310 0x010 0 1 32 else h
  else h

/-! Pool pages (R477-R479). -/

/-- The lowest `n` pages from `k` on that the rising list `used` does not name. -/
def lowestFree : List Nat → Nat → Nat → List Nat
  | [], k, n => (List.range n).map (fun i => k + i)
  | u :: us, k, n =>
    let m := min n (u - k)
    (List.range m).map (fun i => k + i) ++ lowestFree us (u + 1) (n - m)

/-- Link pages in a chain owned by a slot (R477); 0x7_FFFF ends it. -/
def chainPages (slot : Nat) : List Nat → SMap (Option (Nat × Nat)) → SMap (Option (Nat × Nat))
  | [], m => m
  | p :: l, m => chainPages slot l (oset m p (some (slot, l.headD 0x7FFFF)))

/-- Pages that a command needs (R478). -/
def pagesFor (h : Hw) (c : Cmd) : Nat := (c.nlb * 4096 + 8191) / 8192 + (if (space h c.nsid).fmt = 1 then 1 else 0)

/-- PAGES_ALLOCATED (R478): the waiting command of the lowest ISN receives its pages, or starts or goes on with a wait. -/
def execPagesAllocated (s : State) : Res := s.run fun h =>
  match h.engine.cmds.find? (fun c => c.stage == .pages) with
  | none => h
  | some c =>
    let n := pagesFor h c
    if n ≤ getF h BM_POOL_FREE 0 then
      let l := lowestFree (h.buffer.pages.map (fun p => p.1)) 0 n
      let h := onBuffer h (fun b => { b with pages := chainPages c.slot l b.pages, waiting := false })
      onCmd (setF h BM_POOL_FREE 0 (getF h BM_POOL_FREE 0 - n)) c.slot (fun c => { c with stage := .order })
    else
      let news := (h.engine.cmds.filter (fun c => c.stage == .pages && !c.waited)).length
      let h := onEngine h (fun g => { g with cmds := g.cmds.map (fun c => if c.stage = .pages then { c with waited := true } else c) })
      let h := bumpLive h 0x1420 0x011 0 news 32
      if h.buffer.waiting then h else setF (onBuffer h (fun b => { b with waiting := true })) BM_IRQS_POOLW 0 1

/-- PAGES_FREED (R479): the pages of a slot whose command has ended. A Read's pages wait for its completion to be posted; a read takes
its blocks from a gallery in one step (R450), so none is still copying. -/
def execPagesFreed (slot : Nat) (s : State) : Res := s.run fun h =>
  match cmdAt h slot with
  | some c => if c.committed.isSome && !(reads c) then freePages h slot else h
  | none => freePages h slot

/-! Order, and the start of the steps after intake (R440, R449, R450, R580). -/

/-- A write accepted in STATE 3 (R580): SOLOW, and DIVERGENT in its extents. -/
def soloWrite (h : Hw) (es : List Nat) : Hw :=
  if twinState h ≠ 3 then h
  else
    let h := if flagF h HQ_TWIN_SOLOW 0 then h else writePairRecord (setF h HQ_TWIN_SOLOW 0 1)
    makeDivergent h es.eraseDups

/-- Every populated carriage is fenced: every I/O command ends Extent Fenced (R31, R109). -/
def allFenced (h : Hw) : Bool := (List.range 4).all (fun c => !(populated h c) || carFenced h c)

/-- The pieces of a command at the start of its steps, and the check of R440. -/
def startSteps (h : Hw) (v : Vault) (c : Cmd) : Hw :=
  let pieces := if writes c then writePieces h v c
    else if reads c then (split h c.nsid c.slba c.nlb).map (fun (e, f, n) => { entry := e, first := f, count := n, path := .read })
    else []
  let h := onCmd h c.slot (fun c => { c with stage := .ready, since := h.log.optime })
  if allFenced h then fail h c.slot stFenced
  else if pieces.any (fun p => entryFenced h p.entry) then fail h c.slot stFenced
  else if writes c && pieces.any (fun p => (extent h p.entry).readonly) then fail h c.slot stReadOnly
  else
    let h := onCmd h c.slot (fun c => { c with pieces := pieces })
    if writes c && c.source == .host then soloWrite h (pieces.map (fun p => p.entry)) else h

/-- ORDER_RELEASE (R449, R450, R457): no earlier command holds the command of a slot back. -/
def execOrderRelease (slot : Nat) (s : State) : Res := s.runBoth fun h v =>
  match cmdAt h slot with
  | some c => if c.stage = .order ∧ c.verdict.isNone ∧ released h c then (startSteps h v c, v) else (h, v)
  | none => (h, v)

/-! Host data. -/

/-- End a command with an error and none of its effect. -/
def refuseCmd (h : Hw) (slot st : Nat) : Hw := onCmd (fail h slot st) slot (fun c => { c with pieces := [], stage := .ready })

/-- A write's blocks and the metadata the host sent with them, in a namespace of format 1 checked or, with PRACT, made (R427, R428). -/
def acceptData (x : Nspace) (c : Cmd) (blocks metas : List Nat) : Cmd :=
  let c := { c with inGallery := true, blocks := byLba c.slba c.nlb (fun i => blocks.getD i 0 % 2 ^ 32768) }
  if x.fmt ≠ 1 then c
  else { c with metas := byLba c.slba c.nlb (fun i =>
    if makesMeta x c.prot then madeMeta x.pi c.prot (c.slba + i) (textOf c (c.slba + i)) else metas.getD i 0 % 2 ^ 64) }

/-- WRITE_COMMAND (R42 step 2, R427, R428, R443): the data of the Write in a slot, one number a block, and in format 1 its metadata, reach
its gallery and pass the protection checks; `failed`: the transfer from the host failed. The fetch may come before the command's turn
(R449). -/
def execWriteCommand (slot : Nat) (blocks metas : List Nat) (failed : Bool) (s : State) : Res := s.run fun h =>
  match cmdAt h slot with
  | some c =>
    let x := space h c.nsid
    if c.opc ≠ 1 ∨ c.source ≠ .host ∨ c.stage = .pages ∨ c.inGallery ∨ c.verdict.isSome ∨ c.committed.isSome ∨ c.noPost then h
    else if failed then refuseCmd h slot stTransfer
    else if blocks.length ≠ c.nlb ∨ (x.fmt = 1 ∧ !(makesMeta x c.prot) ∧ metas.length ≠ c.nlb) then h
    else
      let d := acceptData x c blocks metas
      let st := if makesMeta x c.prot then 0 else commandProt x d
      if st ≠ 0 then refuseCmd h slot st
      else (List.range c.nlb).foldl (fun h i => blockWritten h slot i) (onCmd h slot (fun c => acceptData x c blocks metas))
  | none => h

/-- WRITE_ZEROES (R443): the command in a slot takes no host data; from here it is a Write of zeros, with metadata of zeros unless PRACT
makes it. -/
def execWriteZeroes (slot : Nat) (s : State) : Res := s.run fun h =>
  match cmdAt h slot with
  | some c =>
    if c.opc = 8 ∧ c.source = .host ∧ !c.inGallery ∧ c.verdict.isNone ∧ c.committed.isNone then onCmd h slot (fun c => acceptData (space h c.nsid) c [] []) else h
  | none => h

/-- Block `lba` as that write gives it to a read. -/
def galleryBlock (h : Hw) (c : Cmd) (lba : Nat) : Option Nat := (galleryOf h c lba).map (fun e => textOf e lba)

/-- A block of a piece whose newest copy lies in the Landing on a fenced head (R281). -/
def onFencedHead (h : Hw) (p : Piece) : Bool :=
  let c := (extent h p.entry).car
  (List.range p.count).any (fun k =>
    let lba := lbaOf h p.entry (p.first + k)
    match (landingCopy h c (extent h p.entry).nsid lba).bind (fun r => landPlace h c (recordPosition r lba)) with
    | some (_, hd, _) => headFenced h c hd
    | none => false)

/-- A read takes what galleries hold and sends the rest of its pieces to the carriages; `bad` lists the pieces whose read outcome is
Unrecovered (R256, R461). A piece with a block whose newest copy lies in the Landing on a fenced head ends Extent Fenced (R281). -/
def startRead (h : Hw) (c : Cmd) (bad : List Nat) : Hw :=
  let lbas := (List.range c.nlb).map (fun i => c.slba + i)
  let blocks := lbas.foldl (fun m a => match galleryBlock h c a with | some b => oset m a (some b) | none => m) c.blocks
  let metas := if (space h c.nsid).fmt ≠ 1 then c.metas
    else lbas.foldl (fun m a => match galleryOf h c a with | some e => oset m a (some (metaOf e a)) | none => m) c.metas
  let whole := fun (p : Piece) => (List.range p.count).all (fun k => (oget blocks (lbaOf h p.entry (p.first + k))).isSome)
  let pieces := c.pieces.mapIdx (fun i p =>
    if whole p then { p with path := .gallery, st := .done }
    else if onFencedHead h p then { p with st := .failed stFenced }
    else if bad.contains i then { p with st := .failed stReadError }
    else { p with st := .started })
  let h := onCmd h c.slot (fun c => { c with blocks := blocks, metas := metas, pieces := pieces, inGallery := pieces.all (fun p => p.st == .done) })
  if pieces.any (fun p => p.st == .failed stFenced) then fail h c.slot stFenced
  else if pieces.any (fun p => p.st == .failed stReadError) then fail h c.slot stReadError else h

/-- A read-type command of opcode `opc` in a slot starts; while a calibration step runs on one of its carriages it is submitted and waits
(R48), and so it does for its turn on each of them (R446, R447). -/
def readStart (h : Hw) (opc slot : Nat) (bad : List Nat) : Hw :=
  match cmdAt h slot with
  | some c =>
    if c.opc = opc ∧ c.stage = .ready ∧ c.verdict.isNone ∧ c.pieces ≠ [] ∧ c.pieces.all (fun p => p.st == .waiting) then
      let cars := ((c.pieces.filter (fun p => !(fromGallery h c p))).map (fun p => (extent h p.entry).car)).eraseDups
      let held := cars.filter (fun k => (cal h k).step.isSome)
      if !held.isEmpty then held.foldl submitTo h
      else if cars.all (fun k => mayIssue h k c) then cars.foldl (fun h k => noteIssue h k false) (startRead h c bad)
      else h
    else h
  | none => h

/-- READ_COMMAND (R273, R451). -/
def execReadCommand (slot : Nat) (bad : List Nat) (s : State) : Res := s.run fun h => readStart h 2 slot bad

/-- VERIFY_COMMAND (R423): as a Read, without data transfer. -/
def execVerifyCommand (slot : Nat) (bad : List Nat) (s : State) : Res := s.run fun h => readStart h 0xC slot bad

/-- FLUSH (R423, R452): every earlier write of the namespace from the same queue has completed. -/
def execFlush (slot : Nat) (s : State) : Res := s.run fun h =>
  match cmdAt h slot with
  | some c =>
    if c.opc = 0 ∧ c.stage = .ready ∧ !((earlier h c).any (fun e => writes e && e.port == c.port && e.sq == c.sq && e.source == .host)) then
      fail h slot stOk
    else h
  | none => h

/-! The Landing (R268-R273, R281, R476, R551). -/

/-- Data sectors of a Landing piece: one more for metadata in format 1 (R444). -/
def landSectors (h : Hw) (c : Cmd) (p : Piece) : Nat := p.count + (if (space h c.nsid).fmt = 1 then 1 else 0)

/-- Landing writes of carriage `c` wait (R445, R472). -/
def setLwait (h : Hw) (c : Nat) (on : Bool) : Hw := setF h HQ_STAT_LWAIT 0 (putBit (getF h HQ_STAT_LWAIT 0) c on)

/-- LANDING_WRITE (R268-R270, R476): the data sectors of Landing piece `i` of the write in a slot are written from FM_LHEAD on, a metadata
sector last in format 1 (R444), then its record; `fails` are the positions that fail verify, `gap` those that carry fillers before the
record. -/
def execLandingWrite (slot i : Nat) (fails : List Nat) (gap : Nat) (s : State) : Res := s.run fun h =>
  match cmdAt h slot with
  | some c =>
    match c.pieces[i]? with
    | some p =>
      let k := (extent h p.entry).car
      if c.stage ≠ .ready ∨ p.path ≠ .landing ∨ p.st ≠ .started ∨ p.pushed ∨ p.cipher.length ≠ p.count ∨ entryFenced h p.entry ∨
         (path h k).noWrite ∨ heldBack h k c ∨ movesWait h then h
      else if (cal h k).step.isSome then submitTo h k
      else if landFree h k < 131 then setLwait (checkSpace h k) k true
      else if !(mayIssue h k c) then h
      else if 32768 ≤ indexUsed h k then setF (setLwait h k true) BM_IRQS_LIDXF 0 1
      else match placeLanding h k (landSectors h c p) fails gap with
      | some w =>
        let meta' := (space h c.nsid).fmt = 1
        let texts := if meta' then p.cipher ++ [packMetas ((List.range p.count).map (fun j => metaOf c (lbaOf h p.entry (p.first + j))))] else p.cipher
        let h := addRecord (setLwait h k false) k w
          { seq := lseq h k + 1, nsid := c.nsid, sdu := lbaOf h p.entry p.first, count := p.count, lpos := 0, posmap := 0, kgen := p.kgen,
            ordered := c.ordered, mirrored := (extent h p.entry).mirrored, pos := 0, dseq := ldseq h k } texts
        onPiece (noteIssue (checkSpace h k) k false) slot i (fun q => { q with pushed := true })
      | none => h
    | none => h
  | none => h

/-- PIECE_ON_MEDIUM (R453): the record of a Landing piece has passed verify, or every sector of a stream piece stands at home with
outcome 0 or 1; `err` is 0 or Write Fault (R461). -/
def execPieceOnMedium (slot i err : Nat) (s : State) : Res := s.run fun h =>
  match cmdAt h slot with
  | some c =>
    match c.pieces[i]? with
    | some p =>
      if c.stage ≠ .ready ∨ p.st ≠ .started ∨ !(writes c) ∨ p.cipher.length ≠ p.count ∨ entryFenced h p.entry ∨ (p.path = .stream ∧ movesWait h) then h
      else if p.path = .stream ∧ heldBack h (extent h p.entry).car c then h
      else if p.path = .stream ∧ (cal h (extent h p.entry).car).step.isSome then submitTo h (extent h p.entry).car
      else if err = stWriteFault then
        fail (onPiece h slot i (fun q => { q with st := .failed stWriteFault })) slot stWriteFault
      else if err ≠ 0 then h
      else if p.path = .landing then
        (if p.pushed then onPath (onPiece h slot i (fun q => { q with st := .done })) (extent h p.entry).car (fun x => { x with gaps := [] }) else h)
      else if p.path ≠ .stream then h
      else if landHeld h p.entry p.first p.count then urge h p.entry p.first p.count
      else if !(mayIssue h (extent h p.entry).car c) then h
      else noteIssue (onPiece (putHome h p.entry p.first p.cipher) slot i (fun q => { q with st := .done })) (extent h p.entry).car false
    | none => h
  | none => h

/-- A position of a record stays pinned: it holds the newest copy of its block. -/
def stillPinned (h : Hw) (c p : Nat) : Bool :=
  (path h c).records.any (fun r => (List.range r.count).any (fun j =>
    dataPosition r.lpos r.posmap j == p && (match landingCopy h c r.nsid (r.sdu + j) with | some q => q.seq == r.seq | none => false)))

/-- Move the metadata of block `j` of record `r` home when it is the newest (R444), unless the block stays in the Landing. -/
def destageMeta (h : Hw) (c : Nat) (r : LRec) (j : Nat) : Hw :=
  let lba := r.sdu + j
  match metaRecord h c r.nsid lba, entryOf h r.nsid (lba / extentBlocks) with
  | some q, some e =>
    if q.seq = r.seq ∧ !((path h c).pins.contains (recordPosition r lba)) then putMeta h e (lba % extentBlocks) (recordMeta h c r lba) else h
  | _, _ => h

/-- Pin the Landing position of a block (R276, R281, R551). -/
def pinPosition (h : Hw) (c pos : Nat) : Hw := onPath h c (fun p => { p with pins := if p.pins.contains pos then p.pins else p.pins ++ [pos] })

/-- Write a block home and end the pin of its Landing position. -/
def moveHome (h : Hw) (c e b pos : Nat) : Hw :=
  putHome (onPath h c (fun p => { p with pins := p.pins.filter (fun x => !(x == pos)) })) e b [zget (path h c).landData pos]

/-- The home sector of a block being destaged fails for good: it is reassigned, the reserve included; with none left the data stays in its
Landing position (R265, R274, R276). -/
def destageSpare (h : Hw) (c e b pos : Nat) : Hw :=
  match bandSector h c (extent h e).head (extent h e).btrk b with
  | some (track, index) =>
    if (nextSpare h c (extent h e).head track).isSome then moveHome (reassign h c (extent h e).head track index 1 true) c e b pos else pinPosition h c pos
  | none => pinPosition h c pos

/-- Move block `j` of record `r` home, or pin its position: a held copy (R551), a fenced head (R281), a spent reserve (R276); `bad` lists the
data sectors whose home sector fails for good. -/
def destageBlock (h : Hw) (c : Nat) (r : LRec) (bad : List Nat) (j : Nat) : Hw :=
  let lba := r.sdu + j
  let pos := recordPosition r lba
  match landingCopy h c r.nsid lba, entryOf h r.nsid (lba / extentBlocks) with
  | some q, some e =>
    if q.seq ≠ r.seq then h
    else
      let b := lba % extentBlocks
      if r.kgen ≠ homeGen h e b ∨ entryFenced h e then pinPosition h c pos
      else if bad.contains j then destageSpare h c e b pos
      else moveHome h c e b pos
  | _, _ => h

/-- DSEQ and FM_LTAIL after a destage (R271, R551): DSEQ passes no record in the index, nor one with a pinned position that no
checkpoint lists. -/
def advanceDseq (h : Hw) (c : Nat) : Hw :=
  let p := path h c
  let kept := p.records.filter (fun r => decide (ldseq h c ≤ r.seq) && ((lget h.buffer.landIndex c).contains r.seq ||
    (List.range r.count).any (fun j => p.pins.contains (dataPosition r.lpos r.posmap j) && !(p.check.pins.contains (dataPosition r.lpos r.posmap j)))))
  let seqs := kept.map (fun r => r.seq)
  let d := max (ldseq h c) (match seqs.min? with | some q => q | none => lseq h c + 1)
  let h := onPath (setLdseq h c d) c (fun q => { q with orderly := q.orderly && d == ldseq h c })
  match p.records.find? (fun r => r.seq == d) with
  | some r => setF h FM_LTAIL_VALUE (inst c) r.lpos
  | none => setF h FM_LTAIL_VALUE (inst c) (lhead h c)

/-- A record can be destaged: it stands in the index, or one of its positions is pinned. -/
def destageable (h : Hw) (c : Nat) (r : LRec) : Bool :=
  (lget h.buffer.landIndex c).contains r.seq || (List.range r.count).any (fun j => (path h c).pins.contains (dataPosition r.lpos r.posmap j))

/-- The record is moved home block by block, its index entries go, DSEQ passes what it may (R271, R276). -/
def destageRecord (h : Hw) (c : Nat) (r : LRec) (bad : List Nat) : Hw :=
  let was := (path h c).pins.length
  let h := (List.range r.count).foldl (fun h j => destageMeta (destageBlock h c r bad j) c r j) h
  let h := landIndexDrop h c r.seq
  let h := onPath h c (fun p => { p with pins := p.pins.filter (stillPinned h c) })
  let h := showDefects (advanceDseq h c) c
  let h := if landingFull h c then h else setLwait h c false
  if was ≤ 1024 ∧ 1024 < (path h c).pins.length then raiseFault h (carPath c 0x330) 8 false else h

/-- DESTAGE (R271, R276, R281, R551): the record `seq` of carriage `c` is moved home; `bad` lists the data sectors whose home sector fails
for good; `us`: the microseconds that the carriage runs the request, which BUSY of the record's namespace takes (R555). -/
def execDestage (c seq : Nat) (bad : List Nat) (us : Nat) (s : State) : Res := s.run fun h =>
  match (path h c).records.find? (fun r => r.seq == seq) with
  | some r =>
    if carFenced h c ∨ !(populated h c) ∨ !(destageAllowed h c seq) ∨ (path h c).noWrite ∨ !(destageable h c r) then h
    else onLedger (noteIssue (destageRecord h c r bad) c true) r.nsid (addBusy c us)
  | none => h

/-- What a Landing position holds of the journal (R246, R278): it decodes with a type-1 seed only when it was written so. KIND and fields. -/
def journalAt (h : Hw) (c p : Nat) : Option (Nat × LRec) :=
  if zget (path h c).journal p = 1 then journalRecord p (zget (path h c).landData p) else none

/-- The records that replay accepts from position `p` on, after record `seq` (R278): `left` positions may still pass without the next record;
a filler of that SEQ is one of them. -/
def acceptFrom (h : Hw) (c : Nat) : Nat → Nat → Nat → Nat → List LRec
  | 0, _, _, _ => []
  | n + 1, p, seq, left =>
    match journalAt h c p with
    | some (1, r) =>
      if r.seq = seq + 1 then r :: acceptFrom h c n (ringNext p) r.seq 131
      else if left ≤ 1 then [] else acceptFrom h c n (ringNext p) seq (left - 1)
    | _ => if left ≤ 1 then [] else acceptFrom h c n (ringNext p) seq (left - 1)

/-- The records accepted from the checkpoint on; one turn of the ring at most. -/
def acceptRecords (h : Hw) (c : Nat) : List LRec := acceptFrom h c ringSize (path h c).check.lhead (path h c).check.seq 131

/-- What replay finds (R278): the newest SEQ and DSEQ, FM_LHEAD, and every record not destaged, oldest first: those of the checkpoint's time, which
stand between its FM_LTAIL and FM_LHEAD, and the accepted ones. -/
structure Replayed where
  seq : Nat
  dseq : Nat
  head : Nat
  live : List LRec
  deriving DecidableEq, Repr

/-- Put a record in its place by SEQ. -/
def bySeq (r : LRec) : List LRec → List LRec
  | [] => [r]
  | q :: l => if r.seq < q.seq then r :: q :: l else q :: bySeq r l

/-- The journal's records of the checkpoint's time that `dseq` has not passed. -/
def olderRecords (h : Hw) (c dseq : Nat) : List LRec :=
  let k := (path h c).check
  ((path h c).journal.filterMap (fun p => match journalAt h c p.1 with
    | some (1, r) => if dseq ≤ r.seq ∧ r.seq ≤ k.seq ∧ ringGap k.ltail r.pos < ringGap k.ltail k.lhead then some r else none
    | _ => none)).foldl (fun l r => bySeq r l) []

def readJournal (h : Hw) (c : Nat) : Replayed :=
  let k := (path h c).check
  let new := acceptRecords h c
  let dseq := new.foldl (fun d r => max d r.dseq) k.dseq
  { seq := match new.getLast? with | some r => r.seq | none => k.seq
    dseq := dseq
    head := match new.getLast? with | some r => ringNext r.pos | none => k.lhead
    live := olderRecords h c dseq ++ new.filter (fun r => decide (dseq ≤ r.seq)) }

/-- Replay of the journal of carriage `c` from its checkpoint (R278, R551). -/
def replay (h : Hw) (c : Nat) : Hw :=
  let k := (path h c).check
  let x := readJournal h c
  let h := onBuffer h (fun b => { b with landIndex := lset b.landIndex c (x.live.map (fun r => r.seq)) })
  let h := setLdseq (setLseq h c x.seq) c x.dseq
  let tail := match x.live.head? with | some r => r.lpos | none => x.head
  let h := setF (setF h FM_LHEAD_VALUE (inst c) x.head) FM_LTAIL_VALUE (inst c) tail
  showDefects (onPath h c (fun p => { p with pins := k.pins, sinceCheck := 0, records := x.live })) c

/-- Every data sector of the records not destaged matches its DCRC (R278). -/
def dcrcGood (h : Hw) (c : Nat) : Bool :=
  (readJournal h c).live.all (fun r => (List.range r.count).all (fun j =>
    crc32c (leBytes 4096 (zget (path h c).landData (dataPosition r.lpos r.posmap j))) == r.dcrc.getD j 0))

/-- Replay, or failure 0x0D (R111, R278): `readable`: every data position of a record not destaged was read; each must match its DCRC. -/
def replayOr (h : Hw) (c : Nat) (readable : Bool) : Hw := if readable && dcrcGood h c then replay h c else startFail h 0x0D (carPath c 0)

/-- REPLAY (R278, R111). -/
def execReplay (c : Nat) (readable : Bool) (s : State) : Res := s.run fun h =>
  if populated h c ∧ !(carFenced h c) ∧ domainUp h (11 + 3 * c) then replayOr h c readable else h

/-! Completion (R453, R454, R459-R463). -/

def settled (p : Piece) : Bool := match p.st with | .done => true | .failed _ => true | _ => false

/-- The status of a read or Verify whose data is captured: an uncorrectable beat of its gallery (R484), its protection checks, then the transfer of
a read to the host (R428, R453, R461). -/
def readStatusOf (h : Hw) (c : Cmd) (failed : Bool) : Nat :=
  let st := commandProt (space h c.nsid) c
  if c.opc = 2 ∧ (List.range c.nlb).any (fun i => blockBad h c.slot i) then stReadError
  else if st ≠ 0 then st else if failed && c.opc == 2 then stTransfer else stOk

/-- The status with which the command can be committed now, if it can (R453, R459, R462, R576, R579). -/
def commitStatus (h : Hw) (c : Cmd) (failed : Bool) : Option Nat :=
  if c.committed.isSome || h.engine.lossHold then none
  else match c.verdict with
    | some st => if c.pieces.all (fun p => settled p && p.waitsAck.isEmpty) then some st else none
    | none =>
      if c.stage ≠ .ready ∨ c.pieces = [] ∨ !(c.pieces.all (fun p => p.st == .done)) then none
      else if writes c then (if c.pieces.all (fun p => p.waitsAck.isEmpty) && soloDurable h c then some 0 else none)
      else if c.inGallery then some (readStatusOf h c failed)
      else none

/-- A read's data goes to the host (R427): its blocks, in format 1 with their metadata behind each block or in a buffer of its own; PRACT
strips what is protection information alone. -/
def deliver (h : Hw) (c : Cmd) : Hw :=
  let x := space h c.nsid
  let lbas := (List.range c.nlb).map (fun i => c.slba + i)
  if x.fmt ≠ 1 ∨ makesMeta x c.prot then emit h (.data c.port c.addr (lbas.map (textOf c)))
  else if x.mset then emit h (.data c.port c.addr (lbas.map (fun a => textOf c a + 2 ^ 32768 * metaOf c a)))
  else emit (emit h (.data c.port c.addr (lbas.map (textOf c)))) (.metadata c.port c.maddr (lbas.map (metaOf c)))

/-- COMPLETION_COMMIT (R453, R454): the completion slot of the command is committed once. `failed`: the delivery of a
read's data to the host failed. -/
def execCompletionCommit (slot : Nat) (failed : Bool) (s : State) : Res := s.run fun h =>
  match cmdAt h slot with
  | some c =>
    (match commitStatus h c failed with
     | some st =>
       let h := if c.opc = 2 ∧ c.verdict.isNone then (List.range c.nlb).foldl (fun h i => blockFound h slot i) h else h
       let h := if st = 0 ∧ c.opc = 2 ∧ c.source = .host then deliver h c else h
       let last : Bool := match c.source with | .chunk _ => st == 0 && (c.slba + c.nlb) % extentBlocks == 0 | _ => false
       let h := if last then resilverDone (changeExtents h (c.pieces.map (fun p => p.entry)) (fun e => { e with divergent := false })) else h
       flushAcks (commit h c st)
     | none =>
       if twinState h = 3 ∧ writes c ∧ c.source = .host ∧ c.pieces.all (fun p => p.st == .done) then soloWrite h (c.pieces.map (fun p => p.entry)) else h)
  | none => h

/-- COMPLETION_POST (R435, R454): the oldest committed completion of completion queue `cq` of port `p` is posted; `head` is where the
host's doorbell says the queue's head is. A full queue waits. -/
def execCompletionPost (p cq head : Nat) (s : State) : Res := s.run fun h =>
  match oget (port h p).cqs cq with
  | none => h
  | some q =>
    let q := { q with head := head % (max 1 q.size) }
    let h := onPort h p (fun x => { x with cqs := oset x.cqs cq (some q) })
    match h.engine.posting.find? (fun e => e.1 == p && e.2.1 == cq) with
    | none => h
    | some e =>
      if (q.tail + 1) % (max 1 q.size) = q.head then h
      else
        let tail := (q.tail + 1) % (max 1 q.size)
        let h := onPort h p (fun x => { x with cqs := oset x.cqs cq (some { q with tail := tail, phase := if tail = 0 then !q.phase else q.phase }) })
        let h := onEngine h (fun g => { g with posting := g.posting.eraseP (fun f => f.1 == p && f.2.1 == cq) })
        let sqhd := match oget (port h p).sqs e.2.2.2.1 with | some x => x.head | none => 0
        let h := emit h (.completion p cq e.2.2.1 (statusField e.2.2.2.2.1) e.2.2.2.2.2 e.2.2.2.1 sqhd q.phase)
        let h := if q.ien then emit h (.msix p q.vector) else h
        let h := onEngine h (fun g => { g with
          cmds := g.cmds.eraseP (fun c => c.source == .host && c.port == p && c.sq == e.2.2.2.1 && c.cid == e.2.2.1 && c.committed.isSome) })
        shutdownCheck (countEngine h 1 1) p

/-- What an Abort or a preemption leaves of a command (R460): pieces whose record is pushed and pieces done. -/
def stopCmd (h : Hw) (slot : Nat) : Hw :=
  onCmd (fail h slot stAborted) slot (fun c => { c with pieces := c.pieces.filter (fun p => p.pushed || p.st == .done), stage := .ready })

/-- ABORT (R458-R460, R577): Abort `cid` of port `p` names command `tcid` of queue `sq`. -/
def execAbort (p cid sq tcid : Nat) (s : State) : Res := s.run fun h =>
  if !(adminUp h p) then h else
  let h := fetched h p
  if 4 ≤ (port h p).aborts.length then adminDone h p cid 0x103 0
  else if sq = 0 ∧ (port h p).aers.contains tcid then
    let h := onPort (countEngine h 2 1) p (fun x => { x with aers := x.aers.filter (fun a => !(a == tcid)) })
    adminDone (adminDone h p tcid stAborted 0) p cid 0 0
  else
    match h.engine.cmds.find? (fun c => c.source == .host && c.port == p && c.sq == sq && c.cid == tcid && c.committed.isNone && !c.noPost) with
    | none => adminDone (countEngine h 3 1) p cid 0 1
    | some c =>
      let h := onPort h p (fun x => { x with aborts := x.aborts ++ [(cid, sq, tcid)] })
      if c.pieces.any (fun q => q.sent) then onCmd h c.slot (fun c => { c with abortHeld := true })
      else stopCmd (countEngine h 2 1) c.slot

/-- FENCE_DURING_EXECUTION (R281, R462): every command in flight with an unfinished piece on a fenced carriage or surface ends with
Extent Fenced; its other pieces go on. -/
def execFenceDuringExecution (s : State) : Res := s.run fun h =>
  let hit := fun (p : Piece) => entryFenced h p.entry && !(settled p)
  onEngine h (fun g => { g with cmds := g.cmds.map (fun c =>
    if c.committed.isNone && c.pieces.any hit then
      { c with
        verdict := if c.verdict.isNone then some stFenced else c.verdict
        pieces := c.pieces.map (fun p => if hit p then { p with st := .failed stFenced } else p) }
    else c) })

/-- A command whose work is done: committed, decided, or every piece of it settled. -/
def onMedium (c : Cmd) : Bool := c.committed.isSome || c.verdict.isSome || (!c.pieces.isEmpty && c.pieces.all settled)

/-- The 200 ms of steps 1 and 2 of a hot removal or a thermal hold are over (R121, R603). -/
def drained (h : Hw) : Bool :=
  match h.boot.drainAt with
  | some t => decide (t + 200 ≤ h.log.optime)
  | none => false

/-- HOT_REMOVAL_ABANDON (R121, R603): 200 ms into a hot removal or a thermal hold, every command not yet on the medium is abandoned;
a removal goes on with step 4. -/
def execHotRemovalAbandon (s : State) : Res := s.run fun h =>
  if drained h then
    let h := onBoot h (fun b => { b with drainAt := none })
    let gone := h.engine.cmds.filter (fun c => !(onMedium c))
    let h := onEngine h (fun g => { g with cmds := g.cmds.filter onMedium })
    let h := countEngine h 4 (gone.filter (fun c => c.source == .host)).length
    if h.boot.removal = .draining then afterParked (unloadAll (onBoot h (fun b => { b with removal := .unloading }))) else h
  else h

/-! The copies of the extent map (R442). -/

/-- Carriages whose copy of the map a change waits for. -/
def mapCarriages (h : Hw) : List Nat := (List.range 4).filter (fun c => populated h c && !(carFenced h c))

/-- Every copy that a change waits for holds it. -/
def mapWritten (h : Hw) : Bool :=
  (mapCarriages h).all (fun c => match oget h.engine.mapCopies c with | some x => x.1 == h.engine.mapSeq | none => h.engine.mapSeq == 0)

/-- EXTENT_MAP_CHANGE (R442): the whole map is written, with verify, to the system area of carriage `c`; once every populated, unfenced
carriage holds it, what waited for the change completes. -/
def execExtentMapChange (c : Nat) (s : State) : Res := s.run fun h =>
  let h := if (mapCarriages h).contains c then
      onEngine h (fun g => { g with mapCopies := oset g.mapCopies c (some (g.mapSeq, g.extents)) }) else h
  if h.engine.mapDue && mapWritten h then
    onEngine h (fun g => { g with mapDue := false, posting := g.posting ++ g.mapWait, mapWait := [] })
  else h

/-- The completion of an admin command that may have changed the map: it waits for the copies (R442 step 4). -/
def adminAfterMap (h : Hw) (p cid st : Nat) : Hw :=
  if h.engine.mapDue then onEngine h (fun g => { g with mapWait := g.mapWait ++ [(p, 0, cid, 0, st, 0)] }) else adminDone h p cid st 0

/-! State messages (R570, R576). -/

/-- The namespace record of a State message (R570), whose layout is the model's: NSID (4) at 0, NSZE (8) at 8, LBA format, protection type,
reservation type, holder, operation, PTPL, number of registrants (1 each) at 0x10, reservation generation (4) at 0x18, the operation's
fields (4 each, at most 5) at 0x1C, then 24 bytes for each registrant: controller (8), key (8), host identifier (8). -/
def stateBytes (n op : Nat) (args : List Nat) (x : Nspace) : List (BitVec 8) :=
  leBytes 4 n ++ zeros 4 ++ leBytes 8 x.size ++ leBytes 1 x.fmt ++ leBytes 1 x.pi ++ leBytes 1 x.rtype ++ leBytes 1 x.holder ++ leBytes 1 op ++
  leBytes 1 x.ptpl.toNat ++ leBytes 1 x.regs.length ++ zeros 1 ++ leBytes 4 x.rgen ++ padTo 20 (args.flatMap (leBytes 4)) ++ zeros 16 ++
  x.regs.flatMap (fun r => leBytes 8 r.ctrl ++ leBytes 8 r.key ++ leBytes 8 r.hostId)

/-- Send one namespace record with an operation to the second twin: 0 none, 1 create, 2 delete, 3 Format NVM, 4 Sanitize. -/
def sendState (h : Hw) (n op : Nat) (args : List Nat) : Hw := sendMessage h 5 { plainFrame (stateBytes n op args (space h n)) with nsid := n }

/-- Mirror a change of a namespace when this is the active twin. -/
def mirrorState (h : Hw) (n op : Nat) (args : List Nat) : Hw := if mirrors h then sendState h n op args else h

/-! Reservations (R423 and the NVMe specification). -/

/-- A reservation command of opcode `opc` in a slot whose steps have started: `f` gives the state and the status. -/
def reservation (h : Hw) (opc slot : Nat) (f : Hw → Cmd → Hw × Nat) : Hw :=
  match cmdAt h slot with
  | some c =>
    if c.opc = opc ∧ c.stage = .ready ∧ c.verdict.isNone ∧ c.committed.isNone then
      let (h, st) := f h c
      fail h slot st
    else h
  | none => h

/-- Log a reservation notification for a controller, unless its mask (feature 0x82) suppresses it. -/
def notice (h : Hw) (p n kind : Nat) : Hw :=
  if bitAt (mget featureDefault (port h p).features 0x82) kind then h
  else asyncEvent (onPort h p (fun x => { x with notices := x.notices ++ [(kind, n)] })) p 0x00800006

/-- Notify the registrants of a list other than controller `p`. -/
def notices (h : Hw) (rs : List Registrant) (p n kind : Nat) : Hw :=
  rs.foldl (fun h r => if r.ctrl = p then h else notice h r.ctrl n kind) h

/-- The reservation of a namespace ends when its holder has gone. -/
def dropHolder (n : Nspace) : Nspace :=
  if n.rtype = 0 then n
  else if 5 ≤ n.rtype then (if n.regs.isEmpty then { n with rtype := 0, holder := 0 } else n)
  else if n.regs.any (fun r => r.ctrl == n.holder) then n else { n with rtype := 0, holder := 0 }

/-- RESERVATION_REGISTER: action `rrega` 0 register, 1 unregister, 2 replace; `iekey` ignores the current key; `cptpl` 2 and 3 clear and
set persistence through power loss. -/
def execReservationRegister (slot rrega : Nat) (iekey : Bool) (crkey nrkey cptpl : Nat) (s : State) : Res := s.run fun h =>
  reservation h 0x0D slot fun h c =>
    let p := c.port
    let me := registrant h c.nsid p
    let match' := iekey || (match me with | some r => r.key == crkey | none => false)
    let done := fun (f : Nspace → Nspace) =>
      let h := onSpace h c.nsid (fun n =>
        let n := f n
        { n with
          rgen := (n.rgen + 1) % 2 ^ 32
          ptpl := if cptpl = 2 then false else if cptpl = 3 then true else n.ptpl })
      (mirrorState h c.nsid 0 [], stOk)
    if rrega = 0 then
      (match me with
       | some r => if r.key = nrkey then done id else (h, stReservation)
       | none => done (fun n => { n with regs := n.regs ++ [{ ctrl := p, key := nrkey % 2 ^ 64, hostId := hostIdOf h p }] }))
    else if rrega = 1 then
      if me.isSome && match' then done (fun n => dropHolder { n with regs := n.regs.filter (fun r => !(sameHost h p r)) }) else (h, stReservation)
    else if rrega = 2 then
      if me.isNone && iekey then done (fun n => { n with regs := n.regs ++ [{ ctrl := p, key := nrkey % 2 ^ 64, hostId := hostIdOf h p }] })
      else if me.isSome && match' then done (fun n => { n with regs := n.regs.map (fun r => if sameHost h p r then { r with key := nrkey % 2 ^ 64 } else r) })
      else (h, stReservation)
    else (h, stField)

/-- Controller `p` is a registrant with key `crkey`, or the key is ignored. -/
def keyed (h : Hw) (n p : Nat) (iekey : Bool) (crkey : Nat) : Bool :=
  match registrant h n p with
  | some r => iekey || r.key == crkey
  | none => false

/-- Preempt the registrants with key `prkey`. -/
def preempt (h : Hw) (c : Cmd) (prkey rtype : Nat) (stop : Bool) : Hw × Nat :=
  let n := space h c.nsid
  let p := c.port
  let all : Bool := decide (5 ≤ n.rtype)
  let holderKey := (n.regs.find? (fun r => r.ctrl == n.holder)).map (fun r => r.key)
  let out := fun (r : Registrant) => if all && prkey == 0 then !(sameHost h p r) else r.key == prkey
  let takes : Bool := n.rtype != 0 && ((all && prkey == 0) || (!all && holderKey == some prkey))
  let gone := n.regs.filter out
  if !takes ∧ gone.isEmpty then (h, if prkey = 0 then stField else stReservation)
  else
    let h := onSpace h c.nsid (fun n =>
      let n := { n with regs := n.regs.filter (fun r => !(out r) || (takes && sameHost h p r)), rgen := (n.rgen + 1) % 2 ^ 32 }
      if takes then { n with rtype := rtype, holder := p } else dropHolder n)
    let h := notices h gone p c.nsid 1
    let h := if stop then
        (h.engine.cmds.filter (fun x => x.source == .host && x.nsid == c.nsid && x.port != p && x.committed.isNone && gone.any (fun r => r.ctrl == x.port)
          && !(x.pieces.any (fun q => q.sent)))).foldl (fun h x => stopCmd h x.slot) h
      else h
    (mirrorState h c.nsid 0 [], stOk)

/-- RESERVATION_ACQUIRE: action `racqa` 0 acquire, 1 preempt, 2 preempt and abort. -/
def execReservationAcquire (slot racqa : Nat) (iekey : Bool) (crkey prkey rtype : Nat) (s : State) : Res := s.run fun h =>
  reservation h 0x11 slot fun h c =>
    let n := space h c.nsid
    if rtype = 0 ∨ 6 < rtype ∨ 2 < racqa then (h, stField)
    else if !(keyed h c.nsid c.port iekey crkey) then (h, stReservation)
    else if racqa = 0 then
      if n.rtype = 0 then (mirrorState (onSpace h c.nsid (fun n => { n with rtype := rtype, holder := c.port })) c.nsid 0 [], stOk)
      else if holds h c.nsid c.port ∧ n.rtype = rtype then (h, stOk)
      else (h, stReservation)
    else preempt h c prkey rtype (racqa == 2)

/-- RESERVATION_RELEASE: action `rrela` 0 release, 1 clear. -/
def execReservationRelease (slot rrela : Nat) (iekey : Bool) (crkey rtype : Nat) (s : State) : Res := s.run fun h =>
  reservation h 0x15 slot fun h c =>
    let n := space h c.nsid
    if 1 < rrela then (h, stField)
    else if !(keyed h c.nsid c.port iekey crkey) then (h, stReservation)
    else if rrela = 1 then
      let h := notices (onSpace h c.nsid (fun n => { n with rtype := 0, holder := 0, regs := [], rgen := (n.rgen + 1) % 2 ^ 32 })) n.regs c.port c.nsid 3
      (mirrorState h c.nsid 0 [], stOk)
    else if n.rtype = 0 ∨ !(holds h c.nsid c.port) then (h, stOk)
    else if n.rtype ≠ rtype then (h, stField)
    else
      let h := onSpace h c.nsid (fun n => { n with rtype := 0, holder := 0 })
      let h := if n.rtype = 3 ∨ n.rtype = 4 ∨ 5 ≤ n.rtype then notices h n.regs c.port c.nsid 2 else h
      (mirrorState h c.nsid 0 [], stOk)

/-- The Reservation Status structure of the NVMe specification. -/
def reservationBytes (n : Nspace) : List (BitVec 8) :=
  leBytes 4 n.rgen ++ leBytes 1 n.rtype ++ leBytes 2 n.regs.length ++ leBytes 2 0 ++ leBytes 1 n.ptpl.toNat ++ leBytes 14 0 ++
  n.regs.flatMap (fun r =>
    let held : Bool := n.rtype != 0 && (decide (5 ≤ n.rtype) || r.ctrl == n.holder)
    leBytes 2 (r.ctrl + 1) ++ leBytes 1 held.toNat ++ leBytes 5 0 ++ leBytes 8 r.hostId ++ leBytes 8 r.key)

/-- RESERVATION_REPORT: the status of the namespace's reservation is returned. -/
def execReservationReport (slot numd : Nat) (s : State) : Res := s.run fun h =>
  reservation h 0x0E slot fun h c =>
    (emit h (.host c.port c.addr ((reservationBytes (space h c.nsid)).take (4 * (numd + 1)))), stOk)

end Sys2Proof.Machine
end

