-- ==== Sys2Proof/Machine/Admin.lean ====
section
/-! DEFINITION. Admin commands: log pages, Identify, namespaces, Format NVM and Sanitize (R423-R429, R441, R464-R468, R546). -/
namespace Sys2Proof.Machine

/-! Pages of bytes. A byte that the spec leaves to the NVMe specifications and that this model does not fix is a free value. -/

/-- `n` free bytes by the present draw. -/
def freeBytes (h : Hw) (n : Nat) : List (BitVec 8) := (List.range n).map (fun i => BitVec.ofNat 8 (Config.freeNat h.freeCtr / 256 ^ i))

/-- Put bytes at an offset of a page. -/
def putAt (page : List (BitVec 8)) (off : Nat) (l : List (BitVec 8)) : List (BitVec 8) := page.take off ++ l ++ page.drop (off + l.length)

/-- Put fields (offset, size, value) into a page. -/
def putFields (page : List (BitVec 8)) (l : List (Nat × Nat × Nat)) : List (BitVec 8) := l.foldl (fun p f => putAt p f.1 (leBytes f.2.1 f.2.2)) page

/-! Namespaces as the host sees them. -/

/-- Namespaces that exist, rising. -/
def spacesIn (h : Hw) : List Nat := (h.engine.spaces.filter (fun p => p.2.size != 0)).map (fun p => p.1)
def attachedTo (h : Hw) (p : Nat) : List Nat := (spacesIn h).filter (fun n => bitAt (space h n).attached p)

/-- NGUID (R426): DID in the low 8 bytes, the NSID and the creation count in the high 8. -/
def nguid (h : Hw) (n : Nat) : List (BitVec 8) := leBytes 8 Config.deviceId ++ leBytes 4 n ++ leBytes 4 (space h n).creations

/-- Identify Namespace. -/
def identifySpace (h : Hw) (n : Nat) : List (BitVec 8) :=
  let x := space h n
  let dps := x.pi + 8 * x.pil.toNat
  putAt (putFields (freeBytes h 4096)
    [(0, 8, x.size), (8, 8, x.cap), (25, 1, 1), (26, 1, x.fmt + 16 * x.mset.toNat), (27, 1, 3), (28, 1, 0x1D), (29, 1, dps), (30, 1, 1), (33, 1, 0),
     (128, 4, 12 * 2 ^ 16), (132, 4, 8 + 12 * 2 ^ 16)]) 104 (nguid h n)

/-- A power state descriptor (R468): MP in 0.01 W, non-operational, latencies in us, relative figure. -/
def powerDescriptor (ps : Nat) : List (BitVec 8) :=
  let row := [(1400, 0, 0, 0, 0), (1000, 0, 1000, 1000, 1), (750, 0, 1000, 1000, 2), (400, 1, 2000, 2000, 2), (90, 1, 15000000, 20000000, 2)].getD ps (0, 0, 0, 0, 0)
  let r := row.2.2.2.2
  leBytes 2 row.1 ++ leBytes 1 0 ++ leBytes 1 (2 * row.2.1) ++ leBytes 4 row.2.2.1 ++ leBytes 4 row.2.2.2.1 ++ leBytes 1 r ++ leBytes 1 r ++
  leBytes 1 r ++ leBytes 1 r ++ zeros 16

/-- The subsystem NQN (R421): "nqn.2014-08.org.nvmexpress:uuid:" and the UUID. -/
def subsystemNqn : List (BitVec 8) :=
  ([0x6E, 0x71, 0x6E, 0x2E, 0x32, 0x30, 0x31, 0x34, 0x2D, 0x30, 0x38, 0x2E, 0x6F, 0x72, 0x67, 0x2E, 0x6E, 0x76, 0x6D, 0x65, 0x78, 0x70, 0x72, 0x65, 0x73, 0x73,
    0x3A, 0x75, 0x75, 0x69, 0x64, 0x3A] : List (BitVec 8)) ++ Config.nqnUuid

/-- Identify Controller (R410, R421, R423, R425, R458, R464, R465, R468, R469): the fields that follow from them, by their places in the NVMe
specifications (log entry 43). -/
def identifyController (h : Hw) (p : Nat) : List (BitVec 8) :=
  let page := putFields (freeBytes h 4096)
    [(76, 1, 3), (77, 1, 8), (78, 2, p + 1), (80, 4, 0x00020000), (258, 1, 3), (259, 1, 7), (263, 1, 4), (72, 1, 3), (96, 4, 0x80), (516, 4, 128), (524, 1, 4), (525, 1, 0),
     (526, 2, 0), (528, 2, 0), (540, 4, 128), (0, 2, Config.vendorId), (2, 2, Config.vendorId), (111, 1, 1), (256, 2, 0xA), (262, 1, 63), (265, 1, 1),
     (272, 4, 0), (276, 4, 0), (320, 2, 0), (328, 4, 5), (512, 1, 0x66), (513, 1, 0x44), (520, 2, 0xE8), (536, 4, 1)]
  putAt (putAt page 768 (padTo 256 subsystemNqn)) 2048 ((List.range 5).flatMap powerDescriptor)

/-- A list of namespace identifiers above `from` as a 4,096-byte structure. -/
def spaceList (l : List Nat) (after : Nat) : List (BitVec 8) :=
  padTo 4096 ((l.filter (fun n => decide (after < n))).flatMap (fun n => leBytes 4 n))

/-- A controller list above identifier `cntid`. -/
def controllerList (l : List Nat) (cntid : Nat) : List (BitVec 8) :=
  let l := l.filter (fun c => decide (cntid ≤ c))
  padTo 4096 (leBytes 2 l.length ++ l.flatMap (fun c => leBytes 2 c))

/-- The Namespace Granularity List with the one descriptor of R426: sizes and capacities in steps of 1 GiB, for every format. R423 does not
list its CNS 0x16 (DEDUCED, log entry 111). -/
def granularityList : List (BitVec 8) := padTo 4096 (leBytes 4 0 ++ leBytes 4 0 ++ zeros 24 ++ leBytes 8 0x40000000 ++ leBytes 8 0x40000000)

/-- Controllers of the device: 1 for port A, 2 for port B (R421). -/
def controllers (h : Hw) : List Nat := if dualPort h then [1, 2] else [1]

/-- The structure of a CNS, or the status that refuses it (R423). -/
def identifyPage (h : Hw) (p cns nsid cntid : Nat) : Nat ⊕ List (BitVec 8) :=
  if cns = 0x00 ∨ cns = 0x11 then
    if nsid = 0 ∨ (128 < nsid ∧ nsid ≠ 0xFFFFFFFF) ∨ (nsid = 0xFFFFFFFF ∧ cns = 0x11) then .inl stNamespace
    else if nsid = 0xFFFFFFFF then .inr (putFields (freeBytes h 4096) [(25, 1, 1), (27, 1, 3), (28, 1, 0x1D), (128, 4, 12 * 2 ^ 16), (132, 4, 8 + 12 * 2 ^ 16)])
    else if (if cns = 0x00 then attachedTo h p else spacesIn h).contains nsid then .inr (identifySpace h nsid)
    else .inr (zeros 4096)
  else if cns = 0x01 then .inr (identifyController h p)
  else if cns = 0x02 ∨ cns = 0x10 then
    if 0xFFFFFFFE ≤ nsid then .inl stNamespace else .inr (spaceList (if cns = 0x02 then attachedTo h p else spacesIn h) nsid)
  else if cns = 0x03 then
    if (attachedTo h p).contains nsid then
      .inr (padTo 4096 (leBytes 4 (2 + 16 * 256) ++ nguid h nsid ++ leBytes 4 (4 + 256) ++ leBytes 1 0))
    else .inl stNamespace
  else if cns = 0x12 then
    if (space h nsid).size = 0 then .inl stNamespace
    else .inr (controllerList ((controllers h).filter (fun c => bitAt (space h nsid).attached (c - 1))) cntid)
  else if cns = 0x13 then .inr (controllerList (controllers h) cntid)
  else if cns = 0x16 then .inr granularityList
  else if cns = 0x1C then .inr (padTo 4096 (leBytes 8 1))
  else .inl stField

/-- Return a structure to the host. -/
def returnPage (h : Hw) (p : Nat) (bytes : List (BitVec 8)) : Hw × Nat × Nat := (drawn (emit h (.page p bytes)), 0, 0)

/-- IDENTIFY (R423). -/
def execIdentify (p cid cns nsid cntid : Nat) (s : State) : Res := s.run fun h => admin h p cid fun h =>
  match identifyPage h p cns nsid cntid with
  | .inl st => (h, st, 0)
  | .inr l => returnPage h p l

/-! Log pages (R425, R429, R467). -/

/-- The hottest die sensor (R424), in 1/8 degree. -/
def hottest (h : Hw) : Int := ([0, 1, 2, 3, 4, 5].filter (fun d => supervised h d)).foldl (fun t d => max t (dieTemp h d)) (dieTemp h 0)

/-- Composite temperature in kelvins. -/
def kelvins (h : Hw) : Nat := ((hottest h) / 8 + 273).toNat

/-- Critical warning (R425): [1] a composite threshold of feature 0x04 is passed, [2] a namespace holds a read-only extent. -/
def criticalWarning (h : Hw) (p : Nat) : Nat :=
  let f := fun k => heldFeature h p k % 0x10000
  let hot : Bool := decide (f 0x400 ≤ kelvins h) || decide (kelvins h ≤ f 0x410)
  let ro : Bool := h.engine.extents.any (fun e => e.2.readonly && e.2.nsid != 0)
  2 * hot.toNat + 4 * ro.toNat

/-- Available spare (R425): the share of its pool that the carriage with the least has left, in percent. -/
def spareLeft (h : Hw) : Nat :=
  (((List.range 4).filter (populated h)).map (fun c => getF h FM_DEFS_POOLFREE (inst c) * 100 / 8192)).foldl min 100

/-- One Error Information entry; entry k takes its free bytes from byte 64 k of the draw. -/
def errorBytes (h : Hw) (k : Nat) (e : Nat × Nat × Nat × Nat × Nat) : List (BitVec 8) :=
  putFields ((freeBytes h (64 * k + 64)).drop (64 * k)) [(8, 2, e.1), (10, 2, e.2.1), (12, 2, 2 * statusField e.2.2.2.1), (16, 8, e.2.2.2.2), (24, 4, e.2.2.1)]

/-- An entry of a closed minute (R429). -/
def Minute.bytes (m : Minute) : List (BitVec 8) :=
  leBytes 8 m.minute ++ leBytes 1 m.flags ++ zeros 3 ++ leBytes 4 m.ocmds ++ leBytes 8 m.rbytes ++ leBytes 8 m.wbytes ++ leBytes 4 m.rcmds ++
  leBytes 4 m.wcmds ++ leBytes 4 m.busy0 ++ leBytes 4 m.busy1 ++ leBytes 4 m.busy2 ++ leBytes 4 m.busy3 ++ zeros 8

/-- The minute ledger page of closed minutes (R429). -/
def ledgerPage (h : Hw) (n : Nat) (l : List Minute) : List (BitVec 8) :=
  let at' := fun (m : Option Minute) => match m with | some m => m.minute | none => 0
  padTo 92224 (leBytes 2 1 ++ zeros 2 ++ leBytes 4 n ++ leBytes 4 l.length ++ zeros 4 ++ leBytes 8 (at' l.head?) ++ leBytes 8 (at' l.getLast?) ++
    leBytes 8 h.mgmt.minute ++ leBytes 1 h.mgmt.sync ++ zeros 23 ++ l.flatMap Minute.bytes)

/-- Home bands of a carriage. -/
def bandsOf (h : Hw) (c : Nat) : Nat := (h.engine.extents.filter (fun e => !e.2.retired && e.2.car == c)).length

/-- SPROG (R467): the fraction done x 65,536, in bands over all passes. -/
def sprog (h : Hw) (o : Oper) : Nat :=
  let all := match o.kind with
    | .format => (entriesIn h o.nsid).length
    | _ => (h.engine.extents.filter (fun e => !e.2.retired)).length * max 1 o.passes
  if all = 0 then 0 else min 65535 (o.bands * 65536 / all)

/-- The Sanitize Status page (R467); times in 1/100 s, rounded up to whole seconds (DESIGN CHOICE, log entry 48). -/
def sanitizePage (h : Hw) : List (BitVec 8) :=
  let f := (h.engine.extents.filter (fun e => e.2.fmt1 && e.2.nsid != 0)).length
  let etce := 500 + 8 * f
  let b := [0, 1, 2, 3].foldl (fun m c => max m (bandsOf h c)) 0
  let passes := match h.engine.oper with | some o => max 1 o.passes | none => 1
  let prog := match h.engine.oper with | some o => if o.kind = .format then 65535 else sprog h o | none => 65535
  putFields (freeBytes h 512) [(0, 2, prog), (2, 1, (if h.engine.sanitize = 4 then 3 else h.engine.sanitize) + 8 * (match h.engine.oper with | some o => o.pass | none => 0)),
    (8, 4, (passes * (b * 270 + 400) + etce + 99) / 100), (12, 4, 0xFFFFFFFF), (16, 4, (etce + 99) / 100)]

/-- Supported commands: admin and I/O opcodes with bit 0 set, others zero (R423). -/
def effectsPage (h : Hw) : List (BitVec 8) :=
  let word := fun (l : List Nat) (b k : Nat) => leBytes 4 (if l.contains k then 2 * (Config.freeNat h.freeCtr / 2 ^ (31 * (b + k))) + 1 else 0)
  padTo 4096 ((List.range 256).flatMap (word adminOpcodes 0) ++ (List.range 256).flatMap (word ioOpcodes 256))

/-- A log page, with the state that reading it leaves, or the status that refuses it. -/
def logPage (h : Hw) (p lid nsid off : Nat) : Nat ⊕ (Hw × List (BitVec 8)) :=
  if lid = 0x01 then .inr (h, padTo 4096 (((port h p).errors.mapIdx (fun k e => errorBytes h k e)).flatten))
  else if lid = 0x02 then
    if nsid ≠ 0xFFFFFFFF then .inl stField else .inr (h, putFields (freeBytes h 512) [(0, 1, criticalWarning h p), (1, 2, kelvins h), (3, 1, spareLeft h)])
  else if lid = 0x03 then .inr (h, freeBytes h 512)
  else if lid = 0x04 then
    .inr (onPort h p (fun x => { x with changed := [] }), padTo 4096 (((List.range 129).filter (fun n => (port h p).changed.contains n)).flatMap (fun n => leBytes 4 n)))
  else if lid = 0x05 then .inr (h, effectsPage h)
  else if lid = 0x80 then
    (match (port h p).notices with
     | (k, n) :: rest =>
       .inr (onPort h p (fun x => { x with notices := rest }),
         putFields (zeros 64) [(0, 8, Config.freeNat h.freeCtr), (8, 1, k), (9, 1, min 255 rest.length), (12, 4, n)])
     | [] => .inr (h, zeros 64))
  else if lid = 0x81 then .inr (h, sanitizePage h)
  else if lid = 0xC0 then
    if nsid = 0 ∨ nsid = 0xFFFFFFFF ∨ off % 4 ≠ 0 then .inl stField
    else if !((attachedTo h p).contains nsid) then .inl stNamespace
    else .inr (h, ledgerPage h nsid (lget h.cipher.history nsid))
  else .inl 0x109

/-- GET_LOG_PAGE (R425, R429): `len` bytes from offset `off` of page `lid`. -/
def execGetLogPage (p cid lid nsid off len : Nat) (s : State) : Res := s.run fun h => admin h p cid fun h =>
  match logPage h p lid nsid off with
  | .inl st => (h, st, 0)
  | .inr (h, page) => if page.length < off then (h, stField, 0) else returnPage h p ((page.drop off).take len)

/-! Namespace Management and Attachment (R426, R441, R546, R560). -/

/-- This device is the second twin of a pair: it changes no namespace (R575). -/
def standby (h : Hw) : Bool := (twinState h == 2 || twinState h == 4) && twinRole h == 2

/-- The free band of carriage `c` that R441 takes: on the head with the most free bands, the lowest entry number. -/
def pickBand (m : SMap Extent) (c : Nat) : Option Nat :=
  let free := m.filter (fun e => e.2.nsid == 0 && !e.2.retired && e.2.car == c)
  let count := fun hd => (free.filter (fun e => e.2.head == hd)).length
  let most := free.foldl (fun n e => max n (count e.2.head)) 0
  (free.find? (fun e => count e.2.head == most)).map (fun e => e.1)

/-- The band that extent `i` of namespace `n` takes (R441). -/
def bandFor (h : Hw) (m : SMap Extent) (n i : Nat) : Option Nat :=
  let k := population h
  ((List.range k).filterMap (fun j =>
    let c := (n + i + j) % k
    if carFenced h c then none else pickBand m c)).head?

/-- Bands for the extents `i`, `i + 1`, ... of namespace `n`, in order; none when they do not suffice. -/
def bandsFor (h : Hw) (n : Nat) : Nat → Nat → SMap Extent → Option (List Nat)
  | 0, _, _ => some []
  | k + 1, i, m =>
    match bandFor h m n i with
    | some e => (bandsFor h n k (i + 1) (mset (fun _ => {}) m e { mget (fun _ => {}) m e with nsid := n })).map (fun l => e :: l)
    | none => none

/-- The map change of a creation: extent `i` of the namespace stands in the i-th entry of the list. -/
def takeBands (h : Hw) (n fmt : Nat) (es : List Nat) : Hw :=
  let st := twinState h
  let eidx := fun (e : Nat) => (es.findIdx? (fun x => x == e)).getD 0
  onEngine h (fun g =>
    let k := g.mapSeq + 1
    { g with
      mapSeq := k
      mapDue := true
      extents := es.foldl (fun m e => mset (fun _ => {}) m e
        { mget (fun _ => {}) m e with
          nsid := n
          eidx := eidx e
          kgen := 0
          mirrored := decide (2 ≤ st)
          divergent := st == 3
          fmt1 := fmt == 1
          mseq := k }) g.extents })

/-- Create namespace `n` in these bands (R426, R546, R554, R560). -/
def createSpace (h : Hw) (v : Vault) (n size cap fmt pi : Nat) (mset' pil : Bool) (es : List Nat) : Hw × Vault :=
  let h := takeBands h n fmt es
  let h := onSpace h n (fun x => { size := size, cap := cap, fmt := fmt, pi := pi, mset := mset', pil := pil, creations := (x.creations + 1) % 2 ^ 32 })
  let h := onLedger h n (fun _ => { st := 1, fresh := true })
  let h := onCipher h (fun c => { c with history := lset c.history n [] })
  (h, changeHall v n { st := 1, epoch := ((nextHall v n).epoch + 1) % 2 ^ 32 })

/-- Delete namespace `n` (R426, R441, R546, R550, R557, R585): its bands are free, its Landing records are dead, its commands end. -/
def deleteSpace (h : Hw) (v : Vault) (n : Nat) : Hw × Vault :=
  let mine := h.engine.cmds.filter (fun c => c.nsid == n && c.committed.isNone)
  let h := mine.foldl (fun h c => match c.source with
    | .host => refuseCmd h c.slot stNamespace
    | _ => dropCmd h c.slot) h
  let h := abandonRekeys h n
  let h := changeExtents h (entriesIn h n) (fun x =>
    { x with nsid := 0, mirrored := false, readonly := false, divergent := false, fmt1 := false })
  let h := (List.range 4).foldl (fun h c =>
    let dead := ((path h c).records.filter (fun r => r.nsid == n)).map (fun r => r.seq)
    let h := onBuffer h (fun b => { b with landIndex := lset b.landIndex c ((lget b.landIndex c).filter (fun q => !(dead.contains q))) })
    onPath h c (fun p => { p with records := p.records.map (fun r => if r.nsid = n then { r with nsid := 0 } else r) })) h
  let h := onSpace h n (fun x => { creations := x.creations })
  let h := onLedger h n (fun l => { l with st := 2 })
  (h, changeHall v n { nextHall v n with st := 0 })

/-- The Changed Namespace List of controllers other than the one that made the change, and their event where it is enabled. -/
def spaceChanged (h : Hw) (by' n : Nat) : Hw :=
  [0, 1].foldl (fun h p =>
    if p = by' ∨ !((port h p).rdy) then h
    else
      let fresh := (port h p).changed.isEmpty
      let h := onPort h p (fun x => { x with changed := if x.changed.contains n then x.changed else x.changed ++ [n] })
      if fresh && bitAt (mget featureDefault (port h p).features 0x0B) 8 then asyncEvent h p 0x00040002 else h) h

/-- The lowest NSID that no namespace has and whose Hall takes no change now. -/
def freeNsid (h : Hw) : Option Nat := ((List.range 128).map (· + 1)).find? (fun n => (space h n).size == 0)

/-- Format parameters that R427 and R464 accept: the status that refuses them, 0 for none. -/
def formatStatus (fmt pi : Nat) : Nat :=
  if 1 < fmt then 0x10A else if pi = 2 ∨ 3 < pi then stField else if fmt = 0 ∧ pi ≠ 0 then 0x10A else 0

/-- A Format NVM or Sanitize in progress refuses a command that changes namespaces. -/
def operStatus (h : Hw) : Nat :=
  match h.engine.oper with
  | some o => if o.kind = .format then stFormatting else stSanitizing
  | none => 0

/-- End an admin command whose completion carries dword 0 once its map change is written everywhere (R442). -/
def adminWithMap (h : Hw) (p cid st dw0 : Nat) : Hw :=
  if h.engine.mapDue then onEngine h (fun g => { g with mapWait := g.mapWait ++ [(p, 0, cid, 0, st, dw0)] }) else adminDone h p cid st dw0

/-- NAMESPACE_MANAGEMENT (R426): `sel` 0 creates (NSZE, NCAP, format, protection, MSET, PIL), 1 deletes `nsid` or, with 0xFFFF_FFFF,
every namespace. -/
def execNamespaceManagement (p cid sel nsid nsze ncap fmt pi : Nat) (mset' pil : Bool) (s : State) : Res := s.runBoth fun h v =>
  if !(adminUp h p) then (h, v) else
  let h := fetched h p
  if standby h then (adminDone h p cid stStandby 0, v)
  else if operStatus h ≠ 0 then (adminDone h p cid (operStatus h) 0, v)
  else if sel = 0 then
    if nsze < ncap ∨ ncap = 0 ∨ nsze % extentBlocks ≠ 0 ∨ ncap % extentBlocks ≠ 0 then (adminDone h p cid stField 0, v)
    else if formatStatus fmt pi ≠ 0 then (adminDone h p cid (formatStatus fmt pi) 0, v)
    else match freeNsid h with
      | none => (adminDone h p cid 0x116 0, v)
      | some n =>
        match bandsFor h n (nsze / extentBlocks) 0 h.engine.extents with
        | none => (adminDone h p cid 0x115 0, v)
        | some es =>
          let (h, v) := createSpace h v n nsze ncap fmt pi mset' pil es
          (adminWithMap (mirrorState h n 1 [mset'.toNat, pil.toNat]) p cid 0 n, v)
  else if sel = 1 then
    let l := if nsid = 0xFFFFFFFF then spacesIn h else if (space h nsid).size = 0 then [] else [nsid]
    if l.isEmpty ∧ nsid ≠ 0xFFFFFFFF then (adminDone h p cid stNamespace 0, v)
    else
      let (h, v) := l.foldl (fun (x : Hw × Vault) n =>
        let h := mirrorState x.1 n 2 []
        let (h, v) := deleteSpace h x.2 n
        (spaceChanged h p n, v)) (h, v)
      (adminWithMap h p cid 0 0, v)
  else (adminDone h p cid stField 0, v)

/-- NAMESPACE_ATTACHMENT (R426): `sel` 0 attaches, 1 detaches the controllers of the bit list. 0x118 already attached, 0x11A not
attached, 0x11C controller list invalid. -/
def execNamespaceAttachment (p cid sel nsid ctrls : Nat) (s : State) : Res := s.run fun h => admin h p cid fun h =>
  let mask := if dualPort h then 3 else 1
  if 1 < sel then (h, stField, 0)
  else if sel = 1 ∧ standby h then (h, stStandby, 0)
  else if (space h nsid).size = 0 then (h, stNamespace, 0)
  else if ctrls = 0 ∨ mask < ctrls then (h, 0x11C, 0)
  else
    let now := (space h nsid).attached
    if sel = 0 ∧ now &&& ctrls ≠ 0 then (h, 0x118, 0)
    else if sel = 1 ∧ now &&& ctrls ≠ ctrls then (h, 0x11A, 0)
    else
      let h := onSpace h nsid (fun x => { x with attached := if sel = 0 then now ||| ctrls else now - ctrls })
      (spaceChanged h p nsid, 0, 0)

/-! Format NVM and Sanitize (R464-R467). -/

/-- Bands that an operation works through, in ascending entry number. -/
def operBands (h : Hw) (o : Oper) : List Nat :=
  match o.kind with
  | .format => (entriesIn h o.nsid).filter (fun e => !(extent h e).readonly)
  | _ => (h.engine.extents.filter (fun e => !e.2.retired)).map (fun e => e.1)

/-- Code of an operation in 1300:013.0. -/
def OpKind.code : OpKind → Nat
  | .format => 1 | .cryptoErase => 2 | .overwrite => 3

/-- Write the operation's progress record (R466, R621). -/
def saveOper (h : Hw) (o : Oper) : Hw :=
  let args := match o.kind with
    | .format => o.fmt + 2 * o.pi + 8 * o.ses + 32 * o.pil.toNat + 64 * o.mset.toNat
    | _ => (o.passes - 1) + 32 * o.invert.toNat + 64 * o.ause.toNat
  let bands := operBands h o
  let done := bands.take (o.bands % max 1 bands.length)
  let next := fun c => (done.filter (fun e => (extent h e).car == c)).length
  writeProgress h 1032 1 (o.kind.code + 2 ^ 8 * o.step + 2 ^ 16 * o.pass + 2 ^ 24 * args + 2 ^ 32 * (if o.kind = .format then o.nsid else o.pattern) +
    2 ^ 64 * (next 0 + 2 ^ 16 * next 1 + 2 ^ 32 * next 2 + 2 ^ 48 * next 3))

/-- Change the operation and write its record. -/
def setOper (h : Hw) (o : Oper) : Hw := saveOper (onEngine h (fun g => { g with oper := some o })) o

/-- Accept an operation. -/
def acceptOper (h : Hw) (o : Oper) : Hw :=
  let h := match o.kind with
    | .format => setF h HQ_STAT_FMT 0 1
    | _ => onEngine (setF h HQ_STAT_SANI 0 1) (fun g => { g with sanitize := 2, unrestricted := o.ause })
  setOper h o

/-- FORMAT_NVM (R464, R467, R575). -/
def execFormatNvm (p cid nsid fmt pi ses : Nat) (mset' pil : Bool) (s : State) : Res := s.run fun h =>
  if !(adminUp h p) then h
  else
    let h := fetched h p
    let st :=
      if standby h then stStandby
      else if operStatus h ≠ 0 then operStatus h
      else if nsid = 0xFFFFFFFF ∨ 2 < ses then stField
      else if (space h nsid).size = 0 ∨ !(bitAt (space h nsid).attached p) then stNamespace
      else if formatStatus fmt pi ≠ 0 then formatStatus fmt pi
      else if (entriesIn h nsid).any (fun e => entryFenced h e) then stFenced
      else 0
    if st ≠ 0 then adminDone h p cid st 0
    else
      let h := mirrorState h nsid 3 [fmt, pi, mset'.toNat, pil.toNat, ses]
      acceptOper h { kind := .format, nsid := nsid, port := p, cid := cid, fmt := fmt, pi := pi, mset := mset', pil := pil, ses := ses
                     ackDue := if mirrors h then some h.twin.mseqOut else none }

/-- SANITIZE (R465, R467, R575): SANACT 1 leaves failure mode, 3 overwrites, 4 crypto-erases. OWPASS 0 is 16 passes. -/
def execSanitize (p cid sanact : Nat) (ause : Bool) (owpass : Nat) (oipbp : Bool) (ovrpat : Nat) (s : State) : Res := s.run fun h =>
  if !(adminUp h p) then h else
  let h := fetched h p
  if standby h then adminDone h p cid stStandby 0
  else if !([1, 3, 4].contains sanact) then adminDone h p cid stField 0
  else if operStatus h ≠ 0 then adminDone h p cid (operStatus h) 0
  else if sanact = 1 then
    if h.engine.sanitize ≠ 3 then adminDone h p cid 0 0
    else if h.engine.unrestricted then
      adminDone (onEngine (setF h HQ_STAT_SANI 0 0) (fun g => { g with sanitize := 4 })) p cid 0 0
    else adminDone h p cid stSanitizeFailed 0
  else if h.engine.sanitize = 3 ∧ !h.engine.unrestricted ∧ ause then adminDone h p cid stSanitizeFailed 0
  else
    let isOver : Bool := sanact == 3
    let passes := if !isOver then 1 else if owpass % 16 = 0 then 16 else owpass % 16
    let h := mirrorState h 0 4 [sanact, ause.toNat, owpass, oipbp.toNat, ovrpat]
    acceptOper h { kind := if isOver then .overwrite else .cryptoErase, port := p, cid := cid, passes := passes, pattern := ovrpat % 2 ^ 32, invert := oipbp
                   ause := ause, ackDue := if mirrors h then some h.twin.mseqOut else none }

/-- Every command in flight that the operation waits for has ended. -/
def operClear (h : Hw) (o : Oper) : Bool :=
  h.engine.cmds.all (fun c => c.source != .host || (o.kind == .format && c.nsid != o.nsid))

/-- The Landing holds nothing of namespace `n`, and no re-key of it runs or waits (R464 step 1, R553). -/
def landingClear (h : Hw) (n : Nat) : Bool :=
  (List.range 4).all (fun c =>
    (path h c).records.all (fun r => r.nsid != n || !((lget h.buffer.landIndex c).contains r.seq) &&
      (List.range r.count).all (fun j => !((path h c).pins.contains (dataPosition r.lpos r.posmap j)))) &&
    (lget h.cipher.queued c).all (fun e => (extent h e).nsid != n) &&
    (match oget h.cipher.running c with | some r => r.nsid != n | none => true))

/-- The text of one 4,096-byte block that repeats a 32-bit pattern. -/
def patternBlock (w : Nat) : Nat := leVal ((List.range 1024).flatMap (fun _ => leBytes 4 w))

/-- The pattern of a pass, from 1 (R465). -/
def passPattern (o : Oper) (pass : Nat) : Nat := patternBlock (if o.invert && pass % 2 == 0 then 2 ^ 32 - 1 - o.pattern else o.pattern)

/-- A carriage is populated and fenced: the operation's steps there are skipped. -/
def anyFenced (h : Hw) : Bool := (List.range 4).any (fun c => populated h c && carFenced h c)

/-- The operation has ended (R464 step 5, R465 step 5). -/
def endOper (h : Hw) (o : Oper) : Hw :=
  let h := clearProgress (onEngine h (fun g => { g with oper := none })) 1032
  let h := match o.fromTwin with
    | some m => flushAcks (onTwin h (fun t => { t with acks := t.acks ++ [m] }))
    | none => h
  match o.kind with
  | .format =>
    let h := setF h HQ_STAT_FMT 0 0
    if o.resumed ∨ o.fromTwin.isSome then h else adminDone h o.port o.cid 0 0
  | _ =>
    let failed := o.skipped || anyFenced h
    let h := onEngine (setF h HQ_STAT_SANI 0 failed.toNat) (fun g => { g with sanitize := if failed then 3 else 1 })
    [0, 1].foldl (fun h p => if (port h p).rdy then asyncEvent h p 0x00810106 else h) h

/-- The next unit of work of a Format NVM whose I/O has drained (R464). -/
def formatUnit (h : Hw) (v : Vault) (o : Oper) : Hw × Vault :=
  let bands := operBands h o
  match o.step with
  | 0 => if landingClear h o.nsid then (setOper h { o with step := 1 }, v) else (h, v)
  | 1 => if o.advanced.contains o.nsid ∧ h.cipher.advance.isNone then (setOper h { o with step := 2 }, v) else (h, v)
  | 2 =>
    if o.ses ≠ 1 ∨ bands.length ≤ o.bands then (setOper h { o with step := 3 }, v)
    else
      let e := bands.getD o.bands 0
      let x := hall v o.nsid
      if x.st ≠ 1 ∨ hallDue v o.nsid ∨ usageLimit h < x.used + extentBlocks ∨ x.resv < x.used + extentBlocks ∨ !(cipherReady h) ∨ entryFenced h e then (h, v)
      else
        let texts := (List.range extentBlocks).map (fun b => encipher (isSealed h) o.nsid x.epoch x.wgen (lbaOf h e b) 0)
        let h := addF (putHome h e 0 texts) CY_CNT_COUNT 0 extentBlocks
        let h := if (extent h e).kgen = x.wgen then h else changeExtents h [e] (fun y => { y with kgen := x.wgen })
        (setOper h { o with bands := o.bands + 1 }, { v with halls := mset (fun _ => {}) v.halls o.nsid { x with used := x.used + extentBlocks } })
  | 3 =>
    let h := (List.range 4).foldl (fun (h : Hw) (c : Nat) =>
      if (entriesIn h o.nsid).any (fun e => (extent h e).car == c) then onPath h c (fun p => { p with formatted := true }) else h) h
    let h := if o.fmt = 1 then (entriesIn h o.nsid).foldl clearTags h else h
    let h := changeExtents h (entriesIn h o.nsid) (fun y => { y with fmt1 := o.fmt == 1 })
    let h := onSpace h o.nsid (fun n => { n with fmt := o.fmt, pi := o.pi, mset := o.mset, pil := o.pil })
    (setOper (spaceChanged h o.port o.nsid) { o with step := 4 }, v)
  | _ => if h.engine.mapDue ∨ o.ackDue.isSome then (h, v) else (endOper h o, v)

/-- Step 2 of a Sanitize on one carriage (R465): the Landing is forgotten and a checkpoint says so. -/
def forgetLanding (h : Hw) (c : Nat) : Hw :=
  let h := setLdseq (setF h FM_LTAIL_VALUE (inst c) (lhead h c)) c (lseq h c)
  let h := onBuffer h (fun b => { b with landIndex := lset b.landIndex c [] })
  showDefects (onPath h c (fun p =>
    { p with pins := [], gaps := [], records := [], check := { lhead := lhead h c, ltail := lhead h c, seq := lseq h c, dseq := lseq h c }, sinceCheck := 0 })) c

/-- Overwrite one band (R465 step 3): it holds the pattern, enciphered under no key. -/
def overwriteBand (h : Hw) (e text : Nat) : Hw :=
  if carFenced h (extent h e).car then h else putHome h e 0 (List.replicate extentBlocks text)

/-- The end of an overwrite pass: the Landing positions and every other home sector of the carriages in service hold the pattern. -/
def overwriteRest (h : Hw) (text : Nat) : Hw :=
  (List.range 4).foldl (fun h c => if populated h c && !(carFenced h c) then
    onPath h c (fun p => { p with fill := text, homeData := [], journal := [], landData := (List.range ringSize).foldl (fun m k => zset m k text) [] }) else h) h

/-- The next unit of work of a Sanitize that has started (R465). -/
def sanitizeUnit (h : Hw) (o : Oper) : Hw :=
  let o := { o with skipped := o.skipped || anyFenced h }
  let bands := operBands h o
  match o.step with
  | 0 => if (spacesIn h).all (fun n => o.advanced.contains n) ∧ h.cipher.advance.isNone then setOper h { o with step := 1 } else h
  | 1 => setOper ((List.range 4).foldl (fun h c => if populated h c && !(carFenced h c) then forgetLanding h c else h) h) { o with step := 2, pass := 1 }
  | 2 =>
    if o.kind = .cryptoErase ∨ o.passes < o.pass then setOper h { o with step := 3 }
    else
      let text := passPattern o o.pass
      let k := o.bands - (o.pass - 1) * bands.length
      if k < bands.length then setOper (overwriteBand h (bands.getD k 0) text) { o with bands := o.bands + 1 }
      else setOper (overwriteRest h text) { o with pass := o.pass + 1 }
  | 3 =>
    let tags := (h.engine.extents.filter (fun e => e.2.fmt1 && !(carFenced h e.2.car))).map (fun e => e.1)
    setOper (tags.foldl clearTags h) { o with step := 4 }
  | _ => if h.engine.mapDue ∨ o.ackDue.isSome then h else endOper h o

/-- FORMAT_SANITIZE_RESUME (R464-R466): the operation in progress takes its next unit of work, from where its newest progress record
leaves it. It starts once the commands in flight have ended and the medium is ready; a Sanitize's completion is posted then. -/
def execFormatSanitizeResume (s : State) : Res := s.runBoth fun h v =>
  match h.engine.oper with
  | none => (h, v)
  | some o =>
    if !(mediaReady h) then (h, v)
    else if !o.started then
      if operClear h o then
        let h := setOper h { o with started := true }
        (if o.kind ≠ .format ∧ !o.resumed ∧ o.fromTwin.isNone then adminDone h o.port o.cid 0 0 else h, v)
      else (h, v)
    else match o.kind with
      | .format => formatUnit h v o
      | _ => (sanitizeUnit h o, v)

end Sys2Proof.Machine
end

