-- ==== Sys2Proof/Machine/Twins.lean ====
section
/-! DEFINITION. Twin mirroring: the twin commands, the messages taken from the inbox, beats, resilvering, the pair record
(R430-R433, R565-R587). -/
namespace Sys2Proof.Machine

/-! Twin statuses (R433), code type 1. -/

def twNone : Nat := 0x1C0
def twPaired : Nat := 0x1C1
def twUnpaired : Nat := 0x1C2
def twAuth : Nat := 0x1C3
def twUnreachable : Nat := 0x1C4
def twRole : Nat := 0x1C5
def twBusy : Nat := 0x1C6
def twSolo : Nat := 0x1C7
def twKeys : Nat := 0x1C8

/-- TWIN_IDENTIFY (R430): the twin's data and a fresh PAIRNONCE. -/
def execTwinIdentify (p cid : Nat) (s : State) : Res := s.run fun h => admin h p cid fun h =>
  let n := Config.random h.freeCtr % 2 ^ 128
  let h := drawn (onTwin h (fun t => { t with nonce := some { value := n, made := h.log.optime } }))
  let d := (divergentEntries h).length
  let left := (leftToResilver h).length
  let page := putFields (zeros 4096) [(0, 2, 1), (2, 1, twinRole h), (3, 1, twinState h), (8, 8, Config.deviceId), (0x10, 8, h.twin.pdid),
    (0x18, 8, h.twin.peerAddr), (0x20, 2, h.twin.pnode), (0x24, 4, d), (0x28, 4, left), (0x30, 16, n)]
  (emit h (.page p page), 0, 0)

/-- The fields of the page of Twin Pair (R431): VER, PDID, PEER_ADDR, PNODE, TAG. -/
def pageField (page : List (BitVec 8)) (o n : Nat) : Nat := leVal ((page.drop o).take n)

/-- VER is 1 and every byte not listed is 0. -/
def cleanPage (page : List (BitVec 8)) : Bool :=
  pageField page 0 2 == 1 && pageField page 2 6 == 0 && pageField page 0x1A 6 == 0 && ((page.take 4096).drop 0x30).all (fun b => b == 0)

/-- TWIN_PAIR (R431, R433, R572, R573): the page comes from the host. The command waits in STATE 1. -/
def execTwinPair (p cid : Nat) (page : List (BitVec 8)) (s : State) : Res := s.run fun h =>
  if !(adminUp h p) then h
  else
    let h := fetched h p
    let pdid := pageField page 8 8
    let peerAddr := pageField page 0x10 8
    let fresh := h.twin.nonce.filter (fun n => decide (h.log.optime ≤ n.made + 10000))
    let verified : Bool := match fresh, roleKey h 2 with
      | some n, some k => pageField page 0x20 16 == tagOf k (pairMessage n.value Config.deviceId pdid peerAddr)
      | _, _ => false
    if twinRole h = 0 then adminDone h p cid twNone 0
    else if twinState h = 1 then adminDone h p cid twBusy 0
    else if twinState h ≠ 0 then adminDone h p cid twPaired 0
    else if !(cleanPage page) ∨ peerAddr % 0x1000000 ≠ 0 then adminDone h p cid stField 0
    else if !verified then adminDone h p cid twAuth 0
    else
      let h := onTwin h (fun t => { t with
        nonce := none, pdid := pdid, peerAddr := peerAddr, pnode := pageField page 0x18 2, port := p, requester := none, pairing := some (cid, h.log.optime)
        nonceOwn := (fresh.map (fun n => n.value)).getD 0, noncePeer := 0, kpair := none, kpairWrapped := none, sentConfirm := false, gotConfirm := false
        mseqOut := 0, mseqIn := 0, unacked := [], outbox := [], acks := [], helloAt := none })
      setTwinState h 1

/-- Twin Pair fails: the device is unpaired as before it (R433). -/
def failPair (h : Hw) (st : Nat) : Hw :=
  match h.twin.pairing with
  | some (cid, _) =>
    adminDone (endPairing h) h.twin.port cid st 0
  | none => h

/-- PAIRING_TIMEOUT (R573): 2 s after Twin Pair arrived. -/
def execPairingTimeout (s : State) : Res := s.run fun h =>
  match h.twin.pairing with
  | some (_, t) => if twinState h = 1 ∧ t + 2000 ≤ h.log.optime then failPair h twUnreachable else h
  | none => h

/-- Payload of a Hello (R570): DID, ROLE, PAIRNONCE, partner's DID. -/
def helloPayload (did role nonce peerDid : Nat) : List (BitVec 8) := leBytes 8 did ++ leBytes 1 role ++ leBytes 7 0 ++ leBytes 16 nonce ++ leBytes 8 peerDid

/-- HELLO_RESEND (R573, R580): a pairing twin without a valid Hello writes a Hello every 100 ms, a solo twin every 1 s. -/
def execHelloResend (s : State) : Res := s.run fun h =>
  let gap := if twinState h = 1 then 100 else 1000
  let due : Bool := match h.twin.helloAt with | some t => decide (t + gap ≤ h.log.optime) | none => true
  if ((twinState h = 1 ∧ !h.twin.sentConfirm) ∨ twinState h = 3) ∧ due then
    sendMessage (onTwin h (fun t => { t with helloAt := some h.log.optime })) 1
      (plainFrame (helloPayload Config.deviceId (twinRole h) h.twin.nonceOwn h.twin.pdid))
  else h

/-- The partner is up from now on. -/
def partnerUp (h : Hw) : Hw := setF (onTwin h (fun t => { t with beatTime := h.log.optime })) HQ_TWIN_PEERUP 0 1

/-- The pair forms (R573, R574): the first twin sends its namespaces; the second deletes its own; MIRRORED and DIVERGENT are set in
every entry in one map change; Twin Pair completes once that change is written everywhere (R442). -/
def formPair (h : Hw) (v : Vault) : Hw × Vault :=
  let (h, v) := if twinRole h = 2 then (spacesIn h).foldl (fun (x : Hw × Vault) n => deleteSpace x.1 x.2 n) (h, v) else (h, v)
  let h := if twinRole h = 1 then (spacesIn h).foldl (fun h n => sendState h n 0 []) h else h
  let h := changeExtents h ((spacesIn h).flatMap (entriesIn h)) (fun e => { e with mirrored := true, divergent := true })
  let h := partnerUp (setTwinState h 2)
  match h.twin.pairing with
  | some (cid, _) => (adminAfterMap (onTwin h (fun t => { t with pairing := none, sentConfirm := false, gotConfirm := false })) h.twin.port cid 0, v)
  | none => (h, v)

/-- A solo twin and its partner have exchanged Confirm: mirroring resumes (R580, R581). -/
def resumePair (h : Hw) : Hw :=
  partnerUp (setTwinState (onTwin h (fun t => { t with sentConfirm := false, gotConfirm := false, helloWait := false })) 2)

/-- Both Confirms have passed. -/
def confirmed (h : Hw) (v : Vault) : Hw × Vault :=
  if h.twin.sentConfirm && h.twin.gotConfirm then
    (if twinState h = 1 then formPair h v else if twinState h = 3 then (resumePair h, v) else (h, v))
  else (h, v)

/-- HEAD moves past a message of `len` bytes and is written into the partner's inbox (R568). -/
def consume (h : Hw) (len : Nat) : Hw :=
  let h := onTwin h (fun t => { t with headOut := t.headOut + len })
  peerWrite h 0x40 (leBytes 8 h.twin.headOut)

/-- Send Confirm. -/
def sendConfirm (h : Hw) : Hw := onTwin (sendMessage h 2 (plainFrame [])) (fun t => { t with sentConfirm := true })

/-- TWIN_HELLO (R571-R573, R580, R585): a Hello from requester `requester`, its CMAC checked under the key of the state. A Hello starts the
count of the partner's message numbers. -/
def execTwinHello (f : TwinFrame) (requester : Nat) (s : State) : Res := s.runBoth fun h v =>
  let did := pageField f.payload 0 8
  let role := pageField f.payload 8 1
  let nonce := pageField f.payload 0x10 16
  let tagOk : Bool := match helloKey h with
    | some k => f.tag == helloTag k f
    | none => false
  let right : Bool := did == h.twin.pdid && pageField f.payload 0x20 8 == Config.deviceId && role != twinRole h && (role == 1 || role == 2)
  if twinState h = 1 then
    let h := consume h 128
    if !tagOk then (if did = h.twin.pdid then failPair h twKeys else h, v)
    else if !right then (failPair h twRole, v)
    else if h.twin.sentConfirm then (onTwin h (fun t => { t with mseqIn := f.mseq }), v)
    else
      let first : Bool := twinRole h == 1
      let own := h.twin.nonceOwn
      let key := pairKey ((roleKey h 2).getD 0) (if first then Config.deviceId else did) (if first then did else Config.deviceId)
        (if first then own else nonce) (if first then nonce else own)
      let h := onTwin h (fun t => { t with requester := some requester, noncePeer := nonce, kpair := some key, kpairWrapped := some (roleWrap (isSealed h) key), mseqIn := f.mseq })
      confirmed (sendConfirm h) v
  else if h.twin.requester ≠ some requester then (h, v)
  else if twinState h = 3 then
    let h := consume h 128
    if tagOk && right then confirmed (sendConfirm (onTwin h (fun t => { t with mseqIn := f.mseq }))) v else (h, v)
  else if twinState h = 0 then (h, v)
  else if tagOk ∧ f.mseq = h.twin.mseqIn + 1 then (onTwin (consume h 128) (fun t => { t with mseqIn := f.mseq }), v)
  else (declareLost h, v)

/-- A sealed message of KIND `kind` (R571): a wrong tag or number discards it and is a partner fault; otherwise `g` takes the plaintext. -/
def takeMessage (h : Hw) (v : Vault) (kind : Nat) (f : TwinFrame) (g : Hw → Vault → List (BitVec 8) → Hw × Vault) : Hw × Vault :=
  if twinState h = 0 ∨ h.twin.kpair.isNone then (h, v)
  else
    let now := consume h (messageLength f.payload.length)
    match openFrame h kind f with
    | some text => if f.mseq = h.twin.mseqIn + 1 then g (onTwin now (fun t => { t with mseqIn := f.mseq })) v text else (declareLost now, v)
    | none => (declareLost now, v)

/-- TWIN_PAD (R568): the pad at HEAD fills the rest of the ring and is passed over. -/
def execTwinPad (s : State) : Res := s.run fun h =>
  if twinState h = 0 ∨ h.twin.headOut % inboxRing = 0 then h else consume h (inboxRing - h.twin.headOut % inboxRing)

/-- TWIN_CONFIRM (R573). -/
def execTwinConfirm (f : TwinFrame) (s : State) : Res := s.runBoth fun h v =>
  takeMessage h v 2 f fun h v _ => confirmed (onTwin h (fun t => { t with gotConfirm := true })) v

/-- Mirroring is in force. -/
def pairedNow (h : Hw) : Bool := twinState h == 2 || twinState h == 4

/-- Payload bytes of a Write or Chunk of `n` blocks of namespace `nsid` (R570). -/
def writePlen (h : Hw) (nsid n : Nat) : Nat := 4096 * n + (if (space h nsid).fmt = 1 then 4096 else 0)

/-- A Write or Chunk message as an internal command (R570, R576, R582); it is refused at once when its namespace cannot take it. -/
def applyMessage (h : Hw) (src : Source) (f : TwinFrame) (text : List (BitVec 8)) (atomic ordered : Bool) : Hw :=
  if f.count = 0 ∨ 64 < f.count ∨ (space h f.nsid).size < f.slba + f.count ∨ text.length ≠ writePlen h f.nsid f.count then
    flushAcks (onTwin h (fun t => { t with acks := t.acks ++ [f.mseq + 2 ^ 63] }))
  else
    let blocks := numbersOf 4096 f.count text
    let metas := numbersOf 8 f.count (text.drop (4096 * f.count))
    takeCmd h
      { slot := 0, isn := 0, port := 0, sq := 0, cid := 0, opc := 1, nsid := f.nsid, slba := f.slba, nlb := f.count, ordered := ordered
        atomic := atomic, source := src, stage := .order, inGallery := true
        blocks := byLba f.slba f.count (fun i => blocks.getD i 0)
        metas := if (space h f.nsid).fmt = 1 then byLba f.slba f.count (fun i => metas.getD i 0) else [] }

/-- With 4,096 commands in flight a Write or Chunk stays in the inbox until one has ended (R435). -/
def inboxHeld (h : Hw) : Bool := decide (4096 ≤ h.engine.cmds.length)

/-- TWIN_WRITE_MESSAGE (R576). -/
def execTwinWriteMessage (f : TwinFrame) (s : State) : Res := s.runBoth fun h v =>
  if inboxHeld h then (h, v) else takeMessage h v 3 f fun h v text => (if pairedNow h then applyMessage h (.twin f.mseq) f text (bitAt f.flags 0) (bitAt f.flags 1) else h, v)

/-- TWIN_CHUNK_MESSAGE (R582): the first chunk brings the receiver into STATE 4. -/
def execTwinChunkMessage (f : TwinFrame) (s : State) : Res := s.runBoth fun h v =>
  if inboxHeld h then (h, v) else takeMessage h v 7 f fun h v text =>
    let h := if twinState h = 2 then setTwinState h 4 else h
    (if twinState h = 4 then applyMessage h (.chunk f.mseq) f text true false else h, v)

/-- Show the resilver pointer's progress record (R582, R621). -/
def savePointer (h : Hw) : Hw :=
  writeProgress h 1042 3 (h.twin.pointer.1 + 2 ^ 16 * h.twin.pointer.2 + 2 ^ 32 * getF h HQ_TWIN_SRC 0)

/-- A chunk of carriage `c` has been acknowledged (R582): the pointer moves on; after the last chunk the extent diverges no more. -/
def chunkAcked (h : Hw) (c : Nat) : Hw :=
  let h := onTwin h (fun t => { t with inFlight := oset t.inFlight c none })
  let h := onEngine h (fun g => { g with cmds := g.cmds.filter (fun x => !(x.source == .resilver)) })
  let (e, k) := h.twin.pointer
  let h := onTwin h (fun t => { t with pointer := if k = 4095 then (e + 1, 0) else (e, k + 1) })
  let h := savePointer h
  let h := if k = 4095 then
      resilverDone (changeExtents (onTwin h (fun t => { t with peerLeft := t.peerLeft.filter (fun x => x != e) })) (if (extent h e).divergent then [e] else [])
        (fun x => { x with divergent := false }))
    else h
  if h.twin.stopping ∧ twinState h = 4 then setTwinState (setF (onTwin h (fun t => { t with stopping := false, peerLeft := [] })) HQ_TWIN_SRC 0 0) 2 else h

/-- One value of an Ack (R576): bit 63 marks a refusal. -/
def ackOne (h : Hw) (value : Nat) : Hw :=
  let m := value % 2 ^ 63
  let refused : Bool := decide (2 ^ 63 ≤ value)
  let h := onEngine h (fun g => { g with oper := g.oper.map (fun o => if o.ackDue = some m then { o with ackDue := none } else o) })
  match h.twin.unacked.find? (fun u => u.mseq == m) with
  | none => h
  | some u =>
    let h := showUnacked (onTwin h (fun t => { t with unacked := t.unacked.filter (fun x => !(x.mseq == m)) }))
    let h := onEngine h (fun g => { g with cmds := g.cmds.map (fun c => { c with pieces := c.pieces.map (fun p => { p with waitsAck := p.waitsAck.filter (fun x => !(x == m)) }) }) })
    let h := if refused then ruleRecord (makeDivergent h [u.entry]) 0x13F0 576 3 u.entry else h
    let h := if h.twin.unacked.any (fun x => x.entry == u.entry) ∨ (oget h.twin.unsettled u.entry).isNone then h
      else onTwin h (fun t => { t with unsettled := oset t.unsettled u.entry (some h.log.optime) })
    match [0, 1, 2, 3].find? (fun c => oget h.twin.inFlight c == some m) with
    | some c => if refused then onEngine (onTwin h (fun t => { t with inFlight := oset t.inFlight c none })) (fun g =>
        { g with cmds := g.cmds.filter (fun x => !(x.source == .resilver)) }) else chunkAcked h c
    | none => h

/-- TWIN_ACK (R570, R576): N, then N values. -/
def execTwinAck (f : TwinFrame) (s : State) : Res := s.runBoth fun h v =>
  takeMessage h v 4 f fun h v text =>
    (if pairedNow h then (numbersOf 8 (min 512 (pageField text 0 4)) (text.drop 8)).foldl ackOne h else h, v)

/-- One namespace record of a State message (R570): namespace, size, format, protection type, reservation type and holder, the operation
(0 none, 1 create, 2 delete, 3 Format NVM, 4 Sanitize) and its fields, then the rest of the reservation. -/
structure StateRecord where
  nsid : Nat
  size : Nat
  fmt : Nat
  pi : Nat
  rtype : Nat
  holder : Nat
  op : Nat
  args : List Nat
  ptpl : Bool
  rgen : Nat
  regs : List Registrant
  deriving DecidableEq, Repr

/-- The record in the payload of a State message, laid out as `stateBytes`. -/
def stateRecord (text : List (BitVec 8)) : StateRecord :=
  { nsid := pageField text 0 4, size := pageField text 8 8, fmt := pageField text 0x10 1, pi := pageField text 0x11 1
    rtype := pageField text 0x12 1, holder := pageField text 0x13 1, op := pageField text 0x14 1, args := numbersOf 4 5 (text.drop 0x1C)
    ptpl := pageField text 0x15 1 == 1, rgen := pageField text 0x18 4
    regs := (List.range (pageField text 0x16 1)).map (fun i =>
      { ctrl := pageField text (0x40 + 24 * i) 8, key := pageField text (0x48 + 24 * i) 8, hostId := pageField text (0x50 + 24 * i) 8 }) }

/-- Create a namespace of the partner on this twin (R574, R576); none when there is no room. -/
def mirrorSpace (h : Hw) (v : Vault) (r : StateRecord) (diverges : Bool) : Option (Hw × Vault) :=
  match bandsFor h r.nsid (r.size / extentBlocks) 0 h.engine.extents with
  | none => none
  | some es =>
    let (h, v) := createSpace h v r.nsid r.size r.size r.fmt r.pi (r.args.getD 0 0 == 1) (r.args.getD 1 0 == 1) es
    some (changeExtents h es (fun e => { e with mirrored := true, divergent := diverges }), v)

/-- Acknowledge or refuse a State message at once. -/
def answerState (h : Hw) (mseq : Nat) (ok : Bool) : Hw := flushAcks (onTwin h (fun t => { t with acks := t.acks ++ [if ok then mseq else mseq + 2 ^ 63] }))

/-- Apply a State message (R574, R576). -/
def applyState (h : Hw) (v : Vault) (mseq : Nat) (r : StateRecord) : Hw × Vault :=
  let arg := fun i => r.args.getD i 0
  if r.op = 2 then
    (if (space h r.nsid).size = 0 then (answerState h mseq true, v)
     else let (h, v) := deleteSpace h v r.nsid; (answerState h mseq true, v))
  else if r.op = 3 then
    (acceptOper h { kind := .format, nsid := r.nsid, fmt := arg 0, pi := arg 1, mset := arg 2 == 1, pil := arg 3 == 1, ses := arg 4, fromTwin := some mseq }, v)
  else if r.op = 4 then
    let isOver : Bool := arg 0 == 3
    (acceptOper h { kind := if isOver then .overwrite else .cryptoErase, passes := if !isOver then 1 else if arg 2 % 16 = 0 then 16 else arg 2 % 16
                    pattern := arg 4, invert := arg 3 == 1, ause := arg 1 == 1, fromTwin := some mseq }, v)
  else
    let made := if (space h r.nsid).size = 0 ∧ r.size ≠ 0 then mirrorSpace h v r (r.op == 0) else some (h, v)
    match made with
    | some (h, v) => (answerState (onSpace h r.nsid (fun n =>
        { n with rtype := r.rtype, holder := r.holder, ptpl := r.ptpl, rgen := r.rgen, regs := r.regs })) mseq true, v)
    | none => (answerState h mseq false, v)

/-- TWIN_STATE_MESSAGE (R574, R576): the second twin applies it. -/
def execTwinStateMessage (f : TwinFrame) (s : State) : Res := s.runBoth fun h v =>
  takeMessage h v 5 f fun h v text => if pairedNow h ∧ twinRole h = 2 then applyState h v f.mseq (stateRecord text) else (h, v)

/-- An entry of a Ledger message as a closed minute of its namespace (R429, R570). -/
def asMinute (e : List (BitVec 8)) : Minute :=
  { minute := pageField e 0 8, flags := pageField e 8 1, ocmds := pageField e 0xC 4, rbytes := pageField e 0x10 8, wbytes := pageField e 0x18 8
    rcmds := pageField e 0x20 4, wcmds := pageField e 0x24 4, busy0 := pageField e 0x28 4, busy1 := pageField e 0x2C 4
    busy2 := pageField e 0x30 4, busy3 := pageField e 0x34 4 }

/-- TWIN_LEDGER_MESSAGE (R576, R587): the closed minute's entries join the partner ledger. -/
def execTwinLedgerMessage (f : TwinFrame) (s : State) : Res := s.runBoth fun h v =>
  takeMessage h v 6 f fun h v text =>
    (if pairedNow h ∧ twinRole h = 2 then
      onTwin h (fun t => { t with
        partnerLedger := (List.range (text.length / 64)).foldl (fun m i =>
          let e := (text.drop (64 * i)).take 64
          lset m (pageField e 0x38 8) (lastMinutes (lget m (pageField e 0x38 8) ++ [asMinute e]))) t.partnerLedger })
     else h, v)

/-- The pair ends (R584): MIRRORED and DIVERGENT clear in one map change, the pair record is erased, STATE 0. -/
def unpair (h : Hw) : Hw :=
  let h := changeExtents h ((h.engine.extents.filter (fun p => p.2.mirrored || p.2.divergent)).map (fun p => p.1))
    (fun e => { e with mirrored := false, divergent := false })
  let h := onEngine h (fun g => { g with
    cmds := (g.cmds.filter (fun c => match c.source with | .host => true | .rekey _ => true | _ => false)).map (fun c =>
      { c with pieces := c.pieces.map (fun p => { p with waitsAck := [] }) })
    oper := g.oper.map (fun o => { o with ackDue := none }) })
  let h := onLog h (fun l => { l with area := l.area.filter (fun p => decide (p.1 < 1048) || decide (1304 ≤ p.1)) })
  let h := clearProgress (onTwin h (fun t => { nonce := t.nonce, partnerLedger := t.partnerLedger, losses := t.losses })) 1042
  let h := setF (setF (setF (setF h HQ_TWIN_SOLOW 0 0) HQ_TWIN_SRC 0 0) HQ_TWIN_PEERUP 0 0) HQ_TWIN_STATE 0 0
  showUnacked h

/-- TWIN_UNPAIR_MESSAGE (R584). -/
def execTwinUnpairMessage (f : TwinFrame) (s : State) : Res := s.runBoth fun h v =>
  takeMessage h v 8 f fun h v _ => (unpair h, v)

/-- TWIN_UNPAIR (R432, R433, R584): it completes once the map change is written everywhere. -/
def execTwinUnpair (p cid : Nat) (s : State) : Res := s.run fun h =>
  if !(adminUp h p) then h else
  let h := fetched h p
  if twinRole h = 0 then adminDone h p cid twNone 0
  else if twinState h = 0 then adminDone h p cid twUnpaired 0
  else if twinState h = 1 then adminDone h p cid twBusy 0
  else
    let h := if flagF h HQ_TWIN_PEERUP 0 then sendMessage h 8 (plainFrame []) else h
    adminAfterMap (unpair h) p cid 0

/-- TWIN_RESILVER (R432, R433, R582): CDW10 [0] starts or stops; `peerSolow`: the partner holds SOLOW; `peerDivergent`: the entries of this
twin's map whose extents diverge on the partner. -/
def execTwinResilver (p cid cdw10 : Nat) (peerSolow : Bool) (peerDivergent : List Nat) (s : State) : Res := s.run fun h => admin h p cid fun h =>
  if twinRole h = 0 then (h, twNone, 0)
  else if twinState h = 0 then (h, twUnpaired, 0)
  else if twinState h = 1 then (h, twBusy, 0)
  else if cdw10 / 2 ≠ 0 then (h, stField, 0)
  else if cdw10 = 1 then
    if twinState h = 3 then (h, twSolo, 0)
    else if twinState h = 4 then (onTwin h (fun t => { t with stopping := false }), 0, 0)
    else
      let own := flagF h HQ_TWIN_SOLOW 0
      let source : Bool := if own == peerSolow then twinRole h == 1 else own
      let h := onTwin h (fun t => { t with peerLeft := if source then peerDivergent.eraseDups else [] })
      (resilverDone (setTwinState (setF h HQ_TWIN_SRC 0 source.toNat) 4), 0, 0)
  else if twinState h ≠ 4 then (h, 0, 0)
  else if h.twin.inFlight.isEmpty then (setTwinState (setF (onTwin h (fun t => { t with peerLeft := [] })) HQ_TWIN_SRC 0 0) 2, 0, 0)
  else (onTwin h (fun t => { t with stopping := true }), 0, 0)

/-- The walk's extent: the lowest entry still to resilver at or above the pointer's, else the lowest of all. -/
def isWalked (h : Hw) (e : Nat) : Bool :=
  let left := leftToResilver h
  let ahead := left.filter (fun f => decide (h.twin.pointer.1 ≤ f))
  let next := if ahead.isEmpty then left else ahead
  next.contains e && next.all (fun f => decide (e ≤ f))

/-- RESILVER_CHUNK_SEND (R582): the source sends the next chunk of entry `e`, the walk's extent. -/
def execResilverChunkSend (e : Nat) (s : State) : Res := s.runBoth fun h v =>
  let x := extent h e
  let k := if h.twin.pointer.1 = e then h.twin.pointer.2 else 0
  let lba := lbaOf h e (64 * k)
  if twinState h ≠ 4 ∨ !(flagF h HQ_TWIN_SRC 0) ∨ h.twin.stopping ∨ x.nsid = 0 ∨ !(isWalked h e) ∨ !h.twin.inFlight.isEmpty ∨ carFenced h x.car ∨
     !(backgroundAllowed h x.car) ∨ !(writeFree h x.nsid lba 64) ∨ !(cipherReady h) ∨ 4096 ≤ h.engine.cmds.length then (h, v)
  else
    let epoch := (hall v x.nsid).epoch
    let blocks := (List.range 64).map (fun i =>
      let (w, g) := newestCopy h e (64 * k + i)
      decipher (isSealed h) x.nsid epoch g (lba + i) w)
    let metas := (List.range 64).map (fun i => newestMeta h e (64 * k + i))
    let h := noteIssue (addF h CY_CNT_COUNT 4 64) x.car true
    let h := takeCmd h
      { slot := 0, isn := 0, port := 0, sq := 0, cid := 0, opc := 1, nsid := x.nsid, slba := lba, nlb := 64, ordered := false, atomic := true
        source := .resilver, stage := .ready, inGallery := true, blocks := byLba lba 64 (fun i => blocks.getD i 0) }
    let h := sendMessage (unsettle h e) 7 ⟨1, 0, x.nsid, 64, lba, 0, writePayload (space h x.nsid).fmt blocks metas⟩
    let m := h.twin.mseqOut
    let h := onTwin h (fun t => { t with
      pointer := (e, k)
      inFlight := oset t.inFlight x.car (some m)
      unacked := t.unacked ++ [{ mseq := m, entry := e, sent := h.log.optime }] })
    (showUnacked h, v)

/-- TWIN_BEAT (R568): every 10 ms BEAT goes on in the partner's inbox; the own inbox shows whether the partner's does (R586). -/
def execTwinBeat (s : State) : Res := s.run fun h =>
  if twinState h = 0 then h
  else
    let h := onTwin h (fun t => { t with beatOut := (t.beatOut + 1) % 2 ^ 64 })
    let h := peerWrite h 0x80 (leBytes 8 h.twin.beatOut)
    let now := memWord h (inboxBase + 0x80) 8
    let h := if now = h.twin.beatIn then h
      else partnerUp (onTwin h (fun t => { t with beatIn := now }))
    let h := if h.log.optime ≥ h.twin.beatTime + liveVal h 0x0000 0x021 0 then setF h HQ_TWIN_PEERUP 0 0 else h
    drainOutbox h h.twin.outbox

/-- PARTNER_LOST (R579): `cause` 0: BEAT has stood for the loss timeout, 1: a message has waited longer than the acknowledge timeout,
2: the link of the peer port is down, 3: a message fails R571. -/
def execPartnerLost (cause : Nat) (s : State) : Res := s.run fun h =>
  let now := h.log.optime
  let real : Bool := match cause with
    | 0 => decide (h.twin.beatTime + liveVal h 0x0000 0x021 0 ≤ now)
    | 1 => h.twin.unacked.any (fun u => decide (u.sent + liveVal h 0x0000 0x022 0 < now))
    | 2 => getF h HP_LSTAT_SPEED (hpd h.twin.port) == 0
    | _ => cause == 3
  if real then declareLost h else h

/-- UNSETTLED_LIST_LEAVE (R581): extent `e` leaves the list 1 s after its last Ack. -/
def execUnsettledListLeave (e : Nat) (s : State) : Res := s.run fun h =>
  match oget h.twin.unsettled e with
  | some t =>
    if !(h.twin.unacked.any (fun u => u.entry == e)) ∧ t + 1000 ≤ h.log.optime then
      markBitmap (onTwin h (fun t => { t with unsettled := oset t.unsettled e none })) e false
    else h
  | none => h

/-- STARTUP_HELLO_WAIT_END (R581): 2 s after media ready writes are accepted solo. -/
def execStartupHelloWaitEnd (s : State) : Res := s.run fun h =>
  if h.twin.helloSince + 2000 ≤ h.log.optime then onTwin h (fun t => { t with helloWait := false }) else h

/-- PAIR_RECORD_WRITE (R583). -/
def execPairRecordWrite (s : State) : Res := s.run fun h => if twinState h = 0 then h else writePairRecord h

end Sys2Proof.Machine
end

