-- ==== Sys2Proof/Machine/Slots.lean ====
section
/-! DEFINITION. What the 32-byte slots of the record store hold: records, minute banks, role keys, Halls, progress records and
the unsettled bitmap (R539, R545, R557, R561, R613, R616, R621, R623). -/
namespace Sys2Proof.Machine

/-- One namespace record of a bank (R557). -/
def Ledger.bytes (l : Ledger) : List (BitVec 8) :=
  leBytes 8 l.rbytes ++ leBytes 8 l.wbytes ++ leBytes 4 l.rcmds ++ leBytes 4 l.wcmds ++ leBytes 4 l.ocmds ++ leBytes 4 l.busy0 ++
  leBytes 4 l.busy1 ++ leBytes 4 l.busy2 ++ leBytes 4 l.busy3 ++ leBytes 4 l.st

/-- The 256 slots of a bank (R557); a bank whose CRC is not valid was never written and reads 0. -/
def Bank.bytes (b : Bank) : List (BitVec 8) :=
  if b.valid then
    let head := leBytes 4 0x434C564A ++ leBytes 1 1 ++ leBytes 1 b.kind ++ leBytes 1 b.mflags ++ zeros 1 ++ leBytes 8 b.bseq ++ leBytes 8 b.minute ++
      leBytes 8 b.time ++ leBytes 8 b.cidx ++ zeros 20
    let recs := (List.range 128).flatMap (fun i => (mget (fun _ => {}) b.recs (i + 1)).bytes)
    padTo 8192 (head ++ leBytes 4 (crc32c (head ++ recs)) ++ recs)
  else zeros 8192

/-- One copy of a role key, two slots (R539): the wrapped key lowest byte first, SEQ, zeros, CRC. -/
def keyCopyBytes (k : Nat × Nat) : List (BitVec 8) :=
  let b := leBytes 40 k.1 ++ leBytes 4 k.2 ++ zeros 16
  b ++ leBytes 4 (crc32c b)

/-- The four slots of a role key: odd SEQ in copy A, even in copy B (the first copy goes to A, DESIGN CHOICE, log entry 38). -/
def RoleKey.bytes (k : RoleKey) : List (BitVec 8) :=
  let pick := fun (r : Nat) => match [k.copy, k.older].filterMap (fun c => c) |>.find? (fun c => c.2 % 2 == r) with
    | some c => keyCopyBytes c
    | none => zeros 64
  pick 1 ++ pick 0

/-- One copy of a Hall (R545). -/
def Hall.bytes (n : Nat) (x : Hall) : List (BitVec 8) :=
  if x.seq = 0 then zeros 32
  else
    let b := leBytes 2 n ++ leBytes 1 x.st ++ zeros 1 ++ leBytes 4 x.epoch ++ leBytes 4 x.wgen ++ leBytes 4 x.seq ++ leBytes 8 x.resv ++ zeros 4
    b ++ leBytes 4 (crc32c b)

/-- The two slots of namespace `n`'s Hall: odd SEQ in the lower one (DESIGN CHOICE, log entry 38). -/
def hallSlots (v : Vault) (n : Nat) : List (BitVec 8) :=
  let now := hall v n
  let old := mget (fun _ => {}) v.older n
  if now.seq % 2 = 1 then now.bytes n ++ old.bytes n else old.bytes n ++ now.bytes n

/-- The 32 bytes of area slot `a` (R561, R621). -/
def areaSlot (h : Hw) (v : Vault) (a : Nat) : List (BitVec 8) :=
  let cut := fun (l : List (BitVec 8)) (i : Nat) => (l.drop (32 * i)).take 32
  if a < 256 then cut h.cipher.bank0.bytes a
  else if a < 512 then cut h.cipher.bank1.bytes (a - 256)
  else if a < 768 then cut h.cipher.bank2.bytes (a - 512)
  else if a < 772 then cut h.cipher.operator.bytes (a - 768)
  else if a < 776 then cut h.cipher.custodian.bytes (a - 772)
  else if a < 1032 then cut (hallSlots v ((a - 776) / 2 + 1)) ((a - 776) % 2)
  else if a < 1304 then leBytes 32 (zget h.log.area a)
  else zeros 32

/-- The 32 bytes of store slot `k` (R616). -/
def storeSlotBytes (h : Hw) (v : Vault) (k : Nat) : List (BitVec 8) :=
  if k < serviceEnd then (match oget h.log.slots k with | some r => r.bytes | none => zeros 32)
  else areaSlot h v (k - serviceEnd)

/-- EV_RSEL_WRITE (R623): a write of EV_RSEL lands; the named slot is copied whole into EV_RDATA0-7. -/
def evRsel (h : Hw) (v : Vault) (data : Nat) : Hw :=
  let k := bits 14 0 data
  let w := leVal (storeSlotBytes h v k)
  let h := setF h EV_RSEL_SLOT 0 k
  (List.range 8).foldl (fun h i => setReg h (EV_RDATA + 4 * i) (w / 2 ^ (32 * i) % 2 ^ 32)) h

def execEvRselWrite (data : Nat) (s : State) : Res := s.runBoth fun h v => (evRsel h v data, v)

end Sys2Proof.Machine
end

