-- ==== Sys2Proof/Machine/Access.lean ====
section
/-! DEFINITION. Register accesses: what a read returns, what a write does when it lands, the bridges (R14, R33-R38, R123-R132, R412,
R413, R419, R594, R650). Addresses are byte offsets from 0x4000_0000 (R123). -/
namespace Sys2Proof.Machine

/-! Bridges (R126-R129, R650). -/

/-- The page of a register. -/
def pageOf (a : Nat) : Nat := a / 0x1000 * 0x1000

/-- The page exists: a block has this instance, and no strap makes it absent (R124). -/
def pageExists (h : Hw) (a : Nat) : Bool := decide (regInst a < pageInstances (regCode a)) && !(pageAbsent h a)

/-- FAR of a page (R128). -/
def pageFar (h : Hw) (a : Nat) : Bool := flagF h (farFld (pageOf a)) 0

/-- The posted write in flight through the page's bridge (R127). -/
def inFlight (h : Hw) (a : Nat) : Option Posted := oget h.bridges (pageOf a)

/-- BUSY as BRG shows it (R38, R127): a posted write in flight, or a far side that is on and not ready. -/
def pageBusy (h : Hw) (a : Nat) : Bool := (inFlight h a).isSome || (pageFar h a && domainOn h (pageDomain a))

/-- A bridge status register as it reads (R129). -/
def bridgeWord (h : Hw) (a : Nat) : Nat :=
  let w := getReg h a
  putBit (putBit w 31 (pageBusy h a)) 28 (bits 23 16 w != 0)

/-- A write to a bridge status register (R129): SIZE and LOSTS clear; with no LOSTS bit left LSRC reads 0xF. -/
def writeBridge (h : Hw) (a data : Nat) : Hw :=
  let w := getReg h a
  let w := if bitAt data 29 then putBit w 29 false else w
  let losts := (List.range 8).foldl (fun l i => if bitAt data (16 + i) then putBit l i false else l) (bits 23 16 w)
  let w := putBits 23 16 losts w
  setReg h a (if losts = 0 then putBits 15 12 0xF w else w)

/-- A register is written posted when one of its writable fields carries PW (R126). -/
def isPosted (r : RegDef) : Bool := r.fields.any (fun f => f.posted)

/-! What a register read returns. -/

/-- Words of registers that show other state: bits that the register file does not hold (each from its own chapter). -/
def shownWord (h : Hw) (a : Nat) : Nat :=
  let w := getReg h a
  let c := regInst a
  let k := regCode a * 0x100000 + regOff a
  if k = HQ_STAT then
    let n := h.engine.cmds.length
    putBit (putBits 28 16 (min n 4096) w) 31 (bitAt w 31 && decide (n < 4096))
  else if k = CH_WPER then chWper h c
  else if k = HP_MBCTL then putBit w 31 (bitAt w 30)
  else if k = EV_STAT then putBits 29 23 h.log.queue.length w
  else if k = CC_IPEND then (List.range 32).foldl (fun w n => putBit w n (sourceHigh h n)) 0
  else if CC_CLAIM ≤ k ∧ k < CC_CLAIM + 16 then claim h ((k - CC_CLAIM) / 4)
  else if k = CC_MTIMEL then h.cluster.mtime % 2 ^ 32
  else if k = CC_MTIMEH then h.cluster.mtime / 2 ^ 32 % 2 ^ 32
  else if k = TH_FLSTAT then dieFaults h c
  else if k = CY_STAT then putBit w 31 (cipherReady h)
  else if k = CY_MDATA then
    let n := getF h CY_MSEL_NSID 0
    let e := mget (fun _ => {}) h.cipher.window (if 1 ≤ n ∧ n ≤ 128 then n else 1)
    if flagF h CY_MSTAT_VALID 0 then leVal (((Minute.bytes e).drop (4 * getF h CY_MSEL_WORD 0)).take 4) else 0
  else if k = PW_PSTATE then
    let st := twinState h
    putBit w 24 (h.engine.oper.isSome || st == 2 || (st == 3 && !h.twin.helloWait) || st == 4)
  else w

/-- The fields that a read returns: a write-only field reads 0 (R14). -/
def readable (r : RegDef) (w : Nat) : Nat :=
  r.fields.foldl (fun w f => match f.acc with
    | .wo => putBits f.fld.hi f.fld.lo 0 w
    | _ => w) w

/-- The RC fields of a register cleared (R14, R132). -/
def clearRc (h : Hw) (a : Nat) (r : RegDef) : Hw :=
  r.fields.foldl (fun h f => match f.acc with
    | .rc => setReg h a (putBits f.fld.hi f.fld.lo 0 (getReg h a))
    | _ => h) h

/-! What a landed write does. -/

/-- One field under its access code (R14): `data` is the written word, `w` the register. -/
def mergeField (data w : Nat) (f : FieldDef) : Nat :=
  let hi := f.fld.hi
  let lo := f.fld.lo
  match f.acc with
  | .rw => putBits hi lo (bits hi lo data) w
  | .w1c => putBits hi lo (bits hi lo w - (bits hi lo w &&& bits hi lo data)) w
  | .w1s => putBits hi lo (bits hi lo w ||| bits hi lo data) w
  | .wm => (List.range (hi + 1 - lo)).foldl (fun w i => if bitAt data (16 + lo + i) then putBit w (lo + i) (bitAt data (lo + i)) else w) w
  | .ro => w
  | .wo => w
  | .rc => w

/-- Write a register by the access codes of its fields (R14). -/
def writeCodes (h : Hw) (a data : Nat) : Hw :=
  match regAt a with
  | some r => setReg h a (r.fields.foldl (mergeField data) (getReg h a))
  | none => h

/-- Carry out a command's meaning on the hardware alone, keeping what was sent out before. -/
def perform (h : Hw) (f : State → Res) : Hw :=
  match f { hw := h } with
  | .next t => { t.hw with out := h.out ++ t.hw.out }
  | .fault _ => h
  | .refused _ => h

/-- A write of SV_CTL (R333, R363, R365 events): ENA starts or stops the engine; RCEN set while learning is armed discards the
revolution. -/
def writeSvCtl (h : Hw) (c data : Nat) : Hw :=
  let was := getReg h (SV_CTL + inst c)
  let h := writeCodes h (SV_CTL + inst c) data
  let h := if bitAt data 29 && !(bitAt was 29) && flagF h SV_RC_ARM (inst c) then
    setF (onServo h c (fun v => { v with rev := [], revCount := 0 })) SV_RCSTAT_BUSY (inst c) 0 else h
  if bitAt data 31 && !(bitAt was 31) then perform h (execServoEnable c)
  else if !(bitAt data 31) && bitAt was 31 then servoOff h c
  else h

/-- A write of SV_RC (R354, R356): a change of head or zone clears the accumulator; COMMIT with READY waits for its boundary. -/
def writeSvRc (h : Hw) (c data : Nat) : Hw :=
  let was := getReg h (SV_RC + inst c)
  let h := writeCodes h (SV_RC + inst c) data
  let h := if bits 29 21 data = bits 29 21 was then h
    else setF (setF (onServo h c (fun v => { v with acc := [], rev := [], revCount := 0, rpmSum := 0 })) SV_RCSTAT_REVS (inst c) 0) SV_RCSTAT_BUSY (inst c) 0
  if bitAt data 7 && flagF h SV_RCSTAT_READY (inst c) then onServo h c (fun v => { v with rcDue := true }) else h

/-- An access of SV_CDATA (R343): the addressed word of the staging copy or, on a read with SRC, of the grid; WORD moves on. -/
def accessSvCdata (h : Hw) (c : Nat) (write : Bool) (data : Nat) : Hw :=
  let k := getF h SV_CADDR_BANK (inst c)
  let w := getF h SV_CADDR_WORD (inst c)
  let h :=
    if write then (if 8 < k then h else onServo h c (fun v => { v with staging := zset v.staging (64 * k + w) (bankWord w data) }))
    else
      let m := if flagF h SV_CADDR_SRC (inst c) then (sv h c).grid else (sv h c).staging
      emit h (.word (BitVec.ofNat 32 (if 8 < k then 0 else zget m (64 * k + w))))
  setF h SV_CADDR_WORD (inst c) ((w + 1) % 64)

/-- Set HP_NRCFG (R419): while ENA is 1 only a write that clears ENA is taken; setting ENA restarts the ring. -/
def writeRingConfig (h : Hw) (p data : Nat) : Hw :=
  let a := HP_NRCFG + inst p
  if flagF h HP_NRCFG_ENA (inst p) then (if bitAt data 31 then h else writeCodes h a data)
  else
    let h := writeCodes h a data
    if bitAt data 31 then setF (onPort h p (fun x => { x with ringPhase := true })) HP_NRTAIL_TAIL (inst p) 0 else h

/-- A write that lands at a DMA register (R488, R493, R494, R499, R501). -/
def writeDma (h : Hw) (o data : Nat) : Hw :=
  let n := o / 0x40
  if o < 0x800 then
    if n < 8 then setF h DM_GSTAT_SREF 0 1
    else if o % 0x40 = 0 then
      if bitAt data 31 then (if bitAt data 30 then perform h (execDmCtrlResume n false) else perform h (execDmCtrlStart n false))
      else perform h (execDmCtrlStop n false)
    else if o % 0x40 = 0x28 then perform h (execDmRqcfgWrite n data false)
    else writeCodes h (DM_CTRL + o) data
  else if o = 0x800 then perform h (execDmBell data)
  else if o = 0x804 then
    let h := if bitAt data 30 then setF h DM_GSTAT_SREF 0 0 else h
    if bitAt data 31 then perform h execDmaHaltClear else h
  else writeCodes h (DM_CTRL + o) data

/-- A write that lands at a register of a carriage die: key `k` of instance 0, carriage `c`. -/
def writeCarriage (h : Hw) (c k data : Nat) : Hw :=
  let a := k + inst c
  if k = PA_SIF_CMD then perform h (execPaSifCmdWrite c data)
  else if k = CH_TADDR then perform h (execChTaddrWrite c data)
  else if k = CH_TDATA then perform h (execChTdataAccess c true data)
  else if k = CH_ASTAT then
    let h := writeCodes h a data
    if bitAt data 31 then perform h (execAreqClear c) else h
  else if k = CH_ADAPT then
    let was := flagF h CH_ADAPT_ACT (inst c)
    let h := writeCodes h a data
    if was && !(flagF h CH_ADAPT_ACT (inst c)) then endActive h c else h
  else if CH_HFE0 ≤ k ∧ k < CH_HFE0 + 0x300 ∧ (k - CH_HFE0) % 0x80 = 0 then
    let hd := (k - CH_HFE0) / 0x80
    onChan (writeCodes h a data) c (fun x => { x with cur := x.cur.map (fun e => if e.head = hd then { e with hfeWritten := true } else e) })
  else if k = FM_RQPUSH then (if bitAt data 31 then perform h (execFmRqpush c) else h)
  else if k = FM_INT then (if bitAt data 31 then perform h (execFwreq c) else h)
  else if k = FM_PLOAD then (if bitAt data 31 then perform h (execPatchLoadStart c) else h)
  else if k = FM_MCTL then
    if bitAt data 31 then (if flagF h FM_MCTL_RUN (inst c) then h else setRun h c)
    else (if flagF h FM_MCTL_RUN (inst c) then perform h (execRunClear c) else h)
  else if k = SV_SEEK then perform h (execSvSeekWrite c data)
  else if k = SV_CADDR then perform h (execSvBankCommit c data)
  else if k = SV_CDATA then accessSvCdata h c true data
  else if k = SV_RC then writeSvRc h c data
  else if k = SV_CTL then writeSvCtl h c data
  else if PA_HLVL ≤ k ∧ k < PA_HLVL + 0xC0 then showSync (writeCodes h a data) c ((k - PA_HLVL) / 0x20)
  else writeCodes h a data

/-- A write that lands at a register of the motor die. Whether a start measures a current-sense offset above its limit (R405) is a
free value here; the command SPINDLE_START names it. -/
def writeMotor (h : Hw) (c k data : Nat) : Hw :=
  let a := k + inst c
  if k = SP_CMD then
    (match bits 31 30 data with
     | 1 => perform h execSpindleStart
     | 2 => perform h execSpindleStop
     | 3 => perform h execSpindleCoast
     | _ => h)
  else if k = SP_CTL then
    let was := flagF h SP_CTL_GOV 0
    let now := effectiveTarget h
    let h := writeCodes h a data
    if !was && bitAt data 31 then onSpindle h (fun p => { p with request := now }) else h
  else if SP_ECAL ≤ k ∧ k < SP_ECAL + 16 then (if bitAt data 31 then perform h (execEcalStart ((k - SP_ECAL) / 4)) else h)
  else if k = AC_CMD then
    (match bits 31 30 data with
     | 1 => perform h (execLoad c)
     | 2 => perform h (execUnload c)
     | 3 => perform h (execRetract c)
     | _ => h)
  else writeCodes h a data

/-- A write that lands at a register of the hub. HP_MBCTL.GO is the mailbox's (R418), and stands with it. -/
def writeHub (h : Hw) (v : Vault) (a k data src : Nat) : Hw :=
  if k = HP_NRCFG then writeRingConfig h (regInst a) data
  else if regCode a = 3 then writeDma h (regOff a) data
  else if k = CC_CORE then perform h (execCoreRelease data)
  else if k = CC_MOP then
    (match bits 31 30 data with
     | 1 => perform h (execCcMopClean data)
     | 2 => perform h (execCcMopInvalidate data)
     | 3 => perform h (execCcMopFlush data)
     | _ => if flagF h CC_MSTAT_BUSY 0 then setF h CC_MSTAT_REF 0 1 else writeCodes h a data)
  else if k = CC_WLOCK then perform h (execCcWlockWrite data)
  else if CC_MTCMPL ≤ k ∧ k < CC_MTCMPL + 0x20 then [0, 1, 2, 3].foldl (fun h n => perform h (execTimerCompare n)) (writeCodes h a data)
  else if k = TH_HBEAT then perform h (execThHbeatWrite (bits 7 0 data))
  else if k = TH_FORCE then perform h (execThForceWrite (regInst a) src data)
  else if k = EV_RSEL then evRsel h v data
  else if k = EV_FWCODE then perform h (execEvFwcodeWrite data)
  else if k = EV_PSLOT then perform h (execEvPslotGo data)
  else if k = PW_PSCMD then perform h (execPwPscmdGo data)
  else writeCodes h a data

/-- A write of `data` from source `src` lands at the register at `a` (R33, R36): the register takes it by the access codes of its
fields and what hangs on it happens. A register whose leaf has no power takes nothing and the write is lost (R650). -/
def landWrite (h : Hw) (v : Vault) (a data src : Nat) : Hw :=
  match regAt a with
  | none => h
  | some _ =>
    let k := regCode a * 0x100000 + regOff a
    if !(domainOn h (regDomain a)) then loseWrite h (pageOf a) src (regOff a)
    else
      let h := if 8 ≤ regCode a ∧ regCode a ≤ 11 then writeCarriage h (regInst a) k data
        else if regCode a = 12 ∨ regCode a = 13 then writeMotor h (regInst a) k data
        else writeHub h v a k data src
      updateLines h

/-- The posted write in flight through the bridge of `a` lands and BUSY clears (R127). -/
def landPosted (h : Hw) (v : Vault) (a : Nat) : Hw :=
  match inFlight h a with
  | some p => landWrite { h with bridges := oset h.bridges (pageOf a) none } v p.address p.data.toNat p.source
  | none => h

/-- A write from `src` to the register at `a` reaches its bridge (R124-R129): a reserved place ignores it, FAR drops it, a posted write
is carried unless one is in flight, a non-posted one lands after the write in flight. -/
def busWrite (h : Hw) (v : Vault) (src a data : Nat) : Hw :=
  if !(pageExists h a) then h
  else if regOff a = 0xFFC then writeBridge h a data
  else match regAt a with
    | none => h
    | some r =>
      if pageFar h a then loseWrite h (pageOf a) src (regOff a)
      else if isPosted r then
        if (inFlight h a).isSome then loseWrite h (pageOf a) src (regOff a)
        else { h with bridges := oset h.bridges (pageOf a) (some ⟨a, BitVec.ofNat 32 data, src⟩) }
      else landWrite (landPosted h v a) v a data src

/-! Access through BAR2 (R412, R413). -/

/-- Source number of BAR2 of port `p`. -/
def barSource (src : Nat) : Option Nat := if src = 4 then some 0 else if src = 5 then some 1 else none

/-- The register window serves the page's block code (R412). -/
def barServes (a : Nat) : Bool := regCode a == 1 || decide (6 ≤ regCode a)

/-- What stands at an offset of BAR2 of port `p` (R412): its own HP page at 0, a register through the window, nothing; offsets from 0x100_0000 on
stand for BAR0 (R411). The bulk window has commands of its own. -/
inductive BarPlace where
  | page (a : Nat)
  | window (a : Nat)
  | control (o : Nat)
  | hole
  deriving DecidableEq, Repr

/-- The place of offset `o`: register page `code`, instance `i` lies at 0x40_0000 + code x 0x4_0000 + i x 0x1000. -/
def barPlace (p o : Nat) : BarPlace :=
  if o < 0x1000 then .page (0x100000 + inst p + o)
  else if 0x400000 ≤ o ∧ o < 0x800000 then .window ((o - 0x400000) / 0x40000 * 0x100000 + (o - 0x400000) % 0x40000)
  else if 0x1000000 ≤ o then .control (o - 0x1000000)
  else .hole

/-- Through the window only PW_BOOT is served in boot recovery (R414), and only codes 1 and 6-15 ever (R412). -/
def windowServes (h : Hw) (a : Nat) : Bool := barServes a && (getF h PW_BOOT_STAGE 0 != 0x0D || a == PW_BOOT)

/-- What an access of `src` at `a` reaches: the control cores and debug name registers by their bus offsets, the ports by BAR offsets. -/
inductive Reached where
  | register (a : Nat)
  | control (p o : Nat)
  | refused (h : Hw)

/-- Where a read goes. -/
def readReaches (h : Hw) (src a : Nat) : Reached :=
  match barSource src with
  | none => .register a
  | some p => match barPlace p a with
    | .page k => .register k
    | .window k => if windowServes h k then .register k else .refused h
    | .control o => .control p o
    | .hole => .refused h

/-- Where a write goes (R412-R414): through the window it is performed only while 1120:011.0 is 1, else counted; HP pages are read-only
there. -/
def writeReaches (h : Hw) (src a : Nat) : Reached :=
  match barSource src with
  | none => .register a
  | some p => match barPlace p a with
    | .page k => .register k
    | .window k =>
      if !(windowServes h k) then .refused h
      else if liveVal h (ctrlLeaf p) 0x011 0 = 0 then .refused (bumpLive h (ctrlLeaf p) 0x012 0 1 32)
      else if regCode k = 1 then .refused h
      else .register k
    | .control o => .control p o
    | .hole => .refused h

/-- What a read of the register at `a` by `src` returns, and what it leaves (R37, R124, R127, R128, R132, R412, R650). A read of a data
port moves its address on. -/
def busRead (h : Hw) (v : Vault) (src a : Nat) : Hw :=
  let zero := fun (h : Hw) => emit h (.word 0)
  if !(pageExists h a) then zero h
  else if regOff a = 0xFFC then emit h (.word (BitVec.ofNat 32 (bridgeWord h a)))
  else match regAt a with
    | none => zero h
    | some r =>
      if pageFar h a then zero h
      else
        let h := landPosted h v a
        if !(domainOn h (regDomain a)) then zero h
        else
          let k := regCode a * 0x100000 + regOff a
          if k = CH_TDATA then perform h (execChTdataAccess (regInst a) false 0)
          else if k = SV_CDATA then accessSvCdata h (regInst a) false 0
          else
            let h := emit h (.word (BitVec.ofNat 32 (readable r (shownWord h a))))
            if src < 4 then clearRc h a r else h

/-! Commands. -/

/-- RC_FIELD_READ (R132): a read of a register by a source; an RC field clears when a control core reads it. A port names the place by its BAR
offset (R411, R412). -/
def execRcFieldRead (src a : Nat) (s : State) : Res := s.runBoth fun h v =>
  match readReaches h (src % 8) a with
  | .register k => (busRead h v (src % 8) k, v)
  | .control p o => (emit h (.word (BitVec.ofNat 32 (controlWord h p o))), v)
  | .refused h => (emit h (.word 0), v)

/-- POSTED_WRITE_ACCEPTED (R127): a posted write arrives at its bridge: it is carried and BUSY is set, or it is dropped. -/
def execPostedWriteAccepted (src a data : Nat) (s : State) : Res := s.runBoth fun h v =>
  match writeReaches h (src % 8) a with
  | .register k => (match regAt k with
    | some r => if isPosted r then (busWrite h v (src % 8) k data, v) else (h, v)
    | none => (h, v))
  | .control _ _ => (h, v)
  | .refused h => (h, v)

/-- POSTED_WRITE_LANDS (R127): the posted write in flight through the bridge of the page at `page` lands; BUSY clears. -/
def execPostedWriteLands (page : Nat) (s : State) : Res := s.runBoth fun h v => (landPosted h v page, v)

/-- The far side of a page can answer (R38, R285): its domain is up, and a formatter's control store is copied. -/
def farReady (h : Hw) (page : Nat) : Bool := domainUp h (pageDomain page) && (regCode page != 9 || (fm h (regInst page)).copied)

/-- BRIDGE_FAR_SIDE_READY (R38): the far side of the page's bridge leaves reset and its clock is stable: FAR and BUSY clear. A thermal page
holds the thresholds of TH0 from then on (R609, log entry 103). -/
def execBridgeFarSideReady (page : Nat) (s : State) : Res := s.run fun h =>
  if pageExists h page && farReady h page then
    let h := setF h (farFld (pageOf page)) 0 0
    if regCode page = 15 ∧ 1 ≤ regInst page then takeThresholds h (regInst page) else h
  else h

/-- MISALIGNED_ACCESS (R125): an access of the wrong size or alignment: a read returns 0, a write is ignored, SIZE is set. -/
def execMisalignedAccess (a : Nat) (write : Bool) (s : State) : Res := s.run fun h =>
  let h := if pageExists h a then setF h ⟨pageOf a + 0xFFC, 29, 29⟩ 0 1 else h
  if write then h else emit h (.word 0)

/-- NOTIFICATION_RING_ENABLE (R419): a write of HP_NRCFG of port `p` lands. -/
def execNotificationRingEnable (p data : Nat) (s : State) : Res := s.run fun h => if p < 2 then writeRingConfig h p data else h

end Sys2Proof.Machine
end

