-- ==== Sys2Proof/Machine/Faults.lean ====
section
/-! DEFINITION. Faults that a leaf detects, or that are forced, and what their chapters have them do at once (R243, R263, R319, R340,
R350, R368, R400, R405, R588, R592, R597). -/
namespace Sys2Proof.Machine

/-- The immediate action of a class in a leaf that belongs to a head of carriage `c` (R588 step 2): a head's sets or table with an
uncorrectable error are unused until reloaded (R243, R368; which of the head's sets has the error is free), a failed seek holds the heads in Settle (R350), a preamplifier fault
lowers WG (R263). -/
def headAction (h : Hw) (c hd u k : Nat) : Hw :=
  if nib u 2 = 1 then
    if k = 1 then
      let z := Config.freeNat h.freeCtr % 8
      setF (onChan (drawn h) c (fun x => { x with badSets := putBit x.badSets (setKey hd z) true })) CH_IRQS_TERR (inst c) 1
    else h
  else if nib u 2 = 2 then
    if k = 1 then onServo h c (fun x => { x with badTable := putBit x.badTable hd true })
    else if k = 8 then refuseSeek (holdHere h c) c
    else h
  else if k = 9 then setF (endRun h c) FM_SIRQS_PFLT (inst c) 1
  else h

/-- The same in another leaf of carriage `c`: an uncorrectable store error, an illegal word or an overrun halts the sequencer (R319);
an uncorrectable error or a lost lock of the servo and a voice-coil mismatch retract (R340, R400, R592). -/
def carriageAction (h : Hw) (c u k : Nat) : Hw :=
  if u = carPath c 0x310 then
    if k = 1 then setF (seqHalt h c) FM_MIRQS_UERR (inst c) 1
    else if k = 6 then setF (seqHalt h c) FM_MIRQS_ILL (inst c) 1
    else if k = 12 then setF (setF (seqHalt h c) FM_MIRQS_OVR (inst c) 1) FM_MSTAT_OVR (inst c) 1
    else h
  else if u = carPath c 0x2F0 then
    if k = 1 then (if headsOut h c then startRetract (parkServo h c) c else h)
    else if k = 8 then setF (parkServo h c) SV_IRQS_LOCKL (inst c) 1
    else h
  else if u = 0x6211 + c ∧ k = 8 then startRetract (setF h AC_IRQS_IMIS (inst c) 1) c
  else h

/-- The same in a leaf of the hub or of the motor die: the watchdog stops ALIVE (R597); the
spindle coasts, is Faulted, or retracts every drive (R405). -/
def otherAction (h : Hw) (u k : Nat) : Hw :=
  if u = 0x1A40 ∧ k = 5 then stopAlive h 1
  else if u = 0x6110 ∧ k = 8 then (if (sp h).loops then setF (setSp (loopsOff h) spCoasting) SP_IRQS_OCUR 0 1 else h)
  else if (u = 0x6110 ∧ k = 11) ∨ (u = 0x61F0 ∧ k = 8) ∨ (u = 0x6120 ∧ k = 8) then spFault h
  else if u = 0x6310 ∧ k = 4 then retractAll (coast h)
  else h

/-- The immediate action that a class has in a leaf (R588 step 2). -/
def immediateAction (h : Hw) (u k : Nat) : Hw :=
  match carriageOf u, headOf u with
  | some c, some hd => headAction h c hd u k
  | some c, none => carriageAction h c u k
  | none, _ => otherAction h u k

/-- FAULT_DETECTED (R588): leaf `u` detects class `k`; `persists` says whether the cause goes on (R141). -/
def execFaultDetected (u k : Nat) (persists : Bool) (s : State) : Res := s.run fun h =>
  if isLeaf u && !(absent h u) && decide (k < 15) then raiseFault (setCause (immediateAction h u k) u k persists) u k false else h

end Sys2Proof.Machine
end

