-- ==== Sys2Proof/Machine/Objects.lean ====
section
/-! DEFINITION. Dictionary objects: what an address names, the values objects read as, their defaults, and the bytes of the BLOBs
(R10, R11, R26-R30, R137-R141, R152-R162, R651, R653). -/
namespace Sys2Proof.Machine

/-! Identity (R139, R651). -/

/-- ASCII bytes of a string. -/
def ascii (s : String) : List (BitVec 8) := s.toList.map (fun c => BitVec.ofNat 8 c.toNat)

/-- One hexadecimal digit, capitals. -/
def hexDigit (n : Nat) : String := String.singleton (Char.ofNat (if n < 10 then 48 + n else 55 + n))

/-- Mnemonics of the hub's and the motor die's units of R651 that repeat nothing. -/
def plainNames : List (Nat × String) :=
  [(0x0000, "DEV"), (0x1000, "HUB"), (0x1100, "HPA"), (0x1110, "HPA.PHY"), (0x1120, "HPA.NVME"), (0x1200, "HPB"), (0x1210, "HPB.PHY"),
   (0x1220, "HPB.NVME"), (0x1300, "CMD"), (0x1310, "CMD.INTAKE"), (0x1320, "CMD.SCHED"), (0x1330, "CMD.MAP"), (0x1340, "CMD.CPL"),
   (0x1400, "BUF"), (0x1410, "BUF.NEAR"), (0x1420, "BUF.FAR"), (0x1500, "DMA"), (0x1600, "CIP"), (0x1610, "CIP.X"), (0x1620, "CIP.Y"),
   (0x1630, "CIP.KDF"), (0x1640, "CIP.METER"), (0x1700, "CPU"), (0x1710, "CPU.C0"), (0x1720, "CPU.C1"), (0x1730, "CPU.C2"),
   (0x1740, "CPU.C3"), (0x1750, "CPU.L2"), (0x1800, "EVR"), (0x1810, "EVR.STORE")] ++
  [(0x1900, "MGT"), (0x1910, "MGT.MAC"), (0x1920, "MGT.BULK"), (0x1A00, "AON"), (0x1A10, "AON.STRAP"), (0x1A20, "AON.TIME"),
   (0x1A30, "AON.SHADOW"), (0x1A40, "AON.ALIVE"), (0x6000, "MOT"), (0x6100, "SPN"), (0x6110, "SPN.CUR"), (0x6120, "SPN.OBS"),
   (0x6130, "SPN.SPEED"), (0x6200, "ACT"), (0x6210, "ACT.VCM"), (0x6220, "ACT.MA"), (0x6300, "SUP"), (0x6310, "SUP.BUS"), (0x6320, "SUP.HOLD"),
   (0x7000, "MEM"), (0x7100, "MEM.D0"), (0x7200, "MEM.D1")]

/-- Blocks of a carriage die. -/
def carriageNames : List (Nat × String) :=
  [(0x000, ""), (0x100, ".CH"), (0x200, ".SV"), (0x300, ".FM"), (0x310, ".FM.SEQ"), (0x320, ".FM.LAND"), (0x330, ".FM.DEF"), (0x400, ".PA"),
   (0x500, ".FE"), (0x510, ".FE.A"), (0x520, ".FE.B")]

/-- The name of a unit of R21-R23 that is not a common part; none for a path that only names a group under R25. -/
def unitName (u : Nat) : Option String :=
  match plainNames.find? (fun p => p.1 == u) with
  | some p => some p.2
  | none =>
    if 0x1510 ≤ u ∧ u ≤ 0x1540 ∧ nib u 0 = 0 then some ("DMA.G" ++ toString (nib u 1 - 1))
    else if channelLeaves.contains u then some ("DMA.CH" ++ toString ((nib u 1 - 1) * 8 + (nib u 0 - 1)))
    else if u / 0x100 = 0x62 ∧ 1 ≤ nib u 0 ∧ nib u 0 ≤ 4 ∧ nib u 1 ≤ 2 then
      some ((if nib u 1 = 0 then "ACT.C" else if nib u 1 = 1 then "ACT.VCM" else "ACT.MA") ++ toString (nib u 0 - 1))
    else if 2 ≤ nib u 3 ∧ nib u 3 ≤ 5 then
      let c := "C" ++ toString (nib u 3 - 2)
      match headOf u with
      | some hd => (carriageNames.find? (fun p => p.1 == u % 0x1000 / 0x100 * 0x100)).map (fun p => c ++ p.2 ++ ".H" ++ toString hd)
      | none => (carriageNames.find? (fun p => p.1 == u % 0x1000)).map (fun p => c ++ p.2)
    else none

/-- The unit mnemonic (R651). Only a common part, which is a leaf, appends ".COM"; a path such as 0x10F0 is no unit. -/
def mnemonicOf (u : Nat) : String :=
  match unitName u with
  | some s => s
  | none =>
    match (if nib u 1 = 15 ∧ nib u 0 = 0 ∧ isLeaf u then unitName (u - 0xF0) else none) with
    | some s => s ++ ".COM"
    | none => "U" ++ hexDigit (nib u 3) ++ hexDigit (nib u 2) ++ hexDigit (nib u 1) ++ hexDigit (nib u 0)

/-- Parameter 000 (R139). -/
def identity (u : Nat) : List (BitVec 8) := ascii ("JVA-4824 " ++ mnemonicOf u)

/-! What an address names. -/

/-- Entries of the standard parameters 000-007 (R139). -/
def standardEntry (u p : Nat) : Option EntDef :=
  match p with
  | 0 => some ⟨u, 0, 11, some 0, none, 0, .fixed, 0, 0, 0, [], 0, 0⟩
  | 1 => some ⟨u, 1, 10, some 0, none, 0, .fixed, 0, 6, 0, [], 0, 0⟩
  | 2 => some ⟨u, 2, 3, some 0, none, 0, .fixed, 0, 4294967295, 0, [], 0, 0⟩
  | 3 => some ⟨u, 3, 10, some 0, some 1, 0, .fixed, 0, 1, 0, [], 0, 0⟩
  | 4 => some ⟨u, 4, 10, some 0, some 1, 0, .fixed, 1, 2, 0, [], 0, 0⟩
  | 5 => some ⟨u, 5, 10, some 0, some 1, 2, .fixed, 0, 2, 0, [], 0, 0⟩
  | 6 => some ⟨u, 6, 3, some 0, some 2, 0, .fixed, 0, 4294967295, 0, [], 0, 0⟩
  | 7 => some ⟨u, 7, 1, some 0, some 1, 2, .stored, 0, 7, 0, [], 0, 0⟩
  | _ => none

/-- The entry that element `e` of parameter `p` of path `u` is, or none for a missing object (R10, R11, R26, R30, R139, R162): element 0
of an array is its count, U8 and read-only (R138). -/
def objDef (h : Hw) (u p e : Nat) : Option EntDef :=
  if !(unitExists u) ∨ (p ≠ 0 ∧ p ≠ 1 ∧ (present h u).isEmpty) then none
  else
    match (if p < 0x10 then standardEntry u p else findEntry u p) with
    | none => none
    | some d =>
      if d.count = 0 then (if e = 0 then some d else none)
      else if e = 0 then some { d with ty := 1, wr := none, deflt := d.count, origin := .fixed, lo := 0, hi := 255 }
      else if e ≤ d.count then some d else none

/-- Bytes of a value of a type (R137); a STR carries its own length, a BLOB none. -/
def typeLen (ty : Nat) : Nat :=
  match ty with
  | 1 => 1 | 2 => 2 | 3 => 4 | 4 => 8 | 5 => 2 | 6 => 4 | 7 => 2 | 8 => 4 | 9 => 1 | 10 => 1 | 12 => 8 | _ => 0

/-- The numeric types (R137). -/
def isNumeric (ty : Nat) : Bool := decide (1 ≤ ty ∧ ty ≤ 8)

/-- The value of bytes of a type as an integer. -/
def typedInt (ty v : Nat) : Int := if 5 ≤ ty ∧ ty ≤ 8 then toSigned (8 * typeLen ty) v else (v : Int)

/-! Group values (R27, R28, R159). -/

/-- The status of a group (R27). -/
def groupStatus (h : Hw) (p : Nat) : Nat :=
  let st := (members p).map (statusOf h)
  let here := st.filter (fun s => s != 0)
  if here.isEmpty then 0
  else if here.contains 6 then 6
  else if here.all (fun s => s == 5) then 5
  else if here.contains 5 ∨ here.contains 4 then 4
  else if here.contains 1 then 1
  else if here.all (fun s => s == 3) then 3
  else 2

/-- What parameters 001-007 of a path read (R139, R159); a leaf is its own only member. -/
def standardValue (h : Hw) (u p : Nat) : Nat :=
  let ms := present h u
  match p with
  | 1 => if isLeaf u then statusOf h u else groupStatus h u
  | 2 => ms.foldl (fun w m => w ||| (unit h m).summary) 0
  | 3 => if isLeaf u then fenceRead h u else if ms.all (fenced h) then 1 else 0
  | 4 => if ms.any (fun m => (unit h m).busy) then 1 else if ms.any (fun m => (unit h m).failed) then 2 else 0
  | 5 => ms.foldl (fun w m => max w (powerOf h m)) 0
  | 6 => ms.foldl (fun w m => w ||| (unit h m).force) 0
  | 7 => ms.foldl (fun w m => min w (unit h m).filter) 7
  | _ => 0

/-! Values of entries that no register holds and that stand in the hardware's own state. -/

/-- Slots of the progress and ledger area in use (1810:010.4): a valid bank holds 256, a copy of a role key two, a copy of a Hall one. -/
def areaUse (h : Hw) (v : Vault) : Nat :=
  let banks := [h.cipher.bank0, h.cipher.bank1, h.cipher.bank2].filter (fun b => b.valid)
  let copies := [h.cipher.operator.copy, h.cipher.operator.older, h.cipher.custodian.copy, h.cipher.custodian.older].filter (fun c => c.isSome)
  let halls := (v.halls ++ v.older).filter (fun p => p.2.seq != 0)
  256 * banks.length + 2 * copies.length + halls.length + (h.log.area.filter (fun p => p.2 != 0)).length

/-- The state of PLCA (1910:016.0, R167, R168). -/
def plcaStatus (h : Hw) : Nat :=
  if h.mgmt.plca.enable = 0 then 3 else if h.mgmt.plca.localId = 0 then 2 else if h.mgmt.plcaSeen then 1 else 0

/-- Device and hub entries. -/
def hubValue (h : Hw) (v : Vault) (sess u p e : Nat) : Option Nat :=
  match u * 0x1000 + p with
  | 0x0000010 => some 0
  | 0x0000011 => (session h sess).challenge.map (fun c => if e = 1 then c % 2 ^ 64 else c / 2 ^ 64)
  | 0x0000013 => some (roleOf h sess)
  | 0x0000014 => some sess
  | 0x0000015 => some h.dict.store
  | 0x0000016 => some (256 - h.dict.subs.length)
  | 0x0000023 => some (divergentEntries h).length
  | 0x0000025 => some h.twin.losses
  | 0x0000026 => some (leftToResilver h).length
  | 0x1300010 => some h.engine.cmds.length
  | 0x1300012 => some (getF h PW_PSTATE_DEV 0)
  | 0x1300013 => some (match h.engine.oper with
    | some o => o.kind.code * 2 ^ 24 + o.pass % 256 * 2 ^ 16 + sprog h o
    | none => 0)
  | 0x1320011 => some (zget h.spindle.busy (e - 1))
  | 0x1330010 => some (h.engine.extents.filter (fun x => x.2.nsid != 0)).length
  | 0x1330011 => some (h.engine.extents.filter (fun x => x.2.readonly)).length
  | 0x1330012 => some h.engine.mapSeq
  | 0x1340010 => some (zget h.engine.counters e)
  | 0x1600011 => some h.cipher.moves
  | 0x1600012 => some ((lget h.cipher.queued (e - 1)).length + (oget h.cipher.running (e - 1)).isSome.toNat)
  | 0x1630012 => some (h.cipher.operator.inForce.toNat + 2 * h.cipher.custodian.inForce.toNat)
  | 0x1640011 => some h.cipher.gaps
  | 0x1800011 => some h.log.dropped
  | 0x1800012 => some h.log.filtered
  | 0x1800014 => some h.log.calendar
  | 0x1800015 => some (timeNow h)
  | 0x1800016 => some (leVal ((h.log.newest.bytes.drop (8 * (e - 1))).take 8))
  | 0x1810010 => some (if e = 1 then (usedSlots h.log 0 permanentEnd).length else if e = 2 then (usedSlots h.log permanentEnd circulatingEnd).length
    else if e = 3 then (usedSlots h.log circulatingEnd serviceEnd).length else areaUse h v)
  | 0x1810011 => some (session h sess).clearMask
  | 0x7100011 => some h.buffer.ue0
  | 0x7200011 => some h.buffer.ue1
  | 0x7200012 => some (getF h BM_BKT_DIE1 0)
  | _ => none

/-- Port, management and always-on entries. -/
def islandValue (h : Hw) (sess u p e : Nat) : Option Nat :=
  match u * 0x1000 + p with
  | 0x1900011 => some h.mgmt.sync
  | 0x1900012 => some h.mgmt.minute
  | 0x1900013 => some h.mgmt.lastE
  | 0x1900017 => some h.mgmt.performed
  | 0x1900018 => some h.mgmt.ignored
  | 0x1900019 => some h.mgmt.drops
  | 0x1910011 => (match oget h.dict.live (entryKey u p 0) with
    | some v => some v
    | none => some (nodeId h % 32 + 1))
  | 0x1910016 => some (plcaStatus h)
  | 0x1920010 => some (secOwner h (e - 1))
  | 0x1920011 => some ((sections h sess 1 ++ sections h sess 2).foldl (fun m n => m + 2 ^ n) 0)
  | 0x1A00043 => some h.boot.fwver
  | 0x1A00044 => some h.fuses.floor
  | 0x1A00045 => some h.boot.mediaMs
  | 0x1A00047 => some h.boot.failedStarts
  | 0x1A00048 => some h.boot.recovery
  | 0x1A00054 => some (getF h TH_TEMP_BROKEN (inst (e - 1)) + 2 * getF h TH_TEMP_SUBST (inst (e - 1)) + 4 * getF h TH_TEMP_FORCED (inst (e - 1)) +
      8 * getF h TH_TEMP_ZONE (inst (e - 1)))
  | 0x1A00055 => some (thermal h (e - 1)).trips
  | 0x1A00056 => some (thermal h (e - 1)).shutdowns
  | 0x1A00066 => some (zget h.island.counts e)
  | 0x1A10010 => some (nodeId h)
  | 0x1A10011 => some (population h)
  | 0x1A10012 => some (headsPer h)
  | 0x1A10013 => some (dualPort h).toNat
  | 0x1A10014 => some (twinRole h)
  | 0x1A10015 => some (motorProfile h)
  | 0x1A10016 => some (isSealed h).toNat
  | 0x1A10017 => some h.pins.strapLive
  | 0x1A10018 => some h.pins.anomaly
  | 0x1A40010 => some h.island.misses
  | 0x1A40011 => some (match h.island.alive with | .notStarted => 0 | .toggling => 1 | .stopped => 2)
  | _ => none

/-- The controller state of a port (1120:010.0). -/
def controllerState (h : Hw) (p : Nat) : Nat :=
  let x := port h p
  if cfsOf h p then 3 else if x.shst ≠ 0 then 2 else if x.rdy then 1 else 0

/-- A mean of a list of numbers, times `k`. -/
def meanTimes (k : Nat) (l : List Nat) : Nat := if l.isEmpty then 0 else k * l.foldl (fun (a b : Nat) => a + b) 0 / l.length

/-- Carriage, motor and repeated hub entries. -/
def carriageValue (h : Hw) (u p : Nat) : Option Nat :=
  if u = 0x1120 ∨ u = 0x1220 then (if p = 0x010 then some (controllerState h (nib u 2 - 1)) else none)
  else if u / 0x100 = 0x15 ∧ channelLeaves.contains u then
    (if p = 0x011 then some (dmaCh h ((nib u 1 - 1) * 8 + (nib u 0 - 1))).written else none)
  else if u / 0x100 = 0x17 ∧ 1 ≤ nib u 1 ∧ nib u 1 ≤ 4 then
    let k := h.cores.get (nib u 1 - 1)
    (if p = 0x010 then some k.minstret else if p = 0x011 then some k.faults else none)
  else if u = 0x6000 then (if p = 0x030 then some (link h 4).retries else if p = 0x031 then some (link h 4).state else none)
  else if u / 0x10 = 0x622 ∧ p = 0x010 then some (ofSigned 16 (h.drives.get (nib u 0 - 1)).ma)
  else if u = 0x6320 ∧ p = 0x012 then some h.spindle.holdUps
  else match carriageOf u with
    | none => none
    | some c =>
      match headOf u, u % 0x1000, p with
      | some hd, _, 0x010 => if nib u 2 = 1 then some (meanTimes 256 (lget (ch h c).iterWin hd) % 65536) else none
      | some hd, _, 0x011 => if nib u 2 = 1 then some (meanTimes 16 (lget (ch h c).rawWin hd) % 65536) else none
      | some hd, _, 0x012 => if nib u 2 = 1 then some (zget (ch h c).headReverts hd) else none
      | none, 0x000, 0x030 => some (link h c).retries
      | none, 0x000, 0x031 => some (link h c).state
      | none, 0x000, 0x034 => some (link h (5 + c)).retries
      | none, 0x000, 0x035 => some (link h (5 + c)).state
      | none, 0x320, 0x011 => some (landFree h c)
      | none, 0x320, 0x012 => some (lseq h c)
      | none, 0x320, 0x013 => some (ldseq h c)
      | none, 0x330, 0x010 => some ((path h c).grown.length % 65536)
      | none, 0x510, 0x010 => some (ch h c).satA
      | none, 0x520, 0x010 => some (ch h c).satB
      | _, _, _ => none

/-- The address of the register behind a part of element `e` of an entry of unit `u`. -/
def partAddr (d : EntDef) (u e : Nat) (f : Fld) : Nat := f.key + (entryHome u).2 + (e - 1) * d.step

/-- Registers behind an object; none where the value is not the registers' (7200:012.0 has a field of its own). -/
def objRegs (d : EntDef) (u e : Nat) : List Nat :=
  if (d.count ≠ 0 ∧ e = 0) ∨ u = 0x7200 ∧ d.param = 0x012 then [] else d.parts.map (fun p => partAddr d u e p.1)

/-- The word that the dictionary reads of a register: 0 while the register's leaf has no power (R650). -/
def leafWord (h : Hw) (a : Nat) : Nat := if domainOn h (regDomain a) then shownWord h a else 0

/-- The value of an object of a fixed-length type (R152, R154, R156). -/
def objNum (h : Hw) (v : Vault) (sess u p e : Nat) (d : EntDef) : Nat :=
  if p < 0x10 then standardValue h u p
  else if d.count = 0 ∨ e ≠ 0 then
    match hubValue h v sess u p e with
    | some x => x
    | none =>
      match islandValue h sess u p e with
      | some x => x
      | none =>
        match carriageValue h u p with
        | some x => x
        | none =>
          if d.parts.isEmpty then liveVal h u p e
          else d.parts.foldl (fun w q => w + bits q.1.hi q.1.lo (leafWord h (partAddr d u e q.1)) * 2 ^ q.2) 0
  else d.count

/-- The bytes of a readable object that is no BLOB. -/
def objBytes (h : Hw) (v : Vault) (sess u p e : Nat) (d : EntDef) : List (BitVec 8) :=
  if p = 0 then identity u else leBytes (typeLen d.ty) (objNum h v sess u p e d)

/-- The factory value of a stored entry: the Default column, or the motor profile's value (R152, R653, R371). -/
def factoryValue (h : Hw) (d : EntDef) : Nat :=
  if d.path = 0x6110 ∧ d.param = 0x014 then (motor h).imax else if d.path = 0x6130 ∧ d.param = 0x017 then (motor h).brake else d.deflt

/-- The default of an object in its type (R171): the straps' and fuses' values are what they are, the status and the start cause of
this start and the reader's session ID their present ones. -/
def defaultBytes (h : Hw) (v : Vault) (sess u p e : Nat) (d : EntDef) : List (BitVec 8) :=
  let now : Bool := match d.origin with | .strap => true | .fuse => true | _ => false
  if p = 0 then identity u
  else if u = 0x1910 ∧ p = 0x011 then leBytes 1 (nodeId h % 32 + 1)
  else if now ∨ p = 1 ∨ (u = 0 ∧ p = 0x014) ∨ (u = 0x1A00 ∧ p = 0x046) then objBytes h v sess u p e d
  else leBytes (typeLen d.ty) (if d.count ≠ 0 ∧ e = 0 then d.count else factoryValue h d)

/-! BLOBs (R162 and the entry tables). -/

/-- Slots of the record store as bytes; in the progress and ledger area slots 768-775 read 0 (R623). -/
def slotBytes (h : Hw) (v : Vault) (lo hi : Nat) : List (BitVec 8) :=
  (List.range (hi - lo)).flatMap (fun i => if serviceEnd + 768 ≤ lo + i ∧ lo + i < serviceEnd + 776 then zeros 32 else storeSlotBytes h v (lo + i))

/-- One entry of the grown-defect list (R275). -/
def GDef.bytes (g : GDef) : List (BitVec 8) :=
  leBytes 1 g.head ++ leBytes 1 (g.pend.toNat + 2 * g.reserve.toNat + 4 * g.landing.toNat) ++ leBytes 2 g.sect ++ leBytes 4 g.track ++
  leBytes 4 g.spare ++ leBytes 1 g.cause ++ zeros 3

/-- The live value of the BLOB that parameter `p` of `u` is: the words in use where the unit holds them, else what was written or
loaded, zeros of its full length before (R231, R429, R623, R653). -/
def blobValue (h : Hw) (v : Vault) (u p size : Nat) : List (BitVec 8) :=
  let plain := padTo size (lget h.dict.blobs (entryKey u p 0))
  let words := fun (m : SMap Nat) (base n : Nat) =>
    if m.any (fun q => decide (base ≤ q.1) && decide (q.1 < base + n)) then wordBytes m base n else plain
  if u = 0 then ledgerPage h (liveVal h 0 0x024 0) (lget h.twin.partnerLedger (liveVal h 0 0x024 0))
  else if u = 0x1330 then (List.range 65536).flatMap (fun e => (extent h e).bytes)
  else if u = 0x1640 then
    (if p = 0x010 then (List.range 128).flatMap (fun i => leBytes 1 (mget (fun _ => {}) h.cipher.ledger (i + 1)).st)
     else ledgerPage h (p - 0x100) (lget h.cipher.history (p - 0x100)))
  else if u = 0x1810 then
    (if p = 0x100 then slotBytes h v 0 permanentEnd else if p = 0x101 then slotBytes h v permanentEnd circulatingEnd
     else if p = 0x102 then slotBytes h v circulatingEnd serviceEnd else slotBytes h v serviceEnd 32768)
  else match carriageOf u, headOf u with
    | some c, some hd =>
      if nib u 2 = 1 ∧ p = 0x100 then wordBytes (ch h c).active (512 * hd) 512
      else if nib u 2 = 2 ∧ p = 0x100 then words (sv h c).tables (30720 * hd) 30720
      else plain
    | some c, none =>
      if u = carPath c 0x200 ∧ p = 0x100 then words (sv h c).grid 0 576
      else if u = carPath c 0x330 ∧ p = 0x100 then (path h c).grown.flatMap GDef.bytes
      else plain
    | _, _ => plain

/-- Settle the posted writes that were accepted before a read of an object (R156). -/
def settle (h : Hw) (v : Vault) (l : List Nat) : Hw := l.foldl (fun h a => landPosted h v a) h

end Sys2Proof.Machine
end

