-- ==== Sys2Proof/Machine/Settings.lean ====
section
/-! DEFINITION. Writing entries: registers behind them, live values, BLOBs, the commit, the revert and the load of stored values
(R130, R152-R156, R231, R247, R283, R343, R352, R539, R653). -/
namespace Sys2Proof.Machine

/-! Register-backed entries (R130, R154). -/

/-- The word that the dictionary agent writes to set one field: RW fields beside it keep their value, no other field is touched. -/
def agentWord (h : Hw) (a : Nat) (f : Fld) (x : Nat) : Nat :=
  match regAt a with
  | none => 0
  | some r =>
    let w := getReg h a
    let keep := r.fields.foldl (fun acc g => match g.acc with
      | .rw => putBits g.fld.hi g.fld.lo (bits g.fld.hi g.fld.lo w) acc
      | _ => acc) 0
    let mask := r.fields.foldl (fun acc g => match g.acc with
      | .wm => if f.lo ≤ g.fld.lo ∧ g.fld.hi ≤ f.hi then putBits (16 + g.fld.hi) (16 + g.fld.lo) (2 ^ 16 - 1) acc else acc
      | _ => acc) 0
    mask + putBits f.hi f.lo x keep

/-- The dictionary agent (source 6) writes a field of the register at `a`. False: the far side took no write, or the register's leaf has no
power (R650), and all 16 tries were dropped; it clears its own LOSTS bit (R130, R154). -/
def agentWrite (h : Hw) (v : Vault) (a : Nat) (f : Fld) (x : Nat) : Hw × Bool :=
  let h := landPosted h v a
  if pageFar h a || !(domainOn h (regDomain a)) then (writeBridge (loseWrite h (pageOf a) 6 (regOff a)) (pageOf a + 0xFFC) (2 ^ 22), false)
  else (landWrite h v a (agentWord h a f x) 6, true)

/-- 1A00:051.0 and 052.0 are TH0's registers, of which the agent puts a copy into every other TH page (R609, R610): into those whose far
side takes it now; a die without power takes it when it is powered (DESIGN CHOICE, log entry 103). -/
def isThreshold (d : EntDef) : Bool := d.path == 0x1A00 && (d.param == 0x051 || d.param == 0x052)

/-- The copies of a threshold entry that the agent makes after TH0's register has taken the value. -/
def copyThreshold (h : Hw) (v : Vault) (a : Nat) (f : Fld) (x : Nat) : Hw :=
  [1, 2, 3, 4, 5].foldl (fun h die => if pageExists h (a + inst die) ∧ !(pageFar h (a + inst die)) then (agentWrite h v (a + inst die) f x).1 else h) h

/-- Set the entry `d` of unit `u`, element `e` (R152-R155): the fields behind it, or the live value, and what hangs on the value
(R50, R167, R630). False: the write was dropped. -/
def putEntry (h : Hw) (v : Vault) (u e : Nat) (d : EntDef) (x : Nat) : Hw × Bool :=
  if d.parts.isEmpty then
    let h := setLive h u d.param e x
    if d.path = 0x2000 ∧ d.param = 0x020 then
      (match carriageOf u with
       | some c => (if x < shareUsed (cal h c) (h.log.optime / 1000 * 1000) h.log.optime then onCal h c (fun k => { k with closed := true }) else h, true)
       | none => (h, true))
    else if u = 0x1910 then (onMgmt h (fun m => { m with plcaPending := true }), true)
    else if u = 0x1A00 ∧ 0x061 ≤ d.param ∧ d.param ≤ 0x063 then (setLimits h (getF h PW_PSTATE_DEV 0), true)
    else (h, true)
  else
    d.parts.foldl (fun (r : Hw × Bool) q =>
      let a := partAddr d u e q.1
      let w := agentWrite r.1 v a q.1 (x / 2 ^ q.2)
      (if isThreshold d then copyThreshold w.1 v a q.1 (x / 2 ^ q.2) else w.1, r.2 && w.2)) (h, true)

/-! BLOBs. -/

/-- Set the live value of a BLOB that stands in the dictionary. -/
def setBlob (h : Hw) (u p : Nat) (l : List (BitVec 8)) : Hw :=
  onDict h (fun d => { d with blobs := lset d.blobs (entryKey u p 0) l })

/-- Stage a head's eight coefficient sets and request their commits (R230, R231). -/
def writeSets (h : Hw) (c hd : Nat) (l : List (BitVec 8)) : Hw :=
  let m := putWords [] (512 * hd) (bytesWords l)
  let h := onChan h c (fun x => { x with
    staging := (List.range 512).foldl (fun y i => zset y (512 * hd + i) (zget m (512 * hd + i) % 2 ^ wordBits (i % 64))) x.staging
    staged := (List.range 8).foldl (fun y z => zset y (setKey hd z) 1) x.staged })
  (List.range 8).foldl (fun h z => requestCommit h c (hd * 2 ^ 22 + z * 2 ^ 19)) h

/-- A commit of one of the head's eight sets still waits for a sector boundary (R230, R231). -/
def setsPending (h : Hw) (u : Nat) : Bool :=
  match carriageOf u, headOf u with
  | some c, some hd => (List.range 8).any (fun z => zget (ch h c).commitDue (setKey hd z) == 1)
  | _, _ => false

/-- The reserved words 54-63 of every set keep their value. -/
def setsKeepReserved (h : Hw) (c hd : Nat) (l : List (BitVec 8)) : Bool :=
  let m := putWords [] 0 (bytesWords l)
  (List.range 8).all (fun z => (List.range 10).all (fun i => zget m (64 * z + 54 + i) == zget (ch h c).active (512 * hd + 64 * z + 54 + i)))

/-- Stage the nine grid banks and commit each in turn by R343, until all are accepted or one is refused (R370): a refused bank sets
SV_IRQS.CREF and keeps its staging, those before it stand, and the live value of the entry stays. -/
def writeBanks (h : Hw) (c : Nat) (l : List (BitVec 8)) : Hw × Bool :=
  let m := putWords [] 0 (bytesWords l)
  let h := onServo h c (fun v => { v with staging := (List.range 576).foldl (fun y i => zset y i (bankWord (i % 64) (zget m i))) v.staging })
  let good := (List.range 9).takeWhile (bankOk (sv h c))
  let h := good.foldl (fun h k => commitBank h c k) h
  if good.length = 9 then (setBlob h (carPath c 0x200) 0x100 l, true) else (commitBank h c good.length, false)

/-- Load a head's correction tables (R352, R357); they replace tables with an uncorrectable error (R368). -/
def writeTables (h : Hw) (c hd : Nat) (l : List (BitVec 8)) : Hw :=
  onServo (setBlob h (servoHead c hd) 0x100 l) c (fun v =>
    { v with tables := putWords v.tables (30720 * hd) (bytesWords l), badTable := putBit v.badTable hd false })

/-- A Block write of a BLOB after the checks of the transaction: the status of R134. -/
def writeBlob (h : Hw) (sess u p : Nat) (l : List (BitVec 8)) : Hw × Nat :=
  if u = 0x1630 then
    let r := writeRoleKey h (roleOf h sess) (p == 0x011) (leVal l)
    (r.1, if r.2 then 0 else 0x0A)
  else match carriageOf u, headOf u with
    | some c, some hd =>
      if nib u 2 = 1 ∧ p = 0x100 then (if setsKeepReserved h c hd l then (writeSets h c hd l, 0) else (h, 8))
      else if nib u 2 = 2 ∧ p = 0x100 then (writeTables h c hd l, 0)
      else (setBlob h u p l, 0)
    | some c, none =>
      if u = carPath c 0x200 then
        let r := writeBanks h c l
        (r.1, if r.2 then 0 else 8)
      else if u = carPath c 0x330 ∧ (path h c).formatted then (h, 8)
      else (setBlob h u p l, 0)
    | _, _ => (h, 8)

/-! Stored entries (R152, R153). -/

/-- Group units that hold entries of their own. -/
def entryGroups : List Nat :=
  [0x0000, 0x1300, 0x1400, 0x1500, 0x1600, 0x1700, 0x1800, 0x1900, 0x1A00] ++
  [2, 3, 4, 5].flatMap (fun d => [0, 0x100, 0x200, 0x300, 0x500].map (fun b => d * 0x1000 + b))

/-- Units of the device that can hold entries. -/
def entryUnits (h : Hw) : List Nat := (entryGroups ++ leafPaths).filter (fun u => !(present h u).isEmpty)

/-- An entry of origin stored that a session may write. -/
def isStored (d : EntDef) : Bool := (match d.origin with | .stored => true | _ => false) && d.wr.isSome

/-- The stored entries of a unit. -/
def storedOf (u : Nat) : List EntDef := (entriesOf (nib (entryHome u).1 3)).filter (fun d => d.path == (entryHome u).1 && isStored d)

/-- Elements of an entry that hold values. -/
def elements (d : EntDef) : List Nat := if d.count = 0 then [0] else (List.range d.count).map (· + 1)

/-- Every stored scalar or array element: unit, entry, element. -/
def storedScalars (h : Hw) : List (Nat × EntDef × Nat) :=
  (entryUnits h).flatMap (fun u => ((storedOf u).filter (fun d => d.ty != 13)).flatMap (fun d => (elements d).map (fun e => (u, d, e))))

/-- Every stored BLOB that a session may read: unit and entry. The role keys have copies of their own (R539). -/
def storedBlobs (h : Hw) : List (Nat × EntDef) :=
  (entryUnits h).flatMap (fun u => ((storedOf u).filter (fun d => d.ty == 13 && d.rd.isSome)).map (fun d => (u, d)))

/-- A head's coefficient sets: the carriage's own system area holds their committed value (R237). -/
def isSetsBlob (u p : Nat) : Bool := (headOf u).isSome && nib u 2 == 1 && p == 0x100

/-- A BLOB of zeros is held as an empty list. -/
def plainBlob (l : List (BitVec 8)) : List (BitVec 8) := if l.all (fun b => b == 0) then [] else l

/-- All live stored values, by entry key; the event filters among them (R139, R153). -/
def liveStored (h : Hw) (v : Vault) : SMap (Option Nat) :=
  let m := (storedScalars h).foldl (fun m t => oset m (entryKey t.1 t.2.1.param t.2.2) (some (objNum h v 0xFFFF t.1 t.2.1.param t.2.2 t.2.1))) []
  ((leafPaths.filter (fun u => !(absent h u))).foldl (fun m u => oset m (entryKey u 7 0) (some (unit h u).filter)) m)

/-- All live stored BLOBs but the coefficient sets. -/
def liveStoredBlobs (h : Hw) (v : Vault) : SMap (Option (List (BitVec 8))) :=
  ((storedBlobs h).filter (fun t => !(isSetsBlob t.1 t.2.param))).foldl (fun m t =>
    let l := blobValue h v t.1 t.2.param t.2.size
    oset m (entryKey t.1 t.2.param 0) (some (plainBlob l))) []

/-- Heads for which a level entry holds a value (R283). -/
def levelHeads (h : Hw) (c : Nat) : Nat :=
  (List.range 6).foldl (fun m hd => if getReg h (PA_HLVL + paHead c hd) = 0 ∧ getReg h (PA_HBIAS + paHead c hd) = 0 then m else putBit m hd true) 0

/-- Number of the last commit: that of the present power cycle, or the highest of the copies (R153). -/
def lastCommit (h : Hw) : Nat := h.dict.commitNo.foldl (fun m p => max m p.2) h.dict.lastNo

/-- The commit (R153): every live stored value to every populated, unfenced carriage; `verify c` says whether its copy verified. -/
def commitSettings (h : Hw) (v : Vault) (verify : Nat → Bool) : Hw :=
  let n := lastCommit h + 1
  let vals := liveStored h v
  let blobs := liveStoredBlobs h v
  let cs := (List.range 4).filter (fun c => populated h c && !(carFenced h c))
  let good := cs.filter verify
  let h := onDict h (fun d => good.foldl (fun (d : Dict) c =>
    { d with copies := mset (fun _ => []) d.copies c vals, blobCopies := mset (fun _ => []) d.blobCopies c blobs, commitNo := zset d.commitNo c n })
    { d with store := if good.length = cs.length then 0 else 2, lastNo := n })
  if good.isEmpty then h
  else (List.range 4).foldl (fun h c => if populated h c then
    let h := if good.contains c then saveSets h c else h
    onPath h c (fun p => { p with levelsSet := levelHeads h c }) else h) h

/-- An entry whose Default column names a factory value without a number (R653). -/
def isFactory (d : EntDef) : Bool :=
  (d.path == 0x2210 && d.param == 0x010) || (d.path == 0x6110 && d.param != 0x014) || (d.path == 0x6211 && d.param == 0x012)

/-- The factory value of element `e` of an entry of unit `u` (R152, R653). -/
def factoryOf (h : Hw) (u : Nat) (d : EntDef) (e : Nat) : Nat :=
  if isFactory d then Config.factoryNumber (entryKey u d.param e) % 2 ^ (8 * typeLen d.ty) else factoryValue h d

/-- The factory bytes of a BLOB: a head's sets are its factory sets F00, correction tables are zero (R245, R370). -/
def factoryBlob (u p : Nat) : List (BitVec 8) :=
  if nib u 2 = 2 ∧ (headOf u).isSome ∧ p = 0x100 then []
  else Config.factoryBytes (entryKey u (if nib u 2 = 1 ∧ (headOf u).isSome ∧ p = 0xF00 then 0x100 else p) 0)

/-- The revert (R153): every stored entry's live value takes its factory value; the copies stay. -/
def revertSettings (h : Hw) (v : Vault) : Hw :=
  let h := (storedScalars h).foldl (fun h t =>
    (putEntry h v t.1 t.2.2 t.2.1 (factoryOf h t.1 t.2.1 t.2.2)).1) h
  let h := (storedBlobs h).foldl (fun h t =>
    let l := padTo t.2.size (factoryBlob t.1 t.2.param)
    match carriageOf t.1, headOf t.1 with
    | some c, some hd => if isSetsBlob t.1 t.2.param then writeSets h c hd l else (writeBlob h 0xFFFF t.1 t.2.param l).1
    | _, _ => (writeBlob h 0xFFFF t.1 t.2.param l).1) h
  let h := (leafPaths.filter (fun u => !(absent h u))).foldl (fun h u => onUnit h u (fun x => { x with filter := 2 })) h
  onDict h (fun d => { d with store := 0 })

/-- The carriage whose copy is loaded: the highest commit number (R153); `good c` says whether its check passes. -/
def newestCopyOf (h : Hw) (good : Nat → Bool) : Option Nat :=
  ((List.range 4).filter (fun c => zget h.dict.commitNo c != 0 && good c)).foldl (fun best c => match best with
    | some b => if zget h.dict.commitNo b < zget h.dict.commitNo c then some c else some b
    | none => some c) none

/-- Load the stored values of a copy (R153, R653). An entry that the copy lacks, since the straps were others at its commit, takes its
default (R73, R152). -/
def loadSettings (h : Hw) (v : Vault) (c : Nat) : Hw :=
  let vals := mget (fun _ => []) h.dict.copies c
  let blobs := mget (fun _ => []) h.dict.blobCopies c
  let h := (storedScalars h).foldl (fun h t =>
    (putEntry h v t.1 t.2.2 t.2.1 ((oget vals (entryKey t.1 t.2.1.param t.2.2)).getD (factoryOf h t.1 t.2.1 t.2.2))).1) h
  let h := (leafPaths.filter (fun u => !(absent h u))).foldl (fun h u => onUnit h u (fun x => { x with filter := (oget vals (entryKey u 7 0)).getD 2 })) h
  let live := ((storedBlobs h).filter (fun t => !(isSetsBlob t.1 t.2.param))).foldl (fun m t =>
    lset m (entryKey t.1 t.2.param 0) ((oget blobs (entryKey t.1 t.2.param 0)).getD (plainBlob (padTo t.2.size (factoryBlob t.1 t.2.param))))) []
  let h := onDict h (fun d => { d with blobs := live, loaded := true })
  (List.range 4).foldl (fun h c => if populated h c then onPath h c (fun p => { p with levelsSet := levelHeads h c }) else h) h

end Sys2Proof.Machine
end

