-- ==== Sys2Proof/Machine/Dictionary.lean ====
section
/-! DEFINITION. Dictionary transactions: their checks in the order of R135, their effects and their answers (R26-R31, R37, R117, R122,
R133-R161, R187-R189, R608, R625, R631, R652). A record in bytes (R171), the checks of one and its performance stand here once; the
commands of single operations build the record they name. -/
namespace Sys2Proof.Machine

/-- The answer to a transaction: status of R134, type code and value. -/
structure Answer where
  status : Nat
  ty : Nat := 0
  value : List (BitVec 8) := []
  deriving DecidableEq, Repr

def Txn.param (t : Txn) : Nat := t.pe / 16 % 0x1000
def Txn.elem (t : Txn) : Nat := t.pe % 16

/-! Powered down (0x06). -/

/-- Only what R117 names is served: before admin ready, in boot recovery, after a halt, and while a hub trip holds the hub (R606). -/
def bootLimited (h : Hw) : Bool :=
  let st := getF h PW_BOOT_STAGE 0
  decide (st < 7) || st == 0x0D || st == 0x0E || bitAt h.island.domHeld 5

/-- What R117 and R414 serve then: `op` 1 reads, 2 writes. -/
def bootServes (h : Hw) (sess op u p : Nat) : Bool :=
  let recovery := getF h PW_BOOT_STAGE 0 == 0x0D
  let who : Bool := isLinkSession sess || (isBarSession sess && recovery)
  let window : Bool := recovery && u == 0x1920 && (p == 0x011 || (p == 0x010 && op == 1))
  who && (if op = 1 then u == 0x1A10 || (u == 0x1A00 && decide (0x040 ≤ p ∧ p ≤ 0x048)) || p == 0 || p == 1 || p == 2 || p == 5 || window
    else op == 2 && (window || (recovery && u == 0x1A00 && p == 0x048)))

/-- The leaf's domain is off, or held in reset by a hub trip (R37, R606, R649). -/
def leafDown (h : Hw) (u : Nat) : Bool :=
  let d := domainOf u
  !(domainOn h d) || (decide (d ≤ 6) && bitAt h.island.domHeld (d - 1))

/-- A unit or group counts as off (R37, R652). -/
def unitDown (h : Hw) (u : Nat) : Bool := !(present h u).isEmpty && (present h u).all (leafDown h)

/-- The access is refused with 0x06 (R37, R117, R122, R606, R645, R652). -/
def poweredDown (h : Hw) (sess op u p e : Nat) (d : EntDef) : Bool :=
  if bootLimited h then !(bootServes h sess op u p) || (bitAt h.island.domHeld 5 && unitDown h u && p != 0 && p != 1 && p != 2 && p != 5)
  else if p < 0x10 then
    if unitDown h u then !((op == 1 && (p == 0 || p == 1 || p == 2 || p == 5)) || (op == 2 && p == 5))
    else op == 2 && (p == 3 || p == 4 || p == 7) && (present h u).any (leafDown h)
  else if isLeaf u then unitDown h u
  else unitDown h u || (objRegs d u e).any (fun a => leafDown h (regLeaf a))

/-! Roles (0x05). -/

/-- The role that a write needs (R146, R594, R625): forcing needs Factory in sealed mode, clearing the permanent area always. -/
def writeRole (h : Hw) (sess u p value : Nat) (r : Nat) : Nat :=
  if isSealed h ∧ (p = 6 ∨ (u = 0x1A00 ∧ p = 0x057)) then 3
  else if u = 0x1810 ∧ ((p = 0x011 ∧ bitAt value 2) ∨ (p = 0x012 ∧ bitAt (session h sess).clearMask 2)) then 3
  else r

/-! Ranges (0x03). -/

/-- Ranges that an entry's Meaning or a rule states beyond a lowest and a highest value. -/
def extraRange (h : Hw) (u p x : Nat) : Bool :=
  let live := fun p => liveVal h u p 0
  let in' := fun (lo hi : Int) (y : Int) => decide (lo ≤ y) && decide (y ≤ hi)
  match (entryHome u).1 * 0x1000 + p with
  | 0x0000010 => x == 0x5A
  | 0x0000021 => decide (2 * x ≤ live 0x022)
  | 0x0000022 => decide (2 * live 0x021 ≤ x)
  | 0x1300011 => x % 4096 == 0
  | 0x1900010 => decide (x ≤ 0x3FF) || x == 0xFFFF
  | 0x1A00051 =>
    let warn : Int := bits 23 16 x
    in' (-20) 0 (toSigned 8 (x / 2 ^ 24)) && in' 80 110 warn && in' (warn + 5) 120 (bits 15 8 x) && in' 80 ((bits 15 8 x : Int) - 5) (bits 7 0 x)
  | 0x1A00052 => in' 10 60 (bits 15 8 x) && in' 0 30 (bits 7 0 x)
  | 0x1A00061 => decide (live 0x062 ≤ x)
  | 0x1A00062 => decide (live 0x063 ≤ x) && decide (x ≤ live 0x061)
  | 0x1A00063 => decide (x ≤ live 0x062)
  | 0x2200014 => decide (x ≤ getReg h (SV_AFS + (entryHome u).2))
  | 0x2210015 => !(bitAt x 4)
  | 0x6110014 => decide (x ≤ (motor h).imax)
  | 0x6120011 => decide (bits 7 0 x < bits 15 8 x)
  | 0x6130015 => decide (bits 24 18 x < bits 31 25 x)
  | 0x6130017 => decide (x ≤ (motor h).brake)
  | 0x6310011 => in' 9500 11400 (bits 31 16 x) && in' 4000 4750 (bits 15 0 x)
  | _ => true

/-- The value lies in the object's range and encoding (R137, R138). A claim's mask is judged by R187. -/
def inRangeOf (h : Hw) (u p : Nat) (d : EntDef) (x : Nat) : Bool :=
  decide (d.lo ≤ x) && decide (x ≤ d.hi) && (d.ty != 9 || decide (x ≤ 1)) && extraRange h u p x &&
  (u != 0x1920 || p != 0x011 || x == 0 || contiguous x)

/-! Refused in state (0x08). -/

/-- The carriage of fence set `k` is fenced for heat and not yet below TRS (R608). -/
def tooHot (h : Hw) (k : Nat) : Bool :=
  match carriageOf k with
  | some c => k == carPath c 0 && fenceVal h k == 2 && decide (3 ≤ dieZone h (c + 1)) && decide (trs h (c + 1) ≤ dieTemp h (c + 1))
  | none => false

/-- A write of 003, 004, 005 or 006 is refused (R29, R40, R142-R145, R531, R608, R634, R649). -/
def standardRefused (h : Hw) (sess u p x : Nat) : Bool :=
  let ms := present h u
  match p with
  | 3 => if x = 1 then ms.any (fun m => !(fenced h m) && fenceIsStair3 h m) else (unfenceKeys h u).any (fun k => unfenceBarred h k || tooHot h k)
  | 4 => ms.any (fun m => (unit h m).busy || (x == 1 && (m == 0x1750 || m == 0x17F0 || (isCoreSession sess && m == 0x1710 + 16 * (sess - 0x410)))))
  | 5 => ms.any (fun m => powerBarred h m x) || breaksR40 h u x
  | 6 => !(isLeaf u)
  | _ => false

/-- A write of an entry is refused with 0x08 (R100, R117, R147, R153, R187, R188, R193, R625). -/
def entryRefused (h : Hw) (sess u p x : Nat) : Bool :=
  match u * 0x1000 + p with
  | 0x0000012 => isCoreSession sess
  | 0x0000013 => isCoreSession sess
  | 0x0000015 => inBringUp h
  | 0x1810011 => isCoreSession sess || x == 0
  | 0x1920011 => if x = 0 then !(sections h sess 2).isEmpty else claimStatus h sess x != 0
  | 0x1A00048 => getF h PW_BOOT_STAGE 0 != 0x0D || (heldBy h sess).length != 8
  | _ => false

/-- The status that the checks of a write give (R135). -/
def writeStatus (h : Hw) (sess u p e ty : Nat) (value : List (BitVec 8)) : Nat :=
  match objDef h u p e with
  | none => 1
  | some d =>
    let x := leVal value
    if poweredDown h sess 2 u p e d then 6
    else match d.wr with
      | none => 4
      | some r =>
        if roleOf h sess < writeRole h sess u p x r then 5
        else if d.ty = 13 then 9
        else if ty ≠ d.ty ∨ value.length ≠ typeLen d.ty then 2
        else if !(inRangeOf h u p d x) then 3
        else if (if p < 0x10 then standardRefused h sess u p x else entryRefused h sess u p x) then 8
        else 0

/-! Effects of a write. -/

/-- The tag that a role response or a clear must carry (R148, R625). -/
def roleTag (h : Hw) (role : Nat) (msg : List (BitVec 8)) : Option Nat := (roleKey h role).map (fun k => tagOf k msg)

/-- The write of the high half of a response (R149): status of R134. -/
def judgeResponse (h : Hw) (sess high : Nat) : Hw × Nat :=
  let s := session h sess
  let ok : Bool := match s.challenge, roleTag h s.wanted (roleMessage ((s.challenge).getD 0) [s.wanted] sess) with
    | some _, some t => t == s.tagLow + 2 ^ 64 * high
    | _, _ => false
  let h := judgeTag h sess ok
  if ok then (onSession h sess (fun x => { x with role := x.wanted }), 0) else (h, 0x0A)

/-- The write of 1810:012.0 (R625): status of R134. -/
def judgeClear (h : Hw) (sess tag : Nat) : Hw × Nat :=
  let s := session h sess
  let consumed := onSession h sess (fun x => { x with challenge := none })
  if isCoreSession sess ∨ s.clearMask = 0 then (h, 8)
  else if h.log.clearing ≠ 0 then (consumed, 8)
  else
    let ok : Bool := match s.challenge, roleTag h (if bitAt s.clearMask 2 then 3 else 2) (roleMessage ((s.challenge).getD 0) [0xCE, s.clearMask] sess) with
      | some _, some t => t % 2 ^ 64 == tag
      | _, _ => false
    let h := judgeTag h sess ok
    if ok then (onLog h (fun l => { l with clearing := s.clearMask, clearPos := 0, clearSession := sess }), 0) else (h, 0x0A)

/-- The write of a role (R148-R150): the challenge ends; 0 falls back. -/
def askRole (h : Hw) (sess role : Nat) : Hw :=
  if role = 0 then fallBack h sess else onSession h sess (fun x => { x with wanted := role, challenge := none, tagLow := 0 })

/-- Start the image in the bulk window, or refuse it (R100); the verdicts of its signature and hash are the caller's. -/
def startRecovery (h : Hw) (sigOk bodyOk : Bool) : Hw :=
  let i := windowHeader h sigOk bodyOk
  if imageAccepted h i then
    let h := { h with mem := memCopy h.mem (windowBase + 0x100) i.load i.length }
    setF (acceptImage (onBoot h (fun b => { b with recovery := 0 })) 3 i) PW_BOOT_RECOV 0 0
  else onBoot h (fun b => { b with recovery := 2 })

/-- Force classes of a leaf (R146, R592): class [3] of a thermal leaf takes the Shutdown of its die. -/
def forceClasses (h : Hw) (u mask : Nat) : Hw :=
  forceBits h u mask (fun h k =>
    match (if k = 3 then (List.range 6).find? (fun die => thermalLeaf die == u) else none) with
    | some die => thermalShutdown (onUnit h u (fun x => { x with summary := x.summary ||| 8 })) die true
    | none => raiseFault (immediateAction h u k) u k true)

/-- A write of 003-007 of a path, after its checks (R29, R139-R146). -/
def writeStandard (h : Hw) (u p x : Nat) : Hw :=
  match p with
  | 3 => if x = 1 then fencePath h u else unfencePath h u
  | 4 => if x = 1 then reinitPath h u else acknowledgePath h u
  | 5 => (present h u).foldl (fun h m => requestPower h m x) h
  | 6 => forceClasses h u x
  | 7 => (present h u).foldl (fun h m => onUnit h m (fun y => { y with filter := x })) h
  | _ => h

/-- A free verdict of one bit. -/
def freeBit (h : Hw) (i : Nat) : Bool := Config.freeNat h.freeCtr / 2 ^ i % 2 == 1

/-- What a write does after its checks, and the status it ends with. Whether a copy verifies (R153) and whether a recovery image is
signed (R100) are free values here; the commands SETTINGS_COMMIT and RECOVERY_START name them. -/
def writeEffect (h : Hw) (v : Vault) (sess u p e : Nat) (d : EntDef) (x : Nat) : Hw × Nat :=
  if p < 0x10 then (writeStandard h u p x, 0)
  else match u * 0x1000 + p with
    | 0x0000010 => (takeReset h 1 0, 0)
    | 0x0000012 => if e = 1 then (onSession h sess (fun s => { s with tagLow := x }), 0) else judgeResponse h sess x
    | 0x0000013 => (askRole h sess x, 0)
    | 0x0000015 => (if x = 1 then commitSettings (drawn h) v (freeBit h) else revertSettings h v, 0)
    | 0x1810011 => (onSession h sess (fun s => { s with clearMask := x, challenge := none }), 0)
    | 0x1810012 => judgeClear h sess x
    | 0x1920011 => (if x = 0 then releaseHeld h sess else claimSections h sess x, 0)
    | 0x1A00048 => (startRecovery (drawn h) (freeBit h 0) (freeBit h 1), 0)
    | _ =>
      let r := putEntry h v u e d x
      if r.2 then (r.1, 0) else (raiseFault r.1 (if isLeaf u then u else regLeaf ((objRegs d u e).headD 0)) 10 false, 7)

/-! Reads. -/

/-- The checks of a Read (R135). -/
def readStatus (h : Hw) (sess u p e : Nat) : Nat :=
  match objDef h u p e with
  | none => 1
  | some d =>
    if poweredDown h sess 1 u p e d then 6
    else match d.rd with
      | none => 0x0C
      | some r =>
        if roleOf h sess < r then 5 else if d.ty = 13 then 9
        else if u = 0 ∧ p = 0x011 ∧ e ≠ 0 ∧ (session h sess).lockout then 8 else 0

/-- Read one object: what is left, and the answer. A read of the challenge makes it (R149), one of 1900:016.0 ends the drop cause of
IRQ_N (R179). -/
def readOne (h : Hw) (v : Vault) (sess u p e : Nat) : Hw × Answer :=
  let st := readStatus h sess u p e
  match objDef h u p e with
  | none => (h, { status := 1 })
  | some d =>
    if st ≠ 0 then (h, { status := st, ty := d.ty })
    else
      let h := settle h v (objRegs d u e)
      let h := if u = 0 ∧ p = 0x011 ∧ e ≠ 0 then (takeChallenge h sess).1 else h
      let a : Answer := { status := 0, ty := d.ty, value := objBytes h v sess u p e d }
      (if u = 0x1900 ∧ p = 0x016 then onMgmt h (fun m => { m with dropCause := false }) else h, a)

/-! Claims (R161, R189). -/

/-- `first` names the first section of the session's Held claim, long enough for `n` bytes, and the window is awake (R193; that a Read each too
needs it awake is a choice, log entry 88). -/
def claimHolds (h : Hw) (sess first n : Nat) : Bool :=
  let l := sections h sess 1
  !(windowAsleep h) && l.head? == some first && decide (n ≤ l.length * 0x100000)

/-- Sections of a session return to Held after a block operation: the cause of R179 [2]. -/
def returnHeld (h : Hw) (sess : Nat) : Hw :=
  onMgmt h (fun m => { m with windowCause := (sections h sess 1).foldl (fun w n => putBit w n true) m.windowCause })

/-- Put bytes at the start of the claim. -/
def toClaim (h : Hw) (sess first : Nat) (l : List (BitVec 8)) : Hw := returnHeld (memStore h (windowBase + first * 0x100000) l) sess

/-- One member entry of a Read each (R161). An entry of status 0x01 has TYPE 0, and one of a BLOB has TYPE 0x0D, status 0x09 and VLEN 0
(DESIGN CHOICE, log entry 88). -/
def memberEntry (u : Nat) (a : Answer) : List (BitVec 8) :=
  leBytes 2 u ++ leBytes 1 a.ty ++ leBytes 1 a.status ++ leBytes 2 (if a.status = 0 then a.value.length else 0) ++ (if a.status = 0 then a.value else [])

/-- A Read each (R160, R161); `claim` is the section that the request names; `malformed`: its value is neither empty nor one U8. A group's
reserved parameter has no object at any member: the answer is Done with an entry of status 0x01 each; a group whose members are all powered
down answers Done with an entry of status 0x06 each (DESIGN CHOICE, log entry 88). -/
def readEach (h : Hw) (v : Vault) (sess u p e : Nat) (claim : Option Nat) (malformed : Bool) : Hw × Answer :=
  if !(unitExists u) ∨ (1 < p ∧ (present h u).isEmpty) then (h, { status := 1 })
  else if bootLimited h then (h, { status := 6 })
  else if malformed then (h, { status := 2 })
  else
    let r := (present h u).foldl (fun (r : Hw × List (BitVec 8)) m =>
      let a := readOne r.1 v sess m p e
      (a.1, r.2 ++ memberEntry m a.2)) (h, [])
    if r.2.length ≤ 480 then (r.1, { status := 0, value := r.2 })
    else match claim with
      | some first =>
        if claimHolds h sess first r.2.length then (toClaim r.1 sess first r.2, { status := 0, ty := 13, value := leBytes 4 r.2.length })
        else (h, { status := 8 })
      | none => (h, { status := 8 })

/-- The checks of a Block read or Block write (R135, R189, R193); `malformed`: its TYPE is not 0x0D or its value not five bytes. -/
def blockStatus (h : Hw) (sess u p e first n : Nat) (write malformed : Bool) : Nat :=
  match objDef h u p e with
  | none => 1
  | some d =>
    let op := if write then 8 else 7
    let role := if write then d.wr else d.rd
    if poweredDown h sess op u p e d then 6
    else match role with
      | none => if write then 4 else 0x0C
      | some r =>
        if roleOf h sess < r then 5
        else if malformed ∨ (d.ty = 13 ∧ write ∧ n ≠ d.size) then 2
        else if d.ty ≠ 13 ∨ !(claimHolds h sess first n) then 8 else 0

/-- First section and length that a Block read or Block write names. -/
def Txn.first (t : Txn) : Nat := leVal (t.value.take 1)
def Txn.length (t : Txn) : Nat := leVal (t.value.drop 1)

/-- The checks of a Block read or Block write of a record. -/
def Txn.blockStatus (h : Hw) (sess : Nat) (t : Txn) : Nat :=
  Machine.blockStatus h sess t.unit t.param t.elem t.first t.length (t.op == 8) (t.ty != 13 || t.value.length != 5)

/-- Step 2 of R189: the value moves, to the window for a Block read and from it for a Block write. -/
def moveBlock (h : Hw) (v : Vault) (sess : Nat) (t : Txn) : Hw × Answer :=
  if t.op = 7 then
    let h := if t.unit = 0x1810 then clearFront h else h
    let l := (blobValue h v t.unit t.param (match objDef h t.unit t.param t.elem with | some d => d.size | none => 0)).take t.length
    (memStore h (windowBase + t.first * 0x100000) l, { status := 0, ty := 3, value := leBytes 4 l.length })
  else
    let r := writeBlob h sess t.unit t.param (memBytes h (windowBase + t.first * 0x100000) t.length)
    (r.1, if r.2 = 0 then { status := 0, ty := 3, value := leBytes 4 t.length } else { status := r.2 })

/-- A Block read or Block write performed whole, after its checks: steps 1-4 of R189 in one. -/
def blockWhole (h : Hw) (v : Vault) (sess : Nat) (t : Txn) : Hw × Answer :=
  let st := t.blockStatus h sess
  if st ≠ 0 then (h, { status := st })
  else
    let r := moveBlock h v sess t
    (returnHeld r.1 sess, r.2)

/-- Step 1 of R189: the session's sections pass to state Device and the operation is under way. -/
def startBlock (h : Hw) (sess : Nat) (t : Txn) (o : TxnOrigin) : Hw :=
  onMgmt ((sections h sess 1).foldl (fun h n => setSec h n 2 sess) h) (fun m => { m with blocks := m.blocks ++ [{ session := sess, txn := t, origin := o }] })

/-- The operation is a Block write of a head's coefficient sets (R231). -/
def writesSets (t : Txn) : Bool := t.op == 8 && isSetsBlob t.unit t.param

/-- The sections of an operation return to Held, or are released when its session fell back meanwhile (R189, R192). -/
def freeBlock (h : Hw) (b : BlockOp) : Hw :=
  let back := (sections h b.session 2).foldl (fun h n => setSec h n 1 b.session) h
  if b.release then
    let held := sections back b.session 1
    ruleRecord (satF (releaseHeld back b.session) MG_BWERR_LEASES 0 held.length) 0x1920 192 3 b.session
  else returnHeld back b.session

/-- Steps 2 and 3 of R189 for the operation `b`: what is left, the operation, and its answer once it ends. A Block write of coefficient
sets ends with the last of their commits (R231). An operation whose unit was re-initialised, fenced or powered down meanwhile, or whose
window fell asleep (R193), moves nothing. -/
def advanceBlock (h : Hw) (v : Vault) (b : BlockOp) : Hw × BlockOp × Option Answer :=
  let cut := if b.cut ≠ 0 then b.cut else if windowAsleep h then 8 else 0
  if cut ≠ 0 then (freeBlock h b, b, some { status := cut })
  else
    let r := if b.staged then (h, { status := 0, ty := 3, value := leBytes 4 b.txn.length }) else moveBlock h v b.session b.txn
    if writesSets b.txn && decide (r.2.status = 0) && setsPending r.1 b.txn.unit then (r.1, { b with staged := true }, none)
    else (freeBlock r.1 b, b, some r.2)

/-! Describe and subscriptions. -/

/-- A Describe (R135, R171). -/
def describe (h : Hw) (v : Vault) (sess u p e : Nat) : Answer :=
  match objDef h u p e with
  | none => { status := 1 }
  | some d =>
    if poweredDown h sess 4 u p e d then { status := 6 }
    else
      let role := fun (r : Option Nat) => leBytes 1 (r.getD 0xFF)
      let origin := match d.origin with | .fixed => 0 | .strap => 1 | .fuse => 2 | .stored => 3
      { status := 0, ty := d.ty
        value := leBytes 1 d.ty ++ role d.rd ++ role d.wr ++ leBytes 1 origin ++ defaultBytes h v sess u p e d }

/-- The number that a subscription compares: a STR has none that changes. -/
def subValue (h : Hw) (v : Vault) (sess u p e : Nat) (d : EntDef) : Nat := leVal (objBytes h v sess u p e d)

/-- The deadband of a Subscribe does not fit the object: a numeric object takes one value of its type, another none (R157). -/
def badBand (d : EntDef) (deadband : Option (List (BitVec 8))) : Bool :=
  match deadband with
  | some l => !(isNumeric d.ty) || l.length != typeLen d.ty
  | none => isNumeric d.ty

/-- The status of a Subscribe (R135, R157, R171): `deadband` is given for a numeric type only. -/
def subscribeStatus (h : Hw) (sess u p e ty interval : Nat) (deadband : Option (List (BitVec 8))) : Nat :=
  match objDef h u p e with
  | none => 1
  | some d =>
    if poweredDown h sess 5 u p e d then 6
    else match d.rd with
      | none => 0x0C
      | some r =>
        if roleOf h sess < r then 5
        else if d.ty = 13 then 9
        else if ty ≠ d.ty ∨ badBand d deadband then 2
        else if interval = 0 ∨ 65535 < interval then 3
        else if 256 ≤ h.dict.subs.length ∧ h.dict.subs.all (fun s => !(s.session == sess && s.path == u && s.pe == p * 16 + e)) then 0x0B
        else 0

/-- Remove a session's subscription to an object. -/
def dropSub (h : Hw) (sess u pe : Nat) : Hw :=
  onDict h (fun d => { d with subs := d.subs.filter (fun s => !(s.session == sess && s.path == u && s.pe == pe)) })

/-- A Subscribe (R157): the present value counts as notified. -/
def subscribe (h : Hw) (v : Vault) (sess u p e ty interval : Nat) (deadband : Option (List (BitVec 8))) : Hw × Answer :=
  let st := subscribeStatus h sess u p e ty interval deadband
  match objDef h u p e with
  | some d =>
    if st ≠ 0 then (h, { status := st })
    else
      let s : Sub := { session := sess, path := u, pe := p * 16 + e, interval := interval, deadband := leVal (deadband.getD [])
                       last := subValue h v sess u p e d, age := interval }
      (onDict (dropSub h sess u (p * 16 + e)) (fun d => { d with subs := d.subs ++ [s] }), { status := 0 })
  | none => (h, { status := 1 })

/-! One transaction. -/

/-- Perform a transaction of session `sess` (R133-R136): what is left, and the answer. -/
def transact (h : Hw) (v : Vault) (sess : Nat) (t : Txn) : Hw × Answer :=
  let u := t.unit
  let p := t.param
  let e := t.elem
  match t.op with
  | 1 => readOne h v sess u p e
  | 2 =>
    let st := writeStatus h sess u p e t.ty t.value
    (match objDef h u p e with
     | some d =>
       if st ≠ 0 then (h, { status := st })
       else
         let r := writeEffect h v sess u p e d (leVal t.value)
         (r.1, { status := r.2 })
     | none => (h, { status := 1 }))
  | 3 =>
    if t.value.isEmpty then readEach h v sess u p e none false
    else readEach h v sess u p e (some (leVal t.value)) (t.ty != 1 || t.value.length != 1)
  | 4 => (h, describe h v sess u p e)
  | 5 => subscribe h v sess u p e t.ty (leVal (t.value.take 2)) (if t.value.length ≤ 2 then none else some (t.value.drop 2))
  | 6 => (match objDef h u p e with
    | none => (h, { status := 1 })
    | some d => if poweredDown h sess 6 u p e d then (h, { status := 6 }) else (dropSub h sess u t.pe, { status := 0 }))
  | 7 => blockWhole h v sess t
  | 8 => blockWhole h v sess t
  | _ => (h, { status := 1 })

/-- Send an answer to the session. -/
def reply (r : Hw × Answer) (sess : Nat) : Hw := emit r.1 (.reply sess r.2.status r.2.ty (leVal r.2.value) r.2.value.length)

/-- An earlier transaction of the session is under way (R136). -/
def sessionBusy (h : Hw) (sess : Nat) : Bool := h.mgmt.blocks.any (fun b => b.session == sess)

/-- A transaction waits for the earlier ones of its session (R136). -/
def waitTurn (h : Hw) (sess : Nat) (t : Txn) (o : TxnOrigin) : Hw :=
  onMgmt h (fun m => { m with blocks := m.blocks ++ [{ session := sess, txn := t, origin := o, begun := false }] })

/-- A command that is one transaction: performed at once, or in its turn (R136). -/
def State.transact (s : State) (sess : Nat) (t : Txn) : Res := s.runBoth fun h v =>
  (if sessionBusy h sess then waitTurn h sess t .direct else reply (Machine.transact h v sess t) sess, v)

/-- A Write of a number to an object as a record. -/
def writeTxn (u p e ty x : Nat) : Txn := { op := 2, ty := ty, unit := u, pe := p * 16 + e, value := leBytes (typeLen ty) x }

/-! Commands. -/

/-- READ (R133). -/
def execReadObject (sess u p e : Nat) (s : State) : Res := s.transact sess { op := 1, ty := 0, unit := u, pe := p * 16 + e, value := [] }

/-- WRITE (R133): TYPE and value as the request carries them. -/
def execWriteObject (sess u p e ty : Nat) (value : List (BitVec 8)) (s : State) : Res :=
  s.transact sess { op := 2, ty := ty, unit := u, pe := p * 16 + e, value := value }

/-- READ_EACH (R161): `claim` names the first section of a claim. -/
def execReadEach (sess u p e : Nat) (claim : Option Nat) (s : State) : Res :=
  s.transact sess { op := 3, ty := if claim.isSome then 1 else 0, unit := u, pe := p * 16 + e, value := (claim.map (leBytes 1)).getD [] }

/-- DESCRIBE (R171). -/
def execDescribe (sess u p e : Nat) (s : State) : Res := s.transact sess { op := 4, ty := 0, unit := u, pe := p * 16 + e, value := [] }

/-- SUBSCRIBE (R157): the deadband's bytes are given for a numeric type only. -/
def execSubscribe (sess u p e ty interval : Nat) (deadband : List (BitVec 8)) (s : State) : Res :=
  s.transact sess { op := 5, ty := ty, unit := u, pe := p * 16 + e, value := leBytes 2 interval ++ deadband }

/-- UNSUBSCRIBE (R157). -/
def execUnsubscribe (sess u p e : Nat) (s : State) : Res := s.transact sess { op := 6, ty := 0, unit := u, pe := p * 16 + e, value := [] }

/-- A Block read or Block write as a transaction of its own: refused at once, or under way until a millisecond of the block's own
clocks ends it (R189, log entry 89). -/
def State.block (s : State) (sess : Nat) (t : Txn) : Res := s.run fun h =>
  let st := t.blockStatus h sess
  if sessionBusy h sess then waitTurn h sess t .direct
  else if st ≠ 0 then reply (h, { status := st }) sess else startBlock h sess t .direct

/-- BLOCK_READ (R189). -/
def execBlockRead (sess u p e first n : Nat) (s : State) : Res :=
  s.block sess { op := 7, ty := 13, unit := u, pe := p * 16 + e, value := leBytes 1 first ++ leBytes 4 n }

/-- BLOCK_WRITE (R189). -/
def execBlockWrite (sess u p e first n : Nat) (s : State) : Res :=
  s.block sess { op := 8, ty := 13, unit := u, pe := p * 16 + e, value := leBytes 1 first ++ leBytes 4 n }

/-- ROLE_KEY_INSTALL (R539): the whole of a Block write of 1630:010.0, or of 1630:011.0 for the Custodian key. -/
def execRoleKeyInstall (sess : Nat) (custodian : Bool) (first : Nat) (s : State) : Res :=
  s.transact sess { op := 8, ty := 13, unit := 0x1630, pe := if custodian then 0x110 else 0x100, value := leBytes 1 first ++ leBytes 4 40 }

/-- FENCE (R142). -/
def execFence (sess u : Nat) (s : State) : Res := s.transact sess (writeTxn u 3 0 10 1)

/-- UNFENCE (R143). -/
def execUnfence (sess u : Nat) (s : State) : Res := s.transact sess (writeTxn u 3 0 10 0)

/-- RE_INITIALISE (R144). -/
def execReInitialise (sess u : Nat) (s : State) : Res := s.transact sess (writeTxn u 4 0 10 1)

/-- ACKNOWLEDGE_FAULTS (R141). -/
def execAcknowledgeFaults (sess u : Nat) (s : State) : Res := s.transact sess (writeTxn u 4 0 10 2)

/-- POWER_STATE_REQUEST (R145). -/
def execPowerStateRequest (sess u x : Nat) (s : State) : Res := s.transact sess (writeTxn u 5 0 10 x)

/-- FAULT_FORCE (R146). -/
def execFaultForce (sess u mask : Nat) (s : State) : Res := s.transact sess (writeTxn u 6 0 3 mask)

/-- DEVICE_RESET_REQUEST (R151): a write of `x` to 0000:010.0. -/
def execDeviceResetRequest (sess x : Nat) (s : State) : Res := s.transact sess (writeTxn 0 0x010 0 1 x)

/-- SESSION_ROLE_WRITE (R148). -/
def execSessionRoleWrite (sess role : Nat) (s : State) : Res := s.transact sess (writeTxn 0 0x013 0 10 role)

/-- CHALLENGE_READ (R149): element 1 or 2 of 0000:011. -/
def execChallengeRead (sess half : Nat) (s : State) : Res := s.transact sess { op := 1, ty := 0, unit := 0, pe := 0x110 + half % 16, value := [] }

/-- RESPONSE_WRITE (R149): element 1 or 2 of 0000:012. -/
def execResponseWrite (sess half x : Nat) (s : State) : Res := s.transact sess (writeTxn 0 0x012 (half % 16) 4 x)

/-- CLEAR (R625): a write of 1810:012.0. -/
def execClear (sess tag : Nat) (s : State) : Res := s.transact sess (writeTxn 0x1810 0x012 0 4 tag)

/-- SETTINGS_COMMIT (R153): a write of 1 to 0000:015.0; bit c of `verified` says whether the copy of carriage c verifies. -/
def execSettingsCommit (sess verified : Nat) (s : State) : Res := s.runBoth fun h v =>
  let st := writeStatus h sess 0 0x015 0 10 (leBytes 1 1)
  (if sessionBusy h sess then waitTurn h sess (writeTxn 0 0x015 0 10 1) .direct else reply (if st = 0 then commitSettings h v (bitAt verified) else h, { status := st }) sess, v)

/-- SETTINGS_REVERT (R153): a write of 2 to 0000:015.0. -/
def execSettingsRevert (sess : Nat) (s : State) : Res := s.transact sess (writeTxn 0 0x015 0 10 2)

/-- CLAIM (R187): a write of a mask to 1920:011.0. -/
def execClaim (sess mask : Nat) (s : State) : Res := s.transact sess (writeTxn 0x1920 0x011 0 1 mask)

/-- RELEASE (R188): a write of 0 to 1920:011.0. -/
def execRelease (sess : Nat) (s : State) : Res := s.transact sess (writeTxn 0x1920 0x011 0 1 0)

/-- RECOVERY_START (R100): a write of 1 to 1A00:048.0; the verdicts of the image's signature and hash. -/
def execRecoveryStart (sess : Nat) (sigOk bodyOk : Bool) (s : State) : Res := s.runBoth fun h v =>
  let st := writeStatus h sess 0x1A00 0x048 0 1 (leBytes 1 1)
  (if sessionBusy h sess then waitTurn h sess (writeTxn 0x1A00 0x048 0 1 1) .direct else reply (if st = 0 then startRecovery h sigOk bodyOk else h, { status := st }) sess, v)

end Sys2Proof.Machine
end

