-- ==== Sys2Proof/Machine/FirstPass.lean ====
section
/-! DEFINITION. The first calibration pass and the restore: stored values, tables and sets, the check of every head, replay of the
journals, the extent map, operations in progress, the pair record (R110, R111, R153, R239, R247, R343, R357, R442, R466, R581). -/
namespace Sys2Proof.Machine

/-- Heads of carriage `c` that are populated and in service. -/
def headsInService (h : Hw) (c : Nat) : List Nat := (List.range 6).filter (fun hd => headExists h hd && !(headFenced h c hd))

/-- The channel and servo settings of a carriage come into force: zone tables, coefficient sets, grid banks, correction tables (R238, R247, R357,
R363): at a start the stored sets, else the live ones (R241). -/
def loadCarriage (h : Hw) (c : Nat) (start : Bool) : Hw :=
  let h := showDefects (onPath h c (fun p => { p with zones := lget h.dict.blobs (entryKey (carPath c 0x300) 0x100 0) })) c
  let h := onChan h c (fun x => { x with active := if start then x.stored else x.active, setsValid := 2 ^ 48 - 1, badSets := 0 })
  let grid := lget h.dict.blobs (entryKey (carPath c 0x200) 0x100 0)
  let h := if grid.isEmpty then h else (writeBanks h c grid).1
  (headsInService h c).foldl (fun h hd =>
    let l := lget h.dict.blobs (entryKey (servoHead c hd) 0x100 0)
    if l.isEmpty then h else writeTables h c hd l) h

/-- A check of the reserved track passes (R239): at least 15 of 16 sectors converged, with a mean count of at most LI / 2. -/
def checkPasses (h : Hw) (c converged iterations : Nat) : Bool :=
  decide (15 ≤ converged) && decide (2 * iterations ≤ getF h CH_LDPC_LI (inst c) * converged)

/-- A sector of the adaptation track of zone group 0 is read and decoded on the fly, and its update is made (R233, R236, R239); its result goes
to firmware, not to a descriptor. -/
def adaptRead (h : Hw) (c hd : Nat) (z : Zone) (r : TrackRead) : Hw :=
  let p := placePosition (geometryOf h c z) r.index
  let id := (ch h c).nextId
  match channelStart h c hd z.group z.zbp (sectorSeed hd z.ftrk r.index false) 0 false 0 0 p.cuts r.signal with
  | none => channelRefuse h c z.zbp
  | some h =>
    let h := decodeFly (decodeFly (endSector h c) c 0) c 0
    applyDue (onChan h c (fun k => { k with results := k.results.filter (fun q => q.sector.id != id) })) c

/-- The reading of R239 step 3: with the channel enabled and CH_ADAPT.ACT set, for at most four revolutions. -/
def adaptTrack (h : Hw) (c hd : Nat) (reads : List TrackRead) : Hw :=
  match adaptZone h c hd 0 with
  | none => h
  | some z =>
    let ena := getF h CH_CTL_ENA (inst c)
    let h := setF (setF h CH_CTL_ENA (inst c) 1) CH_ADAPT_ACT (inst c) 1
    let h := (reads.take (4 * z.spt)).foldl (fun h r => adaptRead h c hd z r) h
    endActive (setF (setF h CH_ADAPT_ACT (inst c) 0) CH_CTL_ENA (inst c) ena) c

/-- The check of one head (R239): a first failure loads the factory sets and adapts them on the reserved track, a second one fences the head. -/
def checkHead (h : Hw) (k : HeadCheck) : Hw :=
  let c := k.carriage
  let hd := k.head
  if !((headsInService h c).contains hd) ∨ checkPasses h c k.converged k.iterations then h
  else
    let h := writeSets h c hd (padTo 2048 (lget h.dict.blobs (entryKey (chanHead c hd) 0xF00 0)))
    let h := adaptTrack h c hd k.adapting
    if checkPasses h c k.convergedAgain k.iterationsAgain then h
    else ruleRecord (fenceEffects (fenceSet h (chanHead c hd) 1) (chanHead c hd)) (chanHead c hd) 239 3 0

/-- Step 1 of R110 is complete (R363): lock is gained and the servo's speed lies within 1 % of the spindle's reported speed. -/
def wedgeLocked (h : Hw) (c : Nat) : Bool :=
  let r : Rat := getF h SP_SPD_RPM 0
  flagF h SV_STAT_LOCK (inst c) && decide (absR (servoRpm (sv h c) - r) * 100 ≤ r)

/-- The first calibration pass of one loaded carriage from its stored settings on; `replays`: its journal could be replayed. -/
def firstPass (h : Hw) (c : Nat) (checks : List HeadCheck) (replays : Bool) : Hw :=
  let h := loadCarriage h c true
  let h := (checks.filter (fun k => k.carriage == c)).foldl checkHead h
  let h := replayOr h c replays
  onBoot h (fun b => { b with calibrated := putBit b.calibrated c true })

/-- The same of a carriage on the way out of PS4: its live settings are loaded anew and every head is checked (R241, R357, standby exit step
7). -/
def exitPass (checks : List HeadCheck) (h : Hw) (c : Nat) : Hw :=
  let h := (checks.filter (fun k => k.carriage == c)).foldl checkHead (loadCarriage h c false)
  onBoot h (fun b => { b with calibrated := putBit b.calibrated c true })

/-- Carriages due for their pass: in service, with loaded heads, wedge lock and EOFS of every head. -/
def duePass (h : Hw) : List Nat :=
  (List.range 4).filter (fun c => populated h c && !(carFenced h c) && bitAt h.boot.loaded c && !(bitAt h.boot.calibrated c) &&
    wedgeLocked h c && (headsInService h c).all (fun hd => flagF h SV_HEOFS_VALID (svHead c hd)))

/-- The copy of the extent map that carriage `c` holds (R442). -/
def mapCopy (h : Hw) (c : Nat) : Nat × List (Nat × Extent) :=
  match oget h.engine.mapCopies c with
  | some m => m
  | none => (0, factoryMap)

/-- The newest copy of the extent map whose check passes (R110, R442). -/
def newestMap (h : Hw) (good : List Nat) : Option (Nat × List (Nat × Extent)) :=
  (((List.range 4).filter (fun c => populated h c && !(carFenced h c) && good.contains c)).map (mapCopy h)).foldl (fun best m => match best with
    | some b => if b.1 < m.1 then some m else some b
    | none => some m) none

/-- The namespace index follows the map: a namespace is as large as its extents (R426, R439). -/
def indexSpaces (h : Hw) : Hw :=
  (List.range 128).foldl (fun h i =>
    let n := i + 1
    let es := entriesIn h n
    onSpace h n (fun x => if es.isEmpty then { creations := x.creations }
      else { x with size := es.length * extentBlocks, cap := if x.cap = 0 then es.length * extentBlocks else x.cap, fmt := (es.any (fun e => (extent h e).fmt1)).toNat })) h

/-- The map as a copy holds it comes into the near gallery. -/
def restoreMap (h : Hw) (m : Nat × List (Nat × Extent)) : Hw :=
  indexSpaces (onEngine h (fun g => { g with
    mapSeq := m.1
    extents := m.2.foldl (fun x e => mset (fun _ => {}) x e.1 e.2) [] }))

/-- Operations in progress show again (R466). -/
def restoreOper (h : Hw) : Hw :=
  let fmtOn : Bool := match h.engine.oper with | some o => o.kind.code == 1 | none => false
  setF (setF h HQ_STAT_FMT 0 fmtOn.toNat) HQ_STAT_SANI 0 (h.engine.sanitize == 2 || h.engine.sanitize == 3).toNat

/-- STATE of a namespace's ledger record follows the index (R557). -/
def restoreLedgerStates (h : Hw) : Hw :=
  (List.range 128).foldl (fun h i =>
    let n := i + 1
    let st := (ledger h n).st
    if (space h n).size ≠ 0 ∧ st ≠ 1 then onLedger h n (fun k => { k with st := 1 })
    else if (space h n).size = 0 ∧ st = 1 then onLedger h n (fun k => { k with st := 2 }) else h) h

/-- The pair record (R581, R583): its MSEQ rises by 2^32; the extents of the unsettled list diverge. -/
def restorePair (h : Hw) : Hw :=
  if 2 ≤ h.twin.recState ∧ h.twin.recState ≤ 4 then
    let h := onTwin (setF (setF h HQ_TWIN_STATE 0 h.twin.recState) HQ_TWIN_SOLOW 0 h.twin.recSolow.toNat) (fun t => { t with mseqOut := t.recMseq + 2 ^ 32 })
    makeDivergent h ((h.twin.unsettled.filter (fun p => p.2.isSome)).map (fun p => p.1))
  else h

/-- What the hub restores after the carriages' passes (R110, R111, R558). With no valid copy of the map the start fails with 0x0E and stays
as it is (log entry 83); with every carriage fenced there is no copy to look for (R109). -/
def restoreHub (h : Hw) (mapGood : List Nat) : Hw :=
  match newestMap h mapGood with
  | none => if (List.range 4).any (fun c => populated h c && !(carFenced h c)) then onBoot (startFail h 0x0E 0) (fun b => { b with noMap := true }) else h
  | some m =>
    let h := restoreLedgerStates (restoreOper (restoreMap h m))
    let h := onCipher h (fun c => { c with startMark := true })
    onBoot (restorePair h) (fun b => { b with restored := true })

/-- FIRST_CALIBRATION_PASS (R110): steps 3 and 4 on every loaded carriage whose wedge lock and EOFS stand, then, once every carriage that takes
part has passed, the restore. On the way out of PS4 it is the pass of the standby exit.
`settingsGood` and `mapGood` name the carriages whose copies of the stored values and of the map pass their checks, `replays` those
whose journal can be replayed, `checks` what the heads' checks counted; a head not named has passed. -/
def execFirstCalibrationPass (settingsGood mapGood replays : List Nat) (checks : List HeadCheck) (s : State) : Res := s.runBoth fun h v =>
  if h.island.exiting ∧ getF h PW_BOOT_STAGE 0 = 0x0C then (endExit ((duePass h).foldl (exitPass checks) h), v)
  else if getF h PW_BOOT_STAGE 0 ≠ 0x0B then (h, v)
  else
    let h := if h.dict.loaded then h
      else match newestCopyOf h (fun c => populated h c && !(carFenced h c) && settingsGood.contains c) with
        | some c => loadSettings h v c
        | none => onDict h (fun d => { d with loaded := true })
    let h := (duePass h).foldl (fun h c => firstPass h c checks (replays.contains c)) h
    (if h.boot.restored || !((List.range 4).all (fun c => !(inStart h c) || bitAt h.boot.calibrated c)) then h else restoreHub h mapGood, v)

end Sys2Proof.Machine
end

