-- ==== Sys2Proof/Machine/Management.lean ====
section
/-! DEFINITION. Quablink and its management traffic: requests and the mailbox, notifications, alerts, window data, PLCA, the beacon and
the minute boundary; BAR2 accesses of the window and register writes, which reach all of it (R163-R193, R418, R419, R556, R567,
R654). -/
namespace Sys2Proof.Machine

/-! Transaction records (R171, R172). -/

/-- One record at the front of the bytes, and what follows it. -/
def parseRecord (l : List (BitVec 8)) : Option (Txn × List (BitVec 8)) :=
  let n := leVal ((l.drop 8).take 2)
  if l.length < 10 + n then none
  else some ({ op := leVal (l.take 1), ty := leVal ((l.drop 1).take 1), unit := leVal ((l.drop 4).take 2), pe := leVal ((l.drop 6).take 2),
               value := (l.drop 10).take n }, l.drop (10 + n))

/-- `n` records that fill the bytes exactly, each with an operation of R133. -/
def parseRecords : Nat → List (BitVec 8) → Option (List Txn)
  | 0, l => if l.isEmpty then some [] else none
  | n + 1, l =>
    match parseRecord l with
    | some (t, rest) => if 1 ≤ t.op ∧ t.op ≤ 8 then (parseRecords n rest).map (fun ts => t :: ts) else none
    | none => none

/-- Bytes of the longest response that a record can need (R172). -/
def longestResponse (h : Hw) (t : Txn) : Nat :=
  let size := fun (d : EntDef) => if d.ty = 11 then 32 else typeLen d.ty
  if t.op = 3 then (if unitExists t.unit ∧ (present h t.unit).any (fun m => (objDef h m t.param t.elem).isSome) then 490 else 10)
  else match objDef h t.unit t.param t.elem with
    | some d => if t.op = 1 then 10 + size d else if t.op = 4 then 14 + size d else if t.op = 7 ∨ t.op = 8 then 14 else 10
    | none => 10

/-- The response record of a transaction (R171). Its TYPE without a value is 0, but a refused Read's is the object's, and a Describe's is the
object's (DESIGN CHOICE, log entry 104). -/
def responseRecord (t : Txn) (a : Answer) : List (BitVec 8) :=
  leBytes 1 t.op ++ leBytes 1 a.ty ++ leBytes 1 a.status ++ leBytes 1 0 ++ leBytes 2 t.unit ++ leBytes 2 t.pe ++ leBytes 2 a.value.length ++ a.value

/-! Requests (R172-R175). -/

/-- A frame is ignored and counted (R166, R170, R181). -/
def ignoreFrame (h : Hw) : Hw := onMgmt h (fun m => { m with ignored := (m.ignored + 1) % 2 ^ 32 })

/-- Queue a response that reports why nothing was performed: 1 malformed, 2 busy. -/
def refuseRequest (h : Hw) (src seq kind stat : Nat) : Hw := txFrame h { kind := kind, seq := seq, dst := src, stat := stat, count := 0, body := [] }

/-- Queue a response and keep its copy (R174). -/
def answerRequest (h : Hw) (src : Nat) (f : Frame) : Hw :=
  let h := onSession h src (fun s => { s with lastSeq := some f.seq, lastResp := some f })
  txFrame (onMgmt h (fun m => { m with performed := (m.performed + 1) % 2 ^ 32 })) f

/-- A repeat of the session's last SEQ: the copy goes out again (R174). -/
def repeatOf (h : Hw) (src seq : Nat) : Option Hw :=
  if (session h src).lastSeq = some seq then (session h src).lastResp.map (txFrame h) else none

/-- Perform the records of a request in order until one is a Block read or Block write that starts, or has to wait for an earlier transaction
of its session, or none is left: what is left, and the request as it then stands (R136, R172, R189). -/
def performRecords (h : Hw) (v : Vault) (r : Request) : List Txn → Hw × Request
  | [] => (h, { r with todo := [] })
  | t :: ts =>
    if sessionBusy h r.session then (h, { r with todo := t :: ts })
    else if (t.op = 7 ∨ t.op = 8) ∧ t.blockStatus h r.session = 0 then (startBlock h r.session t .request, { r with todo := t :: ts })
    else
      let a := transact h v r.session t
      performRecords a.1 v { r with done := r.done ++ responseRecord t a.2 } ts

/-- Perform waiting requests in order of arrival until one waits for its Block operation (R136, R174). -/
def performRequests (h : Hw) (v : Vault) : List Request → Hw
  | [] => onMgmt h (fun m => { m with requests := [] })
  | r :: rs =>
    let p := performRecords h v r r.todo
    if p.2.todo.isEmpty then
      performRequests (answerRequest p.1 r.session { kind := 2, seq := r.seq, dst := r.session, stat := 0, count := r.count, body := p.2.done }) v rs
    else onMgmt p.1 (fun m => { m with requests := p.2 :: rs })

/-- A new request of session `src` is answered busy (R174): its previous one is still being performed, or 64 wait. -/
def requestBusy (h : Hw) (src : Nat) : Bool :=
  h.mgmt.requests.any (fun r => r.session == src) || decide (65 ≤ h.mgmt.requests.length)

/-- QUABLINK_REQUEST (R172-R175): a frame of kind 1 that passes R170. A malformed request is judged first, then a repeat, then a busy
device (DESIGN CHOICE, log entry 90). -/
def execQuablinkRequest (src seq count : Nat) (body : List (BitVec 8)) (s : State) : Res := s.runBoth fun h v =>
  if !(mgmtUp h) ∨ getF h PW_BOOT_STAGE 0 = 0 then (h, v)
  else if 0x3FF < src then (ignoreFrame h, v)
  else match (if count = 0 ∨ 16 < count then none else parseRecords count body) with
    | none => (refuseRequest h src seq 2 1, v)
    | some ts =>
      if 1488 < (ts.map (longestResponse h)).sum then (refuseRequest h src seq 2 1, v)
      else match repeatOf h src seq with
        | some h => (h, v)
        | none =>
          let r : Request := { session := src, seq := seq, count := count, todo := ts }
          if requestBusy h src then (refuseRequest h src seq 2 2, v)
          else if h.mgmt.requests.isEmpty then (performRequests h v [r], v)
          else (onMgmt h (fun m => { m with requests := m.requests ++ [r] }), v)

/-! Frames on the wire (R165, R166, R169, R170). -/

/-- A frame header. -/
structure Header where
  ver : Nat
  kind : Nat
  seq : Nat
  src : Nat
  dst : Nat
  count : Nat
  stat : Nat
  len : Nat
  deriving DecidableEq, Repr

/-- The MAC address of a node, most significant byte first; 0xFFFF is the broadcast address (R165). -/
def macOf (node : Nat) : Nat := if node = 0xFFFF then 2 ^ 48 - 1 else 0x02004A560000 + node % 0x400

/-- The frame as it leaves the port: addresses, EtherType 0x88B5, header, body, and zeros up to the Ethernet minimum payload of 46
bytes (PRESUMED, log entry 91). The preamble and the frame check sequence are the PHY's and the MAC's own. -/
def frameBytes (h : Hw) (f : Frame) : List (BitVec 8) :=
  let payload := leBytes 1 1 ++ leBytes 1 f.kind ++ leBytes 2 f.seq ++ leBytes 2 (nodeId h) ++ leBytes 2 f.dst ++ leBytes 1 f.count ++
    leBytes 1 f.stat ++ leBytes 2 f.body.length ++ f.body
  beBytes 6 (macOf f.dst) ++ beBytes 6 (macOf (nodeId h)) ++ beBytes 2 0x88B5 ++ payload ++ zeros (46 - payload.length)

/-- The header of a payload. -/
def parseHeader (l : List (BitVec 8)) : Option Header :=
  let at' := fun (o n : Nat) => leVal ((l.drop o).take n)
  if l.length < 12 then none
  else some { ver := at' 0 1, kind := at' 1 1, seq := at' 2 2, src := at' 4 2, dst := at' 6 2, count := at' 8 1, stat := at' 9 1, len := at' 10 2 }

/-- Why a payload is ignored and counted (R170). -/
def headerIgnored (h : Hw) (l : List (BitVec 8)) : Bool :=
  match parseHeader l with
  | none => true
  | some x => !([1, 4, 5, 7, 8].contains x.kind) || x.ver != 1 || decide (0x3FF < x.src) ||
      !(x.dst == nodeId h || (x.dst == 0xFFFF && x.kind == 5))

/-- IGNORED_FRAME (R165, R166, R170): an Ethernet frame with destination address `dest`. One for another address is discarded; one of
another EtherType, or whose header R170 turns away, is discarded and counted. A frame that passes is a command of its kind, and this one
leaves it alone. -/
def execIgnoredFrame (dest etherType : Nat) (payload : List (BitVec 8)) (s : State) : Res := s.run fun h =>
  if mgmtUp h ∧ (dest = macOf (nodeId h) ∨ dest = macOf 0xFFFF) ∧ (etherType ≠ 0x88B5 ∨ headerIgnored h payload) then ignoreFrame h else h

/-! The mailbox (R418). -/

/-- The bytes of `n` words from the register at `a`. -/
def regBytes (h : Hw) (a n : Nat) : List (BitVec 8) := (List.range n).flatMap (fun i => leBytes 4 (getReg h (a + 4 * i)))

/-- Put bytes into the words from the register at `a`; bytes beyond them stay. -/
def putRegBytes (h : Hw) (a n : Nat) (l : List (BitVec 8)) : Hw :=
  let all := l ++ (regBytes h a n).drop l.length
  (List.range n).foldl (fun h i => setReg h (a + 4 * i) (leVal ((all.drop (4 * i)).take 4))) h

/-- The mailbox transaction of port `p` ends (R418): response, DONE, and vector 65 with IEN. -/
def endMailbox (h : Hw) (p : Nat) (response : Option (List (BitVec 8))) : Hw :=
  let d := inst p
  let h := match response with
    | some l => putRegBytes h (HP_MBRSP + d) 128 l
    | none => setF h HP_MBCTL_MALF d 1
  let h := setF (setF h HP_MBCTL_BUSY d 0) HP_MBCTL_DONE d 1
  if flagF h HP_MBCTL_IEN d then emit h (.msix p 65) else h

/-- The transaction in HP_MBREQ of port `p` (R418). A Block read or Block write that starts leaves BUSY set until it ends. -/
def runMailbox (h : Hw) (v : Vault) (p : Nat) : Hw :=
  let d := inst p
  let h := setF h HP_MBCTL_GO d 0
  if flagF h HP_MBCTL_BUSY d then setF h HP_MBCTL_OVR d 1
  else
    let l := regBytes h (HP_MBREQ + d) 128
    let n := leVal ((l.drop 8).take 2)
    match parseRecord l with
    | some (t, _) =>
      if 480 < n ∨ t.op = 0 ∨ 8 < t.op then endMailbox h p none
      else if sessionBusy h (0x400 + p) then setF (waitTurn h (0x400 + p) t (.mailbox p)) HP_MBCTL_BUSY d 1
      else if (t.op = 7 ∨ t.op = 8) ∧ t.blockStatus h (0x400 + p) = 0 then
        setF (startBlock h (0x400 + p) t (.mailbox p)) HP_MBCTL_BUSY d 1
      else
        let r := transact h v (0x400 + p) t
        endMailbox r.1 p (some (responseRecord t r.2))
    | none => endMailbox h p none

/-! The end of block operations (R189). -/

/-- The oldest request goes on when no transaction of its session is under way (R136). -/
def resumeRequests (h : Hw) (v : Vault) : Hw :=
  match h.mgmt.requests with
  | r :: rs => if sessionBusy h r.session then h else performRequests h v (r :: rs)
  | [] => h

/-- Deliver the answer of a transaction that was under way: to its session, into the mailbox, or into the request it belongs to, whose further records
follow. -/
def deliverBlock (h : Hw) (v : Vault) (b : BlockOp) (a : Answer) : Hw :=
  match b.origin with
  | .direct => resumeRequests (reply (h, a) b.session) v
  | .mailbox p => resumeRequests (endMailbox h p (some (responseRecord b.txn a))) v
  | .request =>
    match h.mgmt.requests with
    | r :: rs => performRequests h v ({ r with todo := r.todo.drop 1, done := r.done ++ responseRecord b.txn a } :: rs)
    | [] => h

/-- Take a transaction on: a block operation under way, or one whose turn has come (R136, R189). -/
def advanceTxn (h : Hw) (v : Vault) (b : BlockOp) : Hw × BlockOp × Option Answer :=
  if b.begun then advanceBlock h v b
  else if (b.txn.op = 7 ∨ b.txn.op = 8) ∧ b.txn.blockStatus h b.session = 0 then
    advanceBlock ((sections h b.session 1).foldl (fun h n => setSec h n 2 b.session) h) v { b with begun := true }
  else
    let a := transact h v b.session b.txn
    (a.1, b, some a.2)

/-- Take every transaction that has not ended on, each session's in order: those that end are answered, the others stay. -/
def advanceBlocks (h : Hw) (v : Vault) : Hw :=
  (h.mgmt.blocks.foldl (fun (r : Hw × List Nat) b =>
    let h := onMgmt r.1 (fun m => { m with blocks := m.blocks.drop 1 })
    if r.2.contains b.session then (onMgmt h (fun m => { m with blocks := m.blocks ++ [b] }), r.2)
    else
      let x := advanceTxn h v b
      match x.2.2 with
      | none => (onMgmt x.1 (fun m => { m with blocks := m.blocks ++ [x.2.1] }), b.session :: r.2)
      | some a => (deliverBlock x.1 v b a, r.2)) (h, [])).1

/-- MAILBOX_GO (R418): a write of 1 to HP_MBCTL.GO of port `p`. -/
def execMailboxGo (p : Nat) (s : State) : Res := s.runBoth fun h v => (if p < 2 then updateLines (runMailbox h v p) else h, v)

/-! Notifications (R158, R176, R419, R654). -/

/-- The bytes of a compared value. -/
def noteBytes (ty x : Nat) : List (BitVec 8) :=
  if ty = 11 then (List.range 32).foldl (fun l i => if x / 256 ^ i = 0 then l else l ++ leBytes 1 (x / 256 ^ i)) [] else leBytes (typeLen ty) x

/-- The record of a notification (R171). -/
def noteRecord (ty u pe x : Nat) : List (BitVec 8) :=
  let l := noteBytes ty x
  leBytes 1 5 ++ leBytes 1 ty ++ leBytes 2 0 ++ leBytes 2 u ++ leBytes 2 pe ++ leBytes 2 l.length ++ l

/-- The type of the object that a notification carries. -/
def noteType (h : Hw) (u pe : Nat) : Nat := match objDef h u (pe / 16 % 0x1000) (pe % 16) with
  | some d => d.ty
  | none => 0

/-- The notification frame. -/
def noteFrame (h : Hw) (n : Note) : Frame :=
  { kind := 3, seq := n.seq, dst := n.session, stat := 0, count := 1, body := noteRecord (noteType h n.path n.pe) n.path n.pe n.value }

/-- A notification is lost (R176, R179, R419). -/
def dropNote (h : Hw) : Hw := onMgmt h (fun m => { m with drops := (m.drops + 1) % 2 ^ 32, dropCause := true })

/-- Write a notification into the ring of port `p` (R419), or drop it when the ring is full. -/
def ringNote (h : Hw) (p ty u pe x : Nat) : Hw :=
  let d := inst p
  let size := 2 ^ (max 4 (min 12 (getF h HP_NRCFG_NRSZ d)))
  let tail := getF h HP_NRTAIL_TAIL d
  let next := (tail + 1) % size
  if next = getF h HP_NRHEAD_HEAD d % size then dropNote h
  else
    let base := getReg h (HP_NRBL + d) / 64 * 64 + 2 ^ 32 * getReg h (HP_NRBH + d)
    let phase := (port h p).ringPhase
    let h := emit h (.host p (base + 64 * tail) (padTo 58 (noteRecord ty u pe x) ++ zeros 5 ++ leBytes 1 phase.toNat))
    let h := setF h HP_NRTAIL_TAIL d next
    let h := if next = 0 then onPort h p (fun y => { y with ringPhase := !phase }) else h
    if flagF h HP_NRCFG_IEN d then emit h (.msix p 65) else h

/-- A session can take a notification now. -/
def canNotify (h : Hw) (sess : Nat) : Bool :=
  if isLinkSession sess then mgmtUp h else isBarSession sess && flagF h HP_NRCFG_ENA (inst (sess - 0x400))

/-- Send a notification of a subscription with the present value. -/
def sendNote (h : Hw) (s : Sub) (ty x : Nat) : Hw :=
  if isLinkSession s.session then
    let n : Note := { session := s.session, seq := (session h s.session).noteSeq, path := s.path, pe := s.pe, value := x, repeats := 0 }
    let h := onSession h s.session (fun y => { y with noteSeq := (y.noteSeq + 1) % 0x10000 })
    txFrame (onMgmt h (fun m => { m with notes := m.notes ++ [n] })) (noteFrame h n)
  else ringNote h (s.session - 0x400) ty s.path s.pe x

/-- The value has moved beyond the deadband, or at all for a type that is not numeric (R158). -/
def movedEnough (ty deadband last x : Nat) : Bool :=
  if isNumeric ty then decide (typedInt ty deadband < ((typedInt ty x - typedInt ty last).natAbs : Int)) else x != last

/-- One subscription in a management cycle: what is left, and the subscription after it. -/
def cycleSub (h : Hw) (v : Vault) (s : Sub) : Hw × Sub :=
  let p := s.pe / 16 % 0x1000
  let e := s.pe % 16
  match objDef h s.path p e with
  | none => (h, s)
  | some d =>
    if poweredDown h s.session 1 s.path p e d then (h, s)
    else
      let x := subValue h v s.session s.path p e d
      if s.age < s.interval ∨ !(movedEnough d.ty s.deadband s.last x) then (h, s)
      else if !(canNotify h s.session) then (h, { s with held := isLinkSession s.session })
      else (sendNote h s d.ty x, { s with last := x, age := 0 })

/-- Compare every subscribed value with its last notified one. -/
def notifyAll (h : Hw) (v : Vault) : List Sub → Hw × List Sub
  | [] => (h, [])
  | s :: l =>
    let r := cycleSub h v s
    let rest := notifyAll r.1 v l
    (rest.1, r.2 :: rest.2)

/-- NOTIFICATION_CYCLE (R158): once per 1 ms management cycle. -/
def execNotificationCycle (s : State) : Res := s.runBoth fun h v =>
  let r := notifyAll h v (h.dict.subs.map (fun x => { x with age := min x.interval (x.age + 1) }))
  (onDict r.1 (fun d => { d with subs := r.2 }), v)

/-- NOTIFICATION_RETRY (R176, R654): 50 ms without an acknowledge; the fourth time the notification is dropped. -/
def execNotificationRetry (sess seq : Nat) (s : State) : Res := s.run fun h =>
  match h.mgmt.notes.find? (fun n => n.session == sess && n.seq == seq) with
  | none => h
  | some n =>
    if !(mgmtUp h) then
      onMgmt h (fun m => { m with notes := m.notes.map (fun x => if x.session = sess ∧ x.seq = seq then { x with held := true } else x) })
    else if n.repeats < 3 then
      let h := onMgmt h (fun m => { m with notes := m.notes.map (fun x => if x.session = sess ∧ x.seq = seq then { x with repeats := x.repeats + 1 } else x) })
      txFrame h (noteFrame h n)
    else dropNote (onMgmt h (fun m => { m with notes := m.notes.filter (fun x => !(x.session == sess && x.seq == seq)) }))

/-- NOTIFICATION_ACKNOWLEDGE (R170, R176): a frame of kind 4 from node `sess`. -/
def execNotificationAcknowledge (sess seq : Nat) (s : State) : Res := s.run fun h =>
  if mgmtUp h ∧ 0x3FF < sess then ignoreFrame h
  else if mgmtUp h then onMgmt h (fun m => { m with notes := m.notes.filter (fun x => !(x.session == sess && x.seq == seq)) }) else h

/-! Alerts (R177, R178, R654). -/

/-- Send a pending alert once more; its 60th send ends it. -/
def sendAlert (h : Hw) (a : Alert) : Hw :=
  let h := onMgmt h (fun m => { m with alerts :=
    (m.alerts.map (fun x => if x.seq = a.seq then { x with sends := x.sends + 1 } else x)).filter (fun x => !(x.seq == a.seq && decide (60 ≤ x.sends))) })
  txFrame h (alertFrame h a)

/-- ALERT_RAISED (R177): alert `code` with its DETAIL; a request of Stair 4 obeys R119. -/
def execAlertRaised (code detail : Nat) (s : State) : Res := s.run fun h =>
  if code = 1 then askStair4 h detail else if 2 ≤ code ∧ code ≤ 4 then raiseAlert h code detail else h

/-- ALERT_REPEAT (R178): 1 s after the last send of the alert with number `seq`. -/
def execAlertRepeat (seq : Nat) (s : State) : Res := s.run fun h =>
  match h.mgmt.alerts.find? (fun a => a.seq == seq) with
  | some a => if mgmtUp h then sendAlert h a else h
  | none => h

/-- ALERT_ACKNOWLEDGE (R170, R178): a frame of kind 7 from any node. -/
def execAlertAcknowledge (src seq : Nat) (s : State) : Res := s.run fun h =>
  if mgmtUp h ∧ 0x3FF < src then ignoreFrame h
  else if mgmtUp h then onMgmt h (fun m => { m with alerts := m.alerts.filter (fun a => !(a.seq == seq)) }) else h

/-- One subscription when the port can send again: a held notification, a held repeat or a value that has moved goes out once, with
the present value; its wait and repeats start anew (R654). -/
def resumeSub (h : Hw) (v : Vault) (s : Sub) : Hw × Sub :=
  let heldNote := fun (n : Note) => n.held && n.session == s.session && n.path == s.path && n.pe == s.pe
  if !(isLinkSession s.session) ∨ !(s.held || h.mgmt.notes.any heldNote) then cycleSub h v s
  else match objDef h s.path (s.pe / 16 % 0x1000) (s.pe % 16) with
    | none => (h, { s with held := false })
    | some d =>
      let x := subValue h v s.session s.path (s.pe / 16 % 0x1000) (s.pe % 16) d
      let h := onMgmt h (fun m => { m with notes := m.notes.filter (fun n => !(heldNote n)) })
      (sendNote h s d.ty x, { s with last := x, age := 0, held := false })

/-- Every subscription when the port can send again. -/
def resumeAll (h : Hw) (v : Vault) : List Sub → Hw × List Sub
  | [] => (h, [])
  | s :: l =>
    let r := resumeSub h v s
    let rest := resumeAll r.1 v l
    (rest.1, r.2 :: rest.2)

/-- MANAGEMENT_PORT_RESUME (R654): the port can send again: every pending alert goes out at once, and one notification for each
subscription whose notification was held. -/
def execManagementPortResume (s : State) : Res := s.runBoth fun h v =>
  if mgmtUp h then
    let h := h.mgmt.alerts.foldl sendAlert h
    let r := resumeAll h v h.dict.subs
    (onDict r.1 (fun d => { d with subs := r.2 }), v)
  else (h, v)

/-! PLCA (R167, R168). -/

/-- The settings as written. -/
def writtenPlca (h : Hw) : Plca :=
  { enable := liveVal h 0x1910 0x010 0
    localId := (oget h.dict.live (entryKey 0x1910 0x011 0)).getD (nodeId h % 32 + 1)
    nodes := liveVal h 0x1910 0x012 0
    toTimer := liveVal h 0x1910 0x013 0
    burst := liveVal h 0x1910 0x014 0
    burstTimer := liveVal h 0x1910 0x015 0 }

/-- A written setting comes into force. -/
def applyPlca (h : Hw) : Hw := if h.mgmt.plcaPending then onMgmt h (fun m => { m with plca := writtenPlca h, plcaPending := false }) else h

/-- PLCA_SETTING_TAKES_EFFECT (R167). -/
def execPlcaSettingTakesEffect (s : State) : Res := s.run applyPlca

/-- PLCA_BEACON_SEEN (R167, R168). -/
def execPlcaBeaconSeen (s : State) : Res := s.run fun h =>
  if mgmtUp h then onMgmt (applyPlca h) (fun m => { m with plcaSeen := true }) else h

/-- PLCA_BEACON_LOSS (R168): none for 100 ms. -/
def execPlcaBeaconLoss (s : State) : Res := s.run fun h => onMgmt h (fun m => { m with plcaSeen := false })

/-- TRANSMIT_OPPORTUNITY (R168): the device sends queued frames, as many as its burst count allows; a follower without a beacon holds its
queue. -/
def execTransmitOpportunity (s : State) : Res := s.run fun h =>
  if mgmtUp h ∧ plcaStatus h ≠ 0 then
    let n := if h.mgmt.plca.enable = 0 then 1 else 1 + h.mgmt.plca.burst
    (h.mgmt.tx.take n).foldl (fun h f => emit h (.frame (frameBytes h f))) (onMgmt h (fun m => { m with tx := m.tx.drop n }))
  else h

/-! The beacon and the minute (R180-R184, R556-R558). -/

/-- A correction of one minute: at most 5 ms either way (R183). -/
def clampSlew (e : Int) : Int := max (-5000) (min 5000 e)

/-- The device follows beacons of node `src` (R180): `heard` holds every node and the operating time of its last beacon. -/
def followsNode (h : Hw) (heard : SMap Nat) (src : Nat) : Bool :=
  let chosen := liveVal h 0x1900 0x010 0
  if chosen ≠ 0xFFFF then src == chosen else heard.all (fun p => decide (src ≤ p.1 - 1))

/-- BEACON (R180-R184): from node `src`: MINUTE, UNTIL, and E in us, the indicated boundary less the device's own next one. -/
def execBeacon (src minute until_ : Nat) (e : Int) (s : State) : Res := s.run fun h =>
  if !(mgmtUp h) then h
  else if 59999999 < until_ ∨ 0x3FF < src then ignoreFrame h
  else
    let now := h.log.optime
    let heard := zset (h.mgmt.heard.filter (fun p => decide (now ≤ p.2 + 180000))) (src + 1) now
    let h := onMgmt h (fun m => { m with heard := heard })
    if !(followsNode h heard src) then h
    else
      let h := onMgmt h (fun m => { m with lastE := ofSigned 32 e, sync := 1, beaconAt := now })
      if e.natAbs ≤ 10000 ∧ minute = h.mgmt.nextMinute.getD (h.mgmt.minute + 1) then
        onMgmt h (fun m => let all := m.slewNow + e; { m with slewNow := clampSlew all, slew := all - clampSlew all })
      else
        let h := onMgmt h (fun m => if e ≤ 0 then { m with nextMinute := some minute, stepLater := none, stepped := decide (e < 0), slew := 0, slewNow := 0 }
          else { m with nextMinute := none, stepLater := some minute, stepped := false, slew := 0, slewNow := 0 })
        ruleRecord h 0x19F0 183 3 (ofSigned 32 e)

/-- SYNC_HOLDOVER (R184): 180 s without an accepted beacon. -/
def execSyncHoldover (s : State) : Res := s.run fun h => if h.mgmt.sync = 1 ∧ h.mgmt.beaconAt + 180000 ≤ h.log.optime then onMgmt h (fun m => { m with sync := 2 }) else h

/-- A closed minute's entries of the live namespaces as the payload of a Ledger message (R429, R570, R576): the namespace stands in the first of an entry's last 8
bytes. -/
def ledgerPayload (es : SMap Minute) : List (BitVec 8) := es.flatMap (fun p => p.2.bytes.take 56 ++ leBytes 8 p.1)

/-- Close the minute in progress (R556-R558): the snapshot goes to the minute bank written longer ago, the window is filled, the entries
join the history and, from the first twin, go to the partner. -/
def closeMinute (h : Hw) : Hw :=
  let first := decide (h.cipher.bank0.bseq ≤ h.cipher.bank1.bseq)
  let bank := snapshot h 0
  let es := minuteEntries bank.minute bank.mflags h.cipher.ledger h.cipher.base
  let h := onCipher h (fun c =>
    let now := bankRecords (some bank)
    let c := keepEntries { c with cidx := c.cidx + 1, window := es, base := now, ledger := now, lastClosed := some bank.minute, startMark := false } es
    if first then { c with bank0 := bank } else { c with bank1 := bank })
  let h := setF (setF h CY_MSTAT_VALID 0 1) CY_MSTAT_BANK 0 (if first then 0 else 1)
  let h := setF (setReg (setReg h CY_MMINL (bank.minute % 2 ^ 32)) CY_MMINH (bank.minute / 2 ^ 32)) CY_IRQS_MCLOSE 0 1
  if mirrors h then sendMessage h 6 (plainFrame (ledgerPayload (es.filter (fun p => (mget (fun _ => {}) h.cipher.ledger p.1).st == 1)))) else h

/-- The next minute begins (R183, R184). -/
def nextMinute (m : Mgmt) : Mgmt :=
  { m with
    minute := m.nextMinute.getD (m.minute + 1)
    nextMinute := m.stepLater
    stepLater := none
    stepped := m.stepLater.isSome
    slewNow := clampSlew m.slew
    slew := m.slew - clampSlew m.slew }

/-- MINUTE_BOUNDARY (R183, R556). The metering unit needs its domain; the count of missed revolutions of a minute starts again (R243). -/
def execMinuteBoundary (s : State) : Res := s.run fun h =>
  let h := if domainUp h 5 then closeMinute h else h
  let h := [0, 1, 2, 3].foldl (fun h c => onPath h c (fun p => { p with missMinute := 0 })) h
  updateLines (onMgmt h nextMinute)

/-! The bulk window (R190, R191, R193, R567). -/

/-- Sections a session owns, in state Held or Device. -/
def claimOf (h : Hw) (sess : Nat) : List Nat := (List.range 8).filter (fun n => secOwner h n == sess && (secState h n == 1 || secState h n == 2))

/-- The sections that an access of `n` bytes at window offset `o` touches have been accessed by their owner (R179). -/
def touchSections (h : Hw) (o n : Nat) : Hw :=
  onMgmt h (fun m => { m with windowCause := (List.range 8).foldl (fun w k =>
    if k * 0x100000 < o + n ∧ o < (k + 1) * 0x100000 then putBit w k false else w) m.windowCause })

/-- The window status (R190). -/
def windowStatus (h : Hw) (src sect offset wlen : Nat) : Nat :=
  let l := claimOf h src
  if windowAsleep h then 4
  else if l.head? ≠ some sect then 1
  else if l.any (fun n => secState h n != 1) then 2
  else if l.length * 0x100000 < offset + wlen then 3
  else 0

/-- WINDOW_DATA_REQUEST (R172, R174, R190): a frame of kind 8 that passes R170; `clean`: its reserved bytes are 0; `data`: what follows the
window record. A refused read echoes WLEN and carries no DATA (DESIGN CHOICE, log entry 90). -/
def execWindowDataRequest (src seq count sect dir offset wlen : Nat) (clean : Bool) (data : List (BitVec 8)) (s : State) : Res := s.run fun h =>
  if !(mgmtUp h) ∨ getF h PW_BOOT_STAGE 0 = 0 then h
  else if 0x3FF < src then ignoreFrame h
  else if count ≠ 1 ∨ 1 < dir ∨ wlen = 0 ∨ 1024 < wlen ∨ !clean ∨ data.length ≠ (if dir = 0 then wlen else 0) then refuseRequest h src seq 9 1
  else match repeatOf h src seq with
    | some h => h
    | none =>
      if requestBusy h src then refuseRequest h src seq 9 2
      else
        let st := windowStatus h src sect offset wlen
        let o := sect * 0x100000 + offset
        let back := if st = 0 ∧ dir = 1 then memBytes h (windowBase + o) wlen else []
        let h := if st = 0 then touchSections (if dir = 0 then memStore h (windowBase + o) data else h) o wlen else h
        let record := leBytes 1 sect ++ leBytes 1 dir ++ leBytes 1 st ++ leBytes 1 0 ++ leBytes 4 offset ++ leBytes 2 wlen ++ leBytes 2 0 ++ back
        answerRequest h src { kind := 9, seq := seq, dst := src, stat := 0, count := 1, body := record }

/-- The inbox takes a write from a requester (R567): `o` counts from the start of section 4. -/
def inboxTakes (h : Hw) (requester o : Nat) : Bool :=
  h.twin.requester == some requester ||
  ((twinState h == 1 || (twinState h == 3 && h.twin.helloWait)) && decide (0x1000 ≤ o))

/-- BAR2_WINDOW_ACCESS (R191, R193, R567): port `p` writes `data` at window offset `o`, or reads `n` bytes there; `requester` is the
Requester ID. A write that arrives while the memory sleeps is not counted in DROPS (DESIGN CHOICE, log entry 90). -/
def execBar2WindowAccess (p o n requester : Nat) (write : Bool) (data : List (BitVec 8)) (s : State) : Res := s.run fun h =>
  if p ≥ 2 ∨ 0x800000 < o + (if write then data.length else n) then h
  else
    let len := if write then data.length else n
    let hit := (List.range 8).filter (fun k => decide (k * 0x100000 < o + len) && decide (o < (k + 1) * 0x100000))
    let inbox : Bool := hit.any (fun k => secOwner h k == 0x420)
    let own : Bool := hit.all (fun k => secOwner h k == 0x400 + p && secState h k == 1)
    let taken : Bool := !(windowAsleep h) && (if inbox then hit.all (fun k => secOwner h k == 0x420) && write && inboxTakes h requester (o - 0x400000) else own)
    if write then
      (if taken then touchSections (memStore h (windowBase + o) data) o len
       else if windowAsleep h then h else satF h MG_BWERR_DROPS 0 1)
    else if taken then emit (touchSections h o len) (.window (0x400 + p) 0 (memBytes h (windowBase + o) len))
    else emit h (.window (0x400 + p) 0 (zeros len))

/-! Register writes. -/

/-- REGISTER_WRITE (R14, R124-R129): a write of `data` by source `src` (R128) to the register at `a`, an offset from 0x4000_0000, for a
port its BAR offset (R411, R412); a write of
HP_MBCTL.GO runs the mailbox. -/
def execRegisterWrite (src a data : Nat) (s : State) : Res := s.runBoth fun h v =>
  match writeReaches h (src % 8) a with
  | .refused h => (h, v)
  | .control p o => (writeControl h p o data, v)
  | .register a =>
    let h := busWrite h v (src % 8) a data
    let p := regInst a
    (if a = HP_MBCTL + inst p ∧ p < 2 ∧ flagF h HP_MBCTL_GO (inst p) then updateLines (runMailbox h v p) else h, v)

/-! IRQ_N (R64, R179). -/

/-- The causes of R179 that hold: [0] an alert is pending, [1] a notification has been dropped, [2] a section has returned to Held,
[3] holdover. -/
def irqCauses (h : Hw) : Nat :=
  (!h.mgmt.alerts.isEmpty).toNat + 2 * h.mgmt.dropCause.toNat + 4 * (h.mgmt.windowCause != 0).toNat + 8 * (h.mgmt.sync == 2).toNat

/-- IRQ_N is low: the start is halted, or a selected cause holds (R64, R179). -/
def irqLow (h : Hw) : Bool := getF h PW_BOOT_STAGE 0 == 0x0E || (liveVal h 0x1900 0x016 0 &&& irqCauses h) != 0

end Sys2Proof.Machine
end

