-- ==== Sys2Proof/Machine/Routines.lean ====
section
/-! DEFINITION. The base microcode (R300): what each of its routines and handlers does, a step at each safe point, while no trap of a patch
stands in it; and the microword, which a patched sequencer executes word by word (R284, R286, R289-R306). The spec lists no word of the ROM:
with a trap valid, its words are free (log entry 107). -/
namespace Sys2Proof.Machine

/-- The fields of the running request (R300): RQ1, a count and a first index in RQ2, head and buffer tag in RQ3. -/
def rqCount (r : FmReq) : Nat := bits 15 0 r.w2
def rqFirst (r : FmReq) : Nat := bits 31 16 r.w2
def rqHead (r : FmReq) : Nat := bits 18 16 r.w3
def rqBuf (r : FmReq) : Nat := bits 15 0 r.w3

/-- The routine reaches a safe point (R297, R301): FM_PROG shows OPC, step and sectors; how the base microcode numbers its steps, and the address
it stands at, the spec does not state. -/
def romSafe (h : Hw) (c : Nat) (r : FmReq) : Hw :=
  let f := fm h c
  let h := setF h FM_PROG_VALUE (inst c) (r.opc * 2 ^ 24 + Config.romStep r.opc f.romStage % 256 * 2 ^ 16 + f.romDone % 65536)
  let h := setF h FM_MSTAT_PC (inst c) (Config.freeNat h.freeCtr % 0x2000)
  onFmt { h with freeCtr := h.freeCtr + 1 } c (fun f => { f with spd := 0, atSafe := true, held := !(flagF h FM_MCTL_RUN (inst c)) })

/-- REQ_DONE, then HALT (R296, R301). -/
def romEnd (h : Hw) (c status : Nat) : Hw := endRoutine (completeRunning h c status) c

/-- The routine's progress changes. -/
def onRom (h : Hw) (c : Nat) (r : FmReq) (f : Formatter → Formatter) : Hw := romSafe (onFmt h c f) c r

/-- The head stands settled on the track. -/
def onTarget (h : Hw) (c hd track : Nat) : Bool :=
  flagF h SV_STAT_ONTRK (inst c) && getF h SV_POS_TRACK (inst c) == track && getF h FM_SQSTAT_SELHEAD (inst c) == hd

/-- The SEEK port is written once for a target (R344); the seek selects the head (R351). -/
def seekFor (h : Hw) (c hd track : Nat) : Hw :=
  if getF h SV_TGT_TRACK (inst c) = track ∧ getF h SV_TGT_HEAD (inst c) = hd ∧ !(flagF h SV_STAT_ONTRK (inst c)) then h
  else requestSeek h c hd track

/-- Every descriptor pushed has been reported and taken, and no sector waits for a further try. -/
def stuIdle (h : Hw) (c : Nat) : Bool :=
  (fm h c).sq.isEmpty && (fm h c).started.isEmpty && (fm h c).reports.isEmpty && (path h c).again.isEmpty && (path h c).works.all (fun w => w.finished)

/-- A report is taken and its sector reported to the command engine (RPT_TAKE, SECT, R296): it counts when it is read or on the medium. -/
def takeReport (h : Hw) (c : Nat) (r : FmReq) : Hw :=
  match (fm h c).reports with
  | [] => h
  | t :: _ =>
    let good : Bool := decide (bits 28 27 t.r0 < 2)
    let h := sectReport (rptTake h c) c t.r0
    onRom h c r (fun f => { f with
      romDone := f.romDone + good.toNat
      romPlaces := if good && bits 31 29 t.r0 == 3 then f.romPlaces ++ [t.r1] else f.romPlaces })

/-- A descriptor for position `index` of a track under buffer tag `buf` (R308). -/
def descFor (kind hd track index buf : Nat) : Desc := { w0 := kind * 2 ^ 28 + hd * 2 ^ 24 + 3 * 2 ^ 22 + index % 65536, w1 := track, w2 := buf % 65536 }

/-- The next descriptor of a routine over sectors: once its head stands on its track and the queue has room. What is queued or under way on
another track ends first. -/
def pushFor (h : Hw) (c : Nat) (r : FmReq) (kind hd track index buf : Nat) : Hw :=
  if !(onTarget h c hd track) then
    if (fm h c).sq.isEmpty ∧ (fm h c).started.isEmpty then romSafe (seekFor h c hd track) c r else romSafe h c r
  else if 4 ≤ (fm h c).sq.length then romSafe h c r
  else onRom (pushDesc h c (descFor kind hd track index buf)) c r (fun f => { f with romPushed := f.romPushed + 1 })

/-- Read home, Stream write home (R300, R274): descriptor `i` goes to the sector's spare once it is reassigned. -/
def romHome (h : Hw) (c : Nat) (r : FmReq) (kind : Nat) : Hw :=
  let i := (fm h c).romPushed
  if !(fm h c).reports.isEmpty then takeReport h c r
  else if i < rqCount r then
    let p := homePlace h c (rqHead r) r.w1 (rqFirst r + i)
    pushFor h c r kind p.1 p.2.1 p.2.2 (rqBuf r + i)
  else if stuIdle h c then romEnd h c 0
  else romSafe h c r

/-- Write a number into journal staging (JADDR, JDATA, R296). -/
def putJournal (h : Hw) (c o n v : Nat) : Hw :=
  onFmt h c (fun f => { f with journal := (List.range n).foldl (fun m i => zset m ((o + i) % 65536) (v / 256 ^ i % 256)) f.journal })

/-- The record of a Landing write in its template (R269, R270): what is known once its data has been reported; the STU writes CRC. -/
def fillRecord (h : Hw) (c : Nat) (r : FmReq) : Hw :=
  let ps := (fm h c).romPlaces
  let lpos := ps.headD 0
  let h := putJournal (putJournal (putJournal h c r.w1 4 0x524C564A) c (r.w1 + 4) 2 1) c (r.w1 + 6) 1 1
  let h := putJournal (putJournal h c (r.w1 + 8) 8 (lseq h c + 1)) c (r.w1 + 0x20) 4 lpos
  putJournal (putJournal h c (r.w1 + 0x30) 8 (ldseq h c)) c (r.w1 + 0x38) 16 (ps.foldl (fun m p => m + 2 ^ ringGap lpos p) 0)

/-- Landing write (R268, R300): its data sectors, then, after their last report, its record with RUNEND; once that has passed FM_LSEQ takes its
SEQ. Below 131 free positions it does not start (R272). -/
def romLanding (h : Hw) (c : Nat) (r : FmReq) : Hw :=
  let f := fm h c
  let hd := getF h FM_SQSTAT_SELHEAD (inst c)
  if !f.reports.isEmpty then takeReport h c r
  else if f.romStage = 0 then
    if 4 ≤ f.sq.length ∨ (f.romPushed = 0 ∧ landFree h c < 131) then romSafe h c r
    else if f.romPushed < rqCount r then
      onRom (pushDesc h c (descFor 3 hd 0 0 (rqBuf r + f.romPushed))) c r (fun f => { f with romPushed := f.romPushed + 1 })
    else if stuIdle h c then
      let h := fillRecord h c r
      let d := descFor 4 hd 0 0 0
      onRom (pushDesc h c { d with w0 := d.w0 + 2 ^ 27 }) c r (fun f => { f with romStage := 1 })
    else romSafe h c r
  else if stuIdle h c then
    if rqCount r < f.romDone then romEnd (romSafe (setLseq h c (lseq h c + 1)) c r) c 0 else romSafe h c r
  else romSafe h c r

/-- Read Landing (R300): the positions from RQ1 on. -/
def romReadLanding (h : Hw) (c : Nat) (r : FmReq) : Hw :=
  let i := (fm h c).romPushed
  if !(fm h c).reports.isEmpty then takeReport h c r
  else if i < rqCount r then
    match landPlace h c ((r.w1 + i) % ringSize) with
    | some (track, hd, index) => pushFor h c r 1 hd track index (rqBuf r + i)
    | none => romSafe h c r
  else if stuIdle h c then romEnd h c 0
  else romSafe h c r

/-- Destage one record (R271, R300): with no sector that fails for good. -/
def romDestage (h : Hw) (c : Nat) (r : FmReq) : Hw :=
  match (path h c).records.find? (fun q => q.seq == r.w1 + 2 ^ 32 * r.w2) with
  | some q =>
    if destageable h c q ∧ !((path h c).noWrite) then romEnd (onRom (destageRecord h c q []) c r (fun f => { f with romDone := q.count })) c 0
    else romEnd h c 0
  | none => romEnd h c 0

/-- Adaptation read (R236, R300): every position of the track, for the revolutions asked. -/
def romAdapt (h : Hw) (c : Nat) (r : FmReq) : Hw :=
  let n := positionsOn h c (rqHead r) r.w1
  let i := (fm h c).romPushed
  if !(fm h c).reports.isEmpty then takeReport h c r
  else if i < n * rqCount r then pushFor h c r 0 (rqHead r) r.w1 (i % n) 0
  else if stuIdle h c then romEnd h c 0
  else romSafe h c r

/-- Reassign (R274, R300): the data of the buffer tag goes to the next spare with verify; a spare that fails is spent, and the next is tried. -/
def romReassign (h : Hw) (c : Nat) (r : FmReq) : Hw :=
  let hd := rqHead r
  let index := bits 15 0 r.w2
  if (fm h c).romStage = 0 then
    match nextSpare h c hd r.w1 with
    | none => romEnd (poolLow h c hd r.w1) c 0
    | some s =>
      match sparePlace h c hd r.w1 s.1 with
      | none => romEnd h c 0
      | some (sh, track, i) =>
        if (fm h c).romPushed = 0 then pushFor h c r 2 sh track i (rqBuf r)
        else match (fm h c).reports with
          | [] => romSafe h c r
          | t :: _ =>
            let good : Bool := decide (bits 28 27 t.r0 < 2)
            let h := rptTake h c
            let h := reassign h c hd r.w1 index 1 good
            onRom h c r (fun f => { f with romStage := if good then 1 else 0, romPushed := 0, romDone := f.romDone + good.toNat })
  else romEnd h c 0

/-- Seek and hold (R300). -/
def romSeek (h : Hw) (c : Nat) (r : FmReq) : Hw :=
  if onTarget h c (rqHead r) r.w1 then romEnd h c 0 else romSafe (seekFor h c (rqHead r) r.w1) c r

/-- One step of the base microcode's routine (R300). Replay reads every position: its failure is R111's. -/
def romRoutine (h : Hw) (c : Nat) (r : FmReq) : Hw :=
  match r.opc with
  | 1 => romHome h c r 0
  | 2 => romHome h c r 2
  | 3 => romLanding h c r
  | 4 => romReadLanding h c r
  | 5 => romDestage h c r
  | 6 => romEnd (replayOr h c true) c 0
  | 7 => romAdapt h c r
  | 8 => romReassign h c r
  | 9 => romEnd (makeCheckpoint h c false) c 0
  | _ => romSeek h c r

/-- One step of a handler of the base microcode (R302, R304, R321). Level 0 ends the routine and never returns. Level 1 flushes and ends the
request as aborted, but lets a Landing write whose record is pushed complete: with status 0 once the record has passed. What levels 2 and 3
do beyond their vectors the spec does not say: they return (DEDUCED, log entry 107). -/
def romHandler (h : Hw) (c : Nat) : Hw :=
  match getF h FM_MSTAT_ILEV (inst c) with
  | 0 => endRoutine (completeRunning h c 5) c
  | 1 =>
    match (fm h c).running with
    | some r =>
      if r.opc = 3 ∧ (fm h c).romStage = 1 then
        if !(fm h c).reports.isEmpty then takeReport h c r
        else if stuIdle h c then
          if rqCount r < (fm h c).romDone then romEnd (setLseq h c (lseq h c + 1)) c 0 else romEnd h c 1
        else h
      else romEnd (sqFlush (onPath h c (fun p => { p with again := [] })) c) c 1
    | none => endRoutine h c
  | _ => iretOp h c

/-- The base microcode goes on by one step. -/
def romStep (h : Hw) (c : Nat) : Hw :=
  if flagF h FM_MSTAT_IACT (inst c) then romHandler h c
  else match (fm h c).running with
    | some r => romRoutine h c r
    | none => endRoutine h c

/-- MICROWORD (R289, R303): a pending interrupt is taken at the first safe point; else the next word, or the next step of the base microcode. -/
def execMicroword (c : Nat) (s : State) : Res := s.run fun h =>
  if sequencing h c then
    match levelNow h c with
    | some n => takeLevel h c n
    | none => if (fm h c).rom then romStep h c else stepWord h c
  else h

/-- WAIT_CONDITION_MET (R292, R303): the condition of the waiting word holds; its effects happen once, unless an interrupt is taken first. -/
def execWaitConditionMet (c : Nat) (s : State) : Res := s.run fun h =>
  if sequencing h c ∧ (fm h c).waiting ∧ !(fm h c).rom then
    match levelNow h c with
    | some n => takeLevel h c n
    | none => stepWait h c
  else h

end Sys2Proof.Machine
end

