-- ==== Sys2Proof/Machine/Tap.lean ====
section
/-! DEFINITION. Boundary scan: the test access port (R87-R90). -/
namespace Sys2Proof.Machine

/-- IEEE 1149.1 state transition on a rising TCK (R87). -/
def TapState.next (st : TapState) (tms : Bool) : TapState :=
  match st with
  | .testLogicReset => if tms then .testLogicReset else .runTestIdle
  | .runTestIdle => if tms then .selectDr else .runTestIdle
  | .selectDr => if tms then .selectIr else .captureDr
  | .captureDr => if tms then .exit1Dr else .shiftDr
  | .shiftDr => if tms then .exit1Dr else .shiftDr
  | .exit1Dr => if tms then .updateDr else .pauseDr
  | .pauseDr => if tms then .exit2Dr else .pauseDr
  | .exit2Dr => if tms then .updateDr else .shiftDr
  | .updateDr => if tms then .selectDr else .runTestIdle
  | .selectIr => if tms then .testLogicReset else .captureIr
  | .captureIr => if tms then .exit1Ir else .shiftIr
  | .shiftIr => if tms then .exit1Ir else .shiftIr
  | .exit1Ir => if tms then .updateIr else .pauseIr
  | .pauseIr => if tms then .exit2Ir else .pauseIr
  | .exit2Ir => if tms then .updateIr else .shiftIr
  | .updateIr => if tms then .selectDr else .runTestIdle

/-- The opcodes of R87. -/
def tapBypass : Nat := 0xFF
def tapIdcode : Nat := 1
def tapSample : Nat := 2
def tapExtest : Nat := 3
def tapClamp : Nat := 4
def tapHighz : Nat := 5
def tapLinktest : Nat := 0x20

/-- IDCODE (R87). -/
def idcode : Nat := 0x148245AB

/-- A guarded instruction may take effect (R88): RESET_IN_N low, the spindle still; LINKTEST not in sealed mode. -/
def tapGuard (h : Hw) (still : Bool) (opcode : Nat) : Bool :=
  !h.pins.resetIn && still && !(opcode == tapLinktest && isSealed h)

/-- The instruction that an opcode selects (R87, R88). -/
def tapSelect (h : Hw) (still : Bool) (opcode : Nat) : Nat :=
  if opcode = tapIdcode ∨ opcode = tapSample then opcode
  else if (opcode = tapExtest ∨ opcode = tapClamp ∨ opcode = tapHighz ∨ opcode = tapLinktest) ∧ tapGuard h still opcode then opcode
  else tapBypass

/-- Length of the data register that an instruction selects (R87, R89, R90). -/
def tapLength (ir : Nat) : Nat :=
  if ir = tapIdcode ∨ ir = tapLinktest then 32
  else if ir = tapSample ∨ ir = tapExtest then 270
  else 1

/-- Boundary cell of output `k` of ball `b` (R89): cells run input, output, enable, and cell 0 is the lowest bit. -/
def outputCell (ball : Nat) : Nat := 3 * ball + 1

/-- Number of ball GATE_UH among the 90 balls in row and column order (R55, R57, R58, R89). -/
def gateBall : Nat := 33

/-- R59 in boundary scan: a pair of cells that would drive both gates of a phase high drives both low. -/
def gateGuard (cells : Nat) : Nat :=
  [0, 1, 2].foldl (fun w ph =>
    let hi := outputCell (gateBall + 2 * ph)
    let lo := outputCell (gateBall + 2 * ph + 1)
    if bitAt w hi && bitAt w lo then putBit (putBit w hi false) lo false else w) cells

/-- Numbers, among the 90 balls of the boundary register in ascending row and column (R55, R57, R58, R62, R72, R89), of those whose level
State holds, with that level: row 3 the preamplifier pins of carriages 0-3, eight each (WG, FLT_N, SG, HTR_EN, LSR_EN at 0-4); 32
HA_PERST_N, 39 HB_PERST_N; 33-38 the gates; 40 HU_CTL; 41-62 the straps; 63 PRSNT_N; 64 IRQ_N; 65 ALIVE; 66-71 the boot flash; 72-89 the
management PHY with MG_PHYRST_N last. -/
def knownBalls (h : Hw) : List (Nat × Bool) :=
  (List.range 4).flatMap (fun c => let p := (car h c).path
    [(8 * c, p.wg), (8 * c + 1, !(flagF h PA_FLT_PIN (inst c))), (8 * c + 2, p.sg), (8 * c + 3, p.htrEn), (8 * c + 4, p.lsrEn)]) ++
  [(32, h.pins.perstA), (39, h.pins.perstB), (40, huCtl h)] ++ (List.range 22).map (fun i => (41 + i, bitAt h.pins.strapLive i)) ++
  [(63, h.pins.prsnt), (64, !(irqLow h)), (65, h.island.alive == .toggling && h.island.aliveHalf), (89, h.pins.phyRst)]

/-- The parallel inputs of the boundary cells: the level of a ball that State holds shows in its input and its output cell; what the other
pins carry comes with the command. -/
def boundaryInputs (h : Hw) (levels : Nat) : Nat :=
  (knownBalls h).foldl (fun w p => putBit (putBit w (3 * p.1) p.2) (outputCell p.1) p.2) (levels % 2 ^ 270)

/-- Capture-DR: what the selected data register loads. -/
def tapCapture (h : Hw) (levels : Nat) : Nat :=
  if h.tap.ir = tapIdcode then idcode
  else if h.tap.ir = tapLinktest then h.tap.linkResult
  else if h.tap.ir = tapSample ∨ h.tap.ir = tapExtest then boundaryInputs h levels
  else 0

/-- What the pins do in EXTEST, CLAMP and HIGHZ. -/
def tapDrives (h : Hw) : Hw :=
  if h.tap.ir = tapExtest ∨ h.tap.ir = tapClamp then emit h (.boundary (gateGuard h.tap.boundary))
  else if h.tap.ir = tapHighz then emit h .highz
  else h

/-- An instruction of R88. -/
def tapGuarded (ir : Nat) : Bool := ir == tapExtest || ir == tapClamp || ir == tapHighz || ir == tapLinktest

/-- A guarded instruction in effect whose condition fails selects BYPASS (R88). -/
def tapRecheck (h : Hw) (still : Bool) : Hw :=
  if tapGuarded h.tap.ir ∧ !(tapGuard h still h.tap.ir) then { h with tap := { h.tap with ir := tapBypass, linkRun := false } } else h

/-- What a rising TCK does in the state it finds, before the state advances (R87). Capture-IR loads 0x01: IEEE 1149.1 fixes the two lowest bits
at 01, the rest is a choice (DESIGN CHOICE, log entry 59). -/
def tapAct (h : Hw) (still tdi : Bool) (levels : Nat) : Hw :=
  let t := h.tap
  match t.st with
  | .captureDr => { h with tap := { t with drShift := tapCapture h levels } }
  | .shiftDr => { h with tap := { t with drShift := t.drShift / 2 + tdi.toNat * 2 ^ (tapLength t.ir - 1), tdo := bitAt t.drShift 0 } }
  | .updateDr =>
    if t.ir = tapSample ∨ t.ir = tapExtest then tapDrives { h with tap := { t with boundary := t.drShift % 2 ^ 270 } } else h
  | .captureIr => { h with tap := { t with irShift := 1 } }
  | .shiftIr => { h with tap := { t with irShift := t.irShift / 2 + tdi.toNat * 128, tdo := bitAt t.irShift 0 } }
  | .updateIr => tapDrives { h with tap := { t with ir := tapSelect h still (t.irShift % 256), linkRun := false } }
  | .testLogicReset => { h with tap := { t with ir := tapIdcode, linkRun := false } }
  | .runTestIdle => if t.ir = tapLinktest then { h with tap := { t with linkRun := true } } else h
  | _ => h

/-- TAP_CLOCK (R87): one TCK period with the levels of TMS and TDI, whether the spindle is still, and the levels that the boundary cells
whose pins State does not hold see; TDO carries the
bit shifted out in the shift states. -/
def execTapClock (tms tdi still : Bool) (levels : Nat) (s : State) : Res := s.run fun h =>
  let was := h.tap.st
  let h := tapRecheck h still
  let h := tapAct h still tdi levels
  let h := { h with tap := { h.tap with st := was.next tms } }
  let h := if h.tap.st = .testLogicReset then { h with tap := { h.tap with ir := tapIdcode, linkRun := false } } else h
  if was = .shiftDr ∨ was = .shiftIr then emit h (.tdo h.tap.tdo) else h

/-- TRST_N_LOW (R87). -/
def execTrstNLow (s : State) : Res := s.run fun h =>
  { h with tap := { h.tap with st := .testLogicReset, ir := tapIdcode, linkRun := false } }

/-- Result bits that R90 lets pass: links of populated carriages, the hub-motor link, their sidebands. -/
def linkMask (h : Hw) : Nat :=
  (List.range 9).foldl (fun m l => if l = 4 ∨ populated h (if l < 4 then l else l - 5) then m + 2 ^ l else m) 0

/-- LINKTEST_DONE (R90): the links that passed and the flits tested. -/
def execLinktestDone (pass flits : Nat) (s : State) : Res := s.run fun h =>
  if h.tap.linkRun then
    { h with tap := { h.tap with linkRun := false, linkResult := (pass &&& linkMask h) % 512 + flits % 2 ^ 16 * 2 ^ 16 } }
  else h

end Sys2Proof.Machine
end

