-- ==== Sys2Proof/Machine/Dispatch.lean ====
section
/-! DEFINITION. One arm per command: a direct call of its meaning, or a refusal by name. -/
namespace Sys2Proof.Machine

def exec (i : Instr) (s : State) : Host.Outcome State Fault Refusal :=
  match i with
  | .resetInNRise prsnt => Sys2Proof.Machine.execResetInNRise prsnt s
  | .resetInNFall => Sys2Proof.Machine.execResetInNFall s
  | .strapSampling samples => Sys2Proof.Machine.execStrapSampling samples s
  | .prsntNDebouncedChange level => Sys2Proof.Machine.execPrsntNDebouncedChange level s
  | .hotRemovalAbandon => Sys2Proof.Machine.execHotRemovalAbandon s
  | .l2InvalidateDone => Sys2Proof.Machine.execL2InvalidateDone s
  | .sramEccSelfTest region pass => Sys2Proof.Machine.execSramEccSelfTest region pass s
  | .lpddr4xTrainingDone trained eccPass => Sys2Proof.Machine.execLpddr4xTrainingDone trained eccPass s
  | .imageSlotCheck slot jedecOk image => Sys2Proof.Machine.execImageSlotCheck slot jedecOk image s
  | .recoveryStart sess sigOk bodyOk => Sys2Proof.Machine.execRecoveryStart sess sigOk bodyOk s
  | .firmwareStart => Sys2Proof.Machine.execFirmwareStart s
  | .startFailure code detail => Sys2Proof.Machine.execStartFailure code detail s
  | .temperatureGateReread temp => Sys2Proof.Machine.execTemperatureGateReread temp s
  | .adminReady => Sys2Proof.Machine.execAdminReady s
  | .spindleStartGateOpen => Sys2Proof.Machine.execSpindleStartGateOpen s
  | .headLoadFailed c => Sys2Proof.Machine.execHeadLoadFailed c s
  | .firstCalibrationPass settingsGood mapGood replays checks => Sys2Proof.Machine.execFirstCalibrationPass settingsGood mapGood replays checks s
  | .mediaReady => Sys2Proof.Machine.execMediaReady s
  | .configRequest p reg write => Sys2Proof.Machine.execConfigRequest p reg write s
  | .linkFlitCrcError l toward retry => Sys2Proof.Machine.execLinkFlitCrcError l toward retry s
  | .linkDown l => Sys2Proof.Machine.execLinkDown l s
  | .linkTrained l up lat => Sys2Proof.Machine.execLinkTrained l up lat s
  | .registerWrite src a data => Sys2Proof.Machine.execRegisterWrite src a data s
  | .postedWriteAccepted src a data => Sys2Proof.Machine.execPostedWriteAccepted src a data s
  | .postedWriteLands page => Sys2Proof.Machine.execPostedWriteLands page s
  | .bridgeFarSideReady page => Sys2Proof.Machine.execBridgeFarSideReady page s
  | .misalignedAccess a write => Sys2Proof.Machine.execMisalignedAccess a write s
  | .rcFieldRead src a => Sys2Proof.Machine.execRcFieldRead src a s
  | .readObject sess u p e => Sys2Proof.Machine.execReadObject sess u p e s
  | .writeObject sess u p e ty value => Sys2Proof.Machine.execWriteObject sess u p e ty value s
  | .readEach sess u p e claim => Sys2Proof.Machine.execReadEach sess u p e claim s
  | .describe sess u p e => Sys2Proof.Machine.execDescribe sess u p e s
  | .subscribe sess u p e ty interval deadband => Sys2Proof.Machine.execSubscribe sess u p e ty interval deadband s
  | .unsubscribe sess u p e => Sys2Proof.Machine.execUnsubscribe sess u p e s
  | .blockRead sess u p e first n => Sys2Proof.Machine.execBlockRead sess u p e first n s
  | .blockWrite sess u p e first n => Sys2Proof.Machine.execBlockWrite sess u p e first n s
  | .fence sess u => Sys2Proof.Machine.execFence sess u s
  | .unfence sess u => Sys2Proof.Machine.execUnfence sess u s
  | .reInitialise sess u => Sys2Proof.Machine.execReInitialise sess u s
  | .acknowledgeFaults sess u => Sys2Proof.Machine.execAcknowledgeFaults sess u s
  | .powerStateRequest sess u x => Sys2Proof.Machine.execPowerStateRequest sess u x s
  | .faultForce sess u mask => Sys2Proof.Machine.execFaultForce sess u mask s
  | .deviceResetRequest sess x => Sys2Proof.Machine.execDeviceResetRequest sess x s
  | .sessionRoleWrite sess role => Sys2Proof.Machine.execSessionRoleWrite sess role s
  | .challengeRead sess half => Sys2Proof.Machine.execChallengeRead sess half s
  | .responseWrite sess half x => Sys2Proof.Machine.execResponseWrite sess half x s
  | .challengeExpiry sess => Sys2Proof.Machine.execChallengeExpiry sess s
  | .challengeLockoutEnd sess => Sys2Proof.Machine.execChallengeLockoutEnd sess s
  | .sessionFallback sess => Sys2Proof.Machine.execSessionFallback sess s
  | .settingsCommit sess verified => Sys2Proof.Machine.execSettingsCommit sess verified s
  | .settingsRevert sess => Sys2Proof.Machine.execSettingsRevert sess s
  | .notificationCycle => Sys2Proof.Machine.execNotificationCycle s
  | .notificationRetry sess seq => Sys2Proof.Machine.execNotificationRetry sess seq s
  | .quablinkRequest src seq count body => Sys2Proof.Machine.execQuablinkRequest src seq count body s
  | .notificationAcknowledge sess seq => Sys2Proof.Machine.execNotificationAcknowledge sess seq s
  | .beacon src minute until_ e => Sys2Proof.Machine.execBeacon src minute until_ e s
  | .alertAcknowledge src seq => Sys2Proof.Machine.execAlertAcknowledge src seq s
  | .windowDataRequest src seq count sect dir offset wlen clean data => Sys2Proof.Machine.execWindowDataRequest src seq count sect dir offset wlen clean data s
  | .ignoredFrame dest etherType payload => Sys2Proof.Machine.execIgnoredFrame dest etherType payload s
  | .plcaSettingTakesEffect => Sys2Proof.Machine.execPlcaSettingTakesEffect s
  | .plcaBeaconLoss => Sys2Proof.Machine.execPlcaBeaconLoss s
  | .alertRaised code detail => Sys2Proof.Machine.execAlertRaised code detail s
  | .alertRepeat seq => Sys2Proof.Machine.execAlertRepeat seq s
  | .managementPortResume => Sys2Proof.Machine.execManagementPortResume s
  | .syncHoldover => Sys2Proof.Machine.execSyncHoldover s
  | .minuteBoundary => Sys2Proof.Machine.execMinuteBoundary s
  | .claim sess mask => Sys2Proof.Machine.execClaim sess mask s
  | .release sess => Sys2Proof.Machine.execRelease sess s
  | .sectionCleared n => Sys2Proof.Machine.execSectionCleared n s
  | .leaseExpiry n => Sys2Proof.Machine.execLeaseExpiry n s
  | .bar2WindowAccess p o n requester write data => Sys2Proof.Machine.execBar2WindowAccess p o n requester write data s
  | .mailboxGo p => Sys2Proof.Machine.execMailboxGo p s
  | .notificationRingEnable p data => Sys2Proof.Machine.execNotificationRingEnable p data s
  | .paSifCmdWrite c data => Sys2Proof.Machine.execPaSifCmdWrite c data s
  | .preampFrameDone c ack rdata parityOk => Sys2Proof.Machine.execPreampFrameDone c ack rdata parityOk s
  | .preampFault c => Sys2Proof.Machine.execPreampFault c s
  | .calibrationWriteHold c => Sys2Proof.Machine.execCalibrationWriteHold c s
  | .calibrationHoldRelease c => Sys2Proof.Machine.execCalibrationHoldRelease c s
  | .calibrationStepStart c write ms => Sys2Proof.Machine.execCalibrationStepStart c write ms s
  | .sectorStart c hd group zbp seed mode write buf cuts signal => Sys2Proof.Machine.execSectorStart c hd group zbp seed mode write buf cuts signal s
  | .servoGateRise c => Sys2Proof.Machine.execServoGateRise c s
  | .servoAddressMark c bc => Sys2Proof.Machine.execServoAddressMark c bc s
  | .thermalAsperity c => Sys2Proof.Machine.execThermalAsperity c s
  | .timingSlip c => Sys2Proof.Machine.execTimingSlip c s
  | .codewordDecoded c ix => Sys2Proof.Machine.execCodewordDecoded c ix s
  | .decoderQueueOverflow c => Sys2Proof.Machine.execDecoderQueueOverflow c s
  | .bufferRetry c => Sys2Proof.Machine.execBufferRetry c s
  | .verifyReport c => Sys2Proof.Machine.execVerifyReport c s
  | .adapterUpdate c => Sys2Proof.Machine.execAdapterUpdate c s
  | .activeAdaptationRequest c hd z => Sys2Proof.Machine.execActiveAdaptationRequest c hd z s
  | .areqClear c => Sys2Proof.Machine.execAreqClear c s
  | .chTaddrWrite c data => Sys2Proof.Machine.execChTaddrWrite c data s
  | .coefficientCommit c data => Sys2Proof.Machine.execCoefficientCommit c data s
  | .chTdataAccess c write data => Sys2Proof.Machine.execChTdataAccess c write data s
  | .channelReinitialise c frontEnd => Sys2Proof.Machine.execChannelReinitialise c frontEnd s
  | .markMiss c => Sys2Proof.Machine.execMarkMiss c s
  | .markMissLimit c => Sys2Proof.Machine.execMarkMissLimit c s
  | .readRevolutionRetry c => Sys2Proof.Machine.execReadRevolutionRetry c s
  | .reassign c ok => Sys2Proof.Machine.execReassign c ok s
  | .writeUnsafe c => Sys2Proof.Machine.execWriteUnsafe c s
  | .homeRewrite c ok => Sys2Proof.Machine.execHomeRewrite c ok s
  | .landingFull c => Sys2Proof.Machine.execLandingFull c s
  | .poolEmpty c => Sys2Proof.Machine.execPoolEmpty c s
  | .landingCheckpoint c ok => Sys2Proof.Machine.execLandingCheckpoint c ok s
  | .powerLossSectorEnd c => Sys2Proof.Machine.execPowerLossSectorEnd c s
  | .controlStoreCopyDone c => Sys2Proof.Machine.execControlStoreCopyDone c s
  | .fmRqpush c => Sys2Proof.Machine.execFmRqpush c s
  | .engineRequestPush c opc tag w1 w2 w3 => Sys2Proof.Machine.execEngineRequestPush c opc tag w1 w2 w3 s
  | .routineStart c => Sys2Proof.Machine.execRoutineStart c s
  | .microword c => Sys2Proof.Machine.execMicroword c s
  | .waitConditionMet c => Sys2Proof.Machine.execWaitConditionMet c s
  | .sqPush c => Sys2Proof.Machine.execSqPush c s
  | .sif c v => Sys2Proof.Machine.execSif c v s
  | .rptTake c => Sys2Proof.Machine.execRptTake c s
  | .sqFlush c => Sys2Proof.Machine.execSqFlush c s
  | .reqDone c status => Sys2Proof.Machine.execReqDone c status s
  | .sect c v => Sys2Proof.Machine.execSect c v s
  | .fwIrq c v => Sys2Proof.Machine.execFwIrq c v s
  | .seek c hd track => Sys2Proof.Machine.execSeek c hd track s
  | .defadd c => Sys2Proof.Machine.execDefadd c s
  | .lidx c seq => Sys2Proof.Machine.execLidx c seq s
  | .halt c => Sys2Proof.Machine.execHalt c s
  | .iret c => Sys2Proof.Machine.execIret c s
  | .safePointOverrun c => Sys2Proof.Machine.execSafePointOverrun c s
  | .formatterInterruptTaken c => Sys2Proof.Machine.execFormatterInterruptTaken c s
  | .formatterAbort c tag => Sys2Proof.Machine.execFormatterAbort c tag s
  | .fwreq c => Sys2Proof.Machine.execFwreq c s
  | .runClear c => Sys2Proof.Machine.execRunClear c s
  | .patchLoadStart c => Sys2Proof.Machine.execPatchLoadStart c s
  | .patchLoadDone c readable => Sys2Proof.Machine.execPatchLoadDone c readable s
  | .descriptorStart c signal => Sys2Proof.Machine.execDescriptorStart c signal s
  | .descriptorReport c => Sys2Proof.Machine.execDescriptorReport c s
  | .landingRunClose c n => Sys2Proof.Machine.execLandingRunClose c n s
  | .stuPowerLoss c => Sys2Proof.Machine.execStuPowerLoss c s
  | .formatterReinitialise c => Sys2Proof.Machine.execFormatterReinitialise c s
  | .servoSample c w => Sys2Proof.Machine.execServoSample c w s
  | .wedgeLock c => Sys2Proof.Machine.execWedgeLock c s
  | .lockLost c => Sys2Proof.Machine.execLockLost c s
  | .coastTimeout c => Sys2Proof.Machine.execCoastTimeout c s
  | .svSeekWrite c data => Sys2Proof.Machine.execSvSeekWrite c data s
  | .seekStart c => Sys2Proof.Machine.execSeekStart c s
  | .handover c age => Sys2Proof.Machine.execHandover c age s
  | .ontrk c => Sys2Proof.Machine.execOntrk c s
  | .seekFail c => Sys2Proof.Machine.execSeekFail c s
  | .headSwitch c => Sys2Proof.Machine.execHeadSwitch c s
  | .bankSwap c => Sys2Proof.Machine.execBankSwap c s
  | .svBankCommit c data => Sys2Proof.Machine.execSvBankCommit c data s
  | .rcRevolution c => Sys2Proof.Machine.execRcRevolution c s
  | .rcCommit c => Sys2Proof.Machine.execRcCommit c s
  | .bandLawBlock c hd => Sys2Proof.Machine.execBandLawBlock c hd s
  | .readClearanceStep c hd => Sys2Proof.Machine.execReadClearanceStep c hd s
  | .bandApply c hd => Sys2Proof.Machine.execBandApply c hd s
  | .servoEnable c => Sys2Proof.Machine.execServoEnable c s
  | .servoReinitialise c => Sys2Proof.Machine.execServoReinitialise c s
  | .controlPeriod u1 u2 v1 v2 v12 v5 => Sys2Proof.Machine.execControlPeriod u1 u2 v1 v2 v12 v5 s
  | .observerEvaluation => Sys2Proof.Machine.execObserverEvaluation s
  | .speedLoop => Sys2Proof.Machine.execSpeedLoop s
  | .busyReport c => Sys2Proof.Machine.execBusyReport c s
  | .demandGovernor => Sys2Proof.Machine.execDemandGovernor s
  | .spindleStart => Sys2Proof.Machine.execSpindleStart s
  | .spindleStop => Sys2Proof.Machine.execSpindleStop s
  | .spindleCoast => Sys2Proof.Machine.execSpindleCoast s
  | .measuringEnd crossings => Sys2Proof.Machine.execMeasuringEnd crossings s
  | .alignmentEnd => Sys2Proof.Machine.execAlignmentEnd s
  | .openLoopSpeedReached => Sys2Proof.Machine.execOpenLoopSpeedReached s
  | .startAttemptFail => Sys2Proof.Machine.execStartAttemptFail s
  | .atSpeed => Sys2Proof.Machine.execAtSpeed s
  | .brakingEnd => Sys2Proof.Machine.execBrakingEnd s
  | .coastToStopped => Sys2Proof.Machine.execCoastToStopped s
  | .spindleResetCheck crossing => Sys2Proof.Machine.execSpindleResetCheck crossing s
  | .wedgeFallback => Sys2Proof.Machine.execWedgeFallback s
  | .reCatch crossings => Sys2Proof.Machine.execReCatch crossings s
  | .reCatchFail crossings => Sys2Proof.Machine.execReCatchFail crossings s
  | .ecalStart c => Sys2Proof.Machine.execEcalStart c s
  | .ecalEnd c => Sys2Proof.Machine.execEcalEnd c s
  | .powerLoss v12 v5 => Sys2Proof.Machine.execPowerLoss v12 v5 s
  | .holdUpEnd => Sys2Proof.Machine.execHoldUpEnd s
  | .supplyReturn v12 v5 => Sys2Proof.Machine.execSupplyReturn v12 v5 s
  | .overcurrent => Sys2Proof.Machine.execOvercurrent s
  | .busOvervoltage v12 => Sys2Proof.Machine.execBusOvervoltage v12 s
  | .actuatorMessage c vcm ma wedge elph age period flags sensed => Sys2Proof.Machine.execActuatorMessage c vcm ma wedge elph age period flags sensed s
  | .currentMismatch c => Sys2Proof.Machine.execCurrentMismatch c s
  | .sidebandTimeout c => Sys2Proof.Machine.execSidebandTimeout c s
  | .holdingTimeout c => Sys2Proof.Machine.execHoldingTimeout c s
  | .load c => Sys2Proof.Machine.execLoad c s
  | .unload c => Sys2Proof.Machine.execUnload c s
  | .retract c => Sys2Proof.Machine.execRetract c s
  | .profilePhaseEnd c => Sys2Proof.Machine.execProfilePhaseEnd c s
  | .loadTimeout c => Sys2Proof.Machine.execLoadTimeout c s
  | .perst p kind => Sys2Proof.Machine.execPerst p kind s
  | .functionLevelReset p => Sys2Proof.Machine.execFunctionLevelReset p s
  | .controllerDisable p => Sys2Proof.Machine.execControllerDisable p s
  | .controllerEnable p asqs acqs => Sys2Proof.Machine.execControllerEnable p asqs acqs s
  | .shutdown p => Sys2Proof.Machine.execShutdown p s
  | .commandFetch p sq waiting entry => Sys2Proof.Machine.execCommandFetch p sq waiting entry s
  | .deleteIoSq p cid qid => Sys2Proof.Machine.execDeleteIoSq p cid qid s
  | .createIoSq p cid qid size cqid => Sys2Proof.Machine.execCreateIoSq p cid qid size cqid s
  | .deleteIoCq p cid qid => Sys2Proof.Machine.execDeleteIoCq p cid qid s
  | .createIoCq p cid qid size vector ien => Sys2Proof.Machine.execCreateIoCq p cid qid size vector ien s
  | .getLogPage p cid lid nsid off len => Sys2Proof.Machine.execGetLogPage p cid lid nsid off len s
  | .identify p cid cns nsid cntid => Sys2Proof.Machine.execIdentify p cid cns nsid cntid s
  | .abort p cid sq tcid => Sys2Proof.Machine.execAbort p cid sq tcid s
  | .setFeatures p cid fid nsid value table => Sys2Proof.Machine.execSetFeatures p cid fid nsid value table s
  | .getFeatures p cid fid nsid sel => Sys2Proof.Machine.execGetFeatures p cid fid nsid sel s
  | .asynchronousEventRequest p cid => Sys2Proof.Machine.execAsynchronousEventRequest p cid s
  | .namespaceManagement p cid sel nsid nsze ncap fmt pi mset' pil => Sys2Proof.Machine.execNamespaceManagement p cid sel nsid nsze ncap fmt pi mset' pil s
  | .namespaceAttachment p cid sel nsid ctrls => Sys2Proof.Machine.execNamespaceAttachment p cid sel nsid ctrls s
  | .formatNvm p cid nsid fmt pi ses mset' pil => Sys2Proof.Machine.execFormatNvm p cid nsid fmt pi ses mset' pil s
  | .sanitize p cid sanact ause owpass oipbp ovrpat => Sys2Proof.Machine.execSanitize p cid sanact ause owpass oipbp ovrpat s
  | .twinPair p cid page => Sys2Proof.Machine.execTwinPair p cid page s
  | .twinIdentify p cid => Sys2Proof.Machine.execTwinIdentify p cid s
  | .twinUnpair p cid => Sys2Proof.Machine.execTwinUnpair p cid s
  | .twinResilver p cid cdw10 peerSolow peerDivergent => Sys2Proof.Machine.execTwinResilver p cid cdw10 peerSolow peerDivergent s
  | .flush slot => Sys2Proof.Machine.execFlush slot s
  | .writeCommand slot blocks metas failed => Sys2Proof.Machine.execWriteCommand slot blocks metas failed s
  | .readCommand slot bad => Sys2Proof.Machine.execReadCommand slot bad s
  | .writeZeroes slot => Sys2Proof.Machine.execWriteZeroes slot s
  | .verifyCommand slot bad => Sys2Proof.Machine.execVerifyCommand slot bad s
  | .reservationRegister slot rrega iekey crkey nrkey cptpl => Sys2Proof.Machine.execReservationRegister slot rrega iekey crkey nrkey cptpl s
  | .reservationReport slot numd => Sys2Proof.Machine.execReservationReport slot numd s
  | .reservationAcquire slot racqa iekey crkey prkey rtype => Sys2Proof.Machine.execReservationAcquire slot racqa iekey crkey prkey rtype s
  | .reservationRelease slot rrela iekey crkey rtype => Sys2Proof.Machine.execReservationRelease slot rrela iekey crkey rtype s
  | .pagesAllocated => Sys2Proof.Machine.execPagesAllocated s
  | .pagesFreed slot => Sys2Proof.Machine.execPagesFreed slot s
  | .pieceOnMedium slot ix err => Sys2Proof.Machine.execPieceOnMedium slot ix err s
  | .completionCommit slot failed => Sys2Proof.Machine.execCompletionCommit slot failed s
  | .completionPost p cq head => Sys2Proof.Machine.execCompletionPost p cq head s
  | .orderRelease slot => Sys2Proof.Machine.execOrderRelease slot s
  | .fenceDuringExecution => Sys2Proof.Machine.execFenceDuringExecution s
  | .extentMapChange c => Sys2Proof.Machine.execExtentMapChange c s
  | .destage c seq bad us => Sys2Proof.Machine.execDestage c seq bad us s
  | .landingWrite slot ix fails gap => Sys2Proof.Machine.execLandingWrite slot ix fails gap s
  | .replay c readable => Sys2Proof.Machine.execReplay c readable s
  | .formatSanitizeResume => Sys2Proof.Machine.execFormatSanitizeResume s
  | .apstIdleTimeout p => Sys2Proof.Machine.execApstIdleTimeout p s
  | .noReadyControllerTimeout => Sys2Proof.Machine.execNoReadyControllerTimeout s
  | .powerStateExitOnIo p => Sys2Proof.Machine.execPowerStateExitOnIo p s
  | .operationalStateChange => Sys2Proof.Machine.execOperationalStateChange s
  | .lowPowerTransitionBegin => Sys2Proof.Machine.execLowPowerTransitionBegin s
  | .pwPscmdGo data => Sys2Proof.Machine.execPwPscmdGo data s
  | .domainPowerDown d => Sys2Proof.Machine.execDomainPowerDown d s
  | .domainPowerUp d => Sys2Proof.Machine.execDomainPowerUp d s
  | .dmCtrlStart n byEngine => Sys2Proof.Machine.execDmCtrlStart n byEngine s
  | .dmCtrlResume n byEngine => Sys2Proof.Machine.execDmCtrlResume n byEngine s
  | .dmCtrlStop n byEngine => Sys2Proof.Machine.execDmCtrlStop n byEngine s
  | .dmBell data => Sys2Proof.Machine.execDmBell data s
  | .cartStart n => Sys2Proof.Machine.execCartStart n s
  | .dmaBeat n => Sys2Proof.Machine.execDmaBeat n s
  | .cartEnd n => Sys2Proof.Machine.execCartEnd n s
  | .dmaRecordWrite n => Sys2Proof.Machine.execDmaRecordWrite n s
  | .dmaBusError n st a => Sys2Proof.Machine.execDmaBusError n st a s
  | .dmaHaltClear => Sys2Proof.Machine.execDmaHaltClear s
  | .dmRqcfgWrite n data byEngine => Sys2Proof.Machine.execDmRqcfgWrite n data byEngine s
  | .dmaChannelReinitialise ch => Sys2Proof.Machine.execDmaChannelReinitialise ch s
  | .memoryCorrectableError u region => Sys2Proof.Machine.execMemoryCorrectableError u region s
  | .memoryUncorrectableError a group => Sys2Proof.Machine.execMemoryUncorrectableError a group s
  | .bucketLeak => Sys2Proof.Machine.execBucketLeak s
  | .scrub errors bad => Sys2Proof.Machine.execScrub errors bad s
  | .mr4Read die rate hot => Sys2Proof.Machine.execMr4Read die rate hot s
  | .ownershipViolation slot a => Sys2Proof.Machine.execOwnershipViolation slot a s
  | .coreRelease data => Sys2Proof.Machine.execCoreRelease data s
  | .cboClean k a => Sys2Proof.Machine.execCboClean k a s
  | .cboInval k a => Sys2Proof.Machine.execCboInval k a s
  | .cboFlush k a => Sys2Proof.Machine.execCboFlush k a s
  | .ccMopClean data => Sys2Proof.Machine.execCcMopClean data s
  | .ccMopInvalidate data => Sys2Proof.Machine.execCcMopInvalidate data s
  | .ccMopFlush data => Sys2Proof.Machine.execCcMopFlush data s
  | .cacheOperationDone => Sys2Proof.Machine.execCacheOperationDone s
  | .ccWlockWrite data => Sys2Proof.Machine.execCcWlockWrite data s
  | .l2MissFill k a kind size fill bytes cycles => Sys2Proof.Machine.execL2MissFill k a kind size fill bytes cycles s
  | .l2UncorrectableError k a kind tag => Sys2Proof.Machine.execL2UncorrectableError k a kind tag s
  | .coreAccessFault k a kind size bad => Sys2Proof.Machine.execCoreAccessFault k a kind size bad s
  | .interruptSourceChange n level => Sys2Proof.Machine.execInterruptSourceChange n level s
  | .timerCompare k => Sys2Proof.Machine.execTimerCompare k s
  | .coreReinitialise k => Sys2Proof.Machine.execCoreReinitialise k s
  | .l2ResetInvalidate => Sys2Proof.Machine.execL2ResetInvalidate s
  | .keyDerivation n kgen agree => Sys2Proof.Machine.execKeyDerivation n kgen agree s
  | .dataUnitCipher slot ix => Sys2Proof.Machine.execDataUnitCipher slot ix s
  | .cipherMismatch slot ix => Sys2Proof.Machine.execCipherMismatch slot ix s
  | .generationMove n units => Sys2Proof.Machine.execGenerationMove n units s
  | .reservationMarkRaise n units => Sys2Proof.Machine.execReservationMarkRaise n units s
  | .hallWriteDone ok => Sys2Proof.Machine.execHallWriteDone ok s
  | .rekeyStart c => Sys2Proof.Machine.execRekeyStart c s
  | .rekeyChunk c fails gap => Sys2Proof.Machine.execRekeyChunk c fails gap s
  | .rekeyEnd c => Sys2Proof.Machine.execRekeyEnd c s
  | .epochAdvance n => Sys2Proof.Machine.execEpochAdvance n s
  | .roleKeyInstall sess custodian first => Sys2Proof.Machine.execRoleKeyInstall sess custodian first s
  | .powerLossBank => Sys2Proof.Machine.execPowerLossBank s
  | .twinPad => Sys2Proof.Machine.execTwinPad s
  | .twinHello f requester => Sys2Proof.Machine.execTwinHello f requester s
  | .twinConfirm f => Sys2Proof.Machine.execTwinConfirm f s
  | .twinWriteMessage f => Sys2Proof.Machine.execTwinWriteMessage f s
  | .twinAck f => Sys2Proof.Machine.execTwinAck f s
  | .twinStateMessage f => Sys2Proof.Machine.execTwinStateMessage f s
  | .twinLedgerMessage f => Sys2Proof.Machine.execTwinLedgerMessage f s
  | .twinChunkMessage f => Sys2Proof.Machine.execTwinChunkMessage f s
  | .twinUnpairMessage f => Sys2Proof.Machine.execTwinUnpairMessage f s
  | .twinBeat => Sys2Proof.Machine.execTwinBeat s
  | .helloResend => Sys2Proof.Machine.execHelloResend s
  | .pairingTimeout => Sys2Proof.Machine.execPairingTimeout s
  | .partnerLost cause => Sys2Proof.Machine.execPartnerLost cause s
  | .unsettledListLeave e => Sys2Proof.Machine.execUnsettledListLeave e s
  | .startupHelloWaitEnd => Sys2Proof.Machine.execStartupHelloWaitEnd s
  | .resilverChunkSend e => Sys2Proof.Machine.execResilverChunkSend e s
  | .faultDetected u k persists => Sys2Proof.Machine.execFaultDetected u k persists s
  | .thHbeatWrite key => Sys2Proof.Machine.execThHbeatWrite key s
  | .heartbeatMiss => Sys2Proof.Machine.execHeartbeatMiss s
  | .aliveStop => Sys2Proof.Machine.execAliveStop s
  | .temperatureReading die raw => Sys2Proof.Machine.execTemperatureReading die raw s
  | .sensorBroken die => Sys2Proof.Machine.execSensorBroken die s
  | .thermalShutdownEnd die => Sys2Proof.Machine.execThermalShutdownEnd die s
  | .hardwareTrip die => Sys2Proof.Machine.execHardwareTrip die s
  | .tripHoldUpEnd => Sys2Proof.Machine.execTripHoldUpEnd s
  | .tripRecovery die => Sys2Proof.Machine.execTripRecovery die s
  | .thForceWrite die source data => Sys2Proof.Machine.execThForceWrite die source data s
  | .recordRaised u code severity detail => Sys2Proof.Machine.execRecordRaised u code severity detail s
  | .recordStore => Sys2Proof.Machine.execRecordStore s
  | .recordsLost => Sys2Proof.Machine.execRecordsLost s
  | .operatingTimeSave => Sys2Proof.Machine.execOperatingTimeSave s
  | .evRselWrite data => Sys2Proof.Machine.execEvRselWrite data s
  | .evFwcodeWrite data => Sys2Proof.Machine.execEvFwcodeWrite data s
  | .evPslotGo data => Sys2Proof.Machine.execEvPslotGo data s
  | .clear sess tag => Sys2Proof.Machine.execClear sess tag s
  | .clearDone => Sys2Proof.Machine.execClearDone s
  | .powerLossFlush => Sys2Proof.Machine.execPowerLossFlush s
  | .deviceReset cause u => Sys2Proof.Machine.execDeviceReset cause u s
  | .deviceResetRelease => Sys2Proof.Machine.execDeviceResetRelease s
  | .reinitialiseComplete u ok => Sys2Proof.Machine.execReinitialiseComplete u ok s
  | .strapPinChange live => Sys2Proof.Machine.execStrapPinChange live s
  | .tapClock tms tdi still levels => Sys2Proof.Machine.execTapClock tms tdi still levels s
  | .trstNLow => Sys2Proof.Machine.execTrstNLow s
  | .linktestDone pass flits => Sys2Proof.Machine.execLinktestDone pass flits s
  | .hxPerstNRise p => Sys2Proof.Machine.execHxPerstNRise p s
  | .pcieLinkUp p speed width reversed => Sys2Proof.Machine.execPcieLinkUp p speed width reversed s
  | .plcaBeaconSeen => Sys2Proof.Machine.execPlcaBeaconSeen s
  | .transmitOpportunity => Sys2Proof.Machine.execTransmitOpportunity s
  | .pairRecordWrite => Sys2Proof.Machine.execPairRecordWrite s

end Sys2Proof.Machine
end

