-- ==== Sys2Proof/Machine/Tick.lean ====
section
/-! DEFINITION. One millisecond of the block's own clocks, which is what a step does when no command waits (log entry 1): operating
time, CC_MTIME, the calibration windows, the ALIVE wave, instructions retired, carriage-busy time (R46, R49, R507, R530, R555, R595,
R611). -/
namespace Sys2Proof.Machine

/-- Operating time advances while RESET_IN_N is high (R611). -/
def tickOptime (h : Hw) : Hw := if h.pins.resetIn then onLog h (fun l => { l with optime := (l.optime + 1) % 2 ^ 44 }) else h

/-- CC_MTIME counts 25 MHz (R530). -/
def tickMtime (h : Hw) : Hw := onCluster h (fun k => { k with mtime := (k.mtime + 25000) % 2 ^ 64 })

/-- The half of the ALIVE wave (R595). -/
def tickAlive (h : Hw) : Hw :=
  onIsland h (fun i => { i with aliveHalf := (match i.alive with | .toggling => !i.aliveHalf | _ => false) })

/-- A running core has retired a number of instructions that the spec does not give (R507). -/
def tickCore (h : Hw) (k : Nat) : Hw :=
  if (h.cores.get k).running then
    drawn (onCore h k (fun c => { c with minstret := (c.minstret + Config.freeNat h.freeCtr) % 2 ^ 64 }))
  else h

/-- The namespace whose request carriage `c` runs: that of the oldest command of a host with a piece under way there (R555). -/
def busyFor (h : Hw) (c : Nat) : Option Nat :=
  (h.engine.cmds.find? (fun x => x.source == .host && x.pieces.any (fun p => p.st == .started && (extent h p.entry).car == c))).map (fun x => x.nsid)

/-- BUSY[c] rises by the microseconds of a millisecond (R555). -/
def tickBusy (h : Hw) (c : Nat) : Hw :=
  match busyFor h c with
  | some n => onLedger h n (addBusy c 1000)
  | none => h

/-- Idle time of a controller, and of both while neither is ready (R469). -/
def tickIdle (h : Hw) (p : Nat) : Hw :=
  let busy := h.engine.cmds.any (fun c => c.port == p && c.source == .host)
  onPort h p (fun x => { x with idle := if busy then 0 else x.idle + 1 })
def tickUnready (h : Hw) : Hw :=
  onEngine h (fun g => { g with unready := if h.portA.rdy || h.portB.rdy then 0 else g.unready + 1 })

/-- At each whole hour of operating time firmware saves the sets and tables of the carriages whose heads are loaded (R237, R357, log entry 92). -/
def tickSave (h : Hw) : Hw :=
  if h.log.optime % 3600000 = 0 then
    saveWork h ([0, 1, 2, 3].filter (fun c => !(carFenced h c) && decide (2 ≤ getF h AC_STAT_STATE (inst c) ∧ getF h AC_STAT_STATE (inst c) ≤ 3)))
  else h

/-- One millisecond. -/
def tick (h : Hw) (v : Vault) : Hw :=
  let h := tickSave (tickAlive (tickMtime (tickOptime { h with out := [] })))
  let h := [0, 1, 2, 3].foldl (calTick h.log.optime) h
  let h := [0, 1, 2, 3].foldl tickCore h
  let h := tickUnready ([0, 1].foldl tickIdle h)
  advanceBlocks (takeGo ([0, 1, 2, 3].foldl (fun h c => tickWindow (tickBusy h c) c) h)) v

end Sys2Proof.Machine
end

