-- ==== Sys2Proof/Machine/Step.lean ====
section
/-! DEFINITION. The step: the command at the front of the queue, or a millisecond of the block's own clocks. -/
namespace Sys2Proof.Machine

/-- Take the command at the front of the queue and answer its outcome with the queue's rest; an empty queue lets one millisecond pass
(log entry 1). -/
def step (s : State) : Host.Outcome State Fault Refusal :=
  match s.pending with
  | [] => .next { s with hw := tick s.hw s.vault }
  | i :: rest => exec i { s with pending := rest }

/-- `s` with the command that a word spells at the front of its queue; unchanged where the word spells none. -/
def State.withFetchWord (s : State) (nbits w : Nat) : State :=
  match decodeTableWord nbits w with
  | some i => { s with pending := i :: s.pending }
  | none => s

end Sys2Proof.Machine
end

