-- ==== Sys2Proof/Safety.lean ====
section
/-! DEFINITION. What counts as a safe run: the Halls never pass their reservation marks, memory keeps its canonical form, and which
commands may touch either. -/
namespace Sys2Proof.Machine

/-- The Hall that a change leaves when it takes effect: within one generation USED is the present one (R545). -/
def afterTaking (now x : Hall) : Hall := { x with used := if x.epoch = now.epoch ∧ x.wgen = now.wgen then now.used else x.used }

/-- A Hall and every change of it still to be written keep USED within RESV (R545). -/
def hallChain (x : Hall) : List Hall → Bool
  | [] => decide (x.used ≤ x.resv)
  | y :: l => decide (x.used ≤ x.resv) && hallChain (afterTaking x y) l

/-- The changes of namespace `n`'s Hall that wait for their copy, oldest first. -/
def duesOf (v : Vault) (n : Nat) : List Hall := (v.due.filter (fun d => d.1 == n)).map (fun d => d.2)

/-- No Hall has used more data units than its durable mark reserves, now or once the changes asked for take effect (R545): no data unit
of a generation is enciphered that a restart would not count. -/
def HallsBounded (s : State) : Prop := ∀ n, hallChain (hall s.vault n) (duesOf s.vault n) = true

/-- Memory lists its cells in rising order and none that reads as an unlisted one. -/
def MemoryCanonical (s : State) : Prop := Memory.wf s.hw.mem = true

/-- The commands that may change a Hall or ask for a change of one (R543-R547, R550, R553): resets, the commands of a namespace's life, the cipher
engine's own work, and the twin messages that carry them. -/
def mayChangeHalls : Instr → Bool
  | .resetInNRise _ => true
  | .deviceResetRelease => true
  | .namespaceManagement .. => true
  | .formatSanitizeResume .. => true
  | .dataUnitCipher _ _ => true
  | .generationMove _ _ => true
  | .reservationMarkRaise _ _ => true
  | .hallWriteDone _ => true
  | .rekeyStart _ => true
  | .epochAdvance _ => true
  | .twinHello .. => true
  | .twinConfirm _ => true
  | .twinStateMessage .. => true
  | _ => false

/-- The commands that may change a byte of addressed memory (R161, R186, R189, R472, R500, R513): register accesses, which may land a write that
starts work of its own; dictionary writes and reads, which wait for such a write, and the bulk window; the text of a read sector; DMA; the second-level cache; training and resets. -/
def mayChangeMemory : Instr → Bool
  | .resetInNRise _ => true
  | .deviceResetRelease => true
  | .lpddr4xTrainingDone .. => true
  | .imageSlotCheck .. => true
  | .recoveryStart .. => true
  | .firstCalibrationPass .. => true
  | .registerWrite .. => true
  | .postedWriteAccepted .. => true
  | .postedWriteLands .. => true
  | .rcFieldRead .. => true
  | .readObject .. => true
  | .writeObject .. => true
  | .readEach .. => true
  | .fence .. => true
  | .unfence .. => true
  | .reInitialise .. => true
  | .acknowledgeFaults .. => true
  | .powerStateRequest .. => true
  | .faultForce .. => true
  | .deviceResetRequest .. => true
  | .sessionRoleWrite .. => true
  | .challengeRead .. => true
  | .responseWrite .. => true
  | .settingsRevert .. => true
  | .quablinkRequest .. => true
  | .windowDataRequest .. => true
  | .claim .. => true
  | .release .. => true
  | .sectionCleared .. => true
  | .bar2WindowAccess .. => true
  | .mailboxGo .. => true
  | .powerStateExitOnIo .. => true
  | .pwPscmdGo .. => true
  | .domainPowerDown .. => true
  | .descriptorReport .. => true
  | .dmaBeat .. => true
  | .dmaRecordWrite .. => true
  | .cboClean .. => true
  | .cboInval .. => true
  | .cboFlush .. => true
  | .ccMopClean .. => true
  | .ccMopInvalidate .. => true
  | .ccMopFlush .. => true
  | .l2MissFill .. => true
  | .l2UncorrectableError .. => true
  | .roleKeyInstall .. => true
  | .clear .. => true
  | _ => false

end Sys2Proof.Machine
end

