-- ==== Sys2Proof/Certificates/Slice0/Obligations.lean ====
section
/-! DEFINITION. The statements for the provers: where every command completes and what it leaves, and the rules of the spec that say what the
block does. -/
open Sys2Proof Sys2Proof.Machine

/-- RESET_IN_N, the straps, PRSNT_N and the checks of the boot ROM (R91, R66, R73, R65, R121, R102, R103, R104): where each event completes,
and what it leaves. -/
def Obligations.StartEventsComplete : Prop :=
  (∀ (p : Bool) (s : State), s.hw.pins.resetIn = false → ∃ t, exec (.resetInNRise p) s = .next t ∧ t.hw.pins.resetIn = true ∧
     t.hw.pins.prsnt = p ∧ getF t.hw PW_RSN_KIND 0 = p.toNat ∧ t.hw.mem = [] ∧ t.hw.fences = [] ∧ t.hw.boot.mediaMs = 0 ∧
     t.vault = s.vault.restart ∧ t.pending = s.pending) ∧
  (∀ (s : State), s.hw.pins.resetIn = true → ∃ t, exec .resetInNFall s = .next t ∧ t.hw.pins.resetIn = false ∧
     t.hw.island.alive = Alive.notStarted ∧ getF t.hw PW_BOOT_STAGE 0 = 0 ∧ t.hw.engine.cmds = [] ∧ t.vault = s.vault ∧
     t.pending = s.pending) ∧
  (∀ (samples : List Nat) (s : State), s.hw.pins.resetIn = true → s.hw.pins.sampled = false → samples.length = 8 →
     ∃ t, exec (.strapSampling samples) s = .next t ∧ t.hw.pins.sampled = true ∧
     t.hw.pins.strap = (strapAgree (samples.map (fun w => w % 2 ^ 22))).1 ∧ t.vault = s.vault ∧ t.pending = s.pending) ∧
  (∀ (level : Bool) (s : State), level ≠ s.hw.pins.prsntDebounced → ∃ t, exec (.prsntNDebouncedChange level) s = .next t ∧
     t.hw.pins.prsntDebounced = level ∧ getF t.hw PW_BOOT_MATED 0 = (!level).toNat ∧ t.hw.mem = s.hw.mem ∧ t.vault = s.vault ∧
     t.pending = s.pending) ∧
  (∀ (s : State), s.hw.boot.removal = .draining → drained s.hw = true → ∃ t, exec .hotRemovalAbandon s = .next t ∧
     t.hw.boot.removal = Removal.unloading ∧ t.hw.boot.drainAt = none ∧ t.hw.engine.cmds = s.hw.engine.cmds.filter onMedium ∧
     (∀ c ∈ List.range 4, populated s.hw c = true → acState s.hw c = 2 ∨ acState s.hw c = 3 → acState t.hw c = 4) ∧ t.hw.mem = s.hw.mem ∧
     t.vault = s.vault ∧ t.pending = s.pending) ∧
  (∀ (s : State), s.hw.boot.removal = .none → drained s.hw = true → ∃ t, exec .hotRemovalAbandon s = .next t ∧ t.hw.boot.drainAt = none ∧
     t.hw.engine.cmds = s.hw.engine.cmds.filter onMedium ∧ t.hw.boot.removal = Removal.none ∧ t.hw.mem = s.hw.mem ∧ t.vault = s.vault ∧
     t.pending = s.pending) ∧
  (∀ (s : State), drained s.hw = false → exec .hotRemovalAbandon s = .next { s with hw := { s.hw with out := [] } }) ∧
  (∀ (s : State), domainOn s.hw 6 = true → s.hw.boot.l2Ready = false → ∃ t, exec .l2InvalidateDone s = .next t ∧ t.hw.boot.l2Ready = true ∧
     (t.hw.cores.get 0).running = true ∧ (t.hw.cores.get 0).start = 0 ∧ t.hw.cluster.lines = [] ∧ t.hw.cluster.victims = [] ∧
     getF t.hw CC_WLOCK_LOCK 0 = 0 ∧ t.hw.mem = s.hw.mem ∧ t.vault = s.vault ∧ t.pending = s.pending) ∧
  (∀ (s : State), ∃ t, exec (.sramEccSelfTest none true) s = .next t ∧ t.hw.boot.eccTested = true ∧ getF t.hw BM_UECNT_NEAR 0 = 0 ∧
     getF t.hw BM_CECNT_COUNT 0 = 0 ∧ t.hw.mem = s.hw.mem ∧ t.vault = s.vault ∧ t.pending = s.pending) ∧
  (∀ (s : State), ∃ t, exec (.lpddr4xTrainingDone true true) s = .next t ∧ t.hw.boot.trained = true ∧
     t.hw.mem = memZero (memZero s.hw.mem farBase (farBase + 64)) (farBase + 448) (farBase + 512) ∧ t.vault = s.vault ∧
     t.pending = s.pending)

/-- The image slots, firmware start, failures, the temperature and mate gates and admin ready (R99, R93, R98, R118, R107, R112), heads that do
not load (R109), links (R19, R105): where each event completes, and what it leaves. -/
def Obligations.BootAndGateEventsComplete : Prop :=
  (∀ (slot : Nat) (image : ImageHeader) (s : State), getF s.hw PW_BOOT_STAGE 0 = 4 → getF s.hw PW_BOOT_HALT 0 = 0 →
     getF s.hw PW_BOOT_SLOT 0 = 0 → s.hw.boot.slot0Refused = decide (slot ≠ 0) → imageAccepted s.hw image = true →
     exec (.imageSlotCheck slot true image) s = .next { s with hw := setF { s.hw with out := [], mem := (memStore s.hw image.load (padTo image.length image.body)).mem, boot := { s.hw.boot with fwver := image.fwver % 2 ^ 32, entry := image.entry % 2 ^ 64 } } PW_BOOT_SLOT 0 (if slot = 0 then 1 else 2) }) ∧
  (∀ (image : ImageHeader) (s : State), getF s.hw PW_BOOT_STAGE 0 = 4 → getF s.hw PW_BOOT_HALT 0 = 0 → getF s.hw PW_BOOT_SLOT 0 = 0 →
     s.hw.boot.slot0Refused = false → imageAccepted s.hw image = false → ∃ t, exec (.imageSlotCheck 0 true image) s = .next t ∧
     getF t.hw PW_BOOT_FAIL 0 = 5 ∧ t.hw.boot.slot0Refused = true ∧ getF t.hw PW_BOOT_SLOT 0 = 0 ∧ getF t.hw PW_BOOT_STAGE 0 = 4 ∧
     t.vault = s.vault ∧ t.pending = s.pending) ∧
  (∀ (image : ImageHeader) (s : State), getF s.hw PW_BOOT_STAGE 0 = 4 → getF s.hw PW_BOOT_HALT 0 = 0 → getF s.hw PW_BOOT_SLOT 0 = 0 →
     s.hw.boot.slot0Refused = true → imageAccepted s.hw image = false → ∃ t, exec (.imageSlotCheck 1 true image) s = .next t ∧
     getF t.hw PW_BOOT_FAIL 0 = 6 ∧ getF t.hw PW_BOOT_STAGE 0 = 0x0D ∧ getF t.hw PW_BOOT_RECOV 0 = 1 ∧ t.vault = s.vault ∧
     t.pending = s.pending) ∧
  (∀ (s : State), getF s.hw PW_BOOT_SLOT 0 ≠ 0 → getF s.hw PW_BOOT_HALT 0 = 0 → getF s.hw PW_BOOT_STAGE 0 < 5 →
     ∃ t, exec .firmwareStart s = .next t ∧ getF t.hw PW_BOOT_STAGE 0 = 5 ∧ getF t.hw PW_BOOT_RECOV 0 = 0 ∧
     (t.hw.cores.get 0).running = true ∧ (t.hw.cores.get 0).start = s.hw.boot.entry ∧ getF t.hw TH_HBSTAT_ARMED 0 = 1 ∧
     getF t.hw TH_HBSTAT_NEXT 0 = 0xA5 ∧ t.hw.mem = s.hw.mem ∧ t.vault = s.vault ∧ t.pending = s.pending) ∧
  (∀ (code detail : Nat) (s : State), failureDue s.hw code detail = true → getF s.hw PW_BOOT_HALT 0 = 0 → s.hw.boot.failedStarts < 2 →
     ∃ t, exec (.startFailure code detail) s = .next t ∧ getF t.hw PW_BOOT_FAIL 0 = code ∧ t.hw.mem = s.hw.mem ∧ t.vault = s.vault ∧
     t.pending = s.pending) ∧
  (∀ (temp : Int) (s : State), -400 ≤ temp → temp ≤ 1600 → getF s.hw TH_FORCE_FEN (inst 5) = 0 → getF s.hw TH_TEMP_SUBST (inst 5) = 0 →
     ∃ t, exec (.temperatureGateReread temp) s = .next t ∧ getS t.hw TH_RAW_RAW (inst 5) = temp ∧ getS t.hw TH_TEMP_TEMP (inst 5) = temp ∧
     t.hw.boot.coldGate = decide (temp < 0) ∧ getF t.hw PW_BOOT_TCOLD 0 = (decide (temp < 0)).toNat ∧ t.hw.mem = s.hw.mem ∧
     t.vault = s.vault ∧ t.pending = s.pending) ∧
  (∀ (temp : Int) (s : State), ∃ t, exec (.temperatureGateReread temp) s = .next t ∧
     t.hw.boot.coldGate = decide (getS t.hw TH_TEMP_TEMP (inst 5) < 0) ∧ getF t.hw PW_BOOT_TCOLD 0 = t.hw.boot.coldGate.toNat ∧
     t.hw.mem = s.hw.mem ∧ t.vault = s.vault ∧ t.pending = s.pending) ∧
  (∀ (s : State), getF s.hw PW_BOOT_STAGE 0 = 5 ∨ getF s.hw PW_BOOT_STAGE 0 = 6 → getF s.hw PW_BOOT_HALT 0 = 0 →
     ∃ t, exec .adminReady s = .next t ∧ getF t.hw PW_BOOT_STAGE 0 = 7 ∧ t.hw.boot.admin = true ∧ getF t.hw HQ_STAT_FETCH 0 = 1 ∧
     t.hw.portA.rdy = (s.hw.portA.rdy || (s.hw.portA.en && !s.hw.portA.cfs)) ∧
     t.hw.portB.rdy = (s.hw.portB.rdy || (s.hw.portB.en && !s.hw.portB.cfs)) ∧ t.hw.mem = s.hw.mem ∧ t.vault = s.vault ∧
     t.pending = s.pending) ∧
  (∀ (s : State), getF s.hw PW_BOOT_STAGE 0 = 7 → mayStart s.hw = true → s.hw.boot.removal = .none →
     exec .spindleStartGateOpen s = .next { s with hw := setF { s.hw with out := [] } PW_BOOT_STAGE 0 (if s.hw.pins.prsntDebounced then 0x08 else if s.hw.boot.coldGate then 0x0F else 0x09) }) ∧
  (∀ (c : Nat) (s : State), populated s.hw c = true → carFenced s.hw c = false → loadFailed s.hw c = true → zget s.hw.boot.loadFails c < 2 →
     ∃ t, exec (.headLoadFailed c) s = .next t ∧ zget t.hw.boot.loadFails c = zget s.hw.boot.loadFails c + 1 ∧ t.hw.mem = s.hw.mem ∧
     t.vault = s.vault ∧ t.pending = s.pending) ∧
  (∀ (c : Nat) (s : State), populated s.hw c = true → carFenced s.hw c = false → loadFailed s.hw c = true → zget s.hw.boot.loadFails c = 2 →
     ∃ t, exec (.headLoadFailed c) s = .next t ∧ carFenced t.hw c = true ∧ getF t.hw PW_BOOT_FAIL 0 = 0x0C ∧ t.hw.mem = s.hw.mem ∧
     t.vault = s.vault ∧ t.pending = s.pending) ∧
  (∀ (p : Nat) (r : CfgReg) (s : State), (port s.hw p).configured = true → configRetry s.hw = true →
     exec (.configRequest p r none) s = .next { s with hw := { s.hw with out := [Output.config p true 0] } }) ∧
  (∀ (p : Nat) (r : CfgReg) (s : State), (port s.hw p).configured = true → configRetry s.hw = false →
     exec (.configRequest p r none) s = .next { s with hw := { s.hw with out := [Output.config p false (configValue s.hw p r)] } }) ∧
  (∀ (v : Nat) (s : State), s.hw.portA.configured = true → configRetry s.hw = false →
     ∃ t, exec (.configRequest 0 .command (some v)) s = .next t ∧ t.hw.portA = { s.hw.portA with cfgCommand := v &&& 0x406 } ∧
     t.hw.out = [Output.config 0 false ((v &&& 0x406) + 0x00100000)] ∧ t.hw.mem = s.hw.mem ∧ t.vault = s.vault ∧ t.pending = s.pending) ∧
  (∀ (l : Nat) (retry : Bool) (s : State), l < 9 → (link s.hw l).state = 1 → retry = false ∨ (link s.hw l).failsOut < 7 →
     exec (.linkFlitCrcError l false retry) s = .next { s with hw := { s.hw with out := [], links := mset (fun _ => {}) s.hw.links l { link s.hw l with retries := ((link s.hw l).retries + 1) % 2 ^ 32, failsOut := if retry then (link s.hw l).failsOut + 1 else 0 } } }) ∧
  (∀ (l : Nat) (retry : Bool) (s : State), l < 9 → (link s.hw l).state = 1 → retry = false ∨ (link s.hw l).failsIn < 7 →
     exec (.linkFlitCrcError l true retry) s = .next { s with hw := { s.hw with out := [], links := mset (fun _ => {}) s.hw.links l { link s.hw l with retries := ((link s.hw l).retries + 1) % 2 ^ 32, failsIn := if retry then (link s.hw l).failsIn + 1 else 0 } } }) ∧
  (∀ (l : Nat) (toward : Bool) (s : State), l < 9 → (link s.hw l).state = 1 → (link s.hw l).failsIn = 7 → (link s.hw l).failsOut = 7 →
     ∃ t, exec (.linkFlitCrcError l toward true) s = .next t ∧ (link t.hw l).state = 2 ∧ t.hw.mem = s.hw.mem ∧ t.vault = s.vault ∧
     t.pending = s.pending) ∧
  (∀ (l : Nat) (s : State), l < 9 → (link s.hw l).state ≠ 2 → ∃ t, exec (.linkDown l) s = .next t ∧ (link t.hw l).state = 2 ∧
     t.hw.mem = s.hw.mem ∧ t.vault = s.vault ∧ t.pending = s.pending) ∧
  (∀ (l lat : Nat) (s : State), l < 5 → exec (.linkTrained l true lat) s = .next { s with hw := { s.hw with out := [], links := mset (fun _ => {}) s.hw.links l { link s.hw l with state := 1, failsOut := 0, failsIn := 0 } } }) ∧
  (∀ (l lat : Nat) (s : State), 5 ≤ l → l < 9 → ∃ t, exec (.linkTrained l true lat) s = .next t ∧ (link t.hw l).state = 1 ∧
     zget t.hw.spindle.lat (l - 5) = lat / 5 * 5 ∧ t.hw.mem = s.hw.mem ∧ t.vault = s.vault ∧ t.pending = s.pending)

/-- FIRST_CALIBRATION_PASS and MEDIA_READY (R94, R110, R111, R115, R120). -/
def Obligations.RestoreAndMediaReadyComplete : Prop :=
  (∀ (settingsGood mapGood replays : List Nat) (checks : List HeadCheck) (s : State), getF s.hw PW_BOOT_STAGE 0 = 0x0B →
     ∃ t, exec (.firstCalibrationPass settingsGood mapGood replays checks) s = .next t ∧ t.hw.dict.loaded = true ∧ t.hw.mem = s.hw.mem ∧
     t.vault = s.vault ∧ t.pending = s.pending) ∧
  (∀ (settingsGood mapGood replays : List Nat) (checks : List HeadCheck) (s : State), getF s.hw PW_BOOT_STAGE 0 = 0x0B →
     s.hw.boot.restored = false → s.hw.boot.calibrated = 15 → s.hw.dict.loaded = true → mapGood.contains 0 = true →
     populated s.hw 0 = true → carFenced s.hw 0 = false → ∃ t, exec (.firstCalibrationPass settingsGood mapGood replays checks) s = .next t ∧
     t.hw.boot.restored = true ∧ t.hw.mem = s.hw.mem ∧ t.vault = s.vault ∧ t.pending = s.pending) ∧
  (∀ (settingsGood replays : List Nat) (checks : List HeadCheck) (s : State), getF s.hw PW_BOOT_STAGE 0 = 0x0B →
     s.hw.boot.restored = false → s.hw.boot.calibrated = 15 → populated s.hw 0 = true → carFenced s.hw 0 = false →
     ∃ t, exec (.firstCalibrationPass settingsGood [] replays checks) s = .next t ∧ t.hw.boot.noMap = true ∧
     getF t.hw PW_BOOT_FAIL 0 = 0x0E ∧ getF t.hw PW_BOOT_STAGE 0 = 0x0B ∧ t.hw.mem = s.hw.mem ∧ t.vault = s.vault ∧ t.pending = s.pending) ∧
  (∀ (s : State), getF s.hw PW_BOOT_STAGE 0 = 0x0B → s.hw.boot.restored = true → (∀ c ∈ List.range 4, inStart s.hw c = true →
     bitAt s.hw.boot.calibrated c = true) → s.hw.boot.noMap = false → getF s.hw PW_BOOT_HALT 0 = 0 → ∃ t, exec .mediaReady s = .next t ∧
     getF t.hw PW_BOOT_STAGE 0 = 0x0C ∧ t.hw.boot.failedStarts = 0 ∧ getF t.hw HQ_STAT_FETCH 0 = 1 ∧ 0 < t.hw.boot.mediaMs ∧
     t.hw.mem = s.hw.mem ∧ t.vault = s.vault ∧ t.pending = s.pending)

/-- The register commands (R14, R124-R129, R132, R419): a non-posted write lands at once, a posted one is carried by its bridge and lands
later, a far side reports ready, an access of the wrong size sets SIZE, a read answers, the notification ring starts. -/
def Obligations.RegisterAccessesComplete : Prop :=
  (∀ (src a data : Nat) (r : RegDef) (s : State), src < 4 → pageExists s.hw a = true → regCode a ≠ 1 → regOff a ≠ 0xFFC → regAt a = some r →
     isPosted r = false → pageFar s.hw a = false → inFlight s.hw a = none →
     exec (.registerWrite src a data) s = .next { s with hw := landWrite { s.hw with out := [] } s.vault a data src }) ∧
  (∀ (src a data : Nat) (r : RegDef) (s : State), src < 4 → pageExists s.hw a = true → regOff a ≠ 0xFFC → regAt a = some r →
     isPosted r = true → pageFar s.hw a = false → inFlight s.hw a = none →
     exec (.postedWriteAccepted src a data) s = .next { s with hw := { s.hw with out := [], bridges := oset s.hw.bridges (pageOf a) (some ⟨a, BitVec.ofNat 32 data, src⟩) } }) ∧
  (∀ (page : Nat) (p : Posted) (s : State), inFlight s.hw page = some p →
     exec (.postedWriteLands page) s = .next { s with hw := landWrite { s.hw with out := [], bridges := oset s.hw.bridges (pageOf page) none } s.vault p.address p.data.toNat p.source }) ∧
  (∀ (page : Nat) (s : State), pageExists s.hw page = true → farReady s.hw page = true → regCode page ≠ 15 ∨ regInst page = 0 →
     exec (.bridgeFarSideReady page) s = .next { s with hw := setF { s.hw with out := [] } (farFld (pageOf page)) 0 0 }) ∧
  (∀ (page : Nat) (s : State), pageExists s.hw page = true → farReady s.hw page = true → regCode page = 15 → 1 ≤ regInst page →
     exec (.bridgeFarSideReady page) s = .next { s with hw := takeThresholds (setF { s.hw with out := [] } (farFld (pageOf page)) 0 0) (regInst page) }) ∧
  (∀ (a : Nat) (s : State), pageExists s.hw a = true → ∃ t, exec (.misalignedAccess a false) s = .next t ∧ t.hw.out = [Output.word 0] ∧
     getF t.hw ⟨pageOf a + 0xFFC, 29, 29⟩ 0 = 1 ∧ t.hw.mem = s.hw.mem ∧ t.vault = s.vault ∧ t.pending = s.pending) ∧
  (∀ (a : Nat) (s : State), pageExists s.hw a = true → exec (.misalignedAccess a true) s = .next { s with hw := setF { s.hw with out := [] } ⟨pageOf a + 0xFFC, 29, 29⟩ 0 1 }) ∧
  (∀ (src a : Nat) (r : RegDef) (s : State), 4 ≤ src → src < 8 → barSource src = none → pageExists s.hw a = true → regOff a ≠ 0xFFC →
     regAt a = some r → pageFar s.hw a = false → inFlight s.hw a = none → domainOn s.hw (regDomain a) = true →
     regCode a * 0x100000 + regOff a ≠ CH_TDATA → regCode a * 0x100000 + regOff a ≠ SV_CDATA →
     exec (.rcFieldRead src a) s = .next { s with hw := { s.hw with out := [Output.word (BitVec.ofNat 32 (readable r (shownWord s.hw a)))] } }) ∧
  (∀ (p data : Nat) (s : State), p < 2 → flagF s.hw HP_NRCFG_ENA (inst p) = false → bitAt data 31 = true →
     ∃ t, exec (.notificationRingEnable p data) s = .next t ∧ (port t.hw p).ringPhase = true ∧ getF t.hw HP_NRTAIL_TAIL (inst p) = 0 ∧
     t.hw.mem = s.hw.mem ∧ t.vault = s.vault ∧ t.pending = s.pending)

/-- The eight operations of R133 on objects whose checks pass (R134, R135): the answer has status 0x00 and the value or the effect. -/
def Obligations.ObjectTransactionsComplete : Prop :=
  (∀ (sess u p : Nat) (d : EntDef) (s : State), p < 8 → objDef s.hw u p 0 = some d → readStatus s.hw sess u p 0 = 0 →
     sessionBusy s.hw sess = false → exec (.readObject sess u p 0) s = .next { s with hw := { s.hw with out := [Output.reply sess 0 d.ty (leVal (objBytes s.hw s.vault sess u p 0 d)) (objBytes s.hw s.vault sess u p 0 d).length] } }) ∧
  (∀ (sess u ty : Nat) (value : List (BitVec 8)) (s : State), writeStatus s.hw sess u 7 0 ty value = 0 → sessionBusy s.hw sess = false →
     ∃ t, exec (.writeObject sess u 7 0 ty value) s = .next t ∧ (∀ m ∈ present s.hw u, (unit t.hw m).filter = leVal value) ∧
     t.hw.out = [Output.reply sess 0 0 0 0] ∧ t.hw.regs = s.hw.regs ∧ t.hw.mem = s.hw.mem ∧ t.vault = s.vault ∧ t.pending = s.pending) ∧
  (∀ (sess u p : Nat) (s : State), 0 < p → p < 8 → present s.hw u = [u] → unitExists u = true → bootLimited s.hw = false →
     sessionBusy s.hw sess = false → ∃ t, exec (.readEach sess u p 0 none) s = .next t ∧
     t.hw.out = [Output.reply sess 0 0 (leVal (memberEntry u (readOne s.hw s.vault sess u p 0).2)) (memberEntry u (readOne s.hw s.vault sess u p 0).2).length] ∧
     t.hw.regs = s.hw.regs ∧ t.hw.mem = s.hw.mem ∧ t.vault = s.vault ∧ t.pending = s.pending) ∧
  (∀ (sess u p e : Nat) (d : EntDef) (s : State), p < 0x1000 → e < 16 → objDef s.hw u p e = some d →
     poweredDown s.hw sess 4 u p e d = false → sessionBusy s.hw sess = false → ∃ t, exec (.describe sess u p e) s = .next t ∧
     t.hw.out = [Output.reply sess 0 d.ty (leVal (describe s.hw s.vault sess u p e).value) (describe s.hw s.vault sess u p e).value.length] ∧
     t.hw.regs = s.hw.regs ∧ t.hw.mem = s.hw.mem ∧ t.vault = s.vault ∧ t.pending = s.pending) ∧
  (∀ (sess u p e ty interval : Nat) (s : State), p < 0x1000 → e < 16 → subscribeStatus s.hw sess u p e ty interval none = 0 →
     sessionBusy s.hw sess = false → ∃ t, exec (.subscribe sess u p e ty interval []) s = .next t ∧
     t.hw.dict.subs.any (fun (x : Sub) => x.session == sess && x.path == u && x.pe == p * 16 + e && x.interval == interval) = true ∧
     t.hw.out = [Output.reply sess 0 0 0 0] ∧ t.hw.mem = s.hw.mem ∧ t.vault = s.vault ∧ t.pending = s.pending) ∧
  (∀ (sess u p e : Nat) (d : EntDef) (s : State), p < 0x1000 → e < 16 → objDef s.hw u p e = some d →
     poweredDown s.hw sess 6 u p e d = false → sessionBusy s.hw sess = false → ∃ t, exec (.unsubscribe sess u p e) s = .next t ∧
     t.hw.dict.subs = s.hw.dict.subs.filter (fun (x : Sub) => !(x.session == sess && x.path == u && x.pe == p * 16 + e)) ∧
     t.hw.out = [Output.reply sess 0 0 0 0] ∧ t.hw.mem = s.hw.mem ∧ t.vault = s.vault ∧ t.pending = s.pending) ∧
  (∀ (sess u p first n : Nat) (s : State), blockStatus s.hw sess u p 0 first n false false = 0 → p < 0x1000 → first < 8 → n < 2 ^ 32 →
     sessionBusy s.hw sess = false → ∃ t, exec (.blockRead sess u p 0 first n) s = .next t ∧
     t.hw.mgmt.blocks = s.hw.mgmt.blocks ++ [({ session := sess, txn := { op := 7, ty := 13, unit := u, pe := p * 16 + 0, value := leBytes 1 first ++ leBytes 4 n }, origin := .direct } : BlockOp)] ∧
     sections t.hw sess 1 = [] ∧ (∀ k ∈ sections s.hw sess 1, secState t.hw k = 2 ∧ secOwner t.hw k = sess) ∧ t.hw.mem = s.hw.mem ∧
     t.hw.out = [] ∧ t.vault = s.vault ∧ t.pending = s.pending) ∧
  (∀ (sess u p first n : Nat) (s : State), blockStatus s.hw sess u p 0 first n true false = 0 → p < 0x1000 → first < 8 → n < 2 ^ 32 →
     sessionBusy s.hw sess = false → ∃ t, exec (.blockWrite sess u p 0 first n) s = .next t ∧
     t.hw.mgmt.blocks = s.hw.mgmt.blocks ++ [({ session := sess, txn := { op := 8, ty := 13, unit := u, pe := p * 16 + 0, value := leBytes 1 first ++ leBytes 4 n }, origin := .direct } : BlockOp)] ∧
     sections t.hw sess 1 = [] ∧ (∀ k ∈ sections s.hw sess 1, secState t.hw k = 2 ∧ secOwner t.hw k = sess) ∧ t.hw.mem = s.hw.mem ∧
     t.hw.out = [] ∧ t.vault = s.vault ∧ t.pending = s.pending) ∧
  (∀ (b : BlockOp) (d : EntDef) (s : State), s.hw.mgmt.blocks = [b] → s.hw.mgmt.requests = [] → b.begun = true → b.cut = 0 →
     b.staged = false → b.release = false → b.origin = .direct → windowAsleep s.hw = false → b.txn.op = 7 → b.txn.unit ≠ 0x1810 →
     objDef s.hw b.txn.unit b.txn.param b.txn.elem = some d → (advanceBlocks s.hw s.vault).mgmt.blocks = [] ∧
     (advanceBlocks s.hw s.vault).mem = (memStore s.hw (windowBase + b.txn.first * 0x100000) ((blobValue s.hw s.vault b.txn.unit b.txn.param d.size).take b.txn.length)).mem ∧
     (advanceBlocks s.hw s.vault).out = s.hw.out ++ [Output.reply b.session 0 3 (leVal (leBytes 4 ((blobValue s.hw s.vault b.txn.unit b.txn.param d.size).take b.txn.length).length)) 4] ∧
     sections (advanceBlocks s.hw s.vault) b.session 2 = []) ∧
  (∀ (b : BlockOp) (s : State), s.hw.mgmt.blocks = [b] → s.hw.mgmt.requests = [] → b.begun = true → b.cut ≠ 0 → b.release = false →
     b.origin = .direct → (advanceBlocks s.hw s.vault).mgmt.blocks = [] ∧ (advanceBlocks s.hw s.vault).mem = s.hw.mem ∧
     (advanceBlocks s.hw s.vault).out = s.hw.out ++ [Output.reply b.session b.cut 0 0 0] ∧
     sections (advanceBlocks s.hw s.vault) b.session 2 = [])

/-- Writes of 003-006 of a leaf and of 0000:010.0 whose checks pass (R139-R146, R151). -/
def Obligations.UnitControlsComplete : Prop :=
  (∀ (sess u : Nat) (s : State), u ∈ leafPaths → absent s.hw u = false → writeStatus s.hw sess u 3 0 10 [1] = 0 →
     sessionBusy s.hw sess = false → ∃ t, exec (.fence sess u) s = .next t ∧ fenced t.hw u = true ∧ t.hw.out = [Output.reply sess 0 0 0 0] ∧
     t.hw.mem = s.hw.mem ∧ t.vault = s.vault ∧ t.pending = s.pending) ∧
  (∀ (sess u k : Nat) (s : State), u ∈ leafPaths → absent s.hw u = false → unfenceKey s.hw u = some k →
     writeStatus s.hw sess u 3 0 10 [0] = 0 → sessionBusy s.hw sess = false → ∃ t, exec (.unfence sess u) s = .next t ∧
     fenceVal t.hw k = fenceVal s.hw k + 2 ∧ t.hw.out = [Output.reply sess 0 0 0 0] ∧ t.hw.mem = s.hw.mem ∧ t.vault = s.vault ∧
     t.pending = s.pending) ∧
  (∀ (sess u : Nat) (s : State), u ∈ leafPaths → absent s.hw u = false → writeStatus s.hw sess u 4 0 10 [1] = 0 →
     sessionBusy s.hw sess = false → ∃ t, exec (.reInitialise sess u) s = .next t ∧ (unit t.hw u).busy = true ∧
     zget t.hw.island.counts 2 = zget s.hw.island.counts 2 + 1 ∧ t.hw.out = [Output.reply sess 0 0 0 0] ∧ t.hw.mem = s.hw.mem ∧
     t.vault = s.vault ∧ t.pending = s.pending) ∧
  (∀ (sess u : Nat) (s : State), u ∈ leafPaths → absent s.hw u = false → writeStatus s.hw sess u 4 0 10 [2] = 0 →
     sessionBusy s.hw sess = false → ∃ t, exec (.acknowledgeFaults sess u) s = .next t ∧
     (unit t.hw u).summary = (unit s.hw u).summary &&& ((unit s.hw u).cause ||| (unit s.hw u).force) ∧
     t.hw.out = [Output.reply sess 0 0 0 0] ∧ t.hw.regs = s.hw.regs ∧ t.hw.mem = s.hw.mem ∧ t.vault = s.vault ∧ t.pending = s.pending) ∧
  (∀ (sess u x : Nat) (s : State), u ∈ leafPaths → absent s.hw u = false → x < 3 → writeStatus s.hw sess u 5 0 10 (leBytes 1 x) = 0 →
     sessionBusy s.hw sess = false → ∃ t, exec (.powerStateRequest sess u x) s = .next t ∧ (unit t.hw u).request = x ∧
     t.hw.out = [Output.reply sess 0 0 0 0] ∧ t.hw.mem = s.hw.mem ∧ t.vault = s.vault ∧ t.pending = s.pending) ∧
  (∀ (sess u : Nat) (s : State), u ∈ leafPaths → absent s.hw u = false → bitAt (unit s.hw u).force 0 = false →
     writeStatus s.hw sess u 6 0 3 (leBytes 4 1) = 0 → sessionBusy s.hw sess = false → ∃ t, exec (.faultForce sess u 1) s = .next t ∧
     bitAt (unit t.hw u).force 0 = true ∧ bitAt (unit t.hw u).summary 0 = true ∧ t.hw.out.getLast? = some (Output.reply sess 0 0 0 0) ∧
     t.hw.mem = s.hw.mem ∧ t.vault = s.vault ∧ t.pending = s.pending) ∧
  (∀ (sess : Nat) (s : State), writeStatus s.hw sess 0 0x010 0 1 [0x5A] = 0 → s.hw.boot.dphase = .idle → s.hw.boot.mediaMs ≠ 0 →
     sessionBusy s.hw sess = false → ∃ t, exec (.deviceResetRequest sess 0x5A) s = .next t ∧ t.hw.boot.dphase = DPhase.taken ∧
     getF t.hw PW_RSN_DCAUSE 0 = 1 ∧ t.hw.out.getLast? = some (Output.reply sess 0 0 0 0) ∧ t.hw.mem = s.hw.mem ∧ t.vault = s.vault ∧
     t.pending = s.pending)

/-- Sessions and their roles (R148-R150), the commit and the revert of stored values (R153), claims of the bulk window (R186-R188, R192), and
the start of a recovery image (R100). -/
def Obligations.SessionsAndClaimsComplete : Prop :=
  (∀ (sess role : Nat) (s : State), 0 < role → role < 4 → writeStatus s.hw sess 0 0x013 0 10 (leBytes 1 role) = 0 →
     sessionBusy s.hw sess = false → ∃ t, exec (.sessionRoleWrite sess role) s = .next t ∧ (session t.hw sess).wanted = role ∧
     (session t.hw sess).challenge = none ∧ (session t.hw sess).role = (session s.hw sess).role ∧ t.hw.out = [Output.reply sess 0 0 0 0] ∧
     t.hw.mem = s.hw.mem ∧ t.vault = s.vault ∧ t.pending = s.pending) ∧
  (∀ (sess half : Nat) (s : State), half = 1 ∨ half = 2 → readStatus s.hw sess 0 0x011 half = 0 → sessionBusy s.hw sess = false →
     ∃ t, exec (.challengeRead sess half) s = .next t ∧ (session t.hw sess).challenge.isSome = true ∧
     ((session s.hw sess).challenge.isSome = true → (session t.hw sess).challenge = (session s.hw sess).challenge) ∧ t.hw.mem = s.hw.mem ∧
     t.vault = s.vault ∧ t.pending = s.pending) ∧
  (∀ (sess x : Nat) (s : State), x < 2 ^ 64 → writeStatus s.hw sess 0 0x012 1 4 (leBytes 8 x) = 0 → sessionBusy s.hw sess = false →
     ∃ t, exec (.responseWrite sess 1 x) s = .next t ∧ (session t.hw sess).tagLow = x ∧ t.hw.out = [Output.reply sess 0 0 0 0] ∧
     t.hw.mem = s.hw.mem ∧ t.vault = s.vault ∧ t.pending = s.pending) ∧
  (∀ (sess x c k : Nat) (s : State), x < 2 ^ 64 → writeStatus s.hw sess 0 0x012 2 4 (leBytes 8 x) = 0 →
     (session s.hw sess).challenge = some c → roleKey s.hw (session s.hw sess).wanted = some k → sessionBusy s.hw sess = false →
     ∃ t, exec (.responseWrite sess 2 x) s = .next t ∧ (tagOf k (roleMessage c [(session s.hw sess).wanted] sess) = (session s.hw sess).tagLow + 2 ^ 64 * x →
     (session t.hw sess).role = (session s.hw sess).wanted ∧ (session t.hw sess).fails = 0 ∧ t.hw.out = [Output.reply sess 0 0 0 0]) ∧
     (tagOf k (roleMessage c [(session s.hw sess).wanted] sess) ≠ (session s.hw sess).tagLow + 2 ^ 64 * x →
     (session t.hw sess).role = (session s.hw sess).role ∧ (session t.hw sess).fails = (session s.hw sess).fails + 1 ∧
     t.hw.out.getLast? = some (Output.reply sess 0x0A 0 0 0)) ∧ (session t.hw sess).challenge = none ∧ t.hw.mem = s.hw.mem ∧
     t.vault = s.vault ∧ t.pending = s.pending) ∧
  (∀ (sess : Nat) (s : State), ∃ t, exec (.challengeExpiry sess) s = .next t ∧ (session t.hw sess).challenge = none ∧
     (session t.hw sess).role = (session s.hw sess).role ∧ t.hw.regs = s.hw.regs ∧ t.hw.mem = s.hw.mem ∧ t.vault = s.vault ∧
     t.pending = s.pending) ∧
  (∀ (sess : Nat) (s : State), (session s.hw sess).lockout = true → ∃ t, exec (.challengeLockoutEnd sess) s = .next t ∧
     (session t.hw sess).lockout = false ∧ (session t.hw sess).fails = 0 ∧ t.hw.regs = s.hw.regs ∧ t.hw.mem = s.hw.mem ∧ t.vault = s.vault ∧
     t.pending = s.pending) ∧
  (∀ (sess : Nat) (s : State), isLinkSession sess = true ∨ isBarSession sess = true → ∃ t, exec (.sessionFallback sess) s = .next t ∧
     (session t.hw sess).role = 0 ∧ (session t.hw sess).challenge = none ∧
     t.hw.dict.subs = s.hw.dict.subs.filter (fun (x : Sub) => !(x.session == sess)) ∧ t.hw.mem = s.hw.mem ∧ t.vault = s.vault ∧
     t.pending = s.pending) ∧
  (∀ (sess : Nat) (s : State), writeStatus s.hw sess 0 0x015 0 10 [1] = 0 → sessionBusy s.hw sess = false →
     ∃ t, exec (.settingsCommit sess 15) s = .next t ∧ t.hw.dict.store = 0 ∧ t.hw.dict.lastNo = lastCommit s.hw + 1 ∧
     (∀ c ∈ List.range 4, populated s.hw c = true → carFenced s.hw c = false →
     mget (fun _ => []) t.hw.dict.copies c = liveStored s.hw s.vault ∧
     mget (fun _ => []) t.hw.dict.blobCopies c = liveStoredBlobs s.hw s.vault ∧ zget t.hw.dict.commitNo c = lastCommit s.hw + 1) ∧
     t.hw.out = [Output.reply sess 0 0 0 0] ∧ t.hw.regs = s.hw.regs ∧ t.hw.mem = s.hw.mem ∧ t.vault = s.vault ∧ t.pending = s.pending) ∧
  (∀ (sess : Nat) (s : State), writeStatus s.hw sess 0 0x015 0 10 [2] = 0 → sessionBusy s.hw sess = false →
     ∃ t, exec (.settingsRevert sess) s = .next t ∧ t.hw.dict.store = 0 ∧ (∀ u ∈ leafPaths, absent s.hw u = false →
     (unit t.hw u).filter = 2) ∧ t.vault = s.vault ∧ t.pending = s.pending) ∧
  (∀ (sess mask : Nat) (s : State), 0 < mask → mask < 256 → writeStatus s.hw sess 0x1920 0x011 0 1 (leBytes 1 mask) = 0 →
     sessionBusy s.hw sess = false → ∃ t, exec (.claim sess mask) s = .next t ∧ (∀ n ∈ List.range 8, bitAt mask n = true →
     secOwner t.hw n = sess % 0x10000 ∧ secState t.hw n = 1) ∧ t.hw.out = [Output.reply sess 0 0 0 0] ∧ t.hw.mem = s.hw.mem ∧
     t.vault = s.vault ∧ t.pending = s.pending) ∧
  (∀ (sess : Nat) (s : State), sess < 0xFFFF → writeStatus s.hw sess 0x1920 0x011 0 1 [0] = 0 → sessionBusy s.hw sess = false →
     ∃ t, exec (.release sess) s = .next t ∧ sections t.hw sess 1 = [] ∧ t.hw.out = [Output.reply sess 0 0 0 0] ∧ t.hw.mem = s.hw.mem ∧
     t.vault = s.vault ∧ t.pending = s.pending) ∧
  (∀ (n : Nat) (s : State), n < 8 → secState s.hw n = 3 → windowAsleep s.hw = false → ∃ t, exec (.sectionCleared n) s = .next t ∧
     secState t.hw n = 0 ∧ secOwner t.hw n = 0xFFFF ∧ t.hw.mem = memZero s.hw.mem (windowBase + n * 0x100000) (windowBase + (n + 1) * 0x100000) ∧
     t.vault = s.vault ∧ t.pending = s.pending) ∧
  (∀ (n : Nat) (s : State), n < 8 → secState s.hw n = 1 → secOwner s.hw n ≠ 0x420 → secOwner s.hw n ≠ 0xFFFF → windowAsleep s.hw = false →
     ∃ t, exec (.leaseExpiry n) s = .next t ∧ sections t.hw (secOwner s.hw n) 1 = [] ∧ t.hw.mem = s.hw.mem ∧ t.vault = s.vault ∧
     t.pending = s.pending) ∧
  (∀ (sess : Nat) (sigOk bodyOk : Bool) (s : State), writeStatus s.hw sess 0x1A00 0x048 0 1 [1] = 0 →
     imageAccepted s.hw (windowHeader s.hw sigOk bodyOk) = true → sessionBusy s.hw sess = false →
     ∃ t, exec (.recoveryStart sess sigOk bodyOk) s = .next t ∧ getF t.hw PW_BOOT_SLOT 0 = 3 ∧ getF t.hw PW_BOOT_RECOV 0 = 0 ∧
     t.hw.out = [Output.reply sess 0 0 0 0] ∧ t.vault = s.vault ∧ t.pending = s.pending) ∧
  (∀ (sess : Nat) (sigOk bodyOk : Bool) (s : State), writeStatus s.hw sess 0x1A00 0x048 0 1 [1] = 0 →
     imageAccepted s.hw (windowHeader s.hw sigOk bodyOk) = false → sessionBusy s.hw sess = false →
     ∃ t, exec (.recoveryStart sess sigOk bodyOk) s = .next t ∧ t.hw.boot.recovery = 2 ∧ t.hw.out = [Output.reply sess 0 0 0 0] ∧
     t.hw.mem = s.hw.mem ∧ t.vault = s.vault ∧ t.pending = s.pending)

/-- Frames of the management network (R158, R166, R170, R172, R174, R176, R177, R178, R181, R190, R654): where each completes, and what it
leaves. -/
def Obligations.QuablinkTrafficCompletes : Prop :=
  (∀ (src seq count : Nat) (body : List (BitVec 8)) (ts : List Txn) (s : State), mgmtUp s.hw = true → getF s.hw PW_BOOT_STAGE 0 ≠ 0 →
     src ≤ 0x3FF → 1 ≤ count → count ≤ 16 → parseRecords count body = some ts → (ts.map (longestResponse s.hw)).sum ≤ 1488 →
     (session s.hw src).lastSeq ≠ some seq → s.hw.mgmt.requests = [] → sessionBusy s.hw src = false → (∀ x ∈ ts, x.op ≠ 7 ∧ x.op ≠ 8) →
     ∃ t, exec (.quablinkRequest src seq count body) s = .next t ∧ (session t.hw src).lastSeq = some seq ∧
     (session t.hw src).lastResp.isSome = true ∧ t.hw.mgmt.requests = [] ∧ t.vault = s.vault ∧ t.pending = s.pending) ∧
  (∀ (src seq count : Nat) (body : List (BitVec 8)) (ts : List Txn) (s : State), mgmtUp s.hw = true → getF s.hw PW_BOOT_STAGE 0 ≠ 0 →
     src ≤ 0x3FF → 1 ≤ count → count ≤ 16 → parseRecords count body = some ts → (ts.map (longestResponse s.hw)).sum ≤ 1488 →
     (session s.hw src).lastSeq ≠ some seq → s.hw.mgmt.requests ≠ [] → requestBusy s.hw src = false →
     exec (.quablinkRequest src seq count body) s = .next { s with hw := { s.hw with out := [], mgmt := { s.hw.mgmt with requests := s.hw.mgmt.requests ++ [({ session := src, seq := seq, count := count, todo := ts } : Request)] } } }) ∧
  (∀ (src seq count : Nat) (body : List (BitVec 8)) (ts : List Txn) (s : State), mgmtUp s.hw = true → getF s.hw PW_BOOT_STAGE 0 ≠ 0 →
     src ≤ 0x3FF → 1 ≤ count → count ≤ 16 → parseRecords count body = some ts → (ts.map (longestResponse s.hw)).sum ≤ 1488 →
     (session s.hw src).lastSeq ≠ some seq → requestBusy s.hw src = true → s.hw.mgmt.tx = [] →
     exec (.quablinkRequest src seq count body) s = .next { s with hw := { s.hw with out := [], mgmt := { s.hw.mgmt with tx := [{ kind := 2, seq := seq, dst := src, stat := 2, count := 0, body := [] }] } } }) ∧
  (∀ (x : Sub) (d : EntDef) (s : State), s.hw.dict.subs = [x] → isLinkSession x.session = true → mgmtUp s.hw = true →
     objDef s.hw x.path (x.pe / 16 % 0x1000) (x.pe % 16) = some d →
     poweredDown s.hw x.session 1 x.path (x.pe / 16 % 0x1000) (x.pe % 16) d = false → x.interval ≤ x.age →
     movedEnough d.ty x.deadband x.last (subValue s.hw s.vault x.session x.path (x.pe / 16 % 0x1000) (x.pe % 16) d) = true →
     ∃ t, exec .notificationCycle s = .next t ∧ t.hw.dict.subs = [{ x with last := subValue s.hw s.vault x.session x.path (x.pe / 16 % 0x1000) (x.pe % 16) d, age := 0 }] ∧
     t.hw.mgmt.notes.length = s.hw.mgmt.notes.length + 1 ∧ t.hw.regs = s.hw.regs ∧ t.hw.mem = s.hw.mem ∧ t.vault = s.vault ∧
     t.pending = s.pending) ∧
  (∀ (n : Note) (s : State), s.hw.mgmt.notes = [n] → mgmtUp s.hw = true → n.repeats < 3 →
     ∃ t, exec (.notificationRetry n.session n.seq) s = .next t ∧ t.hw.mgmt.notes = [{ n with repeats := n.repeats + 1 }] ∧
     t.hw.regs = s.hw.regs ∧ t.hw.mem = s.hw.mem ∧ t.vault = s.vault ∧ t.pending = s.pending) ∧
  (∀ (n : Note) (s : State), s.hw.mgmt.notes = [n] → mgmtUp s.hw = true → 3 ≤ n.repeats →
     exec (.notificationRetry n.session n.seq) s = .next { s with hw := { s.hw with out := [], mgmt := { s.hw.mgmt with notes := [], drops := (s.hw.mgmt.drops + 1) % 2 ^ 32, dropCause := true } } }) ∧
  (∀ (sess seq : Nat) (s : State), mgmtUp s.hw = true → sess ≤ 0x3FF →
     exec (.notificationAcknowledge sess seq) s = .next { s with hw := { s.hw with out := [], mgmt := { s.hw.mgmt with notes := s.hw.mgmt.notes.filter (fun x => !(x.session == sess && x.seq == seq)) } } }) ∧
  (∀ (src minute upto : Nat) (e : Int) (s : State), mgmtUp s.hw = true → upto ≤ 59999999 → src ≤ 0x3FF → liveVal s.hw 0x1900 0x010 0 = src →
     ∃ t, exec (.beacon src minute upto e) s = .next t ∧ t.hw.mgmt.sync = 1 ∧ t.hw.mgmt.lastE = ofSigned 32 e ∧ t.hw.mem = s.hw.mem ∧
     t.vault = s.vault ∧ t.pending = s.pending) ∧
  (∀ (src seq : Nat) (s : State), mgmtUp s.hw = true → src ≤ 0x3FF →
     exec (.alertAcknowledge src seq) s = .next { s with hw := { s.hw with out := [], mgmt := { s.hw.mgmt with alerts := s.hw.mgmt.alerts.filter (fun a => !(a.seq == seq)) } } }) ∧
  (∀ (src seq sect offset wlen : Nat) (data : List (BitVec 8)) (s : State), mgmtUp s.hw = true → getF s.hw PW_BOOT_STAGE 0 ≠ 0 →
     src ≤ 0x3FF → 0 < wlen → wlen ≤ 1024 → data.length = wlen → (session s.hw src).lastSeq ≠ some seq →
     windowStatus s.hw src sect offset wlen = 0 → requestBusy s.hw src = false →
     ∃ t, exec (.windowDataRequest src seq 1 sect 0 offset wlen true data) s = .next t ∧
     t.hw.mem = (memStore s.hw (windowBase + (sect * 0x100000 + offset)) data).mem ∧ (session t.hw src).lastSeq = some seq ∧
     t.hw.regs = s.hw.regs ∧ t.vault = s.vault ∧ t.pending = s.pending) ∧
  (∀ (dest etherType : Nat) (payload : List (BitVec 8)) (s : State), mgmtUp s.hw = true → dest = macOf (nodeId s.hw) ∨ dest = macOf 0xFFFF →
     etherType ≠ 0x88B5 ∨ headerIgnored s.hw payload = true → exec (.ignoredFrame dest etherType payload) s = .next { s with hw := { s.hw with out := [], mgmt := { s.hw.mgmt with ignored := (s.hw.mgmt.ignored + 1) % 2 ^ 32 } } }) ∧
  (∀ (code detail : Nat) (s : State), 2 ≤ code → code ≤ 4 → ∃ t, exec (.alertRaised code detail) s = .next t ∧
     t.hw.mgmt.alerts = s.hw.mgmt.alerts ++ [({ seq := s.hw.mgmt.alertSeq, code := code, detail := detail, cycle := s.hw.log.cycles, ms := s.hw.log.optime, sends := if mgmtUp s.hw then 1 else 0 } : Alert)] ∧
     t.hw.regs = s.hw.regs ∧ t.hw.mem = s.hw.mem ∧ t.vault = s.vault ∧ t.pending = s.pending) ∧
  (∀ (detail : Nat) (s : State), s.hw.boot.stair4Asked = false → s.hw.boot.stair4Prev.contains detail = false →
     ∃ t, exec (.alertRaised 1 detail) s = .next t ∧ t.hw.mgmt.alerts = s.hw.mgmt.alerts ++ [({ seq := s.hw.mgmt.alertSeq, code := 1, detail := detail, cycle := s.hw.log.cycles, ms := s.hw.log.optime, sends := if mgmtUp s.hw then 1 else 0 } : Alert)] ∧
     t.hw.boot.stair4Asked = true ∧ t.hw.boot.stair4Now = s.hw.boot.stair4Now ++ [detail] ∧ t.hw.regs = s.hw.regs ∧ t.hw.mem = s.hw.mem ∧
     t.vault = s.vault ∧ t.pending = s.pending) ∧
  (∀ (detail : Nat) (s : State), s.hw.boot.stair4Asked = true ∨ s.hw.boot.stair4Prev.contains detail = true →
     exec (.alertRaised 1 detail) s = .next { s with hw := { s.hw with out := [] } }) ∧
  (∀ (a : Alert) (s : State), s.hw.mgmt.alerts = [a] → mgmtUp s.hw = true → a.sends < 59 → ∃ t, exec (.alertRepeat a.seq) s = .next t ∧
     t.hw.mgmt.alerts = [{ a with sends := a.sends + 1 }] ∧ t.hw.regs = s.hw.regs ∧ t.hw.mem = s.hw.mem ∧ t.vault = s.vault ∧
     t.pending = s.pending) ∧
  (∀ (a : Alert) (s : State), s.hw.mgmt.alerts = [a] → s.hw.dict.subs = [] → mgmtUp s.hw = true → a.sends < 59 →
     ∃ t, exec .managementPortResume s = .next t ∧ t.hw.mgmt.alerts = [{ a with sends := a.sends + 1 }] ∧ t.hw.regs = s.hw.regs ∧
     t.hw.mem = s.hw.mem ∧ t.vault = s.vault ∧ t.pending = s.pending)

/-- PLCA (R167, R168), holdover and the minute boundary (R183, R184, R556), accesses of the window through BAR2 (R191), the mailbox (R418). -/
def Obligations.PortAndMinuteEventsComplete : Prop :=
  (∀ (s : State), s.hw.mgmt.plcaPending = true → exec .plcaSettingTakesEffect s = .next { s with hw := { s.hw with out := [], mgmt := { s.hw.mgmt with plca := writtenPlca s.hw, plcaPending := false } } }) ∧
  (∀ (s : State), mgmtUp s.hw = true → ∃ t, exec .plcaBeaconSeen s = .next t ∧ t.hw.mgmt.plcaSeen = true ∧ t.hw.mgmt.plcaPending = false ∧
     t.hw.regs = s.hw.regs ∧ t.hw.mem = s.hw.mem ∧ t.vault = s.vault ∧ t.pending = s.pending) ∧
  (∀ (s : State), exec .plcaBeaconLoss s = .next { s with hw := { s.hw with out := [], mgmt := { s.hw.mgmt with plcaSeen := false } } }) ∧
  (∀ (f : Frame) (s : State), mgmtUp s.hw = true → plcaStatus s.hw ≠ 0 → s.hw.mgmt.tx = [f] →
     exec .transmitOpportunity s = .next { s with hw := { s.hw with out := [.frame (frameBytes s.hw f)], mgmt := { s.hw.mgmt with tx := [] } } }) ∧
  (∀ (s : State), s.hw.mgmt.sync = 1 → s.hw.mgmt.beaconAt + 180000 ≤ s.hw.log.optime →
     exec .syncHoldover s = .next { s with hw := { s.hw with out := [], mgmt := { s.hw.mgmt with sync := 2 } } }) ∧
  (∀ (s : State), domainUp s.hw 5 = true → mirrors s.hw = false → ∃ t, exec .minuteBoundary s = .next t ∧
     t.hw.cipher.cidx = s.hw.cipher.cidx + 1 ∧ t.hw.cipher.lastClosed = some s.hw.mgmt.minute ∧ t.hw.mgmt = nextMinute s.hw.mgmt ∧
     getF t.hw CY_MSTAT_VALID 0 = 1 ∧ t.hw.mem = s.hw.mem ∧ t.vault = s.vault ∧ t.pending = s.pending) ∧
  (∀ (p o n requester : Nat) (data : List (BitVec 8)) (s : State), p < 2 → n < 8 → n * 0x100000 ≤ o → o + data.length ≤ (n + 1) * 0x100000 →
     0 < data.length → secOwner s.hw n = 0x400 + p → secState s.hw n = 1 → windowAsleep s.hw = false →
     ∃ t, exec (.bar2WindowAccess p o 0 requester true data) s = .next t ∧ t.hw.mem = (memStore s.hw (windowBase + o) data).mem ∧
     t.hw.regs = s.hw.regs ∧ t.vault = s.vault ∧ t.pending = s.pending) ∧
  (∀ (p o k n requester : Nat) (s : State), p < 2 → n < 8 → n * 0x100000 ≤ o → o + k ≤ (n + 1) * 0x100000 → 0 < k →
     secOwner s.hw n = 0x400 + p → secState s.hw n = 1 → windowAsleep s.hw = false →
     ∃ t, exec (.bar2WindowAccess p o k requester false []) s = .next t ∧
     t.hw.out = [Output.window (0x400 + p) 0 (memBytes s.hw (windowBase + o) k)] ∧ t.hw.regs = s.hw.regs ∧ t.hw.mem = s.hw.mem ∧
     t.vault = s.vault ∧ t.pending = s.pending) ∧
  (∀ (p : Nat) (s : State), p < 2 → flagF s.hw HP_MBCTL_BUSY (inst p) = false → sessionBusy s.hw (0x400 + p) = false →
     leVal ((regBytes s.hw (HP_MBREQ + inst p) 128).take 1) < 7 → ∃ t, exec (.mailboxGo p) s = .next t ∧
     getF t.hw HP_MBCTL_DONE (inst p) = 1 ∧ t.vault = s.vault ∧ t.pending = s.pending) ∧
  (∀ (p : Nat) (s : State), p < 2 → flagF s.hw HP_MBCTL_BUSY (inst p) = true → ∃ t, exec (.mailboxGo p) s = .next t ∧
     getF t.hw HP_MBCTL_OVR (inst p) = 1 ∧ t.hw.mem = s.hw.mem ∧ t.vault = s.vault ∧ t.pending = s.pending)

/-- The serial interface of the preamplifier (R68-R71, R262), its fault line (R56, R263) and calibration steps (R46, R47): where each
completes, and what it leaves. -/
def Obligations.PreampAndCalibrationComplete : Prop :=
  (∀ (c data : Nat) (s : State), midUp s.hw c = true → flagF s.hw PA_SIF_STAT_ACTIVE (inst c) = false → (car s.hw c).fmt.wire = none →
     (car s.hw c).fmt.sif = [] → ∃ t, exec (.paSifCmdWrite c data) s = .next t ∧ (car t.hw c).fmt.wire = some false ∧
     getF t.hw PA_SIF_STAT_ACTIVE (inst c) = 1 ∧ getF t.hw PA_SIF_CMD_WDATA (inst c) = bits 15 0 data ∧ t.hw.mem = s.hw.mem ∧
     t.vault = s.vault ∧ t.pending = s.pending) ∧
  (∀ (c data : Nat) (s : State), midUp s.hw c = true → flagF s.hw PA_SIF_STAT_ACTIVE (inst c) = true →
     ∃ t, exec (.paSifCmdWrite c data) s = .next t ∧ getF t.hw PA_SIF_STAT_DROP (inst c) = 1 ∧
     getF t.hw PA_SIF_CMD_WDATA (inst c) = getF s.hw PA_SIF_CMD_WDATA (inst c) ∧ t.hw.carriages = s.hw.carriages ∧ t.hw.mem = s.hw.mem ∧
     t.vault = s.vault ∧ t.pending = s.pending) ∧
  (∀ (c ack rdata : Nat) (parityOk : Bool) (s : State), (car s.hw c).fmt.wire = some false → flagF s.hw PA_SIF_CMD_RD (inst c) = true →
     (car s.hw c).fmt.sif = [] → c < 4 → ∃ t, exec (.preampFrameDone c ack rdata parityOk) s = .next t ∧ (car t.hw c).fmt.wire = none ∧
     getF t.hw PA_SIF_STAT_ACTIVE (inst c) = 0 ∧ getF t.hw PA_SIF_STAT_RDATA (inst c) = rdata % 2 ^ 16 ∧
     getF t.hw PA_SIF_STAT_RPERR (inst c) = (!parityOk).toNat ∧ t.hw.mem = s.hw.mem ∧ t.vault = s.vault ∧ t.pending = s.pending) ∧
  (∀ (c ack rdata : Nat) (parityOk : Bool) (s : State), (car s.hw c).fmt.wire = some false → flagF s.hw PA_SIF_CMD_RD (inst c) = false →
     (car s.hw c).fmt.sif = [] → c < 4 → ∃ t, exec (.preampFrameDone c ack rdata parityOk) s = .next t ∧ (car t.hw c).fmt.wire = none ∧
     getF t.hw PA_SIF_STAT_ACTIVE (inst c) = 0 ∧ getF t.hw PA_SIF_STAT_ACK (inst c) = ack % 4 ∧ t.hw.mem = s.hw.mem ∧ t.vault = s.vault ∧
     t.pending = s.pending) ∧
  (∀ (c rdata : Nat) (parityOk : Bool) (x : SifFrame) (s : State), (car s.hw c).fmt.wire = some true → (car s.hw c).fmt.sif = [x] →
     bitAt x.command 15 = false → bits 11 4 x.command = 0x20 → bits 14 12 x.command < 6 → c < 4 →
     ∃ t, exec (.preampFrameDone c 2 rdata parityOk) s = .next t ∧ getF t.hw FM_SQSTAT_SELHEAD (inst c) = bits 14 12 x.command ∧
     (car t.hw c).fmt.sif = [] ∧ t.hw.mem = s.hw.mem ∧ t.vault = s.vault ∧ t.pending = s.pending) ∧
  (∀ (c : Nat) (s : State), midUp s.hw c = true → (ch s.hw c).cur = none → runOpen s.hw c = false → writesDue s.hw c = false →
     5 < selHead s.hw c → ∃ t, exec (.preampFault c) s = .next t ∧ getF t.hw PA_FLT_LATCH (inst c) = 1 ∧ getF t.hw PA_FLT_PIN (inst c) = 1 ∧
     t.hw.carriages = s.hw.carriages ∧ t.hw.mem = s.hw.mem ∧ t.vault = s.vault ∧ t.pending = s.pending) ∧
  (∀ (c : Nat) (s : State), midUp s.hw c = true → (ch s.hw c).cur = none → runOpen s.hw c = false → writesDue s.hw c = false →
     selHead s.hw c < 6 → ∃ t, exec (.preampFault c) s = .next t ∧ getF t.hw PA_FLT_LATCH (inst c) = 1 ∧ getF t.hw PA_FLT_PIN (inst c) = 1 ∧
     (fenced s.hw (preHead c (selHead s.hw c)) = false → (unit s.hw (preHead c (selHead s.hw c))).busy = false →
     effective s.hw (preHead c (selHead s.hw c)) Reaction.s2 = Reaction.s2 → (unit t.hw (preHead c (selHead s.hw c))).busy = true) ∧
     t.hw.mem = s.hw.mem ∧ t.vault = s.vault ∧ t.pending = s.pending) ∧
  (∀ (c : Nat) (x : ChSector) (s : State), midUp s.hw c = true → (ch s.hw c).cur = some x → x.write = true →
     ∃ t, exec (.preampFault c) s = .next t ∧ getF t.hw PA_FLT_LATCH (inst c) = 1 ∧ getF t.hw FM_WSTAT_OUT (inst c) = 3 ∧
     (ch t.hw c).cur = none ∧ (path t.hw c).wg = false ∧ (path t.hw c).htrEn = false ∧
     (car t.hw c).fmt.faultRead = some (selHead s.hw c % 6) ∧ t.hw.mem = s.hw.mem ∧ t.vault = s.vault ∧ t.pending = s.pending) ∧
  (∀ (c : Nat) (s : State), holdDue s.hw c = true → c < 4 → ∃ t, exec (.calibrationWriteHold c) s = .next t ∧
     (cal t.hw c).hold = some s.hw.engine.isn ∧ t.hw.regs = s.hw.regs ∧ t.hw.mem = s.hw.mem ∧ t.vault = s.vault ∧ t.pending = s.pending) ∧
  (∀ (c : Nat) (s : State), releaseDue s.hw c = true → c < 4 → ∃ t, exec (.calibrationHoldRelease c) s = .next t ∧
     (cal t.hw c).hold = none ∧ (cal t.hw c).pause = 1000 ∧ t.hw.mem = s.hw.mem ∧ t.vault = s.vault ∧ t.pending = s.pending) ∧
  (∀ (c ms : Nat) (write : Bool) (s : State), stepAllowed s.hw c write ms = true →
     ∃ t, exec (.calibrationStepStart c write ms) s = .next t ∧ (cal t.hw c).step = some write ∧ (cal t.hw c).left = ms ∧
     (cal t.hw c).spans = (s.hw.log.optime, s.hw.log.optime + ms) :: (cal s.hw c).spans ∧ t.hw.regs = s.hw.regs ∧ t.hw.mem = s.hw.mem ∧
     t.vault = s.vault ∧ t.pending = s.pending) ∧
  (∀ (c ms : Nat) (s : State), stepAllowed s.hw c true ms = false → populated s.hw c = true → carFenced s.hw c = false →
     (cal s.hw c).waiting = 0 → ∃ t, exec (.calibrationStepStart c true ms) s = .next t ∧ (cal t.hw c).waiting = 1 ∧
     (cal t.hw c).step = (cal s.hw c).step ∧ t.hw.regs = s.hw.regs ∧ t.hw.mem = s.hw.mem ∧ t.vault = s.vault ∧ t.pending = s.pending)

/-- The read channel (R199, R200, R205, R209, R213, R221-R227, R230, R236, R240): where each event completes, and what it leaves. -/
def Obligations.ReadChannelComplete : Prop :=
  (∀ (c hd group zbp seed mode buf : Nat) (write : Bool) (cuts : List Nat) (signal : List Stretch) (s : State), (ch s.hw c).cur = none →
     mode < 3 → sectorRefused s.hw c hd (if write then 3 else mode) zbp = false → c < 4 →
     ∃ t, exec (.sectorStart c hd group zbp seed mode write buf cuts signal) s = .next t ∧ getF t.hw CH_STAT_ACTIVE (inst c) = 1 ∧
     getF t.hw CH_STAT_AMODE (inst c) = (if write then 3 else mode) ∧ getF t.hw CH_STAT_HEAD (inst c) = hd % 16 ∧
     getF t.hw CH_NBP_NBP (inst c) = chNbp s.hw c zbp ∧ ((ch t.hw c).cur.map (fun (x : ChSector) => (x.head, x.group, x.mode, x.nbp, x.slot))) = some (hd, group, (if write then 3 else mode), chNbp s.hw c zbp, nextSlot (ch s.hw c)) ∧
     (ch t.hw c).nextId = (ch s.hw c).nextId + 1 ∧ t.hw.mem = s.hw.mem ∧ t.vault = s.vault ∧ t.pending = s.pending) ∧
  (∀ (c hd group zbp seed mode buf : Nat) (cuts : List Nat) (signal : List Stretch) (s : State), (ch s.hw c).cur = none → mode < 3 →
     chUp s.hw c = true → sectorRefused s.hw c hd mode zbp = true →
     ∃ t, exec (.sectorStart c hd group zbp seed mode false buf cuts signal) s = .next t ∧ getF t.hw FM_SIRQS_REFUSE (inst c) = 1 ∧
     (ch t.hw c) = (ch s.hw c) ∧ t.hw.mem = s.hw.mem ∧ t.vault = s.vault ∧ t.pending = s.pending) ∧
  (∀ (c : Nat) (x : ChSector) (p : Nat × Nat) (rest : List (Nat × Nat)) (s : State), (ch s.hw c).cur = some x → x.spans = p :: rest →
     c < 4 → ∃ t, exec (.thermalAsperity c) s = .next t ∧ getF t.hw CH_IRQS_TA (inst c) = 1 ∧
     (ch t.hw c).cur = some { x with asperity := true, spans := rest, found := x.found ++ [p] } ∧ t.hw.mem = s.hw.mem ∧ t.vault = s.vault ∧
     t.pending = s.pending) ∧
  (∀ (c : Nat) (x : ChSector) (s : State), (ch s.hw c).cur = some x → x.slipDue = true → c < 4 → ∃ t, exec (.timingSlip c) s = .next t ∧
     getF t.hw CH_IRQS_SLIP (inst c) = 1 ∧ getF t.hw CH_TSTAT_SLIP (inst c) = 1 ∧ getF t.hw CH_STAT_LOCK (inst c) = x.locked.toNat ∧
     (ch t.hw c).cur = some { x with slipped := true, slipDue := false } ∧ t.hw.mem = s.hw.mem ∧ t.vault = s.vault ∧ t.pending = s.pending) ∧
  (∀ (c : Nat) (x : ChSector) (s : State), chUp s.hw c = true → (ch s.hw c).queue = [x] → x.write = false →
     ∃ t, exec (.codewordDecoded c 0) s = .next t ∧ ((flyGlobal s.hw c x).1.unsat = 0 → (ch t.hw c).queue = [] ∧
     getF t.hw CH_DSTAT_RESULT (inst c) = 0 ∧ getF t.hw CH_DSTAT_UNSAT (inst c) = 0 ∧
     (ch t.hw c).results.map (fun (r : ChResult) => (r.sector, r.result, r.cand, r.text)) = (ch s.hw c).results.map (fun (r : ChResult) => (r.sector, r.result, r.cand, r.text)) ++ [((flyGlobal s.hw c x).1, 0, 1, (flyGlobal s.hw c x).2)]) ∧
     ((flyGlobal s.hw c x).1.unsat ≠ 0 → (flyGlobal s.hw c x).1.globals < latchedGi (flyGlobal s.hw c x).1 →
     (ch t.hw c).queue = [(flyGlobal s.hw c x).1]) ∧ ((flyGlobal s.hw c x).1.unsat ≠ 0 →
     latchedGi (flyGlobal s.hw c x).1 ≤ (flyGlobal s.hw c x).1.globals → (ch t.hw c).queue = [] ∧ getF t.hw CH_IRQS_OTF (inst c) = 1 ∧
     ((ch s.hw c).pinned.length < latchedPin x → (ch t.hw c).pinned.length = (ch s.hw c).pinned.length + 1)) ∧ t.hw.mem = s.hw.mem ∧
     t.vault = s.vault ∧ t.pending = s.pending) ∧
  (∀ (c : Nat) (x y : ChSector) (ys : List ChSector) (s : State), (ch s.hw c).cur = some x → x.write = false → x.acqFail = false →
     x.cands ≠ [] → (ch s.hw c).queue = y :: ys → ys.length = 5 → y.write = false → x.id ≠ y.id → (∀ z ∈ ys, z.id ≠ y.id) → c < 4 →
     ∃ t, exec (.decoderQueueOverflow c) s = .next t ∧ (ch t.hw c).queue.map (fun (z : ChSector) => z.id) = ys.map (fun (z : ChSector) => z.id) ++ [x.id] ∧
     (ch t.hw c).cur = none ∧ getF t.hw CH_IRQS_OTF (inst c) = 1 ∧ t.hw.mem = s.hw.mem ∧ t.vault = s.vault ∧ t.pending = s.pending) ∧
  (∀ (c n : Nat) (x : ChSector) (s : State), (ch s.hw c).pinned = [x] → (ch s.hw c).queue.length < 2 → retryTask x = .candidate n → c < 4 →
     ∃ t, exec (.bufferRetry c) s = .next t ∧ ((decodeSlot x x.words x.mode false (slotSamples s.hw c x) (candidateOffset x n) (latchedGi x) (latchedLi x)).unsat = 0 →
     (ch t.hw c).pinned = [] ∧ getF t.hw CH_IRQS_RTRY (inst c) = 1 ∧ getF t.hw CH_DSTAT_RESULT (inst c) = 2 ∧
     getF t.hw CH_DSTAT_RSTEP (inst c) = 0 ∧ (((ch t.hw c).results.map (fun (r : ChResult) => (r.sector.id, r.result, r.cand))).getLast?) = some (x.id, 2, n)) ∧
     t.hw.mem = s.hw.mem ∧ t.vault = s.vault ∧ t.pending = s.pending) ∧
  (∀ (c n : Nat) (x : ChSector) (s : State), (ch s.hw c).pinned = [x] → (ch s.hw c).queue.length < 2 → retryTask x = .step n → c < 4 →
     ∃ t, exec (.bufferRetry c) s = .next t ∧ ((retryStep s.hw c x n (candidateOffset x (bestCandidate x))).unsat = 0 →
     (ch t.hw c).pinned = [] ∧ getF t.hw CH_IRQS_RTRY (inst c) = 1 ∧ getF t.hw CH_DSTAT_RESULT (inst c) = 2 ∧
     getF t.hw CH_DSTAT_RSTEP (inst c) = n ∧ (((ch t.hw c).results.map (fun (r : ChResult) => (r.sector.id, r.result, r.step))).getLast?) = some (x.id, 2, n)) ∧
     t.hw.mem = s.hw.mem ∧ t.vault = s.vault ∧ t.pending = s.pending) ∧
  (∀ (c : Nat) (x : ChSector) (s : State), (ch s.hw c).pinned = [x] → (ch s.hw c).queue.length < 2 → retryTask x = .fail → c < 4 →
     ∃ t, exec (.bufferRetry c) s = .next t ∧ (ch t.hw c).pinned = [] ∧ getF t.hw CH_IRQS_RTRY (inst c) = 1 ∧
     getF t.hw CH_DSTAT_RESULT (inst c) = 1 ∧ (ch t.hw c).results.map (fun (r : ChResult) => (r.sector, r.result, r.cand)) = (ch s.hw c).results.map (fun (r : ChResult) => (r.sector, r.result, r.cand)) ++ [(x, 1, bestCandidate x)] ∧
     t.hw.mem = s.hw.mem ∧ t.vault = s.vault ∧ t.pending = s.pending) ∧
  (∀ (c : Nat) (x : ChSector) (s : State), chUp s.hw c = true → (ch s.hw c).queue = [x] → x.write = true → untaken s.hw c < 4 →
     ∃ t, exec (.verifyReport c) s = .next t ∧ (ch t.hw c).queue = [] ∧
     getF t.hw CH_VSTAT_RAW (inst c) = min 65535 (verifySector x (slotSamples s.hw c x) (latchedVli x) false).raw ∧
     getF t.hw CH_VSTAT_WEAK (inst c) = min 1023 (verifySector x (slotSamples s.hw c x) (latchedVli x) false).weak ∧
     (((ch t.hw c).reports.map (fun (v : VReport) => (v.id, v.raw, v.conv))).getLast?) = some (x.id, min 65535 (verifySector x (slotSamples s.hw c x) (latchedVli x) false).raw, (verifySector x (slotSamples s.hw c x) (latchedVli x) false).conv) ∧
     (ch t.hw c).reports.length = (ch s.hw c).reports.length + 1 ∧ t.hw.mem = s.hw.mem ∧ t.vault = s.vault ∧ t.pending = s.pending) ∧
  (∀ (c : Nat) (d : AdaptDue) (s : State), (ch s.hw c).due = [d] → d.hfeWritten = false → c < 4 → ∃ t, exec (.adapterUpdate c) s = .next t ∧
     (ch t.hw c).due = [] ∧ getReg t.hw (CH_HFE0 + chHead c d.head) = d.frontEnd % 2 ^ 32 ∧ t.hw.mem = s.hw.mem ∧ t.vault = s.vault ∧
     t.pending = s.pending) ∧
  (∀ (c : Nat) (d : AdaptDue) (s : State), (ch s.hw c).due = [d] → d.dropped = false → d.write = false →
     bitAt (ch s.hw c).setsValid (setKey d.head d.group) = true → flagF s.hw CH_ADAPT_ACT (inst c) = false →
     zget (ch s.hw c).suspended (setKey d.head d.group) = 0 → latched CH_ADAPT_PEN d.adapt = 1 → latched CH_ADAPT_NPEN d.adapt = 0 →
     latched CH_ADAPT_REVEN d.adapt = 0 → c < 4 → ∃ t, exec (.adapterUpdate c) s = .next t ∧ (ch t.hw c).due = [] ∧
     (∀ i ∈ List.range 18, zget (ch t.hw c).active (64 * (setKey d.head d.group) + i) = zget (moveSet (ch s.hw c).active (setKey d.head d.group) (max 8 (latched CH_ADAPT_MUE d.adapt)) (max 8 (latched CH_ADAPT_MUG d.adapt)) false d.sums) (64 * (setKey d.head d.group) + i)) ∧
     zget (ch t.hw c).updated (setKey d.head d.group) = s.hw.log.optime + 1 ∧
     zget (ch t.hw c).total (setKey d.head d.group) = zget (ch s.hw c).total (setKey d.head d.group) + 1 ∧
     zget (ch t.hw c).mse (setKey d.head d.group) = d.sums.mse ∧ getF t.hw CH_AMSE_MSE (inst c) = min 65535 d.sums.mse ∧
     t.hw.mem = s.hw.mem ∧ t.vault = s.vault ∧ t.pending = s.pending) ∧
  (∀ (c hd z : Nat) (s : State), chUp s.hw c = true → headExists s.hw hd = true → z < 8 → setStale s.hw c (setKey hd z) = true →
     (ch s.hw c).areqs = [] → flagF s.hw CH_ASTAT_AREQ (inst c) = false → ∃ t, exec (.activeAdaptationRequest c hd z) s = .next t ∧
     getF t.hw CH_ASTAT_AREQ (inst c) = 1 ∧ getF t.hw CH_ASTAT_AHEAD (inst c) = hd ∧ getF t.hw CH_ASTAT_AGRP (inst c) = z ∧
     getF t.hw CH_IRQS_AREQ (inst c) = 1 ∧ t.hw.mem = s.hw.mem ∧ t.vault = s.vault ∧ t.pending = s.pending) ∧
  (∀ (c : Nat) (s : State), chUp s.hw c = true → (ch s.hw c).areqs = [] → ∃ t, exec (.areqClear c) s = .next t ∧
     getF t.hw CH_ASTAT_AREQ (inst c) = 0 ∧ (ch t.hw c) = (ch s.hw c) ∧ t.hw.mem = s.hw.mem ∧ t.vault = s.vault ∧ t.pending = s.pending) ∧
  (∀ (c data : Nat) (s : State), chUp s.hw c = true → bitAt data 31 = false → ∃ t, exec (.chTaddrWrite c data) s = .next t ∧
     getF t.hw CH_TADDR_HEAD (inst c) = bits 24 22 data ∧ getF t.hw CH_TADDR_GRP (inst c) = bits 21 19 data ∧
     getF t.hw CH_TADDR_WORD (inst c) = bits 5 0 data ∧ (ch t.hw c).active = (ch s.hw c).active ∧ t.hw.mem = s.hw.mem ∧ t.vault = s.vault ∧
     t.pending = s.pending) ∧
  (∀ (c data : Nat) (s : State), chUp s.hw c = true → bits 24 22 data ≤ 5 → (ch s.hw c).cur = none →
     (ch s.hw c).taddr = some (setKey (bits 24 22 data) (bits 21 19 data)) → ∃ t, exec (.coefficientCommit c data) s = .next t ∧
     getF t.hw CH_IRQS_CMT (inst c) = 1 ∧ bitAt (ch t.hw c).setsValid (setKey (bits 24 22 data) (bits 21 19 data)) = true ∧
     (ch t.hw c).active = copySet (ch s.hw c).staging (ch s.hw c).active (setKey (bits 24 22 data) (bits 21 19 data)) ∧
     t.hw.mem = s.hw.mem ∧ t.vault = s.vault ∧ t.pending = s.pending) ∧
  (∀ (c data : Nat) (s : State), chUp s.hw c = true → getF s.hw CH_TADDR_HEAD (inst c) ≤ 5 →
     ∃ t, exec (.chTdataAccess c true data) s = .next t ∧ zget (ch t.hw c).staging (64 * setKey (getF s.hw CH_TADDR_HEAD (inst c)) (getF s.hw CH_TADDR_GRP (inst c)) + getF s.hw CH_TADDR_WORD (inst c)) = data % 2 ^ wordBits (getF s.hw CH_TADDR_WORD (inst c)) ∧
     getF t.hw CH_TADDR_WORD (inst c) = (getF s.hw CH_TADDR_WORD (inst c) + 1) % 64 ∧ (ch t.hw c).active = (ch s.hw c).active ∧
     t.hw.mem = s.hw.mem ∧ t.vault = s.vault ∧ t.pending = s.pending) ∧
  (∀ (c data : Nat) (s : State), chUp s.hw c = true → getF s.hw CH_TADDR_HEAD (inst c) ≤ 5 → flagF s.hw CH_TADDR_SRC (inst c) = true →
     ∃ t, exec (.chTdataAccess c false data) s = .next t ∧ t.hw.out = [Output.word (BitVec.ofNat 32 (zget (ch s.hw c).active (64 * setKey (getF s.hw CH_TADDR_HEAD (inst c)) (getF s.hw CH_TADDR_GRP (inst c)) + getF s.hw CH_TADDR_WORD (inst c))))] ∧
     (ch t.hw c) = (ch s.hw c) ∧ t.hw.mem = s.hw.mem ∧ t.vault = s.vault ∧ t.pending = s.pending) ∧
  (∀ (c : Nat) (s : State), populated s.hw c = true → (ch s.hw c).commitDue = [] → ∃ t, exec (.channelReinitialise c false) s = .next t ∧
     (ch t.hw c).cur = none ∧ (ch t.hw c).queue = [] ∧ (ch t.hw c).pinned = [] ∧ (ch t.hw c).active = (ch s.hw c).active ∧
     getF t.hw CH_STAT_QUEUE (inst c) = 0 ∧ getF t.hw CH_STAT_PINNED (inst c) = 0 ∧ t.hw.mem = s.hw.mem ∧ t.vault = s.vault ∧
     t.pending = s.pending) ∧
  (∀ (c : Nat) (x : ChSector) (s : State), populated s.hw c = true → (ch s.hw c).cur = some x → x.write = false →
     ∃ t, exec (.channelReinitialise c true) s = .next t ∧ (ch t.hw c).cur = none ∧ getF t.hw CH_DSTAT_RESULT (inst c) = 3 ∧
     t.hw.mem = s.hw.mem ∧ t.vault = s.vault ∧ t.pending = s.pending)

/-- The sector path (R255, R257, R260, R264-R268, R272, R274-R279, R309-R314) and the wedge counter (R307): where each event completes,
and what it leaves. -/
def Obligations.SectorPathCompletes : Prop :=
  (∀ (c : Nat) (signal : List Stretch) (d : Desc) (z : Zone) (s : State), (fm s.hw c).sq = [d] → midUp s.hw c = true →
     (fm s.hw c).reports.length < 8 → (fm s.hw c).ploss = false → (path s.hw c).again = [] → descKind d = 0 →
     descRefused s.hw c d 0 = false → trackZone s.hw c (descHead d) (descTrack d) = some z → (ch s.hw c).cur = none → bits 23 22 d.w0 < 3 →
     sectorRefused s.hw c (descHead d) (bits 23 22 d.w0) z.zbp = false → ∃ t, exec (.descriptorStart c signal) s = .next t ∧
     getF t.hw CH_STAT_ACTIVE (inst c) = 1 ∧ (fm t.hw c).sq = [] ∧
     (fm t.hw c).started = (fm s.hw c).started ++ [({ desc := d, pos := (((fm t.hw c).started.map (fun (o : OpenDesc) => o.pos)).getLast?).getD 0, id := (ch s.hw c).nextId, refused := false, skipped := false, lost := false } : OpenDesc)] ∧
     ((ch t.hw c).cur.map (fun (x : ChSector) => (x.id, x.head, x.write, x.nbp))) = some ((ch s.hw c).nextId, descHead d, false, chNbp s.hw c z.zbp) ∧
     (path t.hw c).works.any (fun (w : SecWork) => w.id == (ch s.hw c).nextId && w.head == descHead d && w.track == descTrack d && w.index == descIndex d && !w.write && !w.finished) = true ∧
     t.hw.mem = s.hw.mem ∧ t.vault = s.vault ∧ t.pending = s.pending) ∧
  (∀ (c : Nat) (signal : List Stretch) (d : Desc) (s : State), (fm s.hw c).sq = [d] → midUp s.hw c = true → (fm s.hw c).reports.length < 8 →
     (fm s.hw c).ploss = false → (path s.hw c).again = [] → descKind d = 0 → descTrack d ≠ getF s.hw SV_POS_TRACK (inst c) →
     ∃ t, exec (.descriptorStart c signal) s = .next t ∧ (fm t.hw c).sq = [] ∧
     ((fm t.hw c).started.map (fun (o : OpenDesc) => o.refused)).getLast? = some true ∧ (ch t.hw c) = (ch s.hw c) ∧ t.hw.mem = s.hw.mem ∧
     t.vault = s.vault ∧ t.pending = s.pending) ∧
  (∀ (c : Nat) (signal : List Stretch) (d : Desc) (s : State), (fm s.hw c).sq = [d] → midUp s.hw c = true → (fm s.hw c).reports.length < 8 →
     (fm s.hw c).ploss = false → (path s.hw c).again = [] → descKind d = 2 → 4 ≤ untaken s.hw c →
     ∃ t, exec (.descriptorStart c signal) s = .next t ∧ (fm t.hw c).sq = [] ∧
     ((fm t.hw c).started.map (fun (o : OpenDesc) => (o.skipped, o.lost))).getLast? = some (true, true) ∧
     (ch t.hw c) = { (ch s.hw c) with nextId := (ch s.hw c).nextId + 1 } ∧ t.hw.mem = s.hw.mem ∧ t.vault = s.vault ∧ t.pending = s.pending) ∧
  (∀ (c : Nat) (o : OpenDesc) (v : VReport) (s : State), (fm s.hw c).started = [o] → (fm s.hw c).reports.length < 8 → descKind o.desc = 2 →
     o.refused = false → o.lost = false → o.direct = false → (ch s.hw c).reports = [v] → v.id = o.id → c < 4 →
     ∃ t, exec (.descriptorReport c) s = .next t ∧ (fm t.hw c).started = [] ∧
     ((fm t.hw c).reports.map (fun (r : Rpt) => bits 28 27 r.r0)).getLast? = some (gradeOf s.hw c v) ∧
     getF t.hw FM_WSTAT_OUT (inst c) = gradeOf s.hw c v ∧ (ch t.hw c).reports = [] ∧ t.hw.mem = s.hw.mem ∧ t.vault = s.vault ∧
     t.pending = s.pending) ∧
  (∀ (c : Nat) (o : OpenDesc) (r : ChResult) (w : SecWork) (s : State), (fm s.hw c).started = [o] → (fm s.hw c).reports.length < 8 →
     descKind o.desc = 0 → o.refused = false → (ch s.hw c).results = [r] → r.sector.id = o.id → r.result = 0 → r.cand = 1 →
     (path s.hw c).works = [w] → w.id = o.id → w.finished = false → w.tries = 1 → c < 4 → ∃ t, exec (.descriptorReport c) s = .next t ∧
     (fm t.hw c).started = [] ∧ ((fm t.hw c).reports.map (fun (r : Rpt) => bits 28 27 r.r0)).getLast? = some 0 ∧
     getF t.hw FM_RSTAT_OUT (inst c) = 0 ∧ getF t.hw FM_RSTAT_CAND (inst c) = 1 ∧ (ch t.hw c).results = [] ∧
     (path t.hw c).works = [{ w with finished := true, failed := false }] ∧ t.hw.mem = (storeText s.hw c (descBuf o.desc) r.text).mem ∧
     t.vault = s.vault ∧ t.pending = s.pending) ∧
  (∀ (c : Nat) (x : ChSector) (s : State), (ch s.hw c).cur = some x → x.write = false → x.acqFail = false → x.cands = [] → c < 4 →
     ∃ t, exec (.markMiss c) s = .next t ∧ (ch t.hw c).cur = none ∧ getF t.hw FM_SIRQS_MISS (inst c) = 1 ∧
     (path t.hw c).missMinute = (path s.hw c).missMinute + 1 ∧ getF t.hw CH_STAT_ACTIVE (inst c) = 0 ∧
     getF t.hw CH_DSTAT_RESULT (inst c) = 1 ∧ (ch t.hw c).results.length = (ch s.hw c).results.length + 1 ∧ t.hw.mem = s.hw.mem ∧
     t.vault = s.vault ∧ t.pending = s.pending) ∧
  (∀ (c : Nat) (s : State), liveVal s.hw (carPath c 0x300) 0x016 0 < (path s.hw c).missMinute → c < 4 →
     ∃ t, exec (.markMissLimit c) s = .next t ∧ getF t.hw FM_SIRQS_MMLIM (inst c) = 1 ∧
     bitAt (unit t.hw (carPath c 0x3F0)).summary 12 = true ∧ (path t.hw c).missMinute = (path s.hw c).missMinute ∧ t.hw.mem = s.hw.mem ∧
     t.vault = s.vault ∧ t.pending = s.pending) ∧
  (∀ (c : Nat) (w : SecWork) (s : State), workWhere s.hw c (fun v => v.failed && !v.write && !v.finished) = some w →
     (fm s.hw c).sq.length < 4 → c < 4 → ∃ t, exec (.readRevolutionRetry c) s = .next t ∧ (fm t.hw c).sq = (fm s.hw c).sq ++ [w.desc] ∧
     (path t.hw c).works = (path s.hw c).works.map (fun (v : SecWork) => if v.id = w.id ∧
     !v.finished then { v with failed := false } else v) ∧ t.hw.mem = s.hw.mem ∧ t.vault = s.vault ∧ t.pending = s.pending) ∧
  (∀ (c : Nat) (ok : Bool) (w : SecWork) (s : State), workWhere s.hw c (fun v => v.failed && v.write && !v.landing && !v.finished) = some w →
     spareDue s.hw c w = false → (fm s.hw c).sq.length < 4 → c < 4 → ∃ t, exec (.homeRewrite c ok) s = .next t ∧
     (fm t.hw c).sq = (fm s.hw c).sq ++ [w.desc] ∧ (path t.hw c).works = (path s.hw c).works.map (fun (v : SecWork) => if v.id = w.id ∧
     !v.finished then { v with failed := false } else v) ∧ t.hw.mem = s.hw.mem ∧ t.vault = s.vault ∧ t.pending = s.pending) ∧
  (∀ (c : Nat) (w : SecWork) (s : State), workWhere s.hw c (spareDue s.hw c) = some w → bandOfTrack s.hw c w.head w.track = none →
     poolEmpty s.hw c = false → c < 4 → ∃ t, exec (.reassign c true) s = .next t ∧ getF t.hw FM_SIRQS_REASG (inst c) = 1 ∧
     getF t.hw FM_WSTAT_SPARE (inst c) = 1 ∧ (path t.hw c).poolFree = (path s.hw c).poolFree - 1 ∧
     ((path t.hw c).grown.map (fun (g : GDef) => (g.head, g.track, g.sect, g.pend))).getLast? = some (w.head, w.track, w.index, false) ∧
     t.hw.mem = s.hw.mem ∧ t.vault = s.vault ∧ t.pending = s.pending) ∧
  (∀ (c : Nat) (w : SecWork) (s : State), workWhere s.hw c (spareDue s.hw c) = some w → poolEmpty s.hw c = true → c < 4 →
     ∃ t, exec (.poolEmpty c) s = .next t ∧ getF t.hw FM_SIRQS_POOLLOW (inst c) = 1 ∧ t.hw.carriages = s.hw.carriages ∧
     t.hw.mem = s.hw.mem ∧ t.vault = s.vault ∧ t.pending = s.pending) ∧
  (∀ (c : Nat) (s : State), midUp s.hw c = true → landFree s.hw c < 131 → ∃ t, exec (.landingFull c) s = .next t ∧
     getF t.hw FM_SIRQS_LFULL (inst c) = 1 ∧ t.hw.carriages = s.hw.carriages ∧ t.hw.mem = s.hw.mem ∧ t.vault = s.vault ∧
     t.pending = s.pending) ∧
  (∀ (c : Nat) (s : State), midUp s.hw c = true → checkpointDue s.hw c = true → ∃ t, exec (.landingCheckpoint c true) s = .next t ∧
     (path t.hw c).check = ({ lhead := lhead s.hw c, ltail := ltail s.hw c, seq := lseq s.hw c, dseq := ldseq s.hw c, pins := (path s.hw c).pins } : LCheck) ∧
     (path t.hw c).sinceCheck = 0 ∧ t.hw.regs = s.hw.regs ∧ t.hw.mem = s.hw.mem ∧ t.vault = s.vault ∧ t.pending = s.pending) ∧
  (∀ (c n : Nat) (s : State), flagF s.hw FM_SQSTAT_RUNOPEN (inst c) = true → n = 0 ∨ n < landSpan s.hw c →
     (fm s.hw c).runEnd = true ∨ 4 ≤ (fm s.hw c).passed + n → lhead s.hw c < ringSize → c < 4 →
     ∃ t, exec (.landingRunClose c n) s = .next t ∧ getF t.hw FM_SQSTAT_RUNOPEN (inst c) = 0 ∧
     lhead t.hw c = (lhead s.hw c + n) % ringSize ∧ (path t.hw c).wg = false ∧ (path t.hw c).htrEn = false ∧
     (path t.hw c).sinceCheck = (path s.hw c).sinceCheck + n ∧ t.hw.mem = s.hw.mem ∧ t.vault = s.vault ∧ t.pending = s.pending) ∧
  (∀ (c : Nat) (x : ChSector) (s : State), (ch s.hw c).cur = some x → x.write = true → flagF s.hw SV_STAT_WUNSAFE (inst c) = true → c < 4 →
     ∃ t, exec (.writeUnsafe c) s = .next t ∧ (ch t.hw c).cur = none ∧ (path t.hw c).wg = false ∧ (path t.hw c).lsrEn = false ∧
     getF t.hw FM_WSTAT_OUT (inst c) = 3 ∧ getF t.hw FM_SIRQS_WINH (inst c) = 1 ∧ t.hw.mem = s.hw.mem ∧ t.vault = s.vault ∧
     t.pending = s.pending) ∧
  (∀ (c : Nat) (s : State), (path s.hw c).noWrite = true → c < 4 → ∃ t, exec (.powerLossSectorEnd c) s = .next t ∧
     (path t.hw c).wg = false ∧ (path t.hw c).htrEn = false ∧ (ch t.hw c).cur = none ∧ t.hw.mem = s.hw.mem ∧ t.vault = s.vault ∧
     t.pending = s.pending) ∧
  (∀ (c : Nat) (s : State), midUp s.hw c = true → (fm s.hw c).ploss = true → ∃ t, exec (.stuPowerLoss c) s = .next t ∧ (fm t.hw c).sq = [] ∧
     bitAt (getF t.hw FM_INT_PEND (inst c)) 0 = true ∧ getF t.hw FM_SQSTAT_SQ (inst c) = 0 ∧ t.hw.mem = s.hw.mem ∧ t.vault = s.vault ∧
     t.pending = s.pending) ∧
  (∀ (c : Nat) (s : State), midUp s.hw c = true → ∃ t, exec (.servoGateRise c) s = .next t ∧ getF t.hw FM_BC_BC (inst c) = 0 ∧
     getF t.hw FM_BC_WEDGE (inst c) = (getF s.hw FM_BC_WEDGE (inst c) + 1) % 640 ∧ (path t.hw c).sg = true ∧ (path t.hw c).wg = false ∧
     t.hw.mem = s.hw.mem ∧ t.vault = s.vault ∧ t.pending = s.pending) ∧
  (∀ (c bc : Nat) (s : State), midUp s.hw c = true → ∃ t, exec (.servoAddressMark c bc) s = .next t ∧
     getF t.hw FM_BC_BC (inst c) = getF s.hw FM_SGT_SAMB (inst c) ∧ t.hw.mem = s.hw.mem ∧ t.vault = s.vault ∧ t.pending = s.pending)

/-- The micro-sequencer (R285, R286, R289, R290, R292, R296, R297, R298, R299-R306, R317, R320): where each event completes, and what it
leaves. -/
def Obligations.FormatterCompletes : Prop :=
  (∀ (c : Nat) (s : State), midUp s.hw c = true → ∃ t, exec (.controlStoreCopyDone c) s = .next t ∧ (fm t.hw c).copied = true ∧
     getF t.hw FM_BRG_FAR (inst c) = 0 ∧ t.hw.mem = s.hw.mem ∧ t.vault = s.vault ∧ t.pending = s.pending) ∧
  (∀ (c : Nat) (s : State), midUp s.hw c = true → (fm s.hw c).queue.length < 16 → ∃ t, exec (.fmRqpush c) s = .next t ∧
     (fm t.hw c).queue = (fm s.hw c).queue ++ [({ opc := bits 31 24 (getF s.hw FM_RQW_WORD (inst c + 0)), src := true, tag := bits 15 0 (getF s.hw FM_RQW_WORD (inst c + 0)), w1 := getF s.hw FM_RQW_WORD (inst c + 4), w2 := getF s.hw FM_RQW_WORD (inst c + 8), w3 := getF s.hw FM_RQW_WORD (inst c + 12) } : FmReq)] ∧
     getF t.hw FM_RQSTAT_DEPTH (inst c) = (fm s.hw c).queue.length + 1 ∧ t.hw.mem = s.hw.mem ∧ t.vault = s.vault ∧ t.pending = s.pending) ∧
  (∀ (c : Nat) (s : State), midUp s.hw c = true → 16 ≤ (fm s.hw c).queue.length → ∃ t, exec (.fmRqpush c) s = .next t ∧
     getF t.hw FM_MIRQS_RQDROP (inst c) = 1 ∧ t.hw.carriages = s.hw.carriages ∧ t.hw.mem = s.hw.mem ∧ t.vault = s.vault ∧
     t.pending = s.pending) ∧
  (∀ (c opc tag w1 w2 w3 : Nat) (s : State), midUp s.hw c = true → (fm s.hw c).queue.length < 16 → opc < 256 → tag < 65536 → w1 < 2 ^ 32 →
     w2 < 2 ^ 32 → w3 < 2 ^ 32 → ∃ t, exec (.engineRequestPush c opc tag w1 w2 w3) s = .next t ∧
     (fm t.hw c).queue = (fm s.hw c).queue ++ [({ opc := opc, src := false, tag := tag, w1 := w1, w2 := w2, w3 := w3 } : FmReq)] ∧
     t.hw.mem = s.hw.mem ∧ t.vault = s.vault ∧ t.pending = s.pending) ∧
  (∀ (c : Nat) (r : FmReq) (rest : List FmReq) (s : State), (fm s.hw c).queue = r :: rest → midUp s.hw c = true →
     (fm s.hw c).copied = true → flagF s.hw FM_MCTL_RUN (inst c) = true → flagF s.hw FM_MSTAT_IDLE (inst c) = true →
     flagF s.hw FM_MSTAT_FHALT (inst c) = false → 1 ≤ r.opc → r.opc ≤ 10 → pendingLevel s.hw c = none →
     r.src = true ∨ r.opc = 7 ∨ (cal s.hw c).step = none → ∃ t, exec (.routineStart c) s = .next t ∧ (fm t.hw c).running = some r ∧
     (fm t.hw c).queue = rest ∧ getF t.hw FM_MSTAT_PC (inst c) = r.opc * 8 ∧ getF t.hw FM_MSTAT_IDLE (inst c) = 0 ∧ (fm t.hw c).spd = 0 ∧
     t.hw.mem = s.hw.mem ∧ t.vault = s.vault ∧ t.pending = s.pending) ∧
  (∀ (c : Nat) (r : FmReq) (rest : List FmReq) (s : State), (fm s.hw c).queue = r :: rest → midUp s.hw c = true →
     (fm s.hw c).copied = true → flagF s.hw FM_MCTL_RUN (inst c) = true → flagF s.hw FM_MSTAT_IDLE (inst c) = true →
     flagF s.hw FM_MSTAT_FHALT (inst c) = false → 10 < r.opc → trapOf (fm s.hw c) (r.opc * 8) = none → r.src = true →
     pendingLevel s.hw c = none → ∃ t, exec (.routineStart c) s = .next t ∧ (fm t.hw c).queue = rest ∧
     getF t.hw FM_RQDONE_STATUS (inst c) = 3 ∧ getF t.hw FM_RQDONE_TAG (inst c) = r.tag % 65536 ∧ getF t.hw FM_MIRQS_DONE (inst c) = 1 ∧
     t.hw.mem = s.hw.mem ∧ t.vault = s.vault ∧ t.pending = s.pending) ∧
  (∀ (c pc raw : Nat) (s : State), sequencing s.hw c = true → (fm s.hw c).rom = false → levelNow s.hw c = none →
     fetchWord s.hw c (getF s.hw FM_MSTAT_PC (inst c)) = some (pc, raw) → legalWord raw = true → (splitWord raw).seq = 0 →
     (splitWord raw).safe = false → (splitWord raw).iop = 0 → (splitWord raw).aop ≠ 0 → (splitWord raw).aop ≠ 8 → (splitWord raw).aop ≠ 9 →
     (splitWord raw).aop ≠ 11 → (splitWord raw).bimm = true → (splitWord raw).dst ≠ 0 → (fm s.hw c).spd + (splitWord raw).cyc + 1 < 1024 →
     ∃ t, exec (.microword c) s = .next t ∧ gReg (fm t.hw c) (splitWord raw).dst = (alu (splitWord raw).aop (gReg (fm s.hw c) (splitWord raw).srca) (splitWord raw).imm false).1 ∧
     (fm t.hw c).carry = (alu (splitWord raw).aop (gReg (fm s.hw c) (splitWord raw).srca) (splitWord raw).imm false).2 ∧
     getF t.hw FM_MSTAT_PC (inst c) = (pc + 1) % 2 ^ 14 ∧ (fm t.hw c).spd = (fm s.hw c).spd + (splitWord raw).cyc + 1 ∧
     t.hw.mem = s.hw.mem ∧ t.vault = s.vault ∧ t.pending = s.pending) ∧
  (∀ (c pc raw : Nat) (s : State), sequencing s.hw c = true → (fm s.hw c).waiting = true → (fm s.hw c).rom = false →
     levelNow s.hw c = none → fetchWord s.hw c (getF s.hw FM_MSTAT_PC (inst c)) = some (pc, raw) → (splitWord raw).seq = 7 →
     (splitWord raw).safe = false → (condValue s.hw c (splitWord raw).cond != (splitWord raw).cpol) = true →
     (fm s.hw c).spd + (splitWord raw).cyc + 1 < 1024 → ∃ t, exec (.waitConditionMet c) s = .next t ∧ (fm t.hw c).waiting = false ∧
     getF t.hw FM_MSTAT_PC (inst c) = (pc + 1) % 2 ^ 14 ∧ t.hw.mem = s.hw.mem ∧ t.vault = s.vault ∧ t.pending = s.pending) ∧
  (∀ (c : Nat) (s : State), midUp s.hw c = true → (fm s.hw c).sq.length < 4 → ∃ t, exec (.sqPush c) s = .next t ∧
     (fm t.hw c).sq = (fm s.hw c).sq ++ [(fm s.hw c).desc] ∧ getF t.hw FM_SQSTAT_SQ (inst c) = (fm s.hw c).sq.length + 1 ∧
     t.hw.mem = s.hw.mem ∧ t.vault = s.vault ∧ t.pending = s.pending) ∧
  (∀ (c v : Nat) (s : State), midUp s.hw c = true → (fm s.hw c).sif = [] → (fm s.hw c).wire = none → ∃ t, exec (.sif c v) s = .next t ∧
     (fm t.hw c).sif = [({ command := bits 31 16 v, data := bits 15 0 v, again := false } : SifFrame)] ∧ (fm t.hw c).wire = some true ∧
     t.hw.out = [Output.preamp c (bits 31 16 v) (bits 15 0 v)] ∧ t.hw.regs = s.hw.regs ∧ t.hw.mem = s.hw.mem ∧ t.vault = s.vault ∧
     t.pending = s.pending) ∧
  (∀ (c : Nat) (r : Rpt) (rest : List Rpt) (s : State), midUp s.hw c = true → (fm s.hw c).reports = r :: rest →
     ∃ t, exec (.rptTake c) s = .next t ∧ (fm t.hw c).taken = r ∧ (fm t.hw c).reports = rest ∧ t.hw.mem = s.hw.mem ∧ t.vault = s.vault ∧
     t.pending = s.pending) ∧
  (∀ (c : Nat) (s : State), midUp s.hw c = true → ∃ t, exec (.sqFlush c) s = .next t ∧ (fm t.hw c).sq = [] ∧
     getF t.hw FM_SQSTAT_SQ (inst c) = 0 ∧ (fm t.hw c).started = (fm s.hw c).started ∧ t.hw.mem = s.hw.mem ∧ t.vault = s.vault ∧
     t.pending = s.pending) ∧
  (∀ (c status : Nat) (r : FmReq) (s : State), midUp s.hw c = true → (fm s.hw c).running = some r → (fm s.hw c).done = false →
     r.src = true → ∃ t, exec (.reqDone c status) s = .next t ∧ (fm t.hw c).done = true ∧
     getF t.hw FM_RQDONE_STATUS (inst c) = status % 16 ∧ getF t.hw FM_RQDONE_TAG (inst c) = r.tag % 65536 ∧
     getF t.hw FM_MIRQS_DONE (inst c) = 1 ∧ t.hw.mem = s.hw.mem ∧ t.vault = s.vault ∧ t.pending = s.pending) ∧
  (∀ (c v : Nat) (r : FmReq) (s : State), midUp s.hw c = true → (fm s.hw c).running = some r →
     exec (.sect c v) s = .next { s with hw := { s.hw with out := [Output.engine c r.tag 0x100 v] } }) ∧
  (∀ (c v : Nat) (s : State), midUp s.hw c = true → ∃ t, exec (.fwIrq c v) s = .next t ∧
     getF t.hw FM_MIRQS_USER (inst c) = (getF s.hw FM_MIRQS_USER (inst c) ||| v % 256) ∧ t.hw.carriages = s.hw.carriages ∧
     t.hw.mem = s.hw.mem ∧ t.vault = s.vault ∧ t.pending = s.pending) ∧
  (∀ (c hd track : Nat) (s : State), midUp s.hw c = true → headsPer s.hw ≤ hd → ∃ t, exec (.seek c hd track) s = .next t ∧
     getF t.hw SV_IRQS_SKERR (inst c) = 1 ∧ t.hw.carriages = s.hw.carriages ∧ t.hw.mem = s.hw.mem ∧ t.vault = s.vault ∧
     t.pending = s.pending) ∧
  (∀ (c hd track : Nat) (s : State), midUp s.hw c = true → hd < headsPer s.hw → fenced s.hw (servoHead c hd) = false →
     track < tracksOf s.hw c hd → svState s.hw c ≠ svOff → svState s.hw c ≠ svParked → svState s.hw c ≠ svFollow →
     ∃ t, exec (.seek c hd track) s = .next t ∧ (sv t.hw c).held = some (hd, track) ∧ t.hw.regs = s.hw.regs ∧ t.hw.mem = s.hw.mem ∧
     t.vault = s.vault ∧ t.pending = s.pending) ∧
  (∀ (c : Nat) (s : State), midUp s.hw c = true → ((path s.hw c).grown.filter (fun (g : GDef) => !(g.head == bits 7 0 (zget (fm s.hw c).defs 0) && g.track == zget (fm s.hw c).defs 1 && g.sect == bits 31 16 (zget (fm s.hw c).defs 0)))).length < 16384 →
     ∃ t, exec (.defadd c) s = .next t ∧ ((path t.hw c).grown.map (fun (g : GDef) => (g.head, g.track, g.sect, g.spare, g.cause))).getLast? = some (bits 7 0 (zget (fm s.hw c).defs 0), zget (fm s.hw c).defs 1, bits 31 16 (zget (fm s.hw c).defs 0), zget (fm s.hw c).defs 2, bits 7 0 (zget (fm s.hw c).defs 3)) ∧
     getF t.hw FM_DEFS_GUSED (inst c) = (path t.hw c).grown.length % 65536 ∧ t.hw.mem = s.hw.mem ∧ t.vault = s.vault ∧
     t.pending = s.pending) ∧
  (∀ (c seq : Nat) (s : State), midUp s.hw c = true → ∃ t, exec (.lidx c seq) s = .next t ∧
     lget t.hw.buffer.landIndex c = (lget s.hw.buffer.landIndex c).filter (fun q => !(q == seq)) ∧ t.hw.carriages = s.hw.carriages ∧
     t.hw.regs = s.hw.regs ∧ t.hw.mem = s.hw.mem ∧ t.vault = s.vault ∧ t.pending = s.pending) ∧
  (∀ (c : Nat) (s : State), sequencing s.hw c = true → ∃ t, exec (.halt c) s = .next t ∧ (fm t.hw c).running = none ∧
     getF t.hw FM_MSTAT_IDLE (inst c) = 1 ∧ getF t.hw FM_RQSTAT_RUNNING (inst c) = 0 ∧ t.hw.mem = s.hw.mem ∧ t.vault = s.vault ∧
     t.pending = s.pending) ∧
  (∀ (c : Nat) (s : State), sequencing s.hw c = true → flagF s.hw FM_MSTAT_IACT (inst c) = true → getF s.hw FM_MSTAT_ILEV (inst c) ≠ 0 →
     (fm s.hw c).stack.length = (fm s.hw c).entryDepth → (fm s.hw c).fromIdle = false → ∃ t, exec (.iret c) s = .next t ∧
     getF t.hw FM_MSTAT_IACT (inst c) = 0 ∧ getF t.hw FM_MSTAT_PC (inst c) = getF s.hw FM_IRET_VALUE (inst c) % 2 ^ 14 ∧
     (fm t.hw c).zero = bitAt (fm s.hw c).savedFlags 0 ∧ t.hw.mem = s.hw.mem ∧ t.vault = s.vault ∧ t.pending = s.pending) ∧
  (∀ (c : Nat) (s : State), sequencing s.hw c = true → (fm s.hw c).rom = false → overrunDue s.hw c = true →
     ∃ t, exec (.safePointOverrun c) s = .next t ∧ (fm t.hw c).running = none ∧ (fm t.hw c).sq = [] ∧ (fm t.hw c).reports = [] ∧
     t.hw.mem = s.hw.mem ∧ t.vault = s.vault ∧ t.pending = s.pending) ∧
  (∀ (c n : Nat) (s : State), pendingLevel s.hw c = some n → midUp s.hw c = true → flagF s.hw FM_MSTAT_FHALT (inst c) = false →
     (fm s.hw c).copied = true → flagF s.hw FM_MSTAT_IDLE (inst c) = true → flagF s.hw FM_MSTAT_IACT (inst c) = false →
     ∃ t, exec (.formatterInterruptTaken c) s = .next t ∧ getF t.hw FM_MSTAT_IACT (inst c) = 1 ∧ getF t.hw FM_MSTAT_ILEV (inst c) = n ∧
     getF t.hw FM_MSTAT_PC (inst c) = 0x1FC0 + 8 * n ∧ bitAt (getF t.hw FM_INT_PEND (inst c)) n = false ∧
     getF t.hw FM_IRET_VALUE (inst c) = 0 ∧ t.hw.mem = s.hw.mem ∧ t.vault = s.vault ∧ t.pending = s.pending) ∧
  (∀ (c tag : Nat) (r : FmReq) (s : State), midUp s.hw c = true → (fm s.hw c).queue = [r] → r.src = false → r.tag = tag →
     ∃ t, exec (.formatterAbort c tag) s = .next t ∧ (fm t.hw c).queue = [] ∧ t.hw.out = [Output.engine c tag 1 0] ∧ t.hw.mem = s.hw.mem ∧
     t.vault = s.vault ∧ t.pending = s.pending) ∧
  (∀ (c tag : Nat) (r : FmReq) (s : State), midUp s.hw c = true → (fm s.hw c).queue = [] → (fm s.hw c).running = some r → r.tag = tag →
     (fm s.hw c).done = false → ∃ t, exec (.formatterAbort c tag) s = .next t ∧ bitAt (getF t.hw FM_INT_PEND (inst c)) 1 = true ∧
     (fm t.hw c).argAbort = tag ∧ t.hw.mem = s.hw.mem ∧ t.vault = s.vault ∧ t.pending = s.pending) ∧
  (∀ (c : Nat) (s : State), midUp s.hw c = true → ∃ t, exec (.fwreq c) s = .next t ∧ bitAt (getF t.hw FM_INT_PEND (inst c)) 2 = true ∧
     getF t.hw FM_INT_FWREQ (inst c) = 1 ∧ t.hw.carriages = s.hw.carriages ∧ t.hw.mem = s.hw.mem ∧ t.vault = s.vault ∧
     t.pending = s.pending) ∧
  (∀ (c : Nat) (s : State), midUp s.hw c = true → ∃ t, exec (.runClear c) s = .next t ∧ getF t.hw FM_MCTL_RUN (inst c) = 0 ∧
     t.hw.mem = s.hw.mem ∧ t.vault = s.vault ∧ t.pending = s.pending) ∧
  (∀ (c : Nat) (s : State), midUp s.hw c = true → flagF s.hw FM_MCTL_RUN (inst c) = false → flagF s.hw FM_MSTAT_IDLE (inst c) = true →
     getF s.hw FM_PSTAT_STATE (inst c) ≠ 1 → ∃ t, exec (.patchLoadStart c) s = .next t ∧ getF t.hw FM_PSTAT_STATE (inst c) = 1 ∧
     getF t.hw FM_PSTAT_FAIL (inst c) = 0 ∧ (fm t.hw c).patch = [] ∧ (fm t.hw c).cam = [] ∧ t.hw.mem = s.hw.mem ∧ t.vault = s.vault ∧
     t.pending = s.pending) ∧
  (∀ (c : Nat) (s : State), midUp s.hw c = true → flagF s.hw FM_MCTL_RUN (inst c) = true → ∃ t, exec (.patchLoadStart c) s = .next t ∧
     getF t.hw FM_PSTAT_FAIL (inst c) = 6 ∧ getF t.hw FM_MIRQS_PLFAIL (inst c) = 1 ∧ t.hw.carriages = s.hw.carriages ∧ t.hw.mem = s.hw.mem ∧
     t.vault = s.vault ∧ t.pending = s.pending) ∧
  (∀ (c : Nat) (readable : Bool) (s : State), midUp s.hw c = true → getF s.hw FM_PSTAT_STATE (inst c) = 1 → getF s.hw PW_BOOT_STAGE 0 ≠ 6 →
     ∃ t, exec (.patchLoadDone c readable) s = .next t ∧ (∀ p : PatchImage, patchResult s.hw c readable = .inr p →
     getF t.hw FM_PSTAT_STATE (inst c) = 2 ∧ getF t.hw FM_MIRQS_PLDONE (inst c) = 1 ∧
     (∀ n ∈ List.range p.words.length, oget (fm t.hw c).patch n = p.words[n]?) ∧
     (∀ n ∈ List.range p.traps.length, some (zget (fm t.hw c).cam n) = p.traps[n]?)) ∧ (∀ f : Nat, patchResult s.hw c readable = .inl f →
     getF t.hw FM_PSTAT_STATE (inst c) = 3 ∧ getF t.hw FM_PSTAT_FAIL (inst c) = f % 16 ∧ getF t.hw FM_MIRQS_PLFAIL (inst c) = 1 ∧
     getF t.hw FM_PVER_PVER (inst c) = 0 ∧ (fm t.hw c).patch = []) ∧ t.hw.mem = s.hw.mem ∧ t.vault = s.vault ∧ t.pending = s.pending) ∧
  (∀ (c f : Nat) (readable : Bool) (s : State), midUp s.hw c = true → getF s.hw FM_PSTAT_STATE (inst c) = 1 →
     patchResult s.hw c readable = .inl f → getF s.hw PW_BOOT_STAGE 0 = 6 → zget s.hw.boot.patchFails c = 1 →
     ∃ t, exec (.patchLoadDone c readable) s = .next t ∧ carFenced t.hw c = true ∧ getF t.hw PW_BOOT_FAIL 0 = 9 ∧ (fm t.hw c).patch = [] ∧
     t.hw.mem = s.hw.mem ∧ t.vault = s.vault ∧ t.pending = s.pending) ∧
  (∀ (c : Nat) (s : State), populated s.hw c = true → ∃ t, exec (.formatterReinitialise c) s = .next t ∧ (fm t.hw c).queue = [] ∧
     (fm t.hw c).sq = [] ∧ (fm t.hw c).running = none ∧ (ch t.hw c).cur = none ∧ getF t.hw FM_MCTL_RUN (inst c) = 0 ∧
     getF t.hw FM_BRG_FAR (inst c) = 1 ∧ getF t.hw FM_MSTAT_IDLE (inst c) = 1 ∧ t.hw.mem = s.hw.mem ∧ t.vault = s.vault ∧
     t.pending = s.pending)

/-- The control engine (R328, R329, R333, R338-R344, R349-R351, R363, R364): where each event completes, and what it leaves. -/
def Obligations.ServoSamplesAndSeeksComplete : Prop :=
  (∀ (c : Nat) (w : ServoWedge) (s : State), midUp s.hw c = true → flagF s.hw SV_STAT_LOCK (inst c) = false → svState s.hw c ≠ svCoast →
     (samFound false w.readerA || samFound false w.readerB) = true → (ch s.hw c).cur = none → 0 < w.period → w.period < 2 ^ 24 →
     (sv s.hw c).due = none → ∃ t, exec (.servoSample c w) s = .next t ∧ getF t.hw SV_WPER_WPER (inst c) = w.period ∧
     (sv t.hw c).intervals = (w.period :: (sv s.hw c).intervals).take 16 ∧
     (t.hw.out.filter (fun (o : Output) => match o with | .sideband .. => true | _ => false)).length = 1 ∧ svState t.hw c = svState s.hw c ∧
     t.hw.mem = s.hw.mem ∧ t.vault = s.vault ∧ t.pending = s.pending) ∧
  (∀ (c : Nat) (w : ServoWedge) (s : State), midUp s.hw c = true → flagF s.hw SV_STAT_LOCK (inst c) = true → svState s.hw c = svFollow →
     readerDecoded true w.readerA = false → readerDecoded true w.readerB = false → ∃ t, exec (.servoSample c w) s = .next t ∧
     getF t.hw SV_IRQS_MISS (inst c) = 1 ∧ getF t.hw SV_STAT_WUNSAFE (inst c) = 1 ∧ (sv t.hw c).wedge = ((sv s.hw c).wedge + 1) % 640 ∧
     svState t.hw c = svFollow ∧ t.hw.mem = s.hw.mem ∧ t.vault = s.vault ∧ t.pending = s.pending) ∧
  (∀ (c : Nat) (s : State), midUp s.hw c = true → 8 ≤ (sv s.hw c).lockCount → flagF s.hw SV_STAT_LOCK (inst c) = false →
     svState s.hw c = svSearch → (sv s.hw c).held = none → ∃ t, exec (.wedgeLock c) s = .next t ∧ getF t.hw SV_STAT_LOCK (inst c) = 1 ∧
     svState t.hw c = svSettle ∧ getF t.hw SV_TGT_TRACK (inst c) = (roundR (((sv s.hw c).searchPos : Rat) / 1024)).toNat % 2 ^ 24 ∧
     t.hw.mem = s.hw.mem ∧ t.vault = s.vault ∧ t.pending = s.pending) ∧
  (∀ (c : Nat) (s : State), flagF s.hw SV_STAT_LOCK (inst c) = true → 4 ≤ getF s.hw SV_STAT_MISS (inst c) → svState s.hw c ≠ svParked →
     svState s.hw c ≠ svOff → c < 4 → ∃ t, exec (.lockLost c) s = .next t ∧ getF t.hw SV_STAT_LOCK (inst c) = 0 ∧ svState t.hw c = svCoast ∧
     getF t.hw SV_STAT_ONTRK (inst c) = 0 ∧ getF t.hw SV_STAT_WUNSAFE (inst c) = 1 ∧
     getF t.hw SV_IRQS_LOCKL (inst c) = getF s.hw SV_IRQS_LOCKL (inst c) ∧ (sv t.hw c).uv = (sv s.hw c).integ ∧ (sv t.hw c).um = 0 ∧
     t.hw.mem = s.hw.mem ∧ t.vault = s.vault ∧ t.pending = s.pending) ∧
  (∀ (c : Nat) (s : State), flagF s.hw SV_STAT_LOCK (inst c) = true → 4 ≤ getF s.hw SV_STAT_MISS (inst c) →
     svState s.hw c = svParked ∨ svState s.hw c = svOff → c < 4 → ∃ t, exec (.lockLost c) s = .next t ∧
     getF t.hw SV_STAT_LOCK (inst c) = 0 ∧ svState t.hw c = svState s.hw c ∧ getF t.hw SV_STAT_ONTRK (inst c) = 0 ∧
     getF t.hw SV_IRQS_LOCKL (inst c) = getF s.hw SV_IRQS_LOCKL (inst c) ∧ (sv t.hw c).uv = (sv s.hw c).uv ∧
     (sv t.hw c).um = (sv s.hw c).um ∧ t.hw.mem = s.hw.mem ∧ t.vault = s.vault ∧ t.pending = s.pending) ∧
  (∀ (c : Nat) (s : State), svState s.hw c = svCoast → 16 ≤ (sv s.hw c).coast → (sv s.hw c).lockCount < 8 → headsOut s.hw c = true → c < 4 →
     ∃ t, exec (.coastTimeout c) s = .next t ∧ (sv t.hw c).retract = true ∧ (sv t.hw c).uv = 0 ∧ (sv t.hw c).held = none ∧
     t.hw.mem = s.hw.mem ∧ t.vault = s.vault ∧ t.pending = s.pending) ∧
  (∀ (c data : Nat) (s : State), midUp s.hw c = true → flagF s.hw FM_MCTL_RUN (inst c) = true →
     ∃ t, exec (.svSeekWrite c data) s = .next t ∧ getF t.hw SV_IRQS_SKREF (inst c) = 1 ∧ t.hw.carriages = s.hw.carriages ∧
     t.hw.mem = s.hw.mem ∧ t.vault = s.vault ∧ t.pending = s.pending) ∧
  (∀ (c data : Nat) (s : State), midUp s.hw c = true → flagF s.hw FM_MCTL_RUN (inst c) = false → bits 31 29 data < headsPer s.hw →
     fenced s.hw (servoHead c (bits 31 29 data)) = false → bits 23 0 data < tracksOf s.hw c (bits 31 29 data) → svState s.hw c = svFollow →
     ∃ t, exec (.svSeekWrite c data) s = .next t ∧ svState t.hw c = svSeek ∧ getF t.hw SV_TGT_HEAD (inst c) = bits 31 29 data ∧
     getF t.hw SV_TGT_TRACK (inst c) = bits 23 0 data ∧ getF t.hw SV_STAT_ONTRK (inst c) = 0 ∧ (sv t.hw c).planned = false ∧
     t.hw.mem = s.hw.mem ∧ t.vault = s.vault ∧ t.pending = s.pending) ∧
  (∀ (c : Nat) (s : State), svState s.hw c = svSeek → (sv s.hw c).planned = false → (sv s.hw c).switching = none →
     (sv s.hw c).newHead = false → c < 4 → ∃ t, exec (.seekStart c) s = .next t ∧ (sv t.hw c).planned = true ∧
     (sv t.hw c).x0 = (sv s.hw c).xh ∧ (sv t.hw c).ptime = 0 ∧ t.hw.regs = s.hw.regs ∧ t.hw.mem = s.hw.mem ∧ t.vault = s.vault ∧
     t.pending = s.pending) ∧
  (∀ (c age : Nat) (px : Int) (s : State), (sv s.hw c).due = some px → svState s.hw c = svSeek → (sv s.hw c).held = none → c < 4 →
     ∃ t, exec (.handover c age) s = .next t ∧ svState t.hw c = svSettle ∧ getF t.hw SV_IRQS_SKDONE (inst c) = 1 ∧ (sv t.hw c).due = none ∧
     (sv t.hw c).settled = 0 ∧ t.hw.mem = s.hw.mem ∧ t.vault = s.vault ∧ t.pending = s.pending) ∧
  (∀ (c : Nat) (s : State), svState s.hw c = svSettle → nset s.hw c ≤ (sv s.hw c).settled →
     selHead s.hw c = getF s.hw SV_TGT_HEAD (inst c) → (sv s.hw c).held = none → c < 4 → ∃ t, exec (.ontrk c) s = .next t ∧
     svState t.hw c = svFollow ∧ getF t.hw SV_STAT_ONTRK (inst c) = 1 ∧ (sv t.hw c) = (sv s.hw c) ∧ t.hw.mem = s.hw.mem ∧
     t.vault = s.vault ∧ t.pending = s.pending) ∧
  (∀ (c : Nat) (s : State), seekFailed s.hw c = true → (sv s.hw c).failedOnce = false → c < 4 → ∃ t, exec (.seekFail c) s = .next t ∧
     svState t.hw c = svSeek ∧ (sv t.hw c).failedOnce = true ∧ (sv t.hw c).held = (sv s.hw c).held ∧
     getF t.hw SV_TGT_TRACK (inst c) = getF s.hw SV_TGT_TRACK (inst c) ∧ t.hw.mem = s.hw.mem ∧ t.vault = s.vault ∧ t.pending = s.pending) ∧
  (∀ (c : Nat) (s : State), seekFailed s.hw c = true → (sv s.hw c).failedOnce = true → c < 4 → ∃ t, exec (.seekFail c) s = .next t ∧
     (sv t.hw c).standing = true ∧ (sv t.hw c).failedOnce = false ∧ (sv t.hw c).settled = 0 ∧ t.hw.mem = s.hw.mem ∧ t.vault = s.vault ∧
     t.pending = s.pending) ∧
  (∀ (c hd : Nat) (s : State), (sv s.hw c).switching = some hd → (sv s.hw c).frameQueued = false → (car s.hw c).fmt.sif = [] → c < 4 →
     ∃ t, exec (.headSwitch c) s = .next t ∧ (sv t.hw c).frameQueued = true ∧
     (car t.hw c).fmt.sif = [({ command := sifWord false hd 0x20 (0x100 + hd), data := 0x100 + hd, again := false } : SifFrame)] ∧
     t.hw.regs = s.hw.regs ∧ t.hw.mem = s.hw.mem ∧ t.vault = s.vault ∧ t.pending = s.pending) ∧
  (∀ (c lam : Nat) (m : SMap Nat) (s : State), (sv s.hw c).shadow = some (lam, m) → c < 4 → ∃ t, exec (.bankSwap c) s = .next t ∧
     (sv t.hw c) = { (sv s.hw c) with bank := m, lam := lam, shadow := none } ∧ getF t.hw SV_SPD_LAM (inst c) = lam % 2 ^ 10 ∧
     getF t.hw SV_IRQS_SWAP (inst c) = 1 ∧ t.hw.mem = s.hw.mem ∧ t.vault = s.vault ∧ t.pending = s.pending) ∧
  (∀ (c data : Nat) (s : State), midUp s.hw c = true → bitAt data 31 = true → bits 9 6 data ≤ 8 → (sv s.hw c).caddr = some (bits 9 6 data) →
     bankOk (sv s.hw c) (bits 9 6 data) = true → ∃ t, exec (.svBankCommit c data) s = .next t ∧
     zget (sv t.hw c).bankDue (bits 9 6 data) = 1 ∧ (sv t.hw c).grid = (sv s.hw c).grid ∧ t.hw.mem = s.hw.mem ∧ t.vault = s.vault ∧
     t.pending = s.pending) ∧
  (∀ (c data : Nat) (s : State), midUp s.hw c = true → bitAt data 31 = true → bits 9 6 data ≤ 8 → (sv s.hw c).caddr = some (bits 9 6 data) →
     bankOk (sv s.hw c) (bits 9 6 data) = false → ∃ t, exec (.svBankCommit c data) s = .next t ∧ getF t.hw SV_IRQS_CREF (inst c) = 1 ∧
     t.hw.carriages = s.hw.carriages ∧ t.hw.mem = s.hw.mem ∧ t.vault = s.vault ∧ t.pending = s.pending) ∧
  (∀ (c : Nat) (s : State), midUp s.hw c = true → (sv s.hw c).leaving = true → svState s.hw c = svOff → selHead s.hw c < 6 →
     ∃ t, exec (.servoEnable c) s = .next t ∧ getF t.hw SV_CTL_ENA (inst c) = 1 ∧ svState t.hw c = svSearch ∧ (sv t.hw c).retract = false ∧
     (sv t.hw c).lockCount = 0 ∧ t.hw.mem = s.hw.mem ∧ t.vault = s.vault ∧ t.pending = s.pending) ∧
  (∀ (c : Nat) (s : State), (unit s.hw (carPath c 0x2F0)).busy = true → 1 ≤ getF s.hw AC_STAT_STATE (inst c) →
     getF s.hw AC_STAT_STATE (inst c) ≤ 3 → c < 4 → ∃ t, exec (.servoReinitialise c) s = .next t ∧ svState t.hw c = svParked ∧
     getF t.hw SV_IRQS_RETR (inst c) = 1 ∧ (sv t.hw c).retract = true ∧ (sv t.hw c).uv = 0 ∧ t.hw.mem = s.hw.mem ∧ t.vault = s.vault ∧
     t.pending = s.pending)

/-- The repetitive controller and the band laws (R354, R356, R359-R361): where each event completes, and what it leaves. -/
def Obligations.ServoLearningCompletes : Prop :=
  (∀ (c : Nat) (s : State), 640 ≤ (sv s.hw c).revCount → flagF s.hw SV_RC_ARM (inst c) = true → (sv s.hw c).rpmSum = 0 →
     1 ≤ getF s.hw SV_RC_NR (inst c) → c < 4 → ∃ t, exec (.rcRevolution c) s = .next t ∧ (sv t.hw c).revCount = 0 ∧ (sv t.hw c).rev = [] ∧
     (sv t.hw c).acc = (sv s.hw c).rev.foldl (fun (m : SMap Int) (p : Nat × Int) => mset (fun _ => 0) m p.1 (mget (fun _ => 0) m p.1 + p.2)) (sv s.hw c).acc ∧
     (sv t.hw c).rpmSum = getF s.hw SV_SPD_RPM (inst c) ∧ getF t.hw SV_RCSTAT_REVS (inst c) = 1 ∧ getF t.hw SV_RCSTAT_BUSY (inst c) = 0 ∧
     (sv t.hw c).tables = (sv s.hw c).tables ∧ t.hw.mem = s.hw.mem ∧ t.vault = s.vault ∧ t.pending = s.pending) ∧
  (∀ (c : Nat) (s : State), 640 ≤ (sv s.hw c).revCount → flagF s.hw SV_RC_ARM (inst c) = true → (sv s.hw c).rpmSum = 0 →
     getF s.hw SV_RC_NR (inst c) = 0 → c < 4 → ∃ t, exec (.rcRevolution c) s = .next t ∧ getF t.hw SV_RCSTAT_READY (inst c) = 1 ∧
     getF t.hw SV_IRQS_RCRDY (inst c) = 1 ∧ getF t.hw SV_RC_ARM (inst c) = 0 ∧
     (sv t.hw c).candidateOf = (getF s.hw SV_RC_HEAD (inst c), min 47 (getF s.hw SV_RC_ZONE (inst c))) ∧ (sv t.hw c).acc = [] ∧
     (sv t.hw c).rpmSum = 0 ∧ (sv t.hw c).tables = (sv s.hw c).tables ∧ t.hw.mem = s.hw.mem ∧ t.vault = s.vault ∧ t.pending = s.pending) ∧
  (∀ (c w : Nat) (s : State), (sv s.hw c).rcDue = true → runOpen s.hw c = false → writeSideFree s.hw c = true → w < 640 → c < 4 →
     ∃ t, exec (.rcCommit c) s = .next t ∧ (sv t.hw c).rcDue = false ∧ getF t.hw SV_IRQS_RCCMT (inst c) = 1 ∧
     zget (sv t.hw c).tables ((48 * (sv s.hw c).candidateOf.1 + (sv s.hw c).candidateOf.2) * 640 + w) = zget (sv s.hw c).candidate w ∧
     t.hw.mem = s.hw.mem ∧ t.vault = s.vault ∧ t.pending = s.pending) ∧
  (∀ (c hd : Nat) (s : State), midUp s.hw c = true → headExists s.hw hd = true → bandsEnabled s.hw c hd = true →
     flagF s.hw SV_HBCTL_RDEN (svHead c hd) = true → flagF s.hw SV_HBCTL_WREN (svHead c hd) = false →
     flagF s.hw SV_HBCTL_LBEN (svHead c hd) = false → 2 ^ getF s.hw SV_HBCTL_NBS (svHead c hd) ≤ (bandOf s.hw c hd).rdCount →
     ∃ t, exec (.bandLawBlock c hd) s = .next t ∧ (bandOf t.hw c hd).rdCount = 0 ∧ (bandOf t.hw c hd).rdSum = 0 ∧
     (bandOf t.hw c hd).stepDue = (if bandStep (((bandOf s.hw c hd).rdSum : Rat) / (bandOf s.hw c hd).rdCount) (getF s.hw SV_HBAND0_CRLO (svHead c hd)) (getF s.hw SV_HBAND0_CRHI (svHead c hd)) ((bandOf s.hw c hd).stepDue.getD (getF s.hw PA_HLVL_HTRR (paHead c hd))) (getF s.hw SV_HBLIM_HMIN (svHead c hd)) (getF s.hw SV_HBLIM_HMAX (svHead c hd)) = ((bandOf s.hw c hd).stepDue.getD (getF s.hw PA_HLVL_HTRR (paHead c hd))) then (bandOf s.hw c hd).stepDue else some (bandStep (((bandOf s.hw c hd).rdSum : Rat) / (bandOf s.hw c hd).rdCount) (getF s.hw SV_HBAND0_CRLO (svHead c hd)) (getF s.hw SV_HBAND0_CRHI (svHead c hd)) ((bandOf s.hw c hd).stepDue.getD (getF s.hw PA_HLVL_HTRR (paHead c hd))) (getF s.hw SV_HBLIM_HMIN (svHead c hd)) (getF s.hw SV_HBLIM_HMAX (svHead c hd)))) ∧
     (bandStep (((bandOf s.hw c hd).rdSum : Rat) / (bandOf s.hw c hd).rdCount) (getF s.hw SV_HBAND0_CRLO (svHead c hd)) (getF s.hw SV_HBAND0_CRHI (svHead c hd)) ((bandOf s.hw c hd).stepDue.getD (getF s.hw PA_HLVL_HTRR (paHead c hd))) (getF s.hw SV_HBLIM_HMIN (svHead c hd)) (getF s.hw SV_HBLIM_HMAX (svHead c hd)) ≠ ((bandOf s.hw c hd).stepDue.getD (getF s.hw PA_HLVL_HTRR (paHead c hd))) →
     getF t.hw SV_IRQS_BAND (inst c) = 1) ∧ t.hw.mem = s.hw.mem ∧ t.vault = s.vault ∧ t.pending = s.pending) ∧
  (∀ (c hd lvl : Nat) (s : State), (bandOf s.hw c hd).stepDue = some lvl → headExists s.hw hd = true → runOpen s.hw c = false →
     (car s.hw c).fmt.sif = [] → c < 4 → ∃ t, exec (.readClearanceStep c hd) s = .next t ∧
     getF t.hw PA_HLVL_HTRR (paHead c hd) = lvl % 256 ∧ (bandOf t.hw c hd).stepDue = none ∧
     (car t.hw c).fmt.sif = [({ command := sifWord false hd 0x10 lvl, data := lvl, again := false } : SifFrame)] ∧ t.hw.mem = s.hw.mem ∧
     t.vault = s.vault ∧ t.pending = s.pending) ∧
  (∀ (c hd : Nat) (s : State), headExists s.hw hd = true → flagF s.hw SV_HBCTL_APPLY (svHead c hd) = true → runOpen s.hw c = false →
     writeSideFree s.hw c = true → flagF s.hw SV_HBCTL_PWV (svHead c hd) = true → flagF s.hw SV_HBCTL_PLV (svHead c hd) = false → c < 4 →
     ∃ t, exec (.bandApply c hd) s = .next t ∧ getF t.hw PA_HLVL_HTRW (paHead c hd) = getF s.hw SV_HBCTL_PHTRW (svHead c hd) ∧
     getF t.hw SV_HBCTL_PWV (svHead c hd) = 0 ∧ getF t.hw SV_HBCTL_APPLY (svHead c hd) = 0 ∧
     getF t.hw PA_HLVL_LSRB (paHead c hd) = getF s.hw PA_HLVL_LSRB (paHead c hd) ∧ t.hw.carriages = s.hw.carriages ∧ t.hw.mem = s.hw.mem ∧
     t.vault = s.vault ∧ t.pending = s.pending)

/-- The spindle drive (R374, R378, R380-R384, R388-R398, R405, R655): where each event completes, and what it leaves. -/
def Obligations.SpindleComplete : Prop :=
  (∀ (u1 u2 v1 v2 : Int) (v12 v5 : Nat) (s : State), domainUp s.hw 21 = true → s.hw.spindle.loops = false → s.hw.spindle.holdUp = false →
     ∃ t, exec (.controlPeriod u1 u2 v1 v2 v12 v5) s = .next t ∧ getF t.hw SP_VBUS_V12 0 = v12 % 65536 ∧
     getF t.hw SP_VBUS_V5 0 = v5 % 65536 ∧ getF t.hw SP_SPD_RPM 0 = 0 ∧ t.hw.spindle.iU = ((u1 + u2 : Int) : Rat) / 2 ∧
     t.hw.spindle.inState = s.hw.spindle.inState + 1 ∧ t.hw.mem = s.hw.mem ∧ t.vault = s.vault ∧ t.pending = s.pending) ∧
  (∀ (u1 u2 v1 v2 : Int) (v12 v5 : Nat) (s : State), domainUp s.hw 21 = true → s.hw.spindle.loops = true → s.hw.spindle.holdUp = false →
     getF s.hw SP_STAT_CSRC 0 = 1 → spState s.hw ≠ spAligning → spState s.hw ≠ spOpenLoop →
     ∃ t, exec (.controlPeriod u1 u2 v1 v2 v12 v5) s = .next t ∧ t.hw.spindle.theta = t.hw.spindle.obsTheta ∧
     t.hw.out = [Output.gates t.hw.spindle.du t.hw.spindle.dv t.hw.spindle.dw] ∧ t.hw.spindle.epsCount = s.hw.spindle.epsCount + 1 ∧
     getF t.hw SP_SPD_RPM 0 = (roundR t.hw.spindle.obsRpm).natAbs % 65536 ∧ t.hw.mem = s.hw.mem ∧ t.vault = s.vault ∧
     t.pending = s.pending) ∧
  (∀ (s : State), s.hw.spindle.loops = true → 64 ≤ s.hw.spindle.epsCount → s.hw.spindle.locked = false → s.hw.spindle.good < 3 →
     ∃ t, exec .observerEvaluation s = .next t ∧ getF t.hw SP_STAT_CONF 0 = (max 0 (min 255 (roundR (255 * max 0 (1 - 16 * Config.radTurns (s.hw.spindle.epsSum / s.hw.spindle.epsCount)) * max 0 (1 - 4 * absR (Config.ln (divBy (norm s.hw.spindle.emfA s.hw.spindle.emfB) (emfAt s.hw (absR s.hw.spindle.obsRpm))))))))).toNat ∧
     t.hw.spindle.locked = false ∧ t.hw.spindle.epsCount = 0 ∧ t.hw.mem = s.hw.mem ∧ t.vault = s.vault ∧ t.pending = s.pending) ∧
  (∀ (s : State), spState s.hw = spRunning → s.hw.spindle.loops = true → flagF s.hw SP_STAT_VCLAMP 0 = false →
     getF s.hw SP_VBUS_V12 0 < getF s.hw SP_HU_VBRK 0 → ∃ t, exec .speedLoop s = .next t ∧
     t.hw.spindle.ref = stepToward s.hw.spindle.ref (goalRate s.hw).1 ((goalRate s.hw).2 / 5000) ∧ getF t.hw SP_STAT_VCLAMP 0 = 0 ∧
     spState t.hw = spRunning ∧ t.hw.mem = s.hw.mem ∧ t.vault = s.vault ∧ t.pending = s.pending) ∧
  (∀ (c : Nat) (s : State), populated s.hw c = true → carFenced s.hw c = false → ∃ t, exec (.busyReport c) s = .next t ∧
     zget t.hw.spindle.busy c = ones 1000 (zget s.hw.engine.busyWindow c) ∧ t.hw.regs = s.hw.regs ∧ t.hw.mem = s.hw.mem ∧
     t.vault = s.vault ∧ t.pending = s.pending) ∧
  (∀ (c : Nat) (s : State), spState s.hw = spRunning → flagF s.hw SP_CTL_GOV 0 = true → populated s.hw c = true → carFenced s.hw c = false →
     10 * getF s.hw SP_GOV_UHI 0 ≤ zget s.hw.spindle.busy c → ∃ t, exec .demandGovernor s = .next t ∧
     t.hw.spindle.request = max (inRange (getF s.hw SP_GLIM_FLOOR 0)) (min (inRange (ceilingInForce s.hw)) (s.hw.spindle.request + 100 * getF s.hw SP_GOV_STEPUP 0)) ∧
     t.hw.spindle.dwell = 0 ∧ t.hw.regs = s.hw.regs ∧ t.hw.mem = s.hw.mem ∧ t.vault = s.vault ∧ t.pending = s.pending) ∧
  (∀ (s : State), spState s.hw = spStopped → 0 ≤ getS s.hw TH_TEMP_TEMP (inst 5) → flagF s.hw SP_PSTAT_PLOSS 0 = false →
     spindleBarred s.hw = false → senseOffset s.hw = false → ∃ t, exec .spindleStart s = .next t ∧ spState t.hw = spMeasuring ∧
     getF t.hw SP_STAT_ATTEMPT 0 = 1 ∧ getF t.hw SP_STAT_CSRC 0 = 0 ∧ t.hw.spindle.gates = false ∧ t.hw.mem = s.hw.mem ∧ t.vault = s.vault ∧
     t.pending = s.pending) ∧
  (∀ (s : State), spState s.hw = spStopped → 0 ≤ getS s.hw TH_TEMP_TEMP (inst 5) → flagF s.hw SP_PSTAT_PLOSS 0 = false →
     spindleBarred s.hw = false → senseOffset s.hw = true → ∃ t, exec .spindleStart s = .next t ∧ spState t.hw = spFaulted ∧
     getF t.hw SP_IRQS_CREF 0 = 1 ∧ t.hw.spindle.gates = false ∧ t.hw.mem = s.hw.mem ∧ t.vault = s.vault ∧ t.pending = s.pending) ∧
  (∀ (s : State), flagF s.hw SP_PSTAT_PLOSS 0 = true → ∃ t, exec .spindleStart s = .next t ∧ getF t.hw SP_IRQS_CREF 0 = 1 ∧
     t.hw.spindle = s.hw.spindle ∧ spState t.hw = spState s.hw ∧ t.hw.mem = s.hw.mem ∧ t.vault = s.vault ∧ t.pending = s.pending) ∧
  (∀ (s : State), spindleBarred s.hw = true → ∃ t, exec .spindleStart s = .next t ∧ getF t.hw SP_IRQS_CREF 0 = 1 ∧
     t.hw.spindle = s.hw.spindle ∧ spState t.hw = spState s.hw ∧ t.hw.mem = s.hw.mem ∧ t.vault = s.vault ∧ t.pending = s.pending) ∧
  (∀ (s : State), drivesParked s.hw = true → spState s.hw = spRunning → ∃ t, exec .spindleStop s = .next t ∧ spState t.hw = spDecelerating ∧
     t.hw.spindle.stopping = true ∧ t.hw.mem = s.hw.mem ∧ t.vault = s.vault ∧ t.pending = s.pending) ∧
  (∀ (s : State), drivesParked s.hw = false → ∃ t, exec .spindleStop s = .next t ∧ getF t.hw SP_IRQS_CREF 0 = 1 ∧
     t.hw.spindle = s.hw.spindle ∧ t.hw.mem = s.hw.mem ∧ t.vault = s.vault ∧ t.pending = s.pending) ∧
  (∀ (s : State), drivesParked s.hw = true → spState s.hw = spRunning → ∃ t, exec .spindleCoast s = .next t ∧ spState t.hw = spCoasting ∧
     t.hw.spindle.gates = false ∧ t.hw.spindle.loops = false ∧ getF t.hw SP_STAT_CONF 0 = 0 ∧ t.hw.mem = s.hw.mem ∧ t.vault = s.vault ∧
     t.pending = s.pending) ∧
  (∀ (s : State), drivesParked s.hw = false → ∃ t, exec .spindleCoast s = .next t ∧ getF t.hw SP_IRQS_CREF 0 = 1 ∧
     t.hw.spindle = s.hw.spindle ∧ t.hw.mem = s.hw.mem ∧ t.vault = s.vault ∧ t.pending = s.pending) ∧
  (∀ (s : State), spState s.hw = spMeasuring → s.hw.spindle.seeded = false → 4000 ≤ s.hw.spindle.inState → s.hw.spindle.stopping = false →
     ∃ t, exec (.measuringEnd []) s = .next t ∧ spState t.hw = spAligning ∧ t.hw.spindle.idRef = (motor s.hw).ialign ∧
     t.hw.spindle.gates = true ∧ t.hw.spindle.theta = 0 ∧ t.hw.mem = s.hw.mem ∧ t.vault = s.vault ∧ t.pending = s.pending) ∧
  (∀ (l : List (Nat × Rat)) (s : State), spState s.hw = spMeasuring → s.hw.spindle.seeded = false → 4000 ≤ s.hw.spindle.inState →
     300 < (crossingRpm s.hw l).getD 0 → ∃ t, exec (.measuringEnd l) s = .next t ∧ spState t.hw = spMeasuring ∧ t.hw.spindle.seeded = true ∧
     getF t.hw SP_STAT_CSRC 0 = 3 ∧ t.hw.spindle.obsRpm = (crossingRpm s.hw l).getD 0 ∧ t.hw.spindle.iqRef = 0 ∧ t.hw.mem = s.hw.mem ∧
     t.vault = s.vault ∧ t.pending = s.pending) ∧
  (∀ (l : List (Nat × Rat)) (s : State), spState s.hw = spMeasuring → s.hw.spindle.seeded = false → 4000 ≤ s.hw.spindle.inState → l ≠ [] →
     crossingRpm s.hw l = none → s.hw.spindle.stopping = false → ∃ t, exec (.measuringEnd l) s = .next t ∧ spState t.hw = spBraking ∧
     t.hw.spindle.brakeThenAlign = true ∧ t.hw.spindle.brakeFor = 100 ∧ t.hw.mem = s.hw.mem ∧ t.vault = s.vault ∧ t.pending = s.pending) ∧
  (∀ (s : State), spState s.hw = spAligning → 200 * (motor s.hw).talign ≤ s.hw.spindle.inState → ∃ t, exec .alignmentEnd s = .next t ∧
     spState t.hw = spOpenLoop ∧ getF t.hw SP_STAT_CSRC 0 = 0 ∧ t.hw.spindle.inState = 0 ∧ t.hw.spindle.theta = s.hw.spindle.theta ∧
     t.hw.mem = s.hw.mem ∧ t.vault = s.vault ∧ t.pending = s.pending) ∧
  (∀ (s : State), spState s.hw = spOpenLoop → s.hw.spindle.ref = 300 → s.hw.spindle.await = false →
     exec .openLoopSpeedReached s = .next { s with hw := { s.hw with out := [], spindle := { s.hw.spindle with await := true, waited := 0 } } }) ∧
  (∀ (s : State), attemptFailed s.hw = true → getF s.hw SP_STAT_ATTEMPT 0 < 3 → ∃ t, exec .startAttemptFail s = .next t ∧
     spState t.hw = spCoasting ∧ getF t.hw SP_IRQS_STFAIL 0 = 1 ∧ t.hw.spindle.retry = true ∧ t.hw.spindle.gates = false ∧
     t.hw.mem = s.hw.mem ∧ t.vault = s.vault ∧ t.pending = s.pending) ∧
  (∀ (s : State), attemptFailed s.hw = true → 3 ≤ getF s.hw SP_STAT_ATTEMPT 0 → inBringUp s.hw = false →
     ∃ t, exec .startAttemptFail s = .next t ∧ spState t.hw = spFaulted ∧ getF t.hw SP_IRQS_STFAIL 0 = 1 ∧ t.hw.spindle.gates = false ∧
     t.hw.mem = s.hw.mem ∧ t.vault = s.vault ∧ t.pending = s.pending) ∧
  (∀ (s : State), spState s.hw = spAccelerating → s.hw.spindle.ref = (goalRate s.hw).1 → getF s.hw PW_BOOT_STAGE 0 ≠ 0x09 →
     ∃ t, exec .atSpeed s = .next t ∧ spState t.hw = spRunning ∧ getF t.hw SP_IRQS_ATSPD 0 = 1 ∧ t.hw.spindle.ran = true ∧
     t.hw.mem = s.hw.mem ∧ t.vault = s.vault ∧ t.pending = s.pending) ∧
  (∀ (s : State), spState s.hw = spBraking → brakingOver s.hw = true → s.hw.spindle.brakeThenAlign = false →
     ∃ t, exec .brakingEnd s = .next t ∧ spState t.hw = spStopped ∧ t.hw.spindle.gates = false ∧ t.hw.spindle.stopping = false ∧
     t.hw.mem = s.hw.mem ∧ t.vault = s.vault ∧ t.pending = s.pending) ∧
  (∀ (s : State), spState s.hw = spBraking → brakingOver s.hw = true → s.hw.spindle.brakeThenAlign = true →
     ∃ t, exec .brakingEnd s = .next t ∧ spState t.hw = spAligning ∧ t.hw.spindle.gates = true ∧ t.hw.spindle.idRef = (motor s.hw).ialign ∧
     t.hw.mem = s.hw.mem ∧ t.vault = s.vault ∧ t.pending = s.pending) ∧
  (∀ (s : State), spState s.hw = spCoasting → 100000 ≤ s.hw.spindle.inState → s.hw.spindle.retry = false →
     ∃ t, exec .coastToStopped s = .next t ∧ spState t.hw = spStopped ∧ t.hw.spindle.gates = false ∧ t.hw.mem = s.hw.mem ∧
     t.vault = s.vault ∧ t.pending = s.pending) ∧
  (∀ (s : State), spState s.hw = spCoasting → 100000 ≤ s.hw.spindle.inState → s.hw.spindle.retry = true → getF s.hw SP_STAT_ATTEMPT 0 < 15 →
     ∃ t, exec .coastToStopped s = .next t ∧ spState t.hw = spMeasuring ∧ getF t.hw SP_STAT_ATTEMPT 0 = getF s.hw SP_STAT_ATTEMPT 0 + 1 ∧
     t.hw.mem = s.hw.mem ∧ t.vault = s.vault ∧ t.pending = s.pending) ∧
  (∀ (s : State), spState s.hw = spCoasting → s.hw.spindle.loops = false → s.hw.spindle.checkDue = true →
     ∃ t, exec (.spindleResetCheck false) s = .next t ∧ spState t.hw = spStopped ∧ t.hw.spindle.checkDue = false ∧ t.hw.mem = s.hw.mem ∧
     t.vault = s.vault ∧ t.pending = s.pending) ∧
  (∀ (s : State), s.hw.spindle.checkDue = true → ∃ t, exec (.spindleResetCheck true) s = .next t ∧ spState t.hw = spState s.hw ∧
     t.hw.spindle.checkDue = false ∧ t.hw.regs = s.hw.regs ∧ t.hw.mem = s.hw.mem ∧ t.vault = s.vault ∧ t.pending = s.pending) ∧
  (∀ (s : State), s.hw.spindle.loops = true → s.hw.spindle.locked = false → getF s.hw SP_STAT_CSRC 0 = 1 → headsLoaded s.hw = true →
     wedgeAvailable s.hw = true → flagF s.hw SP_CTL_WFBEN 0 = true → ∃ t, exec .wedgeFallback s = .next t ∧ getF t.hw SP_STAT_CSRC 0 = 2 ∧
     getF t.hw SP_IRQS_WSW 0 = 1 ∧ getF t.hw SP_STAT_WCAR 0 = wedgeSource s.hw ∧ t.hw.spindle = s.hw.spindle ∧ t.hw.mem = s.hw.mem ∧
     t.vault = s.vault ∧ t.pending = s.pending) ∧
  (∀ (l : List (Nat × Rat)) (s : State), spState s.hw = spCoasting → s.hw.spindle.recatch = true → s.hw.spindle.seeded = false →
     turnsAgree l = true → (crossingRpm s.hw l).isSome = true → 300 ≤ absR ((crossingRpm s.hw l).getD 0) →
     ∃ t, exec (.reCatch l) s = .next t ∧ t.hw.spindle.seeded = true ∧ getF t.hw SP_IRQS_RECATCH 0 = getF s.hw SP_IRQS_RECATCH 0 ∧
     getF t.hw SP_STAT_CSRC 0 = 3 ∧ t.hw.spindle.obsRpm = (crossingRpm s.hw l).getD 0 ∧ t.hw.mem = s.hw.mem ∧ t.vault = s.vault ∧
     t.pending = s.pending) ∧
  (∀ (l : List (Nat × Rat)) (s : State), spState s.hw = spCoasting → s.hw.spindle.recatch = true → 200000 ≤ s.hw.spindle.inState →
     ∃ t, exec (.reCatchFail l) s = .next t ∧ spState t.hw = spFaulted ∧ t.hw.spindle.recatch = false ∧ t.hw.spindle.gates = false ∧
     t.hw.mem = s.hw.mem ∧ t.vault = s.vault ∧ t.pending = s.pending) ∧
  (∀ (c : Nat) (s : State), c < 4 → ∃ t, exec (.ecalStart c) s = .next t ∧ getF t.hw SP_ECAL_START (4 * c) = 1 ∧
     getF t.hw SP_ECAL_DONE (4 * c) = 0 ∧ getF t.hw SP_ECAL_COUNT (4 * c) = 0 ∧ t.hw.mem = s.hw.mem ∧ t.vault = s.vault ∧
     t.pending = s.pending) ∧
  (∀ (c : Nat) (s : State), c < 4 → flagF s.hw SP_ECAL_START (4 * c) = true → getF s.hw SP_ECAL_COUNT (4 * c) = 640 → ecalGood s.hw = true →
     ∃ t, exec (.ecalEnd c) s = .next t ∧ getF t.hw SP_ECAL_DONE (4 * c) = 1 ∧ getF t.hw SP_ECAL_START (4 * c) = 0 ∧
     getF t.hw SP_IRQS_ECAL 0 = 1 ∧ t.hw.mem = s.hw.mem ∧ t.vault = s.vault ∧ t.pending = s.pending) ∧
  (∀ (c : Nat) (s : State), c < 4 → flagF s.hw SP_ECAL_START (4 * c) = true → getF s.hw SP_ECAL_COUNT (4 * c) = 640 →
     ecalGood s.hw = false → ∃ t, exec (.ecalEnd c) s = .next t ∧ getF t.hw SP_ECAL_FAIL (4 * c) = 1 ∧ getF t.hw SP_ECAL_START (4 * c) = 0 ∧
     getF t.hw SP_IRQS_ECAL 0 = 1 ∧ t.hw.mem = s.hw.mem ∧ t.vault = s.vault ∧ t.pending = s.pending) ∧
  (∀ (v12 v5 c : Nat) (s : State), domainUp s.hw 23 = true → flagF s.hw SP_PSTAT_PLOSS 0 = false → v12 < getF s.hw SP_PLTH_PL12 0 →
     populated s.hw c = true → ∃ t, exec (.powerLoss v12 v5) s = .next t ∧ getF t.hw SP_PSTAT_PLOSS 0 = 1 ∧ getF t.hw SP_PSTAT_CAUSE 0 = 1 ∧
     getF t.hw EV_STAT_FLUSH 0 = 1 ∧ (path t.hw c).noWrite = true ∧ (fm t.hw c).ploss = true ∧ t.hw.engine.lossHold = true ∧
     t.hw.mem = s.hw.mem ∧ t.vault = s.vault ∧ t.pending = s.pending) ∧
  (∀ (v12 v5 : Nat) (s : State), domainUp s.hw 23 = true → flagF s.hw SP_PSTAT_PLOSS 0 = false → getF s.hw SP_PLTH_PL12 0 ≤ v12 →
     v5 < getF s.hw SP_PLTH_PL5 0 → ∃ t, exec (.powerLoss v12 v5) s = .next t ∧ getF t.hw SP_PSTAT_PLOSS 0 = 1 ∧
     getF t.hw SP_PSTAT_CAUSE 0 = 2 ∧ t.hw.engine.lossHold = true ∧ t.hw.mem = s.hw.mem ∧ t.vault = s.vault ∧ t.pending = s.pending) ∧
  (∀ (s : State), s.hw.spindle.holdUp = true → drivesParked s.hw = true → s.hw.boot.fallRetract = false → s.hw.island.tripHoldUp = false →
     spState s.hw = spHoldUp → ∃ t, exec .holdUpEnd s = .next t ∧ spState t.hw = spCoasting ∧ t.hw.spindle.holdUp = false ∧
     t.hw.spindle.gates = false ∧ t.hw.mem = s.hw.mem ∧ t.vault = s.vault ∧ t.pending = s.pending) ∧
  (∀ (s : State), s.hw.spindle.holdUp = true → drivesParked s.hw = false → absR (speedNow s.hw) < 600 → s.hw.spindle.holdFailed = false →
     ∃ t, exec .holdUpEnd s = .next t ∧ t.hw.spindle.holdFailed = true ∧ t.hw.spindle.holdUp = true ∧ t.hw.mem = s.hw.mem ∧
     t.vault = s.vault ∧ t.pending = s.pending) ∧
  (∀ (c v12 v5 : Nat) (s : State), domainUp s.hw 23 = true → 11400 ≤ v12 → 4750 ≤ v5 → flagF s.hw SP_PSTAT_PLOSS 0 = true →
     s.hw.spindle.holdUp = false → s.hw.pins.resetIn = true → getF s.hw PW_BOOT_STAGE 0 < 9 → populated s.hw c = true →
     getF s.hw TH_TEMP_ZONE (inst (c + 1)) < 3 → ∃ t, exec (.supplyReturn v12 v5) s = .next t ∧ getF t.hw SP_PSTAT_PLOSS 0 = 0 ∧
     getF t.hw SP_PSTAT_HU 0 = 0 ∧ getF t.hw SP_IRQS_PWRBACK 0 = 1 ∧ (path t.hw c).noWrite = false ∧ t.hw.engine.lossHold = false ∧
     t.hw.mem = s.hw.mem ∧ t.vault = s.vault ∧ t.pending = s.pending) ∧
  (∀ (s : State), s.hw.spindle.loops = true → 2 ≤ s.hw.spindle.ocur → ∃ t, exec .overcurrent s = .next t ∧ spState t.hw = spCoasting ∧
     getF t.hw SP_IRQS_OCUR 0 = 1 ∧ t.hw.spindle.gates = false ∧ t.hw.spindle.loops = false ∧ t.hw.mem = s.hw.mem ∧ t.vault = s.vault ∧
     t.pending = s.pending) ∧
  (∀ (v12 : Nat) (s : State), domainUp s.hw 23 = true → 15000 < v12 → ∃ t, exec (.busOvervoltage v12) s = .next t ∧
     t.hw.spindle.gates = false ∧ t.hw.spindle.loops = false ∧ t.hw.mem = s.hw.mem ∧ t.vault = s.vault ∧ t.pending = s.pending)

/-- The actuator drives (R400-R403): where each event completes, and what it leaves. -/
def Obligations.ActuatorComplete : Prop :=
  (∀ (c wedge elph age period flags : Nat) (vcm ma sensed : Int) (s : State), populated s.hw c = true → domainUp s.hw 22 = true →
     acState s.hw c = 2 → sbRetract flags = false → sbCmdv flags = true →
     ∃ t, exec (.actuatorMessage c vcm ma wedge elph age period flags sensed) s = .next t ∧
     (t.hw.drives.get c).vcm = max (-32768) (min 32768 (vcm + getS s.hw AC_CAL_VOFS (inst c))) ∧
     (t.hw.drives.get c).maCode = (if sbMaen flags then maCode ma else 8192) ∧ acState t.hw c = 2 ∧ t.hw.mem = s.hw.mem ∧
     t.vault = s.vault ∧ t.pending = s.pending) ∧
  (∀ (c wedge elph age period flags : Nat) (vcm ma sensed : Int) (s : State), populated s.hw c = true → domainUp s.hw 22 = true →
     acState s.hw c = 1 → (s.hw.drives.get c).profile = .none → sbRetract flags = false → sbCmdv flags = true →
     getF s.hw PW_BOOT_STAGE 0 ≠ 0x0A → ∃ t, exec (.actuatorMessage c vcm ma wedge elph age period flags sensed) s = .next t ∧
     acState t.hw c = 2 ∧ getF t.hw AC_IRQS_LOADED (inst c) = 1 ∧ bitAt t.hw.boot.loaded c = true ∧ t.hw.mem = s.hw.mem ∧
     t.vault = s.vault ∧ t.pending = s.pending) ∧
  (∀ (c : Nat) (s : State), populated s.hw c = true → acState s.hw c = 2 → 200 ≤ (s.hw.drives.get c).offFor →
     ∃ t, exec (.currentMismatch c) s = .next t ∧ (t.hw.drives.get c).profile = Profile.retract ∧ (t.hw.drives.get c).phase = 1 ∧
     t.hw.mem = s.hw.mem ∧ t.vault = s.vault ∧ t.pending = s.pending) ∧
  (∀ (c : Nat) (s : State), populated s.hw c = true → acState s.hw c = 2 → sidebandDown s.hw c = true →
     ∃ t, exec (.sidebandTimeout c) s = .next t ∧ (t.hw.drives.get c).profile = Profile.retract ∧ acState t.hw c = 5 ∧
     getF t.hw AC_IRQS_SBTO (inst c) = 1 ∧ t.hw.mem = s.hw.mem ∧ t.vault = s.vault ∧ t.pending = s.pending) ∧
  (∀ (c : Nat) (s : State), acState s.hw c = 3 → 16 ≤ (s.hw.drives.get c).holding → c < 4 → ∃ t, exec (.holdingTimeout c) s = .next t ∧
     (t.hw.drives.get c).profile = Profile.retract ∧ acState t.hw c = 5 ∧ t.hw.mem = s.hw.mem ∧ t.vault = s.vault ∧ t.pending = s.pending) ∧
  (∀ (c : Nat) (s : State), populated s.hw c = true → acState s.hw c = 0 → loadSpeed s.hw = true → s.hw.pins.prsntDebounced = false →
     loadTurn s.hw c = true → ∃ t, exec (.load c) s = .next t ∧ acState t.hw c = 1 ∧ getF t.hw AC_STAT_LEAVING (inst c) = 1 ∧
     (t.hw.drives.get c).profile = Profile.load ∧ (t.hw.drives.get c).vcm = percent (getF s.hw AC_PROF_ILOAD (inst c)) ∧
     (sv t.hw c).leaving = true ∧ t.hw.mem = s.hw.mem ∧ t.vault = s.vault ∧ t.pending = s.pending) ∧
  (∀ (c : Nat) (s : State), populated s.hw c = true → acState s.hw c ≠ 0 → ∃ t, exec (.load c) s = .next t ∧
     getF t.hw AC_IRQS_LDFAIL (inst c) = 1 ∧ t.hw.drives = s.hw.drives ∧ acState t.hw c = acState s.hw c ∧ t.hw.mem = s.hw.mem ∧
     t.vault = s.vault ∧ t.pending = s.pending) ∧
  (∀ (c : Nat) (s : State), acState s.hw c = 2 → c < 4 → ∃ t, exec (.unload c) s = .next t ∧ acState t.hw c = 4 ∧
     (t.hw.drives.get c).profile = Profile.unload ∧ (t.hw.drives.get c).vcm = -(percent (getF s.hw AC_PROF_IUNL (inst c))) ∧
     t.hw.mem = s.hw.mem ∧ t.vault = s.vault ∧ t.pending = s.pending) ∧
  (∀ (c : Nat) (s : State), acState s.hw c = 2 → c < 4 → ∃ t, exec (.retract c) s = .next t ∧ acState t.hw c = 5 ∧
     (t.hw.drives.get c).profile = Profile.retract ∧ getF t.hw AC_IRQS_RETR (inst c) = 1 ∧
     (t.hw.drives.get c).vcm = -(percent (getF s.hw AC_PROF_IRET (inst c))) ∧ t.hw.mem = s.hw.mem ∧ t.vault = s.vault ∧
     t.pending = s.pending) ∧
  (∀ (c : Nat) (s : State), (s.hw.drives.get c).profile = .load → (s.hw.drives.get c).phase = 2 →
     200 * phaseTime s.hw c ≤ (s.hw.drives.get c).age → c < 4 → ∃ t, exec (.profilePhaseEnd c) s = .next t ∧
     (t.hw.drives.get c).profile = Profile.none ∧ (t.hw.drives.get c).vcm = 0 ∧ getF t.hw AC_STAT_LEAVING (inst c) = 0 ∧
     acState t.hw c = acState s.hw c ∧ t.hw.mem = s.hw.mem ∧ t.vault = s.vault ∧ t.pending = s.pending) ∧
  (∀ (c : Nat) (s : State), (s.hw.drives.get c).profile = .retract → (s.hw.drives.get c).phase = 2 →
     200 * phaseTime s.hw c ≤ (s.hw.drives.get c).age → s.hw.boot.removal = Removal.none → s.hw.boot.thermalHold = false →
     s.hw.island.tripHoldUp = false → c < 4 → ∃ t, exec (.profilePhaseEnd c) s = .next t ∧ acState t.hw c = 0 ∧
     getF t.hw AC_IRQS_PARKED (inst c) = 1 ∧ (t.hw.drives.get c).profile = Profile.none ∧ (t.hw.drives.get c).maCode = 8192 ∧
     t.hw.mem = s.hw.mem ∧ t.vault = s.vault ∧ t.pending = s.pending) ∧
  (∀ (c : Nat) (s : State), acState s.hw c = 1 → 2 ≤ (s.hw.drives.get c).turned → c < 4 → ∃ t, exec (.loadTimeout c) s = .next t ∧
     getF t.hw AC_IRQS_LDFAIL (inst c) = 1 ∧ acState t.hw c = 5 ∧ (t.hw.drives.get c).profile = Profile.retract ∧ t.hw.mem = s.hw.mem ∧
     t.vault = s.vault ∧ t.pending = s.pending)

/-- The two ports (R112, R113, R408, R414, R415, R417, R469, R470): where each event completes, and what it leaves. -/
def Obligations.LinkAndControllerControlComplete : Prop :=
  (∀ (p kind : Nat) (s : State), p < 2 → portExists s.hw p = true → ∃ t, exec (.perst p kind) s = .next t ∧
     getF t.hw HP_LSTAT_SPEED (inst p) = 0 ∧ getF t.hw HP_LSTAT_WIDTH (inst p) = 0 ∧ (port t.hw p).en = false ∧ (port t.hw p).rdy = false ∧
     (port t.hw p).configured = false ∧ (port t.hw p).sqs = [] ∧ (port t.hw p).cqs = [] ∧ t.vault = s.vault ∧ t.pending = s.pending) ∧
  (∀ (p : Nat) (s : State), p < 2 → portExists s.hw p = true → exec (.hxPerstNRise p) s = .next { s with hw := { s.hw with out := [], pins := if p = 0 then { s.hw.pins with perstA := true } else { s.hw.pins with perstB := true } } }) ∧
  (∀ (p speed width : Nat) (reversed : Bool) (s : State), portExists s.hw p = true → p < 2 →
     (if p = 0 then s.hw.pins.perstA else s.hw.pins.perstB) = true → domainOn s.hw (1 + p) = true → 1 ≤ speed →
     speed ≤ liveVal s.hw (linkLeaf p) 0x012 0 → speed < 8 → 1 ≤ width → width ≤ 2 →
     ∃ t, exec (.pcieLinkUp p speed width reversed) s = .next t ∧ getF t.hw HP_LSTAT_SPEED (inst p) = speed ∧
     getF t.hw HP_LSTAT_WIDTH (inst p) = width ∧ getF t.hw HP_LSTAT_REV (inst p) = reversed.toNat ∧ (port t.hw p).configured = true ∧
     t.hw.mem = s.hw.mem ∧ t.vault = s.vault ∧ t.pending = s.pending) ∧
  (∀ (p : Nat) (s : State), p < 2 → (port s.hw p).configured = true → ∃ t, exec (.functionLevelReset p) s = .next t ∧
     (port t.hw p).configured = true ∧ (port t.hw p).en = false ∧ (port t.hw p).rdy = false ∧ (port t.hw p).sqs = [] ∧ t.vault = s.vault ∧
     t.pending = s.pending) ∧
  (∀ (p : Nat) (s : State), p < 2 → (port s.hw p).en = true → ∃ t, exec (.controllerDisable p) s = .next t ∧ (port t.hw p).en = false ∧
     (port t.hw p).rdy = false ∧ (port t.hw p).sqs = [] ∧ (port t.hw p).aers = [] ∧ (port t.hw p).configured = (port s.hw p).configured ∧
     t.vault = s.vault ∧ t.pending = s.pending) ∧
  (∀ (p asqs acqs : Nat) (s : State), p < 2 → (port s.hw p).configured = true → (port s.hw p).en = false →
     getF s.hw PW_BOOT_STAGE 0 = 0x0D → ∃ t, exec (.controllerEnable p asqs acqs) s = .next t ∧
     (port t.hw p) = { (port s.hw p) with cfs := true } ∧ t.hw.regs = s.hw.regs ∧ t.hw.mem = s.hw.mem ∧ t.vault = s.vault ∧
     t.pending = s.pending) ∧
  (∀ (p asqs acqs : Nat) (s : State), (port s.hw p).configured = true → (port s.hw p).en = false → 7 ≤ getF s.hw PW_BOOT_STAGE 0 →
     getF s.hw PW_BOOT_STAGE 0 ≠ 0x0D → flagF s.hw PW_BOOT_HALT 0 = false → ∃ t, exec (.controllerEnable p asqs acqs) s = .next t ∧
     (port t.hw p).en = true ∧ (port t.hw p).rdy = true ∧ oget (port t.hw p).sqs 0 = some ({ cq := 0, size := asqs } : SubQ) ∧
     oget (port t.hw p).cqs 0 = some ({ size := acqs, ien := true } : ComQ) ∧ t.hw.engine = { s.hw.engine with noReady := false } ∧
     t.hw.regs = s.hw.regs ∧ t.hw.mem = s.hw.mem ∧ t.vault = s.vault ∧ t.pending = s.pending) ∧
  (∀ (p asqs acqs : Nat) (s : State), (port s.hw p).configured = true → (port s.hw p).en = false → getF s.hw PW_BOOT_STAGE 0 < 7 →
     flagF s.hw PW_BOOT_HALT 0 = false → ∃ t, exec (.controllerEnable p asqs acqs) s = .next t ∧ (port t.hw p).en = true ∧
     (port t.hw p).rdy = (port s.hw p).rdy ∧ (port t.hw p).cfs = (port s.hw p).cfs ∧ t.hw.regs = s.hw.regs ∧ t.hw.mem = s.hw.mem ∧
     t.vault = s.vault ∧ t.pending = s.pending) ∧
  (∀ (p : Nat) (s : State), (port s.hw p).rdy = true → s.hw.engine.cmds = [] → s.hw.twin.pairing = none ∨ s.hw.twin.port ≠ p →
     ∃ t, exec (.shutdown p) s = .next t ∧ (port t.hw p).shst = 2 ∧ (port t.hw p).aers = [] ∧ (port t.hw p).aborts = [] ∧
     (port t.hw p).sqs = (port s.hw p).sqs ∧ t.hw.regs = s.hw.regs ∧ t.hw.mem = s.hw.mem ∧ t.vault = s.vault ∧ t.pending = s.pending) ∧
  (∀ (p : Nat) (s : State), (port s.hw p).rdy = true → mget featureDefault (port s.hw p).features 0x0C = 1 →
     zget (port s.hw p).apst (port s.hw p).ps / 256 ≠ 0 → bits 7 3 (zget (port s.hw p).apst (port s.hw p).ps) ≤ 4 →
     zget (port s.hw p).apst (port s.hw p).ps / 256 ≤ (port s.hw p).idle → s.hw.engine.cmds = [] →
     ∃ t, exec (.apstIdleTimeout p) s = .next t ∧ (port t.hw p).ps = bits 7 3 (zget (port s.hw p).apst (port s.hw p).ps) ∧
     (port t.hw p).rdy = true ∧ t.hw.engine = s.hw.engine ∧ t.hw.regs = s.hw.regs ∧ t.hw.mem = s.hw.mem ∧ t.vault = s.vault ∧
     t.pending = s.pending) ∧
  (∀ (s : State), s.hw.portA.rdy = false → s.hw.portB.rdy = false → 60000 ≤ s.hw.engine.unready →
     exec .noReadyControllerTimeout s = .next { s with hw := { s.hw with out := [], engine := { s.hw.engine with noReady := true } } }) ∧
  (∀ (p : Nat) (s : State), (port s.hw p).rdy = true → 3 ≤ (port s.hw p).ps → ∃ t, exec (.powerStateExitOnIo p) s = .next t ∧
     (port t.hw p).ps = (port s.hw p).lastOp ∧ (port t.hw p).rdy = true ∧ t.vault = s.vault ∧ t.pending = s.pending)

/-- Admin commands (R421, R423-R425, R429, R458, R460): where each completes, and what it leaves and answers. Status numbers that the
spec leaves to the NVMe specifications are the model's (assumption log). -/
def Obligations.AdminCommandsComplete : Prop :=
  (∀ (p cid qid size vector : Nat) (ien : Bool) (s : State), adminUp s.hw p = true → 1 ≤ qid → qid ≤ 64 →
     oget (port s.hw p).cqs qid = none → 2 ≤ size → size ≤ 1024 → vector ≤ 64 →
     ∃ t, exec (.createIoCq p cid qid size vector ien) s = .next t ∧
     oget (port t.hw p).cqs qid = some ({ size := size, vector := vector, ien := ien } : ComQ) ∧ (∀ k, k ≠ qid →
     oget (port t.hw p).cqs k = oget (port s.hw p).cqs k) ∧ (port t.hw p).sqs = (port (fetched s.hw p) p).sqs ∧
     t.hw.engine.posting = s.hw.engine.posting ++ [(p, 0, cid, 0, 0, 0)] ∧ t.hw.regs = s.hw.regs ∧ t.hw.mem = s.hw.mem ∧ t.vault = s.vault ∧
     t.pending = s.pending) ∧
  (∀ (p cid qid size cqid : Nat) (q : ComQ) (s : State), adminUp s.hw p = true → 1 ≤ qid → qid ≤ 64 → oget (port s.hw p).sqs qid = none →
     2 ≤ size → size ≤ 1024 → 1 ≤ cqid → oget (port s.hw p).cqs cqid = some q → ∃ t, exec (.createIoSq p cid qid size cqid) s = .next t ∧
     oget (port t.hw p).sqs qid = some ({ cq := cqid, size := size } : SubQ) ∧ (∀ k, k ≠ qid →
     oget (port t.hw p).sqs k = oget (port (fetched s.hw p) p).sqs k) ∧ (port t.hw p).cqs = (port s.hw p).cqs ∧
     t.hw.engine.posting = s.hw.engine.posting ++ [(p, 0, cid, 0, 0, 0)] ∧ t.hw.regs = s.hw.regs ∧ t.hw.mem = s.hw.mem ∧ t.vault = s.vault ∧
     t.pending = s.pending) ∧
  (∀ (p cid qid : Nat) (q : SubQ) (s : State), adminUp s.hw p = true → 1 ≤ qid → oget (port s.hw p).sqs qid = some q →
     s.hw.engine.cmds = [] → ∃ t, exec (.deleteIoSq p cid qid) s = .next t ∧ oget (port t.hw p).sqs qid = none ∧
     (port t.hw p).cqs = (port s.hw p).cqs ∧ t.hw.engine.posting = s.hw.engine.posting ++ [(p, 0, cid, 0, 0, 0)] ∧ t.hw.regs = s.hw.regs ∧
     t.hw.mem = s.hw.mem ∧ t.vault = s.vault ∧ t.pending = s.pending) ∧
  (∀ (p cid qid : Nat) (q : ComQ) (s : State), adminUp s.hw p = true → 1 ≤ qid → oget (port s.hw p).cqs qid = some q →
     (port s.hw p).sqs.any (fun (q : Nat × Option SubQ) => match q.2 with | some x => x.cq == qid && q.1 != 0 | none => false) = false →
     ∃ t, exec (.deleteIoCq p cid qid) s = .next t ∧ oget (port t.hw p).cqs qid = none ∧ (port t.hw p).sqs = (port (fetched s.hw p) p).sqs ∧
     t.hw.engine.posting = s.hw.engine.posting ++ [(p, 0, cid, 0, 0, 0)] ∧ t.hw.regs = s.hw.regs ∧ t.hw.mem = s.hw.mem ∧ t.vault = s.vault ∧
     t.pending = s.pending) ∧
  (∀ (p cid qid : Nat) (q : ComQ) (s : State), adminUp s.hw p = true → 1 ≤ qid → oget (port s.hw p).cqs qid = some q →
     (port s.hw p).sqs.any (fun (q : Nat × Option SubQ) => match q.2 with | some x => x.cq == qid && q.1 != 0 | none => false) = true →
     ∃ t, exec (.deleteIoCq p cid qid) s = .next t ∧ (port t.hw p) = (port (fetched s.hw p) p) ∧
     t.hw.engine.posting = s.hw.engine.posting ++ [(p, 0, cid, 0, 0x10C, 0)] ∧ t.hw.regs = s.hw.regs ∧ t.hw.mem = s.hw.mem ∧
     t.vault = s.vault ∧ t.pending = s.pending) ∧
  (∀ (p cid nsid : Nat) (s : State), adminUp s.hw p = true → 1 ≤ nsid → nsid ≤ 128 → (attachedTo s.hw p).contains nsid = true →
     lget s.hw.cipher.history nsid = [] → ∃ t, exec (.getLogPage p cid 0xC0 nsid 0 4) s = .next t ∧
     t.hw.out = [Output.page p (leBytes 2 1 ++ zeros 2)] ∧ t.hw.engine.posting = s.hw.engine.posting ++ [(p, 0, cid, 0, 0, 0)] ∧
     t.hw.regs = s.hw.regs ∧ t.hw.mem = s.hw.mem ∧ t.vault = s.vault ∧ t.pending = s.pending) ∧
  (∀ (p cid nsid off len : Nat) (s : State), adminUp s.hw p = true → nsid ≠ 0xFFFFFFFF →
     ∃ t, exec (.getLogPage p cid 0x02 nsid off len) s = .next t ∧ t.hw.out = [] ∧
     t.hw.engine.posting = s.hw.engine.posting ++ [(p, 0, cid, 0, stField, 0)] ∧ t.hw.portA = (fetched s.hw p).portA ∧
     t.hw.portB = (fetched s.hw p).portB ∧ t.hw.regs = s.hw.regs ∧ t.hw.mem = s.hw.mem ∧ t.vault = s.vault ∧ t.pending = s.pending) ∧
  (∀ (p cid : Nat) (s : State), adminUp s.hw p = true → s.hw.engine.spaces = [] → ∃ t, exec (.identify p cid 0x10 0 0) s = .next t ∧
     t.hw.out = [Output.page p (spaceList [] 0)] ∧ t.hw.engine.posting = s.hw.engine.posting ++ [(p, 0, cid, 0, 0, 0)] ∧
     t.hw.regs = s.hw.regs ∧ t.hw.mem = s.hw.mem ∧ t.vault = s.vault ∧ t.pending = s.pending) ∧
  (∀ (p cid nsid : Nat) (s : State), adminUp s.hw p = true → (nsid = 0 ∨ (128 < nsid ∧ nsid ≠ 0xFFFFFFFF)) →
     ∃ t, exec (.identify p cid 0x00 nsid 0) s = .next t ∧ t.hw.out = [] ∧
     t.hw.engine.posting = s.hw.engine.posting ++ [(p, 0, cid, 0, stNamespace, 0)] ∧ t.hw.regs = s.hw.regs ∧ t.hw.mem = s.hw.mem ∧
     t.vault = s.vault ∧ t.pending = s.pending) ∧
  (∀ (p cid sq tcid : Nat) (s : State), adminUp s.hw p = true → (port s.hw p).aborts.length < 4 → sq ≠ 0 → s.hw.engine.cmds = [] →
     ∃ t, exec (.abort p cid sq tcid) s = .next t ∧ t.hw.engine.posting = s.hw.engine.posting ++ [(p, 0, cid, 0, 0, 1)] ∧
     zget t.hw.engine.counters 3 = (zget s.hw.engine.counters 3 + 1) % 2 ^ 32 ∧ t.hw.portA = (fetched s.hw p).portA ∧
     t.hw.portB = (fetched s.hw p).portB ∧ t.hw.regs = s.hw.regs ∧ t.hw.mem = s.hw.mem ∧ t.vault = s.vault ∧ t.pending = s.pending) ∧
  (∀ (p cid sq tcid : Nat) (x : Cmd) (s : State), adminUp s.hw p = true → (port s.hw p).aborts.length < 4 → sq ≠ 0 →
     s.hw.engine.cmds = [x] → x.source = Source.host → x.port = p → x.sq = sq → x.cid = tcid → x.committed = none → x.noPost = false →
     x.verdict = none → x.pieces = [] → ∃ t, exec (.abort p cid sq tcid) s = .next t ∧
     t.hw.engine.cmds = [{ x with verdict := some stAborted, stage := .ready }] ∧
     (port t.hw p).aborts = (port s.hw p).aborts ++ [(cid, sq, tcid)] ∧
     zget t.hw.engine.counters 2 = (zget s.hw.engine.counters 2 + 1) % 2 ^ 32 ∧ t.hw.engine.posting = s.hw.engine.posting ∧
     t.hw.regs = s.hw.regs ∧ t.hw.mem = s.hw.mem ∧ t.vault = s.vault ∧ t.pending = s.pending) ∧
  (∀ (p cid fid nsid value : Nat) (s : State), adminUp s.hw p = true → fid ∈ [0x01, 0x08, 0x0A, 0x0B, 0x81, 0x82] →
     ∃ t, exec (.setFeatures p cid fid nsid value []) s = .next t ∧ mget featureDefault (port t.hw p).features fid = value ∧ (∀ k, k ≠ fid →
     mget featureDefault (port t.hw p).features k = mget featureDefault (port s.hw p).features k) ∧
     t.hw.engine.posting = s.hw.engine.posting ++ [(p, 0, cid, 0, 0, 0)] ∧ t.hw.regs = s.hw.regs ∧ t.hw.mem = s.hw.mem ∧ t.vault = s.vault ∧
     t.pending = s.pending) ∧
  (∀ (p cid nsid value : Nat) (s : State), adminUp s.hw p = true → (space s.hw nsid).size ≠ 0 → nsid ≠ 0xFFFFFFFF →
     ∃ t, exec (.setFeatures p cid 0x05 nsid value []) s = .next t ∧
     mget featureDefault (port t.hw p).features (featureKey 0x05 nsid value) = value ∧ (∀ k, k ≠ featureKey 0x05 nsid value →
     mget featureDefault (port t.hw p).features k = mget featureDefault (port s.hw p).features k) ∧
     t.hw.engine.posting = s.hw.engine.posting ++ [(p, 0, cid, 0, 0, 0)] ∧ t.hw.regs = s.hw.regs ∧ t.hw.mem = s.hw.mem ∧ t.vault = s.vault ∧
     t.pending = s.pending) ∧
  (∀ (p cid nsid value : Nat) (s : State), adminUp s.hw p = true → value % 2 ^ 16 ≤ 65 →
     ∃ t, exec (.setFeatures p cid 0x09 nsid value []) s = .next t ∧
     mget featureDefault (port t.hw p).features (featureKey 0x09 nsid value) = value ∧ (∀ k, k ≠ featureKey 0x09 nsid value →
     mget featureDefault (port t.hw p).features k = mget featureDefault (port s.hw p).features k) ∧
     t.hw.engine.posting = s.hw.engine.posting ++ [(p, 0, cid, 0, 0, 0)] ∧ t.hw.regs = s.hw.regs ∧ t.hw.mem = s.hw.mem ∧ t.vault = s.vault ∧
     t.pending = s.pending) ∧
  (∀ (p cid nsid value : Nat) (s : State), adminUp s.hw p = true → value % 32 ≤ 4 →
     ∃ t, exec (.setFeatures p cid 0x02 nsid value []) s = .next t ∧ (port t.hw p).ps = value % 32 ∧
     (port t.hw p).lastOp = (if value % 32 < 3 then value % 32 else (port s.hw p).lastOp) ∧
     t.hw.engine.posting = s.hw.engine.posting ++ [(p, 0, cid, 0, 0, 0)] ∧ t.hw.regs = s.hw.regs ∧ t.hw.mem = s.hw.mem ∧ t.vault = s.vault ∧
     t.pending = s.pending) ∧
  (∀ (p cid fid nsid value : Nat) (l : List Nat) (s : State), adminUp s.hw p = true → featureIds.contains fid = false →
     ∃ t, exec (.setFeatures p cid fid nsid value l) s = .next t ∧ (port t.hw p) = (port (fetched s.hw p) p) ∧
     t.hw.engine.posting = s.hw.engine.posting ++ [(p, 0, cid, 0, stField, 0)] ∧ t.hw.regs = s.hw.regs ∧ t.hw.mem = s.hw.mem ∧
     t.vault = s.vault ∧ t.pending = s.pending) ∧
  (∀ (p cid fid nsid : Nat) (s : State), adminUp s.hw p = true → featureIds.contains fid = true →
     ∃ t, exec (.getFeatures p cid fid nsid 1) s = .next t ∧ (port t.hw p) = (port (fetched s.hw p) p) ∧
     t.hw.engine.posting = s.hw.engine.posting ++ [(p, 0, cid, 0, 0, defaultFeature s.hw (featureKey fid nsid nsid))] ∧
     t.hw.regs = s.hw.regs ∧ t.hw.mem = s.hw.mem ∧ t.vault = s.vault ∧ t.pending = s.pending) ∧
  (∀ (p cid fid nsid : Nat) (s : State), adminUp s.hw p = true → fid ∈ [0x01, 0x05, 0x08, 0x09, 0x0A, 0x0B, 0x0C, 0x81, 0x82] →
     ∃ t, exec (.getFeatures p cid fid nsid 0) s = .next t ∧ (port t.hw p) = (port (fetched s.hw p) p) ∧
     t.hw.engine.posting = s.hw.engine.posting ++ [(p, 0, cid, 0, 0, mget featureDefault (port s.hw p).features (featureKey fid nsid nsid))] ∧
     t.hw.regs = s.hw.regs ∧ t.hw.mem = s.hw.mem ∧ t.vault = s.vault ∧ t.pending = s.pending) ∧
  (∀ (p cid : Nat) (s : State), adminUp s.hw p = true → 8 ≤ (port s.hw p).aers.length →
     ∃ t, exec (.asynchronousEventRequest p cid) s = .next t ∧ (port t.hw p) = (port (fetched s.hw p) p) ∧
     t.hw.engine.posting = s.hw.engine.posting ++ [(p, 0, cid, 0, 0x105, 0)] ∧ t.hw.regs = s.hw.regs ∧ t.hw.mem = s.hw.mem ∧
     t.vault = s.vault ∧ t.pending = s.pending) ∧
  (∀ (p cid : Nat) (s : State), adminUp s.hw p = true → (port s.hw p).aers.length < 8 → (port s.hw p).events = [] →
     ∃ t, exec (.asynchronousEventRequest p cid) s = .next t ∧ (port t.hw p).aers = (port s.hw p).aers ++ [cid] ∧
     t.hw.engine.posting = s.hw.engine.posting ∧ t.hw.regs = s.hw.regs ∧ t.hw.mem = s.hw.mem ∧ t.vault = s.vault ∧ t.pending = s.pending) ∧
  (∀ (p cid e : Nat) (l : List Nat) (s : State), adminUp s.hw p = true → (port s.hw p).aers.length < 8 → (port s.hw p).events = e :: l →
     ∃ t, exec (.asynchronousEventRequest p cid) s = .next t ∧ (port t.hw p).aers = (port s.hw p).aers ∧ (port t.hw p).events = l ∧
     t.hw.engine.posting = s.hw.engine.posting ++ [(p, 0, cid, 0, 0, e)] ∧ t.hw.regs = s.hw.regs ∧ t.hw.mem = s.hw.mem ∧ t.vault = s.vault ∧
     t.pending = s.pending)

/-- Changes of namespaces (R426, R427, R441, R442, R464-R467, R546, R550, R560, R575) and the units of work of the operations they start. -/
def Obligations.NamespaceAndSanitizeCommandsComplete : Prop :=
  (∀ (p cid nsze fmt pi n : Nat) (mset pil : Bool) (es : List Nat) (s : State), adminUp s.hw p = true → standby s.hw = false →
     operStatus s.hw = 0 → nsze ≠ 0 → nsze % extentBlocks = 0 → formatStatus fmt pi = 0 → freeNsid s.hw = some n →
     bandsFor s.hw n (nsze / extentBlocks) 0 s.hw.engine.extents = some es → mirrors s.hw = false →
     ∃ t, exec (.namespaceManagement p cid 0 0 nsze nsze fmt pi mset pil) s = .next t ∧ (space t.hw n).size = nsze ∧
     (space t.hw n).fmt = fmt ∧ (space t.hw n).attached = 0 ∧ t.hw.engine.mapWait = s.hw.engine.mapWait ++ [(p, 0, cid, 0, 0, n)] ∧
     t.hw.engine.posting = s.hw.engine.posting ∧ (ledger t.hw n).st = 1 ∧ t.hw.engine.mapDue = true ∧ t.hw.regs = s.hw.regs ∧
     t.hw.mem = s.hw.mem ∧ t.vault = changeHall s.vault n { st := 1, epoch := ((nextHall s.vault n).epoch + 1) % 2 ^ 32 } ∧
     t.pending = s.pending) ∧
  (∀ (p cid nsid nsze ncap fmt pi : Nat) (mset pil : Bool) (s : State), adminUp s.hw p = true → standby s.hw = false → operStatus s.hw = 0 →
     nsze < ncap → ∃ t, exec (.namespaceManagement p cid 0 nsid nsze ncap fmt pi mset pil) s = .next t ∧
     t.hw.engine.posting = s.hw.engine.posting ++ [(p, 0, cid, 0, stField, 0)] ∧ t.hw.engine.spaces = s.hw.engine.spaces ∧
     t.hw.regs = s.hw.regs ∧ t.hw.mem = s.hw.mem ∧ t.vault = s.vault ∧ t.pending = s.pending) ∧
  (∀ (p cid n nsze ncap fmt pi : Nat) (mset pil : Bool) (s : State), adminUp s.hw p = true → standby s.hw = false → operStatus s.hw = 0 →
     n ≠ 0xFFFFFFFF → (space s.hw n).size ≠ 0 → s.hw.engine.cmds = [] → s.hw.portA.rdy = false ∨ p = 0 → s.hw.portB.rdy = false ∨ p ≠ 0 →
     p < 2 → mirrors s.hw = false → s.hw.cipher.running = [] → ∃ t, exec (.namespaceManagement p cid 1 n nsze ncap fmt pi mset pil) s = .next t ∧
     (space t.hw n).size = 0 ∧ (space t.hw n).creations = (space s.hw n).creations ∧ (∀ e, (extent t.hw e).nsid = n → n = 0) ∧
     (ledger t.hw n).st = 2 ∧ (nextHall t.vault n).st = 0 ∧ (nextHall t.vault n).epoch = (nextHall s.vault n).epoch ∧
     t.hw.regs = s.hw.regs ∧ t.hw.mem = s.hw.mem ∧ t.pending = s.pending) ∧
  (∀ (p cid n ctrls : Nat) (s : State), adminUp s.hw p = true → (space s.hw n).size ≠ 0 → ctrls ≠ 0 →
     ctrls ≤ (if dualPort s.hw then 3 else 1) → (space s.hw n).attached &&& ctrls = 0 → s.hw.portA.rdy = false ∨ p = 0 →
     s.hw.portB.rdy = false ∨ p ≠ 0 → p < 2 → ∃ t, exec (.namespaceAttachment p cid 0 n ctrls) s = .next t ∧
     space t.hw n = { space s.hw n with attached := (space s.hw n).attached ||| ctrls } ∧ (∀ k, k ≠ n → space t.hw k = space s.hw k) ∧
     t.hw.engine.posting = s.hw.engine.posting ++ [(p, 0, cid, 0, 0, 0)] ∧ t.hw.regs = s.hw.regs ∧ t.hw.mem = s.hw.mem ∧ t.vault = s.vault ∧
     t.pending = s.pending) ∧
  (∀ (p cid n ctrls : Nat) (s : State), adminUp s.hw p = true → (space s.hw n).size ≠ 0 → ctrls ≠ 0 →
     ctrls ≤ (if dualPort s.hw then 3 else 1) → (space s.hw n).attached &&& ctrls ≠ 0 →
     ∃ t, exec (.namespaceAttachment p cid 0 n ctrls) s = .next t ∧ t.hw.engine.spaces = s.hw.engine.spaces ∧
     t.hw.engine.posting = s.hw.engine.posting ++ [(p, 0, cid, 0, 0x118, 0)] ∧ t.hw.regs = s.hw.regs ∧ t.hw.mem = s.hw.mem ∧
     t.vault = s.vault ∧ t.pending = s.pending) ∧
  (∀ (p cid n fmt pi ses : Nat) (mset pil : Bool) (s : State), adminUp s.hw p = true → standby s.hw = false → operStatus s.hw = 0 →
     n ≠ 0xFFFFFFFF → ses ≤ 2 → (space s.hw n).size ≠ 0 → bitAt (space s.hw n).attached p = true → formatStatus fmt pi = 0 →
     (entriesIn s.hw n).any (fun (e : Nat) => entryFenced s.hw e) = false → mirrors s.hw = false →
     ∃ t, exec (.formatNvm p cid n fmt pi ses mset pil) s = .next t ∧
     t.hw.engine.oper = some ({ kind := .format, nsid := n, port := p, cid := cid, fmt := fmt, pi := pi, mset := mset, pil := pil, ses := ses } : Oper) ∧
     getF t.hw HQ_STAT_FMT 0 = 1 ∧ t.hw.engine.posting = s.hw.engine.posting ∧ t.hw.mem = s.hw.mem ∧ t.vault = s.vault ∧
     t.pending = s.pending) ∧
  (∀ (p cid n fmt pi ses : Nat) (mset pil : Bool) (o : Oper) (s : State), adminUp s.hw p = true → standby s.hw = false →
     s.hw.engine.oper = some o → o.kind = .format → ∃ t, exec (.formatNvm p cid n fmt pi ses mset pil) s = .next t ∧
     t.hw.engine.oper = some o ∧ t.hw.engine.posting = s.hw.engine.posting ++ [(p, 0, cid, 0, stFormatting, 0)] ∧ t.hw.regs = s.hw.regs ∧
     t.hw.mem = s.hw.mem ∧ t.vault = s.vault ∧ t.pending = s.pending) ∧
  (∀ (p cid owpass ovrpat : Nat) (ause oipbp : Bool) (s : State), adminUp s.hw p = true → standby s.hw = false → operStatus s.hw = 0 →
     s.hw.engine.sanitize ≠ 3 → mirrors s.hw = false → 1 ≤ owpass → owpass < 16 → ovrpat < 2 ^ 32 →
     ∃ t, exec (.sanitize p cid 3 ause owpass oipbp ovrpat) s = .next t ∧
     t.hw.engine.oper = some ({ kind := .overwrite, port := p, cid := cid, passes := owpass, pattern := ovrpat, invert := oipbp, ause := ause } : Oper) ∧
     getF t.hw HQ_STAT_SANI 0 = 1 ∧ t.hw.engine.sanitize = 2 ∧ t.hw.engine.unrestricted = ause ∧ t.hw.engine.posting = s.hw.engine.posting ∧
     t.hw.mem = s.hw.mem ∧ t.vault = s.vault ∧ t.pending = s.pending) ∧
  (∀ (p cid owpass ovrpat : Nat) (ause oipbp : Bool) (s : State), adminUp s.hw p = true → standby s.hw = false → operStatus s.hw = 0 →
     s.hw.engine.sanitize = 3 → s.hw.engine.unrestricted = false → ∃ t, exec (.sanitize p cid 1 ause owpass oipbp ovrpat) s = .next t ∧
     t.hw.engine.sanitize = 3 ∧ t.hw.engine.posting = s.hw.engine.posting ++ [(p, 0, cid, 0, stSanitizeFailed, 0)] ∧ t.hw.regs = s.hw.regs ∧
     t.hw.mem = s.hw.mem ∧ t.vault = s.vault ∧ t.pending = s.pending) ∧
  (∀ (o : Oper) (s : State), s.hw.engine.oper = some o → o.kind = .cryptoErase → o.started = false → o.resumed = false → o.fromTwin = none →
     mediaReady s.hw = true → s.hw.engine.cmds = [] → ∃ t, exec .formatSanitizeResume s = .next t ∧
     t.hw.engine.oper = some { o with started := true } ∧ t.hw.engine.posting = s.hw.engine.posting ++ [(o.port, 0, o.cid, 0, 0, 0)] ∧
     t.hw.mem = s.hw.mem ∧ t.vault = s.vault ∧ t.pending = s.pending) ∧
  (∀ (o : Oper) (s : State), s.hw.engine.oper = some o → o.kind = .format → o.started = true → o.step = 4 → o.resumed = false →
     o.fromTwin = none → mediaReady s.hw = true → s.hw.engine.mapDue = false → o.ackDue = none →
     ∃ t, exec .formatSanitizeResume s = .next t ∧ t.hw.engine.oper = none ∧ getF t.hw HQ_STAT_FMT 0 = 0 ∧
     t.hw.engine.posting = s.hw.engine.posting ++ [(o.port, 0, o.cid, 0, 0, 0)] ∧ t.hw.mem = s.hw.mem ∧ t.vault = s.vault ∧
     t.pending = s.pending)

/-- I/O commands from fetch to their verdict (R423, R435-R437, R440, R443, R449-R452, R461, R477-R479): where each event completes, and what
it leaves. The reservation rules are those of the NVMe specification that R423 names (assumption log). -/
def Obligations.HostCommandsComplete : Prop :=
  (∀ (p sq : Nat) (l : List Nat) (e : SqEntry) (s : State), sq ≠ 0 → (port s.hw p).ps < 3 → domainPs s.hw < 3 →
     getF s.hw HQ_STAT_FETCH 0 = 1 → domainUp s.hw 4 = true → s.hw.engine.cmds.length < 4095 → chosenQueue s.hw l = some (p, sq) →
     intakeStatus s.hw p e = 0 → e.opc = 1 → ∃ t, exec (.commandFetch p sq l e) s = .next t ∧
     t.hw.engine.cmds = s.hw.engine.cmds ++ [({ slot := freeSlotOf s.hw, isn := s.hw.engine.isn, port := p, sq := sq, cid := e.cid, opc := e.opc, nsid := e.nsid, slba := e.slba, nlb := e.nlb, ordered := e.ordered, addr := e.addr, maddr := e.maddr, prot := e.prot, stage := .pages, waited := s.hw.buffer.waiting } : Cmd)] ∧
     t.hw.engine.isn = s.hw.engine.isn + 1 ∧ t.hw.mem = s.hw.mem ∧ t.vault = s.vault ∧ t.pending = s.pending) ∧
  (∀ (p sq : Nat) (l : List Nat) (e : SqEntry) (s : State), sq ≠ 0 → (port s.hw p).ps < 3 → domainPs s.hw < 3 →
     getF s.hw HQ_STAT_FETCH 0 = 1 → domainUp s.hw 4 = true → s.hw.engine.cmds.length < 4095 → chosenQueue s.hw l = some (p, sq) →
     intakeStatus s.hw p e ≠ 0 → ∃ t, exec (.commandFetch p sq l e) s = .next t ∧
     (t.hw.engine.cmds.map (fun (x : Cmd) => (x.port, x.sq, x.cid, x.verdict))).getLast? = some (p, sq, e.cid, some (intakeStatus s.hw p e)) ∧
     t.hw.engine.cmds.length = s.hw.engine.cmds.length + 1 ∧ t.hw.engine.isn = s.hw.engine.isn + 1 ∧ t.hw.mem = s.hw.mem ∧
     t.vault = s.vault ∧ t.pending = s.pending) ∧
  (∀ (x : Cmd) (s : State), s.hw.engine.cmds = [x] → x.stage = .pages → pagesFor s.hw x ≤ getF s.hw BM_POOL_FREE 0 →
     ∃ t, exec .pagesAllocated s = .next t ∧ t.hw.engine.cmds = [{ x with stage := .order }] ∧
     getF t.hw BM_POOL_FREE 0 = getF s.hw BM_POOL_FREE 0 - pagesFor s.hw x ∧ t.hw.buffer.waiting = false ∧ t.hw.mem = s.hw.mem ∧
     t.vault = s.vault ∧ t.pending = s.pending) ∧
  (∀ (x : Cmd) (s : State), s.hw.engine.cmds = [x] → x.stage = .pages → getF s.hw BM_POOL_FREE 0 < pagesFor s.hw x →
     ∃ t, exec .pagesAllocated s = .next t ∧ t.hw.engine.cmds = [{ x with waited := true }] ∧ t.hw.buffer.waiting = true ∧
     t.hw.buffer.pages = s.hw.buffer.pages ∧ getF t.hw BM_POOL_FREE 0 = getF s.hw BM_POOL_FREE 0 ∧ t.hw.mem = s.hw.mem ∧ t.vault = s.vault ∧
     t.pending = s.pending) ∧
  (∀ (slot : Nat) (s : State), cmdAt s.hw slot = none → ∃ t, exec (.pagesFreed slot) s = .next t ∧
     (∀ q ∈ t.hw.buffer.pages, ∀ o n, q.2 = some (o, n) → o ≠ slot) ∧ t.hw.engine = s.hw.engine ∧ t.hw.mem = s.hw.mem ∧ t.vault = s.vault ∧
     t.pending = s.pending) ∧
  (∀ (x : Cmd) (s : State), s.hw.engine.cmds = [x] → x.stage = .order → x.verdict = none → x.opc = 2 → allFenced s.hw = false →
     (split s.hw x.nsid x.slba x.nlb).any (fun (q : Nat × Nat × Nat) => entryFenced s.hw q.1) = false →
     ∃ t, exec (.orderRelease x.slot) s = .next t ∧ t.hw.engine.cmds = [{ x with stage := .ready, since := s.hw.log.optime, pieces := (split s.hw x.nsid x.slba x.nlb).map (fun (q : Nat × Nat × Nat) => ({ entry := q.1, first := q.2.1, count := q.2.2, path := .read } : Piece)) }] ∧
     t.hw.regs = s.hw.regs ∧ t.hw.mem = s.hw.mem ∧ t.vault = s.vault ∧ t.pending = s.pending) ∧
  (∀ (x : Cmd) (s : State), s.hw.engine.cmds = [x] → x.stage = .order → x.verdict = none → x.committed = none → x.opc = 2 →
     (split s.hw x.nsid x.slba x.nlb).any (fun (q : Nat × Nat × Nat) => entryFenced s.hw q.1) = true →
     ∃ t, exec (.orderRelease x.slot) s = .next t ∧ t.hw.engine.cmds = [{ x with stage := .ready, since := s.hw.log.optime, verdict := some stFenced }] ∧
     t.hw.regs = s.hw.regs ∧ t.hw.mem = s.hw.mem ∧ t.vault = s.vault ∧ t.pending = s.pending) ∧
  (∀ (x : Cmd) (s : State), s.hw.engine.cmds = [x] → x.stage = .order → x.verdict = none → x.committed = none → allFenced s.hw = true →
     ∃ t, exec (.orderRelease x.slot) s = .next t ∧ t.hw.engine.cmds = [{ x with stage := .ready, since := s.hw.log.optime, verdict := some stFenced }] ∧
     t.hw.regs = s.hw.regs ∧ t.hw.mem = s.hw.mem ∧ t.vault = s.vault ∧ t.pending = s.pending) ∧
  (∀ (x : Cmd) (l m : List Nat) (s : State), s.hw.engine.cmds = [x] → x.opc = 1 → x.source = .host → x.stage ≠ .pages →
     x.inGallery = false → x.verdict = none → x.committed = none → x.noPost = false → (space s.hw x.nsid).fmt ≠ 1 → l.length = x.nlb →
     ∃ t, exec (.writeCommand x.slot l m false) s = .next t ∧ t.hw.engine.cmds = [{ x with inGallery := true, blocks := byLba x.slba x.nlb (fun (i : Nat) => l.getD i 0 % 2 ^ 32768) }] ∧
     t.hw.regs = s.hw.regs ∧ t.hw.mem = s.hw.mem ∧ t.vault = s.vault ∧ t.pending = s.pending) ∧
  (∀ (x : Cmd) (l m : List Nat) (s : State), s.hw.engine.cmds = [x] → x.opc = 1 → x.source = .host → x.stage ≠ .pages →
     x.inGallery = false → x.verdict = none → x.committed = none → x.noPost = false →
     ∃ t, exec (.writeCommand x.slot l m true) s = .next t ∧ t.hw.engine.cmds = [{ x with verdict := some stTransfer, pieces := [], stage := .ready }] ∧
     t.hw.regs = s.hw.regs ∧ t.hw.mem = s.hw.mem ∧ t.vault = s.vault ∧ t.pending = s.pending) ∧
  (∀ (x : Cmd) (l m : List Nat) (s : State), s.hw.engine.cmds = [x] → x.opc = 1 → x.source = .host → x.stage ≠ .pages →
     x.inGallery = false → x.verdict = none → x.committed = none → x.noPost = false → (space s.hw x.nsid).fmt = 1 →
     makesMeta (space s.hw x.nsid) x.prot = false → l.length = x.nlb → m.length = x.nlb →
     ∃ t, exec (.writeCommand x.slot l m false) s = .next t ∧ (commandProt (space s.hw x.nsid) (acceptData (space s.hw x.nsid) x l m) = 0 →
     t.hw.engine.cmds = [acceptData (space s.hw x.nsid) x l m]) ∧ (commandProt (space s.hw x.nsid) (acceptData (space s.hw x.nsid) x l m) ≠ 0 →
     t.hw.engine.cmds = [{ x with verdict := some (commandProt (space s.hw x.nsid) (acceptData (space s.hw x.nsid) x l m)), pieces := [], stage := .ready }]) ∧
     t.hw.regs = s.hw.regs ∧ t.hw.mem = s.hw.mem ∧ t.vault = s.vault ∧ t.pending = s.pending) ∧
  (∀ (x : Cmd) (s : State), s.hw.engine.cmds = [x] → x.opc = 8 → x.source = .host → x.inGallery = false → x.verdict = none →
     x.committed = none → (space s.hw x.nsid).fmt ≠ 1 → ∃ t, exec (.writeZeroes x.slot) s = .next t ∧
     t.hw.engine.cmds = [{ x with inGallery := true, blocks := byLba x.slba x.nlb (fun (_ : Nat) => 0) }] ∧ t.hw.regs = s.hw.regs ∧
     t.hw.mem = s.hw.mem ∧ t.vault = s.vault ∧ t.pending = s.pending) ∧
  (∀ (x : Cmd) (p : Piece) (s : State), s.hw.engine.cmds = [x] → x.opc = 2 → x.stage = .ready → x.verdict = none → x.pieces = [p] →
     p.st = .waiting → x.blocks = [] → 0 < x.nlb → 0 < p.count → (cal s.hw (extent s.hw p.entry).car).step = none →
     hostTurn s.hw (extent s.hw p.entry).car = true → (!(writes x) || writerFree s.hw (extent s.hw p.entry).car) = true →
     onFencedHead s.hw p = false → ∃ t, exec (.readCommand x.slot []) s = .next t ∧
     t.hw.engine.cmds = [{ x with pieces := [{ p with st := .started }], inGallery := false }] ∧ t.hw.regs = s.hw.regs ∧
     t.hw.mem = s.hw.mem ∧ t.vault = s.vault ∧ t.pending = s.pending) ∧
  (∀ (x : Cmd) (p : Piece) (s : State), s.hw.engine.cmds = [x] → x.opc = 12 → x.stage = .ready → x.verdict = none → x.pieces = [p] →
     p.st = .waiting → x.blocks = [] → 0 < x.nlb → 0 < p.count → (cal s.hw (extent s.hw p.entry).car).step = none →
     hostTurn s.hw (extent s.hw p.entry).car = true → (!(writes x) || writerFree s.hw (extent s.hw p.entry).car) = true →
     onFencedHead s.hw p = false → ∃ t, exec (.verifyCommand x.slot []) s = .next t ∧
     t.hw.engine.cmds = [{ x with pieces := [{ p with st := .started }], inGallery := false }] ∧ t.hw.regs = s.hw.regs ∧
     t.hw.mem = s.hw.mem ∧ t.vault = s.vault ∧ t.pending = s.pending) ∧
  (∀ (x : Cmd) (p : Piece) (s : State), s.hw.engine.cmds = [x] → x.opc = 2 → x.stage = .ready → x.verdict = none → x.committed = none →
     x.pieces = [p] → p.st = .waiting → x.blocks = [] → 0 < x.nlb → 0 < p.count → (cal s.hw (extent s.hw p.entry).car).step = none →
     hostTurn s.hw (extent s.hw p.entry).car = true → (!(writes x) || writerFree s.hw (extent s.hw p.entry).car) = true →
     onFencedHead s.hw p = false → ∃ t, exec (.readCommand x.slot [0]) s = .next t ∧
     t.hw.engine.cmds = [{ x with pieces := [{ p with st := .failed stReadError }], inGallery := false, verdict := some stReadError }] ∧
     t.hw.regs = s.hw.regs ∧ t.hw.mem = s.hw.mem ∧ t.vault = s.vault ∧ t.pending = s.pending) ∧
  (∀ (x : Cmd) (s : State), s.hw.engine.cmds = [x] → x.opc = 0 → x.stage = .ready → x.verdict = none → x.committed = none →
     ∃ t, exec (.flush x.slot) s = .next t ∧ t.hw.engine.cmds = [{ x with verdict := some stOk }] ∧ t.hw.regs = s.hw.regs ∧
     t.hw.mem = s.hw.mem ∧ t.vault = s.vault ∧ t.pending = s.pending) ∧
  (∀ (x : Cmd) (k ck : Nat) (s : State), s.hw.engine.cmds = [x] → x.opc = 13 → x.stage = .ready → x.verdict = none → x.committed = none →
     mirrors s.hw = false → (space s.hw x.nsid).regs = [] → ∃ t, exec (.reservationRegister x.slot 0 false ck k 0) s = .next t ∧
     t.hw.engine.cmds = [{ x with verdict := some stOk }] ∧ space t.hw x.nsid = { space s.hw x.nsid with regs := [({ ctrl := x.port, key := k % 2 ^ 64, hostId := hostIdOf s.hw x.port } : Registrant)], rgen := ((space s.hw x.nsid).rgen + 1) % 2 ^ 32 } ∧
     t.hw.regs = s.hw.regs ∧ t.hw.mem = s.hw.mem ∧ t.vault = s.vault ∧ t.pending = s.pending) ∧
  (∀ (x : Cmd) (k : Nat) (r : Registrant) (s : State), s.hw.engine.cmds = [x] → x.opc = 17 → x.stage = .ready → x.verdict = none →
     x.committed = none → mirrors s.hw = false → (space s.hw x.nsid).rtype = 0 → registrant s.hw x.nsid x.port = some r → r.key = k →
     ∃ t, exec (.reservationAcquire x.slot 0 false k 0 1) s = .next t ∧ t.hw.engine.cmds = [{ x with verdict := some stOk }] ∧
     space t.hw x.nsid = { space s.hw x.nsid with rtype := 1, holder := x.port } ∧ t.hw.regs = s.hw.regs ∧ t.hw.mem = s.hw.mem ∧
     t.vault = s.vault ∧ t.pending = s.pending) ∧
  (∀ (x : Cmd) (k : Nat) (s : State), s.hw.engine.cmds = [x] → x.opc = 17 → x.stage = .ready → x.verdict = none → x.committed = none →
     mirrors s.hw = false → registrant s.hw x.nsid x.port = none → ∃ t, exec (.reservationAcquire x.slot 0 false k 0 1) s = .next t ∧
     t.hw.engine.cmds = [{ x with verdict := some stReservation }] ∧ t.hw.engine.spaces = s.hw.engine.spaces ∧ t.hw.regs = s.hw.regs ∧
     t.hw.mem = s.hw.mem ∧ t.vault = s.vault ∧ t.pending = s.pending) ∧
  (∀ (x : Cmd) (k : Nat) (r : Registrant) (s : State), s.hw.engine.cmds = [x] → x.opc = 21 → x.stage = .ready → x.verdict = none →
     x.committed = none → mirrors s.hw = false → (space s.hw x.nsid).rtype = 1 → holds s.hw x.nsid x.port = true →
     registrant s.hw x.nsid x.port = some r → r.key = k → ∃ t, exec (.reservationRelease x.slot 0 false k 1) s = .next t ∧
     t.hw.engine.cmds = [{ x with verdict := some stOk }] ∧ space t.hw x.nsid = { space s.hw x.nsid with rtype := 0, holder := 0 } ∧
     t.hw.regs = s.hw.regs ∧ t.hw.mem = s.hw.mem ∧ t.vault = s.vault ∧ t.pending = s.pending) ∧
  (∀ (x : Cmd) (n : Nat) (s : State), s.hw.engine.cmds = [x] → x.opc = 0x0E → x.stage = .ready → x.verdict = none → x.committed = none →
     ∃ t, exec (.reservationReport x.slot n) s = .next t ∧ t.hw.engine.cmds = [{ x with verdict := some stOk }] ∧
     t.hw.out = [Output.host x.port x.addr ((reservationBytes (space s.hw x.nsid)).take (4 * (n + 1)))] ∧ t.hw.regs = s.hw.regs ∧
     t.hw.mem = s.hw.mem ∧ t.vault = s.vault ∧ t.pending = s.pending)

/-- Pieces of commands and their completion (R268, R269, R271, R278, R281, R435, R442, R453, R454, R462, R476, R551, R554): where each event
completes, and what it leaves. -/
def Obligations.PiecesAndCompletionsComplete : Prop :=
  (∀ (x : Cmd) (p : Piece) (k gap : Nat) (fails : List Nat) (w : LandPlaces) (s : State), s.hw.engine.cmds = [x] → x.stage = .ready →
     x.pieces = [p] → p.path = .landing → p.st = .started → p.pushed = false → p.cipher.length = p.count →
     entryFenced s.hw p.entry = false → (extent s.hw p.entry).car = k → k < 4 → (path s.hw k).noWrite = false → (cal s.hw k).hold = none →
     (cal s.hw k).step = none → movesWait s.hw = false → 131 ≤ landFree s.hw k → hostTurn s.hw k = true →
     (!(writes x) || writerFree s.hw k) = true → indexUsed s.hw k < 32768 → (space s.hw x.nsid).fmt = 0 →
     placeLanding s.hw k p.count fails gap = some w → lseq s.hw k + 1 < 2 ^ 64 → ∃ t, exec (.landingWrite x.slot 0 fails gap) s = .next t ∧
     (path t.hw k).records = (path s.hw k).records ++ [({ seq := lseq s.hw k + 1, nsid := x.nsid, sdu := lbaOf s.hw p.entry p.first, count := p.count, lpos := lposOf w, posmap := posmapOf w, kgen := p.kgen, ordered := x.ordered, mirrored := (extent s.hw p.entry).mirrored, pos := w.pos, dseq := ldseq s.hw k, time := timeNow s.hw, dcrc := p.cipher.map (fun c => crc32c (leBytes 4096 c)) } : LRec)] ∧
     lget t.hw.buffer.landIndex k = lget s.hw.buffer.landIndex k ++ [lseq s.hw k + 1] ∧ lseq t.hw k = lseq s.hw k + 1 ∧
     t.hw.engine.cmds = [{ x with pieces := [{ p with pushed := true }] }] ∧ t.hw.mem = s.hw.mem ∧ t.vault = s.vault ∧
     t.pending = s.pending) ∧
  (∀ (x : Cmd) (p : Piece) (k gap : Nat) (fails : List Nat) (s : State), s.hw.engine.cmds = [x] → x.stage = .ready → x.pieces = [p] →
     p.path = .landing → p.st = .started → p.pushed = false → p.cipher.length = p.count → entryFenced s.hw p.entry = false →
     (extent s.hw p.entry).car = k → k < 4 → (path s.hw k).noWrite = false → (cal s.hw k).hold = none → (cal s.hw k).step = none →
     movesWait s.hw = false → landFree s.hw k < 131 → ∃ t, exec (.landingWrite x.slot 0 fails gap) s = .next t ∧
     bitAt (getF t.hw HQ_STAT_LWAIT 0) k = true ∧ t.hw.carriages = s.hw.carriages ∧ t.hw.engine = s.hw.engine ∧ t.hw.mem = s.hw.mem ∧
     t.vault = s.vault ∧ t.pending = s.pending) ∧
  (∀ (x : Cmd) (p : Piece) (s : State), s.hw.engine.cmds = [x] → x.stage = .ready → x.pieces = [p] → writes x = true → p.st = .started →
     p.path = .landing → p.pushed = true → p.cipher.length = p.count → entryFenced s.hw p.entry = false →
     ∃ t, exec (.pieceOnMedium x.slot 0 0) s = .next t ∧ t.hw.engine.cmds = [{ x with pieces := [{ p with st := .done }] }] ∧
     t.hw.carriages = s.hw.carriages ∧ t.hw.regs = s.hw.regs ∧ t.hw.mem = s.hw.mem ∧ t.vault = s.vault ∧ t.pending = s.pending) ∧
  (∀ (x : Cmd) (p : Piece) (w : Nat) (s : State), s.hw.engine.cmds = [x] → x.stage = .ready → x.pieces = [p] → writes x = true →
     p.st = .started → p.path = .stream → p.count = 1 → p.cipher = [w] → entryFenced s.hw p.entry = false →
     landHeld s.hw p.entry p.first 1 = false → (extent s.hw p.entry).car < 4 → movesWait s.hw = false →
     (cal s.hw (extent s.hw p.entry).car).hold = none → (cal s.hw (extent s.hw p.entry).car).step = none →
     hostTurn s.hw (extent s.hw p.entry).car = true → (!(writes x) || writerFree s.hw (extent s.hw p.entry).car) = true →
     ∃ t, exec (.pieceOnMedium x.slot 0 0) s = .next t ∧ t.hw.engine.cmds = [{ x with pieces := [{ p with st := .done }] }] ∧
     mget (fun _ => (path t.hw (extent s.hw p.entry).car).fill) (path t.hw (extent s.hw p.entry).car).homeData (p.entry * extentBlocks + p.first) = w ∧
     t.hw.regs = s.hw.regs ∧ t.hw.mem = s.hw.mem ∧ t.vault = s.vault ∧ t.pending = s.pending) ∧
  (∀ (x : Cmd) (p : Piece) (s : State), s.hw.engine.cmds = [x] → x.stage = .ready → x.pieces = [p] → writes x = true → p.st = .started →
     p.cipher.length = p.count → entryFenced s.hw p.entry = false → x.verdict = none → x.committed = none → movesWait s.hw = false →
     (cal s.hw (extent s.hw p.entry).car).hold = none → (cal s.hw (extent s.hw p.entry).car).step = none →
     ∃ t, exec (.pieceOnMedium x.slot 0 stWriteFault) s = .next t ∧
     t.hw.engine.cmds = [{ x with pieces := [{ p with st := .failed stWriteFault }], verdict := some stWriteFault }] ∧
     t.hw.carriages = s.hw.carriages ∧ t.hw.regs = s.hw.regs ∧ t.hw.mem = s.hw.mem ∧ t.vault = s.vault ∧ t.pending = s.pending) ∧
  (∀ (x : Cmd) (p : Piece) (s : State), s.hw.engine.cmds = [x] → x.stage = .ready → x.pieces = [p] → writes x = true →
     x.source = Source.host → p.st = .done → p.waitsAck = [] → x.verdict = none → x.committed = none → x.noPost = false →
     s.hw.engine.lossHold = false → twinState s.hw ≠ 3 → s.hw.twin.acks = [] → (port s.hw x.port).aborts = [] → x.port < 2 →
     x.abortHeld = false → ∃ t, exec (.completionCommit x.slot false) s = .next t ∧ t.hw.engine.cmds = [{ x with committed := some 0 }] ∧
     t.hw.engine.posting = s.hw.engine.posting ++ [(x.port, queueOf s.hw x.port x.sq, x.cid, x.sq, 0, 0)] ∧
     ledger t.hw x.nsid = charge x 0 (ledger s.hw x.nsid) ∧ t.hw.regs = s.hw.regs ∧ t.hw.mem = s.hw.mem ∧ t.vault = s.vault ∧
     t.pending = s.pending) ∧
  (∀ (x : Cmd) (p : Piece) (s : State), s.hw.engine.cmds = [x] → x.opc = 2 → x.stage = .ready → x.pieces = [p] → x.source = Source.host →
     p.st = .done → x.inGallery = true → x.verdict = none → x.committed = none → x.noPost = false → s.hw.engine.lossHold = false →
     s.hw.twin.acks = [] → (port s.hw x.port).aborts = [] → x.port < 2 → x.abortHeld = false → (space s.hw x.nsid).fmt ≠ 1 →
     (List.range x.nlb).any (fun (i : Nat) => blockBad s.hw x.slot i) = false → ∃ t, exec (.completionCommit x.slot false) s = .next t ∧
     t.hw.engine.cmds = [{ x with committed := some 0 }] ∧ t.hw.out = [Output.data x.port x.addr ((List.range x.nlb).map (fun (i : Nat) => textOf x (x.slba + i)))] ∧
     t.hw.engine.posting = s.hw.engine.posting ++ [(x.port, queueOf s.hw x.port x.sq, x.cid, x.sq, 0, 0)] ∧
     ledger t.hw x.nsid = charge x 0 (ledger s.hw x.nsid) ∧ t.hw.regs = s.hw.regs ∧ t.hw.mem = s.hw.mem ∧ t.vault = s.vault ∧
     t.pending = s.pending) ∧
  (∀ (x : Cmd) (p : Piece) (s : State), s.hw.engine.cmds = [x] → x.opc = 2 → x.stage = .ready → x.pieces = [p] → x.source = Source.host →
     p.st = .done → x.inGallery = true → x.verdict = none → x.committed = none → x.noPost = false → s.hw.engine.lossHold = false →
     s.hw.twin.acks = [] → (port s.hw x.port).aborts = [] → x.port < 2 → x.abortHeld = false → (space s.hw x.nsid).fmt ≠ 1 →
     (List.range x.nlb).any (fun (i : Nat) => blockBad s.hw x.slot i) = false → ∃ t, exec (.completionCommit x.slot true) s = .next t ∧
     t.hw.engine.cmds = [{ x with committed := some stTransfer }] ∧ t.hw.out = [] ∧ t.hw.regs = s.hw.regs ∧ t.hw.mem = s.hw.mem ∧
     t.vault = s.vault ∧ t.pending = s.pending) ∧
  (∀ (x : Cmd) (p : Piece) (err : Bool) (s : State), s.hw.engine.cmds = [x] → x.stage = .ready → x.pieces = [p] → writes x = true →
     p.st = .started → x.verdict = none → twinState s.hw ≠ 3 → ∃ t, exec (.completionCommit x.slot err) s = .next t ∧
     t.hw.engine = s.hw.engine ∧ t.hw.regs = s.hw.regs ∧ t.hw.mem = s.hw.mem ∧ t.vault = s.vault ∧ t.pending = s.pending) ∧
  (∀ (p cq head cid sq st dw : Nat) (q : ComQ) (s : State), p < 2 → oget (port s.hw p).cqs cq = some q →
     s.hw.engine.posting = [(p, cq, cid, sq, st, dw)] → (q.tail + 1) % (max 1 q.size) ≠ head % (max 1 q.size) → q.ien = false →
     s.hw.engine.cmds = [] → (port s.hw p).shst = 0 → ∃ t, exec (.completionPost p cq head) s = .next t ∧
     t.hw.out = [Output.completion p cq cid (statusField st) dw sq (match oget (port s.hw p).sqs sq with | some x => x.head | none => 0) q.phase] ∧
     t.hw.engine.posting = [] ∧ oget (port t.hw p).cqs cq = some { q with tail := (q.tail + 1) % (max 1 q.size), head := head % (max 1 q.size), phase := if (q.tail + 1) % (max 1 q.size) = 0 then !q.phase else q.phase } ∧
     zget t.hw.engine.counters 1 = (zget s.hw.engine.counters 1 + 1) % 2 ^ 32 ∧ t.hw.regs = s.hw.regs ∧ t.hw.mem = s.hw.mem ∧
     t.vault = s.vault ∧ t.pending = s.pending) ∧
  (∀ (p cq head cid sq st dw : Nat) (q : ComQ) (s : State), p < 2 → oget (port s.hw p).cqs cq = some q →
     s.hw.engine.posting = [(p, cq, cid, sq, st, dw)] → (q.tail + 1) % (max 1 q.size) = head % (max 1 q.size) →
     ∃ t, exec (.completionPost p cq head) s = .next t ∧ t.hw.out = [] ∧ t.hw.engine = s.hw.engine ∧
     (oget (port t.hw p).cqs cq).map (fun (q : ComQ) => q.tail) = some q.tail ∧ t.hw.regs = s.hw.regs ∧ t.hw.mem = s.hw.mem ∧
     t.vault = s.vault ∧ t.pending = s.pending) ∧
  (∀ (x : Cmd) (p : Piece) (s : State), s.hw.engine.cmds = [x] → x.pieces = [p] → p.st = .started → x.committed = none → x.verdict = none →
     entryFenced s.hw p.entry = true → ∃ t, exec .fenceDuringExecution s = .next t ∧
     t.hw.engine.cmds = [{ x with verdict := some stFenced, pieces := [{ p with st := .failed stFenced }] }] ∧ t.hw.regs = s.hw.regs ∧
     t.hw.mem = s.hw.mem ∧ t.vault = s.vault ∧ t.pending = s.pending) ∧
  (∀ (c : Nat) (s : State), mapCarriages s.hw = [c] → s.hw.engine.mapDue = true → ∃ t, exec (.extentMapChange c) s = .next t ∧
     oget t.hw.engine.mapCopies c = some (s.hw.engine.mapSeq, s.hw.engine.extents) ∧ t.hw.engine.mapDue = false ∧
     t.hw.engine.posting = s.hw.engine.posting ++ s.hw.engine.mapWait ∧ t.hw.engine.mapWait = [] ∧ t.hw.regs = s.hw.regs ∧
     t.hw.mem = s.hw.mem ∧ t.vault = s.vault ∧ t.pending = s.pending) ∧
  (∀ (c e us : Nat) (r : LRec) (s : State), c < 4 → populated s.hw c = true → carFenced s.hw c = false →
     destageAllowed s.hw c r.seq = true → (path s.hw c).noWrite = false → (path s.hw c).records = [r] →
     lget s.hw.buffer.landIndex c = [r.seq] → r.count = 1 → entryOf s.hw r.nsid (r.sdu / extentBlocks) = some e → (extent s.hw e).car = c →
     r.kgen = homeGen s.hw e (r.sdu % extentBlocks) → entryFenced s.hw e = false → (path s.hw c).pins = [] →
     ∃ t, exec (.destage c r.seq [] us) s = .next t ∧ mget (fun _ => (path t.hw c).fill) (path t.hw c).homeData (e * extentBlocks + r.sdu % extentBlocks) = zget (path s.hw c).landData (recordPosition r r.sdu) ∧
     lget t.hw.buffer.landIndex c = [] ∧ (path t.hw c).pins = [] ∧ ledger t.hw r.nsid = addBusy c us (ledger s.hw r.nsid) ∧
     t.hw.mem = s.hw.mem ∧ t.vault = s.vault ∧ t.pending = s.pending) ∧
  (∀ (c : Nat) (s : State), c < 4 → populated s.hw c = true → carFenced s.hw c = false → domainUp s.hw (11 + 3 * c) = true →
     (path s.hw c).records = [] → (path s.hw c).check.seq < 2 ^ 64 → (path s.hw c).check.lhead < 2 ^ 32 →
     ∃ t, exec (.replay c true) s = .next t ∧ lget t.hw.buffer.landIndex c = [] ∧ lseq t.hw c = (path s.hw c).check.seq ∧
     (path t.hw c).pins = (path s.hw c).check.pins ∧ (path t.hw c).sinceCheck = 0 ∧ (path t.hw c).records = [] ∧ t.hw.mem = s.hw.mem ∧
     t.vault = s.vault ∧ t.pending = s.pending)

/-- Power states and domains (R469, R629, R630, R632, R633, R635, R646): where each event completes, and what it leaves. -/
def Obligations.PowerStatesComplete : Prop :=
  (∀ (s : State), wantedState s.hw = 0 → getF s.hw PW_PSTATE_DEV 0 < 3 → getF s.hw PW_PSTATE_TRANS 0 = 0 →
     ∃ t, exec .operationalStateChange s = .next t ∧ getF t.hw PW_PSTATE_DEV 0 = 0 ∧ getF t.hw PW_PSTATE_CEIL 0 = 7200 ∧
     getF t.hw SP_GLIM_CEIL 0 = 7200 ∧ getF t.hw SP_GLIM_FLOOR 0 = 3600 ∧ t.hw.carriages = s.hw.carriages ∧ t.hw.mem = s.hw.mem ∧
     t.vault = s.vault ∧ t.pending = s.pending) ∧
  (∀ (s : State), wantedState s.hw ≠ getF s.hw PW_PSTATE_DEV 0 → 3 ≤ wantedState s.hw ∨ 3 ≤ getF s.hw PW_PSTATE_DEV 0 →
     wantedState s.hw < 5 → getF s.hw PW_PSTATE_TRANS 0 = 0 → reacting s.hw = false → ∃ t, exec .lowPowerTransitionBegin s = .next t ∧
     getF t.hw PW_PSTATE_TGT 0 = wantedState s.hw ∧ getF t.hw PW_PSTATE_TRANS 0 = 1 ∧ bitAt t.hw.cluster.lines22 0 = true ∧
     getF t.hw PW_PSTATE_DEV 0 = getF s.hw PW_PSTATE_DEV 0 ∧ t.hw.mem = s.hw.mem ∧ t.vault = s.vault ∧ t.pending = s.pending) ∧
  (∀ (data : Nat) (s : State), bits 30 28 data ≠ getF s.hw PW_PSTATE_TGT 0 →
     exec (.pwPscmdGo data) s = .next { s with hw := setF { s.hw with out := [] } PW_PSTATE_PREF 0 1 }) ∧
  (∀ (data : Nat) (s : State), bits 30 28 data = getF s.hw PW_PSTATE_TGT 0 → bitAt data 31 = true → getF s.hw PW_PSTATE_TRANS 0 = 1 →
     s.hw.island.exiting = false → reacting s.hw = false → getF s.hw PW_PSTATE_DEV 0 ≠ 4 ∨ 3 ≤ getF s.hw PW_PSTATE_TGT 0 ∨ getF s.hw PW_BOOT_STAGE 0 ≠ 0x0C →
     ∃ t, exec (.pwPscmdGo data) s = .next t ∧ getF t.hw PW_PSTATE_DEV 0 = getF s.hw PW_PSTATE_TGT 0 ∧ getF t.hw PW_PSTATE_TRANS 0 = 0 ∧
     bitAt t.hw.cluster.lines22 0 = false ∧ t.vault = s.vault ∧ t.pending = s.pending) ∧
  (∀ (data : Nat) (s : State), bits 30 28 data = getF s.hw PW_PSTATE_TGT 0 → bitAt data 31 = true → getF s.hw PW_PSTATE_TRANS 0 = 1 →
     s.hw.island.exiting = false → reacting s.hw = true → ∃ t, exec (.pwPscmdGo data) s = .next t ∧ t.hw.island.goDue = true ∧
     t.hw.regs = s.hw.regs ∧ t.hw.mem = s.hw.mem ∧ t.vault = s.vault ∧ t.pending = s.pending) ∧
  (∀ (data c : Nat) (s : State), bits 30 28 data = getF s.hw PW_PSTATE_TGT 0 → bitAt data 31 = true → getF s.hw PW_PSTATE_TRANS 0 = 1 →
     s.hw.island.exiting = false → reacting s.hw = false → getF s.hw PW_PSTATE_DEV 0 = 4 → getF s.hw PW_PSTATE_TGT 0 < 3 →
     getF s.hw PW_BOOT_STAGE 0 = 0x0C → c < 4 → inStart s.hw c = true → ∃ t, exec (.pwPscmdGo data) s = .next t ∧
     t.hw.island.exiting = true ∧ getF t.hw PW_PSTATE_DEV 0 = 4 ∧ getF t.hw PW_PSTATE_TRANS 0 = 1 ∧ t.vault = s.vault ∧
     t.pending = s.pending) ∧
  (∀ (d : Nat) (s : State), domainExists s.hw d = true → wantedOff s.hw d = true → domainOn s.hw d = true → d ≠ 8 →
     ∃ t, exec (.domainPowerDown d) s = .next t ∧ domainOn t.hw d = false ∧ t.vault = s.vault ∧ t.pending = s.pending) ∧
  (∀ (d : Nat) (s : State), domainExists s.hw d = true → wantedOff s.hw d = false → domainOn s.hw d = false → d ≠ 8 →
     ∃ t, exec (.domainPowerUp d) s = .next t ∧ domainOn t.hw d = true ∧ t.vault = s.vault ∧ t.pending = s.pending)

/-- Resets (R76, R144, R636, R637, R639) and the test access port (R87, R90): where each event completes, and what it leaves. -/
def Obligations.ResetsAndScanComplete : Prop :=
  (∀ (cause u : Nat) (s : State), s.hw.boot.dphase = .idle → s.hw.boot.mediaMs ≠ 0 → cause < 16 → u < 2 ^ 16 →
     ∃ t, exec (.deviceReset cause u) s = .next t ∧ t.hw.boot.dphase = DPhase.taken ∧ getF t.hw PW_RSN_DCAUSE 0 = cause ∧
     getF t.hw PW_RSN_UNIT 0 = u ∧ getF t.hw HQ_STAT_FETCH 0 = 0 ∧ t.hw.engine = s.hw.engine ∧ t.hw.mem = s.hw.mem ∧ t.vault = s.vault ∧
     t.pending = s.pending) ∧
  (∀ (cause u : Nat) (s : State), s.hw.boot.dphase = .taken → cause ≠ 2 → cause ≠ 4 → cause ≠ 5 →
     exec (.deviceReset cause u) s = .next { s with hw := { s.hw with out := [] } }) ∧
  (∀ (s : State), s.hw.boot.dphase = .taken → [0, 1, 2, 3].all (fun (c : Nat) => !(populated s.hw c) || getF s.hw AC_STAT_STATE (inst c) == 0) = true →
     flagF s.hw SP_PSTAT_PLOSS 0 = false → ∃ t, exec .deviceResetRelease s = .next t ∧ getF t.hw PW_BOOT_STAGE 0 = 1 ∧
     getF t.hw PW_RSN_KIND 0 = 2 ∧ t.hw.mem = [] ∧ ((∀ c ∈ List.range 4, getF s.hw TH_TRIP_TRIPPED (inst (c + 1)) = 0) → t.hw.fences = []) ∧
     t.hw.boot.mediaMs = 0 ∧ t.hw.engine.cmds = [] ∧ t.vault = s.vault.restart ∧ t.pending = s.pending) ∧
  (∀ (u : Nat) (s : State), (unit s.hw u).busy = true → (unit s.hw u).waiting = 0 → u / 0x10 ≠ 0x621 →
     (∀ k ∈ List.range 4, u = carPath k 0x2F0 → (sv s.hw k).retract = false ∨ headsOut s.hw k = false) →
     (∀ k ∈ fenceSets u, fenceVal s.hw k < 3) → ∃ t, exec (.reinitialiseComplete u true) s = .next t ∧ (unit t.hw u).busy = false ∧
     (unit t.hw u).failed = false ∧ t.hw.fences = s.hw.fences ∧ t.hw.regs = s.hw.regs ∧ t.hw.mem = s.hw.mem ∧ t.vault = s.vault ∧
     t.pending = s.pending) ∧
  (∀ (live : Nat) (s : State), s.hw.pins.sampled = true → exec (.strapPinChange live) s = .next { s with hw := { s.hw with out := [], pins := { s.hw.pins with strapLive := live % 2 ^ 22, anomaly := putBit s.hw.pins.anomaly 2 (live % 2 ^ 22 != s.hw.pins.strap) } } }) ∧
  (∀ (tms tdi still : Bool) (levels : Nat) (s : State), ∃ t, exec (.tapClock tms tdi still levels) s = .next t ∧
     t.hw.tap.st = TapState.next s.hw.tap.st tms ∧ t = { s with hw := { s.hw with tap := t.hw.tap, out := t.hw.out } }) ∧
  (∀ (tms tdi still : Bool) (levels : Nat) (s : State), s.hw.tap.st = .shiftDr → ∃ t, exec (.tapClock tms tdi still levels) s = .next t ∧
     t.hw.tap.drShift = s.hw.tap.drShift / 2 + tdi.toNat * 2 ^ (tapLength s.hw.tap.ir - 1) ∧ t.hw.tap.tdo = bitAt s.hw.tap.drShift 0 ∧
     t.hw.out = [Output.tdo (bitAt s.hw.tap.drShift 0)] ∧ t.hw.regs = s.hw.regs ∧ t.hw.mem = s.hw.mem ∧ t.vault = s.vault ∧
     t.pending = s.pending) ∧
  (∀ (s : State), exec .trstNLow s = .next { s with hw := { s.hw with out := [], tap := { s.hw.tap with st := .testLogicReset, ir := tapIdcode, linkRun := false } } }) ∧
  (∀ (pass flits : Nat) (s : State), s.hw.tap.linkRun = true → exec (.linktestDone pass flits) s = .next { s with hw := { s.hw with out := [], tap := { s.hw.tap with linkRun := false, linkResult := (pass &&& linkMask s.hw) % 512 + flits % 2 ^ 16 * 2 ^ 16 } } })

/-- The DMA engine (R488, R489, R491, R493, R494, R496-R502): where each event completes, and what it leaves. -/
def Obligations.DmaChannelsComplete : Prop :=
  (∀ (n : Nat) (e : Bool) (s : State), n < 32 → controlRefused s.hw n e = true →
     exec (.dmCtrlStart n e) s = .next { s with hw := setF { s.hw with out := [] } DM_GSTAT_SREF 0 1 }) ∧
  (∀ (n : Nat) (e : Bool) (s : State), n < 32 → controlRefused s.hw n e = true →
     exec (.dmCtrlResume n e) s = .next { s with hw := setF { s.hw with out := [] } DM_GSTAT_SREF 0 1 }) ∧
  (∀ (n : Nat) (e : Bool) (s : State), n < 32 → controlRefused s.hw n e = true →
     exec (.dmCtrlStop n e) s = .next { s with hw := setF { s.hw with out := [] } DM_GSTAT_SREF 0 1 }) ∧
  (∀ (n a : Nat) (s : State), 8 ≤ n → n < 32 → dmState s.hw n = 0 → halted s.hw = false →
     a = getF s.hw DM_COACHL_ADDR (dmd n) / 64 * 64 + 2 ^ 32 * getF s.hw DM_COACHH_ADDR (dmd n) → accessStatus s.hw a 2 true = none →
     badCart (cartAt s.hw a) = false → ∃ t, exec (.dmCtrlStart n false) s = .next t ∧ dmState t.hw n = 1 ∧
     getF t.hw DM_CTRL_START (dmd n) = 1 ∧ dmCur t.hw n = a ∧ (dmaCh t.hw n).cart = some (cartAt s.hw a) ∧
     getF t.hw DM_CNT_CNT (dmd n) = (cartAt s.hw a).len ∧ t.hw.mem = s.hw.mem ∧ t.vault = s.vault ∧ t.pending = s.pending) ∧
  (∀ (n a : Nat) (s : State), 8 ≤ n → n < 32 → dmState s.hw n = 0 → halted s.hw = false →
     a = getF s.hw DM_COACHL_ADDR (dmd n) / 64 * 64 + 2 ^ 32 * getF s.hw DM_COACHH_ADDR (dmd n) → accessStatus s.hw a 2 true = none →
     badCart (cartAt s.hw a) = true → ∃ t, exec (.dmCtrlStart n false) s = .next t ∧
     ((dmaCh t.hw n).waiting.map (fun (r : DmaRec) => (r.tag, r.cart, r.done, r.status))).getLast? = some ((cartAt s.hw a).tag, a, 0, 4) ∧
     (dmaCh t.hw n).after = AfterRec.state 4 ∧ t.hw.mem = s.hw.mem ∧ t.vault = s.vault ∧ t.pending = s.pending) ∧
  (∀ (n : Nat) (x : Cart) (s : State), 8 ≤ n → n < 32 → dmState s.hw n = 3 → halted s.hw = false → (dmaCh s.hw n).cart = some x →
     badCart x = false → ∃ t, exec (.dmCtrlResume n false) s = .next t ∧ dmState t.hw n = 1 ∧ (dmaCh t.hw n).cart = some x ∧
     getF t.hw DM_CNT_CNT (dmd n) = getF s.hw DM_CNT_CNT (dmd n) ∧ (dmaCh t.hw n).waiting = (dmaCh s.hw n).waiting ∧ t.hw.mem = s.hw.mem ∧
     t.vault = s.vault ∧ t.pending = s.pending) ∧
  (∀ (n : Nat) (s : State), 8 ≤ n → n < 32 → dmState s.hw n = 2 → halted s.hw = false → ∃ t, exec (.dmCtrlStop n false) s = .next t ∧
     dmState t.hw n = 0 ∧ getF t.hw DM_CTRL_START (dmd n) = 0 ∧ (dmaCh t.hw n).waiting = (dmaCh s.hw n).waiting ∧ t.hw.mem = s.hw.mem ∧
     t.vault = s.vault ∧ t.pending = s.pending) ∧
  (∀ (n : Nat) (s : State), 8 ≤ n → n < 32 → dmState s.hw n = 1 → halted s.hw = false → (dmaCh s.hw n).after = AfterRec.nothing →
     (dmaCh s.hw n).lastBeat = none → ∃ t, exec (.dmCtrlStop n false) s = .next t ∧
     (dmaCh t.hw n).waiting = (dmaCh s.hw n).waiting ++ [recordOf s.hw n 1] ∧ (dmaCh t.hw n).after = AfterRec.state 3 ∧ dmState t.hw n = 1 ∧
     t.hw.mem = s.hw.mem ∧ t.vault = s.vault ∧ t.pending = s.pending) ∧
  (∀ (n : Nat) (s : State), n < 32 → dmState s.hw n = 1 → ∃ t, exec (.dmBell (2 ^ n)) s = .next t ∧ getF t.hw DM_STAT_BELLP (dmd n) = 1 ∧
     t.hw.dma = s.hw.dma ∧ t.hw.mem = s.hw.mem ∧ t.vault = s.vault ∧ t.pending = s.pending) ∧
  (∀ (n : Nat) (s : State), n < 32 → dmState s.hw n = 0 → exec (.dmBell (2 ^ n)) s = .next { s with hw := { s.hw with out := [] } }) ∧
  (∀ (n a : Nat) (s : State), 8 ≤ n → n < 32 → dmState s.hw n = 1 → halted s.hw = false → (dmaCh s.hw n).waiting = [] →
     (dmaCh s.hw n).after = AfterRec.start a → a < 2 ^ 40 → accessStatus s.hw a 2 true = none → badCart (cartAt s.hw a) = false →
     ∃ t, exec (.cartStart n) s = .next t ∧ dmCur t.hw n = a ∧ (dmaCh t.hw n).cart = some (cartAt s.hw a) ∧
     getF t.hw DM_CNT_CNT (dmd n) = (cartAt s.hw a).len ∧ (dmaCh t.hw n).after = AfterRec.nothing ∧ t.hw.mem = s.hw.mem ∧
     t.vault = s.vault ∧ t.pending = s.pending) ∧
  (∀ (n : Nat) (x : Cart) (s : State), 8 ≤ n → n < 32 → dmState s.hw n = 1 → halted s.hw = false → (dmaCh s.hw n).waiting = [] →
     (dmaCh s.hw n).after = AfterRec.nothing → domainUp s.hw 4 = true → (dmaCh s.hw n).cart = some x → x.len < 2 ^ 25 →
     64 ≤ getF s.hw DM_CNT_CNT (dmd n) → getF s.hw DM_CNT_CNT (dmd n) ≤ x.len → cartMode x = 0 →
     accessStatus s.hw (x.src + (x.len - getF s.hw DM_CNT_CNT (dmd n))) 2 true = none →
     accessStatus s.hw (x.dst + (x.len - getF s.hw DM_CNT_CNT (dmd n))) 3 false = none → ∃ t, exec (.dmaBeat n) s = .next t ∧
     t.hw.mem = (memStore s.hw (x.dst + (x.len - getF s.hw DM_CNT_CNT (dmd n))) (memBytes s.hw (x.src + (x.len - getF s.hw DM_CNT_CNT (dmd n))) 64)).mem ∧
     getF t.hw DM_CNT_CNT (dmd n) = getF s.hw DM_CNT_CNT (dmd n) - 64 ∧
     (dmaCh t.hw n).lastBeat = some (x.dst + (x.len - getF s.hw DM_CNT_CNT (dmd n))) ∧ (dmaCh t.hw n).cart = some x ∧ t.vault = s.vault ∧
     t.pending = s.pending) ∧
  (∀ (n : Nat) (x : Cart) (s : State), 8 ≤ n → n < 32 → dmState s.hw n = 1 → halted s.hw = false → (dmaCh s.hw n).waiting = [] →
     (dmaCh s.hw n).after = AfterRec.nothing → domainUp s.hw 4 = true → (dmaCh s.hw n).cart = some x → x.len < 2 ^ 25 →
     64 ≤ getF s.hw DM_CNT_CNT (dmd n) → getF s.hw DM_CNT_CNT (dmd n) ≤ x.len → cartMode x = 3 →
     accessStatus s.hw (x.dst + (x.len - getF s.hw DM_CNT_CNT (dmd n))) 3 false = none → ∃ t, exec (.dmaBeat n) s = .next t ∧
     t.hw.mem = (memStore s.hw (x.dst + (x.len - getF s.hw DM_CNT_CNT (dmd n))) ((List.range 64).map (fun (j : Nat) => (leBytes 8 x.src).getD (j % 8) 0))).mem ∧
     getF t.hw DM_CNT_CNT (dmd n) = getF s.hw DM_CNT_CNT (dmd n) - 64 ∧ t.vault = s.vault ∧ t.pending = s.pending) ∧
  (∀ (n b : Nat) (x : Cart) (s : State), 8 ≤ n → n < 32 → dmState s.hw n = 1 → halted s.hw = false → (dmaCh s.hw n).waiting = [] →
     (dmaCh s.hw n).after = AfterRec.nothing → (dmaCh s.hw n).cart = some x → getF s.hw DM_CNT_CNT (dmd n) = 0 →
     flagF s.hw DM_STAT_BELLP (dmd n) = false → cartRec x = false → linkNext x.link = some b → ∃ t, exec (.cartEnd n) s = .next t ∧
     (dmaCh t.hw n).after = AfterRec.start b ∧ (dmaCh t.hw n).waiting = [] ∧ dmState t.hw n = 1 ∧ t.hw.mem = s.hw.mem ∧ t.vault = s.vault ∧
     t.pending = s.pending) ∧
  (∀ (n : Nat) (x : Cart) (s : State), 8 ≤ n → n < 32 → dmState s.hw n = 1 → halted s.hw = false → (dmaCh s.hw n).waiting = [] →
     (dmaCh s.hw n).after = AfterRec.nothing → (dmaCh s.hw n).cart = some x → getF s.hw DM_CNT_CNT (dmd n) = 0 →
     flagF s.hw DM_STAT_BELLP (dmd n) = false → linkNext x.link = none → (dmaCh s.hw n).lastBeat = none →
     ∃ t, exec (.cartEnd n) s = .next t ∧ (dmaCh t.hw n).after = AfterRec.park ∧
     (dmaCh t.hw n).waiting = [({ tag := x.tag, cart := dmCur s.hw n, done := x.len, rem := 0, status := 0 } : DmaRec)] ∧
     t.hw.mem = s.hw.mem ∧ t.vault = s.vault ∧ t.pending = s.pending) ∧
  (∀ (n : Nat) (r : DmaRec) (base : Nat) (s : State), n < 32 → (dmaCh s.hw n).waiting = [r] → queueFull s.hw n = false →
     (dmaCh s.hw n).after = AfterRec.park → base = getF s.hw DM_RQBL_BASE (dmd n) / 64 * 64 + 2 ^ 32 * getF s.hw DM_RQBH_BASE (dmd n) + 32 * (getF s.hw DM_RQTAIL_TAIL (dmd n) % queueSize s.hw n) →
     regionOf base ≠ none → r.status < 8 → ∃ t, exec (.dmaRecordWrite n) s = .next t ∧
     t.hw.mem = (memStore s.hw base (recordBytes r n (dmaCh s.hw n).phase)).mem ∧ getF t.hw DM_STAT_LSTAT (dmd n) = r.status ∧
     getF t.hw DM_RQTAIL_TAIL (dmd n) = (getF s.hw DM_RQTAIL_TAIL (dmd n) % queueSize s.hw n + 1) % queueSize s.hw n ∧ dmState t.hw n = 2 ∧
     (dmaCh t.hw n).waiting = [] ∧ t.vault = s.vault ∧ t.pending = s.pending) ∧
  (∀ (n : Nat) (r : DmaRec) (s : State), (dmaCh s.hw n).waiting = [r] → queueFull s.hw n = true →
     exec (.dmaRecordWrite n) s = .next { s with hw := setF { s.hw with out := [] } DM_STAT_RQF (dmd n) 1 }) ∧
  (∀ (n st a : Nat) (s : State), 8 ≤ n → n < 32 → dmState s.hw n = 1 → st = 2 ∨ st = 3 → beatBad s.hw a = true → halted s.hw = false →
     ∃ t, exec (.dmaBusError n st a) s = .next t ∧ halted t.hw = true ∧ getF t.hw DM_GSTAT_ECH 0 = n ∧ getF t.hw DM_GSTAT_ESTAT 0 = st ∧
     (dmaCh t.hw n).after = AfterRec.state 4 ∧ t.vault = s.vault ∧ t.pending = s.pending) ∧
  (∀ (s : State), halted s.hw = true → (∀ k ∈ List.range 32, dmState s.hw k = 0) →
     exec .dmaHaltClear s = .next { s with hw := setF { s.hw with out := [] } DM_GSTAT_HALT 0 0 }) ∧
  (∀ (n data : Nat) (s : State), 8 ≤ n → n < 32 → dmState s.hw n = 0 → ∃ t, exec (.dmRqcfgWrite n data false) s = .next t ∧
     getF t.hw DM_RQCFG_RQSZ (dmd n) = bits 3 0 data ∧ getF t.hw DM_RQTAIL_TAIL (dmd n) = 0 ∧ (dmaCh t.hw n).phase = true ∧
     t.hw.mem = s.hw.mem ∧ t.vault = s.vault ∧ t.pending = s.pending) ∧
  (∀ (n : Nat) (s : State), 8 ≤ n → n < 32 → ∃ t, exec (.dmaChannelReinitialise (some n)) s = .next t ∧ dmState t.hw n = 0 ∧
     (dmaCh t.hw n).cart = none ∧ (dmaCh t.hw n).waiting = [] ∧ (dmaCh t.hw n).written = (dmaCh s.hw n).written ∧ t.hw.mem = s.hw.mem ∧
     t.vault = s.vault ∧ t.pending = s.pending)

/-- The buffer manager (R480, R481, R483-R486): where each event completes, and what it leaves. -/
def Obligations.MemoryManagerCompletes : Prop :=
  (∀ (r : Nat) (s : State), domainUp s.hw 4 = true → getF s.hw BM_BKT_NEAR 0 < bucketDepth s.hw → getF s.hw BM_BKT_NEAR 0 < 255 →
     ∃ t, exec (.memoryCorrectableError 0x1410 r) s = .next t ∧ getF t.hw BM_BKT_NEAR 0 = getF s.hw BM_BKT_NEAR 0 + 1 ∧
     getF t.hw BM_CECNT_COUNT 0 = (getF s.hw BM_CECNT_COUNT 0 + 1) % 2 ^ 32 ∧ getF t.hw BM_IRQS_CEOVF 0 = getF s.hw BM_IRQS_CEOVF 0 ∧
     t.hw.mem = s.hw.mem ∧ t.vault = s.vault ∧ t.pending = s.pending) ∧
  (∀ (r : Nat) (s : State), ∃ t, exec (.memoryCorrectableError 0x1750 r) s = .next t ∧
     getF t.hw CC_CECNT_COUNT 0 = (getF s.hw CC_CECNT_COUNT 0 + 1) % 2 ^ 32 ∧ t.hw.buffer = s.hw.buffer ∧ t.hw.mem = s.hw.mem ∧
     t.vault = s.vault ∧ t.pending = s.pending) ∧
  (∀ (k r : Nat) (s : State), k < 4 → ∃ t, exec (.memoryCorrectableError (0x1710 + 0x10 * k) r) s = .next t ∧
     zget t.hw.secded k = zget s.hw.secded k + 1 ∧ t.hw.buffer = s.hw.buffer ∧ t.hw.regs = s.hw.regs ∧ t.hw.mem = s.hw.mem ∧
     t.vault = s.vault ∧ t.pending = s.pending) ∧
  (∀ (c r : Nat) (s : State), populated s.hw c = true → r < 7 → ∃ t, exec (.memoryCorrectableError (carPath c 0) r) s = .next t ∧
     zget t.hw.secded (16 * (c + 1) + r) = zget s.hw.secded (16 * (c + 1) + r) + 1 ∧ t.hw.buffer = s.hw.buffer ∧ t.hw.regs = s.hw.regs ∧
     t.hw.mem = s.hw.mem ∧ t.vault = s.vault ∧ t.pending = s.pending) ∧
  (∀ (a : Nat) (s : State), domainUp s.hw 4 = true → regionOf a = some 2 → zget s.hw.buffer.poison (burstOf a) = 2 →
     exec (.memoryUncorrectableError a false) s = .next { s with hw := { s.hw with out := [] } }) ∧
  (∀ (a : Nat) (s : State), domainUp s.hw 4 = true → regionOf a = some 2 → ∃ t, exec (.memoryUncorrectableError a false) s = .next t ∧
     zget t.hw.buffer.poison (burstOf a) = 2 ∧ beatBad t.hw a = true ∧ t.vault = s.vault ∧ t.pending = s.pending) ∧
  (∀ (s : State), s.hw.buffer.leakAt + 1000 * max 1 (getF s.hw BM_BKCFG_LEAK 0) ≤ s.hw.log.optime → ∃ t, exec .bucketLeak s = .next t ∧
     getF t.hw BM_BKT_NEAR 0 = getF s.hw BM_BKT_NEAR 0 - 1 ∧ getF t.hw BM_BKT_DIE0 0 = getF s.hw BM_BKT_DIE0 0 - 1 ∧
     getF t.hw BM_BKT_DIE1 0 = getF s.hw BM_BKT_DIE1 0 - 1 ∧ t.hw.mem = s.hw.mem ∧ t.vault = s.vault ∧ t.pending = s.pending) ∧
  (∀ (s : State), getF s.hw BM_CFG_SCRUBH 0 ≠ 0 → domainUp s.hw 4 = true → getF s.hw BM_BKT_NEAR 0 < bucketDepth s.hw →
     getF s.hw BM_BKT_NEAR 0 < 255 → ∃ t, exec (.scrub [0x1410] []) s = .next t ∧ getF t.hw BM_BKT_NEAR 0 = getF s.hw BM_BKT_NEAR 0 + 1 ∧
     getF t.hw BM_CECNT_COUNT 0 = (getF s.hw BM_CECNT_COUNT 0 + 1) % 2 ^ 32 ∧ t.hw.mem = s.hw.mem ∧ t.vault = s.vault ∧
     t.pending = s.pending) ∧
  (∀ (a : Nat) (s : State), getF s.hw BM_CFG_SCRUBH 0 ≠ 0 → domainUp s.hw 4 = true → regionOf a = some 2 →
     ∃ t, exec (.scrub [] [a]) s = .next t ∧ zget t.hw.buffer.poison (burstOf a) = 2 ∧ beatBad t.hw a = true ∧ t.vault = s.vault ∧
     t.pending = s.pending) ∧
  (∀ (s : State), getF s.hw BM_CFG_SCRUBH 0 ≠ 0 → domainUp s.hw 4 = true →
     exec (.scrub [] []) s = .next { s with hw := { s.hw with out := [] } }) ∧
  (∀ (d r : Nat) (s : State), d < 2 → domainUp s.hw 4 = true → s.hw.island.mr4Hot = 0 → ∃ t, exec (.mr4Read d r false) s = .next t ∧
     bits (8 * d + 7) (8 * d) t.hw.island.refresh = r % 256 ∧ t.hw.island.mr4Hot = 0 ∧ t.hw.regs = s.hw.regs ∧ t.hw.mem = s.hw.mem ∧
     t.vault = s.vault ∧ t.pending = s.pending) ∧
  (∀ (a : Nat) (x : Cmd) (s : State), s.hw.engine.cmds = [x] → x.verdict = none → x.committed = none → notOwned s.hw x.slot a = true →
     ∃ t, exec (.ownershipViolation x.slot a) s = .next t ∧ (t.hw.engine.cmds.find? (fun (y : Cmd) => y.slot == x.slot)).map (fun (y : Cmd) => y.verdict) = some (some stTransfer) ∧
     t.vault = s.vault ∧ t.pending = s.pending)

/-- The core cluster (R509, R513, R515, R516, R518-R523, R527-R531): where each event completes, and what it leaves. -/
def Obligations.CoresAndCacheComplete : Prop :=
  (∀ (k : Nat) (s : State), k < 4 → bitAt (getF s.hw CC_CORE_REL 0) k = false → ∃ t, exec (.coreRelease (2 ^ k)) s = .next t ∧
     (t.hw.cores.get k).running = true ∧ (t.hw.cores.get k).start = bootAddress s.hw ∧ bitAt (getF t.hw CC_CORE_REL 0) k = true ∧
     (∀ j, j < 4 → j ≠ k → t.hw.cores.get j = s.hw.cores.get j) ∧ t.hw.mem = s.hw.mem ∧ t.vault = s.vault ∧ t.pending = s.pending) ∧
  (∀ (k a : Nat) (l : Line) (s : State), k < 4 → (s.hw.cores.get k).running = true → (s.hw.cores.get k).machine = true →
     (pmpAllows (s.hw.cores.get k) 0 (a / 64 * 64) 64 || pmpAllows (s.hw.cores.get k) 1 (a / 64 * 64) 64) = true → cacheable a = true →
     s.hw.cluster.misses = [] → s.hw.cluster.lines = [l] → l.line = a / 64 → l.reserved = false → l.dirty = true →
     ∃ t, exec (.cboClean k a) s = .next t ∧ t.hw.cluster.lines = [{ l with dirty := false }] ∧
     t.hw.mem = (memStore s.hw (64 * l.line) (leBytes 64 l.data)).mem ∧ t.vault = s.vault ∧ t.pending = s.pending) ∧
  (∀ (k a : Nat) (l : Line) (s : State), k < 4 → (s.hw.cores.get k).running = true → (s.hw.cores.get k).machine = true →
     (pmpAllows (s.hw.cores.get k) 0 (a / 64 * 64) 64 || pmpAllows (s.hw.cores.get k) 1 (a / 64 * 64) 64) = true → cacheable a = true →
     s.hw.cluster.misses = [] → s.hw.cluster.lines = [l] → l.line = a / 64 → l.reserved = false → wayLocked s.hw l.way = false →
     ∃ t, exec (.cboInval k a) s = .next t ∧ t.hw.cluster.lines = [] ∧ t.hw.mem = s.hw.mem ∧ t.vault = s.vault ∧ t.pending = s.pending) ∧
  (∀ (k a : Nat) (l : Line) (s : State), k < 4 → (s.hw.cores.get k).running = true → (s.hw.cores.get k).machine = true →
     (pmpAllows (s.hw.cores.get k) 0 (a / 64 * 64) 64 || pmpAllows (s.hw.cores.get k) 1 (a / 64 * 64) 64) = true → cacheable a = true →
     s.hw.cluster.misses = [] → s.hw.cluster.lines = [l] → l.line = a / 64 → l.reserved = false → wayLocked s.hw l.way = true →
     ∃ t, exec (.cboInval k a) s = .next t ∧ t.hw.cluster.lines = [{ l with reserved := true, dirty := false, data := 0 }] ∧
     t.hw.mem = s.hw.mem ∧ t.vault = s.vault ∧ t.pending = s.pending) ∧
  (∀ (k a : Nat) (l : Line) (s : State), k < 4 → (s.hw.cores.get k).running = true → (s.hw.cores.get k).machine = true →
     (pmpAllows (s.hw.cores.get k) 0 (a / 64 * 64) 64 || pmpAllows (s.hw.cores.get k) 1 (a / 64 * 64) 64) = true → cacheable a = true →
     s.hw.cluster.misses = [] → s.hw.cluster.lines = [l] → l.line = a / 64 → l.reserved = false → l.dirty = true →
     wayLocked s.hw l.way = false → ∃ t, exec (.cboFlush k a) s = .next t ∧ t.hw.cluster.lines = [] ∧
     t.hw.mem = (memStore s.hw (64 * l.line) (leBytes 64 l.data)).mem ∧ t.vault = s.vault ∧ t.pending = s.pending) ∧
  (∀ (data : Nat) (s : State), flagF s.hw CC_MSTAT_BUSY 0 = false → s.hw.cluster.lines = [] → s.hw.cluster.victims = [] →
     s.hw.cluster.misses = [] → ∃ t, exec (.ccMopClean data) s = .next t ∧ getF t.hw CC_MSTAT_BUSY 0 = 1 ∧ getF t.hw CC_MOP_OP 0 = 1 ∧
     t.hw.cluster = s.hw.cluster ∧ t.hw.mem = s.hw.mem ∧ t.vault = s.vault ∧ t.pending = s.pending) ∧
  (∀ (data : Nat) (s : State), flagF s.hw CC_MSTAT_BUSY 0 = false → s.hw.cluster.lines = [] → s.hw.cluster.victims = [] →
     s.hw.cluster.misses = [] → ∃ t, exec (.ccMopInvalidate data) s = .next t ∧ getF t.hw CC_MSTAT_BUSY 0 = 1 ∧ getF t.hw CC_MOP_OP 0 = 2 ∧
     t.hw.cluster = s.hw.cluster ∧ t.hw.mem = s.hw.mem ∧ t.vault = s.vault ∧ t.pending = s.pending) ∧
  (∀ (data : Nat) (s : State), flagF s.hw CC_MSTAT_BUSY 0 = false → s.hw.cluster.lines = [] → s.hw.cluster.victims = [] →
     s.hw.cluster.misses = [] → ∃ t, exec (.ccMopFlush data) s = .next t ∧ getF t.hw CC_MSTAT_BUSY 0 = 1 ∧ getF t.hw CC_MOP_OP 0 = 3 ∧
     t.hw.cluster = s.hw.cluster ∧ t.hw.mem = s.hw.mem ∧ t.vault = s.vault ∧ t.pending = s.pending) ∧
  (∀ (data : Nat) (s : State), flagF s.hw CC_MSTAT_BUSY 0 = true →
     exec (.ccMopClean data) s = .next { s with hw := setF { s.hw with out := [] } CC_MSTAT_REF 0 1 }) ∧
  (∀ (data : Nat) (s : State), flagF s.hw CC_MSTAT_BUSY 0 = true →
     exec (.ccMopInvalidate data) s = .next { s with hw := setF { s.hw with out := [] } CC_MSTAT_REF 0 1 }) ∧
  (∀ (data : Nat) (s : State), flagF s.hw CC_MSTAT_BUSY 0 = true →
     exec (.ccMopFlush data) s = .next { s with hw := setF { s.hw with out := [] } CC_MSTAT_REF 0 1 }) ∧
  (∀ (s : State), exec .cacheOperationDone s = .next { s with hw := setF { s.hw with out := [] } CC_MSTAT_BUSY 0 0 }) ∧
  (∀ (data : Nat) (s : State), ∃ t, exec (.ccWlockWrite data) s = .next t ∧ (∀ i, i < 14 →
     bitAt (getF t.hw CC_WLOCK_LOCK 0) i = (if bitAt data (16 + i) then bitAt data i else bitAt (getF s.hw CC_WLOCK_LOCK 0) i)) ∧
     t.hw.mem = s.hw.mem ∧ t.vault = s.vault ∧ t.pending = s.pending) ∧
  (∀ (k a : Nat) (s : State), k < 4 → (s.hw.cores.get k).running = true → cboAllowed (s.hw.cores.get k) 1 = none →
     ∃ t, exec (.cboClean k a) s = .next t ∧ (t.hw.cores.get k).mcause = 2 ∧ (t.hw.cores.get k).machine = true ∧
     t.hw.out = [Output.exception k 2] ∧ t.hw.cluster = s.hw.cluster ∧ t.hw.regs = s.hw.regs ∧ t.hw.mem = s.hw.mem ∧ t.vault = s.vault ∧
     t.pending = s.pending) ∧
  (∀ (k a op : Nat) (s : State), k < 4 → (s.hw.cores.get k).running = true → cboAllowed (s.hw.cores.get k) 3 = some op →
     cacheable a = false → ∃ t, exec (.cboFlush k a) s = .next t ∧ (t.hw.cores.get k).mcause = 7 ∧ (t.hw.cores.get k).mtval = a ∧
     t.hw.out = [Output.exception k 7] ∧ t.hw.cluster = s.hw.cluster ∧ t.hw.regs = s.hw.regs ∧ t.hw.mem = s.hw.mem ∧ t.vault = s.vault ∧
     t.pending = s.pending) ∧
  (∀ (k a size cycles : Nat) (s : State), k < 4 → (s.hw.cores.get k).running = true → cacheable a = true →
     accessCause s.hw k .load a (min size 64) = none → a % 64 + min size 64 ≤ 64 → (s.hw.cores.get k).l1d.contains (a / 64) = false →
     findLine s.hw (a / 64) = none → s.hw.cluster.victims = [] → s.hw.cluster.misses = [] →
     ∃ t, exec (.l2MissFill k a .load size false [] cycles) s = .next t ∧
     t.hw.cluster.misses = [({ line := a / 64, reqs := [({ core := k, addr := a, kind := .load, bytes := [] } : CoreReq)] } : Miss)] ∧
     getF t.hw CC_L2STAT_MSHR 0 = 1 ∧ (t.hw.cores.get k).hpmReadMiss = (s.hw.cores.get k).hpmReadMiss + 1 ∧ t.hw.mem = s.hw.mem ∧
     t.vault = s.vault ∧ t.pending = s.pending) ∧
  (∀ (k a size cycles : Nat) (m : Miss) (s : State), k < 4 → s.hw.cluster.misses = [m] → m.line = a / 64 →
     m.reqs = [({ core := k, addr := a, kind := .load, bytes := [] } : CoreReq)] → s.hw.cluster.lines = [] → s.hw.cluster.missWait = [] →
     beatBad s.hw (64 * (a / 64)) = false → getF s.hw CC_WALLOC_MASK (4 * k) = 0xFFFF → getF s.hw CC_WLOCK_LOCK 0 = 0 →
     ∃ t, exec (.l2MissFill k a .load size true [] cycles) s = .next t ∧ t.hw.cluster.misses = [] ∧
     t.hw.cluster.lines = [({ line := a / 64, way := 0, dirty := false, reserved := false, data := memWord s.hw (64 * (a / 64)) 64 } : Line)] ∧
     (t.hw.cores.get k).l1d.head? = some (a / 64) ∧ t.hw.mem = s.hw.mem ∧ t.vault = s.vault ∧ t.pending = s.pending) ∧
  (∀ (k a size cycles : Nat) (l : Line) (b : List Nat) (s : State), k < 4 → (s.hw.cores.get k).running = true → cacheable a = true →
     accessCause s.hw k .store a (min size 64) = none → a % 64 + min size 64 ≤ 64 → s.hw.cluster.lines = [l] → l.line = a / 64 →
     l.reserved = false → b ≠ [] → 0 < size → ∃ t, exec (.l2MissFill k a .store size false b cycles) s = .next t ∧
     t.hw.cluster.lines = [{ l with dirty := true, data := patchLine l.data (a % 64) (b.take (min size 64)) }] ∧
     t.hw.cluster.misses = s.hw.cluster.misses ∧ t.hw.mem = s.hw.mem ∧ t.vault = s.vault ∧ t.pending = s.pending) ∧
  (∀ (k a : Nat) (kind : CoreAccess) (l : Line) (s : State), k < 4 → s.hw.cluster.lines = [l] → l.line = a / 64 → l.reserved = false →
     l.dirty = false → wayLocked s.hw l.way = false → ∃ t, exec (.l2UncorrectableError k a kind false) s = .next t ∧
     t.hw.cluster.lines = [] ∧ getF t.hw CC_CECNT_COUNT 0 = (getF s.hw CC_CECNT_COUNT 0 + 1) % 2 ^ 32 ∧ t.hw.mem = s.hw.mem ∧
     t.vault = s.vault ∧ t.pending = s.pending) ∧
  (∀ (k a size : Nat) (kind : CoreAccess) (bad : Bool) (s : State), k < 4 → (s.hw.cores.get k).running = true → coreMapped a = false →
     ∃ t, exec (.coreAccessFault k a kind size bad) s = .next t ∧ (t.hw.cores.get k).mcause = faultCause kind ∧
     (t.hw.cores.get k).mtval = a ∧ (t.hw.cores.get k).machine = true ∧ t.hw.out = [Output.exception k (faultCause kind)] ∧
     t.hw.regs = s.hw.regs ∧ t.hw.mem = s.hw.mem ∧ t.vault = s.vault ∧ t.pending = s.pending) ∧
  (∀ (k a size cause : Nat) (kind : CoreAccess) (bad : Bool) (s : State), k < 4 → (s.hw.cores.get k).running = true →
     accessCause s.hw k kind a (min size 64) = some cause → ∃ t, exec (.coreAccessFault k a kind size bad) s = .next t ∧
     (t.hw.cores.get k).mcause = cause ∧ (t.hw.cores.get k).mtval = a ∧ t.hw.out = [Output.exception k cause] ∧ t.hw.regs = s.hw.regs ∧
     t.hw.mem = s.hw.mem ∧ t.vault = s.vault ∧ t.pending = s.pending) ∧
  (∀ (k a size : Nat) (kind : CoreAccess) (s : State), k < 4 → (s.hw.cores.get k).running = true →
     accessCause s.hw k kind a (min size 64) = none → inLocal a = true → ∃ t, exec (.coreAccessFault k a kind size true) s = .next t ∧
     (t.hw.cores.get k).mcause = faultCause kind ∧ (t.hw.cores.get k).mtval = a ∧
     (t.hw.cores.get k).faults = ((s.hw.cores.get k).faults + 1) % 2 ^ 32 ∧ t.hw.mem = s.hw.mem ∧ t.vault = s.vault ∧
     t.pending = s.pending) ∧
  (∀ (n : Nat) (on : Bool) (s : State), n ≠ 21 → n ≠ 22 → ∃ t, exec (.interruptSourceChange n on) s = .next t ∧
     (∀ j ∈ List.range 4, (t.hw.cores.get j).meip = decide (claim s.hw j ≠ 63)) ∧ t.hw.regs = s.hw.regs ∧ t.hw.mem = s.hw.mem ∧
     t.vault = s.vault ∧ t.pending = s.pending) ∧
  (∀ (k : Nat) (s : State), k < 4 → ∃ t, exec (.timerCompare k) s = .next t ∧
     (t.hw.cores.get k).mtip = decide (getF s.hw CC_MTCMPL_CMP (8 * k) + 2 ^ 32 * getF s.hw CC_MTCMPH_CMP (8 * k) ≤ s.hw.cluster.mtime) ∧
     t.hw.regs = s.hw.regs ∧ t.hw.mem = s.hw.mem ∧ t.vault = s.vault ∧ t.pending = s.pending) ∧
  (∀ (k : Nat) (s : State), k < 4 → bitAt (getF s.hw CC_CORE_REL 0) k = true → ∃ t, exec (.coreReinitialise k) s = .next t ∧
     t.hw.cores.get k = ({ running := true, start := bootAddress s.hw, faults := (s.hw.cores.get k).faults } : CoreSt) ∧
     t.hw.cluster = s.hw.cluster ∧ t.hw.regs = s.hw.regs ∧ t.hw.mem = s.hw.mem ∧ t.vault = s.vault ∧ t.pending = s.pending) ∧
  (∀ (s : State), ∃ t, exec .l2ResetInvalidate s = .next t ∧ t.hw.cluster.lines = [] ∧ t.hw.cluster.victims = [] ∧
     t.hw.cluster.misses = [] ∧ getF t.hw CC_WLOCK_LOCK 0 = 0 ∧ (∀ k ∈ List.range 4, getF t.hw CC_WALLOC_MASK (4 * k) = 0xFFFF) ∧
     t.hw.mem = s.hw.mem ∧ t.vault = s.vault ∧ t.pending = s.pending)

/-- The cipher engine (R538, R539, R541, R542, R545, R547, R549, R550, R553, R559): where each event completes, and what it leaves. -/
def Obligations.CipherEngineCompletes : Prop :=
  (∀ (n g : Nat) (s : State), cipherReady s.hw = true → (hall s.vault n).st = 1 →
     s.hw.cipher.keys.contains (n, (hall s.vault n).epoch, g) = false → ∃ t, exec (.keyDerivation n g true) s = .next t ∧
     t.hw.cipher.keys.head? = some (n, (hall s.vault n).epoch, g) ∧ t.hw.cipher.keys.length ≤ 32 ∧ t.hw.cipher.deriveRetry = none ∧
     getF t.hw CY_CNT_COUNT 12 = (getF s.hw CY_CNT_COUNT 12 + 1) % 2 ^ 32 ∧ t.hw.mem = s.hw.mem ∧ t.vault = s.vault ∧
     t.pending = s.pending) ∧
  (∀ (n g : Nat) (s : State), cipherReady s.hw = true → (hall s.vault n).st = 1 →
     s.hw.cipher.keys.contains (n, (hall s.vault n).epoch, g) = false → s.hw.cipher.deriveRetry ≠ some (n, g) →
     ∃ t, exec (.keyDerivation n g false) s = .next t ∧ t.hw.cipher.deriveRetry = some (n, g) ∧ t.hw.cipher.keys = s.hw.cipher.keys ∧
     getF t.hw CY_IRQS_MISM 0 = 1 ∧ t.hw.mem = s.hw.mem ∧ t.vault = s.vault ∧ t.pending = s.pending) ∧
  (∀ (n g : Nat) (s : State), cipherReady s.hw = true → (hall s.vault n).st = 1 →
     s.hw.cipher.keys.contains (n, (hall s.vault n).epoch, g) = false → s.hw.cipher.deriveRetry = some (n, g) →
     ∃ t, exec (.keyDerivation n g false) s = .next t ∧ t.hw.cipher.deriveRetry = none ∧ t.hw.cipher.keys = s.hw.cipher.keys ∧
     getF t.hw CY_IRQS_FAIL 0 = 1 ∧ t.vault = s.vault ∧ t.pending = s.pending) ∧
  (∀ (x : Cmd) (p : Piece) (s : State), s.hw.engine.cmds = [x] → x.pieces = [p] → cipherReady s.hw = true → x.stage = .ready →
     x.committed = none → writes x = true → x.opc = 1 → x.inGallery = true → p.st = .waiting → p.cipher ≠ [] →
     p.cipher.length + 1 < p.count → (hall s.vault x.nsid).st = 1 → hallDue s.vault x.nsid = false →
     (hall s.vault x.nsid).used < (hall s.vault x.nsid).resv → blockBad s.hw x.slot (lbaOf s.hw p.entry (p.first + p.cipher.length) - x.slba) = false →
     s.hw.cipher.keys.contains (x.nsid, (hall s.vault x.nsid).epoch, p.kgen) = true → ∃ t, exec (.dataUnitCipher x.slot 0) s = .next t ∧
     (t.hw.engine.cmds.map (fun (y : Cmd) => y.pieces)) = [[{ p with cipher := p.cipher ++ [encipher (isSealed s.hw) x.nsid (hall s.vault x.nsid).epoch p.kgen (lbaOf s.hw p.entry (p.first + p.cipher.length)) ((oget x.blocks (lbaOf s.hw p.entry (p.first + p.cipher.length))).getD 0)] }]] ∧
     hall t.vault x.nsid = { hall s.vault x.nsid with used := (hall s.vault x.nsid).used + 1 } ∧ (∀ k, k ≠ x.nsid →
     hall t.vault k = hall s.vault k) ∧ t.vault.due = s.vault.due ∧ getF t.hw CY_CNT_COUNT 0 = (getF s.hw CY_CNT_COUNT 0 + 1) % 2 ^ 32 ∧
     t.hw.mem = s.hw.mem ∧ t.pending = s.pending) ∧
  (∀ (x : Cmd) (p : Piece) (s : State), s.hw.engine.cmds = [x] → x.pieces = [p] → cipherReady s.hw = true → x.stage = .ready →
     x.committed = none → s.hw.cipher.retry ≠ some x.slot → ∃ t, exec (.cipherMismatch x.slot 0) s = .next t ∧
     t.hw.cipher.retry = some x.slot ∧ t.hw.engine = s.hw.engine ∧ getF t.hw CY_IRQS_MISM 0 = 1 ∧ t.hw.mem = s.hw.mem ∧ t.vault = s.vault ∧
     t.pending = s.pending) ∧
  (∀ (x : Cmd) (p : Piece) (s : State), s.hw.engine.cmds = [x] → x.pieces = [p] → cipherReady s.hw = true → x.stage = .ready →
     x.committed = none → s.hw.cipher.retry = some x.slot → writes x = true → x.verdict = none →
     ∃ t, exec (.cipherMismatch x.slot 0) s = .next t ∧ t.hw.cipher.retry = none ∧
     (t.hw.engine.cmds.map (fun (y : Cmd) => y.verdict)) = [some stTransfer] ∧ t.vault = s.vault ∧ t.pending = s.pending) ∧
  (∀ (n u : Nat) (s : State), (hall s.vault n).st = 1 → hallDue s.vault n = false → midPiece s.hw n = false →
     (unitsWaiting s.hw n).contains u = true → usageLimit s.hw < (hall s.vault n).used + u → ∃ t, exec (.generationMove n u) s = .next t ∧
     t.vault = changeHall s.vault n { (hall s.vault n) with wgen := ((hall s.vault n).wgen + 1) % 2 ^ 32, used := 0, resv := 2 ^ 20 } ∧
     getF t.hw CY_IRQS_GMOVE 0 = 1 ∧ t.hw.cipher.moves = (s.hw.cipher.moves + 1) % 2 ^ 32 ∧ t.hw.mem = s.hw.mem ∧ t.pending = s.pending) ∧
  (∀ (n u : Nat) (s : State), (hall s.vault n).st = 1 → hallDue s.vault n = false → (hall s.vault n).resv < (hall s.vault n).used + u →
     (u = 1 ∧ unitWaiting s.hw n = true) ∨ (u = extentBlocks ∧ (unitsWaiting s.hw n).contains extentBlocks = true) →
     exec (.reservationMarkRaise n u) s = .next { s with hw := { s.hw with out := [] }, vault := changeHall s.vault n { (hall s.vault n) with resv := (hall s.vault n).resv + 2 ^ 20 } }) ∧
  (∀ (n : Nat) (x : Hall) (l : List (Nat × Hall)) (s : State), s.vault.due = (n, x) :: l → ∃ t, exec (.hallWriteDone true) s = .next t ∧
     t.vault = takeHall { s.vault with due := l } n x ∧ (hall t.vault n).epoch = x.epoch ∧ (hall t.vault n).wgen = x.wgen ∧
     (hall t.vault n).st = x.st ∧ t.hw.mem = s.hw.mem ∧ t.pending = s.pending) ∧
  (∀ (n : Nat) (x : Hall) (l : List (Nat × Hall)) (s : State), s.vault.due = (n, x) :: l →
     exec (.hallWriteDone false) s = .next { s with hw := setF { s.hw with out := [] } CY_IRQS_MBFAIL 0 1 }) ∧
  (∀ (c e n : Nat) (l : List Nat) (s : State), c < 4 → oget s.hw.cipher.running c = none → carFenced s.hw c = false →
     cipherReady s.hw = true → lget s.hw.cipher.queued c = e :: l → n = (extent s.hw e).nsid → n ≠ 0 → e < 2 ^ 16 →
     (hall s.vault n).st = 1 → hallDue s.vault n = false → midPiece s.hw n = false →
     (hall s.vault n).used + extentBlocks ≤ usageLimit s.hw → (hall s.vault n).used + extentBlocks ≤ (hall s.vault n).resv →
     ∃ t, exec (.rekeyStart c) s = .next t ∧ oget t.hw.cipher.running c = some ({ entry := e, nsid := n, target := (hall s.vault n).wgen, durable := 0 } : Rekey) ∧
     lget t.hw.cipher.queued c = l ∧ hall t.vault n = { (hall s.vault n) with used := (hall s.vault n).used + extentBlocks } ∧
     getF t.hw CY_RK_ACT (4 * c) = 1 ∧ getF t.hw CY_RK_ENTRY (4 * c) = e ∧ t.hw.mem = s.hw.mem ∧ t.pending = s.pending) ∧
  (∀ (c gap : Nat) (fails : List Nat) (r : Rekey) (w : LandPlaces) (s : State), c < 4 → oget s.hw.cipher.running c = some r →
     r.durable < 4096 → carFenced s.hw c = false → cipherReady s.hw = true → 131 ≤ landFree s.hw c → writerFree s.hw c = true →
     indexUsed s.hw c < 32768 → placeLanding s.hw c 64 fails gap = some w → s.hw.engine.cmds = [] → lseq s.hw c + 1 < 2 ^ 64 →
     ∃ t, exec (.rekeyChunk c fails gap) s = .next t ∧ oget t.hw.cipher.running c = some { r with durable := r.durable + 1 } ∧
     lseq t.hw c = lseq s.hw c + 1 ∧ ((path t.hw c).records.map (fun (q : LRec) => (q.nsid, q.sdu, q.count, q.kgen, q.pos))).getLast? = some (r.nsid, lbaOf s.hw r.entry (64 * r.durable), 64, r.target, w.pos) ∧
     getF t.hw CY_RK_CHUNK (4 * c) = r.durable + 1 ∧ t.hw.mem = s.hw.mem ∧ t.vault = s.vault ∧ t.pending = s.pending) ∧
  (∀ (c : Nat) (r : Rekey) (s : State), c < 4 → oget s.hw.cipher.running c = some r → 4096 ≤ r.durable → carFenced s.hw c = false →
     ∃ t, exec (.rekeyEnd c) s = .next t ∧ oget t.hw.cipher.running c = none ∧ (extent t.hw r.entry).kgen = r.target ∧
     (extent t.hw r.entry).nsid = (extent s.hw r.entry).nsid ∧ t.hw.engine.mapSeq = s.hw.engine.mapSeq + 1 ∧
     getF t.hw CY_IRQS_RKDONE 0 = 1 ∧ getF t.hw CY_RK_ACT (4 * c) = 0 ∧ t.hw.mem = s.hw.mem ∧ t.vault = s.vault ∧ t.pending = s.pending) ∧
  (∀ (n : Nat) (s : State), s.hw.cipher.advance = none → wantsAdvance s.hw n = true → hallDue s.vault n = false →
     ∃ t, exec (.epochAdvance n) s = .next t ∧ t.vault = changeHall s.vault n { (hall s.vault n) with st := 2 } ∧
     t.hw.cipher.advance = some ({ nsid := n, step := 1 } : Advance) ∧ (∀ k ∈ t.hw.cipher.keys, k.1 ≠ n) ∧ t.hw.mem = s.hw.mem ∧
     t.pending = s.pending) ∧
  (∀ (n : Nat) (s : State), s.hw.cipher.advance = some ({ nsid := n, step := 3 } : Advance) → hallDue s.vault n = false →
     ∃ t, exec (.epochAdvance n) s = .next t ∧ t.vault = changeHall s.vault n { st := 1, epoch := ((hall s.vault n).epoch + 1) % 2 ^ 32 } ∧
     t.hw.cipher.advance = some ({ nsid := n, step := 4 } : Advance) ∧ t.hw.regs = s.hw.regs ∧ t.hw.mem = s.hw.mem ∧ t.pending = s.pending) ∧
  (∀ (n : Nat) (s : State), s.hw.cipher.advance = some ({ nsid := n, step := 4 } : Advance) → hallDue s.vault n = false →
     (hall s.vault n).st = 1 → ∃ t, exec (.epochAdvance n) s = .next t ∧ t.hw.cipher.advance = none ∧
     t.hw.engine = { s.hw.engine with oper := s.hw.engine.oper.map (fun (o : Oper) => { o with advanced := o.advanced ++ [n] }) } ∧
     t.hw.regs = s.hw.regs ∧ t.hw.mem = s.hw.mem ∧ t.vault = s.vault ∧ t.pending = s.pending) ∧
  (∀ (sess first k : Nat) (s : State), first < 8 → blockStatus s.hw sess 0x1630 0x010 0 first 40 true false = 0 → roleKey s.hw 2 = some k →
     roleOf s.hw sess ≠ 3 → sessionBusy s.hw sess = false → ∃ t, exec (.roleKeyInstall sess false first) s = .next t ∧
     (∀ key, unwrapKey k (leVal (memBytes s.hw (windowBase + first * 0x100000) 40)) = some key → t.hw.cipher.operator.inForce = true ∧
     t.hw.cipher.operator.key = key ∧ t.hw.out = [Output.reply sess 0 3 40 4]) ∧
     (unwrapKey k (leVal (memBytes s.hw (windowBase + first * 0x100000) 40)) = none → t.hw.cipher = s.hw.cipher ∧
     t.hw.out = [Output.reply sess 0x0A 0 0 0]) ∧ t.hw.mem = s.hw.mem ∧ t.vault = s.vault ∧ t.pending = s.pending) ∧
  (∀ (s : State), s.hw.engine.lossHold = true → flagF s.hw CY_MSTAT_PLW 0 = false → getF s.hw SP_PSTAT_CAUSE 0 = 1 →
     domainUp s.hw 5 = true → ∃ t, exec .powerLossBank s = .next t ∧ t.hw.cipher = { s.hw.cipher with bank2 := snapshot s.hw 1 } ∧
     getF t.hw CY_MSTAT_PLW 0 = 1 ∧ getF t.hw CY_MSTAT_BANK 0 = 2 ∧ t.hw.mem = s.hw.mem ∧ t.vault = s.vault ∧ t.pending = s.pending)

/-- Pairing and the pair's state (R430-R433, R565, R568, R572, R573, R579-R584): where each event completes, and what it leaves. -/
def Obligations.TwinCommandsComplete : Prop :=
  (∀ (p cid : Nat) (s : State), adminUp s.hw p = true → ∃ t, exec (.twinIdentify p cid) s = .next t ∧
     t.hw.twin.nonce = some ({ value := Config.random s.hw.freeCtr % 2 ^ 128, made := s.hw.log.optime } : Nonce) ∧
     t.hw.engine.posting = s.hw.engine.posting ++ [(p, 0, cid, 0, 0, 0)] ∧ t.hw.twin.pdid = s.hw.twin.pdid ∧ t.hw.regs = s.hw.regs ∧
     t.hw.mem = s.hw.mem ∧ t.vault = s.vault ∧ t.pending = s.pending) ∧
  (∀ (p cid : Nat) (page : List (BitVec 8)) (s : State), adminUp s.hw p = true → twinRole s.hw = 0 →
     ∃ t, exec (.twinPair p cid page) s = .next t ∧ t.hw.twin = s.hw.twin ∧
     t.hw.engine.posting = s.hw.engine.posting ++ [(p, 0, cid, 0, twNone, 0)] ∧ t.hw.regs = s.hw.regs ∧ t.hw.mem = s.hw.mem ∧
     t.vault = s.vault ∧ t.pending = s.pending) ∧
  (∀ (p cid : Nat) (page : List (BitVec 8)) (s : State), adminUp s.hw p = true → twinRole s.hw ≠ 0 → twinState s.hw = 2 →
     ∃ t, exec (.twinPair p cid page) s = .next t ∧ t.hw.twin = s.hw.twin ∧
     t.hw.engine.posting = s.hw.engine.posting ++ [(p, 0, cid, 0, twPaired, 0)] ∧ t.hw.regs = s.hw.regs ∧ t.hw.mem = s.hw.mem ∧
     t.vault = s.vault ∧ t.pending = s.pending) ∧
  (∀ (p cid : Nat) (page : List (BitVec 8)) (s : State), adminUp s.hw p = true → twinRole s.hw ≠ 0 → twinState s.hw = 0 →
     cleanPage page = true → pageField page 0x10 8 % 0x1000000 = 0 → s.hw.twin.nonce = none → ∃ t, exec (.twinPair p cid page) s = .next t ∧
     t.hw.twin = s.hw.twin ∧ t.hw.engine.posting = s.hw.engine.posting ++ [(p, 0, cid, 0, twAuth, 0)] ∧ t.hw.regs = s.hw.regs ∧
     t.hw.mem = s.hw.mem ∧ t.vault = s.vault ∧ t.pending = s.pending) ∧
  (∀ (p cid : Nat) (page : List (BitVec 8)) (s : State), adminUp s.hw p = true → twinRole s.hw ≠ 0 → twinState s.hw = 0 →
     cleanPage page = false → ∃ t, exec (.twinPair p cid page) s = .next t ∧ t.hw.twin = s.hw.twin ∧
     t.hw.engine.posting = s.hw.engine.posting ++ [(p, 0, cid, 0, stField, 0)] ∧ t.hw.regs = s.hw.regs ∧ t.hw.mem = s.hw.mem ∧
     t.vault = s.vault ∧ t.pending = s.pending) ∧
  (∀ (p cid v k : Nat) (page : List (BitVec 8)) (s : State), adminUp s.hw p = true → twinRole s.hw ≠ 0 → twinState s.hw = 0 →
     cleanPage page = true → pageField page 0x10 8 % 0x1000000 = 0 →
     s.hw.twin.nonce = some ({ value := v, made := s.hw.log.optime } : Nonce) → roleKey s.hw 2 = some k →
     pageField page 0x20 16 = tagOf k (pairMessage v Config.deviceId (pageField page 8 8) (pageField page 0x10 8)) →
     ∃ t, exec (.twinPair p cid page) s = .next t ∧ twinState t.hw = 1 ∧ t.hw.twin.pdid = pageField page 8 8 ∧
     t.hw.twin.peerAddr = pageField page 0x10 8 ∧ t.hw.twin.pnode = pageField page 0x18 2 ∧ t.hw.twin.port = p ∧ t.hw.twin.nonceOwn = v ∧
     t.hw.twin.pairing = some (cid, s.hw.log.optime) ∧ t.hw.twin.nonce = none ∧ t.hw.twin.recState = 1 ∧ t.hw.engine = s.hw.engine ∧
     t.hw.mem = s.hw.mem ∧ t.vault = s.vault ∧ t.pending = s.pending) ∧
  (∀ (cid w : Nat) (s : State), twinState s.hw = 1 → s.hw.twin.pairing = some (cid, w) → w + 2000 ≤ s.hw.log.optime →
     ∃ t, exec .pairingTimeout s = .next t ∧ twinState t.hw = 0 ∧ t.hw.twin.pdid = 0 ∧ t.hw.twin.pairing = none ∧
     t.hw.engine.posting = s.hw.engine.posting ++ [(s.hw.twin.port, 0, cid, 0, twUnreachable, 0)] ∧ t.hw.mem = s.hw.mem ∧
     t.vault = s.vault ∧ t.pending = s.pending) ∧
  (∀ (s : State), twinState s.hw = 3 → s.hw.twin.helloAt = none → s.hw.twin.outbox = [] → s.hw.twin.tailOut % inboxRing + 128 ≤ inboxRing →
     s.hw.twin.tailOut + 128 ≤ partnerHead s.hw + inboxRing → ∃ t, exec .helloResend s = .next t ∧
     t.hw.out = [Output.peer s.hw.twin.port (s.hw.twin.peerAddr + 0xC00000 + (0x1000 + s.hw.twin.tailOut % inboxRing)) (twinBytes 1 (sealFrame s.hw 1 { plainFrame (helloPayload Config.deviceId (twinRole s.hw) s.hw.twin.nonceOwn s.hw.twin.pdid) with mseq := s.hw.twin.mseqOut + 1 })), Output.peer s.hw.twin.port (s.hw.twin.peerAddr + 0xC00000 + 0) (leBytes 8 (s.hw.twin.tailOut + 128))] ∧
     t.hw.twin.mseqOut = s.hw.twin.mseqOut + 1 ∧ t.hw.twin.tailOut = s.hw.twin.tailOut + 128 ∧ t.hw.twin.helloAt = some s.hw.log.optime ∧
     t.hw.regs = s.hw.regs ∧ t.hw.mem = s.hw.mem ∧ t.vault = s.vault ∧ t.pending = s.pending) ∧
  (∀ (f : TwinFrame) (req cid w k : Nat) (s : State), twinState s.hw = 1 → s.hw.twin.pairing = some (cid, w) → helloKey s.hw = some k →
     f.tag ≠ helloTag k f → pageField f.payload 0 8 = s.hw.twin.pdid → ∃ t, exec (.twinHello f req) s = .next t ∧ twinState t.hw = 0 ∧
     t.hw.engine.posting = s.hw.engine.posting ++ [(s.hw.twin.port, 0, cid, 0, twKeys, 0)] ∧ t.hw.mem = s.hw.mem ∧ t.vault = s.vault ∧
     t.pending = s.pending) ∧
  (∀ (f : TwinFrame) (req k : Nat) (s : State), twinState s.hw = 1 → s.hw.twin.sentConfirm = false → s.hw.twin.gotConfirm = false →
     helloKey s.hw = some k → f.tag = helloTag k f → pageField f.payload 0 8 = s.hw.twin.pdid →
     pageField f.payload 0x20 8 = Config.deviceId → pageField f.payload 8 1 ≠ twinRole s.hw →
     pageField f.payload 8 1 = 1 ∨ pageField f.payload 8 1 = 2 → ∃ t, exec (.twinHello f req) s = .next t ∧ t.hw.twin.requester = some req ∧
     t.hw.twin.sentConfirm = true ∧ t.hw.twin.noncePeer = pageField f.payload 0x10 16 ∧ t.hw.twin.mseqIn = f.mseq ∧
     t.hw.twin.kpair.isSome = true ∧ twinState t.hw = 1 ∧ t.hw.twin.mseqOut = s.hw.twin.mseqOut + 1 ∧ t.hw.mem = s.hw.mem ∧
     t.vault = s.vault ∧ t.pending = s.pending) ∧
  (∀ (f : TwinFrame) (text : List (BitVec 8)) (s : State), twinState s.hw = 3 → openFrame s.hw 2 f = some text →
     f.mseq = s.hw.twin.mseqIn + 1 → s.hw.twin.sentConfirm = true → ∃ t, exec (.twinConfirm f) s = .next t ∧ twinState t.hw = 2 ∧
     getF t.hw HQ_TWIN_PEERUP 0 = 1 ∧ t.hw.twin.helloWait = false ∧ t.hw.twin.mseqIn = f.mseq ∧ t.hw.twin.recState = 2 ∧
     t.hw.mem = s.hw.mem ∧ t.vault = s.vault ∧ t.pending = s.pending) ∧
  (∀ (f : TwinFrame) (s : State), (twinState s.hw = 2 ∨ twinState s.hw = 4) → s.hw.twin.kpair ≠ none → f.mseq ≠ s.hw.twin.mseqIn + 1 →
     ∃ t, exec (.twinConfirm f) s = .next t ∧ twinState t.hw = 3 ∧ t.hw.twin.unacked = [] ∧
     t.hw.twin.losses = (s.hw.twin.losses + 1) % 2 ^ 32 ∧ (∀ u ∈ s.hw.twin.unacked, (extent t.hw u.entry).divergent = true) ∧
     t.hw.mem = s.hw.mem ∧ t.vault = s.vault ∧ t.pending = s.pending) ∧
  (∀ (s : State), twinState s.hw ≠ 0 → s.hw.twin.outbox = [] → ∃ t, exec .twinBeat s = .next t ∧
     t.hw.twin.beatOut = (s.hw.twin.beatOut + 1) % 2 ^ 64 ∧ t.hw.twin.beatIn = memWord s.hw (inboxBase + 0x80) 8 ∧ t.hw.mem = s.hw.mem ∧
     t.vault = s.vault ∧ t.pending = s.pending) ∧
  (∀ (s : State), (twinState s.hw = 2 ∨ twinState s.hw = 4) → s.hw.twin.beatTime + liveVal s.hw 0x0000 0x021 0 ≤ s.hw.log.optime →
     ∃ t, exec (.partnerLost 0) s = .next t ∧ twinState t.hw = 3 ∧ getF t.hw HQ_TWIN_PEERUP 0 = 0 ∧ t.hw.twin.recState = 3 ∧
     (∀ u ∈ s.hw.twin.unacked, (extent t.hw u.entry).divergent = true) ∧ t.hw.mem = s.hw.mem ∧ t.vault = s.vault ∧ t.pending = s.pending) ∧
  (∀ (e w : Nat) (s : State), oget s.hw.twin.unsettled e = some w → s.hw.twin.unacked = [] → w + 1000 ≤ s.hw.log.optime →
     ∃ t, exec (.unsettledListLeave e) s = .next t ∧ oget t.hw.twin.unsettled e = none ∧
     bitAt (zget t.hw.log.area (1048 + e / 256)) (e % 256) = false ∧ t.hw.regs = s.hw.regs ∧ t.hw.mem = s.hw.mem ∧ t.vault = s.vault ∧
     t.pending = s.pending) ∧
  (∀ (s : State), s.hw.twin.helloSince + 2000 ≤ s.hw.log.optime → exec .startupHelloWaitEnd s = .next { s with hw := { s.hw with out := [], twin := { s.hw.twin with helloWait := false } } }) ∧
  (∀ (s : State), twinState s.hw ≠ 0 → exec .pairRecordWrite s = .next { s with hw := { s.hw with out := [], twin := { s.hw.twin with recState := twinState s.hw, recSolow := flagF s.hw HQ_TWIN_SOLOW 0, recMseq := s.hw.twin.mseqOut } } }) ∧
  (∀ (p cid : Nat) (s : State), adminUp s.hw p = true → twinRole s.hw ≠ 0 → twinState s.hw = 0 → ∃ t, exec (.twinUnpair p cid) s = .next t ∧
     t.hw.twin = s.hw.twin ∧ t.hw.engine.posting = s.hw.engine.posting ++ [(p, 0, cid, 0, twUnpaired, 0)] ∧ t.hw.regs = s.hw.regs ∧
     t.hw.mem = s.hw.mem ∧ t.vault = s.vault ∧ t.pending = s.pending) ∧
  (∀ (p cid : Nat) (s : State), adminUp s.hw p = true → twinRole s.hw ≠ 0 → twinState s.hw = 3 → flagF s.hw HQ_TWIN_PEERUP 0 = false →
     ∃ t, exec (.twinUnpair p cid) s = .next t ∧ twinState t.hw = 0 ∧ t.hw.twin.recState = 0 ∧ t.hw.twin.kpair = none ∧
     t.hw.twin.losses = s.hw.twin.losses ∧ (∀ e, (extent t.hw e).mirrored = false) ∧ (∀ e, (extent t.hw e).divergent = false) ∧
     getF t.hw HQ_TWIN_SOLOW 0 = 0 ∧ t.hw.mem = s.hw.mem ∧ t.vault = s.vault ∧ t.pending = s.pending) ∧
  (∀ (p cid : Nat) (peer : Bool) (others : List Nat) (s : State), adminUp s.hw p = true → twinRole s.hw ≠ 0 → twinState s.hw = 2 →
     divergentEntries s.hw ≠ [] → ∃ t, exec (.twinResilver p cid 1 peer others) s = .next t ∧ twinState t.hw = 4 ∧
     getF t.hw HQ_TWIN_SRC 0 = (if flagF s.hw HQ_TWIN_SOLOW 0 = peer then (if twinRole s.hw = 1 then 1 else 0) else (flagF s.hw HQ_TWIN_SOLOW 0).toNat) ∧
     t.hw.twin.peerLeft = (if flagF t.hw HQ_TWIN_SRC 0 then others.eraseDups else []) ∧
     t.hw.engine.posting = s.hw.engine.posting ++ [(p, 0, cid, 0, 0, 0)] ∧ t.hw.mem = s.hw.mem ∧ t.vault = s.vault ∧ t.pending = s.pending) ∧
  (∀ (p cid : Nat) (peer : Bool) (others : List Nat) (s : State), adminUp s.hw p = true → twinRole s.hw ≠ 0 → twinState s.hw = 4 →
     s.hw.twin.inFlight = [] → ∃ t, exec (.twinResilver p cid 0 peer others) s = .next t ∧ twinState t.hw = 2 ∧
     getF t.hw HQ_TWIN_SRC 0 = 0 ∧ t.hw.twin.peerLeft = [] ∧ t.hw.engine.posting = s.hw.engine.posting ++ [(p, 0, cid, 0, 0, 0)] ∧
     t.hw.mem = s.hw.mem ∧ t.vault = s.vault ∧ t.pending = s.pending) ∧
  (∀ (p cid : Nat) (peer : Bool) (others : List Nat) (s : State), adminUp s.hw p = true → twinRole s.hw ≠ 0 → twinState s.hw = 3 →
     ∃ t, exec (.twinResilver p cid 1 peer others) s = .next t ∧ t.hw.twin = s.hw.twin ∧
     t.hw.engine.posting = s.hw.engine.posting ++ [(p, 0, cid, 0, twSolo, 0)] ∧ t.hw.regs = s.hw.regs ∧ t.hw.mem = s.hw.mem ∧
     t.vault = s.vault ∧ t.pending = s.pending)

/-- Messages of the pair (R568-R571, R574, R576, R582, R584): where each event completes, and what it leaves. -/
def Obligations.TwinMessagesComplete : Prop :=
  (∀ (s : State), twinState s.hw ≠ 0 → s.hw.twin.headOut % inboxRing ≠ 0 →
     exec .twinPad s = .next { s with hw := { s.hw with out := [Output.peer s.hw.twin.port (s.hw.twin.peerAddr + 0xC00000 + 0x40) (leBytes 8 (s.hw.twin.headOut + (inboxRing - s.hw.twin.headOut % inboxRing)))], twin := { s.hw.twin with headOut := s.hw.twin.headOut + (inboxRing - s.hw.twin.headOut % inboxRing) } } }) ∧
  (∀ (f : TwinFrame) (text : List (BitVec 8)) (s : State), (twinState s.hw = 2 ∨ twinState s.hw = 4) → openFrame s.hw 3 f = some text →
     f.mseq = s.hw.twin.mseqIn + 1 → f.count ≠ 0 → f.count ≤ 64 → f.slba + f.count ≤ (space s.hw f.nsid).size →
     text.length = writePlen s.hw f.nsid f.count → s.hw.engine.cmds = [] → ∃ t, exec (.twinWriteMessage f) s = .next t ∧
     (t.hw.engine.cmds.map (fun (x : Cmd) => (x.isn, x.nsid, x.slba, x.nlb, x.atomic, x.ordered))) = [(s.hw.engine.isn, f.nsid, f.slba, f.count, bitAt f.flags 0, bitAt f.flags 1)] ∧
     (t.hw.engine.cmds.map (fun (x : Cmd) => (x.source, x.inGallery))) = [(Source.twin f.mseq, true)] ∧
     t.hw.engine.isn = s.hw.engine.isn + 1 ∧ t.hw.twin.mseqIn = f.mseq ∧ t.hw.mem = s.hw.mem ∧ t.vault = s.vault ∧ t.pending = s.pending) ∧
  (∀ (f : TwinFrame) (text : List (BitVec 8)) (s : State), (twinState s.hw = 2 ∨ twinState s.hw = 4) → openFrame s.hw 3 f = some text →
     f.mseq = s.hw.twin.mseqIn + 1 → f.count = 0 → inboxHeld s.hw = false → s.hw.twin.acks = [] → s.hw.twin.outbox = [] →
     ∃ t, exec (.twinWriteMessage f) s = .next t ∧ t.hw.engine = s.hw.engine ∧ t.hw.twin.mseqIn = f.mseq ∧ t.hw.twin.acks = [] ∧
     t.hw.twin.mseqOut = s.hw.twin.mseqOut + 1 ∧ t.hw.regs = s.hw.regs ∧ t.hw.mem = s.hw.mem ∧ t.vault = s.vault ∧ t.pending = s.pending) ∧
  (∀ (f : TwinFrame) (text : List (BitVec 8)) (u : Unacked) (s : State), (twinState s.hw = 2 ∨ twinState s.hw = 4) →
     openFrame s.hw 4 f = some text → f.mseq = s.hw.twin.mseqIn + 1 → s.hw.twin.unacked = [u] → s.hw.twin.inFlight = [] → u.mseq < 2 ^ 63 →
     oget s.hw.twin.unsettled u.entry = some 0 → numbersOf 8 (min 512 (pageField text 0 4)) (text.drop 8) = [u.mseq] →
     ∃ t, exec (.twinAck f) s = .next t ∧ t.hw.twin.unacked = [] ∧ getF t.hw HQ_TWIN_UNACK 0 = 0 ∧
     oget t.hw.twin.unsettled u.entry = some s.hw.log.optime ∧ t.hw.twin.mseqIn = f.mseq ∧ t.hw.engine.extents = s.hw.engine.extents ∧
     t.hw.mem = s.hw.mem ∧ t.vault = s.vault ∧ t.pending = s.pending) ∧
  (∀ (f : TwinFrame) (text : List (BitVec 8)) (u : Unacked) (s : State), (twinState s.hw = 2 ∨ twinState s.hw = 4) →
     openFrame s.hw 4 f = some text → f.mseq = s.hw.twin.mseqIn + 1 → s.hw.twin.unacked = [u] → s.hw.twin.inFlight = [] → u.mseq < 2 ^ 63 →
     numbersOf 8 (min 512 (pageField text 0 4)) (text.drop 8) = [u.mseq + 2 ^ 63] → ∃ t, exec (.twinAck f) s = .next t ∧
     t.hw.twin.unacked = [] ∧ (extent t.hw u.entry).divergent = true ∧ t.hw.twin.mseqIn = f.mseq ∧ t.hw.mem = s.hw.mem ∧ t.vault = s.vault ∧
     t.pending = s.pending) ∧
  (∀ (f : TwinFrame) (text : List (BitVec 8)) (r : StateRecord) (s : State), (twinState s.hw = 2 ∨ twinState s.hw = 4) →
     openFrame s.hw 5 f = some text → f.mseq = s.hw.twin.mseqIn + 1 → twinRole s.hw = 2 → stateRecord text = r → r.op = 0 →
     (space s.hw r.nsid).size ≠ 0 → s.hw.twin.acks = [] → s.hw.twin.outbox = [] → ∃ t, exec (.twinStateMessage f) s = .next t ∧
     space t.hw r.nsid = { space s.hw r.nsid with rtype := r.rtype, holder := r.holder, ptpl := r.ptpl, rgen := r.rgen, regs := r.regs } ∧
     t.hw.twin.mseqOut = s.hw.twin.mseqOut + 1 ∧ t.hw.twin.acks = [] ∧ t.hw.engine.extents = s.hw.engine.extents ∧ t.hw.regs = s.hw.regs ∧
     t.hw.mem = s.hw.mem ∧ t.vault = s.vault ∧ t.pending = s.pending) ∧
  (∀ (f : TwinFrame) (text : List (BitVec 8)) (s : State), (twinState s.hw = 2 ∨ twinState s.hw = 4) → openFrame s.hw 6 f = some text →
     f.mseq = s.hw.twin.mseqIn + 1 → twinRole s.hw = 2 → text.length = 64 → ∃ t, exec (.twinLedgerMessage f) s = .next t ∧
     lget t.hw.twin.partnerLedger (pageField text 0x38 8) = lastMinutes (lget s.hw.twin.partnerLedger (pageField text 0x38 8) ++ [asMinute text]) ∧
     t.hw.twin.mseqIn = f.mseq ∧ t.hw.engine = s.hw.engine ∧ t.hw.regs = s.hw.regs ∧ t.hw.mem = s.hw.mem ∧ t.vault = s.vault ∧
     t.pending = s.pending) ∧
  (∀ (f : TwinFrame) (text : List (BitVec 8)) (s : State), twinState s.hw = 2 → openFrame s.hw 7 f = some text →
     f.mseq = s.hw.twin.mseqIn + 1 → f.count ≠ 0 → f.count ≤ 64 → f.slba + f.count ≤ (space s.hw f.nsid).size →
     text.length = writePlen s.hw f.nsid f.count → s.hw.engine.cmds = [] → ∃ t, exec (.twinChunkMessage f) s = .next t ∧
     twinState t.hw = 4 ∧ (t.hw.engine.cmds.map (fun (x : Cmd) => (x.isn, x.nsid, x.slba, x.nlb, x.atomic, x.source))) = [(s.hw.engine.isn, f.nsid, f.slba, f.count, true, Source.chunk f.mseq)] ∧
     t.hw.engine.isn = s.hw.engine.isn + 1 ∧ t.hw.mem = s.hw.mem ∧ t.vault = s.vault ∧ t.pending = s.pending) ∧
  (∀ (f : TwinFrame) (text : List (BitVec 8)) (s : State), (twinState s.hw = 2 ∨ twinState s.hw = 4) → openFrame s.hw 8 f = some text →
     f.mseq = s.hw.twin.mseqIn + 1 → ∃ t, exec (.twinUnpairMessage f) s = .next t ∧ twinState t.hw = 0 ∧ t.hw.twin.kpair = none ∧
     (∀ e, (extent t.hw e).mirrored = false) ∧ t.hw.mem = s.hw.mem ∧ t.vault = s.vault ∧ t.pending = s.pending) ∧
  (∀ (e : Nat) (s : State), twinState s.hw = 4 → flagF s.hw HQ_TWIN_SRC 0 = true → s.hw.twin.stopping = false → (extent s.hw e).nsid ≠ 0 →
     isWalked s.hw e = true → s.hw.twin.inFlight = [] → carFenced s.hw (extent s.hw e).car = false →
     backgroundAllowed s.hw (extent s.hw e).car = true → s.hw.engine.cmds = [] → cipherReady s.hw = true → (extent s.hw e).car < 4 →
     ∃ t, exec (.resilverChunkSend e) s = .next t ∧ (t.hw.engine.cmds.map (fun (x : Cmd) => (x.isn, x.nsid, x.nlb, x.atomic))) = [(s.hw.engine.isn, (extent s.hw e).nsid, 64, true)] ∧
     t.hw.engine.isn = s.hw.engine.isn + 1 ∧ oget t.hw.twin.inFlight (extent s.hw e).car = some t.hw.twin.mseqOut ∧
     t.hw.twin.mseqOut = s.hw.twin.mseqOut + 1 ∧ t.hw.twin.pointer.1 = e ∧ twinState t.hw = 4 ∧ t.hw.mem = s.hw.mem ∧ t.vault = s.vault ∧
     t.pending = s.pending)

/-- Faults, ALIVE and temperatures (R588, R591, R594, R596-R607): where each event completes, and what it leaves. -/
def Obligations.FaultsAndTemperaturesComplete : Prop :=
  (∀ (u k : Nat) (persists : Bool) (s : State), isLeaf u = true → absent s.hw u = false → k < 15 → k ≠ 1 → k ≠ 5 → reaction u k = .record →
     ∃ t, exec (.faultDetected u k persists) s = .next t ∧ (unit t.hw u).summary = (unit s.hw u).summary ||| 2 ^ k ∧
     bitAt (unit t.hw u).cause k = persists ∧ (unit t.hw u).busy = (unit s.hw u).busy ∧ t.hw.fences = s.hw.fences ∧ t.hw.mem = s.hw.mem ∧
     t.vault = s.vault ∧ t.pending = s.pending) ∧
  (∀ (u k : Nat) (persists : Bool) (s : State), isLeaf u = true → absent s.hw u = false → k < 15 → k ≠ 1 →
     effective s.hw u (reaction u k) = .s2 → fenced s.hw u = false → (unit s.hw u).busy = false →
     ∃ t, exec (.faultDetected u k persists) s = .next t ∧ (unit t.hw u).busy = true ∧ bitAt (unit t.hw u).cause k = persists ∧
     (unit t.hw u).history.head? = some s.hw.log.optime ∧ t.hw.mem = s.hw.mem ∧ t.vault = s.vault ∧ t.pending = s.pending) ∧
  (∀ (u k : Nat) (persists : Bool) (s : State), isLeaf u = true → absent s.hw u = false → k < 15 → k ≠ 1 → reaction u k = .fence →
     fenceIsStair3 s.hw u = false → fenced s.hw u = false → (unit s.hw u).busy = false → fenceVal s.hw (fenceKey u) = 0 →
     ∃ t, exec (.faultDetected u k persists) s = .next t ∧ fenceVal t.hw (fenceKey u) = 2 ∧ bitAt (unit t.hw u).summary k = true ∧
     t.hw.mem = s.hw.mem ∧ t.vault = s.vault ∧ t.pending = s.pending) ∧
  (∀ (key : Nat) (s : State), flagF s.hw TH_HBSTAT_ARMED 0 = false →
     exec (.thHbeatWrite key) s = .next { s with hw := { s.hw with out := [] } }) ∧
  (∀ (key : Nat) (s : State), flagF s.hw TH_HBSTAT_ARMED 0 = true → s.hw.pins.resetIn = true → key % 256 = getF s.hw TH_HBSTAT_NEXT 0 →
     s.hw.island.alive = .notStarted → ∃ t, exec (.thHbeatWrite key) s = .next t ∧
     getF t.hw TH_HBSTAT_NEXT 0 = (if key % 256 = 0xA5 then 0x5A else 0xA5) ∧ t.hw.island.alive = Alive.toggling ∧
     t.hw.island.beaten = true ∧ getF t.hw TH_HBSTAT_ALIVE 0 = 1 ∧ t.hw.mem = s.hw.mem ∧ t.vault = s.vault ∧ t.pending = s.pending) ∧
  (∀ (key : Nat) (s : State), flagF s.hw TH_HBSTAT_ARMED 0 = true → s.hw.pins.resetIn = true → key % 256 ≠ getF s.hw TH_HBSTAT_NEXT 0 →
     s.hw.island.stopDue = 0 → s.hw.island.alive = .toggling → s.hw.boot.dphase = .idle → s.hw.boot.mediaMs ≠ 0 →
     ∃ t, exec (.thHbeatWrite key) s = .next t ∧ t.hw.island.misses = (s.hw.island.misses + 1) % 2 ^ 32 ∧ t.hw.island.stopDue = 1 ∧
     t.hw.boot.dphase = DPhase.taken ∧ getF t.hw PW_RSN_DCAUSE 0 = 4 ∧ getF t.hw HQ_STAT_FETCH 0 = 0 ∧ t.hw.mem = s.hw.mem ∧
     t.vault = s.vault ∧ t.pending = s.pending) ∧
  (∀ (s : State), flagF s.hw TH_HBSTAT_ARMED 0 = true → s.hw.island.beatAt + 100 ≤ s.hw.log.optime → s.hw.island.beaten = false →
     s.hw.boot.failedStarts < 2 → ∃ t, exec .heartbeatMiss s = .next t ∧ t.hw.island.misses = (s.hw.island.misses + 1) % 2 ^ 32 ∧
     getF t.hw PW_BOOT_FAIL 0 = 0x0F ∧ t.hw.boot.dphase = DPhase.taken ∧ getF t.hw TH_HBSTAT_ARMED 0 = 0 ∧ t.hw.mem = s.hw.mem ∧
     t.vault = s.vault ∧ t.pending = s.pending) ∧
  (∀ (s : State), flagF s.hw TH_HBSTAT_ARMED 0 = true → s.hw.island.beatAt + 100 ≤ s.hw.log.optime → s.hw.island.beaten = true →
     s.hw.boot.dphase = .idle → s.hw.boot.mediaMs ≠ 0 → ∃ t, exec .heartbeatMiss s = .next t ∧
     t.hw.island.misses = (s.hw.island.misses + 1) % 2 ^ 32 ∧ t.hw.boot.dphase = DPhase.taken ∧ getF t.hw PW_RSN_DCAUSE 0 = 4 ∧
     getF t.hw TH_HBSTAT_ARMED 0 = 0 ∧ t.hw.mem = s.hw.mem ∧ t.vault = s.vault ∧ t.pending = s.pending) ∧
  (∀ (s : State), s.hw.island.stopDue ≠ 0 → s.hw.island.stopAt + 2 ≤ s.hw.log.optime → ∃ t, exec .aliveStop s = .next t ∧
     t.hw.island.alive = Alive.stopped ∧ t.hw.island.stopDue = 0 ∧ getF t.hw TH_HBSTAT_STOPPED 0 = 1 ∧ getF t.hw TH_HBSTAT_ALIVE 0 = 0 ∧
     getF t.hw TH_HBSTAT_CAUSE 0 = getF s.hw TH_HBSTAT_CAUSE 0 ∧ t.hw.mem = s.hw.mem ∧ t.vault = s.vault ∧ t.pending = s.pending) ∧
  (∀ (die : Nat) (raw : Int) (s : State), supervised s.hw die = true → flagF s.hw TH_FORCE_FEN (inst die) = false →
     flagF s.hw TH_TEMP_BROKEN (inst die) = false → (thermal s.hw die).deviating < 63 → -32768 ≤ raw → raw < 32768 → dieZone s.hw die < 3 →
     zoneOf s.hw die (dieZone s.hw die) raw ≠ 3 → ∃ t, exec (.temperatureReading die raw) s = .next t ∧
     getS t.hw TH_RAW_RAW (inst die) = raw ∧ getS t.hw TH_TEMP_TEMP (inst die) = raw ∧ getF t.hw TH_TEMP_VALID (inst die) = 1 ∧
     getF t.hw TH_TEMP_SUBST (inst die) = 0 ∧ dieZone t.hw die = zoneOf s.hw die (dieZone s.hw die) raw ∧ t.hw.fences = s.hw.fences ∧
     t.hw.island.domHeld = s.hw.island.domHeld ∧ t.hw.mem = s.hw.mem ∧ t.vault = s.vault ∧ t.pending = s.pending) ∧
  (∀ (die : Nat) (raw : Int) (s : State), supervised s.hw die = true → die = 0 ∨ die = 5 → flagF s.hw TH_FORCE_FEN (inst die) = false →
     flagF s.hw TH_TEMP_BROKEN (inst die) = false → (thermal s.hw die).deviating < 63 → -32768 ≤ raw → raw < 32768 → dieZone s.hw die < 3 →
     tsd s.hw die ≤ raw → ∃ t, exec (.temperatureReading die raw) s = .next t ∧ dieZone t.hw die = 3 ∧ t.hw.boot.thermalHold = true ∧
     t.hw.boot.drainAt = (if s.hw.boot.thermalHold then s.hw.boot.drainAt else some s.hw.log.optime) ∧
     getF t.hw HQ_STAT_FETCH 0 = getF s.hw HQ_STAT_FETCH 0 ∧ (thermal t.hw die).shutdowns = ((thermal s.hw die).shutdowns + 1) % 2 ^ 32 ∧
     t.hw.spindle.stopping = true ∧ t.hw.mem = s.hw.mem ∧ t.vault = s.vault ∧ t.pending = s.pending) ∧
  (∀ (die : Nat) (raw : Int) (s : State), supervised s.hw die = true → 0 < die → die < 5 → flagF s.hw TH_FORCE_FEN (inst die) = false →
     flagF s.hw TH_TEMP_BROKEN (inst die) = false → (thermal s.hw die).deviating < 63 → -32768 ≤ raw → raw < 32768 → dieZone s.hw die < 3 →
     tsd s.hw die ≤ raw → fenceVal s.hw (carPath (die - 1) 0) = 0 → ∃ t, exec (.temperatureReading die raw) s = .next t ∧
     dieZone t.hw die = 3 ∧ fenceVal t.hw (carPath (die - 1) 0) = 2 ∧ bitAt (getF t.hw HQ_STAT_FENCED 0) (die - 1) = true ∧
     (path t.hw (die - 1)).noWrite = true ∧ (path t.hw (die - 1)).wg = false ∧ bitAt (unit t.hw (thermalLeaf die)).summary 3 = true ∧
     t.hw.mem = s.hw.mem ∧ t.vault = s.vault ∧ t.pending = s.pending) ∧
  (∀ (die : Nat) (s : State), supervised s.hw die = true → flagF s.hw TH_TEMP_BROKEN (inst die) = false →
     ∃ t, exec (.sensorBroken die) s = .next t ∧ getF t.hw TH_TEMP_BROKEN (inst die) = 1 ∧
     bitAt (unit t.hw (thermalLeaf die)).summary 3 = true ∧ getF t.hw TH_TEMP_SUBST (inst die) = 1 - getF s.hw TH_FORCE_FEN (inst die) ∧
     t.hw.mem = s.hw.mem ∧ t.vault = s.vault ∧ t.pending = s.pending) ∧
  (∀ (die : Nat) (s : State), dieZone s.hw die = 3 → cooledFor s.hw die 10000 = true → 0 < die → die < 5 →
     ∃ t, exec (.thermalShutdownEnd die) s = .next t ∧ dieZone t.hw die = zoneOf s.hw die 0 (dieTemp s.hw die) ∧
     (thermal t.hw die).coolAt = none ∧ (path t.hw (die - 1)).noWrite = false ∧ domainOn t.hw (9 + 3 * (die - 1)) = true ∧
     domainOn t.hw (10 + 3 * (die - 1)) = true ∧ t.hw.mem = s.hw.mem ∧ t.vault = s.vault ∧ t.pending = s.pending) ∧
  (∀ (die : Nat) (s : State), dieZone s.hw die = 3 → cooledFor s.hw die 10000 = true → die = 0 ∨ die = 5 → s.hw.boot.thermalHold = true →
     dieZone s.hw (5 - die) < 3 → s.hw.island.mr4Hot = 0 → dieTemp s.hw die < tsd s.hw die →
     ∃ t, exec (.thermalShutdownEnd die) s = .next t ∧ dieZone t.hw die < 3 ∧ t.hw.boot.thermalHold = false ∧ t.hw.boot.drainAt = none ∧
     t.hw.spindle.stopping = false ∧ domainOn t.hw 21 = true ∧ domainOn t.hw 22 = true ∧ t.hw.mem = s.hw.mem ∧ t.vault = s.vault ∧
     t.pending = s.pending) ∧
  (∀ (die : Nat) (s : State), supervised s.hw die = true → 0 < die →
     flagF s.hw TH_TEMP_BROKEN (inst die) = false ∨ 1000 ≤ dieTemp s.hw die → flagF s.hw TH_TRIP_TRIPPED (inst die) = false →
     ∃ t, exec (.hardwareTrip die) s = .next t ∧ getF t.hw TH_TRIP_TRIPPED (inst die) = 1 ∧ getF t.hw TH_TRIP_TLATCH (inst die) = 1 ∧
     dieZone t.hw die = 4 ∧ (thermal t.hw die).trips = ((thermal s.hw die).trips + 1) % 2 ^ 32 ∧
     (thermal t.hw die).tripTimes.head? = some s.hw.log.optime ∧ bitAt (unit t.hw (thermalLeaf die)).summary 3 = true ∧ (die < 5 →
     (path t.hw (die - 1)).noWrite = true ∧ fenceVal t.hw (carPath (die - 1) 0) ≠ 0) ∧ t.hw.mem = s.hw.mem ∧ t.vault = s.vault ∧
     t.pending = s.pending) ∧
  (∀ (s : State), supervised s.hw 0 = true → flagF s.hw TH_TRIP_TRIPPED (inst 0) = false → flagF s.hw TH_TEMP_BROKEN (inst 0) = false →
     s.hw.island.stopDue = 0 → s.hw.island.alive = .toggling → ∃ t, exec (.hardwareTrip 0) s = .next t ∧
     getF t.hw TH_TRIP_TRIPPED (inst 0) = 1 ∧ t.hw.island.domHeld % 64 = 63 ∧ t.hw.island.stopDue = 3 ∧
     (∀ n ∈ List.range 4, (path t.hw n).noWrite = true) ∧ t.hw.mem = s.hw.mem ∧ t.vault = s.vault ∧ t.pending = s.pending) ∧
  (∀ (s : State), s.hw.island.tripHoldUp = true → drivesParked s.hw = true ∨ s.hw.island.tripAt + 200 ≤ s.hw.log.optime →
     ∃ t, exec .tripHoldUpEnd s = .next t ∧ t.hw.island.tripHoldUp = false ∧ t.hw.spindle.holdUp = false ∧ getF t.hw SP_PSTAT_HU 0 = 0 ∧
     bitAt t.hw.island.domHeld 20 = true ∧ bitAt t.hw.island.domHeld 21 = true ∧ t.hw.mem = s.hw.mem ∧ t.vault = s.vault ∧
     t.pending = s.pending) ∧
  (∀ (die : Nat) (s : State), die < 6 → 0 < die → flagF s.hw TH_TRIP_TRIPPED (inst die) = true → (thermal s.hw die).tripHeld = false →
     cooledFor s.hw die 1000 = true → ∃ t, exec (.tripRecovery die) s = .next t ∧ getF t.hw TH_TRIP_TRIPPED (inst die) = 0 ∧
     getF t.hw TH_TRIP_TLATCH (inst die) = getF s.hw TH_TRIP_TLATCH (inst die) ∧ dieZone t.hw die = zoneOf s.hw die 0 (dieTemp s.hw die) ∧
     (die < 5 → zoneOf s.hw die 0 (dieTemp s.hw die) ≠ 3 → (path t.hw (die - 1)).noWrite = false) ∧ (die = 5 →
     bitAt t.hw.island.domHeld 20 = false ∧ bitAt t.hw.island.domHeld 21 = false) ∧ t.hw.mem = s.hw.mem ∧ t.vault = s.vault ∧
     t.pending = s.pending) ∧
  (∀ (s : State), flagF s.hw TH_TRIP_TRIPPED (inst 0) = true → (thermal s.hw 0).tripHeld = false → cooledFor s.hw 0 1000 = true →
     s.hw.boot.dphase = .idle → s.hw.boot.mediaMs ≠ 0 → ∃ t, exec (.tripRecovery 0) s = .next t ∧ getF t.hw TH_TRIP_TRIPPED (inst 0) = 0 ∧
     t.hw.boot.dphase = DPhase.taken ∧ getF t.hw PW_RSN_DCAUSE 0 = 5 ∧ t.hw.mem = s.hw.mem ∧ t.vault = s.vault ∧ t.pending = s.pending) ∧
  (∀ (die source data : Nat) (s : State), isSealed s.hw = true → source ≠ 6 → source < 8 →
     ∃ t, exec (.thForceWrite die source data) s = .next t ∧ getReg t.hw (TH_FORCE + (inst die)) = getReg s.hw (TH_FORCE + (inst die)) ∧
     bitAt (getF t.hw ⟨0xF00000 + (inst die) + 0xFFC, 23, 16⟩ 0) source = true ∧ t.hw.mem = s.hw.mem ∧ t.vault = s.vault ∧
     t.pending = s.pending) ∧
  (∀ (die source data : Nat) (s : State), isSealed s.hw = false ∨ source = 6 →
     exec (.thForceWrite die source data) s = .next { s with hw := setF (setF { s.hw with out := [] } TH_FORCE_FEN (inst die) (bits 31 31 data)) TH_FORCE_FTEMP (inst die) (bits 15 0 data) })

/-- The event recorder (R611, R613, R617-R619, R622, R623, R625, R627): where each event completes, and what it leaves. -/
def Obligations.RecorderCompletes : Prop :=
  (∀ (u code sev det : Nat) (s : State), isLeaf u = true → absent s.hw u = false → fenced s.hw 0x18F0 = false → fenced s.hw 0x1810 = false →
     code < 2 ^ 16 → code ≠ 3 → sev < 8 → det < 2 ^ 32 → inBringUp s.hw = true ∨ (unit s.hw u).filter ≤ sev → s.hw.log.queue = [] →
     (∀ p ∈ s.hw.log.slots, p.2.all (fun (r : EvRec) => r.path ≠ u) = true) → ∃ t, exec (.recordRaised u code sev det) s = .next t ∧
     t.hw.log.queue = [({ cycle := s.hw.log.cycles, ms := s.hw.log.optime, path := u, code := code, severity := sev, bringUp := inBringUp s.hw, detail := det } : EvRec)] ∧
     t.hw.log.slots = s.hw.log.slots ∧ t.hw.regs = s.hw.regs ∧ t.hw.mem = s.hw.mem ∧ t.vault = s.vault ∧ t.pending = s.pending) ∧
  (∀ (u code sev det : Nat) (s : State), isLeaf u = true → absent s.hw u = false → fenced s.hw 0x18F0 = false → fenced s.hw 0x1810 = false →
     sev < 8 → inBringUp s.hw = false → sev < (unit s.hw u).filter →
     exec (.recordRaised u code sev det) s = .next { s with hw := { s.hw with out := [], log := { s.hw.log with filtered := s.hw.log.filtered + 1 } } }) ∧
  (∀ (u code sev det : Nat) (r : EvRec) (s : State), isLeaf u = true → absent s.hw u = false → fenced s.hw 0x18F0 = false →
     fenced s.hw 0x1810 = false → code < 2 ^ 16 → code ≠ 3 → sev < 8 → det < 2 ^ 32 → inBringUp s.hw = true ∨ (unit s.hw u).filter ≤ sev →
     s.hw.log.queue = [r] → r.path = u → r.code = code → r.severity = sev → r.detail = det → r.repeats < 0xFFFF →
     s.hw.log.optime ≤ r.ms + r.lastd + 1000 → exec (.recordRaised u code sev det) s = .next { s with hw := { s.hw with out := [], log := { s.hw.log with queue := [{ r with repeats := r.repeats + 1, lastd := min (s.hw.log.optime - r.ms) 0xFFFFFFFF }] } } }) ∧
  (∀ (r : EvRec) (q : List EvRec) (k : Nat) (s : State), storing s.hw = true → s.hw.log.queue = r :: q → r.bringUp = false →
     freeSlot s.hw.log 2048 30720 = some k → ∃ t, exec .recordStore s = .next t ∧
     oget t.hw.log.slots k = some ({ r with stage := getF s.hw PW_BOOT_STAGE 0, calendar := decide (s.hw.log.calendar ≠ 0), rseq := (s.hw.log.rseq + 1) % 2 ^ 32 } : EvRec) ∧
     t.hw.log.queue = q ∧ t.hw.log.rseq = (s.hw.log.rseq + 1) % 2 ^ 32 ∧ (∀ j, j ≠ k → oget t.hw.log.slots j = oget s.hw.log.slots j) ∧
     (getF s.hw EV_CFG_IRQSEV 0 ≤ r.severity → getF t.hw EV_IRQS_STORED 0 = 1) ∧ t.hw.log.area = s.hw.log.area ∧ t.hw.mem = s.hw.mem ∧
     t.vault = s.vault ∧ t.pending = s.pending) ∧
  (∀ (r : EvRec) (q : List EvRec) (k : Nat) (s : State), storing s.hw = true → s.hw.log.queue = r :: q → r.bringUp = true →
     freeSlot s.hw.log 0 1024 = some k → ∃ t, exec .recordStore s = .next t ∧
     oget t.hw.log.slots k = some ({ r with stage := getF s.hw PW_BOOT_STAGE 0, calendar := decide (s.hw.log.calendar ≠ 0), rseq := (s.hw.log.rseq + 1) % 2 ^ 32 } : EvRec) ∧
     t.hw.log.queue = q ∧ t.hw.log.ringNext = s.hw.log.ringNext ∧ t.hw.mem = s.hw.mem ∧ t.vault = s.vault ∧ t.pending = s.pending) ∧
  (∀ (r : EvRec) (q : List EvRec) (s : State), storing s.hw = true → s.hw.log.queue = r :: q → r.bringUp = true →
     freeSlot s.hw.log 0 1024 = none → ∃ t, exec .recordStore s = .next t ∧
     oget t.hw.log.slots (1024 + s.hw.log.ringNext % 1024) = some ({ r with stage := getF s.hw PW_BOOT_STAGE 0, calendar := decide (s.hw.log.calendar ≠ 0), rseq := (s.hw.log.rseq + 1) % 2 ^ 32 } : EvRec) ∧
     t.hw.log.queue = q ∧ t.hw.log.ringNext = (s.hw.log.ringNext + 1) % 1024 ∧ t.hw.mem = s.hw.mem ∧ t.vault = s.vault ∧
     t.pending = s.pending) ∧
  (∀ (k : Nat) (s : State), storing s.hw = true → 0 < s.hw.log.dropsSince → s.hw.log.queue.length < 32 → inBringUp s.hw = false →
     freeSlot s.hw.log 2048 30720 = some k → ∃ t, exec .recordsLost s = .next t ∧ t.hw.log.dropsSince = 0 ∧ t.hw.log.newest.code = 1 ∧
     t.hw.log.newest.severity = 5 ∧ t.hw.log.newest.detail = s.hw.log.dropsSince % 2 ^ 32 ∧ oget t.hw.log.slots k = some t.hw.log.newest ∧
     t.hw.mem = s.hw.mem ∧ t.vault = s.vault ∧ t.pending = s.pending) ∧
  (∀ (s : State), s.hw.log.saved + 1000 ≤ s.hw.log.optime → exec .operatingTimeSave s = .next { s with hw := { s.hw with out := [], log := { s.hw.log with saved := s.hw.log.optime } } }) ∧
  (∀ (data : Nat) (s : State), ∃ t, exec (.evRselWrite data) s = .next t ∧ getF t.hw EV_RSEL_SLOT 0 = data % 2 ^ 15 ∧
     (∀ n ∈ List.range 8, getReg t.hw (EV_RDATA + 4 * n) = leVal (storeSlotBytes s.hw s.vault (data % 2 ^ 15)) / 2 ^ (32 * n) % 2 ^ 32) ∧
     t.hw.log = s.hw.log ∧ t.hw.mem = s.hw.mem ∧ t.vault = s.vault ∧ t.pending = s.pending) ∧
  (∀ (data : Nat) (s : State), s.hw.log.queue = [] → s.hw.log.slots = [] → fenced s.hw 0x18F0 = false → fenced s.hw 0x1810 = false →
     data < 2 ^ 16 → data ≠ 3 → inBringUp s.hw = true → ∃ t, exec (.evFwcodeWrite data) s = .next t ∧
     t.hw.log.queue = [({ cycle := s.hw.log.cycles, ms := s.hw.log.optime, path := getF s.hw EV_FWUNIT_UNIT 0, code := data, severity := getF s.hw EV_FWUNIT_SEV 0, bringUp := true, detail := getReg s.hw EV_FWDET } : EvRec)] ∧
     t.hw.regs = s.hw.regs ∧ t.hw.mem = s.hw.mem ∧ t.vault = s.vault ∧ t.pending = s.pending) ∧
  (∀ (data : Nat) (s : State), bitAt data 31 = true → 1032 ≤ data % 2048 → data % 2048 ≤ 1303 → ∃ t, exec (.evPslotGo data) s = .next t ∧
     getF t.hw EV_PSLOT_SLOT 0 = data % 2048 ∧ (∀ n ∈ List.range 8, zget t.hw.log.area (data % 2048) / 2 ^ (32 * n) % 2 ^ 32 = getF s.hw EV_PDATA_DATA (4 * n)) ∧
     t.hw.log.slots = s.hw.log.slots ∧ t.hw.mem = s.hw.mem ∧ t.vault = s.vault ∧ t.pending = s.pending) ∧
  (∀ (data : Nat) (s : State), bitAt data 31 = false ∨ data % 2048 < 1032 ∨ 1303 < data % 2048 →
     exec (.evPslotGo data) s = .next { s with hw := setF { s.hw with out := [] } EV_PSLOT_SLOT 0 (bits 10 0 data) }) ∧
  (∀ (sess tag c k : Nat) (s : State), writeStatus s.hw sess 0x1810 0x012 0 4 (leBytes 8 tag) = 0 → isCoreSession sess = false →
     (session s.hw sess).clearMask ≠ 0 → (session s.hw sess).challenge = some c → s.hw.log.clearing = 0 → tag < 2 ^ 64 →
     roleKey s.hw (if bitAt (session s.hw sess).clearMask 2 then 3 else 2) = some k → sessionBusy s.hw sess = false →
     ∃ t, exec (.clear sess tag) s = .next t ∧ (tagOf k (roleMessage c [0xCE, (session s.hw sess).clearMask] sess) % 2 ^ 64 = tag →
     t.hw.log.clearing = (session s.hw sess).clearMask ∧ t.hw.out = [Output.reply sess 0 0 0 0]) ∧
     (tagOf k (roleMessage c [0xCE, (session s.hw sess).clearMask] sess) % 2 ^ 64 ≠ tag → t.hw.log.clearing = 0 ∧
     t.hw.out.getLast? = some (Output.reply sess 0x0A 0 0 0)) ∧ (session t.hw sess).challenge = none ∧ t.hw.log.slots = s.hw.log.slots ∧
     t.hw.mem = s.hw.mem ∧ t.vault = s.vault ∧ t.pending = s.pending) ∧
  (∀ (sess tag c : Nat) (s : State), writeStatus s.hw sess 0x1810 0x012 0 4 (leBytes 8 tag) = 0 → isCoreSession sess = false →
     (session s.hw sess).clearMask ≠ 0 → (session s.hw sess).challenge = some c → s.hw.log.clearing ≠ 0 → tag < 2 ^ 64 →
     sessionBusy s.hw sess = false → ∃ t, exec (.clear sess tag) s = .next t ∧ t.hw.log = s.hw.log ∧
     t.hw.out = [Output.reply sess 8 0 0 0] ∧ (session t.hw sess).challenge = none ∧ t.hw.regs = s.hw.regs ∧ t.hw.mem = s.hw.mem ∧
     t.vault = s.vault ∧ t.pending = s.pending) ∧
  (∀ (s : State), s.hw.log.clearing ≠ 0 → recorderFenced s.hw = true → ∃ t, exec .clearDone s = .next t ∧ t.hw.log.clearing = 0 ∧
     (∀ k, clearNames s.hw.log.clearing k = true → oget t.hw.log.slots k = none) ∧ t.hw.log.newest = s.hw.log.newest ∧
     getF t.hw EV_IRQS_CLR 0 = 1 ∧ t.hw.mem = s.hw.mem ∧ t.vault = s.vault ∧ t.pending = s.pending) ∧
  (∀ (s : State), s.hw.log.clearing ≠ 0 → recorderFenced s.hw = false → bitAt s.hw.log.clearing 1 = true → s.hw.log.clearing < 8 →
     ∃ t, exec .clearDone s = .next t ∧ t.hw.log.clearing = 0 ∧ oget t.hw.log.slots 2048 = some t.hw.log.newest ∧ t.hw.log.newest.code = 2 ∧
     t.hw.log.newest.path = 0x1810 ∧ t.hw.log.newest.severity = 5 ∧
     t.hw.log.newest.detail = s.hw.log.clearing + s.hw.log.clearSession % 0x10000 * 0x10000 ∧ (∀ k, k ≠ 2048 →
     clearNames s.hw.log.clearing k = true → oget t.hw.log.slots k = none) ∧ t.hw.log.area = s.hw.log.area ∧
     t.hw.log.queue = s.hw.log.queue ∧ getF t.hw EV_IRQS_CLR 0 = 1 ∧ t.hw.mem = s.hw.mem ∧ t.vault = s.vault ∧ t.pending = s.pending) ∧
  (∀ (s : State), flagF s.hw EV_STAT_FLUSH 0 = true → fenced s.hw 0x18F0 = false → fenced s.hw 0x1810 = false →
     ∃ t, exec .powerLossFlush s = .next t ∧ t.hw.log.queue = [] ∧ t.hw.log.saved = s.hw.log.optime ∧ t.hw.log.clearing = 0 ∧
     getF t.hw EV_STAT_FLUSH 0 = 0 ∧ t.hw.log.area = s.hw.log.area ∧ t.hw.mem = s.hw.mem ∧ t.vault = s.vault ∧ t.pending = s.pending)

/-- The queue of commands and its order are the model's (DESIGN CHOICE, log entry 1); R136 has transactions performed one at a time. -/
def Obligations.StepRunsTheFrontCommand : Prop :=
  ∀ (c : Instr) (s : State), step { s with pending := c :: s.pending } = exec c s

/-- That an empty queue lets one millisecond pass is the model's choice (DESIGN CHOICE, log entry 1); what a millisecond does is R530, R595, R611. -/
def Obligations.EmptyQueueStepIsOneMillisecond : Prop :=
  ∀ (s : State), s.pending = [] → s.hw.mgmt.blocks = [] → s.hw.island.goDue = false → ∃ t, step s = .next t ∧ t.pending = [] ∧ t.vault = s.vault ∧ t.hw.mem = s.hw.mem ∧ t.hw.regs = s.hw.regs ∧
    t.hw.log.optime = (if s.hw.pins.resetIn then (s.hw.log.optime + 1) % 2 ^ 44 else s.hw.log.optime) ∧
    t.hw.cluster.mtime = (s.hw.cluster.mtime + 25000) % 2 ^ 64 ∧
    t.hw.island.aliveHalf = (s.hw.island.alive == Alive.toggling && !s.hw.island.aliveHalf)

/-- No command of the table stops the block: each has an effect, or by its rule none (R114, R134 and the refusals of each chapter are answers). -/
def Obligations.EveryCommandIsAnswered : Prop :=
  ∀ (c : Instr) (s : State), ∃ t, exec c s = .next t ∧ t.pending = s.pending

/-- R543 and R544: a Hall is reached by the cipher engine's own work, by the life of its namespace and by resets, and by nothing else. -/
def Obligations.OnlyCipherWorkChangesHalls : Prop :=
  ∀ (c : Instr) (s t : State), mayChangeHalls c = false → exec c s = .next t → t.vault = s.vault

/-- The frame of memory (R472, R473, R500, R513): the commands that mayChangeMemory names are those that may store; every other leaves each byte. -/
def Obligations.OtherCommandsLeaveMemory : Prop :=
  ∀ (c : Instr) (s t : State), mayChangeMemory c = false → exec c s = .next t → t.hw.mem = s.hw.mem

/-- The form of the model's memory (DESIGN CHOICE, log entry 3): rising addresses and no cell that reads as an unlisted one, so equal contents are equal data. -/
def Obligations.MemoryStaysCanonical : Prop :=
  ∀ (s t : State), MemoryCanonical s → step s = .next t → MemoryCanonical t

/-- R545: encipherment waits for the reservation mark, so at most the reserved data units are lost to a restart; changes of a Hall take effect in order. -/
def Obligations.HallsStayBounded : Prop :=
  ∀ (s t : State), HallsBounded s → step s = .next t → HallsBounded t

/-- The state right after reset (R15): no command waits, memory lists nothing, every Hall is absent. -/
def Obligations.ResetMeetsTheInvariants : Prop :=
  MemoryCanonical State.reset ∧ HallsBounded State.reset ∧ State.reset.pending = [] ∧ ∀ n, (hall State.reset.vault n).st = 0

/-- R15 with the Reset columns of R129, R609, R650 and the register tables. -/
def Obligations.ResetRegisters : Prop :=
  (∀ a r, regAt a = some r → getReg State.reset.hw a = (BitVec.ofNat 32 (r.fields.foldl (fun w f => w + f.reset * 2 ^ f.fld.lo) 0)).toNat) ∧
  (∀ a, regAt a = none → getReg State.reset.hw a = 0) ∧
  pageFar State.reset.hw 0xB00000 = true ∧ bits 15 12 (getReg State.reset.hw 0xB00FFC) = 0xF ∧
  getF State.reset.hw TH_HBSTAT_NEXT 0 = 0xA5 ∧ State.reset.hw.island.alive = Alive.notStarted

/-- R14 on every register of every table: RW, RO, WO, W1C, W1S, WM, RC. What the code PW adds is R127. -/
def Obligations.AccessCodesGovernFields : Prop :=
  ∀ (h : Hw) (a data : Nat) (r : RegDef) (f : FieldDef), regAt a = some r → f ∈ r.fields → data < 2 ^ 32 →
    (∀ i, f.fld.lo ≤ i → i ≤ f.fld.hi →
      bitAt (getReg (writeCodes h a data) a) i =
        (match f.acc with
         | .rw => bitAt data i
         | .wo => bitAt (getReg h a) i
         | .ro => bitAt (getReg h a) i
         | .rc => bitAt (getReg h a) i
         | .w1c => bitAt (getReg h a) i && !(bitAt data i)
         | .w1s => bitAt (getReg h a) i || bitAt data i
         | .wm => if i < 16 then (if bitAt data (i + 16) then bitAt data i else bitAt (getReg h a) i) else bitAt (getReg h a) i) ∧
      bitAt (readable r (getReg h a)) i = (bitAt (getReg h a) i && f.acc != Acc.wo) ∧
      bitAt (getReg (clearRc h a r) a) i = (bitAt (getReg h a) i && f.acc != Acc.rc))

/-- R125. -/
def Obligations.MisalignedAccessIsNotPerformed : Prop :=
  (∀ (a : Nat) (s : State), pageExists s.hw a = true → exec (.misalignedAccess a false) s = .next { s with hw := { setF { s.hw with out := [] } ⟨pageOf a + 0xFFC, 29, 29⟩ 0 1 with out := [Output.word 0] } }) ∧
  (∀ (a : Nat) (s : State), pageExists s.hw a = true → exec (.misalignedAccess a true) s = .next { s with hw := setF { s.hw with out := [] } ⟨pageOf a + 0xFFC, 29, 29⟩ 0 1 }) ∧
  (∀ (a : Nat) (write : Bool) (s : State), pageExists s.hw a = true → ∃ t, exec (.misalignedAccess a write) s = .next t ∧
     getF t.hw ⟨pageOf a + 0xFFC, 29, 29⟩ 0 = 1)

/-- R127 (dropping), R128, R129: from a source whose way to the bridge is open. -/
def Obligations.FarBridgeDropsWrites : Prop :=
  (∀ (src a data : Nat) (r : RegDef) (s : State), src < 8 → barSource src = none → pageExists s.hw a = true → regOff a ≠ 0xFFC →
     regAt a = some r → regCode a ≠ 1 → isPosted r = false → pageFar s.hw a = true →
     exec (.registerWrite src a data) s = .next { s with hw := loseWrite { s.hw with out := [] } (pageOf a) src (regOff a) }) ∧
  (∀ (src a data : Nat) (r : RegDef) (s : State), src < 8 → barSource src = none → pageExists s.hw a = true → regOff a ≠ 0xFFC →
     regAt a = some r → isPosted r = true → pageFar s.hw a = true ∨ (inFlight s.hw a).isSome = true →
     exec (.postedWriteAccepted src a data) s = .next { s with hw := loseWrite { s.hw with out := [] } (pageOf a) src (regOff a) }) ∧
  (∀ (src a : Nat) (r : RegDef) (s : State), src < 8 → barSource src = none → pageExists s.hw a = true → regOff a ≠ 0xFFC →
     regAt a = some r → pageFar s.hw a = true → exec (.rcFieldRead src a) s = .next { s with hw := { s.hw with out := [Output.word 0] } }) ∧
  (∀ (h : Hw) (page src off : Nat), src < 8 → off < 0x1000 →
    (∀ n, n < 8 →
     bitAt (getF (loseWrite h page src off) ⟨page + 0xFFC, 23, 16⟩ 0) n = (n == src || bitAt (getF h ⟨page + 0xFFC, 23, 16⟩ 0) n)) ∧
    (getF h ⟨page + 0xFFC, 23, 16⟩ 0 = 0 →
     getF (loseWrite h page src off) ⟨page + 0xFFC, 15, 12⟩ 0 = src ∧
     getF (loseWrite h page src off) ⟨page + 0xFFC, 11, 0⟩ 0 = off) ∧
    (getF h ⟨page + 0xFFC, 23, 16⟩ 0 ≠ 0 →
     getF (loseWrite h page src off) ⟨page + 0xFFC, 15, 0⟩ 0 = getF h ⟨page + 0xFFC, 15, 0⟩ 0) ∧
    (∀ a, a ≠ page + 0xFFC →
     getReg (loseWrite h page src off) a = getReg h a))

/-- R132, on a bridge with no write in flight. -/
def Obligations.ReadClearsForControlCoresOnly : Prop :=
  (∀ (src a : Nat) (r : RegDef) (f : FieldDef) (s : State), src < 4 → pageExists s.hw a = true → regAt a = some r → regOff a ≠ 0xFFC →
     pageFar s.hw a = false → inFlight s.hw a = none → domainOn s.hw (regDomain a) = true → f ∈ r.fields → f.acc = Acc.rc →
     ∃ t, exec (.rcFieldRead src a) s = .next t ∧ t.hw.out = [Output.word (BitVec.ofNat 32 (readable r (shownWord s.hw a)))] ∧
     bits f.fld.hi f.fld.lo (getReg t.hw a) = 0) ∧
  (∀ (src a : Nat) (r : RegDef) (f : FieldDef) (s : State), 4 ≤ src → src < 8 → barSource src = none → pageExists s.hw a = true →
     regAt a = some r → regOff a ≠ 0xFFC → pageFar s.hw a = false → inFlight s.hw a = none → domainOn s.hw (regDomain a) = true →
     f ∈ r.fields → f.acc = Acc.rc → ∃ t, exec (.rcFieldRead src a) s = .next t ∧
     t.hw.out = [Output.word (BitVec.ofNat 32 (readable r (shownWord s.hw a)))] ∧ t.hw.regs = s.hw.regs)

/-- R134 and R135 for Read, Write, Subscribe, Block read and Block write; Describe never has an effect. -/
def Obligations.RefusedTransactionsHaveNoEffect : Prop :=
  (∀ (sess u p e : Nat) (s : State), p < 0x1000 → e < 16 → readStatus s.hw sess u p e ≠ 0 → sessionBusy s.hw sess = false →
     ∃ t, exec (.readObject sess u p e) s = .next t ∧ (∃ ty, t = { s with hw := { s.hw with out := [Output.reply sess (readStatus s.hw sess u p e) ty 0 0] } })) ∧
  (∀ (sess u p e ty : Nat) (value : List (BitVec 8)) (s : State), p < 0x1000 → e < 16 → writeStatus s.hw sess u p e ty value ≠ 0 →
     sessionBusy s.hw sess = false → exec (.writeObject sess u p e ty value) s = .next { s with hw := { s.hw with out := [Output.reply sess (writeStatus s.hw sess u p e ty value) 0 0 0] } }) ∧
  (∀ (sess u p e ty interval : Nat) (s : State), p < 0x1000 → e < 16 → interval < 2 ^ 16 →
     subscribeStatus s.hw sess u p e ty interval none ≠ 0 → sessionBusy s.hw sess = false →
     exec (.subscribe sess u p e ty interval []) s = .next { s with hw := { s.hw with out := [Output.reply sess (subscribeStatus s.hw sess u p e ty interval none) 0 0 0] } }) ∧
  (∀ (sess u p e first n : Nat) (s : State), p < 0x1000 → e < 16 → first < 256 → n < 2 ^ 32 →
     blockStatus s.hw sess u p e first n false false ≠ 0 → sessionBusy s.hw sess = false →
     exec (.blockRead sess u p e first n) s = .next { s with hw := { s.hw with out := [Output.reply sess (blockStatus s.hw sess u p e first n false false) 0 0 0] } }) ∧
  (∀ (sess u p e first n : Nat) (s : State), p < 0x1000 → e < 16 → first < 256 → n < 2 ^ 32 →
     blockStatus s.hw sess u p e first n true false ≠ 0 → sessionBusy s.hw sess = false →
     exec (.blockWrite sess u p e first n) s = .next { s with hw := { s.hw with out := [Output.reply sess (blockStatus s.hw sess u p e first n true false) 0 0 0] } }) ∧
  (∀ (sess u p e : Nat) (s : State), e < 16 → sessionBusy s.hw sess = false → ∃ t, exec (.describe sess u p e) s = .next t ∧
     t = { s with hw := { s.hw with out := t.hw.out } })

/-- R174, first and third bullets, for a well-formed request. -/
def Obligations.RepeatedRequestsAreNotPerformed : Prop :=
  (∀ (src seq count : Nat) (body : List (BitVec 8)) (ts : List Txn) (f : Frame) (s : State), mgmtUp s.hw = true →
     getF s.hw PW_BOOT_STAGE 0 ≠ 0 → src ≤ 0x3FF → 0 < count → count ≤ 16 → parseRecords count body = some ts →
     (ts.map (longestResponse s.hw)).sum ≤ 1488 → (session s.hw src).lastSeq = some seq → (session s.hw src).lastResp = some f →
     exec (.quablinkRequest src seq count body) s = .next { s with hw := txFrame { s.hw with out := [] } f }) ∧
  (∀ (src seq count : Nat) (body : List (BitVec 8)) (ts : List Txn) (s : State), mgmtUp s.hw = true → getF s.hw PW_BOOT_STAGE 0 ≠ 0 →
     src ≤ 0x3FF → 0 < count → count ≤ 16 → parseRecords count body = some ts → (ts.map (longestResponse s.hw)).sum ≤ 1488 →
     (session s.hw src).lastSeq ≠ some seq → requestBusy s.hw src = true →
     exec (.quablinkRequest src seq count body) s = .next { s with hw := txFrame { s.hw with out := [] } { kind := 2, seq := seq, dst := src, stat := 2, count := 0, body := [] } })

/-- R187 for a mask that is not 0 (0 releases, R188), outside boot recovery, with the window awake. -/
def Obligations.ClaimsTakeAllOrNothing : Prop :=
  (∀ (sess mask : Nat) (d : EntDef) (s : State), objDef s.hw 0x1920 0x011 0 = some d → poweredDown s.hw sess 2 0x1920 0x011 0 d = false →
     sess < 2 ^ 16 → 0 < mask → mask < 256 → contiguous mask = false → sessionBusy s.hw sess = false →
     exec (.claim sess mask) s = .next { s with hw := { s.hw with out := [Output.reply sess (3) 0 0 0] } }) ∧
  (∀ (sess mask : Nat) (d : EntDef) (s : State), objDef s.hw 0x1920 0x011 0 = some d → poweredDown s.hw sess 2 0x1920 0x011 0 d = false →
     sess < 2 ^ 16 → 0 < mask → mask < 256 → contiguous mask = true → sections s.hw sess 1 ≠ [] ∨ sections s.hw sess 2 ≠ [] →
     sessionBusy s.hw sess = false → exec (.claim sess mask) s = .next { s with hw := { s.hw with out := [Output.reply sess (8) 0 0 0] } }) ∧
  (∀ (sess mask : Nat) (d : EntDef) (s : State), objDef s.hw 0x1920 0x011 0 = some d → poweredDown s.hw sess 2 0x1920 0x011 0 d = false →
     sess < 2 ^ 16 → 0 < mask → mask < 256 → contiguous mask = true → (∃ n ∈ List.range 8, bitAt mask n = true ∧ secState s.hw n ≠ 0) →
     sessionBusy s.hw sess = false → exec (.claim sess mask) s = .next { s with hw := { s.hw with out := [Output.reply sess (8) 0 0 0] } }) ∧
  (∀ (sess mask : Nat) (d : EntDef) (s : State), objDef s.hw 0x1920 0x011 0 = some d → poweredDown s.hw sess 2 0x1920 0x011 0 d = false →
     sess < 2 ^ 16 → 0 < mask → mask < 256 → contiguous mask = true → sections s.hw sess 1 = [] → sections s.hw sess 2 = [] →
     windowAsleep s.hw = false → getF s.hw PW_BOOT_STAGE 0 ≠ 0x0D → (∀ n ∈ List.range 8, bitAt mask n = true → secState s.hw n = 0) →
     sessionBusy s.hw sess = false → ∃ t, exec (.claim sess mask) s = .next t ∧ t.hw.out = [Output.reply sess 0 0 0 0] ∧
     (∀ n ∈ List.range 8, (secState t.hw n, secOwner t.hw n) = (if bitAt mask n then (1, sess) else (secState s.hw n, secOwner s.hw n))) ∧
     t.hw.mem = s.hw.mem ∧ t.vault = s.vault ∧ t.pending = s.pending)

/-- R25. -/
def Obligations.MembersOfAPath : Prop :=
  (∀ p m, m ∈ members p ↔ m ∈ leafPaths ∧ ∀ i, i < 4 → nib p i ≠ 0 → nib m i = nib p i) ∧
  (∀ p, p < 2 ^ 16 → (isLeaf p = true ↔ members p = [p])) ∧
  (∀ p, p < 2 ^ 16 → ((unitExists p = true ∧ isLeaf p = false) ↔ ∃ m ∈ members p, m ≠ p)) ∧
  members 0 = leafPaths

/-- R578: state 3 that is not the wait for the partner's Hello at start (R579) is a loss. -/
def Obligations.PairKeepsTheDeviceOutOfPs4 : Prop :=
  (∀ h : Hw, twinState h = 2 ∨ twinState h = 3 ∧ h.twin.helloWait = false ∨ twinState h = 4 → wantedState h ≤ 3) ∧
  (∀ h : Hw, twinState h = 2 ∨ twinState h = 3 ∧ h.twin.helloWait = false ∨ twinState h = 4 → h.engine.oper = none →
    h.portA.rdy = true ∨ h.portB.rdy = true → (h.portA.rdy = true → h.portA.ps = 4) → (h.portB.rdy = true → h.portB.ps = 4) →
    wantedState h = 3) ∧
  (∀ s t : State, twinState s.hw = 2 ∨ twinState s.hw = 3 ∧ s.hw.twin.helloWait = false ∨ twinState s.hw = 4 → getF s.hw PW_PSTATE_TGT 0 ≠ 4 →
    exec .lowPowerTransitionBegin s = .next t → getF t.hw PW_PSTATE_TGT 0 ≠ 4)

/-- R28; an absent member answers 000 and 001 only (R30) and has no summary. -/
def Obligations.GroupsReadTheirMembers : Prop :=
  (∀ (sess p : Nat) (s : State), isLeaf p = false → readStatus s.hw sess p 2 0 = 0 → sessionBusy s.hw sess = false →
     ∃ t, exec (.readObject sess p 2 0) s = .next t ∧ (∃ v, t.hw.out = [Output.reply sess 0 3 v 4] ∧ ∀ k, k < 32 →
     (bitAt v k = true ↔ ∃ m ∈ members p, absent s.hw m = false ∧ bitAt (unit s.hw m).summary k = true))) ∧
  (∀ (sess p : Nat) (s : State), isLeaf p = false → readStatus s.hw sess p 5 0 = 0 → sessionBusy s.hw sess = false →
     ∃ t, exec (.readObject sess p 5 0) s = .next t ∧ (∃ v, t.hw.out = [Output.reply sess 0 10 v 1] ∧
     (∀ m ∈ members p, absent s.hw m = false → powerOf s.hw m ≤ v) ∧ ∃ m ∈ members p, absent s.hw m = false ∧ powerOf s.hw m = v))

/-- R113: step 15 is admin ready, stage 0x07. -/
def Obligations.EnableWaitsForAdminReady : Prop :=
  (∀ (p asqs acqs : Nat) (s : State), p < 2 → (port s.hw p).configured = true → (port s.hw p).en = false → getF s.hw PW_BOOT_STAGE 0 < 7 →
     flagF s.hw PW_BOOT_HALT 0 = false → ∃ t, exec (.controllerEnable p asqs acqs) s = .next t ∧ (port t.hw p).en = true ∧
     (port t.hw p).rdy = (port s.hw p).rdy ∧ (port t.hw p).cfs = (port s.hw p).cfs ∧ t.hw.regs = s.hw.regs ∧ t.hw.mem = s.hw.mem ∧
     t.vault = s.vault ∧ t.pending = s.pending) ∧
  (∀ (p : Nat) (s : State), p < 2 → (port s.hw p).en = true → (port s.hw p).cfs = false →
     getF s.hw PW_BOOT_STAGE 0 = 5 ∨ getF s.hw PW_BOOT_STAGE 0 = 6 → getF s.hw PW_BOOT_HALT 0 = 0 → ∃ t, exec .adminReady s = .next t ∧
     (port t.hw p).rdy = true ∧ getF t.hw PW_BOOT_STAGE 0 = 7 ∧ t.hw.mem = s.hw.mem ∧ t.vault = s.vault ∧ t.pending = s.pending) ∧
  (∀ (p asqs acqs : Nat) (s : State), p < 2 → (port s.hw p).configured = true → (port s.hw p).en = false →
     getF s.hw PW_BOOT_STAGE 0 ≠ 0x0D → flagF s.hw PW_BOOT_HALT 0 = true → ∃ t, exec (.controllerEnable p asqs acqs) s = .next t ∧
     (port t.hw p).cfs = true ∧ (port t.hw p).rdy = (port s.hw p).rdy ∧ t.hw.regs = s.hw.regs ∧ t.hw.mem = s.hw.mem ∧ t.vault = s.vault ∧
     t.pending = s.pending)

/-- R631: 1A00:061 is the PS1 ceiling, 062 the PS2 ceiling, 063 the idle speed. -/
def Obligations.CeilingsKeepTheirOrder : Prop :=
  (∀ (sess x : Nat) (d : EntDef) (s : State), objDef s.hw 0x1A00 0x061 0 = some d → poweredDown s.hw sess 2 0x1A00 0x061 0 d = false →
     2 ≤ roleOf s.hw sess → x < 2 ^ 16 → liveVal s.hw 0x1A00 0x061 0 ≤ 7200 ∧ liveVal s.hw 0x1A00 0x062 0 ≤ liveVal s.hw 0x1A00 0x061 0 ∧
     liveVal s.hw 0x1A00 0x063 0 ≤ liveVal s.hw 0x1A00 0x062 0 ∧ 3600 ≤ liveVal s.hw 0x1A00 0x063 0 → ¬(x ≤ 7200 ∧
     liveVal s.hw 0x1A00 0x062 0 ≤ x) → sessionBusy s.hw sess = false →
     exec (.writeObject sess 0x1A00 0x061 0 2 (leBytes 2 x)) s = .next { s with hw := { s.hw with out := [Output.reply sess (3) 0 0 0] } }) ∧
  (∀ (sess x : Nat) (d : EntDef) (s : State), objDef s.hw 0x1A00 0x061 0 = some d → poweredDown s.hw sess 2 0x1A00 0x061 0 d = false →
     2 ≤ roleOf s.hw sess → x < 2 ^ 16 → liveVal s.hw 0x1A00 0x061 0 ≤ 7200 ∧ liveVal s.hw 0x1A00 0x062 0 ≤ liveVal s.hw 0x1A00 0x061 0 ∧
     liveVal s.hw 0x1A00 0x063 0 ≤ liveVal s.hw 0x1A00 0x062 0 ∧ 3600 ≤ liveVal s.hw 0x1A00 0x063 0 → x ≤ 7200 ∧
     liveVal s.hw 0x1A00 0x062 0 ≤ x → sessionBusy s.hw sess = false →
     ∃ t, exec (.writeObject sess 0x1A00 0x061 0 2 (leBytes 2 x)) s = .next t ∧ t.hw.out = [Output.reply sess 0 0 0 0] ∧
     liveVal t.hw 0x1A00 0x061 0 = x ∧ t.vault = s.vault ∧ t.pending = s.pending) ∧
  (∀ (sess x : Nat) (d : EntDef) (s : State), objDef s.hw 0x1A00 0x062 0 = some d → poweredDown s.hw sess 2 0x1A00 0x062 0 d = false →
     2 ≤ roleOf s.hw sess → x < 2 ^ 16 → liveVal s.hw 0x1A00 0x061 0 ≤ 7200 ∧ liveVal s.hw 0x1A00 0x062 0 ≤ liveVal s.hw 0x1A00 0x061 0 ∧
     liveVal s.hw 0x1A00 0x063 0 ≤ liveVal s.hw 0x1A00 0x062 0 ∧ 3600 ≤ liveVal s.hw 0x1A00 0x063 0 → ¬(x ≤ liveVal s.hw 0x1A00 0x061 0 ∧
     liveVal s.hw 0x1A00 0x063 0 ≤ x) → sessionBusy s.hw sess = false →
     exec (.writeObject sess 0x1A00 0x062 0 2 (leBytes 2 x)) s = .next { s with hw := { s.hw with out := [Output.reply sess (3) 0 0 0] } }) ∧
  (∀ (sess x : Nat) (d : EntDef) (s : State), objDef s.hw 0x1A00 0x062 0 = some d → poweredDown s.hw sess 2 0x1A00 0x062 0 d = false →
     2 ≤ roleOf s.hw sess → x < 2 ^ 16 → liveVal s.hw 0x1A00 0x061 0 ≤ 7200 ∧ liveVal s.hw 0x1A00 0x062 0 ≤ liveVal s.hw 0x1A00 0x061 0 ∧
     liveVal s.hw 0x1A00 0x063 0 ≤ liveVal s.hw 0x1A00 0x062 0 ∧ 3600 ≤ liveVal s.hw 0x1A00 0x063 0 → x ≤ liveVal s.hw 0x1A00 0x061 0 ∧
     liveVal s.hw 0x1A00 0x063 0 ≤ x → sessionBusy s.hw sess = false →
     ∃ t, exec (.writeObject sess 0x1A00 0x062 0 2 (leBytes 2 x)) s = .next t ∧ t.hw.out = [Output.reply sess 0 0 0 0] ∧
     liveVal t.hw 0x1A00 0x062 0 = x ∧ t.vault = s.vault ∧ t.pending = s.pending) ∧
  (∀ (sess x : Nat) (d : EntDef) (s : State), objDef s.hw 0x1A00 0x063 0 = some d → poweredDown s.hw sess 2 0x1A00 0x063 0 d = false →
     2 ≤ roleOf s.hw sess → x < 2 ^ 16 → liveVal s.hw 0x1A00 0x061 0 ≤ 7200 ∧ liveVal s.hw 0x1A00 0x062 0 ≤ liveVal s.hw 0x1A00 0x061 0 ∧
     liveVal s.hw 0x1A00 0x063 0 ≤ liveVal s.hw 0x1A00 0x062 0 ∧ 3600 ≤ liveVal s.hw 0x1A00 0x063 0 → ¬(x ≤ liveVal s.hw 0x1A00 0x062 0 ∧
     3600 ≤ x) → sessionBusy s.hw sess = false → exec (.writeObject sess 0x1A00 0x063 0 2 (leBytes 2 x)) s = .next { s with hw := { s.hw with out := [Output.reply sess (3) 0 0 0] } }) ∧
  (∀ (sess x : Nat) (d : EntDef) (s : State), objDef s.hw 0x1A00 0x063 0 = some d → poweredDown s.hw sess 2 0x1A00 0x063 0 d = false →
     2 ≤ roleOf s.hw sess → x < 2 ^ 16 → liveVal s.hw 0x1A00 0x061 0 ≤ 7200 ∧ liveVal s.hw 0x1A00 0x062 0 ≤ liveVal s.hw 0x1A00 0x061 0 ∧
     liveVal s.hw 0x1A00 0x063 0 ≤ liveVal s.hw 0x1A00 0x062 0 ∧ 3600 ≤ liveVal s.hw 0x1A00 0x063 0 → x ≤ liveVal s.hw 0x1A00 0x062 0 ∧
     3600 ≤ x → sessionBusy s.hw sess = false → ∃ t, exec (.writeObject sess 0x1A00 0x063 0 2 (leBytes 2 x)) s = .next t ∧
     t.hw.out = [Output.reply sess 0 0 0 0] ∧ liveVal t.hw 0x1A00 0x063 0 = x ∧ t.vault = s.vault ∧ t.pending = s.pending)

/-- R148 and R149: the role, the challenge and the count of failed responses belong to the session that asked. -/
def Obligations.SessionsDecideTheirOwnRoles : Prop :=
  ∀ (s t : State) (sess k x : Nat), k ≠ sess →
    exec (.sessionRoleWrite sess x) s = .next t ∨ exec (.challengeRead sess x) s = .next t ∨
    (∃ y, exec (.responseWrite sess x y) s = .next t) ∨ exec (.clear sess x) s = .next t →
    session t.hw k = session s.hw k ∧ t.hw.cipher = s.hw.cipher

/-- The store and the read that every agent of the buffer uses (R472, R475), outside the extent map and the page chain table. -/
def Obligations.StoredBytesReadBack : Prop :=
  ∀ (h : Hw) (a : Nat) (l : List (BitVec 8)), (∀ b, a ≤ b → b < a + l.length → ownedByte b = false) →
    memBytes (memStore h a l) a l.length = l ∧ ∀ b, b < a ∨ a + l.length ≤ b → memByte (memStore h a l) b = memByte h b

/-- R87 (IEEE 1149.1). -/
def Obligations.FiveOnesResetTheTap : Prop :=
  ∀ st : TapState, TapState.next (TapState.next (TapState.next (TapState.next (TapState.next st true) true) true) true) true = TapState.testLogicReset

/-- R544 (a Hall in state 0 or 2 takes no work), R545 (encipherment waits for the mark), R547 and R550 (the usage limit). -/
def Obligations.EnciphermentStaysInsideItsGeneration : Prop :=
  (∀ (s t : State) (slot i : Nat), exec (.dataUnitCipher slot i) s = .next t → t.vault = s.vault ∨
    ∃ n, (hall s.vault n).st = 1 ∧ hallDue s.vault n = false ∧ (hall s.vault n).used < (hall s.vault n).resv ∧
      hall t.vault n = { hall s.vault n with used := (hall s.vault n).used + 1 } ∧ (∀ k, k ≠ n → hall t.vault k = hall s.vault k) ∧
      t.vault.due = s.vault.due ∧ t.vault.older = s.vault.older) ∧
  (∀ (s t : State) (c : Nat), exec (.rekeyStart c) s = .next t → t.vault = s.vault ∨
    ∃ n, (hall s.vault n).st = 1 ∧ hallDue s.vault n = false ∧ (hall s.vault n).used + extentBlocks ≤ (hall s.vault n).resv ∧
      (hall s.vault n).used + extentBlocks ≤ usageLimit s.hw ∧
      hall t.vault n = { hall s.vault n with used := (hall s.vault n).used + extentBlocks } ∧ (∀ k, k ≠ n → hall t.vault k = hall s.vault k) ∧
      t.vault.due = s.vault.due ∧ t.vault.older = s.vault.older)

/-- R217-R219: whatever the information columns are, the parity columns of the back-substitution satisfy every check of the parity-check matrix, and the information columns stand in the codeword as they are. -/
def Obligations.EncodedSectorsPassEveryCheck : Prop :=
  ∀ u : Nat → BitVec 256, (∀ r, r < 16 → checkRow (codeColumn u) r = 0) ∧ unsatisfied (codeColumn u) = 0 ∧ ∀ c, c < 128 → codeColumn u c = u c

/-- R220: w is the code bits XORed with q, and the signs of the LLRs are inverted where q is 1. -/
def Obligations.ScramblingTwiceGivesTheBits : Prop :=
  ∀ (st : BitVec 31) (l : List Bool) (m : Int), scramble st (scramble st l) = l ∧ (scramble st l).length = l.length ∧
    descramble st ((scramble st l).map (fun (b : Bool) => if b then -m else m)) = l.map (fun (b : Bool) => if b then -m else m)

/-- R539, R540. That the standards invert is what their permutations in Config say (log entry 6). -/
def Obligations.WhatIsEncipheredDeciphers : Prop :=
  (∀ (m : Bool) (nsid epoch kgen lba text : Nat), text < 2 ^ 32768 → decipher m nsid epoch kgen lba (encipher m nsid epoch kgen lba text) = text ∧
     encipher m nsid epoch kgen lba text < 2 ^ 32768) ∧
  (∀ (m : Bool) (key : Nat), key < 2 ^ 256 → roleUnwrap m (roleWrap m key) = some key)
end

