-- ==== Sys2Proof/Laws/SMap.lean ====
section
/-! SUPPORT. Laws of sparse maps: a read after a write, and the canonical form that every write keeps. -/
namespace Sys2Proof.Machine

variable {β : Type}

@[simp] theorem mget_nil (d : Nat → β) (k : Nat) : mget d [] k = d k := rfl

theorem mget_cons (d : Nat → β) (a : Nat) (v : β) (m : SMap β) (k : Nat) :
    mget d ((a, v) :: m) k = if a = k then v else mget d m k := rfl

theorem mget_mdel (d : Nat → β) (m : SMap β) (k j : Nat) :
    mget d (mdel m k) j = if j = k then d k else mget d m j := by
  induction m with
  | nil => by_cases h : j = k <;> simp [mdel, h]
  | cons p r ih =>
    obtain ⟨a, v⟩ := p
    simp only [mdel] at ih ⊢
    by_cases h : a = k
    · subst h
      rw [List.filter_cons_of_neg (by simp), ih, mget_cons]
      by_cases hj : j = a
      · simp [hj]
      · rw [if_neg hj, if_neg hj, if_neg (fun e => hj e.symm)]
    · rw [List.filter_cons_of_pos (by simpa using h), mget_cons, ih, mget_cons]
      by_cases hj : j = k
      · subst hj; rw [if_neg h, if_pos rfl, if_pos rfl]
      · rw [if_neg hj, if_neg hj]

theorem mget_minsert (d : Nat → β) (m : SMap β) (k : Nat) (v : β) (j : Nat) (hm : ∀ p ∈ m, p.1 ≠ k) :
    mget d (minsert m k v) j = if j = k then v else mget d m j := by
  induction m with
  | nil => simp [minsert, mget_cons, eq_comm]
  | cons p r ih =>
    obtain ⟨a, w⟩ := p
    have ha : a ≠ k := hm (a, w) (by simp)
    have hr := ih (fun q hq => hm q (List.mem_cons_of_mem _ hq))
    unfold minsert
    split
    · rw [mget_cons]; by_cases hj : k = j
      · simp [hj]
      · rw [if_neg hj, if_neg (fun e => hj e.symm)]
    · rw [mget_cons, mget_cons, hr]
      by_cases hj : a = j
      · subst hj; simp [ha]
      · rw [if_neg hj, if_neg hj]

theorem mdel_ne {m : SMap β} {k : Nat} {p : Nat × β} (h : p ∈ mdel m k) : p.1 ≠ k := by
  simp only [mdel, List.mem_filter] at h
  simpa using h.2

/-- A read after a write: the value written at its key, the value before at every other key. -/
theorem mget_mset [DecidableEq β] (d : Nat → β) (m : SMap β) (k : Nat) (v : β) (j : Nat) :
    mget d (mset d m k v) j = if j = k then v else mget d m j := by
  unfold mset
  split
  · rename_i h; rw [mget_mdel, h]
  · rw [mget_minsert d _ k v j (fun p hp => mdel_ne hp), mget_mdel]
    by_cases hj : j = k <;> simp [hj]

@[simp] theorem mget_mset_self [DecidableEq β] (d : Nat → β) (m : SMap β) (k : Nat) (v : β) :
    mget d (mset d m k v) k = v := by simp [mget_mset]

theorem mget_mset_ne [DecidableEq β] (d : Nat → β) (m : SMap β) {k j : Nat} (v : β) (h : j ≠ k) :
    mget d (mset d m k v) j = mget d m j := by simp [mget_mset, h]

/-! The canonical form. -/

theorem msorted_cons {a : Nat} {v : β} {m : SMap β} :
    msorted ((a, v) :: m) = true ↔ (∀ p ∈ m, a < p.1) ∧ msorted m = true := by
  induction m generalizing a v with
  | nil => simp [msorted]
  | cons q r ih =>
    obtain ⟨b, w⟩ := q
    simp only [msorted, Bool.and_eq_true, decide_eq_true_eq, List.mem_cons]
    constructor
    · rintro ⟨hab, h⟩
      refine ⟨?_, h⟩
      rintro p (rfl | hp)
      · exact hab
      · exact Nat.lt_trans hab ((ih.mp h).1 p hp)
    · rintro ⟨h, hs⟩
      exact ⟨h (b, w) (Or.inl rfl), hs⟩

theorem msorted_filter {m : SMap β} (f : Nat × β → Bool) (h : msorted m = true) : msorted (m.filter f) = true := by
  induction m with
  | nil => simp [msorted]
  | cons p r ih =>
    obtain ⟨a, v⟩ := p
    obtain ⟨h1, h2⟩ := msorted_cons.mp h
    by_cases hf : f (a, v) = true
    · rw [List.filter_cons_of_pos hf]
      exact msorted_cons.mpr ⟨fun q hq => h1 q ((List.mem_filter.mp hq).1), ih h2⟩
    · rw [List.filter_cons_of_neg hf]; exact ih h2

theorem mem_minsert {m : SMap β} {k : Nat} {v : β} {p : Nat × β} (h : p ∈ minsert m k v) : p = (k, v) ∨ p ∈ m := by
  induction m with
  | nil => simpa [minsert] using h
  | cons q r ih =>
    obtain ⟨a, w⟩ := q
    unfold minsert at h
    split at h
    · simpa using h
    · rcases List.mem_cons.mp h with rfl | h
      · exact Or.inr (by simp)
      · rcases ih h with h | h
        · exact Or.inl h
        · exact Or.inr (List.mem_cons_of_mem _ h)

theorem msorted_minsert {m : SMap β} {k : Nat} {v : β} (hm : ∀ p ∈ m, p.1 ≠ k) (h : msorted m = true) :
    msorted (minsert m k v) = true := by
  induction m with
  | nil => simp [minsert, msorted]
  | cons q r ih =>
    obtain ⟨a, w⟩ := q
    obtain ⟨h1, h2⟩ := msorted_cons.mp h
    have ha : a ≠ k := hm (a, w) (by simp)
    unfold minsert
    split
    · rename_i hk
      refine msorted_cons.mpr ⟨?_, h⟩
      intro p hp
      rcases List.mem_cons.mp hp with rfl | hp
      · exact hk
      · exact Nat.lt_trans hk (h1 p hp)
    · rename_i hk
      refine msorted_cons.mpr ⟨?_, ih (fun p hp => hm p (List.mem_cons_of_mem _ hp)) h2⟩
      intro p hp
      rcases mem_minsert hp with rfl | hp
      · exact Nat.lt_of_le_of_ne (Nat.le_of_not_lt hk) ha
      · exact h1 p hp

/-- A write keeps the canonical form. -/
theorem mwf_mset [DecidableEq β] {d : Nat → β} {m : SMap β} (k : Nat) (v : β) (h : mwf d m = true) :
    mwf d (mset d m k v) = true := by
  simp only [mwf, Bool.and_eq_true, List.all_eq_true, Bool.not_eq_true', decide_eq_false_iff_not] at h ⊢
  obtain ⟨hs, hd⟩ := h
  unfold mset
  split
  · exact ⟨msorted_filter _ hs, fun p hp => hd p ((List.mem_filter.mp hp).1)⟩
  · rename_i hv
    refine ⟨msorted_minsert (fun p hp => mdel_ne hp) (msorted_filter _ hs), fun p hp => ?_⟩
    rcases mem_minsert hp with rfl | hp
    · exact hv
    · exact hd p ((List.mem_filter.mp hp).1)

theorem mwf_nil [DecidableEq β] (d : Nat → β) : mwf d [] = true := rfl

/-- Leaving entries out keeps the canonical form. -/
theorem mwf_filter [DecidableEq β] {d : Nat → β} {m : SMap β} (f : Nat × β → Bool) (h : mwf d m = true) :
    mwf d (m.filter f) = true := by
  simp only [mwf, Bool.and_eq_true, List.all_eq_true] at h ⊢
  exact ⟨msorted_filter f h.1, fun p hp => h.2 p ((List.mem_filter.mp hp).1)⟩

end Sys2Proof.Machine
end

