-- ==== Sys2Proof/Laws/Halls.lean ====
section
/-! SUPPORT. Laws of the Halls: what each operation on the vault does to the chain of a Hall and its waiting changes. -/
namespace Sys2Proof.Machine

theorem hallChain_head {x : Hall} {l : List Hall} (h : hallChain x l = true) : x.used ≤ x.resv := by
  cases l with
  | nil => simpa [hallChain] using h
  | cons y l => simp [hallChain] at h; exact h.1

/-- A change joins the end of a chain when it moves to another generation than the last change before it and keeps its own mark. -/
theorem hallChain_move {x : Hall} {l : List Hall} (h : hallChain x l = true) (y : Hall) (hy : y.used ≤ y.resv)
    (far : (l.getLast?.getD x).epoch ≠ y.epoch ∨ (l.getLast?.getD x).wgen ≠ y.wgen) : hallChain x (l ++ [y]) = true := by
  induction l generalizing x with
  | nil =>
    simp [hallChain] at h ⊢
    refine ⟨h, ?_⟩
    simp only [afterTaking]
    split
    · rcases far with f | f <;> simp_all
    · exact hy
  | cons z l ih =>
    simp only [hallChain, Bool.and_eq_true, List.cons_append] at h ⊢
    refine ⟨h.1, ih h.2 ?_⟩
    rcases far with f | f
    · left
      cases l <;> simpa [afterTaking, List.getLast?_cons] using f
    · right
      cases l <;> simpa [afterTaking, List.getLast?_cons] using f

/-- A change joins the end of a chain when it keeps the generation and does not lower the mark of the last change before it. -/
theorem hallChain_keep {x : Hall} {l : List Hall} (h : hallChain x l = true) (y : Hall)
    (he : y.epoch = (l.getLast?.getD x).epoch) (hw : y.wgen = (l.getLast?.getD x).wgen) (hr : (l.getLast?.getD x).resv ≤ y.resv) :
    hallChain x (l ++ [y]) = true := by
  induction l generalizing x with
  | nil =>
    simp [hallChain] at h ⊢
    refine ⟨h, ?_⟩
    simp_all [afterTaking]
    omega
  | cons z l ih =>
    simp only [hallChain, Bool.and_eq_true, List.cons_append] at h ⊢
    refine ⟨h.1, ih h.2 ?_ ?_ ?_⟩
    · cases l <;> simpa [afterTaking, List.getLast?_cons] using he
    · cases l <;> simpa [afterTaking, List.getLast?_cons] using hw
    · cases l <;> simpa [afterTaking, List.getLast?_cons] using hr

/-- What a namespace's Hall will be is its last waiting change, or the Hall. -/
theorem nextHall_eq (v : Vault) (n : Nat) : nextHall v n = (duesOf v n).getLast?.getD (hall v n) := by
  unfold nextHall duesOf
  rw [List.getLast?_map, List.getLast?_eq_head?_reverse, ← List.filter_reverse, List.head?_filter]
  cases h : v.due.reverse.find? (fun d => d.1 == n) <;> rfl

theorem duesOf_changeHall (v : Vault) (n : Nat) (x : Hall) (k : Nat) :
    duesOf (changeHall v n x) k = if k = n then duesOf v n ++ [{ x with seq := (nextHall v n).seq + 1 }] else duesOf v k := by
  unfold duesOf changeHall
  by_cases h : k = n
  · subst h; simp [List.filter_append]
  · have : ¬ n = k := fun e => h e.symm
    simp [List.filter_append, h, this]

theorem hall_changeHall (v : Vault) (n : Nat) (x : Hall) (k : Nat) : hall (changeHall v n x) k = hall v k := rfl

theorem duesOf_eq_nil {v : Vault} {n : Nat} (h : hallDue v n = false) : duesOf v n = [] := by
  unfold hallDue at h
  unfold duesOf
  rw [List.filter_eq_nil_iff.mpr]
  · rfl
  · intro d hd
    have := List.any_eq_false.mp h d hd
    simpa using this

/-- The oldest change of a chain takes effect. -/
theorem hall_takeHall (v : Vault) (n : Nat) (x : Hall) (k : Nat) :
    hall (takeHall v n x) k = if k = n then afterTaking (hall v n) x else hall v k := by
  unfold takeHall afterTaking
  simp only [hall]
  rw [mget_mset]

/-- What one data unit, or a reservation of units, leaves of a chain without waiting changes. -/
theorem hallChain_used {x : Hall} (u : Nat) (h : x.used + u ≤ x.resv) : hallChain { x with used := x.used + u } [] = true := by
  simpa [hallChain] using h

/-- A restart counts everything reserved as used and forgets changes that were not written. -/
theorem hall_restart (v : Vault) (n : Nat) : hall v.restart n = { hall v n with used := (hall v n).resv } := by
  unfold hall Vault.restart
  induction v.halls with
  | nil => rfl
  | cons p m ih =>
    obtain ⟨a, x⟩ := p
    simp only [List.map_cons, mget]
    split
    · rfl
    · exact ih

theorem hallsBounded_restart (s : State) (h : Hw) (q : List Instr) : HallsBounded { hw := h, vault := s.vault.restart, pending := q } := by
  intro n
  show hallChain (hall s.vault.restart n) (duesOf s.vault.restart n) = true
  rw [hall_restart]
  simp [duesOf, Vault.restart, hallChain]

end Sys2Proof.Machine
end

