-- ==== Sys2Proof/Laws/Keys.lean ====
section
/-! SUPPORT. Laws of keys and of what is computed under them: a block deciphers to what was enciphered, a wrapped key unwraps. -/
namespace Sys2Proof.Machine

/-- A block deciphers, under the key and number it was enciphered under, to itself. -/
theorem decipher_encipher (b : Bool) (nsid epoch kgen lba text : Nat) (h : text < 2 ^ 32768) :
    decipher b nsid epoch kgen lba (encipher b nsid epoch kgen lba text) = text := by
  simp only [decipher, encipher, BitVec.ofNat_toNat, BitVec.setWidth_eq, Equiv.symm_apply_apply, BitVec.toNat_ofNat]
  exact Nat.mod_eq_of_lt h

/-- A ciphertext fits a block. -/
theorem encipher_lt (b : Bool) (nsid epoch kgen lba text : Nat) : encipher b nsid epoch kgen lba text < 2 ^ 32768 :=
  BitVec.isLt _

/-- A 256-bit key unwraps under the key that wrapped it. -/
theorem unwrapKey_wrapKey (kek key : Nat) (h : key < 2 ^ 256) : unwrapKey kek (wrapKey kek key) = some key := by
  simp only [unwrapKey, wrapKey, BitVec.ofNat_toNat, BitVec.setWidth_eq, Equiv.symm_apply_apply, BitVec.toNat_ofNat,
    Nat.mod_eq_of_lt h, wrapCheck]
  have e : (0xA6A6A6A6A6A6A6A6 + 2 ^ 64 * key) % 2 ^ 320 = 0xA6A6A6A6A6A6A6A6 + 2 ^ 64 * key := Nat.mod_eq_of_lt (by omega)
  rw [e, if_pos (by omega)]
  congr 1
  omega

end Sys2Proof.Machine
end

