-- ==== Sys2Proof/Laws/Memory.lean ====
section
/-! SUPPORT. Laws of memory: every operation keeps the canonical form; a stored byte reads back, every other byte stays. -/
namespace Sys2Proof.Machine

theorem memory_wf_reset : Memory.wf State.reset.hw.mem = true := rfl

theorem memPut_wf {m : List Host.Cell} (a : Nat) (b : BitVec 8) (h : Memory.wf m = true) : Memory.wf (memPut m a b) = true := mwf_mset a b h

theorem memPutAll_wf {m : List Host.Cell} (a : Nat) (l : List (BitVec 8)) (h : Memory.wf m = true) : Memory.wf (memPutAll m a l) = true := by
  induction l generalizing m a with
  | nil => exact h
  | cons b l ih => exact ih (a + 1) (memPut_wf a b h)

theorem memZero_wf {m : List Host.Cell} (a z : Nat) (h : Memory.wf m = true) : Memory.wf (memZero m a z) = true := mwf_filter _ h

theorem memCopy_wf {m : List Host.Cell} (src dst n : Nat) (h : Memory.wf m = true) : Memory.wf (memCopy m src dst n) = true := by
  unfold memCopy
  generalize List.filter (fun p => decide (src ≤ p.1) && decide (p.1 < src + n)) m = l
  have : ∀ k, Memory.wf k = true → Memory.wf (l.foldl (fun m p => memPut m (p.1 - src + dst) p.2) k) = true := by
    induction l with
    | nil => exact fun _ hk => hk
    | cons p r ih => exact fun k hk => ih _ (memPut_wf _ _ hk)
  exact this _ (memZero_wf _ _ h)

theorem memStore_wf (h : Hw) (a : Nat) (l : List (BitVec 8)) (w : Memory.wf h.mem = true) : Memory.wf (memStore h a l).mem = true := by
  unfold memStore
  split
  · exact w
  · exact memPutAll_wf a l w

/-- The byte at `b` after a run of bytes has been put at `a`. -/
theorem mget_memPutAll (m : List Host.Cell) (a : Nat) (l : List (BitVec 8)) (b : Nat) :
    mget memDefault (memPutAll m a l) b = if a ≤ b ∧ b < a + l.length then l.getD (b - a) 0 else mget memDefault m b := by
  induction l generalizing m a with
  | nil => simp [memPutAll]
  | cons x l ih =>
    rw [memPutAll, ih, memPut, mget_mset]
    by_cases h1 : b = a
    · subst h1; simp
    · by_cases h2 : a + 1 ≤ b ∧ b < a + 1 + l.length
      · have e : b - a = (b - (a + 1)) + 1 := by omega
        rw [if_pos h2, if_pos (by simp only [List.length_cons]; omega), e, List.getD_cons_succ]
      · rw [if_neg h2, if_neg h1, if_neg (by simp only [List.length_cons]; omega)]

/-- A byte outside those stored reads as before. -/
theorem memByte_memStore_ne (h : Hw) (a : Nat) (l : List (BitVec 8)) {b : Nat} (ne : b < a ∨ a + l.length ≤ b) :
    memByte (memStore h a l) b = memByte h b := by
  unfold memStore
  split
  · rfl
  · have : mget memDefault (memPutAll h.mem a l) b = mget memDefault h.mem b := by
      rw [mget_memPutAll, if_neg (by omega)]
    unfold memByte
    simp only [this]
    rfl

end Sys2Proof.Machine
end

