-- ==== Sys2Proof/Laws/Registers.lean ====
section
/-! SUPPORT. Laws of register fields: a field reads as it was last set, and setting a field leaves every other register and every
field beside it alone. -/
namespace Sys2Proof.Machine

theorem bits_lt (hi lo w : Nat) : bits hi lo w < 2 ^ (hi + 1 - lo) := Nat.mod_lt _ (Nat.two_pow_pos _)

theorem putBits_lt {hi lo v w : Nat} (hl : lo ≤ hi) (hh : hi ≤ 31) (hw : w < 2 ^ 32) : putBits hi lo v w < 2 ^ 32 := by
  have h1 : v % 2 ^ (hi + 1 - lo) < 2 ^ (hi + 1 - lo) := Nat.mod_lt _ (Nat.two_pow_pos _)
  have h2 : w % 2 ^ lo < 2 ^ lo := Nat.mod_lt _ (Nat.two_pow_pos _)
  have h3 : 2 ^ (hi + 1 - lo) * 2 ^ lo = 2 ^ (hi + 1) := by rw [← Nat.pow_add]; congr 1; omega
  have h4 : v % 2 ^ (hi + 1 - lo) * 2 ^ lo + w % 2 ^ lo < 2 ^ (hi + 1) := by
    have := Nat.mul_le_mul_right (2 ^ lo) (Nat.succ_le_of_lt h1)
    rw [h3, Nat.succ_mul] at this
    omega
  have h5 : 2 ^ (hi + 1) * 2 ^ (31 - hi) = 2 ^ 32 := by rw [← Nat.pow_add]; congr 1; omega
  have h6 : w / 2 ^ (hi + 1) < 2 ^ (31 - hi) := by
    rw [Nat.div_lt_iff_lt_mul (Nat.two_pow_pos _), Nat.mul_comm, h5]; exact hw
  have h7 := Nat.mul_le_mul_right (2 ^ (hi + 1)) (Nat.succ_le_of_lt h6)
  rw [Nat.mul_comm (2 ^ (31 - hi)), h5, Nat.succ_mul] at h7
  unfold putBits
  omega

/-- Bits set read as they were set. -/
theorem bits_putBits {hi lo : Nat} (v w : Nat) (hl : lo ≤ hi) : bits hi lo (putBits hi lo v w) = v % 2 ^ (hi + 1 - lo) := by
  have h3 : 2 ^ (hi + 1) = 2 ^ (hi + 1 - lo) * 2 ^ lo := by rw [← Nat.pow_add]; congr 1; omega
  have h2 : w % 2 ^ lo < 2 ^ lo := Nat.mod_lt _ (Nat.two_pow_pos _)
  unfold bits putBits
  rw [h3, ← Nat.mul_assoc, ← Nat.add_mul, Nat.add_comm (_ * _), Nat.add_mul_div_right _ _ (Nat.two_pow_pos _), Nat.div_eq_of_lt h2,
    Nat.zero_add, Nat.add_comm, Nat.add_mul_mod_self_right, Nat.mod_mod]

/-- Bits above or below the ones set stay. -/
theorem bits_putBits_ne {hi lo hi' lo' : Nat} (v w : Nat) (hl : lo ≤ hi) (hl' : lo' ≤ hi') (h : hi < lo' ∨ hi' < lo) :
    bits hi' lo' (putBits hi lo v w) = bits hi' lo' w := by
  have h3 : 2 ^ (hi + 1) = 2 ^ (hi + 1 - lo) * 2 ^ lo := by rw [← Nat.pow_add]; congr 1; omega
  have h1 : v % 2 ^ (hi + 1 - lo) < 2 ^ (hi + 1 - lo) := Nat.mod_lt _ (Nat.two_pow_pos _)
  have h2 : w % 2 ^ lo < 2 ^ lo := Nat.mod_lt _ (Nat.two_pow_pos _)
  have h4 : v % 2 ^ (hi + 1 - lo) * 2 ^ lo + w % 2 ^ lo < 2 ^ (hi + 1) := by
    have := Nat.mul_le_mul_right (2 ^ lo) (Nat.succ_le_of_lt h1)
    rw [← h3, Nat.succ_mul] at this
    omega
  unfold bits putBits
  rcases h with h | h
  · have e : 2 ^ lo' = 2 ^ (hi + 1) * 2 ^ (lo' - (hi + 1)) := by rw [← Nat.pow_add]; congr 1; omega
    rw [e, ← Nat.div_div_eq_div_mul, ← Nat.div_div_eq_div_mul, Nat.add_assoc, Nat.add_comm (_ * _),
      Nat.add_mul_div_right _ _ (Nat.two_pow_pos _), Nat.div_eq_of_lt h4, Nat.zero_add]
  · have e : 2 ^ lo = 2 ^ lo' * 2 ^ (hi' + 1 - lo') * 2 ^ (lo - (hi' + 1)) := by
      rw [← Nat.pow_add, ← Nat.pow_add]; congr 1; omega
    have key : ∀ x : Nat, (x * 2 ^ lo + w % 2 ^ lo) / 2 ^ lo' % 2 ^ (hi' + 1 - lo') = w / 2 ^ lo' % 2 ^ (hi' + 1 - lo') := by
      intro x
      have e1 : ∀ y : Nat, y / 2 ^ lo' % 2 ^ (hi' + 1 - lo') = y % (2 ^ lo' * 2 ^ (hi' + 1 - lo')) / 2 ^ lo' := by
        intro y; rw [Nat.mod_mul_right_div_self]
      rw [e1, e1, e]
      generalize 2 ^ lo' * 2 ^ (hi' + 1 - lo') = p
      generalize 2 ^ (lo - (hi' + 1)) = q
      rw [Nat.mul_comm p q, ← Nat.mul_assoc, Nat.add_comm, Nat.add_mul_mod_self_right, Nat.mul_comm q p, Nat.mod_mul_right_mod]
    have := key (w / 2 ^ (hi + 1) * 2 ^ (hi + 1 - lo) + v % 2 ^ (hi + 1 - lo))
    rw [Nat.add_mul, Nat.mul_assoc, ← h3] at this
    exact this

/-! Registers. -/

theorem getReg_lt (h : Hw) (a : Nat) : getReg h a < 2 ^ 32 := BitVec.isLt _

theorem getReg_setReg (h : Hw) (a w b : Nat) : getReg (setReg h a w) b = if b = a then w % 2 ^ 32 else getReg h b := by
  unfold getReg setReg
  rw [mget_mset]
  by_cases e : b = a <;> simp [e]

@[simp] theorem getReg_setReg_self (h : Hw) (a w : Nat) : getReg (setReg h a w) a = w % 2 ^ 32 := by simp [getReg_setReg]

theorem getReg_setReg_ne (h : Hw) {a b : Nat} (w : Nat) (e : b ≠ a) : getReg (setReg h a w) b = getReg h b := by simp [getReg_setReg, e]

theorem getReg_setF_ne (h : Hw) (f : Fld) (d v : Nat) {b : Nat} (e : b ≠ f.key + d) : getReg (setF h f d v) b = getReg h b :=
  getReg_setReg_ne h _ e

/-- A field reads as it was set, cut to its width. -/
theorem getF_setF (h : Hw) (f : Fld) (d v : Nat) (hl : f.lo ≤ f.hi := by decide) (hh : f.hi ≤ 31 := by decide) :
    getF (setF h f d v) f d = v % 2 ^ (f.hi + 1 - f.lo) := by
  unfold getF setF
  rw [getReg_setReg_self, Nat.mod_eq_of_lt (putBits_lt hl hh (getReg_lt h _)), bits_putBits _ _ hl]

/-- A field of another register stays. -/
theorem getF_setF_reg (h : Hw) (f g : Fld) (d e v : Nat) (ne : g.key + e ≠ f.key + d) : getF (setF h f d v) g e = getF h g e := by
  unfold getF
  rw [getReg_setF_ne h f d v ne]

/-- A field beside it in the same register stays. -/
theorem getF_setF_beside (h : Hw) (f g : Fld) (d v : Nat) (hk : g.key = f.key) (hl : f.lo ≤ f.hi := by decide) (hh : f.hi ≤ 31 := by decide)
    (hl' : g.lo ≤ g.hi := by decide) (ne : f.hi < g.lo ∨ g.hi < f.lo := by decide) : getF (setF h f d v) g d = getF h g d := by
  unfold getF setF
  rw [hk, getReg_setReg_self, Nat.mod_eq_of_lt (putBits_lt hl hh (getReg_lt h _)), bits_putBits_ne _ _ hl hl' ne]

/-- A flag that was set reads as set. -/
theorem flagF_setF_one (h : Hw) (f : Fld) (d : Nat) (e : f.hi = f.lo) (hh : f.hi ≤ 31 := by decide) : flagF (setF h f d 1) f d = true := by
  unfold flagF
  rw [getF_setF h f d 1 (by omega) hh, e]
  have : f.lo + 1 - f.lo = 1 := by omega
  simp [this]

end Sys2Proof.Machine
end

