-- ==== Sys2Proof/Laws/State.lean ====
section
/-! SUPPORT. What each named update of the hardware leaves of every part of it, so that no proof unfolds a record update. The
proofs are written (rfl), which keeps `simp` from treating the lemmas as definitional: the kernel then never compares whole states. -/
namespace Sys2Proof.Machine

/-! `setReg`. -/

@[simp] theorem setReg_bridges (h : Hw) (a w : Nat) : (setReg h a w).bridges = h.bridges := (rfl)
@[simp] theorem setReg_tap (h : Hw) (a w : Nat) : (setReg h a w).tap = h.tap := (rfl)
@[simp] theorem setReg_fuses (h : Hw) (a w : Nat) : (setReg h a w).fuses = h.fuses := (rfl)
@[simp] theorem setReg_pins (h : Hw) (a w : Nat) : (setReg h a w).pins = h.pins := (rfl)
@[simp] theorem setReg_boot (h : Hw) (a w : Nat) : (setReg h a w).boot = h.boot := (rfl)
@[simp] theorem setReg_links (h : Hw) (a w : Nat) : (setReg h a w).links = h.links := (rfl)
@[simp] theorem setReg_units (h : Hw) (a w : Nat) : (setReg h a w).units = h.units := (rfl)
@[simp] theorem setReg_fences (h : Hw) (a w : Nat) : (setReg h a w).fences = h.fences := (rfl)
@[simp] theorem setReg_log (h : Hw) (a w : Nat) : (setReg h a w).log = h.log := (rfl)
@[simp] theorem setReg_mgmt (h : Hw) (a w : Nat) : (setReg h a w).mgmt = h.mgmt := (rfl)
@[simp] theorem setReg_dict (h : Hw) (a w : Nat) : (setReg h a w).dict = h.dict := (rfl)
@[simp] theorem setReg_island (h : Hw) (a w : Nat) : (setReg h a w).island = h.island := (rfl)
@[simp] theorem setReg_carriages (h : Hw) (a w : Nat) : (setReg h a w).carriages = h.carriages := (rfl)
@[simp] theorem setReg_spindle (h : Hw) (a w : Nat) : (setReg h a w).spindle = h.spindle := (rfl)
@[simp] theorem setReg_drives (h : Hw) (a w : Nat) : (setReg h a w).drives = h.drives := (rfl)
@[simp] theorem setReg_portA (h : Hw) (a w : Nat) : (setReg h a w).portA = h.portA := (rfl)
@[simp] theorem setReg_portB (h : Hw) (a w : Nat) : (setReg h a w).portB = h.portB := (rfl)
@[simp] theorem setReg_engine (h : Hw) (a w : Nat) : (setReg h a w).engine = h.engine := (rfl)
@[simp] theorem setReg_buffer (h : Hw) (a w : Nat) : (setReg h a w).buffer = h.buffer := (rfl)
@[simp] theorem setReg_dma (h : Hw) (a w : Nat) : (setReg h a w).dma = h.dma := (rfl)
@[simp] theorem setReg_cores (h : Hw) (a w : Nat) : (setReg h a w).cores = h.cores := (rfl)
@[simp] theorem setReg_cluster (h : Hw) (a w : Nat) : (setReg h a w).cluster = h.cluster := (rfl)
@[simp] theorem setReg_cipher (h : Hw) (a w : Nat) : (setReg h a w).cipher = h.cipher := (rfl)
@[simp] theorem setReg_twin (h : Hw) (a w : Nat) : (setReg h a w).twin = h.twin := (rfl)
@[simp] theorem setReg_mem (h : Hw) (a w : Nat) : (setReg h a w).mem = h.mem := (rfl)
@[simp] theorem setReg_freeCtr (h : Hw) (a w : Nat) : (setReg h a w).freeCtr = h.freeCtr := (rfl)
@[simp] theorem setReg_out (h : Hw) (a w : Nat) : (setReg h a w).out = h.out := (rfl)

/-! `setF`. -/

@[simp] theorem setF_bridges (h : Hw) (f : Fld) (d v : Nat) : (setF h f d v).bridges = h.bridges := (rfl)
@[simp] theorem setF_tap (h : Hw) (f : Fld) (d v : Nat) : (setF h f d v).tap = h.tap := (rfl)
@[simp] theorem setF_fuses (h : Hw) (f : Fld) (d v : Nat) : (setF h f d v).fuses = h.fuses := (rfl)
@[simp] theorem setF_pins (h : Hw) (f : Fld) (d v : Nat) : (setF h f d v).pins = h.pins := (rfl)
@[simp] theorem setF_boot (h : Hw) (f : Fld) (d v : Nat) : (setF h f d v).boot = h.boot := (rfl)
@[simp] theorem setF_links (h : Hw) (f : Fld) (d v : Nat) : (setF h f d v).links = h.links := (rfl)
@[simp] theorem setF_units (h : Hw) (f : Fld) (d v : Nat) : (setF h f d v).units = h.units := (rfl)
@[simp] theorem setF_fences (h : Hw) (f : Fld) (d v : Nat) : (setF h f d v).fences = h.fences := (rfl)
@[simp] theorem setF_log (h : Hw) (f : Fld) (d v : Nat) : (setF h f d v).log = h.log := (rfl)
@[simp] theorem setF_mgmt (h : Hw) (f : Fld) (d v : Nat) : (setF h f d v).mgmt = h.mgmt := (rfl)
@[simp] theorem setF_dict (h : Hw) (f : Fld) (d v : Nat) : (setF h f d v).dict = h.dict := (rfl)
@[simp] theorem setF_island (h : Hw) (f : Fld) (d v : Nat) : (setF h f d v).island = h.island := (rfl)
@[simp] theorem setF_carriages (h : Hw) (f : Fld) (d v : Nat) : (setF h f d v).carriages = h.carriages := (rfl)
@[simp] theorem setF_spindle (h : Hw) (f : Fld) (d v : Nat) : (setF h f d v).spindle = h.spindle := (rfl)
@[simp] theorem setF_drives (h : Hw) (f : Fld) (d v : Nat) : (setF h f d v).drives = h.drives := (rfl)
@[simp] theorem setF_portA (h : Hw) (f : Fld) (d v : Nat) : (setF h f d v).portA = h.portA := (rfl)
@[simp] theorem setF_portB (h : Hw) (f : Fld) (d v : Nat) : (setF h f d v).portB = h.portB := (rfl)
@[simp] theorem setF_engine (h : Hw) (f : Fld) (d v : Nat) : (setF h f d v).engine = h.engine := (rfl)
@[simp] theorem setF_buffer (h : Hw) (f : Fld) (d v : Nat) : (setF h f d v).buffer = h.buffer := (rfl)
@[simp] theorem setF_dma (h : Hw) (f : Fld) (d v : Nat) : (setF h f d v).dma = h.dma := (rfl)
@[simp] theorem setF_cores (h : Hw) (f : Fld) (d v : Nat) : (setF h f d v).cores = h.cores := (rfl)
@[simp] theorem setF_cluster (h : Hw) (f : Fld) (d v : Nat) : (setF h f d v).cluster = h.cluster := (rfl)
@[simp] theorem setF_cipher (h : Hw) (f : Fld) (d v : Nat) : (setF h f d v).cipher = h.cipher := (rfl)
@[simp] theorem setF_twin (h : Hw) (f : Fld) (d v : Nat) : (setF h f d v).twin = h.twin := (rfl)
@[simp] theorem setF_mem (h : Hw) (f : Fld) (d v : Nat) : (setF h f d v).mem = h.mem := (rfl)
@[simp] theorem setF_freeCtr (h : Hw) (f : Fld) (d v : Nat) : (setF h f d v).freeCtr = h.freeCtr := (rfl)
@[simp] theorem setF_out (h : Hw) (f : Fld) (d v : Nat) : (setF h f d v).out = h.out := (rfl)

/-! `onCar`. -/

@[simp] theorem onCar_regs (h : Hw) (c : Nat) (f : Carriage → Carriage) : (onCar h c f).regs = h.regs := (rfl)
@[simp] theorem onCar_bridges (h : Hw) (c : Nat) (f : Carriage → Carriage) : (onCar h c f).bridges = h.bridges := (rfl)
@[simp] theorem onCar_tap (h : Hw) (c : Nat) (f : Carriage → Carriage) : (onCar h c f).tap = h.tap := (rfl)
@[simp] theorem onCar_fuses (h : Hw) (c : Nat) (f : Carriage → Carriage) : (onCar h c f).fuses = h.fuses := (rfl)
@[simp] theorem onCar_pins (h : Hw) (c : Nat) (f : Carriage → Carriage) : (onCar h c f).pins = h.pins := (rfl)
@[simp] theorem onCar_boot (h : Hw) (c : Nat) (f : Carriage → Carriage) : (onCar h c f).boot = h.boot := (rfl)
@[simp] theorem onCar_links (h : Hw) (c : Nat) (f : Carriage → Carriage) : (onCar h c f).links = h.links := (rfl)
@[simp] theorem onCar_units (h : Hw) (c : Nat) (f : Carriage → Carriage) : (onCar h c f).units = h.units := (rfl)
@[simp] theorem onCar_fences (h : Hw) (c : Nat) (f : Carriage → Carriage) : (onCar h c f).fences = h.fences := (rfl)
@[simp] theorem onCar_log (h : Hw) (c : Nat) (f : Carriage → Carriage) : (onCar h c f).log = h.log := (rfl)
@[simp] theorem onCar_mgmt (h : Hw) (c : Nat) (f : Carriage → Carriage) : (onCar h c f).mgmt = h.mgmt := (rfl)
@[simp] theorem onCar_dict (h : Hw) (c : Nat) (f : Carriage → Carriage) : (onCar h c f).dict = h.dict := (rfl)
@[simp] theorem onCar_island (h : Hw) (c : Nat) (f : Carriage → Carriage) : (onCar h c f).island = h.island := (rfl)
@[simp] theorem onCar_carriages (h : Hw) (c : Nat) (f : Carriage → Carriage) : (onCar h c f).carriages = h.carriages.set c (f (h.carriages.get c)) := (rfl)
@[simp] theorem onCar_spindle (h : Hw) (c : Nat) (f : Carriage → Carriage) : (onCar h c f).spindle = h.spindle := (rfl)
@[simp] theorem onCar_drives (h : Hw) (c : Nat) (f : Carriage → Carriage) : (onCar h c f).drives = h.drives := (rfl)
@[simp] theorem onCar_portA (h : Hw) (c : Nat) (f : Carriage → Carriage) : (onCar h c f).portA = h.portA := (rfl)
@[simp] theorem onCar_portB (h : Hw) (c : Nat) (f : Carriage → Carriage) : (onCar h c f).portB = h.portB := (rfl)
@[simp] theorem onCar_engine (h : Hw) (c : Nat) (f : Carriage → Carriage) : (onCar h c f).engine = h.engine := (rfl)
@[simp] theorem onCar_buffer (h : Hw) (c : Nat) (f : Carriage → Carriage) : (onCar h c f).buffer = h.buffer := (rfl)
@[simp] theorem onCar_dma (h : Hw) (c : Nat) (f : Carriage → Carriage) : (onCar h c f).dma = h.dma := (rfl)
@[simp] theorem onCar_cores (h : Hw) (c : Nat) (f : Carriage → Carriage) : (onCar h c f).cores = h.cores := (rfl)
@[simp] theorem onCar_cluster (h : Hw) (c : Nat) (f : Carriage → Carriage) : (onCar h c f).cluster = h.cluster := (rfl)
@[simp] theorem onCar_cipher (h : Hw) (c : Nat) (f : Carriage → Carriage) : (onCar h c f).cipher = h.cipher := (rfl)
@[simp] theorem onCar_twin (h : Hw) (c : Nat) (f : Carriage → Carriage) : (onCar h c f).twin = h.twin := (rfl)
@[simp] theorem onCar_mem (h : Hw) (c : Nat) (f : Carriage → Carriage) : (onCar h c f).mem = h.mem := (rfl)
@[simp] theorem onCar_freeCtr (h : Hw) (c : Nat) (f : Carriage → Carriage) : (onCar h c f).freeCtr = h.freeCtr := (rfl)
@[simp] theorem onCar_out (h : Hw) (c : Nat) (f : Carriage → Carriage) : (onCar h c f).out = h.out := (rfl)
@[simp] theorem onCar_getF (h : Hw) (c : Nat) (f : Carriage → Carriage) (g : Fld) (i : Nat) : getF (onCar h c f) g i = getF h g i := (rfl)
@[simp] theorem onCar_getReg (h : Hw) (c : Nat) (f : Carriage → Carriage) (g : Nat) : getReg (onCar h c f) g = getReg h g := (rfl)

/-! `onChan`. -/

@[simp] theorem onChan_regs (h : Hw) (c : Nat) (f : Channel → Channel) : (onChan h c f).regs = h.regs := (rfl)
@[simp] theorem onChan_bridges (h : Hw) (c : Nat) (f : Channel → Channel) : (onChan h c f).bridges = h.bridges := (rfl)
@[simp] theorem onChan_tap (h : Hw) (c : Nat) (f : Channel → Channel) : (onChan h c f).tap = h.tap := (rfl)
@[simp] theorem onChan_fuses (h : Hw) (c : Nat) (f : Channel → Channel) : (onChan h c f).fuses = h.fuses := (rfl)
@[simp] theorem onChan_pins (h : Hw) (c : Nat) (f : Channel → Channel) : (onChan h c f).pins = h.pins := (rfl)
@[simp] theorem onChan_boot (h : Hw) (c : Nat) (f : Channel → Channel) : (onChan h c f).boot = h.boot := (rfl)
@[simp] theorem onChan_links (h : Hw) (c : Nat) (f : Channel → Channel) : (onChan h c f).links = h.links := (rfl)
@[simp] theorem onChan_units (h : Hw) (c : Nat) (f : Channel → Channel) : (onChan h c f).units = h.units := (rfl)
@[simp] theorem onChan_fences (h : Hw) (c : Nat) (f : Channel → Channel) : (onChan h c f).fences = h.fences := (rfl)
@[simp] theorem onChan_log (h : Hw) (c : Nat) (f : Channel → Channel) : (onChan h c f).log = h.log := (rfl)
@[simp] theorem onChan_mgmt (h : Hw) (c : Nat) (f : Channel → Channel) : (onChan h c f).mgmt = h.mgmt := (rfl)
@[simp] theorem onChan_dict (h : Hw) (c : Nat) (f : Channel → Channel) : (onChan h c f).dict = h.dict := (rfl)
@[simp] theorem onChan_island (h : Hw) (c : Nat) (f : Channel → Channel) : (onChan h c f).island = h.island := (rfl)
@[simp] theorem onChan_spindle (h : Hw) (c : Nat) (f : Channel → Channel) : (onChan h c f).spindle = h.spindle := (rfl)
@[simp] theorem onChan_drives (h : Hw) (c : Nat) (f : Channel → Channel) : (onChan h c f).drives = h.drives := (rfl)
@[simp] theorem onChan_portA (h : Hw) (c : Nat) (f : Channel → Channel) : (onChan h c f).portA = h.portA := (rfl)
@[simp] theorem onChan_portB (h : Hw) (c : Nat) (f : Channel → Channel) : (onChan h c f).portB = h.portB := (rfl)
@[simp] theorem onChan_engine (h : Hw) (c : Nat) (f : Channel → Channel) : (onChan h c f).engine = h.engine := (rfl)
@[simp] theorem onChan_buffer (h : Hw) (c : Nat) (f : Channel → Channel) : (onChan h c f).buffer = h.buffer := (rfl)
@[simp] theorem onChan_dma (h : Hw) (c : Nat) (f : Channel → Channel) : (onChan h c f).dma = h.dma := (rfl)
@[simp] theorem onChan_cores (h : Hw) (c : Nat) (f : Channel → Channel) : (onChan h c f).cores = h.cores := (rfl)
@[simp] theorem onChan_cluster (h : Hw) (c : Nat) (f : Channel → Channel) : (onChan h c f).cluster = h.cluster := (rfl)
@[simp] theorem onChan_cipher (h : Hw) (c : Nat) (f : Channel → Channel) : (onChan h c f).cipher = h.cipher := (rfl)
@[simp] theorem onChan_twin (h : Hw) (c : Nat) (f : Channel → Channel) : (onChan h c f).twin = h.twin := (rfl)
@[simp] theorem onChan_mem (h : Hw) (c : Nat) (f : Channel → Channel) : (onChan h c f).mem = h.mem := (rfl)
@[simp] theorem onChan_freeCtr (h : Hw) (c : Nat) (f : Channel → Channel) : (onChan h c f).freeCtr = h.freeCtr := (rfl)
@[simp] theorem onChan_out (h : Hw) (c : Nat) (f : Channel → Channel) : (onChan h c f).out = h.out := (rfl)
@[simp] theorem onChan_getF (h : Hw) (c : Nat) (f : Channel → Channel) (g : Fld) (i : Nat) : getF (onChan h c f) g i = getF h g i := (rfl)
@[simp] theorem onChan_getReg (h : Hw) (c : Nat) (f : Channel → Channel) (g : Nat) : getReg (onChan h c f) g = getReg h g := (rfl)

/-! `onPath`. -/

@[simp] theorem onPath_regs (h : Hw) (c : Nat) (f : SectorPath → SectorPath) : (onPath h c f).regs = h.regs := (rfl)
@[simp] theorem onPath_bridges (h : Hw) (c : Nat) (f : SectorPath → SectorPath) : (onPath h c f).bridges = h.bridges := (rfl)
@[simp] theorem onPath_tap (h : Hw) (c : Nat) (f : SectorPath → SectorPath) : (onPath h c f).tap = h.tap := (rfl)
@[simp] theorem onPath_fuses (h : Hw) (c : Nat) (f : SectorPath → SectorPath) : (onPath h c f).fuses = h.fuses := (rfl)
@[simp] theorem onPath_pins (h : Hw) (c : Nat) (f : SectorPath → SectorPath) : (onPath h c f).pins = h.pins := (rfl)
@[simp] theorem onPath_boot (h : Hw) (c : Nat) (f : SectorPath → SectorPath) : (onPath h c f).boot = h.boot := (rfl)
@[simp] theorem onPath_links (h : Hw) (c : Nat) (f : SectorPath → SectorPath) : (onPath h c f).links = h.links := (rfl)
@[simp] theorem onPath_units (h : Hw) (c : Nat) (f : SectorPath → SectorPath) : (onPath h c f).units = h.units := (rfl)
@[simp] theorem onPath_fences (h : Hw) (c : Nat) (f : SectorPath → SectorPath) : (onPath h c f).fences = h.fences := (rfl)
@[simp] theorem onPath_log (h : Hw) (c : Nat) (f : SectorPath → SectorPath) : (onPath h c f).log = h.log := (rfl)
@[simp] theorem onPath_mgmt (h : Hw) (c : Nat) (f : SectorPath → SectorPath) : (onPath h c f).mgmt = h.mgmt := (rfl)
@[simp] theorem onPath_dict (h : Hw) (c : Nat) (f : SectorPath → SectorPath) : (onPath h c f).dict = h.dict := (rfl)
@[simp] theorem onPath_island (h : Hw) (c : Nat) (f : SectorPath → SectorPath) : (onPath h c f).island = h.island := (rfl)
@[simp] theorem onPath_spindle (h : Hw) (c : Nat) (f : SectorPath → SectorPath) : (onPath h c f).spindle = h.spindle := (rfl)
@[simp] theorem onPath_drives (h : Hw) (c : Nat) (f : SectorPath → SectorPath) : (onPath h c f).drives = h.drives := (rfl)
@[simp] theorem onPath_portA (h : Hw) (c : Nat) (f : SectorPath → SectorPath) : (onPath h c f).portA = h.portA := (rfl)
@[simp] theorem onPath_portB (h : Hw) (c : Nat) (f : SectorPath → SectorPath) : (onPath h c f).portB = h.portB := (rfl)
@[simp] theorem onPath_engine (h : Hw) (c : Nat) (f : SectorPath → SectorPath) : (onPath h c f).engine = h.engine := (rfl)
@[simp] theorem onPath_buffer (h : Hw) (c : Nat) (f : SectorPath → SectorPath) : (onPath h c f).buffer = h.buffer := (rfl)
@[simp] theorem onPath_dma (h : Hw) (c : Nat) (f : SectorPath → SectorPath) : (onPath h c f).dma = h.dma := (rfl)
@[simp] theorem onPath_cores (h : Hw) (c : Nat) (f : SectorPath → SectorPath) : (onPath h c f).cores = h.cores := (rfl)
@[simp] theorem onPath_cluster (h : Hw) (c : Nat) (f : SectorPath → SectorPath) : (onPath h c f).cluster = h.cluster := (rfl)
@[simp] theorem onPath_cipher (h : Hw) (c : Nat) (f : SectorPath → SectorPath) : (onPath h c f).cipher = h.cipher := (rfl)
@[simp] theorem onPath_twin (h : Hw) (c : Nat) (f : SectorPath → SectorPath) : (onPath h c f).twin = h.twin := (rfl)
@[simp] theorem onPath_mem (h : Hw) (c : Nat) (f : SectorPath → SectorPath) : (onPath h c f).mem = h.mem := (rfl)
@[simp] theorem onPath_freeCtr (h : Hw) (c : Nat) (f : SectorPath → SectorPath) : (onPath h c f).freeCtr = h.freeCtr := (rfl)
@[simp] theorem onPath_out (h : Hw) (c : Nat) (f : SectorPath → SectorPath) : (onPath h c f).out = h.out := (rfl)
@[simp] theorem onPath_getF (h : Hw) (c : Nat) (f : SectorPath → SectorPath) (g : Fld) (i : Nat) : getF (onPath h c f) g i = getF h g i := (rfl)
@[simp] theorem onPath_getReg (h : Hw) (c : Nat) (f : SectorPath → SectorPath) (g : Nat) : getReg (onPath h c f) g = getReg h g := (rfl)

/-! `onFmt`. -/

@[simp] theorem onFmt_regs (h : Hw) (c : Nat) (f : Formatter → Formatter) : (onFmt h c f).regs = h.regs := (rfl)
@[simp] theorem onFmt_bridges (h : Hw) (c : Nat) (f : Formatter → Formatter) : (onFmt h c f).bridges = h.bridges := (rfl)
@[simp] theorem onFmt_tap (h : Hw) (c : Nat) (f : Formatter → Formatter) : (onFmt h c f).tap = h.tap := (rfl)
@[simp] theorem onFmt_fuses (h : Hw) (c : Nat) (f : Formatter → Formatter) : (onFmt h c f).fuses = h.fuses := (rfl)
@[simp] theorem onFmt_pins (h : Hw) (c : Nat) (f : Formatter → Formatter) : (onFmt h c f).pins = h.pins := (rfl)
@[simp] theorem onFmt_boot (h : Hw) (c : Nat) (f : Formatter → Formatter) : (onFmt h c f).boot = h.boot := (rfl)
@[simp] theorem onFmt_links (h : Hw) (c : Nat) (f : Formatter → Formatter) : (onFmt h c f).links = h.links := (rfl)
@[simp] theorem onFmt_units (h : Hw) (c : Nat) (f : Formatter → Formatter) : (onFmt h c f).units = h.units := (rfl)
@[simp] theorem onFmt_fences (h : Hw) (c : Nat) (f : Formatter → Formatter) : (onFmt h c f).fences = h.fences := (rfl)
@[simp] theorem onFmt_log (h : Hw) (c : Nat) (f : Formatter → Formatter) : (onFmt h c f).log = h.log := (rfl)
@[simp] theorem onFmt_mgmt (h : Hw) (c : Nat) (f : Formatter → Formatter) : (onFmt h c f).mgmt = h.mgmt := (rfl)
@[simp] theorem onFmt_dict (h : Hw) (c : Nat) (f : Formatter → Formatter) : (onFmt h c f).dict = h.dict := (rfl)
@[simp] theorem onFmt_island (h : Hw) (c : Nat) (f : Formatter → Formatter) : (onFmt h c f).island = h.island := (rfl)
@[simp] theorem onFmt_spindle (h : Hw) (c : Nat) (f : Formatter → Formatter) : (onFmt h c f).spindle = h.spindle := (rfl)
@[simp] theorem onFmt_drives (h : Hw) (c : Nat) (f : Formatter → Formatter) : (onFmt h c f).drives = h.drives := (rfl)
@[simp] theorem onFmt_portA (h : Hw) (c : Nat) (f : Formatter → Formatter) : (onFmt h c f).portA = h.portA := (rfl)
@[simp] theorem onFmt_portB (h : Hw) (c : Nat) (f : Formatter → Formatter) : (onFmt h c f).portB = h.portB := (rfl)
@[simp] theorem onFmt_engine (h : Hw) (c : Nat) (f : Formatter → Formatter) : (onFmt h c f).engine = h.engine := (rfl)
@[simp] theorem onFmt_buffer (h : Hw) (c : Nat) (f : Formatter → Formatter) : (onFmt h c f).buffer = h.buffer := (rfl)
@[simp] theorem onFmt_dma (h : Hw) (c : Nat) (f : Formatter → Formatter) : (onFmt h c f).dma = h.dma := (rfl)
@[simp] theorem onFmt_cores (h : Hw) (c : Nat) (f : Formatter → Formatter) : (onFmt h c f).cores = h.cores := (rfl)
@[simp] theorem onFmt_cluster (h : Hw) (c : Nat) (f : Formatter → Formatter) : (onFmt h c f).cluster = h.cluster := (rfl)
@[simp] theorem onFmt_cipher (h : Hw) (c : Nat) (f : Formatter → Formatter) : (onFmt h c f).cipher = h.cipher := (rfl)
@[simp] theorem onFmt_twin (h : Hw) (c : Nat) (f : Formatter → Formatter) : (onFmt h c f).twin = h.twin := (rfl)
@[simp] theorem onFmt_mem (h : Hw) (c : Nat) (f : Formatter → Formatter) : (onFmt h c f).mem = h.mem := (rfl)
@[simp] theorem onFmt_freeCtr (h : Hw) (c : Nat) (f : Formatter → Formatter) : (onFmt h c f).freeCtr = h.freeCtr := (rfl)
@[simp] theorem onFmt_out (h : Hw) (c : Nat) (f : Formatter → Formatter) : (onFmt h c f).out = h.out := (rfl)
@[simp] theorem onFmt_getF (h : Hw) (c : Nat) (f : Formatter → Formatter) (g : Fld) (i : Nat) : getF (onFmt h c f) g i = getF h g i := (rfl)
@[simp] theorem onFmt_getReg (h : Hw) (c : Nat) (f : Formatter → Formatter) (g : Nat) : getReg (onFmt h c f) g = getReg h g := (rfl)

/-! `onServo`. -/

@[simp] theorem onServo_regs (h : Hw) (c : Nat) (f : Servo → Servo) : (onServo h c f).regs = h.regs := (rfl)
@[simp] theorem onServo_bridges (h : Hw) (c : Nat) (f : Servo → Servo) : (onServo h c f).bridges = h.bridges := (rfl)
@[simp] theorem onServo_tap (h : Hw) (c : Nat) (f : Servo → Servo) : (onServo h c f).tap = h.tap := (rfl)
@[simp] theorem onServo_fuses (h : Hw) (c : Nat) (f : Servo → Servo) : (onServo h c f).fuses = h.fuses := (rfl)
@[simp] theorem onServo_pins (h : Hw) (c : Nat) (f : Servo → Servo) : (onServo h c f).pins = h.pins := (rfl)
@[simp] theorem onServo_boot (h : Hw) (c : Nat) (f : Servo → Servo) : (onServo h c f).boot = h.boot := (rfl)
@[simp] theorem onServo_links (h : Hw) (c : Nat) (f : Servo → Servo) : (onServo h c f).links = h.links := (rfl)
@[simp] theorem onServo_units (h : Hw) (c : Nat) (f : Servo → Servo) : (onServo h c f).units = h.units := (rfl)
@[simp] theorem onServo_fences (h : Hw) (c : Nat) (f : Servo → Servo) : (onServo h c f).fences = h.fences := (rfl)
@[simp] theorem onServo_log (h : Hw) (c : Nat) (f : Servo → Servo) : (onServo h c f).log = h.log := (rfl)
@[simp] theorem onServo_mgmt (h : Hw) (c : Nat) (f : Servo → Servo) : (onServo h c f).mgmt = h.mgmt := (rfl)
@[simp] theorem onServo_dict (h : Hw) (c : Nat) (f : Servo → Servo) : (onServo h c f).dict = h.dict := (rfl)
@[simp] theorem onServo_island (h : Hw) (c : Nat) (f : Servo → Servo) : (onServo h c f).island = h.island := (rfl)
@[simp] theorem onServo_spindle (h : Hw) (c : Nat) (f : Servo → Servo) : (onServo h c f).spindle = h.spindle := (rfl)
@[simp] theorem onServo_drives (h : Hw) (c : Nat) (f : Servo → Servo) : (onServo h c f).drives = h.drives := (rfl)
@[simp] theorem onServo_portA (h : Hw) (c : Nat) (f : Servo → Servo) : (onServo h c f).portA = h.portA := (rfl)
@[simp] theorem onServo_portB (h : Hw) (c : Nat) (f : Servo → Servo) : (onServo h c f).portB = h.portB := (rfl)
@[simp] theorem onServo_engine (h : Hw) (c : Nat) (f : Servo → Servo) : (onServo h c f).engine = h.engine := (rfl)
@[simp] theorem onServo_buffer (h : Hw) (c : Nat) (f : Servo → Servo) : (onServo h c f).buffer = h.buffer := (rfl)
@[simp] theorem onServo_dma (h : Hw) (c : Nat) (f : Servo → Servo) : (onServo h c f).dma = h.dma := (rfl)
@[simp] theorem onServo_cores (h : Hw) (c : Nat) (f : Servo → Servo) : (onServo h c f).cores = h.cores := (rfl)
@[simp] theorem onServo_cluster (h : Hw) (c : Nat) (f : Servo → Servo) : (onServo h c f).cluster = h.cluster := (rfl)
@[simp] theorem onServo_cipher (h : Hw) (c : Nat) (f : Servo → Servo) : (onServo h c f).cipher = h.cipher := (rfl)
@[simp] theorem onServo_twin (h : Hw) (c : Nat) (f : Servo → Servo) : (onServo h c f).twin = h.twin := (rfl)
@[simp] theorem onServo_mem (h : Hw) (c : Nat) (f : Servo → Servo) : (onServo h c f).mem = h.mem := (rfl)
@[simp] theorem onServo_freeCtr (h : Hw) (c : Nat) (f : Servo → Servo) : (onServo h c f).freeCtr = h.freeCtr := (rfl)
@[simp] theorem onServo_out (h : Hw) (c : Nat) (f : Servo → Servo) : (onServo h c f).out = h.out := (rfl)
@[simp] theorem onServo_getF (h : Hw) (c : Nat) (f : Servo → Servo) (g : Fld) (i : Nat) : getF (onServo h c f) g i = getF h g i := (rfl)
@[simp] theorem onServo_getReg (h : Hw) (c : Nat) (f : Servo → Servo) (g : Nat) : getReg (onServo h c f) g = getReg h g := (rfl)

/-! `onCal`. -/

@[simp] theorem onCal_regs (h : Hw) (c : Nat) (f : Calib → Calib) : (onCal h c f).regs = h.regs := (rfl)
@[simp] theorem onCal_bridges (h : Hw) (c : Nat) (f : Calib → Calib) : (onCal h c f).bridges = h.bridges := (rfl)
@[simp] theorem onCal_tap (h : Hw) (c : Nat) (f : Calib → Calib) : (onCal h c f).tap = h.tap := (rfl)
@[simp] theorem onCal_fuses (h : Hw) (c : Nat) (f : Calib → Calib) : (onCal h c f).fuses = h.fuses := (rfl)
@[simp] theorem onCal_pins (h : Hw) (c : Nat) (f : Calib → Calib) : (onCal h c f).pins = h.pins := (rfl)
@[simp] theorem onCal_boot (h : Hw) (c : Nat) (f : Calib → Calib) : (onCal h c f).boot = h.boot := (rfl)
@[simp] theorem onCal_links (h : Hw) (c : Nat) (f : Calib → Calib) : (onCal h c f).links = h.links := (rfl)
@[simp] theorem onCal_units (h : Hw) (c : Nat) (f : Calib → Calib) : (onCal h c f).units = h.units := (rfl)
@[simp] theorem onCal_fences (h : Hw) (c : Nat) (f : Calib → Calib) : (onCal h c f).fences = h.fences := (rfl)
@[simp] theorem onCal_log (h : Hw) (c : Nat) (f : Calib → Calib) : (onCal h c f).log = h.log := (rfl)
@[simp] theorem onCal_mgmt (h : Hw) (c : Nat) (f : Calib → Calib) : (onCal h c f).mgmt = h.mgmt := (rfl)
@[simp] theorem onCal_dict (h : Hw) (c : Nat) (f : Calib → Calib) : (onCal h c f).dict = h.dict := (rfl)
@[simp] theorem onCal_island (h : Hw) (c : Nat) (f : Calib → Calib) : (onCal h c f).island = h.island := (rfl)
@[simp] theorem onCal_spindle (h : Hw) (c : Nat) (f : Calib → Calib) : (onCal h c f).spindle = h.spindle := (rfl)
@[simp] theorem onCal_drives (h : Hw) (c : Nat) (f : Calib → Calib) : (onCal h c f).drives = h.drives := (rfl)
@[simp] theorem onCal_portA (h : Hw) (c : Nat) (f : Calib → Calib) : (onCal h c f).portA = h.portA := (rfl)
@[simp] theorem onCal_portB (h : Hw) (c : Nat) (f : Calib → Calib) : (onCal h c f).portB = h.portB := (rfl)
@[simp] theorem onCal_engine (h : Hw) (c : Nat) (f : Calib → Calib) : (onCal h c f).engine = h.engine := (rfl)
@[simp] theorem onCal_buffer (h : Hw) (c : Nat) (f : Calib → Calib) : (onCal h c f).buffer = h.buffer := (rfl)
@[simp] theorem onCal_dma (h : Hw) (c : Nat) (f : Calib → Calib) : (onCal h c f).dma = h.dma := (rfl)
@[simp] theorem onCal_cores (h : Hw) (c : Nat) (f : Calib → Calib) : (onCal h c f).cores = h.cores := (rfl)
@[simp] theorem onCal_cluster (h : Hw) (c : Nat) (f : Calib → Calib) : (onCal h c f).cluster = h.cluster := (rfl)
@[simp] theorem onCal_cipher (h : Hw) (c : Nat) (f : Calib → Calib) : (onCal h c f).cipher = h.cipher := (rfl)
@[simp] theorem onCal_twin (h : Hw) (c : Nat) (f : Calib → Calib) : (onCal h c f).twin = h.twin := (rfl)
@[simp] theorem onCal_mem (h : Hw) (c : Nat) (f : Calib → Calib) : (onCal h c f).mem = h.mem := (rfl)
@[simp] theorem onCal_freeCtr (h : Hw) (c : Nat) (f : Calib → Calib) : (onCal h c f).freeCtr = h.freeCtr := (rfl)
@[simp] theorem onCal_out (h : Hw) (c : Nat) (f : Calib → Calib) : (onCal h c f).out = h.out := (rfl)
@[simp] theorem onCal_getF (h : Hw) (c : Nat) (f : Calib → Calib) (g : Fld) (i : Nat) : getF (onCal h c f) g i = getF h g i := (rfl)
@[simp] theorem onCal_getReg (h : Hw) (c : Nat) (f : Calib → Calib) (g : Nat) : getReg (onCal h c f) g = getReg h g := (rfl)

/-! `onDrive`. -/

@[simp] theorem onDrive_regs (h : Hw) (c : Nat) (f : Drive → Drive) : (onDrive h c f).regs = h.regs := (rfl)
@[simp] theorem onDrive_bridges (h : Hw) (c : Nat) (f : Drive → Drive) : (onDrive h c f).bridges = h.bridges := (rfl)
@[simp] theorem onDrive_tap (h : Hw) (c : Nat) (f : Drive → Drive) : (onDrive h c f).tap = h.tap := (rfl)
@[simp] theorem onDrive_fuses (h : Hw) (c : Nat) (f : Drive → Drive) : (onDrive h c f).fuses = h.fuses := (rfl)
@[simp] theorem onDrive_pins (h : Hw) (c : Nat) (f : Drive → Drive) : (onDrive h c f).pins = h.pins := (rfl)
@[simp] theorem onDrive_boot (h : Hw) (c : Nat) (f : Drive → Drive) : (onDrive h c f).boot = h.boot := (rfl)
@[simp] theorem onDrive_links (h : Hw) (c : Nat) (f : Drive → Drive) : (onDrive h c f).links = h.links := (rfl)
@[simp] theorem onDrive_units (h : Hw) (c : Nat) (f : Drive → Drive) : (onDrive h c f).units = h.units := (rfl)
@[simp] theorem onDrive_fences (h : Hw) (c : Nat) (f : Drive → Drive) : (onDrive h c f).fences = h.fences := (rfl)
@[simp] theorem onDrive_log (h : Hw) (c : Nat) (f : Drive → Drive) : (onDrive h c f).log = h.log := (rfl)
@[simp] theorem onDrive_mgmt (h : Hw) (c : Nat) (f : Drive → Drive) : (onDrive h c f).mgmt = h.mgmt := (rfl)
@[simp] theorem onDrive_dict (h : Hw) (c : Nat) (f : Drive → Drive) : (onDrive h c f).dict = h.dict := (rfl)
@[simp] theorem onDrive_island (h : Hw) (c : Nat) (f : Drive → Drive) : (onDrive h c f).island = h.island := (rfl)
@[simp] theorem onDrive_carriages (h : Hw) (c : Nat) (f : Drive → Drive) : (onDrive h c f).carriages = h.carriages := (rfl)
@[simp] theorem onDrive_spindle (h : Hw) (c : Nat) (f : Drive → Drive) : (onDrive h c f).spindle = h.spindle := (rfl)
@[simp] theorem onDrive_drives (h : Hw) (c : Nat) (f : Drive → Drive) : (onDrive h c f).drives = h.drives.set c (f (h.drives.get c)) := (rfl)
@[simp] theorem onDrive_portA (h : Hw) (c : Nat) (f : Drive → Drive) : (onDrive h c f).portA = h.portA := (rfl)
@[simp] theorem onDrive_portB (h : Hw) (c : Nat) (f : Drive → Drive) : (onDrive h c f).portB = h.portB := (rfl)
@[simp] theorem onDrive_engine (h : Hw) (c : Nat) (f : Drive → Drive) : (onDrive h c f).engine = h.engine := (rfl)
@[simp] theorem onDrive_buffer (h : Hw) (c : Nat) (f : Drive → Drive) : (onDrive h c f).buffer = h.buffer := (rfl)
@[simp] theorem onDrive_dma (h : Hw) (c : Nat) (f : Drive → Drive) : (onDrive h c f).dma = h.dma := (rfl)
@[simp] theorem onDrive_cores (h : Hw) (c : Nat) (f : Drive → Drive) : (onDrive h c f).cores = h.cores := (rfl)
@[simp] theorem onDrive_cluster (h : Hw) (c : Nat) (f : Drive → Drive) : (onDrive h c f).cluster = h.cluster := (rfl)
@[simp] theorem onDrive_cipher (h : Hw) (c : Nat) (f : Drive → Drive) : (onDrive h c f).cipher = h.cipher := (rfl)
@[simp] theorem onDrive_twin (h : Hw) (c : Nat) (f : Drive → Drive) : (onDrive h c f).twin = h.twin := (rfl)
@[simp] theorem onDrive_mem (h : Hw) (c : Nat) (f : Drive → Drive) : (onDrive h c f).mem = h.mem := (rfl)
@[simp] theorem onDrive_freeCtr (h : Hw) (c : Nat) (f : Drive → Drive) : (onDrive h c f).freeCtr = h.freeCtr := (rfl)
@[simp] theorem onDrive_out (h : Hw) (c : Nat) (f : Drive → Drive) : (onDrive h c f).out = h.out := (rfl)
@[simp] theorem onDrive_getF (h : Hw) (c : Nat) (f : Drive → Drive) (g : Fld) (i : Nat) : getF (onDrive h c f) g i = getF h g i := (rfl)
@[simp] theorem onDrive_getReg (h : Hw) (c : Nat) (f : Drive → Drive) (g : Nat) : getReg (onDrive h c f) g = getReg h g := (rfl)

/-! `onEngine`. -/

@[simp] theorem onEngine_regs (h : Hw) (f : Engine → Engine) : (onEngine h f).regs = h.regs := (rfl)
@[simp] theorem onEngine_bridges (h : Hw) (f : Engine → Engine) : (onEngine h f).bridges = h.bridges := (rfl)
@[simp] theorem onEngine_tap (h : Hw) (f : Engine → Engine) : (onEngine h f).tap = h.tap := (rfl)
@[simp] theorem onEngine_fuses (h : Hw) (f : Engine → Engine) : (onEngine h f).fuses = h.fuses := (rfl)
@[simp] theorem onEngine_pins (h : Hw) (f : Engine → Engine) : (onEngine h f).pins = h.pins := (rfl)
@[simp] theorem onEngine_boot (h : Hw) (f : Engine → Engine) : (onEngine h f).boot = h.boot := (rfl)
@[simp] theorem onEngine_links (h : Hw) (f : Engine → Engine) : (onEngine h f).links = h.links := (rfl)
@[simp] theorem onEngine_units (h : Hw) (f : Engine → Engine) : (onEngine h f).units = h.units := (rfl)
@[simp] theorem onEngine_fences (h : Hw) (f : Engine → Engine) : (onEngine h f).fences = h.fences := (rfl)
@[simp] theorem onEngine_log (h : Hw) (f : Engine → Engine) : (onEngine h f).log = h.log := (rfl)
@[simp] theorem onEngine_mgmt (h : Hw) (f : Engine → Engine) : (onEngine h f).mgmt = h.mgmt := (rfl)
@[simp] theorem onEngine_dict (h : Hw) (f : Engine → Engine) : (onEngine h f).dict = h.dict := (rfl)
@[simp] theorem onEngine_island (h : Hw) (f : Engine → Engine) : (onEngine h f).island = h.island := (rfl)
@[simp] theorem onEngine_carriages (h : Hw) (f : Engine → Engine) : (onEngine h f).carriages = h.carriages := (rfl)
@[simp] theorem onEngine_spindle (h : Hw) (f : Engine → Engine) : (onEngine h f).spindle = h.spindle := (rfl)
@[simp] theorem onEngine_drives (h : Hw) (f : Engine → Engine) : (onEngine h f).drives = h.drives := (rfl)
@[simp] theorem onEngine_portA (h : Hw) (f : Engine → Engine) : (onEngine h f).portA = h.portA := (rfl)
@[simp] theorem onEngine_portB (h : Hw) (f : Engine → Engine) : (onEngine h f).portB = h.portB := (rfl)
@[simp] theorem onEngine_engine (h : Hw) (f : Engine → Engine) : (onEngine h f).engine = f h.engine := (rfl)
@[simp] theorem onEngine_buffer (h : Hw) (f : Engine → Engine) : (onEngine h f).buffer = h.buffer := (rfl)
@[simp] theorem onEngine_dma (h : Hw) (f : Engine → Engine) : (onEngine h f).dma = h.dma := (rfl)
@[simp] theorem onEngine_cores (h : Hw) (f : Engine → Engine) : (onEngine h f).cores = h.cores := (rfl)
@[simp] theorem onEngine_cluster (h : Hw) (f : Engine → Engine) : (onEngine h f).cluster = h.cluster := (rfl)
@[simp] theorem onEngine_cipher (h : Hw) (f : Engine → Engine) : (onEngine h f).cipher = h.cipher := (rfl)
@[simp] theorem onEngine_twin (h : Hw) (f : Engine → Engine) : (onEngine h f).twin = h.twin := (rfl)
@[simp] theorem onEngine_mem (h : Hw) (f : Engine → Engine) : (onEngine h f).mem = h.mem := (rfl)
@[simp] theorem onEngine_freeCtr (h : Hw) (f : Engine → Engine) : (onEngine h f).freeCtr = h.freeCtr := (rfl)
@[simp] theorem onEngine_out (h : Hw) (f : Engine → Engine) : (onEngine h f).out = h.out := (rfl)
@[simp] theorem onEngine_getF (h : Hw) (f : Engine → Engine) (g : Fld) (i : Nat) : getF (onEngine h f) g i = getF h g i := (rfl)
@[simp] theorem onEngine_getReg (h : Hw) (f : Engine → Engine) (g : Nat) : getReg (onEngine h f) g = getReg h g := (rfl)

/-! `onTwin`. -/

@[simp] theorem onTwin_regs (h : Hw) (f : Twin → Twin) : (onTwin h f).regs = h.regs := (rfl)
@[simp] theorem onTwin_bridges (h : Hw) (f : Twin → Twin) : (onTwin h f).bridges = h.bridges := (rfl)
@[simp] theorem onTwin_tap (h : Hw) (f : Twin → Twin) : (onTwin h f).tap = h.tap := (rfl)
@[simp] theorem onTwin_fuses (h : Hw) (f : Twin → Twin) : (onTwin h f).fuses = h.fuses := (rfl)
@[simp] theorem onTwin_pins (h : Hw) (f : Twin → Twin) : (onTwin h f).pins = h.pins := (rfl)
@[simp] theorem onTwin_boot (h : Hw) (f : Twin → Twin) : (onTwin h f).boot = h.boot := (rfl)
@[simp] theorem onTwin_links (h : Hw) (f : Twin → Twin) : (onTwin h f).links = h.links := (rfl)
@[simp] theorem onTwin_units (h : Hw) (f : Twin → Twin) : (onTwin h f).units = h.units := (rfl)
@[simp] theorem onTwin_fences (h : Hw) (f : Twin → Twin) : (onTwin h f).fences = h.fences := (rfl)
@[simp] theorem onTwin_log (h : Hw) (f : Twin → Twin) : (onTwin h f).log = h.log := (rfl)
@[simp] theorem onTwin_mgmt (h : Hw) (f : Twin → Twin) : (onTwin h f).mgmt = h.mgmt := (rfl)
@[simp] theorem onTwin_dict (h : Hw) (f : Twin → Twin) : (onTwin h f).dict = h.dict := (rfl)
@[simp] theorem onTwin_island (h : Hw) (f : Twin → Twin) : (onTwin h f).island = h.island := (rfl)
@[simp] theorem onTwin_carriages (h : Hw) (f : Twin → Twin) : (onTwin h f).carriages = h.carriages := (rfl)
@[simp] theorem onTwin_spindle (h : Hw) (f : Twin → Twin) : (onTwin h f).spindle = h.spindle := (rfl)
@[simp] theorem onTwin_drives (h : Hw) (f : Twin → Twin) : (onTwin h f).drives = h.drives := (rfl)
@[simp] theorem onTwin_portA (h : Hw) (f : Twin → Twin) : (onTwin h f).portA = h.portA := (rfl)
@[simp] theorem onTwin_portB (h : Hw) (f : Twin → Twin) : (onTwin h f).portB = h.portB := (rfl)
@[simp] theorem onTwin_engine (h : Hw) (f : Twin → Twin) : (onTwin h f).engine = h.engine := (rfl)
@[simp] theorem onTwin_buffer (h : Hw) (f : Twin → Twin) : (onTwin h f).buffer = h.buffer := (rfl)
@[simp] theorem onTwin_dma (h : Hw) (f : Twin → Twin) : (onTwin h f).dma = h.dma := (rfl)
@[simp] theorem onTwin_cores (h : Hw) (f : Twin → Twin) : (onTwin h f).cores = h.cores := (rfl)
@[simp] theorem onTwin_cluster (h : Hw) (f : Twin → Twin) : (onTwin h f).cluster = h.cluster := (rfl)
@[simp] theorem onTwin_cipher (h : Hw) (f : Twin → Twin) : (onTwin h f).cipher = h.cipher := (rfl)
@[simp] theorem onTwin_twin (h : Hw) (f : Twin → Twin) : (onTwin h f).twin = f h.twin := (rfl)
@[simp] theorem onTwin_mem (h : Hw) (f : Twin → Twin) : (onTwin h f).mem = h.mem := (rfl)
@[simp] theorem onTwin_freeCtr (h : Hw) (f : Twin → Twin) : (onTwin h f).freeCtr = h.freeCtr := (rfl)
@[simp] theorem onTwin_out (h : Hw) (f : Twin → Twin) : (onTwin h f).out = h.out := (rfl)
@[simp] theorem onTwin_getF (h : Hw) (f : Twin → Twin) (g : Fld) (i : Nat) : getF (onTwin h f) g i = getF h g i := (rfl)
@[simp] theorem onTwin_getReg (h : Hw) (f : Twin → Twin) (g : Nat) : getReg (onTwin h f) g = getReg h g := (rfl)

/-! `onCipher`. -/

@[simp] theorem onCipher_regs (h : Hw) (f : Cipher → Cipher) : (onCipher h f).regs = h.regs := (rfl)
@[simp] theorem onCipher_bridges (h : Hw) (f : Cipher → Cipher) : (onCipher h f).bridges = h.bridges := (rfl)
@[simp] theorem onCipher_tap (h : Hw) (f : Cipher → Cipher) : (onCipher h f).tap = h.tap := (rfl)
@[simp] theorem onCipher_fuses (h : Hw) (f : Cipher → Cipher) : (onCipher h f).fuses = h.fuses := (rfl)
@[simp] theorem onCipher_pins (h : Hw) (f : Cipher → Cipher) : (onCipher h f).pins = h.pins := (rfl)
@[simp] theorem onCipher_boot (h : Hw) (f : Cipher → Cipher) : (onCipher h f).boot = h.boot := (rfl)
@[simp] theorem onCipher_links (h : Hw) (f : Cipher → Cipher) : (onCipher h f).links = h.links := (rfl)
@[simp] theorem onCipher_units (h : Hw) (f : Cipher → Cipher) : (onCipher h f).units = h.units := (rfl)
@[simp] theorem onCipher_fences (h : Hw) (f : Cipher → Cipher) : (onCipher h f).fences = h.fences := (rfl)
@[simp] theorem onCipher_log (h : Hw) (f : Cipher → Cipher) : (onCipher h f).log = h.log := (rfl)
@[simp] theorem onCipher_mgmt (h : Hw) (f : Cipher → Cipher) : (onCipher h f).mgmt = h.mgmt := (rfl)
@[simp] theorem onCipher_dict (h : Hw) (f : Cipher → Cipher) : (onCipher h f).dict = h.dict := (rfl)
@[simp] theorem onCipher_island (h : Hw) (f : Cipher → Cipher) : (onCipher h f).island = h.island := (rfl)
@[simp] theorem onCipher_carriages (h : Hw) (f : Cipher → Cipher) : (onCipher h f).carriages = h.carriages := (rfl)
@[simp] theorem onCipher_spindle (h : Hw) (f : Cipher → Cipher) : (onCipher h f).spindle = h.spindle := (rfl)
@[simp] theorem onCipher_drives (h : Hw) (f : Cipher → Cipher) : (onCipher h f).drives = h.drives := (rfl)
@[simp] theorem onCipher_portA (h : Hw) (f : Cipher → Cipher) : (onCipher h f).portA = h.portA := (rfl)
@[simp] theorem onCipher_portB (h : Hw) (f : Cipher → Cipher) : (onCipher h f).portB = h.portB := (rfl)
@[simp] theorem onCipher_engine (h : Hw) (f : Cipher → Cipher) : (onCipher h f).engine = h.engine := (rfl)
@[simp] theorem onCipher_buffer (h : Hw) (f : Cipher → Cipher) : (onCipher h f).buffer = h.buffer := (rfl)
@[simp] theorem onCipher_dma (h : Hw) (f : Cipher → Cipher) : (onCipher h f).dma = h.dma := (rfl)
@[simp] theorem onCipher_cores (h : Hw) (f : Cipher → Cipher) : (onCipher h f).cores = h.cores := (rfl)
@[simp] theorem onCipher_cluster (h : Hw) (f : Cipher → Cipher) : (onCipher h f).cluster = h.cluster := (rfl)
@[simp] theorem onCipher_cipher (h : Hw) (f : Cipher → Cipher) : (onCipher h f).cipher = f h.cipher := (rfl)
@[simp] theorem onCipher_twin (h : Hw) (f : Cipher → Cipher) : (onCipher h f).twin = h.twin := (rfl)
@[simp] theorem onCipher_mem (h : Hw) (f : Cipher → Cipher) : (onCipher h f).mem = h.mem := (rfl)
@[simp] theorem onCipher_freeCtr (h : Hw) (f : Cipher → Cipher) : (onCipher h f).freeCtr = h.freeCtr := (rfl)
@[simp] theorem onCipher_out (h : Hw) (f : Cipher → Cipher) : (onCipher h f).out = h.out := (rfl)
@[simp] theorem onCipher_getF (h : Hw) (f : Cipher → Cipher) (g : Fld) (i : Nat) : getF (onCipher h f) g i = getF h g i := (rfl)
@[simp] theorem onCipher_getReg (h : Hw) (f : Cipher → Cipher) (g : Nat) : getReg (onCipher h f) g = getReg h g := (rfl)

/-! `onLog`. -/

@[simp] theorem onLog_regs (h : Hw) (f : Recorder → Recorder) : (onLog h f).regs = h.regs := (rfl)
@[simp] theorem onLog_bridges (h : Hw) (f : Recorder → Recorder) : (onLog h f).bridges = h.bridges := (rfl)
@[simp] theorem onLog_tap (h : Hw) (f : Recorder → Recorder) : (onLog h f).tap = h.tap := (rfl)
@[simp] theorem onLog_fuses (h : Hw) (f : Recorder → Recorder) : (onLog h f).fuses = h.fuses := (rfl)
@[simp] theorem onLog_pins (h : Hw) (f : Recorder → Recorder) : (onLog h f).pins = h.pins := (rfl)
@[simp] theorem onLog_boot (h : Hw) (f : Recorder → Recorder) : (onLog h f).boot = h.boot := (rfl)
@[simp] theorem onLog_links (h : Hw) (f : Recorder → Recorder) : (onLog h f).links = h.links := (rfl)
@[simp] theorem onLog_units (h : Hw) (f : Recorder → Recorder) : (onLog h f).units = h.units := (rfl)
@[simp] theorem onLog_fences (h : Hw) (f : Recorder → Recorder) : (onLog h f).fences = h.fences := (rfl)
@[simp] theorem onLog_log (h : Hw) (f : Recorder → Recorder) : (onLog h f).log = f h.log := (rfl)
@[simp] theorem onLog_mgmt (h : Hw) (f : Recorder → Recorder) : (onLog h f).mgmt = h.mgmt := (rfl)
@[simp] theorem onLog_dict (h : Hw) (f : Recorder → Recorder) : (onLog h f).dict = h.dict := (rfl)
@[simp] theorem onLog_island (h : Hw) (f : Recorder → Recorder) : (onLog h f).island = h.island := (rfl)
@[simp] theorem onLog_carriages (h : Hw) (f : Recorder → Recorder) : (onLog h f).carriages = h.carriages := (rfl)
@[simp] theorem onLog_spindle (h : Hw) (f : Recorder → Recorder) : (onLog h f).spindle = h.spindle := (rfl)
@[simp] theorem onLog_drives (h : Hw) (f : Recorder → Recorder) : (onLog h f).drives = h.drives := (rfl)
@[simp] theorem onLog_portA (h : Hw) (f : Recorder → Recorder) : (onLog h f).portA = h.portA := (rfl)
@[simp] theorem onLog_portB (h : Hw) (f : Recorder → Recorder) : (onLog h f).portB = h.portB := (rfl)
@[simp] theorem onLog_engine (h : Hw) (f : Recorder → Recorder) : (onLog h f).engine = h.engine := (rfl)
@[simp] theorem onLog_buffer (h : Hw) (f : Recorder → Recorder) : (onLog h f).buffer = h.buffer := (rfl)
@[simp] theorem onLog_dma (h : Hw) (f : Recorder → Recorder) : (onLog h f).dma = h.dma := (rfl)
@[simp] theorem onLog_cores (h : Hw) (f : Recorder → Recorder) : (onLog h f).cores = h.cores := (rfl)
@[simp] theorem onLog_cluster (h : Hw) (f : Recorder → Recorder) : (onLog h f).cluster = h.cluster := (rfl)
@[simp] theorem onLog_cipher (h : Hw) (f : Recorder → Recorder) : (onLog h f).cipher = h.cipher := (rfl)
@[simp] theorem onLog_twin (h : Hw) (f : Recorder → Recorder) : (onLog h f).twin = h.twin := (rfl)
@[simp] theorem onLog_mem (h : Hw) (f : Recorder → Recorder) : (onLog h f).mem = h.mem := (rfl)
@[simp] theorem onLog_freeCtr (h : Hw) (f : Recorder → Recorder) : (onLog h f).freeCtr = h.freeCtr := (rfl)
@[simp] theorem onLog_out (h : Hw) (f : Recorder → Recorder) : (onLog h f).out = h.out := (rfl)
@[simp] theorem onLog_getF (h : Hw) (f : Recorder → Recorder) (g : Fld) (i : Nat) : getF (onLog h f) g i = getF h g i := (rfl)
@[simp] theorem onLog_getReg (h : Hw) (f : Recorder → Recorder) (g : Nat) : getReg (onLog h f) g = getReg h g := (rfl)

/-! `onMgmt`. -/

@[simp] theorem onMgmt_regs (h : Hw) (f : Mgmt → Mgmt) : (onMgmt h f).regs = h.regs := (rfl)
@[simp] theorem onMgmt_bridges (h : Hw) (f : Mgmt → Mgmt) : (onMgmt h f).bridges = h.bridges := (rfl)
@[simp] theorem onMgmt_tap (h : Hw) (f : Mgmt → Mgmt) : (onMgmt h f).tap = h.tap := (rfl)
@[simp] theorem onMgmt_fuses (h : Hw) (f : Mgmt → Mgmt) : (onMgmt h f).fuses = h.fuses := (rfl)
@[simp] theorem onMgmt_pins (h : Hw) (f : Mgmt → Mgmt) : (onMgmt h f).pins = h.pins := (rfl)
@[simp] theorem onMgmt_boot (h : Hw) (f : Mgmt → Mgmt) : (onMgmt h f).boot = h.boot := (rfl)
@[simp] theorem onMgmt_links (h : Hw) (f : Mgmt → Mgmt) : (onMgmt h f).links = h.links := (rfl)
@[simp] theorem onMgmt_units (h : Hw) (f : Mgmt → Mgmt) : (onMgmt h f).units = h.units := (rfl)
@[simp] theorem onMgmt_fences (h : Hw) (f : Mgmt → Mgmt) : (onMgmt h f).fences = h.fences := (rfl)
@[simp] theorem onMgmt_log (h : Hw) (f : Mgmt → Mgmt) : (onMgmt h f).log = h.log := (rfl)
@[simp] theorem onMgmt_mgmt (h : Hw) (f : Mgmt → Mgmt) : (onMgmt h f).mgmt = f h.mgmt := (rfl)
@[simp] theorem onMgmt_dict (h : Hw) (f : Mgmt → Mgmt) : (onMgmt h f).dict = h.dict := (rfl)
@[simp] theorem onMgmt_island (h : Hw) (f : Mgmt → Mgmt) : (onMgmt h f).island = h.island := (rfl)
@[simp] theorem onMgmt_carriages (h : Hw) (f : Mgmt → Mgmt) : (onMgmt h f).carriages = h.carriages := (rfl)
@[simp] theorem onMgmt_spindle (h : Hw) (f : Mgmt → Mgmt) : (onMgmt h f).spindle = h.spindle := (rfl)
@[simp] theorem onMgmt_drives (h : Hw) (f : Mgmt → Mgmt) : (onMgmt h f).drives = h.drives := (rfl)
@[simp] theorem onMgmt_portA (h : Hw) (f : Mgmt → Mgmt) : (onMgmt h f).portA = h.portA := (rfl)
@[simp] theorem onMgmt_portB (h : Hw) (f : Mgmt → Mgmt) : (onMgmt h f).portB = h.portB := (rfl)
@[simp] theorem onMgmt_engine (h : Hw) (f : Mgmt → Mgmt) : (onMgmt h f).engine = h.engine := (rfl)
@[simp] theorem onMgmt_buffer (h : Hw) (f : Mgmt → Mgmt) : (onMgmt h f).buffer = h.buffer := (rfl)
@[simp] theorem onMgmt_dma (h : Hw) (f : Mgmt → Mgmt) : (onMgmt h f).dma = h.dma := (rfl)
@[simp] theorem onMgmt_cores (h : Hw) (f : Mgmt → Mgmt) : (onMgmt h f).cores = h.cores := (rfl)
@[simp] theorem onMgmt_cluster (h : Hw) (f : Mgmt → Mgmt) : (onMgmt h f).cluster = h.cluster := (rfl)
@[simp] theorem onMgmt_cipher (h : Hw) (f : Mgmt → Mgmt) : (onMgmt h f).cipher = h.cipher := (rfl)
@[simp] theorem onMgmt_twin (h : Hw) (f : Mgmt → Mgmt) : (onMgmt h f).twin = h.twin := (rfl)
@[simp] theorem onMgmt_mem (h : Hw) (f : Mgmt → Mgmt) : (onMgmt h f).mem = h.mem := (rfl)
@[simp] theorem onMgmt_freeCtr (h : Hw) (f : Mgmt → Mgmt) : (onMgmt h f).freeCtr = h.freeCtr := (rfl)
@[simp] theorem onMgmt_out (h : Hw) (f : Mgmt → Mgmt) : (onMgmt h f).out = h.out := (rfl)
@[simp] theorem onMgmt_getF (h : Hw) (f : Mgmt → Mgmt) (g : Fld) (i : Nat) : getF (onMgmt h f) g i = getF h g i := (rfl)
@[simp] theorem onMgmt_getReg (h : Hw) (f : Mgmt → Mgmt) (g : Nat) : getReg (onMgmt h f) g = getReg h g := (rfl)

/-! `onBoot`. -/

@[simp] theorem onBoot_regs (h : Hw) (f : Boot → Boot) : (onBoot h f).regs = h.regs := (rfl)
@[simp] theorem onBoot_bridges (h : Hw) (f : Boot → Boot) : (onBoot h f).bridges = h.bridges := (rfl)
@[simp] theorem onBoot_tap (h : Hw) (f : Boot → Boot) : (onBoot h f).tap = h.tap := (rfl)
@[simp] theorem onBoot_fuses (h : Hw) (f : Boot → Boot) : (onBoot h f).fuses = h.fuses := (rfl)
@[simp] theorem onBoot_pins (h : Hw) (f : Boot → Boot) : (onBoot h f).pins = h.pins := (rfl)
@[simp] theorem onBoot_boot (h : Hw) (f : Boot → Boot) : (onBoot h f).boot = f h.boot := (rfl)
@[simp] theorem onBoot_links (h : Hw) (f : Boot → Boot) : (onBoot h f).links = h.links := (rfl)
@[simp] theorem onBoot_units (h : Hw) (f : Boot → Boot) : (onBoot h f).units = h.units := (rfl)
@[simp] theorem onBoot_fences (h : Hw) (f : Boot → Boot) : (onBoot h f).fences = h.fences := (rfl)
@[simp] theorem onBoot_log (h : Hw) (f : Boot → Boot) : (onBoot h f).log = h.log := (rfl)
@[simp] theorem onBoot_mgmt (h : Hw) (f : Boot → Boot) : (onBoot h f).mgmt = h.mgmt := (rfl)
@[simp] theorem onBoot_dict (h : Hw) (f : Boot → Boot) : (onBoot h f).dict = h.dict := (rfl)
@[simp] theorem onBoot_island (h : Hw) (f : Boot → Boot) : (onBoot h f).island = h.island := (rfl)
@[simp] theorem onBoot_carriages (h : Hw) (f : Boot → Boot) : (onBoot h f).carriages = h.carriages := (rfl)
@[simp] theorem onBoot_spindle (h : Hw) (f : Boot → Boot) : (onBoot h f).spindle = h.spindle := (rfl)
@[simp] theorem onBoot_drives (h : Hw) (f : Boot → Boot) : (onBoot h f).drives = h.drives := (rfl)
@[simp] theorem onBoot_portA (h : Hw) (f : Boot → Boot) : (onBoot h f).portA = h.portA := (rfl)
@[simp] theorem onBoot_portB (h : Hw) (f : Boot → Boot) : (onBoot h f).portB = h.portB := (rfl)
@[simp] theorem onBoot_engine (h : Hw) (f : Boot → Boot) : (onBoot h f).engine = h.engine := (rfl)
@[simp] theorem onBoot_buffer (h : Hw) (f : Boot → Boot) : (onBoot h f).buffer = h.buffer := (rfl)
@[simp] theorem onBoot_dma (h : Hw) (f : Boot → Boot) : (onBoot h f).dma = h.dma := (rfl)
@[simp] theorem onBoot_cores (h : Hw) (f : Boot → Boot) : (onBoot h f).cores = h.cores := (rfl)
@[simp] theorem onBoot_cluster (h : Hw) (f : Boot → Boot) : (onBoot h f).cluster = h.cluster := (rfl)
@[simp] theorem onBoot_cipher (h : Hw) (f : Boot → Boot) : (onBoot h f).cipher = h.cipher := (rfl)
@[simp] theorem onBoot_twin (h : Hw) (f : Boot → Boot) : (onBoot h f).twin = h.twin := (rfl)
@[simp] theorem onBoot_mem (h : Hw) (f : Boot → Boot) : (onBoot h f).mem = h.mem := (rfl)
@[simp] theorem onBoot_freeCtr (h : Hw) (f : Boot → Boot) : (onBoot h f).freeCtr = h.freeCtr := (rfl)
@[simp] theorem onBoot_out (h : Hw) (f : Boot → Boot) : (onBoot h f).out = h.out := (rfl)
@[simp] theorem onBoot_getF (h : Hw) (f : Boot → Boot) (g : Fld) (i : Nat) : getF (onBoot h f) g i = getF h g i := (rfl)
@[simp] theorem onBoot_getReg (h : Hw) (f : Boot → Boot) (g : Nat) : getReg (onBoot h f) g = getReg h g := (rfl)

/-! `onIsland`. -/

@[simp] theorem onIsland_regs (h : Hw) (f : Island → Island) : (onIsland h f).regs = h.regs := (rfl)
@[simp] theorem onIsland_bridges (h : Hw) (f : Island → Island) : (onIsland h f).bridges = h.bridges := (rfl)
@[simp] theorem onIsland_tap (h : Hw) (f : Island → Island) : (onIsland h f).tap = h.tap := (rfl)
@[simp] theorem onIsland_fuses (h : Hw) (f : Island → Island) : (onIsland h f).fuses = h.fuses := (rfl)
@[simp] theorem onIsland_pins (h : Hw) (f : Island → Island) : (onIsland h f).pins = h.pins := (rfl)
@[simp] theorem onIsland_boot (h : Hw) (f : Island → Island) : (onIsland h f).boot = h.boot := (rfl)
@[simp] theorem onIsland_links (h : Hw) (f : Island → Island) : (onIsland h f).links = h.links := (rfl)
@[simp] theorem onIsland_units (h : Hw) (f : Island → Island) : (onIsland h f).units = h.units := (rfl)
@[simp] theorem onIsland_fences (h : Hw) (f : Island → Island) : (onIsland h f).fences = h.fences := (rfl)
@[simp] theorem onIsland_log (h : Hw) (f : Island → Island) : (onIsland h f).log = h.log := (rfl)
@[simp] theorem onIsland_mgmt (h : Hw) (f : Island → Island) : (onIsland h f).mgmt = h.mgmt := (rfl)
@[simp] theorem onIsland_dict (h : Hw) (f : Island → Island) : (onIsland h f).dict = h.dict := (rfl)
@[simp] theorem onIsland_island (h : Hw) (f : Island → Island) : (onIsland h f).island = f h.island := (rfl)
@[simp] theorem onIsland_carriages (h : Hw) (f : Island → Island) : (onIsland h f).carriages = h.carriages := (rfl)
@[simp] theorem onIsland_spindle (h : Hw) (f : Island → Island) : (onIsland h f).spindle = h.spindle := (rfl)
@[simp] theorem onIsland_drives (h : Hw) (f : Island → Island) : (onIsland h f).drives = h.drives := (rfl)
@[simp] theorem onIsland_portA (h : Hw) (f : Island → Island) : (onIsland h f).portA = h.portA := (rfl)
@[simp] theorem onIsland_portB (h : Hw) (f : Island → Island) : (onIsland h f).portB = h.portB := (rfl)
@[simp] theorem onIsland_engine (h : Hw) (f : Island → Island) : (onIsland h f).engine = h.engine := (rfl)
@[simp] theorem onIsland_buffer (h : Hw) (f : Island → Island) : (onIsland h f).buffer = h.buffer := (rfl)
@[simp] theorem onIsland_dma (h : Hw) (f : Island → Island) : (onIsland h f).dma = h.dma := (rfl)
@[simp] theorem onIsland_cores (h : Hw) (f : Island → Island) : (onIsland h f).cores = h.cores := (rfl)
@[simp] theorem onIsland_cluster (h : Hw) (f : Island → Island) : (onIsland h f).cluster = h.cluster := (rfl)
@[simp] theorem onIsland_cipher (h : Hw) (f : Island → Island) : (onIsland h f).cipher = h.cipher := (rfl)
@[simp] theorem onIsland_twin (h : Hw) (f : Island → Island) : (onIsland h f).twin = h.twin := (rfl)
@[simp] theorem onIsland_mem (h : Hw) (f : Island → Island) : (onIsland h f).mem = h.mem := (rfl)
@[simp] theorem onIsland_freeCtr (h : Hw) (f : Island → Island) : (onIsland h f).freeCtr = h.freeCtr := (rfl)
@[simp] theorem onIsland_out (h : Hw) (f : Island → Island) : (onIsland h f).out = h.out := (rfl)
@[simp] theorem onIsland_getF (h : Hw) (f : Island → Island) (g : Fld) (i : Nat) : getF (onIsland h f) g i = getF h g i := (rfl)
@[simp] theorem onIsland_getReg (h : Hw) (f : Island → Island) (g : Nat) : getReg (onIsland h f) g = getReg h g := (rfl)

/-! `onSpindle`. -/

@[simp] theorem onSpindle_regs (h : Hw) (f : Spindle → Spindle) : (onSpindle h f).regs = h.regs := (rfl)
@[simp] theorem onSpindle_bridges (h : Hw) (f : Spindle → Spindle) : (onSpindle h f).bridges = h.bridges := (rfl)
@[simp] theorem onSpindle_tap (h : Hw) (f : Spindle → Spindle) : (onSpindle h f).tap = h.tap := (rfl)
@[simp] theorem onSpindle_fuses (h : Hw) (f : Spindle → Spindle) : (onSpindle h f).fuses = h.fuses := (rfl)
@[simp] theorem onSpindle_pins (h : Hw) (f : Spindle → Spindle) : (onSpindle h f).pins = h.pins := (rfl)
@[simp] theorem onSpindle_boot (h : Hw) (f : Spindle → Spindle) : (onSpindle h f).boot = h.boot := (rfl)
@[simp] theorem onSpindle_links (h : Hw) (f : Spindle → Spindle) : (onSpindle h f).links = h.links := (rfl)
@[simp] theorem onSpindle_units (h : Hw) (f : Spindle → Spindle) : (onSpindle h f).units = h.units := (rfl)
@[simp] theorem onSpindle_fences (h : Hw) (f : Spindle → Spindle) : (onSpindle h f).fences = h.fences := (rfl)
@[simp] theorem onSpindle_log (h : Hw) (f : Spindle → Spindle) : (onSpindle h f).log = h.log := (rfl)
@[simp] theorem onSpindle_mgmt (h : Hw) (f : Spindle → Spindle) : (onSpindle h f).mgmt = h.mgmt := (rfl)
@[simp] theorem onSpindle_dict (h : Hw) (f : Spindle → Spindle) : (onSpindle h f).dict = h.dict := (rfl)
@[simp] theorem onSpindle_island (h : Hw) (f : Spindle → Spindle) : (onSpindle h f).island = h.island := (rfl)
@[simp] theorem onSpindle_carriages (h : Hw) (f : Spindle → Spindle) : (onSpindle h f).carriages = h.carriages := (rfl)
@[simp] theorem onSpindle_spindle (h : Hw) (f : Spindle → Spindle) : (onSpindle h f).spindle = f h.spindle := (rfl)
@[simp] theorem onSpindle_drives (h : Hw) (f : Spindle → Spindle) : (onSpindle h f).drives = h.drives := (rfl)
@[simp] theorem onSpindle_portA (h : Hw) (f : Spindle → Spindle) : (onSpindle h f).portA = h.portA := (rfl)
@[simp] theorem onSpindle_portB (h : Hw) (f : Spindle → Spindle) : (onSpindle h f).portB = h.portB := (rfl)
@[simp] theorem onSpindle_engine (h : Hw) (f : Spindle → Spindle) : (onSpindle h f).engine = h.engine := (rfl)
@[simp] theorem onSpindle_buffer (h : Hw) (f : Spindle → Spindle) : (onSpindle h f).buffer = h.buffer := (rfl)
@[simp] theorem onSpindle_dma (h : Hw) (f : Spindle → Spindle) : (onSpindle h f).dma = h.dma := (rfl)
@[simp] theorem onSpindle_cores (h : Hw) (f : Spindle → Spindle) : (onSpindle h f).cores = h.cores := (rfl)
@[simp] theorem onSpindle_cluster (h : Hw) (f : Spindle → Spindle) : (onSpindle h f).cluster = h.cluster := (rfl)
@[simp] theorem onSpindle_cipher (h : Hw) (f : Spindle → Spindle) : (onSpindle h f).cipher = h.cipher := (rfl)
@[simp] theorem onSpindle_twin (h : Hw) (f : Spindle → Spindle) : (onSpindle h f).twin = h.twin := (rfl)
@[simp] theorem onSpindle_mem (h : Hw) (f : Spindle → Spindle) : (onSpindle h f).mem = h.mem := (rfl)
@[simp] theorem onSpindle_freeCtr (h : Hw) (f : Spindle → Spindle) : (onSpindle h f).freeCtr = h.freeCtr := (rfl)
@[simp] theorem onSpindle_out (h : Hw) (f : Spindle → Spindle) : (onSpindle h f).out = h.out := (rfl)
@[simp] theorem onSpindle_getF (h : Hw) (f : Spindle → Spindle) (g : Fld) (i : Nat) : getF (onSpindle h f) g i = getF h g i := (rfl)
@[simp] theorem onSpindle_getReg (h : Hw) (f : Spindle → Spindle) (g : Nat) : getReg (onSpindle h f) g = getReg h g := (rfl)

/-! `onCluster`. -/

@[simp] theorem onCluster_regs (h : Hw) (f : Cluster → Cluster) : (onCluster h f).regs = h.regs := (rfl)
@[simp] theorem onCluster_bridges (h : Hw) (f : Cluster → Cluster) : (onCluster h f).bridges = h.bridges := (rfl)
@[simp] theorem onCluster_tap (h : Hw) (f : Cluster → Cluster) : (onCluster h f).tap = h.tap := (rfl)
@[simp] theorem onCluster_fuses (h : Hw) (f : Cluster → Cluster) : (onCluster h f).fuses = h.fuses := (rfl)
@[simp] theorem onCluster_pins (h : Hw) (f : Cluster → Cluster) : (onCluster h f).pins = h.pins := (rfl)
@[simp] theorem onCluster_boot (h : Hw) (f : Cluster → Cluster) : (onCluster h f).boot = h.boot := (rfl)
@[simp] theorem onCluster_links (h : Hw) (f : Cluster → Cluster) : (onCluster h f).links = h.links := (rfl)
@[simp] theorem onCluster_units (h : Hw) (f : Cluster → Cluster) : (onCluster h f).units = h.units := (rfl)
@[simp] theorem onCluster_fences (h : Hw) (f : Cluster → Cluster) : (onCluster h f).fences = h.fences := (rfl)
@[simp] theorem onCluster_log (h : Hw) (f : Cluster → Cluster) : (onCluster h f).log = h.log := (rfl)
@[simp] theorem onCluster_mgmt (h : Hw) (f : Cluster → Cluster) : (onCluster h f).mgmt = h.mgmt := (rfl)
@[simp] theorem onCluster_dict (h : Hw) (f : Cluster → Cluster) : (onCluster h f).dict = h.dict := (rfl)
@[simp] theorem onCluster_island (h : Hw) (f : Cluster → Cluster) : (onCluster h f).island = h.island := (rfl)
@[simp] theorem onCluster_carriages (h : Hw) (f : Cluster → Cluster) : (onCluster h f).carriages = h.carriages := (rfl)
@[simp] theorem onCluster_spindle (h : Hw) (f : Cluster → Cluster) : (onCluster h f).spindle = h.spindle := (rfl)
@[simp] theorem onCluster_drives (h : Hw) (f : Cluster → Cluster) : (onCluster h f).drives = h.drives := (rfl)
@[simp] theorem onCluster_portA (h : Hw) (f : Cluster → Cluster) : (onCluster h f).portA = h.portA := (rfl)
@[simp] theorem onCluster_portB (h : Hw) (f : Cluster → Cluster) : (onCluster h f).portB = h.portB := (rfl)
@[simp] theorem onCluster_engine (h : Hw) (f : Cluster → Cluster) : (onCluster h f).engine = h.engine := (rfl)
@[simp] theorem onCluster_buffer (h : Hw) (f : Cluster → Cluster) : (onCluster h f).buffer = h.buffer := (rfl)
@[simp] theorem onCluster_dma (h : Hw) (f : Cluster → Cluster) : (onCluster h f).dma = h.dma := (rfl)
@[simp] theorem onCluster_cores (h : Hw) (f : Cluster → Cluster) : (onCluster h f).cores = h.cores := (rfl)
@[simp] theorem onCluster_cluster (h : Hw) (f : Cluster → Cluster) : (onCluster h f).cluster = f h.cluster := (rfl)
@[simp] theorem onCluster_cipher (h : Hw) (f : Cluster → Cluster) : (onCluster h f).cipher = h.cipher := (rfl)
@[simp] theorem onCluster_twin (h : Hw) (f : Cluster → Cluster) : (onCluster h f).twin = h.twin := (rfl)
@[simp] theorem onCluster_mem (h : Hw) (f : Cluster → Cluster) : (onCluster h f).mem = h.mem := (rfl)
@[simp] theorem onCluster_freeCtr (h : Hw) (f : Cluster → Cluster) : (onCluster h f).freeCtr = h.freeCtr := (rfl)
@[simp] theorem onCluster_out (h : Hw) (f : Cluster → Cluster) : (onCluster h f).out = h.out := (rfl)
@[simp] theorem onCluster_getF (h : Hw) (f : Cluster → Cluster) (g : Fld) (i : Nat) : getF (onCluster h f) g i = getF h g i := (rfl)
@[simp] theorem onCluster_getReg (h : Hw) (f : Cluster → Cluster) (g : Nat) : getReg (onCluster h f) g = getReg h g := (rfl)

/-! `onBuffer`. -/

@[simp] theorem onBuffer_regs (h : Hw) (f : Buffer → Buffer) : (onBuffer h f).regs = h.regs := (rfl)
@[simp] theorem onBuffer_bridges (h : Hw) (f : Buffer → Buffer) : (onBuffer h f).bridges = h.bridges := (rfl)
@[simp] theorem onBuffer_tap (h : Hw) (f : Buffer → Buffer) : (onBuffer h f).tap = h.tap := (rfl)
@[simp] theorem onBuffer_fuses (h : Hw) (f : Buffer → Buffer) : (onBuffer h f).fuses = h.fuses := (rfl)
@[simp] theorem onBuffer_pins (h : Hw) (f : Buffer → Buffer) : (onBuffer h f).pins = h.pins := (rfl)
@[simp] theorem onBuffer_boot (h : Hw) (f : Buffer → Buffer) : (onBuffer h f).boot = h.boot := (rfl)
@[simp] theorem onBuffer_links (h : Hw) (f : Buffer → Buffer) : (onBuffer h f).links = h.links := (rfl)
@[simp] theorem onBuffer_units (h : Hw) (f : Buffer → Buffer) : (onBuffer h f).units = h.units := (rfl)
@[simp] theorem onBuffer_fences (h : Hw) (f : Buffer → Buffer) : (onBuffer h f).fences = h.fences := (rfl)
@[simp] theorem onBuffer_log (h : Hw) (f : Buffer → Buffer) : (onBuffer h f).log = h.log := (rfl)
@[simp] theorem onBuffer_mgmt (h : Hw) (f : Buffer → Buffer) : (onBuffer h f).mgmt = h.mgmt := (rfl)
@[simp] theorem onBuffer_dict (h : Hw) (f : Buffer → Buffer) : (onBuffer h f).dict = h.dict := (rfl)
@[simp] theorem onBuffer_island (h : Hw) (f : Buffer → Buffer) : (onBuffer h f).island = h.island := (rfl)
@[simp] theorem onBuffer_carriages (h : Hw) (f : Buffer → Buffer) : (onBuffer h f).carriages = h.carriages := (rfl)
@[simp] theorem onBuffer_spindle (h : Hw) (f : Buffer → Buffer) : (onBuffer h f).spindle = h.spindle := (rfl)
@[simp] theorem onBuffer_drives (h : Hw) (f : Buffer → Buffer) : (onBuffer h f).drives = h.drives := (rfl)
@[simp] theorem onBuffer_portA (h : Hw) (f : Buffer → Buffer) : (onBuffer h f).portA = h.portA := (rfl)
@[simp] theorem onBuffer_portB (h : Hw) (f : Buffer → Buffer) : (onBuffer h f).portB = h.portB := (rfl)
@[simp] theorem onBuffer_engine (h : Hw) (f : Buffer → Buffer) : (onBuffer h f).engine = h.engine := (rfl)
@[simp] theorem onBuffer_buffer (h : Hw) (f : Buffer → Buffer) : (onBuffer h f).buffer = f h.buffer := (rfl)
@[simp] theorem onBuffer_dma (h : Hw) (f : Buffer → Buffer) : (onBuffer h f).dma = h.dma := (rfl)
@[simp] theorem onBuffer_cores (h : Hw) (f : Buffer → Buffer) : (onBuffer h f).cores = h.cores := (rfl)
@[simp] theorem onBuffer_cluster (h : Hw) (f : Buffer → Buffer) : (onBuffer h f).cluster = h.cluster := (rfl)
@[simp] theorem onBuffer_cipher (h : Hw) (f : Buffer → Buffer) : (onBuffer h f).cipher = h.cipher := (rfl)
@[simp] theorem onBuffer_twin (h : Hw) (f : Buffer → Buffer) : (onBuffer h f).twin = h.twin := (rfl)
@[simp] theorem onBuffer_mem (h : Hw) (f : Buffer → Buffer) : (onBuffer h f).mem = h.mem := (rfl)
@[simp] theorem onBuffer_freeCtr (h : Hw) (f : Buffer → Buffer) : (onBuffer h f).freeCtr = h.freeCtr := (rfl)
@[simp] theorem onBuffer_out (h : Hw) (f : Buffer → Buffer) : (onBuffer h f).out = h.out := (rfl)
@[simp] theorem onBuffer_getF (h : Hw) (f : Buffer → Buffer) (g : Fld) (i : Nat) : getF (onBuffer h f) g i = getF h g i := (rfl)
@[simp] theorem onBuffer_getReg (h : Hw) (f : Buffer → Buffer) (g : Nat) : getReg (onBuffer h f) g = getReg h g := (rfl)

/-! `onDict`. -/

@[simp] theorem onDict_regs (h : Hw) (f : Dict → Dict) : (onDict h f).regs = h.regs := (rfl)
@[simp] theorem onDict_bridges (h : Hw) (f : Dict → Dict) : (onDict h f).bridges = h.bridges := (rfl)
@[simp] theorem onDict_tap (h : Hw) (f : Dict → Dict) : (onDict h f).tap = h.tap := (rfl)
@[simp] theorem onDict_fuses (h : Hw) (f : Dict → Dict) : (onDict h f).fuses = h.fuses := (rfl)
@[simp] theorem onDict_pins (h : Hw) (f : Dict → Dict) : (onDict h f).pins = h.pins := (rfl)
@[simp] theorem onDict_boot (h : Hw) (f : Dict → Dict) : (onDict h f).boot = h.boot := (rfl)
@[simp] theorem onDict_links (h : Hw) (f : Dict → Dict) : (onDict h f).links = h.links := (rfl)
@[simp] theorem onDict_units (h : Hw) (f : Dict → Dict) : (onDict h f).units = h.units := (rfl)
@[simp] theorem onDict_fences (h : Hw) (f : Dict → Dict) : (onDict h f).fences = h.fences := (rfl)
@[simp] theorem onDict_log (h : Hw) (f : Dict → Dict) : (onDict h f).log = h.log := (rfl)
@[simp] theorem onDict_mgmt (h : Hw) (f : Dict → Dict) : (onDict h f).mgmt = h.mgmt := (rfl)
@[simp] theorem onDict_dict (h : Hw) (f : Dict → Dict) : (onDict h f).dict = f h.dict := (rfl)
@[simp] theorem onDict_island (h : Hw) (f : Dict → Dict) : (onDict h f).island = h.island := (rfl)
@[simp] theorem onDict_carriages (h : Hw) (f : Dict → Dict) : (onDict h f).carriages = h.carriages := (rfl)
@[simp] theorem onDict_spindle (h : Hw) (f : Dict → Dict) : (onDict h f).spindle = h.spindle := (rfl)
@[simp] theorem onDict_drives (h : Hw) (f : Dict → Dict) : (onDict h f).drives = h.drives := (rfl)
@[simp] theorem onDict_portA (h : Hw) (f : Dict → Dict) : (onDict h f).portA = h.portA := (rfl)
@[simp] theorem onDict_portB (h : Hw) (f : Dict → Dict) : (onDict h f).portB = h.portB := (rfl)
@[simp] theorem onDict_engine (h : Hw) (f : Dict → Dict) : (onDict h f).engine = h.engine := (rfl)
@[simp] theorem onDict_buffer (h : Hw) (f : Dict → Dict) : (onDict h f).buffer = h.buffer := (rfl)
@[simp] theorem onDict_dma (h : Hw) (f : Dict → Dict) : (onDict h f).dma = h.dma := (rfl)
@[simp] theorem onDict_cores (h : Hw) (f : Dict → Dict) : (onDict h f).cores = h.cores := (rfl)
@[simp] theorem onDict_cluster (h : Hw) (f : Dict → Dict) : (onDict h f).cluster = h.cluster := (rfl)
@[simp] theorem onDict_cipher (h : Hw) (f : Dict → Dict) : (onDict h f).cipher = h.cipher := (rfl)
@[simp] theorem onDict_twin (h : Hw) (f : Dict → Dict) : (onDict h f).twin = h.twin := (rfl)
@[simp] theorem onDict_mem (h : Hw) (f : Dict → Dict) : (onDict h f).mem = h.mem := (rfl)
@[simp] theorem onDict_freeCtr (h : Hw) (f : Dict → Dict) : (onDict h f).freeCtr = h.freeCtr := (rfl)
@[simp] theorem onDict_out (h : Hw) (f : Dict → Dict) : (onDict h f).out = h.out := (rfl)
@[simp] theorem onDict_getF (h : Hw) (f : Dict → Dict) (g : Fld) (i : Nat) : getF (onDict h f) g i = getF h g i := (rfl)
@[simp] theorem onDict_getReg (h : Hw) (f : Dict → Dict) (g : Nat) : getReg (onDict h f) g = getReg h g := (rfl)

/-! `onPins`. -/

@[simp] theorem onPins_regs (h : Hw) (f : Pins → Pins) : (onPins h f).regs = h.regs := (rfl)
@[simp] theorem onPins_bridges (h : Hw) (f : Pins → Pins) : (onPins h f).bridges = h.bridges := (rfl)
@[simp] theorem onPins_tap (h : Hw) (f : Pins → Pins) : (onPins h f).tap = h.tap := (rfl)
@[simp] theorem onPins_fuses (h : Hw) (f : Pins → Pins) : (onPins h f).fuses = h.fuses := (rfl)
@[simp] theorem onPins_pins (h : Hw) (f : Pins → Pins) : (onPins h f).pins = f h.pins := (rfl)
@[simp] theorem onPins_boot (h : Hw) (f : Pins → Pins) : (onPins h f).boot = h.boot := (rfl)
@[simp] theorem onPins_links (h : Hw) (f : Pins → Pins) : (onPins h f).links = h.links := (rfl)
@[simp] theorem onPins_units (h : Hw) (f : Pins → Pins) : (onPins h f).units = h.units := (rfl)
@[simp] theorem onPins_fences (h : Hw) (f : Pins → Pins) : (onPins h f).fences = h.fences := (rfl)
@[simp] theorem onPins_log (h : Hw) (f : Pins → Pins) : (onPins h f).log = h.log := (rfl)
@[simp] theorem onPins_mgmt (h : Hw) (f : Pins → Pins) : (onPins h f).mgmt = h.mgmt := (rfl)
@[simp] theorem onPins_dict (h : Hw) (f : Pins → Pins) : (onPins h f).dict = h.dict := (rfl)
@[simp] theorem onPins_island (h : Hw) (f : Pins → Pins) : (onPins h f).island = h.island := (rfl)
@[simp] theorem onPins_carriages (h : Hw) (f : Pins → Pins) : (onPins h f).carriages = h.carriages := (rfl)
@[simp] theorem onPins_spindle (h : Hw) (f : Pins → Pins) : (onPins h f).spindle = h.spindle := (rfl)
@[simp] theorem onPins_drives (h : Hw) (f : Pins → Pins) : (onPins h f).drives = h.drives := (rfl)
@[simp] theorem onPins_portA (h : Hw) (f : Pins → Pins) : (onPins h f).portA = h.portA := (rfl)
@[simp] theorem onPins_portB (h : Hw) (f : Pins → Pins) : (onPins h f).portB = h.portB := (rfl)
@[simp] theorem onPins_engine (h : Hw) (f : Pins → Pins) : (onPins h f).engine = h.engine := (rfl)
@[simp] theorem onPins_buffer (h : Hw) (f : Pins → Pins) : (onPins h f).buffer = h.buffer := (rfl)
@[simp] theorem onPins_dma (h : Hw) (f : Pins → Pins) : (onPins h f).dma = h.dma := (rfl)
@[simp] theorem onPins_cores (h : Hw) (f : Pins → Pins) : (onPins h f).cores = h.cores := (rfl)
@[simp] theorem onPins_cluster (h : Hw) (f : Pins → Pins) : (onPins h f).cluster = h.cluster := (rfl)
@[simp] theorem onPins_cipher (h : Hw) (f : Pins → Pins) : (onPins h f).cipher = h.cipher := (rfl)
@[simp] theorem onPins_twin (h : Hw) (f : Pins → Pins) : (onPins h f).twin = h.twin := (rfl)
@[simp] theorem onPins_mem (h : Hw) (f : Pins → Pins) : (onPins h f).mem = h.mem := (rfl)
@[simp] theorem onPins_freeCtr (h : Hw) (f : Pins → Pins) : (onPins h f).freeCtr = h.freeCtr := (rfl)
@[simp] theorem onPins_out (h : Hw) (f : Pins → Pins) : (onPins h f).out = h.out := (rfl)
@[simp] theorem onPins_getF (h : Hw) (f : Pins → Pins) (g : Fld) (i : Nat) : getF (onPins h f) g i = getF h g i := (rfl)
@[simp] theorem onPins_getReg (h : Hw) (f : Pins → Pins) (g : Nat) : getReg (onPins h f) g = getReg h g := (rfl)

/-! `onCore`. -/

@[simp] theorem onCore_regs (h : Hw) (k : Nat) (f : CoreSt → CoreSt) : (onCore h k f).regs = h.regs := (rfl)
@[simp] theorem onCore_bridges (h : Hw) (k : Nat) (f : CoreSt → CoreSt) : (onCore h k f).bridges = h.bridges := (rfl)
@[simp] theorem onCore_tap (h : Hw) (k : Nat) (f : CoreSt → CoreSt) : (onCore h k f).tap = h.tap := (rfl)
@[simp] theorem onCore_fuses (h : Hw) (k : Nat) (f : CoreSt → CoreSt) : (onCore h k f).fuses = h.fuses := (rfl)
@[simp] theorem onCore_pins (h : Hw) (k : Nat) (f : CoreSt → CoreSt) : (onCore h k f).pins = h.pins := (rfl)
@[simp] theorem onCore_boot (h : Hw) (k : Nat) (f : CoreSt → CoreSt) : (onCore h k f).boot = h.boot := (rfl)
@[simp] theorem onCore_links (h : Hw) (k : Nat) (f : CoreSt → CoreSt) : (onCore h k f).links = h.links := (rfl)
@[simp] theorem onCore_units (h : Hw) (k : Nat) (f : CoreSt → CoreSt) : (onCore h k f).units = h.units := (rfl)
@[simp] theorem onCore_fences (h : Hw) (k : Nat) (f : CoreSt → CoreSt) : (onCore h k f).fences = h.fences := (rfl)
@[simp] theorem onCore_log (h : Hw) (k : Nat) (f : CoreSt → CoreSt) : (onCore h k f).log = h.log := (rfl)
@[simp] theorem onCore_mgmt (h : Hw) (k : Nat) (f : CoreSt → CoreSt) : (onCore h k f).mgmt = h.mgmt := (rfl)
@[simp] theorem onCore_dict (h : Hw) (k : Nat) (f : CoreSt → CoreSt) : (onCore h k f).dict = h.dict := (rfl)
@[simp] theorem onCore_island (h : Hw) (k : Nat) (f : CoreSt → CoreSt) : (onCore h k f).island = h.island := (rfl)
@[simp] theorem onCore_carriages (h : Hw) (k : Nat) (f : CoreSt → CoreSt) : (onCore h k f).carriages = h.carriages := (rfl)
@[simp] theorem onCore_spindle (h : Hw) (k : Nat) (f : CoreSt → CoreSt) : (onCore h k f).spindle = h.spindle := (rfl)
@[simp] theorem onCore_drives (h : Hw) (k : Nat) (f : CoreSt → CoreSt) : (onCore h k f).drives = h.drives := (rfl)
@[simp] theorem onCore_portA (h : Hw) (k : Nat) (f : CoreSt → CoreSt) : (onCore h k f).portA = h.portA := (rfl)
@[simp] theorem onCore_portB (h : Hw) (k : Nat) (f : CoreSt → CoreSt) : (onCore h k f).portB = h.portB := (rfl)
@[simp] theorem onCore_engine (h : Hw) (k : Nat) (f : CoreSt → CoreSt) : (onCore h k f).engine = h.engine := (rfl)
@[simp] theorem onCore_buffer (h : Hw) (k : Nat) (f : CoreSt → CoreSt) : (onCore h k f).buffer = h.buffer := (rfl)
@[simp] theorem onCore_dma (h : Hw) (k : Nat) (f : CoreSt → CoreSt) : (onCore h k f).dma = h.dma := (rfl)
@[simp] theorem onCore_cores (h : Hw) (k : Nat) (f : CoreSt → CoreSt) : (onCore h k f).cores = h.cores.set k (f (h.cores.get k)) := (rfl)
@[simp] theorem onCore_cluster (h : Hw) (k : Nat) (f : CoreSt → CoreSt) : (onCore h k f).cluster = h.cluster := (rfl)
@[simp] theorem onCore_cipher (h : Hw) (k : Nat) (f : CoreSt → CoreSt) : (onCore h k f).cipher = h.cipher := (rfl)
@[simp] theorem onCore_twin (h : Hw) (k : Nat) (f : CoreSt → CoreSt) : (onCore h k f).twin = h.twin := (rfl)
@[simp] theorem onCore_mem (h : Hw) (k : Nat) (f : CoreSt → CoreSt) : (onCore h k f).mem = h.mem := (rfl)
@[simp] theorem onCore_freeCtr (h : Hw) (k : Nat) (f : CoreSt → CoreSt) : (onCore h k f).freeCtr = h.freeCtr := (rfl)
@[simp] theorem onCore_out (h : Hw) (k : Nat) (f : CoreSt → CoreSt) : (onCore h k f).out = h.out := (rfl)
@[simp] theorem onCore_getF (h : Hw) (k : Nat) (f : CoreSt → CoreSt) (g : Fld) (i : Nat) : getF (onCore h k f) g i = getF h g i := (rfl)
@[simp] theorem onCore_getReg (h : Hw) (k : Nat) (f : CoreSt → CoreSt) (g : Nat) : getReg (onCore h k f) g = getReg h g := (rfl)

/-! `onDma`. -/

@[simp] theorem onDma_regs (h : Hw) (n : Nat) (f : DmaCh → DmaCh) : (onDma h n f).regs = h.regs := (rfl)
@[simp] theorem onDma_bridges (h : Hw) (n : Nat) (f : DmaCh → DmaCh) : (onDma h n f).bridges = h.bridges := (rfl)
@[simp] theorem onDma_tap (h : Hw) (n : Nat) (f : DmaCh → DmaCh) : (onDma h n f).tap = h.tap := (rfl)
@[simp] theorem onDma_fuses (h : Hw) (n : Nat) (f : DmaCh → DmaCh) : (onDma h n f).fuses = h.fuses := (rfl)
@[simp] theorem onDma_pins (h : Hw) (n : Nat) (f : DmaCh → DmaCh) : (onDma h n f).pins = h.pins := (rfl)
@[simp] theorem onDma_boot (h : Hw) (n : Nat) (f : DmaCh → DmaCh) : (onDma h n f).boot = h.boot := (rfl)
@[simp] theorem onDma_links (h : Hw) (n : Nat) (f : DmaCh → DmaCh) : (onDma h n f).links = h.links := (rfl)
@[simp] theorem onDma_units (h : Hw) (n : Nat) (f : DmaCh → DmaCh) : (onDma h n f).units = h.units := (rfl)
@[simp] theorem onDma_fences (h : Hw) (n : Nat) (f : DmaCh → DmaCh) : (onDma h n f).fences = h.fences := (rfl)
@[simp] theorem onDma_log (h : Hw) (n : Nat) (f : DmaCh → DmaCh) : (onDma h n f).log = h.log := (rfl)
@[simp] theorem onDma_mgmt (h : Hw) (n : Nat) (f : DmaCh → DmaCh) : (onDma h n f).mgmt = h.mgmt := (rfl)
@[simp] theorem onDma_dict (h : Hw) (n : Nat) (f : DmaCh → DmaCh) : (onDma h n f).dict = h.dict := (rfl)
@[simp] theorem onDma_island (h : Hw) (n : Nat) (f : DmaCh → DmaCh) : (onDma h n f).island = h.island := (rfl)
@[simp] theorem onDma_carriages (h : Hw) (n : Nat) (f : DmaCh → DmaCh) : (onDma h n f).carriages = h.carriages := (rfl)
@[simp] theorem onDma_spindle (h : Hw) (n : Nat) (f : DmaCh → DmaCh) : (onDma h n f).spindle = h.spindle := (rfl)
@[simp] theorem onDma_drives (h : Hw) (n : Nat) (f : DmaCh → DmaCh) : (onDma h n f).drives = h.drives := (rfl)
@[simp] theorem onDma_portA (h : Hw) (n : Nat) (f : DmaCh → DmaCh) : (onDma h n f).portA = h.portA := (rfl)
@[simp] theorem onDma_portB (h : Hw) (n : Nat) (f : DmaCh → DmaCh) : (onDma h n f).portB = h.portB := (rfl)
@[simp] theorem onDma_engine (h : Hw) (n : Nat) (f : DmaCh → DmaCh) : (onDma h n f).engine = h.engine := (rfl)
@[simp] theorem onDma_buffer (h : Hw) (n : Nat) (f : DmaCh → DmaCh) : (onDma h n f).buffer = h.buffer := (rfl)
@[simp] theorem onDma_cores (h : Hw) (n : Nat) (f : DmaCh → DmaCh) : (onDma h n f).cores = h.cores := (rfl)
@[simp] theorem onDma_cluster (h : Hw) (n : Nat) (f : DmaCh → DmaCh) : (onDma h n f).cluster = h.cluster := (rfl)
@[simp] theorem onDma_cipher (h : Hw) (n : Nat) (f : DmaCh → DmaCh) : (onDma h n f).cipher = h.cipher := (rfl)
@[simp] theorem onDma_twin (h : Hw) (n : Nat) (f : DmaCh → DmaCh) : (onDma h n f).twin = h.twin := (rfl)
@[simp] theorem onDma_mem (h : Hw) (n : Nat) (f : DmaCh → DmaCh) : (onDma h n f).mem = h.mem := (rfl)
@[simp] theorem onDma_freeCtr (h : Hw) (n : Nat) (f : DmaCh → DmaCh) : (onDma h n f).freeCtr = h.freeCtr := (rfl)
@[simp] theorem onDma_out (h : Hw) (n : Nat) (f : DmaCh → DmaCh) : (onDma h n f).out = h.out := (rfl)
@[simp] theorem onDma_getF (h : Hw) (n : Nat) (f : DmaCh → DmaCh) (g : Fld) (i : Nat) : getF (onDma h n f) g i = getF h g i := (rfl)
@[simp] theorem onDma_getReg (h : Hw) (n : Nat) (f : DmaCh → DmaCh) (g : Nat) : getReg (onDma h n f) g = getReg h g := (rfl)

/-! `onUnit`. -/

@[simp] theorem onUnit_regs (h : Hw) (u : Nat) (f : UnitSt → UnitSt) : (onUnit h u f).regs = h.regs := (rfl)
@[simp] theorem onUnit_bridges (h : Hw) (u : Nat) (f : UnitSt → UnitSt) : (onUnit h u f).bridges = h.bridges := (rfl)
@[simp] theorem onUnit_tap (h : Hw) (u : Nat) (f : UnitSt → UnitSt) : (onUnit h u f).tap = h.tap := (rfl)
@[simp] theorem onUnit_fuses (h : Hw) (u : Nat) (f : UnitSt → UnitSt) : (onUnit h u f).fuses = h.fuses := (rfl)
@[simp] theorem onUnit_pins (h : Hw) (u : Nat) (f : UnitSt → UnitSt) : (onUnit h u f).pins = h.pins := (rfl)
@[simp] theorem onUnit_boot (h : Hw) (u : Nat) (f : UnitSt → UnitSt) : (onUnit h u f).boot = h.boot := (rfl)
@[simp] theorem onUnit_links (h : Hw) (u : Nat) (f : UnitSt → UnitSt) : (onUnit h u f).links = h.links := (rfl)
@[simp] theorem onUnit_fences (h : Hw) (u : Nat) (f : UnitSt → UnitSt) : (onUnit h u f).fences = h.fences := (rfl)
@[simp] theorem onUnit_log (h : Hw) (u : Nat) (f : UnitSt → UnitSt) : (onUnit h u f).log = h.log := (rfl)
@[simp] theorem onUnit_mgmt (h : Hw) (u : Nat) (f : UnitSt → UnitSt) : (onUnit h u f).mgmt = h.mgmt := (rfl)
@[simp] theorem onUnit_dict (h : Hw) (u : Nat) (f : UnitSt → UnitSt) : (onUnit h u f).dict = h.dict := (rfl)
@[simp] theorem onUnit_island (h : Hw) (u : Nat) (f : UnitSt → UnitSt) : (onUnit h u f).island = h.island := (rfl)
@[simp] theorem onUnit_carriages (h : Hw) (u : Nat) (f : UnitSt → UnitSt) : (onUnit h u f).carriages = h.carriages := (rfl)
@[simp] theorem onUnit_spindle (h : Hw) (u : Nat) (f : UnitSt → UnitSt) : (onUnit h u f).spindle = h.spindle := (rfl)
@[simp] theorem onUnit_drives (h : Hw) (u : Nat) (f : UnitSt → UnitSt) : (onUnit h u f).drives = h.drives := (rfl)
@[simp] theorem onUnit_portA (h : Hw) (u : Nat) (f : UnitSt → UnitSt) : (onUnit h u f).portA = h.portA := (rfl)
@[simp] theorem onUnit_portB (h : Hw) (u : Nat) (f : UnitSt → UnitSt) : (onUnit h u f).portB = h.portB := (rfl)
@[simp] theorem onUnit_engine (h : Hw) (u : Nat) (f : UnitSt → UnitSt) : (onUnit h u f).engine = h.engine := (rfl)
@[simp] theorem onUnit_buffer (h : Hw) (u : Nat) (f : UnitSt → UnitSt) : (onUnit h u f).buffer = h.buffer := (rfl)
@[simp] theorem onUnit_dma (h : Hw) (u : Nat) (f : UnitSt → UnitSt) : (onUnit h u f).dma = h.dma := (rfl)
@[simp] theorem onUnit_cores (h : Hw) (u : Nat) (f : UnitSt → UnitSt) : (onUnit h u f).cores = h.cores := (rfl)
@[simp] theorem onUnit_cluster (h : Hw) (u : Nat) (f : UnitSt → UnitSt) : (onUnit h u f).cluster = h.cluster := (rfl)
@[simp] theorem onUnit_cipher (h : Hw) (u : Nat) (f : UnitSt → UnitSt) : (onUnit h u f).cipher = h.cipher := (rfl)
@[simp] theorem onUnit_twin (h : Hw) (u : Nat) (f : UnitSt → UnitSt) : (onUnit h u f).twin = h.twin := (rfl)
@[simp] theorem onUnit_mem (h : Hw) (u : Nat) (f : UnitSt → UnitSt) : (onUnit h u f).mem = h.mem := (rfl)
@[simp] theorem onUnit_freeCtr (h : Hw) (u : Nat) (f : UnitSt → UnitSt) : (onUnit h u f).freeCtr = h.freeCtr := (rfl)
@[simp] theorem onUnit_out (h : Hw) (u : Nat) (f : UnitSt → UnitSt) : (onUnit h u f).out = h.out := (rfl)
@[simp] theorem onUnit_getF (h : Hw) (u : Nat) (f : UnitSt → UnitSt) (g : Fld) (i : Nat) : getF (onUnit h u f) g i = getF h g i := (rfl)
@[simp] theorem onUnit_getReg (h : Hw) (u : Nat) (f : UnitSt → UnitSt) (g : Nat) : getReg (onUnit h u f) g = getReg h g := (rfl)

/-! `setFence`. -/

@[simp] theorem setFence_regs (h : Hw) (k v : Nat) : (setFence h k v).regs = h.regs := (rfl)
@[simp] theorem setFence_bridges (h : Hw) (k v : Nat) : (setFence h k v).bridges = h.bridges := (rfl)
@[simp] theorem setFence_tap (h : Hw) (k v : Nat) : (setFence h k v).tap = h.tap := (rfl)
@[simp] theorem setFence_fuses (h : Hw) (k v : Nat) : (setFence h k v).fuses = h.fuses := (rfl)
@[simp] theorem setFence_pins (h : Hw) (k v : Nat) : (setFence h k v).pins = h.pins := (rfl)
@[simp] theorem setFence_boot (h : Hw) (k v : Nat) : (setFence h k v).boot = h.boot := (rfl)
@[simp] theorem setFence_links (h : Hw) (k v : Nat) : (setFence h k v).links = h.links := (rfl)
@[simp] theorem setFence_units (h : Hw) (k v : Nat) : (setFence h k v).units = h.units := (rfl)
@[simp] theorem setFence_log (h : Hw) (k v : Nat) : (setFence h k v).log = h.log := (rfl)
@[simp] theorem setFence_mgmt (h : Hw) (k v : Nat) : (setFence h k v).mgmt = h.mgmt := (rfl)
@[simp] theorem setFence_dict (h : Hw) (k v : Nat) : (setFence h k v).dict = h.dict := (rfl)
@[simp] theorem setFence_island (h : Hw) (k v : Nat) : (setFence h k v).island = h.island := (rfl)
@[simp] theorem setFence_carriages (h : Hw) (k v : Nat) : (setFence h k v).carriages = h.carriages := (rfl)
@[simp] theorem setFence_spindle (h : Hw) (k v : Nat) : (setFence h k v).spindle = h.spindle := (rfl)
@[simp] theorem setFence_drives (h : Hw) (k v : Nat) : (setFence h k v).drives = h.drives := (rfl)
@[simp] theorem setFence_portA (h : Hw) (k v : Nat) : (setFence h k v).portA = h.portA := (rfl)
@[simp] theorem setFence_portB (h : Hw) (k v : Nat) : (setFence h k v).portB = h.portB := (rfl)
@[simp] theorem setFence_engine (h : Hw) (k v : Nat) : (setFence h k v).engine = h.engine := (rfl)
@[simp] theorem setFence_buffer (h : Hw) (k v : Nat) : (setFence h k v).buffer = h.buffer := (rfl)
@[simp] theorem setFence_dma (h : Hw) (k v : Nat) : (setFence h k v).dma = h.dma := (rfl)
@[simp] theorem setFence_cores (h : Hw) (k v : Nat) : (setFence h k v).cores = h.cores := (rfl)
@[simp] theorem setFence_cluster (h : Hw) (k v : Nat) : (setFence h k v).cluster = h.cluster := (rfl)
@[simp] theorem setFence_cipher (h : Hw) (k v : Nat) : (setFence h k v).cipher = h.cipher := (rfl)
@[simp] theorem setFence_twin (h : Hw) (k v : Nat) : (setFence h k v).twin = h.twin := (rfl)
@[simp] theorem setFence_mem (h : Hw) (k v : Nat) : (setFence h k v).mem = h.mem := (rfl)
@[simp] theorem setFence_freeCtr (h : Hw) (k v : Nat) : (setFence h k v).freeCtr = h.freeCtr := (rfl)
@[simp] theorem setFence_out (h : Hw) (k v : Nat) : (setFence h k v).out = h.out := (rfl)
@[simp] theorem setFence_getF (h : Hw) (k v : Nat) (g : Fld) (i : Nat) : getF (setFence h k v) g i = getF h g i := (rfl)
@[simp] theorem setFence_getReg (h : Hw) (k v : Nat) (g : Nat) : getReg (setFence h k v) g = getReg h g := (rfl)

/-! `emit`. -/

@[simp] theorem emit_regs (h : Hw) (o : Output) : (emit h o).regs = h.regs := (rfl)
@[simp] theorem emit_bridges (h : Hw) (o : Output) : (emit h o).bridges = h.bridges := (rfl)
@[simp] theorem emit_tap (h : Hw) (o : Output) : (emit h o).tap = h.tap := (rfl)
@[simp] theorem emit_fuses (h : Hw) (o : Output) : (emit h o).fuses = h.fuses := (rfl)
@[simp] theorem emit_pins (h : Hw) (o : Output) : (emit h o).pins = h.pins := (rfl)
@[simp] theorem emit_boot (h : Hw) (o : Output) : (emit h o).boot = h.boot := (rfl)
@[simp] theorem emit_links (h : Hw) (o : Output) : (emit h o).links = h.links := (rfl)
@[simp] theorem emit_units (h : Hw) (o : Output) : (emit h o).units = h.units := (rfl)
@[simp] theorem emit_fences (h : Hw) (o : Output) : (emit h o).fences = h.fences := (rfl)
@[simp] theorem emit_log (h : Hw) (o : Output) : (emit h o).log = h.log := (rfl)
@[simp] theorem emit_mgmt (h : Hw) (o : Output) : (emit h o).mgmt = h.mgmt := (rfl)
@[simp] theorem emit_dict (h : Hw) (o : Output) : (emit h o).dict = h.dict := (rfl)
@[simp] theorem emit_island (h : Hw) (o : Output) : (emit h o).island = h.island := (rfl)
@[simp] theorem emit_carriages (h : Hw) (o : Output) : (emit h o).carriages = h.carriages := (rfl)
@[simp] theorem emit_spindle (h : Hw) (o : Output) : (emit h o).spindle = h.spindle := (rfl)
@[simp] theorem emit_drives (h : Hw) (o : Output) : (emit h o).drives = h.drives := (rfl)
@[simp] theorem emit_portA (h : Hw) (o : Output) : (emit h o).portA = h.portA := (rfl)
@[simp] theorem emit_portB (h : Hw) (o : Output) : (emit h o).portB = h.portB := (rfl)
@[simp] theorem emit_engine (h : Hw) (o : Output) : (emit h o).engine = h.engine := (rfl)
@[simp] theorem emit_buffer (h : Hw) (o : Output) : (emit h o).buffer = h.buffer := (rfl)
@[simp] theorem emit_dma (h : Hw) (o : Output) : (emit h o).dma = h.dma := (rfl)
@[simp] theorem emit_cores (h : Hw) (o : Output) : (emit h o).cores = h.cores := (rfl)
@[simp] theorem emit_cluster (h : Hw) (o : Output) : (emit h o).cluster = h.cluster := (rfl)
@[simp] theorem emit_cipher (h : Hw) (o : Output) : (emit h o).cipher = h.cipher := (rfl)
@[simp] theorem emit_twin (h : Hw) (o : Output) : (emit h o).twin = h.twin := (rfl)
@[simp] theorem emit_mem (h : Hw) (o : Output) : (emit h o).mem = h.mem := (rfl)
@[simp] theorem emit_freeCtr (h : Hw) (o : Output) : (emit h o).freeCtr = h.freeCtr := (rfl)
@[simp] theorem emit_out (h : Hw) (o : Output) : (emit h o).out = h.out ++ [o] := (rfl)
@[simp] theorem emit_getF (h : Hw) (o : Output) (g : Fld) (i : Nat) : getF (emit h o) g i = getF h g i := (rfl)
@[simp] theorem emit_getReg (h : Hw) (o : Output) (g : Nat) : getReg (emit h o) g = getReg h g := (rfl)

/-! `drawn`. -/

@[simp] theorem drawn_regs (h : Hw) : (drawn h).regs = h.regs := (rfl)
@[simp] theorem drawn_bridges (h : Hw) : (drawn h).bridges = h.bridges := (rfl)
@[simp] theorem drawn_tap (h : Hw) : (drawn h).tap = h.tap := (rfl)
@[simp] theorem drawn_fuses (h : Hw) : (drawn h).fuses = h.fuses := (rfl)
@[simp] theorem drawn_pins (h : Hw) : (drawn h).pins = h.pins := (rfl)
@[simp] theorem drawn_boot (h : Hw) : (drawn h).boot = h.boot := (rfl)
@[simp] theorem drawn_links (h : Hw) : (drawn h).links = h.links := (rfl)
@[simp] theorem drawn_units (h : Hw) : (drawn h).units = h.units := (rfl)
@[simp] theorem drawn_fences (h : Hw) : (drawn h).fences = h.fences := (rfl)
@[simp] theorem drawn_log (h : Hw) : (drawn h).log = h.log := (rfl)
@[simp] theorem drawn_mgmt (h : Hw) : (drawn h).mgmt = h.mgmt := (rfl)
@[simp] theorem drawn_dict (h : Hw) : (drawn h).dict = h.dict := (rfl)
@[simp] theorem drawn_island (h : Hw) : (drawn h).island = h.island := (rfl)
@[simp] theorem drawn_carriages (h : Hw) : (drawn h).carriages = h.carriages := (rfl)
@[simp] theorem drawn_spindle (h : Hw) : (drawn h).spindle = h.spindle := (rfl)
@[simp] theorem drawn_drives (h : Hw) : (drawn h).drives = h.drives := (rfl)
@[simp] theorem drawn_portA (h : Hw) : (drawn h).portA = h.portA := (rfl)
@[simp] theorem drawn_portB (h : Hw) : (drawn h).portB = h.portB := (rfl)
@[simp] theorem drawn_engine (h : Hw) : (drawn h).engine = h.engine := (rfl)
@[simp] theorem drawn_buffer (h : Hw) : (drawn h).buffer = h.buffer := (rfl)
@[simp] theorem drawn_dma (h : Hw) : (drawn h).dma = h.dma := (rfl)
@[simp] theorem drawn_cores (h : Hw) : (drawn h).cores = h.cores := (rfl)
@[simp] theorem drawn_cluster (h : Hw) : (drawn h).cluster = h.cluster := (rfl)
@[simp] theorem drawn_cipher (h : Hw) : (drawn h).cipher = h.cipher := (rfl)
@[simp] theorem drawn_twin (h : Hw) : (drawn h).twin = h.twin := (rfl)
@[simp] theorem drawn_mem (h : Hw) : (drawn h).mem = h.mem := (rfl)
@[simp] theorem drawn_freeCtr (h : Hw) : (drawn h).freeCtr = h.freeCtr + 1 := (rfl)
@[simp] theorem drawn_out (h : Hw) : (drawn h).out = h.out := (rfl)
@[simp] theorem drawn_getF (h : Hw) (g : Fld) (i : Nat) : getF (drawn h) g i = getF h g i := (rfl)
@[simp] theorem drawn_getReg (h : Hw) (g : Nat) : getReg (drawn h) g = getReg h g := (rfl)

/-! `setLive`. -/

@[simp] theorem setLive_regs (h : Hw) (u p e v : Nat) : (setLive h u p e v).regs = h.regs := (rfl)
@[simp] theorem setLive_bridges (h : Hw) (u p e v : Nat) : (setLive h u p e v).bridges = h.bridges := (rfl)
@[simp] theorem setLive_tap (h : Hw) (u p e v : Nat) : (setLive h u p e v).tap = h.tap := (rfl)
@[simp] theorem setLive_fuses (h : Hw) (u p e v : Nat) : (setLive h u p e v).fuses = h.fuses := (rfl)
@[simp] theorem setLive_pins (h : Hw) (u p e v : Nat) : (setLive h u p e v).pins = h.pins := (rfl)
@[simp] theorem setLive_boot (h : Hw) (u p e v : Nat) : (setLive h u p e v).boot = h.boot := (rfl)
@[simp] theorem setLive_links (h : Hw) (u p e v : Nat) : (setLive h u p e v).links = h.links := (rfl)
@[simp] theorem setLive_units (h : Hw) (u p e v : Nat) : (setLive h u p e v).units = h.units := (rfl)
@[simp] theorem setLive_fences (h : Hw) (u p e v : Nat) : (setLive h u p e v).fences = h.fences := (rfl)
@[simp] theorem setLive_log (h : Hw) (u p e v : Nat) : (setLive h u p e v).log = h.log := (rfl)
@[simp] theorem setLive_mgmt (h : Hw) (u p e v : Nat) : (setLive h u p e v).mgmt = h.mgmt := (rfl)
@[simp] theorem setLive_island (h : Hw) (u p e v : Nat) : (setLive h u p e v).island = h.island := (rfl)
@[simp] theorem setLive_carriages (h : Hw) (u p e v : Nat) : (setLive h u p e v).carriages = h.carriages := (rfl)
@[simp] theorem setLive_spindle (h : Hw) (u p e v : Nat) : (setLive h u p e v).spindle = h.spindle := (rfl)
@[simp] theorem setLive_drives (h : Hw) (u p e v : Nat) : (setLive h u p e v).drives = h.drives := (rfl)
@[simp] theorem setLive_portA (h : Hw) (u p e v : Nat) : (setLive h u p e v).portA = h.portA := (rfl)
@[simp] theorem setLive_portB (h : Hw) (u p e v : Nat) : (setLive h u p e v).portB = h.portB := (rfl)
@[simp] theorem setLive_engine (h : Hw) (u p e v : Nat) : (setLive h u p e v).engine = h.engine := (rfl)
@[simp] theorem setLive_buffer (h : Hw) (u p e v : Nat) : (setLive h u p e v).buffer = h.buffer := (rfl)
@[simp] theorem setLive_dma (h : Hw) (u p e v : Nat) : (setLive h u p e v).dma = h.dma := (rfl)
@[simp] theorem setLive_cores (h : Hw) (u p e v : Nat) : (setLive h u p e v).cores = h.cores := (rfl)
@[simp] theorem setLive_cluster (h : Hw) (u p e v : Nat) : (setLive h u p e v).cluster = h.cluster := (rfl)
@[simp] theorem setLive_cipher (h : Hw) (u p e v : Nat) : (setLive h u p e v).cipher = h.cipher := (rfl)
@[simp] theorem setLive_twin (h : Hw) (u p e v : Nat) : (setLive h u p e v).twin = h.twin := (rfl)
@[simp] theorem setLive_mem (h : Hw) (u p e v : Nat) : (setLive h u p e v).mem = h.mem := (rfl)
@[simp] theorem setLive_freeCtr (h : Hw) (u p e v : Nat) : (setLive h u p e v).freeCtr = h.freeCtr := (rfl)
@[simp] theorem setLive_out (h : Hw) (u p e v : Nat) : (setLive h u p e v).out = h.out := (rfl)
@[simp] theorem setLive_getF (h : Hw) (u p e v : Nat) (g : Fld) (i : Nat) : getF (setLive h u p e v) g i = getF h g i := (rfl)
@[simp] theorem setLive_getReg (h : Hw) (u p e v : Nat) (g : Nat) : getReg (setLive h u p e v) g = getReg h g := (rfl)

/-! The state. -/

@[simp] theorem State.run_eq (s : State) (f : Hw → Hw) : s.run f = .next { s with hw := f { s.hw with out := [] } } := (rfl)

@[simp] theorem State.runBoth_eq (s : State) (f : Hw → Vault → Hw × Vault) :
    s.runBoth f = .next { s with hw := (f { s.hw with out := [] } s.vault).1, vault := (f { s.hw with out := [] } s.vault).2 } := (rfl)

/-! Four like things. -/

@[simp] theorem Quad.get_set_self {α : Type} (q : Quad α) (c : Nat) (a : α) : (q.set c a).get c = a := by
  match c with
  | 0 | 1 | 2 => rfl
  | c + 3 => rfl

theorem Quad.get_set_ne {α : Type} (q : Quad α) {c k : Nat} (a : α) (hc : c < 4) (hk : k < 4) (ne : k ≠ c) : (q.set c a).get k = q.get k := by
  match c, k with
  | 0, 0 | 1, 1 | 2, 2 | 3, 3 => exact absurd rfl ne
  | 0, 1 | 0, 2 | 0, 3 | 1, 0 | 1, 2 | 1, 3 | 2, 0 | 2, 1 | 2, 3 | 3, 0 | 3, 1 | 3, 2 => rfl
  | c + 4, _ => omega
  | _, k + 4 => omega

/-! Lists and options by key. -/

@[simp] theorem zget_zset (m : SMap Nat) (k v : Nat) : zget (zset m k v) k = v := mget_mset_self _ _ _ _
theorem zget_zset_ne (m : SMap Nat) {k j : Nat} (v : Nat) (h : j ≠ k) : zget (zset m k v) j = zget m j := mget_mset_ne _ _ _ h
@[simp] theorem oget_oset {β : Type} [DecidableEq β] (m : SMap (Option β)) (k : Nat) (v : Option β) : oget (oset m k v) k = v := mget_mset_self _ _ _ _
theorem oget_oset_ne {β : Type} [DecidableEq β] (m : SMap (Option β)) {k j : Nat} (v : Option β) (h : j ≠ k) : oget (oset m k v) j = oget m j :=
  mget_mset_ne _ _ _ h
@[simp] theorem lget_lset {β : Type} [DecidableEq β] (m : SMap (List β)) (k : Nat) (v : List β) : lget (lset m k v) k = v := mget_mset_self _ _ _ _
theorem lget_lset_ne {β : Type} [DecidableEq β] (m : SMap (List β)) {k j : Nat} (v : List β) (h : j ≠ k) : lget (lset m k v) j = lget m j :=
  mget_mset_ne _ _ _ h

@[simp] theorem liveVal_setLive (h : Hw) (u p e v : Nat) : liveVal (setLive h u p e v) u p e = v := by simp [liveVal, setLive]

@[simp] theorem unit_onUnit (h : Hw) (u : Nat) (f : UnitSt → UnitSt) : unit (onUnit h u f) u = f (unit h u) := mget_mset_self _ _ _ _
theorem unit_onUnit_ne (h : Hw) {u w : Nat} (f : UnitSt → UnitSt) (ne : w ≠ u) : unit (onUnit h u f) w = unit h w := mget_mset_ne _ _ _ ne
@[simp] theorem dmaCh_onDma (h : Hw) (n : Nat) (f : DmaCh → DmaCh) : dmaCh (onDma h n f) n = f (dmaCh h n) := mget_mset_self _ _ _ _
@[simp] theorem fenceVal_setFence (h : Hw) (k v : Nat) : fenceVal (setFence h k v) k = v := mget_mset_self _ _ _ _
theorem fenceVal_setFence_ne (h : Hw) {k j : Nat} (v : Nat) (ne : j ≠ k) : fenceVal (setFence h k v) j = fenceVal h j := mget_mset_ne _ _ _ ne

end Sys2Proof.Machine
end

