-- ==== Sys2Proof/Laws/Ops.lean ====
section
/-! SUPPORT. What the shared operations leave alone: records, alerts, frames, the halt of a start, retracts. -/
namespace Sys2Proof.Machine

theorem foldl_note (e : EvRec) (l : List Sub) (h : Hw) :
    ∃ o, l.foldl (fun h s => if s.path = 0x1800 ∧ s.pe / 16 = 0x016 then emit h (.recordNote s.session e) else h) h = { h with out := o } := by
  induction l generalizing h with
  | nil => exact ⟨h.out, rfl⟩
  | cons s r ih =>
    rw [List.foldl_cons]
    split
    · obtain ⟨o, ho⟩ := ih (emit h (.recordNote s.session e))
      exact ⟨o, ho⟩
    · exact ih h

/-- What every step of a fold keeps, the fold keeps. -/
theorem foldl_keeps {α β : Type} (π : Hw → α) (g : Hw → β → Hw) (l : List β) (k : ∀ h b, π (g h b) = π h) (h : Hw) :
    π (l.foldl g h) = π h := by
  induction l generalizing h with
  | nil => rfl
  | cons b r ih => rw [List.foldl_cons, ih, k]

/-- A record changes the recorder, the outputs and EV_IRQS.DROP only (R617-R619). -/
theorem raiseRecord_only (h : Hw) (u c v d : Nat) (b : Bool) :
    ∃ l o, raiseRecord h u c v d b = { h with log := l, out := o } ∨
      raiseRecord h u c v d b = setF { h with log := l, out := o } EV_IRQS_DROP 0 1 := by
  have hn : ∀ e, ∃ o, notifyRecord h e = { h with out := o } := fun e => foldl_note e h.dict.subs h
  have hq : ∀ e, ∃ l o, queueEvent h e = { h with log := l, out := o } ∨ queueEvent h e = setF { h with log := l, out := o } EV_IRQS_DROP 0 1 := by
    intro e
    unfold queueEvent
    split
    · exact ⟨_, _, .inl rfl⟩
    · exact ⟨_, _, .inr rfl⟩
  unfold raiseRecord
  dsimp only
  repeat' split
  all_goals first
    | exact hq _
    | exact ⟨_, _, .inl (hn _).choose_spec⟩
    | exact ⟨_, _, .inl rfl⟩


/-! `addF`. -/

@[simp] theorem addF_bridges (h : Hw) (f : Fld) (d n : Nat) : (addF h f d n).bridges = h.bridges := (rfl)
@[simp] theorem addF_tap (h : Hw) (f : Fld) (d n : Nat) : (addF h f d n).tap = h.tap := (rfl)
@[simp] theorem addF_fuses (h : Hw) (f : Fld) (d n : Nat) : (addF h f d n).fuses = h.fuses := (rfl)
@[simp] theorem addF_pins (h : Hw) (f : Fld) (d n : Nat) : (addF h f d n).pins = h.pins := (rfl)
@[simp] theorem addF_boot (h : Hw) (f : Fld) (d n : Nat) : (addF h f d n).boot = h.boot := (rfl)
@[simp] theorem addF_links (h : Hw) (f : Fld) (d n : Nat) : (addF h f d n).links = h.links := (rfl)
@[simp] theorem addF_units (h : Hw) (f : Fld) (d n : Nat) : (addF h f d n).units = h.units := (rfl)
@[simp] theorem addF_fences (h : Hw) (f : Fld) (d n : Nat) : (addF h f d n).fences = h.fences := (rfl)
@[simp] theorem addF_log (h : Hw) (f : Fld) (d n : Nat) : (addF h f d n).log = h.log := (rfl)
@[simp] theorem addF_mgmt (h : Hw) (f : Fld) (d n : Nat) : (addF h f d n).mgmt = h.mgmt := (rfl)
@[simp] theorem addF_dict (h : Hw) (f : Fld) (d n : Nat) : (addF h f d n).dict = h.dict := (rfl)
@[simp] theorem addF_island (h : Hw) (f : Fld) (d n : Nat) : (addF h f d n).island = h.island := (rfl)
@[simp] theorem addF_carriages (h : Hw) (f : Fld) (d n : Nat) : (addF h f d n).carriages = h.carriages := (rfl)
@[simp] theorem addF_spindle (h : Hw) (f : Fld) (d n : Nat) : (addF h f d n).spindle = h.spindle := (rfl)
@[simp] theorem addF_drives (h : Hw) (f : Fld) (d n : Nat) : (addF h f d n).drives = h.drives := (rfl)
@[simp] theorem addF_portA (h : Hw) (f : Fld) (d n : Nat) : (addF h f d n).portA = h.portA := (rfl)
@[simp] theorem addF_portB (h : Hw) (f : Fld) (d n : Nat) : (addF h f d n).portB = h.portB := (rfl)
@[simp] theorem addF_engine (h : Hw) (f : Fld) (d n : Nat) : (addF h f d n).engine = h.engine := (rfl)
@[simp] theorem addF_buffer (h : Hw) (f : Fld) (d n : Nat) : (addF h f d n).buffer = h.buffer := (rfl)
@[simp] theorem addF_dma (h : Hw) (f : Fld) (d n : Nat) : (addF h f d n).dma = h.dma := (rfl)
@[simp] theorem addF_cores (h : Hw) (f : Fld) (d n : Nat) : (addF h f d n).cores = h.cores := (rfl)
@[simp] theorem addF_cluster (h : Hw) (f : Fld) (d n : Nat) : (addF h f d n).cluster = h.cluster := (rfl)
@[simp] theorem addF_cipher (h : Hw) (f : Fld) (d n : Nat) : (addF h f d n).cipher = h.cipher := (rfl)
@[simp] theorem addF_twin (h : Hw) (f : Fld) (d n : Nat) : (addF h f d n).twin = h.twin := (rfl)
@[simp] theorem addF_mem (h : Hw) (f : Fld) (d n : Nat) : (addF h f d n).mem = h.mem := (rfl)
@[simp] theorem addF_freeCtr (h : Hw) (f : Fld) (d n : Nat) : (addF h f d n).freeCtr = h.freeCtr := (rfl)

/-! `satF`. -/

@[simp] theorem satF_bridges (h : Hw) (f : Fld) (d n : Nat) : (satF h f d n).bridges = h.bridges := (rfl)
@[simp] theorem satF_tap (h : Hw) (f : Fld) (d n : Nat) : (satF h f d n).tap = h.tap := (rfl)
@[simp] theorem satF_fuses (h : Hw) (f : Fld) (d n : Nat) : (satF h f d n).fuses = h.fuses := (rfl)
@[simp] theorem satF_pins (h : Hw) (f : Fld) (d n : Nat) : (satF h f d n).pins = h.pins := (rfl)
@[simp] theorem satF_boot (h : Hw) (f : Fld) (d n : Nat) : (satF h f d n).boot = h.boot := (rfl)
@[simp] theorem satF_links (h : Hw) (f : Fld) (d n : Nat) : (satF h f d n).links = h.links := (rfl)
@[simp] theorem satF_units (h : Hw) (f : Fld) (d n : Nat) : (satF h f d n).units = h.units := (rfl)
@[simp] theorem satF_fences (h : Hw) (f : Fld) (d n : Nat) : (satF h f d n).fences = h.fences := (rfl)
@[simp] theorem satF_log (h : Hw) (f : Fld) (d n : Nat) : (satF h f d n).log = h.log := (rfl)
@[simp] theorem satF_mgmt (h : Hw) (f : Fld) (d n : Nat) : (satF h f d n).mgmt = h.mgmt := (rfl)
@[simp] theorem satF_dict (h : Hw) (f : Fld) (d n : Nat) : (satF h f d n).dict = h.dict := (rfl)
@[simp] theorem satF_island (h : Hw) (f : Fld) (d n : Nat) : (satF h f d n).island = h.island := (rfl)
@[simp] theorem satF_carriages (h : Hw) (f : Fld) (d n : Nat) : (satF h f d n).carriages = h.carriages := (rfl)
@[simp] theorem satF_spindle (h : Hw) (f : Fld) (d n : Nat) : (satF h f d n).spindle = h.spindle := (rfl)
@[simp] theorem satF_drives (h : Hw) (f : Fld) (d n : Nat) : (satF h f d n).drives = h.drives := (rfl)
@[simp] theorem satF_portA (h : Hw) (f : Fld) (d n : Nat) : (satF h f d n).portA = h.portA := (rfl)
@[simp] theorem satF_portB (h : Hw) (f : Fld) (d n : Nat) : (satF h f d n).portB = h.portB := (rfl)
@[simp] theorem satF_engine (h : Hw) (f : Fld) (d n : Nat) : (satF h f d n).engine = h.engine := (rfl)
@[simp] theorem satF_buffer (h : Hw) (f : Fld) (d n : Nat) : (satF h f d n).buffer = h.buffer := (rfl)
@[simp] theorem satF_dma (h : Hw) (f : Fld) (d n : Nat) : (satF h f d n).dma = h.dma := (rfl)
@[simp] theorem satF_cores (h : Hw) (f : Fld) (d n : Nat) : (satF h f d n).cores = h.cores := (rfl)
@[simp] theorem satF_cluster (h : Hw) (f : Fld) (d n : Nat) : (satF h f d n).cluster = h.cluster := (rfl)
@[simp] theorem satF_cipher (h : Hw) (f : Fld) (d n : Nat) : (satF h f d n).cipher = h.cipher := (rfl)
@[simp] theorem satF_twin (h : Hw) (f : Fld) (d n : Nat) : (satF h f d n).twin = h.twin := (rfl)
@[simp] theorem satF_mem (h : Hw) (f : Fld) (d n : Nat) : (satF h f d n).mem = h.mem := (rfl)
@[simp] theorem satF_freeCtr (h : Hw) (f : Fld) (d n : Nat) : (satF h f d n).freeCtr = h.freeCtr := (rfl)

/-! `setS`. -/

@[simp] theorem setS_bridges (h : Hw) (f : Fld) (d : Nat) (i : Int) : (setS h f d i).bridges = h.bridges := (rfl)
@[simp] theorem setS_tap (h : Hw) (f : Fld) (d : Nat) (i : Int) : (setS h f d i).tap = h.tap := (rfl)
@[simp] theorem setS_fuses (h : Hw) (f : Fld) (d : Nat) (i : Int) : (setS h f d i).fuses = h.fuses := (rfl)
@[simp] theorem setS_pins (h : Hw) (f : Fld) (d : Nat) (i : Int) : (setS h f d i).pins = h.pins := (rfl)
@[simp] theorem setS_boot (h : Hw) (f : Fld) (d : Nat) (i : Int) : (setS h f d i).boot = h.boot := (rfl)
@[simp] theorem setS_links (h : Hw) (f : Fld) (d : Nat) (i : Int) : (setS h f d i).links = h.links := (rfl)
@[simp] theorem setS_units (h : Hw) (f : Fld) (d : Nat) (i : Int) : (setS h f d i).units = h.units := (rfl)
@[simp] theorem setS_fences (h : Hw) (f : Fld) (d : Nat) (i : Int) : (setS h f d i).fences = h.fences := (rfl)
@[simp] theorem setS_log (h : Hw) (f : Fld) (d : Nat) (i : Int) : (setS h f d i).log = h.log := (rfl)
@[simp] theorem setS_mgmt (h : Hw) (f : Fld) (d : Nat) (i : Int) : (setS h f d i).mgmt = h.mgmt := (rfl)
@[simp] theorem setS_dict (h : Hw) (f : Fld) (d : Nat) (i : Int) : (setS h f d i).dict = h.dict := (rfl)
@[simp] theorem setS_island (h : Hw) (f : Fld) (d : Nat) (i : Int) : (setS h f d i).island = h.island := (rfl)
@[simp] theorem setS_carriages (h : Hw) (f : Fld) (d : Nat) (i : Int) : (setS h f d i).carriages = h.carriages := (rfl)
@[simp] theorem setS_spindle (h : Hw) (f : Fld) (d : Nat) (i : Int) : (setS h f d i).spindle = h.spindle := (rfl)
@[simp] theorem setS_drives (h : Hw) (f : Fld) (d : Nat) (i : Int) : (setS h f d i).drives = h.drives := (rfl)
@[simp] theorem setS_portA (h : Hw) (f : Fld) (d : Nat) (i : Int) : (setS h f d i).portA = h.portA := (rfl)
@[simp] theorem setS_portB (h : Hw) (f : Fld) (d : Nat) (i : Int) : (setS h f d i).portB = h.portB := (rfl)
@[simp] theorem setS_engine (h : Hw) (f : Fld) (d : Nat) (i : Int) : (setS h f d i).engine = h.engine := (rfl)
@[simp] theorem setS_buffer (h : Hw) (f : Fld) (d : Nat) (i : Int) : (setS h f d i).buffer = h.buffer := (rfl)
@[simp] theorem setS_dma (h : Hw) (f : Fld) (d : Nat) (i : Int) : (setS h f d i).dma = h.dma := (rfl)
@[simp] theorem setS_cores (h : Hw) (f : Fld) (d : Nat) (i : Int) : (setS h f d i).cores = h.cores := (rfl)
@[simp] theorem setS_cluster (h : Hw) (f : Fld) (d : Nat) (i : Int) : (setS h f d i).cluster = h.cluster := (rfl)
@[simp] theorem setS_cipher (h : Hw) (f : Fld) (d : Nat) (i : Int) : (setS h f d i).cipher = h.cipher := (rfl)
@[simp] theorem setS_twin (h : Hw) (f : Fld) (d : Nat) (i : Int) : (setS h f d i).twin = h.twin := (rfl)
@[simp] theorem setS_mem (h : Hw) (f : Fld) (d : Nat) (i : Int) : (setS h f d i).mem = h.mem := (rfl)
@[simp] theorem setS_freeCtr (h : Hw) (f : Fld) (d : Nat) (i : Int) : (setS h f d i).freeCtr = h.freeCtr := (rfl)

/-! `resetRegs`. -/

@[simp] theorem resetRegs_bridges (h : Hw) (k : ResetKind) (sel : Nat → Bool) : (resetRegs h k sel).bridges = h.bridges := (rfl)
@[simp] theorem resetRegs_tap (h : Hw) (k : ResetKind) (sel : Nat → Bool) : (resetRegs h k sel).tap = h.tap := (rfl)
@[simp] theorem resetRegs_fuses (h : Hw) (k : ResetKind) (sel : Nat → Bool) : (resetRegs h k sel).fuses = h.fuses := (rfl)
@[simp] theorem resetRegs_pins (h : Hw) (k : ResetKind) (sel : Nat → Bool) : (resetRegs h k sel).pins = h.pins := (rfl)
@[simp] theorem resetRegs_boot (h : Hw) (k : ResetKind) (sel : Nat → Bool) : (resetRegs h k sel).boot = h.boot := (rfl)
@[simp] theorem resetRegs_links (h : Hw) (k : ResetKind) (sel : Nat → Bool) : (resetRegs h k sel).links = h.links := (rfl)
@[simp] theorem resetRegs_units (h : Hw) (k : ResetKind) (sel : Nat → Bool) : (resetRegs h k sel).units = h.units := (rfl)
@[simp] theorem resetRegs_fences (h : Hw) (k : ResetKind) (sel : Nat → Bool) : (resetRegs h k sel).fences = h.fences := (rfl)
@[simp] theorem resetRegs_log (h : Hw) (k : ResetKind) (sel : Nat → Bool) : (resetRegs h k sel).log = h.log := (rfl)
@[simp] theorem resetRegs_mgmt (h : Hw) (k : ResetKind) (sel : Nat → Bool) : (resetRegs h k sel).mgmt = h.mgmt := (rfl)
@[simp] theorem resetRegs_dict (h : Hw) (k : ResetKind) (sel : Nat → Bool) : (resetRegs h k sel).dict = h.dict := (rfl)
@[simp] theorem resetRegs_island (h : Hw) (k : ResetKind) (sel : Nat → Bool) : (resetRegs h k sel).island = h.island := (rfl)
@[simp] theorem resetRegs_carriages (h : Hw) (k : ResetKind) (sel : Nat → Bool) : (resetRegs h k sel).carriages = h.carriages := (rfl)
@[simp] theorem resetRegs_spindle (h : Hw) (k : ResetKind) (sel : Nat → Bool) : (resetRegs h k sel).spindle = h.spindle := (rfl)
@[simp] theorem resetRegs_drives (h : Hw) (k : ResetKind) (sel : Nat → Bool) : (resetRegs h k sel).drives = h.drives := (rfl)
@[simp] theorem resetRegs_portA (h : Hw) (k : ResetKind) (sel : Nat → Bool) : (resetRegs h k sel).portA = h.portA := (rfl)
@[simp] theorem resetRegs_portB (h : Hw) (k : ResetKind) (sel : Nat → Bool) : (resetRegs h k sel).portB = h.portB := (rfl)
@[simp] theorem resetRegs_engine (h : Hw) (k : ResetKind) (sel : Nat → Bool) : (resetRegs h k sel).engine = h.engine := (rfl)
@[simp] theorem resetRegs_buffer (h : Hw) (k : ResetKind) (sel : Nat → Bool) : (resetRegs h k sel).buffer = h.buffer := (rfl)
@[simp] theorem resetRegs_dma (h : Hw) (k : ResetKind) (sel : Nat → Bool) : (resetRegs h k sel).dma = h.dma := (rfl)
@[simp] theorem resetRegs_cores (h : Hw) (k : ResetKind) (sel : Nat → Bool) : (resetRegs h k sel).cores = h.cores := (rfl)
@[simp] theorem resetRegs_cluster (h : Hw) (k : ResetKind) (sel : Nat → Bool) : (resetRegs h k sel).cluster = h.cluster := (rfl)
@[simp] theorem resetRegs_cipher (h : Hw) (k : ResetKind) (sel : Nat → Bool) : (resetRegs h k sel).cipher = h.cipher := (rfl)
@[simp] theorem resetRegs_twin (h : Hw) (k : ResetKind) (sel : Nat → Bool) : (resetRegs h k sel).twin = h.twin := (rfl)
@[simp] theorem resetRegs_mem (h : Hw) (k : ResetKind) (sel : Nat → Bool) : (resetRegs h k sel).mem = h.mem := (rfl)
@[simp] theorem resetRegs_freeCtr (h : Hw) (k : ResetKind) (sel : Nat → Bool) : (resetRegs h k sel).freeCtr = h.freeCtr := (rfl)

/-! `resetUnitRegs`. -/

@[simp] theorem resetUnitRegs_bridges (h : Hw) (u : Nat) : (resetUnitRegs h u).bridges = h.bridges := (rfl)
@[simp] theorem resetUnitRegs_tap (h : Hw) (u : Nat) : (resetUnitRegs h u).tap = h.tap := (rfl)
@[simp] theorem resetUnitRegs_fuses (h : Hw) (u : Nat) : (resetUnitRegs h u).fuses = h.fuses := (rfl)
@[simp] theorem resetUnitRegs_pins (h : Hw) (u : Nat) : (resetUnitRegs h u).pins = h.pins := (rfl)
@[simp] theorem resetUnitRegs_boot (h : Hw) (u : Nat) : (resetUnitRegs h u).boot = h.boot := (rfl)
@[simp] theorem resetUnitRegs_links (h : Hw) (u : Nat) : (resetUnitRegs h u).links = h.links := (rfl)
@[simp] theorem resetUnitRegs_units (h : Hw) (u : Nat) : (resetUnitRegs h u).units = h.units := (rfl)
@[simp] theorem resetUnitRegs_fences (h : Hw) (u : Nat) : (resetUnitRegs h u).fences = h.fences := (rfl)
@[simp] theorem resetUnitRegs_log (h : Hw) (u : Nat) : (resetUnitRegs h u).log = h.log := (rfl)
@[simp] theorem resetUnitRegs_mgmt (h : Hw) (u : Nat) : (resetUnitRegs h u).mgmt = h.mgmt := (rfl)
@[simp] theorem resetUnitRegs_dict (h : Hw) (u : Nat) : (resetUnitRegs h u).dict = h.dict := (rfl)
@[simp] theorem resetUnitRegs_island (h : Hw) (u : Nat) : (resetUnitRegs h u).island = h.island := (rfl)
@[simp] theorem resetUnitRegs_carriages (h : Hw) (u : Nat) : (resetUnitRegs h u).carriages = h.carriages := (rfl)
@[simp] theorem resetUnitRegs_spindle (h : Hw) (u : Nat) : (resetUnitRegs h u).spindle = h.spindle := (rfl)
@[simp] theorem resetUnitRegs_drives (h : Hw) (u : Nat) : (resetUnitRegs h u).drives = h.drives := (rfl)
@[simp] theorem resetUnitRegs_portA (h : Hw) (u : Nat) : (resetUnitRegs h u).portA = h.portA := (rfl)
@[simp] theorem resetUnitRegs_portB (h : Hw) (u : Nat) : (resetUnitRegs h u).portB = h.portB := (rfl)
@[simp] theorem resetUnitRegs_engine (h : Hw) (u : Nat) : (resetUnitRegs h u).engine = h.engine := (rfl)
@[simp] theorem resetUnitRegs_buffer (h : Hw) (u : Nat) : (resetUnitRegs h u).buffer = h.buffer := (rfl)
@[simp] theorem resetUnitRegs_dma (h : Hw) (u : Nat) : (resetUnitRegs h u).dma = h.dma := (rfl)
@[simp] theorem resetUnitRegs_cores (h : Hw) (u : Nat) : (resetUnitRegs h u).cores = h.cores := (rfl)
@[simp] theorem resetUnitRegs_cluster (h : Hw) (u : Nat) : (resetUnitRegs h u).cluster = h.cluster := (rfl)
@[simp] theorem resetUnitRegs_cipher (h : Hw) (u : Nat) : (resetUnitRegs h u).cipher = h.cipher := (rfl)
@[simp] theorem resetUnitRegs_twin (h : Hw) (u : Nat) : (resetUnitRegs h u).twin = h.twin := (rfl)
@[simp] theorem resetUnitRegs_mem (h : Hw) (u : Nat) : (resetUnitRegs h u).mem = h.mem := (rfl)
@[simp] theorem resetUnitRegs_freeCtr (h : Hw) (u : Nat) : (resetUnitRegs h u).freeCtr = h.freeCtr := (rfl)

/-! `fenceSet`. -/

@[simp] theorem fenceSet_bridges (h : Hw) (k v : Nat) : (fenceSet h k v).bridges = h.bridges := by unfold fenceSet; split <;> simp
@[simp] theorem fenceSet_tap (h : Hw) (k v : Nat) : (fenceSet h k v).tap = h.tap := by unfold fenceSet; split <;> simp
@[simp] theorem fenceSet_fuses (h : Hw) (k v : Nat) : (fenceSet h k v).fuses = h.fuses := by unfold fenceSet; split <;> simp
@[simp] theorem fenceSet_pins (h : Hw) (k v : Nat) : (fenceSet h k v).pins = h.pins := by unfold fenceSet; split <;> simp
@[simp] theorem fenceSet_boot (h : Hw) (k v : Nat) : (fenceSet h k v).boot = h.boot := by unfold fenceSet; split <;> simp
@[simp] theorem fenceSet_links (h : Hw) (k v : Nat) : (fenceSet h k v).links = h.links := by unfold fenceSet; split <;> simp
@[simp] theorem fenceSet_units (h : Hw) (k v : Nat) : (fenceSet h k v).units = h.units := by unfold fenceSet; split <;> simp
@[simp] theorem fenceSet_log (h : Hw) (k v : Nat) : (fenceSet h k v).log = h.log := by unfold fenceSet; split <;> simp
@[simp] theorem fenceSet_mgmt (h : Hw) (k v : Nat) : (fenceSet h k v).mgmt = h.mgmt := by unfold fenceSet; split <;> simp
@[simp] theorem fenceSet_dict (h : Hw) (k v : Nat) : (fenceSet h k v).dict = h.dict := by unfold fenceSet; split <;> simp
@[simp] theorem fenceSet_island (h : Hw) (k v : Nat) : (fenceSet h k v).island = h.island := by unfold fenceSet; split <;> simp
@[simp] theorem fenceSet_carriages (h : Hw) (k v : Nat) : (fenceSet h k v).carriages = h.carriages := by unfold fenceSet; split <;> simp
@[simp] theorem fenceSet_spindle (h : Hw) (k v : Nat) : (fenceSet h k v).spindle = h.spindle := by unfold fenceSet; split <;> simp
@[simp] theorem fenceSet_drives (h : Hw) (k v : Nat) : (fenceSet h k v).drives = h.drives := by unfold fenceSet; split <;> simp
@[simp] theorem fenceSet_portA (h : Hw) (k v : Nat) : (fenceSet h k v).portA = h.portA := by unfold fenceSet; split <;> simp
@[simp] theorem fenceSet_portB (h : Hw) (k v : Nat) : (fenceSet h k v).portB = h.portB := by unfold fenceSet; split <;> simp
@[simp] theorem fenceSet_engine (h : Hw) (k v : Nat) : (fenceSet h k v).engine = h.engine := by unfold fenceSet; split <;> simp
@[simp] theorem fenceSet_buffer (h : Hw) (k v : Nat) : (fenceSet h k v).buffer = h.buffer := by unfold fenceSet; split <;> simp
@[simp] theorem fenceSet_dma (h : Hw) (k v : Nat) : (fenceSet h k v).dma = h.dma := by unfold fenceSet; split <;> simp
@[simp] theorem fenceSet_cores (h : Hw) (k v : Nat) : (fenceSet h k v).cores = h.cores := by unfold fenceSet; split <;> simp
@[simp] theorem fenceSet_cluster (h : Hw) (k v : Nat) : (fenceSet h k v).cluster = h.cluster := by unfold fenceSet; split <;> simp
@[simp] theorem fenceSet_cipher (h : Hw) (k v : Nat) : (fenceSet h k v).cipher = h.cipher := by unfold fenceSet; split <;> simp
@[simp] theorem fenceSet_twin (h : Hw) (k v : Nat) : (fenceSet h k v).twin = h.twin := by unfold fenceSet; split <;> simp
@[simp] theorem fenceSet_mem (h : Hw) (k v : Nat) : (fenceSet h k v).mem = h.mem := by unfold fenceSet; split <;> simp
@[simp] theorem fenceSet_freeCtr (h : Hw) (k v : Nat) : (fenceSet h k v).freeCtr = h.freeCtr := by unfold fenceSet; split <;> simp

/-! `raiseRecord`. -/

@[simp] theorem raiseRecord_bridges (h : Hw) (u c v d : Nat) (b : Bool) : (raiseRecord h u c v d b).bridges = h.bridges := by
  obtain ⟨l, o, e | e⟩ := raiseRecord_only h u c v d b <;> rw [e] <;> rfl
@[simp] theorem raiseRecord_tap (h : Hw) (u c v d : Nat) (b : Bool) : (raiseRecord h u c v d b).tap = h.tap := by
  obtain ⟨l, o, e | e⟩ := raiseRecord_only h u c v d b <;> rw [e] <;> rfl
@[simp] theorem raiseRecord_fuses (h : Hw) (u c v d : Nat) (b : Bool) : (raiseRecord h u c v d b).fuses = h.fuses := by
  obtain ⟨l, o, e | e⟩ := raiseRecord_only h u c v d b <;> rw [e] <;> rfl
@[simp] theorem raiseRecord_pins (h : Hw) (u c v d : Nat) (b : Bool) : (raiseRecord h u c v d b).pins = h.pins := by
  obtain ⟨l, o, e | e⟩ := raiseRecord_only h u c v d b <;> rw [e] <;> rfl
@[simp] theorem raiseRecord_boot (h : Hw) (u c v d : Nat) (b : Bool) : (raiseRecord h u c v d b).boot = h.boot := by
  obtain ⟨l, o, e | e⟩ := raiseRecord_only h u c v d b <;> rw [e] <;> rfl
@[simp] theorem raiseRecord_links (h : Hw) (u c v d : Nat) (b : Bool) : (raiseRecord h u c v d b).links = h.links := by
  obtain ⟨l, o, e | e⟩ := raiseRecord_only h u c v d b <;> rw [e] <;> rfl
@[simp] theorem raiseRecord_units (h : Hw) (u c v d : Nat) (b : Bool) : (raiseRecord h u c v d b).units = h.units := by
  obtain ⟨l, o, e | e⟩ := raiseRecord_only h u c v d b <;> rw [e] <;> rfl
@[simp] theorem raiseRecord_fences (h : Hw) (u c v d : Nat) (b : Bool) : (raiseRecord h u c v d b).fences = h.fences := by
  obtain ⟨l, o, e | e⟩ := raiseRecord_only h u c v d b <;> rw [e] <;> rfl
@[simp] theorem raiseRecord_mgmt (h : Hw) (u c v d : Nat) (b : Bool) : (raiseRecord h u c v d b).mgmt = h.mgmt := by
  obtain ⟨l, o, e | e⟩ := raiseRecord_only h u c v d b <;> rw [e] <;> rfl
@[simp] theorem raiseRecord_dict (h : Hw) (u c v d : Nat) (b : Bool) : (raiseRecord h u c v d b).dict = h.dict := by
  obtain ⟨l, o, e | e⟩ := raiseRecord_only h u c v d b <;> rw [e] <;> rfl
@[simp] theorem raiseRecord_island (h : Hw) (u c v d : Nat) (b : Bool) : (raiseRecord h u c v d b).island = h.island := by
  obtain ⟨l, o, e | e⟩ := raiseRecord_only h u c v d b <;> rw [e] <;> rfl
@[simp] theorem raiseRecord_carriages (h : Hw) (u c v d : Nat) (b : Bool) : (raiseRecord h u c v d b).carriages = h.carriages := by
  obtain ⟨l, o, e | e⟩ := raiseRecord_only h u c v d b <;> rw [e] <;> rfl
@[simp] theorem raiseRecord_spindle (h : Hw) (u c v d : Nat) (b : Bool) : (raiseRecord h u c v d b).spindle = h.spindle := by
  obtain ⟨l, o, e | e⟩ := raiseRecord_only h u c v d b <;> rw [e] <;> rfl
@[simp] theorem raiseRecord_drives (h : Hw) (u c v d : Nat) (b : Bool) : (raiseRecord h u c v d b).drives = h.drives := by
  obtain ⟨l, o, e | e⟩ := raiseRecord_only h u c v d b <;> rw [e] <;> rfl
@[simp] theorem raiseRecord_portA (h : Hw) (u c v d : Nat) (b : Bool) : (raiseRecord h u c v d b).portA = h.portA := by
  obtain ⟨l, o, e | e⟩ := raiseRecord_only h u c v d b <;> rw [e] <;> rfl
@[simp] theorem raiseRecord_portB (h : Hw) (u c v d : Nat) (b : Bool) : (raiseRecord h u c v d b).portB = h.portB := by
  obtain ⟨l, o, e | e⟩ := raiseRecord_only h u c v d b <;> rw [e] <;> rfl
@[simp] theorem raiseRecord_engine (h : Hw) (u c v d : Nat) (b : Bool) : (raiseRecord h u c v d b).engine = h.engine := by
  obtain ⟨l, o, e | e⟩ := raiseRecord_only h u c v d b <;> rw [e] <;> rfl
@[simp] theorem raiseRecord_buffer (h : Hw) (u c v d : Nat) (b : Bool) : (raiseRecord h u c v d b).buffer = h.buffer := by
  obtain ⟨l, o, e | e⟩ := raiseRecord_only h u c v d b <;> rw [e] <;> rfl
@[simp] theorem raiseRecord_dma (h : Hw) (u c v d : Nat) (b : Bool) : (raiseRecord h u c v d b).dma = h.dma := by
  obtain ⟨l, o, e | e⟩ := raiseRecord_only h u c v d b <;> rw [e] <;> rfl
@[simp] theorem raiseRecord_cores (h : Hw) (u c v d : Nat) (b : Bool) : (raiseRecord h u c v d b).cores = h.cores := by
  obtain ⟨l, o, e | e⟩ := raiseRecord_only h u c v d b <;> rw [e] <;> rfl
@[simp] theorem raiseRecord_cluster (h : Hw) (u c v d : Nat) (b : Bool) : (raiseRecord h u c v d b).cluster = h.cluster := by
  obtain ⟨l, o, e | e⟩ := raiseRecord_only h u c v d b <;> rw [e] <;> rfl
@[simp] theorem raiseRecord_cipher (h : Hw) (u c v d : Nat) (b : Bool) : (raiseRecord h u c v d b).cipher = h.cipher := by
  obtain ⟨l, o, e | e⟩ := raiseRecord_only h u c v d b <;> rw [e] <;> rfl
@[simp] theorem raiseRecord_twin (h : Hw) (u c v d : Nat) (b : Bool) : (raiseRecord h u c v d b).twin = h.twin := by
  obtain ⟨l, o, e | e⟩ := raiseRecord_only h u c v d b <;> rw [e] <;> rfl
@[simp] theorem raiseRecord_mem (h : Hw) (u c v d : Nat) (b : Bool) : (raiseRecord h u c v d b).mem = h.mem := by
  obtain ⟨l, o, e | e⟩ := raiseRecord_only h u c v d b <;> rw [e] <;> rfl
@[simp] theorem raiseRecord_freeCtr (h : Hw) (u c v d : Nat) (b : Bool) : (raiseRecord h u c v d b).freeCtr = h.freeCtr := by
  obtain ⟨l, o, e | e⟩ := raiseRecord_only h u c v d b <;> rw [e] <;> rfl

theorem raiseRecord_getReg (h : Hw) (u c v d : Nat) (b : Bool) {a : Nat} (ne : a ≠ EV_IRQS_DROP.key) : getReg (raiseRecord h u c v d b) a = getReg h a := by
  obtain ⟨l, o, e | e⟩ := raiseRecord_only h u c v d b
  · rw [e]; rfl
  · rw [e, getReg_setF_ne _ _ _ _ (by simpa using ne)]; rfl
theorem raiseRecord_getF (h : Hw) (u c v d : Nat) (b : Bool) (g : Fld) (i : Nat) (ne : g.key + i ≠ EV_IRQS_DROP.key) : getF (raiseRecord h u c v d b) g i = getF h g i := by
  unfold getF; rw [raiseRecord_getReg _ _ _ _ _ _ ne]

/-! `ruleRecord`. -/

@[simp] theorem ruleRecord_bridges (h : Hw) (u n v d : Nat) : (ruleRecord h u n v d).bridges = h.bridges := by simp [ruleRecord]
@[simp] theorem ruleRecord_tap (h : Hw) (u n v d : Nat) : (ruleRecord h u n v d).tap = h.tap := by simp [ruleRecord]
@[simp] theorem ruleRecord_fuses (h : Hw) (u n v d : Nat) : (ruleRecord h u n v d).fuses = h.fuses := by simp [ruleRecord]
@[simp] theorem ruleRecord_pins (h : Hw) (u n v d : Nat) : (ruleRecord h u n v d).pins = h.pins := by simp [ruleRecord]
@[simp] theorem ruleRecord_boot (h : Hw) (u n v d : Nat) : (ruleRecord h u n v d).boot = h.boot := by simp [ruleRecord]
@[simp] theorem ruleRecord_links (h : Hw) (u n v d : Nat) : (ruleRecord h u n v d).links = h.links := by simp [ruleRecord]
@[simp] theorem ruleRecord_units (h : Hw) (u n v d : Nat) : (ruleRecord h u n v d).units = h.units := by simp [ruleRecord]
@[simp] theorem ruleRecord_fences (h : Hw) (u n v d : Nat) : (ruleRecord h u n v d).fences = h.fences := by simp [ruleRecord]
@[simp] theorem ruleRecord_mgmt (h : Hw) (u n v d : Nat) : (ruleRecord h u n v d).mgmt = h.mgmt := by simp [ruleRecord]
@[simp] theorem ruleRecord_dict (h : Hw) (u n v d : Nat) : (ruleRecord h u n v d).dict = h.dict := by simp [ruleRecord]
@[simp] theorem ruleRecord_island (h : Hw) (u n v d : Nat) : (ruleRecord h u n v d).island = h.island := by simp [ruleRecord]
@[simp] theorem ruleRecord_carriages (h : Hw) (u n v d : Nat) : (ruleRecord h u n v d).carriages = h.carriages := by simp [ruleRecord]
@[simp] theorem ruleRecord_spindle (h : Hw) (u n v d : Nat) : (ruleRecord h u n v d).spindle = h.spindle := by simp [ruleRecord]
@[simp] theorem ruleRecord_drives (h : Hw) (u n v d : Nat) : (ruleRecord h u n v d).drives = h.drives := by simp [ruleRecord]
@[simp] theorem ruleRecord_portA (h : Hw) (u n v d : Nat) : (ruleRecord h u n v d).portA = h.portA := by simp [ruleRecord]
@[simp] theorem ruleRecord_portB (h : Hw) (u n v d : Nat) : (ruleRecord h u n v d).portB = h.portB := by simp [ruleRecord]
@[simp] theorem ruleRecord_engine (h : Hw) (u n v d : Nat) : (ruleRecord h u n v d).engine = h.engine := by simp [ruleRecord]
@[simp] theorem ruleRecord_buffer (h : Hw) (u n v d : Nat) : (ruleRecord h u n v d).buffer = h.buffer := by simp [ruleRecord]
@[simp] theorem ruleRecord_dma (h : Hw) (u n v d : Nat) : (ruleRecord h u n v d).dma = h.dma := by simp [ruleRecord]
@[simp] theorem ruleRecord_cores (h : Hw) (u n v d : Nat) : (ruleRecord h u n v d).cores = h.cores := by simp [ruleRecord]
@[simp] theorem ruleRecord_cluster (h : Hw) (u n v d : Nat) : (ruleRecord h u n v d).cluster = h.cluster := by simp [ruleRecord]
@[simp] theorem ruleRecord_cipher (h : Hw) (u n v d : Nat) : (ruleRecord h u n v d).cipher = h.cipher := by simp [ruleRecord]
@[simp] theorem ruleRecord_twin (h : Hw) (u n v d : Nat) : (ruleRecord h u n v d).twin = h.twin := by simp [ruleRecord]
@[simp] theorem ruleRecord_mem (h : Hw) (u n v d : Nat) : (ruleRecord h u n v d).mem = h.mem := by simp [ruleRecord]
@[simp] theorem ruleRecord_freeCtr (h : Hw) (u n v d : Nat) : (ruleRecord h u n v d).freeCtr = h.freeCtr := by simp [ruleRecord]

theorem ruleRecord_getReg (h : Hw) (u n v d : Nat) {a : Nat} (ne : a ≠ EV_IRQS_DROP.key) : getReg (ruleRecord h u n v d) a = getReg h a := raiseRecord_getReg _ _ _ _ _ _ ne
theorem ruleRecord_getF (h : Hw) (u n v d : Nat) (g : Fld) (i : Nat) (ne : g.key + i ≠ EV_IRQS_DROP.key) : getF (ruleRecord h u n v d) g i = getF h g i := raiseRecord_getF _ _ _ _ _ _ _ _ ne

/-! `txFrame`. -/

@[simp] theorem txFrame_bridges (h : Hw) (f : Frame) : (txFrame h f).bridges = h.bridges := by unfold txFrame; split <;> simp
@[simp] theorem txFrame_tap (h : Hw) (f : Frame) : (txFrame h f).tap = h.tap := by unfold txFrame; split <;> simp
@[simp] theorem txFrame_fuses (h : Hw) (f : Frame) : (txFrame h f).fuses = h.fuses := by unfold txFrame; split <;> simp
@[simp] theorem txFrame_pins (h : Hw) (f : Frame) : (txFrame h f).pins = h.pins := by unfold txFrame; split <;> simp
@[simp] theorem txFrame_boot (h : Hw) (f : Frame) : (txFrame h f).boot = h.boot := by unfold txFrame; split <;> simp
@[simp] theorem txFrame_links (h : Hw) (f : Frame) : (txFrame h f).links = h.links := by unfold txFrame; split <;> simp
@[simp] theorem txFrame_units (h : Hw) (f : Frame) : (txFrame h f).units = h.units := by unfold txFrame; split <;> simp
@[simp] theorem txFrame_fences (h : Hw) (f : Frame) : (txFrame h f).fences = h.fences := by unfold txFrame; split <;> simp
@[simp] theorem txFrame_log (h : Hw) (f : Frame) : (txFrame h f).log = h.log := by unfold txFrame; split <;> simp
@[simp] theorem txFrame_dict (h : Hw) (f : Frame) : (txFrame h f).dict = h.dict := by unfold txFrame; split <;> simp
@[simp] theorem txFrame_island (h : Hw) (f : Frame) : (txFrame h f).island = h.island := by unfold txFrame; split <;> simp
@[simp] theorem txFrame_carriages (h : Hw) (f : Frame) : (txFrame h f).carriages = h.carriages := by unfold txFrame; split <;> simp
@[simp] theorem txFrame_spindle (h : Hw) (f : Frame) : (txFrame h f).spindle = h.spindle := by unfold txFrame; split <;> simp
@[simp] theorem txFrame_drives (h : Hw) (f : Frame) : (txFrame h f).drives = h.drives := by unfold txFrame; split <;> simp
@[simp] theorem txFrame_portA (h : Hw) (f : Frame) : (txFrame h f).portA = h.portA := by unfold txFrame; split <;> simp
@[simp] theorem txFrame_portB (h : Hw) (f : Frame) : (txFrame h f).portB = h.portB := by unfold txFrame; split <;> simp
@[simp] theorem txFrame_engine (h : Hw) (f : Frame) : (txFrame h f).engine = h.engine := by unfold txFrame; split <;> simp
@[simp] theorem txFrame_buffer (h : Hw) (f : Frame) : (txFrame h f).buffer = h.buffer := by unfold txFrame; split <;> simp
@[simp] theorem txFrame_dma (h : Hw) (f : Frame) : (txFrame h f).dma = h.dma := by unfold txFrame; split <;> simp
@[simp] theorem txFrame_cores (h : Hw) (f : Frame) : (txFrame h f).cores = h.cores := by unfold txFrame; split <;> simp
@[simp] theorem txFrame_cluster (h : Hw) (f : Frame) : (txFrame h f).cluster = h.cluster := by unfold txFrame; split <;> simp
@[simp] theorem txFrame_cipher (h : Hw) (f : Frame) : (txFrame h f).cipher = h.cipher := by unfold txFrame; split <;> simp
@[simp] theorem txFrame_twin (h : Hw) (f : Frame) : (txFrame h f).twin = h.twin := by unfold txFrame; split <;> simp
@[simp] theorem txFrame_mem (h : Hw) (f : Frame) : (txFrame h f).mem = h.mem := by unfold txFrame; split <;> simp
@[simp] theorem txFrame_freeCtr (h : Hw) (f : Frame) : (txFrame h f).freeCtr = h.freeCtr := by unfold txFrame; split <;> simp
@[simp] theorem txFrame_getF (h : Hw) (f : Frame) (g : Fld) (i : Nat) : getF (txFrame h f) g i = getF h g i := by unfold txFrame; split <;> simp

/-! `raiseAlert`. -/

@[simp] theorem raiseAlert_bridges (h : Hw) (c d : Nat) : (raiseAlert h c d).bridges = h.bridges := by unfold raiseAlert; (try dsimp only); (repeat' split) <;> simp
@[simp] theorem raiseAlert_tap (h : Hw) (c d : Nat) : (raiseAlert h c d).tap = h.tap := by unfold raiseAlert; (try dsimp only); (repeat' split) <;> simp
@[simp] theorem raiseAlert_fuses (h : Hw) (c d : Nat) : (raiseAlert h c d).fuses = h.fuses := by unfold raiseAlert; (try dsimp only); (repeat' split) <;> simp
@[simp] theorem raiseAlert_pins (h : Hw) (c d : Nat) : (raiseAlert h c d).pins = h.pins := by unfold raiseAlert; (try dsimp only); (repeat' split) <;> simp
@[simp] theorem raiseAlert_boot (h : Hw) (c d : Nat) : (raiseAlert h c d).boot = h.boot := by unfold raiseAlert; (try dsimp only); (repeat' split) <;> simp
@[simp] theorem raiseAlert_links (h : Hw) (c d : Nat) : (raiseAlert h c d).links = h.links := by unfold raiseAlert; (try dsimp only); (repeat' split) <;> simp
@[simp] theorem raiseAlert_units (h : Hw) (c d : Nat) : (raiseAlert h c d).units = h.units := by unfold raiseAlert; (try dsimp only); (repeat' split) <;> simp
@[simp] theorem raiseAlert_fences (h : Hw) (c d : Nat) : (raiseAlert h c d).fences = h.fences := by unfold raiseAlert; (try dsimp only); (repeat' split) <;> simp
@[simp] theorem raiseAlert_log (h : Hw) (c d : Nat) : (raiseAlert h c d).log = h.log := by unfold raiseAlert; (try dsimp only); (repeat' split) <;> simp
@[simp] theorem raiseAlert_dict (h : Hw) (c d : Nat) : (raiseAlert h c d).dict = h.dict := by unfold raiseAlert; (try dsimp only); (repeat' split) <;> simp
@[simp] theorem raiseAlert_island (h : Hw) (c d : Nat) : (raiseAlert h c d).island = h.island := by unfold raiseAlert; (try dsimp only); (repeat' split) <;> simp
@[simp] theorem raiseAlert_carriages (h : Hw) (c d : Nat) : (raiseAlert h c d).carriages = h.carriages := by unfold raiseAlert; (try dsimp only); (repeat' split) <;> simp
@[simp] theorem raiseAlert_spindle (h : Hw) (c d : Nat) : (raiseAlert h c d).spindle = h.spindle := by unfold raiseAlert; (try dsimp only); (repeat' split) <;> simp
@[simp] theorem raiseAlert_drives (h : Hw) (c d : Nat) : (raiseAlert h c d).drives = h.drives := by unfold raiseAlert; (try dsimp only); (repeat' split) <;> simp
@[simp] theorem raiseAlert_portA (h : Hw) (c d : Nat) : (raiseAlert h c d).portA = h.portA := by unfold raiseAlert; (try dsimp only); (repeat' split) <;> simp
@[simp] theorem raiseAlert_portB (h : Hw) (c d : Nat) : (raiseAlert h c d).portB = h.portB := by unfold raiseAlert; (try dsimp only); (repeat' split) <;> simp
@[simp] theorem raiseAlert_engine (h : Hw) (c d : Nat) : (raiseAlert h c d).engine = h.engine := by unfold raiseAlert; (try dsimp only); (repeat' split) <;> simp
@[simp] theorem raiseAlert_buffer (h : Hw) (c d : Nat) : (raiseAlert h c d).buffer = h.buffer := by unfold raiseAlert; (try dsimp only); (repeat' split) <;> simp
@[simp] theorem raiseAlert_dma (h : Hw) (c d : Nat) : (raiseAlert h c d).dma = h.dma := by unfold raiseAlert; (try dsimp only); (repeat' split) <;> simp
@[simp] theorem raiseAlert_cores (h : Hw) (c d : Nat) : (raiseAlert h c d).cores = h.cores := by unfold raiseAlert; (try dsimp only); (repeat' split) <;> simp
@[simp] theorem raiseAlert_cluster (h : Hw) (c d : Nat) : (raiseAlert h c d).cluster = h.cluster := by unfold raiseAlert; (try dsimp only); (repeat' split) <;> simp
@[simp] theorem raiseAlert_cipher (h : Hw) (c d : Nat) : (raiseAlert h c d).cipher = h.cipher := by unfold raiseAlert; (try dsimp only); (repeat' split) <;> simp
@[simp] theorem raiseAlert_twin (h : Hw) (c d : Nat) : (raiseAlert h c d).twin = h.twin := by unfold raiseAlert; (try dsimp only); (repeat' split) <;> simp
@[simp] theorem raiseAlert_mem (h : Hw) (c d : Nat) : (raiseAlert h c d).mem = h.mem := by unfold raiseAlert; (try dsimp only); (repeat' split) <;> simp
@[simp] theorem raiseAlert_freeCtr (h : Hw) (c d : Nat) : (raiseAlert h c d).freeCtr = h.freeCtr := by unfold raiseAlert; (try dsimp only); (repeat' split) <;> simp
@[simp] theorem raiseAlert_getF (h : Hw) (c d : Nat) (g : Fld) (i : Nat) : getF (raiseAlert h c d) g i = getF h g i := by unfold raiseAlert; (try dsimp only); (repeat' split) <;> simp

/-! `stopAlive`. -/

@[simp] theorem stopAlive_bridges (h : Hw) (c : Nat) : (stopAlive h c).bridges = h.bridges := by unfold stopAlive; split <;> simp
@[simp] theorem stopAlive_tap (h : Hw) (c : Nat) : (stopAlive h c).tap = h.tap := by unfold stopAlive; split <;> simp
@[simp] theorem stopAlive_fuses (h : Hw) (c : Nat) : (stopAlive h c).fuses = h.fuses := by unfold stopAlive; split <;> simp
@[simp] theorem stopAlive_pins (h : Hw) (c : Nat) : (stopAlive h c).pins = h.pins := by unfold stopAlive; split <;> simp
@[simp] theorem stopAlive_boot (h : Hw) (c : Nat) : (stopAlive h c).boot = h.boot := by unfold stopAlive; split <;> simp
@[simp] theorem stopAlive_links (h : Hw) (c : Nat) : (stopAlive h c).links = h.links := by unfold stopAlive; split <;> simp
@[simp] theorem stopAlive_units (h : Hw) (c : Nat) : (stopAlive h c).units = h.units := by unfold stopAlive; split <;> simp
@[simp] theorem stopAlive_fences (h : Hw) (c : Nat) : (stopAlive h c).fences = h.fences := by unfold stopAlive; split <;> simp
@[simp] theorem stopAlive_log (h : Hw) (c : Nat) : (stopAlive h c).log = h.log := by unfold stopAlive; split <;> simp
@[simp] theorem stopAlive_mgmt (h : Hw) (c : Nat) : (stopAlive h c).mgmt = h.mgmt := by unfold stopAlive; split <;> simp
@[simp] theorem stopAlive_dict (h : Hw) (c : Nat) : (stopAlive h c).dict = h.dict := by unfold stopAlive; split <;> simp
@[simp] theorem stopAlive_carriages (h : Hw) (c : Nat) : (stopAlive h c).carriages = h.carriages := by unfold stopAlive; split <;> simp
@[simp] theorem stopAlive_spindle (h : Hw) (c : Nat) : (stopAlive h c).spindle = h.spindle := by unfold stopAlive; split <;> simp
@[simp] theorem stopAlive_drives (h : Hw) (c : Nat) : (stopAlive h c).drives = h.drives := by unfold stopAlive; split <;> simp
@[simp] theorem stopAlive_portA (h : Hw) (c : Nat) : (stopAlive h c).portA = h.portA := by unfold stopAlive; split <;> simp
@[simp] theorem stopAlive_portB (h : Hw) (c : Nat) : (stopAlive h c).portB = h.portB := by unfold stopAlive; split <;> simp
@[simp] theorem stopAlive_engine (h : Hw) (c : Nat) : (stopAlive h c).engine = h.engine := by unfold stopAlive; split <;> simp
@[simp] theorem stopAlive_buffer (h : Hw) (c : Nat) : (stopAlive h c).buffer = h.buffer := by unfold stopAlive; split <;> simp
@[simp] theorem stopAlive_dma (h : Hw) (c : Nat) : (stopAlive h c).dma = h.dma := by unfold stopAlive; split <;> simp
@[simp] theorem stopAlive_cores (h : Hw) (c : Nat) : (stopAlive h c).cores = h.cores := by unfold stopAlive; split <;> simp
@[simp] theorem stopAlive_cluster (h : Hw) (c : Nat) : (stopAlive h c).cluster = h.cluster := by unfold stopAlive; split <;> simp
@[simp] theorem stopAlive_cipher (h : Hw) (c : Nat) : (stopAlive h c).cipher = h.cipher := by unfold stopAlive; split <;> simp
@[simp] theorem stopAlive_twin (h : Hw) (c : Nat) : (stopAlive h c).twin = h.twin := by unfold stopAlive; split <;> simp
@[simp] theorem stopAlive_mem (h : Hw) (c : Nat) : (stopAlive h c).mem = h.mem := by unfold stopAlive; split <;> simp
@[simp] theorem stopAlive_freeCtr (h : Hw) (c : Nat) : (stopAlive h c).freeCtr = h.freeCtr := by unfold stopAlive; split <;> simp
theorem stopAlive_getF (h : Hw) (c : Nat) (g : Fld) (i : Nat) (ne : g.key + i ≠ TH_HBSTAT_CAUSE.key) : getF (stopAlive h c) g i = getF h g i := by
  unfold stopAlive; split
  · rw [getF_setF_reg _ _ _ _ _ _ (by simpa using ne)]; rfl
  · rfl

/-! `haltStart`. -/

@[simp] theorem haltStart_bridges (h : Hw) : (haltStart h).bridges = h.bridges := by simp [haltStart]
@[simp] theorem haltStart_tap (h : Hw) : (haltStart h).tap = h.tap := by simp [haltStart]
@[simp] theorem haltStart_fuses (h : Hw) : (haltStart h).fuses = h.fuses := by simp [haltStart]
@[simp] theorem haltStart_pins (h : Hw) : (haltStart h).pins = h.pins := by simp [haltStart]
@[simp] theorem haltStart_boot (h : Hw) : (haltStart h).boot = h.boot := by simp [haltStart]
@[simp] theorem haltStart_links (h : Hw) : (haltStart h).links = h.links := by simp [haltStart]
@[simp] theorem haltStart_units (h : Hw) : (haltStart h).units = h.units := by simp [haltStart]
@[simp] theorem haltStart_fences (h : Hw) : (haltStart h).fences = h.fences := by simp [haltStart]
@[simp] theorem haltStart_log (h : Hw) : (haltStart h).log = h.log := by simp [haltStart]
@[simp] theorem haltStart_dict (h : Hw) : (haltStart h).dict = h.dict := by simp [haltStart]
@[simp] theorem haltStart_carriages (h : Hw) : (haltStart h).carriages = h.carriages := by simp [haltStart]
@[simp] theorem haltStart_spindle (h : Hw) : (haltStart h).spindle = h.spindle := by simp [haltStart]
@[simp] theorem haltStart_drives (h : Hw) : (haltStart h).drives = h.drives := by simp [haltStart]
@[simp] theorem haltStart_portA (h : Hw) : (haltStart h).portA = h.portA := by simp [haltStart]
@[simp] theorem haltStart_portB (h : Hw) : (haltStart h).portB = h.portB := by simp [haltStart]
@[simp] theorem haltStart_engine (h : Hw) : (haltStart h).engine = h.engine := by simp [haltStart]
@[simp] theorem haltStart_buffer (h : Hw) : (haltStart h).buffer = h.buffer := by simp [haltStart]
@[simp] theorem haltStart_dma (h : Hw) : (haltStart h).dma = h.dma := by simp [haltStart]
@[simp] theorem haltStart_cores (h : Hw) : (haltStart h).cores = h.cores := by simp [haltStart]
@[simp] theorem haltStart_cluster (h : Hw) : (haltStart h).cluster = h.cluster := by simp [haltStart]
@[simp] theorem haltStart_cipher (h : Hw) : (haltStart h).cipher = h.cipher := by simp [haltStart]
@[simp] theorem haltStart_twin (h : Hw) : (haltStart h).twin = h.twin := by simp [haltStart]
@[simp] theorem haltStart_mem (h : Hw) : (haltStart h).mem = h.mem := by simp [haltStart]
@[simp] theorem haltStart_freeCtr (h : Hw) : (haltStart h).freeCtr = h.freeCtr := by simp [haltStart]

/-! `askStair4`. -/

@[simp] theorem askStair4_bridges (h : Hw) (c : Nat) : (askStair4 h c).bridges = h.bridges := by unfold askStair4; split <;> simp
@[simp] theorem askStair4_tap (h : Hw) (c : Nat) : (askStair4 h c).tap = h.tap := by unfold askStair4; split <;> simp
@[simp] theorem askStair4_fuses (h : Hw) (c : Nat) : (askStair4 h c).fuses = h.fuses := by unfold askStair4; split <;> simp
@[simp] theorem askStair4_pins (h : Hw) (c : Nat) : (askStair4 h c).pins = h.pins := by unfold askStair4; split <;> simp
@[simp] theorem askStair4_links (h : Hw) (c : Nat) : (askStair4 h c).links = h.links := by unfold askStair4; split <;> simp
@[simp] theorem askStair4_units (h : Hw) (c : Nat) : (askStair4 h c).units = h.units := by unfold askStair4; split <;> simp
@[simp] theorem askStair4_fences (h : Hw) (c : Nat) : (askStair4 h c).fences = h.fences := by unfold askStair4; split <;> simp
@[simp] theorem askStair4_log (h : Hw) (c : Nat) : (askStair4 h c).log = h.log := by unfold askStair4; split <;> simp
@[simp] theorem askStair4_dict (h : Hw) (c : Nat) : (askStair4 h c).dict = h.dict := by unfold askStair4; split <;> simp
@[simp] theorem askStair4_carriages (h : Hw) (c : Nat) : (askStair4 h c).carriages = h.carriages := by unfold askStair4; split <;> simp
@[simp] theorem askStair4_spindle (h : Hw) (c : Nat) : (askStair4 h c).spindle = h.spindle := by unfold askStair4; split <;> simp
@[simp] theorem askStair4_drives (h : Hw) (c : Nat) : (askStair4 h c).drives = h.drives := by unfold askStair4; split <;> simp
@[simp] theorem askStair4_portA (h : Hw) (c : Nat) : (askStair4 h c).portA = h.portA := by unfold askStair4; split <;> simp
@[simp] theorem askStair4_portB (h : Hw) (c : Nat) : (askStair4 h c).portB = h.portB := by unfold askStair4; split <;> simp
@[simp] theorem askStair4_engine (h : Hw) (c : Nat) : (askStair4 h c).engine = h.engine := by unfold askStair4; split <;> simp
@[simp] theorem askStair4_buffer (h : Hw) (c : Nat) : (askStair4 h c).buffer = h.buffer := by unfold askStair4; split <;> simp
@[simp] theorem askStair4_dma (h : Hw) (c : Nat) : (askStair4 h c).dma = h.dma := by unfold askStair4; split <;> simp
@[simp] theorem askStair4_cores (h : Hw) (c : Nat) : (askStair4 h c).cores = h.cores := by unfold askStair4; split <;> simp
@[simp] theorem askStair4_cluster (h : Hw) (c : Nat) : (askStair4 h c).cluster = h.cluster := by unfold askStair4; split <;> simp
@[simp] theorem askStair4_cipher (h : Hw) (c : Nat) : (askStair4 h c).cipher = h.cipher := by unfold askStair4; split <;> simp
@[simp] theorem askStair4_twin (h : Hw) (c : Nat) : (askStair4 h c).twin = h.twin := by unfold askStair4; split <;> simp
@[simp] theorem askStair4_mem (h : Hw) (c : Nat) : (askStair4 h c).mem = h.mem := by unfold askStair4; split <;> simp
@[simp] theorem askStair4_freeCtr (h : Hw) (c : Nat) : (askStair4 h c).freeCtr = h.freeCtr := by unfold askStair4; split <;> simp
@[simp] theorem askStair4_getF (h : Hw) (c : Nat) (g : Fld) (i : Nat) : getF (askStair4 h c) g i = getF h g i := by unfold askStair4; split <;> simp

/-! `startRetract`. -/

@[simp] theorem startRetract_bridges (h : Hw) (c : Nat) : (startRetract h c).bridges = h.bridges := by unfold startRetract; (try dsimp only); split <;> (try simp)
@[simp] theorem startRetract_tap (h : Hw) (c : Nat) : (startRetract h c).tap = h.tap := by unfold startRetract; (try dsimp only); split <;> (try simp)
@[simp] theorem startRetract_fuses (h : Hw) (c : Nat) : (startRetract h c).fuses = h.fuses := by unfold startRetract; (try dsimp only); split <;> (try simp)
@[simp] theorem startRetract_pins (h : Hw) (c : Nat) : (startRetract h c).pins = h.pins := by unfold startRetract; (try dsimp only); split <;> (try simp)
@[simp] theorem startRetract_boot (h : Hw) (c : Nat) : (startRetract h c).boot = h.boot := by unfold startRetract; (try dsimp only); split <;> (try simp)
@[simp] theorem startRetract_links (h : Hw) (c : Nat) : (startRetract h c).links = h.links := by unfold startRetract; (try dsimp only); split <;> (try simp)
@[simp] theorem startRetract_units (h : Hw) (c : Nat) : (startRetract h c).units = h.units := by unfold startRetract; (try dsimp only); split <;> (try simp)
@[simp] theorem startRetract_fences (h : Hw) (c : Nat) : (startRetract h c).fences = h.fences := by unfold startRetract; (try dsimp only); split <;> (try simp)
@[simp] theorem startRetract_log (h : Hw) (c : Nat) : (startRetract h c).log = h.log := by unfold startRetract; (try dsimp only); split <;> (try simp)
@[simp] theorem startRetract_mgmt (h : Hw) (c : Nat) : (startRetract h c).mgmt = h.mgmt := by unfold startRetract; (try dsimp only); split <;> (try simp)
@[simp] theorem startRetract_dict (h : Hw) (c : Nat) : (startRetract h c).dict = h.dict := by unfold startRetract; (try dsimp only); split <;> (try simp)
@[simp] theorem startRetract_island (h : Hw) (c : Nat) : (startRetract h c).island = h.island := by unfold startRetract; (try dsimp only); split <;> (try simp)
@[simp] theorem startRetract_carriages (h : Hw) (c : Nat) : (startRetract h c).carriages = h.carriages := by unfold startRetract; (try dsimp only); split <;> (try simp)
@[simp] theorem startRetract_spindle (h : Hw) (c : Nat) : (startRetract h c).spindle = h.spindle := by unfold startRetract; (try dsimp only); split <;> (try simp)
@[simp] theorem startRetract_portA (h : Hw) (c : Nat) : (startRetract h c).portA = h.portA := by unfold startRetract; (try dsimp only); split <;> (try simp)
@[simp] theorem startRetract_portB (h : Hw) (c : Nat) : (startRetract h c).portB = h.portB := by unfold startRetract; (try dsimp only); split <;> (try simp)
@[simp] theorem startRetract_engine (h : Hw) (c : Nat) : (startRetract h c).engine = h.engine := by unfold startRetract; (try dsimp only); split <;> (try simp)
@[simp] theorem startRetract_buffer (h : Hw) (c : Nat) : (startRetract h c).buffer = h.buffer := by unfold startRetract; (try dsimp only); split <;> (try simp)
@[simp] theorem startRetract_dma (h : Hw) (c : Nat) : (startRetract h c).dma = h.dma := by unfold startRetract; (try dsimp only); split <;> (try simp)
@[simp] theorem startRetract_cores (h : Hw) (c : Nat) : (startRetract h c).cores = h.cores := by unfold startRetract; (try dsimp only); split <;> (try simp)
@[simp] theorem startRetract_cluster (h : Hw) (c : Nat) : (startRetract h c).cluster = h.cluster := by unfold startRetract; (try dsimp only); split <;> (try simp)
@[simp] theorem startRetract_cipher (h : Hw) (c : Nat) : (startRetract h c).cipher = h.cipher := by unfold startRetract; (try dsimp only); split <;> (try simp)
@[simp] theorem startRetract_twin (h : Hw) (c : Nat) : (startRetract h c).twin = h.twin := by unfold startRetract; (try dsimp only); split <;> (try simp)
@[simp] theorem startRetract_mem (h : Hw) (c : Nat) : (startRetract h c).mem = h.mem := by unfold startRetract; (try dsimp only); split <;> (try simp)
@[simp] theorem startRetract_freeCtr (h : Hw) (c : Nat) : (startRetract h c).freeCtr = h.freeCtr := by unfold startRetract; (try dsimp only); split <;> (try simp)

/-! `retractAll`. -/

@[simp] theorem retractAll_bridges (h : Hw) : (retractAll h).bridges = h.bridges := foldl_keeps (·.bridges) _ _ (fun k _ => by (try dsimp only); split <;> simp) h
@[simp] theorem retractAll_tap (h : Hw) : (retractAll h).tap = h.tap := foldl_keeps (·.tap) _ _ (fun k _ => by (try dsimp only); split <;> simp) h
@[simp] theorem retractAll_fuses (h : Hw) : (retractAll h).fuses = h.fuses := foldl_keeps (·.fuses) _ _ (fun k _ => by (try dsimp only); split <;> simp) h
@[simp] theorem retractAll_pins (h : Hw) : (retractAll h).pins = h.pins := foldl_keeps (·.pins) _ _ (fun k _ => by (try dsimp only); split <;> simp) h
@[simp] theorem retractAll_boot (h : Hw) : (retractAll h).boot = h.boot := foldl_keeps (·.boot) _ _ (fun k _ => by (try dsimp only); split <;> simp) h
@[simp] theorem retractAll_links (h : Hw) : (retractAll h).links = h.links := foldl_keeps (·.links) _ _ (fun k _ => by (try dsimp only); split <;> simp) h
@[simp] theorem retractAll_units (h : Hw) : (retractAll h).units = h.units := foldl_keeps (·.units) _ _ (fun k _ => by (try dsimp only); split <;> simp) h
@[simp] theorem retractAll_fences (h : Hw) : (retractAll h).fences = h.fences := foldl_keeps (·.fences) _ _ (fun k _ => by (try dsimp only); split <;> simp) h
@[simp] theorem retractAll_log (h : Hw) : (retractAll h).log = h.log := foldl_keeps (·.log) _ _ (fun k _ => by (try dsimp only); split <;> simp) h
@[simp] theorem retractAll_mgmt (h : Hw) : (retractAll h).mgmt = h.mgmt := foldl_keeps (·.mgmt) _ _ (fun k _ => by (try dsimp only); split <;> simp) h
@[simp] theorem retractAll_dict (h : Hw) : (retractAll h).dict = h.dict := foldl_keeps (·.dict) _ _ (fun k _ => by (try dsimp only); split <;> simp) h
@[simp] theorem retractAll_island (h : Hw) : (retractAll h).island = h.island := foldl_keeps (·.island) _ _ (fun k _ => by (try dsimp only); split <;> simp) h
@[simp] theorem retractAll_carriages (h : Hw) : (retractAll h).carriages = h.carriages := foldl_keeps (·.carriages) _ _ (fun k _ => by (try dsimp only); split <;> simp) h
@[simp] theorem retractAll_spindle (h : Hw) : (retractAll h).spindle = h.spindle := foldl_keeps (·.spindle) _ _ (fun k _ => by (try dsimp only); split <;> simp) h
@[simp] theorem retractAll_portA (h : Hw) : (retractAll h).portA = h.portA := foldl_keeps (·.portA) _ _ (fun k _ => by (try dsimp only); split <;> simp) h
@[simp] theorem retractAll_portB (h : Hw) : (retractAll h).portB = h.portB := foldl_keeps (·.portB) _ _ (fun k _ => by (try dsimp only); split <;> simp) h
@[simp] theorem retractAll_engine (h : Hw) : (retractAll h).engine = h.engine := foldl_keeps (·.engine) _ _ (fun k _ => by (try dsimp only); split <;> simp) h
@[simp] theorem retractAll_buffer (h : Hw) : (retractAll h).buffer = h.buffer := foldl_keeps (·.buffer) _ _ (fun k _ => by (try dsimp only); split <;> simp) h
@[simp] theorem retractAll_dma (h : Hw) : (retractAll h).dma = h.dma := foldl_keeps (·.dma) _ _ (fun k _ => by (try dsimp only); split <;> simp) h
@[simp] theorem retractAll_cores (h : Hw) : (retractAll h).cores = h.cores := foldl_keeps (·.cores) _ _ (fun k _ => by (try dsimp only); split <;> simp) h
@[simp] theorem retractAll_cluster (h : Hw) : (retractAll h).cluster = h.cluster := foldl_keeps (·.cluster) _ _ (fun k _ => by (try dsimp only); split <;> simp) h
@[simp] theorem retractAll_cipher (h : Hw) : (retractAll h).cipher = h.cipher := foldl_keeps (·.cipher) _ _ (fun k _ => by (try dsimp only); split <;> simp) h
@[simp] theorem retractAll_twin (h : Hw) : (retractAll h).twin = h.twin := foldl_keeps (·.twin) _ _ (fun k _ => by (try dsimp only); split <;> simp) h
@[simp] theorem retractAll_mem (h : Hw) : (retractAll h).mem = h.mem := foldl_keeps (·.mem) _ _ (fun k _ => by (try dsimp only); split <;> simp) h
@[simp] theorem retractAll_freeCtr (h : Hw) : (retractAll h).freeCtr = h.freeCtr := foldl_keeps (·.freeCtr) _ _ (fun k _ => by (try dsimp only); split <;> simp) h

/-! `takeReset`. -/

@[simp] theorem takeReset_bridges (h : Hw) (c u : Nat) : (takeReset h c u).bridges = h.bridges := by
  unfold takeReset; (try dsimp only)
  (repeat' split) <;> simp [foldl_keeps (·.bridges)]
@[simp] theorem takeReset_tap (h : Hw) (c u : Nat) : (takeReset h c u).tap = h.tap := by
  unfold takeReset; (try dsimp only)
  (repeat' split) <;> simp [foldl_keeps (·.tap)]
@[simp] theorem takeReset_fuses (h : Hw) (c u : Nat) : (takeReset h c u).fuses = h.fuses := by
  unfold takeReset; (try dsimp only)
  (repeat' split) <;> simp [foldl_keeps (·.fuses)]
@[simp] theorem takeReset_pins (h : Hw) (c u : Nat) : (takeReset h c u).pins = h.pins := by
  unfold takeReset; (try dsimp only)
  (repeat' split) <;> simp [foldl_keeps (·.pins)]
@[simp] theorem takeReset_links (h : Hw) (c u : Nat) : (takeReset h c u).links = h.links := by
  unfold takeReset; (try dsimp only)
  (repeat' split) <;> simp [foldl_keeps (·.links)]
@[simp] theorem takeReset_units (h : Hw) (c u : Nat) : (takeReset h c u).units = h.units := by
  unfold takeReset; (try dsimp only)
  (repeat' split) <;> simp [foldl_keeps (·.units)]
@[simp] theorem takeReset_fences (h : Hw) (c u : Nat) : (takeReset h c u).fences = h.fences := by
  unfold takeReset; (try dsimp only)
  (repeat' split) <;> simp [foldl_keeps (·.fences)]
@[simp] theorem takeReset_dict (h : Hw) (c u : Nat) : (takeReset h c u).dict = h.dict := by
  unfold takeReset; (try dsimp only)
  (repeat' split) <;> simp [foldl_keeps (·.dict)]
@[simp] theorem takeReset_spindle (h : Hw) (c u : Nat) : (takeReset h c u).spindle = h.spindle := by
  unfold takeReset; (try dsimp only)
  (repeat' split) <;> simp [foldl_keeps (·.spindle)]
@[simp] theorem takeReset_portA (h : Hw) (c u : Nat) : (takeReset h c u).portA = h.portA := by
  unfold takeReset; (try dsimp only)
  (repeat' split) <;> simp [foldl_keeps (·.portA)]
@[simp] theorem takeReset_portB (h : Hw) (c u : Nat) : (takeReset h c u).portB = h.portB := by
  unfold takeReset; (try dsimp only)
  (repeat' split) <;> simp [foldl_keeps (·.portB)]
@[simp] theorem takeReset_engine (h : Hw) (c u : Nat) : (takeReset h c u).engine = h.engine := by
  unfold takeReset; (try dsimp only)
  (repeat' split) <;> simp [foldl_keeps (·.engine)]
@[simp] theorem takeReset_buffer (h : Hw) (c u : Nat) : (takeReset h c u).buffer = h.buffer := by
  unfold takeReset; (try dsimp only)
  (repeat' split) <;> simp [foldl_keeps (·.buffer)]
@[simp] theorem takeReset_dma (h : Hw) (c u : Nat) : (takeReset h c u).dma = h.dma := by
  unfold takeReset; (try dsimp only)
  (repeat' split) <;> simp [foldl_keeps (·.dma)]
@[simp] theorem takeReset_cores (h : Hw) (c u : Nat) : (takeReset h c u).cores = h.cores := by
  unfold takeReset; (try dsimp only)
  (repeat' split) <;> simp [foldl_keeps (·.cores)]
@[simp] theorem takeReset_cluster (h : Hw) (c u : Nat) : (takeReset h c u).cluster = h.cluster := by
  unfold takeReset; (try dsimp only)
  (repeat' split) <;> simp [foldl_keeps (·.cluster)]
@[simp] theorem takeReset_cipher (h : Hw) (c u : Nat) : (takeReset h c u).cipher = h.cipher := by
  unfold takeReset; (try dsimp only)
  (repeat' split) <;> simp [foldl_keeps (·.cipher)]
@[simp] theorem takeReset_twin (h : Hw) (c u : Nat) : (takeReset h c u).twin = h.twin := by
  unfold takeReset; (try dsimp only)
  (repeat' split) <;> simp [foldl_keeps (·.twin)]
@[simp] theorem takeReset_mem (h : Hw) (c u : Nat) : (takeReset h c u).mem = h.mem := by
  unfold takeReset; (try dsimp only)
  (repeat' split) <;> simp [foldl_keeps (·.mem)]
@[simp] theorem takeReset_freeCtr (h : Hw) (c u : Nat) : (takeReset h c u).freeCtr = h.freeCtr := by
  unfold takeReset; (try dsimp only)
  (repeat' split) <;> simp [foldl_keeps (·.freeCtr)]

/-! `setCause`. -/

@[simp] theorem setCause_bridges (h : Hw) (u k : Nat) (on : Bool) : (setCause h u k on).bridges = h.bridges := (rfl)
@[simp] theorem setCause_tap (h : Hw) (u k : Nat) (on : Bool) : (setCause h u k on).tap = h.tap := (rfl)
@[simp] theorem setCause_fuses (h : Hw) (u k : Nat) (on : Bool) : (setCause h u k on).fuses = h.fuses := (rfl)
@[simp] theorem setCause_pins (h : Hw) (u k : Nat) (on : Bool) : (setCause h u k on).pins = h.pins := (rfl)
@[simp] theorem setCause_boot (h : Hw) (u k : Nat) (on : Bool) : (setCause h u k on).boot = h.boot := (rfl)
@[simp] theorem setCause_links (h : Hw) (u k : Nat) (on : Bool) : (setCause h u k on).links = h.links := (rfl)
@[simp] theorem setCause_fences (h : Hw) (u k : Nat) (on : Bool) : (setCause h u k on).fences = h.fences := (rfl)
@[simp] theorem setCause_log (h : Hw) (u k : Nat) (on : Bool) : (setCause h u k on).log = h.log := (rfl)
@[simp] theorem setCause_mgmt (h : Hw) (u k : Nat) (on : Bool) : (setCause h u k on).mgmt = h.mgmt := (rfl)
@[simp] theorem setCause_dict (h : Hw) (u k : Nat) (on : Bool) : (setCause h u k on).dict = h.dict := (rfl)
@[simp] theorem setCause_island (h : Hw) (u k : Nat) (on : Bool) : (setCause h u k on).island = h.island := (rfl)
@[simp] theorem setCause_carriages (h : Hw) (u k : Nat) (on : Bool) : (setCause h u k on).carriages = h.carriages := (rfl)
@[simp] theorem setCause_spindle (h : Hw) (u k : Nat) (on : Bool) : (setCause h u k on).spindle = h.spindle := (rfl)
@[simp] theorem setCause_drives (h : Hw) (u k : Nat) (on : Bool) : (setCause h u k on).drives = h.drives := (rfl)
@[simp] theorem setCause_portA (h : Hw) (u k : Nat) (on : Bool) : (setCause h u k on).portA = h.portA := (rfl)
@[simp] theorem setCause_portB (h : Hw) (u k : Nat) (on : Bool) : (setCause h u k on).portB = h.portB := (rfl)
@[simp] theorem setCause_engine (h : Hw) (u k : Nat) (on : Bool) : (setCause h u k on).engine = h.engine := (rfl)
@[simp] theorem setCause_buffer (h : Hw) (u k : Nat) (on : Bool) : (setCause h u k on).buffer = h.buffer := (rfl)
@[simp] theorem setCause_dma (h : Hw) (u k : Nat) (on : Bool) : (setCause h u k on).dma = h.dma := (rfl)
@[simp] theorem setCause_cores (h : Hw) (u k : Nat) (on : Bool) : (setCause h u k on).cores = h.cores := (rfl)
@[simp] theorem setCause_cluster (h : Hw) (u k : Nat) (on : Bool) : (setCause h u k on).cluster = h.cluster := (rfl)
@[simp] theorem setCause_cipher (h : Hw) (u k : Nat) (on : Bool) : (setCause h u k on).cipher = h.cipher := (rfl)
@[simp] theorem setCause_twin (h : Hw) (u k : Nat) (on : Bool) : (setCause h u k on).twin = h.twin := (rfl)
@[simp] theorem setCause_mem (h : Hw) (u k : Nat) (on : Bool) : (setCause h u k on).mem = h.mem := (rfl)
@[simp] theorem setCause_freeCtr (h : Hw) (u k : Nat) (on : Bool) : (setCause h u k on).freeCtr = h.freeCtr := (rfl)
@[simp] theorem setCause_getF (h : Hw) (u k : Nat) (on : Bool) (g : Fld) (i : Nat) : getF (setCause h u k on) g i = getF h g i := (rfl)

/-- The start halts: stage 0x0E and HALT (R118). -/
theorem haltStart_shows (h : Hw) : getF (haltStart h) PW_BOOT_STAGE 0 = 0x0E ∧ getF (haltStart h) PW_BOOT_HALT 0 = 1 := by
  constructor <;> simp (disch := decide) [haltStart, stopAlive_getF, getF_setF_beside, getF_setF] <;> decide

end Sys2Proof.Machine
end

