-- ==== Sys2Proof/WellFormed.lean ====
section
/-! DEFINITION. When a command is well formed: its numbers lie in the ranges that the spec's fields can hold. The meanings are total: a
number out of its range makes a command that no sender can form, not one that stops the block. -/
namespace Sys2Proof

/-- The number is a carriage. -/
def isCarriage (n : Nat) : Bool := decide (n < 4)

/-- The number is a head of a carriage. -/
def isHead (n : Nat) : Bool := decide (n < 6)

/-- The number is a 32-bit word. -/
def isWord (n : Nat) : Bool := decide (n < 2 ^ 32)

/-- The number is a 16-bit number. -/
def isHalf (n : Nat) : Bool := decide (n < 0x10000)

/-- The number is a byte. -/
def isByte (n : Nat) : Bool := decide (n < 256)

/-- The number is a 64-bit number. -/
def isDouble (n : Nat) : Bool := decide (n < 2 ^ 64)

/-- The number is a command slot. -/
def isSlot (n : Nat) : Bool := decide (n < 4096)

/-- The number is a session ID. -/
def isSession (n : Nat) : Bool := decide (n < 0x10000)

/-- The number is a node ID of a frame. -/
def isNode (n : Nat) : Bool := decide (n < 0x10000)

/-- The number is a die: hub, carriages, motor. -/
def isDie (n : Nat) : Bool := decide (n < 6)

/-- The number is a control core. -/
def isCore (n : Nat) : Bool := decide (n < 4)

/-- The number is a link (R19). -/
def isLink (n : Nat) : Bool := decide (n < 9)

/-- The number is a bulk-window section. -/
def isSection (n : Nat) : Bool := decide (n < 8)

/-- The number is a byte address of the memories. -/
def isAddress (n : Nat) : Bool := decide (n < 2 ^ 40)

/-- The number is a source of a bridge write (R128). -/
def isSource (n : Nat) : Bool := decide (n < 8)

/-- The number is a register offset from 0x4000_0000. -/
def isOffset (n : Nat) : Bool := decide (n < 2 ^ 28)

/-- The number is a parameter. -/
def isParam (n : Nat) : Bool := decide (n < 0x1000)

/-- The number is a element. -/
def isElem (n : Nat) : Bool := decide (n < 16)

/-- The number is a host port. -/
def isPort (n : Nat) : Bool := decide (n < 2)

/-- The number is a zone group. -/
def isGroup (n : Nat) : Bool := decide (n < 8)

/-- The number is a power domain. -/
def isDomain (n : Nat) : Bool := decide (n < 25)

/-- The number is a DMA channel. -/
def isChannel (n : Nat) : Bool := decide (n < 32)

/-- The number is a one of two. -/
def isBit (n : Nat) : Bool := decide (n < 2)

/-- The number is a NSID. -/
def isSpace (n : Nat) : Bool := decide (n < 129)

/-- The number is a interrupt source. -/
def isIrq (n : Nat) : Bool := decide (n < 64)

/-- The number is a extent entry. -/
def isEntry (n : Nat) : Bool := decide (n < 65536)

/-- The number is a element of a two-part object. -/
def isHalfOf (n : Nat) : Bool := decide (n < 16)

/-- The command is well formed. -/
def wellFormed : Instr → Bool
  | .resetInNRise _ => true
  | .resetInNFall => true
  | .strapSampling _ => true
  | .prsntNDebouncedChange _ => true
  | .hotRemovalAbandon => true
  | .l2InvalidateDone => true
  | .sramEccSelfTest _ _ => true
  | .lpddr4xTrainingDone _ _ => true
  | .imageSlotCheck slot _ image => isBit slot && decide (image.body.length ≤ image.length)
  | .recoveryStart sess _ _ => isSession sess
  | .firmwareStart => true
  | .startFailure code detail => isByte code && isWord detail
  | .temperatureGateReread _ => true
  | .adminReady => true
  | .spindleStartGateOpen => true
  | .headLoadFailed c => isCarriage c
  | .firstCalibrationPass _ _ _ _ => true
  | .mediaReady => true
  | .configRequest p _ _ => isPort p
  | .linkFlitCrcError l _ _ => isLink l
  | .linkDown l => isLink l
  | .linkTrained l _ lat => isLink l && isWord lat
  | .registerWrite src a data => isSource src && isOffset a && isWord data
  | .postedWriteAccepted src a data => isSource src && isOffset a && isWord data
  | .postedWriteLands page => isOffset page
  | .bridgeFarSideReady page => isOffset page
  | .misalignedAccess a _ => isOffset a
  | .rcFieldRead src a => isSource src && isOffset a
  | .readObject sess u p e => isSession sess && isHalf u && isParam p && isElem e
  | .writeObject sess u p e ty _ => isSession sess && isHalf u && isParam p && isElem e && isByte ty
  | .readEach sess u p e _ => isSession sess && isHalf u && isParam p && isElem e
  | .describe sess u p e => isSession sess && isHalf u && isParam p && isElem e
  | .subscribe sess u p e ty interval _ => isSession sess && isHalf u && isParam p && isElem e && isByte ty && isHalf interval
  | .unsubscribe sess u p e => isSession sess && isHalf u && isParam p && isElem e
  | .blockRead sess u p e first n => isSession sess && isHalf u && isParam p && isElem e && isSection first && isWord n
  | .blockWrite sess u p e first n => isSession sess && isHalf u && isParam p && isElem e && isSection first && isWord n
  | .fence sess u => isSession sess && isHalf u
  | .unfence sess u => isSession sess && isHalf u
  | .reInitialise sess u => isSession sess && isHalf u
  | .acknowledgeFaults sess u => isSession sess && isHalf u
  | .powerStateRequest sess u x => isSession sess && isHalf u && isByte x
  | .faultForce sess u mask => isSession sess && isHalf u && isWord mask
  | .deviceResetRequest sess x => isSession sess && isByte x
  | .sessionRoleWrite sess role => isSession sess && isByte role
  | .challengeRead sess half => isSession sess && isHalfOf half
  | .responseWrite sess half x => isSession sess && isHalfOf half && isDouble x
  | .challengeExpiry sess => isSession sess
  | .challengeLockoutEnd sess => isSession sess
  | .sessionFallback sess => isSession sess
  | .settingsCommit sess verified => isSession sess && isByte verified
  | .settingsRevert sess => isSession sess
  | .notificationCycle => true
  | .notificationRetry sess seq => isSession sess && isHalf seq
  | .quablinkRequest src seq count _ => isNode src && isHalf seq && isByte count
  | .notificationAcknowledge sess seq => isSession sess && isHalf seq
  | .beacon src minute until_ _ => isNode src && isDouble minute && isWord until_
  | .alertAcknowledge src seq => isNode src && isHalf seq
  | .windowDataRequest src seq count sect dir offset wlen _ _ => isNode src && isHalf seq && isByte count && isByte sect && isByte dir && isWord offset && isHalf wlen
  | .ignoredFrame _ _ _ => true
  | .plcaSettingTakesEffect => true
  | .plcaBeaconLoss => true
  | .alertRaised code detail => isByte code && isWord detail
  | .alertRepeat seq => isHalf seq
  | .managementPortResume => true
  | .syncHoldover => true
  | .minuteBoundary => true
  | .claim sess mask => isSession sess && isByte mask
  | .release sess => isSession sess
  | .sectionCleared n => isSection n
  | .leaseExpiry n => isSection n
  | .bar2WindowAccess p o n requester _ _ => isPort p && isWord o && isWord n && isHalf requester
  | .mailboxGo p => isPort p
  | .notificationRingEnable p data => isPort p && isWord data
  | .paSifCmdWrite c data => isCarriage c && isWord data
  | .preampFrameDone c ack rdata _ => isCarriage c && isByte ack && isByte rdata
  | .preampFault c => isCarriage c
  | .calibrationWriteHold c => isCarriage c
  | .calibrationHoldRelease c => isCarriage c
  | .calibrationStepStart c _ _ => isCarriage c
  | .sectorStart c hd group zbp seed mode _ _ _ _ => isCarriage c && isHead hd && isGroup group && isWord zbp && isWord seed && isByte mode
  | .servoGateRise c => isCarriage c
  | .servoAddressMark c _ => isCarriage c
  | .thermalAsperity c => isCarriage c
  | .timingSlip c => isCarriage c
  | .codewordDecoded c _ => isCarriage c
  | .decoderQueueOverflow c => isCarriage c
  | .bufferRetry c => isCarriage c
  | .verifyReport c => isCarriage c
  | .adapterUpdate c => isCarriage c
  | .activeAdaptationRequest c hd z => isCarriage c && isHead hd && isGroup z
  | .areqClear c => isCarriage c
  | .chTaddrWrite c data => isCarriage c && isWord data
  | .coefficientCommit c data => isCarriage c && isWord data
  | .chTdataAccess c _ data => isCarriage c && isWord data
  | .channelReinitialise c _ => isCarriage c
  | .markMiss c => isCarriage c
  | .markMissLimit c => isCarriage c
  | .readRevolutionRetry c => isCarriage c
  | .reassign c _ => isCarriage c
  | .writeUnsafe c => isCarriage c
  | .homeRewrite c _ => isCarriage c
  | .landingFull c => isCarriage c
  | .poolEmpty c => isCarriage c
  | .landingCheckpoint c _ => isCarriage c
  | .powerLossSectorEnd c => isCarriage c
  | .controlStoreCopyDone c => isCarriage c
  | .fmRqpush c => isCarriage c
  | .engineRequestPush c opc tag w1 w2 w3 => isCarriage c && isByte opc && isHalf tag && isWord w1 && isWord w2 && isWord w3
  | .routineStart c => isCarriage c
  | .microword c => isCarriage c
  | .waitConditionMet c => isCarriage c
  | .sqPush c => isCarriage c
  | .sif c v => isCarriage c && isWord v
  | .rptTake c => isCarriage c
  | .sqFlush c => isCarriage c
  | .reqDone c status => isCarriage c && isByte status
  | .sect c v => isCarriage c && isWord v
  | .fwIrq c v => isCarriage c && isWord v
  | .seek c hd track => isCarriage c && isHead hd && isWord track
  | .defadd c => isCarriage c
  | .lidx c _ => isCarriage c
  | .halt c => isCarriage c
  | .iret c => isCarriage c
  | .safePointOverrun c => isCarriage c
  | .formatterInterruptTaken c => isCarriage c
  | .formatterAbort c tag => isCarriage c && isHalf tag
  | .fwreq c => isCarriage c
  | .runClear c => isCarriage c
  | .patchLoadStart c => isCarriage c
  | .patchLoadDone c _ => isCarriage c
  | .descriptorStart c _ => isCarriage c
  | .descriptorReport c => isCarriage c
  | .landingRunClose c _ => isCarriage c
  | .stuPowerLoss c => isCarriage c
  | .formatterReinitialise c => isCarriage c
  | .servoSample c _ => isCarriage c
  | .wedgeLock c => isCarriage c
  | .lockLost c => isCarriage c
  | .coastTimeout c => isCarriage c
  | .svSeekWrite c data => isCarriage c && isWord data
  | .seekStart c => isCarriage c
  | .handover c age => isCarriage c && isHalf age
  | .ontrk c => isCarriage c
  | .seekFail c => isCarriage c
  | .headSwitch c => isCarriage c
  | .bankSwap c => isCarriage c
  | .svBankCommit c data => isCarriage c && isWord data
  | .rcRevolution c => isCarriage c
  | .rcCommit c => isCarriage c
  | .bandLawBlock c hd => isCarriage c && isHead hd
  | .readClearanceStep c hd => isCarriage c && isHead hd
  | .bandApply c hd => isCarriage c && isHead hd
  | .servoEnable c => isCarriage c
  | .servoReinitialise c => isCarriage c
  | .controlPeriod _ _ _ _ _ _ => true
  | .observerEvaluation => true
  | .speedLoop => true
  | .busyReport c => isCarriage c
  | .demandGovernor => true
  | .spindleStart => true
  | .spindleStop => true
  | .spindleCoast => true
  | .measuringEnd _ => true
  | .alignmentEnd => true
  | .openLoopSpeedReached => true
  | .startAttemptFail => true
  | .atSpeed => true
  | .brakingEnd => true
  | .coastToStopped => true
  | .spindleResetCheck _ => true
  | .wedgeFallback => true
  | .reCatch _ => true
  | .reCatchFail _ => true
  | .ecalStart c => isCarriage c
  | .ecalEnd c => isCarriage c
  | .powerLoss _ _ => true
  | .holdUpEnd => true
  | .supplyReturn _ _ => true
  | .overcurrent => true
  | .busOvervoltage _ => true
  | .actuatorMessage c _ _ wedge elph age period flags _ => isCarriage c && isHalf wedge && isHalf elph && isHalf age && isHalf period && isByte flags
  | .currentMismatch c => isCarriage c
  | .sidebandTimeout c => isCarriage c
  | .holdingTimeout c => isCarriage c
  | .load c => isCarriage c
  | .unload c => isCarriage c
  | .retract c => isCarriage c
  | .profilePhaseEnd c => isCarriage c
  | .loadTimeout c => isCarriage c
  | .perst p kind => isPort p && isByte kind
  | .functionLevelReset p => isPort p
  | .controllerDisable p => isPort p
  | .controllerEnable p asqs acqs => isPort p && isHalf asqs && isHalf acqs
  | .shutdown p => isPort p
  | .commandFetch p sq _ _ => isPort p && isHalf sq
  | .deleteIoSq p cid qid => isPort p && isHalf cid && isHalf qid
  | .createIoSq p cid qid size cqid => isPort p && isHalf cid && isHalf qid && isWord size && isHalf cqid
  | .deleteIoCq p cid qid => isPort p && isHalf cid && isHalf qid
  | .createIoCq p cid qid size vector _ => isPort p && isHalf cid && isHalf qid && isWord size && isHalf vector
  | .getLogPage p cid lid nsid off len => isPort p && isHalf cid && isByte lid && isWord nsid && isDouble off && isWord len
  | .identify p cid cns nsid cntid => isPort p && isHalf cid && isByte cns && isWord nsid && isHalf cntid
  | .abort p cid sq tcid => isPort p && isHalf cid && isHalf sq && isHalf tcid
  | .setFeatures p cid fid nsid value _ => isPort p && isHalf cid && isByte fid && isWord nsid && isWord value
  | .getFeatures p cid fid nsid sel => isPort p && isHalf cid && isByte fid && isWord nsid && isByte sel
  | .asynchronousEventRequest p cid => isPort p && isHalf cid
  | .namespaceManagement p cid sel nsid nsze ncap fmt pi _ _ => isPort p && isHalf cid && isByte sel && isWord nsid && isDouble nsze && isDouble ncap && isByte fmt && isByte pi
  | .namespaceAttachment p cid sel nsid ctrls => isPort p && isHalf cid && isByte sel && isWord nsid && isHalf ctrls
  | .formatNvm p cid nsid fmt pi ses _ _ => isPort p && isHalf cid && isWord nsid && isByte fmt && isByte pi && isByte ses
  | .sanitize p cid sanact _ owpass _ ovrpat => isPort p && isHalf cid && isByte sanact && isByte owpass && isWord ovrpat
  | .twinPair p cid _ => isPort p && isHalf cid
  | .twinIdentify p cid => isPort p && isHalf cid
  | .twinUnpair p cid => isPort p && isHalf cid
  | .twinResilver p cid _ _ _ => isPort p && isHalf cid
  | .flush slot => isSlot slot
  | .writeCommand slot _ _ _ => isSlot slot
  | .readCommand slot _ => isSlot slot
  | .writeZeroes slot => isSlot slot
  | .verifyCommand slot _ => isSlot slot
  | .reservationRegister slot rrega _ crkey nrkey cptpl => isSlot slot && isByte rrega && isDouble crkey && isDouble nrkey && isByte cptpl
  | .reservationReport slot numd => isSlot slot && isWord numd
  | .reservationAcquire slot racqa _ crkey prkey rtype => isSlot slot && isByte racqa && isDouble crkey && isDouble prkey && isByte rtype
  | .reservationRelease slot rrela _ crkey rtype => isSlot slot && isByte rrela && isDouble crkey && isByte rtype
  | .pagesAllocated => true
  | .pagesFreed slot => isSlot slot
  | .pieceOnMedium slot _ err => isSlot slot && isHalf err
  | .completionCommit slot _ => isSlot slot
  | .completionPost p cq head => isPort p && isHalf cq && isHalf head
  | .orderRelease slot => isSlot slot
  | .fenceDuringExecution => true
  | .extentMapChange c => isCarriage c
  | .destage c _ _ _ => isCarriage c
  | .landingWrite slot _ _ _ => isSlot slot
  | .replay c _ => isCarriage c
  | .formatSanitizeResume => true
  | .apstIdleTimeout p => isPort p
  | .noReadyControllerTimeout => true
  | .powerStateExitOnIo p => isPort p
  | .operationalStateChange => true
  | .lowPowerTransitionBegin => true
  | .pwPscmdGo data => isWord data
  | .domainPowerDown d => isDomain d
  | .domainPowerUp d => isDomain d
  | .dmCtrlStart n _ => isChannel n
  | .dmCtrlResume n _ => isChannel n
  | .dmCtrlStop n _ => isChannel n
  | .dmBell data => isWord data
  | .cartStart n => isChannel n
  | .dmaBeat n => isChannel n
  | .cartEnd n => isChannel n
  | .dmaRecordWrite n => isChannel n
  | .dmaBusError n st a => isChannel n && isByte st && isAddress a
  | .dmaHaltClear => true
  | .dmRqcfgWrite n data _ => isChannel n && isWord data
  | .dmaChannelReinitialise _ => true
  | .memoryCorrectableError u region => isHalf u && isByte region
  | .memoryUncorrectableError a _ => isAddress a
  | .bucketLeak => true
  | .scrub _ _ => true
  | .mr4Read die rate _ => isDie die && isByte rate
  | .ownershipViolation slot a => isSlot slot && isAddress a
  | .coreRelease data => isWord data
  | .cboClean k a => isCore k && isAddress a
  | .cboInval k a => isCore k && isAddress a
  | .cboFlush k a => isCore k && isAddress a
  | .ccMopClean data => isWord data
  | .ccMopInvalidate data => isWord data
  | .ccMopFlush data => isWord data
  | .cacheOperationDone => true
  | .ccWlockWrite data => isWord data
  | .l2MissFill k a _ _ _ _ _ => isCore k && isAddress a
  | .l2UncorrectableError k a _ _ => isCore k && isAddress a
  | .coreAccessFault k a _ _ _ => isCore k && isAddress a
  | .interruptSourceChange n _ => isIrq n
  | .timerCompare k => isCore k
  | .coreReinitialise k => isCore k
  | .l2ResetInvalidate => true
  | .keyDerivation n kgen _ => isSpace n && isWord kgen
  | .dataUnitCipher slot _ => isSlot slot
  | .cipherMismatch slot _ => isSlot slot
  | .generationMove n _ => isSpace n
  | .reservationMarkRaise n _ => isSpace n
  | .hallWriteDone _ => true
  | .rekeyStart c => isCarriage c
  | .rekeyChunk c _ _ => isCarriage c
  | .rekeyEnd c => isCarriage c
  | .epochAdvance n => isSpace n
  | .roleKeyInstall sess _ first => isSession sess && isSection first
  | .powerLossBank => true
  | .twinPad => true
  | .twinHello _ requester => isHalf requester
  | .twinConfirm _ => true
  | .twinWriteMessage _ => true
  | .twinAck _ => true
  | .twinStateMessage _ => true
  | .twinLedgerMessage _ => true
  | .twinChunkMessage _ => true
  | .twinUnpairMessage _ => true
  | .twinBeat => true
  | .helloResend => true
  | .pairingTimeout => true
  | .partnerLost cause => isByte cause
  | .unsettledListLeave e => isEntry e
  | .startupHelloWaitEnd => true
  | .resilverChunkSend e => isEntry e
  | .faultDetected u k _ => isHalf u && isByte k
  | .thHbeatWrite key => isByte key
  | .heartbeatMiss => true
  | .aliveStop => true
  | .temperatureReading die _ => isDie die
  | .sensorBroken die => isDie die
  | .thermalShutdownEnd die => isDie die
  | .hardwareTrip die => isDie die
  | .tripHoldUpEnd => true
  | .tripRecovery die => isDie die
  | .thForceWrite die source data => isDie die && isSource source && isWord data
  | .recordRaised u code severity detail => isHalf u && isHalf code && isByte severity && isWord detail
  | .recordStore => true
  | .recordsLost => true
  | .operatingTimeSave => true
  | .evRselWrite data => isWord data
  | .evFwcodeWrite data => isWord data
  | .evPslotGo data => isWord data
  | .clear sess tag => isSession sess && isDouble tag
  | .clearDone => true
  | .powerLossFlush => true
  | .deviceReset cause u => isByte cause && isHalf u
  | .deviceResetRelease => true
  | .reinitialiseComplete u _ => isHalf u
  | .strapPinChange live => isWord live
  | .tapClock _ _ _ _ => true
  | .trstNLow => true
  | .linktestDone _ flits => isWord flits
  | .hxPerstNRise p => isPort p
  | .pcieLinkUp p speed width _ => isPort p && isByte speed && isByte width
  | .plcaBeaconSeen => true
  | .transmitOpportunity => true
  | .pairRecordWrite => true

end Sys2Proof
end

