-- ==== Sys2Proof/Laws/PerInstr.lean ====
section
/-! SUPPORT. Family Places: every carriage that a well-formed command names is one of the four (R18). One lemma for each constructor. -/
namespace Sys2Proof.Laws.Places

/-- The carriages that a command names. -/
def carriages : Instr → List Nat
  | .resetInNRise _ => []
  | .resetInNFall => []
  | .strapSampling _ => []
  | .prsntNDebouncedChange _ => []
  | .hotRemovalAbandon => []
  | .l2InvalidateDone => []
  | .sramEccSelfTest _ _ => []
  | .lpddr4xTrainingDone _ _ => []
  | .imageSlotCheck _ _ _ => []
  | .recoveryStart _ _ _ => []
  | .firmwareStart => []
  | .startFailure _ _ => []
  | .temperatureGateReread _ => []
  | .adminReady => []
  | .spindleStartGateOpen => []
  | .headLoadFailed c => [c]
  | .firstCalibrationPass _ _ _ _ => []
  | .mediaReady => []
  | .configRequest _ _ _ => []
  | .linkFlitCrcError _ _ _ => []
  | .linkDown _ => []
  | .linkTrained _ _ _ => []
  | .registerWrite _ _ _ => []
  | .postedWriteAccepted _ _ _ => []
  | .postedWriteLands _ => []
  | .bridgeFarSideReady _ => []
  | .misalignedAccess _ _ => []
  | .rcFieldRead _ _ => []
  | .readObject _ _ _ _ => []
  | .writeObject _ _ _ _ _ _ => []
  | .readEach _ _ _ _ _ => []
  | .describe _ _ _ _ => []
  | .subscribe _ _ _ _ _ _ _ => []
  | .unsubscribe _ _ _ _ => []
  | .blockRead _ _ _ _ _ _ => []
  | .blockWrite _ _ _ _ _ _ => []
  | .fence _ _ => []
  | .unfence _ _ => []
  | .reInitialise _ _ => []
  | .acknowledgeFaults _ _ => []
  | .powerStateRequest _ _ _ => []
  | .faultForce _ _ _ => []
  | .deviceResetRequest _ _ => []
  | .sessionRoleWrite _ _ => []
  | .challengeRead _ _ => []
  | .responseWrite _ _ _ => []
  | .challengeExpiry _ => []
  | .challengeLockoutEnd _ => []
  | .sessionFallback _ => []
  | .settingsCommit _ _ => []
  | .settingsRevert _ => []
  | .notificationCycle => []
  | .notificationRetry _ _ => []
  | .quablinkRequest _ _ _ _ => []
  | .notificationAcknowledge _ _ => []
  | .beacon _ _ _ _ => []
  | .alertAcknowledge _ _ => []
  | .windowDataRequest _ _ _ _ _ _ _ _ _ => []
  | .ignoredFrame _ _ _ => []
  | .plcaSettingTakesEffect => []
  | .plcaBeaconLoss => []
  | .alertRaised _ _ => []
  | .alertRepeat _ => []
  | .managementPortResume => []
  | .syncHoldover => []
  | .minuteBoundary => []
  | .claim _ _ => []
  | .release _ => []
  | .sectionCleared _ => []
  | .leaseExpiry _ => []
  | .bar2WindowAccess _ _ _ _ _ _ => []
  | .mailboxGo _ => []
  | .notificationRingEnable _ _ => []
  | .paSifCmdWrite c _ => [c]
  | .preampFrameDone c _ _ _ => [c]
  | .preampFault c => [c]
  | .calibrationWriteHold c => [c]
  | .calibrationHoldRelease c => [c]
  | .calibrationStepStart c _ _ => [c]
  | .sectorStart c _ _ _ _ _ _ _ _ _ => [c]
  | .servoGateRise c => [c]
  | .servoAddressMark c _ => [c]
  | .thermalAsperity c => [c]
  | .timingSlip c => [c]
  | .codewordDecoded c _ => [c]
  | .decoderQueueOverflow c => [c]
  | .bufferRetry c => [c]
  | .verifyReport c => [c]
  | .adapterUpdate c => [c]
  | .activeAdaptationRequest c _ _ => [c]
  | .areqClear c => [c]
  | .chTaddrWrite c _ => [c]
  | .coefficientCommit c _ => [c]
  | .chTdataAccess c _ _ => [c]
  | .channelReinitialise c _ => [c]
  | .markMiss c => [c]
  | .markMissLimit c => [c]
  | .readRevolutionRetry c => [c]
  | .reassign c _ => [c]
  | .writeUnsafe c => [c]
  | .homeRewrite c _ => [c]
  | .landingFull c => [c]
  | .poolEmpty c => [c]
  | .landingCheckpoint c _ => [c]
  | .powerLossSectorEnd c => [c]
  | .controlStoreCopyDone c => [c]
  | .fmRqpush c => [c]
  | .engineRequestPush c _ _ _ _ _ => [c]
  | .routineStart c => [c]
  | .microword c => [c]
  | .waitConditionMet c => [c]
  | .sqPush c => [c]
  | .sif c _ => [c]
  | .rptTake c => [c]
  | .sqFlush c => [c]
  | .reqDone c _ => [c]
  | .sect c _ => [c]
  | .fwIrq c _ => [c]
  | .seek c _ _ => [c]
  | .defadd c => [c]
  | .lidx c _ => [c]
  | .halt c => [c]
  | .iret c => [c]
  | .safePointOverrun c => [c]
  | .formatterInterruptTaken c => [c]
  | .formatterAbort c _ => [c]
  | .fwreq c => [c]
  | .runClear c => [c]
  | .patchLoadStart c => [c]
  | .patchLoadDone c _ => [c]
  | .descriptorStart c _ => [c]
  | .descriptorReport c => [c]
  | .landingRunClose c _ => [c]
  | .stuPowerLoss c => [c]
  | .formatterReinitialise c => [c]
  | .servoSample c _ => [c]
  | .wedgeLock c => [c]
  | .lockLost c => [c]
  | .coastTimeout c => [c]
  | .svSeekWrite c _ => [c]
  | .seekStart c => [c]
  | .handover c _ => [c]
  | .ontrk c => [c]
  | .seekFail c => [c]
  | .headSwitch c => [c]
  | .bankSwap c => [c]
  | .svBankCommit c _ => [c]
  | .rcRevolution c => [c]
  | .rcCommit c => [c]
  | .bandLawBlock c _ => [c]
  | .readClearanceStep c _ => [c]
  | .bandApply c _ => [c]
  | .servoEnable c => [c]
  | .servoReinitialise c => [c]
  | .controlPeriod _ _ _ _ _ _ => []
  | .observerEvaluation => []
  | .speedLoop => []
  | .busyReport c => [c]
  | .demandGovernor => []
  | .spindleStart => []
  | .spindleStop => []
  | .spindleCoast => []
  | .measuringEnd _ => []
  | .alignmentEnd => []
  | .openLoopSpeedReached => []
  | .startAttemptFail => []
  | .atSpeed => []
  | .brakingEnd => []
  | .coastToStopped => []
  | .spindleResetCheck _ => []
  | .wedgeFallback => []
  | .reCatch _ => []
  | .reCatchFail _ => []
  | .ecalStart c => [c]
  | .ecalEnd c => [c]
  | .powerLoss _ _ => []
  | .holdUpEnd => []
  | .supplyReturn _ _ => []
  | .overcurrent => []
  | .busOvervoltage _ => []
  | .actuatorMessage c _ _ _ _ _ _ _ _ => [c]
  | .currentMismatch c => [c]
  | .sidebandTimeout c => [c]
  | .holdingTimeout c => [c]
  | .load c => [c]
  | .unload c => [c]
  | .retract c => [c]
  | .profilePhaseEnd c => [c]
  | .loadTimeout c => [c]
  | .perst _ _ => []
  | .functionLevelReset _ => []
  | .controllerDisable _ => []
  | .controllerEnable _ _ _ => []
  | .shutdown _ => []
  | .commandFetch _ _ _ _ => []
  | .deleteIoSq _ _ _ => []
  | .createIoSq _ _ _ _ _ => []
  | .deleteIoCq _ _ _ => []
  | .createIoCq _ _ _ _ _ _ => []
  | .getLogPage _ _ _ _ _ _ => []
  | .identify _ _ _ _ _ => []
  | .abort _ _ _ _ => []
  | .setFeatures _ _ _ _ _ _ => []
  | .getFeatures _ _ _ _ _ => []
  | .asynchronousEventRequest _ _ => []
  | .namespaceManagement _ _ _ _ _ _ _ _ _ _ => []
  | .namespaceAttachment _ _ _ _ _ => []
  | .formatNvm _ _ _ _ _ _ _ _ => []
  | .sanitize _ _ _ _ _ _ _ => []
  | .twinPair _ _ _ => []
  | .twinIdentify _ _ => []
  | .twinUnpair _ _ => []
  | .twinResilver _ _ _ _ _ => []
  | .flush _ => []
  | .writeCommand _ _ _ _ => []
  | .readCommand _ _ => []
  | .writeZeroes _ => []
  | .verifyCommand _ _ => []
  | .reservationRegister _ _ _ _ _ _ => []
  | .reservationReport _ _ => []
  | .reservationAcquire _ _ _ _ _ _ => []
  | .reservationRelease _ _ _ _ _ => []
  | .pagesAllocated => []
  | .pagesFreed _ => []
  | .pieceOnMedium _ _ _ => []
  | .completionCommit _ _ => []
  | .completionPost _ _ _ => []
  | .orderRelease _ => []
  | .fenceDuringExecution => []
  | .extentMapChange c => [c]
  | .destage c _ _ _ => [c]
  | .landingWrite _ _ _ _ => []
  | .replay c _ => [c]
  | .formatSanitizeResume => []
  | .apstIdleTimeout _ => []
  | .noReadyControllerTimeout => []
  | .powerStateExitOnIo _ => []
  | .operationalStateChange => []
  | .lowPowerTransitionBegin => []
  | .pwPscmdGo _ => []
  | .domainPowerDown _ => []
  | .domainPowerUp _ => []
  | .dmCtrlStart _ _ => []
  | .dmCtrlResume _ _ => []
  | .dmCtrlStop _ _ => []
  | .dmBell _ => []
  | .cartStart _ => []
  | .dmaBeat _ => []
  | .cartEnd _ => []
  | .dmaRecordWrite _ => []
  | .dmaBusError _ _ _ => []
  | .dmaHaltClear => []
  | .dmRqcfgWrite _ _ _ => []
  | .dmaChannelReinitialise _ => []
  | .memoryCorrectableError _ _ => []
  | .memoryUncorrectableError _ _ => []
  | .bucketLeak => []
  | .scrub _ _ => []
  | .mr4Read _ _ _ => []
  | .ownershipViolation _ _ => []
  | .coreRelease _ => []
  | .cboClean _ _ => []
  | .cboInval _ _ => []
  | .cboFlush _ _ => []
  | .ccMopClean _ => []
  | .ccMopInvalidate _ => []
  | .ccMopFlush _ => []
  | .cacheOperationDone => []
  | .ccWlockWrite _ => []
  | .l2MissFill _ _ _ _ _ _ _ => []
  | .l2UncorrectableError _ _ _ _ => []
  | .coreAccessFault _ _ _ _ _ => []
  | .interruptSourceChange _ _ => []
  | .timerCompare _ => []
  | .coreReinitialise _ => []
  | .l2ResetInvalidate => []
  | .keyDerivation _ _ _ => []
  | .dataUnitCipher _ _ => []
  | .cipherMismatch _ _ => []
  | .generationMove _ _ => []
  | .reservationMarkRaise _ _ => []
  | .hallWriteDone _ => []
  | .rekeyStart c => [c]
  | .rekeyChunk c _ _ => [c]
  | .rekeyEnd c => [c]
  | .epochAdvance _ => []
  | .roleKeyInstall _ _ _ => []
  | .powerLossBank => []
  | .twinPad => []
  | .twinHello _ _ => []
  | .twinConfirm _ => []
  | .twinWriteMessage _ => []
  | .twinAck _ => []
  | .twinStateMessage _ => []
  | .twinLedgerMessage _ => []
  | .twinChunkMessage _ => []
  | .twinUnpairMessage _ => []
  | .twinBeat => []
  | .helloResend => []
  | .pairingTimeout => []
  | .partnerLost _ => []
  | .unsettledListLeave _ => []
  | .startupHelloWaitEnd => []
  | .resilverChunkSend _ => []
  | .faultDetected _ _ _ => []
  | .thHbeatWrite _ => []
  | .heartbeatMiss => []
  | .aliveStop => []
  | .temperatureReading _ _ => []
  | .sensorBroken _ => []
  | .thermalShutdownEnd _ => []
  | .hardwareTrip _ => []
  | .tripHoldUpEnd => []
  | .tripRecovery _ => []
  | .thForceWrite _ _ _ => []
  | .recordRaised _ _ _ _ => []
  | .recordStore => []
  | .recordsLost => []
  | .operatingTimeSave => []
  | .evRselWrite _ => []
  | .evFwcodeWrite _ => []
  | .evPslotGo _ => []
  | .clear _ _ => []
  | .clearDone => []
  | .powerLossFlush => []
  | .deviceReset _ _ => []
  | .deviceResetRelease => []
  | .reinitialiseComplete _ _ => []
  | .strapPinChange _ => []
  | .tapClock _ _ _ _ => []
  | .trstNLow => []
  | .linktestDone _ _ => []
  | .hxPerstNRise _ => []
  | .pcieLinkUp _ _ _ _ => []
  | .plcaBeaconSeen => []
  | .transmitOpportunity => []
  | .pairRecordWrite => []

/-- A well-formed command names carriages 0 to 3 only. -/
def Statement (i : Instr) : Prop := wellFormed i = true → ∀ c ∈ carriages i, c < 4

theorem none {i : Instr} (h : carriages i = []) : Statement i := fun _ c hc => absurd (h ▸ hc) (List.not_mem_nil)

theorem one {i : Instr} {n : Nat} (h : carriages i = [n]) (w : wellFormed i = true → isCarriage n = true) : Statement i := by
  intro hw c hc
  rw [h, List.mem_singleton] at hc
  subst hc
  exact of_decide_eq_true (w hw)

theorem and_left {a b : Bool} (h : (a && b) = true) : a = true := (Bool.and_eq_true a b ▸ h).1

theorem and_right {a b : Bool} (h : (a && b) = true) : b = true := (Bool.and_eq_true a b ▸ h).2

theorem resetInNRise (prsnt : Bool) : Statement (.resetInNRise prsnt) := none rfl
theorem resetInNFall : Statement .resetInNFall := none rfl
theorem strapSampling (samples : List Nat) : Statement (.strapSampling samples) := none rfl
theorem prsntNDebouncedChange (level : Bool) : Statement (.prsntNDebouncedChange level) := none rfl
theorem hotRemovalAbandon : Statement .hotRemovalAbandon := none rfl
theorem l2InvalidateDone : Statement .l2InvalidateDone := none rfl
theorem sramEccSelfTest (region : Option Nat) (pass : Bool) : Statement (.sramEccSelfTest region pass) := none rfl
theorem lpddr4xTrainingDone (trained : Bool) (eccPass : Bool) : Statement (.lpddr4xTrainingDone trained eccPass) := none rfl
theorem imageSlotCheck (slot : Nat) (jedecOk : Bool) (image : ImageHeader) : Statement (.imageSlotCheck slot jedecOk image) := none rfl
theorem recoveryStart (sess : Nat) (sigOk : Bool) (bodyOk : Bool) : Statement (.recoveryStart sess sigOk bodyOk) := none rfl
theorem firmwareStart : Statement .firmwareStart := none rfl
theorem startFailure (code : Nat) (detail : Nat) : Statement (.startFailure code detail) := none rfl
theorem temperatureGateReread (temp : Int) : Statement (.temperatureGateReread temp) := none rfl
theorem adminReady : Statement .adminReady := none rfl
theorem spindleStartGateOpen : Statement .spindleStartGateOpen := none rfl
theorem headLoadFailed (c : Nat) : Statement (.headLoadFailed c) := one rfl (fun h => h)
theorem firstCalibrationPass (settingsGood : List Nat) (mapGood : List Nat) (replays : List Nat) (checks : List HeadCheck) : Statement (.firstCalibrationPass settingsGood mapGood replays checks) := none rfl
theorem mediaReady : Statement .mediaReady := none rfl
theorem configRequest (p : Nat) (reg : CfgReg) (write : Option Nat) : Statement (.configRequest p reg write) := none rfl
theorem linkFlitCrcError (l : Nat) (toward : Bool) (retry : Bool) : Statement (.linkFlitCrcError l toward retry) := none rfl
theorem linkDown (l : Nat) : Statement (.linkDown l) := none rfl
theorem linkTrained (l : Nat) (up : Bool) (lat : Nat) : Statement (.linkTrained l up lat) := none rfl
theorem registerWrite (src : Nat) (a : Nat) (data : Nat) : Statement (.registerWrite src a data) := none rfl
theorem postedWriteAccepted (src : Nat) (a : Nat) (data : Nat) : Statement (.postedWriteAccepted src a data) := none rfl
theorem postedWriteLands (page : Nat) : Statement (.postedWriteLands page) := none rfl
theorem bridgeFarSideReady (page : Nat) : Statement (.bridgeFarSideReady page) := none rfl
theorem misalignedAccess (a : Nat) (write : Bool) : Statement (.misalignedAccess a write) := none rfl
theorem rcFieldRead (src : Nat) (a : Nat) : Statement (.rcFieldRead src a) := none rfl
theorem readObject (sess : Nat) (u : Nat) (p : Nat) (e : Nat) : Statement (.readObject sess u p e) := none rfl
theorem writeObject (sess : Nat) (u : Nat) (p : Nat) (e : Nat) (ty : Nat) (value : List (BitVec 8)) : Statement (.writeObject sess u p e ty value) := none rfl
theorem readEach (sess : Nat) (u : Nat) (p : Nat) (e : Nat) (claim : Option Nat) : Statement (.readEach sess u p e claim) := none rfl
theorem describe (sess : Nat) (u : Nat) (p : Nat) (e : Nat) : Statement (.describe sess u p e) := none rfl
theorem subscribe (sess : Nat) (u : Nat) (p : Nat) (e : Nat) (ty : Nat) (interval : Nat) (deadband : List (BitVec 8)) : Statement (.subscribe sess u p e ty interval deadband) := none rfl
theorem unsubscribe (sess : Nat) (u : Nat) (p : Nat) (e : Nat) : Statement (.unsubscribe sess u p e) := none rfl
theorem blockRead (sess : Nat) (u : Nat) (p : Nat) (e : Nat) (first : Nat) (n : Nat) : Statement (.blockRead sess u p e first n) := none rfl
theorem blockWrite (sess : Nat) (u : Nat) (p : Nat) (e : Nat) (first : Nat) (n : Nat) : Statement (.blockWrite sess u p e first n) := none rfl
theorem fence (sess : Nat) (u : Nat) : Statement (.fence sess u) := none rfl
theorem unfence (sess : Nat) (u : Nat) : Statement (.unfence sess u) := none rfl
theorem reInitialise (sess : Nat) (u : Nat) : Statement (.reInitialise sess u) := none rfl
theorem acknowledgeFaults (sess : Nat) (u : Nat) : Statement (.acknowledgeFaults sess u) := none rfl
theorem powerStateRequest (sess : Nat) (u : Nat) (x : Nat) : Statement (.powerStateRequest sess u x) := none rfl
theorem faultForce (sess : Nat) (u : Nat) (mask : Nat) : Statement (.faultForce sess u mask) := none rfl
theorem deviceResetRequest (sess : Nat) (x : Nat) : Statement (.deviceResetRequest sess x) := none rfl
theorem sessionRoleWrite (sess : Nat) (role : Nat) : Statement (.sessionRoleWrite sess role) := none rfl
theorem challengeRead (sess : Nat) (half : Nat) : Statement (.challengeRead sess half) := none rfl
theorem responseWrite (sess : Nat) (half : Nat) (x : Nat) : Statement (.responseWrite sess half x) := none rfl
theorem challengeExpiry (sess : Nat) : Statement (.challengeExpiry sess) := none rfl
theorem challengeLockoutEnd (sess : Nat) : Statement (.challengeLockoutEnd sess) := none rfl
theorem sessionFallback (sess : Nat) : Statement (.sessionFallback sess) := none rfl
theorem settingsCommit (sess : Nat) (verified : Nat) : Statement (.settingsCommit sess verified) := none rfl
theorem settingsRevert (sess : Nat) : Statement (.settingsRevert sess) := none rfl
theorem notificationCycle : Statement .notificationCycle := none rfl
theorem notificationRetry (sess : Nat) (seq : Nat) : Statement (.notificationRetry sess seq) := none rfl
theorem quablinkRequest (src : Nat) (seq : Nat) (count : Nat) (body : List (BitVec 8)) : Statement (.quablinkRequest src seq count body) := none rfl
theorem notificationAcknowledge (sess : Nat) (seq : Nat) : Statement (.notificationAcknowledge sess seq) := none rfl
theorem beacon (src : Nat) (minute : Nat) (until_ : Nat) (e : Int) : Statement (.beacon src minute until_ e) := none rfl
theorem alertAcknowledge (src : Nat) (seq : Nat) : Statement (.alertAcknowledge src seq) := none rfl
theorem windowDataRequest (src : Nat) (seq : Nat) (count : Nat) (sect : Nat) (dir : Nat) (offset : Nat) (wlen : Nat) (clean : Bool) (data : List (BitVec 8)) : Statement (.windowDataRequest src seq count sect dir offset wlen clean data) := none rfl
theorem ignoredFrame (dest : Nat) (etherType : Nat) (payload : List (BitVec 8)) : Statement (.ignoredFrame dest etherType payload) := none rfl
theorem plcaSettingTakesEffect : Statement .plcaSettingTakesEffect := none rfl
theorem plcaBeaconLoss : Statement .plcaBeaconLoss := none rfl
theorem alertRaised (code : Nat) (detail : Nat) : Statement (.alertRaised code detail) := none rfl
theorem alertRepeat (seq : Nat) : Statement (.alertRepeat seq) := none rfl
theorem managementPortResume : Statement .managementPortResume := none rfl
theorem syncHoldover : Statement .syncHoldover := none rfl
theorem minuteBoundary : Statement .minuteBoundary := none rfl
theorem claim (sess : Nat) (mask : Nat) : Statement (.claim sess mask) := none rfl
theorem release (sess : Nat) : Statement (.release sess) := none rfl
theorem sectionCleared (n : Nat) : Statement (.sectionCleared n) := none rfl
theorem leaseExpiry (n : Nat) : Statement (.leaseExpiry n) := none rfl
theorem bar2WindowAccess (p : Nat) (o : Nat) (n : Nat) (requester : Nat) (write : Bool) (data : List (BitVec 8)) : Statement (.bar2WindowAccess p o n requester write data) := none rfl
theorem mailboxGo (p : Nat) : Statement (.mailboxGo p) := none rfl
theorem notificationRingEnable (p : Nat) (data : Nat) : Statement (.notificationRingEnable p data) := none rfl
theorem paSifCmdWrite (c : Nat) (data : Nat) : Statement (.paSifCmdWrite c data) := one rfl (fun h => (and_left h))
theorem preampFrameDone (c : Nat) (ack : Nat) (rdata : Nat) (parityOk : Bool) : Statement (.preampFrameDone c ack rdata parityOk) := one rfl (fun h => (and_left (and_left h)))
theorem preampFault (c : Nat) : Statement (.preampFault c) := one rfl (fun h => h)
theorem calibrationWriteHold (c : Nat) : Statement (.calibrationWriteHold c) := one rfl (fun h => h)
theorem calibrationHoldRelease (c : Nat) : Statement (.calibrationHoldRelease c) := one rfl (fun h => h)
theorem calibrationStepStart (c : Nat) (write : Bool) (ms : Nat) : Statement (.calibrationStepStart c write ms) := one rfl (fun h => h)
theorem sectorStart (c : Nat) (hd : Nat) (group : Nat) (zbp : Nat) (seed : Nat) (mode : Nat) (write : Bool) (buf : Nat) (cuts : List Nat) (signal : List Stretch) : Statement (.sectorStart c hd group zbp seed mode write buf cuts signal) := one rfl (fun h => (and_left (and_left (and_left (and_left (and_left h))))))
theorem servoGateRise (c : Nat) : Statement (.servoGateRise c) := one rfl (fun h => h)
theorem servoAddressMark (c : Nat) (bc : Nat) : Statement (.servoAddressMark c bc) := one rfl (fun h => h)
theorem thermalAsperity (c : Nat) : Statement (.thermalAsperity c) := one rfl (fun h => h)
theorem timingSlip (c : Nat) : Statement (.timingSlip c) := one rfl (fun h => h)
theorem codewordDecoded (c : Nat) (i : Nat) : Statement (.codewordDecoded c i) := one rfl (fun h => h)
theorem decoderQueueOverflow (c : Nat) : Statement (.decoderQueueOverflow c) := one rfl (fun h => h)
theorem bufferRetry (c : Nat) : Statement (.bufferRetry c) := one rfl (fun h => h)
theorem verifyReport (c : Nat) : Statement (.verifyReport c) := one rfl (fun h => h)
theorem adapterUpdate (c : Nat) : Statement (.adapterUpdate c) := one rfl (fun h => h)
theorem activeAdaptationRequest (c : Nat) (hd : Nat) (z : Nat) : Statement (.activeAdaptationRequest c hd z) := one rfl (fun h => (and_left (and_left h)))
theorem areqClear (c : Nat) : Statement (.areqClear c) := one rfl (fun h => h)
theorem chTaddrWrite (c : Nat) (data : Nat) : Statement (.chTaddrWrite c data) := one rfl (fun h => (and_left h))
theorem coefficientCommit (c : Nat) (data : Nat) : Statement (.coefficientCommit c data) := one rfl (fun h => (and_left h))
theorem chTdataAccess (c : Nat) (write : Bool) (data : Nat) : Statement (.chTdataAccess c write data) := one rfl (fun h => (and_left h))
theorem channelReinitialise (c : Nat) (frontEnd : Bool) : Statement (.channelReinitialise c frontEnd) := one rfl (fun h => h)
theorem markMiss (c : Nat) : Statement (.markMiss c) := one rfl (fun h => h)
theorem markMissLimit (c : Nat) : Statement (.markMissLimit c) := one rfl (fun h => h)
theorem readRevolutionRetry (c : Nat) : Statement (.readRevolutionRetry c) := one rfl (fun h => h)
theorem reassign (c : Nat) (ok : Bool) : Statement (.reassign c ok) := one rfl (fun h => h)
theorem writeUnsafe (c : Nat) : Statement (.writeUnsafe c) := one rfl (fun h => h)
theorem homeRewrite (c : Nat) (ok : Bool) : Statement (.homeRewrite c ok) := one rfl (fun h => h)
theorem landingFull (c : Nat) : Statement (.landingFull c) := one rfl (fun h => h)
theorem poolEmpty (c : Nat) : Statement (.poolEmpty c) := one rfl (fun h => h)
theorem landingCheckpoint (c : Nat) (ok : Bool) : Statement (.landingCheckpoint c ok) := one rfl (fun h => h)
theorem powerLossSectorEnd (c : Nat) : Statement (.powerLossSectorEnd c) := one rfl (fun h => h)
theorem controlStoreCopyDone (c : Nat) : Statement (.controlStoreCopyDone c) := one rfl (fun h => h)
theorem fmRqpush (c : Nat) : Statement (.fmRqpush c) := one rfl (fun h => h)
theorem engineRequestPush (c : Nat) (opc : Nat) (tag : Nat) (w1 : Nat) (w2 : Nat) (w3 : Nat) : Statement (.engineRequestPush c opc tag w1 w2 w3) := one rfl (fun h => (and_left (and_left (and_left (and_left (and_left h))))))
theorem routineStart (c : Nat) : Statement (.routineStart c) := one rfl (fun h => h)
theorem microword (c : Nat) : Statement (.microword c) := one rfl (fun h => h)
theorem waitConditionMet (c : Nat) : Statement (.waitConditionMet c) := one rfl (fun h => h)
theorem sqPush (c : Nat) : Statement (.sqPush c) := one rfl (fun h => h)
theorem sif (c : Nat) (v : Nat) : Statement (.sif c v) := one rfl (fun h => (and_left h))
theorem rptTake (c : Nat) : Statement (.rptTake c) := one rfl (fun h => h)
theorem sqFlush (c : Nat) : Statement (.sqFlush c) := one rfl (fun h => h)
theorem reqDone (c : Nat) (status : Nat) : Statement (.reqDone c status) := one rfl (fun h => (and_left h))
theorem sect (c : Nat) (v : Nat) : Statement (.sect c v) := one rfl (fun h => (and_left h))
theorem fwIrq (c : Nat) (v : Nat) : Statement (.fwIrq c v) := one rfl (fun h => (and_left h))
theorem seek (c : Nat) (hd : Nat) (track : Nat) : Statement (.seek c hd track) := one rfl (fun h => (and_left (and_left h)))
theorem defadd (c : Nat) : Statement (.defadd c) := one rfl (fun h => h)
theorem lidx (c : Nat) (seq : Nat) : Statement (.lidx c seq) := one rfl (fun h => h)
theorem halt (c : Nat) : Statement (.halt c) := one rfl (fun h => h)
theorem iret (c : Nat) : Statement (.iret c) := one rfl (fun h => h)
theorem safePointOverrun (c : Nat) : Statement (.safePointOverrun c) := one rfl (fun h => h)
theorem formatterInterruptTaken (c : Nat) : Statement (.formatterInterruptTaken c) := one rfl (fun h => h)
theorem formatterAbort (c : Nat) (tag : Nat) : Statement (.formatterAbort c tag) := one rfl (fun h => (and_left h))
theorem fwreq (c : Nat) : Statement (.fwreq c) := one rfl (fun h => h)
theorem runClear (c : Nat) : Statement (.runClear c) := one rfl (fun h => h)
theorem patchLoadStart (c : Nat) : Statement (.patchLoadStart c) := one rfl (fun h => h)
theorem patchLoadDone (c : Nat) (readable : Bool) : Statement (.patchLoadDone c readable) := one rfl (fun h => h)
theorem descriptorStart (c : Nat) (signal : List Stretch) : Statement (.descriptorStart c signal) := one rfl (fun h => h)
theorem descriptorReport (c : Nat) : Statement (.descriptorReport c) := one rfl (fun h => h)
theorem landingRunClose (c : Nat) (n : Nat) : Statement (.landingRunClose c n) := one rfl (fun h => h)
theorem stuPowerLoss (c : Nat) : Statement (.stuPowerLoss c) := one rfl (fun h => h)
theorem formatterReinitialise (c : Nat) : Statement (.formatterReinitialise c) := one rfl (fun h => h)
theorem servoSample (c : Nat) (w : ServoWedge) : Statement (.servoSample c w) := one rfl (fun h => h)
theorem wedgeLock (c : Nat) : Statement (.wedgeLock c) := one rfl (fun h => h)
theorem lockLost (c : Nat) : Statement (.lockLost c) := one rfl (fun h => h)
theorem coastTimeout (c : Nat) : Statement (.coastTimeout c) := one rfl (fun h => h)
theorem svSeekWrite (c : Nat) (data : Nat) : Statement (.svSeekWrite c data) := one rfl (fun h => (and_left h))
theorem seekStart (c : Nat) : Statement (.seekStart c) := one rfl (fun h => h)
theorem handover (c : Nat) (age : Nat) : Statement (.handover c age) := one rfl (fun h => (and_left h))
theorem ontrk (c : Nat) : Statement (.ontrk c) := one rfl (fun h => h)
theorem seekFail (c : Nat) : Statement (.seekFail c) := one rfl (fun h => h)
theorem headSwitch (c : Nat) : Statement (.headSwitch c) := one rfl (fun h => h)
theorem bankSwap (c : Nat) : Statement (.bankSwap c) := one rfl (fun h => h)
theorem svBankCommit (c : Nat) (data : Nat) : Statement (.svBankCommit c data) := one rfl (fun h => (and_left h))
theorem rcRevolution (c : Nat) : Statement (.rcRevolution c) := one rfl (fun h => h)
theorem rcCommit (c : Nat) : Statement (.rcCommit c) := one rfl (fun h => h)
theorem bandLawBlock (c : Nat) (hd : Nat) : Statement (.bandLawBlock c hd) := one rfl (fun h => (and_left h))
theorem readClearanceStep (c : Nat) (hd : Nat) : Statement (.readClearanceStep c hd) := one rfl (fun h => (and_left h))
theorem bandApply (c : Nat) (hd : Nat) : Statement (.bandApply c hd) := one rfl (fun h => (and_left h))
theorem servoEnable (c : Nat) : Statement (.servoEnable c) := one rfl (fun h => h)
theorem servoReinitialise (c : Nat) : Statement (.servoReinitialise c) := one rfl (fun h => h)
theorem controlPeriod (u1 : Int) (u2 : Int) (v1 : Int) (v2 : Int) (v12 : Nat) (v5 : Nat) : Statement (.controlPeriod u1 u2 v1 v2 v12 v5) := none rfl
theorem observerEvaluation : Statement .observerEvaluation := none rfl
theorem speedLoop : Statement .speedLoop := none rfl
theorem busyReport (c : Nat) : Statement (.busyReport c) := one rfl (fun h => h)
theorem demandGovernor : Statement .demandGovernor := none rfl
theorem spindleStart : Statement .spindleStart := none rfl
theorem spindleStop : Statement .spindleStop := none rfl
theorem spindleCoast : Statement .spindleCoast := none rfl
theorem measuringEnd (crossings : List (Nat × Rat)) : Statement (.measuringEnd crossings) := none rfl
theorem alignmentEnd : Statement .alignmentEnd := none rfl
theorem openLoopSpeedReached : Statement .openLoopSpeedReached := none rfl
theorem startAttemptFail : Statement .startAttemptFail := none rfl
theorem atSpeed : Statement .atSpeed := none rfl
theorem brakingEnd : Statement .brakingEnd := none rfl
theorem coastToStopped : Statement .coastToStopped := none rfl
theorem spindleResetCheck (crossing : Bool) : Statement (.spindleResetCheck crossing) := none rfl
theorem wedgeFallback : Statement .wedgeFallback := none rfl
theorem reCatch (crossings : List (Nat × Rat)) : Statement (.reCatch crossings) := none rfl
theorem reCatchFail (crossings : List (Nat × Rat)) : Statement (.reCatchFail crossings) := none rfl
theorem ecalStart (c : Nat) : Statement (.ecalStart c) := one rfl (fun h => h)
theorem ecalEnd (c : Nat) : Statement (.ecalEnd c) := one rfl (fun h => h)
theorem powerLoss (v12 : Nat) (v5 : Nat) : Statement (.powerLoss v12 v5) := none rfl
theorem holdUpEnd : Statement .holdUpEnd := none rfl
theorem supplyReturn (v12 : Nat) (v5 : Nat) : Statement (.supplyReturn v12 v5) := none rfl
theorem overcurrent : Statement .overcurrent := none rfl
theorem busOvervoltage (v12 : Nat) : Statement (.busOvervoltage v12) := none rfl
theorem actuatorMessage (c : Nat) (vcm : Int) (ma : Int) (wedge : Nat) (elph : Nat) (age : Nat) (period : Nat) (flags : Nat) (sensed : Int) : Statement (.actuatorMessage c vcm ma wedge elph age period flags sensed) := one rfl (fun h => (and_left (and_left (and_left (and_left (and_left h))))))
theorem currentMismatch (c : Nat) : Statement (.currentMismatch c) := one rfl (fun h => h)
theorem sidebandTimeout (c : Nat) : Statement (.sidebandTimeout c) := one rfl (fun h => h)
theorem holdingTimeout (c : Nat) : Statement (.holdingTimeout c) := one rfl (fun h => h)
theorem load (c : Nat) : Statement (.load c) := one rfl (fun h => h)
theorem unload (c : Nat) : Statement (.unload c) := one rfl (fun h => h)
theorem retract (c : Nat) : Statement (.retract c) := one rfl (fun h => h)
theorem profilePhaseEnd (c : Nat) : Statement (.profilePhaseEnd c) := one rfl (fun h => h)
theorem loadTimeout (c : Nat) : Statement (.loadTimeout c) := one rfl (fun h => h)
theorem perst (p : Nat) (kind : Nat) : Statement (.perst p kind) := none rfl
theorem functionLevelReset (p : Nat) : Statement (.functionLevelReset p) := none rfl
theorem controllerDisable (p : Nat) : Statement (.controllerDisable p) := none rfl
theorem controllerEnable (p : Nat) (asqs : Nat) (acqs : Nat) : Statement (.controllerEnable p asqs acqs) := none rfl
theorem shutdown (p : Nat) : Statement (.shutdown p) := none rfl
theorem commandFetch (p : Nat) (sq : Nat) (waiting : List Nat) (entry : SqEntry) : Statement (.commandFetch p sq waiting entry) := none rfl
theorem deleteIoSq (p : Nat) (cid : Nat) (qid : Nat) : Statement (.deleteIoSq p cid qid) := none rfl
theorem createIoSq (p : Nat) (cid : Nat) (qid : Nat) (size : Nat) (cqid : Nat) : Statement (.createIoSq p cid qid size cqid) := none rfl
theorem deleteIoCq (p : Nat) (cid : Nat) (qid : Nat) : Statement (.deleteIoCq p cid qid) := none rfl
theorem createIoCq (p : Nat) (cid : Nat) (qid : Nat) (size : Nat) (vector : Nat) (ien : Bool) : Statement (.createIoCq p cid qid size vector ien) := none rfl
theorem getLogPage (p : Nat) (cid : Nat) (lid : Nat) (nsid : Nat) (off : Nat) (len : Nat) : Statement (.getLogPage p cid lid nsid off len) := none rfl
theorem identify (p : Nat) (cid : Nat) (cns : Nat) (nsid : Nat) (cntid : Nat) : Statement (.identify p cid cns nsid cntid) := none rfl
theorem abort (p : Nat) (cid : Nat) (sq : Nat) (tcid : Nat) : Statement (.abort p cid sq tcid) := none rfl
theorem setFeatures (p : Nat) (cid : Nat) (fid : Nat) (nsid : Nat) (value : Nat) (table : List Nat) : Statement (.setFeatures p cid fid nsid value table) := none rfl
theorem getFeatures (p : Nat) (cid : Nat) (fid : Nat) (nsid : Nat) (sel : Nat) : Statement (.getFeatures p cid fid nsid sel) := none rfl
theorem asynchronousEventRequest (p : Nat) (cid : Nat) : Statement (.asynchronousEventRequest p cid) := none rfl
theorem namespaceManagement (p : Nat) (cid : Nat) (sel : Nat) (nsid : Nat) (nsze : Nat) (ncap : Nat) (fmt : Nat) (pi : Nat) (mset' : Bool) (pil : Bool) : Statement (.namespaceManagement p cid sel nsid nsze ncap fmt pi mset' pil) := none rfl
theorem namespaceAttachment (p : Nat) (cid : Nat) (sel : Nat) (nsid : Nat) (ctrls : Nat) : Statement (.namespaceAttachment p cid sel nsid ctrls) := none rfl
theorem formatNvm (p : Nat) (cid : Nat) (nsid : Nat) (fmt : Nat) (pi : Nat) (ses : Nat) (mset' : Bool) (pil : Bool) : Statement (.formatNvm p cid nsid fmt pi ses mset' pil) := none rfl
theorem sanitize (p : Nat) (cid : Nat) (sanact : Nat) (ause : Bool) (owpass : Nat) (oipbp : Bool) (ovrpat : Nat) : Statement (.sanitize p cid sanact ause owpass oipbp ovrpat) := none rfl
theorem twinPair (p : Nat) (cid : Nat) (page : List (BitVec 8)) : Statement (.twinPair p cid page) := none rfl
theorem twinIdentify (p : Nat) (cid : Nat) : Statement (.twinIdentify p cid) := none rfl
theorem twinUnpair (p : Nat) (cid : Nat) : Statement (.twinUnpair p cid) := none rfl
theorem twinResilver (p : Nat) (cid : Nat) (cdw10 : Nat) (peerSolow : Bool) (peerDivergent : List Nat) : Statement (.twinResilver p cid cdw10 peerSolow peerDivergent) := none rfl
theorem flush (slot : Nat) : Statement (.flush slot) := none rfl
theorem writeCommand (slot : Nat) (blocks : List Nat) (metas : List Nat) (failed : Bool) : Statement (.writeCommand slot blocks metas failed) := none rfl
theorem readCommand (slot : Nat) (bad : List Nat) : Statement (.readCommand slot bad) := none rfl
theorem writeZeroes (slot : Nat) : Statement (.writeZeroes slot) := none rfl
theorem verifyCommand (slot : Nat) (bad : List Nat) : Statement (.verifyCommand slot bad) := none rfl
theorem reservationRegister (slot : Nat) (rrega : Nat) (iekey : Bool) (crkey : Nat) (nrkey : Nat) (cptpl : Nat) : Statement (.reservationRegister slot rrega iekey crkey nrkey cptpl) := none rfl
theorem reservationReport (slot : Nat) (numd : Nat) : Statement (.reservationReport slot numd) := none rfl
theorem reservationAcquire (slot : Nat) (racqa : Nat) (iekey : Bool) (crkey : Nat) (prkey : Nat) (rtype : Nat) : Statement (.reservationAcquire slot racqa iekey crkey prkey rtype) := none rfl
theorem reservationRelease (slot : Nat) (rrela : Nat) (iekey : Bool) (crkey : Nat) (rtype : Nat) : Statement (.reservationRelease slot rrela iekey crkey rtype) := none rfl
theorem pagesAllocated : Statement .pagesAllocated := none rfl
theorem pagesFreed (slot : Nat) : Statement (.pagesFreed slot) := none rfl
theorem pieceOnMedium (slot : Nat) (i : Nat) (err : Nat) : Statement (.pieceOnMedium slot i err) := none rfl
theorem completionCommit (slot : Nat) (failed : Bool) : Statement (.completionCommit slot failed) := none rfl
theorem completionPost (p : Nat) (cq : Nat) (head : Nat) : Statement (.completionPost p cq head) := none rfl
theorem orderRelease (slot : Nat) : Statement (.orderRelease slot) := none rfl
theorem fenceDuringExecution : Statement .fenceDuringExecution := none rfl
theorem extentMapChange (c : Nat) : Statement (.extentMapChange c) := one rfl (fun h => h)
theorem destage (c : Nat) (seq : Nat) (bad : List Nat) (us : Nat) : Statement (.destage c seq bad us) := one rfl (fun h => h)
theorem landingWrite (slot : Nat) (i : Nat) (fails : List Nat) (gap : Nat) : Statement (.landingWrite slot i fails gap) := none rfl
theorem replay (c : Nat) (readable : Bool) : Statement (.replay c readable) := one rfl (fun h => h)
theorem formatSanitizeResume : Statement .formatSanitizeResume := none rfl
theorem apstIdleTimeout (p : Nat) : Statement (.apstIdleTimeout p) := none rfl
theorem noReadyControllerTimeout : Statement .noReadyControllerTimeout := none rfl
theorem powerStateExitOnIo (p : Nat) : Statement (.powerStateExitOnIo p) := none rfl
theorem operationalStateChange : Statement .operationalStateChange := none rfl
theorem lowPowerTransitionBegin : Statement .lowPowerTransitionBegin := none rfl
theorem pwPscmdGo (data : Nat) : Statement (.pwPscmdGo data) := none rfl
theorem domainPowerDown (d : Nat) : Statement (.domainPowerDown d) := none rfl
theorem domainPowerUp (d : Nat) : Statement (.domainPowerUp d) := none rfl
theorem dmCtrlStart (n : Nat) (byEngine : Bool) : Statement (.dmCtrlStart n byEngine) := none rfl
theorem dmCtrlResume (n : Nat) (byEngine : Bool) : Statement (.dmCtrlResume n byEngine) := none rfl
theorem dmCtrlStop (n : Nat) (byEngine : Bool) : Statement (.dmCtrlStop n byEngine) := none rfl
theorem dmBell (data : Nat) : Statement (.dmBell data) := none rfl
theorem cartStart (n : Nat) : Statement (.cartStart n) := none rfl
theorem dmaBeat (n : Nat) : Statement (.dmaBeat n) := none rfl
theorem cartEnd (n : Nat) : Statement (.cartEnd n) := none rfl
theorem dmaRecordWrite (n : Nat) : Statement (.dmaRecordWrite n) := none rfl
theorem dmaBusError (n : Nat) (st : Nat) (a : Nat) : Statement (.dmaBusError n st a) := none rfl
theorem dmaHaltClear : Statement .dmaHaltClear := none rfl
theorem dmRqcfgWrite (n : Nat) (data : Nat) (byEngine : Bool) : Statement (.dmRqcfgWrite n data byEngine) := none rfl
theorem dmaChannelReinitialise (ch : Option Nat) : Statement (.dmaChannelReinitialise ch) := none rfl
theorem memoryCorrectableError (u : Nat) (region : Nat) : Statement (.memoryCorrectableError u region) := none rfl
theorem memoryUncorrectableError (a : Nat) (group : Bool) : Statement (.memoryUncorrectableError a group) := none rfl
theorem bucketLeak : Statement .bucketLeak := none rfl
theorem scrub (errors : List Nat) (bad : List Nat) : Statement (.scrub errors bad) := none rfl
theorem mr4Read (die : Nat) (rate : Nat) (hot : Bool) : Statement (.mr4Read die rate hot) := none rfl
theorem ownershipViolation (slot : Nat) (a : Nat) : Statement (.ownershipViolation slot a) := none rfl
theorem coreRelease (data : Nat) : Statement (.coreRelease data) := none rfl
theorem cboClean (k : Nat) (a : Nat) : Statement (.cboClean k a) := none rfl
theorem cboInval (k : Nat) (a : Nat) : Statement (.cboInval k a) := none rfl
theorem cboFlush (k : Nat) (a : Nat) : Statement (.cboFlush k a) := none rfl
theorem ccMopClean (data : Nat) : Statement (.ccMopClean data) := none rfl
theorem ccMopInvalidate (data : Nat) : Statement (.ccMopInvalidate data) := none rfl
theorem ccMopFlush (data : Nat) : Statement (.ccMopFlush data) := none rfl
theorem cacheOperationDone : Statement .cacheOperationDone := none rfl
theorem ccWlockWrite (data : Nat) : Statement (.ccWlockWrite data) := none rfl
theorem l2MissFill (k : Nat) (a : Nat) (kind : CoreAccess) (size : Nat) (fill : Bool) (bytes : List Nat) (cycles : Nat) : Statement (.l2MissFill k a kind size fill bytes cycles) := none rfl
theorem l2UncorrectableError (k : Nat) (a : Nat) (kind : CoreAccess) (tag : Bool) : Statement (.l2UncorrectableError k a kind tag) := none rfl
theorem coreAccessFault (k : Nat) (a : Nat) (kind : CoreAccess) (size : Nat) (bad : Bool) : Statement (.coreAccessFault k a kind size bad) := none rfl
theorem interruptSourceChange (n : Nat) (level : Bool) : Statement (.interruptSourceChange n level) := none rfl
theorem timerCompare (k : Nat) : Statement (.timerCompare k) := none rfl
theorem coreReinitialise (k : Nat) : Statement (.coreReinitialise k) := none rfl
theorem l2ResetInvalidate : Statement .l2ResetInvalidate := none rfl
theorem keyDerivation (n : Nat) (kgen : Nat) (agree : Bool) : Statement (.keyDerivation n kgen agree) := none rfl
theorem dataUnitCipher (slot : Nat) (i : Nat) : Statement (.dataUnitCipher slot i) := none rfl
theorem cipherMismatch (slot : Nat) (i : Nat) : Statement (.cipherMismatch slot i) := none rfl
theorem generationMove (n : Nat) (units : Nat) : Statement (.generationMove n units) := none rfl
theorem reservationMarkRaise (n : Nat) (units : Nat) : Statement (.reservationMarkRaise n units) := none rfl
theorem hallWriteDone (ok : Bool) : Statement (.hallWriteDone ok) := none rfl
theorem rekeyStart (c : Nat) : Statement (.rekeyStart c) := one rfl (fun h => h)
theorem rekeyChunk (c : Nat) (fails : List Nat) (gap : Nat) : Statement (.rekeyChunk c fails gap) := one rfl (fun h => h)
theorem rekeyEnd (c : Nat) : Statement (.rekeyEnd c) := one rfl (fun h => h)
theorem epochAdvance (n : Nat) : Statement (.epochAdvance n) := none rfl
theorem roleKeyInstall (sess : Nat) (custodian : Bool) (first : Nat) : Statement (.roleKeyInstall sess custodian first) := none rfl
theorem powerLossBank : Statement .powerLossBank := none rfl
theorem twinPad : Statement .twinPad := none rfl
theorem twinHello (f : TwinFrame) (requester : Nat) : Statement (.twinHello f requester) := none rfl
theorem twinConfirm (f : TwinFrame) : Statement (.twinConfirm f) := none rfl
theorem twinWriteMessage (f : TwinFrame) : Statement (.twinWriteMessage f) := none rfl
theorem twinAck (f : TwinFrame) : Statement (.twinAck f) := none rfl
theorem twinStateMessage (f : TwinFrame) : Statement (.twinStateMessage f) := none rfl
theorem twinLedgerMessage (f : TwinFrame) : Statement (.twinLedgerMessage f) := none rfl
theorem twinChunkMessage (f : TwinFrame) : Statement (.twinChunkMessage f) := none rfl
theorem twinUnpairMessage (f : TwinFrame) : Statement (.twinUnpairMessage f) := none rfl
theorem twinBeat : Statement .twinBeat := none rfl
theorem helloResend : Statement .helloResend := none rfl
theorem pairingTimeout : Statement .pairingTimeout := none rfl
theorem partnerLost (cause : Nat) : Statement (.partnerLost cause) := none rfl
theorem unsettledListLeave (e : Nat) : Statement (.unsettledListLeave e) := none rfl
theorem startupHelloWaitEnd : Statement .startupHelloWaitEnd := none rfl
theorem resilverChunkSend (e : Nat) : Statement (.resilverChunkSend e) := none rfl
theorem faultDetected (u : Nat) (k : Nat) (persists : Bool) : Statement (.faultDetected u k persists) := none rfl
theorem thHbeatWrite (key : Nat) : Statement (.thHbeatWrite key) := none rfl
theorem heartbeatMiss : Statement .heartbeatMiss := none rfl
theorem aliveStop : Statement .aliveStop := none rfl
theorem temperatureReading (die : Nat) (raw : Int) : Statement (.temperatureReading die raw) := none rfl
theorem sensorBroken (die : Nat) : Statement (.sensorBroken die) := none rfl
theorem thermalShutdownEnd (die : Nat) : Statement (.thermalShutdownEnd die) := none rfl
theorem hardwareTrip (die : Nat) : Statement (.hardwareTrip die) := none rfl
theorem tripHoldUpEnd : Statement .tripHoldUpEnd := none rfl
theorem tripRecovery (die : Nat) : Statement (.tripRecovery die) := none rfl
theorem thForceWrite (die : Nat) (source : Nat) (data : Nat) : Statement (.thForceWrite die source data) := none rfl
theorem recordRaised (u : Nat) (code : Nat) (severity : Nat) (detail : Nat) : Statement (.recordRaised u code severity detail) := none rfl
theorem recordStore : Statement .recordStore := none rfl
theorem recordsLost : Statement .recordsLost := none rfl
theorem operatingTimeSave : Statement .operatingTimeSave := none rfl
theorem evRselWrite (data : Nat) : Statement (.evRselWrite data) := none rfl
theorem evFwcodeWrite (data : Nat) : Statement (.evFwcodeWrite data) := none rfl
theorem evPslotGo (data : Nat) : Statement (.evPslotGo data) := none rfl
theorem clear (sess : Nat) (tag : Nat) : Statement (.clear sess tag) := none rfl
theorem clearDone : Statement .clearDone := none rfl
theorem powerLossFlush : Statement .powerLossFlush := none rfl
theorem deviceReset (cause : Nat) (u : Nat) : Statement (.deviceReset cause u) := none rfl
theorem deviceResetRelease : Statement .deviceResetRelease := none rfl
theorem reinitialiseComplete (u : Nat) (ok : Bool) : Statement (.reinitialiseComplete u ok) := none rfl
theorem strapPinChange (live : Nat) : Statement (.strapPinChange live) := none rfl
theorem tapClock (tms : Bool) (tdi : Bool) (still : Bool) (levels : Nat) : Statement (.tapClock tms tdi still levels) := none rfl
theorem trstNLow : Statement .trstNLow := none rfl
theorem linktestDone (pass : Nat) (flits : Nat) : Statement (.linktestDone pass flits) := none rfl
theorem hxPerstNRise (p : Nat) : Statement (.hxPerstNRise p) := none rfl
theorem pcieLinkUp (p : Nat) (speed : Nat) (width : Nat) (reversed : Bool) : Statement (.pcieLinkUp p speed width reversed) := none rfl
theorem plcaBeaconSeen : Statement .plcaBeaconSeen := none rfl
theorem transmitOpportunity : Statement .transmitOpportunity := none rfl
theorem pairRecordWrite : Statement .pairRecordWrite := none rfl

end Sys2Proof.Laws.Places
end

