-- ==== Sys2Proof/Laws/Stops.lean ====
section
/-! SUPPORT. What a Stair 2, a fence and a fault reaction leave alone, whatever they end: one lemma for each operation. -/
namespace Sys2Proof.Machine

/-- The parts of the hardware that no unit's stop, fence or fault reaction touches: bridges, test port, fuses, pins, links, dictionary,
host ports, command engine, buffer manager, shared cache, twin state and addressed memory are those of `g`. -/
def Kept (h g : Hw) : Prop :=
  h.bridges = g.bridges ∧ h.tap = g.tap ∧ h.fuses = g.fuses ∧ h.pins = g.pins ∧ h.links = g.links ∧ h.dict = g.dict ∧ h.portA = g.portA ∧ h.portB = g.portB ∧ h.engine = g.engine ∧ h.buffer = g.buffer ∧ h.cluster = g.cluster ∧ h.twin = g.twin ∧ h.mem = g.mem

theorem Kept.refl (h : Hw) : Kept h h := ⟨rfl, rfl, rfl, rfl, rfl, rfl, rfl, rfl, rfl, rfl, rfl, rfl, rfl⟩

@[simp] theorem kept_self (h : Hw) : Kept h h ↔ True := iff_of_true (Kept.refl h) trivial

/-- What every step of a fold keeps, the fold keeps. -/
theorem kept_foldl {β : Type} (f : Hw → β → Hw) (g : Hw) (k : ∀ h b, Kept (f h b) g ↔ Kept h g) (l : List β) (h : Hw) :
    Kept (l.foldl f h) g ↔ Kept h g := by
  induction l generalizing h with
  | nil => exact Iff.rfl
  | cons b r ih => rw [List.foldl_cons, ih, k]

@[simp] theorem kept_setF (h : Hw) (f : Fld) (d n : Nat) (g : Hw) : Kept (setF h f d n) g ↔ Kept h g := Iff.rfl
@[simp] theorem kept_addF (h : Hw) (f : Fld) (d n : Nat) (g : Hw) : Kept (addF h f d n) g ↔ Kept h g := Iff.rfl
@[simp] theorem kept_setS (h : Hw) (f : Fld) (d : Nat) (i : Int) (g : Hw) : Kept (setS h f d i) g ↔ Kept h g := Iff.rfl
@[simp] theorem kept_setReg (h : Hw) (a n : Nat) (g : Hw) : Kept (setReg h a n) g ↔ Kept h g := Iff.rfl
@[simp] theorem kept_emit (h : Hw) (o : Output) (g : Hw) : Kept (emit h o) g ↔ Kept h g := Iff.rfl
@[simp] theorem kept_drawn (h : Hw)  (g : Hw) : Kept (drawn h) g ↔ Kept h g := Iff.rfl
@[simp] theorem kept_onChan (h : Hw) (c : Nat) (f : Channel → Channel) (g : Hw) : Kept (onChan h c f) g ↔ Kept h g := Iff.rfl
@[simp] theorem kept_onPath (h : Hw) (c : Nat) (f : SectorPath → SectorPath) (g : Hw) : Kept (onPath h c f) g ↔ Kept h g := Iff.rfl
@[simp] theorem kept_onFmt (h : Hw) (c : Nat) (f : Formatter → Formatter) (g : Hw) : Kept (onFmt h c f) g ↔ Kept h g := Iff.rfl
@[simp] theorem kept_onServo (h : Hw) (c : Nat) (f : Servo → Servo) (g : Hw) : Kept (onServo h c f) g ↔ Kept h g := Iff.rfl
@[simp] theorem kept_onCal (h : Hw) (c : Nat) (f : Calib → Calib) (g : Hw) : Kept (onCal h c f) g ↔ Kept h g := Iff.rfl
@[simp] theorem kept_onDrive (h : Hw) (c : Nat) (f : Drive → Drive) (g : Hw) : Kept (onDrive h c f) g ↔ Kept h g := Iff.rfl
@[simp] theorem kept_onSpindle (h : Hw) (f : Spindle → Spindle) (g : Hw) : Kept (onSpindle h f) g ↔ Kept h g := Iff.rfl
@[simp] theorem kept_onDma (h : Hw) (n : Nat) (f : DmaCh → DmaCh) (g : Hw) : Kept (onDma h n f) g ↔ Kept h g := Iff.rfl
@[simp] theorem kept_onCore (h : Hw) (k : Nat) (f : CoreSt → CoreSt) (g : Hw) : Kept (onCore h k f) g ↔ Kept h g := Iff.rfl
@[simp] theorem kept_onUnit (h : Hw) (u : Nat) (f : UnitSt → UnitSt) (g : Hw) : Kept (onUnit h u f) g ↔ Kept h g := Iff.rfl
@[simp] theorem kept_onBoot (h : Hw) (f : Boot → Boot) (g : Hw) : Kept (onBoot h f) g ↔ Kept h g := Iff.rfl
@[simp] theorem kept_onIsland (h : Hw) (f : Island → Island) (g : Hw) : Kept (onIsland h f) g ↔ Kept h g := Iff.rfl
@[simp] theorem kept_onLog (h : Hw) (f : Recorder → Recorder) (g : Hw) : Kept (onLog h f) g ↔ Kept h g := Iff.rfl
@[simp] theorem kept_onMgmt (h : Hw) (f : Mgmt → Mgmt) (g : Hw) : Kept (onMgmt h f) g ↔ Kept h g := Iff.rfl
@[simp] theorem kept_onCipher (h : Hw) (f : Cipher → Cipher) (g : Hw) : Kept (onCipher h f) g ↔ Kept h g := Iff.rfl
@[simp] theorem kept_setFence (h : Hw) (k v : Nat) (g : Hw) : Kept (setFence h k v) g ↔ Kept h g := Iff.rfl
@[simp] theorem kept_resetUnitRegs (h : Hw) (u : Nat) (g : Hw) : Kept (resetUnitRegs h u) g ↔ Kept h g := Iff.rfl
@[simp] theorem kept_setCause (h : Hw) (u k : Nat) (on : Bool) (g : Hw) : Kept (setCause h u k on) g ↔ Kept h g := Iff.rfl
@[simp] theorem kept_cutBlocks (h : Hw) (us : List Nat) (st : Nat) (g : Hw) : Kept (cutBlocks h us st) g ↔ Kept h g := Iff.rfl

@[simp] theorem kept_raiseRecord (h : Hw) (u c v d : Nat) (b : Bool) (g : Hw) : Kept (raiseRecord h u c v d b) g ↔ Kept h g := by
  obtain ⟨l, o, e | e⟩ := raiseRecord_only h u c v d b <;> rw [e] <;> exact Iff.rfl

@[simp] theorem kept_ruleRecord (h : Hw) (u n v d : Nat) (g : Hw) : Kept (ruleRecord h u n v d) g ↔ Kept h g := by simp [ruleRecord]

@[simp] theorem kept_txFrame (h : Hw) (f : Frame) (g : Hw) : Kept (txFrame h f) g ↔ Kept h g := by
  unfold txFrame; (try dsimp only)
  (repeat' split) <;> simp

@[simp] theorem kept_raiseAlert (h : Hw) (c d : Nat) (g : Hw) : Kept (raiseAlert h c d) g ↔ Kept h g := by
  unfold raiseAlert; (try dsimp only)
  (repeat' split) <;> simp

@[simp] theorem kept_stopAlive (h : Hw) (c : Nat) (g : Hw) : Kept (stopAlive h c) g ↔ Kept h g := by
  unfold stopAlive; (try dsimp only)
  (repeat' split) <;> simp

@[simp] theorem kept_haltStart (h : Hw)  (g : Hw) : Kept (haltStart h) g ↔ Kept h g := by
  unfold haltStart; (try dsimp only)
  (repeat' split) <;> simp

@[simp] theorem kept_askStair4 (h : Hw) (c : Nat) (g : Hw) : Kept (askStair4 h c) g ↔ Kept h g := by
  unfold askStair4; (try dsimp only)
  (repeat' split) <;> simp

@[simp] theorem kept_startRetract (h : Hw) (c : Nat) (g : Hw) : Kept (startRetract h c) g ↔ Kept h g := by
  unfold startRetract; (try dsimp only)
  (repeat' split) <;> simp

@[simp] theorem kept_retractAll (h : Hw)  (g : Hw) : Kept (retractAll h) g ↔ Kept h g := by
  unfold retractAll; exact kept_foldl _ _ (fun h c => by split <;> simp) _ _

@[simp] theorem kept_takeReset (h : Hw) (c u : Nat) (g : Hw) : Kept (takeReset h c u) g ↔ Kept h g := by
  unfold takeReset; (try dsimp only)
  (repeat' split) <;> simp [kept_foldl]

@[simp] theorem kept_calBoundary (h : Hw) (c : Nat) (g : Hw) : Kept (calBoundary h c) g ↔ Kept h g := by unfold calBoundary; split <;> simp [stepEnd]

@[simp] theorem kept_commitSet (h : Hw) (c k : Nat) (g : Hw) : Kept (commitSet h c k) g ↔ Kept h g := by
  unfold commitSet; (try dsimp only)
  (repeat' split) <;> simp
@[simp] theorem kept_dropUpdates (h : Hw) (c k : Nat) (g : Hw) : Kept (dropUpdates h c k) g ↔ Kept h g := Iff.rfl

@[simp] theorem kept_boundaryCommits (h : Hw) (c hd : Nat) (g : Hw) : Kept (boundaryCommits h c hd) g ↔ Kept h g := by
  unfold boundaryCommits; exact kept_foldl _ _ (fun h z => by split <;> simp) _ _

@[simp] theorem kept_reportRead (h : Hw) (c : Nat) (r : ChResult) (g : Hw) : Kept (reportRead h c r) g ↔ Kept h g := by
  unfold reportRead; (try dsimp only)
  (repeat' split) <;> simp

@[simp] theorem kept_showQueue (h : Hw) (c : Nat) (g : Hw) : Kept (showQueue h c) g ↔ Kept h g := by
  unfold showQueue; (try dsimp only)
  (repeat' split) <;> simp

@[simp] theorem kept_failOnTheFly (h : Hw) (c : Nat) (x : ChSector) (g : Hw) : Kept (failOnTheFly h c x) g ↔ Kept h g := by
  unfold failOnTheFly; (try dsimp only)
  (repeat' split) <;> simp

@[simp] theorem kept_fileVerify (h : Hw) (c : Nat) (x : ChSector) (v : Bool) (g : Hw) : Kept (fileVerify h c x v) g ↔ Kept h g := by simp [fileVerify]

@[simp] theorem kept_overflowQueue (h : Hw) (c : Nat) (g : Hw) : Kept (overflowQueue h c) g ↔ Kept h g := by
  unfold overflowQueue; (try dsimp only)
  (repeat' split) <;> simp

@[simp] theorem kept_showAsperity (h : Hw) (c : Nat) (g : Hw) : Kept (showAsperity h c) g ↔ Kept h g := by
  unfold showAsperity; (try dsimp only)
  (repeat' split) <;> simp

@[simp] theorem kept_showSlip (h : Hw) (c : Nat) (g : Hw) : Kept (showSlip h c) g ↔ Kept h g := by
  unfold showSlip; (try dsimp only)
  (repeat' split) <;> simp

@[simp] theorem kept_sectorMeasures (h : Hw) (c : Nat) (x : ChSector) (g : Hw) : Kept ((sectorMeasures h c x).1) g ↔ Kept h g := by
  unfold sectorMeasures; (try dsimp only)
  (repeat' split) <;> simp

@[simp] theorem kept_noteMiss (h : Hw) (c id : Nat) (g : Hw) : Kept (noteMiss h c id) g ↔ Kept h g := by
  unfold noteMiss; (try dsimp only)
  (repeat' split) <;> simp

@[simp] theorem kept_showRest (h : Hw) (c : Nat) (g : Hw) : Kept (showRest h c) g ↔ Kept h g := by
  unfold showRest; split
  · rw [kept_showSlip, kept_foldl]; intro h b; simp
  · rfl

@[simp] theorem kept_leaveSector (h : Hw) (c hd : Nat) (g : Hw) : Kept (leaveSector h c hd) g ↔ Kept h g := by
  unfold leaveSector; (try dsimp only)
  (repeat' split) <;> simp

@[simp] theorem kept_sendGate (h : Hw) (c k : Nat) (a b : Bool) (i : Int) (g : Hw) : Kept (sendGate h c k a b i) g ↔ Kept h g := by
  unfold sendGate; (try dsimp only)
  (repeat' split) <;> simp

@[simp] theorem kept_endRun (h : Hw) (c : Nat) (g : Hw) : Kept (endRun h c) g ↔ Kept h g := by simp [endRun]

@[simp] theorem kept_endSector (h : Hw) (c : Nat) (g : Hw) : Kept (endSector h c) g ↔ Kept h g := by
  unfold endSector; (try dsimp only)
  (repeat' split) <;> simp

@[simp] theorem kept_failSector (h : Hw) (c : Nat) (x : ChSector) (g : Hw) : Kept (failSector h c x) g ↔ Kept h g := by
  unfold failSector; (try dsimp only)
  (repeat' split) <;> simp

@[simp] theorem kept_flushChannel (h : Hw) (c : Nat) (g : Hw) : Kept (flushChannel h c) g ↔ Kept h g := by
  unfold flushChannel; (try dsimp only)
  split <;>
    simp only [kept_leaveSector, kept_showQueue, kept_setF, kept_foldl _ g (fun h x => kept_failSector h c x g), kept_foldl _ g (fun h x => kept_sectorMeasures h c x g), kept_onChan]

@[simp] theorem kept_frontEndStop (h : Hw) (c : Nat) (g : Hw) : Kept (frontEndStop h c) g ↔ Kept h g := by
  unfold frontEndStop; (try dsimp only)
  (repeat' split) <;> simp

@[simp] theorem kept_showReq (h : Hw) (c : Nat) (g : Hw) : Kept (showReq h c) g ↔ Kept h g := by
  unfold showReq; (try dsimp only)
  (repeat' split) <;> simp

@[simp] theorem kept_completeReq (h : Hw) (c : Nat) (r : FmReq) (s p : Nat) (g : Hw) : Kept (completeReq h c r s p) g ↔ Kept h g := by
  unfold completeReq; (try dsimp only)
  (repeat' split) <;> simp

@[simp] theorem kept_completeRunning (h : Hw) (c s : Nat) (g : Hw) : Kept (completeRunning h c s) g ↔ Kept h g := by
  unfold completeRunning; (try dsimp only)
  (repeat' split) <;> simp

@[simp] theorem kept_endRoutine (h : Hw) (c : Nat) (g : Hw) : Kept (endRoutine h c) g ↔ Kept h g := by
  unfold endRoutine; (try dsimp only)
  (repeat' split) <;> simp

@[simp] theorem kept_showStu (h : Hw) (c : Nat) (g : Hw) : Kept (showStu h c) g ↔ Kept h g := by
  unfold showStu; (try dsimp only)
  (repeat' split) <;> simp

@[simp] theorem kept_stopFormatter (h : Hw) (c : Nat) (g : Hw) : Kept (stopFormatter h c) g ↔ Kept h g := by
  unfold stopFormatter; (try dsimp only)
  (repeat' split) <;> simp [kept_foldl]

@[simp] theorem kept_setSv (h : Hw) (c s : Nat) (g : Hw) : Kept (setSv h c s) g ↔ Kept h g := by
  unfold setSv; (try dsimp only)
  (repeat' split) <;> simp

@[simp] theorem kept_assertUnsafe (h : Hw) (c : Nat) (g : Hw) : Kept (assertUnsafe h c) g ↔ Kept h g := by simp only [assertUnsafe, kept_setF, kept_onServo]

@[simp] theorem kept_showLimits (h : Hw) (c : Nat) (g : Hw) : Kept (showLimits h c) g ↔ Kept h g := by simp only [showLimits, kept_setF]

@[simp] theorem kept_showKeys (h : Hw)  (g : Hw) : Kept (showKeys h) g ↔ Kept h g := by simp only [showKeys, kept_setF]

@[simp] theorem kept_showRekeys (h : Hw)  (g : Hw) : Kept (showRekeys h) g ↔ Kept h g := by simp only [showRekeys, kept_setF]

@[simp] theorem kept_showRekey (h : Hw) (c : Nat) (g : Hw) : Kept (showRekey h c) g ↔ Kept h g := by
  unfold showRekey; (try dsimp only)
  (repeat' split) <;> simp

@[simp] theorem kept_showCipher (h : Hw)  (g : Hw) : Kept (showCipher h) g ↔ Kept h g := by
  rw [showCipher, kept_setF, kept_foldl _ g (fun h c => kept_showRekey h c g)]; simp

@[simp] theorem kept_restServo (h : Hw) (c : Nat) (g : Hw) : Kept (restServo h c) g ↔ Kept h g := by simp [restServo]

@[simp] theorem kept_parkServo (h : Hw) (c : Nat) (g : Hw) : Kept (parkServo h c) g ↔ Kept h g := by simp [parkServo]

@[simp] theorem kept_servoOff (h : Hw) (c : Nat) (g : Hw) : Kept (servoOff h c) g ↔ Kept h g := by simp [servoOff]

@[simp] theorem kept_holdHere (h : Hw) (c : Nat) (g : Hw) : Kept (holdHere h c) g ↔ Kept h g := by simp [holdHere]

@[simp] theorem kept_headStop (h : Hw) (c hd : Nat) (g : Hw) : Kept (headStop h c hd) g ↔ Kept h g := by
  unfold headStop; (try dsimp only)
  (repeat' split) <;> simp

@[simp] theorem kept_pinHead (h : Hw) (c hd : Nat) (g : Hw) : Kept (pinHead h c hd) g ↔ Kept h g := by
  unfold pinHead; (try dsimp only)
  (repeat' split) <;> simp

@[simp] theorem kept_stopDma (h : Hw) (n : Nat) (g : Hw) : Kept (stopDma h n) g ↔ Kept h g := by
  unfold stopDma; (try dsimp only)
  (repeat' split) <;> simp

@[simp] theorem kept_issueAgain (h : Hw)  (g : Hw) : Kept (issueAgain h) g ↔ Kept h g := by
  unfold issueAgain; exact kept_foldl _ _ (fun h n => by split <;> simp) _ _

@[simp] theorem kept_emptyBuckets (h : Hw)  (g : Hw) : Kept (emptyBuckets h) g ↔ Kept h g := by simp [emptyBuckets]

@[simp] theorem kept_restartCore (h : Hw) (k : Nat) (g : Hw) : Kept (restartCore h k) g ↔ Kept h g := by
  unfold restartCore; (try dsimp only)
  (repeat' split) <;> simp

@[simp] theorem kept_unitStop (h : Hw) (u : Nat) (g : Hw) : Kept (unitStop h u) g ↔ Kept h g := by
  unfold unitStop; (try dsimp only)
  (repeat' split) <;> simp

@[simp] theorem kept_loadSpeedGains (h : Hw)  (g : Hw) : Kept (loadSpeedGains h) g ↔ Kept h g := by
  unfold loadSpeedGains; (try dsimp only)
  (repeat' split) <;> simp

@[simp] theorem kept_beginReinit (h : Hw) (u : Nat) (g : Hw) : Kept (beginReinit h u) g ↔ Kept h g := by
  unfold beginReinit; (try dsimp only)
  (repeat' split) <;> simp

@[simp] theorem kept_fenceSet (h : Hw) (k v : Nat) (g : Hw) : Kept (fenceSet h k v) g ↔ Kept h g := by
  unfold fenceSet; (try dsimp only)
  (repeat' split) <;> simp

@[simp] theorem kept_startProgress (h : Hw)  (g : Hw) : Kept (startProgress h) g ↔ Kept h g := by
  unfold startProgress; (try dsimp only)
  (repeat' split) <;> simp

@[simp] theorem kept_carriageOut (h : Hw) (c : Nat) (g : Hw) : Kept (carriageOut h c) g ↔ Kept h g := by
  unfold carriageOut; (try dsimp only)
  (repeat' split) <;> simp

@[simp] theorem kept_fenceEffects (h : Hw) (k : Nat) (g : Hw) : Kept (fenceEffects h k) g ↔ Kept h g := by
  unfold fenceEffects; (try dsimp only)
  (repeat' split) <;> simp

@[simp] theorem kept_fenceByFault (h : Hw) (u : Nat) (g : Hw) : Kept (fenceByFault h u) g ↔ Kept h g := by
  unfold fenceByFault; (try dsimp only)
  (repeat' split) <;> simp

@[simp] theorem kept_s2ByFault (h : Hw) (u : Nat) (g : Hw) : Kept (s2ByFault h u) g ↔ Kept h g := by
  unfold s2ByFault; (try dsimp only)
  (repeat' split) <;> simp

@[simp] theorem kept_react (h : Hw) (u k : Nat) (r : Reaction) (g : Hw) : Kept (react h u k r) g ↔ Kept h g := by
  unfold react; (try dsimp only)
  (repeat' split) <;> simp

@[simp] theorem kept_raiseFault (h : Hw) (u k : Nat) (b : Bool) (g : Hw) : Kept (raiseFault h u k b) g ↔ Kept h g := by simp [raiseFault]

/-! What a fault leaves alone, part by part. -/
@[simp] theorem beginReinit_bridges (h : Hw) (u : Nat) : (beginReinit h u).bridges = h.bridges := ((kept_beginReinit h u h).2 (Kept.refl h)).1
@[simp] theorem beginReinit_tap (h : Hw) (u : Nat) : (beginReinit h u).tap = h.tap := ((kept_beginReinit h u h).2 (Kept.refl h)).2.1
@[simp] theorem beginReinit_fuses (h : Hw) (u : Nat) : (beginReinit h u).fuses = h.fuses := ((kept_beginReinit h u h).2 (Kept.refl h)).2.2.1
@[simp] theorem beginReinit_pins (h : Hw) (u : Nat) : (beginReinit h u).pins = h.pins := ((kept_beginReinit h u h).2 (Kept.refl h)).2.2.2.1
@[simp] theorem beginReinit_links (h : Hw) (u : Nat) : (beginReinit h u).links = h.links := ((kept_beginReinit h u h).2 (Kept.refl h)).2.2.2.2.1
@[simp] theorem beginReinit_dict (h : Hw) (u : Nat) : (beginReinit h u).dict = h.dict := ((kept_beginReinit h u h).2 (Kept.refl h)).2.2.2.2.2.1
@[simp] theorem beginReinit_portA (h : Hw) (u : Nat) : (beginReinit h u).portA = h.portA := ((kept_beginReinit h u h).2 (Kept.refl h)).2.2.2.2.2.2.1
@[simp] theorem beginReinit_portB (h : Hw) (u : Nat) : (beginReinit h u).portB = h.portB := ((kept_beginReinit h u h).2 (Kept.refl h)).2.2.2.2.2.2.2.1
@[simp] theorem beginReinit_engine (h : Hw) (u : Nat) : (beginReinit h u).engine = h.engine := ((kept_beginReinit h u h).2 (Kept.refl h)).2.2.2.2.2.2.2.2.1
@[simp] theorem beginReinit_buffer (h : Hw) (u : Nat) : (beginReinit h u).buffer = h.buffer := ((kept_beginReinit h u h).2 (Kept.refl h)).2.2.2.2.2.2.2.2.2.1
@[simp] theorem beginReinit_cluster (h : Hw) (u : Nat) : (beginReinit h u).cluster = h.cluster := ((kept_beginReinit h u h).2 (Kept.refl h)).2.2.2.2.2.2.2.2.2.2.1
@[simp] theorem beginReinit_twin (h : Hw) (u : Nat) : (beginReinit h u).twin = h.twin := ((kept_beginReinit h u h).2 (Kept.refl h)).2.2.2.2.2.2.2.2.2.2.2.1
@[simp] theorem beginReinit_mem (h : Hw) (u : Nat) : (beginReinit h u).mem = h.mem := ((kept_beginReinit h u h).2 (Kept.refl h)).2.2.2.2.2.2.2.2.2.2.2.2
@[simp] theorem fenceEffects_bridges (h : Hw) (k : Nat) : (fenceEffects h k).bridges = h.bridges := ((kept_fenceEffects h k h).2 (Kept.refl h)).1
@[simp] theorem fenceEffects_tap (h : Hw) (k : Nat) : (fenceEffects h k).tap = h.tap := ((kept_fenceEffects h k h).2 (Kept.refl h)).2.1
@[simp] theorem fenceEffects_fuses (h : Hw) (k : Nat) : (fenceEffects h k).fuses = h.fuses := ((kept_fenceEffects h k h).2 (Kept.refl h)).2.2.1
@[simp] theorem fenceEffects_pins (h : Hw) (k : Nat) : (fenceEffects h k).pins = h.pins := ((kept_fenceEffects h k h).2 (Kept.refl h)).2.2.2.1
@[simp] theorem fenceEffects_links (h : Hw) (k : Nat) : (fenceEffects h k).links = h.links := ((kept_fenceEffects h k h).2 (Kept.refl h)).2.2.2.2.1
@[simp] theorem fenceEffects_dict (h : Hw) (k : Nat) : (fenceEffects h k).dict = h.dict := ((kept_fenceEffects h k h).2 (Kept.refl h)).2.2.2.2.2.1
@[simp] theorem fenceEffects_portA (h : Hw) (k : Nat) : (fenceEffects h k).portA = h.portA := ((kept_fenceEffects h k h).2 (Kept.refl h)).2.2.2.2.2.2.1
@[simp] theorem fenceEffects_portB (h : Hw) (k : Nat) : (fenceEffects h k).portB = h.portB := ((kept_fenceEffects h k h).2 (Kept.refl h)).2.2.2.2.2.2.2.1
@[simp] theorem fenceEffects_engine (h : Hw) (k : Nat) : (fenceEffects h k).engine = h.engine := ((kept_fenceEffects h k h).2 (Kept.refl h)).2.2.2.2.2.2.2.2.1
@[simp] theorem fenceEffects_buffer (h : Hw) (k : Nat) : (fenceEffects h k).buffer = h.buffer := ((kept_fenceEffects h k h).2 (Kept.refl h)).2.2.2.2.2.2.2.2.2.1
@[simp] theorem fenceEffects_cluster (h : Hw) (k : Nat) : (fenceEffects h k).cluster = h.cluster := ((kept_fenceEffects h k h).2 (Kept.refl h)).2.2.2.2.2.2.2.2.2.2.1
@[simp] theorem fenceEffects_twin (h : Hw) (k : Nat) : (fenceEffects h k).twin = h.twin := ((kept_fenceEffects h k h).2 (Kept.refl h)).2.2.2.2.2.2.2.2.2.2.2.1
@[simp] theorem fenceEffects_mem (h : Hw) (k : Nat) : (fenceEffects h k).mem = h.mem := ((kept_fenceEffects h k h).2 (Kept.refl h)).2.2.2.2.2.2.2.2.2.2.2.2
@[simp] theorem raiseFault_bridges (h : Hw) (u k : Nat) (b : Bool) : (raiseFault h u k b).bridges = h.bridges := ((kept_raiseFault h u k b h).2 (Kept.refl h)).1
@[simp] theorem raiseFault_tap (h : Hw) (u k : Nat) (b : Bool) : (raiseFault h u k b).tap = h.tap := ((kept_raiseFault h u k b h).2 (Kept.refl h)).2.1
@[simp] theorem raiseFault_fuses (h : Hw) (u k : Nat) (b : Bool) : (raiseFault h u k b).fuses = h.fuses := ((kept_raiseFault h u k b h).2 (Kept.refl h)).2.2.1
@[simp] theorem raiseFault_pins (h : Hw) (u k : Nat) (b : Bool) : (raiseFault h u k b).pins = h.pins := ((kept_raiseFault h u k b h).2 (Kept.refl h)).2.2.2.1
@[simp] theorem raiseFault_links (h : Hw) (u k : Nat) (b : Bool) : (raiseFault h u k b).links = h.links := ((kept_raiseFault h u k b h).2 (Kept.refl h)).2.2.2.2.1
@[simp] theorem raiseFault_dict (h : Hw) (u k : Nat) (b : Bool) : (raiseFault h u k b).dict = h.dict := ((kept_raiseFault h u k b h).2 (Kept.refl h)).2.2.2.2.2.1
@[simp] theorem raiseFault_portA (h : Hw) (u k : Nat) (b : Bool) : (raiseFault h u k b).portA = h.portA := ((kept_raiseFault h u k b h).2 (Kept.refl h)).2.2.2.2.2.2.1
@[simp] theorem raiseFault_portB (h : Hw) (u k : Nat) (b : Bool) : (raiseFault h u k b).portB = h.portB := ((kept_raiseFault h u k b h).2 (Kept.refl h)).2.2.2.2.2.2.2.1
@[simp] theorem raiseFault_engine (h : Hw) (u k : Nat) (b : Bool) : (raiseFault h u k b).engine = h.engine := ((kept_raiseFault h u k b h).2 (Kept.refl h)).2.2.2.2.2.2.2.2.1
@[simp] theorem raiseFault_buffer (h : Hw) (u k : Nat) (b : Bool) : (raiseFault h u k b).buffer = h.buffer := ((kept_raiseFault h u k b h).2 (Kept.refl h)).2.2.2.2.2.2.2.2.2.1
@[simp] theorem raiseFault_cluster (h : Hw) (u k : Nat) (b : Bool) : (raiseFault h u k b).cluster = h.cluster := ((kept_raiseFault h u k b h).2 (Kept.refl h)).2.2.2.2.2.2.2.2.2.2.1
@[simp] theorem raiseFault_twin (h : Hw) (u k : Nat) (b : Bool) : (raiseFault h u k b).twin = h.twin := ((kept_raiseFault h u k b h).2 (Kept.refl h)).2.2.2.2.2.2.2.2.2.2.2.1
@[simp] theorem raiseFault_mem (h : Hw) (u k : Nat) (b : Bool) : (raiseFault h u k b).mem = h.mem := ((kept_raiseFault h u k b h).2 (Kept.refl h)).2.2.2.2.2.2.2.2.2.2.2.2

end Sys2Proof.Machine
end

