-- ==== Sys2Proof/Laws/Twins.lean ====
section
/-! SUPPORT. Laws of the twins' messages: a number's bytes give it back, a ciphertext opens to its text, and a message opens to what its
partner sealed (R569, R571). -/
namespace Sys2Proof.Machine

/-- A number's `n` little-endian bytes spell it modulo 256 to the `n`. -/
theorem leVal_leBytes (n x : Nat) : leVal (leBytes n x) = x % 256 ^ n := by
  induction n generalizing x with
  | zero => simp [leBytes, leVal, Nat.mod_one]
  | succ n ih =>
    simp only [leBytes, leVal, ih, BitVec.toNat_ofNat, Nat.pow_succ]
    have := Nat.mod_mul (x := x) (a := 256) (b := 256 ^ n)
    rw [Nat.mul_comm (256 ^ n) 256]
    omega

/-- DID is a number of 64 bits. -/
theorem deviceId_lt : Config.deviceId < 2 ^ 64 := BitVec.isLt _

/-- A ciphertext is as long as its text. -/
@[simp] theorem gcmCipher_length (key : Nat) (nonce text : List (BitVec 8)) : (gcmCipher key nonce text).length = text.length := by
  simp [gcmCipher]

/-- The key stream deciphers what it enciphered. -/
@[simp] theorem gcmCipher_twice (key : Nat) (nonce text : List (BitVec 8)) : gcmCipher key nonce (gcmCipher key nonce text) = text := by
  simp only [gcmCipher, List.mapIdx_mapIdx]
  apply List.ext_getElem <;> simp [BitVec.xor_assoc]

/-- A message that a twin sealed opens, at the partner that holds the same key, to its payload (R571). -/
theorem openFrame_sealFrame (h h' : Hw) (kind : Nat) (f : TwinFrame) (hk : kind ≠ 1) (key : Nat) (e : h.twin.kpair = some key)
    (e' : h'.twin.kpair = some key) (r : twinRole h = 3 - twinRole h') : openFrame h' kind (sealFrame h kind f) = some f.payload := by
  simp [openFrame, sealFrame, gcmOpen, e, e', hk, r, messageHeader]

end Sys2Proof.Machine
end

