-- ==== Sys2Proof/Tests/Slice0.lean ====
section
/-! SUPPORT. Own tests: a command each check of wellFormed refuses, worked examples of the spec, and a state that meets the hypotheses of
every statement. -/
open Sys2Proof Sys2Proof.Machine


/-- The block after reset with its hardware changed by `f`. -/
def wHw (f : Hw → Hw) : State := { hw := f {} }

/-- Straps of the spec's example (R76): node 0x12D, four carriages of six heads, dual port, twin first, profile 5, sealed. -/
def wPins : Pins := { resetIn := true, prsnt := false, prsntDebounced := false, sampled := true, strap := 0x35ED2D, strapLive := 0x35ED2D }

/-- Every domain on, the straps of the example. -/
def wUp (f : Hw → Hw) : State := wHw (fun h => f (setF { h with pins := wPins } PW_DOM_ON 0 0xFFFFFF))

/-- The register and the entry at an address, for witnesses. -/
def wReg (a : Nat) : RegDef := (regAt a).getD ⟨0, 0, 0, []⟩
def wEnt (u p e : Nat) : EntDef := (objDef (wUp id).hw u p e).getD ⟨0, 0, 0, none, none, 0, .fixed, 0, 0, 0, [], 0, 0⟩

/-- At media-ready stage, with session 5 a Custodian. -/
def wCus (f : Hw → Hw) : State :=
  wUp (fun h => f (setF { h with boot := { h.boot with mediaMs := 9000 }, dict := { h.dict with sessions := [(5, { role := 2 })] } } PW_BOOT_STAGE 0 0x0C))

/-- Boot recovery, session 5 a Custodian that holds the whole window, with the header of a valid image of 64 bytes in it. -/
def wRecovery (header : List (BitVec 8)) : State :=
  wCus (fun h =>
    let h := (List.range 8).foldl (fun h n => setSec h n 1 5) h
    setF { h with mem := memPutAll [] windowBase header } PW_BOOT_STAGE 0 0x0D)

/-- The first 36 bytes of an image header of length 64 that loads at 0x1_0000_0000. -/
def wHeader : List (BitVec 8) :=
  leBytes 4 0x5746564A ++ leBytes 2 1 ++ leBytes 2 9 ++ leBytes 4 7 ++ leBytes 4 64 ++ leBytes 8 farBase ++ leBytes 8 farBase ++ leBytes 4 0

/-- Carriage 1's formatter with a patch header in buffer memory and the load in progress. -/
def wPatch : State :=
  wUp (fun h =>
    let h := { h with mem := memPutAll [] farBase (leBytes 4 0x5046564A ++ leBytes 2 1 ++ leBytes 2 0 ++ leBytes 4 3 ++ leBytes 4 6 ++ leBytes 2 1) }
    setF (setF (setF (setF h FM_BVER_BVER (inst 1) 6) FM_PSTAT_STATE (inst 1) 1) FM_PLADL_ADDR (inst 1) 0) FM_PLADH_ADDR (inst 1) 1)

/-- A Block read of 1640:010.0 under way for session 5, into section 1. -/
def wBlock : BlockOp := { session := 5, txn := { op := 7, ty := 13, unit := 0x1640, pe := 0x100, value := leBytes 1 1 ++ leBytes 4 128 }, origin := .direct }

/-- A host command with no piece. -/
def wCmd : Cmd := { slot := 0, isn := 0, port := 0, sq := 1, cid := 7, opc := 1, nsid := 1, slba := 0, nlb := 8, ordered := false, stage := .ready }

/-- The partner of the example's twin, and of the second twin: K_pair is 9. -/
def wSecond : Hw := { pins := { wPins with strap := 0x36ED2D }, twin := { kpair := some 9 } }
def wFirst : Hw := { pins := wPins, twin := { kpair := some 9 } }

/-- A message with these fields, before its sender seals it. -/
def wFrame (flags mseq nsid count slba : Nat) (payload : List (BitVec 8)) : TwinFrame := ⟨flags, mseq, nsid, count, slba, 0, payload⟩

/-- A Hello of the partner 77, the second twin, whose CMAC is under key 7, off by `n`. -/
def wHello (n : Nat) : TwinFrame :=
  let f := wFrame 0 5 0 0 0 (helloPayload 77 2 8 Config.deviceId)
  { f with tag := helloTag 7 f + n }

/-- The page of a Twin Pair with partner 77 that proves nonce 4 under key 7. -/
def wPage : List (BitVec 8) :=
  leBytes 2 1 ++ leBytes 6 0 ++ leBytes 8 77 ++ leBytes 8 0 ++ leBytes 2 5 ++ leBytes 6 0 ++ leBytes 16 (tagOf 7 (pairMessage 4 Config.deviceId 77 0))

theorem wPage_tag : pageField wPage 0x20 16 = tagOf 7 (pairMessage 4 Config.deviceId 77 0) := by
  show leVal (leBytes 16 _) = _
  rw [leVal_leBytes]
  exact Nat.mod_eq_of_lt (BitVec.isLt _)

theorem wHello_did (n : Nat) : pageField (wHello n).payload 0x20 8 = Config.deviceId := by
  show leVal (leBytes 8 Config.deviceId) = _
  rw [leVal_leBytes]
  exact Nat.mod_eq_of_lt deviceId_lt

/-! Ill-formed commands: each check at its bound. -/

theorem test_illformed_isCarriage : wellFormed (.headLoadFailed 4) = false ∧ wellFormed (.headLoadFailed (4 - 1)) = true := by decide
theorem test_illformed_isHead : wellFormed (.bandLawBlock 0 6) = false ∧ wellFormed (.bandLawBlock 0 (6 - 1)) = true := by decide
theorem test_illformed_isWord : wellFormed (.pwPscmdGo (2 ^ 32)) = false ∧ wellFormed (.pwPscmdGo (2 ^ 32 - 1)) = true := by decide
theorem test_illformed_isHalf : wellFormed (.alertRepeat 0x10000) = false ∧ wellFormed (.alertRepeat (0x10000 - 1)) = true := by decide
theorem test_illformed_isByte : wellFormed (.partnerLost 256) = false ∧ wellFormed (.partnerLost (256 - 1)) = true := by decide
theorem test_illformed_isDouble : wellFormed (.clear 0 (2 ^ 64)) = false ∧ wellFormed (.clear 0 (2 ^ 64 - 1)) = true := by decide
theorem test_illformed_isSlot : wellFormed (.flush 4096) = false ∧ wellFormed (.flush (4096 - 1)) = true := by decide
theorem test_illformed_isSession : wellFormed (.challengeExpiry 0x10000) = false ∧ wellFormed (.challengeExpiry (0x10000 - 1)) = true := by decide
theorem test_illformed_isNode : wellFormed (.alertAcknowledge 0x10000 0) = false ∧ wellFormed (.alertAcknowledge (0x10000 - 1) 0) = true := by decide
theorem test_illformed_isDie : wellFormed (.sensorBroken 6) = false ∧ wellFormed (.sensorBroken (6 - 1)) = true := by decide
theorem test_illformed_isCore : wellFormed (.timerCompare 4) = false ∧ wellFormed (.timerCompare (4 - 1)) = true := by decide
theorem test_illformed_isLink : wellFormed (.linkDown 9) = false ∧ wellFormed (.linkDown (9 - 1)) = true := by decide
theorem test_illformed_isSection : wellFormed (.sectionCleared 8) = false ∧ wellFormed (.sectionCleared (8 - 1)) = true := by decide
theorem test_illformed_isAddress : wellFormed (.memoryUncorrectableError (2 ^ 40) false) = false ∧ wellFormed (.memoryUncorrectableError (2 ^ 40 - 1) false) = true := by decide
theorem test_illformed_isSource : wellFormed (.rcFieldRead 8 0) = false ∧ wellFormed (.rcFieldRead (8 - 1) 0) = true := by decide
theorem test_illformed_isOffset : wellFormed (.postedWriteLands (2 ^ 28)) = false ∧ wellFormed (.postedWriteLands (2 ^ 28 - 1)) = true := by decide
theorem test_illformed_isParam : wellFormed (.readObject 0 0 0x1000 0) = false ∧ wellFormed (.readObject 0 0 (0x1000 - 1) 0) = true := by decide
theorem test_illformed_isElem : wellFormed (.readObject 0 0 0 16) = false ∧ wellFormed (.readObject 0 0 0 (16 - 1)) = true := by decide
theorem test_illformed_isPort : wellFormed (.mailboxGo 2) = false ∧ wellFormed (.mailboxGo (2 - 1)) = true := by decide
theorem test_illformed_isGroup : wellFormed (.activeAdaptationRequest 0 0 8) = false ∧ wellFormed (.activeAdaptationRequest 0 0 (8 - 1)) = true := by decide
theorem test_illformed_isDomain : wellFormed (.domainPowerDown 25) = false ∧ wellFormed (.domainPowerDown (25 - 1)) = true := by decide
theorem test_illformed_isChannel : wellFormed (.cartStart 32) = false ∧ wellFormed (.cartStart (32 - 1)) = true := by decide
theorem test_illformed_isBit : wellFormed (.imageSlotCheck 2 false ⟨0, 0, 0, 0, 0, 0, 0, 0, false, false, false, []⟩) = false ∧ wellFormed (.imageSlotCheck (2 - 1) false ⟨0, 0, 0, 0, 0, 0, 0, 0, false, false, false, []⟩) = true := by decide
theorem test_illformed_isSpace : wellFormed (.epochAdvance 129) = false ∧ wellFormed (.epochAdvance (129 - 1)) = true := by decide
theorem test_illformed_isIrq : wellFormed (.interruptSourceChange 64 false) = false ∧ wellFormed (.interruptSourceChange (64 - 1) false) = true := by decide
theorem test_illformed_isEntry : wellFormed (.unsettledListLeave 65536) = false ∧ wellFormed (.unsettledListLeave (65536 - 1)) = true := by decide
theorem test_illformed_isHalfOf : wellFormed (.challengeRead 0 16) = false ∧ wellFormed (.challengeRead 0 (16 - 1)) = true := by decide

/-! Worked examples. -/

/-- The state a command or a step answers. -/
def nextState : Host.Outcome State Fault Refusal → Option State
  | .next t => some t
  | .fault _ => none
  | .refused _ => none

/-- Worked example of chapter 18: TIME of the record of power cycle 37 at 10,000 hours. -/
theorem test_record_time : leVal (({ cycle := 37, ms := 36000000000 } : EvRec).bytes.take 8) = 0x2500861C46800 := by decide +kernel

/-- The check value of CRC-32C over the nine digits (the polynomial of R438). -/
theorem test_crc : crc32c [0x31, 0x32, 0x33, 0x34, 0x35, 0x36, 0x37, 0x38, 0x39] = 0xE3069283 := by decide +kernel

/-- Worked example of chapter 17, step 3: TH_TEMP of Carriage 2 at 115.0 degrees reads 0x8600_0398. -/
theorem test_shutdown_reading :
    (nextState (exec (.temperatureReading 3 920) (wUp (fun h => setReg h (TH_THR + inst 3) 0xF65F7364)))).map (fun t => getReg t.hw (TH_TEMP + inst 3)) =
      some 0x86000398 := by decide +kernel

/-- R165 and chapter 02's example straps: node 0x12D, four carriages, six heads, dual port, twin first, sealed. -/
theorem test_straps :
    (nodeId (wUp id).hw, twinRole (wUp id).hw, isSealed (wUp id).hw, dualPort (wUp id).hw, headsPer (wUp id).hw) = (0x12D, 1, true, true, 6) := by decide

/-- R530: a millisecond on an empty queue is 25,000 ticks of CC_MTIME. -/
theorem test_mtime : (nextState (step State.reset)).map (fun t => t.hw.cluster.mtime) = some 25000 := by decide

/-- R187: a claim with a gap in its mask. -/
theorem test_claim_gap : (nextState (exec (.claim 5 5) (wCus id))).map (fun t => t.hw.out) = some [Output.reply 5 3 0 0 0] := by decide +kernel

/-! The statements' hypotheses can be met. -/

/-- What `Obligations.StartEventsComplete` assumes can be met, clause by clause. -/
theorem witness_StartEventsComplete :
    (∃ (s : State), s.hw.pins.resetIn = false) ∧
    (∃ (s : State), s.hw.pins.resetIn = true) ∧
    (∃ (samples : List Nat) (s : State), s.hw.pins.resetIn = true ∧ s.hw.pins.sampled = false ∧ samples.length = 8) ∧
    (∃ (level : Bool) (s : State), level ≠ s.hw.pins.prsntDebounced) ∧
    (∃ (s : State), s.hw.boot.removal = .draining ∧ drained s.hw = true) ∧
    (∃ (s : State), s.hw.boot.removal = .none ∧ drained s.hw = true) ∧
    (∃ (s : State), drained s.hw = false) ∧
    (∃ (s : State), domainOn s.hw 6 = true ∧ s.hw.boot.l2Ready = false) :=
  ⟨⟨State.reset, by decide⟩,
    ⟨wUp id, by decide⟩,
    ⟨List.replicate 8 0x35ED2D, wUp (fun h => { h with pins := { h.pins with sampled := false } }), by decide⟩,
    ⟨true, wUp (fun h => { h with pins := { h.pins with prsntDebounced := false } }), by decide⟩,
    ⟨wUp (fun h => onLog (onBoot h (fun b => { b with removal := .draining, drainAt := some 0 })) (fun l => { l with optime := 300 })), by decide⟩,
    ⟨wUp (fun h => onLog (onBoot h (fun b => { b with drainAt := some 0 })) (fun l => { l with optime := 300 })), by decide⟩,
    ⟨wUp id, by decide⟩,
    ⟨wUp id, by decide⟩⟩

/-- What `Obligations.BootAndGateEventsComplete` assumes can be met, clause by clause. -/
theorem witness_BootAndGateEventsComplete :
    (∃ (slot : Nat) (image : ImageHeader) (s : State), getF s.hw PW_BOOT_STAGE 0 = 4 ∧ getF s.hw PW_BOOT_HALT 0 = 0 ∧ getF s.hw PW_BOOT_SLOT 0 = 0 ∧ s.hw.boot.slot0Refused = decide (slot ≠ 0) ∧ imageAccepted s.hw image = true) ∧
    (∃ (image : ImageHeader) (s : State), getF s.hw PW_BOOT_STAGE 0 = 4 ∧ getF s.hw PW_BOOT_HALT 0 = 0 ∧ getF s.hw PW_BOOT_SLOT 0 = 0 ∧ s.hw.boot.slot0Refused = false ∧ imageAccepted s.hw image = false) ∧
    (∃ (image : ImageHeader) (s : State), getF s.hw PW_BOOT_STAGE 0 = 4 ∧ getF s.hw PW_BOOT_HALT 0 = 0 ∧ getF s.hw PW_BOOT_SLOT 0 = 0 ∧ s.hw.boot.slot0Refused = true ∧ imageAccepted s.hw image = false) ∧
    (∃ (s : State), getF s.hw PW_BOOT_SLOT 0 ≠ 0 ∧ getF s.hw PW_BOOT_HALT 0 = 0 ∧ getF s.hw PW_BOOT_STAGE 0 < 5) ∧
    (∃ (code : Nat) (detail : Nat) (s : State), failureDue s.hw code detail = true ∧ getF s.hw PW_BOOT_HALT 0 = 0 ∧ s.hw.boot.failedStarts < 2) ∧
    (∃ (temp : Int) (s : State), -400 ≤ temp ∧ temp ≤ 1600 ∧ getF s.hw TH_FORCE_FEN (inst 5) = 0 ∧ getF s.hw TH_TEMP_SUBST (inst 5) = 0) ∧
    (∃ (s : State), (getF s.hw PW_BOOT_STAGE 0 = 5 ∨ getF s.hw PW_BOOT_STAGE 0 = 6) ∧ getF s.hw PW_BOOT_HALT 0 = 0) ∧
    (∃ (s : State), getF s.hw PW_BOOT_STAGE 0 = 7 ∧ mayStart s.hw = true ∧ s.hw.boot.removal = .none) ∧
    (∃ (c : Nat) (s : State), populated s.hw c = true ∧ carFenced s.hw c = false ∧ loadFailed s.hw c = true ∧ zget s.hw.boot.loadFails c < 2) ∧
    (∃ (c : Nat) (s : State), populated s.hw c = true ∧ carFenced s.hw c = false ∧ loadFailed s.hw c = true ∧ zget s.hw.boot.loadFails c = 2) ∧
    (∃ (p : Nat) (s : State), (port s.hw p).configured = true ∧ configRetry s.hw = true) ∧
    (∃ (p : Nat) (s : State), (port s.hw p).configured = true ∧ configRetry s.hw = false) ∧
    (∃ (s : State), s.hw.portA.configured = true ∧ configRetry s.hw = false) ∧
    (∃ (l : Nat) (retry : Bool) (s : State), l < 9 ∧ (link s.hw l).state = 1 ∧ (retry = false ∨ (link s.hw l).failsOut < 7)) ∧
    (∃ (l : Nat) (retry : Bool) (s : State), l < 9 ∧ (link s.hw l).state = 1 ∧ (retry = false ∨ (link s.hw l).failsIn < 7)) ∧
    (∃ (l : Nat) (s : State), l < 9 ∧ (link s.hw l).state = 1 ∧ (link s.hw l).failsIn = 7 ∧ (link s.hw l).failsOut = 7) ∧
    (∃ (l : Nat) (s : State), l < 9 ∧ (link s.hw l).state ≠ 2) ∧
    (∃ (l : Nat), l < 5) ∧
    (∃ (l : Nat), 5 ≤ l ∧ l < 9) :=
  ⟨⟨0, ⟨0x5746564A, 1, 5, 7, 4096, farBase, farBase, 1, true, true, true, []⟩, wUp (fun h => setF { h with fuses := { h.fuses with floor := 3 } } PW_BOOT_STAGE 0 4), by decide⟩,
    ⟨⟨0, 1, 5, 7, 4096, farBase, farBase, 1, true, true, true, []⟩, wUp (fun h => setF h PW_BOOT_STAGE 0 4), by decide⟩,
    ⟨⟨0, 1, 5, 7, 4096, farBase, farBase, 1, true, true, true, []⟩, wUp (fun h => setF { h with boot := { h.boot with slot0Refused := true } } PW_BOOT_STAGE 0 4), by decide⟩,
    ⟨wUp (fun h => setF (setF h PW_BOOT_SLOT 0 1) PW_BOOT_STAGE 0 4), by decide⟩,
    ⟨2, 0, wUp (fun h => setF h PW_BOOT_STAGE 0 2), by decide⟩,
    ⟨-3, State.reset, by decide⟩,
    ⟨wUp (fun h => setF { h with portA := { en := true } } PW_BOOT_STAGE 0 5), by decide⟩,
    ⟨wUp (fun h => setF h PW_BOOT_STAGE 0 7), by decide⟩,
    ⟨2, wUp (fun h => onServo (setSv h 2 svSearch) 2 (fun v => { v with searched := 1280 })), by decide⟩,
    ⟨2, wUp (fun h => onServo (setSv (onBoot h (fun b => { b with loadFails := [(2, 2)] })) 2 svSearch) 2 (fun v => { v with searched := 1280 })), by decide⟩,
    ⟨0, wUp (fun h => { h with portA := { configured := true } }), by decide⟩,
    ⟨0, wUp (fun h => { h with portA := { configured := true }, boot := { h.boot with admin := true } }), by decide⟩,
    ⟨wUp (fun h => { h with portA := { configured := true }, boot := { h.boot with admin := true } }), by decide⟩,
    ⟨4, true, wUp (fun h => { h with links := [(4, { state := 1 })] }), by decide⟩,
    ⟨4, false, wUp (fun h => { h with links := [(4, { state := 1 })] }), by decide⟩,
    ⟨3, wUp (fun h => { h with links := [(3, { state := 1, failsIn := 7, failsOut := 7 })] }), by decide⟩,
    ⟨6, wUp id, by decide⟩,
    ⟨3, by decide⟩,
    ⟨6, by decide⟩⟩

/-- What `Obligations.RestoreAndMediaReadyComplete` assumes can be met, clause by clause. -/
theorem witness_RestoreAndMediaReadyComplete :
    (∃ (s : State), getF s.hw PW_BOOT_STAGE 0 = 0x0B) ∧
    (∃ (mapGood : List Nat) (s : State), getF s.hw PW_BOOT_STAGE 0 = 0x0B ∧ s.hw.boot.restored = false ∧ s.hw.boot.calibrated = 15 ∧ s.hw.dict.loaded = true ∧ mapGood.contains 0 = true ∧ populated s.hw 0 = true ∧ carFenced s.hw 0 = false) ∧
    (∃ (s : State), getF s.hw PW_BOOT_STAGE 0 = 0x0B ∧ s.hw.boot.restored = false ∧ s.hw.boot.calibrated = 15 ∧ populated s.hw 0 = true ∧ carFenced s.hw 0 = false) ∧
    (∃ (s : State), getF s.hw PW_BOOT_STAGE 0 = 0x0B ∧ s.hw.boot.restored = true ∧ (∀ c ∈ List.range 4, inStart s.hw c = true → bitAt s.hw.boot.calibrated c = true) ∧ s.hw.boot.noMap = false ∧ getF s.hw PW_BOOT_HALT 0 = 0) :=
  ⟨⟨wUp (fun h => setF h PW_BOOT_STAGE 0 0x0B), by decide⟩,
    ⟨[0], wUp (fun h => setF { h with boot := { h.boot with calibrated := 15 }, dict := { h.dict with loaded := true } } PW_BOOT_STAGE 0 0x0B), by decide⟩,
    ⟨wUp (fun h => setF { h with boot := { h.boot with calibrated := 15 } } PW_BOOT_STAGE 0 0x0B), by decide⟩,
    ⟨wUp (fun h => setF { h with boot := { h.boot with calibrated := 15, restored := true } } PW_BOOT_STAGE 0 0x0B), by decide⟩⟩

/-- What `Obligations.RegisterAccessesComplete` assumes can be met, clause by clause. -/
theorem witness_RegisterAccessesComplete :
    (∃ (src : Nat) (a : Nat) (r : RegDef) (s : State), src < 4 ∧ pageExists s.hw a = true ∧ regCode a ≠ 1 ∧ regOff a ≠ 0xFFC ∧ regAt a = some r ∧ isPosted r = false ∧ pageFar s.hw a = false ∧ inFlight s.hw a = none) ∧
    (∃ (src : Nat) (a : Nat) (r : RegDef) (s : State), src < 4 ∧ pageExists s.hw a = true ∧ regOff a ≠ 0xFFC ∧ regAt a = some r ∧ isPosted r = true ∧ pageFar s.hw a = false ∧ inFlight s.hw a = none) ∧
    (∃ (page : Nat) (p : Posted) (s : State), inFlight s.hw page = some p) ∧
    (∃ (page : Nat) (s : State), pageExists s.hw page = true ∧ farReady s.hw page = true ∧ (regCode page ≠ 15 ∨ regInst page = 0)) ∧
    (∃ (page : Nat) (s : State), pageExists s.hw page = true ∧ farReady s.hw page = true ∧ regCode page = 15 ∧ 1 ≤ regInst page) ∧
    (∃ (a : Nat) (s : State), pageExists s.hw a = true) ∧
    (∃ (a : Nat) (s : State), pageExists s.hw a = true) ∧
    (∃ (src : Nat) (a : Nat) (r : RegDef) (s : State), 4 ≤ src ∧ src < 8 ∧ barSource src = none ∧ pageExists s.hw a = true ∧ regOff a ≠ 0xFFC ∧ regAt a = some r ∧ pageFar s.hw a = false ∧ inFlight s.hw a = none ∧ domainOn s.hw (regDomain a) = true ∧ regCode a * 0x100000 + regOff a ≠ CH_TDATA ∧ regCode a * 0x100000 + regOff a ≠ SV_CDATA) ∧
    (∃ (p : Nat) (data : Nat) (s : State), p < 2 ∧ flagF s.hw HP_NRCFG_ENA (inst p) = false ∧ bitAt data 31 = true) :=
  ⟨⟨0, CC_BOOTL, wReg CC_BOOTL, wUp (fun h => setF h (farFld 0x500000) 0 0), by decide⟩,
    ⟨2, PA_SIF_CMD, wReg PA_SIF_CMD, wUp (fun h => setF h (farFld 0xB00000) 0 0), by decide⟩,
    ⟨0xB00000, ⟨PA_SIF_CMD, 7, 2⟩, wUp (fun h => { h with bridges := [(0xB00000, some ⟨PA_SIF_CMD, 7, 2⟩)] }), by decide⟩,
    ⟨0xB00000, wUp id, by decide⟩,
    ⟨0xF01000, wUp id, by decide⟩,
    ⟨0xB00001, wUp id, by decide⟩,
    ⟨0xB00001, wUp id, by decide⟩,
    ⟨6, MG_BWERR, wReg MG_BWERR, wUp (fun h => setF h (farFld 0x700000) 0 0), by decide⟩,
    ⟨1, 0x80000000, wUp id, by decide⟩⟩

/-- What `Obligations.ObjectTransactionsComplete` assumes can be met, clause by clause. -/
theorem witness_ObjectTransactionsComplete :
    (∃ (sess : Nat) (u : Nat) (p : Nat) (d : EntDef) (s : State), p < 8 ∧ objDef s.hw u p 0 = some d ∧ readStatus s.hw sess u p 0 = 0 ∧ sessionBusy s.hw sess = false) ∧
    (∃ (sess : Nat) (u : Nat) (ty : Nat) (value : List (BitVec 8)) (s : State), writeStatus s.hw sess u 7 0 ty value = 0 ∧ sessionBusy s.hw sess = false) ∧
    (∃ (sess : Nat) (u : Nat) (p : Nat) (s : State), 0 < p ∧ p < 8 ∧ present s.hw u = [u] ∧ unitExists u = true ∧ bootLimited s.hw = false ∧ sessionBusy s.hw sess = false) ∧
    (∃ (sess : Nat) (u : Nat) (p : Nat) (e : Nat) (d : EntDef) (s : State), p < 0x1000 ∧ e < 16 ∧ objDef s.hw u p e = some d ∧ poweredDown s.hw sess 4 u p e d = false ∧ sessionBusy s.hw sess = false) ∧
    (∃ (sess : Nat) (u : Nat) (p : Nat) (e : Nat) (ty : Nat) (interval : Nat) (s : State), p < 0x1000 ∧ e < 16 ∧ subscribeStatus s.hw sess u p e ty interval none = 0 ∧ sessionBusy s.hw sess = false) ∧
    (∃ (sess : Nat) (u : Nat) (p : Nat) (e : Nat) (d : EntDef) (s : State), p < 0x1000 ∧ e < 16 ∧ objDef s.hw u p e = some d ∧ poweredDown s.hw sess 6 u p e d = false ∧ sessionBusy s.hw sess = false) ∧
    (∃ (sess : Nat) (u : Nat) (p : Nat) (first : Nat) (n : Nat) (s : State), blockStatus s.hw sess u p 0 first n false false = 0 ∧ p < 0x1000 ∧ first < 8 ∧ n < 2 ^ 32 ∧ sessionBusy s.hw sess = false) ∧
    (∃ (sess : Nat) (u : Nat) (p : Nat) (first : Nat) (n : Nat) (s : State), blockStatus s.hw sess u p 0 first n true false = 0 ∧ p < 0x1000 ∧ first < 8 ∧ n < 2 ^ 32 ∧ sessionBusy s.hw sess = false) ∧
    (∃ (b : BlockOp) (d : EntDef) (s : State), s.hw.mgmt.blocks = [b] ∧ s.hw.mgmt.requests = [] ∧ b.begun = true ∧ b.cut = 0 ∧ b.staged = false ∧ b.release = false ∧ b.origin = .direct ∧ windowAsleep s.hw = false ∧ b.txn.op = 7 ∧ b.txn.unit ≠ 0x1810 ∧ objDef s.hw b.txn.unit b.txn.param b.txn.elem = some d) ∧
    (∃ (b : BlockOp) (s : State), s.hw.mgmt.blocks = [b] ∧ s.hw.mgmt.requests = [] ∧ b.begun = true ∧ b.cut ≠ 0 ∧ b.release = false ∧ b.origin = .direct) :=
  ⟨⟨5, 0x1630, 1, wEnt 0x1630 1 0, wCus id, by decide⟩,
    ⟨5, 0x1600, 1, [3], wCus id, by decide⟩,
    ⟨5, 0x1630, 1, wCus id, by decide⟩,
    ⟨5, 0x1630, 1, 0, wEnt 0x1630 1 0, wCus id, by decide⟩,
    ⟨5, 0x1630, 1, 0, 10, 100, wCus id, by decide⟩,
    ⟨5, 0x1630, 1, 0, wEnt 0x1630 1 0, wCus id, by decide⟩,
    ⟨5, 0x1640, 0x010, 1, 128, wCus (fun h => setSec h 1 1 5), by decide⟩,
    ⟨5, 0x2210, 0x100, 1, (wEnt 0x2210 0x100 0).size, wCus (fun h => setSec h 1 1 5), by decide⟩,
    ⟨wBlock, wEnt 0x1640 0x010 0, wCus (fun h => onMgmt h (fun m => { m with blocks := [wBlock] })), by decide⟩,
    ⟨{ wBlock with cut := 8 }, wCus (fun h => onMgmt h (fun m => { m with blocks := [{ wBlock with cut := 8 }] })), by decide⟩⟩

/-- What `Obligations.UnitControlsComplete` assumes can be met, clause by clause. -/
theorem witness_UnitControlsComplete :
    (∃ (sess : Nat) (u : Nat) (s : State), u ∈ leafPaths ∧ absent s.hw u = false ∧ writeStatus s.hw sess u 3 0 10 [1] = 0 ∧ sessionBusy s.hw sess = false) ∧
    (∃ (sess : Nat) (u : Nat) (k : Nat) (s : State), u ∈ leafPaths ∧ absent s.hw u = false ∧ unfenceKey s.hw u = some k ∧ writeStatus s.hw sess u 3 0 10 [0] = 0 ∧ sessionBusy s.hw sess = false) ∧
    (∃ (sess : Nat) (u : Nat) (s : State), u ∈ leafPaths ∧ absent s.hw u = false ∧ writeStatus s.hw sess u 4 0 10 [1] = 0 ∧ sessionBusy s.hw sess = false) ∧
    (∃ (sess : Nat) (u : Nat) (s : State), u ∈ leafPaths ∧ absent s.hw u = false ∧ writeStatus s.hw sess u 4 0 10 [2] = 0 ∧ sessionBusy s.hw sess = false) ∧
    (∃ (sess : Nat) (u : Nat) (x : Nat) (s : State), u ∈ leafPaths ∧ absent s.hw u = false ∧ x < 3 ∧ writeStatus s.hw sess u 5 0 10 (leBytes 1 x) = 0 ∧ sessionBusy s.hw sess = false) ∧
    (∃ (sess : Nat) (u : Nat) (s : State), u ∈ leafPaths ∧ absent s.hw u = false ∧ bitAt (unit s.hw u).force 0 = false ∧ writeStatus s.hw sess u 6 0 3 (leBytes 4 1) = 0 ∧ sessionBusy s.hw sess = false) ∧
    (∃ (sess : Nat) (s : State), writeStatus s.hw sess 0 0x010 0 1 [0x5A] = 0 ∧ s.hw.boot.dphase = .idle ∧ s.hw.boot.mediaMs ≠ 0 ∧ sessionBusy s.hw sess = false) :=
  ⟨⟨5, 0x4150, wCus id, by decide⟩,
    ⟨5, 0x4150, 0x4150, wCus (fun h => setFence h 0x4150 1), by decide⟩,
    ⟨5, 0x4150, wCus id, by decide⟩,
    ⟨5, 0x4150, wCus id, by decide⟩,
    ⟨5, 0x1630, 1, wCus id, by decide⟩,
    ⟨5, 0x1630, wCus (fun h => { h with pins := { wPins with strap := 0x15ED2D } }), by decide⟩,
    ⟨5, wCus id, by decide⟩⟩

/-- What `Obligations.SessionsAndClaimsComplete` assumes can be met, clause by clause. -/
theorem witness_SessionsAndClaimsComplete :
    (∃ (sess : Nat) (role : Nat) (s : State), 0 < role ∧ role < 4 ∧ writeStatus s.hw sess 0 0x013 0 10 (leBytes 1 role) = 0 ∧ sessionBusy s.hw sess = false) ∧
    (∃ (sess : Nat) (half : Nat) (s : State), (half = 1 ∨ half = 2) ∧ readStatus s.hw sess 0 0x011 half = 0 ∧ sessionBusy s.hw sess = false) ∧
    (∃ (sess : Nat) (x : Nat) (s : State), x < 2 ^ 64 ∧ writeStatus s.hw sess 0 0x012 1 4 (leBytes 8 x) = 0 ∧ sessionBusy s.hw sess = false) ∧
    (∃ (sess : Nat) (x : Nat) (c : Nat) (k : Nat) (s : State), x < 2 ^ 64 ∧ writeStatus s.hw sess 0 0x012 2 4 (leBytes 8 x) = 0 ∧ (session s.hw sess).challenge = some c ∧ roleKey s.hw (session s.hw sess).wanted = some k ∧ sessionBusy s.hw sess = false) ∧
    (∃ (sess : Nat) (s : State), (session s.hw sess).lockout = true) ∧
    (∃ (sess : Nat), (isLinkSession sess = true ∨ isBarSession sess = true)) ∧
    (∃ (sess : Nat) (s : State), writeStatus s.hw sess 0 0x015 0 10 [1] = 0 ∧ sessionBusy s.hw sess = false) ∧
    (∃ (sess : Nat) (s : State), writeStatus s.hw sess 0 0x015 0 10 [2] = 0 ∧ sessionBusy s.hw sess = false) ∧
    (∃ (sess : Nat) (mask : Nat) (s : State), 0 < mask ∧ mask < 256 ∧ writeStatus s.hw sess 0x1920 0x011 0 1 (leBytes 1 mask) = 0 ∧ sessionBusy s.hw sess = false) ∧
    (∃ (sess : Nat) (s : State), sess < 0xFFFF ∧ writeStatus s.hw sess 0x1920 0x011 0 1 [0] = 0 ∧ sessionBusy s.hw sess = false) ∧
    (∃ (n : Nat) (s : State), n < 8 ∧ secState s.hw n = 3 ∧ windowAsleep s.hw = false) ∧
    (∃ (n : Nat) (s : State), n < 8 ∧ secState s.hw n = 1 ∧ secOwner s.hw n ≠ 0x420 ∧ secOwner s.hw n ≠ 0xFFFF ∧ windowAsleep s.hw = false) ∧
    (∃ (sess : Nat) (sigOk : Bool) (bodyOk : Bool) (s : State), writeStatus s.hw sess 0x1A00 0x048 0 1 [1] = 0 ∧ imageAccepted s.hw (windowHeader s.hw sigOk bodyOk) = true ∧ sessionBusy s.hw sess = false) ∧
    (∃ (sess : Nat) (sigOk : Bool) (bodyOk : Bool) (s : State), writeStatus s.hw sess 0x1A00 0x048 0 1 [1] = 0 ∧ imageAccepted s.hw (windowHeader s.hw sigOk bodyOk) = false ∧ sessionBusy s.hw sess = false) :=
  ⟨⟨5, 1, wCus id, by decide⟩,
    ⟨5, 1, wCus id, by decide⟩,
    ⟨5, 1, wCus id, by decide⟩,
    ⟨5, 4, 7, 9, wCus (fun h => onSession (onCipher h (fun k => { k with operator := { inForce := true, key := 9 } })) 5 (fun x => { x with wanted := 1, challenge := some 7 })), by decide⟩,
    ⟨5, wUp (fun h => onSession h 5 (fun x => { x with lockout := true })), by decide⟩,
    ⟨5, by decide⟩,
    ⟨5, wCus id, by decide⟩,
    ⟨5, wCus id, by decide⟩,
    ⟨5, 6, wCus id, by decide⟩,
    ⟨5, wCus (fun h => setSec h 1 1 5), by decide⟩,
    ⟨2, wUp (fun h => setSec h 2 3 0xFFFF), by decide⟩,
    ⟨2, wUp (fun h => setSec h 2 1 5), by decide⟩,
    ⟨5, true, true, wRecovery wHeader, by decide +kernel⟩,
    ⟨5, true, false, wRecovery wHeader, by decide +kernel⟩⟩

/-- What `Obligations.QuablinkTrafficCompletes` assumes can be met, clause by clause. -/
theorem witness_QuablinkTrafficCompletes :
    (∃ (src : Nat) (seq : Nat) (count : Nat) (body : List (BitVec 8)) (ts : List Txn) (s : State), mgmtUp s.hw = true ∧ getF s.hw PW_BOOT_STAGE 0 ≠ 0 ∧ src ≤ 0x3FF ∧ 1 ≤ count ∧ count ≤ 16 ∧ parseRecords count body = some ts ∧ (ts.map (longestResponse s.hw)).sum ≤ 1488 ∧ (session s.hw src).lastSeq ≠ some seq ∧ s.hw.mgmt.requests = [] ∧ sessionBusy s.hw src = false ∧ (∀ x ∈ ts, x.op ≠ 7 ∧ x.op ≠ 8)) ∧
    (∃ (src : Nat) (seq : Nat) (count : Nat) (body : List (BitVec 8)) (ts : List Txn) (s : State), mgmtUp s.hw = true ∧ getF s.hw PW_BOOT_STAGE 0 ≠ 0 ∧ src ≤ 0x3FF ∧ 1 ≤ count ∧ count ≤ 16 ∧ parseRecords count body = some ts ∧ (ts.map (longestResponse s.hw)).sum ≤ 1488 ∧ (session s.hw src).lastSeq ≠ some seq ∧ s.hw.mgmt.requests ≠ [] ∧ requestBusy s.hw src = false) ∧
    (∃ (src : Nat) (seq : Nat) (count : Nat) (body : List (BitVec 8)) (ts : List Txn) (s : State), mgmtUp s.hw = true ∧ getF s.hw PW_BOOT_STAGE 0 ≠ 0 ∧ src ≤ 0x3FF ∧ 1 ≤ count ∧ count ≤ 16 ∧ parseRecords count body = some ts ∧ (ts.map (longestResponse s.hw)).sum ≤ 1488 ∧ (session s.hw src).lastSeq ≠ some seq ∧ requestBusy s.hw src = true ∧ s.hw.mgmt.tx = []) ∧
    (∃ (x : Sub) (d : EntDef) (s : State), s.hw.dict.subs = [x] ∧ isLinkSession x.session = true ∧ mgmtUp s.hw = true ∧ objDef s.hw x.path (x.pe / 16 % 0x1000) (x.pe % 16) = some d ∧ poweredDown s.hw x.session 1 x.path (x.pe / 16 % 0x1000) (x.pe % 16) d = false ∧ x.interval ≤ x.age ∧ movedEnough d.ty x.deadband x.last (subValue s.hw s.vault x.session x.path (x.pe / 16 % 0x1000) (x.pe % 16) d) = true) ∧
    (∃ (n : Note) (s : State), s.hw.mgmt.notes = [n] ∧ mgmtUp s.hw = true ∧ n.repeats < 3) ∧
    (∃ (n : Note) (s : State), s.hw.mgmt.notes = [n] ∧ mgmtUp s.hw = true ∧ 3 ≤ n.repeats) ∧
    (∃ (sess : Nat) (s : State), mgmtUp s.hw = true ∧ sess ≤ 0x3FF) ∧
    (∃ (src : Nat) (upto : Nat) (s : State), mgmtUp s.hw = true ∧ upto ≤ 59999999 ∧ src ≤ 0x3FF ∧ liveVal s.hw 0x1900 0x010 0 = src) ∧
    (∃ (src : Nat) (s : State), mgmtUp s.hw = true ∧ src ≤ 0x3FF) ∧
    (∃ (src : Nat) (seq : Nat) (sect : Nat) (offset : Nat) (wlen : Nat) (data : List (BitVec 8)) (s : State), mgmtUp s.hw = true ∧ getF s.hw PW_BOOT_STAGE 0 ≠ 0 ∧ src ≤ 0x3FF ∧ 0 < wlen ∧ wlen ≤ 1024 ∧ data.length = wlen ∧ (session s.hw src).lastSeq ≠ some seq ∧ windowStatus s.hw src sect offset wlen = 0 ∧ requestBusy s.hw src = false) ∧
    (∃ (dest : Nat) (etherType : Nat) (payload : List (BitVec 8)) (s : State), mgmtUp s.hw = true ∧ (dest = macOf (nodeId s.hw) ∨ dest = macOf 0xFFFF) ∧ (etherType ≠ 0x88B5 ∨ headerIgnored s.hw payload = true)) ∧
    (∃ (code : Nat), 2 ≤ code ∧ code ≤ 4) ∧
    (∃ (detail : Nat) (s : State), s.hw.boot.stair4Asked = false ∧ s.hw.boot.stair4Prev.contains detail = false) ∧
    (∃ (detail : Nat) (s : State), (s.hw.boot.stair4Asked = true ∨ s.hw.boot.stair4Prev.contains detail = true)) ∧
    (∃ (a : Alert) (s : State), s.hw.mgmt.alerts = [a] ∧ mgmtUp s.hw = true ∧ a.sends < 59) ∧
    (∃ (a : Alert) (s : State), s.hw.mgmt.alerts = [a] ∧ s.hw.dict.subs = [] ∧ mgmtUp s.hw = true ∧ a.sends < 59) :=
  ⟨⟨0x41, 7, 1, [1, 0, 0, 0, 0x00, 0x61, 0x10, 0x00, 0x00, 0x00], [{ op := 1, ty := 0, unit := 0x6100, pe := 0x0010, value := [] }], wCus id, by decide⟩,
    ⟨0x41, 7, 1, [1, 0, 0, 0, 0x00, 0x61, 0x10, 0x00, 0x00, 0x00], [{ op := 1, ty := 0, unit := 0x6100, pe := 0x0010, value := [] }], wCus (fun h => onMgmt h (fun m => { m with requests := [{ session := 5, seq := 1, count := 1, todo := [] }] })), by decide⟩,
    ⟨5, 7, 1, [1, 0, 0, 0, 0x00, 0x61, 0x10, 0x00, 0x00, 0x00], [{ op := 1, ty := 0, unit := 0x6100, pe := 0x0010, value := [] }], wCus (fun h => onMgmt h (fun m => { m with requests := [{ session := 5, seq := 1, count := 1, todo := [] }] })), by decide⟩,
    ⟨{ session := 5, path := 0x1630, pe := 0x10, interval := 10, deadband := 0, last := 77, age := 10 }, wEnt 0x1630 1 0, wCus (fun h => onDict h (fun d => { d with subs := [{ session := 5, path := 0x1630, pe := 0x10, interval := 10, deadband := 0, last := 77, age := 10 }] })), by decide⟩,
    ⟨{ session := 5, seq := 3, path := 0x1630, pe := 0x10, value := 2, repeats := 1 }, wCus (fun h => onMgmt h (fun m => { m with notes := [{ session := 5, seq := 3, path := 0x1630, pe := 0x10, value := 2, repeats := 1 }] })), by decide⟩,
    ⟨{ session := 5, seq := 3, path := 0x1630, pe := 0x10, value := 2, repeats := 3 }, wCus (fun h => onMgmt h (fun m => { m with notes := [{ session := 5, seq := 3, path := 0x1630, pe := 0x10, value := 2, repeats := 3 }] })), by decide⟩,
    ⟨5, wCus id, by decide⟩,
    ⟨7, 30, wCus (fun h => setLive h 0x1900 0x010 0 7), by decide⟩,
    ⟨5, wCus id, by decide⟩,
    ⟨5, 7, 1, 16, 2, [1, 2], wCus (fun h => setSec h 1 1 5), by decide⟩,
    ⟨0xFFFFFFFFFFFF, 0x88B5, [1, 2], wCus id, by decide⟩,
    ⟨2, by decide⟩,
    ⟨9, wCus id, by decide⟩,
    ⟨9, wCus (fun h => onBoot h (fun b => { b with stair4Asked := true })), by decide⟩,
    ⟨{ seq := 4, code := 2, detail := 9, cycle := 1, ms := 5, sends := 2 }, wCus (fun h => onMgmt h (fun m => { m with alerts := [{ seq := 4, code := 2, detail := 9, cycle := 1, ms := 5, sends := 2 }] })), by decide⟩,
    ⟨{ seq := 4, code := 2, detail := 9, cycle := 1, ms := 5, sends := 2 }, wCus (fun h => onMgmt h (fun m => { m with alerts := [{ seq := 4, code := 2, detail := 9, cycle := 1, ms := 5, sends := 2 }] })), by decide⟩⟩

/-- What `Obligations.PortAndMinuteEventsComplete` assumes can be met, clause by clause. -/
theorem witness_PortAndMinuteEventsComplete :
    (∃ (s : State), s.hw.mgmt.plcaPending = true) ∧
    (∃ (s : State), mgmtUp s.hw = true) ∧
    (∃ (f : Frame) (s : State), mgmtUp s.hw = true ∧ plcaStatus s.hw ≠ 0 ∧ s.hw.mgmt.tx = [f]) ∧
    (∃ (s : State), s.hw.mgmt.sync = 1 ∧ s.hw.mgmt.beaconAt + 180000 ≤ s.hw.log.optime) ∧
    (∃ (s : State), domainUp s.hw 5 = true ∧ mirrors s.hw = false) ∧
    (∃ (p : Nat) (o : Nat) (n : Nat) (data : List (BitVec 8)) (s : State), p < 2 ∧ n < 8 ∧ n * 0x100000 ≤ o ∧ o + data.length ≤ (n + 1) * 0x100000 ∧ 0 < data.length ∧ secOwner s.hw n = 0x400 + p ∧ secState s.hw n = 1 ∧ windowAsleep s.hw = false) ∧
    (∃ (p : Nat) (o : Nat) (k : Nat) (n : Nat) (s : State), p < 2 ∧ n < 8 ∧ n * 0x100000 ≤ o ∧ o + k ≤ (n + 1) * 0x100000 ∧ 0 < k ∧ secOwner s.hw n = 0x400 + p ∧ secState s.hw n = 1 ∧ windowAsleep s.hw = false) ∧
    (∃ (p : Nat) (s : State), p < 2 ∧ flagF s.hw HP_MBCTL_BUSY (inst p) = false ∧ sessionBusy s.hw (0x400 + p) = false ∧ leVal ((regBytes s.hw (HP_MBREQ + inst p) 128).take 1) < 7) ∧
    (∃ (p : Nat) (s : State), p < 2 ∧ flagF s.hw HP_MBCTL_BUSY (inst p) = true) :=
  ⟨⟨wCus (fun h => onMgmt h (fun m => { m with plcaPending := true })), by decide⟩,
    ⟨wCus id, by decide⟩,
    ⟨{ kind := 3, seq := 1, dst := 2, stat := 0, count := 0, body := [] }, wCus (fun h => onMgmt h (fun m => { m with plca := { m.plca with localId := 3 }, plcaSeen := true, tx := [{ kind := 3, seq := 1, dst := 2, stat := 0, count := 0, body := [] }] })), by decide⟩,
    ⟨wCus (fun h => onLog (onMgmt h (fun m => { m with sync := 1 })) (fun l => { l with optime := 200000 })), by decide⟩,
    ⟨wCus (fun h => setF h HQ_TWIN_STATE 0 0), by decide⟩,
    ⟨1, 0x100010, 1, [1, 2], wCus (fun h => setSec h 1 1 0x401), by decide⟩,
    ⟨1, 0x100010, 2, 1, wCus (fun h => setSec h 1 1 0x401), by decide⟩,
    ⟨1, wCus id, by decide⟩,
    ⟨1, wCus (fun h => setF h HP_MBCTL_BUSY (inst 1) 1), by decide⟩⟩

/-- What `Obligations.PreampAndCalibrationComplete` assumes can be met, clause by clause. -/
theorem witness_PreampAndCalibrationComplete :
    (∃ (c : Nat) (s : State), midUp s.hw c = true ∧ flagF s.hw PA_SIF_STAT_ACTIVE (inst c) = false ∧ (car s.hw c).fmt.wire = none ∧ (car s.hw c).fmt.sif = []) ∧
    (∃ (c : Nat) (s : State), midUp s.hw c = true ∧ flagF s.hw PA_SIF_STAT_ACTIVE (inst c) = true) ∧
    (∃ (c : Nat) (s : State), (car s.hw c).fmt.wire = some false ∧ flagF s.hw PA_SIF_CMD_RD (inst c) = true ∧ (car s.hw c).fmt.sif = [] ∧ c < 4) ∧
    (∃ (c : Nat) (s : State), (car s.hw c).fmt.wire = some false ∧ flagF s.hw PA_SIF_CMD_RD (inst c) = false ∧ (car s.hw c).fmt.sif = [] ∧ c < 4) ∧
    (∃ (c : Nat) (x : SifFrame) (s : State), (car s.hw c).fmt.wire = some true ∧ (car s.hw c).fmt.sif = [x] ∧ bitAt x.command 15 = false ∧ bits 11 4 x.command = 0x20 ∧ bits 14 12 x.command < 6 ∧ c < 4) ∧
    (∃ (c : Nat) (s : State), midUp s.hw c = true ∧ (ch s.hw c).cur = none ∧ runOpen s.hw c = false ∧ writesDue s.hw c = false ∧ 5 < selHead s.hw c) ∧
    (∃ (c : Nat) (s : State), midUp s.hw c = true ∧ (ch s.hw c).cur = none ∧ runOpen s.hw c = false ∧ writesDue s.hw c = false ∧ selHead s.hw c < 6) ∧
    (∃ (c : Nat) (x : ChSector) (s : State), midUp s.hw c = true ∧ (ch s.hw c).cur = some x ∧ x.write = true) ∧
    (∃ (c : Nat) (s : State), holdDue s.hw c = true ∧ c < 4) ∧
    (∃ (c : Nat) (s : State), releaseDue s.hw c = true ∧ c < 4) ∧
    (∃ (c : Nat) (ms : Nat) (write : Bool) (s : State), stepAllowed s.hw c write ms = true) ∧
    (∃ (c : Nat) (ms : Nat) (s : State), stepAllowed s.hw c true ms = false ∧ populated s.hw c = true ∧ carFenced s.hw c = false ∧ (cal s.hw c).waiting = 0) :=
  ⟨⟨1, wUp id, by decide⟩,
    ⟨1, wUp (fun h => setF h PA_SIF_STAT_ACTIVE (inst 1) 1), by decide⟩,
    ⟨1, wUp (fun h => onFmt (setF h PA_SIF_CMD_RD (inst 1) 1) 1 (fun f => { f with wire := some false })), by decide⟩,
    ⟨1, wUp (fun h => onFmt h 1 (fun f => { f with wire := some false })), by decide⟩,
    ⟨1, ⟨0x3200, 0x103, false⟩, wUp (fun h => onFmt h 1 (fun f => { f with wire := some true, sif := [⟨0x3200, 0x103, false⟩] })), by decide⟩,
    ⟨1, wUp (fun h => setF (setF h FM_SQSTAT_SELHEAD (inst 1) 7) SV_STAT_HEAD (inst 1) 7), by decide⟩,
    ⟨1, wUp (fun h => setF h SV_STAT_HEAD (inst 1) 2), by decide⟩,
    ⟨1, { id := 3, head := 2, group := 1, mode := 3, write := true, nbp := 0x21AF29, cutoff := 0, seed := 5, slot := 0, ldpc := 0x54C98000, retry := 0xF8000000, adapt := 0xF0934CF0 }, wUp (fun h => onChan h 1 (fun k => { k with cur := some { id := 3, head := 2, group := 1, mode := 3, write := true, nbp := 0x21AF29, cutoff := 0, seed := 5, slot := 0, ldpc := 0x54C98000, retry := 0xF8000000, adapt := 0xF0934CF0 } })), by decide⟩,
    ⟨1, wUp (fun h => onCal h 1 (fun k => { k with waiting := 60001 })), by decide⟩,
    ⟨1, wUp (fun h => onEngine (onCal (setLive h (carPath 1 0) 0x021 0 20) 1 (fun k => { k with hold := some 3, delay := 20 })) (fun g => { g with extents := [(7, { nsid := 3, car := 1, head := 2, eidx := 0, retired := false })], cmds := [{ wCmd with isn := 4, pieces := [{ entry := 7, first := 0, count := 1, path := .landing }] }] })), by decide⟩,
    ⟨1, 10, true, wUp (fun h => setLive (setLive h (carPath 1 0) 0x020 0 50) (carPath 1 0) 0x021 0 20), by decide⟩,
    ⟨1, 0, wUp id, by decide⟩⟩

/-- What `Obligations.ReadChannelComplete` assumes can be met, clause by clause. -/
theorem witness_ReadChannelComplete :
    (∃ (c : Nat) (hd : Nat) (zbp : Nat) (mode : Nat) (write : Bool) (s : State), (ch s.hw c).cur = none ∧ mode < 3 ∧ sectorRefused s.hw c hd (if write then 3 else mode) zbp = false ∧ c < 4) ∧
    (∃ (c : Nat) (hd : Nat) (zbp : Nat) (mode : Nat) (s : State), (ch s.hw c).cur = none ∧ mode < 3 ∧ chUp s.hw c = true ∧ sectorRefused s.hw c hd mode zbp = true) ∧
    (∃ (c : Nat) (x : ChSector) (p : Nat × Nat) (rest : List (Nat × Nat)) (s : State), (ch s.hw c).cur = some x ∧ x.spans = p :: rest ∧ c < 4) ∧
    (∃ (c : Nat) (x : ChSector) (s : State), (ch s.hw c).cur = some x ∧ x.slipDue = true ∧ c < 4) ∧
    (∃ (c : Nat) (x : ChSector) (s : State), chUp s.hw c = true ∧ (ch s.hw c).queue = [x] ∧ x.write = false) ∧
    (∃ (c : Nat) (x : ChSector) (y : ChSector) (ys : List ChSector) (s : State), (ch s.hw c).cur = some x ∧ x.write = false ∧ x.acqFail = false ∧ x.cands ≠ [] ∧ (ch s.hw c).queue = y :: ys ∧ ys.length = 5 ∧ y.write = false ∧ x.id ≠ y.id ∧ (∀ z ∈ ys, z.id ≠ y.id) ∧ c < 4) ∧
    (∃ (c : Nat) (n : Nat) (x : ChSector) (s : State), (ch s.hw c).pinned = [x] ∧ (ch s.hw c).queue.length < 2 ∧ retryTask x = .candidate n ∧ c < 4) ∧
    (∃ (c : Nat) (n : Nat) (x : ChSector) (s : State), (ch s.hw c).pinned = [x] ∧ (ch s.hw c).queue.length < 2 ∧ retryTask x = .step n ∧ c < 4) ∧
    (∃ (c : Nat) (x : ChSector) (s : State), (ch s.hw c).pinned = [x] ∧ (ch s.hw c).queue.length < 2 ∧ retryTask x = .fail ∧ c < 4) ∧
    (∃ (c : Nat) (x : ChSector) (s : State), chUp s.hw c = true ∧ (ch s.hw c).queue = [x] ∧ x.write = true ∧ untaken s.hw c < 4) ∧
    (∃ (c : Nat) (d : AdaptDue) (s : State), (ch s.hw c).due = [d] ∧ d.hfeWritten = false ∧ c < 4) ∧
    (∃ (c : Nat) (d : AdaptDue) (s : State), (ch s.hw c).due = [d] ∧ d.dropped = false ∧ d.write = false ∧ bitAt (ch s.hw c).setsValid (setKey d.head d.group) = true ∧ flagF s.hw CH_ADAPT_ACT (inst c) = false ∧ zget (ch s.hw c).suspended (setKey d.head d.group) = 0 ∧ latched CH_ADAPT_PEN d.adapt = 1 ∧ latched CH_ADAPT_NPEN d.adapt = 0 ∧ latched CH_ADAPT_REVEN d.adapt = 0 ∧ c < 4) ∧
    (∃ (c : Nat) (hd : Nat) (z : Nat) (s : State), chUp s.hw c = true ∧ headExists s.hw hd = true ∧ z < 8 ∧ setStale s.hw c (setKey hd z) = true ∧ (ch s.hw c).areqs = [] ∧ flagF s.hw CH_ASTAT_AREQ (inst c) = false) ∧
    (∃ (c : Nat) (s : State), chUp s.hw c = true ∧ (ch s.hw c).areqs = []) ∧
    (∃ (c : Nat) (data : Nat) (s : State), chUp s.hw c = true ∧ bitAt data 31 = false) ∧
    (∃ (c : Nat) (data : Nat) (s : State), chUp s.hw c = true ∧ bits 24 22 data ≤ 5 ∧ (ch s.hw c).cur = none ∧ (ch s.hw c).taddr = some (setKey (bits 24 22 data) (bits 21 19 data))) ∧
    (∃ (c : Nat) (s : State), chUp s.hw c = true ∧ getF s.hw CH_TADDR_HEAD (inst c) ≤ 5) ∧
    (∃ (c : Nat) (s : State), chUp s.hw c = true ∧ getF s.hw CH_TADDR_HEAD (inst c) ≤ 5 ∧ flagF s.hw CH_TADDR_SRC (inst c) = true) ∧
    (∃ (c : Nat) (s : State), populated s.hw c = true ∧ (ch s.hw c).commitDue = []) ∧
    (∃ (c : Nat) (x : ChSector) (s : State), populated s.hw c = true ∧ (ch s.hw c).cur = some x ∧ x.write = false) :=
  ⟨⟨1, 2, 0x10D794, 0, true, wUp (fun h => setF (setF h CH_CTL_ENA (inst 1) 1) CH_CTL_GTRACK (inst 1) 0), by decide⟩,
    ⟨1, 2, 0x10D794, 0, wUp id, by decide⟩,
    ⟨1, { id := 3, head := 2, group := 1, mode := 0, write := false, nbp := 0x21AF29, cutoff := 0, seed := 5, slot := 0, ldpc := 0x54C98000, retry := 0xF8000000, adapt := 0xF0934CF0, spans := [(40, 9)] }, (40, 9), [], wUp (fun h => onChan h 1 (fun k => { k with cur := some { id := 3, head := 2, group := 1, mode := 0, write := false, nbp := 0x21AF29, cutoff := 0, seed := 5, slot := 0, ldpc := 0x54C98000, retry := 0xF8000000, adapt := 0xF0934CF0, spans := [(40, 9)] } })), by decide⟩,
    ⟨1, { id := 3, head := 2, group := 1, mode := 0, write := false, nbp := 0x21AF29, cutoff := 0, seed := 5, slot := 0, ldpc := 0x54C98000, retry := 0xF8000000, adapt := 0xF0934CF0, slipDue := true }, wUp (fun h => onChan h 1 (fun k => { k with cur := some { id := 3, head := 2, group := 1, mode := 0, write := false, nbp := 0x21AF29, cutoff := 0, seed := 5, slot := 0, ldpc := 0x54C98000, retry := 0xF8000000, adapt := 0xF0934CF0, slipDue := true } })), by decide⟩,
    ⟨1, { id := 3, head := 2, group := 1, mode := 0, write := false, nbp := 0x21AF29, cutoff := 0, seed := 5, slot := 0, ldpc := 0x54C98000, retry := 0xF8000000, adapt := 0xF0934CF0 }, wUp (fun h => onChan h 1 (fun k => { k with queue := [{ id := 3, head := 2, group := 1, mode := 0, write := false, nbp := 0x21AF29, cutoff := 0, seed := 5, slot := 0, ldpc := 0x54C98000, retry := 0xF8000000, adapt := 0xF0934CF0 }] })), by decide⟩,
    ⟨1, { id := 3, head := 2, group := 1, mode := 0, write := false, nbp := 0x21AF29, cutoff := 0, seed := 5, slot := 0, ldpc := 0x54C98000, retry := 0xF8000000, adapt := 0xF0934CF0, cands := [(0, 40)] }, { id := 50, head := 2, group := 1, mode := 0, write := false, nbp := 0x21AF29, cutoff := 0, seed := 5, slot := 0, ldpc := 0x54C98000, retry := 0xF8000000, adapt := 0xF0934CF0 }, (List.range 5).map (fun (n : Nat) => { ({ id := 3, head := 2, group := 1, mode := 0, write := false, nbp := 0x21AF29, cutoff := 0, seed := 5, slot := 0, ldpc := 0x54C98000, retry := 0xF8000000, adapt := 0xF0934CF0 } : ChSector) with id := n + 10 }), wUp (fun h => onChan h 1 (fun k => { k with cur := some { id := 3, head := 2, group := 1, mode := 0, write := false, nbp := 0x21AF29, cutoff := 0, seed := 5, slot := 0, ldpc := 0x54C98000, retry := 0xF8000000, adapt := 0xF0934CF0, cands := [(0, 40)] }, queue := { id := 50, head := 2, group := 1, mode := 0, write := false, nbp := 0x21AF29, cutoff := 0, seed := 5, slot := 0, ldpc := 0x54C98000, retry := 0xF8000000, adapt := 0xF0934CF0 } :: (List.range 5).map (fun n => { ({ id := 3, head := 2, group := 1, mode := 0, write := false, nbp := 0x21AF29, cutoff := 0, seed := 5, slot := 0, ldpc := 0x54C98000, retry := 0xF8000000, adapt := 0xF0934CF0 } : ChSector) with id := n + 10 }) })), by decide⟩,
    ⟨1, 2, { id := 3, head := 2, group := 1, mode := 0, write := false, nbp := 0x21AF29, cutoff := 0, seed := 5, slot := 0, ldpc := 0x54C98000, retry := 0xF8000000, adapt := 0xF0934CF0, cands := [(0, 40), (3, 38)], tried := [9] }, wUp (fun h => onChan h 1 (fun k => { k with pinned := [{ id := 3, head := 2, group := 1, mode := 0, write := false, nbp := 0x21AF29, cutoff := 0, seed := 5, slot := 0, ldpc := 0x54C98000, retry := 0xF8000000, adapt := 0xF0934CF0, cands := [(0, 40), (3, 38)], tried := [9] }] })), by decide⟩,
    ⟨1, 1, { id := 3, head := 2, group := 1, mode := 0, write := false, nbp := 0x21AF29, cutoff := 0, seed := 5, slot := 0, ldpc := 0x54C98000, retry := 0xF8000000, adapt := 0xF0934CF0, cands := [(0, 40)], tried := [9] }, wUp (fun h => onChan h 1 (fun k => { k with pinned := [{ id := 3, head := 2, group := 1, mode := 0, write := false, nbp := 0x21AF29, cutoff := 0, seed := 5, slot := 0, ldpc := 0x54C98000, retry := 0xF8000000, adapt := 0xF0934CF0, cands := [(0, 40)], tried := [9] }] })), by decide⟩,
    ⟨1, { id := 3, head := 2, group := 1, mode := 0, write := false, nbp := 0x21AF29, cutoff := 0, seed := 5, slot := 0, ldpc := 0x54C98000, retry := 0xF8000000, adapt := 0xF0934CF0, cands := [(0, 40)], tried := [9], nextStep := 5 }, wUp (fun h => onChan h 1 (fun k => { k with pinned := [{ id := 3, head := 2, group := 1, mode := 0, write := false, nbp := 0x21AF29, cutoff := 0, seed := 5, slot := 0, ldpc := 0x54C98000, retry := 0xF8000000, adapt := 0xF0934CF0, cands := [(0, 40)], tried := [9], nextStep := 5 }] })), by decide⟩,
    ⟨1, { id := 3, head := 2, group := 1, mode := 3, write := true, nbp := 0x21AF29, cutoff := 0, seed := 5, slot := 0, ldpc := 0x54C98000, retry := 0xF8000000, adapt := 0xF0934CF0 }, wUp (fun h => onChan h 1 (fun k => { k with queue := [{ id := 3, head := 2, group := 1, mode := 3, write := true, nbp := 0x21AF29, cutoff := 0, seed := 5, slot := 0, ldpc := 0x54C98000, retry := 0xF8000000, adapt := 0xF0934CF0 }] })), by decide⟩,
    ⟨1, { head := 2, group := 1, write := false, adapt := 0x80930CF0, hfeWritten := false, frontEnd := 0x04F97A7C, sums := { tapsA := [1], tapsB := [], target := [], noise := [], mse := 40 } }, wUp (fun h => onChan h 1 (fun k => { k with due := [{ head := 2, group := 1, write := false, adapt := 0x80930CF0, hfeWritten := false, frontEnd := 0x04F97A7C, sums := { tapsA := [1], tapsB := [], target := [], noise := [], mse := 40 } }] })), by decide⟩,
    ⟨1, { head := 2, group := 1, write := false, adapt := 0x80930CF0, hfeWritten := false, frontEnd := 0x04F97A7C, sums := { tapsA := [1], tapsB := [], target := [], noise := [], mse := 40 } }, wUp (fun h => onChan h 1 (fun k => { k with due := [{ head := 2, group := 1, write := false, adapt := 0x80930CF0, hfeWritten := false, frontEnd := 0x04F97A7C, sums := { tapsA := [1], tapsB := [], target := [], noise := [], mse := 40 } }], setsValid := 2 ^ 48 - 1, active := [(64 * setKey 2 1 + 17, 0x01000000)] })), by decide⟩,
    ⟨1, 2, 3, wUp (fun h => onLog (setF h AC_STAT_STATE (inst 1) 2) (fun l => { l with optime := 10000000 })), by decide⟩,
    ⟨1, wUp (fun h => setF h CH_ASTAT_AREQ (inst 1) 1), by decide⟩,
    ⟨1, 0x00980003, wUp id, by decide⟩,
    ⟨1, 0x80980000, wUp (fun h => onChan h 1 (fun k => { k with taddr := some (setKey 2 3), staging := [(64 * setKey 2 3, 77)] })), by decide⟩,
    ⟨1, wUp (fun h => setF h CH_TADDR_WORD (inst 1) 63), by decide⟩,
    ⟨1, wUp (fun h => setF h CH_TADDR_SRC (inst 1) 1), by decide⟩,
    ⟨1, wUp (fun h => onChan h 1 (fun k => { k with cur := some { id := 3, head := 2, group := 1, mode := 0, write := false, nbp := 0x21AF29, cutoff := 0, seed := 5, slot := 0, ldpc := 0x54C98000, retry := 0xF8000000, adapt := 0xF0934CF0 }, pinned := [{ id := 3, head := 2, group := 1, mode := 0, write := false, nbp := 0x21AF29, cutoff := 0, seed := 5, slot := 0, ldpc := 0x54C98000, retry := 0xF8000000, adapt := 0xF0934CF0 }] })), by decide⟩,
    ⟨1, { id := 3, head := 2, group := 1, mode := 0, write := false, nbp := 0x21AF29, cutoff := 0, seed := 5, slot := 0, ldpc := 0x54C98000, retry := 0xF8000000, adapt := 0xF0934CF0 }, wUp (fun h => onChan h 1 (fun k => { k with cur := some { id := 3, head := 2, group := 1, mode := 0, write := false, nbp := 0x21AF29, cutoff := 0, seed := 5, slot := 0, ldpc := 0x54C98000, retry := 0xF8000000, adapt := 0xF0934CF0 } })), by decide⟩⟩

/-- What `Obligations.SectorPathCompletes` assumes can be met, clause by clause. -/
theorem witness_SectorPathCompletes :
    (∃ (c : Nat) (d : Desc) (z : Zone) (s : State), (fm s.hw c).sq = [d] ∧ midUp s.hw c = true ∧ (fm s.hw c).reports.length < 8 ∧ (fm s.hw c).ploss = false ∧ (path s.hw c).again = [] ∧ descKind d = 0 ∧ descRefused s.hw c d 0 = false ∧ trackZone s.hw c (descHead d) (descTrack d) = some z ∧ (ch s.hw c).cur = none ∧ bits 23 22 d.w0 < 3 ∧ sectorRefused s.hw c (descHead d) (bits 23 22 d.w0) z.zbp = false) ∧
    (∃ (c : Nat) (d : Desc) (s : State), (fm s.hw c).sq = [d] ∧ midUp s.hw c = true ∧ (fm s.hw c).reports.length < 8 ∧ (fm s.hw c).ploss = false ∧ (path s.hw c).again = [] ∧ descKind d = 0 ∧ descTrack d ≠ getF s.hw SV_POS_TRACK (inst c)) ∧
    (∃ (c : Nat) (d : Desc) (s : State), (fm s.hw c).sq = [d] ∧ midUp s.hw c = true ∧ (fm s.hw c).reports.length < 8 ∧ (fm s.hw c).ploss = false ∧ (path s.hw c).again = [] ∧ descKind d = 2 ∧ 4 ≤ untaken s.hw c) ∧
    (∃ (c : Nat) (o : OpenDesc) (v : VReport) (s : State), (fm s.hw c).started = [o] ∧ (fm s.hw c).reports.length < 8 ∧ descKind o.desc = 2 ∧ o.refused = false ∧ o.lost = false ∧ o.direct = false ∧ (ch s.hw c).reports = [v] ∧ v.id = o.id ∧ c < 4) ∧
    (∃ (c : Nat) (o : OpenDesc) (r : ChResult) (w : SecWork) (s : State), (fm s.hw c).started = [o] ∧ (fm s.hw c).reports.length < 8 ∧ descKind o.desc = 0 ∧ o.refused = false ∧ (ch s.hw c).results = [r] ∧ r.sector.id = o.id ∧ r.result = 0 ∧ r.cand = 1 ∧ (path s.hw c).works = [w] ∧ w.id = o.id ∧ w.finished = false ∧ w.tries = 1 ∧ c < 4) ∧
    (∃ (c : Nat) (x : ChSector) (s : State), (ch s.hw c).cur = some x ∧ x.write = false ∧ x.acqFail = false ∧ x.cands = [] ∧ c < 4) ∧
    (∃ (c : Nat) (s : State), liveVal s.hw (carPath c 0x300) 0x016 0 < (path s.hw c).missMinute ∧ c < 4) ∧
    (∃ (c : Nat) (w : SecWork) (s : State), workWhere s.hw c (fun v => v.failed && !v.write && !v.finished) = some w ∧ (fm s.hw c).sq.length < 4 ∧ c < 4) ∧
    (∃ (c : Nat) (w : SecWork) (s : State), workWhere s.hw c (fun v => v.failed && v.write && !v.landing && !v.finished) = some w ∧ spareDue s.hw c w = false ∧ (fm s.hw c).sq.length < 4 ∧ c < 4) ∧
    (∃ (c : Nat) (w : SecWork) (s : State), workWhere s.hw c (spareDue s.hw c) = some w ∧ bandOfTrack s.hw c w.head w.track = none ∧ poolEmpty s.hw c = false ∧ c < 4) ∧
    (∃ (c : Nat) (w : SecWork) (s : State), workWhere s.hw c (spareDue s.hw c) = some w ∧ poolEmpty s.hw c = true ∧ c < 4) ∧
    (∃ (c : Nat) (s : State), midUp s.hw c = true ∧ landFree s.hw c < 131) ∧
    (∃ (c : Nat) (s : State), midUp s.hw c = true ∧ checkpointDue s.hw c = true) ∧
    (∃ (c : Nat) (n : Nat) (s : State), flagF s.hw FM_SQSTAT_RUNOPEN (inst c) = true ∧ (n = 0 ∨ n < landSpan s.hw c) ∧ ((fm s.hw c).runEnd = true ∨ 4 ≤ (fm s.hw c).passed + n) ∧ lhead s.hw c < ringSize ∧ c < 4) ∧
    (∃ (c : Nat) (x : ChSector) (s : State), (ch s.hw c).cur = some x ∧ x.write = true ∧ flagF s.hw SV_STAT_WUNSAFE (inst c) = true ∧ c < 4) ∧
    (∃ (c : Nat) (s : State), (path s.hw c).noWrite = true ∧ c < 4) ∧
    (∃ (c : Nat) (s : State), midUp s.hw c = true ∧ (fm s.hw c).ploss = true) ∧
    (∃ (c : Nat) (s : State), midUp s.hw c = true) ∧
    (∃ (c : Nat) (s : State), midUp s.hw c = true) :=
  ⟨⟨1, { w0 := 0x02000007, w1 := 0x200, w2 := 5 }, { ftrk := 0, zbp := 0x10D794, group := 1, bpw := 49479, spt := 400, sfl := 2000 }, wUp (fun h => setF (setF (setF (setF (onFmt (onPath h 1 (fun k => { k with zones := (List.replicate 384 ([0, 0, 0, 0, 0x94, 0xD7, 0x10, 0x01, 0x47, 0xC1, 0, 0, 0x90, 0x01, 0xD0, 0x07] : List (BitVec 8))).flatten })) 1 (fun k => { k with sq := [{ w0 := 0x02000007, w1 := 0x200, w2 := 5 }] })) SV_POS_TRACK (inst 1) 0x200) FM_SQSTAT_SELHEAD (inst 1) 2) CH_CTL_ENA (inst 1) 1) CH_CTL_GTRACK (inst 1) 0), by decide +kernel⟩,
    ⟨1, { w0 := 0x02000007, w1 := 0x200, w2 := 5 }, wUp (fun h => onFmt h 1 (fun k => { k with sq := [{ w0 := 0x02000007, w1 := 0x200, w2 := 5 }] })), by decide⟩,
    ⟨1, { w0 := 0x22000007, w1 := 0x200, w2 := 5 }, wUp (fun h => onFmt (onChan h 1 (fun k => { k with reports := List.replicate 4 { id := 3, raw := 12, weak := 3, conv := true, viter := 4 } })) 1 (fun k => { k with sq := [{ w0 := 0x22000007, w1 := 0x200, w2 := 5 }] })), by decide⟩,
    ⟨1, { desc := { w0 := 0x22000007, w1 := 0x200, w2 := 5 }, pos := 0, id := 3, refused := false, skipped := false, lost := false }, { id := 3, raw := 12, weak := 3, conv := true, viter := 4 }, wUp (fun h => onFmt (onChan h 1 (fun k => { k with reports := [{ id := 3, raw := 12, weak := 3, conv := true, viter := 4 }] })) 1 (fun k => { k with started := [{ desc := { w0 := 0x22000007, w1 := 0x200, w2 := 5 }, pos := 0, id := 3, refused := false, skipped := false, lost := false }] })), by decide⟩,
    ⟨1, { desc := { w0 := 0x02000007, w1 := 0x200, w2 := 5 }, pos := 0, id := 3, refused := false, skipped := false, lost := false }, ⟨{ id := 3, head := 2, group := 1, mode := 0, write := false, nbp := 0x21AF29, cutoff := 0, seed := 5, slot := 0, ldpc := 0x54C98000, retry := 0xF8000000, adapt := 0xF0934CF0 }, 0, 0, 1, 7, 9⟩, { write := false, head := 2, track := 0x200, index := 7, landing := false, tries := 1, misses := 0, failed := true, desc := { w0 := 0x02000007, w1 := 0x200, w2 := 5 }, id := 3 }, wUp (fun h => onFmt (onChan (onPath h 1 (fun k => { k with works := [{ write := false, head := 2, track := 0x200, index := 7, landing := false, tries := 1, misses := 0, failed := true, desc := { w0 := 0x02000007, w1 := 0x200, w2 := 5 }, id := 3 }] })) 1 (fun k => { k with results := [⟨{ id := 3, head := 2, group := 1, mode := 0, write := false, nbp := 0x21AF29, cutoff := 0, seed := 5, slot := 0, ldpc := 0x54C98000, retry := 0xF8000000, adapt := 0xF0934CF0 }, 0, 0, 1, 7, 9⟩] })) 1 (fun k => { k with started := [{ desc := { w0 := 0x02000007, w1 := 0x200, w2 := 5 }, pos := 0, id := 3, refused := false, skipped := false, lost := false }] })), by decide⟩,
    ⟨1, { id := 3, head := 2, group := 1, mode := 0, write := false, nbp := 0x21AF29, cutoff := 0, seed := 5, slot := 0, ldpc := 0x54C98000, retry := 0xF8000000, adapt := 0xF0934CF0 }, wUp (fun h => onChan h 1 (fun k => { k with cur := some { id := 3, head := 2, group := 1, mode := 0, write := false, nbp := 0x21AF29, cutoff := 0, seed := 5, slot := 0, ldpc := 0x54C98000, retry := 0xF8000000, adapt := 0xF0934CF0 } })), by decide⟩,
    ⟨1, wUp (fun h => onPath h 1 (fun k => { k with missMinute := 70000 })), by decide⟩,
    ⟨1, { write := false, head := 2, track := 0x200, index := 7, landing := false, tries := 1, misses := 0, failed := true, desc := { w0 := 0x02000007, w1 := 0x200, w2 := 5 }, id := 3 }, wUp (fun h => onPath h 1 (fun k => { k with works := [{ write := false, head := 2, track := 0x200, index := 7, landing := false, tries := 1, misses := 0, failed := true, desc := { w0 := 0x02000007, w1 := 0x200, w2 := 5 }, id := 3 }] })), by decide⟩,
    ⟨1, { write := true, head := 2, track := 0x200, index := 7, landing := false, tries := 1, misses := 0, failed := true, desc := { w0 := 0x02000007, w1 := 0x200, w2 := 5 }, id := 3 }, wUp (fun h => onPath h 1 (fun k => { k with works := [{ write := true, head := 2, track := 0x200, index := 7, landing := false, tries := 1, misses := 0, failed := true, desc := { w0 := 0x02000007, w1 := 0x200, w2 := 5 }, id := 3 }] })), by decide⟩,
    ⟨1, { write := true, head := 2, track := 0x200, index := 7, landing := false, tries := 9, misses := 0, failed := true, desc := { w0 := 0x02000007, w1 := 0x200, w2 := 5 }, id := 3 }, wUp (fun h => onPath h 1 (fun k => { k with works := [{ write := true, head := 2, track := 0x200, index := 7, landing := false, tries := 9, misses := 0, failed := true, desc := { w0 := 0x02000007, w1 := 0x200, w2 := 5 }, id := 3 }] })), by decide⟩,
    ⟨1, { write := true, head := 2, track := 0x200, index := 7, landing := false, tries := 9, misses := 0, failed := true, desc := { w0 := 0x02000007, w1 := 0x200, w2 := 5 }, id := 3 }, wUp (fun h => onPath h 1 (fun k => { k with works := [{ write := true, head := 2, track := 0x200, index := 7, landing := false, tries := 9, misses := 0, failed := true, desc := { w0 := 0x02000007, w1 := 0x200, w2 := 5 }, id := 3 }], poolFree := 0 })), by decide⟩,
    ⟨1, wUp (fun h => setF (onPath h 1 (fun k => { k with records := [{ seq := 5, nsid := 1, sdu := 0, count := 1, lpos := 0, posmap := 1, kgen := 0, ordered := false, mirrored := false, pos := 1, dseq := 0 }] })) FM_LTAIL_VALUE (inst 1) 100), by decide⟩,
    ⟨1, wUp (fun h => onPath h 1 (fun k => { k with sinceCheck := 20000 })), by decide⟩,
    ⟨1, 4, wUp (fun h => setF h FM_SQSTAT_RUNOPEN (inst 1) 1), by decide⟩,
    ⟨1, { id := 3, head := 2, group := 1, mode := 3, write := true, nbp := 0x21AF29, cutoff := 0, seed := 5, slot := 0, ldpc := 0x54C98000, retry := 0xF8000000, adapt := 0xF0934CF0 }, wUp (fun h => setF (onChan h 1 (fun k => { k with cur := some { id := 3, head := 2, group := 1, mode := 3, write := true, nbp := 0x21AF29, cutoff := 0, seed := 5, slot := 0, ldpc := 0x54C98000, retry := 0xF8000000, adapt := 0xF0934CF0 } })) SV_STAT_WUNSAFE (inst 1) 1), by decide⟩,
    ⟨1, wUp (fun h => onPath h 1 (fun k => { k with noWrite := true })), by decide⟩,
    ⟨1, wUp (fun h => onFmt h 1 (fun k => { k with ploss := true })), by decide⟩,
    ⟨1, wUp (fun h => setF h FM_BC_WEDGE (inst 1) 639), by decide⟩,
    ⟨1, wUp id, by decide⟩⟩

/-- What `Obligations.FormatterCompletes` assumes can be met, clause by clause. -/
theorem witness_FormatterCompletes :
    (∃ (c : Nat) (s : State), midUp s.hw c = true) ∧
    (∃ (c : Nat) (s : State), midUp s.hw c = true ∧ (fm s.hw c).queue.length < 16) ∧
    (∃ (c : Nat) (s : State), midUp s.hw c = true ∧ 16 ≤ (fm s.hw c).queue.length) ∧
    (∃ (c : Nat) (opc : Nat) (tag : Nat) (w1 : Nat) (w2 : Nat) (w3 : Nat) (s : State), midUp s.hw c = true ∧ (fm s.hw c).queue.length < 16 ∧ opc < 256 ∧ tag < 65536 ∧ w1 < 2 ^ 32 ∧ w2 < 2 ^ 32 ∧ w3 < 2 ^ 32) ∧
    (∃ (c : Nat) (r : FmReq) (rest : List FmReq) (s : State), (fm s.hw c).queue = r :: rest ∧ midUp s.hw c = true ∧ (fm s.hw c).copied = true ∧ flagF s.hw FM_MCTL_RUN (inst c) = true ∧ flagF s.hw FM_MSTAT_IDLE (inst c) = true ∧ flagF s.hw FM_MSTAT_FHALT (inst c) = false ∧ 1 ≤ r.opc ∧ r.opc ≤ 10 ∧ pendingLevel s.hw c = none ∧ (r.src = true ∨ r.opc = 7 ∨ (cal s.hw c).step = none)) ∧
    (∃ (c : Nat) (r : FmReq) (rest : List FmReq) (s : State), (fm s.hw c).queue = r :: rest ∧ midUp s.hw c = true ∧ (fm s.hw c).copied = true ∧ flagF s.hw FM_MCTL_RUN (inst c) = true ∧ flagF s.hw FM_MSTAT_IDLE (inst c) = true ∧ flagF s.hw FM_MSTAT_FHALT (inst c) = false ∧ 10 < r.opc ∧ trapOf (fm s.hw c) (r.opc * 8) = none ∧ r.src = true ∧ pendingLevel s.hw c = none) ∧
    (∃ (c : Nat) (pc : Nat) (raw : Nat) (s : State), sequencing s.hw c = true ∧ (fm s.hw c).rom = false ∧ levelNow s.hw c = none ∧ fetchWord s.hw c (getF s.hw FM_MSTAT_PC (inst c)) = some (pc, raw) ∧ legalWord raw = true ∧ (splitWord raw).seq = 0 ∧ (splitWord raw).safe = false ∧ (splitWord raw).iop = 0 ∧ (splitWord raw).aop ≠ 0 ∧ (splitWord raw).aop ≠ 8 ∧ (splitWord raw).aop ≠ 9 ∧ (splitWord raw).aop ≠ 11 ∧ (splitWord raw).bimm = true ∧ (splitWord raw).dst ≠ 0 ∧ (fm s.hw c).spd + (splitWord raw).cyc + 1 < 1024) ∧
    (∃ (c : Nat) (pc : Nat) (raw : Nat) (s : State), sequencing s.hw c = true ∧ (fm s.hw c).waiting = true ∧ (fm s.hw c).rom = false ∧ levelNow s.hw c = none ∧ fetchWord s.hw c (getF s.hw FM_MSTAT_PC (inst c)) = some (pc, raw) ∧ (splitWord raw).seq = 7 ∧ (splitWord raw).safe = false ∧ (condValue s.hw c (splitWord raw).cond != (splitWord raw).cpol) = true ∧ (fm s.hw c).spd + (splitWord raw).cyc + 1 < 1024) ∧
    (∃ (c : Nat) (s : State), midUp s.hw c = true ∧ (fm s.hw c).sq.length < 4) ∧
    (∃ (c : Nat) (s : State), midUp s.hw c = true ∧ (fm s.hw c).sif = [] ∧ (fm s.hw c).wire = none) ∧
    (∃ (c : Nat) (r : Rpt) (rest : List Rpt) (s : State), midUp s.hw c = true ∧ (fm s.hw c).reports = r :: rest) ∧
    (∃ (c : Nat) (s : State), midUp s.hw c = true) ∧
    (∃ (c : Nat) (r : FmReq) (s : State), midUp s.hw c = true ∧ (fm s.hw c).running = some r ∧ (fm s.hw c).done = false ∧ r.src = true) ∧
    (∃ (c : Nat) (r : FmReq) (s : State), midUp s.hw c = true ∧ (fm s.hw c).running = some r) ∧
    (∃ (c : Nat) (s : State), midUp s.hw c = true) ∧
    (∃ (c : Nat) (hd : Nat) (s : State), midUp s.hw c = true ∧ headsPer s.hw ≤ hd) ∧
    (∃ (c : Nat) (hd : Nat) (track : Nat) (s : State), midUp s.hw c = true ∧ hd < headsPer s.hw ∧ fenced s.hw (servoHead c hd) = false ∧ track < tracksOf s.hw c hd ∧ svState s.hw c ≠ svOff ∧ svState s.hw c ≠ svParked ∧ svState s.hw c ≠ svFollow) ∧
    (∃ (c : Nat) (s : State), midUp s.hw c = true ∧ ((path s.hw c).grown.filter (fun (g : GDef) => !(g.head == bits 7 0 (zget (fm s.hw c).defs 0) && g.track == zget (fm s.hw c).defs 1 && g.sect == bits 31 16 (zget (fm s.hw c).defs 0)))).length < 16384) ∧
    (∃ (c : Nat) (s : State), midUp s.hw c = true) ∧
    (∃ (c : Nat) (s : State), sequencing s.hw c = true) ∧
    (∃ (c : Nat) (s : State), sequencing s.hw c = true ∧ flagF s.hw FM_MSTAT_IACT (inst c) = true ∧ getF s.hw FM_MSTAT_ILEV (inst c) ≠ 0 ∧ (fm s.hw c).stack.length = (fm s.hw c).entryDepth ∧ (fm s.hw c).fromIdle = false) ∧
    (∃ (c : Nat) (s : State), sequencing s.hw c = true ∧ (fm s.hw c).rom = false ∧ overrunDue s.hw c = true) ∧
    (∃ (c : Nat) (n : Nat) (s : State), pendingLevel s.hw c = some n ∧ midUp s.hw c = true ∧ flagF s.hw FM_MSTAT_FHALT (inst c) = false ∧ (fm s.hw c).copied = true ∧ flagF s.hw FM_MSTAT_IDLE (inst c) = true ∧ flagF s.hw FM_MSTAT_IACT (inst c) = false) ∧
    (∃ (c : Nat) (tag : Nat) (r : FmReq) (s : State), midUp s.hw c = true ∧ (fm s.hw c).queue = [r] ∧ r.src = false ∧ r.tag = tag) ∧
    (∃ (c : Nat) (tag : Nat) (r : FmReq) (s : State), midUp s.hw c = true ∧ (fm s.hw c).queue = [] ∧ (fm s.hw c).running = some r ∧ r.tag = tag ∧ (fm s.hw c).done = false) ∧
    (∃ (c : Nat) (s : State), midUp s.hw c = true) ∧
    (∃ (c : Nat) (s : State), midUp s.hw c = true) ∧
    (∃ (c : Nat) (s : State), midUp s.hw c = true ∧ flagF s.hw FM_MCTL_RUN (inst c) = false ∧ flagF s.hw FM_MSTAT_IDLE (inst c) = true ∧ getF s.hw FM_PSTAT_STATE (inst c) ≠ 1) ∧
    (∃ (c : Nat) (s : State), midUp s.hw c = true ∧ flagF s.hw FM_MCTL_RUN (inst c) = true) ∧
    (∃ (c : Nat) (s : State), midUp s.hw c = true ∧ getF s.hw FM_PSTAT_STATE (inst c) = 1 ∧ getF s.hw PW_BOOT_STAGE 0 ≠ 6) ∧
    (∃ (c : Nat) (f : Nat) (readable : Bool) (s : State), midUp s.hw c = true ∧ getF s.hw FM_PSTAT_STATE (inst c) = 1 ∧ patchResult s.hw c readable = .inl f ∧ getF s.hw PW_BOOT_STAGE 0 = 6 ∧ zget s.hw.boot.patchFails c = 1) ∧
    (∃ (c : Nat) (s : State), populated s.hw c = true) :=
  ⟨⟨1, wUp id, by decide⟩,
    ⟨1, wUp (fun h => setF h FM_RQW_WORD (inst 1) 0x01000009), by decide⟩,
    ⟨1, wUp (fun h => onFmt h 1 (fun k => { k with queue := List.replicate 16 { opc := 1, src := true, tag := 9, w1 := 1, w2 := 2, w3 := 3 } })), by decide⟩,
    ⟨1, 1, 9, 1, 2, 3, wUp id, by decide⟩,
    ⟨1, { opc := 1, src := true, tag := 9, w1 := 1, w2 := 2, w3 := 3 }, [], wUp (fun h => setF (onFmt h 1 (fun k => { k with queue := [{ opc := 1, src := true, tag := 9, w1 := 1, w2 := 2, w3 := 3 }], copied := true })) FM_MCTL_RUN (inst 1) 1), by decide⟩,
    ⟨1, { opc := 11, src := true, tag := 9, w1 := 1, w2 := 2, w3 := 3 }, [], wUp (fun h => setF (onFmt h 1 (fun k => { k with queue := [{ opc := 11, src := true, tag := 9, w1 := 1, w2 := 2, w3 := 3 }], copied := true })) FM_MCTL_RUN (inst 1) 1), by decide⟩,
    ⟨1, 0x2000, 348520015610881830168343609344, wUp (fun h => setF (setF (onFmt h 1 (fun k => { k with patch := [(0, some 348520015610881830168343609344)] })) FM_MSTAT_IDLE (inst 1) 0) FM_MSTAT_PC (inst 1) 0x2000), by decide⟩,
    ⟨1, 0x2000, 9086541167595561663697829960351744, wUp (fun h => setF (setF (onFmt h 1 (fun k => { k with waiting := true, patch := [(0, some 9086541167595561663697829960351744)] })) FM_MSTAT_IDLE (inst 1) 0) FM_MSTAT_PC (inst 1) 0x2000), by decide⟩,
    ⟨1, wUp id, by decide⟩,
    ⟨1, wUp id, by decide⟩,
    ⟨1, ⟨1, 2, 3, 4⟩, [], wUp (fun h => onFmt h 1 (fun k => { k with reports := [⟨1, 2, 3, 4⟩] })), by decide⟩,
    ⟨1, wUp id, by decide⟩,
    ⟨1, { opc := 1, src := true, tag := 9, w1 := 1, w2 := 2, w3 := 3 }, wUp (fun h => onFmt h 1 (fun k => { k with running := some { opc := 1, src := true, tag := 9, w1 := 1, w2 := 2, w3 := 3 } })), by decide⟩,
    ⟨1, { opc := 1, src := false, tag := 9, w1 := 1, w2 := 2, w3 := 3 }, wUp (fun h => onFmt h 1 (fun k => { k with running := some { opc := 1, src := false, tag := 9, w1 := 1, w2 := 2, w3 := 3 } })), by decide⟩,
    ⟨1, wUp id, by decide⟩,
    ⟨1, 6, wUp id, by decide⟩,
    ⟨1, 2, 9, wUp (fun h => setF (setLive h (servoHead 1 2) 0x010 0 500) SV_STAT_STATE (inst 1) svSeek), by decide⟩,
    ⟨1, wUp (fun h => onFmt h 1 (fun k => { k with defs := [(0, 0x70002), (1, 9), (2, 5), (3, 1)] })), by decide⟩,
    ⟨1, wUp id, by decide⟩,
    ⟨1, wUp (fun h => setF (onFmt h 1 (fun k => { k with running := some { opc := 1, src := true, tag := 9, w1 := 1, w2 := 2, w3 := 3 } })) FM_MSTAT_IDLE (inst 1) 0), by decide⟩,
    ⟨1, wUp (fun h => setF (setF (setF (setF (onFmt h 1 (fun k => { k with savedFlags := 1 })) FM_MSTAT_IDLE (inst 1) 0) FM_MSTAT_IACT (inst 1) 1) FM_MSTAT_ILEV (inst 1) 2) FM_IRET_VALUE (inst 1) 0x55), by decide⟩,
    ⟨1, wUp (fun h => setF (setF (onFmt h 1 (fun k => { k with running := some { opc := 1, src := true, tag := 9, w1 := 1, w2 := 2, w3 := 3 }, patch := [(0, some 9096682372397387498909803585994752)] })) FM_MSTAT_IDLE (inst 1) 0) FM_MSTAT_PC (inst 1) 0x2000), by decide⟩,
    ⟨1, 2, wUp (fun h => setF (onFmt h 1 (fun k => { k with copied := true })) FM_INT_PEND (inst 1) 4), by decide⟩,
    ⟨1, 9, { opc := 1, src := false, tag := 9, w1 := 1, w2 := 2, w3 := 3 }, wUp (fun h => onFmt h 1 (fun k => { k with queue := [{ opc := 1, src := false, tag := 9, w1 := 1, w2 := 2, w3 := 3 }] })), by decide⟩,
    ⟨1, 9, { opc := 1, src := false, tag := 9, w1 := 1, w2 := 2, w3 := 3 }, wUp (fun h => onFmt h 1 (fun k => { k with running := some { opc := 1, src := false, tag := 9, w1 := 1, w2 := 2, w3 := 3 } })), by decide⟩,
    ⟨1, wUp id, by decide⟩,
    ⟨1, wUp id, by decide⟩,
    ⟨1, wUp id, by decide⟩,
    ⟨1, wUp (fun h => setF h FM_MCTL_RUN (inst 1) 1), by decide⟩,
    ⟨1, wUp (fun h => setF h FM_PSTAT_STATE (inst 1) 1), by decide⟩,
    ⟨1, 5, false, wUp (fun h => setF (setF (onBoot h (fun b => { b with patchFails := [(1, 1)] })) FM_PSTAT_STATE (inst 1) 1) PW_BOOT_STAGE 0 6), by decide⟩,
    ⟨1, wUp (fun h => setF (onFmt h 1 (fun k => { k with running := some { opc := 1, src := true, tag := 9, w1 := 1, w2 := 2, w3 := 3 }, queue := [{ opc := 1, src := false, tag := 9, w1 := 1, w2 := 2, w3 := 3 }] })) FM_MSTAT_IDLE (inst 1) 0), by decide⟩⟩

/-- What `Obligations.ServoSamplesAndSeeksComplete` assumes can be met, clause by clause. -/
theorem witness_ServoSamplesAndSeeksComplete :
    (∃ (c : Nat) (w : ServoWedge) (s : State), midUp s.hw c = true ∧ flagF s.hw SV_STAT_LOCK (inst c) = false ∧ svState s.hw c ≠ svCoast ∧ (samFound false w.readerA || samFound false w.readerB) = true ∧ (ch s.hw c).cur = none ∧ 0 < w.period ∧ w.period < 2 ^ 24 ∧ (sv s.hw c).due = none) ∧
    (∃ (c : Nat) (w : ServoWedge) (s : State), midUp s.hw c = true ∧ flagF s.hw SV_STAT_LOCK (inst c) = true ∧ svState s.hw c = svFollow ∧ readerDecoded true w.readerA = false ∧ readerDecoded true w.readerB = false) ∧
    (∃ (c : Nat) (s : State), midUp s.hw c = true ∧ 8 ≤ (sv s.hw c).lockCount ∧ flagF s.hw SV_STAT_LOCK (inst c) = false ∧ svState s.hw c = svSearch ∧ (sv s.hw c).held = none) ∧
    (∃ (c : Nat) (s : State), flagF s.hw SV_STAT_LOCK (inst c) = true ∧ 4 ≤ getF s.hw SV_STAT_MISS (inst c) ∧ svState s.hw c ≠ svParked ∧ svState s.hw c ≠ svOff ∧ c < 4) ∧
    (∃ (c : Nat) (s : State), flagF s.hw SV_STAT_LOCK (inst c) = true ∧ 4 ≤ getF s.hw SV_STAT_MISS (inst c) ∧ (svState s.hw c = svParked ∨ svState s.hw c = svOff) ∧ c < 4) ∧
    (∃ (c : Nat) (s : State), svState s.hw c = svCoast ∧ 16 ≤ (sv s.hw c).coast ∧ (sv s.hw c).lockCount < 8 ∧ headsOut s.hw c = true ∧ c < 4) ∧
    (∃ (c : Nat) (s : State), midUp s.hw c = true ∧ flagF s.hw FM_MCTL_RUN (inst c) = true) ∧
    (∃ (c : Nat) (data : Nat) (s : State), midUp s.hw c = true ∧ flagF s.hw FM_MCTL_RUN (inst c) = false ∧ bits 31 29 data < headsPer s.hw ∧ fenced s.hw (servoHead c (bits 31 29 data)) = false ∧ bits 23 0 data < tracksOf s.hw c (bits 31 29 data) ∧ svState s.hw c = svFollow) ∧
    (∃ (c : Nat) (s : State), svState s.hw c = svSeek ∧ (sv s.hw c).planned = false ∧ (sv s.hw c).switching = none ∧ (sv s.hw c).newHead = false ∧ c < 4) ∧
    (∃ (c : Nat) (px : Int) (s : State), (sv s.hw c).due = some px ∧ svState s.hw c = svSeek ∧ (sv s.hw c).held = none ∧ c < 4) ∧
    (∃ (c : Nat) (s : State), svState s.hw c = svSettle ∧ nset s.hw c ≤ (sv s.hw c).settled ∧ selHead s.hw c = getF s.hw SV_TGT_HEAD (inst c) ∧ (sv s.hw c).held = none ∧ c < 4) ∧
    (∃ (c : Nat) (s : State), seekFailed s.hw c = true ∧ (sv s.hw c).failedOnce = false ∧ c < 4) ∧
    (∃ (c : Nat) (s : State), seekFailed s.hw c = true ∧ (sv s.hw c).failedOnce = true ∧ c < 4) ∧
    (∃ (c : Nat) (hd : Nat) (s : State), (sv s.hw c).switching = some hd ∧ (sv s.hw c).frameQueued = false ∧ (car s.hw c).fmt.sif = [] ∧ c < 4) ∧
    (∃ (c : Nat) (lam : Nat) (m : SMap Nat) (s : State), (sv s.hw c).shadow = some (lam, m) ∧ c < 4) ∧
    (∃ (c : Nat) (data : Nat) (s : State), midUp s.hw c = true ∧ bitAt data 31 = true ∧ bits 9 6 data ≤ 8 ∧ (sv s.hw c).caddr = some (bits 9 6 data) ∧ bankOk (sv s.hw c) (bits 9 6 data) = true) ∧
    (∃ (c : Nat) (data : Nat) (s : State), midUp s.hw c = true ∧ bitAt data 31 = true ∧ bits 9 6 data ≤ 8 ∧ (sv s.hw c).caddr = some (bits 9 6 data) ∧ bankOk (sv s.hw c) (bits 9 6 data) = false) ∧
    (∃ (c : Nat) (s : State), midUp s.hw c = true ∧ (sv s.hw c).leaving = true ∧ svState s.hw c = svOff ∧ selHead s.hw c < 6) ∧
    (∃ (c : Nat) (s : State), (unit s.hw (carPath c 0x2F0)).busy = true ∧ 1 ≤ getF s.hw AC_STAT_STATE (inst c) ∧ getF s.hw AC_STAT_STATE (inst c) ≤ 3 ∧ c < 4) :=
  ⟨⟨1, { readerA := { samBits := 0xE2935B, samAt := 0, tS := 0, crossA := [], crossB := [], idBits := 0, a1 := 1, a3 := 1 }, readerB := { samBits := 0, samAt := 0, tS := 0, crossA := [], crossB := [], idBits := 0, a1 := 1, a3 := 1 }, period := 833333, age := 100 }, wUp (fun h => setF (h) SV_STAT_STATE (inst 1) svSearch), by decide⟩,
    ⟨1, { readerA := { samBits := 0, samAt := 0, tS := 0, crossA := [], crossB := [], idBits := 0, a1 := 1, a3 := 1 }, readerB := { samBits := 0, samAt := 0, tS := 0, crossA := [], crossB := [], idBits := 0, a1 := 1, a3 := 1 }, period := 0, age := 100 }, wUp (fun h => setF (setF (h) SV_STAT_STATE (inst 1) svFollow) SV_STAT_LOCK (inst 1) 1), by decide⟩,
    ⟨1, wUp (fun h => onServo (setF (h) SV_STAT_STATE (inst 1) svSearch) 1 (fun v => { v with lockCount := 8, searchPos := 5120 })), by decide⟩,
    ⟨1, wUp (fun h => setF (setF (setF (h) SV_STAT_STATE (inst 1) svFollow) SV_STAT_LOCK (inst 1) 1) SV_STAT_MISS (inst 1) 4), by decide⟩,
    ⟨1, wUp (fun h => setF (setF h SV_STAT_LOCK (inst 1) 1) SV_STAT_MISS (inst 1) 4), by decide⟩,
    ⟨1, wUp (fun h => onServo (setF (setF (h) SV_STAT_STATE (inst 1) svCoast) AC_STAT_STATE (inst 1) 2) 1 (fun v => { v with coast := 16 })), by decide⟩,
    ⟨1, wUp (fun h => setF h FM_MCTL_RUN (inst 1) 1), by decide⟩,
    ⟨1, 0x40000009, wUp (fun h => setLive (setF (h) SV_STAT_STATE (inst 1) svFollow) (servoHead 1 2) 0x010 0 500), by decide⟩,
    ⟨1, wUp (fun h => setF (h) SV_STAT_STATE (inst 1) svSeek), by decide⟩,
    ⟨1, 100, wUp (fun h => onServo (setF (h) SV_STAT_STATE (inst 1) svSeek) 1 (fun v => { v with due := some 100 })), by decide⟩,
    ⟨1, wUp (fun h => onServo (setF (setF (h) SV_STAT_STATE (inst 1) svSettle) SV_TGT_HEAD (inst 1) 7) 1 (fun v => { v with settled := 50 })), by decide⟩,
    ⟨1, wUp (fun h => onServo (setF (h) SV_STAT_STATE (inst 1) svSeek) 1 (fun v => { v with stood := 64 })), by decide⟩,
    ⟨1, wUp (fun h => onServo (setF (h) SV_STAT_STATE (inst 1) svSeek) 1 (fun v => { v with stood := 64, failedOnce := true })), by decide⟩,
    ⟨1, 3, wUp (fun h => onServo (h) 1 (fun v => { v with switching := some 3 })), by decide⟩,
    ⟨1, 64, [(0, 5)], wUp (fun h => onServo (h) 1 (fun v => { v with shadow := some (64, [(0, 5)]) })), by decide⟩,
    ⟨1, 0x80000040, wUp (fun h => onServo (h) 1 (fun v => { v with caddr := some 1, staging := [(67, 100), (68, 536870912), (73, 536870912), (78, 536870912), (83, 536870912), (89, 536870912)] })), by decide +kernel⟩,
    ⟨1, 0x80000040, wUp (fun h => onServo (h) 1 (fun v => { v with caddr := some 1 })), by decide +kernel⟩,
    ⟨1, wUp (fun h => onServo (setF (setF h FM_SQSTAT_SELHEAD (inst 1) 2) SV_STAT_HEAD (inst 1) 2) 1 (fun v => { v with leaving := true })), by decide⟩,
    ⟨1, wUp (fun h => onUnit (setF h AC_STAT_STATE (inst 1) 2) (carPath 1 0x2F0) (fun x => { x with busy := true })), by decide⟩⟩

/-- What `Obligations.ServoLearningCompletes` assumes can be met, clause by clause. -/
theorem witness_ServoLearningCompletes :
    (∃ (c : Nat) (s : State), 640 ≤ (sv s.hw c).revCount ∧ flagF s.hw SV_RC_ARM (inst c) = true ∧ (sv s.hw c).rpmSum = 0 ∧ 1 ≤ getF s.hw SV_RC_NR (inst c) ∧ c < 4) ∧
    (∃ (c : Nat) (s : State), 640 ≤ (sv s.hw c).revCount ∧ flagF s.hw SV_RC_ARM (inst c) = true ∧ (sv s.hw c).rpmSum = 0 ∧ getF s.hw SV_RC_NR (inst c) = 0 ∧ c < 4) ∧
    (∃ (c : Nat) (w : Nat) (s : State), (sv s.hw c).rcDue = true ∧ runOpen s.hw c = false ∧ writeSideFree s.hw c = true ∧ w < 640 ∧ c < 4) ∧
    (∃ (c : Nat) (hd : Nat) (s : State), midUp s.hw c = true ∧ headExists s.hw hd = true ∧ bandsEnabled s.hw c hd = true ∧ flagF s.hw SV_HBCTL_RDEN (svHead c hd) = true ∧ flagF s.hw SV_HBCTL_WREN (svHead c hd) = false ∧ flagF s.hw SV_HBCTL_LBEN (svHead c hd) = false ∧ 2 ^ getF s.hw SV_HBCTL_NBS (svHead c hd) ≤ (bandOf s.hw c hd).rdCount) ∧
    (∃ (c : Nat) (hd : Nat) (lvl : Nat) (s : State), (bandOf s.hw c hd).stepDue = some lvl ∧ headExists s.hw hd = true ∧ runOpen s.hw c = false ∧ (car s.hw c).fmt.sif = [] ∧ c < 4) ∧
    (∃ (c : Nat) (hd : Nat) (s : State), headExists s.hw hd = true ∧ flagF s.hw SV_HBCTL_APPLY (svHead c hd) = true ∧ runOpen s.hw c = false ∧ writeSideFree s.hw c = true ∧ flagF s.hw SV_HBCTL_PWV (svHead c hd) = true ∧ flagF s.hw SV_HBCTL_PLV (svHead c hd) = false ∧ c < 4) :=
  ⟨⟨1, wUp (fun h => onServo (setF (setF h SV_RC_ARM (inst 1) 1) SV_RC_NR (inst 1) 2) 1 (fun v => { v with revCount := 640, rev := [(3, 5)] })), by decide⟩,
    ⟨1, wUp (fun h => onServo (setF (setF h SV_RC_ARM (inst 1) 1) SV_RC_NR (inst 1) 0) 1 (fun v => { v with revCount := 640 })), by decide⟩,
    ⟨1, 7, wUp (fun h => onServo (h) 1 (fun v => { v with rcDue := true, candidate := [(7, 99)] })), by decide⟩,
    ⟨1, 2, wUp (fun h => onBand (setF (setF h SV_HBLIM_HMAX (svHead 1 2) 200) SV_HBCTL_RDEN (svHead 1 2) 1) 1 2 (fun b => { b with rdCount := 2 ^ 15, rdSum := 5 })), by decide⟩,
    ⟨1, 2, 77, wUp (fun h => onBand h 1 2 (fun b => { b with stepDue := some 77 })), by decide⟩,
    ⟨1, 2, wUp (fun h => setF (setF (setF h SV_HBCTL_APPLY (svHead 1 2) 1) SV_HBCTL_PWV (svHead 1 2) 1) SV_HBCTL_PHTRW (svHead 1 2) 77), by decide⟩⟩

/-- What `Obligations.SpindleComplete` assumes can be met, clause by clause. -/
theorem witness_SpindleComplete :
    (∃ (s : State), domainUp s.hw 21 = true ∧ s.hw.spindle.loops = false ∧ s.hw.spindle.holdUp = false) ∧
    (∃ (s : State), domainUp s.hw 21 = true ∧ s.hw.spindle.loops = true ∧ s.hw.spindle.holdUp = false ∧ getF s.hw SP_STAT_CSRC 0 = 1 ∧ spState s.hw ≠ spAligning ∧ spState s.hw ≠ spOpenLoop) ∧
    (∃ (s : State), s.hw.spindle.loops = true ∧ 64 ≤ s.hw.spindle.epsCount ∧ s.hw.spindle.locked = false ∧ s.hw.spindle.good < 3) ∧
    (∃ (s : State), spState s.hw = spRunning ∧ s.hw.spindle.loops = true ∧ flagF s.hw SP_STAT_VCLAMP 0 = false ∧ getF s.hw SP_VBUS_V12 0 < getF s.hw SP_HU_VBRK 0) ∧
    (∃ (c : Nat) (s : State), populated s.hw c = true ∧ carFenced s.hw c = false) ∧
    (∃ (c : Nat) (s : State), spState s.hw = spRunning ∧ flagF s.hw SP_CTL_GOV 0 = true ∧ populated s.hw c = true ∧ carFenced s.hw c = false ∧ 10 * getF s.hw SP_GOV_UHI 0 ≤ zget s.hw.spindle.busy c) ∧
    (∃ (s : State), spState s.hw = spStopped ∧ 0 ≤ getS s.hw TH_TEMP_TEMP (inst 5) ∧ flagF s.hw SP_PSTAT_PLOSS 0 = false ∧ spindleBarred s.hw = false ∧ senseOffset s.hw = false) ∧
    (∃ (s : State), spState s.hw = spStopped ∧ 0 ≤ getS s.hw TH_TEMP_TEMP (inst 5) ∧ flagF s.hw SP_PSTAT_PLOSS 0 = false ∧ spindleBarred s.hw = false ∧ senseOffset s.hw = true) ∧
    (∃ (s : State), flagF s.hw SP_PSTAT_PLOSS 0 = true) ∧
    (∃ (s : State), spindleBarred s.hw = true) ∧
    (∃ (s : State), drivesParked s.hw = true ∧ spState s.hw = spRunning) ∧
    (∃ (s : State), drivesParked s.hw = false) ∧
    (∃ (s : State), drivesParked s.hw = true ∧ spState s.hw = spRunning) ∧
    (∃ (s : State), drivesParked s.hw = false) ∧
    (∃ (s : State), spState s.hw = spMeasuring ∧ s.hw.spindle.seeded = false ∧ 4000 ≤ s.hw.spindle.inState ∧ s.hw.spindle.stopping = false) ∧
    (∃ (l : List (Nat × Rat)) (s : State), spState s.hw = spMeasuring ∧ s.hw.spindle.seeded = false ∧ 4000 ≤ s.hw.spindle.inState ∧ 300 < (crossingRpm s.hw l).getD 0) ∧
    (∃ (l : List (Nat × Rat)) (s : State), spState s.hw = spMeasuring ∧ s.hw.spindle.seeded = false ∧ 4000 ≤ s.hw.spindle.inState ∧ l ≠ [] ∧ crossingRpm s.hw l = none ∧ s.hw.spindle.stopping = false) ∧
    (∃ (s : State), spState s.hw = spAligning ∧ 200 * (motor s.hw).talign ≤ s.hw.spindle.inState) ∧
    (∃ (s : State), spState s.hw = spOpenLoop ∧ s.hw.spindle.ref = 300 ∧ s.hw.spindle.await = false) ∧
    (∃ (s : State), attemptFailed s.hw = true ∧ getF s.hw SP_STAT_ATTEMPT 0 < 3) ∧
    (∃ (s : State), attemptFailed s.hw = true ∧ 3 ≤ getF s.hw SP_STAT_ATTEMPT 0 ∧ inBringUp s.hw = false) ∧
    (∃ (s : State), spState s.hw = spAccelerating ∧ s.hw.spindle.ref = (goalRate s.hw).1 ∧ getF s.hw PW_BOOT_STAGE 0 ≠ 0x09) ∧
    (∃ (s : State), spState s.hw = spBraking ∧ brakingOver s.hw = true ∧ s.hw.spindle.brakeThenAlign = false) ∧
    (∃ (s : State), spState s.hw = spBraking ∧ brakingOver s.hw = true ∧ s.hw.spindle.brakeThenAlign = true) ∧
    (∃ (s : State), spState s.hw = spCoasting ∧ 100000 ≤ s.hw.spindle.inState ∧ s.hw.spindle.retry = false) ∧
    (∃ (s : State), spState s.hw = spCoasting ∧ 100000 ≤ s.hw.spindle.inState ∧ s.hw.spindle.retry = true ∧ getF s.hw SP_STAT_ATTEMPT 0 < 15) ∧
    (∃ (s : State), spState s.hw = spCoasting ∧ s.hw.spindle.loops = false ∧ s.hw.spindle.checkDue = true) ∧
    (∃ (s : State), s.hw.spindle.checkDue = true) ∧
    (∃ (s : State), s.hw.spindle.loops = true ∧ s.hw.spindle.locked = false ∧ getF s.hw SP_STAT_CSRC 0 = 1 ∧ headsLoaded s.hw = true ∧ wedgeAvailable s.hw = true ∧ flagF s.hw SP_CTL_WFBEN 0 = true) ∧
    (∃ (l : List (Nat × Rat)) (s : State), spState s.hw = spCoasting ∧ s.hw.spindle.recatch = true ∧ s.hw.spindle.seeded = false ∧ turnsAgree l = true ∧ (crossingRpm s.hw l).isSome = true ∧ 300 ≤ absR ((crossingRpm s.hw l).getD 0)) ∧
    (∃ (s : State), spState s.hw = spCoasting ∧ s.hw.spindle.recatch = true ∧ 200000 ≤ s.hw.spindle.inState) ∧
    (∃ (c : Nat), c < 4) ∧
    (∃ (c : Nat) (s : State), c < 4 ∧ flagF s.hw SP_ECAL_START (4 * c) = true ∧ getF s.hw SP_ECAL_COUNT (4 * c) = 640 ∧ ecalGood s.hw = true) ∧
    (∃ (c : Nat) (s : State), c < 4 ∧ flagF s.hw SP_ECAL_START (4 * c) = true ∧ getF s.hw SP_ECAL_COUNT (4 * c) = 640 ∧ ecalGood s.hw = false) ∧
    (∃ (v12 : Nat) (c : Nat) (s : State), domainUp s.hw 23 = true ∧ flagF s.hw SP_PSTAT_PLOSS 0 = false ∧ v12 < getF s.hw SP_PLTH_PL12 0 ∧ populated s.hw c = true) ∧
    (∃ (v12 : Nat) (v5 : Nat) (s : State), domainUp s.hw 23 = true ∧ flagF s.hw SP_PSTAT_PLOSS 0 = false ∧ getF s.hw SP_PLTH_PL12 0 ≤ v12 ∧ v5 < getF s.hw SP_PLTH_PL5 0) ∧
    (∃ (s : State), s.hw.spindle.holdUp = true ∧ drivesParked s.hw = true ∧ s.hw.boot.fallRetract = false ∧ s.hw.island.tripHoldUp = false ∧ spState s.hw = spHoldUp) ∧
    (∃ (s : State), s.hw.spindle.holdUp = true ∧ drivesParked s.hw = false ∧ absR (speedNow s.hw) < 600 ∧ s.hw.spindle.holdFailed = false) ∧
    (∃ (c : Nat) (v12 : Nat) (v5 : Nat) (s : State), domainUp s.hw 23 = true ∧ 11400 ≤ v12 ∧ 4750 ≤ v5 ∧ flagF s.hw SP_PSTAT_PLOSS 0 = true ∧ s.hw.spindle.holdUp = false ∧ s.hw.pins.resetIn = true ∧ getF s.hw PW_BOOT_STAGE 0 < 9 ∧ populated s.hw c = true ∧ getF s.hw TH_TEMP_ZONE (inst (c + 1)) < 3) ∧
    (∃ (s : State), s.hw.spindle.loops = true ∧ 2 ≤ s.hw.spindle.ocur) ∧
    (∃ (v12 : Nat) (s : State), domainUp s.hw 23 = true ∧ 15000 < v12) :=
  ⟨⟨wUp id, by decide⟩,
    ⟨wUp (fun h => onSpindle (setF (setF h SP_STAT_CSRC 0 1) SP_STAT_STATE 0 5) (fun p => { p with loops := true })), by decide⟩,
    ⟨wUp (fun h => onSpindle (setF (h) SP_STAT_STATE 0 5) (fun p => { p with loops := true, epsCount := 64 })), by decide⟩,
    ⟨wUp (fun h => onSpindle (setF (h) SP_STAT_STATE 0 5) (fun p => { p with loops := true, ref := 5000 })), by decide⟩,
    ⟨1, wUp id, by decide⟩,
    ⟨1, wUp (fun h => onSpindle (setF (setF h SP_CTL_GOV 0 1) SP_STAT_STATE 0 5) (fun p => { p with busy := [(1, 1000)] })), by decide⟩,
    ⟨wUp (fun h => setF (setF h TH_TEMP_TEMP (inst 5) 200) SP_STAT_STATE 0 0), by decide +kernel⟩,
    ⟨wUp (fun h => onSpindle (setF (setF h TH_TEMP_TEMP (inst 5) 200) SP_STAT_STATE 0 0) (fun p => { p with iU := 1000000 })), by decide +kernel⟩,
    ⟨wUp (fun h => setF h SP_PSTAT_PLOSS 0 1), by decide⟩,
    ⟨wUp (fun h => { h with boot := { h.boot with coldGate := true } }), by decide⟩,
    ⟨wUp (fun h => setF (h) SP_STAT_STATE 0 5), by decide⟩,
    ⟨wUp (fun h => setF (h) AC_STAT_STATE (inst 1) 2), by decide⟩,
    ⟨wUp (fun h => setF (h) SP_STAT_STATE 0 5), by decide⟩,
    ⟨wUp (fun h => setF (h) AC_STAT_STATE (inst 1) 2), by decide⟩,
    ⟨wUp (fun h => onSpindle (setF (h) SP_STAT_STATE 0 1) (fun p => { p with inState := 4000 })), by decide⟩,
    ⟨[(0, 0), (1, 1000000), (2, 2000000)], wUp (fun h => onSpindle (setF (h) SP_STAT_STATE 0 1) (fun p => { p with inState := 4000 })), by decide +kernel⟩,
    ⟨[(0, 0)], wUp (fun h => onSpindle (setF (h) SP_STAT_STATE 0 1) (fun p => { p with inState := 4000 })), by decide +kernel⟩,
    ⟨wUp (fun h => onSpindle (setF (h) SP_STAT_STATE 0 2) (fun p => { p with inState := 1000000 })), by decide +kernel⟩,
    ⟨wUp (fun h => onSpindle (setF (h) SP_STAT_STATE 0 3) (fun p => { p with ref := 300 })), by decide⟩,
    ⟨wUp (fun h => onSpindle (setF (h) SP_STAT_STATE 0 3) (fun p => { p with await := true, waited := 100000 })), by decide⟩,
    ⟨wUp (fun h => { onSpindle (setF (setF h SP_STAT_ATTEMPT 0 3) SP_STAT_STATE 0 3) (fun p => { p with await := true, waited := 100000 }) with boot := { h.boot with mediaMs := 9000 } }), by decide⟩,
    ⟨wUp (fun h => onSpindle (setF (h) SP_STAT_STATE 0 4) (fun p => { p with ref := 3600 })), by decide +kernel⟩,
    ⟨wUp (fun h => onSpindle (setF (h) SP_STAT_STATE 0 7) (fun p => { p with quiet := 40000 })), by decide⟩,
    ⟨wUp (fun h => onSpindle (setF (h) SP_STAT_STATE 0 7) (fun p => { p with brakeThenAlign := true, quiet := 40000 })), by decide⟩,
    ⟨wUp (fun h => onSpindle (setF (h) SP_STAT_STATE 0 8) (fun p => { p with inState := 100000 })), by decide⟩,
    ⟨wUp (fun h => onSpindle (setF (h) SP_STAT_STATE 0 8) (fun p => { p with retry := true, inState := 100000 })), by decide⟩,
    ⟨wUp (fun h => onSpindle (setF (h) SP_STAT_STATE 0 8) (fun p => { p with checkDue := true })), by decide⟩,
    ⟨wUp (fun h => onSpindle (setF (h) SP_STAT_STATE 0 8) (fun p => { p with checkDue := true })), by decide⟩,
    ⟨wUp (fun h => onSpindle (setF (setF (setF (setF (h) AC_STAT_STATE (inst 1) 2) SP_STAT_CSRC 0 1) SP_CTL_WFBEN 0 1) SP_STAT_STATE 0 5) (fun p => { p with loops := true, last := [(1, { flags := 6, period := 833333 })] })), by decide +kernel⟩,
    ⟨(List.range 13).map (fun (k : Nat) => ((k, (k : Rat) * 1000000) : Nat × Rat)), wUp (fun h => onSpindle (setF (h) SP_STAT_STATE 0 8) (fun p => { p with recatch := true })), by decide +kernel⟩,
    ⟨wUp (fun h => onSpindle (setF (h) SP_STAT_STATE 0 8) (fun p => { p with recatch := true, inState := 200000 })), by decide⟩,
    ⟨1, by decide⟩,
    ⟨1, wUp (fun h => setF (setF (setF (setF h SP_ECAL_START 4 1) SP_ECAL_COUNT 4 640) SP_STAT_CSRC 0 1) SP_STAT_CONF 0 210), by decide⟩,
    ⟨1, wUp (fun h => setF (setF h SP_ECAL_START 4 1) SP_ECAL_COUNT 4 640), by decide⟩,
    ⟨0, 1, wUp (fun h => setF (h) AC_STAT_STATE (inst 1) 2), by decide⟩,
    ⟨12000, 0, wUp id, by decide⟩,
    ⟨wUp (fun h => onSpindle (setF (h) SP_STAT_STATE 0 9) (fun p => { p with holdUp := true })), by decide⟩,
    ⟨wUp (fun h => onSpindle (setF (setF (h) AC_STAT_STATE (inst 1) 2) SP_STAT_STATE 0 9) (fun p => { p with holdUp := true })), by decide +kernel⟩,
    ⟨1, 12000, 5000, wUp (fun h => setF h SP_PSTAT_PLOSS 0 1), by decide⟩,
    ⟨wUp (fun h => onSpindle (setF (h) SP_STAT_STATE 0 5) (fun p => { p with loops := true, ocur := 2 })), by decide⟩,
    ⟨16000, wUp (fun h => onSpindle (setF (h) SP_STAT_STATE 0 5) (fun p => { p with loops := true })), by decide⟩⟩

/-- What `Obligations.ActuatorComplete` assumes can be met, clause by clause. -/
theorem witness_ActuatorComplete :
    (∃ (c : Nat) (flags : Nat) (s : State), populated s.hw c = true ∧ domainUp s.hw 22 = true ∧ acState s.hw c = 2 ∧ sbRetract flags = false ∧ sbCmdv flags = true) ∧
    (∃ (c : Nat) (flags : Nat) (s : State), populated s.hw c = true ∧ domainUp s.hw 22 = true ∧ acState s.hw c = 1 ∧ (s.hw.drives.get c).profile = .none ∧ sbRetract flags = false ∧ sbCmdv flags = true ∧ getF s.hw PW_BOOT_STAGE 0 ≠ 0x0A) ∧
    (∃ (c : Nat) (s : State), populated s.hw c = true ∧ acState s.hw c = 2 ∧ 200 ≤ (s.hw.drives.get c).offFor) ∧
    (∃ (c : Nat) (s : State), populated s.hw c = true ∧ acState s.hw c = 2 ∧ sidebandDown s.hw c = true) ∧
    (∃ (c : Nat) (s : State), acState s.hw c = 3 ∧ 16 ≤ (s.hw.drives.get c).holding ∧ c < 4) ∧
    (∃ (c : Nat) (s : State), populated s.hw c = true ∧ acState s.hw c = 0 ∧ loadSpeed s.hw = true ∧ s.hw.pins.prsntDebounced = false ∧ loadTurn s.hw c = true) ∧
    (∃ (c : Nat) (s : State), populated s.hw c = true ∧ acState s.hw c ≠ 0) ∧
    (∃ (c : Nat) (s : State), acState s.hw c = 2 ∧ c < 4) ∧
    (∃ (c : Nat) (s : State), acState s.hw c = 2 ∧ c < 4) ∧
    (∃ (c : Nat) (s : State), (s.hw.drives.get c).profile = .load ∧ (s.hw.drives.get c).phase = 2 ∧ 200 * phaseTime s.hw c ≤ (s.hw.drives.get c).age ∧ c < 4) ∧
    (∃ (c : Nat) (s : State), (s.hw.drives.get c).profile = .retract ∧ (s.hw.drives.get c).phase = 2 ∧ 200 * phaseTime s.hw c ≤ (s.hw.drives.get c).age ∧ s.hw.boot.removal = Removal.none ∧ s.hw.boot.thermalHold = false ∧ s.hw.island.tripHoldUp = false ∧ c < 4) ∧
    (∃ (c : Nat) (s : State), acState s.hw c = 1 ∧ 2 ≤ (s.hw.drives.get c).turned ∧ c < 4) :=
  ⟨⟨1, 0x13, wUp (fun h => setF (h) AC_STAT_STATE (inst 1) 2), by decide⟩,
    ⟨1, 0x13, wUp (fun h => setF (h) AC_STAT_STATE (inst 1) 1), by decide⟩,
    ⟨1, wUp (fun h => onDrive (setF (h) AC_STAT_STATE (inst 1) 2) 1 (fun d => { d with offFor := 200 })), by decide⟩,
    ⟨1, wUp (fun h => { setF (h) AC_STAT_STATE (inst 1) 2 with links := [(6, { state := 2 })] }), by decide⟩,
    ⟨1, wUp (fun h => onDrive (setF (h) AC_STAT_STATE (inst 1) 3) 1 (fun d => { d with holding := 16 })), by decide⟩,
    ⟨1, wUp (fun h => onSpindle (setF (setF h SP_STAT_CSRC 0 1) SP_STAT_STATE 0 5) (fun p => { p with obsRpm := 3600 })), by decide +kernel⟩,
    ⟨1, wUp (fun h => setF (h) AC_STAT_STATE (inst 1) 2), by decide⟩,
    ⟨1, wUp (fun h => setF (h) AC_STAT_STATE (inst 1) 2), by decide⟩,
    ⟨1, wUp (fun h => setF (h) AC_STAT_STATE (inst 1) 2), by decide⟩,
    ⟨1, wUp (fun h => onDrive (setF (h) AC_STAT_STATE (inst 1) 1) 1 (fun d => { d with profile := .load, phase := 2, age := 1000000 })), by decide⟩,
    ⟨1, wUp (fun h => onDrive (setF (h) AC_STAT_STATE (inst 1) 5) 1 (fun d => { d with profile := .retract, phase := 2, age := 1000000 })), by decide⟩,
    ⟨1, wUp (fun h => onDrive (setF (h) AC_STAT_STATE (inst 1) 1) 1 (fun d => { d with turned := 2 })), by decide⟩⟩

/-- What `Obligations.LinkAndControllerControlComplete` assumes can be met, clause by clause. -/
theorem witness_LinkAndControllerControlComplete :
    (∃ (p : Nat) (s : State), p < 2 ∧ portExists s.hw p = true) ∧
    (∃ (p : Nat) (s : State), p < 2 ∧ portExists s.hw p = true) ∧
    (∃ (p : Nat) (speed : Nat) (width : Nat) (s : State), portExists s.hw p = true ∧ p < 2 ∧ (if p = 0 then s.hw.pins.perstA else s.hw.pins.perstB) = true ∧ domainOn s.hw (1 + p) = true ∧ 1 ≤ speed ∧ speed ≤ liveVal s.hw (linkLeaf p) 0x012 0 ∧ speed < 8 ∧ 1 ≤ width ∧ width ≤ 2) ∧
    (∃ (p : Nat) (s : State), p < 2 ∧ (port s.hw p).configured = true) ∧
    (∃ (p : Nat) (s : State), p < 2 ∧ (port s.hw p).en = true) ∧
    (∃ (p : Nat) (s : State), p < 2 ∧ (port s.hw p).configured = true ∧ (port s.hw p).en = false ∧ getF s.hw PW_BOOT_STAGE 0 = 0x0D) ∧
    (∃ (p : Nat) (s : State), (port s.hw p).configured = true ∧ (port s.hw p).en = false ∧ 7 ≤ getF s.hw PW_BOOT_STAGE 0 ∧ getF s.hw PW_BOOT_STAGE 0 ≠ 0x0D ∧ flagF s.hw PW_BOOT_HALT 0 = false) ∧
    (∃ (p : Nat) (s : State), (port s.hw p).configured = true ∧ (port s.hw p).en = false ∧ getF s.hw PW_BOOT_STAGE 0 < 7 ∧ flagF s.hw PW_BOOT_HALT 0 = false) ∧
    (∃ (p : Nat) (s : State), (port s.hw p).rdy = true ∧ s.hw.engine.cmds = [] ∧ (s.hw.twin.pairing = none ∨ s.hw.twin.port ≠ p)) ∧
    (∃ (p : Nat) (s : State), (port s.hw p).rdy = true ∧ mget featureDefault (port s.hw p).features 0x0C = 1 ∧ zget (port s.hw p).apst (port s.hw p).ps / 256 ≠ 0 ∧ bits 7 3 (zget (port s.hw p).apst (port s.hw p).ps) ≤ 4 ∧ zget (port s.hw p).apst (port s.hw p).ps / 256 ≤ (port s.hw p).idle ∧ s.hw.engine.cmds = []) ∧
    (∃ (s : State), s.hw.portA.rdy = false ∧ s.hw.portB.rdy = false ∧ 60000 ≤ s.hw.engine.unready) ∧
    (∃ (p : Nat) (s : State), (port s.hw p).rdy = true ∧ 3 ≤ (port s.hw p).ps) :=
  ⟨⟨1, wUp (fun h => onPort (h) 1 (fun x => { x with rdy := true, en := true, configured := true })), by decide⟩,
    ⟨1, wUp id, by decide⟩,
    ⟨1, 3, 2, wUp (fun h => setLive (onPins h (fun x => { x with perstB := true })) (linkLeaf 1) 0x012 0 4), by decide⟩,
    ⟨1, wUp (fun h => onPort (h) 1 (fun x => { x with rdy := true, en := true, configured := true })), by decide⟩,
    ⟨1, wUp (fun h => onPort (h) 1 (fun x => { x with rdy := true, en := true, configured := true })), by decide⟩,
    ⟨1, wUp (fun h => setF (onPort (h) 1 (fun x => { x with configured := true })) PW_BOOT_STAGE 0 0x0D), by decide⟩,
    ⟨1, wUp (fun h => setF (onPort (h) 1 (fun x => { x with configured := true })) PW_BOOT_STAGE 0 0x0C), by decide⟩,
    ⟨1, wUp (fun h => onPort (h) 1 (fun x => { x with configured := true })), by decide⟩,
    ⟨1, wUp (fun h => onPort (h) 1 (fun x => { x with rdy := true, en := true, configured := true })), by decide⟩,
    ⟨1, wUp (fun h => onPort (h) 1 (fun x => { x with rdy := true, en := true, configured := true, features := [(0x0C, 1)], apst := [(0, 0x6418)], idle := 100 })), by decide⟩,
    ⟨wUp (fun h => onEngine h (fun g => { g with unready := 60000 })), by decide⟩,
    ⟨1, wUp (fun h => onPort (h) 1 (fun x => { x with rdy := true, en := true, configured := true, ps := 4, lastOp := 1 })), by decide⟩⟩

/-- What `Obligations.AdminCommandsComplete` assumes can be met, clause by clause. -/
theorem witness_AdminCommandsComplete :
    (∃ (p : Nat) (qid : Nat) (size : Nat) (vector : Nat) (s : State), adminUp s.hw p = true ∧ 1 ≤ qid ∧ qid ≤ 64 ∧ oget (port s.hw p).cqs qid = none ∧ 2 ≤ size ∧ size ≤ 1024 ∧ vector ≤ 64) ∧
    (∃ (p : Nat) (qid : Nat) (size : Nat) (cqid : Nat) (q : ComQ) (s : State), adminUp s.hw p = true ∧ 1 ≤ qid ∧ qid ≤ 64 ∧ oget (port s.hw p).sqs qid = none ∧ 2 ≤ size ∧ size ≤ 1024 ∧ 1 ≤ cqid ∧ oget (port s.hw p).cqs cqid = some q) ∧
    (∃ (p : Nat) (qid : Nat) (q : SubQ) (s : State), adminUp s.hw p = true ∧ 1 ≤ qid ∧ oget (port s.hw p).sqs qid = some q ∧ s.hw.engine.cmds = []) ∧
    (∃ (p : Nat) (qid : Nat) (q : ComQ) (s : State), adminUp s.hw p = true ∧ 1 ≤ qid ∧ oget (port s.hw p).cqs qid = some q ∧ (port s.hw p).sqs.any (fun (q : Nat × Option SubQ) => match q.2 with | some x => x.cq == qid && q.1 != 0 | none => false) = false) ∧
    (∃ (p : Nat) (qid : Nat) (q : ComQ) (s : State), adminUp s.hw p = true ∧ 1 ≤ qid ∧ oget (port s.hw p).cqs qid = some q ∧ (port s.hw p).sqs.any (fun (q : Nat × Option SubQ) => match q.2 with | some x => x.cq == qid && q.1 != 0 | none => false) = true) ∧
    (∃ (p : Nat) (nsid : Nat) (s : State), adminUp s.hw p = true ∧ 1 ≤ nsid ∧ nsid ≤ 128 ∧ (attachedTo s.hw p).contains nsid = true ∧ lget s.hw.cipher.history nsid = []) ∧
    (∃ (p : Nat) (nsid : Nat) (s : State), adminUp s.hw p = true ∧ nsid ≠ 0xFFFFFFFF) ∧
    (∃ (p : Nat) (s : State), adminUp s.hw p = true ∧ s.hw.engine.spaces = []) ∧
    (∃ (p : Nat) (nsid : Nat) (s : State), adminUp s.hw p = true ∧ ((nsid = 0 ∨ (128 < nsid ∧ nsid ≠ 0xFFFFFFFF)))) ∧
    (∃ (p : Nat) (sq : Nat) (s : State), adminUp s.hw p = true ∧ (port s.hw p).aborts.length < 4 ∧ sq ≠ 0 ∧ s.hw.engine.cmds = []) ∧
    (∃ (p : Nat) (cid : Nat) (sq : Nat) (tcid : Nat) (x : Cmd) (s : State), adminUp s.hw p = true ∧ (port s.hw p).aborts.length < 4 ∧ sq ≠ 0 ∧ s.hw.engine.cmds = [x] ∧ x.source = Source.host ∧ x.port = p ∧ x.sq = sq ∧ x.cid = tcid ∧ x.committed = none ∧ x.noPost = false ∧ x.verdict = none ∧ x.pieces = []) ∧
    (∃ (p : Nat) (fid : Nat) (s : State), adminUp s.hw p = true ∧ fid ∈ [0x01, 0x08, 0x0A, 0x0B, 0x81, 0x82]) ∧
    (∃ (p : Nat) (nsid : Nat) (s : State), adminUp s.hw p = true ∧ (space s.hw nsid).size ≠ 0 ∧ nsid ≠ 0xFFFFFFFF) ∧
    (∃ (p : Nat) (value : Nat) (s : State), adminUp s.hw p = true ∧ value % 2 ^ 16 ≤ 65) ∧
    (∃ (p : Nat) (value : Nat) (s : State), adminUp s.hw p = true ∧ value % 32 ≤ 4) ∧
    (∃ (p : Nat) (fid : Nat) (s : State), adminUp s.hw p = true ∧ featureIds.contains fid = false) ∧
    (∃ (p : Nat) (fid : Nat) (s : State), adminUp s.hw p = true ∧ featureIds.contains fid = true) ∧
    (∃ (p : Nat) (fid : Nat) (s : State), adminUp s.hw p = true ∧ fid ∈ [0x01, 0x05, 0x08, 0x09, 0x0A, 0x0B, 0x0C, 0x81, 0x82]) ∧
    (∃ (p : Nat) (s : State), adminUp s.hw p = true ∧ 8 ≤ (port s.hw p).aers.length) ∧
    (∃ (p : Nat) (s : State), adminUp s.hw p = true ∧ (port s.hw p).aers.length < 8 ∧ (port s.hw p).events = []) ∧
    (∃ (p : Nat) (e : Nat) (l : List Nat) (s : State), adminUp s.hw p = true ∧ (port s.hw p).aers.length < 8 ∧ (port s.hw p).events = e :: l) :=
  ⟨⟨1, 2, 64, 1, wUp (fun h => onPort (h) 1 (fun x => { x with rdy := true, en := true, configured := true })), by decide⟩,
    ⟨1, 2, 64, 5, { size := 8 }, wUp (fun h => onPort (h) 1 (fun x => { x with rdy := true, en := true, configured := true, cqs := [(5, some { size := 8 })] })), by decide⟩,
    ⟨1, 2, { cq := 1, size := 8 }, wUp (fun h => onPort (h) 1 (fun x => { x with rdy := true, en := true, configured := true, sqs := [(2, some { cq := 1, size := 8 })] })), by decide⟩,
    ⟨1, 2, { size := 8 }, wUp (fun h => onPort (h) 1 (fun x => { x with rdy := true, en := true, configured := true, cqs := [(2, some { size := 8 })] })), by decide⟩,
    ⟨1, 2, { size := 8 }, wUp (fun h => onPort (h) 1 (fun x => { x with rdy := true, en := true, configured := true, cqs := [(2, some { size := 8 })], sqs := [(3, some { cq := 2, size := 8 })] })), by decide⟩,
    ⟨1, 3, wUp (fun h => onSpace (onPort (h) 1 (fun x => { x with rdy := true, en := true, configured := true })) 3 (fun n => { n with size := 262144, attached := 2 })), by decide +kernel⟩,
    ⟨1, 3, wUp (fun h => onPort (h) 1 (fun x => { x with rdy := true, en := true, configured := true })), by decide⟩,
    ⟨1, wUp (fun h => onPort (h) 1 (fun x => { x with rdy := true, en := true, configured := true })), by decide⟩,
    ⟨1, 129, wUp (fun h => onPort (h) 1 (fun x => { x with rdy := true, en := true, configured := true })), by decide⟩,
    ⟨1, 2, wUp (fun h => onPort (h) 1 (fun x => { x with rdy := true, en := true, configured := true })), by decide⟩,
    ⟨1, 9, 2, 3, { slot := 0, isn := 0, port := 1, sq := 2, cid := 3, opc := 2, nsid := 3, slba := 0, nlb := 1, ordered := false, stage := .pages }, wUp (fun h => onEngine (onPort (h) 1 (fun x => { x with rdy := true, en := true, configured := true })) (fun g => { g with cmds := [{ slot := 0, isn := 0, port := 1, sq := 2, cid := 3, opc := 2, nsid := 3, slba := 0, nlb := 1, ordered := false, stage := .pages }] })), by decide⟩,
    ⟨1, 0x0B, wUp (fun h => onPort (h) 1 (fun x => { x with rdy := true, en := true, configured := true })), by decide⟩,
    ⟨1, 3, wUp (fun h => onSpace (onPort (h) 1 (fun x => { x with rdy := true, en := true, configured := true })) 3 (fun n => { n with size := 262144 })), by decide⟩,
    ⟨1, 0x10003, wUp (fun h => onPort (h) 1 (fun x => { x with rdy := true, en := true, configured := true })), by decide⟩,
    ⟨1, 3, wUp (fun h => onPort (h) 1 (fun x => { x with rdy := true, en := true, configured := true })), by decide⟩,
    ⟨1, 0x0D, wUp (fun h => onPort (h) 1 (fun x => { x with rdy := true, en := true, configured := true })), by decide⟩,
    ⟨1, 1, wUp (fun h => onPort (h) 1 (fun x => { x with rdy := true, en := true, configured := true })), by decide⟩,
    ⟨1, 1, wUp (fun h => onPort (h) 1 (fun x => { x with rdy := true, en := true, configured := true })), by decide⟩,
    ⟨1, wUp (fun h => onPort (h) 1 (fun x => { x with rdy := true, en := true, configured := true, aers := [1, 2, 3, 4, 5, 6, 7, 8] })), by decide⟩,
    ⟨1, wUp (fun h => onPort (h) 1 (fun x => { x with rdy := true, en := true, configured := true, aers := [1, 2, 3, 4, 5, 6, 7] })), by decide⟩,
    ⟨1, 0x40002, [], wUp (fun h => onPort (h) 1 (fun x => { x with rdy := true, en := true, configured := true, events := [0x40002] })), by decide⟩⟩

/-- What `Obligations.NamespaceAndSanitizeCommandsComplete` assumes can be met, clause by clause. -/
theorem witness_NamespaceAndSanitizeCommandsComplete :
    (∃ (p : Nat) (nsze : Nat) (fmt : Nat) (pi : Nat) (n : Nat) (es : List Nat) (s : State), adminUp s.hw p = true ∧ standby s.hw = false ∧ operStatus s.hw = 0 ∧ nsze ≠ 0 ∧ nsze % extentBlocks = 0 ∧ formatStatus fmt pi = 0 ∧ freeNsid s.hw = some n ∧ bandsFor s.hw n (nsze / extentBlocks) 0 s.hw.engine.extents = some es ∧ mirrors s.hw = false) ∧
    (∃ (p : Nat) (nsze : Nat) (ncap : Nat) (s : State), adminUp s.hw p = true ∧ standby s.hw = false ∧ operStatus s.hw = 0 ∧ nsze < ncap) ∧
    (∃ (p : Nat) (n : Nat) (s : State), adminUp s.hw p = true ∧ standby s.hw = false ∧ operStatus s.hw = 0 ∧ n ≠ 0xFFFFFFFF ∧ (space s.hw n).size ≠ 0 ∧ s.hw.engine.cmds = [] ∧ (s.hw.portA.rdy = false ∨ p = 0) ∧ (s.hw.portB.rdy = false ∨ p ≠ 0) ∧ p < 2 ∧ mirrors s.hw = false ∧ s.hw.cipher.running = []) ∧
    (∃ (p : Nat) (n : Nat) (ctrls : Nat) (s : State), adminUp s.hw p = true ∧ (space s.hw n).size ≠ 0 ∧ ctrls ≠ 0 ∧ ctrls ≤ (if dualPort s.hw then 3 else 1) ∧ (space s.hw n).attached &&& ctrls = 0 ∧ (s.hw.portA.rdy = false ∨ p = 0) ∧ (s.hw.portB.rdy = false ∨ p ≠ 0) ∧ p < 2) ∧
    (∃ (p : Nat) (n : Nat) (ctrls : Nat) (s : State), adminUp s.hw p = true ∧ (space s.hw n).size ≠ 0 ∧ ctrls ≠ 0 ∧ ctrls ≤ (if dualPort s.hw then 3 else 1) ∧ (space s.hw n).attached &&& ctrls ≠ 0) ∧
    (∃ (p : Nat) (n : Nat) (fmt : Nat) (pi : Nat) (ses : Nat) (s : State), adminUp s.hw p = true ∧ standby s.hw = false ∧ operStatus s.hw = 0 ∧ n ≠ 0xFFFFFFFF ∧ ses ≤ 2 ∧ (space s.hw n).size ≠ 0 ∧ bitAt (space s.hw n).attached p = true ∧ formatStatus fmt pi = 0 ∧ (entriesIn s.hw n).any (fun (e : Nat) => entryFenced s.hw e) = false ∧ mirrors s.hw = false) ∧
    (∃ (p : Nat) (o : Oper) (s : State), adminUp s.hw p = true ∧ standby s.hw = false ∧ s.hw.engine.oper = some o ∧ o.kind = .format) ∧
    (∃ (p : Nat) (owpass : Nat) (ovrpat : Nat) (s : State), adminUp s.hw p = true ∧ standby s.hw = false ∧ operStatus s.hw = 0 ∧ s.hw.engine.sanitize ≠ 3 ∧ mirrors s.hw = false ∧ 1 ≤ owpass ∧ owpass < 16 ∧ ovrpat < 2 ^ 32) ∧
    (∃ (p : Nat) (s : State), adminUp s.hw p = true ∧ standby s.hw = false ∧ operStatus s.hw = 0 ∧ s.hw.engine.sanitize = 3 ∧ s.hw.engine.unrestricted = false) ∧
    (∃ (o : Oper) (s : State), s.hw.engine.oper = some o ∧ o.kind = .cryptoErase ∧ o.started = false ∧ o.resumed = false ∧ o.fromTwin = none ∧ mediaReady s.hw = true ∧ s.hw.engine.cmds = []) ∧
    (∃ (o : Oper) (s : State), s.hw.engine.oper = some o ∧ o.kind = .format ∧ o.started = true ∧ o.step = 4 ∧ o.resumed = false ∧ o.fromTwin = none ∧ mediaReady s.hw = true ∧ s.hw.engine.mapDue = false ∧ o.ackDue = none) :=
  ⟨⟨1, 262144, 0, 0, 3, [7], wUp (fun h => onEngine (onSpace (onSpace (onPort (h) 1 (fun x => { x with rdy := true, en := true, configured := true })) 1 (fun n => { n with size := 1 })) 2 (fun n => { n with size := 1 })) (fun g => { g with extents := [(7, { retired := false })] })), by decide +kernel⟩,
    ⟨1, 262144, 262145, wUp (fun h => onPort (h) 1 (fun x => { x with rdy := true, en := true, configured := true })), by decide⟩,
    ⟨1, 3, wUp (fun h => onEngine (onSpace (onPort (h) 1 (fun x => { x with rdy := true, en := true, configured := true })) 3 (fun n => { n with size := 262144, attached := 2 })) (fun g => { g with extents := [(7, { retired := false, nsid := 3 })] })), by decide⟩,
    ⟨1, 3, 3, wUp (fun h => onSpace (onPort (h) 1 (fun x => { x with rdy := true, en := true, configured := true })) 3 (fun n => { n with size := 262144 })), by decide⟩,
    ⟨1, 3, 3, wUp (fun h => onSpace (onPort (h) 1 (fun x => { x with rdy := true, en := true, configured := true })) 3 (fun n => { n with size := 262144, attached := 2 })), by decide⟩,
    ⟨1, 3, 0, 0, 1, wUp (fun h => onSpace (onPort (h) 1 (fun x => { x with rdy := true, en := true, configured := true })) 3 (fun n => { n with size := 262144, attached := 2 })), by decide⟩,
    ⟨1, { kind := .format, nsid := 3 }, wUp (fun h => onEngine (onPort (h) 1 (fun x => { x with rdy := true, en := true, configured := true })) (fun g => { g with oper := some { kind := .format, nsid := 3 } })), by decide⟩,
    ⟨1, 2, 0xA5, wUp (fun h => onPort (h) 1 (fun x => { x with rdy := true, en := true, configured := true })), by decide⟩,
    ⟨1, wUp (fun h => onEngine (onPort (h) 1 (fun x => { x with rdy := true, en := true, configured := true })) (fun g => { g with sanitize := 3 })), by decide⟩,
    ⟨{ kind := .cryptoErase, port := 1, cid := 9 }, wCus (fun h => onEngine h (fun g => { g with oper := some { kind := .cryptoErase, port := 1, cid := 9 } })), by decide⟩,
    ⟨{ kind := .format, port := 1, cid := 9, started := true, step := 4 }, wCus (fun h => onEngine h (fun g => { g with oper := some { kind := .format, port := 1, cid := 9, started := true, step := 4 } })), by decide⟩⟩

/-- What `Obligations.HostCommandsComplete` assumes can be met, clause by clause. -/
theorem witness_HostCommandsComplete :
    (∃ (p : Nat) (sq : Nat) (l : List Nat) (e : SqEntry) (s : State), sq ≠ 0 ∧ (port s.hw p).ps < 3 ∧ domainPs s.hw < 3 ∧ getF s.hw HQ_STAT_FETCH 0 = 1 ∧ domainUp s.hw 4 = true ∧ s.hw.engine.cmds.length < 4095 ∧ chosenQueue s.hw l = some (p, sq) ∧ intakeStatus s.hw p e = 0 ∧ e.opc = 1) ∧
    (∃ (p : Nat) (sq : Nat) (l : List Nat) (e : SqEntry) (s : State), sq ≠ 0 ∧ (port s.hw p).ps < 3 ∧ domainPs s.hw < 3 ∧ getF s.hw HQ_STAT_FETCH 0 = 1 ∧ domainUp s.hw 4 = true ∧ s.hw.engine.cmds.length < 4095 ∧ chosenQueue s.hw l = some (p, sq) ∧ intakeStatus s.hw p e ≠ 0) ∧
    (∃ (x : Cmd) (s : State), s.hw.engine.cmds = [x] ∧ x.stage = .pages ∧ pagesFor s.hw x ≤ getF s.hw BM_POOL_FREE 0) ∧
    (∃ (x : Cmd) (s : State), s.hw.engine.cmds = [x] ∧ x.stage = .pages ∧ getF s.hw BM_POOL_FREE 0 < pagesFor s.hw x) ∧
    (∃ (slot : Nat) (s : State), cmdAt s.hw slot = none) ∧
    (∃ (x : Cmd) (s : State), s.hw.engine.cmds = [x] ∧ x.stage = .order ∧ x.verdict = none ∧ x.opc = 2 ∧ allFenced s.hw = false ∧ (split s.hw x.nsid x.slba x.nlb).any (fun (q : Nat × Nat × Nat) => entryFenced s.hw q.1) = false) ∧
    (∃ (x : Cmd) (s : State), s.hw.engine.cmds = [x] ∧ x.stage = .order ∧ x.verdict = none ∧ x.committed = none ∧ x.opc = 2 ∧ (split s.hw x.nsid x.slba x.nlb).any (fun (q : Nat × Nat × Nat) => entryFenced s.hw q.1) = true) ∧
    (∃ (x : Cmd) (s : State), s.hw.engine.cmds = [x] ∧ x.stage = .order ∧ x.verdict = none ∧ x.committed = none ∧ allFenced s.hw = true) ∧
    (∃ (x : Cmd) (l : List Nat) (s : State), s.hw.engine.cmds = [x] ∧ x.opc = 1 ∧ x.source = .host ∧ x.stage ≠ .pages ∧ x.inGallery = false ∧ x.verdict = none ∧ x.committed = none ∧ x.noPost = false ∧ (space s.hw x.nsid).fmt ≠ 1 ∧ l.length = x.nlb) ∧
    (∃ (x : Cmd) (s : State), s.hw.engine.cmds = [x] ∧ x.opc = 1 ∧ x.source = .host ∧ x.stage ≠ .pages ∧ x.inGallery = false ∧ x.verdict = none ∧ x.committed = none ∧ x.noPost = false) ∧
    (∃ (x : Cmd) (l : List Nat) (m : List Nat) (s : State), s.hw.engine.cmds = [x] ∧ x.opc = 1 ∧ x.source = .host ∧ x.stage ≠ .pages ∧ x.inGallery = false ∧ x.verdict = none ∧ x.committed = none ∧ x.noPost = false ∧ (space s.hw x.nsid).fmt = 1 ∧ makesMeta (space s.hw x.nsid) x.prot = false ∧ l.length = x.nlb ∧ m.length = x.nlb) ∧
    (∃ (x : Cmd) (s : State), s.hw.engine.cmds = [x] ∧ x.opc = 8 ∧ x.source = .host ∧ x.inGallery = false ∧ x.verdict = none ∧ x.committed = none ∧ (space s.hw x.nsid).fmt ≠ 1) ∧
    (∃ (x : Cmd) (p : Piece) (s : State), s.hw.engine.cmds = [x] ∧ x.opc = 2 ∧ x.stage = .ready ∧ x.verdict = none ∧ x.pieces = [p] ∧ p.st = .waiting ∧ x.blocks = [] ∧ 0 < x.nlb ∧ 0 < p.count ∧ (cal s.hw (extent s.hw p.entry).car).step = none ∧ hostTurn s.hw (extent s.hw p.entry).car = true ∧ (!(writes x) || writerFree s.hw (extent s.hw p.entry).car) = true ∧ onFencedHead s.hw p = false) ∧
    (∃ (x : Cmd) (p : Piece) (s : State), s.hw.engine.cmds = [x] ∧ x.opc = 12 ∧ x.stage = .ready ∧ x.verdict = none ∧ x.pieces = [p] ∧ p.st = .waiting ∧ x.blocks = [] ∧ 0 < x.nlb ∧ 0 < p.count ∧ (cal s.hw (extent s.hw p.entry).car).step = none ∧ hostTurn s.hw (extent s.hw p.entry).car = true ∧ (!(writes x) || writerFree s.hw (extent s.hw p.entry).car) = true ∧ onFencedHead s.hw p = false) ∧
    (∃ (x : Cmd) (p : Piece) (s : State), s.hw.engine.cmds = [x] ∧ x.opc = 2 ∧ x.stage = .ready ∧ x.verdict = none ∧ x.committed = none ∧ x.pieces = [p] ∧ p.st = .waiting ∧ x.blocks = [] ∧ 0 < x.nlb ∧ 0 < p.count ∧ (cal s.hw (extent s.hw p.entry).car).step = none ∧ hostTurn s.hw (extent s.hw p.entry).car = true ∧ (!(writes x) || writerFree s.hw (extent s.hw p.entry).car) = true ∧ onFencedHead s.hw p = false) ∧
    (∃ (x : Cmd) (s : State), s.hw.engine.cmds = [x] ∧ x.opc = 0 ∧ x.stage = .ready ∧ x.verdict = none ∧ x.committed = none) ∧
    (∃ (x : Cmd) (s : State), s.hw.engine.cmds = [x] ∧ x.opc = 13 ∧ x.stage = .ready ∧ x.verdict = none ∧ x.committed = none ∧ mirrors s.hw = false ∧ (space s.hw x.nsid).regs = []) ∧
    (∃ (x : Cmd) (k : Nat) (r : Registrant) (s : State), s.hw.engine.cmds = [x] ∧ x.opc = 17 ∧ x.stage = .ready ∧ x.verdict = none ∧ x.committed = none ∧ mirrors s.hw = false ∧ (space s.hw x.nsid).rtype = 0 ∧ registrant s.hw x.nsid x.port = some r ∧ r.key = k) ∧
    (∃ (x : Cmd) (s : State), s.hw.engine.cmds = [x] ∧ x.opc = 17 ∧ x.stage = .ready ∧ x.verdict = none ∧ x.committed = none ∧ mirrors s.hw = false ∧ registrant s.hw x.nsid x.port = none) ∧
    (∃ (x : Cmd) (k : Nat) (r : Registrant) (s : State), s.hw.engine.cmds = [x] ∧ x.opc = 21 ∧ x.stage = .ready ∧ x.verdict = none ∧ x.committed = none ∧ mirrors s.hw = false ∧ (space s.hw x.nsid).rtype = 1 ∧ holds s.hw x.nsid x.port = true ∧ registrant s.hw x.nsid x.port = some r ∧ r.key = k) ∧
    (∃ (x : Cmd) (s : State), s.hw.engine.cmds = [x] ∧ x.opc = 0x0E ∧ x.stage = .ready ∧ x.verdict = none ∧ x.committed = none) :=
  ⟨⟨1, 2, [0x10002], { opc := 1, clean := true, cid := 9, nsid := 3, slba := 0, nlb := 4, ordered := false, addr := 0x1000 }, wCus (fun h => setF (onEngine (onPort h 1 (fun x => { x with rdy := true, en := true, configured := true, sqs := [(2, some { cq := 1, size := 8 })] })) (fun g => { g with extents := [(7, { nsid := 3, car := 1, head := 2, eidx := 0, retired := false })], spaces := [(3, { size := 262144, attached := 3 })], turn := 1 })) HQ_STAT_FETCH 0 1), by decide⟩,
    ⟨1, 2, [0x10002], { opc := 1, clean := true, cid := 9, nsid := 3, slba := 0, nlb := 4, ordered := false, addr := 0x1000 }, wCus (fun h => setF (onEngine (onPort h 1 (fun x => { x with rdy := true, en := true, configured := true, sqs := [(2, some { cq := 1, size := 8 })] })) (fun g => { g with turn := 1 })) HQ_STAT_FETCH 0 1), by decide⟩,
    ⟨{ slot := 4, isn := 10, port := 1, sq := 2, cid := 3, opc := 1, nsid := 3, slba := 0, nlb := 1, ordered := false, stage := .pages }, wUp (fun h => setF (onEngine (h) (fun g => { g with cmds := [{ slot := 4, isn := 10, port := 1, sq := 2, cid := 3, opc := 1, nsid := 3, slba := 0, nlb := 1, ordered := false, stage := .pages }], extents := [(7, { nsid := 3, car := 1, head := 2, eidx := 0, retired := false })], spaces := [(3, { size := 262144, attached := 3 })] })) BM_POOL_FREE 0 5), by decide⟩,
    ⟨{ slot := 4, isn := 10, port := 1, sq := 2, cid := 3, opc := 1, nsid := 3, slba := 0, nlb := 1, ordered := false, stage := .pages }, wUp (fun h => setF (onEngine (h) (fun g => { g with cmds := [{ slot := 4, isn := 10, port := 1, sq := 2, cid := 3, opc := 1, nsid := 3, slba := 0, nlb := 1, ordered := false, stage := .pages }], extents := [(7, { nsid := 3, car := 1, head := 2, eidx := 0, retired := false })], spaces := [(3, { size := 262144, attached := 3 })] })) BM_POOL_FREE 0 0), by decide⟩,
    ⟨4, wUp (fun h => onBuffer h (fun b => { b with pages := [(0, some (4, 0x7FFFF)), (1, some (5, 0x7FFFF))] })), by decide⟩,
    ⟨{ slot := 4, isn := 10, port := 1, sq := 2, cid := 3, opc := 2, nsid := 3, slba := 0, nlb := 4, ordered := false, stage := .order }, wUp (fun h => onEngine (h) (fun g => { g with cmds := [{ slot := 4, isn := 10, port := 1, sq := 2, cid := 3, opc := 2, nsid := 3, slba := 0, nlb := 4, ordered := false, stage := .order }], extents := [(7, { nsid := 3, car := 1, head := 2, eidx := 0, retired := false })], spaces := [(3, { size := 262144, attached := 3 })] })), by decide⟩,
    ⟨{ slot := 4, isn := 10, port := 1, sq := 2, cid := 3, opc := 2, nsid := 3, slba := 0, nlb := 4, ordered := false, stage := .order }, wUp (fun h => setFence (onEngine (h) (fun g => { g with cmds := [{ slot := 4, isn := 10, port := 1, sq := 2, cid := 3, opc := 2, nsid := 3, slba := 0, nlb := 4, ordered := false, stage := .order }], extents := [(7, { nsid := 3, car := 1, head := 2, eidx := 0, retired := false })], spaces := [(3, { size := 262144, attached := 3 })] })) (carPath 1 0) 1), by decide⟩,
    ⟨{ slot := 4, isn := 10, port := 1, sq := 2, cid := 3, opc := 0, nsid := 3, slba := 0, nlb := 1, ordered := false, stage := .order }, wUp (fun h => setFence (setFence (setFence (setFence (onEngine (h) (fun g => { g with cmds := [{ slot := 4, isn := 10, port := 1, sq := 2, cid := 3, opc := 0, nsid := 3, slba := 0, nlb := 1, ordered := false, stage := .order }], extents := [(7, { nsid := 3, car := 1, head := 2, eidx := 0, retired := false })], spaces := [(3, { size := 262144, attached := 3 })] })) (carPath 0 0) 1) (carPath 1 0) 1) (carPath 2 0) 1) (carPath 3 0) 1), by decide +kernel⟩,
    ⟨{ slot := 4, isn := 10, port := 1, sq := 2, cid := 3, opc := 1, nsid := 3, slba := 0, nlb := 1, ordered := false, stage := .order }, [5], wUp (fun h => onEngine (h) (fun g => { g with cmds := [{ slot := 4, isn := 10, port := 1, sq := 2, cid := 3, opc := 1, nsid := 3, slba := 0, nlb := 1, ordered := false, stage := .order }], extents := [(7, { nsid := 3, car := 1, head := 2, eidx := 0, retired := false })], spaces := [(3, { size := 262144, attached := 3 })] })), by decide⟩,
    ⟨{ slot := 4, isn := 10, port := 1, sq := 2, cid := 3, opc := 1, nsid := 3, slba := 0, nlb := 1, ordered := false, stage := .order }, wUp (fun h => onEngine (h) (fun g => { g with cmds := [{ slot := 4, isn := 10, port := 1, sq := 2, cid := 3, opc := 1, nsid := 3, slba := 0, nlb := 1, ordered := false, stage := .order }], extents := [(7, { nsid := 3, car := 1, head := 2, eidx := 0, retired := false })], spaces := [(3, { size := 262144, attached := 3 })] })), by decide⟩,
    ⟨{ slot := 4, isn := 10, port := 1, sq := 2, cid := 3, opc := 1, nsid := 3, slba := 0, nlb := 1, ordered := false, stage := .order }, [5], [7], wUp (fun h => onEngine (h) (fun g => { g with cmds := [{ slot := 4, isn := 10, port := 1, sq := 2, cid := 3, opc := 1, nsid := 3, slba := 0, nlb := 1, ordered := false, stage := .order }], extents := [(7, { nsid := 3, car := 1, head := 2, eidx := 0, retired := false })], spaces := [(3, { size := 262144, attached := 3, fmt := 1, pi := 1 })] })), by decide⟩,
    ⟨{ slot := 4, isn := 10, port := 1, sq := 2, cid := 3, opc := 8, nsid := 3, slba := 0, nlb := 1, ordered := false, stage := .ready }, wUp (fun h => onEngine (h) (fun g => { g with cmds := [{ slot := 4, isn := 10, port := 1, sq := 2, cid := 3, opc := 8, nsid := 3, slba := 0, nlb := 1, ordered := false, stage := .ready }], extents := [(7, { nsid := 3, car := 1, head := 2, eidx := 0, retired := false })], spaces := [(3, { size := 262144, attached := 3 })] })), by decide⟩,
    ⟨{ slot := 4, isn := 10, port := 1, sq := 2, cid := 3, opc := 2, nsid := 3, slba := 0, nlb := 1, ordered := false, stage := .ready, pieces := [{ entry := 7, first := 0, count := 1, path := .read }] }, { entry := 7, first := 0, count := 1, path := .read }, wUp (fun h => onEngine (h) (fun g => { g with cmds := [{ slot := 4, isn := 10, port := 1, sq := 2, cid := 3, opc := 2, nsid := 3, slba := 0, nlb := 1, ordered := false, stage := .ready, pieces := [{ entry := 7, first := 0, count := 1, path := .read }] }], extents := [(7, { nsid := 3, car := 1, head := 2, eidx := 0, retired := false })], spaces := [(3, { size := 262144, attached := 3 })] })), by decide +kernel⟩,
    ⟨{ slot := 4, isn := 10, port := 1, sq := 2, cid := 3, opc := 12, nsid := 3, slba := 0, nlb := 1, ordered := false, stage := .ready, pieces := [{ entry := 7, first := 0, count := 1, path := .read }] }, { entry := 7, first := 0, count := 1, path := .read }, wUp (fun h => onEngine (h) (fun g => { g with cmds := [{ slot := 4, isn := 10, port := 1, sq := 2, cid := 3, opc := 12, nsid := 3, slba := 0, nlb := 1, ordered := false, stage := .ready, pieces := [{ entry := 7, first := 0, count := 1, path := .read }] }], extents := [(7, { nsid := 3, car := 1, head := 2, eidx := 0, retired := false })], spaces := [(3, { size := 262144, attached := 3 })] })), by decide +kernel⟩,
    ⟨{ slot := 4, isn := 10, port := 1, sq := 2, cid := 3, opc := 2, nsid := 3, slba := 0, nlb := 1, ordered := false, stage := .ready, pieces := [{ entry := 7, first := 0, count := 1, path := .read }] }, { entry := 7, first := 0, count := 1, path := .read }, wUp (fun h => onEngine (h) (fun g => { g with cmds := [{ slot := 4, isn := 10, port := 1, sq := 2, cid := 3, opc := 2, nsid := 3, slba := 0, nlb := 1, ordered := false, stage := .ready, pieces := [{ entry := 7, first := 0, count := 1, path := .read }] }], extents := [(7, { nsid := 3, car := 1, head := 2, eidx := 0, retired := false })], spaces := [(3, { size := 262144, attached := 3 })] })), by decide +kernel⟩,
    ⟨{ slot := 4, isn := 10, port := 1, sq := 2, cid := 3, opc := 0, nsid := 3, slba := 0, nlb := 0, ordered := false, stage := .ready }, wUp (fun h => onEngine (h) (fun g => { g with cmds := [{ slot := 4, isn := 10, port := 1, sq := 2, cid := 3, opc := 0, nsid := 3, slba := 0, nlb := 0, ordered := false, stage := .ready }], extents := [(7, { nsid := 3, car := 1, head := 2, eidx := 0, retired := false })], spaces := [(3, { size := 262144, attached := 3 })] })), by decide⟩,
    ⟨{ slot := 4, isn := 10, port := 1, sq := 2, cid := 3, opc := 13, nsid := 3, slba := 0, nlb := 1, ordered := false, stage := .ready }, wUp (fun h => onEngine (h) (fun g => { g with cmds := [{ slot := 4, isn := 10, port := 1, sq := 2, cid := 3, opc := 13, nsid := 3, slba := 0, nlb := 1, ordered := false, stage := .ready }], spaces := [(3, { size := 262144, attached := 3 })] })), by decide⟩,
    ⟨{ slot := 4, isn := 10, port := 1, sq := 2, cid := 3, opc := 17, nsid := 3, slba := 0, nlb := 1, ordered := false, stage := .ready }, 77, { ctrl := 1, key := 77, hostId := 0 }, wUp (fun h => onEngine (h) (fun g => { g with cmds := [{ slot := 4, isn := 10, port := 1, sq := 2, cid := 3, opc := 17, nsid := 3, slba := 0, nlb := 1, ordered := false, stage := .ready }], spaces := [(3, { size := 262144, attached := 3, regs := [{ ctrl := 1, key := 77, hostId := 0 }] })] })), by decide⟩,
    ⟨{ slot := 4, isn := 10, port := 1, sq := 2, cid := 3, opc := 17, nsid := 3, slba := 0, nlb := 1, ordered := false, stage := .ready }, wUp (fun h => onEngine (h) (fun g => { g with cmds := [{ slot := 4, isn := 10, port := 1, sq := 2, cid := 3, opc := 17, nsid := 3, slba := 0, nlb := 1, ordered := false, stage := .ready }], spaces := [(3, { size := 262144, attached := 3, rtype := 0 })] })), by decide⟩,
    ⟨{ slot := 4, isn := 10, port := 1, sq := 2, cid := 3, opc := 21, nsid := 3, slba := 0, nlb := 1, ordered := false, stage := .ready }, 77, { ctrl := 1, key := 77, hostId := 0 }, wUp (fun h => onEngine (h) (fun g => { g with cmds := [{ slot := 4, isn := 10, port := 1, sq := 2, cid := 3, opc := 21, nsid := 3, slba := 0, nlb := 1, ordered := false, stage := .ready }], spaces := [(3, { size := 262144, attached := 3, rtype := 1, holder := 1, regs := [{ ctrl := 1, key := 77, hostId := 0 }] })] })), by decide⟩,
    ⟨{ slot := 4, isn := 10, port := 1, sq := 2, cid := 3, opc := 14, nsid := 3, slba := 0, nlb := 1, ordered := false, stage := .ready }, wUp (fun h => onEngine (h) (fun g => { g with cmds := [{ slot := 4, isn := 10, port := 1, sq := 2, cid := 3, opc := 14, nsid := 3, slba := 0, nlb := 1, ordered := false, stage := .ready }], spaces := [(3, { size := 262144, attached := 3, regs := [{ ctrl := 1, key := 77, hostId := 0 }] })] })), by decide⟩⟩

/-- What `Obligations.PiecesAndCompletionsComplete` assumes can be met, clause by clause. -/
theorem witness_PiecesAndCompletionsComplete :
    (∃ (x : Cmd) (p : Piece) (k : Nat) (gap : Nat) (fails : List Nat) (w : LandPlaces) (s : State), s.hw.engine.cmds = [x] ∧ x.stage = .ready ∧ x.pieces = [p] ∧ p.path = .landing ∧ p.st = .started ∧ p.pushed = false ∧ p.cipher.length = p.count ∧ entryFenced s.hw p.entry = false ∧ (extent s.hw p.entry).car = k ∧ k < 4 ∧ (path s.hw k).noWrite = false ∧ (cal s.hw k).hold = none ∧ (cal s.hw k).step = none ∧ movesWait s.hw = false ∧ 131 ≤ landFree s.hw k ∧ hostTurn s.hw k = true ∧ (!(writes x) || writerFree s.hw k) = true ∧ indexUsed s.hw k < 32768 ∧ (space s.hw x.nsid).fmt = 0 ∧ placeLanding s.hw k p.count fails gap = some w ∧ lseq s.hw k + 1 < 2 ^ 64) ∧
    (∃ (x : Cmd) (p : Piece) (k : Nat) (s : State), s.hw.engine.cmds = [x] ∧ x.stage = .ready ∧ x.pieces = [p] ∧ p.path = .landing ∧ p.st = .started ∧ p.pushed = false ∧ p.cipher.length = p.count ∧ entryFenced s.hw p.entry = false ∧ (extent s.hw p.entry).car = k ∧ k < 4 ∧ (path s.hw k).noWrite = false ∧ (cal s.hw k).hold = none ∧ (cal s.hw k).step = none ∧ movesWait s.hw = false ∧ landFree s.hw k < 131) ∧
    (∃ (x : Cmd) (p : Piece) (s : State), s.hw.engine.cmds = [x] ∧ x.stage = .ready ∧ x.pieces = [p] ∧ writes x = true ∧ p.st = .started ∧ p.path = .landing ∧ p.pushed = true ∧ p.cipher.length = p.count ∧ entryFenced s.hw p.entry = false) ∧
    (∃ (x : Cmd) (p : Piece) (w : Nat) (s : State), s.hw.engine.cmds = [x] ∧ x.stage = .ready ∧ x.pieces = [p] ∧ writes x = true ∧ p.st = .started ∧ p.path = .stream ∧ p.count = 1 ∧ p.cipher = [w] ∧ entryFenced s.hw p.entry = false ∧ landHeld s.hw p.entry p.first 1 = false ∧ (extent s.hw p.entry).car < 4 ∧ movesWait s.hw = false ∧ (cal s.hw (extent s.hw p.entry).car).hold = none ∧ (cal s.hw (extent s.hw p.entry).car).step = none ∧ hostTurn s.hw (extent s.hw p.entry).car = true ∧ (!(writes x) || writerFree s.hw (extent s.hw p.entry).car) = true) ∧
    (∃ (x : Cmd) (p : Piece) (s : State), s.hw.engine.cmds = [x] ∧ x.stage = .ready ∧ x.pieces = [p] ∧ writes x = true ∧ p.st = .started ∧ p.cipher.length = p.count ∧ entryFenced s.hw p.entry = false ∧ x.verdict = none ∧ x.committed = none ∧ movesWait s.hw = false ∧ (cal s.hw (extent s.hw p.entry).car).hold = none ∧ (cal s.hw (extent s.hw p.entry).car).step = none) ∧
    (∃ (x : Cmd) (p : Piece) (s : State), s.hw.engine.cmds = [x] ∧ x.stage = .ready ∧ x.pieces = [p] ∧ writes x = true ∧ x.source = Source.host ∧ p.st = .done ∧ p.waitsAck = [] ∧ x.verdict = none ∧ x.committed = none ∧ x.noPost = false ∧ s.hw.engine.lossHold = false ∧ twinState s.hw ≠ 3 ∧ s.hw.twin.acks = [] ∧ (port s.hw x.port).aborts = [] ∧ x.port < 2 ∧ x.abortHeld = false) ∧
    (∃ (x : Cmd) (p : Piece) (s : State), s.hw.engine.cmds = [x] ∧ x.opc = 2 ∧ x.stage = .ready ∧ x.pieces = [p] ∧ x.source = Source.host ∧ p.st = .done ∧ x.inGallery = true ∧ x.verdict = none ∧ x.committed = none ∧ x.noPost = false ∧ s.hw.engine.lossHold = false ∧ s.hw.twin.acks = [] ∧ (port s.hw x.port).aborts = [] ∧ x.port < 2 ∧ x.abortHeld = false ∧ (space s.hw x.nsid).fmt ≠ 1 ∧ (List.range x.nlb).any (fun (i : Nat) => blockBad s.hw x.slot i) = false) ∧
    (∃ (x : Cmd) (p : Piece) (s : State), s.hw.engine.cmds = [x] ∧ x.opc = 2 ∧ x.stage = .ready ∧ x.pieces = [p] ∧ x.source = Source.host ∧ p.st = .done ∧ x.inGallery = true ∧ x.verdict = none ∧ x.committed = none ∧ x.noPost = false ∧ s.hw.engine.lossHold = false ∧ s.hw.twin.acks = [] ∧ (port s.hw x.port).aborts = [] ∧ x.port < 2 ∧ x.abortHeld = false ∧ (space s.hw x.nsid).fmt ≠ 1 ∧ (List.range x.nlb).any (fun (i : Nat) => blockBad s.hw x.slot i) = false) ∧
    (∃ (x : Cmd) (p : Piece) (s : State), s.hw.engine.cmds = [x] ∧ x.stage = .ready ∧ x.pieces = [p] ∧ writes x = true ∧ p.st = .started ∧ x.verdict = none ∧ twinState s.hw ≠ 3) ∧
    (∃ (p : Nat) (cq : Nat) (head : Nat) (cid : Nat) (sq : Nat) (st : Nat) (dw : Nat) (q : ComQ) (s : State), p < 2 ∧ oget (port s.hw p).cqs cq = some q ∧ s.hw.engine.posting = [(p, cq, cid, sq, st, dw)] ∧ (q.tail + 1) % (max 1 q.size) ≠ head % (max 1 q.size) ∧ q.ien = false ∧ s.hw.engine.cmds = [] ∧ (port s.hw p).shst = 0) ∧
    (∃ (p : Nat) (cq : Nat) (head : Nat) (cid : Nat) (sq : Nat) (st : Nat) (dw : Nat) (q : ComQ) (s : State), p < 2 ∧ oget (port s.hw p).cqs cq = some q ∧ s.hw.engine.posting = [(p, cq, cid, sq, st, dw)] ∧ (q.tail + 1) % (max 1 q.size) = head % (max 1 q.size)) ∧
    (∃ (x : Cmd) (p : Piece) (s : State), s.hw.engine.cmds = [x] ∧ x.pieces = [p] ∧ p.st = .started ∧ x.committed = none ∧ x.verdict = none ∧ entryFenced s.hw p.entry = true) ∧
    (∃ (c : Nat) (s : State), mapCarriages s.hw = [c] ∧ s.hw.engine.mapDue = true) ∧
    (∃ (c : Nat) (e : Nat) (r : LRec) (s : State), c < 4 ∧ populated s.hw c = true ∧ carFenced s.hw c = false ∧ destageAllowed s.hw c r.seq = true ∧ (path s.hw c).noWrite = false ∧ (path s.hw c).records = [r] ∧ lget s.hw.buffer.landIndex c = [r.seq] ∧ r.count = 1 ∧ entryOf s.hw r.nsid (r.sdu / extentBlocks) = some e ∧ (extent s.hw e).car = c ∧ r.kgen = homeGen s.hw e (r.sdu % extentBlocks) ∧ entryFenced s.hw e = false ∧ (path s.hw c).pins = []) ∧
    (∃ (c : Nat) (s : State), c < 4 ∧ populated s.hw c = true ∧ carFenced s.hw c = false ∧ domainUp s.hw (11 + 3 * c) = true ∧ (path s.hw c).records = [] ∧ (path s.hw c).check.seq < 2 ^ 64 ∧ (path s.hw c).check.lhead < 2 ^ 32) :=
  ⟨⟨{ slot := 4, isn := 10, port := 1, sq := 2, cid := 3, opc := 1, nsid := 3, slba := 0, nlb := 1, ordered := false, stage := .ready, pieces := [{ entry := 7, first := 0, count := 1, path := .landing, st := .started, cipher := [9] }] }, { entry := 7, first := 0, count := 1, path := .landing, st := .started, cipher := [9] }, 1, 0, [], { data := [0], pos := 1, failed := [], fillers := [] }, wUp (fun h => onEngine (h) (fun g => { g with cmds := [{ slot := 4, isn := 10, port := 1, sq := 2, cid := 3, opc := 1, nsid := 3, slba := 0, nlb := 1, ordered := false, stage := .ready, pieces := [{ entry := 7, first := 0, count := 1, path := .landing, st := .started, cipher := [9] }] }], extents := [(7, { nsid := 3, car := 1, head := 2, eidx := 0, retired := false })], spaces := [(3, { size := 262144, attached := 3 })] })), by decide +kernel⟩,
    ⟨{ slot := 4, isn := 10, port := 1, sq := 2, cid := 3, opc := 1, nsid := 3, slba := 0, nlb := 1, ordered := false, stage := .ready, pieces := [{ entry := 7, first := 0, count := 1, path := .landing, st := .started, cipher := [9] }] }, { entry := 7, first := 0, count := 1, path := .landing, st := .started, cipher := [9] }, 1, wUp (fun h => setF (onPath (onEngine (h) (fun g => { g with cmds := [{ slot := 4, isn := 10, port := 1, sq := 2, cid := 3, opc := 1, nsid := 3, slba := 0, nlb := 1, ordered := false, stage := .ready, pieces := [{ entry := 7, first := 0, count := 1, path := .landing, st := .started, cipher := [9] }] }], extents := [(7, { nsid := 3, car := 1, head := 2, eidx := 0, retired := false })], spaces := [(3, { size := 262144, attached := 3 })] })) 1 (fun p => { p with records := [{ seq := 5, nsid := 3, sdu := 0, count := 1, lpos := 10, posmap := 1, kgen := 0, ordered := false, mirrored := false, pos := 11, dseq := 1 }] })) FM_LTAIL_VALUE (inst 1) 5), by decide +kernel⟩,
    ⟨{ slot := 4, isn := 10, port := 1, sq := 2, cid := 3, opc := 1, nsid := 3, slba := 0, nlb := 1, ordered := false, stage := .ready, pieces := [{ entry := 7, first := 0, count := 1, path := .landing, st := .started, cipher := [9], pushed := true }] }, { entry := 7, first := 0, count := 1, path := .landing, st := .started, cipher := [9], pushed := true }, wUp (fun h => onEngine (h) (fun g => { g with cmds := [{ slot := 4, isn := 10, port := 1, sq := 2, cid := 3, opc := 1, nsid := 3, slba := 0, nlb := 1, ordered := false, stage := .ready, pieces := [{ entry := 7, first := 0, count := 1, path := .landing, st := .started, cipher := [9], pushed := true }] }], extents := [(7, { nsid := 3, car := 1, head := 2, eidx := 0, retired := false })], spaces := [(3, { size := 262144, attached := 3 })] })), by decide⟩,
    ⟨{ slot := 4, isn := 10, port := 1, sq := 2, cid := 3, opc := 1, nsid := 3, slba := 0, nlb := 1, ordered := false, stage := .ready, pieces := [{ entry := 7, first := 0, count := 1, path := .stream, st := .started, cipher := [9] }] }, { entry := 7, first := 0, count := 1, path := .stream, st := .started, cipher := [9] }, 9, wUp (fun h => onEngine (h) (fun g => { g with cmds := [{ slot := 4, isn := 10, port := 1, sq := 2, cid := 3, opc := 1, nsid := 3, slba := 0, nlb := 1, ordered := false, stage := .ready, pieces := [{ entry := 7, first := 0, count := 1, path := .stream, st := .started, cipher := [9] }] }], extents := [(7, { nsid := 3, car := 1, head := 2, eidx := 0, retired := false })], spaces := [(3, { size := 262144, attached := 3 })] })), by decide +kernel⟩,
    ⟨{ slot := 4, isn := 10, port := 1, sq := 2, cid := 3, opc := 1, nsid := 3, slba := 0, nlb := 1, ordered := false, stage := .ready, pieces := [{ entry := 7, first := 0, count := 1, path := .stream, st := .started, cipher := [9] }] }, { entry := 7, first := 0, count := 1, path := .stream, st := .started, cipher := [9] }, wUp (fun h => onEngine (h) (fun g => { g with cmds := [{ slot := 4, isn := 10, port := 1, sq := 2, cid := 3, opc := 1, nsid := 3, slba := 0, nlb := 1, ordered := false, stage := .ready, pieces := [{ entry := 7, first := 0, count := 1, path := .stream, st := .started, cipher := [9] }] }], extents := [(7, { nsid := 3, car := 1, head := 2, eidx := 0, retired := false })], spaces := [(3, { size := 262144, attached := 3 })] })), by decide⟩,
    ⟨{ slot := 4, isn := 10, port := 1, sq := 2, cid := 3, opc := 1, nsid := 3, slba := 0, nlb := 1, ordered := false, stage := .ready, pieces := [{ entry := 7, first := 0, count := 1, path := .landing, st := .done, cipher := [9], pushed := true }] }, { entry := 7, first := 0, count := 1, path := .landing, st := .done, cipher := [9], pushed := true }, wUp (fun h => onEngine (h) (fun g => { g with cmds := [{ slot := 4, isn := 10, port := 1, sq := 2, cid := 3, opc := 1, nsid := 3, slba := 0, nlb := 1, ordered := false, stage := .ready, pieces := [{ entry := 7, first := 0, count := 1, path := .landing, st := .done, cipher := [9], pushed := true }] }], extents := [(7, { nsid := 3, car := 1, head := 2, eidx := 0, retired := false })], spaces := [(3, { size := 262144, attached := 3 })] })), by decide⟩,
    ⟨{ slot := 4, isn := 10, port := 1, sq := 2, cid := 3, opc := 2, nsid := 3, slba := 0, nlb := 1, ordered := false, stage := .ready, pieces := [{ entry := 7, first := 0, count := 1, path := .read, st := .done }], inGallery := true, blocks := [(0, some 5)] }, { entry := 7, first := 0, count := 1, path := .read, st := .done }, wUp (fun h => onEngine (h) (fun g => { g with cmds := [{ slot := 4, isn := 10, port := 1, sq := 2, cid := 3, opc := 2, nsid := 3, slba := 0, nlb := 1, ordered := false, stage := .ready, pieces := [{ entry := 7, first := 0, count := 1, path := .read, st := .done }], inGallery := true, blocks := [(0, some 5)] }], extents := [(7, { nsid := 3, car := 1, head := 2, eidx := 0, retired := false })], spaces := [(3, { size := 262144, attached := 3 })] })), by decide⟩,
    ⟨{ slot := 4, isn := 10, port := 1, sq := 2, cid := 3, opc := 2, nsid := 3, slba := 0, nlb := 1, ordered := false, stage := .ready, pieces := [{ entry := 7, first := 0, count := 1, path := .read, st := .done }], inGallery := true, blocks := [(0, some 5)] }, { entry := 7, first := 0, count := 1, path := .read, st := .done }, wUp (fun h => onEngine (h) (fun g => { g with cmds := [{ slot := 4, isn := 10, port := 1, sq := 2, cid := 3, opc := 2, nsid := 3, slba := 0, nlb := 1, ordered := false, stage := .ready, pieces := [{ entry := 7, first := 0, count := 1, path := .read, st := .done }], inGallery := true, blocks := [(0, some 5)] }], extents := [(7, { nsid := 3, car := 1, head := 2, eidx := 0, retired := false })], spaces := [(3, { size := 262144, attached := 3 })] })), by decide⟩,
    ⟨{ slot := 4, isn := 10, port := 1, sq := 2, cid := 3, opc := 1, nsid := 3, slba := 0, nlb := 1, ordered := false, stage := .ready, pieces := [{ entry := 7, first := 0, count := 1, path := .landing, st := .started, cipher := [9], pushed := true }] }, { entry := 7, first := 0, count := 1, path := .landing, st := .started, cipher := [9], pushed := true }, wUp (fun h => onEngine (h) (fun g => { g with cmds := [{ slot := 4, isn := 10, port := 1, sq := 2, cid := 3, opc := 1, nsid := 3, slba := 0, nlb := 1, ordered := false, stage := .ready, pieces := [{ entry := 7, first := 0, count := 1, path := .landing, st := .started, cipher := [9], pushed := true }] }], extents := [(7, { nsid := 3, car := 1, head := 2, eidx := 0, retired := false })], spaces := [(3, { size := 262144, attached := 3 })] })), by decide⟩,
    ⟨1, 5, 0, 9, 2, 0, 0, { size := 8 }, wUp (fun h => onEngine (onPort h 1 (fun x => { x with cqs := [(5, some { size := 8 })] })) (fun g => { g with posting := [(1, 5, 9, 2, 0, 0)] })), by decide⟩,
    ⟨1, 5, 1, 9, 2, 0, 0, { size := 8 }, wUp (fun h => onEngine (onPort h 1 (fun x => { x with cqs := [(5, some { size := 8 })] })) (fun g => { g with posting := [(1, 5, 9, 2, 0, 0)] })), by decide⟩,
    ⟨{ slot := 4, isn := 10, port := 1, sq := 2, cid := 3, opc := 1, nsid := 3, slba := 0, nlb := 1, ordered := false, stage := .ready, pieces := [{ entry := 7, first := 0, count := 1, path := .landing, st := .started }] }, { entry := 7, first := 0, count := 1, path := .landing, st := .started }, wUp (fun h => setFence (onEngine (h) (fun g => { g with cmds := [{ slot := 4, isn := 10, port := 1, sq := 2, cid := 3, opc := 1, nsid := 3, slba := 0, nlb := 1, ordered := false, stage := .ready, pieces := [{ entry := 7, first := 0, count := 1, path := .landing, st := .started }] }], extents := [(7, { nsid := 3, car := 1, head := 2, eidx := 0, retired := false })], spaces := [(3, { size := 262144, attached := 3 })] })) (carPath 1 0) 1), by decide⟩,
    ⟨1, wUp (fun h => setFence (setFence (setFence (onEngine (h) (fun g => { g with mapSeq := 5, mapDue := true, extents := [(7, { nsid := 3, car := 1, head := 2, eidx := 0, retired := false })] })) (carPath 0 0) 1) (carPath 2 0) 1) (carPath 3 0) 1), by decide⟩,
    ⟨1, 7, { seq := 5, nsid := 3, sdu := 0, count := 1, lpos := 10, posmap := 1, kgen := 0, ordered := false, mirrored := false, pos := 11, dseq := 1 }, wCus (fun h => onPath (onBuffer (onEngine (h) (fun g => { g with extents := [(7, { nsid := 3, car := 1, head := 2, eidx := 0, retired := false })] })) (fun b => { b with landIndex := [(1, [5])] })) 1 (fun p => { p with records := [{ seq := 5, nsid := 3, sdu := 0, count := 1, lpos := 10, posmap := 1, kgen := 0, ordered := false, mirrored := false, pos := 11, dseq := 1 }], landData := [(10, 99)] })), by decide +kernel⟩,
    ⟨1, wCus (fun h => onPath h 1 (fun p => { p with check := { lhead := 7, seq := 5, pins := [3] } })), by decide⟩⟩

/-- What `Obligations.PowerStatesComplete` assumes can be met, clause by clause. -/
theorem witness_PowerStatesComplete :
    (∃ (s : State), wantedState s.hw = 0 ∧ getF s.hw PW_PSTATE_DEV 0 < 3 ∧ getF s.hw PW_PSTATE_TRANS 0 = 0) ∧
    (∃ (s : State), wantedState s.hw ≠ getF s.hw PW_PSTATE_DEV 0 ∧ (3 ≤ wantedState s.hw ∨ 3 ≤ getF s.hw PW_PSTATE_DEV 0) ∧ wantedState s.hw < 5 ∧ getF s.hw PW_PSTATE_TRANS 0 = 0 ∧ reacting s.hw = false) ∧
    (∃ (data : Nat) (s : State), bits 30 28 data ≠ getF s.hw PW_PSTATE_TGT 0) ∧
    (∃ (data : Nat) (s : State), bits 30 28 data = getF s.hw PW_PSTATE_TGT 0 ∧ bitAt data 31 = true ∧ getF s.hw PW_PSTATE_TRANS 0 = 1 ∧ s.hw.island.exiting = false ∧ reacting s.hw = false ∧ (getF s.hw PW_PSTATE_DEV 0 ≠ 4 ∨ 3 ≤ getF s.hw PW_PSTATE_TGT 0 ∨ getF s.hw PW_BOOT_STAGE 0 ≠ 0x0C)) ∧
    (∃ (data : Nat) (s : State), bits 30 28 data = getF s.hw PW_PSTATE_TGT 0 ∧ bitAt data 31 = true ∧ getF s.hw PW_PSTATE_TRANS 0 = 1 ∧ s.hw.island.exiting = false ∧ reacting s.hw = true) ∧
    (∃ (data : Nat) (c : Nat) (s : State), bits 30 28 data = getF s.hw PW_PSTATE_TGT 0 ∧ bitAt data 31 = true ∧ getF s.hw PW_PSTATE_TRANS 0 = 1 ∧ s.hw.island.exiting = false ∧ reacting s.hw = false ∧ getF s.hw PW_PSTATE_DEV 0 = 4 ∧ getF s.hw PW_PSTATE_TGT 0 < 3 ∧ getF s.hw PW_BOOT_STAGE 0 = 0x0C ∧ c < 4 ∧ inStart s.hw c = true) ∧
    (∃ (d : Nat) (s : State), domainExists s.hw d = true ∧ wantedOff s.hw d = true ∧ domainOn s.hw d = true ∧ d ≠ 8) ∧
    (∃ (d : Nat) (s : State), domainExists s.hw d = true ∧ wantedOff s.hw d = false ∧ domainOn s.hw d = false ∧ d ≠ 8) :=
  ⟨⟨wUp (fun h => setF (onPort h 1 (fun x => { x with rdy := true })) PW_PSTATE_DEV 0 2), by decide⟩,
    ⟨wUp (fun h => onPort h 1 (fun x => { x with rdy := true, ps := 3 })), by decide⟩,
    ⟨0xB0000000, wUp (fun h => setF (setF h PW_PSTATE_TGT 0 4) PW_PSTATE_TRANS 0 1), by decide⟩,
    ⟨0xB0000000, wUp (fun h => setF (setF h PW_PSTATE_TGT 0 3) PW_PSTATE_TRANS 0 1), by decide +kernel⟩,
    ⟨0xB0000000, wUp (fun h => setF (setF (onUnit h 0x1700 (fun x => { x with busy := true })) PW_PSTATE_TGT 0 3) PW_PSTATE_TRANS 0 1), by decide +kernel⟩,
    ⟨0x80000000, 1, wCus (fun h => setF (setF h PW_PSTATE_DEV 0 4) PW_PSTATE_TRANS 0 1), by decide +kernel⟩,
    ⟨5, wUp (fun h => setF h PW_PSTATE_DEV 0 4), by decide +kernel⟩,
    ⟨5, wUp (fun h => setF h PW_DOM_ON 0 0xFFFFEF), by decide +kernel⟩⟩

/-- What `Obligations.ResetsAndScanComplete` assumes can be met, clause by clause. -/
theorem witness_ResetsAndScanComplete :
    (∃ (cause : Nat) (u : Nat) (s : State), s.hw.boot.dphase = .idle ∧ s.hw.boot.mediaMs ≠ 0 ∧ cause < 16 ∧ u < 2 ^ 16) ∧
    (∃ (cause : Nat) (s : State), s.hw.boot.dphase = .taken ∧ cause ≠ 2 ∧ cause ≠ 4 ∧ cause ≠ 5) ∧
    (∃ (s : State), s.hw.boot.dphase = .taken ∧ [0, 1, 2, 3].all (fun (c : Nat) => !(populated s.hw c) || getF s.hw AC_STAT_STATE (inst c) == 0) = true ∧ flagF s.hw SP_PSTAT_PLOSS 0 = false) ∧
    (∃ (u : Nat) (s : State), (unit s.hw u).busy = true ∧ (unit s.hw u).waiting = 0 ∧ u / 0x10 ≠ 0x621 ∧ (∀ k ∈ List.range 4, u = carPath k 0x2F0 → (sv s.hw k).retract = false ∨ headsOut s.hw k = false) ∧ (∀ k ∈ fenceSets u, fenceVal s.hw k < 3)) ∧
    (∃ (s : State), s.hw.pins.sampled = true) ∧
    (∃ (s : State), s.hw.tap.st = .shiftDr) ∧
    (∃ (s : State), s.hw.tap.linkRun = true) :=
  ⟨⟨1, 0x1700, wCus id, by decide +kernel⟩,
    ⟨1, wCus (fun h => onBoot h (fun b => { b with dphase := .taken })), by decide⟩,
    ⟨wCus (fun h => onBoot h (fun b => { b with dphase := .taken })), by decide +kernel⟩,
    ⟨0x1630, wUp (fun h => onUnit h 0x1630 (fun x => { x with busy := true })), by decide⟩,
    ⟨wUp id, by decide⟩,
    ⟨wUp (fun h => { h with tap := { h.tap with st := .shiftDr, drShift := 5 } }), by decide⟩,
    ⟨wUp (fun h => { h with tap := { h.tap with linkRun := true } }), by decide⟩⟩

/-- What `Obligations.DmaChannelsComplete` assumes can be met, clause by clause. -/
theorem witness_DmaChannelsComplete :
    (∃ (n : Nat) (e : Bool) (s : State), n < 32 ∧ controlRefused s.hw n e = true) ∧
    (∃ (n : Nat) (e : Bool) (s : State), n < 32 ∧ controlRefused s.hw n e = true) ∧
    (∃ (n : Nat) (e : Bool) (s : State), n < 32 ∧ controlRefused s.hw n e = true) ∧
    (∃ (n : Nat) (a : Nat) (s : State), 8 ≤ n ∧ n < 32 ∧ dmState s.hw n = 0 ∧ halted s.hw = false ∧ a = getF s.hw DM_COACHL_ADDR (dmd n) / 64 * 64 + 2 ^ 32 * getF s.hw DM_COACHH_ADDR (dmd n) ∧ accessStatus s.hw a 2 true = none ∧ badCart (cartAt s.hw a) = false) ∧
    (∃ (n : Nat) (a : Nat) (s : State), 8 ≤ n ∧ n < 32 ∧ dmState s.hw n = 0 ∧ halted s.hw = false ∧ a = getF s.hw DM_COACHL_ADDR (dmd n) / 64 * 64 + 2 ^ 32 * getF s.hw DM_COACHH_ADDR (dmd n) ∧ accessStatus s.hw a 2 true = none ∧ badCart (cartAt s.hw a) = true) ∧
    (∃ (n : Nat) (x : Cart) (s : State), 8 ≤ n ∧ n < 32 ∧ dmState s.hw n = 3 ∧ halted s.hw = false ∧ (dmaCh s.hw n).cart = some x ∧ badCart x = false) ∧
    (∃ (n : Nat) (s : State), 8 ≤ n ∧ n < 32 ∧ dmState s.hw n = 2 ∧ halted s.hw = false) ∧
    (∃ (n : Nat) (s : State), 8 ≤ n ∧ n < 32 ∧ dmState s.hw n = 1 ∧ halted s.hw = false ∧ (dmaCh s.hw n).after = AfterRec.nothing ∧ (dmaCh s.hw n).lastBeat = none) ∧
    (∃ (n : Nat) (s : State), n < 32 ∧ dmState s.hw n = 1) ∧
    (∃ (n : Nat) (s : State), n < 32 ∧ dmState s.hw n = 0) ∧
    (∃ (n : Nat) (a : Nat) (s : State), 8 ≤ n ∧ n < 32 ∧ dmState s.hw n = 1 ∧ halted s.hw = false ∧ (dmaCh s.hw n).waiting = [] ∧ (dmaCh s.hw n).after = AfterRec.start a ∧ a < 2 ^ 40 ∧ accessStatus s.hw a 2 true = none ∧ badCart (cartAt s.hw a) = false) ∧
    (∃ (n : Nat) (x : Cart) (s : State), 8 ≤ n ∧ n < 32 ∧ dmState s.hw n = 1 ∧ halted s.hw = false ∧ (dmaCh s.hw n).waiting = [] ∧ (dmaCh s.hw n).after = AfterRec.nothing ∧ domainUp s.hw 4 = true ∧ (dmaCh s.hw n).cart = some x ∧ x.len < 2 ^ 25 ∧ 64 ≤ getF s.hw DM_CNT_CNT (dmd n) ∧ getF s.hw DM_CNT_CNT (dmd n) ≤ x.len ∧ cartMode x = 0 ∧ accessStatus s.hw (x.src + (x.len - getF s.hw DM_CNT_CNT (dmd n))) 2 true = none ∧ accessStatus s.hw (x.dst + (x.len - getF s.hw DM_CNT_CNT (dmd n))) 3 false = none) ∧
    (∃ (n : Nat) (x : Cart) (s : State), 8 ≤ n ∧ n < 32 ∧ dmState s.hw n = 1 ∧ halted s.hw = false ∧ (dmaCh s.hw n).waiting = [] ∧ (dmaCh s.hw n).after = AfterRec.nothing ∧ domainUp s.hw 4 = true ∧ (dmaCh s.hw n).cart = some x ∧ x.len < 2 ^ 25 ∧ 64 ≤ getF s.hw DM_CNT_CNT (dmd n) ∧ getF s.hw DM_CNT_CNT (dmd n) ≤ x.len ∧ cartMode x = 3 ∧ accessStatus s.hw (x.dst + (x.len - getF s.hw DM_CNT_CNT (dmd n))) 3 false = none) ∧
    (∃ (n : Nat) (b : Nat) (x : Cart) (s : State), 8 ≤ n ∧ n < 32 ∧ dmState s.hw n = 1 ∧ halted s.hw = false ∧ (dmaCh s.hw n).waiting = [] ∧ (dmaCh s.hw n).after = AfterRec.nothing ∧ (dmaCh s.hw n).cart = some x ∧ getF s.hw DM_CNT_CNT (dmd n) = 0 ∧ flagF s.hw DM_STAT_BELLP (dmd n) = false ∧ cartRec x = false ∧ linkNext x.link = some b) ∧
    (∃ (n : Nat) (x : Cart) (s : State), 8 ≤ n ∧ n < 32 ∧ dmState s.hw n = 1 ∧ halted s.hw = false ∧ (dmaCh s.hw n).waiting = [] ∧ (dmaCh s.hw n).after = AfterRec.nothing ∧ (dmaCh s.hw n).cart = some x ∧ getF s.hw DM_CNT_CNT (dmd n) = 0 ∧ flagF s.hw DM_STAT_BELLP (dmd n) = false ∧ linkNext x.link = none ∧ (dmaCh s.hw n).lastBeat = none) ∧
    (∃ (n : Nat) (r : DmaRec) (base : Nat) (s : State), n < 32 ∧ (dmaCh s.hw n).waiting = [r] ∧ queueFull s.hw n = false ∧ (dmaCh s.hw n).after = AfterRec.park ∧ base = getF s.hw DM_RQBL_BASE (dmd n) / 64 * 64 + 2 ^ 32 * getF s.hw DM_RQBH_BASE (dmd n) + 32 * (getF s.hw DM_RQTAIL_TAIL (dmd n) % queueSize s.hw n) ∧ regionOf base ≠ none ∧ r.status < 8) ∧
    (∃ (n : Nat) (r : DmaRec) (s : State), (dmaCh s.hw n).waiting = [r] ∧ queueFull s.hw n = true) ∧
    (∃ (n : Nat) (st : Nat) (a : Nat) (s : State), 8 ≤ n ∧ n < 32 ∧ dmState s.hw n = 1 ∧ (st = 2 ∨ st = 3) ∧ beatBad s.hw a = true ∧ halted s.hw = false) ∧
    (∃ (s : State), halted s.hw = true ∧ (∀ k ∈ List.range 32, dmState s.hw k = 0)) ∧
    (∃ (n : Nat) (s : State), 8 ≤ n ∧ n < 32 ∧ dmState s.hw n = 0) ∧
    (∃ (n : Nat), 8 ≤ n ∧ n < 32) :=
  ⟨⟨3, false, wUp id, by decide⟩,
    ⟨3, false, wUp id, by decide⟩,
    ⟨3, false, wUp id, by decide⟩,
    ⟨9, 0x100100040, wUp (fun h => setF (setF (memStore h 0x100100040 (leBytes 8 5 ++ leBytes 8 0x109000000 ++ leBytes 4 128 ++ leBytes 4 0xC ++ leBytes 8 0 ++ leBytes 4 0 ++ leBytes 4 0 ++ leBytes 8 77 ++ leBytes 8 1 ++ leBytes 8 0)) DM_COACHL_ADDR (dmd 9) 0x00100040) DM_COACHH_ADDR (dmd 9) 1), by decide +kernel⟩,
    ⟨9, 0x100100040, wUp (fun h => setF (setF h DM_COACHL_ADDR (dmd 9) 0x00100040) DM_COACHH_ADDR (dmd 9) 1), by decide +kernel⟩,
    ⟨9, { src := 0x109000000, dst := 0x10A000000, len := 128, ctl := 0, idx := 0, nidx := 0, esz := 0, tag := 77, link := 1, clean := true }, wUp (fun h => onDma (setF (h) DM_STAT_STATE (dmd 9) 3) 9 (fun c => { c with cart := some { src := 0x109000000, dst := 0x10A000000, len := 128, ctl := 0, idx := 0, nidx := 0, esz := 0, tag := 77, link := 1, clean := true } })), by decide +kernel⟩,
    ⟨9, wUp (fun h => setF (h) DM_STAT_STATE (dmd 9) 2), by decide⟩,
    ⟨9, wUp (fun h => onDma (setF (h) DM_STAT_STATE (dmd 9) 1) 9 (fun c => { c with cart := some { src := 0x109000000, dst := 0x10A000000, len := 128, ctl := 0, idx := 0, nidx := 0, esz := 0, tag := 77, link := 1, clean := true } })), by decide⟩,
    ⟨9, wUp (fun h => setF (h) DM_STAT_STATE (dmd 9) 1), by decide⟩,
    ⟨9, wUp id, by decide⟩,
    ⟨9, 0x100100040, wUp (fun h => onDma (setF (memStore h 0x100100040 (leBytes 8 5 ++ leBytes 8 0x109000000 ++ leBytes 4 128 ++ leBytes 4 0xC ++ leBytes 8 0 ++ leBytes 4 0 ++ leBytes 4 0 ++ leBytes 8 77 ++ leBytes 8 1 ++ leBytes 8 0)) DM_STAT_STATE (dmd 9) 1) 9 (fun c => { c with after := .start 0x100100040 })), by decide +kernel⟩,
    ⟨9, { src := 0x109000000, dst := 0x10A000000, len := 128, ctl := 0, idx := 0, nidx := 0, esz := 0, tag := 77, link := 1, clean := true }, wUp (fun h => setF (onDma (setF (h) DM_STAT_STATE (dmd 9) 1) 9 (fun c => { c with cart := some { src := 0x109000000, dst := 0x10A000000, len := 128, ctl := 0, idx := 0, nidx := 0, esz := 0, tag := 77, link := 1, clean := true } })) DM_CNT_CNT (dmd 9) 64), by decide +kernel⟩,
    ⟨9, { src := 5, dst := 0x10A000000, len := 128, ctl := 12, idx := 0, nidx := 0, esz := 0, tag := 77, link := 1, clean := true }, wUp (fun h => setF (onDma (setF (h) DM_STAT_STATE (dmd 9) 1) 9 (fun c => { c with cart := some { src := 5, dst := 0x10A000000, len := 128, ctl := 12, idx := 0, nidx := 0, esz := 0, tag := 77, link := 1, clean := true } })) DM_CNT_CNT (dmd 9) 64), by decide +kernel⟩,
    ⟨9, 0x100100080, { src := 0x109000000, dst := 0x10A000000, len := 128, ctl := 0, idx := 0, nidx := 0, esz := 0, tag := 77, link := 0x100100080, clean := true }, wUp (fun h => onDma (setF (h) DM_STAT_STATE (dmd 9) 1) 9 (fun c => { c with cart := some { src := 0x109000000, dst := 0x10A000000, len := 128, ctl := 0, idx := 0, nidx := 0, esz := 0, tag := 77, link := 0x100100080, clean := true } })), by decide⟩,
    ⟨9, { src := 0x109000000, dst := 0x10A000000, len := 128, ctl := 0, idx := 0, nidx := 0, esz := 0, tag := 77, link := 1, clean := true }, wUp (fun h => onDma (setF (h) DM_STAT_STATE (dmd 9) 1) 9 (fun c => { c with cart := some { src := 0x109000000, dst := 0x10A000000, len := 128, ctl := 0, idx := 0, nidx := 0, esz := 0, tag := 77, link := 1, clean := true } })), by decide⟩,
    ⟨9, { tag := 77, cart := 0x100100040, done := 128, rem := 0, status := 0 }, 0x100120000, wUp (fun h => setF (setF (onDma (setF (h) DM_STAT_STATE (dmd 9) 1) 9 (fun c => { c with waiting := [{ tag := 77, cart := 0x100100040, done := 128, rem := 0, status := 0 }], after := .park })) DM_RQBL_BASE (dmd 9) 0x120000) DM_RQBH_BASE (dmd 9) 1), by decide +kernel⟩,
    ⟨9, { tag := 77, cart := 0x100100040, done := 128, rem := 0, status := 0 }, wUp (fun h => setF (onDma (setF (h) DM_STAT_STATE (dmd 9) 1) 9 (fun c => { c with waiting := [{ tag := 77, cart := 0x100100040, done := 128, rem := 0, status := 0 }], after := .park })) DM_RQHEAD_HEAD (dmd 9) 1), by decide +kernel⟩,
    ⟨9, 2, 0x109000000, wUp (fun h => onBuffer (setF (h) DM_STAT_STATE (dmd 9) 1) (fun b => { b with poison := [(burstOf 0x109000000, 2)] })), by decide +kernel⟩,
    ⟨wUp (fun h => setF h DM_GSTAT_HALT 0 1), by decide +kernel⟩,
    ⟨9, wUp (fun h => setF h DM_RQTAIL_TAIL (dmd 9) 3), by decide⟩,
    ⟨9, by decide⟩⟩

/-- What `Obligations.MemoryManagerCompletes` assumes can be met, clause by clause. -/
theorem witness_MemoryManagerCompletes :
    (∃ (s : State), domainUp s.hw 4 = true ∧ getF s.hw BM_BKT_NEAR 0 < bucketDepth s.hw ∧ getF s.hw BM_BKT_NEAR 0 < 255) ∧
    (∃ (k : Nat), k < 4) ∧
    (∃ (c : Nat) (r : Nat) (s : State), populated s.hw c = true ∧ r < 7) ∧
    (∃ (a : Nat) (s : State), domainUp s.hw 4 = true ∧ regionOf a = some 2 ∧ zget s.hw.buffer.poison (burstOf a) = 2) ∧
    (∃ (a : Nat) (s : State), domainUp s.hw 4 = true ∧ regionOf a = some 2) ∧
    (∃ (s : State), s.hw.buffer.leakAt + 1000 * max 1 (getF s.hw BM_BKCFG_LEAK 0) ≤ s.hw.log.optime) ∧
    (∃ (s : State), getF s.hw BM_CFG_SCRUBH 0 ≠ 0 ∧ domainUp s.hw 4 = true ∧ getF s.hw BM_BKT_NEAR 0 < bucketDepth s.hw ∧ getF s.hw BM_BKT_NEAR 0 < 255) ∧
    (∃ (a : Nat) (s : State), getF s.hw BM_CFG_SCRUBH 0 ≠ 0 ∧ domainUp s.hw 4 = true ∧ regionOf a = some 2) ∧
    (∃ (s : State), getF s.hw BM_CFG_SCRUBH 0 ≠ 0 ∧ domainUp s.hw 4 = true) ∧
    (∃ (d : Nat) (s : State), d < 2 ∧ domainUp s.hw 4 = true ∧ s.hw.island.mr4Hot = 0) ∧
    (∃ (a : Nat) (x : Cmd) (s : State), s.hw.engine.cmds = [x] ∧ x.verdict = none ∧ x.committed = none ∧ notOwned s.hw x.slot a = true) :=
  ⟨⟨wUp id, by decide⟩,
    ⟨2, by decide⟩,
    ⟨1, 3, wUp id, by decide⟩,
    ⟨0x109000000, wUp (fun h => onBuffer h (fun b => { b with poison := [(burstOf 0x109000000, 2)] })), by decide⟩,
    ⟨0x109000000, wUp id, by decide +kernel⟩,
    ⟨wUp (fun h => onLog (setF h BM_BKT_NEAR 0 7) (fun l => { l with optime := 100000000 })), by decide⟩,
    ⟨wUp (fun h => setF h BM_CFG_SCRUBH 0 24), by decide⟩,
    ⟨0x109000000, wUp (fun h => setF h BM_CFG_SCRUBH 0 24), by decide +kernel⟩,
    ⟨wUp (fun h => setF h BM_CFG_SCRUBH 0 24), by decide⟩,
    ⟨1, wUp id, by decide⟩,
    ⟨0x120000000, { slot := 4, isn := 10, port := 1, sq := 2, cid := 3, opc := 1, nsid := 3, slba := 0, nlb := 1, ordered := false, stage := .ready }, wUp (fun h => onEngine h (fun g => { g with cmds := [{ slot := 4, isn := 10, port := 1, sq := 2, cid := 3, opc := 1, nsid := 3, slba := 0, nlb := 1, ordered := false, stage := .ready }] })), by decide +kernel⟩⟩

/-- What `Obligations.CoresAndCacheComplete` assumes can be met, clause by clause. -/
theorem witness_CoresAndCacheComplete :
    (∃ (k : Nat) (s : State), k < 4 ∧ bitAt (getF s.hw CC_CORE_REL 0) k = false) ∧
    (∃ (k : Nat) (a : Nat) (l : Line) (s : State), k < 4 ∧ (s.hw.cores.get k).running = true ∧ (s.hw.cores.get k).machine = true ∧ (pmpAllows (s.hw.cores.get k) 0 (a / 64 * 64) 64 || pmpAllows (s.hw.cores.get k) 1 (a / 64 * 64) 64) = true ∧ cacheable a = true ∧ s.hw.cluster.misses = [] ∧ s.hw.cluster.lines = [l] ∧ l.line = a / 64 ∧ l.reserved = false ∧ l.dirty = true) ∧
    (∃ (k : Nat) (a : Nat) (l : Line) (s : State), k < 4 ∧ (s.hw.cores.get k).running = true ∧ (s.hw.cores.get k).machine = true ∧ (pmpAllows (s.hw.cores.get k) 0 (a / 64 * 64) 64 || pmpAllows (s.hw.cores.get k) 1 (a / 64 * 64) 64) = true ∧ cacheable a = true ∧ s.hw.cluster.misses = [] ∧ s.hw.cluster.lines = [l] ∧ l.line = a / 64 ∧ l.reserved = false ∧ wayLocked s.hw l.way = false) ∧
    (∃ (k : Nat) (a : Nat) (l : Line) (s : State), k < 4 ∧ (s.hw.cores.get k).running = true ∧ (s.hw.cores.get k).machine = true ∧ (pmpAllows (s.hw.cores.get k) 0 (a / 64 * 64) 64 || pmpAllows (s.hw.cores.get k) 1 (a / 64 * 64) 64) = true ∧ cacheable a = true ∧ s.hw.cluster.misses = [] ∧ s.hw.cluster.lines = [l] ∧ l.line = a / 64 ∧ l.reserved = false ∧ wayLocked s.hw l.way = true) ∧
    (∃ (k : Nat) (a : Nat) (l : Line) (s : State), k < 4 ∧ (s.hw.cores.get k).running = true ∧ (s.hw.cores.get k).machine = true ∧ (pmpAllows (s.hw.cores.get k) 0 (a / 64 * 64) 64 || pmpAllows (s.hw.cores.get k) 1 (a / 64 * 64) 64) = true ∧ cacheable a = true ∧ s.hw.cluster.misses = [] ∧ s.hw.cluster.lines = [l] ∧ l.line = a / 64 ∧ l.reserved = false ∧ l.dirty = true ∧ wayLocked s.hw l.way = false) ∧
    (∃ (s : State), flagF s.hw CC_MSTAT_BUSY 0 = false ∧ s.hw.cluster.lines = [] ∧ s.hw.cluster.victims = [] ∧ s.hw.cluster.misses = []) ∧
    (∃ (s : State), flagF s.hw CC_MSTAT_BUSY 0 = false ∧ s.hw.cluster.lines = [] ∧ s.hw.cluster.victims = [] ∧ s.hw.cluster.misses = []) ∧
    (∃ (s : State), flagF s.hw CC_MSTAT_BUSY 0 = false ∧ s.hw.cluster.lines = [] ∧ s.hw.cluster.victims = [] ∧ s.hw.cluster.misses = []) ∧
    (∃ (s : State), flagF s.hw CC_MSTAT_BUSY 0 = true) ∧
    (∃ (s : State), flagF s.hw CC_MSTAT_BUSY 0 = true) ∧
    (∃ (s : State), flagF s.hw CC_MSTAT_BUSY 0 = true) ∧
    (∃ (k : Nat) (s : State), k < 4 ∧ (s.hw.cores.get k).running = true ∧ cboAllowed (s.hw.cores.get k) 1 = none) ∧
    (∃ (k : Nat) (a : Nat) (op : Nat) (s : State), k < 4 ∧ (s.hw.cores.get k).running = true ∧ cboAllowed (s.hw.cores.get k) 3 = some op ∧ cacheable a = false) ∧
    (∃ (k : Nat) (a : Nat) (size : Nat) (s : State), k < 4 ∧ (s.hw.cores.get k).running = true ∧ cacheable a = true ∧ accessCause s.hw k .load a (min size 64) = none ∧ a % 64 + min size 64 ≤ 64 ∧ (s.hw.cores.get k).l1d.contains (a / 64) = false ∧ findLine s.hw (a / 64) = none ∧ s.hw.cluster.victims = [] ∧ s.hw.cluster.misses = []) ∧
    (∃ (k : Nat) (a : Nat) (m : Miss) (s : State), k < 4 ∧ s.hw.cluster.misses = [m] ∧ m.line = a / 64 ∧ m.reqs = [({ core := k, addr := a, kind := .load, bytes := [] } : CoreReq)] ∧ s.hw.cluster.lines = [] ∧ s.hw.cluster.missWait = [] ∧ beatBad s.hw (64 * (a / 64)) = false ∧ getF s.hw CC_WALLOC_MASK (4 * k) = 0xFFFF ∧ getF s.hw CC_WLOCK_LOCK 0 = 0) ∧
    (∃ (k : Nat) (a : Nat) (size : Nat) (l : Line) (b : List Nat) (s : State), k < 4 ∧ (s.hw.cores.get k).running = true ∧ cacheable a = true ∧ accessCause s.hw k .store a (min size 64) = none ∧ a % 64 + min size 64 ≤ 64 ∧ s.hw.cluster.lines = [l] ∧ l.line = a / 64 ∧ l.reserved = false ∧ b ≠ [] ∧ 0 < size) ∧
    (∃ (k : Nat) (a : Nat) (l : Line) (s : State), k < 4 ∧ s.hw.cluster.lines = [l] ∧ l.line = a / 64 ∧ l.reserved = false ∧ l.dirty = false ∧ wayLocked s.hw l.way = false) ∧
    (∃ (k : Nat) (a : Nat) (s : State), k < 4 ∧ (s.hw.cores.get k).running = true ∧ coreMapped a = false) ∧
    (∃ (k : Nat) (a : Nat) (size : Nat) (cause : Nat) (kind : CoreAccess) (s : State), k < 4 ∧ (s.hw.cores.get k).running = true ∧ accessCause s.hw k kind a (min size 64) = some cause) ∧
    (∃ (k : Nat) (a : Nat) (size : Nat) (kind : CoreAccess) (s : State), k < 4 ∧ (s.hw.cores.get k).running = true ∧ accessCause s.hw k kind a (min size 64) = none ∧ inLocal a = true) ∧
    (∃ (n : Nat), n ≠ 21 ∧ n ≠ 22) ∧
    (∃ (k : Nat), k < 4) ∧
    (∃ (k : Nat) (s : State), k < 4 ∧ bitAt (getF s.hw CC_CORE_REL 0) k = true) :=
  ⟨⟨2, wUp id, by decide⟩,
    ⟨1, 0x1000000C0, { line := 0x4000003, way := 2, dirty := true, reserved := false, data := 99 }, wUp (fun h => onCore (onCluster (h) (fun k => { k with lines := [{ line := 0x4000003, way := 2, dirty := true, reserved := false, data := 99 }] })) 1 (fun c => { c with running := true })), by decide +kernel⟩,
    ⟨1, 0x1000000C0, { line := 0x4000003, way := 2, dirty := true, reserved := false, data := 99 }, wUp (fun h => onCore (onCluster (h) (fun k => { k with lines := [{ line := 0x4000003, way := 2, dirty := true, reserved := false, data := 99 }] })) 1 (fun c => { c with running := true })), by decide +kernel⟩,
    ⟨1, 0x1000000C0, { line := 0x4000003, way := 2, dirty := true, reserved := false, data := 99 }, wUp (fun h => setF (onCore (onCluster (h) (fun k => { k with lines := [{ line := 0x4000003, way := 2, dirty := true, reserved := false, data := 99 }] })) 1 (fun c => { c with running := true })) CC_WLOCK_LOCK 0 4), by decide +kernel⟩,
    ⟨1, 0x1000000C0, { line := 0x4000003, way := 2, dirty := true, reserved := false, data := 99 }, wUp (fun h => onCore (onCluster (h) (fun k => { k with lines := [{ line := 0x4000003, way := 2, dirty := true, reserved := false, data := 99 }] })) 1 (fun c => { c with running := true })), by decide +kernel⟩,
    ⟨wUp id, by decide⟩,
    ⟨wUp id, by decide⟩,
    ⟨wUp id, by decide⟩,
    ⟨wUp (fun h => setF h CC_MSTAT_BUSY 0 1), by decide⟩,
    ⟨wUp (fun h => setF h CC_MSTAT_BUSY 0 1), by decide⟩,
    ⟨wUp (fun h => setF h CC_MSTAT_BUSY 0 1), by decide⟩,
    ⟨1, wUp (fun h => onCore h 1 (fun c => { c with running := true, machine := false })), by decide⟩,
    ⟨1, 0x50000000, 3, wUp (fun h => onCore (h) 1 (fun c => { c with running := true })), by decide⟩,
    ⟨1, 0x1000000C0, 8, wUp (fun h => onCore (h) 1 (fun c => { c with running := true })), by decide +kernel⟩,
    ⟨1, 0x1000000C0, { line := 0x4000003, reqs := [{ core := 1, addr := 0x1000000C0, kind := .load, bytes := [] }] }, wUp (fun h => onCore (onCluster (h) (fun k => { k with misses := [{ line := 0x4000003, reqs := [{ core := 1, addr := 0x1000000C0, kind := .load, bytes := [] }] }] })) 1 (fun c => { c with running := true })), by decide +kernel⟩,
    ⟨1, 0x1000000C8, 2, { line := 0x4000003, way := 2, dirty := false, reserved := false, data := 99 }, [7, 9], wUp (fun h => onCore (onCluster (h) (fun k => { k with lines := [{ line := 0x4000003, way := 2, dirty := false, reserved := false, data := 99 }] })) 1 (fun c => { c with running := true })), by decide +kernel⟩,
    ⟨1, 0x1000000C0, { line := 0x4000003, way := 2, dirty := false, reserved := false, data := 99 }, wUp (fun h => onCluster (h) (fun k => { k with lines := [{ line := 0x4000003, way := 2, dirty := false, reserved := false, data := 99 }] })), by decide +kernel⟩,
    ⟨1, 0x50000000, wUp (fun h => onCore (h) 1 (fun c => { c with running := true })), by decide +kernel⟩,
    ⟨1, 0x40000002, 4, 4, .load, wUp (fun h => onCore (h) 1 (fun c => { c with running := true })), by decide +kernel⟩,
    ⟨1, 0x10000008, 4, .load, wUp (fun h => onCore (h) 1 (fun c => { c with running := true })), by decide +kernel⟩,
    ⟨3, by decide⟩,
    ⟨2, by decide⟩,
    ⟨0, wUp id, by decide⟩⟩

/-- What `Obligations.CipherEngineCompletes` assumes can be met, clause by clause. -/
theorem witness_CipherEngineCompletes :
    (∃ (n : Nat) (g : Nat) (s : State), cipherReady s.hw = true ∧ (hall s.vault n).st = 1 ∧ s.hw.cipher.keys.contains (n, (hall s.vault n).epoch, g) = false) ∧
    (∃ (n : Nat) (g : Nat) (s : State), cipherReady s.hw = true ∧ (hall s.vault n).st = 1 ∧ s.hw.cipher.keys.contains (n, (hall s.vault n).epoch, g) = false ∧ s.hw.cipher.deriveRetry ≠ some (n, g)) ∧
    (∃ (n : Nat) (g : Nat) (s : State), cipherReady s.hw = true ∧ (hall s.vault n).st = 1 ∧ s.hw.cipher.keys.contains (n, (hall s.vault n).epoch, g) = false ∧ s.hw.cipher.deriveRetry = some (n, g)) ∧
    (∃ (x : Cmd) (p : Piece) (s : State), s.hw.engine.cmds = [x] ∧ x.pieces = [p] ∧ cipherReady s.hw = true ∧ x.stage = .ready ∧ x.committed = none ∧ writes x = true ∧ x.opc = 1 ∧ x.inGallery = true ∧ p.st = .waiting ∧ p.cipher ≠ [] ∧ p.cipher.length + 1 < p.count ∧ (hall s.vault x.nsid).st = 1 ∧ hallDue s.vault x.nsid = false ∧ (hall s.vault x.nsid).used < (hall s.vault x.nsid).resv ∧ blockBad s.hw x.slot (lbaOf s.hw p.entry (p.first + p.cipher.length) - x.slba) = false ∧ s.hw.cipher.keys.contains (x.nsid, (hall s.vault x.nsid).epoch, p.kgen) = true) ∧
    (∃ (x : Cmd) (p : Piece) (s : State), s.hw.engine.cmds = [x] ∧ x.pieces = [p] ∧ cipherReady s.hw = true ∧ x.stage = .ready ∧ x.committed = none ∧ s.hw.cipher.retry ≠ some x.slot) ∧
    (∃ (x : Cmd) (p : Piece) (s : State), s.hw.engine.cmds = [x] ∧ x.pieces = [p] ∧ cipherReady s.hw = true ∧ x.stage = .ready ∧ x.committed = none ∧ s.hw.cipher.retry = some x.slot ∧ writes x = true ∧ x.verdict = none) ∧
    (∃ (n : Nat) (u : Nat) (s : State), (hall s.vault n).st = 1 ∧ hallDue s.vault n = false ∧ midPiece s.hw n = false ∧ (unitsWaiting s.hw n).contains u = true ∧ usageLimit s.hw < (hall s.vault n).used + u) ∧
    (∃ (n : Nat) (u : Nat) (s : State), (hall s.vault n).st = 1 ∧ hallDue s.vault n = false ∧ (hall s.vault n).resv < (hall s.vault n).used + u ∧ ((u = 1 ∧ unitWaiting s.hw n = true) ∨ (u = extentBlocks ∧ (unitsWaiting s.hw n).contains extentBlocks = true))) ∧
    (∃ (n : Nat) (x : Hall) (l : List (Nat × Hall)) (s : State), s.vault.due = (n, x) :: l) ∧
    (∃ (n : Nat) (x : Hall) (l : List (Nat × Hall)) (s : State), s.vault.due = (n, x) :: l) ∧
    (∃ (c : Nat) (e : Nat) (n : Nat) (l : List Nat) (s : State), c < 4 ∧ oget s.hw.cipher.running c = none ∧ carFenced s.hw c = false ∧ cipherReady s.hw = true ∧ lget s.hw.cipher.queued c = e :: l ∧ n = (extent s.hw e).nsid ∧ n ≠ 0 ∧ e < 2 ^ 16 ∧ (hall s.vault n).st = 1 ∧ hallDue s.vault n = false ∧ midPiece s.hw n = false ∧ (hall s.vault n).used + extentBlocks ≤ usageLimit s.hw ∧ (hall s.vault n).used + extentBlocks ≤ (hall s.vault n).resv) ∧
    (∃ (c : Nat) (gap : Nat) (fails : List Nat) (r : Rekey) (w : LandPlaces) (s : State), c < 4 ∧ oget s.hw.cipher.running c = some r ∧ r.durable < 4096 ∧ carFenced s.hw c = false ∧ cipherReady s.hw = true ∧ 131 ≤ landFree s.hw c ∧ writerFree s.hw c = true ∧ indexUsed s.hw c < 32768 ∧ placeLanding s.hw c 64 fails gap = some w ∧ s.hw.engine.cmds = [] ∧ lseq s.hw c + 1 < 2 ^ 64) ∧
    (∃ (c : Nat) (r : Rekey) (s : State), c < 4 ∧ oget s.hw.cipher.running c = some r ∧ 4096 ≤ r.durable ∧ carFenced s.hw c = false) ∧
    (∃ (n : Nat) (s : State), s.hw.cipher.advance = none ∧ wantsAdvance s.hw n = true ∧ hallDue s.vault n = false) ∧
    (∃ (n : Nat) (s : State), s.hw.cipher.advance = some ({ nsid := n, step := 3 } : Advance) ∧ hallDue s.vault n = false) ∧
    (∃ (n : Nat) (s : State), s.hw.cipher.advance = some ({ nsid := n, step := 4 } : Advance) ∧ hallDue s.vault n = false ∧ (hall s.vault n).st = 1) ∧
    (∃ (sess : Nat) (first : Nat) (k : Nat) (s : State), first < 8 ∧ blockStatus s.hw sess 0x1630 0x010 0 first 40 true false = 0 ∧ roleKey s.hw 2 = some k ∧ roleOf s.hw sess ≠ 3 ∧ sessionBusy s.hw sess = false) ∧
    (∃ (s : State), s.hw.engine.lossHold = true ∧ flagF s.hw CY_MSTAT_PLW 0 = false ∧ getF s.hw SP_PSTAT_CAUSE 0 = 1 ∧ domainUp s.hw 5 = true) :=
  ⟨⟨3, 4, { wUp (fun h => h) with vault := { halls := [(3, { st := 1, epoch := 2, wgen := 4, used := 5, resv := 1048576 })] } }, by decide +kernel⟩,
    ⟨3, 4, { wUp (fun h => h) with vault := { halls := [(3, { st := 1, epoch := 2, wgen := 4, used := 5, resv := 1048576 })] } }, by decide +kernel⟩,
    ⟨3, 4, { wUp (fun h => onCipher (h) (fun k => { k with deriveRetry := some (3, 4) })) with vault := { halls := [(3, { st := 1, epoch := 2, wgen := 4, used := 5, resv := 1048576 })] } }, by decide +kernel⟩,
    ⟨{ slot := 4, isn := 10, port := 1, sq := 2, cid := 3, opc := 1, nsid := 3, slba := 0, nlb := 2, ordered := false, stage := .ready, inGallery := true, blocks := [(0, some 5), (1, some 6)], pieces := [{ entry := 7, first := 0, count := 3, path := .landing, kgen := 4, cipher := [9] }] }, { entry := 7, first := 0, count := 3, path := .landing, kgen := 4, cipher := [9] }, { wUp (fun h => onCipher (onEngine (h) (fun g => { g with cmds := [{ slot := 4, isn := 10, port := 1, sq := 2, cid := 3, opc := 1, nsid := 3, slba := 0, nlb := 2, ordered := false, stage := .ready, inGallery := true, blocks := [(0, some 5), (1, some 6)], pieces := [{ entry := 7, first := 0, count := 3, path := .landing, kgen := 4, cipher := [9] }] }], extents := [(7, { nsid := 3, car := 1, head := 2, eidx := 0, kgen := 4, retired := false })] })) (fun k => { k with keys := [(3, 2, 4)] })) with vault := { halls := [(3, { st := 1, epoch := 2, wgen := 4, used := 5, resv := 1048576 })] } }, by decide +kernel⟩,
    ⟨{ slot := 4, isn := 10, port := 1, sq := 2, cid := 3, opc := 1, nsid := 3, slba := 0, nlb := 2, ordered := false, stage := .ready, inGallery := true, blocks := [(0, some 5), (1, some 6)], pieces := [{ entry := 7, first := 0, count := 3, path := .landing, kgen := 4, cipher := [9] }] }, { entry := 7, first := 0, count := 3, path := .landing, kgen := 4, cipher := [9] }, { wUp (fun h => onEngine (h) (fun g => { g with cmds := [{ slot := 4, isn := 10, port := 1, sq := 2, cid := 3, opc := 1, nsid := 3, slba := 0, nlb := 2, ordered := false, stage := .ready, inGallery := true, blocks := [(0, some 5), (1, some 6)], pieces := [{ entry := 7, first := 0, count := 3, path := .landing, kgen := 4, cipher := [9] }] }] })) with vault := { halls := [(3, { st := 1, epoch := 2, wgen := 4, used := 5, resv := 1048576 })] } }, by decide +kernel⟩,
    ⟨{ slot := 4, isn := 10, port := 1, sq := 2, cid := 3, opc := 1, nsid := 3, slba := 0, nlb := 2, ordered := false, stage := .ready, inGallery := true, blocks := [(0, some 5), (1, some 6)], pieces := [{ entry := 7, first := 0, count := 3, path := .landing, kgen := 4, cipher := [9] }] }, { entry := 7, first := 0, count := 3, path := .landing, kgen := 4, cipher := [9] }, { wUp (fun h => onCipher (onEngine (h) (fun g => { g with cmds := [{ slot := 4, isn := 10, port := 1, sq := 2, cid := 3, opc := 1, nsid := 3, slba := 0, nlb := 2, ordered := false, stage := .ready, inGallery := true, blocks := [(0, some 5), (1, some 6)], pieces := [{ entry := 7, first := 0, count := 3, path := .landing, kgen := 4, cipher := [9] }] }] })) (fun k => { k with retry := some 4 })) with vault := { halls := [(3, { st := 1, epoch := 2, wgen := 4, used := 5, resv := 1048576 })] } }, by decide +kernel⟩,
    ⟨3, 262144, { wUp (fun h => setLive (onCipher (onEngine (h) (fun g => { g with extents := [(7, { nsid := 3, car := 1, head := 2, eidx := 0, kgen := 4, retired := false })] })) (fun k => { k with queued := [(1, [7])] })) 0x1600 0x010 0 100) with vault := { halls := [(3, { st := 1, epoch := 2, wgen := 4, used := 5, resv := 1048576 })] } }, by decide +kernel⟩,
    ⟨3, 262144, { wUp (fun h => onCipher (onEngine (h) (fun g => { g with extents := [(7, { nsid := 3, car := 1, head := 2, eidx := 0, kgen := 4, retired := false })] })) (fun k => { k with queued := [(1, [7])] })) with vault := { halls := [(3, { st := 1, epoch := 2, wgen := 4, used := 5, resv := 6 })] } }, by decide⟩,
    ⟨3, { st := 1, epoch := 3 }, [], { wUp (fun h => h) with vault := { halls := [(3, { st := 1, epoch := 2, wgen := 4, used := 5, resv := 1048576 })], due := [(3, { st := 1, epoch := 3 })] } }, by decide⟩,
    ⟨3, { st := 1, epoch := 3 }, [], { wUp (fun h => h) with vault := { halls := [(3, { st := 1, epoch := 2, wgen := 4, used := 5, resv := 1048576 })], due := [(3, { st := 1, epoch := 3 })] } }, by decide⟩,
    ⟨1, 7, 3, [], { wUp (fun h => setLive (onCipher (onEngine (h) (fun g => { g with extents := [(7, { nsid := 3, car := 1, head := 2, eidx := 0, kgen := 4, retired := false })] })) (fun k => { k with queued := [(1, [7])] })) 0x1600 0x010 0 68719476736) with vault := { halls := [(3, { st := 1, epoch := 2, wgen := 4, used := 5, resv := 1048576 })] } }, by decide +kernel⟩,
    ⟨1, 0, [], { entry := 7, nsid := 3, target := 4, durable := 4095 }, { data := List.range 64, pos := 64, failed := [], fillers := [] }, { wUp (fun h => onCipher (onEngine (h) (fun g => { g with extents := [(7, { nsid := 3, car := 1, head := 2, eidx := 0, kgen := 4, retired := false })] })) (fun k => { k with running := [(1, some { entry := 7, nsid := 3, target := 4, durable := 4095 })] })) with vault := { halls := [(3, { st := 1, epoch := 2, wgen := 4, used := 5, resv := 1048576 })] } }, by decide +kernel⟩,
    ⟨1, { entry := 7, nsid := 3, target := 4, durable := 4096 }, { wUp (fun h => onCipher (onEngine (h) (fun g => { g with extents := [(7, { nsid := 3, car := 1, head := 2, eidx := 0, kgen := 4, retired := false })] })) (fun k => { k with running := [(1, some { entry := 7, nsid := 3, target := 4, durable := 4096 })] })) with vault := { halls := [(3, { st := 1, epoch := 2, wgen := 4, used := 5, resv := 1048576 })] } }, by decide⟩,
    ⟨3, { wUp (fun h => onCipher (onEngine (h) (fun g => { g with oper := some { kind := .format, nsid := 3, started := true, step := 1 } })) (fun k => { k with keys := [(3, 2, 4)] })) with vault := { halls := [(3, { st := 1, epoch := 2, wgen := 4, used := 5, resv := 1048576 })] } }, by decide⟩,
    ⟨3, { wUp (fun h => onCipher (h) (fun k => { k with advance := some { nsid := 3, step := 3 } })) with vault := { halls := [(3, { st := 1, epoch := 2, wgen := 4, used := 5, resv := 1048576 })] } }, by decide⟩,
    ⟨3, { wUp (fun h => onCipher (h) (fun k => { k with advance := some { nsid := 3, step := 4 } })) with vault := { halls := [(3, { st := 1, epoch := 2, wgen := 4, used := 5, resv := 1048576 })] } }, by decide⟩,
    ⟨5, 1, 7, wCus (fun h => setSec (onCipher h (fun k => { k with custodian := { inForce := true, key := 7 } })) 1 1 5), by decide⟩,
    ⟨{ wUp (fun h => setF (onEngine (h) (fun g => { g with lossHold := true })) SP_PSTAT_CAUSE 0 1) with vault := { halls := [(3, { st := 1, epoch := 2, wgen := 4, used := 5, resv := 1048576 })] } }, by decide⟩⟩

/-- What `Obligations.TwinCommandsComplete` assumes can be met, clause by clause. -/
theorem witness_TwinCommandsComplete :
    (∃ (p : Nat) (s : State), adminUp s.hw p = true) ∧
    (∃ (p : Nat) (s : State), adminUp s.hw p = true ∧ twinRole s.hw = 0) ∧
    (∃ (p : Nat) (s : State), adminUp s.hw p = true ∧ twinRole s.hw ≠ 0 ∧ twinState s.hw = 2) ∧
    (∃ (p : Nat) (page : List (BitVec 8)) (s : State), adminUp s.hw p = true ∧ twinRole s.hw ≠ 0 ∧ twinState s.hw = 0 ∧ cleanPage page = true ∧ pageField page 0x10 8 % 0x1000000 = 0 ∧ s.hw.twin.nonce = none) ∧
    (∃ (p : Nat) (page : List (BitVec 8)) (s : State), adminUp s.hw p = true ∧ twinRole s.hw ≠ 0 ∧ twinState s.hw = 0 ∧ cleanPage page = false) ∧
    (∃ (p : Nat) (v : Nat) (k : Nat) (page : List (BitVec 8)) (s : State), adminUp s.hw p = true ∧ twinRole s.hw ≠ 0 ∧ twinState s.hw = 0 ∧ cleanPage page = true ∧ pageField page 0x10 8 % 0x1000000 = 0 ∧ s.hw.twin.nonce = some ({ value := v, made := s.hw.log.optime } : Nonce) ∧ roleKey s.hw 2 = some k ∧ pageField page 0x20 16 = tagOf k (pairMessage v Config.deviceId (pageField page 8 8) (pageField page 0x10 8))) ∧
    (∃ (cid : Nat) (w : Nat) (s : State), twinState s.hw = 1 ∧ s.hw.twin.pairing = some (cid, w) ∧ w + 2000 ≤ s.hw.log.optime) ∧
    (∃ (s : State), twinState s.hw = 3 ∧ s.hw.twin.helloAt = none ∧ s.hw.twin.outbox = [] ∧ s.hw.twin.tailOut % inboxRing + 128 ≤ inboxRing ∧ s.hw.twin.tailOut + 128 ≤ partnerHead s.hw + inboxRing) ∧
    (∃ (f : TwinFrame) (cid : Nat) (w : Nat) (k : Nat) (s : State), twinState s.hw = 1 ∧ s.hw.twin.pairing = some (cid, w) ∧ helloKey s.hw = some k ∧ f.tag ≠ helloTag k f ∧ pageField f.payload 0 8 = s.hw.twin.pdid) ∧
    (∃ (f : TwinFrame) (k : Nat) (s : State), twinState s.hw = 1 ∧ s.hw.twin.sentConfirm = false ∧ s.hw.twin.gotConfirm = false ∧ helloKey s.hw = some k ∧ f.tag = helloTag k f ∧ pageField f.payload 0 8 = s.hw.twin.pdid ∧ pageField f.payload 0x20 8 = Config.deviceId ∧ pageField f.payload 8 1 ≠ twinRole s.hw ∧ (pageField f.payload 8 1 = 1 ∨ pageField f.payload 8 1 = 2)) ∧
    (∃ (f : TwinFrame) (text : List (BitVec 8)) (s : State), twinState s.hw = 3 ∧ openFrame s.hw 2 f = some text ∧ f.mseq = s.hw.twin.mseqIn + 1 ∧ s.hw.twin.sentConfirm = true) ∧
    (∃ (f : TwinFrame) (s : State), ((twinState s.hw = 2 ∨ twinState s.hw = 4)) ∧ s.hw.twin.kpair ≠ none ∧ f.mseq ≠ s.hw.twin.mseqIn + 1) ∧
    (∃ (s : State), twinState s.hw ≠ 0 ∧ s.hw.twin.outbox = []) ∧
    (∃ (s : State), ((twinState s.hw = 2 ∨ twinState s.hw = 4)) ∧ s.hw.twin.beatTime + liveVal s.hw 0x0000 0x021 0 ≤ s.hw.log.optime) ∧
    (∃ (e : Nat) (w : Nat) (s : State), oget s.hw.twin.unsettled e = some w ∧ s.hw.twin.unacked = [] ∧ w + 1000 ≤ s.hw.log.optime) ∧
    (∃ (s : State), s.hw.twin.helloSince + 2000 ≤ s.hw.log.optime) ∧
    (∃ (s : State), twinState s.hw ≠ 0) ∧
    (∃ (p : Nat) (s : State), adminUp s.hw p = true ∧ twinRole s.hw ≠ 0 ∧ twinState s.hw = 0) ∧
    (∃ (p : Nat) (s : State), adminUp s.hw p = true ∧ twinRole s.hw ≠ 0 ∧ twinState s.hw = 3 ∧ flagF s.hw HQ_TWIN_PEERUP 0 = false) ∧
    (∃ (p : Nat) (s : State), adminUp s.hw p = true ∧ twinRole s.hw ≠ 0 ∧ twinState s.hw = 2 ∧ divergentEntries s.hw ≠ []) ∧
    (∃ (p : Nat) (s : State), adminUp s.hw p = true ∧ twinRole s.hw ≠ 0 ∧ twinState s.hw = 4 ∧ s.hw.twin.inFlight = []) ∧
    (∃ (p : Nat) (s : State), adminUp s.hw p = true ∧ twinRole s.hw ≠ 0 ∧ twinState s.hw = 3) :=
  ⟨⟨1, wUp (fun h => onPort (h) 1 (fun x => { x with rdy := true, en := true, configured := true })), by decide⟩,
    ⟨1, wUp (fun h => onPort ({ h with pins := { wPins with strap := 0x012D } }) 1 (fun x => { x with rdy := true, en := true, configured := true })), by decide⟩,
    ⟨1, wUp (fun h => onPort (setF (h) HQ_TWIN_STATE 0 2) 1 (fun x => { x with rdy := true, en := true, configured := true })), by decide⟩,
    ⟨1, wPage, wUp (fun h => onPort (h) 1 (fun x => { x with rdy := true, en := true, configured := true })), by decide⟩,
    ⟨1, [], wUp (fun h => onPort (h) 1 (fun x => { x with rdy := true, en := true, configured := true })), by decide⟩,
    ⟨1, 4, 7, wPage, wUp (fun h => onPort (onCipher (onTwin (h) (fun x => { x with nonce := some { value := 4, made := 0 } })) (fun k => { k with custodian := { inForce := true, key := 7 } })) 1 (fun x => { x with rdy := true, en := true, configured := true })), by exact ⟨by decide, by decide, by decide, by decide, by decide, by decide, by decide, wPage_tag⟩⟩,
    ⟨9, 0, wUp (fun h => onLog (onTwin (setF (h) HQ_TWIN_STATE 0 1) (fun x => { x with pdid := 77, nonceOwn := 5, pairing := some (9, 0), port := 1 })) (fun l => { l with optime := 2000 })), by decide⟩,
    ⟨wUp (fun h => onTwin (setF (h) HQ_TWIN_STATE 0 3) (fun x => { x with pdid := 77 })), by decide +kernel⟩,
    ⟨wHello 1, 9, 0, 7, wUp (fun h => onCipher (onTwin (setF (h) HQ_TWIN_STATE 0 1) (fun x => { x with pdid := 77, nonceOwn := 5, pairing := some (9, 0), port := 1 })) (fun k => { k with custodian := { inForce := true, key := 7 } })), by exact ⟨by decide, by decide, by decide, Nat.succ_ne_self _, by decide⟩⟩,
    ⟨wHello 0, 7, wUp (fun h => onCipher (onTwin (setF (h) HQ_TWIN_STATE 0 1) (fun x => { x with pdid := 77, nonceOwn := 5, pairing := some (9, 0), port := 1 })) (fun k => { k with custodian := { inForce := true, key := 7 } })), by exact ⟨by decide, by decide, by decide, by decide, rfl, by decide, wHello_did 0, by decide, by decide⟩⟩,
    ⟨sealFrame wSecond 2 (wFrame 0 7 0 0 0 []), [], wUp (fun h => onTwin (setF (h) HQ_TWIN_STATE 0 3) (fun x => { x with kpair := some 9, mseqIn := 6, sentConfirm := true })), by refine ⟨by decide, openFrame_sealFrame wSecond _ 2 _ (by decide) 9 rfl rfl (by decide), by decide, by decide⟩⟩,
    ⟨wFrame 0 9 0 0 0 [], wUp (fun h => onTwin (onEngine (setF (h) HQ_TWIN_STATE 0 2) (fun g => { g with extents := [(7, { nsid := 3, car := 1, head := 2, eidx := 0, mirrored := true, retired := false })] })) (fun x => { x with kpair := some 9, mseqIn := 6, unacked := [{ mseq := 5, entry := 7, sent := 1 }] })), by decide⟩,
    ⟨wUp (fun h => setF (h) HQ_TWIN_STATE 0 2), by decide⟩,
    ⟨wUp (fun h => onTwin (onLog (onEngine (setF (h) HQ_TWIN_STATE 0 2) (fun g => { g with extents := [(7, { nsid := 3, car := 1, head := 2, eidx := 0, mirrored := true, retired := false })] })) (fun l => { l with optime := 5000 })) (fun x => { x with unacked := [{ mseq := 5, entry := 7, sent := 1 }] })), by decide⟩,
    ⟨7, 0, wUp (fun h => onLog (onTwin (h) (fun x => { x with unsettled := [(7, some 0)] })) (fun l => { l with optime := 1000 })), by decide⟩,
    ⟨wUp (fun h => onLog (onTwin (h) (fun x => { x with helloWait := true })) (fun l => { l with optime := 2000 })), by decide⟩,
    ⟨wUp (fun h => setF (h) HQ_TWIN_STATE 0 3), by decide⟩,
    ⟨1, wUp (fun h => onPort (h) 1 (fun x => { x with rdy := true, en := true, configured := true })), by decide⟩,
    ⟨1, wUp (fun h => onPort (setF (h) HQ_TWIN_STATE 0 3) 1 (fun x => { x with rdy := true, en := true, configured := true })), by decide⟩,
    ⟨1, wUp (fun h => onPort (onEngine (setF (h) HQ_TWIN_STATE 0 2) (fun g => { g with extents := [(7, { nsid := 3, car := 1, head := 2, eidx := 0, divergent := true, retired := false })] })) 1 (fun x => { x with rdy := true, en := true, configured := true })), by decide⟩,
    ⟨1, wUp (fun h => onPort (setF (h) HQ_TWIN_STATE 0 4) 1 (fun x => { x with rdy := true, en := true, configured := true })), by decide⟩,
    ⟨1, wUp (fun h => onPort (setF (h) HQ_TWIN_STATE 0 3) 1 (fun x => { x with rdy := true, en := true, configured := true })), by decide⟩⟩

/-- What `Obligations.TwinMessagesComplete` assumes can be met, clause by clause. -/
theorem witness_TwinMessagesComplete :
    (∃ (s : State), twinState s.hw ≠ 0 ∧ s.hw.twin.headOut % inboxRing ≠ 0) ∧
    (∃ (f : TwinFrame) (text : List (BitVec 8)) (s : State), ((twinState s.hw = 2 ∨ twinState s.hw = 4)) ∧ openFrame s.hw 3 f = some text ∧ f.mseq = s.hw.twin.mseqIn + 1 ∧ f.count ≠ 0 ∧ f.count ≤ 64 ∧ f.slba + f.count ≤ (space s.hw f.nsid).size ∧ text.length = writePlen s.hw f.nsid f.count ∧ s.hw.engine.cmds = []) ∧
    (∃ (f : TwinFrame) (text : List (BitVec 8)) (s : State), ((twinState s.hw = 2 ∨ twinState s.hw = 4)) ∧ openFrame s.hw 3 f = some text ∧ f.mseq = s.hw.twin.mseqIn + 1 ∧ f.count = 0 ∧ inboxHeld s.hw = false ∧ s.hw.twin.acks = [] ∧ s.hw.twin.outbox = []) ∧
    (∃ (f : TwinFrame) (text : List (BitVec 8)) (u : Unacked) (s : State), ((twinState s.hw = 2 ∨ twinState s.hw = 4)) ∧ openFrame s.hw 4 f = some text ∧ f.mseq = s.hw.twin.mseqIn + 1 ∧ s.hw.twin.unacked = [u] ∧ s.hw.twin.inFlight = [] ∧ u.mseq < 2 ^ 63 ∧ oget s.hw.twin.unsettled u.entry = some 0 ∧ numbersOf 8 (min 512 (pageField text 0 4)) (text.drop 8) = [u.mseq]) ∧
    (∃ (f : TwinFrame) (text : List (BitVec 8)) (u : Unacked) (s : State), ((twinState s.hw = 2 ∨ twinState s.hw = 4)) ∧ openFrame s.hw 4 f = some text ∧ f.mseq = s.hw.twin.mseqIn + 1 ∧ s.hw.twin.unacked = [u] ∧ s.hw.twin.inFlight = [] ∧ u.mseq < 2 ^ 63 ∧ numbersOf 8 (min 512 (pageField text 0 4)) (text.drop 8) = [u.mseq + 2 ^ 63]) ∧
    (∃ (f : TwinFrame) (text : List (BitVec 8)) (r : StateRecord) (s : State), ((twinState s.hw = 2 ∨ twinState s.hw = 4)) ∧ openFrame s.hw 5 f = some text ∧ f.mseq = s.hw.twin.mseqIn + 1 ∧ twinRole s.hw = 2 ∧ stateRecord text = r ∧ r.op = 0 ∧ (space s.hw r.nsid).size ≠ 0 ∧ s.hw.twin.acks = [] ∧ s.hw.twin.outbox = []) ∧
    (∃ (f : TwinFrame) (text : List (BitVec 8)) (s : State), ((twinState s.hw = 2 ∨ twinState s.hw = 4)) ∧ openFrame s.hw 6 f = some text ∧ f.mseq = s.hw.twin.mseqIn + 1 ∧ twinRole s.hw = 2 ∧ text.length = 64) ∧
    (∃ (f : TwinFrame) (text : List (BitVec 8)) (s : State), twinState s.hw = 2 ∧ openFrame s.hw 7 f = some text ∧ f.mseq = s.hw.twin.mseqIn + 1 ∧ f.count ≠ 0 ∧ f.count ≤ 64 ∧ f.slba + f.count ≤ (space s.hw f.nsid).size ∧ text.length = writePlen s.hw f.nsid f.count ∧ s.hw.engine.cmds = []) ∧
    (∃ (f : TwinFrame) (text : List (BitVec 8)) (s : State), ((twinState s.hw = 2 ∨ twinState s.hw = 4)) ∧ openFrame s.hw 8 f = some text ∧ f.mseq = s.hw.twin.mseqIn + 1) ∧
    (∃ (e : Nat) (s : State), twinState s.hw = 4 ∧ flagF s.hw HQ_TWIN_SRC 0 = true ∧ s.hw.twin.stopping = false ∧ (extent s.hw e).nsid ≠ 0 ∧ isWalked s.hw e = true ∧ s.hw.twin.inFlight = [] ∧ carFenced s.hw (extent s.hw e).car = false ∧ backgroundAllowed s.hw (extent s.hw e).car = true ∧ s.hw.engine.cmds = [] ∧ cipherReady s.hw = true ∧ (extent s.hw e).car < 4) :=
  ⟨⟨wUp (fun h => onTwin (setF (h) HQ_TWIN_STATE 0 2) (fun x => { x with headOut := 128 })), by decide⟩,
    ⟨sealFrame wSecond 3 (wFrame 1 7 3 1 0 (zeros 4096)), zeros 4096, wUp (fun h => onTwin (onEngine (setF (h) HQ_TWIN_STATE 0 2) (fun g => { g with spaces := [(3, { size := 262144 })] })) (fun x => { x with kpair := some 9, mseqIn := 6 })), by refine ⟨by decide, openFrame_sealFrame wSecond _ 3 _ (by decide) 9 rfl rfl (by decide), by decide, by decide, by decide, by decide +kernel, by decide +kernel, by decide⟩⟩,
    ⟨sealFrame wSecond 3 (wFrame 1 7 3 0 0 []), [], wUp (fun h => onTwin (setF (h) HQ_TWIN_STATE 0 2) (fun x => { x with kpair := some 9, mseqIn := 6 })), by refine ⟨by decide, openFrame_sealFrame wSecond _ 3 _ (by decide) 9 rfl rfl (by decide), by decide, by decide, by decide, by decide, by decide⟩⟩,
    ⟨sealFrame wSecond 4 (wFrame 0 7 0 0 0 (leBytes 4 1 ++ leBytes 4 0 ++ leBytes 8 5)), leBytes 4 1 ++ leBytes 4 0 ++ leBytes 8 5, { mseq := 5, entry := 7, sent := 1 }, wUp (fun h => onTwin (setF (h) HQ_TWIN_STATE 0 2) (fun x => { x with kpair := some 9, mseqIn := 6, unacked := [{ mseq := 5, entry := 7, sent := 1 }], unsettled := [(7, some 0)] })), by refine ⟨by decide, openFrame_sealFrame wSecond _ 4 _ (by decide) 9 rfl rfl (by decide), by decide, by decide, by decide, by decide, by decide, by decide⟩⟩,
    ⟨sealFrame wSecond 4 (wFrame 0 7 0 0 0 (leBytes 4 1 ++ leBytes 4 0 ++ leBytes 8 (5 + 2 ^ 63))), leBytes 4 1 ++ leBytes 4 0 ++ leBytes 8 (5 + 2 ^ 63), { mseq := 5, entry := 7, sent := 1 }, wUp (fun h => onTwin (setF (h) HQ_TWIN_STATE 0 2) (fun x => { x with kpair := some 9, mseqIn := 6, unacked := [{ mseq := 5, entry := 7, sent := 1 }], unsettled := [(7, some 0)] })), by refine ⟨by decide, openFrame_sealFrame wSecond _ 4 _ (by decide) 9 rfl rfl (by decide), by decide, by decide, by decide, by decide, by decide⟩⟩,
    ⟨sealFrame wFirst 5 (wFrame 0 7 0 0 0 (stateBytes 3 0 [] { size := 262144, rtype := 1, holder := 1, rgen := 5 })), stateBytes 3 0 [] { size := 262144, rtype := 1, holder := 1, rgen := 5 }, stateRecord (stateBytes 3 0 [] { size := 262144, rtype := 1, holder := 1, rgen := 5 }), wUp (fun h => onTwin (onEngine (setF ({ h with pins := { wPins with strap := 0x36ED2D } }) HQ_TWIN_STATE 0 2) (fun g => { g with spaces := [(3, { size := 262144 })] })) (fun x => { x with kpair := some 9, mseqIn := 6 })), by refine ⟨by decide, openFrame_sealFrame wFirst _ 5 _ (by decide) 9 rfl rfl (by decide), by decide, by decide, rfl, by decide, by decide, by decide, by decide⟩⟩,
    ⟨sealFrame wFirst 6 (wFrame 0 7 0 0 0 (leBytes 8 9 ++ leBytes 48 0 ++ leBytes 8 3)), leBytes 8 9 ++ leBytes 48 0 ++ leBytes 8 3, wUp (fun h => onTwin (setF ({ h with pins := { wPins with strap := 0x36ED2D } }) HQ_TWIN_STATE 0 2) (fun x => { x with kpair := some 9, mseqIn := 6 })), by refine ⟨by decide, openFrame_sealFrame wFirst _ 6 _ (by decide) 9 rfl rfl (by decide), by decide, by decide, by decide⟩⟩,
    ⟨sealFrame wSecond 7 (wFrame 1 7 3 1 0 (zeros 4096)), zeros 4096, wUp (fun h => onTwin (onEngine (setF (h) HQ_TWIN_STATE 0 2) (fun g => { g with spaces := [(3, { size := 262144 })] })) (fun x => { x with kpair := some 9, mseqIn := 6 })), by refine ⟨by decide, openFrame_sealFrame wSecond _ 7 _ (by decide) 9 rfl rfl (by decide), by decide, by decide, by decide, by decide +kernel, by decide +kernel, by decide⟩⟩,
    ⟨sealFrame wSecond 8 (wFrame 0 7 0 0 0 []), [], wUp (fun h => onTwin (setF (h) HQ_TWIN_STATE 0 2) (fun x => { x with kpair := some 9, mseqIn := 6 })), by refine ⟨by decide, openFrame_sealFrame wSecond _ 8 _ (by decide) 9 rfl rfl (by decide), by decide⟩⟩,
    ⟨7, wUp (fun h => setF (onEngine (setF (h) HQ_TWIN_STATE 0 4) (fun g => { g with extents := [(7, { nsid := 3, car := 1, head := 2, eidx := 0, divergent := true, retired := false })] })) HQ_TWIN_SRC 0 1), by decide +kernel⟩⟩

/-- What `Obligations.FaultsAndTemperaturesComplete` assumes can be met, clause by clause. -/
theorem witness_FaultsAndTemperaturesComplete :
    (∃ (u : Nat) (k : Nat) (s : State), isLeaf u = true ∧ absent s.hw u = false ∧ k < 15 ∧ k ≠ 1 ∧ k ≠ 5 ∧ reaction u k = .record) ∧
    (∃ (u : Nat) (k : Nat) (s : State), isLeaf u = true ∧ absent s.hw u = false ∧ k < 15 ∧ k ≠ 1 ∧ effective s.hw u (reaction u k) = .s2 ∧ fenced s.hw u = false ∧ (unit s.hw u).busy = false) ∧
    (∃ (u : Nat) (k : Nat) (s : State), isLeaf u = true ∧ absent s.hw u = false ∧ k < 15 ∧ k ≠ 1 ∧ reaction u k = .fence ∧ fenceIsStair3 s.hw u = false ∧ fenced s.hw u = false ∧ (unit s.hw u).busy = false ∧ fenceVal s.hw (fenceKey u) = 0) ∧
    (∃ (s : State), flagF s.hw TH_HBSTAT_ARMED 0 = false) ∧
    (∃ (key : Nat) (s : State), flagF s.hw TH_HBSTAT_ARMED 0 = true ∧ s.hw.pins.resetIn = true ∧ key % 256 = getF s.hw TH_HBSTAT_NEXT 0 ∧ s.hw.island.alive = .notStarted) ∧
    (∃ (key : Nat) (s : State), flagF s.hw TH_HBSTAT_ARMED 0 = true ∧ s.hw.pins.resetIn = true ∧ key % 256 ≠ getF s.hw TH_HBSTAT_NEXT 0 ∧ s.hw.island.stopDue = 0 ∧ s.hw.island.alive = .toggling ∧ s.hw.boot.dphase = .idle ∧ s.hw.boot.mediaMs ≠ 0) ∧
    (∃ (s : State), flagF s.hw TH_HBSTAT_ARMED 0 = true ∧ s.hw.island.beatAt + 100 ≤ s.hw.log.optime ∧ s.hw.island.beaten = false ∧ s.hw.boot.failedStarts < 2) ∧
    (∃ (s : State), flagF s.hw TH_HBSTAT_ARMED 0 = true ∧ s.hw.island.beatAt + 100 ≤ s.hw.log.optime ∧ s.hw.island.beaten = true ∧ s.hw.boot.dphase = .idle ∧ s.hw.boot.mediaMs ≠ 0) ∧
    (∃ (s : State), s.hw.island.stopDue ≠ 0 ∧ s.hw.island.stopAt + 2 ≤ s.hw.log.optime) ∧
    (∃ (die : Nat) (raw : Int) (s : State), supervised s.hw die = true ∧ flagF s.hw TH_FORCE_FEN (inst die) = false ∧ flagF s.hw TH_TEMP_BROKEN (inst die) = false ∧ (thermal s.hw die).deviating < 63 ∧ -32768 ≤ raw ∧ raw < 32768 ∧ dieZone s.hw die < 3 ∧ zoneOf s.hw die (dieZone s.hw die) raw ≠ 3) ∧
    (∃ (die : Nat) (raw : Int) (s : State), supervised s.hw die = true ∧ (die = 0 ∨ die = 5) ∧ flagF s.hw TH_FORCE_FEN (inst die) = false ∧ flagF s.hw TH_TEMP_BROKEN (inst die) = false ∧ (thermal s.hw die).deviating < 63 ∧ -32768 ≤ raw ∧ raw < 32768 ∧ dieZone s.hw die < 3 ∧ tsd s.hw die ≤ raw) ∧
    (∃ (die : Nat) (raw : Int) (s : State), supervised s.hw die = true ∧ 0 < die ∧ die < 5 ∧ flagF s.hw TH_FORCE_FEN (inst die) = false ∧ flagF s.hw TH_TEMP_BROKEN (inst die) = false ∧ (thermal s.hw die).deviating < 63 ∧ -32768 ≤ raw ∧ raw < 32768 ∧ dieZone s.hw die < 3 ∧ tsd s.hw die ≤ raw ∧ fenceVal s.hw (carPath (die - 1) 0) = 0) ∧
    (∃ (die : Nat) (s : State), supervised s.hw die = true ∧ flagF s.hw TH_TEMP_BROKEN (inst die) = false) ∧
    (∃ (die : Nat) (s : State), dieZone s.hw die = 3 ∧ cooledFor s.hw die 10000 = true ∧ 0 < die ∧ die < 5) ∧
    (∃ (die : Nat) (s : State), dieZone s.hw die = 3 ∧ cooledFor s.hw die 10000 = true ∧ (die = 0 ∨ die = 5) ∧ s.hw.boot.thermalHold = true ∧ dieZone s.hw (5 - die) < 3 ∧ s.hw.island.mr4Hot = 0 ∧ dieTemp s.hw die < tsd s.hw die) ∧
    (∃ (die : Nat) (s : State), supervised s.hw die = true ∧ 0 < die ∧ (flagF s.hw TH_TEMP_BROKEN (inst die) = false ∨ 1000 ≤ dieTemp s.hw die) ∧ flagF s.hw TH_TRIP_TRIPPED (inst die) = false) ∧
    (∃ (s : State), supervised s.hw 0 = true ∧ flagF s.hw TH_TRIP_TRIPPED (inst 0) = false ∧ flagF s.hw TH_TEMP_BROKEN (inst 0) = false ∧ s.hw.island.stopDue = 0 ∧ s.hw.island.alive = .toggling) ∧
    (∃ (s : State), s.hw.island.tripHoldUp = true ∧ (drivesParked s.hw = true ∨ s.hw.island.tripAt + 200 ≤ s.hw.log.optime)) ∧
    (∃ (die : Nat) (s : State), die < 6 ∧ 0 < die ∧ flagF s.hw TH_TRIP_TRIPPED (inst die) = true ∧ (thermal s.hw die).tripHeld = false ∧ cooledFor s.hw die 1000 = true) ∧
    (∃ (s : State), flagF s.hw TH_TRIP_TRIPPED (inst 0) = true ∧ (thermal s.hw 0).tripHeld = false ∧ cooledFor s.hw 0 1000 = true ∧ s.hw.boot.dphase = .idle ∧ s.hw.boot.mediaMs ≠ 0) ∧
    (∃ (source : Nat) (s : State), isSealed s.hw = true ∧ source ≠ 6 ∧ source < 8) ∧
    (∃ (source : Nat) (s : State), (isSealed s.hw = false ∨ source = 6)) :=
  ⟨⟨0x1630, 10, wUp (fun h => h), by decide⟩,
    ⟨0x1630, 6, wUp (fun h => setLive (setLive h 0x1A00 0x059 0 3) 0x1A00 0x05A 0 24), by decide +kernel⟩,
    ⟨0x1511, 11, wUp (fun h => h), by decide +kernel⟩,
    ⟨wUp (fun h => h), by decide⟩,
    ⟨0xA5, wUp (fun h => setF (setF h TH_HBSTAT_ARMED 0 1) TH_HBSTAT_NEXT 0 0xA5), by decide⟩,
    ⟨0x11, wCus (fun h => setF (setF (onIsland (h) (fun i => { i with alive := .toggling })) TH_HBSTAT_ARMED 0 1) TH_HBSTAT_NEXT 0 0xA5), by decide +kernel⟩,
    ⟨wUp (fun h => setF (onLog (h) (fun l => { l with optime := 100 })) TH_HBSTAT_ARMED 0 1), by decide +kernel⟩,
    ⟨wCus (fun h => setF (onIsland (onLog (h) (fun l => { l with optime := 100 })) (fun i => { i with beaten := true })) TH_HBSTAT_ARMED 0 1), by decide +kernel⟩,
    ⟨wUp (fun h => onLog (onIsland (h) (fun i => { i with stopDue := 3 })) (fun l => { l with optime := 2 })), by decide⟩,
    ⟨3, 770, wUp (fun h => setReg (h) (TH_THR + inst 3) 0xF65F7364), by decide +kernel⟩,
    ⟨5, 925, wUp (fun h => setReg (h) (TH_THR + inst 5) 0xF65F7364), by decide +kernel⟩,
    ⟨3, 920, wUp (fun h => setReg (h) (TH_THR + inst 3) 0xF65F7364), by decide +kernel⟩,
    ⟨3, wUp (fun h => setReg (h) (TH_THR + inst 3) 0xF65F7364), by decide +kernel⟩,
    ⟨3, wUp (fun h => onThermal (setF (onLog (setReg (h) (TH_THR + inst 3) 0xF65F7364) (fun l => { l with optime := 10000 })) TH_TEMP_ZONE (inst 3) 3) 3 (fun t => { t with coolAt := some 0 })), by decide +kernel⟩,
    ⟨5, wUp (fun h => onThermal (setF (onBoot (onLog (setReg (h) (TH_THR + inst 5) 0xF65F7364) (fun l => { l with optime := 10000 })) (fun b => { b with thermalHold := true, mediaMs := 5 })) TH_TEMP_ZONE (inst 5) 3) 5 (fun t => { t with coolAt := some 0 })), by decide +kernel⟩,
    ⟨3, wUp (fun h => h), by decide +kernel⟩,
    ⟨wUp (fun h => onIsland (h) (fun i => { i with alive := .toggling })), by decide +kernel⟩,
    ⟨wUp (fun h => onIsland (h) (fun i => { i with tripHoldUp := true })), by decide +kernel⟩,
    ⟨3, wUp (fun h => onThermal (setF (onLog (setReg (h) (TH_THR + inst 3) 0xF65F7364) (fun l => { l with optime := 1000 })) TH_TRIP_TRIPPED (inst 3) 1) 3 (fun t => { t with coolAt := some 0 })), by decide +kernel⟩,
    ⟨wCus (fun h => onThermal (setF (onLog (h) (fun l => { l with optime := 1000 })) TH_TRIP_TRIPPED (inst 0) 1) 0 (fun t => { t with coolAt := some 0 })), by decide +kernel⟩,
    ⟨4, wUp (fun h => h), by decide +kernel⟩,
    ⟨6, wUp (fun h => h), by decide⟩⟩

/-- What `Obligations.RecorderCompletes` assumes can be met, clause by clause. -/
theorem witness_RecorderCompletes :
    (∃ (u : Nat) (code : Nat) (sev : Nat) (det : Nat) (s : State), isLeaf u = true ∧ absent s.hw u = false ∧ fenced s.hw 0x18F0 = false ∧ fenced s.hw 0x1810 = false ∧ code < 2 ^ 16 ∧ code ≠ 3 ∧ sev < 8 ∧ det < 2 ^ 32 ∧ (inBringUp s.hw = true ∨ (unit s.hw u).filter ≤ sev) ∧ s.hw.log.queue = [] ∧ (∀ p ∈ s.hw.log.slots, p.2.all (fun (r : EvRec) => r.path ≠ u) = true)) ∧
    (∃ (u : Nat) (sev : Nat) (s : State), isLeaf u = true ∧ absent s.hw u = false ∧ fenced s.hw 0x18F0 = false ∧ fenced s.hw 0x1810 = false ∧ sev < 8 ∧ inBringUp s.hw = false ∧ sev < (unit s.hw u).filter) ∧
    (∃ (u : Nat) (code : Nat) (sev : Nat) (det : Nat) (r : EvRec) (s : State), isLeaf u = true ∧ absent s.hw u = false ∧ fenced s.hw 0x18F0 = false ∧ fenced s.hw 0x1810 = false ∧ code < 2 ^ 16 ∧ code ≠ 3 ∧ sev < 8 ∧ det < 2 ^ 32 ∧ (inBringUp s.hw = true ∨ (unit s.hw u).filter ≤ sev) ∧ s.hw.log.queue = [r] ∧ r.path = u ∧ r.code = code ∧ r.severity = sev ∧ r.detail = det ∧ r.repeats < 0xFFFF ∧ s.hw.log.optime ≤ r.ms + r.lastd + 1000) ∧
    (∃ (r : EvRec) (q : List EvRec) (k : Nat) (s : State), storing s.hw = true ∧ s.hw.log.queue = r :: q ∧ r.bringUp = false ∧ freeSlot s.hw.log 2048 30720 = some k) ∧
    (∃ (r : EvRec) (q : List EvRec) (k : Nat) (s : State), storing s.hw = true ∧ s.hw.log.queue = r :: q ∧ r.bringUp = true ∧ freeSlot s.hw.log 0 1024 = some k) ∧
    (∃ (r : EvRec) (q : List EvRec) (s : State), storing s.hw = true ∧ s.hw.log.queue = r :: q ∧ r.bringUp = true ∧ freeSlot s.hw.log 0 1024 = none) ∧
    (∃ (k : Nat) (s : State), storing s.hw = true ∧ 0 < s.hw.log.dropsSince ∧ s.hw.log.queue.length < 32 ∧ inBringUp s.hw = false ∧ freeSlot s.hw.log 2048 30720 = some k) ∧
    (∃ (s : State), s.hw.log.saved + 1000 ≤ s.hw.log.optime) ∧
    (∃ (data : Nat) (s : State), s.hw.log.queue = [] ∧ s.hw.log.slots = [] ∧ fenced s.hw 0x18F0 = false ∧ fenced s.hw 0x1810 = false ∧ data < 2 ^ 16 ∧ data ≠ 3 ∧ inBringUp s.hw = true) ∧
    (∃ (data : Nat), bitAt data 31 = true ∧ 1032 ≤ data % 2048 ∧ data % 2048 ≤ 1303) ∧
    (∃ (data : Nat), (bitAt data 31 = false ∨ data % 2048 < 1032 ∨ 1303 < data % 2048)) ∧
    (∃ (sess : Nat) (tag : Nat) (c : Nat) (k : Nat) (s : State), writeStatus s.hw sess 0x1810 0x012 0 4 (leBytes 8 tag) = 0 ∧ isCoreSession sess = false ∧ (session s.hw sess).clearMask ≠ 0 ∧ (session s.hw sess).challenge = some c ∧ s.hw.log.clearing = 0 ∧ tag < 2 ^ 64 ∧ roleKey s.hw (if bitAt (session s.hw sess).clearMask 2 then 3 else 2) = some k ∧ sessionBusy s.hw sess = false) ∧
    (∃ (sess : Nat) (tag : Nat) (c : Nat) (s : State), writeStatus s.hw sess 0x1810 0x012 0 4 (leBytes 8 tag) = 0 ∧ isCoreSession sess = false ∧ (session s.hw sess).clearMask ≠ 0 ∧ (session s.hw sess).challenge = some c ∧ s.hw.log.clearing ≠ 0 ∧ tag < 2 ^ 64 ∧ sessionBusy s.hw sess = false) ∧
    (∃ (s : State), s.hw.log.clearing ≠ 0 ∧ recorderFenced s.hw = true) ∧
    (∃ (s : State), s.hw.log.clearing ≠ 0 ∧ recorderFenced s.hw = false ∧ bitAt s.hw.log.clearing 1 = true ∧ s.hw.log.clearing < 8) ∧
    (∃ (s : State), flagF s.hw EV_STAT_FLUSH 0 = true ∧ fenced s.hw 0x18F0 = false ∧ fenced s.hw 0x1810 = false) :=
  ⟨⟨0x1630, 7, 5, 9, wUp (fun h => onLog (h) (fun l => { l with slots := [(3, some { path := 0x1640, code := 7, severity := 5, ms := 3 })] })), by decide⟩,
    ⟨0x1630, 2, wCus (fun h => onUnit h 0x1630 (fun x => { x with filter := 4 })), by decide⟩,
    ⟨0x1630, 7, 5, 0, { path := 0x1630, code := 7, severity := 5, ms := 3 }, wUp (fun h => onLog (h) (fun l => { l with queue := [{ path := 0x1630, code := 7, severity := 5, ms := 3 }], optime := 203 })), by decide⟩,
    ⟨{ path := 0x1630, code := 7, severity := 5, ms := 3 }, [], 2048, wUp (fun h => onLog (h) (fun l => { l with queue := [{ path := 0x1630, code := 7, severity := 5, ms := 3 }] })), by decide⟩,
    ⟨{ path := 0x1630, code := 7, severity := 5, ms := 3, bringUp := true }, [], 0, wUp (fun h => onLog (h) (fun l => { l with queue := [{ path := 0x1630, code := 7, severity := 5, ms := 3, bringUp := true }] })), by decide⟩,
    ⟨{ path := 0x1630, code := 7, severity := 5, ms := 3, bringUp := true }, [], wUp (fun h => onLog (h) (fun l => { l with queue := [{ path := 0x1630, code := 7, severity := 5, ms := 3, bringUp := true }], slots := (List.range 1024).map (fun k => (k, some { path := 0x1630, code := 7, severity := 5, ms := 3, bringUp := true })) })), by decide +kernel⟩,
    ⟨2048, wCus (fun h => onLog (h) (fun l => { l with dropsSince := 3 })), by decide +kernel⟩,
    ⟨wUp (fun h => onLog (h) (fun l => { l with optime := 1000 })), by decide⟩,
    ⟨7, wUp (fun h => setReg (setReg h EV_FWUNIT 0x51700) EV_FWDET 9), by decide⟩,
    ⟨0x80000408, by decide⟩,
    ⟨0x80000407, by decide⟩,
    ⟨5, 77, 9, 7, wCus (fun h => onSession (onCipher h (fun k => { k with custodian := { inForce := true, key := 7 } })) 5 (fun x => { x with clearMask := 1, challenge := some 9 })), by decide⟩,
    ⟨5, 77, 9, wCus (fun h => onLog (onSession h 5 (fun x => { x with clearMask := 1, challenge := some 9 })) (fun l => { l with clearing := 2 })), by decide⟩,
    ⟨wUp (fun h => onLog (setFence h 0x18F0 1) (fun l => { l with clearing := 2, slots := [(3, some { path := 0x1630, code := 7, severity := 5, ms := 3 }), (2050, some { path := 0x1630, code := 7, severity := 5, ms := 3 })] })), by decide⟩,
    ⟨wUp (fun h => onLog (h) (fun l => { l with clearing := 2, clearSession := 5, slots := [(3, some { path := 0x1630, code := 7, severity := 5, ms := 3 }), (2050, some { path := 0x1630, code := 7, severity := 5, ms := 3 })] })), by decide⟩,
    ⟨wUp (fun h => setF (onLog (h) (fun l => { l with queue := [{ path := 0x1630, code := 7, severity := 5, ms := 3 }] })) EV_STAT_FLUSH 0 1), by decide⟩⟩

/-- What `Obligations.EmptyQueueStepIsOneMillisecond` assumes can be met, clause by clause. -/
theorem witness_EmptyQueueStepIsOneMillisecond :
    (∃ s : State, s.pending = [] ∧ s.hw.mgmt.blocks = [] ∧ s.hw.island.goDue = false) :=
  ⟨State.reset, by decide⟩

/-- What `Obligations.OnlyCipherWorkChangesHalls` assumes can be met, clause by clause. -/
theorem witness_OnlyCipherWorkChangesHalls :
    (∃ (c : Instr) (s : State), mayChangeHalls c = false ∧ ∃ t, exec c s = .next t) :=
  ⟨.operatingTimeSave, State.reset, by decide, _, rfl⟩

/-- What `Obligations.OtherCommandsLeaveMemory` assumes can be met, clause by clause. -/
theorem witness_OtherCommandsLeaveMemory :
    (∃ (c : Instr) (s : State), mayChangeMemory c = false ∧ ∃ t, exec c s = .next t) :=
  ⟨.operatingTimeSave, State.reset, by decide, _, rfl⟩

/-- What `Obligations.MemoryStaysCanonical` assumes can be met, clause by clause. -/
theorem witness_MemoryStaysCanonical :
    (∃ s : State, MemoryCanonical s ∧ ∃ t, step s = .next t) :=
  ⟨State.reset, rfl, _, rfl⟩

/-- What `Obligations.HallsStayBounded` assumes can be met, clause by clause. -/
theorem witness_HallsStayBounded :
    (∃ s : State, HallsBounded s ∧ ∃ t, step s = .next t) :=
  ⟨State.reset, fun _ => rfl, _, rfl⟩

/-- What `Obligations.AccessCodesGovernFields` assumes can be met, clause by clause. -/
theorem witness_AccessCodesGovernFields :
    (∃ (a data : Nat) (r : RegDef) (f : FieldDef), regAt a = some r ∧ f ∈ r.fields ∧ data < 2 ^ 32) :=
  ⟨EV_IRQS, 1, wReg EV_IRQS, (wReg EV_IRQS).fields.headD ⟨⟨0, 0, 0⟩, .ro, false, 0, []⟩, by decide⟩

/-- What `Obligations.MisalignedAccessIsNotPerformed` assumes can be met, clause by clause. -/
theorem witness_MisalignedAccessIsNotPerformed :
    (∃ (a : Nat) (s : State), pageExists s.hw a = true) ∧
    (∃ (a : Nat) (s : State), pageExists s.hw a = true) ∧
    (∃ (a : Nat) (s : State), pageExists s.hw a = true) :=
  ⟨⟨0xB00001, wUp id, by decide⟩,
    ⟨0xB00001, wUp id, by decide⟩,
    ⟨0xB00001, wUp id, by decide⟩⟩

/-- What `Obligations.FarBridgeDropsWrites` assumes can be met, clause by clause. -/
theorem witness_FarBridgeDropsWrites :
    (∃ (src : Nat) (a : Nat) (r : RegDef) (s : State), src < 8 ∧ barSource src = none ∧ pageExists s.hw a = true ∧ regOff a ≠ 0xFFC ∧ regAt a = some r ∧ regCode a ≠ 1 ∧ isPosted r = false ∧ pageFar s.hw a = true) ∧
    (∃ (src : Nat) (a : Nat) (r : RegDef) (s : State), src < 8 ∧ barSource src = none ∧ pageExists s.hw a = true ∧ regOff a ≠ 0xFFC ∧ regAt a = some r ∧ isPosted r = true ∧ (pageFar s.hw a = true ∨ (inFlight s.hw a).isSome = true)) ∧
    (∃ (src : Nat) (a : Nat) (r : RegDef) (s : State), src < 8 ∧ barSource src = none ∧ pageExists s.hw a = true ∧ regOff a ≠ 0xFFC ∧ regAt a = some r ∧ pageFar s.hw a = true) :=
  ⟨⟨0, CC_BOOTL, wReg CC_BOOTL, wUp id, by decide⟩,
    ⟨2, PA_SIF_CMD, wReg PA_SIF_CMD, wUp id, by decide⟩,
    ⟨6, MG_BWERR, wReg MG_BWERR, wUp id, by decide⟩⟩

/-- What `Obligations.ReadClearsForControlCoresOnly` assumes can be met, clause by clause. -/
theorem witness_ReadClearsForControlCoresOnly :
    (∃ (src : Nat) (a : Nat) (r : RegDef) (f : FieldDef) (s : State), src < 4 ∧ pageExists s.hw a = true ∧ regAt a = some r ∧ regOff a ≠ 0xFFC ∧ pageFar s.hw a = false ∧ inFlight s.hw a = none ∧ domainOn s.hw (regDomain a) = true ∧ f ∈ r.fields ∧ f.acc = Acc.rc) ∧
    (∃ (src : Nat) (a : Nat) (r : RegDef) (f : FieldDef) (s : State), 4 ≤ src ∧ src < 8 ∧ barSource src = none ∧ pageExists s.hw a = true ∧ regAt a = some r ∧ regOff a ≠ 0xFFC ∧ pageFar s.hw a = false ∧ inFlight s.hw a = none ∧ domainOn s.hw (regDomain a) = true ∧ f ∈ r.fields ∧ f.acc = Acc.rc) :=
  ⟨⟨0, MG_BWERR, wReg MG_BWERR, (wReg MG_BWERR).fields.getD 1 ⟨⟨0, 0, 0⟩, .ro, false, 0, []⟩, wUp (fun h => setReg (setF h (farFld 0x700000) 0 0) MG_BWERR 0x30005), by decide⟩,
    ⟨6, MG_BWERR, wReg MG_BWERR, (wReg MG_BWERR).fields.getD 1 ⟨⟨0, 0, 0⟩, .ro, false, 0, []⟩, wUp (fun h => setReg (setF h (farFld 0x700000) 0 0) MG_BWERR 0x30005), by decide⟩⟩

/-- What `Obligations.RefusedTransactionsHaveNoEffect` assumes can be met, clause by clause. -/
theorem witness_RefusedTransactionsHaveNoEffect :
    (∃ (sess : Nat) (u : Nat) (p : Nat) (e : Nat) (s : State), p < 0x1000 ∧ e < 16 ∧ readStatus s.hw sess u p e ≠ 0 ∧ sessionBusy s.hw sess = false) ∧
    (∃ (sess : Nat) (u : Nat) (p : Nat) (e : Nat) (ty : Nat) (value : List (BitVec 8)) (s : State), p < 0x1000 ∧ e < 16 ∧ writeStatus s.hw sess u p e ty value ≠ 0 ∧ sessionBusy s.hw sess = false) ∧
    (∃ (sess : Nat) (u : Nat) (p : Nat) (e : Nat) (ty : Nat) (interval : Nat) (s : State), p < 0x1000 ∧ e < 16 ∧ interval < 2 ^ 16 ∧ subscribeStatus s.hw sess u p e ty interval none ≠ 0 ∧ sessionBusy s.hw sess = false) ∧
    (∃ (sess : Nat) (u : Nat) (p : Nat) (e : Nat) (first : Nat) (n : Nat) (s : State), p < 0x1000 ∧ e < 16 ∧ first < 256 ∧ n < 2 ^ 32 ∧ blockStatus s.hw sess u p e first n false false ≠ 0 ∧ sessionBusy s.hw sess = false) ∧
    (∃ (sess : Nat) (u : Nat) (p : Nat) (e : Nat) (first : Nat) (n : Nat) (s : State), p < 0x1000 ∧ e < 16 ∧ first < 256 ∧ n < 2 ^ 32 ∧ blockStatus s.hw sess u p e first n true false ≠ 0 ∧ sessionBusy s.hw sess = false) ∧
    (∃ (sess : Nat) (e : Nat) (s : State), e < 16 ∧ sessionBusy s.hw sess = false) :=
  ⟨⟨3, 0x1A00, 0x3FF, 0, wUp id, by decide⟩,
    ⟨3, 0x1A00, 0x061, 0, 2, [1, 2], wUp id, by decide⟩,
    ⟨3, 0x1A00, 0x3FF, 0, 2, 10, wUp id, by decide⟩,
    ⟨3, 0x1A00, 0x3FF, 0, 0, 32, wUp id, by decide⟩,
    ⟨3, 0x1A00, 0x3FF, 0, 0, 32, wUp id, by decide⟩,
    ⟨3, 0, wUp id, by decide⟩⟩

/-- What `Obligations.RepeatedRequestsAreNotPerformed` assumes can be met, clause by clause. -/
theorem witness_RepeatedRequestsAreNotPerformed :
    (∃ (src : Nat) (seq : Nat) (count : Nat) (body : List (BitVec 8)) (ts : List Txn) (f : Frame) (s : State), mgmtUp s.hw = true ∧ getF s.hw PW_BOOT_STAGE 0 ≠ 0 ∧ src ≤ 0x3FF ∧ 0 < count ∧ count ≤ 16 ∧ parseRecords count body = some ts ∧ (ts.map (longestResponse s.hw)).sum ≤ 1488 ∧ (session s.hw src).lastSeq = some seq ∧ (session s.hw src).lastResp = some f) ∧
    (∃ (src : Nat) (seq : Nat) (count : Nat) (body : List (BitVec 8)) (ts : List Txn) (s : State), mgmtUp s.hw = true ∧ getF s.hw PW_BOOT_STAGE 0 ≠ 0 ∧ src ≤ 0x3FF ∧ 0 < count ∧ count ≤ 16 ∧ parseRecords count body = some ts ∧ (ts.map (longestResponse s.hw)).sum ≤ 1488 ∧ (session s.hw src).lastSeq ≠ some seq ∧ requestBusy s.hw src = true) :=
  ⟨⟨3, 9, 1, [1, 0, 0, 0, 0, 0, 0x40, 0x01, 0, 0], [{ op := 1, ty := 0, unit := 0, pe := 0x140, value := [] }], { kind := 2, seq := 9, dst := 3, stat := 0, count := 1, body := [] }, wCus (fun h => onSession h 3 (fun x => { x with lastSeq := some 9, lastResp := some { kind := 2, seq := 9, dst := 3, stat := 0, count := 1, body := [] } })), by decide⟩,
    ⟨3, 9, 1, [1, 0, 0, 0, 0, 0, 0x40, 0x01, 0, 0], [{ op := 1, ty := 0, unit := 0, pe := 0x140, value := [] }], wCus (fun h => onMgmt h (fun m => { m with requests := [{ session := 3, seq := 8, count := 1, todo := [] }] })), by decide⟩⟩

/-- What `Obligations.ClaimsTakeAllOrNothing` assumes can be met, clause by clause. -/
theorem witness_ClaimsTakeAllOrNothing :
    (∃ (sess : Nat) (mask : Nat) (d : EntDef) (s : State), objDef s.hw 0x1920 0x011 0 = some d ∧ poweredDown s.hw sess 2 0x1920 0x011 0 d = false ∧ sess < 2 ^ 16 ∧ 0 < mask ∧ mask < 256 ∧ contiguous mask = false ∧ sessionBusy s.hw sess = false) ∧
    (∃ (sess : Nat) (mask : Nat) (d : EntDef) (s : State), objDef s.hw 0x1920 0x011 0 = some d ∧ poweredDown s.hw sess 2 0x1920 0x011 0 d = false ∧ sess < 2 ^ 16 ∧ 0 < mask ∧ mask < 256 ∧ contiguous mask = true ∧ (sections s.hw sess 1 ≠ [] ∨ sections s.hw sess 2 ≠ []) ∧ sessionBusy s.hw sess = false) ∧
    (∃ (sess : Nat) (mask : Nat) (d : EntDef) (s : State), objDef s.hw 0x1920 0x011 0 = some d ∧ poweredDown s.hw sess 2 0x1920 0x011 0 d = false ∧ sess < 2 ^ 16 ∧ 0 < mask ∧ mask < 256 ∧ contiguous mask = true ∧ (∃ n ∈ List.range 8, bitAt mask n = true ∧ secState s.hw n ≠ 0) ∧ sessionBusy s.hw sess = false) ∧
    (∃ (sess : Nat) (mask : Nat) (d : EntDef) (s : State), objDef s.hw 0x1920 0x011 0 = some d ∧ poweredDown s.hw sess 2 0x1920 0x011 0 d = false ∧ sess < 2 ^ 16 ∧ 0 < mask ∧ mask < 256 ∧ contiguous mask = true ∧ sections s.hw sess 1 = [] ∧ sections s.hw sess 2 = [] ∧ windowAsleep s.hw = false ∧ getF s.hw PW_BOOT_STAGE 0 ≠ 0x0D ∧ (∀ n ∈ List.range 8, bitAt mask n = true → secState s.hw n = 0) ∧ sessionBusy s.hw sess = false) :=
  ⟨⟨5, 5, wEnt 0x1920 0x011 0, wCus (fun h => h), by decide⟩,
    ⟨5, 6, wEnt 0x1920 0x011 0, wCus (fun h => setSec (h) 0 1 5), by decide⟩,
    ⟨5, 6, wEnt 0x1920 0x011 0, wCus (fun h => setSec (h) 2 3 0xFFFF), by decide⟩,
    ⟨5, 6, wEnt 0x1920 0x011 0, wCus (fun h => h), by decide⟩⟩

/-- What `Obligations.MembersOfAPath` assumes can be met, clause by clause. -/
theorem witness_MembersOfAPath :
    (∃ p, p < 2 ^ 16 ∧ unitExists p = true ∧ isLeaf p = false) :=
  ⟨0x1500, by decide +kernel⟩

/-- What `Obligations.PairKeepsTheDeviceOutOfPs4` assumes can be met, clause by clause. -/
theorem witness_PairKeepsTheDeviceOutOfPs4 :
    (∃ h : Hw, twinState h = 2 ∧ h.engine.oper = none ∧ h.portB.rdy = true ∧ h.portA.rdy = false ∧ h.portB.ps = 4 ∧ getF h PW_PSTATE_TGT 0 ≠ 4) :=
  ⟨(wUp (fun h => setF (onPort h 1 (fun x => { x with rdy := true, ps := 4 })) HQ_TWIN_STATE 0 2)).hw, by decide⟩

/-- What `Obligations.GroupsReadTheirMembers` assumes can be met, clause by clause. -/
theorem witness_GroupsReadTheirMembers :
    (∃ (sess : Nat) (p : Nat) (s : State), isLeaf p = false ∧ readStatus s.hw sess p 2 0 = 0 ∧ sessionBusy s.hw sess = false) ∧
    (∃ (sess : Nat) (p : Nat) (s : State), isLeaf p = false ∧ readStatus s.hw sess p 5 0 = 0 ∧ sessionBusy s.hw sess = false) :=
  ⟨⟨5, 0x1600, wCus (fun h => onUnit h 0x1630 (fun x => { x with summary := 64 })), by decide⟩,
    ⟨5, 0x1600, wCus (fun h => h), by decide⟩⟩

/-- What `Obligations.EnableWaitsForAdminReady` assumes can be met, clause by clause. -/
theorem witness_EnableWaitsForAdminReady :
    (∃ (p : Nat) (s : State), p < 2 ∧ (port s.hw p).configured = true ∧ (port s.hw p).en = false ∧ getF s.hw PW_BOOT_STAGE 0 < 7 ∧ flagF s.hw PW_BOOT_HALT 0 = false) ∧
    (∃ (p : Nat) (s : State), p < 2 ∧ (port s.hw p).en = true ∧ (port s.hw p).cfs = false ∧ (getF s.hw PW_BOOT_STAGE 0 = 5 ∨ getF s.hw PW_BOOT_STAGE 0 = 6) ∧ getF s.hw PW_BOOT_HALT 0 = 0) ∧
    (∃ (p : Nat) (s : State), p < 2 ∧ (port s.hw p).configured = true ∧ (port s.hw p).en = false ∧ getF s.hw PW_BOOT_STAGE 0 ≠ 0x0D ∧ flagF s.hw PW_BOOT_HALT 0 = true) :=
  ⟨⟨1, wUp (fun h => setF (onPort h 1 (fun x => { x with configured := true })) PW_BOOT_STAGE 0 5), by decide⟩,
    ⟨1, wUp (fun h => setF (onPort h 1 (fun x => { x with configured := true, en := true })) PW_BOOT_STAGE 0 5), by decide⟩,
    ⟨1, wUp (fun h => setF (setF (onPort h 1 (fun x => { x with configured := true })) PW_BOOT_STAGE 0 0x0E) PW_BOOT_HALT 0 1), by decide⟩⟩

/-- What `Obligations.CeilingsKeepTheirOrder` assumes can be met, clause by clause. -/
theorem witness_CeilingsKeepTheirOrder :
    (∃ (sess : Nat) (x : Nat) (d : EntDef) (s : State), objDef s.hw 0x1A00 0x061 0 = some d ∧ poweredDown s.hw sess 2 0x1A00 0x061 0 d = false ∧ 2 ≤ roleOf s.hw sess ∧ x < 2 ^ 16 ∧ liveVal s.hw 0x1A00 0x061 0 ≤ 7200 ∧ liveVal s.hw 0x1A00 0x062 0 ≤ liveVal s.hw 0x1A00 0x061 0 ∧ liveVal s.hw 0x1A00 0x063 0 ≤ liveVal s.hw 0x1A00 0x062 0 ∧ 3600 ≤ liveVal s.hw 0x1A00 0x063 0 ∧ ¬(x ≤ 7200 ∧ liveVal s.hw 0x1A00 0x062 0 ≤ x) ∧ sessionBusy s.hw sess = false) ∧
    (∃ (sess : Nat) (x : Nat) (d : EntDef) (s : State), objDef s.hw 0x1A00 0x061 0 = some d ∧ poweredDown s.hw sess 2 0x1A00 0x061 0 d = false ∧ 2 ≤ roleOf s.hw sess ∧ x < 2 ^ 16 ∧ liveVal s.hw 0x1A00 0x061 0 ≤ 7200 ∧ liveVal s.hw 0x1A00 0x062 0 ≤ liveVal s.hw 0x1A00 0x061 0 ∧ liveVal s.hw 0x1A00 0x063 0 ≤ liveVal s.hw 0x1A00 0x062 0 ∧ 3600 ≤ liveVal s.hw 0x1A00 0x063 0 ∧ x ≤ 7200 ∧ liveVal s.hw 0x1A00 0x062 0 ≤ x ∧ sessionBusy s.hw sess = false) ∧
    (∃ (sess : Nat) (x : Nat) (d : EntDef) (s : State), objDef s.hw 0x1A00 0x062 0 = some d ∧ poweredDown s.hw sess 2 0x1A00 0x062 0 d = false ∧ 2 ≤ roleOf s.hw sess ∧ x < 2 ^ 16 ∧ liveVal s.hw 0x1A00 0x061 0 ≤ 7200 ∧ liveVal s.hw 0x1A00 0x062 0 ≤ liveVal s.hw 0x1A00 0x061 0 ∧ liveVal s.hw 0x1A00 0x063 0 ≤ liveVal s.hw 0x1A00 0x062 0 ∧ 3600 ≤ liveVal s.hw 0x1A00 0x063 0 ∧ ¬(x ≤ liveVal s.hw 0x1A00 0x061 0 ∧ liveVal s.hw 0x1A00 0x063 0 ≤ x) ∧ sessionBusy s.hw sess = false) ∧
    (∃ (sess : Nat) (x : Nat) (d : EntDef) (s : State), objDef s.hw 0x1A00 0x062 0 = some d ∧ poweredDown s.hw sess 2 0x1A00 0x062 0 d = false ∧ 2 ≤ roleOf s.hw sess ∧ x < 2 ^ 16 ∧ liveVal s.hw 0x1A00 0x061 0 ≤ 7200 ∧ liveVal s.hw 0x1A00 0x062 0 ≤ liveVal s.hw 0x1A00 0x061 0 ∧ liveVal s.hw 0x1A00 0x063 0 ≤ liveVal s.hw 0x1A00 0x062 0 ∧ 3600 ≤ liveVal s.hw 0x1A00 0x063 0 ∧ x ≤ liveVal s.hw 0x1A00 0x061 0 ∧ liveVal s.hw 0x1A00 0x063 0 ≤ x ∧ sessionBusy s.hw sess = false) ∧
    (∃ (sess : Nat) (x : Nat) (d : EntDef) (s : State), objDef s.hw 0x1A00 0x063 0 = some d ∧ poweredDown s.hw sess 2 0x1A00 0x063 0 d = false ∧ 2 ≤ roleOf s.hw sess ∧ x < 2 ^ 16 ∧ liveVal s.hw 0x1A00 0x061 0 ≤ 7200 ∧ liveVal s.hw 0x1A00 0x062 0 ≤ liveVal s.hw 0x1A00 0x061 0 ∧ liveVal s.hw 0x1A00 0x063 0 ≤ liveVal s.hw 0x1A00 0x062 0 ∧ 3600 ≤ liveVal s.hw 0x1A00 0x063 0 ∧ ¬(x ≤ liveVal s.hw 0x1A00 0x062 0 ∧ 3600 ≤ x) ∧ sessionBusy s.hw sess = false) ∧
    (∃ (sess : Nat) (x : Nat) (d : EntDef) (s : State), objDef s.hw 0x1A00 0x063 0 = some d ∧ poweredDown s.hw sess 2 0x1A00 0x063 0 d = false ∧ 2 ≤ roleOf s.hw sess ∧ x < 2 ^ 16 ∧ liveVal s.hw 0x1A00 0x061 0 ≤ 7200 ∧ liveVal s.hw 0x1A00 0x062 0 ≤ liveVal s.hw 0x1A00 0x061 0 ∧ liveVal s.hw 0x1A00 0x063 0 ≤ liveVal s.hw 0x1A00 0x062 0 ∧ 3600 ≤ liveVal s.hw 0x1A00 0x063 0 ∧ x ≤ liveVal s.hw 0x1A00 0x062 0 ∧ 3600 ≤ x ∧ sessionBusy s.hw sess = false) :=
  ⟨⟨5, 4700, wEnt 0x1A00 0x061 0, wCus (fun h => setLive (setLive (setLive h 0x1A00 0x061 0 6000) 0x1A00 0x062 0 4800) 0x1A00 0x063 0 3600), by decide⟩,
    ⟨5, 4800, wEnt 0x1A00 0x061 0, wCus (fun h => setLive (setLive (setLive h 0x1A00 0x061 0 6000) 0x1A00 0x062 0 4800) 0x1A00 0x063 0 3600), by decide⟩,
    ⟨5, 6001, wEnt 0x1A00 0x062 0, wCus (fun h => setLive (setLive (setLive h 0x1A00 0x061 0 6000) 0x1A00 0x062 0 4800) 0x1A00 0x063 0 3600), by decide⟩,
    ⟨5, 6000, wEnt 0x1A00 0x062 0, wCus (fun h => setLive (setLive (setLive h 0x1A00 0x061 0 6000) 0x1A00 0x062 0 4800) 0x1A00 0x063 0 3600), by decide⟩,
    ⟨5, 4801, wEnt 0x1A00 0x063 0, wCus (fun h => setLive (setLive (setLive h 0x1A00 0x061 0 6000) 0x1A00 0x062 0 4800) 0x1A00 0x063 0 3600), by decide⟩,
    ⟨5, 4800, wEnt 0x1A00 0x063 0, wCus (fun h => setLive (setLive (setLive h 0x1A00 0x061 0 6000) 0x1A00 0x062 0 4800) 0x1A00 0x063 0 3600), by decide⟩⟩

/-- What `Obligations.SessionsDecideTheirOwnRoles` assumes can be met, clause by clause. -/
theorem witness_SessionsDecideTheirOwnRoles :
    (∃ (s t : State) (sess k x : Nat), k ≠ sess ∧ exec (.sessionRoleWrite sess x) s = .next t) :=
  ⟨State.reset, _, 5, 6, 1, by decide, rfl⟩

/-- What `Obligations.StoredBytesReadBack` assumes can be met, clause by clause. -/
theorem witness_StoredBytesReadBack :
    (∃ (a : Nat) (l : List (BitVec 8)), l ≠ [] ∧ ∀ b, a ≤ b → b < a + l.length → ownedByte b = false) :=
  ⟨farBase, [1], by decide, fun b h1 h2 => (Nat.le_antisymm (Nat.le_of_lt_succ h2) h1) ▸ (by decide : ownedByte farBase = false)⟩

/-- What `Obligations.EnciphermentStaysInsideItsGeneration` assumes can be met, clause by clause. -/
theorem witness_EnciphermentStaysInsideItsGeneration :
    (∃ (s t : State) (slot i : Nat), exec (.dataUnitCipher slot i) s = .next t) :=
  ⟨State.reset, _, 0, 0, rfl⟩

/-- What `Obligations.WhatIsEncipheredDeciphers` assumes can be met, clause by clause. -/
theorem witness_WhatIsEncipheredDeciphers :
    (∃ text : Nat, text < 2 ^ 32768) ∧
    (∃ key : Nat, key < 2 ^ 256) :=
  ⟨⟨0, Nat.two_pow_pos 32768⟩,
    ⟨5, by decide⟩⟩
end

section
/-! Bits of a word, and what the access codes of R14 do to each of them. -/
namespace Sys2Proof.Machine

/-! Bits of numbers. -/

theorem bitAt_eq_testBit (w i : Nat) : bitAt w i = w.testBit i := by
  rw [Nat.testBit_eq_decide_div_mod_eq]
  rfl

/-- A field's bits hold the value put there; every other bit stays. -/
theorem bitAt_putBits {hi lo : Nat} (v w i : Nat) (hl : lo ≤ hi) :
    bitAt (putBits hi lo v w) i = if lo ≤ i ∧ i ≤ hi then bitAt v (i - lo) else bitAt w i := by
  have hv : v % 2 ^ (hi + 1 - lo) < 2 ^ (hi + 1 - lo) := Nat.mod_lt _ (Nat.two_pow_pos _)
  have hw : w % 2 ^ lo < 2 ^ lo := Nat.mod_lt _ (Nat.two_pow_pos _)
  have split_at_lo : putBits hi lo v w =
      2 ^ lo * (2 ^ (hi + 1 - lo) * (w / 2 ^ (hi + 1)) + v % 2 ^ (hi + 1 - lo)) + w % 2 ^ lo := by
    have h3 : 2 ^ (hi + 1) = 2 ^ lo * 2 ^ (hi + 1 - lo) := by rw [← Nat.pow_add]; congr 1; omega
    rw [putBits, Nat.mul_add, ← Nat.mul_assoc, ← h3, Nat.mul_comm (2 ^ (hi + 1)), Nat.mul_comm (2 ^ lo)]
  simp only [bitAt_eq_testBit]
  rw [split_at_lo, Nat.testBit_two_pow_mul_add _ hw]
  by_cases below : i < lo
  · rw [if_pos below, if_neg (by omega), Nat.testBit_mod_two_pow]
    simp [below]
  · rw [if_neg below, Nat.testBit_two_pow_mul_add _ hv]
    by_cases inside : i ≤ hi
    · rw [if_pos (by omega), if_pos (by omega), Nat.testBit_mod_two_pow]
      simp [show i - lo < hi + 1 - lo by omega]
    · rw [if_neg (by omega), if_neg (by omega), Nat.testBit_div_two_pow]
      congr 1
      omega

theorem bitAt_putBit (w k : Nat) (b : Bool) (i : Nat) : bitAt (putBit w k b) i = if i = k then b else bitAt w i := by
  rw [putBit, bitAt_putBits _ _ _ (Nat.le_refl k)]
  by_cases h : i = k
  · subst h
    cases b <;> simp [bitAt]
  · rw [if_neg (by omega), if_neg h]

theorem bitAt_bits (hi lo w i : Nat) : bitAt (bits hi lo w) i = (decide (i < hi + 1 - lo) && bitAt w (lo + i)) := by
  simp only [bitAt_eq_testBit, bits, Nat.testBit_mod_two_pow, Nat.testBit_div_two_pow, Nat.add_comm]

@[simp] theorem bitAt_zero (i : Nat) : bitAt 0 i = false := by simp [bitAt_eq_testBit]

/-- Taking off the common bits of `y` borrows from no other bit: the lowest bit and the others are taken off apart. -/
theorem sub_and_halves (x y : Nat) :
    (x - (x &&& y)) % 2 = x % 2 - (x % 2 &&& y % 2) ∧ (x - (x &&& y)) / 2 = x / 2 - (x / 2 &&& y / 2) := by
  have high := Nat.and_div_two (a := x) (b := y)
  have low := Nat.and_mod_two_pow (a := x) (b := y) (n := 1)
  have := Nat.and_le_left (n := x % 2) (m := y % 2)
  have := Nat.and_le_left (n := x / 2) (m := y / 2)
  simp only [Nat.pow_one] at low
  omega

theorem bitAt_sub_and (x y i : Nat) : bitAt (x - (x &&& y)) i = (bitAt x i && !(bitAt y i)) := by
  simp only [bitAt_eq_testBit]
  induction i generalizing x y with
  | zero =>
    simp only [Nat.testBit_zero, (sub_and_halves x y).1]
    rcases Nat.mod_two_eq_zero_or_one x with hx | hx <;> rcases Nat.mod_two_eq_zero_or_one y with hy | hy <;> simp [hx, hy]
  | succ i ih => simp only [Nat.testBit_succ, (sub_and_halves x y).2, ih]

/-- A word has no bit from 32 upward. -/
theorem bitAt_of_word {w i : Nat} (hw : w < 2 ^ 32) (hi : 32 ≤ i) : bitAt w i = false := by
  rw [bitAt_eq_testBit]
  exact Nat.testBit_lt_two_pow (Nat.lt_of_lt_of_le hw (Nat.pow_le_pow_right (by decide) hi))

theorem bitAt_mod_word {w i : Nat} (hi : i ≤ 31) : bitAt (w % 2 ^ 32) i = bitAt w i := by
  rw [bitAt_eq_testBit, Nat.testBit_mod_two_pow, bitAt_eq_testBit]
  simp [show i < 32 by omega]

/-! The layout of the register tables. -/

/-- Bit `i` of a register lies in field `f`. -/
abbrev FieldDef.has (f : FieldDef) (i : Nat) : Prop := f.fld.lo ≤ i ∧ i ≤ f.fld.hi

/-- The fields of a register are laid out in its 32 bits and no two share a bit. -/
def wellLaid (l : List FieldDef) : Prop :=
  (∀ f ∈ l, f.fld.lo ≤ f.fld.hi ∧ f.fld.hi ≤ 31) ∧ l.Pairwise (fun f g => f.fld.hi < g.fld.lo ∨ g.fld.hi < f.fld.lo)

/-- Read off the tables of the sixteen pages (R123). -/
theorem pageRegs_wellLaid : ∀ c < 16, ∀ r ∈ pageRegs c, wellLaid r.fields := by
  unfold wellLaid
  decide +kernel

theorem pageInstances_eq_zero {c : Nat} (h : 16 ≤ c) : pageInstances c = 0 := by
  unfold pageInstances
  split
  case h_8 => exact if_neg (Nat.not_lt.mpr h)
  all_goals omega

/-- A register lies on one of the sixteen pages and its definition in that page's table. -/
theorem regAt_mem {a : Nat} {r : RegDef} (h : regAt a = some r) : regCode a < 16 ∧ r ∈ pageRegs (regCode a) := by
  unfold regAt at h
  split at h
  case isTrue served =>
    refine ⟨Nat.lt_of_not_le fun beyond => ?_, List.mem_of_find?_eq_some h⟩
    rw [pageInstances_eq_zero beyond] at served
    exact Nat.not_lt_zero _ served
  case isFalse => exact absurd h (by simp)

theorem regAt_wellLaid {a : Nat} {r : RegDef} (h : regAt a = some r) : wellLaid r.fields :=
  pageRegs_wellLaid _ (regAt_mem h).1 _ (regAt_mem h).2

/-! Passing over the fields of a register. -/

/-- `g` changes the bits of field `f` alone, each by `φ`. -/
def ActsBitwise (g : Nat → FieldDef → Nat) (φ : FieldDef → Nat → Bool → Bool) (f : FieldDef) : Prop :=
  ∀ w i, (f.has i → bitAt (g w f) i = φ f i (bitAt w i)) ∧ (¬ f.has i → bitAt (g w f) i = bitAt w i)

section
variable {g : Nat → FieldDef → Nat} {φ : FieldDef → Nat → Bool → Bool} {l : List FieldDef}

theorem bitAt_foldl_of_not_has (acts : ∀ f ∈ l, ActsBitwise g φ f) (w : Nat) {i : Nat} (out : ∀ f ∈ l, ¬ f.has i) :
    bitAt (l.foldl g w) i = bitAt w i := by
  induction l generalizing w with
  | nil => rfl
  | cons f l ih =>
    rw [List.forall_mem_cons] at acts out
    rw [List.foldl_cons, ih acts.2 _ out.2, (acts.1 w i).2 out.1]

/-- In a pass over the fields of a register a bit is changed once, by the field that has it. -/
theorem bitAt_foldl_of_has (acts : ∀ f ∈ l, ActsBitwise g φ f) (laid : wellLaid l) (w : Nat) {f : FieldDef} (hf : f ∈ l)
    {i : Nat} (hi : f.has i) : bitAt (l.foldl g w) i = φ f i (bitAt w i) := by
  obtain ⟨-, apart⟩ := laid
  induction l generalizing w with
  | nil => exact absurd hf List.not_mem_nil
  | cons e l ih =>
    rw [List.forall_mem_cons] at acts
    rw [List.pairwise_cons] at apart
    rw [List.foldl_cons]
    rcases List.mem_cons.mp hf with rfl | hf
    · rw [bitAt_foldl_of_not_has acts.2, (acts.1 w i).1 hi]
      intro e he
      have := apart.1 e he
      omega
    · rw [ih acts.2 _ hf apart.2, (acts.1 w i).2]
      have := apart.1 f hf
      omega

end

/-! What the access codes do to a bit (R14). -/

/-- Bit `i` of field `f`, which holds `b`, after a write of `data`. -/
def writtenBit (data : Nat) (f : FieldDef) (i : Nat) (b : Bool) : Bool :=
  match f.acc with
  | .rw => bitAt data i
  | .w1c => b && !(bitAt data i)
  | .w1s => b || bitAt data i
  | .wm => if i < 16 then (if bitAt data (i + 16) then bitAt data i else b) else b
  | .ro | .wo | .rc => b

/-- The bits that a WM field of `n` bits takes one by one, each under its mask bit. -/
theorem bitAt_foldl_masked (data w lo n i : Nat) :
    bitAt ((List.range n).foldl (fun w k => if bitAt data (16 + lo + k) then putBit w (lo + k) (bitAt data (lo + k)) else w) w) i =
      if lo ≤ i ∧ i < lo + n then (if bitAt data (i + 16) then bitAt data i else bitAt w i) else bitAt w i := by
  induction n with
  | zero => rw [if_neg (by omega)]; rfl
  | succ n ih =>
    rw [List.range_succ, List.foldl_append, List.foldl_cons, List.foldl_nil, show 16 + lo + n = lo + n + 16 by omega]
    by_cases last : i = lo + n
    · subst last
      rw [if_neg (by omega)] at ih
      have inside : lo ≤ lo + n ∧ lo + n < lo + (n + 1) := by omega
      rw [if_pos inside]
      split
      · rw [bitAt_putBit, if_pos rfl]
      · exact ih
    · have here : (lo ≤ i ∧ i < lo + (n + 1)) = (lo ≤ i ∧ i < lo + n) := propext (by omega)
      simp only [here, ← ih]
      split
      · rw [bitAt_putBit, if_neg last]
      · rfl

theorem mergeField_bitwise {data : Nat} (hd : data < 2 ^ 32) {f : FieldDef} (hl : f.fld.lo ≤ f.fld.hi) :
    ActsBitwise (mergeField data) (writtenBit data) f := by
  have put : ∀ v w i, bitAt (putBits f.fld.hi f.fld.lo v w) i = if f.has i then bitAt v (i - f.fld.lo) else bitAt w i :=
    fun v w i => bitAt_putBits v w i hl
  have took : ∀ x i, f.has i → bitAt (bits f.fld.hi f.fld.lo x) (i - f.fld.lo) = bitAt x i := by
    intro x i ⟨h1, h2⟩
    rw [bitAt_bits, Nat.add_sub_cancel' h1]
    simp [show i - f.fld.lo < f.fld.hi + 1 - f.fld.lo by omega]
  intro w i
  unfold mergeField writtenBit
  cases f.acc with
  | ro | wo | rc => exact ⟨fun _ => rfl, fun _ => rfl⟩
  | rw => exact ⟨fun h => by rw [put, if_pos h, took _ _ h], fun h => by rw [put, if_neg h]⟩
  | w1c => exact ⟨fun h => by rw [put, if_pos h, bitAt_sub_and, took _ _ h, took _ _ h], fun h => by rw [put, if_neg h]⟩
  | w1s =>
    refine ⟨fun h => ?_, fun h => by rw [put, if_neg h]⟩
    rw [put, if_pos h, ← took w i h, ← took data i h]
    simp only [bitAt_eq_testBit, Nat.testBit_or]
  | wm =>
    have high : 16 ≤ i → bitAt data (i + 16) = false := fun h => bitAt_of_word hd (by omega)
    have width : (f.fld.lo ≤ i ∧ i < f.fld.lo + (f.fld.hi + 1 - f.fld.lo)) = f.has i := propext (by simp only [FieldDef.has]; omega)
    simp only [bitAt_foldl_masked, width]
    refine ⟨fun h => ?_, fun h => if_neg h⟩
    by_cases low : i < 16
    · rw [if_pos h, if_pos low]
    · rw [if_pos h, if_neg low, high (Nat.le_of_not_lt low), if_neg Bool.false_ne_true]

/-- Field `f` of the word `w` cleared when its access code is `c`: what a read shows of WO fields, and leaves of RC fields. -/
def wipe (c : Acc) (w : Nat) (f : FieldDef) : Nat := if f.acc = c then putBits f.fld.hi f.fld.lo 0 w else w

theorem wipe_bitwise (c : Acc) {f : FieldDef} (hl : f.fld.lo ≤ f.fld.hi) :
    ActsBitwise (wipe c) (fun f _ b => b && f.acc != c) f := by
  intro w i
  unfold wipe
  by_cases coded : f.acc = c
  · simp only [if_pos coded, bitAt_putBits _ _ _ hl]
    exact ⟨fun h => by simp [if_pos h, coded], fun h => if_neg h⟩
  · simp [coded]

theorem readable_eq_foldl_wipe (r : RegDef) (w : Nat) : readable r w = r.fields.foldl (wipe .wo) w := by
  unfold readable
  congr 1
  funext w f
  cases h : f.acc <;> simp [wipe, h]

theorem clearRc_eq_foldl (h : Hw) (a : Nat) (r : RegDef) :
    clearRc h a r = r.fields.foldl (fun h f => if f.acc = .rc then setReg h a (wipe .rc (getReg h a) f) else h) h := by
  unfold clearRc
  congr 1
  funext h f
  cases code : f.acc <;> simp [wipe, code]

theorem getReg_clearRc (h : Hw) (a : Nat) (r : RegDef) (laid : wellLaid r.fields) :
    getReg (clearRc h a r) a = r.fields.foldl (wipe .rc) (getReg h a) := by
  rw [clearRc_eq_foldl]
  have within := laid.1
  generalize r.fields = l at within ⊢
  induction l generalizing h with
  | nil => rfl
  | cons f l ih =>
    rw [List.forall_mem_cons] at within
    rw [List.foldl_cons, List.foldl_cons, ih _ within.2]
    congr 1
    split
    case isTrue code =>
      rw [getReg_setReg_self, wipe, if_pos code, Nat.mod_eq_of_lt (putBits_lt within.1.1 within.1.2 (getReg_lt h a))]
    case isFalse code => rw [wipe, if_neg code]

theorem getReg_writeCodes (h : Hw) (a data : Nat) {r : RegDef} (hr : regAt a = some r) :
    getReg (writeCodes h a data) a = r.fields.foldl (mergeField data) (getReg h a) % 2 ^ 32 := by
  unfold writeCodes
  simp only [hr, getReg_setReg_self]

/-- Settles O42: each field is merged, shown and cleared on its own, bit by bit. -/
theorem accessCodesGovernFields : Obligations.AccessCodesGovernFields := by
  intro h a data r f hr hf hd i hlo hhi
  have laid := regAt_wellLaid hr
  have within := laid.1
  have hi : f.has i := ⟨hlo, hhi⟩
  refine ⟨?_, ?_, ?_⟩
  · rw [getReg_writeCodes h a data hr, bitAt_mod_word (Nat.le_trans hhi (within f hf).2),
      bitAt_foldl_of_has (fun g hg => mergeField_bitwise hd (within g hg).1) laid _ hf hi, writtenBit]
    cases f.acc <;> rfl
  · rw [readable_eq_foldl_wipe, bitAt_foldl_of_has (fun g hg => wipe_bitwise .wo (within g hg).1) laid _ hf hi]
  · rw [getReg_clearRc h a r laid, bitAt_foldl_of_has (fun g hg => wipe_bitwise .rc (within g hg).1) laid _ hf hi]

end Sys2Proof.Machine
end

section
/-! The state after reset. -/
namespace Sys2Proof.Machine

theorem hall_reset (n : Nat) : hall State.reset.vault n = {} := rfl

theorem hallsBounded_reset : HallsBounded State.reset := by
  intro n
  rw [hall_reset]
  rfl

/-- Settles O40: the model's reset state (its choices, log entries 1-3) lists no byte of memory and no Hall, and nothing waits. -/
theorem resetMeetsTheInvariants : Obligations.ResetMeetsTheInvariants :=
  ⟨memory_wf_reset, hallsBounded_reset, rfl, fun n => by rw [hall_reset]⟩

/-- After reset the register file lists nothing, so each register reads its reset value (R15). -/
theorem getReg_reset (a : Nat) : getReg State.reset.hw a = (regReset a).toNat := rfl

/-- Settles O41: every register at its reset value; a Reset column that names no value reads 0 by the model's choice (log entry 2). -/
theorem resetRegisters : Obligations.ResetRegisters := by
  refine ⟨fun a r hr => ?_, fun a hr => ?_, ?_, ?_, ?_, rfl⟩
  · simp only [getReg_reset, regReset, hr]
  · simp only [getReg_reset, regReset, hr, BitVec.ofNat_eq_ofNat, BitVec.toNat_zero]
  · decide
  · decide
  · decide

end Sys2Proof.Machine
end

section
/-! Register accesses at their bridges. -/
namespace Sys2Proof.Machine

/-! What the sources other than BAR2 reach. -/

theorem readReaches_bus {h : Hw} {src a : Nat} (hs : barSource src = none) : readReaches h src a = .register a := by
  simp only [readReaches, hs]

theorem writeReaches_bus {h : Hw} {src a : Nat} (hs : barSource src = none) : writeReaches h src a = .register a := by
  simp only [writeReaches, hs]

theorem barSource_of_lt {src : Nat} (h : src < 4) : barSource src = none := by
  rw [barSource, if_neg (by omega), if_neg (by omega)]

theorem landPosted_of_idle {h : Hw} {v : Vault} {a : Nat} (idle : inFlight h a = none) : landPosted h v a = h := by
  simp only [landPosted, idle]

/-- A register of a page that exists, whose bridge is not FAR, is written at once or by way of its bridge (R126, R127). -/
theorem busWrite_of_idle {h : Hw} {v : Vault} {src a data : Nat} {r : RegDef} (page : pageExists h a = true) (brg : regOff a ≠ 0xFFC)
    (hr : regAt a = some r) (near : pageFar h a = false) (idle : inFlight h a = none) :
    busWrite h v src a data =
      if isPosted r then { h with bridges := oset h.bridges (pageOf a) (some ⟨a, BitVec.ofNat 32 data, src⟩) }
      else landWrite h v a data src := by
  simp [busWrite, page, brg, hr, near, idle, landPosted_of_idle]

/-- A read of a powered register that is no data port shows its word; a control core's read clears its RC fields (R132). -/
theorem busRead_of_idle {h : Hw} {v : Vault} {src a : Nat} {r : RegDef} (page : pageExists h a = true) (brg : regOff a ≠ 0xFFC)
    (hr : regAt a = some r) (near : pageFar h a = false) (idle : inFlight h a = none) (on : domainOn h (regDomain a) = true)
    (tdata : regCode a * 0x100000 + regOff a ≠ CH_TDATA) (cdata : regCode a * 0x100000 + regOff a ≠ SV_CDATA) :
    busRead h v src a =
      if src < 4 then clearRc (emit h (.word (BitVec.ofNat 32 (readable r (shownWord h a))))) a r
      else emit h (.word (BitVec.ofNat 32 (readable r (shownWord h a)))) := by
  simp [busRead, page, brg, hr, near, on, tdata, cdata, landPosted_of_idle idle]

theorem regCode_mbctl {p : Nat} (hp : p < 2) : regCode (HP_MBCTL + inst p) = 1 := by
  simp only [regCode, HP_MBCTL, inst]
  omega

theorem shownWord_out (h : Hw) (o : List Output) (a : Nat) : shownWord { h with out := o } a = shownWord h a := rfl

theorem getF_setF_flag (h : Hw) (k n : Nat) (hn : n ≤ 31) : getF (setF h ⟨k, n, n⟩ 0 1) ⟨k, n, n⟩ 0 = 1 := by
  rw [getF_setF h ⟨k, n, n⟩ 0 1 (Nat.le_refl n) hn]
  simp

theorem writeCodes_mem (h : Hw) (a data : Nat) : (writeCodes h a data).mem = h.mem := by
  unfold writeCodes
  split <;> rfl

@[simp] theorem port_setF (h : Hw) (f : Fld) (d v p : Nat) : port (setF h f d v) p = port h p := rfl

theorem port_onPort (h : Hw) (p : Nat) (f : Port → Port) : port (onPort h p f) p = f (port h p) := by
  unfold port onPort
  split <;> rfl

theorem onPort_mem (h : Hw) (p : Nat) (f : Port → Port) : (onPort h p f).mem = h.mem := by
  unfold onPort
  split <;> rfl

/-- ENA set in a stopped notification ring starts it: tail 0, phase 1 (R419). -/
theorem writeRingConfig_start {h : Hw} {p data : Nat} (off : flagF h HP_NRCFG_ENA (inst p) = false) (ena : bitAt data 31 = true) :
    writeRingConfig h p data =
      setF (onPort (writeCodes h (HP_NRCFG + inst p) data) p (fun x => { x with ringPhase := true })) HP_NRTAIL_TAIL (inst p) 0 := by
  simp [writeRingConfig, off, ena]

/-! The register commands, from the sources other than BAR2. -/

/-- A command that leaves the Halls alone. -/
theorem runBoth_of_vault {s : State} {f : Hw → Vault → Hw × Vault} {h : Hw} (e : f { s.hw with out := [] } s.vault = (h, s.vault)) :
    s.runBoth f = .next { s with hw := h } := by
  simp only [State.runBoth, e]

theorem exec_rcFieldRead_bus {src : Nat} (a : Nat) (s : State) (hs : src < 8) (bus : barSource src = none) :
    exec (.rcFieldRead src a) s = .next { s with hw := busRead { s.hw with out := [] } s.vault src a } := by
  change execRcFieldRead src a s = _
  exact runBoth_of_vault (by simp only [Nat.mod_eq_of_lt hs, readReaches_bus bus])

theorem exec_registerWrite_bus {src a : Nat} (data : Nat) (s : State) (hs : src < 8) (bus : barSource src = none) (code : regCode a ≠ 1) :
    exec (.registerWrite src a data) s = .next { s with hw := busWrite { s.hw with out := [] } s.vault src a data } := by
  have noMailbox : ∀ b : Bool, ¬ (a = HP_MBCTL + inst (regInst a) ∧ regInst a < 2 ∧ b = true) :=
    fun _ ⟨e, lt, _⟩ => code (e ▸ regCode_mbctl lt)
  change execRegisterWrite src a data s = _
  exact runBoth_of_vault (by simp only [Nat.mod_eq_of_lt hs, writeReaches_bus bus, if_neg (noMailbox _)])

theorem exec_postedWriteAccepted_bus {src a : Nat} {r : RegDef} (data : Nat) (s : State) (hs : src < 8) (bus : barSource src = none)
    (hr : regAt a = some r) (posted : isPosted r = true) :
    exec (.postedWriteAccepted src a data) s = .next { s with hw := busWrite { s.hw with out := [] } s.vault src a data } := by
  change execPostedWriteAccepted src a data s = _
  exact runBoth_of_vault (by simp only [Nat.mod_eq_of_lt hs, writeReaches_bus bus, hr, if_pos posted])

theorem exec_postedWriteLands (page : Nat) (s : State) :
    exec (.postedWriteLands page) s = .next { s with hw := landPosted { s.hw with out := [] } s.vault page } := rfl

theorem exec_bridgeFarSideReady {page : Nat} {s : State} (exist : pageExists s.hw page = true) (ready : farReady s.hw page = true) :
    exec (.bridgeFarSideReady page) s =
      let h := setF { s.hw with out := [] } (farFld (pageOf page)) 0 0
      .next { s with hw := if regCode page = 15 ∧ 1 ≤ regInst page then takeThresholds h (regInst page) else h } := by
  have met : (pageExists { s.hw with out := [] } page && farReady { s.hw with out := [] } page) = true := by
    rw [Bool.and_eq_true]; exact ⟨exist, ready⟩
  change execBridgeFarSideReady page s = _
  simp only [execBridgeFarSideReady, State.run, if_pos met]

theorem exec_misalignedAccess {a : Nat} {s : State} (write : Bool) (exist : pageExists s.hw a = true) :
    exec (.misalignedAccess a write) s =
      let h := setF { s.hw with out := [] } ⟨pageOf a + 0xFFC, 29, 29⟩ 0 1
      .next { s with hw := if write then h else emit h (.word 0) } := by
  have exist : pageExists { s.hw with out := [] } a = true := exist
  change execMisalignedAccess a write s = _
  simp only [execMisalignedAccess, State.run, if_pos exist]

theorem exec_notificationRingEnable {p : Nat} (data : Nat) (s : State) (hp : p < 2) :
    exec (.notificationRingEnable p data) s = .next { s with hw := writeRingConfig { s.hw with out := [] } p data } := by
  change execNotificationRingEnable p data s = _
  simp only [execNotificationRingEnable, State.run, if_pos hp]

/-- Settles O4: with its conditions met, each access takes the one branch of its meaning that its bridge leaves open. -/
theorem registerAccessesComplete : Obligations.RegisterAccessesComplete := by
  refine ⟨?write, ?accepted, ?lands, ?ready, ?readyThermal, ?misread, ?miswrite, ?read, ?ring⟩
  case write =>
    intro src a data r s hs page code brg hr posted near idle
    rw [exec_registerWrite_bus data s (by omega) (barSource_of_lt hs) code,
      busWrite_of_idle (h := { s.hw with out := [] }) page brg hr near idle, if_neg (by simp [posted])]
  case accepted =>
    intro src a data r s hs page brg hr posted near idle
    rw [exec_postedWriteAccepted_bus data s (by omega) (barSource_of_lt hs) hr posted,
      busWrite_of_idle (h := { s.hw with out := [] }) page brg hr near idle, if_pos posted]
  case lands =>
    intro page p s flight
    have flight : inFlight { s.hw with out := [] } page = some p := flight
    simp only [exec_postedWriteLands, landPosted, flight]
  case ready =>
    intro page s exist ready noThermal
    rw [exec_bridgeFarSideReady exist ready]
    dsimp only
    rw [if_neg (by omega)]
  case readyThermal =>
    intro page s exist ready thermal die
    rw [exec_bridgeFarSideReady exist ready]
    dsimp only
    rw [if_pos ⟨thermal, die⟩]
  case misread =>
    intro a s exist
    simp only [exec_misalignedAccess false exist, Bool.false_eq_true, if_false]
    refine ⟨_, rfl, ?_, ?_, ?_, rfl, rfl⟩
    · rw [emit_out, setF_out, List.nil_append]
    · rw [emit_getF]
      exact getF_setF_flag _ _ 29 (by decide)
    · rw [emit_mem, setF_mem]
  case miswrite =>
    intro a s exist
    simp only [exec_misalignedAccess true exist, if_true]
  case read =>
    intro src a r s control hs bus page brg hr near idle on tdata cdata
    rw [exec_rcFieldRead_bus a s hs bus,
      busRead_of_idle (h := { s.hw with out := [] }) page brg hr near idle on tdata cdata, if_neg (by omega), shownWord_out, emit,
      List.nil_append]
  case ring =>
    intro p data s hp off ena
    refine ⟨_, exec_notificationRingEnable data s hp, ?_, ?_, ?_, rfl, rfl⟩ <;> rw [writeRingConfig_start (h := { s.hw with out := [] }) off ena]
    · rw [port_setF, port_onPort]
    · exact getF_setF _ _ _ 0
    · rw [setF_mem, onPort_mem, writeCodes_mem]

end Sys2Proof.Machine
end

section
/-! The members of a unit path (R25). -/
namespace Sys2Proof.Machine

theorem matchesPath_iff {p m : Nat} : matchesPath p m = true ↔ ∀ i, i < 4 → nib p i ≠ 0 → nib m i = nib p i := by
  have here (i : Nat) : (nib p i == 0 || nib p i == nib m i) = true ↔ (nib p i ≠ 0 → nib m i = nib p i) := by
    rw [Bool.or_eq_true, beq_iff_eq, beq_iff_eq, or_iff_not_imp_left, eq_comm (a := nib m i)]
  calc matchesPath p m = true
      ↔ ∀ i ∈ List.range 4, (nib p i == 0 || nib p i == nib m i) = true := List.all_eq_true
    _ ↔ ∀ i, i < 4 → nib p i ≠ 0 → nib m i = nib p i := by simp only [here, List.mem_range]

theorem mem_members {p m : Nat} : m ∈ members p ↔ m ∈ leafPaths ∧ matchesPath p m = true := List.mem_filter

theorem isLeaf_iff {p : Nat} : isLeaf p = true ↔ p ∈ leafPaths := List.contains_iff_mem

/-! No leaf of R21-R24 lies below another one: what matches a leaf differs from it in its trailing zero nibbles only, and in the
ascending table the next leaf lies beyond those. -/

/-- The size of the range from a path upward in which its nibbles before the trailing zero ones (two at most) stay. -/
def pathSpan (p : Nat) : Nat := if nib p 0 ≠ 0 then 1 else if nib p 1 ≠ 0 then 16 else 256

theorem pathSpan_pos (p : Nat) : 0 < pathSpan p := by
  unfold pathSpan
  split_ifs <;> decide

/-- The zero nibbles of a leaf are its last ones, at most two. -/
theorem leaf_nibbles {p : Nat} (hp : p ∈ leafPaths) : p < 2 ^ 16 ∧ nib p 3 ≠ 0 ∧ nib p 2 ≠ 0 ∧ (nib p 0 ≠ 0 → nib p 1 ≠ 0) := by
  have table : leafPaths.all (fun p => decide (p < 2 ^ 16 ∧ nib p 3 ≠ 0 ∧ nib p 2 ≠ 0 ∧ (nib p 0 ≠ 0 → nib p 1 ≠ 0))) = true := by decide
  exact of_decide_eq_true (List.all_eq_true.mp table p hp)

theorem bounds_of_matches_leaf {p m : Nat} (hp : p ∈ leafPaths) (hm : m ∈ leafPaths) (fits : matchesPath p m = true) :
    p ≤ m ∧ m < p + pathSpan p := by
  obtain ⟨hp, p3, p2, p10⟩ := leaf_nibbles hp
  obtain ⟨hm, -⟩ := leaf_nibbles hm
  have agree := matchesPath_iff.mp fits
  have m3 := agree 3 (by decide) p3
  have m2 := agree 2 (by decide) p2
  have m1 := agree 1 (by decide)
  have m0 := agree 0 (by decide)
  unfold pathSpan
  split_ifs <;> simp only [nib, Nat.reducePow, Nat.div_one] at * <;> omega

/-- From `a` upward, the spans of a list's paths follow one another without overlap. -/
def spansFrom : Nat → List Nat → Bool
  | _, [] => true
  | a, p :: l => decide (a ≤ p) && spansFrom (p + pathSpan p) l

theorem spansFrom_pairwise {a : Nat} {l : List Nat} (spans : spansFrom a l = true) :
    (∀ m ∈ l, a ≤ m) ∧ l.Pairwise (fun p m => p + pathSpan p ≤ m) := by
  induction l generalizing a with
  | nil => simp
  | cons p l ih =>
    rw [spansFrom, Bool.and_eq_true, decide_eq_true_eq] at spans
    obtain ⟨low, rest⟩ := spans
    obtain ⟨beyond, apart⟩ := ih rest
    have above : ∀ m ∈ l, a ≤ m := fun m hm => (low.trans (Nat.le_add_right p _)).trans (beyond m hm)
    exact ⟨List.forall_mem_cons.mpr ⟨low, above⟩, List.pairwise_cons.mpr ⟨beyond, apart⟩⟩

theorem leafPaths_apart : leafPaths.Pairwise (fun p m => p + pathSpan p ≤ m) := by
  have spans : spansFrom 0 leafPaths = true := by decide
  exact (spansFrom_pairwise spans).2

/-- The spans of two paths do not overlap. -/
def SpansApart (p m : Nat) : Prop := p + pathSpan p ≤ m ∨ m + pathSpan m ≤ p

theorem leaves_apart {p m : Nat} (hp : p ∈ leafPaths) (hm : m ∈ leafPaths) (other : p ≠ m) : SpansApart p m :=
  have _ : Std.Symm SpansApart := ⟨fun _ _ => Or.symm⟩
  (List.Pairwise.imp (S := SpansApart) .inl leafPaths_apart).forall hp hm other

theorem eq_of_matches_leaf {p m : Nat} (hp : p ∈ leafPaths) (hm : m ∈ leafPaths) (fits : matchesPath p m = true) : m = p := by
  obtain ⟨low, high⟩ := bounds_of_matches_leaf hp hm fits
  by_contra other
  obtain before | after := leaves_apart hp hm (Ne.symm other)
  · omega
  · have pos := pathSpan_pos m
    omega

theorem matchesPath_self (p : Nat) : matchesPath p p = true := matchesPath_iff.mpr fun _ _ _ => rfl

theorem leafPaths_nodup : leafPaths.Nodup :=
  List.Pairwise.imp (fun {p _} apart => by have := pathSpan_pos p; omega) leafPaths_apart

theorem members_of_leaf (p : Nat) (hp : p ∈ leafPaths) : members p = [p] := by
  have itself : ∀ m ∈ leafPaths, matchesPath p m = (m == p) := fun m hm => by
    rw [Bool.eq_iff_iff, beq_iff_eq]
    exact ⟨eq_of_matches_leaf hp hm, fun same => same ▸ matchesPath_self m⟩
  rw [members, List.filter_congr itself, List.filter_beq, List.count_eq_one_of_mem leafPaths_nodup hp, List.replicate_one]

theorem isLeaf_iff_members {p : Nat} : isLeaf p = true ↔ members p = [p] := by
  rw [isLeaf_iff]
  constructor
  · exact members_of_leaf p
  · intro only
    have self : p ∈ members p := by rw [only]; exact List.mem_singleton_self p
    exact (mem_members.mp self).1

theorem unitExists_iff {p : Nat} (small : p < 2 ^ 16) : unitExists p = true ↔ members p ≠ [] := by
  have small : decide (p < 0x10000) = true := decide_eq_true small
  rw [unitExists, small, Bool.true_and, Bool.not_eq_true', List.isEmpty_eq_false_iff]

/-- A path is a group exactly when some leaf other than itself is a member. -/
theorem group_iff_other_member {p : Nat} (small : p < 2 ^ 16) :
    (unitExists p = true ∧ isLeaf p = false) ↔ ∃ m ∈ members p, m ≠ p := by
  rw [unitExists_iff small]
  constructor
  · rintro ⟨nonempty, group⟩
    obtain ⟨m, hm⟩ := List.exists_mem_of_ne_nil _ nonempty
    refine ⟨m, hm, fun same => ?_⟩
    have leaf : isLeaf p = true := isLeaf_iff.mpr (same ▸ (mem_members.mp hm).1)
    exact Bool.false_ne_true (group.symm.trans leaf)
  · rintro ⟨m, hm, other⟩
    refine ⟨List.ne_nil_of_mem hm, Bool.eq_false_iff.mpr fun leaf => other ?_⟩
    rw [isLeaf_iff_members.mp leaf] at hm
    exact List.mem_singleton.mp hm

theorem members_root : members 0 = leafPaths :=
  List.filter_eq_self.mpr fun m _ => matchesPath_iff.mpr fun i _ nonzero => absurd (by simp [nib]) nonzero

/-- Settles O49: membership is the match of R25, and no leaf matches another one. -/
theorem membersOfAPath : Obligations.MembersOfAPath :=
  ⟨fun _ _ => by rw [mem_members, matchesPath_iff], fun _ _ => isLeaf_iff_members, fun _ small => group_iff_other_member small, members_root⟩

end Sys2Proof.Machine
end

section
/-! Reads of the standard parameters, and what a group answers to them (R28, R139). -/
namespace Sys2Proof.Machine

@[simp] theorem leBytes_length (n x : Nat) : (leBytes n x).length = n := by
  induction n generalizing x with
  | zero => rfl
  | succ n ih => rw [leBytes, List.length_cons, ih]

/-! The objects behind 000-00F. -/

/-- A standard parameter is no array, and no register stands behind it. -/
theorem standardEntry_plain {u q : Nat} {d : EntDef} (entry : standardEntry u q = some d) : d.count = 0 ∧ d.parts = [] := by
  unfold standardEntry at entry
  split at entry <;> cases entry <;> exact ⟨rfl, rfl⟩

theorem objDef_standard {h : Hw} {u q : Nat} {d : EntDef} (std : q < 0x10) (found : objDef h u q 0 = some d) : standardEntry u q = some d := by
  unfold objDef at found
  split at found
  · cases found
  · cases entry : standardEntry u q with
    | none => simp [entry] at found
    | some d' => simpa [std, entry, (standardEntry_plain entry).1] using found

/-- Beyond 000 and 001 only a path with a member that is not absent has objects (R30). -/
theorem present_of_objDef {h : Hw} {u q e : Nat} {d : EntDef} (above : 1 < q) (found : objDef h u q e = some d) : present h u ≠ [] := by
  intro empty
  have missing : !(unitExists u) ∨ (q ≠ 0 ∧ q ≠ 1 ∧ (present h u).isEmpty) := .inr ⟨by omega, by omega, by rw [empty]; rfl⟩
  rw [objDef, if_pos missing] at found
  cases found

theorem objDef_of_served {h : Hw} {sess u q e : Nat} (served : readStatus h sess u q e = 0) : ∃ d, objDef h u q e = some d := by
  cases found : objDef h u q e with
  | none => rw [readStatus, found] at served; cases served
  | some d => exact ⟨d, rfl⟩

/-- A served read of 001-00F changes nothing and answers the path's value in the entry's type. -/
theorem readOne_standard {h : Hw} {v : Vault} {sess u q : Nat} {d : EntDef} (served : readStatus h sess u q 0 = 0) (above : 0 < q)
    (std : q < 0x10) (found : objDef h u q 0 = some d) :
    readOne h v sess u q 0 = (h, { status := 0, ty := d.ty, value := leBytes (typeLen d.ty) (standardValue h u q) }) := by
  obtain ⟨-, noParts⟩ := standardEntry_plain (objDef_standard std found)
  have noRegs : objRegs d u 0 = [] := by simp [objRegs, noParts]
  have value : objBytes h v sess u q 0 d = leBytes (typeLen d.ty) (standardValue h u q) := by
    rw [objBytes, if_neg (by omega), objNum, if_pos std]
  have noChallenge : q ≠ 0x011 := by omega
  have noDrop : q ≠ 0x016 := by omega
  simp [readOne, found, served, noRegs, settle, noChallenge, noDrop, value]

theorem transact_read (h : Hw) (v : Vault) (sess u : Nat) {q e : Nat} (hq : q < 0x1000) (he : e < 16) :
    transact h v sess { op := 1, ty := 0, unit := u, pe := q * 16 + e, value := [] } = readOne h v sess u q e := by
  have param : (q * 16 + e) / 16 % 0x1000 = q := by omega
  have elem : (q * 16 + e) % 16 = e := by omega
  simp only [transact, Txn.param, Txn.elem, param, elem]

/-- READ while no transaction of the session is under way. -/
theorem exec_readObject_idle {sess q e : Nat} {s : State} (u : Nat) (hq : q < 0x1000) (he : e < 16) (idle : sessionBusy s.hw sess = false) :
    exec (.readObject sess u q e) s = .next { s with hw := reply (readOne { s.hw with out := [] } s.vault sess u q e) sess } := by
  have idle : sessionBusy { s.hw with out := [] } sess = false := idle
  change execReadObject sess u q e s = _
  rw [execReadObject, State.transact]
  refine runBoth_of_vault ?_
  simp only [idle, transact_read _ _ _ _ hq he, Bool.false_eq_true, if_false]

/-- READ of 001-00F: only the answer goes out. -/
theorem exec_readObject_standard {sess u q : Nat} {s : State} {d : EntDef} (served : readStatus s.hw sess u q 0 = 0)
    (idle : sessionBusy s.hw sess = false) (above : 0 < q) (std : q < 0x10) (found : objDef s.hw u q 0 = some d) :
    exec (.readObject sess u q 0) s = .next { s with hw := { s.hw with out :=
      [.reply sess 0 d.ty (standardValue s.hw u q % 256 ^ typeLen d.ty) (typeLen d.ty)] } } := by
  rw [exec_readObject_idle u (by omega) (by decide) idle, readOne_standard (h := { s.hw with out := [] }) served above std found]
  simp only [reply, emit, leVal_leBytes, leBytes_length, List.nil_append]
  rfl

/-! Values of a group. -/

theorem mem_present {h : Hw} {p m : Nat} : m ∈ present h p ↔ m ∈ members p ∧ absent h m = false := by
  rw [present, List.mem_filter, Bool.not_eq_true']

theorem bitAt_foldl_or (f : Nat → Nat) (l : List Nat) (w k : Nat) :
    bitAt (l.foldl (fun w m => w ||| f m) w) k = true ↔ bitAt w k = true ∨ ∃ m ∈ l, bitAt (f m) k = true := by
  induction l generalizing w with
  | nil => simp
  | cons a l ih =>
    rw [List.foldl_cons, ih, bitAt_eq_testBit (w ||| f a), Nat.testBit_or, Bool.or_eq_true, ← bitAt_eq_testBit, ← bitAt_eq_testBit,
      List.exists_mem_cons_iff, or_assoc]

theorem max?_map_eq_foldl (f : Nat → Nat) {l : List Nat} (nonempty : l ≠ []) :
    (l.map f).max? = some (l.foldl (fun w m => max w (f m)) 0) := by
  cases l with
  | nil => exact absurd rfl nonempty
  | cons a l => rw [List.map_cons, List.max?_cons', List.foldl_map, List.foldl_cons, Nat.zero_max]

/-- Bit `k` of a path's 002 is that of some member that is not absent. -/
theorem bitAt_summary {h : Hw} {p k : Nat} :
    bitAt (standardValue h p 2) k = true ↔ ∃ m ∈ members p, absent h m = false ∧ bitAt (unit h m).summary k = true := by
  change bitAt ((present h p).foldl (fun w m => w ||| (unit h m).summary) 0) k = true ↔ _
  simp [bitAt_foldl_or (fun m => (unit h m).summary), mem_present, and_assoc]

/-- A path's 005 is the highest power state among its members that are not absent. -/
theorem power_isGreatest {h : Hw} {p : Nat} (here : present h p ≠ []) :
    (∀ m ∈ members p, absent h m = false → powerOf h m ≤ standardValue h p 5) ∧
    ∃ m ∈ members p, absent h m = false ∧ powerOf h m = standardValue h p 5 := by
  obtain ⟨held, above⟩ := List.max?_eq_some_iff.mp (max?_map_eq_foldl (powerOf h) here)
  obtain ⟨m, hm, same⟩ := List.mem_map.mp held
  obtain ⟨member, there⟩ := mem_present.mp hm
  exact ⟨fun n hn nHere => above _ (List.mem_map_of_mem (mem_present.mpr ⟨hn, nHere⟩)), m, member, there, same⟩

theorem powerOf_le_two (h : Hw) (u : Nat) : powerOf h u ≤ 2 := by
  unfold powerOf domainState
  split_ifs <;> decide

/-- Settles O51: the answer is the path's value, which takes in every member that is not absent. -/
theorem groupsReadTheirMembers : Obligations.GroupsReadTheirMembers := by
  refine ⟨?summary, ?power⟩
  case summary =>
    intro sess p s _ served idle
    obtain ⟨d, found⟩ := objDef_of_served served
    obtain rfl := Option.some.inj (objDef_standard (by decide) found)
    refine ⟨_, exec_readObject_standard served idle (by decide) (by decide) found, _, rfl, fun k hk => ?_⟩
    exact (Bool.eq_iff_iff.mp (bitAt_mod_word (by omega))).trans bitAt_summary
  case power =>
    intro sess p s _ served idle
    obtain ⟨d, found⟩ := objDef_of_served served
    obtain ⟨above, m, member, there, held⟩ := power_isGreatest (present_of_objDef (by decide) found)
    obtain rfl := Option.some.inj (objDef_standard (by decide) found)
    have byte : standardValue s.hw p 5 % 256 = standardValue s.hw p 5 :=
      Nat.mod_eq_of_lt (by have := powerOf_le_two s.hw m; omega)
    refine ⟨_, exec_readObject_standard served idle (by decide) (by decide) found, standardValue s.hw p 5, ?_, above, m, member, there, held⟩
    exact congrArg (fun v => [Output.reply sess 0 10 v 1]) byte

end Sys2Proof.Machine
end

section
/-! The test access port (R87, R88). -/
namespace Sys2Proof.Machine

/-- Settles O56: from each of the sixteen states the five transitions are run. -/
theorem fiveOnesResetTheTap : Obligations.FiveOnesResetTheTap := by
  intro st
  cases st <;> rfl

/-- A guarded instruction whose condition fails gives way to BYPASS before the clock acts (R88). -/
theorem tapRecheck_of_lapsed {h : Hw} {still : Bool} (guarded : tapGuarded h.tap.ir = true) (lapsed : tapGuard h still h.tap.ir = false) :
    tapRecheck h still = { h with tap := { h.tap with ir := tapBypass, linkRun := false } } :=
  if_pos ⟨guarded, by rw [lapsed]; rfl⟩

theorem tapAct_shiftDr {h : Hw} (still tdi : Bool) (levels : Nat) (shifts : h.tap.st = .shiftDr) :
    tapAct h still tdi levels =
      { h with tap := { h.tap with drShift := h.tap.drShift / 2 + tdi.toNat * 2 ^ (tapLength h.tap.ir - 1), tdo := bitAt h.tap.drShift 0 } } := by
  unfold tapAct
  simp only [shifts]

/-- No transition of one clock leads from Shift-DR to Test-Logic-Reset. -/
theorem next_shiftDr_ne (tms : Bool) : TapState.next .shiftDr tms ≠ .testLogicReset := by
  cases tms <;> decide

/-- In Shift-DR the bit enters at the top of the register that the instruction left by the recheck of R88 selects. -/
theorem exec_tapClock_shiftDr {s : State} (tms tdi still : Bool) (levels : Nat) (shifts : s.hw.tap.st = .shiftDr) :
    ∃ t, exec (.tapClock tms tdi still levels) s = .next t ∧
      t.hw.tap.drShift = s.hw.tap.drShift / 2 + tdi.toNat * 2 ^ (tapLength (tapRecheck { s.hw with out := [] } still).tap.ir - 1) := by
  have same : (tapRecheck { s.hw with out := [] } still).tap.st = .shiftDr ∧
      (tapRecheck { s.hw with out := [] } still).tap.drShift = s.hw.tap.drShift := by
    unfold tapRecheck
    split <;> exact ⟨shifts, rfl⟩
  obtain ⟨st, shift⟩ := same
  refine ⟨_, rfl, ?_⟩
  simp only [shifts, tapAct_shiftDr _ _ _ st, if_neg (next_shiftDr_ne tms), true_or, if_true, emit_tap, shift]

/-- LINKTEST in effect in Shift-DR, with an empty register. -/
def linktestShifting : State := { hw := { tap := { st := .shiftDr, ir := tapLinktest } } }

/-- Refutes O24: with LINKTEST in effect the spindle is found turning in Shift-DR, so R88 selects BYPASS and the bit enters a register of
length 1, not at bit 31 of the 32 that the statement takes from the instruction before the clock. -/
theorem not_resetsAndScanComplete : ¬ Obligations.ResetsAndScanComplete := by
  rintro ⟨-, -, -, -, -, -, shift, -⟩
  obtain ⟨t, ran, claimed, -⟩ := shift false true false 0 linktestShifting rfl
  obtain ⟨t', ran', actual⟩ := exec_tapClock_shiftDr false true false 0 (s := linktestShifting) rfl
  obtain rfl : t = t' := by rw [ran] at ran'; injection ran'
  rw [tapRecheck_of_lapsed rfl rfl] at actual
  exact absurd (claimed.symm.trans actual) (by decide)

end Sys2Proof.Machine
end

section
/-! One carriage's part of the state, and registers of other pages: what the updates of each leave of the other. -/
namespace Sys2Proof.Machine

theorem lt_four_of_populated {h : Hw} {c : Nat} (here : populated h c = true) : c < 4 := by
  have few := bits_lt 11 10 h.pins.strap
  have within : c < bits 11 10 h.pins.strap + 1 := of_decide_eq_true here
  omega

theorem lt_four_of_midUp {h : Hw} {c : Nat} (up : midUp h c = true) : c < 4 := by
  rw [midUp, Bool.and_eq_true] at up
  exact lt_four_of_populated up.1

theorem Quad.set_get_self {α : Type} (q : Quad α) (c : Nat) : q.set c (q.get c) = q := by
  match c with
  | 0 | 1 | 2 | _ + 3 => rfl

theorem Quad.set_set {α : Type} (q : Quad α) (c : Nat) (a b : α) : (q.set c a).set c b = q.set c b := by
  match c with
  | 0 | 1 | 2 | _ + 3 => rfl

@[simp] theorem car_onCar (h : Hw) (c : Nat) (f : Carriage → Carriage) : car (onCar h c f) c = f (car h c) := Quad.get_set_self _ _ _
@[simp] theorem car_onChan (h : Hw) (c : Nat) (f : Channel → Channel) :
    car (onChan h c f) c = { car h c with chan := f (car h c).chan } := car_onCar _ _ _
@[simp] theorem car_onPath (h : Hw) (c : Nat) (f : SectorPath → SectorPath) :
    car (onPath h c f) c = { car h c with path := f (car h c).path } := car_onCar _ _ _
@[simp] theorem car_onFmt (h : Hw) (c : Nat) (f : Formatter → Formatter) :
    car (onFmt h c f) c = { car h c with fmt := f (car h c).fmt } := car_onCar _ _ _
@[simp] theorem car_onServo (h : Hw) (c : Nat) (f : Servo → Servo) :
    car (onServo h c f) c = { car h c with servo := f (car h c).servo } := car_onCar _ _ _
@[simp] theorem car_onCal (h : Hw) (c : Nat) (f : Calib → Calib) :
    car (onCal h c f) c = { car h c with cal := f (car h c).cal } := car_onCar _ _ _
@[simp] theorem car_setReg (h : Hw) (a w c : Nat) : car (setReg h a w) c = car h c := (rfl)
@[simp] theorem car_setF (h : Hw) (f : Fld) (d v c : Nat) : car (setF h f d v) c = car h c := (rfl)
@[simp] theorem car_out (h : Hw) (o : List Output) (c : Nat) : car { h with out := o } c = car h c := (rfl)
@[simp] theorem car_emit (h : Hw) (o : Output) (c : Nat) : car (emit h o) c = car h c := (rfl)

/-- A field of another page stays. -/
theorem getF_setF_page {f g : Fld} (h : Hw) (d v : Nat) (page : regCode g.key ≠ regCode f.key) : getF (setF h f d v) g d = getF h g d :=
  getF_setF_reg h f g d d v fun same => page (by rw [Nat.add_right_cancel same])

/-- A field reads as it was set; its layout is one decidable fact. -/
theorem getF_setF_self (h : Hw) (f : Fld) (d v : Nat) (laid : f.lo ≤ f.hi ∧ f.hi ≤ 31) : getF (setF h f d v) f d = v % 2 ^ (f.hi + 1 - f.lo) :=
  getF_setF h f d v laid.1 laid.2

/-- A field that shares the register, but no bit, stays. -/
theorem getF_setF_apart (h : Hw) (f g : Fld) (d v : Nat)
    (apart : g.key = f.key ∧ f.lo ≤ f.hi ∧ f.hi ≤ 31 ∧ g.lo ≤ g.hi ∧ (f.hi < g.lo ∨ g.hi < f.lo)) :
    getF (setF h f d v) g d = getF h g d := by
  obtain ⟨key, written, word, read, beside⟩ := apart
  exact getF_setF_beside h f g d v key written word read beside

/-- A field of another register of the same page stays. -/
theorem getF_setF_key {f g : Fld} (h : Hw) (d v : Nat) (key : g.key ≠ f.key) : getF (setF h f d v) g d = getF h g d :=
  getF_setF_reg h f g d d v fun same => key (Nat.add_right_cancel same)

end Sys2Proof.Machine
end

section
/-! Frames of the preamplifier's serial interface (R68-R71, R313). -/
namespace Sys2Proof.Machine

/-- A frame that starts changes the wire of its carriage and the outputs only. -/
theorem startFrame_only (h : Hw) (c : Nat) : ∃ w o, startFrame h c = { onFmt h c (fun f => { f with wire := w }) with out := o } := by
  have same : h = { onFmt h c (fun f => { f with wire := (car h c).fmt.wire }) with out := h.out } := by
    unfold onFmt onCar car
    rw [Quad.set_get_self]
  unfold startFrame
  dsimp only
  split
  · exact ⟨_, _, same⟩
  · exact ⟨_, _, rfl⟩
  · split
    · exact ⟨_, _, rfl⟩
    · exact ⟨_, _, same⟩

/-- A queued frame changes the wire and the queue of its carriage and the outputs only. -/
theorem queueFrame_only (h : Hw) (c word data : Nat) :
    ∃ w l o, queueFrame h c word data = { onFmt h c (fun f => { f with wire := w, sif := l }) with out := o } := by
  unfold queueFrame
  split
  · obtain ⟨w, o, started⟩ := startFrame_only (onFmt h c (fun f => { f with sif := f.sif ++ [⟨word, data, false⟩] })) c
    refine ⟨w, (car h c).fmt.sif ++ [⟨word, data, false⟩], o, ?_⟩
    rw [started]
    unfold onFmt onCar car
    simp only [Quad.get_set_self, Quad.set_set]
  · refine ⟨(car h c).fmt.wire, (car h c).fmt.sif, h.out, ?_⟩
    unfold onFmt onCar car
    rw [Quad.set_get_self]

@[simp] theorem startFrame_mem (h : Hw) (c : Nat) : (startFrame h c).mem = h.mem := by
  obtain ⟨w, o, e⟩ := startFrame_only h c
  rw [e]; rfl

@[simp] theorem startFrame_getF (h : Hw) (c : Nat) (g : Fld) (i : Nat) : getF (startFrame h c) g i = getF h g i := by
  obtain ⟨w, o, e⟩ := startFrame_only h c
  rw [e]; rfl

/-- A frame that starts leaves the formatter's queue. -/
@[simp] theorem startFrame_sif (h : Hw) (c : Nat) : (car (startFrame h c) c).fmt.sif = (car h c).fmt.sif := by
  obtain ⟨w, o, e⟩ := startFrame_only h c
  rw [e, car_out, car_onFmt]

/-- The free interface takes the waiting firmware frame when the formatter has none (R70). -/
theorem startFrame_firmware {h : Hw} {c : Nat} (free : (car h c).fmt.wire = none) (empty : (car h c).fmt.sif = [])
    (active : flagF h PA_SIF_STAT_ACTIVE (inst c) = true) : (car (startFrame h c) c).fmt.wire = some false := by
  simp [startFrame, free, empty, active]

theorem startFrame_idle {h : Hw} {c : Nat} (free : (car h c).fmt.wire = none) (empty : (car h c).fmt.sif = [])
    (idle : flagF h PA_SIF_STAT_ACTIVE (inst c) = false) : startFrame h c = h := by
  simp [startFrame, free, empty, idle]

/-! A firmware frame starts, or is dropped (R71). -/

/-- The word that PA_SIF_CMD takes of a write (R71). -/
def sifCommand (data : Nat) : Nat := bits 31 18 data * 2 ^ 18 + bits 15 0 data

theorem sifCommand_eq (data : Nat) : sifCommand data = bits 31 18 data * 2 ^ 18 + bits 15 0 data := rfl

/-- The interface with a firmware frame waiting for the wire. -/
def firmwareFrameOn (h : Hw) (c data : Nat) : Hw :=
  setF (setReg h (PA_SIF_CMD + inst c) (sifCommand data)) PA_SIF_STAT_ACTIVE (inst c) 1

theorem firmwareFrameOn_eq (h : Hw) (c data : Nat) :
    firmwareFrameOn h c data = setF (setReg h (PA_SIF_CMD + inst c) (sifCommand data)) PA_SIF_STAT_ACTIVE (inst c) 1 := rfl

theorem exec_paSifCmdWrite_idle {c : Nat} {s : State} (data : Nat) (up : midUp s.hw c = true)
    (idle : flagF s.hw PA_SIF_STAT_ACTIVE (inst c) = false) :
    exec (.paSifCmdWrite c data) s =
      .next { s with hw := startFrame (firmwareFrameOn { s.hw with out := [] } c data) c } := by
  have up : midUp { s.hw with out := [] } c = true := up
  have idle : flagF { s.hw with out := [] } PA_SIF_STAT_ACTIVE (inst c) = false := idle
  change execPaSifCmdWrite c data s = _
  simp only [execPaSifCmdWrite, State.run, up, idle, Bool.not_true, Bool.false_eq_true, if_false]
  rfl

theorem exec_paSifCmdWrite_active {c : Nat} {s : State} (data : Nat) (up : midUp s.hw c = true)
    (active : flagF s.hw PA_SIF_STAT_ACTIVE (inst c) = true) :
    exec (.paSifCmdWrite c data) s = .next { s with hw := setF { s.hw with out := [] } PA_SIF_STAT_DROP (inst c) 1 } := by
  have up : midUp { s.hw with out := [] } c = true := up
  have active : flagF { s.hw with out := [] } PA_SIF_STAT_ACTIVE (inst c) = true := active
  change execPaSifCmdWrite c data s = _
  simp only [execPaSifCmdWrite, State.run, up, active, Bool.not_true, Bool.false_eq_true, if_false, if_true]

theorem getF_wdata_sifCommand (h : Hw) (c data : Nat) :
    getF (setReg h (PA_SIF_CMD + inst c) (sifCommand data)) PA_SIF_CMD_WDATA (inst c) = bits 15 0 data := by
  have high := bits_lt 31 18 data
  have low := bits_lt 15 0 data
  rw [getF, show PA_SIF_CMD_WDATA.key = PA_SIF_CMD from rfl, getReg_setReg_self, sifCommand_eq]
  generalize bits 31 18 data = a at high ⊢
  generalize bits 15 0 data = b at low ⊢
  simp only [bits, PA_SIF_CMD_WDATA, Nat.reduceAdd, Nat.reduceSub, Nat.reducePow] at high low ⊢
  omega

/-! The frame on the wire ends (R69, R70). -/

/-- The interface after the end of a firmware frame, before its result shows. -/
def firmwareFrameOff (h : Hw) (c : Nat) : Hw := setF (onFmt h c (fun f => { f with wire := none })) PA_SIF_STAT_ACTIVE (inst c) 0

theorem firmwareFrameOff_eq (h : Hw) (c : Nat) :
    firmwareFrameOff h c = setF (onFmt h c (fun f => { f with wire := none })) PA_SIF_STAT_ACTIVE (inst c) 0 := rfl

/-- The result of a firmware frame shows: read data with its parity verdict, or the acknowledge bits. -/
def firmwareFrameResult (h : Hw) (c ack rdata : Nat) (parityOk : Bool) : Hw :=
  if flagF h PA_SIF_CMD_RD (inst c) then setF (setF h PA_SIF_STAT_RPERR (inst c) (!parityOk).toNat) PA_SIF_STAT_RDATA (inst c) rdata
  else setF h PA_SIF_STAT_ACK (inst c) ack

theorem firmwareFrameResult_of_read {h : Hw} {c : Nat} (ack rdata : Nat) (parityOk : Bool) (read : flagF h PA_SIF_CMD_RD (inst c) = true) :
    firmwareFrameResult h c ack rdata parityOk =
      setF (setF h PA_SIF_STAT_RPERR (inst c) (!parityOk).toNat) PA_SIF_STAT_RDATA (inst c) rdata := if_pos read

theorem firmwareFrameResult_of_write {h : Hw} {c : Nat} (ack rdata : Nat) (parityOk : Bool) (write : flagF h PA_SIF_CMD_RD (inst c) = false) :
    firmwareFrameResult h c ack rdata parityOk = setF h PA_SIF_STAT_ACK (inst c) ack := if_neg (by rw [write]; exact Bool.false_ne_true)

theorem exec_preampFrameDone_firmware {c : Nat} {s : State} (ack rdata : Nat) (parityOk : Bool) (wire : (car s.hw c).fmt.wire = some false) :
    exec (.preampFrameDone c ack rdata parityOk) s =
      .next { s with hw := startFrame (firmwareFrameResult (firmwareFrameOff { s.hw with out := [] } c) c ack rdata parityOk) c } := by
  have wire : (car { s.hw with out := [] } c).fmt.wire = some false := wire
  change execPreampFrameDone c ack rdata parityOk s = _
  simp only [execPreampFrameDone, State.run, wire]
  rfl

@[simp] theorem firmwareFrameResult_car (h : Hw) (c ack rdata : Nat) (parityOk : Bool) (k : Nat) :
    car (firmwareFrameResult h c ack rdata parityOk) k = car h k := by
  cases rd : flagF h PA_SIF_CMD_RD (inst c)
  · rw [firmwareFrameResult_of_write ack rdata parityOk rd, car_setF]
  · rw [firmwareFrameResult_of_read ack rdata parityOk rd, car_setF, car_setF]

@[simp] theorem firmwareFrameResult_mem (h : Hw) (c ack rdata : Nat) (parityOk : Bool) :
    (firmwareFrameResult h c ack rdata parityOk).mem = h.mem := by
  cases rd : flagF h PA_SIF_CMD_RD (inst c)
  · rw [firmwareFrameResult_of_write ack rdata parityOk rd, setF_mem]
  · rw [firmwareFrameResult_of_read ack rdata parityOk rd, setF_mem, setF_mem]

theorem firmwareFrameResult_active (h : Hw) (c ack rdata : Nat) (parityOk : Bool) :
    getF (firmwareFrameResult h c ack rdata parityOk) PA_SIF_STAT_ACTIVE (inst c) = getF h PA_SIF_STAT_ACTIVE (inst c) := by
  cases rd : flagF h PA_SIF_CMD_RD (inst c)
  · rw [firmwareFrameResult_of_write ack rdata parityOk rd, getF_setF_apart _ PA_SIF_STAT_ACK PA_SIF_STAT_ACTIVE _ _ (by decide)]
  · rw [firmwareFrameResult_of_read ack rdata parityOk rd, getF_setF_apart _ PA_SIF_STAT_RDATA PA_SIF_STAT_ACTIVE _ _ (by decide),
      getF_setF_apart _ PA_SIF_STAT_RPERR PA_SIF_STAT_ACTIVE _ _ (by decide)]

theorem firmwareFrameOff_rd (h : Hw) (c : Nat) : flagF (firmwareFrameOff h c) PA_SIF_CMD_RD (inst c) = flagF h PA_SIF_CMD_RD (inst c) := by
  rw [flagF, firmwareFrameOff_eq, getF_setF_key, onFmt_getF, ← flagF]
  decide

/-- After a firmware frame the interface is free: its result shows, and with no formatter frame queued no frame follows. -/
theorem preampFrameDone_firmware {c : Nat} {s : State} (ack rdata : Nat) (parityOk : Bool) (wire : (car s.hw c).fmt.wire = some false)
    (empty : (car s.hw c).fmt.sif = []) :
    ∃ t, exec (.preampFrameDone c ack rdata parityOk) s = .next t ∧
      t.hw = firmwareFrameResult (firmwareFrameOff { s.hw with out := [] } c) c ack rdata parityOk ∧ (car t.hw c).fmt.wire = none ∧
      getF t.hw PA_SIF_STAT_ACTIVE (inst c) = 0 ∧ t.hw.mem = s.hw.mem ∧ t.vault = s.vault ∧ t.pending = s.pending := by
  have off : getF (firmwareFrameOff { s.hw with out := [] } c) PA_SIF_STAT_ACTIVE (inst c) = 0 :=
    getF_setF_self _ PA_SIF_STAT_ACTIVE _ 0 (by decide)
  have idle := (firmwareFrameResult_active (firmwareFrameOff { s.hw with out := [] } c) c ack rdata parityOk).trans off
  have free : (car (firmwareFrameOff { s.hw with out := [] } c) c).fmt.wire = none := by simp [firmwareFrameOff_eq]
  have still : (car (firmwareFrameOff { s.hw with out := [] } c) c).fmt.sif = [] := by simp [firmwareFrameOff_eq, empty]
  rw [exec_preampFrameDone_firmware ack rdata parityOk wire, startFrame_idle (by simp [free]) (by simp [still]) (by rw [flagF, idle]; rfl)]
  exact ⟨_, rfl, rfl, by simp [free], idle, by simp [firmwareFrameOff_eq], rfl, rfl⟩

theorem firmwareFrameResult_read {h : Hw} {c : Nat} (ack rdata : Nat) (parityOk : Bool) (read : flagF h PA_SIF_CMD_RD (inst c) = true) :
    getF (firmwareFrameResult h c ack rdata parityOk) PA_SIF_STAT_RDATA (inst c) = rdata % 2 ^ 16 ∧
    getF (firmwareFrameResult h c ack rdata parityOk) PA_SIF_STAT_RPERR (inst c) = (!parityOk).toNat := by
  rw [firmwareFrameResult_of_read ack rdata parityOk read]
  refine ⟨getF_setF_self _ PA_SIF_STAT_RDATA _ _ (by decide), ?_⟩
  rw [getF_setF_apart _ PA_SIF_STAT_RDATA PA_SIF_STAT_RPERR _ _ (by decide), getF_setF_self _ PA_SIF_STAT_RPERR _ _ (by decide)]
  cases parityOk <;> rfl

theorem firmwareFrameResult_write {h : Hw} {c : Nat} (ack rdata : Nat) (parityOk : Bool) (write : flagF h PA_SIF_CMD_RD (inst c) = false) :
    getF (firmwareFrameResult h c ack rdata parityOk) PA_SIF_STAT_ACK (inst c) = ack % 4 := by
  rw [firmwareFrameResult_of_write ack rdata parityOk write, getF_setF_self _ PA_SIF_STAT_ACK _ _ (by decide)]
  rfl

/-! An accepted head selection (R262, R313). -/

/-- The last queued formatter frame leaves the wire and the queue. -/
def frameTakenOff (h : Hw) (c : Nat) : Hw := onFmt (onFmt h c (fun f => { f with wire := none })) c (fun f => { f with sif := [] })

theorem frameTakenOff_sif (h : Hw) (c : Nat) : (car (frameTakenOff h c) c).fmt.sif = [] := congrArg (fun k => k.fmt.sif) (car_onFmt _ c _)

theorem frameTakenOff_mem (h : Hw) (c : Nat) : (frameTakenOff h c).mem = h.mem := (onFmt_mem _ c _).trans (onFmt_mem h c _)

theorem exec_preampFrameDone_select {c : Nat} {s : State} {x : SifFrame} (rdata : Nat) (parityOk : Bool) (wire : (car s.hw c).fmt.wire = some true)
    (queue : (car s.hw c).fmt.sif = [x]) (write : bitAt x.command 15 = false) (select : bits 11 4 x.command = 0x20) :
    exec (.preampFrameDone c 2 rdata parityOk) s =
      .next { s with hw := startFrame (frameAccepted (frameTakenOff { s.hw with out := [] } c) c (bits 14 12 x.command) 0x20 x.data) c } := by
  have wire : (car { s.hw with out := [] } c).fmt.wire = some true := wire
  have queue : (car { s.hw with out := [] } c).fmt.sif = [x] := queue
  change execPreampFrameDone c 2 rdata parityOk s = _
  simp only [execPreampFrameDone, State.run, wire, queue, write, select, Bool.false_eq_true, if_false, if_true]
  rfl

theorem frameAccepted_select {h : Hw} {c head : Nat} (data : Nat) (valid : head < 6) :
    getF (frameAccepted h c head 0x20 data) FM_SQSTAT_SELHEAD (inst c) = head ∧ (frameAccepted h c head 0x20 data).mem = h.mem ∧
    (car (frameAccepted h c head 0x20 data) c).fmt.sif = (car h c).fmt.sif := by
  simp only [frameAccepted, if_true, if_pos valid]
  refine ⟨?_, by simp, by simp⟩
  rw [onServo_getF, getF_setF_key, getF_setF_self _ FM_SQSTAT_SELHEAD _ _ (by decide)]
  · exact Nat.mod_eq_of_lt (valid.trans (by decide))
  · decide

end Sys2Proof.Machine
end

section
/-! Calibration steps and their holds (R46, R47). -/
namespace Sys2Proof.Machine

@[simp] theorem cal_onCal (h : Hw) (c : Nat) (f : Calib → Calib) : cal (onCal h c f) c = f (cal h c) := by
  rw [cal, car_onCal]
  rfl

theorem exec_calibrationWriteHold_due {c : Nat} {s : State} (due : holdDue s.hw c = true) :
    exec (.calibrationWriteHold c) s =
      .next { s with hw := onCal { s.hw with out := [] } c (fun k => { k with hold := some s.hw.engine.isn, delay := 0 }) } := by
  have due : holdDue { s.hw with out := [] } c = true := due
  change execCalibrationWriteHold c s = _
  simp only [execCalibrationWriteHold, State.run, due, if_true]

/-- The release: the hold is gone, the pause begins, the count 2000:024 goes up and a record is raised. -/
def holdReleased (h : Hw) (c : Nat) : Hw :=
  let h := bumpLive (onCal h c (fun k => { k with hold := none, delay := 0, pause := 1000 })) (carPath c 0) 0x024 0 1 32
  ruleRecord h (carPath c 0x3F0) 47 3 (liveVal h (carPath c 0) 0x024 0)

theorem holdReleased_only (h : Hw) (c : Nat) :
    ∃ v, holdReleased h c = ruleRecord (bumpLive (onCal h c (fun k => { k with hold := none, delay := 0, pause := 1000 })) (carPath c 0) 0x024 0 1 32)
      (carPath c 0x3F0) 47 3 v := ⟨_, rfl⟩

theorem exec_calibrationHoldRelease_due {c : Nat} {s : State} (due : releaseDue s.hw c = true) :
    exec (.calibrationHoldRelease c) s = .next { s with hw := holdReleased { s.hw with out := [] } c } := by
  have due : releaseDue { s.hw with out := [] } c = true := due
  change execCalibrationHoldRelease c s = _
  simp only [execCalibrationHoldRelease, State.run, due, if_true]
  rfl

theorem cal_holdReleased (h : Hw) (c : Nat) : cal (holdReleased h c) c = { cal h c with hold := none, delay := 0, pause := 1000 } := by
  obtain ⟨v, only⟩ := holdReleased_only h c
  have step : cal (holdReleased h c) c = cal (onCal h c (fun k => { k with hold := none, delay := 0, pause := 1000 })) c := by
    simp only [only, cal, car, ruleRecord_carriages, bumpLive, setLive_carriages]
  rw [step, cal_onCal]

theorem holdReleased_mem (h : Hw) (c : Nat) : (holdReleased h c).mem = h.mem := by
  obtain ⟨v, only⟩ := holdReleased_only h c
  rw [only, ruleRecord_mem, bumpLive, setLive_mem, onCal_mem]

/-- A step of `ms` milliseconds that starts at operating time `now`. -/
def stepStarted (now ms : Nat) (write : Bool) (k : Calib) : Calib :=
  { k with
    step := some write, left := ms, ending := false, spans := (now, now + ms) :: k.spans
    hold := if write then none else k.hold, delay := if write then 0 else k.delay, waiting := if write then 0 else k.waiting }

theorem exec_calibrationStepStart_allowed {c ms : Nat} {write : Bool} {s : State} (allowed : stepAllowed s.hw c write ms = true) :
    exec (.calibrationStepStart c write ms) s =
      .next { s with hw := onCal { s.hw with out := [] } c (stepStarted s.hw.log.optime ms write) } := by
  have allowed : stepAllowed { s.hw with out := [] } c write ms = true := allowed
  change execCalibrationStepStart c write ms s = _
  simp only [execCalibrationStepStart, State.run, allowed, if_true]
  rfl

theorem exec_calibrationStepStart_waits {c ms : Nat} {s : State} (barred : stepAllowed s.hw c true ms = false)
    (here : populated s.hw c = true) (inService : carFenced s.hw c = false) (fresh : (cal s.hw c).waiting = 0) :
    exec (.calibrationStepStart c true ms) s =
      .next { s with hw := onCal { s.hw with out := [] } c (fun k => { k with waiting := 1 }) } := by
  have barred : stepAllowed { s.hw with out := [] } c true ms = false := barred
  have here : populated { s.hw with out := [] } c = true := here
  have inService : carFenced { s.hw with out := [] } c = false := inService
  have fresh : (cal { s.hw with out := [] } c).waiting = 0 := fresh
  change execCalibrationStepStart c true ms s = _
  simp only [execCalibrationStepStart, State.run, barred, here, inService, fresh, Bool.false_eq_true, Bool.not_false, and_self, if_false, if_true]

end Sys2Proof.Machine
end

section
/-! A write sector that ends as not written, and the end of a run (R259, R260). -/
namespace Sys2Proof.Machine

theorem Kept.mem {h g : Hw} (kept : Kept h g) : h.mem = g.mem := by
  obtain ⟨-, -, -, -, -, -, -, -, -, -, -, -, mem⟩ := kept
  exact mem

@[simp] theorem kept_onWork (h : Hw) (c id : Nat) (f : SecWork → SecWork) (g : Hw) : Kept (onWork h c id f) g ↔ Kept h g := Iff.rfl

@[simp] theorem kept_dropWrite (h : Hw) (c : Nat) (g : Hw) : Kept (dropWrite h c) g ↔ Kept h g := by
  unfold dropWrite
  dsimp only
  (repeat' split) <;> simp

@[simp] theorem sendGate_getF (h : Hw) (c k : Nat) (was level : Bool) (ps : Int) (g : Fld) (i : Nat) :
    getF (sendGate h c k was level ps) g i = getF h g i := by
  unfold sendGate
  split
  · rfl
  · rw [emit_getF]

@[simp] theorem car_sendGate (h : Hw) (c k : Nat) (was level : Bool) (ps : Int) (c' : Nat) :
    car (sendGate h c k was level ps) c' = car h c' := by
  unfold sendGate
  split
  · rfl
  · rw [car_emit]

@[simp] theorem endRun_getF (h : Hw) (c : Nat) (g : Fld) (i : Nat) : getF (endRun h c) g i = getF h g i := by simp [endRun]

/-- The end of a run lowers the three signals of the carriage. -/
@[simp] theorem car_endRun (h : Hw) (c : Nat) :
    car (endRun h c) c = { car h c with path := { (car h c).path with wg := false, htrEn := false, lsrEn := false } } := by simp [endRun]

@[simp] theorem calBoundary_getF (h : Hw) (c : Nat) (g : Fld) (i : Nat) : getF (calBoundary h c) g i = getF h g i := by
  unfold calBoundary
  split
  · rw [stepEnd, onCal_getF]
  · rfl

/-! Registers of other pages than the channel's, and the sector in progress, at the end of a sector. -/

section
variable {g : Fld} (notChannel : regCode g.key ≠ 8)
include notChannel

theorem sectorMeasures_getF (h : Hw) (c : Nat) (x : ChSector) : getF (sectorMeasures h c x).1 g (inst c) = getF h g (inst c) := by
  unfold sectorMeasures
  dsimp only
  split
  · rw [getF_setF_page, setS, getF_setF_page, onChan_getF] <;> exact notChannel
  · rw [setS, getF_setF_page, onChan_getF]; exact notChannel

theorem boundaryCommits_getF (h : Hw) (c hd : Nat) : getF (boundaryCommits h c hd) g (inst c) = getF h g (inst c) := by
  refine foldl_keeps (fun h => getF h g (inst c)) _ _ (fun h z => ?_) h
  split
  · rw [dropUpdates, onChan_getF, commitSet, getF_setF_page, onChan_getF]; exact notChannel
  · rfl

theorem leaveSector_getF (h : Hw) (c hd : Nat) : getF (leaveSector h c hd) g (inst c) = getF h g (inst c) := by
  rw [leaveSector, showQueue, getF_setF_page, getF_setF_page, boundaryCommits_getF notChannel, calBoundary_getF] <;> exact notChannel

end

theorem car_sectorMeasures_cur (h : Hw) (c : Nat) (x : ChSector) : (car (sectorMeasures h c x).1 c).chan.cur = (car h c).chan.cur := by
  unfold sectorMeasures
  dsimp only
  split <;> simp [setS]

theorem car_leaveSector_cur (h : Hw) (c hd : Nat) : (car (leaveSector h c hd) c).chan.cur = (car h c).chan.cur := by
  have boundary : (car (calBoundary h c) c).chan.cur = (car h c).chan.cur := by
    unfold calBoundary
    split
    · simp [stepEnd]
    · rfl
  have commits (g : Hw) : (car (boundaryCommits g c hd) c).chan.cur = (car g c).chan.cur := by
    refine foldl_keeps (fun h => (car h c).chan.cur) _ _ (fun h z => ?_) g
    split
    · simp [dropUpdates, commitSet]
    · rfl
  rw [leaveSector, showQueue, car_setF, car_setF, commits, boundary]

/-- The write sector in progress is gone, and the formatter finds it not written. -/
theorem dropWrite_write {h : Hw} {c : Nat} {x : ChSector} (inProgress : (ch h c).cur = some x) (write : x.write = true) :
    (ch (dropWrite h c) c).cur = none ∧ getF (dropWrite h c) FM_WSTAT_OUT (inst c) = 3 := by
  unfold dropWrite
  simp only [inProgress, if_pos write]
  refine ⟨?_, ?_⟩
  · simp only [ch, car_leaveSector_cur, onWork, car_onPath, car_setF, car_onFmt, car_sendGate, car_sectorMeasures_cur, car_onChan]
  · rw [leaveSector_getF (by decide), onWork, onPath_getF, getF_setF_self _ FM_WSTAT_OUT _ _ (by decide)]
    rfl

/-- Only the write status and the channel's registers change. -/
theorem dropWrite_getF {g : Fld} (notChannel : regCode g.key ≠ 8) (notStatus : g.key ≠ FM_WSTAT_OUT.key) (h : Hw) (c : Nat) :
    getF (dropWrite h c) g (inst c) = getF h g (inst c) := by
  unfold dropWrite
  dsimp only
  split
  · split
    · rw [leaveSector_getF notChannel, onWork, onPath_getF, getF_setF_key _ _ _ notStatus, onFmt_getF, onPath_getF, sendGate_getF, sendGate_getF,
        sectorMeasures_getF notChannel, getF_setF_page, onChan_getF]
      exact notChannel
    · rfl
  · rfl

end Sys2Proof.Machine
end

section
/-! A fault in a preamplifier's per-head unit: the reaction of R591 and R592, and the registers that it leaves. -/
namespace Sys2Proof.Machine

/-! A Stair 2 by fault. -/

/-- The unit's history holds as many Stair 2 as R593 allows in the window. -/
def s2Spent (h : Hw) (u : Nat) : Prop :=
  liveVal h 0x1A00 0x059 0 < ((unit h u).history.filter (fun t => decide (h.log.optime ≤ t + liveVal h 0x1A00 0x05A 0 * 3600000))).length

theorem s2Spent_iff (h : Hw) (u : Nat) : s2Spent h u ↔
    liveVal h 0x1A00 0x059 0 < ((unit h u).history.filter (fun t => decide (h.log.optime ≤ t + liveVal h 0x1A00 0x05A 0 * 3600000))).length := Iff.rfl

theorem effective_s2_iff (h : Hw) (u : Nat) : effective h u .s2 = .s2 ↔ ¬ s2Spent h u := by
  rw [s2Spent_iff]
  unfold effective
  dsimp only
  split_ifs with spent stair <;> simp [spent]

theorem liveVal_of_dict {h g : Hw} (dict : h.dict = g.dict) (u p e : Nat) : liveVal h u p e = liveVal g u p e := by
  unfold liveVal
  rw [dict]

theorem s2Spent_congr {h g : Hw} {u : Nat} (dict : h.dict = g.dict) (history : (unit h u).history = (unit g u).history)
    (time : h.log.optime = g.log.optime) : s2Spent h u ↔ s2Spent g u := by
  rw [s2Spent_iff, s2Spent_iff, liveVal_of_dict dict, liveVal_of_dict dict, history, time]

theorem fenced_congr {h g : Hw} (fences : h.fences = g.fences) (u : Nat) : fenced h u = fenced g u := by
  unfold fenced fenceRead fenceVal
  rw [fences]

theorem unit_of_units {h g : Hw} (units : h.units = g.units) (u : Nat) : unit h u = unit g u := by
  unfold unit
  rw [units]

theorem queueEvent_optime (h : Hw) (e : EvRec) : (queueEvent h e).log.optime = h.log.optime := by
  unfold queueEvent
  split
  · rw [onLog_log]
  · rw [setF_log, onLog_log]

theorem notifyRecord_log (h : Hw) (e : EvRec) : (notifyRecord h e).log = h.log := by
  obtain ⟨o, only⟩ := foldl_note e h.dict.subs h
  rw [notifyRecord, only]

/-- A record is no tick of the clock (R611). -/
theorem raiseRecord_optime (h : Hw) (u c v d : Nat) (b : Bool) : (raiseRecord h u c v d b).log.optime = h.log.optime := by
  unfold raiseRecord
  dsimp only
  (repeat' split) <;> simp only [onLog_log, notifyRecord_log, queueEvent_optime, mergeStored]

/-! Registers that a re-initialise of another leaf leaves. -/

theorem mget_filterMap_of_kept {β : Type} (d : Nat → β) (m : SMap β) {f : Nat × β → Option (Nat × β)} {k : Nat}
    (keys : ∀ p q, f p = some q → q.1 = p.1) (kept : ∀ p, p.1 = k → f p = some p) : mget d (m.filterMap f) k = mget d m k := by
  induction m with
  | nil => rfl
  | cons p m ih =>
    obtain ⟨a, v⟩ := p
    rw [mget_cons]
    by_cases here : a = k
    · rw [List.filterMap_cons_some (kept (a, v) here), mget_cons, if_pos here, if_pos here]
    · rw [if_neg here, ← ih]
      cases step : f (a, v) with
      | none => rw [List.filterMap_cons_none step]
      | some q => rw [List.filterMap_cons_some step, mget_cons, if_neg (by rwa [keys _ _ step])]

theorem getReg_resetRegs_of_not_sel (h : Hw) (k : ResetKind) {sel : Nat → Bool} {a : Nat} (other : sel (regLeaf a) = false) :
    getReg (resetRegs h k sel) a = getReg h a := by
  refine congrArg BitVec.toNat (mget_filterMap_of_kept regReset h.regs (fun p q step => ?_) (fun p here => ?_))
  · dsimp only at step
    split at step
    · split at step
      · split at step <;> cases step
        rfl
      · cases step; rfl
    · cases step; rfl
  · rw [here, other, if_neg Bool.false_ne_true]

/-! The per-head unit of a preamplifier. -/

section
variable {c hd : Nat} (car : c < 4) (head : hd < 6)
include car head

theorem carriageOf_preHead : carriageOf (preHead c hd) = some c := by
  have die : nib (preHead c hd) 3 = c + 2 := by simp only [nib, preHead]; omega
  rw [carriageOf, die, if_pos (by omega)]
  rfl

theorem headOf_preHead : headOf (preHead c hd) = some hd := by
  have die : nib (preHead c hd) 3 = c + 2 := by simp only [nib, preHead]; omega
  have block : nib (preHead c hd) 2 = 4 := by simp only [nib, preHead]; omega
  have sub : nib (preHead c hd) 1 = hd + 1 := by simp only [nib, preHead]; omega
  rw [headOf, die, block, sub, if_pos (by omega)]
  rfl

theorem carriageOf_chanHead : carriageOf (chanHead c hd) = some c := by
  have die : nib (chanHead c hd) 3 = c + 2 := by simp only [nib, chanHead]; omega
  rw [carriageOf, die, if_pos (by omega)]
  rfl

theorem headOf_chanHead : headOf (chanHead c hd) = some hd := by
  have die : nib (chanHead c hd) 3 = c + 2 := by simp only [nib, chanHead]; omega
  have block : nib (chanHead c hd) 2 = 1 := by simp only [nib, chanHead]; omega
  have sub : nib (chanHead c hd) 1 = hd + 1 := by simp only [nib, chanHead]; omega
  rw [headOf, die, block, sub, if_pos (by omega)]
  rfl

theorem fenceIsStair3_preHead (h : Hw) : fenceIsStair3 h (preHead c hd) = false := by
  rw [fenceIsStair3, carriageOf_preHead car head]

/-- A fence of a per-head unit fences the head (R31). -/
theorem fenceKey_preHead : fenceKey (preHead c hd) = chanHead c hd := by
  rw [fenceKey, fenceSets, headOf_preHead car head, carriageOf_preHead car head]
  rfl

theorem fenceEffects_chanHead (h : Hw) :
    fenceEffects h (chanHead c hd) = pinHead (headStop (cutBlocks h (fenceMembers h (chanHead c hd)) 8) c hd) c hd := by
  have part : chanHead c hd ≠ carPath c 0 := by simp only [chanHead, carPath]; omega
  simp only [fenceEffects, carriageOf_chanHead car head, headOf_chanHead car head, if_neg part]

/-- A U of a per-head unit resets its registers and ends nothing else (R144). -/
theorem unitStop_preHead (h : Hw) : unitStop h (preHead c hd) = resetUnitRegs h (preHead c hd) := by
  simp only [unitStop, carriageOf_preHead car head]
  rw [if_neg, if_neg, if_neg, if_neg, if_neg] <;> simp only [nib, preHead, carPath] <;> omega

theorem beginReinit_preHead (h : Hw) :
    beginReinit h (preHead c hd) = onUnit (resetUnitRegs (cutBlocks h [preHead c hd] 8) (preHead c hd)) (preHead c hd) (fun x =>
      { x with busy := true, failed := false, force := 0, summary := x.summary &&& x.cause, faulted := false, degraded := false }) := by
  have noDrive : (preHead c hd / 0x10 == 0x621) = false := by rw [beq_eq_false_iff_ne]; simp only [preHead]; omega
  have noFormatter : preHead c hd ≠ carPath c 0x3F0 := by simp only [preHead, carPath]; omega
  have noSpindle : preHead c hd ≠ 0x61F0 := by simp only [preHead]; omega
  have noKeys : preHead c hd ≠ 0x1630 := by simp only [preHead]; omega
  have noMeter : preHead c hd ≠ 0x1640 := by simp only [preHead]; omega
  simp only [beginReinit, noDrive, carriageOf_preHead car head, unitStop_preHead car head, if_neg noFormatter, if_neg noSpindle, if_neg noKeys,
    if_neg noMeter, Bool.false_and, Bool.false_eq_true, if_false]

end

/-! PA_FLT, a register of the preamplifier's common part, under a fault of one of its heads. -/

theorem regLeaf_flt {c : Nat} (car : c < 4) : regLeaf (PA_FLT + inst c) = carPath c 0x4F0 := by
  match c, car with
  | 0, _ | 1, _ | 2, _ | 3, _ => rfl

section
variable {g : Fld} (flt : g.key = PA_FLT)
include flt

theorem headStop_getF (h : Hw) (c hd : Nat) : getF (headStop h c hd) g (inst c) = getF h g (inst c) := by
  unfold headStop
  split
  · rw [holdHere, onServo_getF, setSv, getF_setF_page, getF_setF_page, getF_setF_page, getF_setF_page] <;> (rw [flt]; decide)
  · rfl

theorem pinHead_getF (h : Hw) (c hd : Nat) : getF (pinHead h c hd) g (inst c) = getF h g (inst c) := by
  rw [pinHead, getF_setF_page, onPath_getF]
  rw [flt]; decide

variable {c hd : Nat} (car : c < 4) (head : hd < 6)
include car head

theorem beginReinit_preHead_getF (h : Hw) : getF (beginReinit h (preHead c hd)) g (inst c) = getF h g (inst c) := by
  have other : (regLeaf (g.key + inst c) == preHead c hd) = false := by
    rw [flt, regLeaf_flt car, beq_eq_false_iff_ne]
    simp only [carPath, preHead]
    omega
  rw [beginReinit_preHead car head, onUnit_getF, getF, resetUnitRegs, getReg_resetRegs_of_not_sel _ _ other]
  rfl

theorem fenceByFault_preHead_getF (h : Hw) : getF (fenceByFault h (preHead c hd)) g (inst c) = getF h g (inst c) := by
  simp only [fenceByFault, fenceIsStair3_preHead car head, fenceKey_preHead car head, Bool.false_eq_true, if_false]
  split
  · rw [fenceEffects_chanHead car head, pinHead_getF flt, headStop_getF flt]
    rfl
  · rfl

theorem s2ByFault_preHead_getF (h : Hw) : getF (s2ByFault h (preHead c hd)) g (inst c) = getF h g (inst c) := by
  unfold s2ByFault
  dsimp only
  split
  · exact fenceByFault_preHead_getF flt car head h
  · rw [beginReinit_preHead_getF flt car head, onIsland_getF, onUnit_getF]

/-- Class [9] of a head's unit leaves PA_FLT, whatever the reaction comes to. -/
theorem raiseFault_preHead_getF (h : Hw) (forced : Bool) : getF (raiseFault h (preHead c hd) 9 forced) g (inst c) = getF h g (inst c) := by
  have noDrop : g.key + inst c ≠ EV_IRQS_DROP.key := by
    rw [flt]
    simp only [PA_FLT, inst, EV_IRQS_DROP, EV_IRQS]
    omega
  have mild : ∀ h, effective h (preHead c hd) (reaction (preHead c hd) 9) = .s2 ∨
      effective h (preHead c hd) (reaction (preHead c hd) 9) = .fence := by
    intro h
    change effective h (preHead c hd) .s2 = .s2 ∨ effective h (preHead c hd) .s2 = .fence
    simp only [effective, fenceIsStair3_preHead car head, Bool.false_eq_true, if_false]
    split_ifs
    · exact .inr rfl
    · exact .inl rfl
  have reacted : ∀ (h : Hw) (r : Reaction), r = .s2 ∨ r = .fence → getF (react h (preHead c hd) 9 r) g (inst c) = getF h g (inst c) := by
    intro h r kind
    unfold react
    split_ifs
    · rfl
    · rw [onUnit_getF]
    · obtain rfl | rfl := kind
      · exact s2ByFault_preHead_getF flt car head h
      · exact fenceByFault_preHead_getF flt car head h
  rw [raiseFault, reacted _ _ (mild _), raiseRecord_getF _ _ _ _ _ _ _ _ noDrop, onUnit_getF]

end

/-! The re-initialise of R592 begins. -/

/-- Class `k` is latched in 002 of the unit. -/
def classLatched (h : Hw) (u k : Nat) : Hw := onUnit h u (fun x => { x with summary := x.summary ||| 2 ^ k })

theorem raiseFault_of_effective {h : Hw} {u k : Nat} {r : Reaction} (chosen : effective (classLatched h u k) u (reaction u k) = r) :
    raiseFault h u k false = react (raiseRecord (classLatched h u k) u (0x100 + k) r.severity r.code false) u k r := by
  rw [← chosen]
  simp only [raiseFault, Bool.false_eq_true, if_false]
  rfl

theorem s2ByFault_of_not_spent {h : Hw} {u : Nat} (room : ¬ s2Spent h u) : ∃ g, s2ByFault h u = beginReinit g u :=
  ⟨_, if_neg room⟩

@[simp] theorem unit_classLatched (h : Hw) (u k : Nat) : unit (classLatched h u k) u = { unit h u with summary := (unit h u).summary ||| 2 ^ k } :=
  unit_onUnit _ _ _

@[simp] theorem fenced_classLatched (h : Hw) (u k w : Nat) : fenced (classLatched h u k) w = fenced h w := fenced_congr (onUnit_fences _ _ _) w

@[simp] theorem s2Spent_classLatched (h : Hw) (u k : Nat) : s2Spent (classLatched h u k) u ↔ s2Spent h u :=
  s2Spent_congr (onUnit_dict _ _ _) (by rw [unit_classLatched]) (congrArg Recorder.optime (onUnit_log _ _ _))

@[simp] theorem unit_raiseRecord (h : Hw) (u c v d : Nat) (b : Bool) (w : Nat) : unit (raiseRecord h u c v d b) w = unit h w :=
  unit_of_units (raiseRecord_units _ _ _ _ _ _) w

@[simp] theorem fenced_raiseRecord (h : Hw) (u c v d : Nat) (b : Bool) (w : Nat) : fenced (raiseRecord h u c v d b) w = fenced h w :=
  fenced_congr (raiseRecord_fences _ _ _ _ _ _) w

@[simp] theorem s2Spent_raiseRecord (h : Hw) (u c v d : Nat) (b : Bool) (w : Nat) : s2Spent (raiseRecord h u c v d b) w ↔ s2Spent h w :=
  s2Spent_congr (raiseRecord_dict _ _ _ _ _ _) (by rw [unit_raiseRecord]) (raiseRecord_optime _ _ _ _ _ _)

/-- A Stair 2 that R593 allows begins at once in a unit in service that is not being re-initialised. -/
theorem raiseFault_preHead_busy {h : Hw} {c hd : Nat} (car : c < 4) (head : hd < 6) (inService : fenced h (preHead c hd) = false)
    (idle : (unit h (preHead c hd)).busy = false) (allowed : effective h (preHead c hd) .s2 = .s2) :
    (unit (raiseFault h (preHead c hd) 9 false) (preHead c hd)).busy = true := by
  rw [effective_s2_iff] at allowed
  have chosen : effective (classLatched h (preHead c hd) 9) (preHead c hd) .s2 = .s2 := by rwa [effective_s2_iff, s2Spent_classLatched]
  rw [raiseFault_of_effective (k := 9) chosen]
  generalize Reaction.s2.severity = v, Reaction.s2.code = d
  obtain ⟨begun, reinit⟩ := s2ByFault_of_not_spent (h := raiseRecord (classLatched h (preHead c hd) 9) (preHead c hd) (0x100 + 9) v d false)
    (u := preHead c hd) (by simpa using allowed)
  simp only [react, fenced_raiseRecord, fenced_classLatched, inService, unit_raiseRecord, unit_classLatched, idle, Bool.false_and, Bool.false_eq_true,
    if_false, reinit, beginReinit_preHead car head, unit_onUnit]

end Sys2Proof.Machine
end

section
/-! The fault line of a preamplifier (R56, R263). -/
namespace Sys2Proof.Machine

/-! The outputs of the command before play no part. -/

theorem getF_out (h : Hw) (o : List Output) (g : Fld) (i : Nat) : getF { h with out := o } g i = getF h g i := (rfl)
theorem selHead_out (h : Hw) (o : List Output) (c : Nat) : selHead { h with out := o } c = selHead h c := getF_out h o _ _
theorem fenced_out (h : Hw) (o : List Output) (u : Nat) : fenced { h with out := o } u = fenced h u := fenced_congr rfl u
theorem unit_out (h : Hw) (o : List Output) (u : Nat) : unit { h with out := o } u = unit h u := unit_of_units rfl u
theorem effective_out (h : Hw) (o : List Output) (u : Nat) (r : Reaction) : effective { h with out := o } u r = effective h u r := (rfl)

theorem queueFrame_getF (h : Hw) (c word data : Nat) (g : Fld) (i : Nat) : getF (queueFrame h c word data) g i = getF h g i := by
  obtain ⟨w, l, o, e⟩ := queueFrame_only h c word data
  rw [e]; rfl

/-- Beside the outputs a queued frame changes the formatter's wire and queue. -/
theorem car_queueFrame (h : Hw) (c word data : Nat) :
    ∃ w l, car (queueFrame h c word data) c = { car h c with fmt := { (car h c).fmt with wire := w, sif := l } } := by
  obtain ⟨w, l, o, e⟩ := queueFrame_only h c word data
  exact ⟨w, l, by rw [e, car_out, car_onFmt]⟩

@[simp] theorem kept_queueFrame (h : Hw) (c word data : Nat) (g : Hw) : Kept (queueFrame h c word data) g ↔ Kept h g := by
  obtain ⟨w, l, o, e⟩ := queueFrame_only h c word data
  rw [e]; exact Iff.rfl

theorem queueFrame_units (h : Hw) (c word data : Nat) : (queueFrame h c word data).units = h.units := by
  obtain ⟨w, l, o, e⟩ := queueFrame_only h c word data
  rw [e]; rfl

theorem queueFrame_fences (h : Hw) (c word data : Nat) : (queueFrame h c word data).fences = h.fences := by
  obtain ⟨w, l, o, e⟩ := queueFrame_only h c word data
  rw [e]; rfl

theorem s2Spent_queueFrame (h : Hw) (c word data u : Nat) : s2Spent (queueFrame h c word data) u ↔ s2Spent h u := by
  obtain ⟨w, l, o, e⟩ := queueFrame_only h c word data
  rw [e]; exact Iff.rfl

/-- The line is low, and latched. -/
def faultShown (h : Hw) (c : Nat) : Hw := setF (setF h PA_FLT_PIN (inst c) 1) PA_FLT_LATCH (inst c) 1

theorem faultShown_eq (h : Hw) (c : Nat) : faultShown h c = setF (setF h PA_FLT_PIN (inst c) 1) PA_FLT_LATCH (inst c) 1 := rfl

theorem faultShown_getF_page {g : Fld} (h : Hw) (c : Nat) (page : regCode g.key ≠ 11) : getF (faultShown h c) g (inst c) = getF h g (inst c) := by
  rw [faultShown_eq, getF_setF_page, getF_setF_page] <;> exact page

theorem faultShown_latch (h : Hw) (c : Nat) : getF (faultShown h c) PA_FLT_LATCH (inst c) = 1 :=
  getF_setF_self _ PA_FLT_LATCH _ 1 (by decide)

theorem faultShown_pin (h : Hw) (c : Nat) : getF (faultShown h c) PA_FLT_PIN (inst c) = 1 := by
  rw [faultShown_eq, getF_setF_apart _ PA_FLT_LATCH PA_FLT_PIN _ _ (by decide), getF_setF_self _ PA_FLT_PIN _ _ (by decide)]
  rfl

theorem faultShown_fences (h : Hw) (c : Nat) : (faultShown h c).fences = h.fences := by rw [faultShown_eq, setF_fences, setF_fences]

theorem faultShown_units (h : Hw) (c : Nat) : (faultShown h c).units = h.units := by rw [faultShown_eq, setF_units, setF_units]

theorem s2Spent_faultShown (h : Hw) (c u : Nat) : s2Spent (faultShown h c) u ↔ s2Spent h u :=
  s2Spent_congr (by rw [faultShown_eq, setF_dict, setF_dict]) (by rw [unit_of_units (faultShown_units h c)])
    (by rw [faultShown_eq, setF_log, setF_log])

theorem faultShown_selHead (h : Hw) (c : Nat) : selHead (faultShown h c) c = selHead h c := faultShown_getF_page h c (by decide)

theorem faultShown_runOpen (h : Hw) (c : Nat) : runOpen (faultShown h c) c = runOpen h c := by
  rw [runOpen, flagF, faultShown_getF_page h c (by decide), runOpen, flagF, faultShown_eq, car_setF, car_setF]

theorem faultShown_writesDue (h : Hw) (c : Nat) : writesDue (faultShown h c) c = writesDue h c := by
  simp only [writesDue, fm, path, faultShown_eq, car_setF]

theorem faultShown_ch (h : Hw) (c : Nat) : ch (faultShown h c) c = ch h c := by simp only [ch, faultShown_eq, car_setF]

/-- Outside a write the fault of the selected head is class [9] of its unit, and a fault clear is queued (R592). -/
def faultOutsideWrite (h : Hw) (c : Nat) : Hw :=
  if selHead h c < 6 then
    raiseFault (queueFrame (faultShown h c) c (sifWord false (selHead h c) 0x31 0x3F) 0x3F) (preHead c (selHead h c)) 9 false
  else faultShown h c

theorem exec_preampFault_outside {c : Nat} {s : State} (up : midUp s.hw c = true) (noSector : (ch s.hw c).cur = none)
    (closed : runOpen s.hw c = false) (noWrites : writesDue s.hw c = false) :
    exec (.preampFault c) s = .next { s with hw := faultOutsideWrite { s.hw with out := [] } c } := by
  have up : midUp { s.hw with out := [] } c = true := up
  have noSector : (ch (faultShown { s.hw with out := [] } c) c).cur = none := (congrArg Channel.cur (faultShown_ch _ c)).trans noSector
  have closed : runOpen (faultShown { s.hw with out := [] } c) c = false := (faultShown_runOpen _ c).trans closed
  have noWrites : writesDue (faultShown { s.hw with out := [] } c) c = false := (faultShown_writesDue _ c).trans noWrites
  change execPreampFault c s = _
  simp only [execPreampFault, State.run, up, ← faultShown_eq, noSector, closed, noWrites, faultShown_selHead, Bool.not_true, Bool.or_self,
    Bool.false_eq_true, if_false]
  rfl

/-- During a write the run ends, and register 0x30 of the selected head is read (R263). -/
def faultInWrite (h : Hw) (c : Nat) : Hw :=
  queueFrame (onFmt (endRun (dropWrite (faultShown h c) c) c) c (fun f => { f with faultRead := some (selHead h c % 6) })) c
    (sifWord true (selHead h c % 8) 0x30 0) 0

theorem faultInWrite_eq (h : Hw) (c : Nat) : faultInWrite h c =
    queueFrame (onFmt (endRun (dropWrite (faultShown h c) c) c) c (fun f => { f with faultRead := some (selHead h c % 6) })) c
      (sifWord true (selHead h c % 8) 0x30 0) 0 := rfl

theorem exec_preampFault_write {c : Nat} {x : ChSector} {s : State} (up : midUp s.hw c = true) (sector : (ch s.hw c).cur = some x)
    (write : x.write = true) : exec (.preampFault c) s = .next { s with hw := faultInWrite { s.hw with out := [] } c } := by
  have up : midUp { s.hw with out := [] } c = true := up
  have sector : (ch (faultShown { s.hw with out := [] } c) c).cur = some x := (congrArg Channel.cur (faultShown_ch _ c)).trans sector
  change execPreampFault c s = _
  simp only [execPreampFault, State.run, up, ← faultShown_eq, sector, write, faultShown_selHead, Bool.not_true, Bool.true_or, Bool.false_eq_true,
    if_false, if_true]
  rfl

theorem faultOutsideWrite_head {h : Hw} {c : Nat} (head : selHead h c < 6) : faultOutsideWrite h c =
    raiseFault (queueFrame (faultShown h c) c (sifWord false (selHead h c) 0x31 0x3F) 0x3F) (preHead c (selHead h c)) 9 false := if_pos head

theorem faultOutsideWrite_none {h : Hw} {c : Nat} (none : 5 < selHead h c) : faultOutsideWrite h c = faultShown h c :=
  if_neg (by omega)

/-- PA_FLT keeps LATCH and PIN through the reaction. -/
theorem faultOutsideWrite_flt {g : Fld} (flt : g.key = PA_FLT) {h : Hw} {c : Nat} (car : c < 4) (head : selHead h c < 6) :
    getF (faultOutsideWrite h c) g (inst c) = getF (faultShown h c) g (inst c) := by
  rw [faultOutsideWrite_head head, raiseFault_preHead_getF flt car head, queueFrame_getF]

theorem faultOutsideWrite_mem (h : Hw) (c : Nat) : (faultOutsideWrite h c).mem = h.mem := by
  refine Kept.mem ?_
  by_cases head : selHead h c < 6
  · simp [faultOutsideWrite_head head, faultShown_eq]
  · simp [faultOutsideWrite_none (Nat.not_lt.mp head), faultShown_eq]

theorem faultOutsideWrite_busy {h : Hw} {c : Nat} (car : c < 4) (head : selHead h c < 6) (inService : fenced h (preHead c (selHead h c)) = false)
    (idle : (unit h (preHead c (selHead h c))).busy = false) (allowed : effective h (preHead c (selHead h c)) .s2 = .s2) :
    (unit (faultOutsideWrite h c) (preHead c (selHead h c))).busy = true := by
  rw [faultOutsideWrite_head head]
  refine raiseFault_preHead_busy car head ?_ ?_ ?_
  · rw [fenced_congr (queueFrame_fences _ _ _ _), fenced_congr (faultShown_fences h c), inService]
  · rw [unit_of_units (queueFrame_units _ _ _ _), unit_of_units (faultShown_units h c), idle]
  · rwa [effective_s2_iff, s2Spent_queueFrame, s2Spent_faultShown, ← effective_s2_iff]

theorem faultInWrite_latch (h : Hw) (c : Nat) : getF (faultInWrite h c) PA_FLT_LATCH (inst c) = 1 := by
  rw [faultInWrite_eq, queueFrame_getF, onFmt_getF, endRun_getF, dropWrite_getF (by decide) (by decide), faultShown_latch]

theorem faultInWrite_mem (h : Hw) (c : Nat) : (faultInWrite h c).mem = h.mem :=
  Kept.mem (by simp [faultInWrite_eq, faultShown_eq])

/-- The sector is dropped as not written, the signals of the run are low, the head to read is kept. -/
theorem faultInWrite_ends {h : Hw} {c : Nat} {x : ChSector} (sector : (ch h c).cur = some x) (write : x.write = true) :
    getF (faultInWrite h c) FM_WSTAT_OUT (inst c) = 3 ∧ (ch (faultInWrite h c) c).cur = none ∧ (path (faultInWrite h c) c).wg = false ∧
    (path (faultInWrite h c) c).htrEn = false ∧ (car (faultInWrite h c) c).fmt.faultRead = some (selHead h c % 6) := by
  have sector : (ch (faultShown h c) c).cur = some x := (congrArg Channel.cur (faultShown_ch h c)).trans sector
  obtain ⟨dropped, status⟩ := dropWrite_write sector write
  obtain ⟨w, l, k⟩ := car_queueFrame (onFmt (endRun (dropWrite (faultShown h c) c) c) c (fun f => { f with faultRead := some (selHead h c % 6) })) c
    (sifWord true (selHead h c % 8) 0x30 0) 0
  rw [← faultInWrite_eq, car_onFmt, car_endRun] at k
  refine ⟨?_, ?_, ?_, ?_, ?_⟩
  · rw [faultInWrite_eq, queueFrame_getF, onFmt_getF, endRun_getF, status]
  · rw [ch, k]; exact dropped
  · rw [path, k]
  · rw [path, k]
  · rw [k]

/-- Settles O10: each event takes the one branch of its meaning that the hypotheses leave, and what it changes is read off that branch. When a
hold is due and a step may start is the reading of R46 and R47 that the model takes (log entry 86). -/
theorem preampAndCalibrationComplete : Obligations.PreampAndCalibrationComplete := by
  refine ⟨?starts, ?dropped, ?read, ?written, ?selected, ?noHead, ?head, ?write, ?hold, ?release, ?step, ?waits⟩
  case starts =>
    intro c data s up idle free empty
    refine ⟨_, exec_paSifCmdWrite_idle data up idle, startFrame_firmware ?_ ?_ ?_, ?_, ?_, ?_, rfl, rfl⟩
    · rw [firmwareFrameOn_eq, car_setF, car_setReg, car_out, free]
    · rw [firmwareFrameOn_eq, car_setF, car_setReg, car_out, empty]
    · exact flagF_setF_one _ PA_SIF_STAT_ACTIVE _ rfl (by decide)
    · rw [startFrame_getF, firmwareFrameOn_eq, getF_setF_self _ PA_SIF_STAT_ACTIVE _ _ (by decide)]
      rfl
    · rw [startFrame_getF, firmwareFrameOn_eq, getF_setF_key, getF_wdata_sifCommand]
      decide
    · rw [startFrame_mem, firmwareFrameOn_eq, setF_mem, setReg_mem]
  case dropped =>
    intro c data s up active
    refine ⟨_, exec_paSifCmdWrite_active data up active, getF_setF_self _ PA_SIF_STAT_DROP _ 1 (by decide), ?_,
      setF_carriages _ _ _ _, setF_mem _ _ _ _, rfl, rfl⟩
    rw [getF_setF_key, getF_out]
    decide
  case read =>
    intro c ack rdata parityOk s wire read empty _
    obtain ⟨t, ran, hw, free, idle, rest⟩ := preampFrameDone_firmware ack rdata parityOk wire empty
    obtain ⟨data, parity⟩ := firmwareFrameResult_read ack rdata parityOk ((firmwareFrameOff_rd { s.hw with out := [] } c).trans read)
    rw [← hw] at data parity
    exact ⟨t, ran, free, idle, data, parity, rest⟩
  case written =>
    intro c ack rdata parityOk s wire write empty _
    obtain ⟨t, ran, hw, free, idle, rest⟩ := preampFrameDone_firmware ack rdata parityOk wire empty
    have bits := firmwareFrameResult_write ack rdata parityOk ((firmwareFrameOff_rd { s.hw with out := [] } c).trans write)
    rw [← hw] at bits
    exact ⟨t, ran, free, idle, bits, rest⟩
  case selected =>
    intro c rdata parityOk x s wire queue write select valid _
    obtain ⟨head, mem, sif⟩ := frameAccepted_select (h := frameTakenOff { s.hw with out := [] } c) (c := c) x.data valid
    refine ⟨_, exec_preampFrameDone_select rdata parityOk wire queue write select, ?_, ?_, ?_, rfl, rfl⟩
    · rw [startFrame_getF, head]
    · rw [startFrame_sif, sif, frameTakenOff_sif]
    · rw [startFrame_mem, mem, frameTakenOff_mem]
  case noHead =>
    intro c s up noSector closed noWrites none
    have outside := exec_preampFault_outside up noSector closed noWrites
    rw [← selHead_out s.hw []] at none
    rw [faultOutsideWrite_none none] at outside
    refine ⟨_, outside, faultShown_latch _ c, faultShown_pin _ c, ?_, ?_, rfl, rfl⟩
    · rw [faultShown_eq, setF_carriages, setF_carriages]
    · rw [faultShown_eq, setF_mem, setF_mem]
  case head =>
    intro c s up noSector closed noWrites head
    have car := lt_four_of_midUp up
    rw [← selHead_out s.hw []] at head
    have busy := faultOutsideWrite_busy (h := { s.hw with out := [] }) car head
    rw [selHead_out, fenced_out, unit_out, effective_out] at busy
    refine ⟨_, exec_preampFault_outside up noSector closed noWrites, ?_, ?_, busy, faultOutsideWrite_mem _ c, rfl, rfl⟩
    · exact (faultOutsideWrite_flt rfl car head).trans (faultShown_latch _ c)
    · exact (faultOutsideWrite_flt rfl car head).trans (faultShown_pin _ c)
  case write =>
    intro c x s up sector write
    obtain ⟨status, gone, wg, heater, head⟩ := faultInWrite_ends (h := { s.hw with out := [] }) sector write
    rw [selHead_out] at head
    exact ⟨_, exec_preampFault_write up sector write, faultInWrite_latch _ c, status, gone, wg, heater, head, faultInWrite_mem _ c, rfl, rfl⟩
  case hold =>
    intro c s due _
    refine ⟨_, exec_calibrationWriteHold_due due, ?_, onCal_regs _ _ _, onCal_mem _ _ _, rfl, rfl⟩
    rw [cal_onCal]
  case release =>
    intro c s due _
    refine ⟨_, exec_calibrationHoldRelease_due due, ?_, ?_, holdReleased_mem _ c, rfl, rfl⟩
    · rw [cal_holdReleased]
    · rw [cal_holdReleased]
  case step =>
    intro c ms write s allowed
    refine ⟨_, exec_calibrationStepStart_allowed allowed, ?_, ?_, ?_, onCal_regs _ _ _, onCal_mem _ _ _, rfl, rfl⟩ <;> rw [cal_onCal] <;> rfl
  case waits =>
    intro c ms s barred here inService fresh
    refine ⟨_, exec_calibrationStepStart_waits barred here inService fresh, ?_, ?_, onCal_regs _ _ _, onCal_mem _ _ _, rfl, rfl⟩
    · rw [cal_onCal]
    · rw [cal_onCal]
      rfl

end Sys2Proof.Machine
end

section
/-! The controllers of the two ports: what the sequences of domains, resets and twins leave of them. -/
namespace Sys2Proof.Machine

/-- What the block holds of its two ports. -/
def ports (h : Hw) : Port × Port := (h.portA, h.portB)

theorem port_of_ports {h g : Hw} (same : ports h = ports g) (p : Nat) : port h p = port g p := by
  obtain ⟨a, b⟩ := Prod.mk.inj same
  simp only [port, a, b]

theorem ports_of_kept {h g : Hw} (kept : Kept h g) : ports h = ports g := by
  obtain ⟨-, -, -, -, -, -, a, b, -⟩ := kept
  simp only [ports, a, b]

@[simp] theorem ports_setF (h : Hw) (f : Fld) (d v : Nat) : ports (setF h f d v) = ports h := (rfl)
@[simp] theorem ports_setReg (h : Hw) (a w : Nat) : ports (setReg h a w) = ports h := (rfl)
@[simp] theorem ports_satF (h : Hw) (f : Fld) (d v : Nat) : ports (satF h f d v) = ports h := (rfl)
@[simp] theorem ports_resetRegs (h : Hw) (k : ResetKind) (sel : Nat → Bool) : ports (resetRegs h k sel) = ports h := (rfl)
@[simp] theorem ports_onEngine (h : Hw) (f : Engine → Engine) : ports (onEngine h f) = ports h := (rfl)
@[simp] theorem ports_onTwin (h : Hw) (f : Twin → Twin) : ports (onTwin h f) = ports h := (rfl)
@[simp] theorem ports_onDict (h : Hw) (f : Dict → Dict) : ports (onDict h f) = ports h := (rfl)
@[simp] theorem ports_onMgmt (h : Hw) (f : Mgmt → Mgmt) : ports (onMgmt h f) = ports h := (rfl)
@[simp] theorem ports_onPins (h : Hw) (f : Pins → Pins) : ports (onPins h f) = ports h := (rfl)
@[simp] theorem ports_onIsland (h : Hw) (f : Island → Island) : ports (onIsland h f) = ports h := (rfl)
@[simp] theorem ports_onBuffer (h : Hw) (f : Buffer → Buffer) : ports (onBuffer h f) = ports h := (rfl)
@[simp] theorem ports_onCluster (h : Hw) (f : Cluster → Cluster) : ports (onCluster h f) = ports h := (rfl)
@[simp] theorem ports_onCipher (h : Hw) (f : Cipher → Cipher) : ports (onCipher h f) = ports h := (rfl)
@[simp] theorem ports_onSpindle (h : Hw) (f : Spindle → Spindle) : ports (onSpindle h f) = ports h := (rfl)
@[simp] theorem ports_onPath (h : Hw) (c : Nat) (f : SectorPath → SectorPath) : ports (onPath h c f) = ports h := (rfl)
@[simp] theorem ports_onChan (h : Hw) (c : Nat) (f : Channel → Channel) : ports (onChan h c f) = ports h := (rfl)
@[simp] theorem ports_onFmt (h : Hw) (c : Nat) (f : Formatter → Formatter) : ports (onFmt h c f) = ports h := (rfl)
@[simp] theorem ports_onServo (h : Hw) (c : Nat) (f : Servo → Servo) : ports (onServo h c f) = ports h := (rfl)
@[simp] theorem ports_onCore (h : Hw) (k : Nat) (f : CoreSt → CoreSt) : ports (onCore h k f) = ports h := (rfl)
@[simp] theorem ports_onDma (h : Hw) (n : Nat) (f : DmaCh → DmaCh) : ports (onDma h n f) = ports h := (rfl)
@[simp] theorem ports_cutBlocks (h : Hw) (us : List Nat) (st : Nat) : ports (cutBlocks h us st) = ports h := (rfl)
@[simp] theorem ports_raiseFault (h : Hw) (u k : Nat) (b : Bool) : ports (raiseFault h u k b) = ports h :=
  ports_of_kept ((kept_raiseFault h u k b h).2 (Kept.refl h))
@[simp] theorem ports_ruleRecord (h : Hw) (u n v d : Nat) : ports (ruleRecord h u n v d) = ports h :=
  ports_of_kept ((kept_ruleRecord h u n v d h).2 (Kept.refl h))
@[simp] theorem ports_showCipher (h : Hw) : ports (showCipher h) = ports h := ports_of_kept ((kept_showCipher h h).2 (Kept.refl h))

/-! Switching domains on and off (R635). -/

@[simp] theorem ports_memStore (h : Hw) (a : Nat) (l : List (BitVec 8)) : ports (memStore h a l) = ports h := by
  unfold memStore
  split <;> rfl

@[simp] theorem ports_putBeat (h : Hw) (a : Nat) (l : List (BitVec 8)) : ports (putBeat h a l) = ports h := by
  unfold putBeat beatWritten
  split <;> simp

@[simp] theorem ports_flushCache (h : Hw) : ports (flushCache h) = ports h :=
  foldl_keeps ports _ _ (fun h _ => ports_putBeat h _ _) h

@[simp] theorem ports_poisonFound (h : Hw) (a : Nat) : ports (poisonFound h a) = ports h := by
  unfold poisonFound
  split <;> simp

@[simp] theorem ports_uncorrectable (h : Hw) (a : Nat) (group : Bool) : ports (uncorrectable h a group) = ports h := by
  unfold uncorrectable
  split
  · dsimp only
    split <;> simp
  · split
    · exact foldl_keeps ports _ _ (fun h k => ports_poisonFound h _) h
    · exact ports_poisonFound h a
  · rfl

@[simp] theorem ports_enterState (h : Hw) (n k : Nat) : ports (enterState h n k) = ports h := by
  unfold enterState
  dsimp only
  split <;> simp

@[simp] theorem ports_queueRecord (h : Hw) (n : Nat) (r : DmaRec) (after : AfterRec) : ports (queueRecord h n r after) = ports h := by
  unfold queueRecord
  dsimp only
  split <;> simp

@[simp] theorem ports_haltOthers (h : Hw) (n : Nat) : ports (haltOthers h n) = ports h :=
  foldl_keeps ports _ _ (fun h k => by split <;> [rfl; split] <;> simp) h

@[simp] theorem ports_busError (h : Hw) (n st a : Nat) : ports (busError h n st a) = ports h := by
  have shown (g : Hw) (first : Bool) : ports (if first then
      setF (setF (setF (setF (setF g DM_GSTAT_HALT 0 1) DM_GSTAT_ECH 0 n) DM_GSTAT_ESTAT 0 st) DM_EADDRL_ADDR 0 a) DM_EADDRH_ADDR 0 (a / 2 ^ 32)
      else g) = ports g := by split <;> simp only [ports_setF]
  have raised (g : Hw) : ports (if regionOf a = none then raiseFault g (channelPath n) 6 false else uncorrectable g a false) = ports g := by
    split <;> simp
  unfold busError
  rw [ports_ruleRecord, raised, ports_haltOthers, shown, ports_queueRecord]

@[simp] theorem ports_endBad (h : Hw) (n st a : Nat) : ports (endBad h n st a) = ports h := by
  unfold endBad
  split <;> simp

@[simp] theorem ports_readBack (h : Hw) (n : Nat) : ports (readBack h n).1 = ports h := by
  unfold readBack
  split <;> simp

@[simp] theorem ports_stopChannel (h : Hw) (n : Nat) : ports (stopChannel h n) = ports h := by
  unfold stopChannel
  extract_lets g
  have started : ports g = ports h := ports_setF h _ _ _
  clear_value g
  rw [← started]
  split
  · rfl
  · split
    · rfl
    · rw [← ports_readBack g n]
      obtain ⟨k, bad⟩ := readBack g n
      cases bad with
      | none => exact ports_queueRecord k n _ _
      | some x => exact ports_endBad k n x.1 x.2
  · exact ports_enterState g n 0

@[simp] theorem ports_writeRecord (h : Hw) (n : Nat) : ports (writeRecord h n) = ports h := by
  unfold writeRecord
  dsimp only
  (repeat' split) <;> simp

@[simp] theorem ports_shutDma (h : Hw) : ports (shutDma h) = ports h := by
  refine foldl_keeps ports _ _ (fun h n => ?_) h
  unfold shutChannel
  dsimp only
  split
  · rfl
  · rw [foldl_keeps ports _ _ (fun h _ => ports_writeRecord h n), ports_stopChannel]

@[simp] theorem ports_loseWrite (h : Hw) (page src off : Nat) : ports (loseWrite h page src off) = ports h := by
  unfold loseWrite
  dsimp only
  split <;> simp

@[simp] theorem ports_domainFar (h : Hw) (d : Nat) : ports (domainFar h d) = ports h := by
  refine foldl_keeps ports _ _ (fun h p => ?_) h
  unfold dropFlight
  split
  · simp only [ports_setF, ports_loseWrite]; rfl
  · simp

@[simp] theorem ports_domainOnOp (h : Hw) (d : Nat) : ports (domainOnOp h d) = ports h := by
  unfold domainOnOp
  split <;> simp

@[simp] theorem ports_domainOffOp (h : Hw) (d : Nat) : ports (domainOffOp h d) = ports h := by
  unfold domainOffOp loseDomain saveDomain
  dsimp only
  split
  · simp only [ports_domainFar, ports_setF]
    split <;> simp
  · rfl

@[simp] theorem ports_loseInside (h : Hw) (d : Nat) : ports (loseInside h d) = ports h := by
  unfold loseInside
  dsimp only
  (repeat' split) <;> rfl

@[simp] theorem ports_powerDown (h : Hw) (d : Nat) : ports (powerDown h d) = ports h := by
  unfold powerDown
  dsimp only
  (repeat' split) <;> simp

@[simp] theorem ports_l2Invalidate (h : Hw) : ports (l2Invalidate h) = ports h := by
  unfold l2Invalidate
  rw [foldl_keeps ports _ _ (fun h k => ports_onCore h k _), foldl_keeps ports _ _ (fun h k => ports_setF h _ _ _), ports_setF, ports_onCluster]

@[simp] theorem ports_restoreDomain (h : Hw) (d : Nat) : ports (restoreDomain h d) = ports h := by
  unfold restoreDomain
  rw [ports_onIsland, foldl_keeps ports]
  intro h p
  split <;> simp

@[simp] theorem ports_loadCheckpoint (h : Hw) (c : Nat) : ports (loadCheckpoint h c) = ports h := by
  unfold loadCheckpoint
  dsimp only
  split <;> simp

@[simp] theorem ports_takeThresholds (h : Hw) (die : Nat) : ports (takeThresholds h die) = ports h := (rfl)

@[simp] theorem ports_powerUp (h : Hw) (d : Nat) : ports (powerUp h d) = ports h := by
  have cores (g : Hw) : ports ([0, 1, 2, 3].foldl (fun h k => if k = 0 ∨ bitAt (getF h CC_CORE_REL 0) k then
      onCore h k (fun c => { c with running := true, start := getReg h CC_BOOTL / 4 * 4 + getReg h CC_BOOTH * 2 ^ 32 }) else h) g) = ports g :=
    foldl_keeps ports _ _ (fun h k => by split <;> simp) g
  have woken : ports (restoreDomain (if d = 6 then l2Invalidate (domainOnOp h d) else domainOnOp h d) d) = ports h := by
    rw [ports_restoreDomain]
    split <;> simp
  unfold powerUp
  dsimp only
  generalize restoreDomain (if d = 6 then l2Invalidate (domainOnOp h d) else domainOnOp h d) d = g at woken
  rw [← woken]
  split
  · exact woken.symm
  · (repeat' split) <;> simp only [cores, ports_onBuffer, ports_showCipher, ports_setF, ports_loadCheckpoint, ports_takeThresholds]

@[simp] theorem ports_powerUpMotor (h : Hw) (d : Nat) : ports (powerUpMotor h d) = ports h := by
  unfold powerUpMotor
  split <;> simp

@[simp] theorem ports_switchDomains (h : Hw) (st : Nat) : ports (switchDomains h st) = ports h := by
  refine foldl_keeps ports _ _ (fun h i => ?_) h
  dsimp only
  (repeat' split) <;> simp

@[simp] theorem ports_setLimits (h : Hw) (st : Nat) : ports (setLimits h st) = ports h := by
  unfold setLimits
  split <;> simp

/-- A power transition that is given up on the way to PS3 or PS4 leaves the controllers (R645). -/
@[simp] theorem ports_abandonEntry (h : Hw) : ports (abandonEntry h) = ports h := by
  unfold abandonEntry
  split
  · rw [ports_onCluster, ports_setF, ports_setF, ports_setLimits, ports_switchDomains]
  · rfl

/-! The twins, and the sessions of a port. -/

@[simp] theorem ports_setTwinState (h : Hw) (st : Nat) : ports (setTwinState h st) = ports h := by
  rw [setTwinState, writePairRecord, ports_onTwin, ports_setF]

@[simp] theorem ports_endPairing (h : Hw) : ports (endPairing h) = ports h := by
  rw [endPairing, ports_setTwinState, ports_onTwin]

@[simp] theorem ports_makeDivergent (h : Hw) (es : List Nat) : ports (makeDivergent h es) = ports h := by
  unfold makeDivergent changeExtents
  split <;> rfl

@[simp] theorem ports_declareLost (h : Hw) : ports (declareLost h) = ports h := by
  unfold declareLost showUnacked
  dsimp only
  split <;> simp

@[simp] theorem ports_releaseHeld (h : Hw) (sess : Nat) : ports (releaseHeld h sess) = ports h :=
  foldl_keeps ports clearSection _ (fun h n => by rw [clearSection, ports_onMgmt, setSec, ports_setF, ports_setF]) h

@[simp] theorem ports_fallBack (h : Hw) (sess : Nat) : ports (fallBack h sess) = ports h := by
  unfold fallBack onSession
  dsimp only
  (repeat' split) <;> simp

end Sys2Proof.Machine
end

section
/-! Resets, enabling, shutdown and power states of a controller (R112, R113, R408, R414-R417, R469, R470). -/
namespace Sys2Proof.Machine

@[simp] theorem onPort_regs (h : Hw) (p : Nat) (f : Port → Port) : (onPort h p f).regs = h.regs := by
  unfold onPort
  split <;> rfl

@[simp] theorem onPort_engine (h : Hw) (p : Nat) (f : Port → Port) : (onPort h p f).engine = h.engine := by
  unfold onPort
  split <;> rfl

@[simp] theorem onPort_twin (h : Hw) (p : Nat) (f : Port → Port) : (onPort h p f).twin = h.twin := by
  unfold onPort
  split <;> rfl

theorem getF_of_regs {h g : Hw} (regs : h.regs = g.regs) (f : Fld) (d : Nat) : getF h f d = getF g f d := by
  simp only [getF, getReg, regs]

@[simp] theorem onPort_getF (h : Hw) (p : Nat) (f : Port → Port) (g : Fld) (i : Nat) : getF (onPort h p f) g i = getF h g i :=
  getF_of_regs (onPort_regs h p f) g i

@[simp] theorem port_out (h : Hw) (o : List Output) (p : Nat) : port { h with out := o } p = port h p := (rfl)

/-! Resets (R415, R416). -/

/-- A controller's commands are gone: no Asynchronous Event Request and no Abort waits (R416). -/
theorem port_resetCommands (h : Hw) (p : Nat) : port (resetCommands h p) p = { port h p with aers := [], aborts := [] } := by
  unfold resetCommands countEngine
  extract_lets mine carried gone h₁ h₂
  have taken : port h₂ p = { port h p with aers := [], aborts := [] } := port_onPort h₁ p _
  clear_value h₂
  rw [port_of_ports (ports_onEngine _ _), ← taken]
  split
  · exact port_of_ports (ports_endPairing h₂) p
  · rfl

/-- A port without its queues, and its controller disabled. -/
structure PortOff (x : Port) : Prop where
  en : x.en = false
  rdy : x.rdy = false
  sqs : x.sqs = []
  cqs : x.cqs = []
  aers : x.aers = []

/-- A reset C, F or L disables the controller and takes its queues; the link is the caller's. -/
theorem port_resetPort (h : Hw) (p : Nat) (k : ResetKind) :
    PortOff (port (resetPort h p k) p) ∧ (port (resetPort h p k) p).configured = (port h p).configured := by
  unfold resetPort
  extract_lets h₁ h₂ h₃ h₄
  have kept : port (fallBack h₄ (0x400 + p)) p = port h₃ p :=
    port_of_ports ((ports_fallBack h₄ _).trans (ports_resetRegs h₃ _ _)) p
  have reset : PortOff (port h₂ p) ∧ (port h₂ p).configured = (port h p).configured := by
    rw [show port h₂ p = _ from port_onPort h₁ p _, show port h₁ p = _ from port_resetCommands h p]
    exact ⟨⟨rfl, rfl, rfl, rfl, rfl⟩, rfl⟩
  have letter : PortOff (port h₃ p) ∧ (port h₃ p).configured = (port h₂ p).configured := by
    obtain ⟨⟨en, rdy, sqs, cqs, aers⟩, -⟩ := reset
    by_cases c : k = .C
    · rw [show h₃ = h₂ from if_pos c]
      exact ⟨⟨en, rdy, sqs, cqs, aers⟩, rfl⟩
    · rw [show h₃ = _ from if_neg c, port_onPort]
      exact ⟨⟨en, rdy, sqs, cqs, aers⟩, rfl⟩
  rw [kept]
  exact ⟨letter.1, letter.2.trans reset.2⟩

/-- A twin that loses its partner leaves the registers of other pages (R579). -/
theorem declareLost_getF {g : Fld} {i : Nat} (page : 0x100000 ≤ g.key + i) (noDrop : g.key + i ≠ EV_IRQS_DROP.key) (h : Hw) :
    getF (declareLost h) g i = getF h g i := by
  have twin : ∀ (h : Hw) (f : Fld) (v : Nat), f.key = 0x100 → getF (setF h f 0 v) g i = getF h g i := fun h f v key =>
    getF_setF_reg h f g 0 i v (by rw [key]; omega)
  have divergent : ∀ (h : Hw) (es : List Nat), getF (makeDivergent h es) g i = getF h g i := by
    intro h es
    unfold makeDivergent changeExtents
    split
    · rfl
    · rw [onEngine_getF]
  unfold declareLost
  split
  · rw [ruleRecord_getF _ _ _ _ _ _ _ noDrop, setTwinState, writePairRecord, onTwin_getF, twin _ HQ_TWIN_STATE _ rfl, showUnacked,
      twin _ HQ_TWIN_UNACK _ rfl, twin _ HQ_TWIN_PEERUP _ rfl, twin _ HQ_TWIN_SRC _ rfl, onTwin_getF, onEngine_getF, onEngine_getF, divergent]
  · rfl

/-- A link that goes down: its registers show none, its controller is disabled, its queues are gone (R415). -/
theorem linkLost_shows (h : Hw) {p : Nat} (hp : p < 2) :
    getF (linkLost h p) HP_LSTAT_SPEED (inst p) = 0 ∧ getF (linkLost h p) HP_LSTAT_WIDTH (inst p) = 0 ∧
    PortOff (port (linkLost h p) p) ∧ (port (linkLost h p) p).configured = false := by
  unfold linkLost
  extract_lets up h₁ h₂ h₃ h₄
  have lost : ∀ g : Hw, ports (if g.twin.port = p then declareLost g else g) = ports g := fun g => by split <;> simp
  have lostF : ∀ (g : Hw) (f : Fld), f.key = HP_LSTAT → getF (if g.twin.port = p then declareLost g else g) f (inst p) = getF g f (inst p) := by
    intro g f key
    have place : 0x100000 ≤ f.key + inst p ∧ f.key + inst p ≠ EV_IRQS_DROP.key := by
      simp only [key, HP_LSTAT, inst, EV_IRQS_DROP, EV_IRQS]
      omega
    split
    · exact declareLost_getF place.1 place.2 g
    · rfl
  have counted : ∀ f : Fld, f = HP_LSTAT_SPEED ∨ f = HP_LSTAT_WIDTH → getF h₄ f (inst p) = getF h₂ f (inst p) := by
    intro f which
    rw [← show getF h₃ f (inst p) = getF h₂ f (inst p) from onPort_getF h₂ p _ f _]
    unfold h₄
    split
    · rcases which with rfl | rfl
      · exact getF_setF_apart _ HP_LSTAT_LDOWNS HP_LSTAT_SPEED _ _ (by decide)
      · exact getF_setF_apart _ HP_LSTAT_LDOWNS HP_LSTAT_WIDTH _ _ (by decide)
    · rfl
  have configured : port h₄ p = { port h₁ p with configured := false } := by
    have same : port h₄ p = port h₃ p := by
      unfold h₄
      split
      · exact port_of_ports (ports_satF _ _ _ _) p
      · rfl
    have shown : port h₂ p = port h₁ p := port_of_ports (by simp only [h₂, ports_setF]) p
    calc port h₄ p = port h₃ p := same
      _ = { port h₂ p with configured := false } := port_onPort h₂ p _
      _ = { port h₁ p with configured := false } := by rw [shown]
  have off := (port_resetPort h p .L).1
  refine ⟨?_, ?_, ?_, ?_⟩
  · rw [lostF _ _ rfl, counted _ (.inl rfl)]
    unfold h₂ hpd
    rw [getF_setF_apart _ HP_LSTAT_REV HP_LSTAT_SPEED _ _ (by decide), getF_setF_apart _ HP_LSTAT_WIDTH HP_LSTAT_SPEED _ _ (by decide),
      getF_setF_self _ HP_LSTAT_SPEED _ _ (by decide)]
    rfl
  · rw [lostF _ _ rfl, counted _ (.inr rfl)]
    unfold h₂ hpd
    rw [getF_setF_apart _ HP_LSTAT_REV HP_LSTAT_WIDTH _ _ (by decide), getF_setF_self _ HP_LSTAT_WIDTH _ _ (by decide)]
    rfl
  · rw [port_of_ports (lost h₄), configured]
    exact ⟨off.en, off.rdy, off.sqs, off.cqs, off.aers⟩
  · rw [port_of_ports (lost h₄), configured]

end Sys2Proof.Machine
end

section
/-! The events of the ports and of their controllers (R112, R113, R408, R414, R415, R417, R469, R470). -/
namespace Sys2Proof.Machine

/-! Links and resets. -/

theorem exec_perst {p : Nat} {s : State} (kind : Nat) (here : portExists s.hw p = true) :
    ∃ h, exec (.perst p kind) s = .next { s with hw := linkLost h p } := by
  have here : portExists { s.hw with out := [] } p = true := here
  change ∃ h, execPerst p kind s = _
  simp only [execPerst, State.run, here, Bool.not_true, Bool.false_eq_true, if_false]
  exact ⟨_, rfl⟩

theorem exec_hxPerstNRise {p : Nat} {s : State} (here : portExists s.hw p = true) :
    exec (.hxPerstNRise p) s = .next { s with hw := onPins { s.hw with out := [] } (fun x =>
      if p = 0 then { x with perstA := true } else { x with perstB := true }) } := by
  have here : portExists { s.hw with out := [] } p = true := here
  change execHxPerstNRise p s = _
  simp only [execHxPerstNRise, State.run, here, if_true]

/-- The link of port `p` as it trained (R408). -/
def linkShown (h : Hw) (p speed width : Nat) (reversed : Bool) : Hw :=
  setF (setF (setF h HP_LSTAT_SPEED (inst p) speed) HP_LSTAT_WIDTH (inst p) width) HP_LSTAT_REV (inst p) reversed.toNat

theorem linkShown_eq (h : Hw) (p speed width : Nat) (reversed : Bool) : linkShown h p speed width reversed =
    setF (setF (setF h HP_LSTAT_SPEED (inst p) speed) HP_LSTAT_WIDTH (inst p) width) HP_LSTAT_REV (inst p) reversed.toNat := rfl

theorem linkShown_getF (h : Hw) (p : Nat) {speed width : Nat} (reversed : Bool) (slow : speed < 8) (narrow : width ≤ 2) :
    getF (linkShown h p speed width reversed) HP_LSTAT_SPEED (inst p) = speed ∧
    getF (linkShown h p speed width reversed) HP_LSTAT_WIDTH (inst p) = width ∧
    getF (linkShown h p speed width reversed) HP_LSTAT_REV (inst p) = reversed.toNat := by
  rw [linkShown_eq]
  refine ⟨?_, ?_, ?_⟩
  · rw [getF_setF_apart _ HP_LSTAT_REV HP_LSTAT_SPEED _ _ (by decide), getF_setF_apart _ HP_LSTAT_WIDTH HP_LSTAT_SPEED _ _ (by decide),
      getF_setF_self _ HP_LSTAT_SPEED _ _ (by decide)]
    exact Nat.mod_eq_of_lt slow
  · rw [getF_setF_apart _ HP_LSTAT_REV HP_LSTAT_WIDTH _ _ (by decide), getF_setF_self _ HP_LSTAT_WIDTH _ _ (by decide)]
    exact Nat.mod_eq_of_lt (Nat.lt_of_le_of_lt narrow (by decide))
  · rw [getF_setF_self _ HP_LSTAT_REV _ _ (by decide)]
    cases reversed <;> rfl

theorem exec_pcieLinkUp {p speed width : Nat} {s : State} (reversed : Bool) (here : portExists s.hw p = true)
    (high : (if p = 0 then s.hw.pins.perstA else s.hw.pins.perstB) = true) (on : domainOn s.hw (1 + p) = true) (trained : 1 ≤ speed)
    (allowed : speed ≤ liveVal s.hw (linkLeaf p) 0x012 0) (wide : 1 ≤ width) (narrow : width ≤ 2) :
    exec (.pcieLinkUp p speed width reversed) s =
      .next { s with hw := onPort (linkShown { s.hw with out := [] } p speed width reversed) p (fun x => { x with configured := true }) } := by
  have all : portExists { s.hw with out := [] } p = true ∧
      (if p = 0 then ({ s.hw with out := [] } : Hw).pins.perstA else ({ s.hw with out := [] } : Hw).pins.perstB) = true ∧
      domainOn { s.hw with out := [] } (1 + p) = true ∧ 1 ≤ speed ∧ speed ≤ liveVal { s.hw with out := [] } (linkLeaf p) 0x012 0 ∧
      1 ≤ width ∧ width ≤ 2 := ⟨here, high, on, trained, allowed, wide, narrow⟩
  change execPcieLinkUp p speed width reversed s = _
  simp only [execPcieLinkUp, State.run, if_pos all]
  rfl

/-- The registers of the link, kept over a function level reset, are no part of a controller. -/
theorem exec_functionLevelReset {p : Nat} {s : State} (up : (port s.hw p).configured = true) :
    ∃ t, exec (.functionLevelReset p) s = .next t ∧ port t.hw p = port (resetPort { s.hw with out := [] } p .F) p ∧
      t.vault = s.vault ∧ t.pending = s.pending := by
  have up : (port { s.hw with out := [] } p).configured = true := up
  change ∃ t, execFunctionLevelReset p s = _ ∧ _
  simp only [execFunctionLevelReset, State.run, up, if_true]
  exact ⟨_, rfl, port_of_ports (foldl_keeps ports _ _ (fun h q => ports_setF h _ _ _) _) p, rfl, rfl⟩

theorem exec_controllerDisable {p : Nat} {s : State} (on : (port s.hw p).en = true) :
    exec (.controllerDisable p) s = .next { s with hw := resetPort { s.hw with out := [] } p .C } := by
  have on : (port { s.hw with out := [] } p).en = true := on
  change execControllerDisable p s = _
  simp only [execControllerDisable, State.run, on, if_true]

/-! Enabling (R113, R414, R469). -/

/-- A controller as CC.EN sets it, with its admin queues. -/
def enabled (asqs acqs : Nat) (x : Port) : Port :=
  { x with en := true, sqs := oset x.sqs 0 (some { cq := 0, size := asqs }), cqs := oset x.cqs 0 (some { size := acqs, ien := true }) }

/-- CC.EN takes its course by the stage of the start: boot recovery, a halted device, admin ready passed, and before it. -/
def switchedOn (h : Hw) (p asqs acqs : Nat) : Hw :=
  if getF h PW_BOOT_STAGE 0 = 0x0D then onPort h p (fun x => { x with cfs := true })
  else if flagF h PW_BOOT_HALT 0 then onPort (onPort h p (enabled asqs acqs)) p (fun x => { x with cfs := true })
  else if 7 ≤ getF h PW_BOOT_STAGE 0 then
    onEngine (onPort (onPort h p (enabled asqs acqs)) p (fun x => { x with rdy := true })) (fun g => { g with noReady := false })
  else onPort h p (enabled asqs acqs)

theorem exec_controllerEnable {p : Nat} {s : State} (asqs acqs : Nat) (up : (port s.hw p).configured = true) (off : (port s.hw p).en = false) :
    exec (.controllerEnable p asqs acqs) s = .next { s with hw := switchedOn { s.hw with out := [] } p asqs acqs } := by
  have unbarred : ¬ ((!(port { s.hw with out := [] } p).configured) = true ∨ (port { s.hw with out := [] } p).en = true) := by
    simp only [port_out, up, off]
    decide
  have halt : flagF (onPort { s.hw with out := [] } p (enabled asqs acqs)) PW_BOOT_HALT 0 = flagF { s.hw with out := [] } PW_BOOT_HALT 0 := by
    rw [flagF, onPort_getF, ← flagF]
  rw [switchedOn, ← halt]
  change execControllerEnable p asqs acqs s = _
  simp only [execControllerEnable, State.run, if_neg unbarred]
  rfl

section
variable {h : Hw} (p asqs acqs : Nat)

theorem switchedOn_recovery (stage : getF h PW_BOOT_STAGE 0 = 0x0D) :
    switchedOn h p asqs acqs = onPort h p (fun x => { x with cfs := true }) := if_pos stage

theorem switchedOn_halted (stage : getF h PW_BOOT_STAGE 0 ≠ 0x0D) (halt : flagF h PW_BOOT_HALT 0 = true) :
    switchedOn h p asqs acqs = onPort (onPort h p (enabled asqs acqs)) p (fun x => { x with cfs := true }) := by
  rw [switchedOn, if_neg stage, if_pos halt]

theorem switchedOn_ready (stage : getF h PW_BOOT_STAGE 0 ≠ 0x0D) (goes : flagF h PW_BOOT_HALT 0 = false) (passed : 7 ≤ getF h PW_BOOT_STAGE 0) :
    switchedOn h p asqs acqs =
      onEngine (onPort (onPort h p (enabled asqs acqs)) p (fun x => { x with rdy := true })) (fun g => { g with noReady := false }) := by
  rw [switchedOn, if_neg stage, goes, if_neg Bool.false_ne_true, if_pos passed]

theorem switchedOn_early (goes : flagF h PW_BOOT_HALT 0 = false) (early : getF h PW_BOOT_STAGE 0 < 7) :
    switchedOn h p asqs acqs = onPort h p (enabled asqs acqs) := by
  have stage : getF h PW_BOOT_STAGE 0 ≠ 0x0D := fun at13 => absurd early (by rw [at13]; decide)
  rw [switchedOn, if_neg stage, goes, if_neg Bool.false_ne_true, if_neg (Nat.not_le.mpr early)]

end

theorem port_enabled (h : Hw) (p asqs acqs : Nat) : port (onPort h p (enabled asqs acqs)) p = enabled asqs acqs (port h p) := port_onPort h p _

theorem enabled_queues (asqs acqs : Nat) (x : Port) : oget (enabled asqs acqs x).sqs 0 = some ({ cq := 0, size := asqs } : SubQ) ∧
    oget (enabled asqs acqs x).cqs 0 = some ({ size := acqs, ien := true } : ComQ) := 

  ⟨oget_oset x.sqs 0 (some { cq := 0, size := asqs }), oget_oset x.cqs 0 (some { size := acqs, ien := true })⟩

/-! ADMIN_READY (R112). -/

/-- The controllers that wait with CC.EN set become ready. -/
def waked (x : Port) : Port := if x.en && !x.cfs then { x with rdy := true } else x

theorem waked_rdy (x : Port) : (waked x).rdy = (x.rdy || (x.en && !x.cfs)) := by
  unfold waked
  cases waits : x.en && !x.cfs
  · exact (Bool.or_false _).symm
  · exact (Bool.or_true _).symm

/-- The block at admin ready. -/
def adminOpened (h : Hw) : Hw :=
  setF (onPort (onPort (onBoot (setF h PW_BOOT_STAGE 0 7) (fun b => { b with admin := true })) 0 waked) 1 waked) HQ_STAT_FETCH 0 1

theorem exec_adminReady {s : State} (stage : getF s.hw PW_BOOT_STAGE 0 = 5 ∨ getF s.hw PW_BOOT_STAGE 0 = 6) (goes : getF s.hw PW_BOOT_HALT 0 = 0) :
    exec .adminReady s = .next { s with hw := adminOpened { s.hw with out := [] } } := by
  have due : (getF { s.hw with out := [] } PW_BOOT_STAGE 0 = 5 ∨ getF { s.hw with out := [] } PW_BOOT_STAGE 0 = 6) ∧
      getF { s.hw with out := [] } PW_BOOT_HALT 0 = 0 := ⟨stage, goes⟩
  change execAdminReady s = _
  simp only [execAdminReady, State.run, if_pos due]
  rfl

theorem adminOpened_stage (h : Hw) : getF (adminOpened h) PW_BOOT_STAGE 0 = 7 := by
  rw [adminOpened, getF_setF_key _ _ _ (by decide), onPort_getF, onPort_getF, onBoot_getF, getF_setF_self _ PW_BOOT_STAGE _ _ (by decide)]
  rfl

theorem adminOpened_fetch (h : Hw) : getF (adminOpened h) HQ_STAT_FETCH 0 = 1 := getF_setF_self _ HQ_STAT_FETCH _ _ (by decide)

theorem adminOpened_mem (h : Hw) : (adminOpened h).mem = h.mem := by
  rw [adminOpened, setF_mem, onPort_mem, onPort_mem, onBoot_mem, setF_mem]

theorem port_adminOpened (h : Hw) {p : Nat} (hp : p < 2) : port (adminOpened h) p = waked (port h p) := by
  match p, hp with
  | 0, _ => rfl
  | 1, _ => rfl

/-! Shutdown and power states (R417, R469, R470). -/

theorem resetCommands_idle {h : Hw} {p : Nat} (idle : h.engine.cmds = []) (own : h.twin.pairing = none ∨ h.twin.port ≠ p) :
    (resetCommands h p).regs = h.regs ∧ (resetCommands h p).mem = h.mem ∧ (resetCommands h p).engine.cmds = [] := by
  have stays : ¬ (h.twin.pairing.isSome = true ∧ h.twin.port = p) := by
    rintro ⟨waits, mine⟩
    rcases own with none | other
    · rw [none] at waits; exact Bool.noConfusion waits
    · exact other mine
  unfold resetCommands countEngine
  extract_lets mine carried gone h₁ h₂
  have twin : h₂.twin = h.twin := onPort_twin h₁ p _
  have engine : h₂.engine = h₁.engine := onPort_engine h₁ p _
  rw [if_neg (by rw [twin]; exact stays)]
  refine ⟨onPort_regs h₁ p _, onPort_mem h₁ p _, ?_⟩
  rw [onEngine_engine, engine]
  simp only [h₁, onEngine_engine, idle, List.filter_nil, List.map_nil]

theorem exec_shutdown {p : Nat} {s : State} (up : (port s.hw p).rdy = true) :
    exec (.shutdown p) s =
      .next { s with hw := shutdownCheck (onPort (resetCommands { s.hw with out := [] } p) p (fun x => { x with shst := 1 })) p } := by
  have up : (port { s.hw with out := [] } p).rdy = true := up
  change execShutdown p s = _
  simp only [execShutdown, State.run, up, if_true]

/-- With no command left CSTS.SHST goes from 1 to 2. -/
theorem shutdownCheck_idle {h : Hw} {p : Nat} (asked : (port h p).shst = 1) (idle : h.engine.cmds = []) :
    shutdownCheck h p = onPort h p (fun x => { x with shst := 2 }) := by
  have ends : (port h p).shst = 1 ∧ (!(h.engine.cmds.any (fun c => c.port == p && c.source == .host))) = true := ⟨asked, by rw [idle]; rfl⟩
  rw [shutdownCheck, if_pos ends]

theorem exec_apstIdleTimeout {p : Nat} {s : State} (up : (port s.hw p).rdy = true) (on : mget featureDefault (port s.hw p).features 0x0C = 1)
    (set : zget (port s.hw p).apst (port s.hw p).ps / 256 ≠ 0) (target : bits 7 3 (zget (port s.hw p).apst (port s.hw p).ps) ≤ 4)
    (long : zget (port s.hw p).apst (port s.hw p).ps / 256 ≤ (port s.hw p).idle) (idle : s.hw.engine.cmds = []) :
    ∃ f : Port → Port, exec (.apstIdleTimeout p) s = .next { s with hw := onPort { s.hw with out := [] } p f } ∧
      (f (port s.hw p)).ps = bits 7 3 (zget (port s.hw p).apst (port s.hw p).ps) ∧ (f (port s.hw p)).rdy = (port s.hw p).rdy := by
  have none : (!(s.hw.engine.cmds.any (fun c => c.port == p && c.source == .host))) = true := by rw [idle]; rfl
  change ∃ f : Port → Port, execApstIdleTimeout p s = _ ∧ _
  simp only [execApstIdleTimeout, State.run, port_out]
  rw [if_pos ⟨up, on, set, long, target, none⟩]
  exact ⟨_, rfl, rfl, rfl⟩

theorem exec_powerStateExitOnIo {p : Nat} {s : State} (up : (port s.hw p).rdy = true) (asleep : 3 ≤ (port s.hw p).ps) :
    exec (.powerStateExitOnIo p) s =
      .next { s with hw := abandonEntry (onPort { s.hw with out := [] } p (fun x => { x with ps := x.lastOp })) } := by
  have calls : (port { s.hw with out := [] } p).rdy = true ∧ 3 ≤ (port { s.hw with out := [] } p).ps := ⟨up, asleep⟩
  change execPowerStateExitOnIo p s = _
  simp only [execPowerStateExitOnIo, exitOnIo, State.run, if_pos calls]

/-- Settles O52: before admin ready CC.EN is kept, at admin ready it takes effect, on a halted device it sets CSTS.CFS. -/
theorem enableWaitsForAdminReady : Obligations.EnableWaitsForAdminReady := by
  refine ⟨?early, ?ready, ?halted⟩
  case early =>
    intro p asqs acqs s _ up off early goes
    refine ⟨_, exec_controllerEnable asqs acqs up off, ?_⟩
    rw [switchedOn_early (h := { s.hw with out := [] }) p asqs acqs goes early, port_enabled, port_out, onPort_regs, onPort_mem]
    exact ⟨rfl, rfl, rfl, rfl, rfl, rfl, rfl⟩
  case ready =>
    intro p s hp on fine stage goes
    refine ⟨_, exec_adminReady stage goes, ?_, adminOpened_stage _, adminOpened_mem _, rfl, rfl⟩
    rw [port_adminOpened _ hp, waked_rdy, port_out, on, fine]
    exact Bool.or_true _
  case halted =>
    intro p asqs acqs s _ up off stage halt
    refine ⟨_, exec_controllerEnable asqs acqs up off, ?_⟩
    rw [switchedOn_halted (h := { s.hw with out := [] }) p asqs acqs stage halt, port_onPort, port_enabled, port_out, onPort_regs, onPort_regs,
      onPort_mem, onPort_mem]
    exact ⟨rfl, rfl, rfl, rfl, rfl, rfl⟩

/-- Settles O18: each event takes the branch of its meaning that the hypotheses leave, and what it leaves is read off that branch. -/
theorem linkAndControllerControlComplete : Obligations.LinkAndControllerControlComplete := by
  refine ⟨?perst, ?rise, ?linkUp, ?flr, ?disable, ?recovery, ?ready, ?early, ?shutdown, ?apst, ?noReady, ?exitOnIo⟩
  case perst =>
    intro p kind s hp here
    obtain ⟨h, ran⟩ := exec_perst kind here
    obtain ⟨speed, width, off, down⟩ := linkLost_shows h hp
    exact ⟨_, ran, speed, width, off.en, off.rdy, down, off.sqs, off.cqs, rfl, rfl⟩
  case rise =>
    intro p s _ here
    exact exec_hxPerstNRise here
  case linkUp =>
    intro p speed width reversed s here _ high on trained allowed slow wide narrow
    obtain ⟨speedShown, widthShown, revShown⟩ := linkShown_getF { s.hw with out := [] } p reversed slow narrow
    refine ⟨_, exec_pcieLinkUp reversed here high on trained allowed wide narrow, ?_, ?_, ?_, ?_, ?_, rfl, rfl⟩
    · rw [onPort_getF, speedShown]
    · rw [onPort_getF, widthShown]
    · rw [onPort_getF, revShown]
    · rw [port_onPort]
    · rw [onPort_mem, linkShown_eq, setF_mem, setF_mem, setF_mem]
  case flr =>
    intro p s _ up
    obtain ⟨t, ran, same, rest⟩ := exec_functionLevelReset up
    obtain ⟨off, link⟩ := port_resetPort { s.hw with out := [] } p .F
    rw [← same] at off link
    exact ⟨t, ran, link.trans up, off.en, off.rdy, off.sqs, rest⟩
  case disable =>
    intro p s _ on
    obtain ⟨off, link⟩ := port_resetPort { s.hw with out := [] } p .C
    exact ⟨_, exec_controllerDisable on, off.en, off.rdy, off.sqs, off.aers, link, rfl, rfl⟩
  case recovery =>
    intro p asqs acqs s _ up off stage
    refine ⟨_, exec_controllerEnable asqs acqs up off, ?_⟩
    rw [switchedOn_recovery (h := { s.hw with out := [] }) p asqs acqs stage, port_onPort, port_out, onPort_regs, onPort_mem]
    exact ⟨rfl, rfl, rfl, rfl, rfl⟩
  case ready =>
    intro p asqs acqs s up off passed stage goes
    obtain ⟨sq, cq⟩ := enabled_queues asqs acqs (port s.hw p)
    refine ⟨_, exec_controllerEnable asqs acqs up off, ?_⟩
    rw [switchedOn_ready (h := { s.hw with out := [] }) p asqs acqs stage goes passed, port_of_ports (ports_onEngine _ _), port_onPort,
      port_enabled, port_out,
      onEngine_engine, onEngine_regs, onEngine_mem, onPort_engine, onPort_engine, onPort_regs, onPort_regs, onPort_mem, onPort_mem]
    exact ⟨rfl, rfl, sq, cq, rfl, rfl, rfl, rfl, rfl⟩
  case early =>
    intro p asqs acqs s up off early goes
    refine ⟨_, exec_controllerEnable asqs acqs up off, ?_⟩
    rw [switchedOn_early (h := { s.hw with out := [] }) p asqs acqs goes early, port_enabled, port_out, onPort_regs, onPort_mem]
    exact ⟨rfl, rfl, rfl, rfl, rfl, rfl, rfl⟩
  case shutdown =>
    intro p s up idle own
    obtain ⟨regs, mem, none⟩ := resetCommands_idle (h := { s.hw with out := [] }) idle own
    refine ⟨_, exec_shutdown up, ?_⟩
    rw [shutdownCheck_idle (by rw [port_onPort]) (by rw [onPort_engine, none]), port_onPort, port_onPort, port_resetCommands, port_out, onPort_regs,
      onPort_regs, regs, onPort_mem, onPort_mem, mem]
    exact ⟨rfl, rfl, rfl, rfl, rfl, rfl, rfl, rfl⟩
  case apst =>
    intro p s up on set target long idle
    obtain ⟨f, ran, ps, rdy⟩ := exec_apstIdleTimeout up on set target long idle
    refine ⟨_, ran, ?_⟩
    rw [port_onPort, port_out, onPort_engine, onPort_regs, onPort_mem]
    exact ⟨ps, rdy.trans up, rfl, rfl, rfl, rfl, rfl⟩
  case noReady =>
    intro s a b long
    have due : ¬ (s.hw.portA.rdy = true ∨ s.hw.portB.rdy = true ∨ s.hw.engine.unready < 60000) := by
      rw [a, b]
      simp only [Bool.false_eq_true, false_or]
      omega
    exact congrArg (fun h => Host.Outcome.next { s with hw := h }) (if_neg due)
  case exitOnIo =>
    intro p s up asleep
    refine ⟨_, exec_powerStateExitOnIo up asleep, ?_⟩
    rw [port_of_ports (ports_abandonEntry _), port_onPort, port_out]
    exact ⟨rfl, up, rfl, rfl⟩

end Sys2Proof.Machine
end

section
/-! What a carriage's units show stands below the registers of the power page: ending their work leaves every register from PW_BOOT up, and
the fences. -/
namespace Sys2Proof.Machine

theorem inst_lt {c : Nat} (car : c < 4) : inst c < 0x4000 := by
  simp only [inst]
  omega

/-- A register and the fences. -/
def beyond (a : Nat) (h : Hw) : Nat × SMap Nat := (getReg h a, h.fences)

theorem beyond_eq_iff {a : Nat} {g h : Hw} : beyond a g = beyond a h ↔ getReg g a = getReg h a ∧ g.fences = h.fences :=
  Prod.mk.injEq .. ▸ Iff.rfl

section
variable (a : Nat) (h : Hw) (c : Nat)

theorem beyond_onChan (f : Channel → Channel) : beyond a (onChan h c f) = beyond a h := (rfl)
theorem beyond_onPath (f : SectorPath → SectorPath) : beyond a (onPath h c f) = beyond a h := (rfl)
theorem beyond_onFmt (f : Formatter → Formatter) : beyond a (onFmt h c f) = beyond a h := (rfl)
theorem beyond_onServo (f : Servo → Servo) : beyond a (onServo h c f) = beyond a h := (rfl)
theorem beyond_onDrive (f : Drive → Drive) : beyond a (onDrive h c f) = beyond a h := (rfl)
theorem beyond_emit (o : Output) : beyond a (emit h o) = beyond a h := (rfl)
theorem beyond_drawn : beyond a (drawn h) = beyond a h := (rfl)

end

section
variable {a : Nat} (past : PW_BOOT ≤ a)
include past

theorem beyond_setReg_low (h : Hw) {b : Nat} (w : Nat) (low : b < PW_BOOT) : beyond a (setReg h b w) = beyond a h :=
  beyond_eq_iff.2 ⟨getReg_setReg_ne h w (Nat.ne_of_gt (Nat.lt_of_lt_of_le low past)), setReg_fences h b w⟩

theorem beyond_setF_low (h : Hw) (f : Fld) (d v : Nat) (low : f.key + d < PW_BOOT) : beyond a (setF h f d v) = beyond a h :=
  beyond_setReg_low past h _ low

theorem beyond_raiseRecord (h : Hw) (u c v d : Nat) (b : Bool) : beyond a (raiseRecord h u c v d b) = beyond a h :=
  beyond_eq_iff.2 ⟨raiseRecord_getReg h u c v d b (Nat.ne_of_gt (Nat.lt_of_lt_of_le (by decide : EV_IRQS_DROP.key < PW_BOOT) past)),
    raiseRecord_fences h u c v d b⟩

variable {c : Nat} (car : c < 4)
include car

theorem beyond_setF_inst (h : Hw) (f : Fld) (v : Nat) (page : f.key + 0x4000 ≤ PW_BOOT) : beyond a (setF h f (inst c) v) = beyond a h :=
  beyond_setF_low past h f _ v (Nat.lt_of_lt_of_le (Nat.add_lt_add_left (inst_lt car) _) page)

theorem beyond_setF_inst_add (h : Hw) (f : Fld) (k v : Nat) (page : f.key + 0x4000 + k ≤ PW_BOOT) :
    beyond a (setF h f (inst c + k) v) = beyond a h := by
  have low := inst_lt car
  exact beyond_setF_low past h f _ v (by omega)

/-! The end of a sector. -/

theorem beyond_showQueue (h : Hw) : beyond a (showQueue h c) = beyond a h := by
  simp (disch := decide) only [showQueue, beyond_setF_inst past car]

theorem beyond_reportRead (h : Hw) (r : ChResult) : beyond a (reportRead h c r) = beyond a h := by
  have word : CH_DSTAT + inst c < PW_BOOT := Nat.lt_of_lt_of_le (Nat.add_lt_add_left (inst_lt car) _) (by decide)
  unfold reportRead addF
  dsimp only
  split <;> simp (disch := decide) only [beyond_onChan, beyond_setF_inst past car, beyond_setF_inst_add past car, beyond_setReg_low past _ _ word]

theorem beyond_fileVerify (h : Hw) (x : ChSector) (overflow : Bool) : beyond a (fileVerify h c x overflow) = beyond a h := by
  have word : CH_VSTAT + inst c < PW_BOOT := Nat.lt_of_lt_of_le (Nat.add_lt_add_left (inst_lt car) _) (by decide)
  simp (disch := decide) only [fileVerify, beyond_onChan, beyond_setF_inst past car, beyond_setReg_low past _ _ word]

theorem beyond_failOnTheFly (h : Hw) (x : ChSector) : beyond a (failOnTheFly h c x) = beyond a h := by
  unfold failOnTheFly addF
  dsimp only
  (repeat' split) <;>
    simp (disch := decide) only [beyond_onChan, beyond_drawn, beyond_reportRead past car, beyond_setF_inst past car, beyond_setF_inst_add past car]

theorem beyond_overflowQueue (h : Hw) : beyond a (overflowQueue h c) = beyond a h := by
  unfold overflowQueue
  dsimp only
  split
  · split
    · rw [beyond_fileVerify past car, beyond_onChan]
    · rw [beyond_failOnTheFly past car, beyond_onChan]
  · rfl

theorem beyond_showAsperity (h : Hw) : beyond a (showAsperity h c) = beyond a h := by
  unfold showAsperity addF
  dsimp only
  (repeat' split) <;> simp (disch := decide) only [beyond_onChan, beyond_setF_inst past car, beyond_setF_inst_add past car]

theorem beyond_showSlip (h : Hw) : beyond a (showSlip h c) = beyond a h := by
  unfold showSlip addF
  dsimp only
  (repeat' split) <;> simp (disch := decide) only [beyond_onChan, beyond_setF_inst past car, beyond_setF_inst_add past car]

theorem beyond_showRest (h : Hw) : beyond a (showRest h c) = beyond a h := by
  unfold showRest
  split
  · rw [beyond_showSlip past car]
    exact foldl_keeps (beyond a) _ _ (fun h _ => beyond_showAsperity past car h) h
  · rfl

theorem beyond_noteMiss (h : Hw) (id : Nat) : beyond a (noteMiss h c id) = beyond a h := by
  simp (disch := decide) only [noteMiss, addF, beyond_onPath, beyond_setF_inst past car, beyond_setF_inst_add past car]

theorem beyond_sectorMeasures (h : Hw) (x : ChSector) : beyond a (sectorMeasures h c x).1 = beyond a h := by
  unfold sectorMeasures setS
  dsimp only
  split <;> simp (disch := decide) only [beyond_onChan, beyond_setF_inst past car]

theorem beyond_leaveSector (h : Hw) (hd : Nat) : beyond a (leaveSector h c hd) = beyond a h := by
  have boundary : beyond a (calBoundary h c) = beyond a h := by
    unfold calBoundary
    split <;> rfl
  rw [leaveSector, beyond_showQueue past car, boundaryCommits, ← boundary]
  refine foldl_keeps (beyond a) _ _ (fun h z => ?_) _
  split
  · simp (disch := decide) only [dropUpdates, commitSet, beyond_onChan, beyond_setF_inst past car]
  · rfl

end

theorem beyond_sendGate (h : Hw) (c k : Nat) (was level : Bool) (ps : Int) (a : Nat) : beyond a (sendGate h c k was level ps) = beyond a h := by
  unfold sendGate
  split <;> rfl

theorem beyond_endRun (h : Hw) (c a : Nat) : beyond a (endRun h c) = beyond a h := by
  simp only [endRun, beyond_onPath, beyond_sendGate]

section
variable {a : Nat} (past : PW_BOOT ≤ a) {c : Nat} (car : c < 4)
include past car

theorem beyond_endSector (h : Hw) : beyond a (endSector h c) = beyond a h := by
  unfold endSector
  dsimp only
  split
  · exact beyond_showRest past car h
  · rw [beyond_leaveSector past car]
    (repeat' split) <;>
      simp (disch := decide) only [beyond_onChan, beyond_endRun, beyond_overflowQueue past car, beyond_reportRead past car, beyond_noteMiss past car,
        beyond_sectorMeasures past car, beyond_showRest past car, beyond_setF_inst past car]

/-! The formatter. -/

theorem beyond_completeReq (h : Hw) (r : FmReq) (status prog : Nat) : beyond a (completeReq h c r status prog) = beyond a h := by
  unfold completeReq addF
  dsimp only
  split <;> simp (disch := decide) only [beyond_emit, beyond_setF_inst past car]

theorem beyond_completeRunning (h : Hw) (status : Nat) : beyond a (completeRunning h c status) = beyond a h := by
  unfold completeRunning
  (repeat' split) <;> simp only [beyond_onFmt, beyond_completeReq past car]

theorem beyond_endRoutine (h : Hw) : beyond a (endRoutine h c) = beyond a h := by
  unfold endRoutine showReq
  dsimp only
  split <;> simp (disch := decide) only [beyond_onFmt, beyond_setF_inst past car]

theorem beyond_showStu (h : Hw) : beyond a (showStu h c) = beyond a h := by
  simp (disch := decide) only [showStu, beyond_setF_inst past car]

theorem beyond_stopFormatter (h : Hw) : beyond a (stopFormatter h c) = beyond a h := by
  unfold stopFormatter
  dsimp only
  rw [beyond_showStu past car]
  split <;>
    simp (disch := decide) only [beyond_endRun, beyond_endSector past car, beyond_endRoutine past car, beyond_showStu past car, beyond_onFmt,
      beyond_setF_inst past car, foldl_keeps (beyond a) _ _ (fun h r => beyond_completeReq past car h r _ _), beyond_completeRunning past car]

/-! The servo and the drive. -/

theorem beyond_parkServo (h : Hw) : beyond a (parkServo h c) = beyond a h := by
  simp (disch := decide) only [parkServo, restServo, assertUnsafe, showLimits, setSv, beyond_onServo, beyond_setF_inst past car]

theorem beyond_startRetract (h : Hw) : beyond a (startRetract h c) = beyond a h := by
  unfold startRetract addF
  dsimp only
  split
  · rfl
  · simp (disch := decide) only [beyond_onDrive, beyond_setF_inst past car, beyond_setF_inst_add past car]

end

theorem beyond_retractAll (h : Hw) {a : Nat} (past : PW_BOOT ≤ a) : beyond a (retractAll h) = beyond a h := by
  refine foldl_keeps (beyond a) _ _ (fun h c => ?_) h
  split
  next here => exact beyond_startRetract past (lt_four_of_populated here) h
  next => rfl

section
variable {a : Nat} (past : PW_BOOT ≤ a) (h : Hw)
include past

theorem getReg_setF_low (f : Fld) (d v : Nat) (low : f.key + d < PW_BOOT) : getReg (setF h f d v) a = getReg h a :=
  (beyond_eq_iff.1 (beyond_setF_low past h f d v low)).1

theorem getReg_raiseRecord (u c v d : Nat) (b : Bool) : getReg (raiseRecord h u c v d b) a = getReg h a :=
  (beyond_eq_iff.1 (beyond_raiseRecord past h u c v d b)).1

theorem getReg_retractAll : getReg (retractAll h) a = getReg h a := (beyond_eq_iff.1 (beyond_retractAll h past)).1

end

end Sys2Proof.Machine
end

section
/-! A failed start (R118): what each consequence of a failure code leaves. -/
namespace Sys2Proof.Machine

theorem getF_of_getReg {h g : Hw} {f : Fld} {d : Nat} (same : getReg h (f.key + d) = getReg g (f.key + d)) : getF h f d = getF g f d :=
  congrArg (bits f.hi f.lo) same

theorem carriageOf_carPath {c b : Nat} (car : c < 4) (block : b < 0x1000) : carriageOf (carPath c b) = some c := by
  have die : nib (carPath c b) 3 = c + 2 := by simp only [nib, carPath]; omega
  rw [carriageOf, die, if_pos (by omega)]
  rfl

/-! The registers of the power page. -/

/-- A step of the start shows in PW_BOOT.STAGE alone. -/
theorem startProgress_fail (h : Hw) : getF (startProgress h) PW_BOOT_FAIL 0 = getF h PW_BOOT_FAIL 0 := by
  unfold startProgress
  split
  · exact getF_setF_apart h PW_BOOT_STAGE PW_BOOT_FAIL 0 _ (by decide)
  · rfl

theorem startProgress_fences (h : Hw) : (startProgress h).fences = h.fences := by
  unfold startProgress
  split <;> rfl

section
variable {c : Nat} (car : c < 4)
include car

/-- A carriage that leaves service steps the start on, and changes neither a fence nor what the power page showed before. -/
theorem carriageOut_eq (h : Hw) {a : Nat} (past : PW_BOOT ≤ a) : ∃ g, carriageOut h c = startProgress g ∧ beyond a g = beyond a h := by
  refine ⟨_, rfl, ?_⟩
  split <;> split <;>
    simp (disch := decide) only [beyond_startRetract past car, beyond_parkServo past car, beyond_stopFormatter past car, beyond_setF_low past]

theorem carriageOut_fail (h : Hw) : getF (carriageOut h c) PW_BOOT_FAIL 0 = getF h PW_BOOT_FAIL 0 := by
  obtain ⟨g, out, same⟩ := carriageOut_eq car h (by decide : PW_BOOT ≤ PW_BOOT_FAIL.key + 0)
  rw [out, startProgress_fail]
  exact getF_of_getReg (beyond_eq_iff.1 same).1

theorem carriageOut_fences (h : Hw) : (carriageOut h c).fences = h.fences := by
  obtain ⟨g, out, same⟩ := carriageOut_eq car h (Nat.le_refl PW_BOOT)
  rw [out, startProgress_fences]
  exact (beyond_eq_iff.1 same).2

theorem fenceEffects_carriage (h : Hw) : fenceEffects h (carPath c 0) = carriageOut (cutBlocks h (fenceMembers h (carPath c 0)) 8) c := by
  simp only [fenceEffects, carriageOf_carPath car (by decide : 0 < 0x1000), if_true]

theorem fenceCarriage_fail (h : Hw) : getF (fenceCarriage h c) PW_BOOT_FAIL 0 = getF h PW_BOOT_FAIL 0 := by
  unfold fenceCarriage
  split
  · rw [fenceEffects_carriage car, carriageOut_fail car, cutBlocks, onMgmt_getF, setFence_getF]
  · rfl

/-- A carriage fenced with status 2 is out of service. -/
theorem carFenced_fenceCarriage {h : Hw} (free : carFenced h c = false) : carFenced (fenceCarriage h c) c = true := by
  have zero : fenceVal h (carPath c 0) = 0 := bne_eq_false_iff_eq.mp free
  rw [fenceCarriage, if_pos (by rw [zero]; decide), fenceEffects_carriage car, carFenced, fenceVal, carriageOut_fences car, cutBlocks, onMgmt_fences,
    ← fenceVal, fenceVal_setFence]
  decide

end

/-- With fewer than two failed starts before it, a reset that the device asks for leaves the failure code (R118, R637). -/
theorem takeReset_fail {h : Hw} (few : h.boot.failedStarts < 2) (cause u : Nat) :
    getF (takeReset h cause u) PW_BOOT_FAIL 0 = getF h PW_BOOT_FAIL 0 := by
  have goes : ¬ (inBringUp h && getF h PW_RSN_KIND 0 == 2 && decide (2 ≤ h.boot.failedStarts)) = true := by
    rw [decide_eq_false (Nat.not_le.mpr few), Bool.and_false]
    decide
  have past : PW_BOOT ≤ PW_BOOT_FAIL.key + 0 := by decide
  unfold takeReset
  rw [if_neg goes]
  split
  · rfl
  · dsimp only
    refine getF_of_getReg ?_
    rw [getReg_retractAll past, getReg_setF_low past _ _ _ _ (by decide),
      foldl_keeps (getReg · (PW_BOOT_FAIL.key + 0)) _ _ (fun h c => onPath_getReg h c _ _), ruleRecord, getReg_raiseRecord past,
      getReg_setF_ne _ _ _ _ (by decide), getReg_setF_ne _ _ _ _ (by decide), onBoot_getReg]
    split <;> rfl

theorem stopAlive_fail (h : Hw) (cause : Nat) : getF (stopAlive h cause) PW_BOOT_FAIL 0 = getF h PW_BOOT_FAIL 0 :=
  stopAlive_getF h cause _ _ (by decide)

theorem haltStart_fail (h : Hw) : getF (haltStart h) PW_BOOT_FAIL 0 = getF h PW_BOOT_FAIL 0 := by
  rw [haltStart, raiseAlert_getF, stopAlive_fail, getF_setF_apart _ PW_BOOT_HALT PW_BOOT_FAIL _ _ (by decide),
    getF_setF_apart _ PW_BOOT_STAGE PW_BOOT_FAIL _ _ (by decide)]

/-- A fold keeps what each step on a member of its list keeps. -/
theorem foldl_keeps_of_mem {α β : Type} {π : Hw → α} {g : Hw → β → Hw} {l : List β} (k : ∀ h, ∀ b ∈ l, π (g h b) = π h) (h : Hw) :
    π (l.foldl g h) = π h :=
  List.foldlRecOn (motive := fun x => π x = π h) l g rfl (fun x same b mem => (k x b mem).trans same)

theorem getReg_ecalFailAll (h : Hw) {a : Nat} (past : PW_BOOT ≤ a) : getReg (ecalFailAll h) a = getReg h a := by
  refine foldl_keeps_of_mem (π := (getReg · a)) (fun h c mem => ?_) h
  have car : c < 4 := List.mem_range.mp mem
  unfold ecalFail
  split
  · rw [getReg_setF_low past _ _ _ _ (by decide), getReg_setF_low past, getReg_setF_low past] <;>
      simp only [SP_ECAL_FAIL, SP_ECAL_START, SP_ECAL, PW_BOOT] <;> omega
  · rfl

theorem getReg_spFault (h : Hw) {a : Nat} (past : PW_BOOT ≤ a) : getReg (spFault h) a = getReg h a := by
  unfold spFault setSp loopsOff
  dsimp only
  rw [getReg_setF_low past _ _ _ _ (by decide), onSpindle_getReg, getReg_setF_low past _ _ _ _ (by decide),
    getReg_setF_low past _ _ _ _ (by decide), onSpindle_getReg]
  split
  · exact getReg_ecalFailAll h past
  · rfl

/-! The mailboxes of the firmware's update group (R118). -/

/-- The windows that group 0x420 owns are free again. -/
def windowsFreed (h : Hw) : Hw :=
  [4, 5, 6, 7].foldl (fun h n =>
    if getF h MG_BWS_OWNER (4 * n) = 0x420 then setF (setF h MG_BWS_STATE (4 * n) 0) MG_BWS_OWNER (4 * n) 0xFFFF else h) h

theorem getReg_windowsFreed (h : Hw) {a : Nat} (past : PW_BOOT ≤ a) : getReg (windowsFreed h) a = getReg h a := by
  refine foldl_keeps_of_mem (π := (getReg · a)) (fun h n mem => ?_) h
  have window : n ≤ 7 := by
    revert mem
    revert n
    decide
  split
  · rw [getReg_setF_low past, getReg_setF_low past] <;> simp only [MG_BWS_OWNER, MG_BWS_STATE, MG_BWS, PW_BOOT] <;> omega
  · rfl

@[simp] theorem kept_windowsFreed (h g : Hw) : Kept (windowsFreed h) g ↔ Kept h g := by
  unfold windowsFreed
  exact kept_foldl _ _ (fun h n => by split <;> simp) _ _

/-! The failed start as a whole. -/

/-- The failure shown and recorded, before its consequence. -/
def failureShown (h : Hw) (k detail : Nat) : Hw :=
  raiseRecord (setF h PW_BOOT_FAIL 0 k) 0x1AF0 (0x200 + k) (if (k == 0x02 || k == 0x04 || k == 0x10) = true then 7 else 5) detail false

theorem failureShown_fail (h : Hw) {k : Nat} (detail : Nat) (code : k < 256) : getF (failureShown h k detail) PW_BOOT_FAIL 0 = k := by
  rw [failureShown, raiseRecord_getF _ _ _ _ _ _ _ _ (by decide), getF_setF_self _ PW_BOOT_FAIL _ _ (by decide)]
  exact Nat.mod_eq_of_lt code

/-- The codes that fence a carriage. -/
def fencesCarriage (k : Nat) : Prop := k = 0x03 ∨ k = 0x09 ∨ k = 0x0A ∨ k = 0x0C ∨ k = 0x0D

theorem startFail_eq (h : Hw) (k detail : Nat) : startFail h k detail =
    if k = 0x02 then haltStart (failureShown h k detail)
    else if k = 0x04 ∨ k = 0x10 then askStair4 (haltStart (failureShown h k detail)) (0x200 + k)
    else if k = 0x03 ∨ k = 0x09 ∨ k = 0x0A ∨ k = 0x0C ∨ k = 0x0D then
      (match carriageOf detail with
        | some c => fenceCarriage (failureShown h k detail) c
        | none => failureShown h k detail)
    else if k = 0x06 ∨ k = 0x07 then setF (setF (windowsFreed (failureShown h k detail)) PW_BOOT_STAGE 0 0x0D) PW_BOOT_RECOV 0 1
    else if k = 0x08 ∨ k = 0x0F then stopAlive (takeReset (failureShown h k detail) 6 detail) 2
    else if k = 0x0B then askStair4 (onUnit (spFault (failureShown h k detail)) 0x61F0 (fun x => { x with faulted := true })) 0x20B
    else failureShown h k detail := (rfl)

/-- A third failed load fences the carriage (R109). -/
theorem startFail_load (h : Hw) {c : Nat} (car : c < 4) : startFail h 0x0C (carPath c 0) = fenceCarriage (failureShown h 0x0C (carPath c 0)) c := by
  have named : carriageOf (carPath c 0) = some c := carriageOf_carPath car (by decide)
  rw [startFail_eq, named]
  rfl

theorem startFail_fail {h : Hw} {k detail : Nat} (code : k < 256) (few : k = 0x08 ∨ k = 0x0F → h.boot.failedStarts < 2)
    (car : fencesCarriage k → ∀ c, carriageOf detail = some c → c < 4) : getF (startFail h k detail) PW_BOOT_FAIL 0 = k := by
  have past : PW_BOOT ≤ PW_BOOT_FAIL.key + 0 := by decide
  have few : k = 0x08 ∨ k = 0x0F → (failureShown h k detail).boot.failedStarts < 2 := by rwa [failureShown, raiseRecord_boot, setF_boot]
  have shown := failureShown_fail h detail code
  rw [startFail_eq]
  generalize failureShown h k detail = g at few shown ⊢
  split
  · rw [haltStart_fail, shown]
  · split
    · rw [askStair4_getF, haltStart_fail, shown]
    · split
      next fences =>
        split
        next c named => rw [fenceCarriage_fail (car fences c named), shown]
        next => exact shown
      next =>
        split
        · rw [getF_setF_apart _ PW_BOOT_RECOV PW_BOOT_FAIL _ _ (by decide), getF_setF_apart _ PW_BOOT_STAGE PW_BOOT_FAIL _ _ (by decide), ← shown]
          exact getF_of_getReg (getReg_windowsFreed _ past)
        · split
          next resets => rw [stopAlive_fail, takeReset_fail (few resets), shown]
          next =>
            split
            · rw [askStair4_getF, onUnit_getF, ← shown]
              exact getF_of_getReg (getReg_spFault _ past)
            · exact shown

@[simp] theorem kept_ecalFailAll (h g : Hw) : Kept (ecalFailAll h) g ↔ Kept h g := by
  refine kept_foldl _ _ (fun h c => ?_) _ _
  unfold ecalFail
  split <;> simp only [kept_setF]

@[simp] theorem kept_spFault (h g : Hw) : Kept (spFault h) g ↔ Kept h g := by
  unfold spFault setSp loopsOff
  dsimp only
  split <;> simp only [kept_setF, kept_onSpindle, kept_ecalFailAll]

@[simp] theorem kept_fenceCarriage (h : Hw) (c : Nat) (g : Hw) : Kept (fenceCarriage h c) g ↔ Kept h g := by
  unfold fenceCarriage
  split <;> simp only [kept_fenceEffects, kept_setFence]

@[simp] theorem kept_failureShown (h : Hw) (k detail : Nat) (g : Hw) : Kept (failureShown h k detail) g ↔ Kept h g := by
  simp only [failureShown, kept_raiseRecord, kept_setF]

@[simp] theorem kept_startFail (h : Hw) (k detail : Nat) (g : Hw) : Kept (startFail h k detail) g ↔ Kept h g := by
  rw [startFail_eq]
  (repeat' split) <;>
    simp only [kept_failureShown, kept_haltStart, kept_askStair4, kept_fenceCarriage, kept_setF, kept_windowsFreed, kept_stopAlive, kept_takeReset,
      kept_onUnit, kept_spFault]

theorem startFail_mem (h : Hw) (k detail : Nat) : (startFail h k detail).mem = h.mem := ((kept_startFail h k detail h).2 (Kept.refl h)).mem

/-! When a failure is due. -/

theorem failureDue_code {h : Hw} {k detail : Nat} (due : failureDue h k detail = true) : k < 256 := by
  unfold failureDue at due
  extract_lets stage c mine at due
  clear_value mine
  split at due <;> simp at due ⊢

theorem failureDue_car {h : Hw} {k detail : Nat} (due : failureDue h k detail = true) (fences : fencesCarriage k) {c : Nat}
    (named : carriageOf detail = some c) : c < 4 := by
  have mine : populated h c = true := by
    rcases fences with rfl | rfl | rfl | rfl | rfl <;> simp only [failureDue, named, Bool.and_eq_true] at due <;> tauto
  exact lt_four_of_populated mine

end Sys2Proof.Machine
end

section
/-! Domains switched on and off (R635): only the bridges and the registers of the pages change, and of a page its bridge's register. -/
namespace Sys2Proof.Machine

/-- The block without its bridges and registers. -/
def inside (h : Hw) : Hw := { h with bridges := [], regs := [] }

theorem inside_setF (h : Hw) (f : Fld) (d v : Nat) : inside (setF h f d v) = inside h := (rfl)

theorem inside_loseWrite (h : Hw) (page src off : Nat) : inside (loseWrite h page src off) = inside h := by
  unfold loseWrite
  dsimp only
  split <;> simp only [inside_setF]

theorem inside_dropFlight (h : Hw) (p : Nat) : inside (dropFlight h p) = inside h := by
  unfold dropFlight
  split
  · exact inside_loseWrite _ p _ _
  · rfl

theorem inside_domainFar (h : Hw) (d : Nat) : inside (domainFar h d) = inside h :=
  foldl_keeps inside _ _ (fun h p => (inside_setF _ _ _ _).trans (inside_dropFlight h p)) h

theorem inside_domainOnOp (h : Hw) (d : Nat) : inside (domainOnOp h d) = inside h := by
  unfold domainOnOp
  split
  · rfl
  · rw [inside_domainFar, inside_setF]

/-- Whatever does not read bridges and registers is read alike. -/
theorem read_of_inside {β : Type} {g h : Hw} (same : inside g = inside h) (π : Hw → β) (blind : ∀ x, π (inside x) = π x) : π g = π h := by
  rw [← blind g, same, blind]

/-! The registers of a page other than its bridge's. -/

theorem getReg_loseWrite (h : Hw) {page a : Nat} (src off : Nat) (apart : a ≠ page + 0xFFC) : getReg (loseWrite h page src off) a = getReg h a := by
  have bridge (hi lo : Nat) : a ≠ (⟨page + 0xFFC, hi, lo⟩ : Fld).key + 0 := apart
  unfold loseWrite
  dsimp only
  split <;> simp only [getReg_setF_ne _ _ _ _ (bridge _ _)]

theorem domainPages_aligned {d p : Nat} (mem : p ∈ domainPages d) : p % 0x1000 = 0 := by
  have listed := (List.mem_filter.mp (show p ∈ List.filter _ _ from mem)).1
  clear mem
  revert p
  decide

theorem getReg_domainFar (h : Hw) (d : Nat) {a : Nat} (here : a % 0x1000 ≠ 0xFFC) : getReg (domainFar h d) a = getReg h a := by
  refine foldl_keeps_of_mem (π := (getReg · a)) (fun h p mem => ?_) h
  have page := domainPages_aligned mem
  have apart : a ≠ p + 0xFFC := by omega
  refine (getReg_setF_ne _ (farFld p) 0 1 apart).trans ?_
  unfold dropFlight
  split
  · exact getReg_loseWrite _ _ _ apart
  · rfl

theorem getReg_domainOnOp (h : Hw) (d : Nat) {a : Nat} (here : a % 0x1000 ≠ 0xFFC) (other : a ≠ PW_DOM_ON.key) :
    getReg (domainOnOp h d) a = getReg h a := by
  unfold domainOnOp
  split
  · rfl
  · rw [getReg_domainFar _ _ here, getReg_setF_ne _ _ _ _ other]

end Sys2Proof.Machine
end

section
/-! The links between the dies (R19), configuration requests (R105) and the temperature gate (R107). -/
namespace Sys2Proof.Machine

/-! Links. -/

theorem link_onLink (h : Hw) (l : Nat) (f : LinkSt → LinkSt) : link (onLink h l f) l = f (link h l) := mget_mset_self _ _ _ _

theorem link_of_links {h g : Hw} (links : h.links = g.links) (l : Nat) : link h l = link g l := by
  unfold link
  rw [links]

/-- A link that is down is shown down; memory stays. -/
theorem linkDown_shows (h : Hw) (l : Nat) : (link (linkDown h l) l).state = 2 ∧ (linkDown h l).mem = h.mem := by
  have kept : Kept (linkDown h l) (onLink h l (fun x => { x with state := 2, failsOut := 0, failsIn := 0 })) := by
    unfold linkDown linkFault
    split_ifs <;> simp only [kept_raiseFault, kept_self]
  have mem : (linkDown h l).mem = h.mem := kept.mem
  obtain ⟨-, -, -, -, links, -⟩ := kept
  exact ⟨by rw [link_of_links links, link_onLink], mem⟩

section
variable {l : Nat} {s : State}

theorem exec_linkDown (exist : l < 9) (notDown : (link s.hw l).state ≠ 2) :
    exec (.linkDown l) s = .next { s with hw := linkDown { s.hw with out := [] } l } := by
  have due : l < 9 ∧ (link { s.hw with out := [] } l).state ≠ 2 := ⟨exist, notDown⟩
  change execLinkDown l s = _
  simp only [execLinkDown, State.run, if_pos due]

/-- The link after a retried flit: the counter of retries, and the failed ones in a row of that direction. -/
def flitRetried (toward : Bool) (failed : Nat) (x : LinkSt) : LinkSt :=
  { x with retries := (x.retries + 1) % 2 ^ 32, failsIn := if toward then failed else x.failsIn, failsOut := if toward then x.failsOut else failed }

/-- Failed retries in a row with this one. -/
def retriesFailed (x : LinkSt) (toward retry : Bool) : Nat := if retry then (if toward then x.failsIn else x.failsOut) + 1 else 0

theorem exec_linkFlitCrcError (toward retry : Bool) (exist : l < 9) (up : (link s.hw l).state = 1) :
    exec (.linkFlitCrcError l toward retry) s = .next { s with hw := (
      if 8 ≤ retriesFailed (link s.hw l) toward retry then linkDown { s.hw with out := [] } l
      else onLink { s.hw with out := [] } l (flitRetried toward (retriesFailed (link s.hw l) toward retry))) } := by
  have due : l < 9 ∧ (link { s.hw with out := [] } l).state = 1 := ⟨exist, up⟩
  change execLinkFlitCrcError l toward retry s = _
  simp only [execLinkFlitCrcError, State.run, if_pos due]
  rfl

theorem retriesFailed_lt {x : LinkSt} {toward retry : Bool} (few : retry = false ∨ (if toward then x.failsIn else x.failsOut) < 7) :
    ¬ 8 ≤ retriesFailed x toward retry := by
  unfold retriesFailed
  rcases few with rfl | few
  · rw [if_neg Bool.false_ne_true]
    decide
  · split <;> omega

/-- A trained link. -/
def linkUp (h : Hw) (l : Nat) : Hw := onLink h l (fun x => { x with state := 1, failsOut := 0, failsIn := 0 })

theorem linkUp_state (h : Hw) (l : Nat) : (link (linkUp h l) l).state = 1 := by rw [linkUp, link_onLink]

theorem exec_linkTrained (lat : Nat) (exist : l < 9) : exec (.linkTrained l true lat) s = .next { s with hw := (
      if 5 ≤ l then onSpindle (linkUp { s.hw with out := [] } l) (fun p => { p with lat := zset p.lat (l - 5) (lat / 5 * 5) })
      else linkUp { s.hw with out := [] } l) } := by
  change execLinkTrained l true lat s = _
  simp only [execLinkTrained, State.run, if_pos exist, if_true]
  rfl

end

/-! Configuration requests. -/

section
variable {p : Nat} {s : State} (up : (port s.hw p).configured = true)
include up

theorem exec_configRequest_retried (r : CfgReg) (write : Option Nat) (retry : configRetry s.hw = true) :
    exec (.configRequest p r write) s = .next { s with hw := { s.hw with out := [.config p true 0] } } := by
  have up : (port { s.hw with out := [] } p).configured = true := up
  have retry : configRetry { s.hw with out := [] } = true := retry
  change execConfigRequest p r write s = _
  simp only [execConfigRequest, State.run, up, retry, Bool.not_true, Bool.false_eq_true, if_false, if_true]
  rfl

theorem exec_configRequest_read (r : CfgReg) (retry : configRetry s.hw = false) :
    exec (.configRequest p r none) s = .next { s with hw := { s.hw with out := [.config p false (configValue s.hw p r)] } } := by
  have up : (port { s.hw with out := [] } p).configured = true := up
  have retry : configRetry { s.hw with out := [] } = false := retry
  change execConfigRequest p r none s = _
  simp only [execConfigRequest, State.run, up, retry, Bool.not_true, Bool.false_eq_true, if_false]
  rfl

theorem exec_configRequest_write (r : CfgReg) (v : Nat) (retry : configRetry s.hw = false) :
    exec (.configRequest p r (some v)) s = .next { s with hw := (
      emit (configWrite { s.hw with out := [] } p r v) (.config p false (configValue (configWrite { s.hw with out := [] } p r v) p r))) } := by
  have up : (port { s.hw with out := [] } p).configured = true := up
  have retry : configRetry { s.hw with out := [] } = false := retry
  change execConfigRequest p r (some v) s = _
  simp only [execConfigRequest, State.run, up, retry, Bool.not_true, Bool.false_eq_true, if_false]

end

/-! The temperature gate. -/

/-- A number in the range of its field reads back. -/
theorem toSigned_ofSigned {n : Nat} {i : Int} (low : -(2 ^ n : Int) ≤ i) (high : i < (2 ^ n : Int)) :
    toSigned (n + 1) (ofSigned (n + 1) i) = i := by
  have double : (2 : Int) ^ (n + 1) = 2 * 2 ^ n := pow_succ' 2 n
  have doubleNat : (2 : Nat) ^ (n + 1) = 2 * 2 ^ n := pow_succ' 2 n
  have cast : ((2 ^ n : Nat) : Int) = 2 ^ n := Nat.cast_pow 2 n
  unfold toSigned ofSigned
  rw [Nat.add_sub_cancel, double, doubleNat]
  generalize (2 : Int) ^ n = m at *
  generalize (2 : Nat) ^ n = k at *
  subst cast
  have wrapped : 0 ≤ i ∧ i % (2 * (k : Int)) = i ∨ i < 0 ∧ i % (2 * (k : Int)) = i + 2 * k := by
    rcases Int.lt_or_le i 0 with negative | plain
    · exact .inr ⟨negative, by rw [← Int.add_emod_right, Int.emod_eq_of_lt (by omega) (by omega)]⟩
    · exact .inl ⟨plain, Int.emod_eq_of_lt plain (by omega)⟩
  rcases wrapped with ⟨plain, same⟩ | ⟨negative, turned⟩
  · rw [same, Nat.mod_eq_of_lt (by omega), if_pos (by omega)]
    omega
  · rw [turned, Nat.mod_eq_of_lt (by omega), if_neg (by omega)]
    omega

theorem getS_setS_self (h : Hw) (f : Fld) (d : Nat) {n : Nat} {i : Int} (width : f.hi + 1 - f.lo = n + 1) (laid : f.lo ≤ f.hi ∧ f.hi ≤ 31)
    (low : -(2 ^ n : Int) ≤ i) (high : i < (2 ^ n : Int)) : getS (setS h f d i) f d = i := by
  have small : ofSigned (n + 1) i < 2 ^ (n + 1) := by
    have positive : (0 : Int) < 2 ^ (n + 1) := by positivity
    have less := Int.emod_lt_of_pos i positive
    unfold ofSigned
    rw [Int.toNat_lt (Int.emod_nonneg i positive.ne')]
    exact_mod_cast less
  rw [getS, setS, getF_setF_self _ _ _ _ laid, width, Nat.mod_eq_of_lt small, toSigned_ofSigned low high]

/-- The reading of die 5 as the registers show it (R107). -/
def readingShown (h : Hw) (temp : Int) : Hw :=
  let raw := if flagF h TH_FORCE_FEN (inst 5) then getS h TH_FORCE_FTEMP (inst 5) else temp
  let h := setF (setS h TH_RAW_RAW (inst 5) raw) TH_TEMP_VALID (inst 5) 1
  if flagF h TH_TEMP_SUBST (inst 5) then h else setS h TH_TEMP_TEMP (inst 5) raw

/-- The gate follows the temperature shown. -/
def gateShown (h : Hw) : Hw :=
  setF (onBoot h (fun b => { b with coldGate := decide (getS h TH_TEMP_TEMP (inst 5) < 0) })) PW_BOOT_TCOLD 0
    (decide (getS h TH_TEMP_TEMP (inst 5) < 0)).toNat

/-- A start that stands at the temperature gate goes on by it. -/
def gateTaken (h : Hw) (cold : Bool) : Hw :=
  if (getF h PW_BOOT_STAGE 0 = 0x0F ∨ getF h PW_BOOT_STAGE 0 = 0x09 ∧ cold ∧ getF h SP_STAT_STATE 0 = 0) ∧ mayStart h then returnToGates h
  else h

theorem gateTaken_eq_or (h : Hw) (cold : Bool) : gateTaken h cold = h ∨ gateTaken h cold = returnToGates h := by
  unfold gateTaken
  split
  · exact .inr rfl
  · exact .inl rfl

theorem exec_temperatureGateReread (temp : Int) (s : State) : exec (.temperatureGateReread temp) s =
    .next { s with hw := (gateTaken (gateShown (readingShown { s.hw with out := [] } temp))
      (decide (getS (readingShown { s.hw with out := [] } temp) TH_TEMP_TEMP (inst 5) < 0))) } := by
  change execTemperatureGateReread temp s = _
  rfl

theorem readingShown_mem (h : Hw) (temp : Int) : (readingShown h temp).mem = h.mem := by
  unfold readingShown
  extract_lets raw h₁
  have shown : h₁.mem = h.mem := by simp only [h₁, setF_mem, setS_mem]
  split
  · exact shown
  · rw [setS_mem, shown]

theorem readingShown_measured {h : Hw} {temp : Int} (low : -400 ≤ temp) (high : temp ≤ 1600) (free : getF h TH_FORCE_FEN (inst 5) = 0)
    (own : getF h TH_TEMP_SUBST (inst 5) = 0) :
    getS (readingShown h temp) TH_RAW_RAW (inst 5) = temp ∧ getS (readingShown h temp) TH_TEMP_TEMP (inst 5) = temp := by
  have measured : flagF h TH_FORCE_FEN (inst 5) = false := by rw [flagF, free]; rfl
  have shown : flagF (setF (setS h TH_RAW_RAW (inst 5) temp) TH_TEMP_VALID (inst 5) 1) TH_TEMP_SUBST (inst 5) = false := by
    rw [flagF, getF_setF_apart _ TH_TEMP_VALID TH_TEMP_SUBST _ _ (by decide), setS, getF_setF_key _ _ _ (by decide), own]
    rfl
  have reads (g : Hw) (f : Fld) (width : f.hi + 1 - f.lo = 15 + 1) (laid : f.lo ≤ f.hi ∧ f.hi ≤ 31) :
      getS (setS g f (inst 5) temp) f (inst 5) = temp :=
    getS_setS_self g f _ width laid (by omega) (by omega)
  have eq : readingShown h temp = setS (setF (setS h TH_RAW_RAW (inst 5) temp) TH_TEMP_VALID (inst 5) 1) TH_TEMP_TEMP (inst 5) temp := by
    unfold readingShown
    simp only [measured, Bool.false_eq_true, if_false, shown]
  rw [eq]
  refine ⟨?_, reads _ _ (by decide) (by decide)⟩
  rw [getS, setS, getF_setF_key _ _ _ (by decide), getF_setF_key _ _ _ (by decide), ← getS]
  exact reads _ _ (by decide) (by decide)

section
variable (h : Hw)

theorem gateShown_gate : (gateShown h).boot.coldGate = decide (getS h TH_TEMP_TEMP (inst 5) < 0) := by rw [gateShown, setF_boot, onBoot_boot]

theorem gateShown_tcold : getF (gateShown h) PW_BOOT_TCOLD 0 = (gateShown h).boot.coldGate.toNat := by
  rw [gateShown_gate, gateShown, getF_setF_self _ PW_BOOT_TCOLD _ _ (by decide)]
  cases decide (getS h TH_TEMP_TEMP (inst 5) < 0) <;> rfl

theorem gateShown_getS {f : Fld} (other : f.key + inst 5 ≠ PW_BOOT) : getS (gateShown h) f (inst 5) = getS h f (inst 5) := by
  rw [gateShown, getS, getF_setF_reg _ _ _ _ _ _ other, onBoot_getF, ← getS]

theorem gateShown_mem : (gateShown h).mem = h.mem := by rw [gateShown, setF_mem, onBoot_mem]

/-- The stage that the gates show leaves the temperature and the gate. -/
theorem gateTaken_keeps (cold : Bool) : (gateTaken h cold).boot = h.boot ∧ getF (gateTaken h cold) PW_BOOT_TCOLD 0 = getF h PW_BOOT_TCOLD 0 ∧
    (∀ f : Fld, f.key + inst 5 ≠ PW_BOOT → getS (gateTaken h cold) f (inst 5) = getS h f (inst 5)) ∧ (gateTaken h cold).mem = h.mem := by
  rcases gateTaken_eq_or h cold with stays | goes
  · rw [stays]
    exact ⟨rfl, rfl, fun _ _ => rfl, rfl⟩
  · rw [goes, returnToGates]
    refine ⟨setF_boot _ _ _ _, getF_setF_apart _ PW_BOOT_STAGE PW_BOOT_TCOLD _ _ (by decide), fun f other => ?_, setF_mem _ _ _ _⟩
    rw [getS, getF_setF_reg _ _ _ _ _ _ other, ← getS]

end

end Sys2Proof.Machine
end

section
/-! The image check, the firmware start, failures of the start and failed loads: where each completes (R93, R99, R109, R112, R118). -/
namespace Sys2Proof.Machine

/-! The image check. -/

theorem exec_imageSlotCheck {slot : Nat} {s : State} (image : ImageHeader) (stage : getF s.hw PW_BOOT_STAGE 0 = 4)
    (goes : getF s.hw PW_BOOT_HALT 0 = 0) (none : getF s.hw PW_BOOT_SLOT 0 = 0) (order : s.hw.boot.slot0Refused = decide (slot ≠ 0)) :
    exec (.imageSlotCheck slot true image) s = .next { s with hw := (
      if imageAccepted s.hw image then
        acceptImage (memStore { s.hw with out := [] } image.load (padTo image.length image.body)) (if slot = 0 then 1 else 2) image
      else if slot = 0 then startFail (onBoot { s.hw with out := [] } (fun b => { b with slot0Refused := true })) 0x05 0
      else startFail { s.hw with out := [] } 0x06 0) } := by
  have due : ¬ (getF { s.hw with out := [] } PW_BOOT_STAGE 0 ≠ 4 ∨ getF { s.hw with out := [] } PW_BOOT_HALT 0 = 1 ∨
      getF { s.hw with out := [] } PW_BOOT_SLOT 0 ≠ 0 ∨ s.hw.boot.slot0Refused ≠ decide (slot ≠ 0)) := by
    rintro (early | halted | chosen | late)
    · exact early stage
    · exact absurd (goes.symm.trans halted) (by decide)
    · exact chosen none
    · exact late order
  change execImageSlotCheck slot true image s = _
  simp only [execImageSlotCheck, State.run]
  rw [if_neg due, Bool.not_true, if_neg Bool.false_ne_true]
  rfl

theorem memStore_eq (h : Hw) (a : Nat) (l : List (BitVec 8)) : memStore h a l = { h with mem := (memStore h a l).mem } := by
  unfold memStore
  split <;> rfl

theorem memStore_out (h : Hw) (o : List Output) (a : Nat) (l : List (BitVec 8)) : (memStore { h with out := o } a l).mem = (memStore h a l).mem := by
  unfold memStore
  split <;> rfl

theorem failureShown_getF (h : Hw) (k detail : Nat) {g : Fld}
    (apart : g.key = PW_BOOT_FAIL.key ∧ PW_BOOT_FAIL.lo ≤ PW_BOOT_FAIL.hi ∧ PW_BOOT_FAIL.hi ≤ 31 ∧ g.lo ≤ g.hi ∧
      (PW_BOOT_FAIL.hi < g.lo ∨ g.hi < PW_BOOT_FAIL.lo)) :
    getF (failureShown h k detail) g 0 = getF h g 0 := by
  obtain ⟨key, rest⟩ := apart
  rw [failureShown, raiseRecord_getF _ _ _ _ _ _ _ _ (by rw [key]; decide), getF_setF_apart _ PW_BOOT_FAIL g _ _ ⟨key, rest⟩]

theorem startFail_slot0 (h : Hw) (detail : Nat) : startFail h 5 detail = failureShown h 5 detail := (rfl)
theorem startFail_slot1 (h : Hw) (detail : Nat) :
    startFail h 6 detail = setF (setF (windowsFreed (failureShown h 6 detail)) PW_BOOT_STAGE 0 0x0D) PW_BOOT_RECOV 0 1 := (rfl)

/-! The firmware start. -/

/-- The firmware runs: core 0 from the entry of the accepted image, the others from CC_BOOT, with the heartbeat armed. -/
def firmwareRuns (h : Hw) : Hw :=
  let h := onCore h 0 (fun c => { c with running := true, start := h.boot.entry })
  let h := setF h CC_CORE_REL 0 0xF
  let boot := getReg h CC_BOOTL / 4 * 4 + getReg h CC_BOOTH * 2 ^ 32
  let h := [1, 2, 3].foldl (fun h k => onCore h k (fun c => { c with running := true, start := boot })) h
  let h := setF (setF (setF h PW_BOOT_STAGE 0 5) PW_BOOT_RECOV 0 0) TH_HBSTAT_ARMED 0 1
  onIsland (setF h TH_HBSTAT_NEXT 0 0xA5) (fun i => { i with beatAt := h.log.optime })

/-- The domains that the firmware start switches on. -/
def domainsWoken (h : Hw) : Hw :=
  let h := [5, 24, 23, 21, 22].foldl domainOnOp h
  (List.range 4).foldl (fun h c => if populated h c then
    domainOnOp (domainOnOp (domainOnOp h (9 + 3 * c)) (10 + 3 * c)) (11 + 3 * c) else h) h

theorem exec_firmwareStart {s : State} (image : getF s.hw PW_BOOT_SLOT 0 ≠ 0) (goes : getF s.hw PW_BOOT_HALT 0 = 0)
    (early : getF s.hw PW_BOOT_STAGE 0 < 5) :
    exec .firmwareStart s = .next { s with hw := domainsWoken (firmwareRuns { s.hw with out := [] }) } := by
  have due : ¬ (getF { s.hw with out := [] } PW_BOOT_SLOT 0 = 0 ∨ getF { s.hw with out := [] } PW_BOOT_HALT 0 = 1 ∨
      5 ≤ getF { s.hw with out := [] } PW_BOOT_STAGE 0 ∧ getF { s.hw with out := [] } PW_BOOT_STAGE 0 ≠ 0x0D) := by
    rintro (none | halted | ⟨late, -⟩)
    · exact image none
    · exact absurd (goes.symm.trans halted) (by decide)
    · exact absurd late (Nat.not_le.mpr early)
  change execFirmwareStart s = _
  simp only [execFirmwareStart, State.run]
  rw [if_neg due]
  rfl

theorem inside_domainsWoken (h : Hw) : inside (domainsWoken h) = inside h := by
  have first : inside ([5, 24, 23, 21, 22].foldl domainOnOp h) = inside h := foldl_keeps inside _ _ (fun h d => inside_domainOnOp h d) h
  rw [← first]
  refine foldl_keeps inside _ _ (fun h c => ?_) _
  split
  · simp only [inside_domainOnOp]
  · rfl

theorem getReg_domainsWoken (h : Hw) {a : Nat} (here : a % 0x1000 ≠ 0xFFC) (other : a ≠ PW_DOM_ON.key) :
    getReg (domainsWoken h) a = getReg h a := by
  have one (h : Hw) (d : Nat) : getReg (domainOnOp h d) a = getReg h a := getReg_domainOnOp h d here other
  have first : getReg ([5, 24, 23, 21, 22].foldl domainOnOp h) a = getReg h a := foldl_keeps (getReg · a) _ _ one h
  rw [← first]
  refine foldl_keeps (getReg · a) _ _ (fun h c => ?_) _
  split
  · simp only [one]
  · rfl

theorem firmwareRuns_shows (h : Hw) : getF (firmwareRuns h) PW_BOOT_STAGE 0 = 5 ∧ getF (firmwareRuns h) PW_BOOT_RECOV 0 = 0 ∧
    getF (firmwareRuns h) TH_HBSTAT_ARMED 0 = 1 ∧ getF (firmwareRuns h) TH_HBSTAT_NEXT 0 = 0xA5 := by
  unfold firmwareRuns
  extract_lets h₁ h₂ boot h₃ h₄
  have stage : getF h₄ PW_BOOT_STAGE 0 = 5 := by
    rw [getF_setF_key _ _ _ (by decide), getF_setF_apart _ PW_BOOT_RECOV PW_BOOT_STAGE _ _ (by decide),
      getF_setF_self _ PW_BOOT_STAGE _ _ (by decide)]
    rfl
  have recov : getF h₄ PW_BOOT_RECOV 0 = 0 := by
    rw [getF_setF_key _ _ _ (by decide), getF_setF_self _ PW_BOOT_RECOV _ _ (by decide)]
    rfl
  have armed : getF h₄ TH_HBSTAT_ARMED 0 = 1 := getF_setF_self _ TH_HBSTAT_ARMED _ _ (by decide)
  clear_value h₄
  simp only [onIsland_getF]
  refine ⟨?_, ?_, ?_, ?_⟩
  · rw [getF_setF_key _ _ _ (by decide), stage]
  · rw [getF_setF_key _ _ _ (by decide), recov]
  · rw [getF_setF_apart _ TH_HBSTAT_NEXT TH_HBSTAT_ARMED _ _ (by decide), armed]
  · rw [getF_setF_self _ TH_HBSTAT_NEXT _ _ (by decide)]
    rfl

theorem firmwareRuns_cores (h : Hw) : ((firmwareRuns h).cores.get 0).running = true ∧ ((firmwareRuns h).cores.get 0).start = h.boot.entry ∧
    (firmwareRuns h).mem = h.mem := by
  unfold firmwareRuns
  extract_lets h₁ h₂ boot h₃ h₄
  have others : h₃.cores.get 0 = h₂.cores.get 0 := by
    refine foldl_keeps_of_mem (π := (·.cores.get 0)) (fun h k mem => ?_) h₂
    rw [onCore_cores]
    have apart : 0 ≠ k ∧ k < 4 := by
      revert mem
      revert k
      decide
    exact Quad.get_set_ne _ _ apart.2 (by decide) apart.1
  have mem : h₃.mem = h₂.mem := foldl_keeps (·.mem) _ _ (fun h k => onCore_mem h k _) h₂
  simp only [onIsland_cores, onIsland_mem, setF_cores, setF_mem, h₄, others, mem, h₂, h₁, onCore_cores, onCore_mem, Quad.get_set_self, and_self]

@[simp] theorem onPort_boot (h : Hw) (p : Nat) (f : Port → Port) : (onPort h p f).boot = h.boot := by
  unfold onPort
  split <;> rfl

/-! Failures and failed loads. -/

theorem exec_startFailure {code detail : Nat} {s : State} (due : failureDue s.hw code detail = true) (goes : getF s.hw PW_BOOT_HALT 0 = 0) :
    exec (.startFailure code detail) s = .next { s with hw := startFail (onBoot { s.hw with out := [] } (fun b =>
      { b with noMap := b.noMap || code == 0x0E, slot0Refused := b.slot0Refused || code == 0x05 })) code detail } := by
  have due : getF { s.hw with out := [] } PW_BOOT_HALT 0 = 0 ∧ failureDue { s.hw with out := [] } code detail = true := ⟨goes, due⟩
  change execStartFailure code detail s = _
  simp only [execStartFailure, State.run]
  exact congrArg (fun h => Host.Outcome.next { s with hw := h }) (if_pos due)

theorem startUnload_boot (h : Hw) (c : Nat) : (startUnload h c).boot = h.boot := by
  unfold startUnload
  dsimp only
  split
  · rw [setF_boot, onDrive_boot]
  · split
    · rw [startRetract_boot]
    · rfl

@[simp] theorem kept_startUnload (h : Hw) (c : Nat) (g : Hw) : Kept (startUnload h c) g ↔ Kept h g := by
  unfold startUnload
  dsimp only
  split_ifs <;> simp only [kept_setF, kept_onDrive, kept_startRetract]

section
variable {h : Hw} {c : Nat}

theorem countLoadFail_few (few : zget h.boot.loadFails c < 2) :
    zget (countLoadFail h c).boot.loadFails c = zget h.boot.loadFails c + 1 ∧ (countLoadFail h c).mem = h.mem := by
  rw [countLoadFail, if_pos few, onBoot_boot, onBoot_mem]
  exact ⟨zget_zset h.boot.loadFails c (zget h.boot.loadFails c + 1), rfl⟩

theorem countLoadFail_third (car : c < 4) (third : ¬ zget h.boot.loadFails c < 2) (free : carFenced h c = false) :
    carFenced (countLoadFail h c) c = true ∧ getF (countLoadFail h c) PW_BOOT_FAIL 0 = 0x0C ∧ (countLoadFail h c).mem = h.mem := by
  rw [countLoadFail, if_neg third, startFail_load _ car]
  refine ⟨carFenced_fenceCarriage car ?_, ?_, ?_⟩
  · rw [carFenced, fenceVal, failureShown, raiseRecord_fences, setF_fences, onBoot_fences]
    exact free
  · rw [fenceCarriage_fail car, failureShown_fail _ _ (by decide)]
  · refine Kept.mem ?_
    rw [kept_fenceCarriage, kept_failureShown, kept_onBoot]
    exact Kept.refl h

end

section
variable {c : Nat} {s : State} (here : populated s.hw c = true) (free : carFenced s.hw c = false) (failed : loadFailed s.hw c = true)
include here free failed

theorem exec_headLoadFailed : exec (.headLoadFailed c) s = .next { s with hw := (
    countLoadFail (if zget s.hw.boot.loadFails c < 2 then startUnload { s.hw with out := [] } c else { s.hw with out := [] }) c) } := by
  have due : (populated { s.hw with out := [] } c && !(carFenced { s.hw with out := [] } c) && loadFailed { s.hw with out := [] } c) = true := by
    change (populated s.hw c && !(carFenced s.hw c) && loadFailed s.hw c) = true
    rw [here, free, failed]
    rfl
  change execHeadLoadFailed c s = _
  simp only [execHeadLoadFailed, State.run]
  rw [if_pos due]

end

end Sys2Proof.Machine
end

section
/-! The image check, the gates, failed starts and the links complete as R19, R93, R98, R99, R105, R107, R109, R112, R116 and R118 say. -/
namespace Sys2Proof.Machine

theorem exec_spindleStartGateOpen {s : State} (stage : getF s.hw PW_BOOT_STAGE 0 = 7) (may : mayStart s.hw = true)
    (stays : s.hw.boot.removal = .none) :
    exec .spindleStartGateOpen s = .next { s with hw := returnToGates { s.hw with out := [] } } := by
  have due : (getF { s.hw with out := [] } PW_BOOT_STAGE 0 = 7 ∨ getF { s.hw with out := [] } PW_BOOT_STAGE 0 = 8 ∨
      getF { s.hw with out := [] } PW_BOOT_STAGE 0 = 0x0F) ∧ mayStart { s.hw with out := [] } = true ∧ s.hw.boot.removal = .none :=
    ⟨.inl stage, may, stays⟩
  change execSpindleStartGateOpen s = _
  simp only [execSpindleStartGateOpen, State.run]
  exact congrArg (fun h => Host.Outcome.next { s with hw := h }) (if_pos due)

/-- Settles O2: each event takes the branch of its meaning that the hypotheses leave, and what it leaves is read off that branch. -/
theorem bootAndGateEventsComplete : Obligations.BootAndGateEventsComplete := by
  refine ⟨?accepted, ?refused0, ?refused1, ?firmware, ?failure, ?reading, ?gate, ?admin, ?spindle, ?load, ?loadFence, ?retry, ?read, ?command,
    ?flitOut, ?flitIn, ?flitDown, ?down, ?up, ?upHeads⟩
  case accepted =>
    intro slot image s stage goes none order accept
    rw [exec_imageSlotCheck image stage goes none order, if_pos accept, acceptImage, memStore_eq, memStore_out]
    rfl
  case refused0 =>
    intro image s stage goes none order refused
    refine ⟨_, exec_imageSlotCheck image stage goes none order, ?_⟩
    rw [refused, if_neg Bool.false_ne_true, if_pos rfl, startFail_slot0]
    refine ⟨failureShown_fail _ _ (by decide), ?_, ?_, ?_, rfl, rfl⟩
    · rw [failureShown, raiseRecord_boot, setF_boot, onBoot_boot]
    · rw [failureShown_getF _ _ _ (by decide)]
      exact none
    · rw [failureShown_getF _ _ _ (by decide)]
      exact stage
  case refused1 =>
    intro image s stage goes none order refused
    refine ⟨_, exec_imageSlotCheck image stage goes none order, ?_⟩
    rw [refused, if_neg Bool.false_ne_true, if_neg (by decide), startFail_slot1]
    refine ⟨?_, ?_, ?_, rfl, rfl⟩
    · rw [getF_setF_apart _ PW_BOOT_RECOV PW_BOOT_FAIL _ _ (by decide), getF_setF_apart _ PW_BOOT_STAGE PW_BOOT_FAIL _ _ (by decide)]
      exact (getF_of_getReg (getReg_windowsFreed _ (by decide))).trans (failureShown_fail _ _ (by decide))
    · rw [getF_setF_apart _ PW_BOOT_RECOV PW_BOOT_STAGE _ _ (by decide), getF_setF_self _ PW_BOOT_STAGE _ _ (by decide)]
      rfl
    · rw [getF_setF_self _ PW_BOOT_RECOV _ _ (by decide)]
      rfl
  case firmware =>
    intro s image goes early
    have same := inside_domainsWoken (firmwareRuns { s.hw with out := [] })
    obtain ⟨runs, entry, mem⟩ := firmwareRuns_cores { s.hw with out := [] }
    obtain ⟨stage, recov, armed, next⟩ := firmwareRuns_shows { s.hw with out := [] }
    have cores : (domainsWoken (firmwareRuns { s.hw with out := [] })).cores = (firmwareRuns { s.hw with out := [] }).cores :=
      read_of_inside same (·.cores) fun _ => rfl
    have shows (f : Fld) (here : (f.key + 0) % 0x1000 ≠ 0xFFC) (other : f.key + 0 ≠ PW_DOM_ON.key) :
        getF (domainsWoken (firmwareRuns { s.hw with out := [] })) f 0 = getF (firmwareRuns { s.hw with out := [] }) f 0 :=
      getF_of_getReg (getReg_domainsWoken _ here other)
    refine ⟨_, exec_firmwareStart image goes early, ?_, ?_, ?_, ?_, ?_, ?_, (read_of_inside same (·.mem) fun _ => rfl).trans mem, rfl, rfl⟩
    · rw [shows _ (by decide) (by decide), stage]
    · rw [shows _ (by decide) (by decide), recov]
    · rw [cores, runs]
    · rw [cores, entry]
    · rw [shows _ (by decide) (by decide), armed]
    · rw [shows _ (by decide) (by decide), next]
  case failure =>
    intro code detail s due goes few
    refine ⟨_, exec_startFailure due goes,
      startFail_fail (failureDue_code due) (fun _ => few) (fun fences c named => failureDue_car due fences named), ?_, rfl, rfl⟩
    rw [startFail_mem, onBoot_mem]
  case reading =>
    intro temp s low high free own
    obtain ⟨raw, shown⟩ := readingShown_measured (h := { s.hw with out := [] }) low high free own
    obtain ⟨boot, tcold, values, mem⟩ := gateTaken_keeps (gateShown (readingShown { s.hw with out := [] } temp))
      (decide (getS (readingShown { s.hw with out := [] } temp) TH_TEMP_TEMP (inst 5) < 0))
    refine ⟨_, exec_temperatureGateReread temp s, ?_, ?_, ?_, ?_, ?_, rfl, rfl⟩
    · rw [values _ (by decide), gateShown_getS _ (by decide), raw]
    · rw [values _ (by decide), gateShown_getS _ (by decide), shown]
    · rw [boot, gateShown_gate, shown]
    · rw [tcold, gateShown_tcold, gateShown_gate, shown]
    · rw [mem, gateShown_mem, readingShown_mem]
  case gate =>
    intro temp s
    obtain ⟨boot, tcold, values, mem⟩ := gateTaken_keeps (gateShown (readingShown { s.hw with out := [] } temp))
      (decide (getS (readingShown { s.hw with out := [] } temp) TH_TEMP_TEMP (inst 5) < 0))
    refine ⟨_, exec_temperatureGateReread temp s, ?_, ?_, ?_, rfl, rfl⟩
    · rw [boot, gateShown_gate, values _ (by decide), gateShown_getS _ (by decide)]
    · rw [tcold, gateShown_tcold, boot]
    · rw [mem, gateShown_mem, readingShown_mem]
  case admin =>
    intro s stage goes
    have waits (p : Nat) (hp : p < 2) := port_adminOpened { s.hw with out := [] } hp
    refine ⟨_, exec_adminReady stage goes, adminOpened_stage _, ?_, adminOpened_fetch _, ?_, ?_, adminOpened_mem _, rfl, rfl⟩
    · rw [adminOpened, setF_boot, onPort_boot, onPort_boot, onBoot_boot]
    · exact (congrArg Port.rdy (waits 0 (by decide))).trans (waked_rdy s.hw.portA)
    · exact (congrArg Port.rdy (waits 1 (by decide))).trans (waked_rdy s.hw.portB)
  case spindle =>
    intro s stage may stays
    exact exec_spindleStartGateOpen stage may stays
  case load =>
    intro c s here free failed few
    refine ⟨_, exec_headLoadFailed here free failed, ?_⟩
    have counted : zget (startUnload { s.hw with out := [] } c).boot.loadFails c < 2 := by rw [startUnload_boot]; exact few
    obtain ⟨one, mem⟩ := countLoadFail_few counted
    rw [if_pos few, one, mem, startUnload_boot]
    exact ⟨rfl, ((kept_startUnload _ c _).2 (Kept.refl _)).mem, rfl, rfl⟩
  case loadFence =>
    intro c s here free failed third
    have spent : ¬ zget s.hw.boot.loadFails c < 2 := by rw [third]; decide
    obtain ⟨out, fail, mem⟩ := countLoadFail_third (h := { s.hw with out := [] }) (lt_four_of_populated here) spent free
    refine ⟨_, exec_headLoadFailed here free failed, ?_⟩
    rw [if_neg spent]
    exact ⟨out, fail, mem, rfl, rfl⟩
  case retry =>
    intro p r s up retry
    exact exec_configRequest_retried up r none retry
  case read =>
    intro p r s up retry
    exact exec_configRequest_read up r retry
  case command =>
    intro v s up retry
    exact ⟨_, exec_configRequest_write (p := 0) up .command v retry, rfl, rfl, rfl, rfl, rfl⟩
  case flitOut =>
    intro l retry s exist up few
    have goes : ¬ 8 ≤ retriesFailed (link s.hw l) false retry := retriesFailed_lt few
    rw [exec_linkFlitCrcError false retry exist up, if_neg goes]
    rfl
  case flitIn =>
    intro l retry s exist up few
    have goes : ¬ 8 ≤ retriesFailed (link s.hw l) true retry := retriesFailed_lt few
    rw [exec_linkFlitCrcError true retry exist up, if_neg goes]
    rfl
  case flitDown =>
    intro l toward s exist up failsIn failsOut
    have ends : 8 ≤ retriesFailed (link s.hw l) toward true := by cases toward <;> simp only [retriesFailed, failsIn, failsOut] <;> decide
    obtain ⟨down, mem⟩ := linkDown_shows { s.hw with out := [] } l
    refine ⟨_, exec_linkFlitCrcError toward true exist up, ?_⟩
    rw [if_pos ends]
    exact ⟨down, mem, rfl, rfl⟩
  case down =>
    intro l s exist notDown
    obtain ⟨down, mem⟩ := linkDown_shows { s.hw with out := [] } l
    exact ⟨_, exec_linkDown exist notDown, down, mem, rfl, rfl⟩
  case up =>
    intro l lat s inner
    rw [exec_linkTrained lat (by omega), if_neg (by omega)]
    rfl
  case upHeads =>
    intro l lat s heads exist
    refine ⟨_, exec_linkTrained lat exist, ?_⟩
    rw [if_pos heads]
    exact ⟨linkUp_state _ l, zget_zset _ _ _, rfl, rfl, rfl⟩

end Sys2Proof.Machine
end

section
/-! A stop of the spindle and the carriages (R121, R122, R393): what of the start, the host side and the pins it leaves. -/
namespace Sys2Proof.Machine

/-- What no unload, save and stop of the spindle touches: the pins, memory, the state of the start, the command engine and PW_BOOT. -/
def hostSide (h : Hw) : Pins × List Host.Cell × Boot × Engine × Nat := (h.pins, h.mem, h.boot, h.engine, getReg h PW_BOOT)

section
variable (h : Hw) (c : Nat)

theorem hostSide_onDrive (f : Drive → Drive) : hostSide (onDrive h c f) = hostSide h := (rfl)
theorem hostSide_onPath (f : SectorPath → SectorPath) : hostSide (onPath h c f) = hostSide h := (rfl)
theorem hostSide_onChan (f : Channel → Channel) : hostSide (onChan h c f) = hostSide h := (rfl)
theorem hostSide_onSpindle (f : Spindle → Spindle) : hostSide (onSpindle h f) = hostSide h := (rfl)
theorem hostSide_onDict (f : Dict → Dict) : hostSide (onDict h f) = hostSide h := (rfl)
theorem hostSide_onIsland (f : Island → Island) : hostSide (onIsland h f) = hostSide h := (rfl)

end

theorem hostSide_setF (h : Hw) (f : Fld) (d v : Nat) (other : f.key + d ≠ PW_BOOT) : hostSide (setF h f d v) = hostSide h := by
  simp only [hostSide, setF_pins, setF_mem, setF_boot, setF_engine, getReg_setF_ne _ _ _ _ other.symm]

theorem hostSide_setF_inst {c : Nat} (car : c < 4) (h : Hw) (f : Fld) (v : Nat) (page : f.key + 0x4000 ≤ PW_BOOT) :
    hostSide (setF h f (inst c) v) = hostSide h :=
  hostSide_setF h f _ v (Nat.ne_of_lt (Nat.lt_of_lt_of_le (Nat.add_lt_add_left (inst_lt car) _) page))

theorem hostSide_domainFar (h : Hw) (d : Nat) : hostSide (domainFar h d) = hostSide h := by
  have same : (domainFar h d).pins = h.pins ∧ (domainFar h d).mem = h.mem ∧ (domainFar h d).boot = h.boot ∧ (domainFar h d).engine = h.engine :=
    ⟨read_of_inside (inside_domainFar h d) (·.pins) fun _ => rfl, read_of_inside (inside_domainFar h d) (·.mem) fun _ => rfl,
      read_of_inside (inside_domainFar h d) (·.boot) fun _ => rfl, read_of_inside (inside_domainFar h d) (·.engine) fun _ => rfl⟩
  obtain ⟨pins, mem, boot, engine⟩ := same
  simp only [hostSide, pins, mem, boot, engine, getReg_domainFar h d (by decide : PW_BOOT % 0x1000 ≠ 0xFFC)]

theorem hostSide_holdMotor (h : Hw) : hostSide (holdMotor h) = hostSide h := by
  rw [holdMotor, hostSide_domainFar, hostSide_domainFar, hostSide_onIsland]

/-! The spindle. -/

theorem hostSide_ecalFailAll (h : Hw) : hostSide (ecalFailAll h) = hostSide h := by
  refine foldl_keeps_of_mem (π := hostSide) (fun h c mem => ?_) h
  have car : c < 4 := List.mem_range.mp mem
  unfold ecalFail
  split
  · rw [hostSide_setF _ _ _ _ (by decide), hostSide_setF, hostSide_setF] <;>
      simp only [SP_ECAL_FAIL, SP_ECAL_START, SP_ECAL, PW_BOOT] <;> omega
  · rfl

theorem hostSide_setSp (h : Hw) (st : Nat) : hostSide (setSp h st) = hostSide h := by
  rw [setSp, hostSide_setF _ _ _ _ (by decide), hostSide_onSpindle]

theorem hostSide_loopsOff (h : Hw) : hostSide (loopsOff h) = hostSide h := by
  unfold loopsOff
  dsimp only
  rw [hostSide_setF _ _ _ _ (by decide), hostSide_setF _ _ _ _ (by decide), hostSide_onSpindle]
  split
  · exact hostSide_ecalFailAll h
  · rfl

theorem hostSide_spindleStop (h : Hw) : hostSide (spindleStop h) = hostSide h := by
  unfold spindleStop
  dsimp only
  split_ifs
  · rw [brake, hostSide_setSp, hostSide_onSpindle, hostSide_loopsOff]
  · rw [hostSide_setSp, hostSide_onSpindle]
  · rw [hostSide_onSpindle]
  · rw [hostSide_onSpindle]
  · rw [measure, hostSide_setF _ _ _ _ (by decide), hostSide_setSp, hostSide_loopsOff, hostSide_onSpindle]
  · rfl

/-! What is saved before a stop. -/

theorem hostSide_saveSets (h : Hw) (c : Nat) : hostSide (saveSets h c) = hostSide h := (rfl)

theorem hostSide_saveTables (h : Hw) (c : Nat) : hostSide (saveTables h c) = hostSide h := by
  refine foldl_keeps hostSide _ _ (fun h hd => ?_) h
  split
  · exact hostSide_onDict _ _
  · rfl

theorem hostSide_saveAll (h : Hw) : hostSide (saveAll h) = hostSide h := by
  have checkpoints (l : List Nat) (h : Hw) :
      hostSide (l.foldl (fun h c => if midUp h c then makeCheckpoint h c true else h) h) = hostSide h := by
    refine foldl_keeps hostSide _ _ (fun h c => ?_) h
    split <;> rfl
  have tables (l : List Nat) (h : Hw) : hostSide (l.foldl (fun h c => if populated h c then saveTables h c else h) h) = hostSide h := by
    refine foldl_keeps hostSide _ _ (fun h c => ?_) h
    split
    · exact hostSide_saveTables h c
    · rfl
  have sets (l : List Nat) (h : Hw) : hostSide (l.foldl (fun h c => if populated h c then saveSets h c else h) h) = hostSide h := by
    refine foldl_keeps hostSide _ _ (fun h c => ?_) h
    split <;> rfl
  rw [saveAll, checkpoints, saveWork, tables, saveSetsOf, sets]

/-! The carriages. -/

theorem hostSide_startRetract {c : Nat} (car : c < 4) (h : Hw) : hostSide (startRetract h c) = hostSide h := by
  simp only [hostSide, startRetract_pins, startRetract_mem, startRetract_boot, startRetract_engine,
    (beyond_eq_iff.1 (beyond_startRetract (Nat.le_refl PW_BOOT) car h)).1]

theorem hostSide_startUnload {c : Nat} (car : c < 4) (h : Hw) : hostSide (startUnload h c) = hostSide h := by
  unfold startUnload
  dsimp only
  split_ifs
  · rw [hostSide_setF_inst car _ _ _ (by decide), hostSide_onDrive]
  · exact hostSide_startRetract car h
  · rfl

theorem hostSide_unloadAll (h : Hw) : hostSide (unloadAll h) = hostSide h := by
  refine foldl_keeps hostSide _ _ (fun h c => ?_) h
  split
  next here => exact hostSide_startUnload (lt_four_of_populated here) h
  next => rfl

end Sys2Proof.Machine
end

section
/-! Mating and removal (R65, R93, R121, R122): what the pins, PW_BOOT.MATED, the commands and the carriages show. -/
namespace Sys2Proof.Machine

theorem hostSide_eq_iff {g h : Hw} : hostSide g = hostSide h ↔
    g.pins = h.pins ∧ g.mem = h.mem ∧ g.boot = h.boot ∧ g.engine = h.engine ∧ getReg g PW_BOOT = getReg h PW_BOOT := by
  simp only [hostSide, Prod.mk.injEq]

/-! Mating. -/

/-- The pins, memory and PW_BOOT.MATED. -/
def mating (h : Hw) : Pins × List Host.Cell × Nat := (h.pins, h.mem, getF h PW_BOOT_MATED 0)

theorem mating_of_hostSide {g h : Hw} (same : hostSide g = hostSide h) : mating g = mating h := by
  obtain ⟨pins, mem, -, -, reg⟩ := hostSide_eq_iff.1 same
  rw [mating, mating, pins, mem, getF_of_getReg reg]

theorem mating_onBoot (h : Hw) (f : Boot → Boot) : mating (onBoot h f) = mating h := (rfl)

theorem mating_setStage (h : Hw) (v : Nat) : mating (setF h PW_BOOT_STAGE 0 v) = mating h := by
  rw [mating, mating, setF_pins, setF_mem, getF_setF_apart _ PW_BOOT_STAGE PW_BOOT_MATED _ _ (by decide)]

theorem mating_setFetch (h : Hw) (v : Nat) : mating (setF h HQ_STAT_FETCH 0 v) = mating h :=
  mating_of_hostSide (hostSide_setF h _ _ _ (by decide))

theorem mating_ruleRecord (h : Hw) (u n v d : Nat) : mating (ruleRecord h u n v d) = mating h := by
  rw [mating, mating, ruleRecord_pins, ruleRecord_mem, ruleRecord_getF _ _ _ _ _ _ _ (by decide)]

theorem mating_backToGates (h : Hw) : mating (backToGates h) = mating h := by
  unfold backToGates
  dsimp only
  split
  · rw [returnToGates, mating_setStage, mating_onBoot]
  · rfl

theorem mating_finishRemate (h : Hw) : mating (finishRemate h) = mating h := by
  rw [finishRemate, mating_backToGates, mating_setFetch, mating_onBoot]

theorem hostSide_saved (h : Hw) (stops : Bool) : hostSide (if stops then spindleStop (saveAll h) else h) = hostSide h := by
  split
  · rw [hostSide_spindleStop, hostSide_saveAll]
  · rfl

theorem hostSide_held (h : Hw) (holds : Prop) [Decidable holds] :
    hostSide (if holds then holdMotor (onIsland h (fun x => { x with tripHoldUp := false })) else h) = hostSide h := by
  split
  · rw [hostSide_holdMotor, hostSide_onIsland]
  · rfl

theorem mating_afterParked (h : Hw) : mating (afterParked h) = mating h := by
  unfold afterParked
  split
  · rfl
  · extract_lets wants h₁ h₂
    have stop : mating h₁ = mating h := mating_of_hostSide (hostSide_saved h _)
    have gates : mating h₂ = mating h₁ := by
      simp only [h₂]
      split_ifs
      · exact mating_finishRemate h₁
      · rw [mating_backToGates, mating_onBoot]
      · rfl
    rw [← stop, ← gates]
    exact mating_of_hostSide (hostSide_held h₂ _)

/-- The debounced level as the pins and PW_BOOT show it. -/
def mateShown (h : Hw) (level : Bool) : Hw :=
  setF (onPins h (fun p => { p with prsnt := level, prsntDebounced := level })) PW_BOOT_MATED 0 (if level then 0 else 1)

/-- The sequence that the change begins, turns or ends. -/
def mateTaken (h : Hw) (level : Bool) : Hw :=
  if level then
    if getF h PW_BOOT_STAGE 0 = 0x0C then
      ruleRecord (onBoot (setF (setF h PW_BOOT_STAGE 0 0x08) HQ_STAT_FETCH 0 0) (fun b =>
        { b with removal := .draining, drainAt := some (setF (setF h PW_BOOT_STAGE 0 0x08) HQ_STAT_FETCH 0 0).log.optime })) 0x1AF0 121 3 0
    else if getF h PW_BOOT_STAGE 0 = 0x09 ∨ getF h PW_BOOT_STAGE 0 = 0x0A ∨ getF h PW_BOOT_STAGE 0 = 0x0B then
      afterParked (unloadAll (onBoot (setF h PW_BOOT_STAGE 0 0x08) (fun b => { b with removal := .retreat })))
    else if getF h PW_BOOT_STAGE 0 = 0x0F then setF h PW_BOOT_STAGE 0 0x08
    else if h.boot.removal = .remated then onBoot h (fun b => { b with removal := .unloading })
    else h
  else
    match h.boot.removal with
    | .draining => setF (setF (onBoot h (fun b => { b with removal := .none, drainAt := none })) PW_BOOT_STAGE 0 0x0C) HQ_STAT_FETCH 0 1
    | .unloading => if drivesParked h then finishRemate h else onBoot h (fun b => { b with removal := .remated })
    | .remated => h
    | .retreat => afterParked h
    | .none => if getF h PW_BOOT_STAGE 0 = 0x08 then backToGates h else h

theorem exec_prsntNDebouncedChange {level : Bool} {s : State} (changed : level ≠ s.hw.pins.prsntDebounced) :
    exec (.prsntNDebouncedChange level) s = .next { s with hw := mateTaken (mateShown { s.hw with out := [] } level) level } := by
  have changed : ¬ level = ({ s.hw with out := [] } : Hw).pins.prsntDebounced := changed
  change execPrsntNDebouncedChange level s = _
  simp only [execPrsntNDebouncedChange, State.run, if_neg changed]
  rfl

theorem mating_mateTaken (h : Hw) (level : Bool) : mating (mateTaken h level) = mating h := by
  unfold mateTaken
  split
  · split_ifs
    · rw [mating_ruleRecord, mating_onBoot, mating_setFetch, mating_setStage]
    · rw [mating_afterParked, mating_of_hostSide (hostSide_unloadAll _), mating_onBoot, mating_setStage]
    · rw [mating_setStage]
    · rw [mating_onBoot]
    · rfl
  · split
    · rw [mating_setFetch, mating_setStage, mating_onBoot]
    · split
      · rw [mating_finishRemate]
      · rw [mating_onBoot]
    · rfl
    · rw [mating_afterParked]
    · split
      · rw [mating_backToGates]
      · rfl

/-! Removal. -/

section
variable {h : Hw} {c : Nat}

theorem startUnload_pins (h : Hw) (c : Nat) : (startUnload h c).pins = h.pins := by
  have kept := (kept_startUnload h c h).2 (Kept.refl h)
  obtain ⟨-, -, -, pins, -⟩ := kept
  exact pins

theorem populated_startUnload (h : Hw) (k c : Nat) : populated (startUnload h k) c = populated h c := by
  unfold populated population
  rw [startUnload_pins]

/-- Loaded carriages, and those that load, unload; those that unload stay so. -/
theorem acState_startUnload_self (out : acState h c = 2 ∨ acState h c = 3 ∨ acState h c = 4) : acState (startUnload h c) c = 4 := by
  unfold startUnload
  dsimp only
  rcases out with out | out | out <;> rw [acState] at out
  · rw [if_pos (.inl out), acState, getF_setF_self _ AC_STAT_STATE _ _ (by decide)]
    rfl
  · rw [if_pos (.inr out), acState, getF_setF_self _ AC_STAT_STATE _ _ (by decide)]
    rfl
  · rw [if_neg (by rw [out]; decide), if_neg (by rw [out]; decide), acState, out]

theorem getReg_startRetract_ne (h : Hw) {k : Nat} (ne : c ≠ k) :
    getReg (startRetract h k) (AC_STAT_STATE.key + inst c) = getReg h (AC_STAT_STATE.key + inst c) := by
  unfold startRetract addF
  dsimp only
  split
  · rfl
  · rw [getReg_setF_ne, getReg_setF_ne, getReg_setF_ne, getReg_setF_ne, onDrive_getReg] <;>
      simp only [AC_STAT_STATE, AC_STAT_LEAVING, AC_STAT, AC_CNT_COUNT, AC_CNT, AC_IRQS_RETR, AC_IRQS, inst] <;> omega

theorem acState_startUnload_ne (h : Hw) {k : Nat} (ne : c ≠ k) : acState (startUnload h k) c = acState h c := by
  refine getF_of_getReg ?_
  unfold startUnload
  dsimp only
  split_ifs
  · rw [getReg_setF_ne, onDrive_getReg]
    simp only [inst]
    omega
  · exact getReg_startRetract_ne h ne
  · rfl

end

theorem acState_unloadAll {h : Hw} {c : Nat} (here : populated h c = true) (out : acState h c = 2 ∨ acState h c = 3) :
    acState (unloadAll h) c = 4 := by
  have car := lt_four_of_populated here
  have steps : ∀ (l : List Nat) (h : Hw), populated h c = true → acState h c = 2 ∨ acState h c = 3 ∨ acState h c = 4 →
      (acState h c = 4 ∨ c ∈ l) →
      acState (l.foldl (fun h c => if populated h c then startUnload h c else h) h) c = 4 := by
    intro l
    induction l with
    | nil => exact fun h _ _ reach => reach.resolve_right List.not_mem_nil
    | cons k l ih =>
      intro h here out reach
      rw [List.foldl_cons]
      by_cases mine : c = k
      · subst mine
        have unloads := acState_startUnload_self out
        rw [if_pos here]
        exact ih _ (by rw [populated_startUnload, here]) (.inr (.inr unloads)) (.inl unloads)
      · have reach : acState h c = 4 ∨ c ∈ l := reach.imp_right (fun mem => List.mem_of_ne_of_mem mine mem)
        split
        next =>
          have same := acState_startUnload_ne h mine
          exact ih _ (by rw [populated_startUnload, here]) (by rw [same]; exact out) (by rw [same]; exact reach)
        next => exact ih h here out reach
  exact steps _ h here (out.elim .inl (fun three => .inr (.inl three))) (.inr (List.mem_range.mpr car))

/-- With a drive off its ramp nothing that waits for parked drives happens. -/
theorem afterParked_of_out {h : Hw} {c : Nat} (car : c < 4) (out : acState h c ≠ 0) : afterParked h = h := by
  have moving : drivesParked h = false := by
    rw [drivesParked, List.all_eq_false]
    exact ⟨c, List.mem_range.mpr car, by rw [beq_iff_eq]; exact out⟩
  rw [afterParked, moving]
  rfl

/-- A removal in its unload phase stops the spindle, and nothing of the host side, when the drives are parked. -/
theorem hostSide_afterParked {h : Hw} (unloads : h.boot.removal = .unloading) : hostSide (afterParked h) = hostSide h := by
  unfold afterParked
  split
  · rfl
  · extract_lets wants h₁ h₂
    have stop : hostSide h₁ = hostSide h := hostSide_saved h _
    obtain ⟨-, -, boot, -⟩ := hostSide_eq_iff.1 stop
    have phase : h₁.boot.removal = .unloading := by rw [boot, unloads]
    have gates : h₂ = h₁ := by
      simp only [h₂]
      rw [phase, if_neg Removal.noConfusion, if_neg (fun both => Removal.noConfusion both.1)]
    rw [← stop, ← gates]
    exact hostSide_held h₂ _

/-- The commands that the removal waited for in vain are abandoned. -/
def drainEnded (h : Hw) : Hw :=
  countEngine (onEngine (onBoot h (fun b => { b with drainAt := none })) (fun g => { g with cmds := g.cmds.filter onMedium })) 4
    ((h.engine.cmds.filter (fun c => !(onMedium c))).filter (fun c => c.source == .host)).length

/-- The removal goes on to the unload of the carriages. -/
def removalUnloads (h : Hw) : Hw := onBoot (drainEnded h) (fun b => { b with removal := .unloading })

theorem exec_hotRemovalAbandon {s : State} (due : drained s.hw = true) :
    exec .hotRemovalAbandon s = .next { s with hw := (
      if s.hw.boot.removal = .draining then afterParked (unloadAll (removalUnloads { s.hw with out := [] }))
      else drainEnded { s.hw with out := [] }) } := by
  have due : drained { s.hw with out := [] } = true := due
  change execHotRemovalAbandon s = _
  simp only [execHotRemovalAbandon, State.run, if_pos due]
  rfl

end Sys2Proof.Machine
end

section
/-! A reset of every register (R14, R15): the words that a P leaves. -/
namespace Sys2Proof.Machine

/-- What holds of the default and of everything that a rewriting of a map's values can leave holds of what the rewritten map reads. -/
theorem mget_filterMap_of_forall {β : Type} {P : β → Prop} {d : Nat → β} {f : Nat × β → Option (Nat × β)} {k : Nat} (dflt : P (d k))
    (keys : ∀ p q, f p = some q → q.1 = p.1) (each : ∀ v w, f (k, v) = some (k, w) → P w) (m : SMap β) : P (mget d (m.filterMap f) k) := by
  induction m with
  | nil => exact dflt
  | cons p m ih =>
    obtain ⟨a, v⟩ := p
    cases step : f (a, v) with
    | none => rwa [List.filterMap_cons_none step]
    | some q =>
      obtain ⟨b, w⟩ := q
      have key : b = a := keys _ _ step
      subst key
      rw [List.filterMap_cons_some step, mget_cons]
      split
      next here =>
        subst here
        exact each v w step
      next => exact ih

/-- After a reset of all registers each reads its Reset column, or a word whose fields of that kind were set to theirs. -/
theorem getReg_resetRegs_all {P : Nat → Prop} {k : ResetKind} {a : Nat} {r : RegDef} (known : regAt a = some r) (dflt : P (regReset a).toNat)
    (each : ∀ w < 2 ^ 32, P (resetWord r k w % 2 ^ 32)) (h : Hw) : P (getReg (resetRegs h k (fun _ => true)) a) := by
  refine mget_filterMap_of_forall (P := fun w => P w.toNat) dflt (fun p q step => ?_) (fun v w step => ?_) h.regs
  · simp only [if_true] at step
    split at step
    · split at step
      · exact absurd step (by simp)
      · cases step
        rfl
    · cases step
      rfl
  · simp only [if_true, known] at step
    split at step
    · exact absurd step (by simp)
    · cases step
      exact each _ v.isLt

/-! The trips of the six dies: after a P no die is tripped (R15, R609). -/

/-- TH_TRIP of a die. -/
def tripReg : RegDef := ⟨TH_TRIP, 1, 0x0, [⟨TH_TRIP_TRIPPED, .ro, false, 0x0, rPH⟩, ⟨TH_TRIP_TLATCH, .w1c, false, 0x0, rPH⟩]⟩

theorem regAt_trip : ∀ die < 6, regAt (TH_TRIP + inst die) = some tripReg := by decide +kernel

theorem regReset_trip : ∀ die < 6, bits 31 31 (regReset (TH_TRIP + inst die)).toNat = 0 := by decide +kernel

theorem resetWord_pair {r : RegDef} {f g : FieldDef} (fields : r.fields = [f, g]) (first : f.letters = rPH) (second : g.letters = rPH) (w : Nat) :
    resetWord r .P w = putBits g.fld.hi g.fld.lo g.reset (putBits f.fld.hi f.fld.lo f.reset w) := by
  have returns (f : Fld) : (rPH.contains ResetKind.P && !(ResetKind.P == ResetKind.U && backsStored f)) = true := by
    have noU : (ResetKind.P == ResetKind.U) = false := by decide
    have letter : rPH.contains ResetKind.P = true := by decide
    rw [noU, letter, Bool.false_and]
    rfl
  simp only [resetWord, fields, List.foldl_cons, List.foldl_nil, first, second, returns, if_true]

theorem tripped_resetRegs (h : Hw) {die : Nat} (known : die < 6) : getF (resetRegs h .P (fun _ => true)) TH_TRIP_TRIPPED (inst die) = 0 := by
  refine getReg_resetRegs_all (P := fun w => bits TH_TRIP_TRIPPED.hi TH_TRIP_TRIPPED.lo w = 0) (regAt_trip die known) (regReset_trip die known)
    (fun w word => ?_) h
  rw [resetWord_pair (r := tripReg) rfl rfl rfl, Nat.mod_eq_of_lt (putBits_lt (by decide) (by decide) (putBits_lt (by decide) (by decide) word)),
    bits_putBits_ne _ _ (by decide) (by decide) (by decide), bits_putBits _ _ (by decide)]
  rfl

/-! The start after a P (R15, R91). -/

/-- No die is tripped. -/
def Untripped (h : Hw) : Prop := ∀ die < 6, getF h TH_TRIP_TRIPPED (inst die) ≠ 1

theorem untripped_of_regs {g h : Hw} (regs : g.regs = h.regs) (cool : Untripped h) : Untripped g := by
  intro die known
  rw [getF_of_regs regs]
  exact cool die known

theorem untripped_reset (h : Hw) : Untripped (loadSpeedGains (resetRegs h .P (fun _ => true))) := by
  intro die known
  have page : TH_TRIP_TRIPPED.key + inst die ≠ SP_SLG_KPW.key + 0 ∧ TH_TRIP_TRIPPED.key + inst die ≠ SP_SLG_KIW.key + 0 := by
    simp only [TH_TRIP_TRIPPED, TH_TRIP, SP_SLG_KPW, SP_SLG_KIW, SP_SLG, inst]
    omega
  rw [loadSpeedGains, getF_setF_reg _ _ _ _ _ _ page.2, getF_setF_reg _ _ _ _ _ _ page.1, tripped_resetRegs h known]
  decide

/-- A fold whose every step leaves the block as it is. -/
theorem foldl_fixed_of_mem {β : Type} {g : Hw → β → Hw} {l : List β} {h : Hw} (fixed : ∀ b ∈ l, g h b = h) : l.foldl g h = h :=
  List.foldlRecOn (motive := (· = h)) l g rfl (fun x same b mem => by rw [same]; exact fixed b mem)

theorem startReset_cold (h : Hw) {kind : Nat} (cold : kind ≠ 2) (small : kind < 16) :
    (startReset h kind).mem = [] ∧ (startReset h kind).fences = [] ∧ (startReset h kind).pins = h.pins ∧
    (startReset h kind).boot.mediaMs = 0 ∧ getF (startReset h kind) PW_RSN_KIND 0 = kind := by
  unfold startReset
  extract_lets isCold letter cycles h₀ log₀
  split
  next ledgers lost _ =>
  extract_lets h₁ h₂ h₃ h₄ h₅ h₆ h₇ h₈ h₉ h₁₀ h₁₁
  have isP : letter = .P := if_pos (bne_iff_ne.mpr cold)
  have cool : Untripped h₂ := untripped_of_regs (h := h₀) rfl (by simp only [h₀, isP]; exact untripped_reset h)
  have mem : h₂.mem = [] := rfl
  have fences : h₂.fences = [] := rfl
  have pins : h₂.pins = h.pins := by
    have source : h₁.pins = h₀.pins := rfl
    rw [onBoot_pins, source]
    simp only [h₀, loadSpeedGains, setF_pins, resetRegs_pins]
  have ms : h₂.boot.mediaMs = 0 := rfl
  clear_value h₂
  have dies : h₃ = h₂ := foldl_fixed_of_mem (fun die mem => if_neg (cool die (List.mem_range.mp mem)))
  have motor : h₄ = h₃ := if_neg (by rw [dies]; exact cool 5 (by decide))
  have hub : h₅ = h₄ := if_neg (by rw [motor, dies]; exact cool 0 (by decide))
  have cars : h₆ = h₂ := by
    simp only [h₆, hub, motor, dies]
    exact foldl_fixed_of_mem (fun c mem => if_neg (cool (c + 1) (Nat.succ_lt_succ (Nat.lt_succ_of_lt (List.mem_range.mp mem)))))
  clear_value h₆
  subst cars
  have kept : h₉.mem = h₆.mem ∧ h₉.fences = h₆.fences ∧ h₉.pins = h₆.pins ∧ h₉.boot = h₆.boot ∧ getF h₉ PW_RSN_KIND 0 = kind := by
    have kindShown : getF h₈ PW_RSN_KIND 0 = kind := by
      rw [getF_setF_key _ _ _ (by decide), getF_setF_self _ PW_RSN_KIND _ _ (by decide)]
      exact Nat.mod_eq_of_lt small
    have always : h₉ = setF (setF h₈ PW_RSN_DCAUSE 0 0) PW_RSN_UNIT 0 0 := if_pos (bne_iff_ne.mpr cold)
    rw [always, getF_setF_apart _ PW_RSN_UNIT PW_RSN_KIND _ _ (by decide), getF_setF_apart _ PW_RSN_DCAUSE PW_RSN_KIND _ _ (by decide), kindShown]
    simp only [h₈, h₇, setF_mem, setF_fences, setF_pins, setF_boot, and_self]
  obtain ⟨mem₉, fences₉, pins₉, boot₉, kind₉⟩ := kept
  clear_value h₉
  have recorded : h₁₁.mem = [] ∧ h₁₁.fences = [] ∧ h₁₁.pins = h.pins ∧ h₁₁.boot.mediaMs = 0 ∧ getF h₁₁ PW_RSN_KIND 0 = kind := by
    simp only [h₁₁, h₁₀, raiseRecord_mem, raiseRecord_fences, raiseRecord_pins, raiseRecord_boot, onMgmt_mem,
      onMgmt_fences, onMgmt_pins, onMgmt_boot]
    rw [raiseRecord_getF _ _ _ _ _ _ _ _ (by decide), onMgmt_getF, mem₉, mem, fences₉, fences, pins₉, pins, boot₉, ms, kind₉]
    exact ⟨rfl, rfl, rfl, rfl, rfl⟩
  clear_value h₁₁
  split
  · rwa [ruleRecord_mem, ruleRecord_fences, ruleRecord_pins, ruleRecord_boot, ruleRecord_getF _ _ _ _ _ _ _ (by decide)]
  · exact recorded

end Sys2Proof.Machine
end

section
/-! The reset pin, the straps and the self-tests (R66, R73, R91, R102, R103, R104). -/
namespace Sys2Proof.Machine

/-! RESET_IN_N. -/

theorem exec_resetInNRise {p : Bool} {s : State} (low : s.hw.pins.resetIn = false) :
    ∃ h, exec (.resetInNRise p) s = .next { s with hw := startReset h p.toNat, vault := s.vault.restart } ∧ h.pins.resetIn = true ∧
      h.pins.prsnt = p := by
  have low : ¬ ({ s.hw with out := [] } : Hw).pins.resetIn = true := by
    rw [Bool.not_eq_true]
    exact low
  change ∃ h, execResetInNRise p s = _ ∧ _
  simp only [execResetInNRise, State.runBoth]
  rw [if_neg low]
  cases p
  · exact ⟨_, rfl, rfl, rfl⟩
  · exact ⟨_, rfl, rfl, rfl⟩

/-- No core runs. -/
def coresOff (h : Hw) : Hw := { h with cores := .all {} }

theorem coresOff_reads {β : Type} (h : Hw) (π : Hw → β) (blind : ∀ x c, π { x with cores := c } = π x) : π (coresOff h) = π h := blind h _

/-- What RESET_IN_N low clears at once (R66). -/
def resetHeld (h : Hw) (moving : Bool) : Hw :=
  let h := onPins h (fun p => { p with resetIn := false, phyRst := false })
  let h := onIsland h (fun i => { i with alive := .notStarted, stopDue := 0 })
  let h := setF (setF (setF h TH_HBSTAT_ALIVE 0 0) TH_HBSTAT_ARMED 0 0) PW_BOOT_STAGE 0 0
  let h := onBoot h (fun b => { b with fallRetract := moving && h.spindle.holdUp })
  coresOff (onEngine h (fun e => { e with cmds := [], posting := [] }))

/-- The domains that do not stay up for a retract. -/
def domainsCut (h : Hw) (keep : List Nat) : Hw :=
  (List.range 24).foldl (fun h i => if keep.contains (i + 1) then h else cutDomain h (i + 1)) h

theorem exec_resetInNFall {s : State} (high : s.hw.pins.resetIn = true) :
    ∃ h moving keep, exec .resetInNFall s = .next { s with hw := domainsCut (resetHeld h moving) keep } := by
  have high : ¬ (!({ s.hw with out := [] } : Hw).pins.resetIn) = true := by
    rw [Bool.not_eq_true', Bool.not_eq_false]
    exact high
  change ∃ h moving keep, execResetInNFall s = _
  simp only [execResetInNFall, State.run]
  rw [if_neg high]
  exact ⟨_, _, _, rfl⟩

theorem cutDomain_keeps (h : Hw) (d : Nat) : hostSide (cutDomain h d) = hostSide h ∧ (cutDomain h d).island = h.island := by
  have far : hostSide (domainFar (setF h PW_DOM_ON 0 (putBit (getF h PW_DOM_ON 0) (d - 1) false)) d) = hostSide h := by
    rw [hostSide_domainFar, hostSide_setF _ _ _ _ (by decide)]
  have island : (domainFar (setF h PW_DOM_ON 0 (putBit (getF h PW_DOM_ON 0) (d - 1) false)) d).island = h.island := by
    rw [read_of_inside (inside_domainFar _ d) (·.island) fun _ => rfl, setF_island]
  unfold cutDomain
  dsimp only
  split
  · exact ⟨far, island⟩
  · split
    · rw [hostSide_setF _ _ _ _ (by decide), setF_island]
      exact ⟨far, island⟩
    · exact ⟨far, island⟩

theorem domainsCut_keeps (h : Hw) (keep : List Nat) : hostSide (domainsCut h keep) = hostSide h ∧ (domainsCut h keep).island = h.island := by
  constructor
  · refine foldl_keeps hostSide _ _ (fun h i => ?_) h
    split
    · rfl
    · exact (cutDomain_keeps h _).1
  · refine foldl_keeps (·.island) _ _ (fun h i => ?_) h
    split
    · rfl
    · exact (cutDomain_keeps h _).2

theorem resetHeld_shows (h : Hw) (moving : Bool) : (resetHeld h moving).pins.resetIn = false ∧ (resetHeld h moving).island.alive = .notStarted ∧
    getF (resetHeld h moving) PW_BOOT_STAGE 0 = 0 ∧ (resetHeld h moving).engine.cmds = [] := by
  unfold resetHeld
  extract_lets h₁ h₂ h₃ h₄
  have stage : getF h₃ PW_BOOT_STAGE 0 = 0 := by
    rw [getF_setF_self _ PW_BOOT_STAGE _ _ (by decide)]
    rfl
  have island : h₃.island.alive = .notStarted := by simp only [h₃, setF_island, h₂, onIsland_island]
  have pins : h₃.pins.resetIn = false := by simp only [h₃, setF_pins, h₂, onIsland_pins, h₁, onPins_pins]
  clear_value h₃
  rw [coresOff_reads _ (·.pins) fun _ _ => rfl, coresOff_reads _ (·.island) fun _ _ => rfl,
    coresOff_reads _ (getF · PW_BOOT_STAGE 0) fun _ _ => rfl, coresOff_reads _ (·.engine) fun _ _ => rfl]
  simp only [h₄, onEngine_pins, onEngine_island, onEngine_getF, onEngine_engine, onBoot_pins, onBoot_island, onBoot_getF, pins, island, stage,
    and_self]

/-! The straps. -/

theorem startStep3_pins (h : Hw) : (startStep3 h).pins = { h.pins with phyRst := true } := by
  have on (h : Hw) (d : Nat) : (domainOnOp h d).pins = h.pins := read_of_inside (inside_domainOnOp h d) (·.pins) fun _ => rfl
  have keys (h : Hw) : (unwrapKeys h).pins = h.pins := by
    unfold unwrapKeys
    extract_lets load h₁ h₂
    have start : h₂.pins = h.pins := by simp only [h₂, h₁, onTwin_pins, onCipher_pins]
    rw [← start]
    refine foldl_keeps (·.pins) _ _ (fun h k => ?_) h₂
    split
    · rw [ruleRecord_pins]
    · rfl
  have windows (h : Hw) : ([4, 5, 6, 7].foldl (fun h n => setF (setF h MG_BWS_STATE (4 * n) 1) MG_BWS_OWNER (4 * n) 0x420) h).pins = h.pins :=
    foldl_keeps (·.pins) _ _ (fun h n => by rw [setF_pins, setF_pins]) h
  unfold startStep3
  extract_lets h₁ h₂ h₃ h₄ h₅ h₆ h₇ h₈
  have first : h₁.pins = h.pins := foldl_keeps (·.pins) _ _ on h
  have second : h₂.pins = h.pins := by
    simp only [h₂]
    split
    · rw [on, first]
    · exact first
  have last : h₈.pins = { h.pins with phyRst := true } := by
    simp only [h₈, setF_pins, h₇, keys, h₆, h₅, h₄, h₃, onPins_pins, second]
  clear_value h₈
  split
  · exact last
  · rw [windows, last]

theorem exec_strapSampling {samples : List Nat} {s : State} (high : s.hw.pins.resetIn = true) (first : s.hw.pins.sampled = false)
    (eight : samples.length = 8) : ∃ h, exec (.strapSampling samples) s = .next { s with hw := h } ∧ h.pins.sampled = true ∧
      h.pins.strap = (strapAgree (samples.map (fun w => w % 2 ^ 22))).1 := by
  have due : (({ s.hw with out := [] } : Hw).pins.resetIn && !({ s.hw with out := [] } : Hw).pins.sampled && samples.length == 8) = true := by
    change (s.hw.pins.resetIn && !s.hw.pins.sampled && samples.length == 8) = true
    rw [high, first, eight]
    rfl
  refine ⟨_, State.run_eq s _, ?_⟩
  rw [if_pos due]
  split
  next v u agree =>
  extract_lets last h₀ h₁ hpc bad twin differs sealedBit unstable h₂ h₃ h₄ h₅ h₆ h₇
  have read : h₂.pins.sampled = true ∧ h₂.pins.strap = v := by simp only [h₂, h₁, onPins_pins, and_self]
  have third : h₃.pins = { h₂.pins with phyRst := true } := by simp only [h₃, startStep3_pins, onMgmt_pins]
  have fourth : h₄.pins = h₃.pins := by
    simp only [h₄]
    split <;> simp only [ruleRecord_pins]
  have fifth : h₅.pins = h₄.pins := by
    simp only [h₅]
    split <;> simp only [ruleRecord_pins]
  have sixth : h₆.pins = h₅.pins := by
    simp only [h₆]
    split <;> simp only [ruleRecord_pins]
  have seventh : h₇.pins = h₆.pins := by
    simp only [h₇]
    split <;> simp only [setCause_pins, raiseFault_pins]
  have shown : h₇.pins.sampled = true ∧ h₇.pins.strap = v := by
    rw [seventh, sixth, fifth, fourth, third]
    exact read
  rw [agree]
  clear_value h₇
  split
  · obtain ⟨-, -, -, pins, -⟩ := (kept_startFail h₇ 0x01 0 h₇).2 (Kept.refl h₇)
    rw [pins]
    exact shown
  · exact shown

/-! The self-tests of the start. -/

theorem l2Invalidate_shows (h : Hw) : (l2Invalidate h).cluster.lines = [] ∧ (l2Invalidate h).cluster.victims = [] ∧
    getF (l2Invalidate h) CC_WLOCK_LOCK 0 = 0 ∧ (l2Invalidate h).mem = h.mem := by
  unfold l2Invalidate
  extract_lets h₁ h₂ h₃
  have unlocked : getF h₃ CC_WLOCK_LOCK 0 = 0 := by
    have same : getF h₃ CC_WLOCK_LOCK 0 = getF h₂ CC_WLOCK_LOCK 0 := by
      refine foldl_keeps_of_mem (π := (getF · CC_WLOCK_LOCK 0)) (fun h k mem => getF_setF_reg _ _ _ _ _ _ ?_) h₂
      revert mem
      revert k
      decide
    rw [same, getF_setF_self _ CC_WLOCK_LOCK _ _ (by decide)]
    rfl
  have cluster : h₃.cluster = h₂.cluster := foldl_keeps (·.cluster) _ _ (fun h k => setF_cluster _ _ _ _) h₂
  have mem : h₃.mem = h₂.mem := foldl_keeps (·.mem) _ _ (fun h k => setF_mem _ _ _ _) h₂
  have empty : h₂.cluster.lines = [] ∧ h₂.cluster.victims = [] ∧ h₂.mem = h.mem := by
    simp only [h₂, h₁, setF_cluster, setF_mem, onCluster_cluster, onCluster_mem, and_self]
  rw [← cluster, ← mem] at empty
  clear_value h₃
  obtain ⟨lines, victims, mem⟩ := empty
  refine ⟨?_, ?_, ?_, ?_⟩
  · rw [foldl_keeps (·.cluster) _ _ (fun h k => onCore_cluster h k _) h₃, lines]
  · rw [foldl_keeps (·.cluster) _ _ (fun h k => onCore_cluster h k _) h₃, victims]
  · rw [foldl_keeps (getF · CC_WLOCK_LOCK 0) _ _ (fun h k => onCore_getF h k _ _ _) h₃, unlocked]
  · rw [foldl_keeps (·.mem) _ _ (fun h k => onCore_mem h k _) h₃, mem]

/-- The boot ROM runs on core 0 (R102). -/
def romRuns (h : Hw) : Hw :=
  onBoot (onCore (l2Invalidate h) 0 (fun c => { c with running := true, start := 0 })) (fun b => { b with l2Ready := true })

/-- The stage goes from one step of the start to the next. -/
def stepped (h : Hw) (st : Nat) : Hw := if getF h PW_BOOT_STAGE 0 = st then setF h PW_BOOT_STAGE 0 (st + 1) else h

theorem stepped_getF (h : Hw) (st : Nat) {f : Fld} {d : Nat} (other : f.key + d ≠ PW_BOOT_STAGE.key + 0) :
    getF (stepped h st) f d = getF h f d := by
  unfold stepped
  split
  · exact getF_setF_reg _ _ _ _ _ _ other
  · rfl

theorem stepped_reads {β : Type} (h : Hw) (st : Nat) (π : Hw → β) (blind : ∀ x v, π (setF x PW_BOOT_STAGE 0 v) = π x) :
    π (stepped h st) = π h := by
  unfold stepped
  split
  · exact blind h _
  · rfl

theorem exec_l2InvalidateDone {s : State} (on : domainOn s.hw 6 = true) (first : s.hw.boot.l2Ready = false) :
    exec .l2InvalidateDone s = .next { s with hw := stepped (romRuns { s.hw with out := [] }) 1 } := by
  have due : (domainOn { s.hw with out := [] } 6 && !({ s.hw with out := [] } : Hw).boot.l2Ready) = true := by
    change (domainOn s.hw 6 && !s.hw.boot.l2Ready) = true
    rw [on, first]
    rfl
  refine (State.run_eq s _).trans ?_
  rw [if_pos due]
  rfl

theorem romRuns_shows (h : Hw) : (romRuns h).boot.l2Ready = true ∧ ((romRuns h).cores.get 0).running = true ∧
    ((romRuns h).cores.get 0).start = 0 ∧ (romRuns h).cluster.lines = [] ∧ (romRuns h).cluster.victims = [] ∧
    getF (romRuns h) CC_WLOCK_LOCK 0 = 0 ∧ (romRuns h).mem = h.mem := by
  obtain ⟨lines, victims, lock, mem⟩ := l2Invalidate_shows h
  rw [romRuns, onBoot_boot, onBoot_cores, onBoot_cluster, onBoot_getF, onBoot_mem, onCore_cores, onCore_cluster, onCore_getF, onCore_mem,
    Quad.get_set_self]
  exact ⟨rfl, rfl, rfl, lines, victims, lock, mem⟩

theorem exec_sramEccSelfTest (s : State) : exec (.sramEccSelfTest none true) s =
    .next { s with hw := stepped (onBoot (clearHubCounters { s.hw with out := [] }) (fun b => { b with eccTested := true })) 2 } := by
  change execSramEccSelfTest none true s = _
  simp only [execSramEccSelfTest, State.run, if_true]
  rfl

/-- The counters of the hub's checkers. -/
def hubCounters0 (h : Hw) : Hw := setF (setF (setF h BM_CECNT_COUNT 0 0) CC_CECNT_COUNT 0 0) BM_UECNT_NEAR 0 0

theorem clearHubCounters_reads {β : Type} (h : Hw) (π : Hw → β) (blind : ∀ x m, π { x with secded := m } = π x) :
    π (clearHubCounters h) = π (hubCounters0 h) := blind _ _

theorem clearHubCounters_shows (h : Hw) : getF (clearHubCounters h) BM_UECNT_NEAR 0 = 0 ∧ getF (clearHubCounters h) BM_CECNT_COUNT 0 = 0 ∧
    (clearHubCounters h).mem = h.mem := by
  rw [clearHubCounters_reads h (getF · BM_UECNT_NEAR 0) fun _ _ => rfl, clearHubCounters_reads h (getF · BM_CECNT_COUNT 0) fun _ _ => rfl,
    clearHubCounters_reads h (·.mem) fun _ _ => rfl, hubCounters0]
  refine ⟨?_, ?_, ?_⟩
  · rw [getF_setF_self _ BM_UECNT_NEAR _ _ (by decide)]
    rfl
  · rw [getF_setF_key _ _ _ (by decide), getF_setF_key _ _ _ (by decide), getF_setF_self _ BM_CECNT_COUNT _ _ (by decide)]
    rfl
  · rw [setF_mem, setF_mem, setF_mem]

/-- The far galleries after a training: both reserved bursts read zero, the counters of their checkers 0. -/
def galleriesTrained (h : Hw) : Hw :=
  let h := onBoot h (fun b => { b with trained := true })
  let h := { h with mem := memZero (memZero h.mem farBase (farBase + 64)) (farBase + 448) (farBase + 512) }
  let h := setF (setF (setF h BM_CECNT_COUNT 4 0) BM_CECNT_COUNT 8 0) BM_UECNT_FAR 0 0
  onBuffer h (fun b => { b with ue0 := 0, ue1 := 0 })

theorem exec_lpddr4xTrainingDone (s : State) : exec (.lpddr4xTrainingDone true true) s =
    .next { s with hw := stepped (galleriesTrained { s.hw with out := [] }) 3 } := by
  change execLpddr4xTrainingDone true true s = _
  simp only [execLpddr4xTrainingDone, State.run, if_true]
  rfl

theorem galleriesTrained_shows (h : Hw) : (galleriesTrained h).boot.trained = true ∧
    (galleriesTrained h).mem = memZero (memZero h.mem farBase (farBase + 64)) (farBase + 448) (farBase + 512) := by
  unfold galleriesTrained
  extract_lets h₁ h₂ h₃
  have mem : h₂.mem = memZero (memZero h.mem farBase (farBase + 64)) (farBase + 448) (farBase + 512) := rfl
  have trained : h₂.boot.trained = true := rfl
  clear_value h₂
  simp only [onBuffer_boot, onBuffer_mem, h₃, setF_boot, setF_mem, trained, mem, and_self]

end Sys2Proof.Machine
end

section
/-! The reset, strap, mate and boot-check events complete as R65, R66, R73, R91, R102, R103, R104 and R121 say. -/
namespace Sys2Proof.Machine

theorem removalUnloads_shows (h : Hw) : (removalUnloads h).boot = { h.boot with drainAt := none, removal := .unloading } ∧
    (removalUnloads h).engine.cmds = h.engine.cmds.filter onMedium ∧ (removalUnloads h).mem = h.mem ∧ (removalUnloads h).regs = h.regs ∧
    (removalUnloads h).pins = h.pins := by
  simp only [removalUnloads, drainEnded, countEngine, onEngine_boot, onEngine_engine, onEngine_mem, onEngine_regs, onEngine_pins, onBoot_boot,
    onBoot_engine, onBoot_mem, onBoot_regs, onBoot_pins, and_self]

theorem drainEnded_shows (h : Hw) : (drainEnded h).boot = { h.boot with drainAt := none } ∧
    (drainEnded h).engine.cmds = h.engine.cmds.filter onMedium ∧ (drainEnded h).mem = h.mem := by
  simp only [drainEnded, countEngine, onEngine_boot, onEngine_engine, onEngine_mem, onBoot_boot, onBoot_engine, onBoot_mem, and_self]

/-- Settles O1: each event takes the branch of its meaning that the hypotheses leave, and what it leaves is read off that branch. -/
theorem startEventsComplete : Obligations.StartEventsComplete := by
  refine ⟨?rise, ?fall, ?straps, ?mate, ?drained, ?abandoned, ?waits, ?caches, ?ecc, ?training⟩
  case rise =>
    intro p s low
    obtain ⟨h, ran, high, mated⟩ := exec_resetInNRise (p := p) low
    obtain ⟨mem, fences, pins, ms, kind⟩ := startReset_cold h (kind := p.toNat) (by cases p <;> decide) (by cases p <;> decide)
    refine ⟨_, ran, ?_, ?_, kind, mem, fences, ms, rfl, rfl⟩
    · rw [pins, high]
    · rw [pins, mated]
  case fall =>
    intro s high
    obtain ⟨h, moving, keep, ran⟩ := exec_resetInNFall high
    obtain ⟨low, alive, stage, cmds⟩ := resetHeld_shows h moving
    obtain ⟨host, island⟩ := domainsCut_keeps (resetHeld h moving) keep
    obtain ⟨pins, -, -, engine, boot⟩ := hostSide_eq_iff.1 host
    refine ⟨_, ran, ?_, ?_, ?_, ?_, rfl, rfl⟩
    · rw [pins, low]
    · rw [island, alive]
    · exact (getF_of_getReg boot).trans stage
    · rw [engine, cmds]
  case straps =>
    intro samples s high first eight
    obtain ⟨h, ran, sampled, strap⟩ := exec_strapSampling high first eight
    exact ⟨_, ran, sampled, strap, rfl, rfl⟩
  case mate =>
    intro level s changed
    have same := mating_mateTaken (mateShown { s.hw with out := [] } level) level
    simp only [mating, Prod.mk.injEq] at same
    obtain ⟨pins, mem, mated⟩ := same
    refine ⟨_, exec_prsntNDebouncedChange changed, ?_, ?_, ?_, rfl, rfl⟩
    · rw [pins, mateShown, setF_pins, onPins_pins]
    · rw [mated, mateShown, getF_setF_self _ PW_BOOT_MATED _ _ (by decide)]
      cases level <;> rfl
    · rw [mem, mateShown, setF_mem, onPins_mem]
  case drained =>
    intro s draining due
    obtain ⟨boot, cmds, mem, regs, pins⟩ := removalUnloads_shows { s.hw with out := [] }
    have unloaded : hostSide (unloadAll (removalUnloads { s.hw with out := [] })) = hostSide (removalUnloads { s.hw with out := [] }) :=
      hostSide_unloadAll _
    have unloads : (unloadAll (removalUnloads { s.hw with out := [] })).boot.removal = .unloading := by
      obtain ⟨-, -, phase, -⟩ := hostSide_eq_iff.1 unloaded
      rw [phase, boot]
    obtain ⟨-, mem', boot', engine', -⟩ := hostSide_eq_iff.1 ((hostSide_afterParked unloads).trans unloaded)
    refine ⟨_, exec_hotRemovalAbandon due, ?_⟩
    rw [if_pos draining, boot', engine', mem', boot, cmds, mem]
    refine ⟨rfl, rfl, rfl, fun c listed here out => ?_, rfl, rfl, rfl⟩
    have here : populated (removalUnloads { s.hw with out := [] }) c = true := by
      unfold populated population
      rw [pins]
      exact here
    have out : acState (removalUnloads { s.hw with out := [] }) c = 2 ∨ acState (removalUnloads { s.hw with out := [] }) c = 3 := by
      rw [acState, getF_of_regs regs]
      exact out
    have off := acState_unloadAll here out
    rw [afterParked_of_out (List.mem_range.mp listed) (by rw [off]; decide), off]
  case abandoned =>
    intro s none due
    obtain ⟨boot, cmds, mem⟩ := drainEnded_shows { s.hw with out := [] }
    refine ⟨_, exec_hotRemovalAbandon due, ?_⟩
    rw [if_neg (by rw [none]; exact Removal.noConfusion), boot]
    exact ⟨rfl, cmds, none, mem, rfl, rfl⟩
  case waits =>
    intro s waits
    have waits : ¬ drained { s.hw with out := [] } = true := by
      rw [Bool.not_eq_true]
      exact waits
    change execHotRemovalAbandon s = _
    simp only [execHotRemovalAbandon, State.run, if_neg waits]
  case caches =>
    intro s on first
    obtain ⟨ready, runs, start, lines, victims, lock, mem⟩ := romRuns_shows { s.hw with out := [] }
    refine ⟨_, exec_l2InvalidateDone on first, ?_⟩
    rw [stepped_reads _ _ (·.boot) fun _ _ => setF_boot _ _ _ _, stepped_reads _ _ (·.cores) fun _ _ => setF_cores _ _ _ _,
      stepped_reads _ _ (·.cluster) fun _ _ => setF_cluster _ _ _ _, stepped_getF _ _ (by decide),
      stepped_reads _ _ (·.mem) fun _ _ => setF_mem _ _ _ _]
    exact ⟨ready, runs, start, lines, victims, lock, mem, rfl, rfl⟩
  case ecc =>
    intro s
    obtain ⟨near, count, mem⟩ := clearHubCounters_shows { s.hw with out := [] }
    refine ⟨_, exec_sramEccSelfTest s, ?_, ?_, ?_, ?_, rfl, rfl⟩
    · rw [stepped_reads _ _ (·.boot) fun _ _ => setF_boot _ _ _ _, onBoot_boot]
    · rw [stepped_getF _ _ (by decide), onBoot_getF, near]
    · rw [stepped_getF _ _ (by decide), onBoot_getF, count]
    · rw [stepped_reads _ _ (·.mem) fun _ _ => setF_mem _ _ _ _, onBoot_mem, mem]
  case training =>
    intro s
    obtain ⟨trained, mem⟩ := galleriesTrained_shows { s.hw with out := [] }
    refine ⟨_, exec_lpddr4xTrainingDone s, ?_, ?_, rfl, rfl⟩
    · rw [stepped_reads _ _ (·.boot) fun _ _ => setF_boot _ _ _ _, trained]
    · rw [stepped_reads _ _ (·.mem) fun _ _ => setF_mem _ _ _ _, mem]

end Sys2Proof.Machine
end

section
/-! The first calibration pass with a posted write among the stored settings (R94, R110, R118, R156): the write halts the device, and nothing
that the pass does after it starts the device again. -/
namespace Sys2Proof.Machine

/-! A device that is halted behind shut bridges. -/

/-- The pages of the register file (R123). -/
def everyPage : List Nat := (List.range 16).flatMap (fun k => (List.range (pageInstances k)).map (fun i => k * 0x100000 + i * 0x1000))

theorem pageOf_mem_everyPage {a : Nat} {r : RegDef} (known : regAt a = some r) : pageOf a ∈ everyPage := by
  have exist : regInst a < pageInstances (regCode a) := by
    by_contra none
    rw [regAt, if_neg none] at known
    cases known
  have few : regCode a < 16 := by
    by_contra many
    have none : pageInstances (regCode a) = 0 := by
      unfold pageInstances
      split
      case h_8 => exact if_neg many
      all_goals omega
    rw [none] at exist
    exact Nat.not_lt_zero _ exist
  refine List.mem_flatMap.mpr ⟨regCode a, List.mem_range.mpr few, List.mem_map.mpr ⟨regInst a, List.mem_range.mpr exist, ?_⟩⟩
  simp only [regCode, regInst, pageOf]
  omega

/-- Halted at stage 0x0E with the far side of every bridge shut and no write under way, the calibration as it was. -/
def Shut (h : Hw) : Prop :=
  getF h PW_BOOT_STAGE 0 = 0x0E ∧ h.boot.calibrated = 15 ∧ h.bridges = [] ∧ ∀ p ∈ everyPage, flagF h (farFld p) 0 = true

theorem shut_iff (h : Hw) : Shut h ↔
    getF h PW_BOOT_STAGE 0 = 0x0E ∧ h.boot.calibrated = 15 ∧ h.bridges = [] ∧ ∀ p ∈ everyPage, flagF h (farFld p) 0 = true := Iff.rfl

/-- What a step keeps of the state and of PW_BOOT and the bridges' FAR bits, it keeps of a shut device. -/
theorem Shut.of_same {g h : Hw} (shut : Shut h) (boot : g.boot = h.boot) (bridges : g.bridges = h.bridges)
    (stage : getF g PW_BOOT_STAGE 0 = getF h PW_BOOT_STAGE 0) (far : ∀ p ∈ everyPage, flagF g (farFld p) 0 = flagF h (farFld p) 0) : Shut g := by
  obtain ⟨halted, calibrated, idle, closed⟩ := (shut_iff h).1 shut
  exact (shut_iff g).2 ⟨stage.trans halted, by rw [boot, calibrated], by rw [bridges, idle], fun p mem => by rw [far p mem, closed p mem]⟩

theorem Shut.of_regs {g h : Hw} (shut : Shut h) (boot : g.boot = h.boot) (bridges : g.bridges = h.bridges) (regs : g.regs = h.regs) : Shut g :=
  shut.of_same boot bridges (getF_of_regs regs _ _) (fun p _ => by rw [flagF, flagF, getF_of_regs regs])

theorem everyPage_aligned {p : Nat} (mem : p ∈ everyPage) : p % 0x1000 = 0 := by
  revert p
  decide

/-- A field that is neither in PW_BOOT nor in a bridge's register. -/
theorem Shut.setF {h : Hw} (shut : Shut h) {f : Fld} {d : Nat} (v : Nat) (other : PW_BOOT ≠ f.key + d) (inner : (f.key + d) % 0x1000 ≠ 0xFFC) :
    Shut (setF h f d v) := by
  refine shut.of_same (setF_boot _ _ _ _) (setF_bridges _ _ _ _) (getF_setF_reg _ _ _ _ _ _ other) (fun p mem => ?_)
  have aligned := everyPage_aligned mem
  have apart : (farFld p).key + 0 ≠ f.key + d := by
    intro same
    rw [← same] at inner
    simp only [farFld] at inner
    omega
  rw [flagF, flagF, getF_setF_reg _ _ _ _ _ _ apart]

theorem Shut.limits {h : Hw} (shut : Shut h) (st : Nat) : Shut (setLimits h st) := by
  unfold setLimits
  split
  · exact ((shut.setF _ (by decide) (by decide)).setF _ (by decide) (by decide)).setF _ (by decide) (by decide)
  · exact shut

/-! A write that a shut bridge loses (R128, R129). -/

theorem far_loseWrite (h : Hw) (page src off : Nat) : getF (loseWrite h page src off) (farFld page) 0 = getF h (farFld page) 0 := by
  have beside (g : Hw) (hi lo v : Nat) (low : lo ≤ hi ∧ hi < 30) :
      getF (setF g ⟨page + 0xFFC, hi, lo⟩ 0 v) (farFld page) 0 = getF g (farFld page) 0 :=
    getF_setF_apart g ⟨page + 0xFFC, hi, lo⟩ (farFld page) 0 v ⟨rfl, low.1, by dsimp only; omega, le_refl _, .inl low.2⟩
  unfold loseWrite
  dsimp only
  split
  · rw [beside _ _ _ _ (by decide), beside _ _ _ _ (by decide), beside _ _ _ _ (by decide)]
  · rw [beside _ _ _ _ (by decide)]

/-- Answering a lost write leaves FAR. -/
theorem far_writeBridge (h : Hw) (page : Nat) : getF (writeBridge h (page + 0xFFC) (2 ^ 22)) (farFld page) 0 = getF h (farFld page) 0 := by
  have word : getReg h (page + 0xFFC) < 2 ^ 32 := getReg_lt h _
  have keepsWriting : bitAt (2 ^ 22) 29 = false := by decide
  unfold writeBridge
  dsimp only
  rw [keepsWriting, if_neg Bool.false_ne_true]
  change bits 30 30 (getReg (setReg h (page + 0xFFC) _) (page + 0xFFC)) = bits 30 30 (getReg h (page + 0xFFC))
  rw [getReg_setReg_self]
  split
  · rw [Nat.mod_eq_of_lt (putBits_lt (by decide) (by decide) (putBits_lt (by decide) (by decide) word)),
      bits_putBits_ne _ _ (by decide) (by decide) (by decide), bits_putBits_ne _ _ (by decide) (by decide) (by decide)]
  · rw [Nat.mod_eq_of_lt (putBits_lt (by decide) (by decide) word), bits_putBits_ne _ _ (by decide) (by decide) (by decide)]

theorem writeBridge_only (h : Hw) (a data : Nat) : ∃ w, writeBridge h a data = setReg h a w := ⟨_, rfl⟩

theorem loseWrite_bridges (h : Hw) (page src off : Nat) : (loseWrite h page src off).bridges = h.bridges := by
  unfold loseWrite
  dsimp only
  split <;> simp only [setF_bridges]

theorem Shut.lost {h : Hw} (shut : Shut h) (a src : Nat) :
    Shut (writeBridge (loseWrite h (pageOf a) src (regOff a)) (pageOf a + 0xFFC) (2 ^ 22)) := by
  have page : pageOf a % 0x1000 = 0 := by
    rw [pageOf]
    omega
  have far := (far_writeBridge (loseWrite h (pageOf a) src (regOff a)) (pageOf a)).trans (far_loseWrite h _ src (regOff a))
  obtain ⟨w, answered⟩ := writeBridge_only (loseWrite h (pageOf a) src (regOff a)) (pageOf a + 0xFFC) (2 ^ 22)
  rw [answered] at far ⊢
  have elsewhere {b : Nat} (apart : b ≠ pageOf a + 0xFFC) :
      getReg (setReg (loseWrite h (pageOf a) src (regOff a)) (pageOf a + 0xFFC) w) b = getReg h b :=
    (getReg_setReg_ne _ _ apart).trans (getReg_loseWrite h _ _ apart)
  have boot : (loseWrite h (pageOf a) src (regOff a)).boot = h.boot := read_of_inside (inside_loseWrite h _ _ _) (·.boot) fun _ => rfl
  refine shut.of_same (by rw [setReg_boot, boot]) (by rw [setReg_bridges, loseWrite_bridges]) ?_ (fun p mem => ?_)
  · refine getF_of_getReg (elsewhere ?_)
    simp only [PW_BOOT_STAGE, PW_BOOT]
    omega
  · by_cases here : p = pageOf a
    · rw [flagF, flagF, here, far]
    · have apart : (farFld p).key + 0 ≠ pageOf a + 0xFFC := by
        simp only [farFld]
        omega
      rw [flagF, flagF, getF_of_getReg (elsewhere apart)]

/-- Behind shut bridges every write of the dictionary agent is lost. -/
theorem Shut.agentWrite {h : Hw} (shut : Shut h) (v : Vault) (a : Nat) (f : Fld) (x : Nat) : Shut (agentWrite h v a f x).1 := by
  obtain ⟨-, -, idle, closed⟩ := (shut_iff h).1 shut
  have none : inFlight h a = none := by rw [inFlight, idle]; rfl
  unfold Machine.agentWrite
  rw [landPosted_of_idle none]
  dsimp only
  split
  · exact shut.lost a 6
  next near =>
    have unknown : regAt a = Option.none := by
      by_contra known
      obtain ⟨r, known⟩ := Option.ne_none_iff_exists'.mp known
      have far : pageFar h a = true := closed _ (pageOf_mem_everyPage known)
      rw [far] at near
      exact near rfl
    rw [landWrite, unknown]
    exact shut

theorem Shut.copyThreshold {h : Hw} (shut : Shut h) (v : Vault) (a : Nat) (f : Fld) (x : Nat) : Shut (copyThreshold h v a f x) := by
  refine List.foldlRecOn (motive := Shut) _ _ shut (fun g shut die _ => ?_)
  split
  · exact shut.agentWrite v _ f x
  · exact shut

/-- No setting that the load writes starts a shut device again. -/
theorem Shut.putEntry {h : Hw} (shut : Shut h) (v : Vault) (u e : Nat) (d : EntDef) (x : Nat) : Shut (putEntry h v u e d x).1 := by
  have live : Shut (setLive h u d.param e x) := shut.of_regs (setLive_boot _ _ _ _ _) (setLive_bridges _ _ _ _ _) (setLive_regs _ _ _ _ _)
  unfold Machine.putEntry
  dsimp only
  split
  · split
    · split
      · split
        · exact live.of_regs (onCal_boot _ _ _) (onCal_bridges _ _ _) (onCal_regs _ _ _)
        · exact live
      · exact live
    · split
      · exact live.of_regs (onMgmt_boot _ _) (onMgmt_bridges _ _) (onMgmt_regs _ _)
      · split
        · exact live.limits _
        · exact live
  · refine List.foldlRecOn (motive := fun r : Hw × Bool => Shut r.1) _ _ shut (fun r shut q _ => ?_)
    have written := shut.agentWrite v (partAddr d u e q.1) q.1 (x / 2 ^ q.2)
    split
    · exact written.copyThreshold v _ _ _
    · exact written

/-! The load of the settings. -/

/-- A setting goes to its registers as the newest copy holds it, or as the factory set it. -/
def settingPut (vals : SMap (Option Nat)) (v : Vault) (h : Hw) (t : Nat × EntDef × Nat) : Hw :=
  (putEntry h v t.1 t.2.2 t.2.1 ((oget vals (entryKey t.1 t.2.1.param t.2.2)).getD (factoryOf h t.1 t.2.1 t.2.2))).1

/-- The scalars of units `l`, as far as they are present. -/
def scalarsOf (h : Hw) (l : List Nat) : List (Nat × EntDef × Nat) :=
  (l.filter (fun u => !(present h u).isEmpty)).flatMap (fun u => ((storedOf u).filter (fun d => d.ty != 13)).flatMap (fun d =>
    (elements d).map (fun e => (u, d, e))))

theorem scalarsOf_append (h : Hw) (l m : List Nat) : scalarsOf h (l ++ m) = scalarsOf h l ++ scalarsOf h m := by
  rw [scalarsOf, List.filter_append, List.flatMap_append, ← scalarsOf, ← scalarsOf]

/-- What the load does after the scalars leaves the registers, the bridges and the state of the start. -/
theorem loadSettings_shut {h : Hw} (v : Vault) (c : Nat)
    (shut : Shut ((storedScalars h).foldl (settingPut (mget (fun _ => []) h.dict.copies c) v) h)) : Shut (loadSettings h v c) := by
  unfold loadSettings
  extract_lets vals blobs h₁ h₂ live h₃
  have scalars : Shut h₁ := shut
  clear_value h₁
  have filters : Shut h₂ := by
    refine List.foldlRecOn (motive := Shut) _ _ scalars (fun g shut u _ => ?_)
    exact shut.of_regs (onUnit_boot _ _ _) (onUnit_bridges _ _ _) (onUnit_regs _ _ _)
  have loaded : Shut h₃ := filters.of_regs (onDict_boot _ _) (onDict_bridges _ _) (onDict_regs _ _)
  refine List.foldlRecOn (motive := Shut) _ _ loaded (fun g shut c _ => ?_)
  split
  · exact shut.of_regs (onPath_boot _ _ _) (onPath_bridges _ _ _) (onPath_regs _ _ _)
  · exact shut

/-! The rest of the pass. -/

/-- With every carriage calibrated none is due. -/
theorem duePass_of_calibrated {h : Hw} (all : h.boot.calibrated = 15) : duePass h = [] := by
  rw [duePass, List.filter_eq_nil_iff]
  intro c mem
  have done : bitAt h.boot.calibrated c = true := by
    rw [all]
    revert mem
    revert c
    decide
  rw [done]
  simp

theorem newestMap_none (h : Hw) : newestMap h [] = none := by
  have nowhere : (List.range 4).filter (fun c => populated h c && !(carFenced h c) && ([] : List Nat).contains c) = [] := by
    rw [List.filter_eq_nil_iff]
    intro c _
    simp
  rw [newestMap, nowhere]
  rfl

theorem restoreHub_stage (h : Hw) : getF (restoreHub h []) PW_BOOT_STAGE 0 = getF h PW_BOOT_STAGE 0 := by
  rw [restoreHub, newestMap_none]
  dsimp only
  split
  · rw [onBoot_getF, startFail_eq]
    exact failureShown_getF h 0x0E 0 (by decide)
  · rfl

/-- The load of the settings from the newest copy among those that are read well. -/
def settingsLoaded (h : Hw) (v : Vault) (good : List Nat) : Hw :=
  if h.dict.loaded then h
  else match newestCopyOf h (fun c => populated h c && !(carFenced h c) && good.contains c) with
    | some c => loadSettings h v c
    | none => onDict h (fun d => { d with loaded := true })

/-- The passes that are due, and the restore of the hub after the last. -/
def passesRun (h : Hw) (mapGood replays : List Nat) (checks : List HeadCheck) : Hw :=
  let h := (duePass h).foldl (fun h c => firstPass h c checks (replays.contains c)) h
  if h.boot.restored || !((List.range 4).all (fun c => !(inStart h c) || bitAt h.boot.calibrated c)) then h else restoreHub h mapGood

theorem exec_firstCalibrationPass {s : State} (good mapGood replays : List Nat) (checks : List HeadCheck) (stage : getF s.hw PW_BOOT_STAGE 0 = 0x0B) :
    exec (.firstCalibrationPass good mapGood replays checks) s =
      .next { s with hw := passesRun (settingsLoaded { s.hw with out := [] } s.vault good) mapGood replays checks } := by
  have stage : getF { s.hw with out := [] } PW_BOOT_STAGE 0 = 0x0B := stage
  have exits : ¬ (({ s.hw with out := [] } : Hw).island.exiting = true ∧ getF { s.hw with out := [] } PW_BOOT_STAGE 0 = 0x0C) := by
    rw [stage]
    exact fun both => absurd both.2 (by decide)
  change execFirstCalibrationPass good mapGood replays checks s = _
  unfold execFirstCalibrationPass
  rw [State.runBoth_eq, if_neg exits, if_neg (not_not.mpr stage)]
  rfl

/-- A device that a setting halted stays at stage 0x0E, whatever the pass does next. -/
theorem passesRun_stage {h : Hw} (shut : Shut h) (replays : List Nat) (checks : List HeadCheck) :
    getF (passesRun h [] replays checks) PW_BOOT_STAGE 0 = 0x0E := by
  obtain ⟨halted, calibrated, -⟩ := (shut_iff h).1 shut
  unfold passesRun
  rw [duePass_of_calibrated calibrated, List.foldl_nil]
  dsimp only
  split
  · exact halted
  · rw [restoreHub_stage, halted]

theorem out_cleared {h : Hw} (none : h.out = []) : { h with out := [] } = h := by rw [← none]

/-! The counterexample. -/

/-- What the counterexample holds beside its registers: carriage 0 populated and calibrated, in its second failed start, and the bridges
with a posted heartbeat write of 0, the wrong key. -/
def postedHeartbeatHw : Hw where
  pins := { strap := 0x1000, resetIn := true }
  boot := { calibrated := 15, failedStarts := 2 }
  dict := { commitNo := [(0, 1)] }
  bridges := [(0xF00000, some ⟨TH_HBEAT, 0, 0⟩)]

/-- That drive in a D start, at stage 0x0B, its settings not yet loaded, the heartbeat armed and the far side of every bridge shut. -/
def postedHeartbeat : State :=
  { hw := setF (setF (setF (setF (everyPage.foldl (fun h p => setF h (farFld p) 0 1) postedHeartbeatHw) PW_DOM_ON 0 0x80) PW_BOOT_STAGE 0 0x0B)
      PW_RSN_KIND 0 2) TH_HBSTAT_ARMED 0 1 }

/-- The hub's groups, whose settings come first. -/
def hubGroups : List Nat := [0x0000, 0x1300, 0x1400, 0x1500, 0x1600, 0x1700, 0x1800, 0x1900, 0x1A00]

/-- Among the hub's settings is a threshold, whose write carries the posted one to its register; the wrong key starts the device again, and
the third failed D start halts it. -/
theorem hubSettings_shut : Shut ((scalarsOf postedHeartbeat.hw hubGroups).foldl (settingPut [] postedHeartbeat.vault) postedHeartbeat.hw) := by
  rw [shut_iff]
  decide +kernel

/-- The settings of the other units, whatever they are, do not start it again. -/
theorem postedHeartbeat_shut : Shut (settingsLoaded postedHeartbeat.hw postedHeartbeat.vault [0]) := by
  have first : ¬ postedHeartbeat.hw.dict.loaded = true := by decide +kernel
  have newest : newestCopyOf postedHeartbeat.hw (fun c =>
      populated postedHeartbeat.hw c && !(carFenced postedHeartbeat.hw c) && [0].contains c) = some 0 := by
    decide +kernel
  have split : storedScalars postedHeartbeat.hw = scalarsOf postedHeartbeat.hw hubGroups ++
      scalarsOf postedHeartbeat.hw ([2, 3, 4, 5].flatMap (fun d => [0, 0x100, 0x200, 0x300, 0x500].map (fun b => d * 0x1000 + b)) ++ leafPaths) := by
    rw [← scalarsOf_append, ← List.append_assoc]
    rfl
  rw [settingsLoaded, if_neg first, newest]
  refine loadSettings_shut _ _ ?_
  rw [split, List.foldl_append]
  exact List.foldlRecOn (motive := Shut) _ _ hubSettings_shut (fun g shut t _ => shut.putEntry _ _ _ _ _)

/-- Refutes O3: a start without a map stays at stage 0x0B only as long as no posted write of the bridges halts the device while the settings
are loaded. -/
theorem not_restoreAndMediaReadyComplete : ¬ Obligations.RestoreAndMediaReadyComplete := by
  rintro ⟨-, -, noMap, -⟩
  have due : getF postedHeartbeat.hw PW_BOOT_STAGE 0 = 0x0B := by decide +kernel
  obtain ⟨t, ran, -, -, stage, -⟩ := noMap [0] [] [] postedHeartbeat due (by decide +kernel) (by decide +kernel) (by decide +kernel)
    (by decide +kernel)
  rw [exec_firstCalibrationPass [0] [] [] [] due, out_cleared (by decide +kernel)] at ran
  rw [← Host.Outcome.next.inj ran] at stage
  dsimp only at stage
  rw [passesRun_stage postedHeartbeat_shut] at stage
  exact absurd stage (by decide)

end Sys2Proof.Machine
end

section
/-! A step and the queue: the front command runs, and every command answers. -/
namespace Sys2Proof.Machine

/-- Settles O33: what `step` takes off the queue is what was put at its front. -/
theorem stepRunsTheFrontCommand : Obligations.StepRunsTheFrontCommand := fun _ _ => rfl

/-- Settles O35: each arm of `exec` is a run on the hardware, or on the hardware and the Halls, of its state, and both answer that
state with the queue it had. -/
theorem everyCommandIsAnswered : Obligations.EveryCommandIsAnswered := by
  intro c s
  cases c <;> exact ⟨_, rfl, rfl⟩

end Sys2Proof.Machine
end

section
/-! Accesses that a bridge turns away: misaligned ones, those of a far side that does not answer, and posted writes behind one in flight
(R125, R127-R129). -/
namespace Sys2Proof.Machine

/-- Settles O43: the bridge takes note of the access in SIZE, and a read sends the word 0. -/
theorem misalignedAccessIsNotPerformed : Obligations.MisalignedAccessIsNotPerformed := by
  refine ⟨?read, ?write, ?size⟩
  case read =>
    intro a s exist
    simp only [exec_misalignedAccess false exist, Bool.false_eq_true, if_false, emit, setF_out, List.nil_append]
  case write =>
    intro a s exist
    simp only [exec_misalignedAccess true exist, if_true]
  case size =>
    intro a write s exist
    refine ⟨_, exec_misalignedAccess write exist, ?_⟩
    cases write
    · exact (emit_getF _ _ _ _).trans (getF_setF_flag _ _ 29 (by decide))
    · exact getF_setF_flag _ _ 29 (by decide)

/-! Writes and reads that a bridge does not carry. -/

theorem busWrite_of_far {h : Hw} {v : Vault} {src a data : Nat} {r : RegDef} (page : pageExists h a = true) (brg : regOff a ≠ 0xFFC)
    (hr : regAt a = some r) (far : pageFar h a = true) : busWrite h v src a data = loseWrite h (pageOf a) src (regOff a) := by
  simp [busWrite, page, brg, hr, far]

theorem busWrite_of_inFlight {h : Hw} {v : Vault} {src a data : Nat} {r : RegDef} (page : pageExists h a = true) (brg : regOff a ≠ 0xFFC)
    (hr : regAt a = some r) (posted : isPosted r = true) (flight : (inFlight h a).isSome = true) :
    busWrite h v src a data = loseWrite h (pageOf a) src (regOff a) := by
  simp [busWrite, page, brg, hr, posted, flight]

theorem busRead_of_far {h : Hw} {v : Vault} {src a : Nat} {r : RegDef} (page : pageExists h a = true) (brg : regOff a ≠ 0xFFC)
    (hr : regAt a = some r) (far : pageFar h a = true) : busRead h v src a = emit h (.word 0) := by
  simp [busRead, page, brg, hr, far]

/-! What a lost write leaves in the bridge status register (R129). -/

theorem getF_setF_bits {hi lo : Nat} (h : Hw) (k v : Nat) (hl : lo ≤ hi := by decide) (hh : hi ≤ 31 := by decide) :
    getF (setF h ⟨k, hi, lo⟩ 0 v) ⟨k, hi, lo⟩ 0 = v % 2 ^ (hi + 1 - lo) :=
  getF_setF h _ 0 v hl hh

theorem getF_setF_bits_beside {hi lo hi' lo' : Nat} (h : Hw) (k v : Nat) (hl : lo ≤ hi := by decide) (hh : hi ≤ 31 := by decide)
    (hl' : lo' ≤ hi' := by decide) (ne : hi < lo' ∨ hi' < lo := by decide) :
    getF (setF h ⟨k, hi, lo⟩ 0 v) ⟨k, hi', lo'⟩ 0 = getF h ⟨k, hi', lo'⟩ 0 :=
  getF_setF_beside h _ _ 0 v rfl hl hh hl' ne

/-- The first loss names its source and offset. -/
theorem loseWrite_first {h : Hw} {page src off : Nat} (first : getF h ⟨page + 0xFFC, 23, 16⟩ 0 = 0) :
    loseWrite h page src off =
      setF (setF (setF h ⟨page + 0xFFC, 23, 16⟩ 0 (putBit 0 src true)) ⟨page + 0xFFC, 15, 12⟩ 0 src) ⟨page + 0xFFC, 11, 0⟩ 0 off := by
  simp only [loseWrite, first, if_true]

theorem loseWrite_further {h : Hw} {page src : Nat} (off : Nat) (further : getF h ⟨page + 0xFFC, 23, 16⟩ 0 ≠ 0) :
    loseWrite h page src off = setF h ⟨page + 0xFFC, 23, 16⟩ 0 (putBit (getF h ⟨page + 0xFFC, 23, 16⟩ 0) src true) := by
  simp only [loseWrite, if_neg further]

theorem losts_loseWrite (h : Hw) (page src off : Nat) : getF (loseWrite h page src off) ⟨page + 0xFFC, 23, 16⟩ 0 =
    putBit (getF h ⟨page + 0xFFC, 23, 16⟩ 0) src true % 2 ^ 8 := by
  by_cases first : getF h ⟨page + 0xFFC, 23, 16⟩ 0 = 0
  · rw [loseWrite_first first, getF_setF_bits_beside, getF_setF_bits_beside, getF_setF_bits, first]
  · rw [loseWrite_further off first, getF_setF_bits]

theorem bitAt_mod_pow {w n i : Nat} (inside : i < n) : bitAt (w % 2 ^ n) i = bitAt w i := by
  rw [bitAt_eq_testBit, bitAt_eq_testBit, Nat.testBit_mod_two_pow, decide_eq_true inside, Bool.true_and]

/-- Settles O44: each access takes the branch of its meaning that a far or occupied bridge leaves, and a lost write stays within the
status register of its bridge. -/
theorem farBridgeDropsWrites : Obligations.FarBridgeDropsWrites := by
  refine ⟨?write, ?posted, ?read, ?lost⟩
  case write =>
    intro src a data r s hs bus page brg hr code _ far
    rw [exec_registerWrite_bus data s hs bus code, busWrite_of_far (h := { s.hw with out := [] }) page brg hr far]
  case posted =>
    intro src a data r s hs bus page brg hr posted away
    rw [exec_postedWriteAccepted_bus data s hs bus hr posted]
    obtain far | flight := away
    · rw [busWrite_of_far (h := { s.hw with out := [] }) page brg hr far]
    · rw [busWrite_of_inFlight (h := { s.hw with out := [] }) page brg hr posted flight]
  case read =>
    intro src a r s hs bus page brg hr far
    rw [exec_rcFieldRead_bus a s hs bus, busRead_of_far (h := { s.hw with out := [] }) page brg hr far, emit, List.nil_append]
  case lost =>
    intro h page src off hs hoff
    refine ⟨fun n hn => ?_, fun first => ⟨?_, ?_⟩, fun further => ?_, fun a apart => getReg_loseWrite h src off apart⟩
    · rw [losts_loseWrite, bitAt_mod_pow hn, bitAt_putBit]
      by_cases same : n = src <;> simp [same]
    · rw [loseWrite_first first, getF_setF_bits_beside, getF_setF_bits]
      exact Nat.mod_eq_of_lt (by omega)
    · rw [loseWrite_first first, getF_setF_bits]
      exact Nat.mod_eq_of_lt (by omega)
    · rw [loseWrite_further off further, getF_setF_bits_beside]

end Sys2Proof.Machine
end

section
/-! Transactions of a session with nothing under way: each performs its record at once and answers (R133-R136). -/
namespace Sys2Proof.Machine

/-! Records and their fields (R171). -/

theorem param_of_pe {q e : Nat} (hq : q < 0x1000) (he : e < 16) : (q * 16 + e) / 16 % 0x1000 = q := by omega
theorem elem_of_pe (q : Nat) {e : Nat} (he : e < 16) : (q * 16 + e) % 16 = e := by omega

theorem leVal_leBytes_of_lt {n x : Nat} (fits : x < 256 ^ n) : leVal (leBytes n x) = x := by
  rw [leVal_leBytes, Nat.mod_eq_of_lt fits]

/-- A command that is one transaction, while none of its session is under way. -/
theorem transact_idle {s : State} {sess : Nat} (t : Txn) (idle : sessionBusy s.hw sess = false) :
    s.transact sess t = .next { s with hw := reply (transact { s.hw with out := [] } s.vault sess t) sess } := by
  have idle : sessionBusy { s.hw with out := [] } sess = false := idle
  rw [State.transact]
  exact runBoth_of_vault (by simp only [idle, Bool.false_eq_true, if_false])

/-- The answer of a transaction that leaves the hardware alone is all that goes out. -/
theorem reply_unchanged (h : Hw) (a : Answer) (sess : Nat) :
    reply ({ h with out := [] }, a) sess = { h with out := [.reply sess a.status a.ty (leVal a.value) a.value.length] } := by
  simp only [reply, emit, List.nil_append]

/-! Writes. -/

theorem objDef_of_written {h : Hw} {sess u q e ty : Nat} {value : List (BitVec 8)} (passed : writeStatus h sess u q e ty value = 0) :
    ∃ d, objDef h u q e = some d := by
  cases found : objDef h u q e with
  | none => rw [writeStatus, found] at passed; cases passed
  | some d => exact ⟨d, rfl⟩

theorem writeStatus_out (h : Hw) (o : List Output) (sess u q e ty : Nat) (value : List (BitVec 8)) :
    writeStatus { h with out := o } sess u q e ty value = writeStatus h sess u q e ty value := (rfl)

theorem transact_write_refused {h : Hw} {v : Vault} {sess u ty q e : Nat} {value : List (BitVec 8)} (hq : q < 0x1000) (he : e < 16)
    (refused : writeStatus h sess u q e ty value ≠ 0) :
    transact h v sess { op := 2, ty := ty, unit := u, pe := q * 16 + e, value := value } =
      (h, { status := writeStatus h sess u q e ty value }) := by
  cases found : objDef h u q e with
  | none =>
    have missing : writeStatus h sess u q e ty value = 1 := by rw [writeStatus, found]
    simp [transact, Txn.param, Txn.elem, param_of_pe hq he, elem_of_pe q he, found, missing]
  | some d => simp [transact, Txn.param, Txn.elem, param_of_pe hq he, elem_of_pe q he, found, refused]

theorem transact_write_passed {h : Hw} {v : Vault} {sess u ty q e : Nat} {value : List (BitVec 8)} {d : EntDef} (hq : q < 0x1000)
    (he : e < 16) (found : objDef h u q e = some d) (passed : writeStatus h sess u q e ty value = 0) :
    transact h v sess { op := 2, ty := ty, unit := u, pe := q * 16 + e, value := value } =
      ((writeEffect h v sess u q e d (leVal value)).1, { status := (writeEffect h v sess u q e d (leVal value)).2 }) := by
  simp [transact, Txn.param, Txn.elem, param_of_pe hq he, elem_of_pe q he, found, passed]

/-! Reads. -/

theorem readOne_refused {h : Hw} {v : Vault} {sess u q e : Nat} (refused : readStatus h sess u q e ≠ 0) :
    ∃ ty, readOne h v sess u q e = (h, { status := readStatus h sess u q e, ty := ty }) := by
  cases found : objDef h u q e with
  | none =>
    have missing : readStatus h sess u q e = 1 := by rw [readStatus, found]
    exact ⟨0, by simp [readOne, found, missing]⟩
  | some d => exact ⟨d.ty, by simp [readOne, found, refused]⟩

theorem transact_describe (h : Hw) (v : Vault) (sess u pe : Nat) :
    transact h v sess { op := 4, ty := 0, unit := u, pe := pe, value := [] } = (h, describe h v sess u (pe / 16 % 0x1000) (pe % 16)) := rfl

/-! Subscriptions. -/

theorem transact_subscribe (h : Hw) (v : Vault) (sess u ty : Nat) {q e interval : Nat} (hq : q < 0x1000) (he : e < 16)
    (short : interval < 2 ^ 16) : transact h v sess { op := 5, ty := ty, unit := u, pe := q * 16 + e, value := leBytes 2 interval ++ [] } =
      subscribe h v sess u q e ty interval none := by
  have interval : leVal ((leBytes 2 interval).take 2) = interval := by
    rw [List.take_of_length_le (by simp), leVal_leBytes_of_lt (by simpa using short)]
  simp [transact, Txn.param, Txn.elem, param_of_pe hq he, elem_of_pe q he, interval]

theorem subscribe_refused {h : Hw} {v : Vault} {sess u q e ty interval : Nat} {band : Option (List (BitVec 8))}
    (refused : subscribeStatus h sess u q e ty interval band ≠ 0) :
    subscribe h v sess u q e ty interval band = (h, { status := subscribeStatus h sess u q e ty interval band }) := by
  cases found : objDef h u q e with
  | none =>
    have missing : subscribeStatus h sess u q e ty interval band = 1 := by rw [subscribeStatus, found]
    simp [subscribe, found, missing]
  | some d => simp [subscribe, found, refused]

/-! Block operations. -/

/-- The record of a Block read or Block write that names `first` and `n`. -/
def blockTxn (op u q e first n : Nat) : Txn := { op := op, ty := 13, unit := u, pe := q * 16 + e, value := leBytes 1 first ++ leBytes 4 n }

theorem blockTxn_status (h : Hw) (sess op u : Nat) {q e first n : Nat} (hq : q < 0x1000) (he : e < 16) (hf : first < 256) (hn : n < 2 ^ 32) :
    (blockTxn op u q e first n).blockStatus h sess = blockStatus h sess u q e first n (op == 8) false := by
  have first' : leVal (leBytes 1 first) = first := leVal_leBytes_of_lt (by simpa using hf)
  have length' : leVal (leBytes 4 n) = n := leVal_leBytes_of_lt (by simpa using hn)
  simp [Txn.blockStatus, blockTxn, Txn.param, Txn.elem, Txn.first, Txn.length, param_of_pe hq he, elem_of_pe q he, first', length']

theorem block_refused {s : State} {sess st : Nat} {t : Txn} (idle : sessionBusy s.hw sess = false) (status : t.blockStatus s.hw sess = st)
    (refused : st ≠ 0) : s.block sess t = .next { s with hw := { s.hw with out := [.reply sess st 0 0 0] } } := by
  have idle : sessionBusy { s.hw with out := [] } sess = false := idle
  have status : t.blockStatus { s.hw with out := [] } sess = st := status
  rw [State.block, State.run_eq]
  simp only [idle, Bool.false_eq_true, if_false, status, if_pos refused, reply_unchanged]
  rfl

/-- Settles O46: a status other than 0x00 is answered before the effect of the operation is reached. -/
theorem refusedTransactionsHaveNoEffect : Obligations.RefusedTransactionsHaveNoEffect := by
  refine ⟨?read, ?write, ?subscribe, ?blockRead, ?blockWrite, ?describe⟩
  case read =>
    intro sess u p e s hp he refused idle
    obtain ⟨ty, answer⟩ := readOne_refused (h := { s.hw with out := [] }) (v := s.vault) refused
    rw [exec_readObject_idle u hp he idle, answer, reply_unchanged]
    exact ⟨_, rfl, ty, rfl⟩
  case write =>
    intro sess u p e ty value s hp he refused idle
    change s.transact sess _ = _
    rw [transact_idle _ idle, transact_write_refused (h := { s.hw with out := [] }) hp he refused, reply_unchanged]
    rfl
  case subscribe =>
    intro sess u p e ty interval s hp he short refused idle
    change s.transact sess _ = _
    rw [transact_idle _ idle, transact_subscribe _ _ _ _ _ hp he short, subscribe_refused (h := { s.hw with out := [] }) refused, reply_unchanged]
    rfl
  case blockRead =>
    intro sess u p e first n s hp he hf hn refused idle
    exact block_refused idle (blockTxn_status s.hw sess 7 u hp he hf hn) refused
  case blockWrite =>
    intro sess u p e first n s hp he hf hn refused idle
    exact block_refused idle (blockTxn_status s.hw sess 8 u hp he hf hn) refused
  case describe =>
    intro sess u p e s he idle
    refine ⟨_, transact_idle _ idle, ?_⟩
    rw [transact_describe, reply_unchanged]

end Sys2Proof.Machine
end

section
/-! Sessions do not decide for one another (R147-R150, R625). -/
namespace Sys2Proof.Machine

/-- All that the device keeps of the sessions other than `sess`, and the cipher engine with its role keys. -/
def others (sess : Nat) (h : Hw) : ({k : Nat // k ≠ sess} → Session) × Cipher := (fun k => session h k, h.cipher)

theorem others_of_sessions {sess : Nat} {g h : Hw} (sessions : g.dict.sessions = h.dict.sessions) (cipher : g.cipher = h.cipher) :
    others sess g = others sess h := by
  simp only [others, session, sessions, cipher]

@[simp] theorem others_out (sess : Nat) (h : Hw) (o : List Output) : others sess { h with out := o } = others sess h := (rfl)
@[simp] theorem others_emit (sess : Nat) (h : Hw) (o : Output) : others sess (emit h o) = others sess h := (rfl)
@[simp] theorem others_drawn (sess : Nat) (h : Hw) : others sess (drawn h) = others sess h := (rfl)
@[simp] theorem others_onMgmt (sess : Nat) (h : Hw) (f : Mgmt → Mgmt) : others sess (onMgmt h f) = others sess h := (rfl)
@[simp] theorem others_onLog (sess : Nat) (h : Hw) (f : Recorder → Recorder) : others sess (onLog h f) = others sess h := (rfl)
@[simp] theorem others_satF (sess : Nat) (h : Hw) (f : Fld) (d n : Nat) : others sess (satF h f d n) = others sess h := (rfl)

@[simp] theorem others_ruleRecord (sess : Nat) (h : Hw) (u n v d : Nat) : others sess (ruleRecord h u n v d) = others sess h :=
  others_of_sessions (by rw [ruleRecord_dict]) (ruleRecord_cipher h u n v d)

theorem others_setF (sess : Nat) (h : Hw) (f : Fld) (d v : Nat) : others sess (setF h f d v) = others sess h := (rfl)

theorem others_setSec (sess : Nat) (h : Hw) (n st owner : Nat) : others sess (setSec h n st owner) = others sess h := by
  rw [setSec, others_setF, others_setF]

theorem others_clearSection (sess : Nat) (h : Hw) (n : Nat) : others sess (clearSection h n) = others sess h := by
  rw [clearSection, others_onMgmt, others_setSec]

@[simp] theorem others_releaseHeld (sess : Nat) (h : Hw) (owner : Nat) : others sess (releaseHeld h owner) = others sess h := by
  rw [releaseHeld, foldl_keeps (others sess) clearSection _ (others_clearSection sess)]

/-- A change of the session's own state. -/
@[simp] theorem others_onSession (sess : Nat) (h : Hw) (f : Session → Session) : others sess (onSession h sess f) = others sess h :=
  Prod.ext (funext fun k => mget_mset_ne _ _ _ k.2) rfl

/-! The operations of the session. -/

@[simp] theorem others_fallBack (h : Hw) (sess : Nat) : others sess (fallBack h sess) = others sess h := by
  have subsEnd (f : List Sub → List Sub) : others sess (onDict h (fun d => { d with subs := f d.subs })) = others sess h :=
    others_of_sessions rfl rfl
  unfold fallBack
  dsimp only
  (repeat' split) <;> simp [subsEnd]

@[simp] theorem others_askRole (h : Hw) (sess role : Nat) : others sess (askRole h sess role) = others sess h := by
  unfold askRole
  split <;> simp

@[simp] theorem others_takeChallenge (h : Hw) (sess : Nat) : others sess (takeChallenge h sess).1 = others sess h := by
  unfold takeChallenge
  split <;> simp

@[simp] theorem others_judgeTag (h : Hw) (sess : Nat) (ok : Bool) : others sess (judgeTag h sess ok) = others sess h := by
  simp [judgeTag]

theorem others_judgeResponse (h : Hw) (sess high : Nat) : others sess (judgeResponse h sess high).1 = others sess h := by
  unfold judgeResponse
  simp [apply_ite Prod.fst, apply_ite (others sess)]

theorem others_judgeClear (h : Hw) (sess tag : Nat) : others sess (judgeClear h sess tag).1 = others sess h := by
  unfold judgeClear
  dsimp only
  (repeat' split) <;> simp

/-- No register stands behind the challenge 0000:011, so its read lands no posted write. -/
theorem objRegs_challenge {h : Hw} {e : Nat} {d : EntDef} (found : objDef h 0 0x011 e = some d) : objRegs d 0 e = [] := by
  have entry : findEntry 0 0x011 = some ⟨0, 0x011, 4, some 0, none, 0, .fixed, 0, 18446744073709551615, 2, [], 0, 0⟩ := rfl
  have noParts : d.parts = [] := by
    unfold objDef at found
    split at found
    · cases found
    · simp only [entry, Nat.reduceLT, if_false, Nat.reduceEqDiff] at found
      split_ifs at found <;> cases found <;> rfl
  simp [objRegs, noParts]

theorem others_readChallenge (h : Hw) (v : Vault) (sess e : Nat) : others sess (readOne h v sess 0 0x011 e).1 = others sess h := by
  cases found : objDef h 0 0x011 e with
  | none => simp only [readOne, found]
  | some d =>
    simp only [readOne, found, objRegs_challenge found, settle, List.foldl_nil]
    (repeat' split) <;> simp

/-- A Write ends as it began, or with the effect of the object that it names. -/
theorem transact_write_or {h : Hw} {v : Vault} {sess u q e ty : Nat} {value : List (BitVec 8)} (hq : q < 0x1000) (he : e < 16) :
    (transact h v sess { op := 2, ty := ty, unit := u, pe := q * 16 + e, value := value }).1 = h ∨
    ∃ d, (transact h v sess { op := 2, ty := ty, unit := u, pe := q * 16 + e, value := value }).1 =
      (writeEffect h v sess u q e d (leVal value)).1 := by
  by_cases passed : writeStatus h sess u q e ty value = 0
  · obtain ⟨d, found⟩ := objDef_of_written passed
    exact .inr ⟨d, by rw [transact_write_passed hq he found passed]⟩
  · exact .inl (by rw [transact_write_refused hq he passed])

theorem others_transact {s t : State} {sess : Nat} {x : Txn} (ran : s.transact sess x = .next t)
    (kept : ∀ h v, others sess (transact h v sess x).1 = others sess h) : others sess t.hw = others sess s.hw := by
  rw [State.transact, State.runBoth_eq] at ran
  rw [← Host.Outcome.next.inj ran]
  dsimp only
  split
  · rfl
  · rw [reply, others_emit, kept, others_out]

theorem others_transact_write {s t : State} {sess u q e ty x : Nat} (hq : q < 0x1000) (he : e < 16)
    (ran : s.transact sess (writeTxn u q e ty x) = .next t)
    (kept : ∀ h v d y, others sess (writeEffect h v sess u q e d y).1 = others sess h) : others sess t.hw = others sess s.hw := by
  refine others_transact ran fun h v => ?_
  obtain same | ⟨d, effect⟩ := transact_write_or (h := h) (v := v) (sess := sess) (u := u) (ty := ty) (value := leBytes (typeLen ty) x) hq he
  · exact congrArg (others sess) same
  · exact (congrArg (others sess) effect).trans (kept h v d _)

/-! The objects that decide roles, and the commands that write them. -/

theorem writeEffect_role (h : Hw) (v : Vault) (sess e : Nat) (d : EntDef) (x : Nat) :
    writeEffect h v sess 0 0x013 e d x = (askRole h sess x, 0) := (rfl)
theorem writeEffect_response (h : Hw) (v : Vault) (sess e : Nat) (d : EntDef) (x : Nat) : writeEffect h v sess 0 0x012 e d x =
    if e = 1 then (onSession h sess (fun s => { s with tagLow := x }), 0) else judgeResponse h sess x := (rfl)
theorem writeEffect_clear (h : Hw) (v : Vault) (sess e : Nat) (d : EntDef) (x : Nat) :
    writeEffect h v sess 0x1810 0x012 e d x = judgeClear h sess x := (rfl)

theorem exec_sessionRoleWrite (sess x : Nat) (s : State) :
    exec (.sessionRoleWrite sess x) s = s.transact sess (writeTxn 0 0x013 0 10 x) := (rfl)
theorem exec_challengeRead (sess x : Nat) (s : State) :
    exec (.challengeRead sess x) s = s.transact sess { op := 1, ty := 0, unit := 0, pe := 0x011 * 16 + x % 16, value := [] } := (rfl)
theorem exec_responseWrite (sess x y : Nat) (s : State) :
    exec (.responseWrite sess x y) s = s.transact sess (writeTxn 0 0x012 (x % 16) 4 y) := (rfl)
theorem exec_clear (sess x : Nat) (s : State) : exec (.clear sess x) s = s.transact sess (writeTxn 0x1810 0x012 0 4 x) := (rfl)

/-- Settles O54: of the sessions only the one that asked is written, and the cipher engine is left alone. -/
theorem sessionsDecideTheirOwnRoles : Obligations.SessionsDecideTheirOwnRoles := by
  intro s t sess k x other ran
  suffices same : others sess t.hw = others sess s.hw by
    exact ⟨congrFun (congrArg Prod.fst same) ⟨k, other⟩, congrArg Prod.snd same⟩
  have elem : x % 16 < 16 := Nat.mod_lt x (by decide)
  obtain role | challenge | ⟨y, response⟩ | clear := ran
  · rw [exec_sessionRoleWrite] at role
    refine others_transact_write (by decide) (by decide) role fun h v d y => ?_
    rw [writeEffect_role, others_askRole]
  · rw [exec_challengeRead] at challenge
    refine others_transact challenge fun h v => ?_
    rw [transact_read h v sess 0 (by decide) elem, others_readChallenge]
  · rw [exec_responseWrite] at response
    refine others_transact_write (by decide) elem response fun h v d y => ?_
    rw [writeEffect_response]
    split
    · exact others_onSession sess h _
    · exact others_judgeResponse h sess y
  · rw [exec_clear] at clear
    refine others_transact_write (by decide) (by decide) clear fun h v d y => ?_
    rw [writeEffect_clear, others_judgeClear]

end Sys2Proof.Machine
end

section
/-! An unfence of a set that is being unfenced already (R142, R143): its checks pass, and it has nothing left to do. -/
namespace Sys2Proof.Machine

/-- Fencing domain 1A40 is being unfenced (3), in stage 0x0C with nothing else under way. -/
def unfencingDomain : State := { hw := { (setF {} PW_BOOT_STAGE 0 0x0C) with fences := [(0x1A40, 3)] } }

/-- A set whose unfence is under way stays as it is. -/
theorem unfenceSet_underWay {h : Hw} {k : Nat} (underWay : fenceVal h k = 3) : unfenceSet h k = h := by
  simp [unfenceSet, underWay]

theorem writeEffect_unfence (h : Hw) (v : Vault) (sess u e : Nat) (d : EntDef) :
    writeEffect h v sess u 3 e d 0 = (unfencePath h u, 0) := (rfl)

theorem exec_unfence (sess u : Nat) (s : State) : exec (.unfence sess u) s = s.transact sess (writeTxn u 3 0 10 0) := (rfl)

/-- An unfence of a path whose only fenced set has its unfence under way answers 0x00 and changes nothing. -/
theorem exec_unfence_underWay {s : State} {sess u k : Nat} (passed : writeStatus s.hw sess u 3 0 10 [0] = 0)
    (idle : sessionBusy s.hw sess = false) (keys : unfenceKeys s.hw u = [k]) (underWay : fenceVal s.hw k = 3) :
    exec (.unfence sess u) s = .next { s with hw := { s.hw with out := [.reply sess 0 0 0 0] } } := by
  rw [← writeStatus_out s.hw []] at passed
  have keys : unfenceKeys { s.hw with out := [] } u = [k] := keys
  have same : unfencePath { s.hw with out := [] } u = { s.hw with out := [] } := by
    rw [unfencePath, keys]
    exact unfenceSet_underWay (h := { s.hw with out := [] }) underWay
  obtain ⟨d, found⟩ := objDef_of_written passed
  rw [exec_unfence, transact_idle _ idle, writeTxn, show leBytes (typeLen 10) 0 = [0] from rfl,
    transact_write_passed (by decide) (by decide) found passed, show leVal [0] = 0 from rfl, writeEffect_unfence, same, reply_unchanged]
  rfl

/-- Refutes O6: the second of two unfences of 1A40 passes the checks, and the set reads 3 after it as before, not 5. -/
theorem not_unitControlsComplete : ¬ Obligations.UnitControlsComplete := by
  unfold Obligations.UnitControlsComplete
  rintro ⟨-, unfence, -⟩
  have passed : writeStatus unfencingDomain.hw 0x410 0x1A40 3 0 10 [0] = 0 := by decide +kernel
  have idle : sessionBusy unfencingDomain.hw 0x410 = false := by decide +kernel
  obtain ⟨t, ran, value, -⟩ :=
    unfence 0x410 0x1A40 0x1A40 unfencingDomain (by decide +kernel) (by decide +kernel) (by decide +kernel) passed idle
  rw [exec_unfence_underWay passed idle (k := 0x1A40) (by decide +kernel) (by decide +kernel)] at ran
  rw [← Host.Outcome.next.inj ran] at value
  exact absurd value (by decide +kernel)

end Sys2Proof.Machine
end

section
/-! A response that verifies while the event recorder is fenced (R149, R624): its record goes out to the subscribers of 1800:016, so the reply
is not all that the command sends. -/
namespace Sys2Proof.Machine

/-- Session 5 asked for role 1, and the low half of its response fits challenge 7 under Operator key 9. -/
def responding : Session := { wanted := 1, challenge := some 7, tagLow := tagOf 9 (roleMessage 7 [1] 5) }

/-- Stage 0x0C, with the recorder's common part 18F0 fenced and session 6 subscribed to 1800:016.0. -/
def respondentWatched : State := { hw := { (setF {} PW_BOOT_STAGE 0 0x0C) with
  fences := [(0x18F0, 1)], cipher := { operator := { inForce := true, key := 9 } },
  dict := { sessions := [(5, responding)],
            subs := [{ session := 6, path := 0x1800, pe := 0x160, interval := 1, deadband := 0, last := 0, age := 0 }] } } }

/-- The write of the high half of a response that verifies grants the role that was asked for. -/
theorem judgeResponse_verified {h : Hw} {sess high c k : Nat} (asked : (session h sess).challenge = some c)
    (key : roleKey h (session h sess).wanted = some k)
    (fits : tagOf k (roleMessage c [(session h sess).wanted] sess) = (session h sess).tagLow + 2 ^ 64 * high) :
    judgeResponse h sess high = (onSession (judgeTag h sess true) sess (fun x => { x with role := x.wanted }), 0) := by
  simp [judgeResponse, roleTag, asked, key, fits]

theorem out_onSession (h : Hw) (sess : Nat) (f : Session → Session) : (onSession h sess f).out = h.out := (rfl)

/-- What RESPONSE_WRITE of the high half sends: whatever the judgement of the tag sends, then the reply. -/
theorem out_responseWrite_verified {s t : State} {sess x c k : Nat} (short : x < 2 ^ 64)
    (passed : writeStatus s.hw sess 0 0x012 2 4 (leBytes 8 x) = 0)
    (asked : (session s.hw sess).challenge = some c) (key : roleKey s.hw (session s.hw sess).wanted = some k)
    (fits : tagOf k (roleMessage c [(session s.hw sess).wanted] sess) = (session s.hw sess).tagLow + 2 ^ 64 * x)
    (idle : sessionBusy s.hw sess = false) (ran : exec (.responseWrite sess 2 x) s = .next t) :
    t.hw.out = (judgeTag { s.hw with out := [] } sess true).out ++ [.reply sess 0 0 0 0] := by
  rw [← writeStatus_out s.hw []] at passed
  obtain ⟨d, found⟩ := objDef_of_written passed
  have value : leVal (leBytes 8 x) = x := leVal_leBytes_of_lt short
  have verified := judgeResponse_verified (h := { s.hw with out := [] }) asked key fits
  rw [exec_responseWrite, transact_idle _ idle, writeTxn, show typeLen 4 = 8 from rfl, transact_write_passed (by decide) (by decide) found
    passed, value, writeEffect_response, if_neg (by decide), verified] at ran
  rw [← Host.Outcome.next.inj ran]
  simp [reply, emit, out_onSession, leVal]

/-- Refutes O7: the role is granted, but the record of the attempt is sent to session 6 before the reply. -/
theorem not_sessionsAndClaimsComplete : ¬ Obligations.SessionsAndClaimsComplete := by
  unfold Obligations.SessionsAndClaimsComplete
  rintro ⟨-, -, -, response, -⟩
  have passed : writeStatus respondentWatched.hw 5 0 0x012 2 4 (leBytes 8 0) = 0 := by decide +kernel
  have idle : sessionBusy respondentWatched.hw 5 = false := by decide +kernel
  have asked : (session respondentWatched.hw 5).challenge = some 7 := by decide +kernel
  have key : roleKey respondentWatched.hw (session respondentWatched.hw 5).wanted = some 9 := by decide +kernel
  have fits : tagOf 9 (roleMessage 7 [(session respondentWatched.hw 5).wanted] 5) = (session respondentWatched.hw 5).tagLow + 2 ^ 64 * 0 := rfl
  have noted : (judgeTag { respondentWatched.hw with out := [] } 5 true).out.length = 1 := by decide +kernel
  obtain ⟨t, ran, granted, -⟩ := response 5 0 7 9 respondentWatched (by decide) passed asked key idle
  obtain ⟨-, -, only⟩ := granted fits
  rw [out_responseWrite_verified (by decide) passed asked key fits idle ran] at only
  have sent := congrArg List.length only
  rw [List.length_append, noted] at sent
  exact absurd sent (by decide)

end Sys2Proof.Machine
end

section
/-! Transactions that complete at once: standard parameters, Describe and subscriptions (R137, R139, R157, R160, R161, R171). -/
namespace Sys2Proof.Machine

/-! The output queue decides no check and no value. -/

theorem readStatus_out (h : Hw) (o : List Output) (sess u q e : Nat) : readStatus { h with out := o } sess u q e = readStatus h sess u q e := (rfl)
theorem objBytes_out (h : Hw) (o : List Output) (v : Vault) (sess u q e : Nat) (d : EntDef) :
    objBytes { h with out := o } v sess u q e d = objBytes h v sess u q e d := (rfl)
theorem describe_out (h : Hw) (o : List Output) (v : Vault) (sess u q e : Nat) :
    describe { h with out := o } v sess u q e = describe h v sess u q e := (rfl)
theorem subscribeStatus_out (h : Hw) (o : List Output) (sess u q e ty interval : Nat) (band : Option (List (BitVec 8))) :
    subscribeStatus { h with out := o } sess u q e ty interval band = subscribeStatus h sess u q e ty interval band := (rfl)
theorem poweredDown_out (h : Hw) (o : List Output) (sess op u q e : Nat) (d : EntDef) :
    poweredDown { h with out := o } sess op u q e d = poweredDown h sess op u q e d := (rfl)

/-- The reply to a transaction is all that goes out when the transaction itself sends nothing. -/
theorem reply_out {h : Hw} (silent : h.out = []) (a : Answer) (sess : Nat) :
    (reply (h, a) sess).out = [.reply sess a.status a.ty (leVal a.value) a.value.length] := by
  simp [reply, emit, silent]

/-! Standard parameters. -/

/-- What a Read of element 0 of a standard parameter answers. -/
def standardAnswer (h : Hw) (v : Vault) (sess u q : Nat) : Answer :=
  match objDef h u q 0 with
  | none => { status := 1 }
  | some d =>
    if readStatus h sess u q 0 ≠ 0 then { status := readStatus h sess u q 0, ty := d.ty }
    else { status := 0, ty := d.ty, value := objBytes h v sess u q 0 d }

theorem standardAnswer_out (h : Hw) (o : List Output) (v : Vault) (sess u q : Nat) :
    standardAnswer { h with out := o } v sess u q = standardAnswer h v sess u q := (rfl)

theorem standardAnswer_served {h : Hw} {v : Vault} {sess u q : Nat} {d : EntDef} (found : objDef h u q 0 = some d)
    (served : readStatus h sess u q 0 = 0) :
    standardAnswer h v sess u q = { status := 0, ty := d.ty, value := objBytes h v sess u q 0 d } := by
  simp [standardAnswer, found, served]

/-- A Read of a standard parameter changes nothing, whatever it answers. -/
theorem readOne_eq_standardAnswer (h : Hw) (v : Vault) (sess u : Nat) {q : Nat} (std : q < 0x10) :
    readOne h v sess u q 0 = (h, standardAnswer h v sess u q) := by
  cases found : objDef h u q 0 with
  | none => simp [readOne, standardAnswer, found]
  | some d =>
    obtain ⟨-, noParts⟩ := standardEntry_plain (objDef_standard std found)
    have noRegs : objRegs d u 0 = [] := by simp [objRegs, noParts]
    have noDrop : q ≠ 0x016 := by omega
    by_cases served : readStatus h sess u q 0 = 0 <;> simp [readOne, standardAnswer, found, served, noRegs, settle, noDrop]

theorem typeLen_le (ty : Nat) : typeLen ty ≤ 8 := by
  unfold typeLen
  split <;> decide

/-- Beyond 000 the value of a standard parameter is a number. -/
theorem standardAnswer_short {h : Hw} {v : Vault} {sess u q : Nat} (above : 0 < q) : (standardAnswer h v sess u q).value.length ≤ 8 := by
  unfold standardAnswer
  split
  · exact Nat.zero_le 8
  · split
    · exact Nat.zero_le 8
    · rw [objBytes, if_neg (by omega), leBytes_length]
      exact typeLen_le _

theorem memberEntry_length_le (u : Nat) (a : Answer) : (memberEntry u a).length ≤ 6 + a.value.length := by
  unfold memberEntry
  split
  · simp only [List.length_append, leBytes_length]
    omega
  · simp

/-- A Read each of a leaf: one entry, and no change. -/
theorem readEach_leaf {h : Hw} {v : Vault} {sess u q : Nat} (above : 0 < q) (std : q < 0x10) (alone : present h u = [u])
    (exist : unitExists u = true) (booted : bootLimited h = false) :
    readEach h v sess u q 0 none false = (h, { status := 0, value := memberEntry u (standardAnswer h v sess u q) }) := by
  have entry := memberEntry_length_le u (standardAnswer h v sess u q)
  have value := standardAnswer_short (h := h) (v := v) (sess := sess) (u := u) above
  have short : (memberEntry u (standardAnswer h v sess u q)).length ≤ 480 := by omega
  simp [readEach, alone, exist, booted, readOne_eq_standardAnswer h v sess u std, short]

theorem exec_readEach_plain (sess u q e : Nat) (s : State) : exec (.readEach sess u q e none) s =
    s.transact sess { op := 3, ty := 0, unit := u, pe := q * 16 + e, value := [] } := (rfl)

theorem transact_readEach (h : Hw) (v : Vault) (sess u : Nat) {q : Nat} (hq : q < 0x1000) :
    transact h v sess { op := 3, ty := 0, unit := u, pe := q * 16 + 0, value := [] } = readEach h v sess u q 0 none false := by
  simp [transact, Txn.param, Txn.elem, Nat.mod_eq_of_lt hq]

/-! The filter of every member (R139). -/

/-- The filter of every unit of a list becomes `x`. -/
def setFilters (h : Hw) (l : List Nat) (x : Nat) : Hw := l.foldl (fun h m => onUnit h m (fun y => { y with filter := x })) h

theorem filter_setFilters {x m : Nat} : ∀ (l : List Nat) (h : Hw), m ∈ l ∨ (unit h m).filter = x → (unit (setFilters h l x) m).filter = x
  | [], _, .inr set => set
  | a :: l, h, member => by
    refine filter_setFilters l _ ?_
    by_cases same : m = a
    · exact .inr (by rw [same, unit_onUnit])
    · rw [unit_onUnit_ne h _ same]
      simpa [same] using member

theorem setFilters_keeps {α : Type} (π : Hw → α) (kept : ∀ h u f, π (onUnit h u f) = π h) (h : Hw) (l : List Nat) (x : Nat) :
    π (setFilters h l x) = π h :=
  foldl_keeps π _ l (fun h m => kept h m _) h

theorem writeEffect_filter (h : Hw) (v : Vault) (sess u e : Nat) (d : EntDef) (x : Nat) :
    writeEffect h v sess u 7 e d x = (setFilters h (present h u) x, 0) := (rfl)

/-! Subscriptions (R157). -/

theorem interval_of_subscribed {h : Hw} {sess u q e ty interval : Nat} {band : Option (List (BitVec 8))}
    (passed : subscribeStatus h sess u q e ty interval band = 0) : interval < 2 ^ 16 := by
  by_contra long
  have outside : interval = 0 ∨ 65535 < interval := by omega
  simp only [subscribeStatus, if_pos outside] at passed
  (repeat' split at passed) <;> cases passed

/-- An accepted Subscribe stands in place of the session's subscription to the object, and the present value counts as notified. -/
theorem subscribe_passed {h : Hw} {v : Vault} {sess u q e ty interval : Nat} (passed : subscribeStatus h sess u q e ty interval none = 0) :
    ∃ sub : Sub, subscribe h v sess u q e ty interval none =
      (onDict (dropSub h sess u (q * 16 + e)) (fun d => { d with subs := d.subs ++ [sub] }), { status := 0 }) ∧
      sub.session = sess ∧ sub.path = u ∧ sub.pe = q * 16 + e ∧ sub.interval = interval := by
  cases found : objDef h u q e with
  | none => rw [subscribeStatus, found] at passed; cases passed
  | some d =>
    simp only [subscribe, found, passed, ne_eq, not_true_eq_false, if_false]
    exact ⟨_, rfl, rfl, rfl, rfl, rfl⟩

theorem transact_unsubscribe {h : Hw} {v : Vault} {sess u q e : Nat} {d : EntDef} (hq : q < 0x1000) (he : e < 16)
    (found : objDef h u q e = some d) (on : poweredDown h sess 6 u q e d = false) :
    transact h v sess { op := 6, ty := 0, unit := u, pe := q * 16 + e, value := [] } = (dropSub h sess u (q * 16 + e), { status := 0 }) := by
  simp [transact, Txn.param, Txn.elem, param_of_pe hq he, elem_of_pe q he, found, on]

theorem describe_found {h : Hw} {v : Vault} {sess u q e : Nat} {d : EntDef} (found : objDef h u q e = some d)
    (on : poweredDown h sess 4 u q e d = false) : (describe h v sess u q e).status = 0 ∧ (describe h v sess u q e).ty = d.ty := by
  simp [describe, found, on]

end Sys2Proof.Machine
end

section
/-! Block operations: they take the session's sections to state Device, and give them back at their end (R189). -/
namespace Sys2Proof.Machine

theorem secState_setSec (h : Hw) (n st owner : Nat) : secState (setSec h n st owner) n = st % 4 := by
  rw [secState, setSec, getF_setF_apart _ _ _ _ _ (by decide), getF_setF_self _ _ _ _ (by decide)]
  rfl

theorem secOwner_setSec (h : Hw) (n st owner : Nat) : secOwner (setSec h n st owner) n = owner % 2 ^ 16 := by
  rw [secOwner, setSec, getF_setF_self _ _ _ _ (by decide)]
  rfl

theorem section_setSec_ne (h : Hw) {k n : Nat} (st owner : Nat) (other : k ≠ n) :
    secState (setSec h n st owner) k = secState h k ∧ secOwner (setSec h n st owner) k = secOwner h k := by
  have apart : MG_BWS + 4 * k ≠ MG_BWS + 4 * n := by omega
  constructor
  · rw [secState, setSec, getF_setF_reg _ _ _ _ _ _ apart, getF_setF_reg _ _ _ _ _ _ apart]
    rfl
  · rw [secOwner, setSec, getF_setF_reg _ _ _ _ _ _ apart, getF_setF_reg _ _ _ _ _ _ apart]
    rfl

/-- The sections of a list pass to one state and owner. -/
def setSecs (h : Hw) (l : List Nat) (st owner : Nat) : Hw := l.foldl (fun h n => setSec h n st owner) h

theorem section_setSecs_of_not_mem {k st owner : Nat} (l : List Nat) (h : Hw) (other : k ∉ l) :
    secState (setSecs h l st owner) k = secState h k ∧ secOwner (setSecs h l st owner) k = secOwner h k := by
  induction l generalizing h with
  | nil => exact ⟨rfl, rfl⟩
  | cons n l ih =>
    obtain ⟨first, rest⟩ := List.ne_and_not_mem_of_not_mem_cons other
    obtain ⟨st', owner'⟩ := ih (setSec h n st owner) rest
    obtain ⟨st'', owner''⟩ := section_setSec_ne h st owner first
    exact ⟨st'.trans st'', owner'.trans owner''⟩

theorem section_setSecs_of_mem {k st owner : Nat} (l : List Nat) (h : Hw) (member : k ∈ l) :
    secState (setSecs h l st owner) k = st % 4 ∧ secOwner (setSecs h l st owner) k = owner % 2 ^ 16 := by
  induction l generalizing h with
  | nil => cases member
  | cons n l ih =>
    by_cases later : k ∈ l
    · exact ih (setSec h n st owner) later
    · obtain rfl : k = n := (List.mem_cons.mp member).resolve_right later
      obtain ⟨st', owner'⟩ := section_setSecs_of_not_mem (st := st) (owner := owner) l (setSec h k st owner) later
      exact ⟨st'.trans (secState_setSec h k st owner), owner'.trans (secOwner_setSec h k st owner)⟩

theorem mem_sections {h : Hw} {sess st n : Nat} : n ∈ sections h sess st ↔ n < 8 ∧ secOwner h n = sess ∧ secState h n = st := by
  simp [sections]

/-- Sections that pass to another state leave none in the state that they had. -/
theorem sections_setSecs (h : Hw) (sess owner : Nat) {st st' : Nat} (other : st' % 4 ≠ st) :
    sections (setSecs h (sections h sess st) st' owner) sess st = [] := by
  refine List.eq_nil_iff_forall_not_mem.mpr fun n member => ?_
  obtain ⟨small, owned, state⟩ := mem_sections.mp member
  by_cases passed : n ∈ sections h sess st
  · exact other ((section_setSecs_of_mem _ h passed).1.symm.trans state)
  · obtain ⟨state', owned'⟩ := section_setSecs_of_not_mem (st := st') (owner := owner) _ h passed
    exact passed (mem_sections.mpr ⟨small, owned'.symm.trans owned, state'.symm.trans state⟩)

/-- What `setF` leaves alone stays while sections pass. -/
theorem setSecs_keeps {α : Type} (π : Hw → α) (kept : ∀ h f d v, π (setF h f d v) = π h) (h : Hw) (l : List Nat) (st owner : Nat) :
    π (setSecs h l st owner) = π h :=
  foldl_keeps π _ l (fun h n => by rw [setSec, kept, kept]) h

/-! The start of an operation. -/

theorem startBlock_eq (h : Hw) (sess : Nat) (t : Txn) (o : TxnOrigin) : startBlock h sess t o =
    onMgmt (setSecs h (sections h sess 1) 2 sess) (fun m => { m with blocks := m.blocks ++ [{ session := sess, txn := t, origin := o }] }) := (rfl)

theorem block_started {s : State} {sess : Nat} {t : Txn} (idle : sessionBusy s.hw sess = false) (passed : t.blockStatus s.hw sess = 0) :
    s.block sess t = .next { s with hw := startBlock { s.hw with out := [] } sess t .direct } := by
  have idle : sessionBusy { s.hw with out := [] } sess = false := idle
  have passed : t.blockStatus { s.hw with out := [] } sess = 0 := passed
  rw [State.block, State.run_eq]
  simp only [idle, Bool.false_eq_true, if_false, passed, ne_eq, not_true_eq_false]

/-- What an operation leaves at its start: it is under way, and the Held sections of its session are in state Device. -/
theorem startBlock_leaves (h : Hw) (sess : Nat) (t : Txn) :
    (startBlock h sess t .direct).mgmt.blocks = h.mgmt.blocks ++ [{ session := sess, txn := t, origin := .direct }] ∧
    sections (startBlock h sess t .direct) sess 1 = [] ∧
    (∀ k ∈ sections h sess 1, secState (startBlock h sess t .direct) k = 2 ∧ secOwner (startBlock h sess t .direct) k = sess) ∧
    (startBlock h sess t .direct).mem = h.mem ∧ (startBlock h sess t .direct).out = h.out := by
  rw [startBlock_eq]
  refine ⟨?blocks, sections_setSecs h sess sess (by decide), fun k held => ?_, ?mem, ?out⟩
  case blocks => exact congrArg (·.blocks ++ [_]) (setSecs_keeps (·.mgmt) (fun _ _ _ _ => rfl) h _ 2 sess)
  case mem => exact setSecs_keeps (·.mem) (fun _ _ _ _ => rfl) h _ 2 sess
  case out => exact setSecs_keeps (·.out) (fun _ _ _ _ => rfl) h _ 2 sess
  · obtain ⟨state, owner⟩ := section_setSecs_of_mem (st := 2) (owner := sess) _ h held
    obtain ⟨-, owned, -⟩ := mem_sections.mp held
    have word : sess < 2 ^ 16 := owned ▸ bits_lt 15 0 _
    exact ⟨state, owner.trans (Nat.mod_eq_of_lt word)⟩

/-! The end of an operation. -/

/-- The state in which the oldest transaction under way is taken on. -/
def oldestTaken (h : Hw) : Hw := onMgmt h (fun m => { m with blocks := m.blocks.drop 1 })

theorem sections_onMgmt (h : Hw) (f : Mgmt → Mgmt) (sess st : Nat) : sections (onMgmt h f) sess st = sections h sess st := (rfl)

theorem sections_memStore (h : Hw) (a : Nat) (l : List (BitVec 8)) (sess st : Nat) : sections (memStore h a l) sess st = sections h sess st := by
  rw [memStore_eq]
  rfl

theorem freeBlock_eq {h : Hw} {b : BlockOp} (stays : b.release = false) :
    freeBlock h b = returnHeld (setSecs h (sections h b.session 2) 1 b.session) b.session := by
  simp [freeBlock, stays, setSecs]

theorem sections_freeBlock {h : Hw} {b : BlockOp} (stays : b.release = false) : sections (freeBlock h b) b.session 2 = [] := by
  rw [freeBlock_eq stays, returnHeld, sections_onMgmt]
  exact sections_setSecs h b.session b.session (by decide)

theorem freeBlock_keeps {α : Type} (π : Hw → α) (kept : ∀ h f d v, π (setF h f d v) = π h) (beside : ∀ h f, π (onMgmt h f) = π h)
    {h : Hw} {b : BlockOp} (stays : b.release = false) : π (freeBlock h b) = π h := by
  rw [freeBlock_eq stays, returnHeld, beside, setSecs_keeps π kept]

theorem mgmt_freeBlock {h : Hw} {b : BlockOp} (stays : b.release = false) :
    (freeBlock h b).mgmt.blocks = h.mgmt.blocks ∧ (freeBlock h b).mgmt.requests = h.mgmt.requests := by
  rw [freeBlock_eq stays]
  have same := setSecs_keeps (·.mgmt) (fun _ _ _ _ => rfl) h (sections h b.session 2) 1 b.session
  exact ⟨congrArg (·.blocks) same, congrArg (·.requests) same⟩

/-- The answer of an operation of its own goes to its session, and no request waits. -/
theorem deliverBlock_direct {h : Hw} {v : Vault} {b : BlockOp} {a : Answer} (direct : b.origin = .direct) (noRequests : h.mgmt.requests = []) :
    deliverBlock h v b a = reply (h, a) b.session := by
  have noRequests : (reply (h, a) b.session).mgmt.requests = [] := noRequests
  simp only [deliverBlock, direct, resumeRequests, noRequests]

/-- The one operation under way ends, with what it leaves and its answer. -/
theorem advanceBlocks_ends {h g : Hw} {v : Vault} {b : BlockOp} {a : Answer} (alone : h.mgmt.blocks = [b]) (begun : b.begun = true)
    (ends : advanceBlock (oldestTaken h) v b = (g, b, some a)) : advanceBlocks h v = deliverBlock g v b a := by
  have ends : advanceBlock (onMgmt h (fun m => { m with blocks := m.blocks.drop 1 })) v b = (g, b, some a) := ends
  simp only [advanceBlocks, alone, List.foldl_cons, List.foldl_nil, List.contains_nil, Bool.false_eq_true, if_false, advanceTxn, begun, if_true, ends]

theorem oldestTaken_blocks {h : Hw} {b : BlockOp} (alone : h.mgmt.blocks = [b]) : (oldestTaken h).mgmt.blocks = [] :=
  congrArg (·.drop 1) alone

/-- What the end of the one operation under way leaves, when `g` is what its effect left. -/
theorem advanceBlocks_leaves {h g : Hw} {v : Vault} {b : BlockOp} {a : Answer} (alone : h.mgmt.blocks = [b]) (begun : b.begun = true)
    (direct : b.origin = .direct) (stays : b.release = false) (noRequests : h.mgmt.requests = [])
    (ends : advanceBlock (oldestTaken h) v b = (freeBlock g b, b, some a)) (mgmt : g.mgmt = (oldestTaken h).mgmt) (out : g.out = h.out) :
    (advanceBlocks h v).mgmt.blocks = [] ∧ (advanceBlocks h v).mem = g.mem ∧
    (advanceBlocks h v).out = h.out ++ [.reply b.session a.status a.ty (leVal a.value) a.value.length] ∧
    sections (advanceBlocks h v) b.session 2 = [] := by
  obtain ⟨blocks, requests⟩ := mgmt_freeBlock (h := g) stays
  have noRequests : (freeBlock g b).mgmt.requests = [] := requests.trans ((congrArg (·.requests) mgmt).trans noRequests)
  have blocks : (freeBlock g b).mgmt.blocks = [] := blocks.trans ((congrArg (·.blocks) mgmt).trans (oldestTaken_blocks alone))
  have sent : (freeBlock g b).out = h.out := (freeBlock_keeps (·.out) (fun _ _ _ _ => rfl) (fun _ _ => rfl) stays).trans out
  rw [advanceBlocks_ends alone begun ends, deliverBlock_direct direct noRequests]
  exact ⟨blocks, freeBlock_keeps (·.mem) (fun _ _ _ _ => rfl) (fun _ _ => rfl) stays, congrArg (· ++ [_]) sent, sections_freeBlock stays⟩

theorem advanceBlock_cut {h : Hw} {v : Vault} {b : BlockOp} (cut : b.cut ≠ 0) :
    advanceBlock h v b = (freeBlock h b, b, some { status := b.cut }) := by
  simp [advanceBlock, cut]

theorem advanceBlock_moves {h : Hw} {v : Vault} {b : BlockOp} (whole : b.cut = 0) (fresh : b.staged = false) (awake : windowAsleep h = false)
    (read : b.txn.op = 7) : advanceBlock h v b =
      (freeBlock (moveBlock h v b.session b.txn).1 b, b, some (moveBlock h v b.session b.txn).2) := by
  simp [advanceBlock, whole, fresh, awake, writesSets, read]

/-- The bytes of a BLOB that a Block read of `n` bytes moves. -/
theorem moveBlock_read {h : Hw} {v : Vault} {sess : Nat} {t : Txn} {d : EntDef} (read : t.op = 7) (other : t.unit ≠ 0x1810)
    (found : objDef h t.unit t.param t.elem = some d) : moveBlock h v sess t =
      (memStore h (windowBase + t.first * 0x100000) ((blobValue h v t.unit t.param d.size).take t.length),
       { status := 0, ty := 3, value := leBytes 4 ((blobValue h v t.unit t.param d.size).take t.length).length }) := by
  simp [moveBlock, read, other, found]

/-- The transactions under way decide no value of a BLOB. -/
theorem blobValue_oldestTaken (h : Hw) (v : Vault) (u q n : Nat) : blobValue (oldestTaken h) v u q n = blobValue h v u q n := (rfl)
theorem windowAsleep_oldestTaken (h : Hw) : windowAsleep (oldestTaken h) = windowAsleep h := (rfl)
theorem objDef_oldestTaken (h : Hw) (u q e : Nat) : objDef (oldestTaken h) u q e = objDef h u q e := (rfl)

theorem memStore_oldestTaken (h : Hw) (a : Nat) (l : List (BitVec 8)) : (memStore (oldestTaken h) a l).mem = (memStore h a l).mem := by
  unfold memStore
  split <;> rfl

/-- BLOCK_READ and BLOCK_WRITE after their checks. -/
theorem block_begins {s : State} {sess op u q first n : Nat} (passed : blockStatus s.hw sess u q 0 first n (op == 8) false = 0)
    (hq : q < 0x1000) (hf : first < 8) (hn : n < 2 ^ 32) (idle : sessionBusy s.hw sess = false) :
    ∃ t, s.block sess (blockTxn op u q 0 first n) = .next t ∧
      t.hw.mgmt.blocks = s.hw.mgmt.blocks ++ [{ session := sess, txn := blockTxn op u q 0 first n, origin := .direct }] ∧
      sections t.hw sess 1 = [] ∧ (∀ k ∈ sections s.hw sess 1, secState t.hw k = 2 ∧ secOwner t.hw k = sess) ∧ t.hw.mem = s.hw.mem ∧
      t.hw.out = [] ∧ t.vault = s.vault ∧ t.pending = s.pending := by
  have passed : (blockTxn op u q 0 first n).blockStatus s.hw sess = 0 := by
    rw [blockTxn_status s.hw sess op u hq (by decide) (by omega) hn, passed]
  obtain ⟨blocks, held, device, mem, out⟩ := startBlock_leaves { s.hw with out := [] } sess (blockTxn op u q 0 first n)
  exact ⟨_, block_started idle passed, blocks, held, device, mem, out, rfl, rfl⟩

/-- Settles O5: each operation performs its record at once, but for the two block operations, which end with the next millisecond. -/
theorem objectTransactionsComplete : Obligations.ObjectTransactionsComplete := by
  refine ⟨?read, ?filter, ?each, ?describe, ?subscribe, ?unsubscribe, ?blockRead, ?blockWrite, ?ends, ?cut⟩
  case read =>
    intro sess u q d s std found served idle
    rw [exec_readObject_idle u (by omega) (by decide) idle, readOne_eq_standardAnswer _ _ _ _ (by omega), standardAnswer_out,
      standardAnswer_served found served, reply_unchanged]
  case filter =>
    intro sess u ty value s passed idle
    have passed : writeStatus { s.hw with out := [] } sess u 7 0 ty value = 0 := passed
    obtain ⟨d, found⟩ := objDef_of_written passed
    refine ⟨_, transact_idle _ idle, ?_⟩
    rw [transact_write_passed (by decide) (by decide) found passed, writeEffect_filter]
    refine ⟨fun m member => filter_setFilters _ _ (.inl member), reply_out ?out _ _, ?regs, ?mem, rfl, rfl⟩
    case out => exact setFilters_keeps (·.out) (fun _ _ _ => rfl) _ _ _
    case regs => exact setFilters_keeps (·.regs) (fun _ _ _ => rfl) _ _ _
    case mem => exact setFilters_keeps (·.mem) (fun _ _ _ => rfl) _ _ _
  case each =>
    intro sess u q s above std alone exist booted idle
    rw [exec_readEach_plain]
    refine ⟨_, transact_idle _ idle, ?_⟩
    rw [transact_readEach _ _ _ _ (by omega), readEach_leaf (h := { s.hw with out := [] }) above (by omega) alone exist booted,
      standardAnswer_out, reply_unchanged,
      readOne_eq_standardAnswer _ _ _ _ (by omega)]
    exact ⟨rfl, rfl, rfl, rfl, rfl⟩
  case describe =>
    intro sess u q e d s hq he found on idle
    obtain ⟨status, ty⟩ := describe_found (v := s.vault) found on
    refine ⟨_, transact_idle _ idle, ?_⟩
    rw [transact_describe, param_of_pe hq he, elem_of_pe q he, describe_out, reply_unchanged, status, ty]
    exact ⟨rfl, rfl, rfl, rfl, rfl⟩
  case subscribe =>
    intro sess u q e ty interval s hq he passed idle
    obtain ⟨sub, stands, session, path, object, every⟩ := subscribe_passed (h := { s.hw with out := [] }) (v := s.vault) passed
    refine ⟨_, transact_idle _ idle, ?_⟩
    rw [transact_subscribe _ _ _ _ _ hq he (interval_of_subscribed passed), stands]
    refine ⟨?_, reply_out rfl _ _, rfl, rfl, rfl⟩
    simp [reply, emit, onDict, session, path, object, every]
  case unsubscribe =>
    intro sess u q e d s hq he found on idle
    refine ⟨_, transact_idle _ idle, ?_⟩
    rw [transact_unsubscribe (h := { s.hw with out := [] }) hq he found on]
    exact ⟨rfl, reply_out rfl _ _, rfl, rfl, rfl⟩
  case blockRead => exact fun _ _ _ _ _ _ passed hq hf hn idle => block_begins (op := 7) passed hq hf hn idle
  case blockWrite => exact fun _ _ _ _ _ _ passed hq hf hn idle => block_begins (op := 8) passed hq hf hn idle
  case ends =>
    intro b d s alone noRequests begun whole fresh stays direct awake read other found
    have moved := moveBlock_read (v := s.vault) (sess := b.session) read other ((objDef_oldestTaken s.hw _ _ _).trans found)
    have ends := advanceBlock_moves (v := s.vault) whole fresh ((windowAsleep_oldestTaken s.hw).trans awake) read
    rw [moved, blobValue_oldestTaken] at ends
    obtain ⟨blocks, mem, out, free⟩ :=
      advanceBlocks_leaves alone begun direct stays noRequests ends (by rw [memStore_eq]) (by rw [memStore_eq]; rfl)
    exact ⟨blocks, mem.trans (memStore_oldestTaken s.hw _ _), out, free⟩
  case cut =>
    intro b s alone noRequests begun cut stays direct
    exact advanceBlocks_leaves alone begun direct stays noRequests (advanceBlock_cut cut) rfl rfl

end Sys2Proof.Machine
end

section
/-! What a transaction leaves of the ones under way: none ends or begins but by a block operation (R136, R189). -/
namespace Sys2Proof.Machine

/-- The sessions of the transactions that are under way, oldest first. -/
def awaited (h : Hw) : List Nat := h.mgmt.blocks.map (·.session)

theorem awaited_of_mgmt {g h : Hw} (mgmt : g.mgmt = h.mgmt) : awaited g = awaited h := by
  rw [awaited, mgmt, awaited]

@[simp] theorem awaited_ite (c : Prop) [Decidable c] (g h : Hw) : awaited (if c then g else h) = if c then awaited g else awaited h :=
  apply_ite awaited c g h

/-- A choice between two changes, each of which keeps them. -/
theorem awaited_branch {c : Prop} [Decidable c] {g h k : Hw} (yes : awaited g = awaited k) (no : awaited h = awaited k) :
    awaited (if c then g else h) = awaited k := by
  split
  · exact yes
  · exact no

@[simp] theorem awaited_foldl {β : Type} {f : Hw → β → Hw} (kept : ∀ h b, awaited (f h b) = awaited h) (l : List β) (h : Hw) :
    awaited (l.foldl f h) = awaited h :=
  foldl_keeps awaited f l kept h

/-- A fold that carries a result beside the hardware. -/
@[simp] theorem awaited_foldl_fst {α β : Type} {f : Hw × α → β → Hw × α} (kept : ∀ r b, awaited (f r b).1 = awaited r.1)
    (l : List β) (r : Hw × α) : awaited (l.foldl f r).1 = awaited r.1 := by
  induction l generalizing r with
  | nil => rfl
  | cons b l ih => rw [List.foldl_cons, ih, kept]

@[simp] theorem awaited_out (h : Hw) (o : List Output) : awaited { h with out := o } = awaited h := (rfl)
@[simp] theorem awaited_mem (h : Hw) (m : List Host.Cell) : awaited { h with mem := m } = awaited h := (rfl)

/-- A change of the management block that leaves the transactions under way as they are. -/
@[simp] theorem awaited_onMgmt {f : Mgmt → Mgmt} (kept : ∀ m : Mgmt, (f m).blocks.map (·.session) = m.blocks.map (·.session)) (h : Hw) :
    awaited (onMgmt h f) = awaited h :=
  kept h.mgmt

/-- A command's meaning that a register write carries out. -/
theorem awaited_perform {f : State → Res} {g : Hw → Hw} (meaning : ∀ s, f s = s.run g) (kept : ∀ h, awaited (g h) = awaited h) (h : Hw) :
    awaited (perform h f) = awaited h := by
  simp only [perform, meaning, State.run_eq]
  exact (kept _).trans rfl

/-! Parts of the state. -/

@[simp] theorem awaited_setReg (h : Hw) (a w : Nat) : awaited (setReg h a w) = awaited h := awaited_of_mgmt (setReg_mgmt _ _ _)
@[simp] theorem awaited_setF (h : Hw) (f : Fld) (d v : Nat) : awaited (setF h f d v) = awaited h := awaited_of_mgmt (setF_mgmt _ _ _ _)
@[simp] theorem awaited_addF (h : Hw) (f : Fld) (d n : Nat) : awaited (addF h f d n) = awaited h := awaited_of_mgmt (addF_mgmt _ _ _ _)
@[simp] theorem awaited_satF (h : Hw) (f : Fld) (d n : Nat) : awaited (satF h f d n) = awaited h := awaited_of_mgmt (satF_mgmt _ _ _ _)
@[simp] theorem awaited_setS (h : Hw) (f : Fld) (d : Nat) (i : Int) : awaited (setS h f d i) = awaited h :=
  awaited_of_mgmt (setS_mgmt _ _ _ _)
@[simp] theorem awaited_resetRegs (h : Hw) (k : ResetKind) (sel : Nat → Bool) : awaited (resetRegs h k sel) = awaited h :=
  awaited_of_mgmt (resetRegs_mgmt _ _ _)
@[simp] theorem awaited_emit (h : Hw) (o : Output) : awaited (emit h o) = awaited h := awaited_of_mgmt (emit_mgmt _ _)
@[simp] theorem awaited_onChan (h : Hw) (c : Nat) (f : Channel → Channel) : awaited (onChan h c f) = awaited h :=
  awaited_of_mgmt (onChan_mgmt _ _ _)
@[simp] theorem awaited_onPath (h : Hw) (c : Nat) (f : SectorPath → SectorPath) : awaited (onPath h c f) = awaited h :=
  awaited_of_mgmt (onPath_mgmt _ _ _)
@[simp] theorem awaited_onFmt (h : Hw) (c : Nat) (f : Formatter → Formatter) : awaited (onFmt h c f) = awaited h :=
  awaited_of_mgmt (onFmt_mgmt _ _ _)
@[simp] theorem awaited_onServo (h : Hw) (c : Nat) (f : Servo → Servo) : awaited (onServo h c f) = awaited h :=
  awaited_of_mgmt (onServo_mgmt _ _ _)
@[simp] theorem awaited_onCal (h : Hw) (c : Nat) (f : Calib → Calib) : awaited (onCal h c f) = awaited h :=
  awaited_of_mgmt (onCal_mgmt _ _ _)
@[simp] theorem awaited_onDrive (h : Hw) (c : Nat) (f : Drive → Drive) : awaited (onDrive h c f) = awaited h :=
  awaited_of_mgmt (onDrive_mgmt _ _ _)

@[simp] theorem awaited_onPort (h : Hw) (p : Nat) (f : Port → Port) : awaited (onPort h p f) = awaited h := by
  unfold onPort
  split <;> rfl

@[simp] theorem awaited_onEngine (h : Hw) (f : Engine → Engine) : awaited (onEngine h f) = awaited h := awaited_of_mgmt (onEngine_mgmt _ _)
@[simp] theorem awaited_onCipher (h : Hw) (f : Cipher → Cipher) : awaited (onCipher h f) = awaited h := awaited_of_mgmt (onCipher_mgmt _ _)
@[simp] theorem awaited_onLog (h : Hw) (f : Recorder → Recorder) : awaited (onLog h f) = awaited h := awaited_of_mgmt (onLog_mgmt _ _)
@[simp] theorem awaited_onBoot (h : Hw) (f : Boot → Boot) : awaited (onBoot h f) = awaited h := awaited_of_mgmt (onBoot_mgmt _ _)
@[simp] theorem awaited_onIsland (h : Hw) (f : Island → Island) : awaited (onIsland h f) = awaited h := awaited_of_mgmt (onIsland_mgmt _ _)
@[simp] theorem awaited_onSpindle (h : Hw) (f : Spindle → Spindle) : awaited (onSpindle h f) = awaited h :=
  awaited_of_mgmt (onSpindle_mgmt _ _)
@[simp] theorem awaited_onCluster (h : Hw) (f : Cluster → Cluster) : awaited (onCluster h f) = awaited h :=
  awaited_of_mgmt (onCluster_mgmt _ _)
@[simp] theorem awaited_onBuffer (h : Hw) (f : Buffer → Buffer) : awaited (onBuffer h f) = awaited h := awaited_of_mgmt (onBuffer_mgmt _ _)
@[simp] theorem awaited_onDict (h : Hw) (f : Dict → Dict) : awaited (onDict h f) = awaited h := awaited_of_mgmt (onDict_mgmt _ _)
@[simp] theorem awaited_onCore (h : Hw) (k : Nat) (f : CoreSt → CoreSt) : awaited (onCore h k f) = awaited h :=
  awaited_of_mgmt (onCore_mgmt _ _ _)
@[simp] theorem awaited_onDma (h : Hw) (n : Nat) (f : DmaCh → DmaCh) : awaited (onDma h n f) = awaited h :=
  awaited_of_mgmt (onDma_mgmt _ _ _)
@[simp] theorem awaited_drawn (h : Hw) : awaited (drawn h) = awaited h := awaited_of_mgmt (drawn_mgmt _)
@[simp] theorem awaited_loseWrite (h : Hw) (page src off : Nat) : awaited (loseWrite h page src off) = awaited h := by simp [loseWrite]
@[simp] theorem awaited_setLive (h : Hw) (u p e v : Nat) : awaited (setLive h u p e v) = awaited h :=
  awaited_of_mgmt (setLive_mgmt _ _ _ _ _)
@[simp] theorem awaited_stepEnd (h : Hw) (c : Nat) : awaited (stepEnd h c) = awaited h := by simp [stepEnd]
@[simp] theorem awaited_calBoundary (h : Hw) (c : Nat) : awaited (calBoundary h c) = awaited h := by simp [calBoundary]

/-! The read channel and its sectors. -/

@[simp] theorem awaited_loadStaging (h : Hw) (c k : Nat) : awaited (loadStaging h c k) = awaited h := by simp [loadStaging]
@[simp] theorem awaited_commitSet (h : Hw) (c k : Nat) : awaited (commitSet h c k) = awaited h := by simp [commitSet]
@[simp] theorem awaited_dropUpdates (h : Hw) (c k : Nat) : awaited (dropUpdates h c k) = awaited h := by simp [dropUpdates]
@[simp] theorem awaited_saveSets (h : Hw) (c : Nat) : awaited (saveSets h c) = awaited h := by simp [saveSets]
@[simp] theorem awaited_saveSetsOf (h : Hw) (cs : List Nat) : awaited (saveSetsOf h cs) = awaited h := by simp [saveSetsOf]
@[simp] theorem awaited_boundaryCommits (h : Hw) (c hd : Nat) : awaited (boundaryCommits h c hd) = awaited h := by simp [boundaryCommits]
@[simp] theorem awaited_reportRead (h : Hw) (c : Nat) (r : ChResult) : awaited (reportRead h c r) = awaited h := by simp [reportRead]
@[simp] theorem awaited_showQueue (h : Hw) (c : Nat) : awaited (showQueue h c) = awaited h := by simp [showQueue]
@[simp] theorem awaited_failOnTheFly (h : Hw) (c : Nat) (x : ChSector) : awaited (failOnTheFly h c x) = awaited h := by simp [failOnTheFly]
@[simp] theorem awaited_fileVerify (h : Hw) (c : Nat) (x : ChSector) (overflow : Bool) : awaited (fileVerify h c x overflow) = awaited h := by
  simp [fileVerify]

@[simp] theorem awaited_overflowQueue (h : Hw) (c : Nat) : awaited (overflowQueue h c) = awaited h := by
  unfold overflowQueue
  dsimp only
  (repeat' split) <;> simp

@[simp] theorem awaited_sendGate (h : Hw) (c signal : Nat) (was level : Bool) (ps : Int) :
    awaited (sendGate h c signal was level ps) = awaited h := by
  simp [sendGate]
@[simp] theorem awaited_endRun (h : Hw) (c : Nat) : awaited (endRun h c) = awaited h := by simp [endRun]

@[simp] theorem awaited_showAsperity (h : Hw) (c : Nat) : awaited (showAsperity h c) = awaited h := by
  unfold showAsperity
  dsimp only
  (repeat' split) <;> simp

@[simp] theorem awaited_showSlip (h : Hw) (c : Nat) : awaited (showSlip h c) = awaited h := by
  unfold showSlip
  dsimp only
  (repeat' split) <;> simp

@[simp] theorem awaited_sectorMeasures (h : Hw) (c : Nat) (x : ChSector) : awaited (sectorMeasures h c x).1 = awaited h := by
  simp [sectorMeasures]
@[simp] theorem awaited_noteMiss (h : Hw) (c id : Nat) : awaited (noteMiss h c id) = awaited h := by simp [noteMiss]

@[simp] theorem awaited_showRest (h : Hw) (c : Nat) : awaited (showRest h c) = awaited h := by
  unfold showRest
  (repeat' split) <;> simp

@[simp] theorem awaited_leaveSector (h : Hw) (c hd : Nat) : awaited (leaveSector h c hd) = awaited h := by simp [leaveSector]

@[simp] theorem awaited_endSector (h : Hw) (c : Nat) : awaited (endSector h c) = awaited h := by
  unfold endSector
  dsimp only
  (repeat' split) <;> simp

@[simp] theorem awaited_failSector (h : Hw) (c : Nat) (x : ChSector) : awaited (failSector h c x) = awaited h := by simp [failSector]

@[simp] theorem awaited_flushChannel (h : Hw) (c : Nat) : awaited (flushChannel h c) = awaited h := by
  unfold flushChannel
  dsimp only
  split <;> simp [-Option.foldl_toList]

@[simp] theorem awaited_frontEndStop (h : Hw) (c : Nat) : awaited (frontEndStop h c) = awaited h := by
  unfold frontEndStop
  dsimp only
  (repeat' split) <;> simp

/-! Stops of units. -/

@[simp] theorem awaited_makeCheckpoint (h : Hw) (c : Nat) (orderly : Bool) : awaited (makeCheckpoint h c orderly) = awaited h := by
  simp [makeCheckpoint]
@[simp] theorem awaited_resetUnitRegs (h : Hw) (u : Nat) : awaited (resetUnitRegs h u) = awaited h :=
  awaited_of_mgmt (resetUnitRegs_mgmt _ _)

@[simp] theorem awaited_showReq (h : Hw) (c : Nat) : awaited (showReq h c) = awaited h := by
  unfold showReq
  dsimp only
  (repeat' split) <;> simp

@[simp] theorem awaited_completeReq (h : Hw) (c : Nat) (r : FmReq) (status prog : Nat) : awaited (completeReq h c r status prog) = awaited h := by
  simp [completeReq]

@[simp] theorem awaited_completeRunning (h : Hw) (c status : Nat) : awaited (completeRunning h c status) = awaited h := by
  unfold completeRunning
  (repeat' split) <;> simp

@[simp] theorem awaited_endRoutine (h : Hw) (c : Nat) : awaited (endRoutine h c) = awaited h := by simp [endRoutine]
@[simp] theorem awaited_showStu (h : Hw) (c : Nat) : awaited (showStu h c) = awaited h := by simp [showStu]
@[simp] theorem awaited_stopFormatter (h : Hw) (c : Nat) : awaited (stopFormatter h c) = awaited h := by simp [stopFormatter]
@[simp] theorem awaited_pendLevel (h : Hw) (c n : Nat) : awaited (pendLevel h c n) = awaited h := by simp [pendLevel]
@[simp] theorem awaited_showSync (h : Hw) (c hd : Nat) : awaited (showSync h c hd) = awaited h := by simp [showSync]
@[simp] theorem awaited_setSv (h : Hw) (c st : Nat) : awaited (setSv h c st) = awaited h := by simp [setSv]
@[simp] theorem awaited_showLimits (h : Hw) (c : Nat) : awaited (showLimits h c) = awaited h := by simp [showLimits]
@[simp] theorem awaited_assertUnsafe (h : Hw) (c : Nat) : awaited (assertUnsafe h c) = awaited h := by simp [assertUnsafe]
@[simp] theorem awaited_restServo (h : Hw) (c : Nat) : awaited (restServo h c) = awaited h := by simp [restServo]
@[simp] theorem awaited_parkServo (h : Hw) (c : Nat) : awaited (parkServo h c) = awaited h := by simp [parkServo]
@[simp] theorem awaited_servoOff (h : Hw) (c : Nat) : awaited (servoOff h c) = awaited h := by simp [servoOff]
@[simp] theorem awaited_holdHere (h : Hw) (c : Nat) : awaited (holdHere h c) = awaited h := by simp [holdHere]
@[simp] theorem awaited_headStop (h : Hw) (c hd : Nat) : awaited (headStop h c hd) = awaited h := by simp [headStop]
@[simp] theorem awaited_pinHead (h : Hw) (c hd : Nat) : awaited (pinHead h c hd) = awaited h := by simp [pinHead]
@[simp] theorem awaited_onUnit (h : Hw) (u : Nat) (f : UnitSt → UnitSt) : awaited (onUnit h u f) = awaited h :=
  awaited_of_mgmt (onUnit_mgmt _ _ _)
@[simp] theorem awaited_setCause (h : Hw) (u k : Nat) (on : Bool) : awaited (setCause h u k on) = awaited h :=
  awaited_of_mgmt (setCause_mgmt _ _ _ _)
@[simp] theorem awaited_stopDma (h : Hw) (n : Nat) : awaited (stopDma h n) = awaited h := by simp [stopDma]

@[simp] theorem awaited_issueAgain (h : Hw) : awaited (issueAgain h) = awaited h := by
  unfold issueAgain
  exact awaited_foldl (fun h n => by split <;> simp) _ h

@[simp] theorem awaited_showKeys (h : Hw) : awaited (showKeys h) = awaited h := by simp [showKeys]
@[simp] theorem awaited_showRekeys (h : Hw) : awaited (showRekeys h) = awaited h := by simp [showRekeys]

@[simp] theorem awaited_showRekey (h : Hw) (c : Nat) : awaited (showRekey h c) = awaited h := by
  unfold showRekey
  (repeat' split) <;> simp

@[simp] theorem awaited_showCipher (h : Hw) : awaited (showCipher h) = awaited h := by simp [showCipher]
@[simp] theorem awaited_emptyBuckets (h : Hw) : awaited (emptyBuckets h) = awaited h := by simp [emptyBuckets]
@[simp] theorem awaited_restartCore (h : Hw) (k : Nat) : awaited (restartCore h k) = awaited h := by simp [restartCore]

@[simp] theorem awaited_unitStop (h : Hw) (u : Nat) : awaited (unitStop h u) = awaited h := by
  unfold unitStop
  (repeat' split) <;> simp

/-! Records, alerts, resets, fences and faults. -/

@[simp] theorem awaited_setFence (h : Hw) (k v : Nat) : awaited (setFence h k v) = awaited h := awaited_of_mgmt (setFence_mgmt _ _ _)
@[simp] theorem awaited_raiseRecord (h : Hw) (u code severity detail : Nat) (forced : Bool) :
    awaited (raiseRecord h u code severity detail forced) = awaited h :=
  awaited_of_mgmt (raiseRecord_mgmt _ _ _ _ _ _)
@[simp] theorem awaited_ruleRecord (h : Hw) (u n severity detail : Nat) : awaited (ruleRecord h u n severity detail) = awaited h :=
  awaited_of_mgmt (ruleRecord_mgmt _ _ _ _ _)

@[simp] theorem awaited_txFrame (h : Hw) (f : Frame) : awaited (txFrame h f) = awaited h := by
  unfold txFrame
  (repeat' split) <;> simp

@[simp] theorem awaited_raiseAlert (h : Hw) (code detail : Nat) : awaited (raiseAlert h code detail) = awaited h := by
  unfold raiseAlert
  dsimp only
  (repeat' split) <;> simp

@[simp] theorem awaited_askStair4 (h : Hw) (code : Nat) : awaited (askStair4 h code) = awaited h := by simp [askStair4]
@[simp] theorem awaited_stopAlive (h : Hw) (cause : Nat) : awaited (stopAlive h cause) = awaited h := awaited_of_mgmt (stopAlive_mgmt _ _)
@[simp] theorem awaited_haltStart (h : Hw) : awaited (haltStart h) = awaited h := by simp [haltStart]
@[simp] theorem awaited_startRetract (h : Hw) (c : Nat) : awaited (startRetract h c) = awaited h := awaited_of_mgmt (startRetract_mgmt _ _)
@[simp] theorem awaited_retractAll (h : Hw) : awaited (retractAll h) = awaited h := awaited_of_mgmt (retractAll_mgmt _)
@[simp] theorem awaited_takeReset (h : Hw) (cause u : Nat) : awaited (takeReset h cause u) = awaited h := by simp [takeReset]
@[simp] theorem awaited_loadSpeedGains (h : Hw) : awaited (loadSpeedGains h) = awaited h := by simp [loadSpeedGains]

@[simp] theorem awaited_cutBlocks (h : Hw) (us : List Nat) (st : Nat) : awaited (cutBlocks h us st) = awaited h := by
  refine awaited_onMgmt (fun m => ?_) h
  rw [List.map_map]
  exact List.map_congr_left fun b _ => by dsimp only [Function.comp]; split <;> rfl

@[simp] theorem awaited_beginReinit (h : Hw) (u : Nat) : awaited (beginReinit h u) = awaited h := by
  unfold beginReinit
  dsimp only
  (repeat' split) <;> simp

@[simp] theorem awaited_startProgress (h : Hw) : awaited (startProgress h) = awaited h := by simp [startProgress]
@[simp] theorem awaited_carriageOut (h : Hw) (c : Nat) : awaited (carriageOut h c) = awaited h := by simp [carriageOut]

@[simp] theorem awaited_fenceEffects (h : Hw) (k : Nat) : awaited (fenceEffects h k) = awaited h := by
  unfold fenceEffects
  dsimp only
  (repeat' split) <;> simp

@[simp] theorem awaited_fenceByFault (h : Hw) (u : Nat) : awaited (fenceByFault h u) = awaited h := by simp [fenceByFault]
@[simp] theorem awaited_s2ByFault (h : Hw) (u : Nat) : awaited (s2ByFault h u) = awaited h := by simp [s2ByFault]

@[simp] theorem awaited_react (h : Hw) (u k : Nat) (r : Reaction) : awaited (react h u k r) = awaited h := by
  unfold react
  (repeat' split) <;> simp

@[simp] theorem awaited_raiseFault (h : Hw) (u k : Nat) (forced : Bool) : awaited (raiseFault h u k forced) = awaited h := by
  simp [raiseFault]

/-! Memory and the DMA channels. -/

@[simp] theorem awaited_memStore (h : Hw) (a : Nat) (l : List (BitVec 8)) : awaited (memStore h a l) = awaited h := by
  unfold memStore
  (repeat' split) <;> simp

@[simp] theorem awaited_beatWritten (h : Hw) (a : Nat) : awaited (beatWritten h a) = awaited h := by
  unfold beatWritten
  (repeat' split) <;> simp

@[simp] theorem awaited_putBeat (h : Hw) (a : Nat) (l : List (BitVec 8)) : awaited (putBeat h a l) = awaited h := by simp [putBeat]
@[simp] theorem awaited_poisonFound (h : Hw) (a : Nat) : awaited (poisonFound h a) = awaited h := by simp [poisonFound]

@[simp] theorem awaited_uncorrectable (h : Hw) (a : Nat) (group : Bool) : awaited (uncorrectable h a group) = awaited h := by
  unfold uncorrectable
  dsimp only
  (repeat' split) <;> simp

@[simp] theorem awaited_setCur (h : Hw) (n a : Nat) : awaited (setCur h n a) = awaited h := by simp [setCur]
@[simp] theorem awaited_enterState (h : Hw) (n k : Nat) : awaited (enterState h n k) = awaited h := by simp [enterState]
@[simp] theorem awaited_refuseDma (h : Hw) : awaited (refuseDma h) = awaited h := by simp [refuseDma]
@[simp] theorem awaited_queueRecord (h : Hw) (n : Nat) (r : DmaRec) (after : AfterRec) : awaited (queueRecord h n r after) = awaited h := by
  simp [queueRecord]

@[simp] theorem awaited_haltOthers (h : Hw) (n : Nat) : awaited (haltOthers h n) = awaited h := by
  unfold haltOthers
  refine awaited_foldl (fun h k => ?_) _ h
  (repeat' split) <;> simp

@[simp] theorem awaited_busError (h : Hw) (n st a : Nat) : awaited (busError h n st a) = awaited h := by simp [busError]
@[simp] theorem awaited_endBad (h : Hw) (n st a : Nat) : awaited (endBad h n st a) = awaited h := by simp [endBad]

@[simp] theorem awaited_readBack (h : Hw) (n : Nat) : awaited (readBack h n).1 = awaited h := by
  unfold readBack
  (repeat' split) <;> simp

@[simp] theorem awaited_stopChannel (h : Hw) (n : Nat) : awaited (stopChannel h n) = awaited h := by
  unfold stopChannel
  extract_lets g
  have started : awaited g = awaited h := awaited_setF h _ _ _
  clear_value g
  rw [← started]
  split
  · rfl
  · split
    · rfl
    · rw [← awaited_readBack g n]
      obtain ⟨k, bad⟩ := readBack g n
      cases bad with
      | none => exact awaited_queueRecord k n _ _
      | some x => exact awaited_endBad k n x.1 x.2
  · exact awaited_enterState g n 0

@[simp] theorem awaited_writeRecord (h : Hw) (n : Nat) : awaited (writeRecord h n) = awaited h := by
  unfold writeRecord
  dsimp only
  (repeat' split) <;> simp

@[simp] theorem awaited_shutChannel (h : Hw) (n : Nat) : awaited (shutChannel h n) = awaited h := by simp [shutChannel]
@[simp] theorem awaited_shutDma (h : Hw) : awaited (shutDma h) = awaited h := by simp [shutDma]

/-! Domains on and off. -/

@[simp] theorem awaited_dropFlight (h : Hw) (p : Nat) : awaited (dropFlight h p) = awaited h := by
  unfold dropFlight
  split
  · rw [awaited_loseWrite]
    rfl
  · rfl

@[simp] theorem awaited_domainFar (h : Hw) (d : Nat) : awaited (domainFar h d) = awaited h := by simp [domainFar]
@[simp] theorem awaited_domainOnOp (h : Hw) (d : Nat) : awaited (domainOnOp h d) = awaited h := by simp [domainOnOp]
@[simp] theorem awaited_saveDomain (h : Hw) (d : Nat) : awaited (saveDomain h d) = awaited h := by simp [saveDomain]
@[simp] theorem awaited_loseDomain (h : Hw) (d : Nat) : awaited (loseDomain h d) = awaited h := by simp [loseDomain]

@[simp] theorem awaited_restoreDomain (h : Hw) (d : Nat) : awaited (restoreDomain h d) = awaited h := by
  unfold restoreDomain
  rw [awaited_onIsland]
  exact awaited_foldl (fun h p => by split <;> simp) _ h

@[simp] theorem awaited_domainOffOp (h : Hw) (d : Nat) : awaited (domainOffOp h d) = awaited h := by simp [domainOffOp]
@[simp] theorem awaited_l2Invalidate (h : Hw) : awaited (l2Invalidate h) = awaited h := by simp [l2Invalidate]
@[simp] theorem awaited_saveTables (h : Hw) (c : Nat) : awaited (saveTables h c) = awaited h := by simp [saveTables]
@[simp] theorem awaited_saveWork (h : Hw) (cs : List Nat) : awaited (saveWork h cs) = awaited h := by simp [saveWork]
@[simp] theorem awaited_saveAll (h : Hw) : awaited (saveAll h) = awaited h := by simp [saveAll]

@[simp] theorem awaited_loseInside (h : Hw) (d : Nat) : awaited (loseInside h d) = awaited h := by
  unfold loseInside
  dsimp only
  (repeat' split) <;> rfl

@[simp] theorem awaited_flushCache (h : Hw) : awaited (flushCache h) = awaited h := by simp [flushCache]
@[simp] theorem awaited_powerDown (h : Hw) (d : Nat) : awaited (powerDown h d) = awaited h := by simp [powerDown]
@[simp] theorem awaited_loadCheckpoint (h : Hw) (c : Nat) : awaited (loadCheckpoint h c) = awaited h := by simp [loadCheckpoint]
@[simp] theorem awaited_takeThresholds (h : Hw) (die : Nat) : awaited (takeThresholds h die) = awaited h := by simp [takeThresholds]

@[simp] theorem awaited_powerUp (h : Hw) (d : Nat) : awaited (powerUp h d) = awaited h := by
  unfold powerUp
  refine awaited_branch rfl ?_
  extract_lets powered woken restored locked
  have back : awaited restored = awaited h := by
    rw [awaited_restoreDomain]
    exact awaited_branch ((awaited_l2Invalidate _).trans (awaited_domainOnOp h d)) (awaited_domainOnOp h d)
  have cores : awaited locked = awaited h := (awaited_setF restored _ _ _).trans back
  clear_value restored locked
  rw [← back] at cores ⊢
  (repeat' split) <;> simp [cores]

@[simp] theorem awaited_powerUpMotor (h : Hw) (d : Nat) : awaited (powerUpMotor h d) = awaited h := by simp [powerUpMotor]

/-! The motor die. -/

@[simp] theorem awaited_startUnload (h : Hw) (c : Nat) : awaited (startUnload h c) = awaited h := by simp [startUnload]
@[simp] theorem awaited_setSp (h : Hw) (st : Nat) : awaited (setSp h st) = awaited h := by simp [setSp]
@[simp] theorem awaited_ecalFail (h : Hw) (c : Nat) : awaited (ecalFail h c) = awaited h := by simp [ecalFail]
@[simp] theorem awaited_ecalFailAll (h : Hw) : awaited (ecalFailAll h) = awaited h := by simp [ecalFailAll]
@[simp] theorem awaited_loopsOff (h : Hw) : awaited (loopsOff h) = awaited h := by simp [loopsOff]
@[simp] theorem awaited_coast (h : Hw) : awaited (coast h) = awaited h := by simp [coast]
@[simp] theorem awaited_spFault (h : Hw) : awaited (spFault h) = awaited h := by simp [spFault]
@[simp] theorem awaited_brake (h : Hw) (align : Bool) (ms : Nat) : awaited (brake h align ms) = awaited h := by simp [brake]
@[simp] theorem awaited_measure (h : Hw) : awaited (measure h) = awaited h := by simp [measure]
@[simp] theorem awaited_unloadAll (h : Hw) : awaited (unloadAll h) = awaited h := by simp [unloadAll]
@[simp] theorem awaited_spindleStop (h : Hw) : awaited (spindleStop h) = awaited h := by simp [spindleStop]

/-! Fences, re-initialisation and power of units. -/

@[simp] theorem awaited_fenceLeaf (h : Hw) (u : Nat) : awaited (fenceLeaf h u) = awaited h := by simp [fenceLeaf]
@[simp] theorem awaited_fencePath (h : Hw) (p : Nat) : awaited (fencePath h p) = awaited h := by simp [fencePath]
@[simp] theorem awaited_unfenceSet (h : Hw) (k : Nat) : awaited (unfenceSet h k) = awaited h := by simp [unfenceSet]
@[simp] theorem awaited_unfencePath (h : Hw) (p : Nat) : awaited (unfencePath h p) = awaited h := by simp [unfencePath]
@[simp] theorem awaited_removeFromStart (h : Hw) (p : Nat) : awaited (removeFromStart h p) = awaited h := by simp [removeFromStart]
@[simp] theorem awaited_reinitPath (h : Hw) (p : Nat) : awaited (reinitPath h p) = awaited h := by simp [reinitPath]
@[simp] theorem awaited_acknowledgePath (h : Hw) (p : Nat) : awaited (acknowledgePath h p) = awaited h := by simp [acknowledgePath]
@[simp] theorem awaited_requestPower (h : Hw) (u v : Nat) : awaited (requestPower h u v) = awaited h := by simp [requestPower]
theorem awaited_forceBits {raise : Hw → Nat → Hw} (kept : ∀ h k, awaited (raise h k) = awaited h) (h : Hw) (u mask : Nat) :
    awaited (forceBits h u mask raise) = awaited h :=
  awaited_foldl (fun h k => by split <;> simp [kept]) _ h

/-! The start, power states and limits. -/

@[simp] theorem awaited_fenceCarriage (h : Hw) (c : Nat) : awaited (fenceCarriage h c) = awaited h := by simp [fenceCarriage]

@[simp] theorem awaited_startFail (h : Hw) (k detail : Nat) : awaited (startFail h k detail) = awaited h := by
  unfold startFail
  dsimp only
  (repeat' split) <;> simp

@[simp] theorem awaited_acceptImage (h : Hw) (slot : Nat) (i : ImageHeader) : awaited (acceptImage h slot i) = awaited h := by
  simp [acceptImage]
@[simp] theorem awaited_takePowerState (h : Hw) : awaited (takePowerState h) = awaited h := by simp [takePowerState]
@[simp] theorem awaited_endExit (h : Hw) : awaited (endExit h) = awaited h := by simp [endExit]

@[simp] theorem awaited_setLimits (h : Hw) (st : Nat) : awaited (setLimits h st) = awaited h := by
  unfold setLimits
  (repeat' split) <;> simp

@[simp] theorem awaited_switchDomains (h : Hw) (st : Nat) : awaited (switchDomains h st) = awaited h := by simp [switchDomains]
@[simp] theorem awaited_completeTransition (h : Hw) : awaited (completeTransition h) = awaited h := by simp [completeTransition]
@[simp] theorem awaited_execPwPscmdGo (h : Hw) (data : Nat) : awaited (perform h (execPwPscmdGo data)) = awaited h :=
  awaited_perform (fun _ => rfl) (fun h => by simp) h

/-! Servo frames, the recorder and the thermal block. -/

@[simp] theorem awaited_startFrame (h : Hw) (c : Nat) : awaited (startFrame h c) = awaited h := by
  unfold startFrame
  dsimp only
  (repeat' split) <;> simp

@[simp] theorem awaited_queueFrame (h : Hw) (c word data : Nat) : awaited (queueFrame h c word data) = awaited h := by simp [queueFrame]
@[simp] theorem awaited_queueSelect (h : Hw) (c hd : Nat) : awaited (queueSelect h c hd) = awaited h := by simp [queueSelect]

@[simp] theorem awaited_beginSearch (h : Hw) (c : Nat) : awaited (beginSearch h c) = awaited h := by
  unfold beginSearch
  dsimp only
  (repeat' split) <;> simp

@[simp] theorem awaited_execEvFwcodeWrite (h : Hw) (data : Nat) : awaited (perform h (execEvFwcodeWrite data)) = awaited h :=
  awaited_perform (fun _ => rfl) (fun h => by simp) h
@[simp] theorem awaited_execEvPslotGo (h : Hw) (data : Nat) : awaited (perform h (execEvPslotGo data)) = awaited h :=
  awaited_perform (fun _ => rfl) (fun h => by simp) h
@[simp] theorem awaited_clearBelow (h : Hw) (pos : Nat) : awaited (clearBelow h pos) = awaited h := by simp [clearBelow]
@[simp] theorem awaited_clearFront (h : Hw) : awaited (clearFront h) = awaited h := by simp [clearFront]
@[simp] theorem awaited_onThermal (h : Hw) (die : Nat) (f : Thermal → Thermal) : awaited (onThermal h die f) = awaited h := by
  simp [onThermal]
@[simp] theorem awaited_stopWrites (h : Hw) (c : Nat) : awaited (stopWrites h c) = awaited h := by simp [stopWrites]
@[simp] theorem awaited_beginHold (h : Hw) : awaited (beginHold h) = awaited h := by simp [beginHold]
@[simp] theorem awaited_heatCause (h : Hw) (die : Nat) (on : Bool) : awaited (heatCause h die on) = awaited h := by simp [heatCause]
@[simp] theorem awaited_raiseThermal (h : Hw) (die severity code : Nat) (forced : Bool) :
    awaited (raiseThermal h die severity code forced) = awaited h := by
  simp [raiseThermal]
@[simp] theorem awaited_thermalShutdown (h : Hw) (die : Nat) (forced : Bool) : awaited (thermalShutdown h die forced) = awaited h := by
  simp [thermalShutdown]
@[simp] theorem awaited_execThForceWrite (h : Hw) (die source data : Nat) :
    awaited (perform h (execThForceWrite die source data)) = awaited h :=
  awaited_perform (fun _ => rfl) (fun h => by simp) h
@[simp] theorem awaited_heartbeatMiss (h : Hw) (unbeaten : Bool) : awaited (heartbeatMiss h unbeaten) = awaited h := by simp [heartbeatMiss]
@[simp] theorem awaited_execThHbeatWrite (h : Hw) (key : Nat) : awaited (perform h (execThHbeatWrite key)) = awaited h :=
  awaited_perform (fun _ => rfl) (fun h => by simp) h

/-! Spindle, actuator, servo, preamplifier and channel. -/

@[simp] theorem awaited_refuseCommand (h : Hw) : awaited (refuseCommand h) = awaited h := by simp [refuseCommand]
@[simp] theorem awaited_execSpindleStart (h : Hw) : awaited (perform h execSpindleStart) = awaited h :=
  awaited_perform (fun _ => rfl) (fun h => by simp) h
@[simp] theorem awaited_execSpindleStop (h : Hw) : awaited (perform h execSpindleStop) = awaited h :=
  awaited_perform (fun _ => rfl) (fun h => by simp) h
@[simp] theorem awaited_execSpindleCoast (h : Hw) : awaited (perform h execSpindleCoast) = awaited h :=
  awaited_perform (fun _ => rfl) (fun h => by simp) h
@[simp] theorem awaited_execEcalStart (h : Hw) (c : Nat) : awaited (perform h (execEcalStart c)) = awaited h :=
  awaited_perform (fun _ => rfl) (fun h => by simp) h
@[simp] theorem awaited_setAc (h : Hw) (c st : Nat) : awaited (setAc h c st) = awaited h := by simp [setAc]
@[simp] theorem awaited_loadFail (h : Hw) (c : Nat) : awaited (loadFail h c) = awaited h := by simp [loadFail]
@[simp] theorem awaited_execLoad (h : Hw) (c : Nat) : awaited (perform h (execLoad c)) = awaited h :=
  awaited_perform (fun _ => rfl) (fun h => by simp) h
@[simp] theorem awaited_execUnload (h : Hw) (c : Nat) : awaited (perform h (execUnload c)) = awaited h :=
  awaited_perform (fun _ => rfl) (fun h => by simp) h
@[simp] theorem awaited_execRetract (h : Hw) (c : Nat) : awaited (perform h (execRetract c)) = awaited h :=
  awaited_perform (fun _ => rfl) (fun h => by simp) h
@[simp] theorem awaited_commitBank (h : Hw) (c k : Nat) : awaited (commitBank h c k) = awaited h := by simp [commitBank]
@[simp] theorem awaited_beginSeek (h : Hw) (c hd track : Nat) : awaited (beginSeek h c hd track) = awaited h := by simp [beginSeek]
@[simp] theorem awaited_refuseSeek (h : Hw) (c : Nat) : awaited (refuseSeek h c) = awaited h := by simp [refuseSeek]
@[simp] theorem awaited_requestSeek (h : Hw) (c hd track : Nat) : awaited (requestSeek h c hd track) = awaited h := by simp [requestSeek]
@[simp] theorem awaited_execSvSeekWrite (h : Hw) (c data : Nat) : awaited (perform h (execSvSeekWrite c data)) = awaited h :=
  awaited_perform (fun _ => rfl) (fun h => by simp) h
@[simp] theorem awaited_selectBank (h : Hw) (c data : Nat) : awaited (selectBank h c data) = awaited h := by simp [selectBank]
@[simp] theorem awaited_execSvBankCommit (h : Hw) (c data : Nat) : awaited (perform h (execSvBankCommit c data)) = awaited h :=
  awaited_perform (fun _ => rfl) (fun h => by simp) h
@[simp] theorem awaited_execServoEnable (h : Hw) (c : Nat) : awaited (perform h (execServoEnable c)) = awaited h :=
  awaited_perform (fun _ => rfl) (fun h => by simp) h
@[simp] theorem awaited_execPaSifCmdWrite (h : Hw) (c data : Nat) : awaited (perform h (execPaSifCmdWrite c data)) = awaited h :=
  awaited_perform (fun _ => rfl) (fun h => by simp) h
@[simp] theorem awaited_restoreTracks (h : Hw) (c : Nat) (ks : List Nat) : awaited (restoreTracks h c ks) = awaited h := by
  simp [restoreTracks]
@[simp] theorem awaited_endActive (h : Hw) (c : Nat) : awaited (endActive h c) = awaited h := by simp [endActive]

@[simp] theorem awaited_showAreq (h : Hw) (c : Nat) : awaited (showAreq h c) = awaited h := by
  unfold showAreq
  dsimp only
  (repeat' split) <;> simp

@[simp] theorem awaited_execAreqClear (h : Hw) (c : Nat) : awaited (perform h (execAreqClear c)) = awaited h :=
  awaited_perform (fun _ => rfl) (fun h => by simp) h
@[simp] theorem awaited_selectSet (h : Hw) (c data : Nat) : awaited (selectSet h c data) = awaited h := by simp [selectSet]

@[simp] theorem awaited_requestCommit (h : Hw) (c data : Nat) : awaited (requestCommit h c data) = awaited h := by
  unfold requestCommit
  dsimp only
  (repeat' split) <;> simp

@[simp] theorem awaited_execChTaddrWrite (h : Hw) (c data : Nat) : awaited (perform h (execChTaddrWrite c data)) = awaited h :=
  awaited_perform (fun _ => rfl) (fun h => by simp) h
@[simp] theorem awaited_execChTdataAccess (h : Hw) (c : Nat) (write : Bool) (data : Nat) :
    awaited (perform h (execChTdataAccess c write data)) = awaited h :=
  awaited_perform (fun _ => rfl) (fun h => by simp) h

/-! Commands, keys, cores and the shared cache. -/

@[simp] theorem awaited_onCmd (h : Hw) (slot : Nat) (f : Cmd → Cmd) : awaited (onCmd h slot f) = awaited h := by simp [onCmd]
@[simp] theorem awaited_fail (h : Hw) (slot st : Nat) : awaited (fail h slot st) = awaited h := by simp [fail]

@[simp] theorem awaited_writeRoleKey (h : Hw) (role : Nat) (custodian : Bool) (wrapped : Nat) :
    awaited (writeRoleKey h role custodian wrapped).1 = awaited h := by
  unfold writeRoleKey
  dsimp only
  (repeat' split) <;> simp

@[simp] theorem awaited_coreException (h : Hw) (k cause a : Nat) (data : Bool) : awaited (coreException h k cause a data) = awaited h := by
  simp [coreException]
@[simp] theorem awaited_onLines (h : Hw) (f : List Line → List Line) : awaited (onLines h f) = awaited h := by simp [onLines]
@[simp] theorem awaited_showCache (h : Hw) : awaited (showCache h) = awaited h := by simp [showCache]
@[simp] theorem awaited_writeBack (h : Hw) (l : Line) : awaited (writeBack h l) = awaited h := by simp [writeBack]
@[simp] theorem awaited_dropL1 (h : Hw) (line : Nat) : awaited (dropL1 h line) = awaited h := by simp [dropL1]
@[simp] theorem awaited_dropLine (h : Hw) (line : Nat) : awaited (dropLine h line) = awaited h := by simp [dropLine]
@[simp] theorem awaited_touchWay (h : Hw) (set way : Nat) : awaited (touchWay h set way) = awaited h := by simp [touchWay]
@[simp] theorem awaited_evict (h : Hw) (l : Line) : awaited (evict h l) = awaited h := by simp [evict]

@[simp] theorem awaited_allocate (h : Hw) (k line data : Nat) : awaited (allocate h k line data) = awaited h := by
  unfold allocate
  extract_lets put
  have laid (g : Hw) (w : Nat) : awaited (put g w) = awaited g := by simp [put]
  clear_value put
  (repeat' split) <;> simp [laid]

@[simp] theorem awaited_coreStore (h : Hw) (k a : Nat) (bytes : List Nat) : awaited (coreStore h k a bytes) = awaited h := by
  simp [coreStore]
@[simp] theorem awaited_fillL1 (h : Hw) (k : Nat) (kind : CoreAccess) (line : Nat) : awaited (fillL1 h k kind line) = awaited h := by
  simp [fillL1]

@[simp] theorem awaited_reserveReq (h : Hw) (r : CoreReq) (stores : Bool) : awaited (reserveReq h r stores) = awaited h := by
  unfold reserveReq
  dsimp only
  (repeat' split) <;> simp

@[simp] theorem awaited_performReq (h : Hw) (r : CoreReq) : awaited (performReq h r) = awaited h := by
  unfold performReq
  dsimp only
  (repeat' split) <;> simp

@[simp] theorem awaited_placeReq (h : Hw) (r : CoreReq) : awaited (placeReq h r) = awaited h := by
  unfold placeReq
  dsimp only
  (repeat' split) <;> simp

@[simp] theorem awaited_fillMiss (h : Hw) (m : Miss) : awaited (fillMiss h m) = awaited h := by simp [fillMiss]

@[simp] theorem awaited_cleanLine (h : Hw) (line : Nat) : awaited (cleanLine h line) = awaited h := by
  unfold cleanLine
  (repeat' split) <;> simp

@[simp] theorem awaited_invalLine (h : Hw) (line : Nat) : awaited (invalLine h line) = awaited h := by simp [invalLine]

@[simp] theorem awaited_maintain (h : Hw) (op line : Nat) : awaited (maintain h op line) = awaited h := by
  unfold maintain
  dsimp only
  (repeat' split) <;> simp

@[simp] theorem awaited_startWalk (h : Hw) (op data : Nat) : awaited (startWalk h op data) = awaited h := by simp [startWalk]
@[simp] theorem awaited_execCcMopClean (h : Hw) (data : Nat) : awaited (perform h (execCcMopClean data)) = awaited h :=
  awaited_perform (fun _ => rfl) (fun h => by simp) h
@[simp] theorem awaited_execCcMopInvalidate (h : Hw) (data : Nat) : awaited (perform h (execCcMopInvalidate data)) = awaited h :=
  awaited_perform (fun _ => rfl) (fun h => by simp) h
@[simp] theorem awaited_execCcMopFlush (h : Hw) (data : Nat) : awaited (perform h (execCcMopFlush data)) = awaited h :=
  awaited_perform (fun _ => rfl) (fun h => by simp) h
@[simp] theorem awaited_execCcWlockWrite (h : Hw) (data : Nat) : awaited (perform h (execCcWlockWrite data)) = awaited h :=
  awaited_perform (fun _ => rfl) (fun h => by simp) h
@[simp] theorem awaited_execCoreRelease (h : Hw) (data : Nat) : awaited (perform h (execCoreRelease data)) = awaited h :=
  awaited_perform (fun _ => rfl) (fun h => by simp) h
@[simp] theorem awaited_updateLines (h : Hw) : awaited (updateLines h) = awaited h := by simp [updateLines]
@[simp] theorem awaited_execTimerCompare (h : Hw) (k : Nat) : awaited (perform h (execTimerCompare k)) = awaited h :=
  awaited_perform (fun _ => rfl) (fun h => by simp) h

/-! Formatters and the DMA engine. -/

@[simp] theorem awaited_seqHalt (h : Hw) (c : Nat) : awaited (seqHalt h c) = awaited h := by simp [seqHalt]
@[simp] theorem awaited_pushReq (h : Hw) (c : Nat) (r : FmReq) : awaited (pushReq h c r) = awaited h := by simp [pushReq]
@[simp] theorem awaited_execFmRqpush (h : Hw) (c : Nat) : awaited (perform h (execFmRqpush c)) = awaited h :=
  awaited_perform (fun _ => rfl) (fun h => by simp) h
@[simp] theorem awaited_execFwreq (h : Hw) (c : Nat) : awaited (perform h (execFwreq c)) = awaited h :=
  awaited_perform (fun _ => rfl) (fun h => by simp) h
@[simp] theorem awaited_execRunClear (h : Hw) (c : Nat) : awaited (perform h (execRunClear c)) = awaited h :=
  awaited_perform (fun _ => rfl) (fun h => by simp) h
@[simp] theorem awaited_setRun (h : Hw) (c : Nat) : awaited (setRun h c) = awaited h := by simp [setRun]
@[simp] theorem awaited_dropPatch (h : Hw) (c : Nat) : awaited (dropPatch h c) = awaited h := by simp [dropPatch]
@[simp] theorem awaited_execPatchLoadStart (h : Hw) (c : Nat) : awaited (perform h (execPatchLoadStart c)) = awaited h :=
  awaited_perform (fun _ => rfl) (fun h => by simp) h

@[simp] theorem awaited_startCart (h : Hw) (n a : Nat) : awaited (startCart h n a) = awaited h := by
  unfold startCart
  dsimp only
  (repeat' split) <;> simp

@[simp] theorem awaited_startCoach (h : Hw) (n : Nat) : awaited (startCoach h n) = awaited h := by simp [startCoach]

@[simp] theorem awaited_resumeCart (h : Hw) (n : Nat) : awaited (resumeCart h n) = awaited h := by
  unfold resumeCart
  dsimp only
  (repeat' split) <;> simp

@[simp] theorem awaited_execDmCtrlStart (h : Hw) (n : Nat) (byEngine : Bool) : awaited (perform h (execDmCtrlStart n byEngine)) = awaited h :=
  awaited_perform (fun _ => rfl) (fun h => by simp) h
@[simp] theorem awaited_execDmCtrlResume (h : Hw) (n : Nat) (byEngine : Bool) :
    awaited (perform h (execDmCtrlResume n byEngine)) = awaited h :=
  awaited_perform (fun _ => rfl) (fun h => by simp) h
@[simp] theorem awaited_execDmCtrlStop (h : Hw) (n : Nat) (byEngine : Bool) : awaited (perform h (execDmCtrlStop n byEngine)) = awaited h :=
  awaited_perform (fun _ => rfl) (fun h => by simp) h

@[simp] theorem awaited_rereadLink (h : Hw) (n : Nat) : awaited (rereadLink h n) = awaited h := by
  unfold rereadLink
  dsimp only
  (repeat' split) <;> simp

@[simp] theorem awaited_ring (h : Hw) (n : Nat) : awaited (ring h n) = awaited h := by
  unfold ring
  (repeat' split) <;> simp

@[simp] theorem awaited_execDmBell (h : Hw) (data : Nat) : awaited (perform h (execDmBell data)) = awaited h :=
  awaited_perform (fun _ => rfl) (fun h => by simp) h

@[simp] theorem awaited_engineResume (h : Hw) (n : Nat) : awaited (engineResume h n) = awaited h := by
  unfold engineResume
  dsimp only
  (repeat' split) <;> simp

@[simp] theorem awaited_execDmaHaltClear (h : Hw) : awaited (perform h execDmaHaltClear) = awaited h :=
  awaited_perform (fun _ => rfl) (fun h => by simp) h
@[simp] theorem awaited_execDmRqcfgWrite (h : Hw) (n data : Nat) (byEngine : Bool) :
    awaited (perform h (execDmRqcfgWrite n data byEngine)) = awaited h :=
  awaited_perform (fun _ => rfl) (fun h => by simp) h

/-! Sessions and sections. -/

@[simp] theorem awaited_onSession (h : Hw) (n : Nat) (f : Session → Session) : awaited (onSession h n f) = awaited h := by simp [onSession]
@[simp] theorem awaited_setSec (h : Hw) (n st owner : Nat) : awaited (setSec h n st owner) = awaited h := by simp [setSec]
@[simp] theorem awaited_clearSection (h : Hw) (n : Nat) : awaited (clearSection h n) = awaited h := by simp [clearSection]
@[simp] theorem awaited_releaseHeld (h : Hw) (sess : Nat) : awaited (releaseHeld h sess) = awaited h := by simp [releaseHeld]

@[simp] theorem awaited_fallBack (h : Hw) (sess : Nat) : awaited (fallBack h sess) = awaited h := by
  unfold fallBack
  split
  · rfl
  · extract_lets held subscribed ended own
    have ends : awaited ended = awaited h := by
      refine awaited_onMgmt (fun m => ?_) _
      rw [List.map_map]
      exact List.map_congr_left fun b _ => by dsimp only [Function.comp]; split <;> rfl
    have owned : awaited own = awaited h := (awaited_onSession ended sess _).trans ends
    split
    · exact owned
    · rw [awaited_ruleRecord, awaited_satF, awaited_releaseHeld, owned]

@[simp] theorem awaited_claimSections (h : Hw) (sess mask : Nat) : awaited (claimSections h sess mask) = awaited h := by
  simp [claimSections]

@[simp] theorem awaited_takeChallenge (h : Hw) (sess : Nat) : awaited (takeChallenge h sess).1 = awaited h := by
  unfold takeChallenge
  dsimp only
  (repeat' split) <;> simp

@[simp] theorem awaited_judgeTag (h : Hw) (sess : Nat) (ok : Bool) : awaited (judgeTag h sess ok) = awaited h := by simp [judgeTag]

/-! Register writes. -/

@[simp] theorem awaited_evRsel (h : Hw) (v : Vault) (data : Nat) : awaited (evRsel h v data) = awaited h := by simp [evRsel]
@[simp] theorem awaited_writeBridge (h : Hw) (a data : Nat) : awaited (writeBridge h a data) = awaited h := by simp [writeBridge]

@[simp] theorem awaited_writeCodes (h : Hw) (a data : Nat) : awaited (writeCodes h a data) = awaited h := by
  unfold writeCodes
  (repeat' split) <;> simp

@[simp] theorem awaited_writeSvCtl (h : Hw) (c data : Nat) : awaited (writeSvCtl h c data) = awaited h := by simp [writeSvCtl]
@[simp] theorem awaited_writeSvRc (h : Hw) (c data : Nat) : awaited (writeSvRc h c data) = awaited h := by simp [writeSvRc]
@[simp] theorem awaited_accessSvCdata (h : Hw) (c : Nat) (write : Bool) (data : Nat) : awaited (accessSvCdata h c write data) = awaited h := by
  simp [accessSvCdata]
@[simp] theorem awaited_writeRingConfig (h : Hw) (p data : Nat) : awaited (writeRingConfig h p data) = awaited h := by
  simp [writeRingConfig]
@[simp] theorem awaited_writeDma (h : Hw) (o data : Nat) : awaited (writeDma h o data) = awaited h := by simp [writeDma]
@[simp] theorem awaited_writeCarriage (h : Hw) (c k data : Nat) : awaited (writeCarriage h c k data) = awaited h := by simp [writeCarriage]

@[simp] theorem awaited_writeMotor (h : Hw) (c k data : Nat) : awaited (writeMotor h c k data) = awaited h := by
  unfold writeMotor
  dsimp only
  (repeat' split) <;> simp

@[simp] theorem awaited_writeHub (h : Hw) (v : Vault) (a k data src : Nat) : awaited (writeHub h v a k data src) = awaited h := by
  unfold writeHub
  refine awaited_branch (by simp) (awaited_branch (by simp) (awaited_branch (by simp) (awaited_branch ?walk (awaited_branch (by simp)
    (awaited_branch ?timers (awaited_branch (by simp) (awaited_branch (by simp) (awaited_branch (by simp) (awaited_branch (by simp)
    (awaited_branch (by simp) (awaited_branch (by simp) (by simp))))))))))))
  case walk => split <;> simp
  case timers => rw [awaited_foldl (fun h n => awaited_execTimerCompare h n), awaited_writeCodes]

@[simp] theorem awaited_landWrite (h : Hw) (v : Vault) (a data src : Nat) : awaited (landWrite h v a data src) = awaited h := by
  unfold landWrite
  dsimp only
  (repeat' split) <;> simp

@[simp] theorem awaited_landPosted (h : Hw) (v : Vault) (a : Nat) : awaited (landPosted h v a) = awaited h := by
  unfold landPosted
  split
  · rw [awaited_landWrite]
    rfl
  · rfl

/-! Forced faults. -/

@[simp] theorem awaited_headAction (h : Hw) (c hd u k : Nat) : awaited (headAction h c hd u k) = awaited h := by simp [headAction]
@[simp] theorem awaited_carriageAction (h : Hw) (c u k : Nat) : awaited (carriageAction h c u k) = awaited h := by simp [carriageAction]
@[simp] theorem awaited_otherAction (h : Hw) (u k : Nat) : awaited (otherAction h u k) = awaited h := by simp [otherAction]

@[simp] theorem awaited_immediateAction (h : Hw) (u k : Nat) : awaited (immediateAction h u k) = awaited h := by
  unfold immediateAction
  (repeat' split) <;> simp

/-! Objects and settings. -/

@[simp] theorem awaited_settle (h : Hw) (v : Vault) (l : List Nat) : awaited (settle h v l) = awaited h := by simp [settle]

@[simp] theorem awaited_agentWrite (h : Hw) (v : Vault) (a : Nat) (f : Fld) (x : Nat) : awaited (agentWrite h v a f x).1 = awaited h := by
  unfold agentWrite
  dsimp only
  (repeat' split) <;> simp

@[simp] theorem awaited_copyThreshold (h : Hw) (v : Vault) (a : Nat) (f : Fld) (x : Nat) : awaited (copyThreshold h v a f x) = awaited h := by
  unfold copyThreshold
  exact awaited_foldl (fun h die => by split <;> simp) _ h

@[simp] theorem awaited_putEntry (h : Hw) (v : Vault) (u e : Nat) (d : EntDef) (x : Nat) : awaited (putEntry h v u e d x).1 = awaited h := by
  unfold putEntry
  split
  · dsimp only
    (repeat' split) <;> simp
  · refine awaited_foldl_fst (fun r q => ?_) _ _
    dsimp only
    split <;> simp

@[simp] theorem awaited_setBlob (h : Hw) (u p : Nat) (l : List (BitVec 8)) : awaited (setBlob h u p l) = awaited h := by simp [setBlob]
@[simp] theorem awaited_writeSets (h : Hw) (c hd : Nat) (l : List (BitVec 8)) : awaited (writeSets h c hd l) = awaited h := by
  simp [writeSets]

@[simp] theorem awaited_writeBanks (h : Hw) (c : Nat) (l : List (BitVec 8)) : awaited (writeBanks h c l).1 = awaited h := by
  unfold writeBanks
  dsimp only
  (repeat' split) <;> simp

@[simp] theorem awaited_writeTables (h : Hw) (c hd : Nat) (l : List (BitVec 8)) : awaited (writeTables h c hd l) = awaited h := by
  simp [writeTables]

@[simp] theorem awaited_writeBlob (h : Hw) (sess u p : Nat) (l : List (BitVec 8)) : awaited (writeBlob h sess u p l).1 = awaited h := by
  unfold writeBlob
  dsimp only
  (repeat' split) <;> simp

@[simp] theorem awaited_commitSettings (h : Hw) (v : Vault) (verify : Nat → Bool) : awaited (commitSettings h v verify) = awaited h := by
  simp [commitSettings]

@[simp] theorem awaited_revertSettings (h : Hw) (v : Vault) : awaited (revertSettings h v) = awaited h := by
  unfold revertSettings
  simp only [awaited_onDict]
  rw [awaited_foldl (fun h u => awaited_onUnit h u _), awaited_foldl, awaited_foldl fun h t => awaited_putEntry h v _ _ _ _]
  intro h t
  (repeat' split) <;> simp

/-! Transactions. -/

@[simp] theorem awaited_judgeResponse (h : Hw) (sess high : Nat) : awaited (judgeResponse h sess high).1 = awaited h := by
  unfold judgeResponse
  dsimp only
  (repeat' split) <;> simp

@[simp] theorem awaited_judgeClear (h : Hw) (sess tag : Nat) : awaited (judgeClear h sess tag).1 = awaited h := by
  unfold judgeClear
  dsimp only
  (repeat' split) <;> simp

@[simp] theorem awaited_askRole (h : Hw) (sess role : Nat) : awaited (askRole h sess role) = awaited h := by simp [askRole]

@[simp] theorem awaited_startRecovery (h : Hw) (sigOk bodyOk : Bool) : awaited (startRecovery h sigOk bodyOk) = awaited h := by
  unfold startRecovery
  dsimp only
  (repeat' split) <;> simp

@[simp] theorem awaited_forceClasses (h : Hw) (u mask : Nat) : awaited (forceClasses h u mask) = awaited h := by
  refine awaited_forceBits (fun h k => ?_) h u mask
  split <;> simp

@[simp] theorem awaited_writeStandard (h : Hw) (u p x : Nat) : awaited (writeStandard h u p x) = awaited h := by
  unfold writeStandard
  (repeat' split) <;> simp

@[simp] theorem awaited_writeEffect (h : Hw) (v : Vault) (sess u p e : Nat) (d : EntDef) (x : Nat) :
    awaited (writeEffect h v sess u p e d x).1 = awaited h := by
  unfold writeEffect
  dsimp only
  (repeat' split) <;> simp

@[simp] theorem awaited_readOne (h : Hw) (v : Vault) (sess u p e : Nat) : awaited (readOne h v sess u p e).1 = awaited h := by
  unfold readOne
  split
  · rfl
  · dsimp only
    (repeat' split) <;> simp

@[simp] theorem awaited_returnHeld (h : Hw) (sess : Nat) : awaited (returnHeld h sess) = awaited h := by simp [returnHeld]
@[simp] theorem awaited_toClaim (h : Hw) (sess first : Nat) (l : List (BitVec 8)) : awaited (toClaim h sess first l) = awaited h := by
  simp [toClaim]

@[simp] theorem awaited_readEach (h : Hw) (v : Vault) (sess u p e : Nat) (claim : Option Nat) (malformed : Bool) :
    awaited (readEach h v sess u p e claim malformed).1 = awaited h := by
  have read (r : Hw × List (BitVec 8)) (m : Nat) : awaited (readOne r.1 v sess m p e).1 = awaited r.1 := awaited_readOne r.1 v sess m p e
  unfold readEach
  split
  · rfl
  · extract_lets r
    have entries : awaited r.1 = awaited h := awaited_foldl_fst read _ _
    clear_value r
    (repeat' split) <;> simp [entries]

@[simp] theorem awaited_moveBlock (h : Hw) (v : Vault) (sess : Nat) (t : Txn) : awaited (moveBlock h v sess t).1 = awaited h := by
  unfold moveBlock
  dsimp only
  (repeat' split) <;> simp

@[simp] theorem awaited_blockWhole (h : Hw) (v : Vault) (sess : Nat) (t : Txn) : awaited (blockWhole h v sess t).1 = awaited h := by
  unfold blockWhole
  dsimp only
  (repeat' split) <;> simp

@[simp] theorem awaited_dropSub (h : Hw) (sess u pe : Nat) : awaited (dropSub h sess u pe) = awaited h := by simp [dropSub]

@[simp] theorem awaited_subscribe (h : Hw) (v : Vault) (sess u p e ty interval : Nat) (deadband : Option (List (BitVec 8))) :
    awaited (subscribe h v sess u p e ty interval deadband).1 = awaited h := by
  unfold subscribe
  dsimp only
  (repeat' split) <;> simp

/-- A transaction leaves those under way as they are (R136). -/
@[simp] theorem awaited_transact (h : Hw) (v : Vault) (sess : Nat) (t : Txn) : awaited (transact h v sess t).1 = awaited h := by
  unfold transact
  dsimp only
  (repeat' split) <;> simp

end Sys2Proof.Machine
end

section
/-! Requests, notifications, window data and alerts on Quablink (R158, R166, R170-R180, R190, R654). -/
namespace Sys2Proof.Machine

/-! Frames that are queued. -/

/-- Queueing a frame touches the transmit queue and its count of drops only (R168). -/
theorem txFrame_eq (h : Hw) (f : Frame) : ∃ tx drops cause,
    txFrame h f = onMgmt h (fun m => { m with tx := tx, drops := drops, dropCause := cause }) := by
  unfold txFrame
  split
  · exact ⟨_, h.mgmt.drops, h.mgmt.dropCause, rfl⟩
  · exact ⟨_, _, _, rfl⟩

/-- A change of the management block touches nothing else. -/
theorem txFrame_keeps {α : Type} (π : Hw → α) (beside : ∀ h f, π (onMgmt h f) = π h) (h : Hw) (f : Frame) : π (txFrame h f) = π h := by
  obtain ⟨tx, drops, cause, queued⟩ := txFrame_eq h f
  rw [queued, beside]

@[simp] theorem txFrame_regs (h : Hw) (f : Frame) : (txFrame h f).regs = h.regs := txFrame_keeps (·.regs) (fun _ _ => rfl) h f

/-- The parts of the management block that queueing a frame leaves. -/
theorem mgmt_txFrame (h : Hw) (f : Frame) : (txFrame h f).mgmt.alerts = h.mgmt.alerts ∧ (txFrame h f).mgmt.notes = h.mgmt.notes ∧
    (txFrame h f).mgmt.requests = h.mgmt.requests := by
  obtain ⟨tx, drops, cause, queued⟩ := txFrame_eq h f
  rw [queued]
  exact ⟨rfl, rfl, rfl⟩

/-! Requests (R172-R174). -/

/-- No transaction of a session is under way. -/
theorem sessionBusy_eq_contains (h : Hw) (sess : Nat) : sessionBusy h sess = (awaited h).contains sess := by
  rw [sessionBusy, awaited, List.contains_eq_any_beq, List.any_map]
  exact List.any_congr rfl fun b => Bool.beq_comm

theorem sessionBusy_transact (h : Hw) (v : Vault) (sess : Nat) (t : Txn) (sess' : Nat) :
    sessionBusy (transact h v sess t).1 sess' = sessionBusy h sess' := by
  rw [sessionBusy_eq_contains, sessionBusy_eq_contains, awaited_transact]

/-- Records without a block operation are all performed at once. -/
theorem performRecords_whole (v : Vault) : ∀ (ts : List Txn) (h : Hw) (r : Request), sessionBusy h r.session = false →
    (∀ t ∈ ts, t.op ≠ 7 ∧ t.op ≠ 8) → ∃ g done, performRecords h v r ts = (g, { r with todo := [], done := done })
  | [], h, r, _, _ => ⟨h, r.done, rfl⟩
  | t :: ts, h, r, idle, plain => by
    obtain ⟨noRead, noWrite⟩ := plain t List.mem_cons_self
    obtain ⟨g, done, rest⟩ := performRecords_whole v ts (transact h v r.session t).1
      { r with done := r.done ++ responseRecord t (transact h v r.session t).2 } (by rw [sessionBusy_transact, idle])
      fun t member => plain t (List.mem_cons_of_mem _ member)
    refine ⟨g, done, ?_⟩
    simp only [performRecords, idle, Bool.false_eq_true, if_false, noRead, noWrite, or_self, false_and, rest]

/-- A request on its own, without a block operation, is performed and answered whole. -/
theorem performRequests_alone {h : Hw} {v : Vault} {r : Request} (idle : sessionBusy h r.session = false)
    (plain : ∀ t ∈ r.todo, t.op ≠ 7 ∧ t.op ≠ 8) : ∃ g f, f.seq = r.seq ∧
    performRequests h v [r] = onMgmt (answerRequest g r.session f) (fun m => { m with requests := [] }) := by
  obtain ⟨g, done, whole⟩ := performRecords_whole v r.todo h r idle plain
  exact ⟨g, { kind := 2, seq := r.seq, dst := r.session, stat := 0, count := r.count, body := done }, rfl, by simp [performRequests, whole]⟩

theorem session_answerRequest (h : Hw) (src : Nat) (f : Frame) :
    (session (answerRequest h src f) src).lastSeq = some f.seq ∧ (session (answerRequest h src f) src).lastResp = some f := by
  have same : session (answerRequest h src f) src = { session h src with lastSeq := some f.seq, lastResp := some f } :=
    (txFrame_keeps (session · src) (fun _ _ => rfl) _ _).trans (mget_mset_self _ _ _ _)
  rw [same]
  exact ⟨rfl, rfl⟩

/-- What the checks of a request's form ask (R170, R172, R173), and a SEQ that is none to repeat (R174). -/
structure WellFormed (h : Hw) (src seq count : Nat) (body : List (BitVec 8)) (ts : List Txn) : Prop where
  up : mgmtUp h = true
  started : getF h PW_BOOT_STAGE 0 ≠ 0
  node : src ≤ 0x3FF
  any : 1 ≤ count
  few : count ≤ 16
  parsed : parseRecords count body = some ts
  fits : (ts.map (longestResponse h)).sum ≤ 1488
  unused : (session h src).lastSeq ≠ some seq

theorem mgmtUp_out (h : Hw) (o : List Output) : mgmtUp { h with out := o } = mgmtUp h := (rfl)
theorem requestBusy_out (h : Hw) (o : List Output) (src : Nat) : requestBusy { h with out := o } src = requestBusy h src := (rfl)
theorem longestResponse_out (h : Hw) (o : List Output) : longestResponse { h with out := o } = longestResponse h := (rfl)

/-- What a well-formed request comes to. -/
theorem exec_quablinkRequest_wellFormed {s : State} {src seq count : Nat} {body : List (BitVec 8)} {ts : List Txn}
    (form : WellFormed s.hw src seq count body ts) : exec (.quablinkRequest src seq count body) s = .next { s with
      hw :=
        if requestBusy s.hw src then refuseRequest { s.hw with out := [] } src seq 2 2
        else if s.hw.mgmt.requests.isEmpty then
          performRequests { s.hw with out := [] } s.vault [{ session := src, seq := seq, count := count, todo := ts }]
        else onMgmt { s.hw with out := [] } (fun m =>
          { m with requests := m.requests ++ [{ session := src, seq := seq, count := count, todo := ts }] }) } := by
  obtain ⟨up, started, node, any, few, parsed, fits, unused⟩ := form
  have counted : ¬(count = 0 ∨ 16 < count) := by omega
  have near : ¬0x3FF < src := by omega
  have short : ¬1488 < (ts.map (longestResponse s.hw)).sum := by omega
  have fresh : repeatOf { s.hw with out := [] } src seq = none := if_neg unused
  change execQuablinkRequest src seq count body s = _
  rw [execQuablinkRequest]
  refine runBoth_of_vault ?_
  simp only [mgmtUp_out, getF_out, longestResponse_out, requestBusy_out, up, started, Bool.not_true, Bool.false_eq_true, or_self, if_false,
    near, counted, parsed, short, fresh]
  rw [← apply_ite (fun h => (h, s.vault)), ← apply_ite (fun h => (h, s.vault))]

/-! Notifications (R158, R176). -/

/-- Sending a notification on the link: the session's next SEQ, one more notification that waits for its acknowledge, and its frame. -/
theorem sendNote_link {s : Sub} (link : isLinkSession s.session = true) (h : Hw) (ty x : Nat) :
    (sendNote h s ty x).mgmt.notes.length = h.mgmt.notes.length + 1 ∧ (sendNote h s ty x).regs = h.regs ∧ (sendNote h s ty x).mem = h.mem := by
  unfold sendNote
  rw [if_pos link]
  extract_lets n g
  obtain ⟨-, notes, -⟩ := mgmt_txFrame (onMgmt g (fun m => { m with notes := m.notes ++ [n] })) (noteFrame g n)
  exact ⟨by rw [notes]; exact List.length_append, txFrame_regs _ _, txFrame_mem _ _⟩

/-- A subscription whose notification is due, and can go out (R158). -/
theorem cycleSub_due {h : Hw} {v : Vault} {x : Sub} {d : EntDef} (link : isLinkSession x.session = true) (up : mgmtUp h = true)
    (found : objDef h x.path (x.pe / 16 % 0x1000) (x.pe % 16) = some d)
    (on : poweredDown h x.session 1 x.path (x.pe / 16 % 0x1000) (x.pe % 16) d = false) (due : x.interval ≤ x.age)
    (moved : movedEnough d.ty x.deadband x.last (subValue h v x.session x.path (x.pe / 16 % 0x1000) (x.pe % 16) d) = true) :
    cycleSub h v x = (sendNote h x d.ty (subValue h v x.session x.path (x.pe / 16 % 0x1000) (x.pe % 16) d),
      { x with last := subValue h v x.session x.path (x.pe / 16 % 0x1000) (x.pe % 16) d, age := 0 }) := by
  have waits : ¬x.age < x.interval := by omega
  simp [cycleSub, found, on, moved, canNotify, link, up, waits]

theorem subValue_out (h : Hw) (o : List Output) (v : Vault) (sess u q e : Nat) (d : EntDef) :
    subValue { h with out := o } v sess u q e d = subValue h v sess u q e d := (rfl)

/-! Alerts (R177, R178). -/

/-- An alert as it is raised. -/
def raisedAlert (h : Hw) (code detail : Nat) : Alert :=
  { seq := h.mgmt.alertSeq, code := code, detail := detail, cycle := h.log.cycles, ms := h.log.optime, sends := if mgmtUp h then 1 else 0 }

theorem raiseAlert_leaves (h : Hw) (code detail : Nat) :
    (raiseAlert h code detail).mgmt.alerts = h.mgmt.alerts ++ [raisedAlert h code detail] ∧ (raiseAlert h code detail).regs = h.regs := by
  unfold raiseAlert
  extract_lets a g
  split
  · exact ⟨(mgmt_txFrame g _).1, txFrame_regs g _⟩
  · exact ⟨rfl, rfl⟩

/-- What asking for Stair 4 leaves before its alert is raised (R119). -/
def stair4Asked (h : Hw) (detail : Nat) : Hw :=
  onIsland (onBoot h (fun b => { b with stair4Asked := true, stair4Now := b.stair4Now ++ [detail] }))
    (fun i => { i with counts := zadd i.counts 4 1 })

theorem askStair4_first {h : Hw} {detail : Nat} (first : h.boot.stair4Asked = false) (unlike : h.boot.stair4Prev.contains detail = false) :
    askStair4 h detail = raiseAlert (stair4Asked h detail) 1 detail := by
  simp only [askStair4, first, unlike, Bool.or_self, Bool.false_eq_true, if_false, stair4Asked]

theorem alerts_sendAlert {h : Hw} {a : Alert} (pending : h.mgmt.alerts = [a]) (early : a.sends < 59) :
    (sendAlert h a).mgmt.alerts = [{ a with sends := a.sends + 1 }] := by
  have stays : ¬60 ≤ a.sends + 1 := by omega
  unfold sendAlert
  extract_lets g
  rw [(mgmt_txFrame g _).1]
  simp [g, onMgmt, pending, stays]

theorem sendAlert_keeps {α : Type} (π : Hw → α) (beside : ∀ h f, π (onMgmt h f) = π h) (h : Hw) (a : Alert) : π (sendAlert h a) = π h :=
  (txFrame_keeps π beside _ _).trans (beside _ _)

/-! Window data (R190). -/

@[simp] theorem memStore_regs (h : Hw) (a : Nat) (l : List (BitVec 8)) : (memStore h a l).regs = h.regs := by
  unfold memStore
  split <;> rfl

theorem answerRequest_keeps {α : Type} (π : Hw → α) (beside : ∀ h f, π (onMgmt h f) = π h) (own : ∀ h k f, π (onSession h k f) = π h)
    (h : Hw) (src : Nat) (f : Frame) : π (answerRequest h src f) = π h :=
  (txFrame_keeps π beside _ _).trans ((beside _ _).trans (own _ _ _))

theorem touchSections_keeps {α : Type} (π : Hw → α) (beside : ∀ h f, π (onMgmt h f) = π h) (h : Hw) (o n : Nat) :
    π (touchSections h o n) = π h :=
  beside h _

theorem windowStatus_out (h : Hw) (o : List Output) (src sect offset wlen : Nat) :
    windowStatus { h with out := o } src sect offset wlen = windowStatus h src sect offset wlen := (rfl)

/-- The answer of a window write that was performed. -/
def windowStored (src seq sect offset wlen : Nat) : Frame :=
  { kind := 9, seq := seq, dst := src, stat := 0, count := 1
    body := leBytes 1 sect ++ leBytes 1 0 ++ leBytes 1 0 ++ leBytes 1 0 ++ leBytes 4 offset ++ leBytes 2 wlen ++ leBytes 2 0 ++ [] }

/-- A window write whose checks pass: its bytes are stored, its sections accessed, and its SEQ is remembered with the answer. -/
theorem exec_windowDataRequest_passed {s : State} {src seq sect offset wlen : Nat} {data : List (BitVec 8)} (up : mgmtUp s.hw = true)
    (started : getF s.hw PW_BOOT_STAGE 0 ≠ 0) (node : src ≤ 0x3FF) (any : 0 < wlen) (few : wlen ≤ 1024) (whole : data.length = wlen)
    (unused : (session s.hw src).lastSeq ≠ some seq) (passed : windowStatus s.hw src sect offset wlen = 0)
    (free : requestBusy s.hw src = false) : exec (.windowDataRequest src seq 1 sect 0 offset wlen true data) s = .next { s with
      hw := answerRequest (touchSections (memStore { s.hw with out := [] } (windowBase + (sect * 0x100000 + offset)) data)
        (sect * 0x100000 + offset) wlen) src (windowStored src seq sect offset wlen) } := by
  have near : ¬0x3FF < src := by omega
  have written : ¬wlen = 0 := by omega
  have fits : ¬1024 < wlen := by omega
  have fresh : repeatOf { s.hw with out := [] } src seq = none := if_neg unused
  change execWindowDataRequest src seq 1 sect 0 offset wlen true data s = _
  rw [execWindowDataRequest, State.run_eq]
  simp [mgmtUp_out, getF_out, requestBusy_out, windowStatus_out, up, started, near, written, fits, whole, fresh, free, passed, windowStored]

/-! Beacons (R180-R184). -/

theorem followsNode_chosen {h : Hw} {src : Nat} {heard : SMap Nat} (chosen : liveVal h 0x1900 0x010 0 = src) (named : src ≠ 0xFFFF) :
    followsNode h heard src = true := by
  simp [followsNode, chosen, named]

/-- A beacon of the node that the device follows synchronises it. -/
theorem exec_beacon_followed {s : State} {src minute upto : Nat} (e : Int) (up : mgmtUp s.hw = true) (soon : upto ≤ 59999999) (node : src ≤ 0x3FF)
    (chosen : liveVal s.hw 0x1900 0x010 0 = src) : ∃ t, exec (.beacon src minute upto e) s = .next t ∧ t.hw.mgmt.sync = 1 ∧
      t.hw.mgmt.lastE = ofSigned 32 e ∧ t.hw.mem = s.hw.mem ∧ t.vault = s.vault ∧ t.pending = s.pending := by
  have early : ¬(59999999 < upto ∨ 0x3FF < src) := by omega
  have follows (f : Mgmt → Mgmt) (heard : SMap Nat) : followsNode (onMgmt { s.hw with out := [] } f) heard src = true :=
    followsNode_chosen chosen (by omega)
  change ∃ t, execBeacon src minute upto e s = .next t ∧ _
  rw [execBeacon, State.run_eq]
  refine ⟨_, rfl, ?_⟩
  simp only [mgmtUp_out, up, early, follows, Bool.not_true, Bool.false_eq_true, if_false, and_true]
  split
  · exact ⟨rfl, rfl, rfl⟩
  · split <;> exact ⟨by rw [ruleRecord_mgmt]; rfl, by rw [ruleRecord_mgmt]; rfl, by rw [ruleRecord_mem]; rfl⟩

/-- Settles O8. A request is performed whole because its transactions leave those under way as they are (`awaited_transact`). -/
theorem quablinkTrafficCompletes : Obligations.QuablinkTrafficCompletes := by
  refine ⟨?performed, ?waits, ?busy, ?note, ?again, ?dropped, ?noteAck, ?beacon, ?alertAck, ?window, ?ignored, ?alert, ?asked, ?askedBefore,
    ?repeated, ?resumed⟩
  case performed =>
    intro src seq count body ts s up started node any few parsed fits unused noOthers idle plain
    have alone : requestBusy s.hw src = false := by simp [requestBusy, noOthers]
    have idle : sessionBusy { s.hw with out := [] } src = false := idle
    obtain ⟨g, f, same, performed⟩ := performRequests_alone (v := s.vault)
      (r := { session := src, seq := seq, count := count, todo := ts }) idle plain
    obtain ⟨last, kept⟩ := session_answerRequest g src f
    refine ⟨_, exec_quablinkRequest_wellFormed ⟨up, started, node, any, few, parsed, fits, unused⟩, ?_⟩
    rw [alone, noOthers]
    simp only [Bool.false_eq_true, if_false, List.isEmpty_nil, if_true, performed, and_true]
    exact ⟨last.trans (congrArg some same), congrArg Option.isSome kept, rfl⟩
  case waits =>
    intro src seq count body ts s up started node any few parsed fits unused others free
    rw [exec_quablinkRequest_wellFormed ⟨up, started, node, any, few, parsed, fits, unused⟩, free]
    simp only [Bool.false_eq_true, if_false, List.isEmpty_iff, others]
    rfl
  case busy =>
    intro src seq count body ts s up started node any few parsed fits unused busy quiet
    rw [exec_quablinkRequest_wellFormed ⟨up, started, node, any, few, parsed, fits, unused⟩, busy]
    simp [refuseRequest, txFrame, onMgmt, quiet]
  case note =>
    intro x d s alone link up found on due moved
    have due : x.interval ≤ min x.interval (x.age + 1) := by omega
    have cycled := cycleSub_due (h := { s.hw with out := [] }) (v := s.vault) (x := { x with age := min x.interval (x.age + 1) }) link up found on
      due moved
    obtain ⟨notes, regs, mem⟩ := sendNote_link (s := { x with age := min x.interval (x.age + 1) }) link { s.hw with out := [] } d.ty
      (subValue s.hw s.vault x.session x.path (x.pe / 16 % 0x1000) (x.pe % 16) d)
    change ∃ t, execNotificationCycle s = .next t ∧ _
    rw [execNotificationCycle, State.runBoth_eq]
    refine ⟨_, rfl, ?_⟩
    simp only [alone, List.map_cons, List.map_nil, notifyAll, cycled, subValue_out, and_true]
    exact ⟨rfl, notes, regs, mem⟩
  case again =>
    intro n s alone up few
    change ∃ t, execNotificationRetry n.session n.seq s = .next t ∧ _
    rw [execNotificationRetry, State.run_eq]
    refine ⟨_, rfl, ?_⟩
    simp [alone, mgmtUp_out, up, few, mgmt_txFrame, onMgmt]
  case dropped =>
    intro n s alone up many
    have last : ¬n.repeats < 3 := by omega
    change execNotificationRetry n.session n.seq s = _
    rw [execNotificationRetry, State.run_eq]
    simp [alone, mgmtUp_out, up, last, dropNote, onMgmt]
  case noteAck =>
    intro sess seq s up node
    have near : ¬0x3FF < sess := by omega
    change execNotificationAcknowledge sess seq s = _
    rw [execNotificationAcknowledge, State.run_eq]
    simp [mgmtUp_out, up, near, onMgmt]
  case beacon => exact fun _ _ _ e _ up soon node chosen => exec_beacon_followed e up soon node chosen
  case alertAck =>
    intro src seq s up node
    have near : ¬0x3FF < src := by omega
    change execAlertAcknowledge src seq s = _
    rw [execAlertAcknowledge, State.run_eq]
    simp [mgmtUp_out, up, near, onMgmt]
  case window =>
    intro src seq sect offset wlen data s up started node any few whole unused passed free
    rw [exec_windowDataRequest_passed up started node any few whole unused passed free]
    refine ⟨_, rfl, ?mem, (session_answerRequest _ src _).1, ?regs, rfl, rfl⟩
    case mem =>
      rw [answerRequest_keeps (·.mem) (fun _ _ => rfl) (fun _ _ _ => rfl), touchSections_keeps (·.mem) (fun _ _ => rfl), memStore_out]
    case regs =>
      rw [answerRequest_keeps (·.regs) (fun _ _ => rfl) (fun _ _ _ => rfl), touchSections_keeps (·.regs) (fun _ _ => rfl), memStore_regs]
  case ignored =>
    intro dest etherType payload s up dest' form
    have form : etherType ≠ 0x88B5 ∨ headerIgnored { s.hw with out := [] } payload = true := form
    have ours : dest = macOf (nodeId { s.hw with out := [] }) ∨ dest = macOf 0xFFFF := dest'
    change execIgnoredFrame dest etherType payload s = _
    rw [execIgnoredFrame, State.run_eq, if_pos ⟨up, ours, form⟩]
    rfl
  case alert =>
    intro code detail s low high
    have other : ¬code = 1 := by omega
    obtain ⟨alerts, regs⟩ := raiseAlert_leaves { s.hw with out := [] } code detail
    change ∃ t, execAlertRaised code detail s = .next t ∧ _
    rw [execAlertRaised, State.run_eq, if_neg other, if_pos ⟨low, high⟩]
    exact ⟨_, rfl, alerts, regs, raiseAlert_mem _ _ _, rfl, rfl⟩
  case asked =>
    intro detail s first unlike
    have asks := askStair4_first (h := { s.hw with out := [] }) first unlike
    obtain ⟨alerts, regs⟩ := raiseAlert_leaves (stair4Asked { s.hw with out := [] } detail) 1 detail
    change ∃ t, execAlertRaised 1 detail s = .next t ∧ _
    rw [execAlertRaised, State.run_eq, if_pos rfl, asks]
    refine ⟨_, rfl, alerts, ?_, ?_, regs, raiseAlert_mem _ _ _, rfl, rfl⟩
    · rw [raiseAlert_boot]
      rfl
    · rw [raiseAlert_boot]
      rfl
  case askedBefore =>
    intro detail s before
    have again : (s.hw.boot.stair4Asked || s.hw.boot.stair4Prev.contains detail) = true := by simpa using before
    change execAlertRaised 1 detail s = _
    rw [execAlertRaised, State.run_eq, if_pos rfl]
    exact congrArg (fun h => Host.Outcome.next { s with hw := h }) (if_pos again)
  case repeated =>
    intro a s alone up early
    change ∃ t, execAlertRepeat a.seq s = .next t ∧ _
    rw [execAlertRepeat, State.run_eq]
    refine ⟨_, rfl, ?_⟩
    simp only [alone, List.find?_cons, beq_self_eq_true, mgmtUp_out, up, if_true, and_true]
    exact ⟨alerts_sendAlert (h := { s.hw with out := [] }) alone early, sendAlert_keeps (·.regs) (fun _ _ => rfl) _ _,
      sendAlert_keeps (·.mem) (fun _ _ => rfl) _ _⟩
  case resumed =>
    intro a s alone noSubs up early
    have subs : (sendAlert { s.hw with out := [] } a).dict.subs = [] :=
      (sendAlert_keeps (·.dict.subs) (fun _ _ => rfl) { s.hw with out := [] } a).trans noSubs
    change ∃ t, execManagementPortResume s = .next t ∧ _
    rw [execManagementPortResume, State.runBoth_eq]
    refine ⟨_, rfl, ?_⟩
    simp only [mgmtUp_out, up, if_true, alone, List.foldl_cons, List.foldl_nil, subs, resumeAll, and_true]
    exact ⟨alerts_sendAlert (h := { s.hw with out := [] }) alone early, sendAlert_keeps (·.regs) (fun _ _ => rfl) _ _,
      sendAlert_keeps (·.mem) (fun _ _ => rfl) _ _⟩

end Sys2Proof.Machine
end

section
/-! Claims of window sections (R187). -/
namespace Sys2Proof.Machine

/-- The entry 1920:011 (R187): any session may write it. -/
def claimEntry : EntDef := ⟨0x1920, 0x011, 1, some 0, some 0, 0, .fixed, 0, 255, 0, [], 0, 0⟩

theorem objDef_claim {h : Hw} {d : EntDef} (found : objDef h 0x1920 0x011 0 = some d) : d = claimEntry := by
  have entry : findEntry 0x1920 0x011 = some claimEntry := rfl
  unfold objDef at found
  split at found
  · cases found
  · simp only [entry, Nat.reduceLT, if_false, claimEntry, if_true] at found
    cases found
    rfl

theorem exec_claim (sess mask : Nat) (s : State) : exec (.claim sess mask) s = s.transact sess (writeTxn 0x1920 0x011 0 1 mask) := (rfl)

theorem entryRefused_claim (h : Hw) (sess mask : Nat) : entryRefused h sess 0x1920 0x011 mask =
    if mask = 0 then !(sections h sess 2).isEmpty else claimStatus h sess mask != 0 := (rfl)

theorem writeEffect_claim (h : Hw) (v : Vault) (sess e : Nat) (d : EntDef) (mask : Nat) : writeEffect h v sess 0x1920 0x011 e d mask =
    (if mask = 0 then releaseHeld h sess else claimSections h sess mask, 0) := (rfl)

/-- A mask that is not contiguous fails as a value; a contiguous one is refused in state or taken. -/
theorem claimStatus_of_contiguous {h : Hw} {sess mask : Nat} (fits : contiguous mask = true) :
    claimStatus h sess mask = 0 ∨ claimStatus h sess mask = 8 := by
  unfold claimStatus
  simp only [fits, Bool.not_true, Bool.false_eq_true, if_false]
  split_ifs <;> simp

theorem claimStatus_of_gap {h : Hw} {sess mask : Nat} (gap : contiguous mask = false) : claimStatus h sess mask = 3 := by
  simp [claimStatus, gap]

/-- With no power against it a claim is judged by R187 alone: the entry asks no role above Observer. -/
theorem writeStatus_claim {h : Hw} {sess mask : Nat} {d : EntDef} (found : objDef h 0x1920 0x011 0 = some d)
    (on : poweredDown h sess 2 0x1920 0x011 0 d = false) (any : 0 < mask) (byte : mask < 256) :
    writeStatus h sess 0x1920 0x011 0 1 (leBytes 1 mask) = claimStatus h sess mask := by
  obtain rfl := objDef_claim found
  have value : leVal (leBytes 1 mask) = mask := leVal_leBytes_of_lt byte
  have role : writeRole h sess 0x1920 0x011 mask 0 = 0 := by simp [writeRole]
  have range : inRangeOf h 0x1920 0x011 claimEntry mask = contiguous mask := by
    have extra : extraRange h 0x1920 0x011 mask = true := by
      simp only [extraRange, show (entryHome 0x1920).1 = 0x1920 from rfl]
    have below : mask ≤ 255 := by omega
    simp [inRangeOf, claimEntry, extra, below, any.ne']
  have refused : entryRefused h sess 0x1920 0x011 mask = (claimStatus h sess mask != 0) := by
    simp only [entryRefused_claim, any.ne', if_false]
  have form : ¬(1 ≠ claimEntry.ty ∨ (leBytes 1 mask).length ≠ typeLen claimEntry.ty) := by simp [claimEntry, typeLen]
  have wr : claimEntry.wr = some 0 := rfl
  have ty : claimEntry.ty ≠ 13 := by decide
  simp only [writeStatus, found, on, value, wr, role, refused, range, form, ty]
  cases fits : contiguous mask with
  | false => simp [claimStatus_of_gap fits]
  | true => obtain taken | refused := claimStatus_of_contiguous (h := h) (sess := sess) fits <;> simp [*]

/-- What a claim comes to: its status alone, or its sections. -/
theorem exec_claim_judged {s : State} {sess mask : Nat} {d : EntDef} (found : objDef s.hw 0x1920 0x011 0 = some d)
    (on : poweredDown s.hw sess 2 0x1920 0x011 0 d = false) (any : 0 < mask) (byte : mask < 256) (idle : sessionBusy s.hw sess = false) :
    exec (.claim sess mask) s = .next { s with
      hw := if claimStatus s.hw sess mask = 0 then reply (claimSections { s.hw with out := [] } sess mask, { status := 0 }) sess
        else { s.hw with out := [.reply sess (claimStatus s.hw sess mask) 0 0 0] } } := by
  have judged := writeStatus_claim found on any byte
  rw [← writeStatus_out s.hw []] at judged
  have value : leVal (leBytes 1 mask) = mask := leVal_leBytes_of_lt byte
  rw [exec_claim, transact_idle _ idle, writeTxn, show typeLen 1 = 1 from rfl]
  split
  next taken =>
    have passed := judged.trans taken
    obtain ⟨d, found⟩ := objDef_of_written passed
    rw [transact_write_passed (by decide) (by decide) found passed, value, writeEffect_claim]
    simp only [any.ne', if_false]
  next refused =>
    rw [transact_write_refused (by decide) (by decide) (judged ▸ refused), judged, reply_unchanged]
    rfl

/-! The sections of a claim. -/

theorem claimSections_eq_setSecs (h : Hw) (sess mask : Nat) :
    claimSections h sess mask = setSecs h ((List.range 8).filter (bitAt mask)) 1 sess := by
  rw [claimSections, setSecs, List.foldl_filter]

theorem section_claimSections (h : Hw) {sess mask n : Nat} (word : sess < 2 ^ 16) (there : n ∈ List.range 8) :
    (secState (claimSections h sess mask) n, secOwner (claimSections h sess mask) n) =
      if bitAt mask n then (1, sess) else (secState h n, secOwner h n) := by
  rw [claimSections_eq_setSecs]
  split
  next named =>
    obtain ⟨state, owner⟩ := section_setSecs_of_mem (st := 1) (owner := sess) _ h (List.mem_filter.mpr ⟨there, named⟩)
    rw [state, owner, Nat.mod_eq_of_lt word]
  next other =>
    obtain ⟨state, owner⟩ := section_setSecs_of_not_mem (st := 1) (owner := sess) ((List.range 8).filter (bitAt mask)) h
      fun member => other (List.mem_filter.mp member).2
    rw [state, owner]

theorem claimSections_keeps {α : Type} (π : Hw → α) (kept : ∀ h f d v, π (setF h f d v) = π h) (h : Hw) (sess mask : Nat) :
    π (claimSections h sess mask) = π h := by
  rw [claimSections_eq_setSecs, setSecs_keeps π kept]

/-! Refusals. -/

theorem claimStatus_of_holder {h : Hw} {sess mask : Nat} (fits : contiguous mask = true)
    (holds : sections h sess 1 ≠ [] ∨ sections h sess 2 ≠ []) : claimStatus h sess mask = 8 := by
  have barred : (windowAsleep h || !(sections h sess 1).isEmpty || !(sections h sess 2).isEmpty) = true := by
    obtain held | device := holds <;> simp [*]
  simp [claimStatus, fits, -Bool.or_eq_true, barred]

theorem claimStatus_of_taken {h : Hw} {sess mask : Nat} (fits : contiguous mask = true)
    (taken : ∃ n ∈ List.range 8, bitAt mask n = true ∧ secState h n ≠ 0) : claimStatus h sess mask = 8 := by
  have barred : (List.range 8).any (fun n => bitAt mask n && secState h n != 0) = true := by simpa using taken
  simp only [claimStatus, fits, barred]
  split_ifs <;> simp_all

theorem claimStatus_of_free {h : Hw} {sess mask : Nat} (fits : contiguous mask = true) (noHeld : sections h sess 1 = [])
    (noDevice : sections h sess 2 = []) (awake : windowAsleep h = false) (stage : getF h PW_BOOT_STAGE 0 ≠ 0x0D)
    (free : ∀ n ∈ List.range 8, bitAt mask n = true → secState h n = 0) : claimStatus h sess mask = 0 := by
  have clear : (List.range 8).any (fun n => bitAt mask n && secState h n != 0) = false := by simpa using free
  simp [claimStatus, fits, noHeld, noDevice, awake, stage, clear]

/-- Settles O48: a claim has no answer between its refusals and taking every section of its mask. -/
theorem claimsTakeAllOrNothing : Obligations.ClaimsTakeAllOrNothing := by
  refine ⟨?gap, ?holder, ?taken, ?free⟩
  case gap =>
    intro sess mask d s found on _ any byte gap idle
    rw [exec_claim_judged found on any byte idle, claimStatus_of_gap gap]
    rfl
  case holder =>
    intro sess mask d s found on _ any byte fits holds idle
    rw [exec_claim_judged found on any byte idle, claimStatus_of_holder fits holds]
    rfl
  case taken =>
    intro sess mask d s found on _ any byte fits taken idle
    rw [exec_claim_judged found on any byte idle, claimStatus_of_taken fits taken]
    rfl
  case free =>
    intro sess mask d s found on word any byte fits noHeld noDevice awake stage free idle
    rw [exec_claim_judged found on any byte idle, if_pos (claimStatus_of_free fits noHeld noDevice awake stage free)]
    refine ⟨_, rfl, ?_, fun n there => section_claimSections { s.hw with out := [] } word there, ?_, rfl, rfl⟩
    · exact reply_out (claimSections_keeps (·.out) (fun _ _ _ _ => rfl) _ _ _) _ _
    · exact claimSections_keeps (·.mem) (fun _ _ _ _ => rfl) _ _ _

end Sys2Proof.Machine
end

section
/-! Requests that are not performed (R174). -/
namespace Sys2Proof.Machine

/-- A well-formed request that repeats the session's last SEQ only has the copy queued again. -/
theorem exec_quablinkRequest_repeat {s : State} {src seq count : Nat} {body : List (BitVec 8)} {ts : List Txn} {f : Frame}
    (up : mgmtUp s.hw = true) (started : getF s.hw PW_BOOT_STAGE 0 ≠ 0) (node : src ≤ 0x3FF) (any : 0 < count) (few : count ≤ 16)
    (parsed : parseRecords count body = some ts) (fits : (ts.map (longestResponse s.hw)).sum ≤ 1488)
    (same : (session s.hw src).lastSeq = some seq) (kept : (session s.hw src).lastResp = some f) :
    exec (.quablinkRequest src seq count body) s = .next { s with hw := txFrame { s.hw with out := [] } f } := by
  have counted : ¬(count = 0 ∨ 16 < count) := by omega
  have near : ¬0x3FF < src := by omega
  have short : ¬1488 < (ts.map (longestResponse s.hw)).sum := by omega
  have again : repeatOf { s.hw with out := [] } src seq = some (txFrame { s.hw with out := [] } f) :=
    (if_pos same).trans (congrArg (Option.map (txFrame { s.hw with out := [] })) kept)
  change execQuablinkRequest src seq count body s = _
  rw [execQuablinkRequest]
  refine runBoth_of_vault ?_
  simp only [mgmtUp_out, getF_out, longestResponse_out, up, started, Bool.not_true, Bool.false_eq_true, or_self, if_false, near, counted,
    parsed, short, again]

/-- Settles O47. That a repeat is found before a busy device is the model's choice (log entry 90). -/
theorem repeatedRequestsAreNotPerformed : Obligations.RepeatedRequestsAreNotPerformed := by
  constructor
  · intro src seq count body ts f s up started node any few parsed fits same kept
    exact exec_quablinkRequest_repeat up started node any few parsed fits same kept
  · intro src seq count body ts s up started node any few parsed fits unused busy
    rw [exec_quablinkRequest_wellFormed ⟨up, started, node, any, few, parsed, fits, unused⟩, if_pos busy, refuseRequest]

end Sys2Proof.Machine
end

section
/-! The management port, the minute, the window through BAR2 and the mailbox (R167, R168, R183, R184, R191, R418, R556). -/
namespace Sys2Proof.Machine

/-! PLCA (R167, R168). -/

theorem writtenPlca_out (h : Hw) (o : List Output) : writtenPlca { h with out := o } = writtenPlca h := (rfl)
theorem plcaStatus_out (h : Hw) (o : List Output) : plcaStatus { h with out := o } = plcaStatus h := (rfl)

theorem applyPlca_pending {h : Hw} (pending : h.mgmt.plcaPending = true) :
    applyPlca h = onMgmt h (fun m => { m with plca := writtenPlca h, plcaPending := false }) := if_pos pending

/-- No written setting waits once it was applied, and no register and no memory is touched. -/
theorem applyPlca_leaves (h : Hw) :
    (applyPlca h).mgmt.plcaPending = false ∧ (applyPlca h).regs = h.regs ∧ (applyPlca h).mem = h.mem := by
  unfold applyPlca
  split
  next => exact ⟨rfl, rfl, rfl⟩
  next none => exact ⟨Bool.eq_false_iff.mpr none, rfl, rfl⟩

/-- A transmit opportunity sends a queue of one frame empty, whatever the burst count is. -/
theorem exec_transmitOpportunity_last {f : Frame} {s : State} (up : mgmtUp s.hw = true) (follows : plcaStatus s.hw ≠ 0)
    (last : s.hw.mgmt.tx = [f]) : exec .transmitOpportunity s = .next { s with
      hw := { s.hw with out := [.frame (frameBytes s.hw f)], mgmt := { s.hw.mgmt with tx := [] } } } := by
  have oneAtLeast : ∃ n, (if s.hw.mgmt.plca.enable = 0 then 1 else 1 + s.hw.mgmt.plca.burst) = n + 1 := by
    split
    · exact ⟨0, rfl⟩
    · exact ⟨_, Nat.add_comm 1 _⟩
  obtain ⟨n, count⟩ := oneAtLeast
  change execTransmitOpportunity s = _
  rw [execTransmitOpportunity, State.run_eq]
  simp only [mgmtUp_out, plcaStatus_out, up, follows, ne_eq, not_false_eq_true, and_self, if_true, count, last, List.take_succ_cons,
    List.take_nil, List.foldl_cons, List.foldl_nil]
  simp only [onMgmt, last, List.drop_succ_cons, List.drop_nil, emit, List.nil_append]
  rfl

/-! The minute boundary (R183, R556). -/

@[simp] theorem updateLines_mgmt (h : Hw) : (updateLines h).mgmt = h.mgmt := by simp [updateLines]
@[simp] theorem updateLines_cipher (h : Hw) : (updateLines h).cipher = h.cipher := by simp [updateLines]
@[simp] theorem updateLines_mem (h : Hw) : (updateLines h).mem = h.mem := by simp [updateLines]
@[simp] theorem updateLines_getF (h : Hw) (g : Fld) (i : Nat) : getF (updateLines h) g i = getF h g i := by simp [updateLines]

theorem mirrors_congr {g h : Hw} (state : twinState g = twinState h) (strap : g.pins.strap = h.pins.strap) : mirrors g = mirrors h := by
  rw [mirrors, mirrors, state, twinRole, twinRole, strap]

theorem getF_setReg_ne (h : Hw) {a : Nat} (w : Nat) {f : Fld} {d : Nat} (other : f.key + d ≠ a) : getF (setReg h a w) f d = getF h f d :=
  congrArg (bits f.hi f.lo) (getReg_setReg_ne h w other)

/-- What a closed minute leaves in a device that does not mirror to its twin. -/
theorem closeMinute_leaves {h : Hw} (alone : mirrors h = false) :
    (closeMinute h).cipher.cidx = h.cipher.cidx + 1 ∧ (closeMinute h).cipher.lastClosed = some h.mgmt.minute ∧
    (closeMinute h).mgmt = h.mgmt ∧ getF (closeMinute h) CY_MSTAT_VALID 0 = 1 ∧ (closeMinute h).mem = h.mem := by
  unfold closeMinute
  extract_lets first bank es now closed valid shown
  have quiet : mirrors shown = false := by
    have state : twinState shown = twinState h := by
      simp only [twinState, shown, valid, closed]
      rw [getF_setF_page _ _ _ (by decide), getF_setReg_ne _ _ (by decide), getF_setReg_ne _ _ (by decide),
        getF_setF_page _ _ _ (by decide), getF_setF_page _ _ _ (by decide), onCipher_getF]
    exact (mirrors_congr state (by simp only [shown, valid, closed, setF_pins, setReg_pins, onCipher_pins])).trans alone
  obtain ⟨count, last⟩ : closed.cipher.cidx = h.cipher.cidx + 1 ∧ closed.cipher.lastClosed = some h.mgmt.minute := by
    simp only [closed, onCipher]
    split <;> exact ⟨rfl, rfl⟩
  have marked : getF shown CY_MSTAT_VALID 0 = 1 := by
    simp only [shown, valid]
    rw [getF_setF_key _ _ _ (by decide), getF_setReg_ne _ _ (by decide), getF_setReg_ne _ _ (by decide),
      getF_setF_apart _ _ _ _ _ (by decide), getF_setF_self _ _ _ _ (by decide)]
    rfl
  have cipher : shown.cipher = closed.cipher := by simp only [shown, valid, setF_cipher, setReg_cipher]
  simp only [quiet, Bool.false_eq_true, if_false, cipher, marked, true_and]
  exact ⟨count, last, by simp only [shown, valid, closed, setF_mgmt, setReg_mgmt, onCipher_mgmt],
    by simp only [shown, valid, closed, setF_mem, setReg_mem, onCipher_mem]⟩

/-- With the metering unit's domain up, the minute is closed before the next one begins. -/
theorem exec_minuteBoundary {s : State} (up : domainUp s.hw 5 = true) : exec .minuteBoundary s = .next { s with
    hw := updateLines (onMgmt ([0, 1, 2, 3].foldl (fun h c => onPath h c (fun p => { p with missMinute := 0 }))
      (closeMinute { s.hw with out := [] })) nextMinute) } := by
  have up : domainUp { s.hw with out := [] } 5 = true := up
  change execMinuteBoundary s = _
  rw [execMinuteBoundary, State.run_eq, if_pos up]

/-! The window through BAR2 (R191). -/

/-- The sections in which `len` bytes at window offset `o` lie. -/
def touched (o len : Nat) : List Nat :=
  (List.range 8).filter (fun k => decide (k * 0x100000 < o + len) && decide (o < (k + 1) * 0x100000))

/-- An access of port `p` that stays within section `n`, which its session holds while the window is awake. -/
structure OwnAccess (h : Hw) (p o len n : Nat) : Prop where
  port : p < 2
  exist : n < 8
  above : n * 0x100000 ≤ o
  below : o + len ≤ (n + 1) * 0x100000
  owner : secOwner h n = 0x400 + p
  held : secState h n = 1
  awake : windowAsleep h = false

section
variable {h : Hw} {p o len n : Nat} (own : OwnAccess h p o len n)
include own

theorem OwnAccess.out (l : List Output) : OwnAccess { h with out := l } p o len n :=
  let ⟨port, exist, above, below, owner, held, awake⟩ := own
  ⟨port, exist, above, below, owner, held, awake⟩

theorem OwnAccess.eq_of_touched {k : Nat} (hit : k ∈ touched o len) : k = n := by
  obtain ⟨-, hit⟩ := List.mem_filter.mp hit
  obtain ⟨starts, ends⟩ : k * 0x100000 < o + len ∧ o < (k + 1) * 0x100000 := by simpa using hit
  have above := own.above
  have below := own.below
  omega

theorem OwnAccess.not_inbox : (touched o len).any (fun k => secOwner h k == 0x420) = false := by
  refine List.any_eq_false.mpr fun k hit => ?_
  have port := own.port
  rw [own.eq_of_touched hit, own.owner, beq_iff_eq]
  omega

theorem OwnAccess.all_held : (touched o len).all (fun k => secOwner h k == 0x400 + p && secState h k == 1) = true := by
  refine List.all_eq_true.mpr fun k hit => ?_
  simp [own.eq_of_touched hit, own.owner, own.held]

theorem OwnAccess.not_beyond : ¬(p ≥ 2 ∨ 0x800000 < o + len) := by
  obtain ⟨port, exist, -, below, -, -, -⟩ := own
  omega

end

theorem memBytes_out (h : Hw) (o : List Output) (a : Nat) : ∀ n, memBytes { h with out := o } a n = memBytes h a n
  | 0 => rfl
  | n + 1 => congrArg (memByte h a :: ·) (memBytes_out h o (a + 1) n)

theorem exec_bar2WindowAccess_write {s : State} {p o n : Nat} (requester : Nat) {data : List (BitVec 8)}
    (own : OwnAccess s.hw p o data.length n) : exec (.bar2WindowAccess p o 0 requester true data) s = .next { s with
      hw := touchSections (memStore { s.hw with out := [] } (windowBase + o) data) o data.length } := by
  have own := own.out []
  have notInbox := own.not_inbox
  have held := own.all_held
  unfold touched at notInbox held
  change execBar2WindowAccess p o 0 requester true data s = _
  rw [execBar2WindowAccess, State.run_eq]
  simp only [if_true, if_neg own.not_beyond, notInbox, held, own.awake, Bool.false_eq_true, if_false, Bool.not_false, Bool.and_self]

theorem exec_bar2WindowAccess_read {s : State} {p o k n : Nat} (requester : Nat) (own : OwnAccess s.hw p o k n) :
    exec (.bar2WindowAccess p o k requester false []) s = .next { s with
      hw := emit (touchSections { s.hw with out := [] } o k) (.window (0x400 + p) 0 (memBytes s.hw (windowBase + o) k)) } := by
  have own := own.out []
  have notInbox := own.not_inbox
  have held := own.all_held
  unfold touched at notInbox held
  change execBar2WindowAccess p o k requester false [] s = _
  rw [execBar2WindowAccess, State.run_eq]
  simp only [if_neg own.not_beyond, notInbox, held, own.awake, Bool.false_eq_true, if_false, Bool.not_false, Bool.and_self, if_true,
    memBytes_out]

/-! The mailbox (R418). -/

theorem parseRecord_op {l rest : List (BitVec 8)} {t : Txn} (parsed : parseRecord l = some (t, rest)) : t.op = leVal (l.take 1) := by
  unfold parseRecord at parsed
  dsimp only at parsed
  split at parsed
  · cases parsed
  · cases parsed
    rfl

theorem regBytes_setF {f : Fld} {a n d : Nat} (h : Hw) (v : Nat) (apart : ∀ i < n, a + 4 * i ≠ f.key + d) :
    regBytes (setF h f d v) a n = regBytes h a n :=
  List.flatMap_congr fun i member => congrArg (leBytes 4) (getReg_setF_ne h f d v (apart i (List.mem_range.mp member)))

theorem sessionBusy_setF (h : Hw) (f : Fld) (d v n : Nat) : sessionBusy (setF h f d v) n = sessionBusy h n := (rfl)

theorem flagF_goTaken (h : Hw) (p : Nat) : flagF (setF h HP_MBCTL_GO (inst p) 0) HP_MBCTL_BUSY (inst p) = flagF h HP_MBCTL_BUSY (inst p) :=
  congrArg (· == 1) (getF_setF_apart h HP_MBCTL_GO HP_MBCTL_BUSY (inst p) 0 (by decide))

theorem runMailbox_busy {h : Hw} {p : Nat} (v : Vault) (busy : flagF h HP_MBCTL_BUSY (inst p) = true) :
    runMailbox h v p = setF (setF h HP_MBCTL_GO (inst p) 0) HP_MBCTL_OVR (inst p) 1 :=
  if_pos ((flagF_goTaken h p).trans busy)

/-- A transaction of an idle session that is no block operation ends at once, malformed or answered. -/
theorem runMailbox_ends {h : Hw} {p : Nat} (v : Vault) (free : flagF h HP_MBCTL_BUSY (inst p) = false)
    (idle : sessionBusy h (0x400 + p) = false) (plain : leVal ((regBytes h (HP_MBREQ + inst p) 128).take 1) < 7) :
    ∃ g response, runMailbox h v p = endMailbox g p response := by
  have request : regBytes (setF h HP_MBCTL_GO (inst p) 0) (HP_MBREQ + inst p) 128 = regBytes h (HP_MBREQ + inst p) 128 :=
    regBytes_setF h 0 fun i _ => by simp only [HP_MBREQ, HP_MBCTL_GO, HP_MBCTL]; omega
  unfold runMailbox
  simp only [flagF_goTaken, free, sessionBusy_setF, idle, request, Bool.false_eq_true, if_false]
  split
  next t rest parsed =>
    have whole : ¬((t.op = 7 ∨ t.op = 8) ∧ t.blockStatus (setF h HP_MBCTL_GO (inst p) 0) (0x400 + p) = 0) := by
      rw [← parseRecord_op parsed] at plain
      omega
    rw [if_neg whole]
    split
    · exact ⟨_, _, rfl⟩
    · exact ⟨_, _, rfl⟩
  next => exact ⟨_, _, rfl⟩

theorem getF_done_endMailbox (h : Hw) (p : Nat) (response : Option (List (BitVec 8))) :
    getF (endMailbox h p response) HP_MBCTL_DONE (inst p) = 1 := by
  have done (g : Hw) : getF (setF g HP_MBCTL_DONE (inst p) 1) HP_MBCTL_DONE (inst p) = 1 :=
    (getF_setF_self g HP_MBCTL_DONE (inst p) 1 (by decide)).trans rfl
  unfold endMailbox
  extract_lets d g
  split
  · rw [emit_getF, done]
  · exact done _

theorem exec_mailboxGo {p : Nat} (s : State) (exist : p < 2) :
    exec (.mailboxGo p) s = .next { s with hw := updateLines (runMailbox { s.hw with out := [] } s.vault p) } := by
  change execMailboxGo p s = _
  rw [execMailboxGo]
  exact runBoth_of_vault (by rw [if_pos exist])

/-- Settles O9. A minute's close, an access of one's own section and a mailbox transaction each have their rule above. -/
theorem portAndMinuteEventsComplete : Obligations.PortAndMinuteEventsComplete := by
  refine ⟨?setting, ?beaconSeen, ?beaconLost, ?transmit, ?holdover, ?minute, ?windowWrite, ?windowRead, ?mailboxEnds, ?mailboxOverrun⟩
  case setting =>
    intro s pending
    change execPlcaSettingTakesEffect s = _
    rw [execPlcaSettingTakesEffect, State.run_eq, applyPlca_pending (h := { s.hw with out := [] }) pending, writtenPlca_out, onMgmt]
  case beaconSeen =>
    intro s up
    obtain ⟨applied, regs, mem⟩ := applyPlca_leaves { s.hw with out := [] }
    change ∃ t, execPlcaBeaconSeen s = .next t ∧ _
    rw [execPlcaBeaconSeen, State.run_eq, mgmtUp_out, if_pos up]
    exact ⟨_, rfl, rfl, applied, regs, mem, rfl, rfl⟩
  case beaconLost => exact fun _ => rfl
  case transmit => exact fun _ _ up follows last => exec_transmitOpportunity_last up follows last
  case holdover =>
    intro s synchronised silent
    change execSyncHoldover s = _
    rw [execSyncHoldover, State.run_eq, if_pos ⟨synchronised, silent⟩, onMgmt]
  case minute =>
    intro s up alone
    obtain ⟨count, last, mgmt, valid, mem⟩ := closeMinute_leaves (h := { s.hw with out := [] }) alone
    refine ⟨_, exec_minuteBoundary up, ?_⟩
    simp [count, last, mgmt, valid, mem]
  case windowWrite =>
    intro p o n requester data s port exist above below _ owner held awake
    refine ⟨_, exec_bar2WindowAccess_write requester ⟨port, exist, above, below, owner, held, awake⟩, ?mem, ?regs, rfl, rfl⟩
    case mem => rw [touchSections_keeps (·.mem) (fun _ _ => rfl), memStore_out]
    case regs => rw [touchSections_keeps (·.regs) (fun _ _ => rfl), memStore_regs]
  case windowRead =>
    intro p o k n requester s port exist above below _ owner held awake
    exact ⟨_, exec_bar2WindowAccess_read requester ⟨port, exist, above, below, owner, held, awake⟩, rfl, rfl, rfl, rfl, rfl⟩
  case mailboxEnds =>
    intro p s exist free idle plain
    obtain ⟨g, response, ends⟩ := runMailbox_ends (h := { s.hw with out := [] }) s.vault free idle plain
    refine ⟨_, exec_mailboxGo s exist, ?_, rfl, rfl⟩
    rw [updateLines_getF, ends, getF_done_endMailbox]
  case mailboxOverrun =>
    intro p s exist busy
    refine ⟨_, exec_mailboxGo s exist, ?_, ?_, rfl, rfl⟩
    · rw [updateLines_getF, runMailbox_busy (h := { s.hw with out := [] }) s.vault busy, getF_setF_self _ _ _ _ (by decide)]
      rfl
    · rw [updateLines_mem, runMailbox_busy (h := { s.hw with out := [] }) s.vault busy, setF_mem, setF_mem]

end Sys2Proof.Machine
end

section
/-! The sector code and its scrambler (R217-R220). -/
namespace Sys2Proof.Machine

/-! The checks of an encoded sector (R217-R219). -/

section
variable (u : Nat → BitVec 256) (r : Nat)

theorem rowSum_concat (l : List Nat) (c : Nat) : rowSum u r (l ++ [c]) = rowSum u r l ^^^ blockTerm r c (u c) := List.foldl_concat ..

theorem rowSum_append (l k : List Nat) : rowSum u r (l ++ k) = rowSum u r l ^^^ rowSum u r k := by
  induction k using List.reverseRecOn with
  | nil => simp [rowSum]
  | append_singleton k c ih => rw [← List.append_assoc, rowSum_concat, rowSum_concat, ih, BitVec.xor_assoc]

/-- In the parity columns, row r holds the identity in columns 128 + r and 127 + r and nothing else (R218). -/
theorem blockTerm_parity (t : Nat) (x : BitVec 256) : blockTerm r (128 + t) x = if r = t ∨ r = t + 1 then x else 0 := by
  have beyond : ¬128 + t < 128 := by omega
  have places : blockOf r (128 + t) = decide (r = t ∨ r = t + 1) := by
    rw [blockOf, if_neg beyond, Bool.eq_iff_iff]
    simp only [Bool.or_eq_true, beq_iff_eq, decide_eq_true_eq]
    omega
  have unshifted : x.rotateRight (blockShift r (128 + t)) = x := by
    rw [blockShift, if_neg beyond, BitVec.rotateRight_def]
    simp
  rw [blockTerm, places, unshifted]
  simp only [decide_eq_true_eq]

/-- The sum of row `r` over the first `n` parity columns. -/
theorem rowSum_parity (n : Nat) : rowSum u r ((List.range n).map (128 + ·)) =
    (if r < n then u (128 + r) else 0) ^^^ (if 0 < r ∧ r ≤ n then u (127 + r) else 0) := by
  induction n with
  | zero =>
    have empty : ¬(0 < r ∧ r ≤ 0) := by omega
    rw [if_neg r.not_lt_zero, if_neg empty]
    rfl
  | succ n ih =>
    rw [List.range_succ, List.map_append, List.map_singleton, rowSum_concat, ih, blockTerm_parity]
    obtain below | rfl | rfl | above : r < n ∨ r = n ∨ r = n + 1 ∨ n + 1 < r := by omega
    all_goals grind

theorem rowSum_codeColumn_info : rowSum (codeColumn u) r (List.range 128) = rowSum u r (List.range 128) :=
  List.foldl_ext _ _ _ fun v c mem => by rw [codeColumn, if_pos (List.mem_range.1 mem)]

theorem codeColumn_parity (t : Nat) : codeColumn u (128 + t) = parityBlock u t := by
  rw [codeColumn, if_neg (by omega), Nat.add_sub_cancel_left]

end

/-- The back-substitution of R219 satisfies every row. -/
theorem checkRow_codeColumn (u : Nat → BitVec 256) {r : Nat} (row : r < 16) : checkRow (codeColumn u) r = 0 := by
  have columns : List.range 144 = List.range 128 ++ (List.range 16).map (128 + ·) := List.range_add (n := 128) (m := 16)
  rw [checkRow, columns, rowSum_append, rowSum_codeColumn_info, rowSum_parity, if_pos row, codeColumn_parity]
  cases r with
  | zero => simp [parityBlock]
  | succ t =>
    rw [if_pos ⟨t.succ_pos, row.le⟩, show 127 + (t + 1) = 128 + t by omega, codeColumn_parity, parityBlock]
    simp

theorem onesOf_zero (n : Nat) : onesOf (0 : BitVec n) = 0 := by
  simp [onesOf]

theorem unsatisfied_of_checks {u : Nat → BitVec 256} (checks : ∀ r < 16, checkRow u r = 0) : unsatisfied u = 0 := by
  have ones (n : Nat) (r : Nat) (mem : r ∈ List.range 16) : n + onesOf (checkRow u r) = n := by
    rw [checks r (List.mem_range.1 mem), onesOf_zero, Nat.add_zero]
  rw [unsatisfied, List.foldl_ext _ (fun n _ => n) _ ones, List.foldl_fixed]

/-- Settles O58: the two parity blocks that a row holds sum to what its information columns do. -/
theorem encodedSectorsPassEveryCheck : Obligations.EncodedSectorsPassEveryCheck := by
  intro u
  have checks (r : Nat) (row : r < 16) : checkRow (codeColumn u) r = 0 := checkRow_codeColumn u row
  exact ⟨checks, unsatisfied_of_checks checks, fun c info => if_pos info⟩

/-! The scrambler (R220). -/

theorem scramble_scramble (st : BitVec 31) (l : List Bool) : scramble st (scramble st l) = l := by
  induction l generalizing st with
  | nil => rfl
  | cons b l ih => simp only [scramble, ih, Bool.bne_assoc, bne_self_eq_false, Bool.bne_false]

theorem length_scramble (st : BitVec 31) (l : List Bool) : (scramble st l).length = l.length := by
  induction l generalizing st with
  | nil => rfl
  | cons b l ih => rw [scramble, List.length_cons, List.length_cons, ih]

theorem descramble_scramble (st : BitVec 31) (l : List Bool) (m : Int) :
    descramble st ((scramble st l).map (fun (b : Bool) => if b then -m else m)) = l.map (fun (b : Bool) => if b then -m else m) := by
  induction l generalizing st with
  | nil => rfl
  | cons b l ih =>
    rw [scramble, List.map_cons, List.map_cons, descramble, ih]
    cases b <;> cases scramblerBit st <;> simp

/-- Settles O59: bit by bit, the scrambler's bit is XORed twice, or the sign inverted twice. -/
theorem scramblingTwiceGivesTheBits : Obligations.ScramblingTwiceGivesTheBits :=
  fun st l m => ⟨scramble_scramble st l, length_scramble st l, descramble_scramble st l m⟩

end Sys2Proof.Machine
end

section
/-! An adapter update that a commit of its set meets at the boundary of its head (R230): it is discarded. -/
namespace Sys2Proof.Machine

/-- An update of set 17, that of head 2 and zone group 1, with passive adaptation enabled when its sector started. -/
def waitingUpdate : AdaptDue :=
  { head := 2, group := 1, write := false, adapt := 0x80000000, hfeWritten := false, frontEnd := 0, sums := ⟨[], [], [], [], 0⟩ }

/-- A read sector of head 2 with a mark candidate. -/
def sectorOfHead2 : ChSector :=
  { id := 0, head := 2, group := 1, mode := 0, write := false, nbp := 0x21AF29, cutoff := 0, seed := 1, slot := 0, ldpc := 0, retry := 0,
    adapt := 0, cands := [(0, 255)] }

/-- The sector is in progress in carriage 0, and at its end both a commit of set 17 and the update fall due. -/
def commitAndUpdateDue : State :=
  { hw := onChan {} 0 (fun k => { k with cur := some sectorOfHead2, due := [waitingUpdate], commitDue := [(17, 1)], setsValid := 2 ^ 17 }) }

theorem exec_adapterUpdate (c : Nat) (s : State) :
    exec (.adapterUpdate c) s = .next { s with hw := applyDue { s.hw with out := [] } c } := (rfl)

/-- An update that the end of the sector in progress leaves discarded writes the front end's start word back at most: its set is not noted as
updated. -/
theorem updated_applyDue_discarded {h : Hw} {c : Nat} {x : ChSector} {d e : AdaptDue} (waits : (ch h c).due = [d])
    (here : (ch h c).cur = some x) (same : x.head = d.head) (met : (ch (endSector h c) c).due = [e]) (discarded : e.dropped = true) :
    (ch (applyDue h c) c).updated = (ch (endSector h c) c).updated := by
  unfold applyDue
  simp only [waits, here, List.head?_cons, if_pos same, met, discarded, true_or, if_true]
  split <;> simp [ch]

/-- Refutes O11: the sector in progress ends before its head's update is made, and its boundary's commit of the set has the update discarded
(R230), so no passive update is noted. -/
theorem not_readChannelComplete : ¬ Obligations.ReadChannelComplete := by
  unfold Obligations.ReadChannelComplete
  rintro ⟨-, -, -, -, -, -, -, -, -, -, -, update, -⟩
  obtain ⟨t, ran, -, -, noted, -⟩ := update 0 waitingUpdate commitAndUpdateDue (by decide +kernel) (by decide) (by decide) (by decide +kernel)
    (by decide +kernel) (by decide +kernel) (by decide) (by decide) (by decide) (by decide)
  have met : (ch (endSector { commitAndUpdateDue.hw with out := [] } 0) 0).due = [{ waitingUpdate with dropped := true }] := by decide +kernel
  have unnoted : (ch (endSector { commitAndUpdateDue.hw with out := [] } 0) 0).updated = [] := by decide +kernel
  have kept := updated_applyDue_discarded (h := { commitAndUpdateDue.hw with out := [] }) (x := sectorOfHead2) (d := waitingUpdate)
    (by decide +kernel) (by decide +kernel) (by decide) met rfl
  rw [exec_adapterUpdate] at ran
  rw [← Host.Outcome.next.inj ran, kept, unnoted] at noted
  exact absurd noted (Nat.succ_ne_zero _).symm

end Sys2Proof.Machine
end

section
/-! A read descriptor that is reported while the adaptation read of R300 runs: that routine names no buffer tag, and its sectors' text is not
kept (R236, R300). -/
namespace Sys2Proof.Machine

@[simp] theorem kept_showDefects (h : Hw) (c : Nat) (g : Hw) : Kept (showDefects h c) g ↔ Kept h g := by simp only [showDefects, kept_setF]

@[simp] theorem kept_addDefect (h : Hw) (c : Nat) (d : GDef) (g : Hw) : Kept (addDefect h c d) g ↔ Kept h g := by
  unfold addDefect
  dsimp only
  split <;> simp

@[simp] theorem kept_readFailed (h : Hw) (c : Nat) (w : SecWork) (missed : Bool) (g : Hw) : Kept (readFailed h c w missed) g ↔ Kept h g := by
  unfold readFailed
  dsimp only
  split
  case isTrue => simp
  case isFalse => split <;> simp

@[simp] theorem kept_queueReport (h : Hw) (c : Nat) (r : Rpt) (g : Hw) : Kept (queueReport h c r) g ↔ Kept h g := by
  simp only [queueReport, kept_showStu, kept_onFmt]

/-- The text that a read descriptor leaves under its buffer tag is all that its report changes of memory, and under an adaptation read there is
none. -/
theorem reportReadDesc_mem_of_adaptationRead {h : Hw} {c : Nat} {q : FmReq} (running : (fm h c).running = some q) (adapts : q.opc = 7)
    (o : OpenDesc) (r : Option ChResult) : (reportReadDesc h c o r).mem = h.mem := by
  have kept : Kept (reportReadDesc h c o r) h := by
    have noted : (car h c).fmt.running = some q := running
    unfold reportReadDesc
    rw [kept_queueReport]
    generalize workWhere _ c _ = w
    rcases r with - | r <;> rcases w with - | w
    case none.none => simp
    case none.some => simp
    case some.none => dsimp only; split <;> simp
    case some.some =>
      by_cases good : (r.result == 0 || r.result == 2) = true
      case pos => simp [good, fm, noted, adapts]
      case neg => simp [good]
  exact kept.mem

theorem exec_descriptorReport_read {c : Nat} {o : OpenDesc} {r : ChResult} {s : State} (oldest : (fm s.hw c).started = [o])
    (room : (fm s.hw c).reports.length < 8) (kind : descKind o.desc = 0) (taken : o.refused = false) (ended : (ch s.hw c).results = [r])
    (own : r.sector.id = o.id) :
    exec (.descriptorReport c) s = .next { s with hw := reportReadDesc { s.hw with out := [] } c o (some r) } := by
  have begun : (fm { s.hw with out := [] } c).started = [o] := oldest
  have space : (fm { s.hw with out := [] } c).reports.length < 8 := room
  have found : (ch { s.hw with out := [] } c).results.find? (fun r => r.sector.id == o.id) = some r := by
    have same : (ch { s.hw with out := [] } c).results = [r] := ended
    simp [same, own]
  change execDescriptorReport c s = _
  simp [execDescriptorReport, State.run, begun, Nat.not_le.mpr space, kind, writeKind, taken, found]

/-- The first byte under a buffer tag after a sector's text was put there. -/
theorem mget_storeText_first (h : Hw) (c tag text : Nat) :
    mget memDefault (storeText h c tag text).mem (tagAddress c tag) = BitVec.ofNat 8 text := by
  rw [storeText, mget_memPutAll, leBytes_length, if_pos ⟨Nat.le_refl _, Nat.lt_add_of_pos_right (by decide)⟩, Nat.sub_self]
  rfl

/-- A read of sector 7 of track 0x200 with head 2, tag 5, as an adaptation read of that track may name it. -/
def adaptationDescriptor : Desc := { w0 := 0x02000007, w1 := 0x200, w2 := 5 }

def adaptationOpen : OpenDesc := { desc := adaptationDescriptor, pos := 0, id := 3, refused := false, skipped := false, lost := false }

def adaptationWork : SecWork := { write := false, head := 2, track := 0x200, index := 7, landing := false, desc := adaptationDescriptor, id := 3 }

/-- The sector as the channel recovered it: its text is the number 1. -/
def adaptationResult : ChResult :=
  { sector := { id := 3, head := 2, group := 1, mode := 0, write := false, nbp := 0x21AF29, cutoff := 0, seed := 5, slot := 0, ldpc := 0, retry := 0,
                adapt := 0 }
    result := 0, step := 0, cand := 1, text := 1 }

/-- The request of an adaptation read of that track over one revolution (OPC 0x07 of R300). -/
def adaptationRead : FmReq := { opc := 7, src := true, tag := 9, w1 := 0x200, w2 := 1, w3 := 0x20000 }

/-- Carriage 0 runs the adaptation read, and the sector has its result. -/
def adaptationReadEnds : State :=
  { hw := onChan (onPath (onFmt {} 0 (fun f => { f with running := some adaptationRead, started := [adaptationOpen] }))
      0 (fun p => { p with works := [adaptationWork] })) 0 (fun k => { k with results := [adaptationResult] }) }

/-- Refutes O12: the clause of a converged read leaves open which routine runs, and under the adaptation read of R300 the sector's text is not put
under the tag of its descriptor. -/
theorem not_sectorPathCompletes : ¬ Obligations.SectorPathCompletes := by
  unfold Obligations.SectorPathCompletes
  rintro ⟨-, -, -, -, converged, -⟩
  obtain ⟨t, ran, -, -, -, -, -, -, stored, -⟩ := converged 0 adaptationOpen adaptationResult adaptationWork adaptationReadEnds
    (by decide) (by decide) (by decide) (by decide) (by decide) (by decide) (by decide) (by decide) (by decide) (by decide) (by decide)
    (by decide) (by decide)
  rw [exec_descriptorReport_read (o := adaptationOpen) (r := adaptationResult) (by decide) (by decide) (by decide) (by decide) (by decide)
    (by decide)] at ran
  have unkept := reportReadDesc_mem_of_adaptationRead (h := { adaptationReadEnds.hw with out := [] }) (c := 0) (q := adaptationRead) (by decide)
    (by decide) adaptationOpen (some adaptationResult)
  have first := mget_storeText_first adaptationReadEnds.hw 0 (descBuf adaptationOpen.desc) adaptationResult.text
  rw [← stored, ← Host.Outcome.next.inj ran, unkept] at first
  exact absurd first (by decide)

end Sys2Proof.Machine
end

section
/-! A Landing piece whose record has passed verify (R453): the fillers that its write left open to the data of another one (R268) are open no
longer. -/
namespace Sys2Proof.Machine

theorem entryFenced_out (h : Hw) (o : List Output) (e : Nat) : entryFenced { h with out := o } e = entryFenced h e := (rfl)

theorem extent_out (h : Hw) (o : List Output) (e : Nat) : extent { h with out := o } e = extent h e := (rfl)

/-- Piece 0 of the only command, a Landing write whose record is pushed, reaches the medium. -/
theorem exec_pieceOnMedium_pushed {x : Cmd} {p : Piece} {s : State} (alone : s.hw.engine.cmds = [x]) (ready : x.stage = .ready)
    (one : x.pieces = [p]) (write : writes x = true) (started : p.st = .started) (landing : p.path = .landing) (pushed : p.pushed = true)
    (whole : p.cipher.length = p.count) (inService : entryFenced s.hw p.entry = false) :
    exec (.pieceOnMedium x.slot 0 0) s = s.run fun h =>
      onPath (onPiece h x.slot 0 (fun q => { q with st := .done })) (extent s.hw p.entry).car (fun k => { k with gaps := [] }) := by
  have found : cmdAt { s.hw with out := [] } x.slot = some x := by simp [cmdAt, alone]
  have noError : 0 ≠ stWriteFault := by decide
  change execPieceOnMedium x.slot 0 0 s = _
  simp [execPieceOnMedium, State.run, found, one, ready, started, write, whole, landing, pushed, entryFenced_out, extent_out, inService, noError]

/-- A Landing write of one block to extent entry 7, its record pushed. -/
def pushedPiece : Piece := { entry := 7, first := 0, count := 1, path := .landing, st := .started, pushed := true, cipher := [9] }

def pushedWrite : Cmd :=
  { slot := 4, isn := 10, port := 1, sq := 2, cid := 3, opc := 1, nsid := 3, slba := 0, nlb := 1, ordered := false, stage := .ready,
    pieces := [pushedPiece] }

/-- The write passed Landing position 12 with a filler, between its data sector and its record. -/
def fillerLeftOpen : State :=
  { hw := onPath (onEngine {} (fun g => { g with cmds := [pushedWrite] })) 0 (fun p => { p with gaps := [12] }) }

/-- Refutes O22: the clause of a Landing piece on the medium has the carriages as they were, but the filler positions that its write left open
close with it. -/
theorem not_piecesAndCompletionsComplete : ¬ Obligations.PiecesAndCompletionsComplete := by
  unfold Obligations.PiecesAndCompletionsComplete
  rintro ⟨-, -, landed, -⟩
  obtain ⟨t, ran, -, same, -⟩ := landed pushedWrite pushedPiece fillerLeftOpen rfl rfl rfl rfl rfl rfl rfl rfl (by decide)
  rw [exec_pieceOnMedium_pushed (p := pushedPiece) rfl rfl rfl rfl rfl rfl rfl rfl (by decide)] at ran
  have closed : (path t.hw 0).gaps = [] := by rw [← Host.Outcome.next.inj ran]; rfl
  have left : (path t.hw 0).gaps = [12] := by rw [path, car, same]; rfl
  exact absurd (closed.symm.trans left) (by decide)

end Sys2Proof.Machine
end

section
/-! What a command does to a state that meets a condition, and the servo's part of a carriage. -/
namespace Sys2Proof.Machine

/-- Two meanings that agree where `P` holds leave the same of a state that meets `P`. -/
theorem State.run_of {s : State} {f g : Hw → Hw} (P : Hw → Prop) (met : P { s.hw with out := [] }) (same : ∀ h, P h → f h = g h) :
    s.run f = s.run g := by
  rw [State.run, State.run, same _ met]

@[simp] theorem sv_onServo (h : Hw) (c : Nat) (f : Servo → Servo) : sv (onServo h c f) c = f (sv h c) := by
  rw [sv, car_onServo]
  rfl

@[simp] theorem sv_setF (h : Hw) (f : Fld) (d v c : Nat) : sv (setF h f d v) c = sv h c := (rfl)

end Sys2Proof.Machine
end

section
/-! Seeks that fail with another seek held (R344, R350). -/
namespace Sys2Proof.Machine

/-- A seek that starts ends the stand of the engine (R364). -/
theorem beginSeek_standing (h : Hw) (c hd track : Nat) : (sv (beginSeek h c hd track) c).standing = false := by
  simp [beginSeek, showLimits]

/-- At a second failure a held seek starts, unless the engine already left its stand: either way it stands no longer. -/
theorem seekFail_second_of_held {c hd track : Nat} {s : State} (failed : seekFailed s.hw c = true) (again : (sv s.hw c).failedOnce = true)
    (held : (sv s.hw c).held = some (hd, track)) : ∃ t, exec (.seekFail c) s = .next t ∧ (sv t.hw c).standing = false := by
  have failed : seekFailed { s.hw with out := [] } c = true := failed
  have again : (sv { s.hw with out := [] } c).failedOnce = true := again
  have held : (sv { s.hw with out := [] } c).held = some (hd, track) := held
  change ∃ t, execSeekFail c s = .next t ∧ _
  simp only [execSeekFail, State.run, failed, again, held, Bool.not_true, Bool.false_eq_true, if_false, if_true]
  refine ⟨_, rfl, ?_⟩
  dsimp only
  split
  case isTrue => exact beginSeek_standing _ c hd track
  case isFalse moved => exact Bool.eq_false_of_not_eq_true moved

/-- Carriage 1 seeks with head 2; the seek has failed once, its profile time has stood still for 64 samples again, and a seek to track 9
with head 3 is held. -/
def failsAgainWithSeekHeld : State :=
  { hw := onServo (setF (setF {} SV_STAT_STATE (inst 1) svSeek) SV_STAT_HEAD (inst 1) 2) 1
      (fun v => { v with planned := true, stood := 64, failedOnce := true, held := some (3, 9) }) }

/-- Refutes O14: the clause of the second seek failure leaves open that a seek is held, and a held seek starts then (log entry 97), so that the
engine does not stand. -/
theorem not_servoSamplesAndSeeksComplete : ¬ Obligations.ServoSamplesAndSeeksComplete := by
  unfold Obligations.ServoSamplesAndSeeksComplete
  rintro ⟨-, -, -, -, -, -, -, -, -, -, -, -, second, -⟩
  obtain ⟨t, ran, stands, -⟩ := second 1 failsAgainWithSeekHeld (by decide) (by decide) (by decide)
  obtain ⟨t', ran', moved⟩ := seekFail_second_of_held (c := 1) (hd := 3) (track := 9) (s := failsAgainWithSeekHeld)
    (by decide) (by decide) (by decide)
  rw [Host.Outcome.next.inj (ran.symm.trans ran'), moved] at stands
  exact Bool.false_ne_true stands

end Sys2Proof.Machine
end

section
/-! Learning revolutions and commits of the repetitive controller (R354, R356). -/
namespace Sys2Proof.Machine

/-- The samples of the learning revolution enter the accumulator (R354). -/
def Servo.takeRevolution (v : Servo) (rpm : Nat) : Servo :=
  { v with
    acc := v.rev.foldl (fun m p => mset (fun _ => 0) m p.1 (mget (fun _ => 0) m p.1 + p.2)) v.acc
    rev := [], revCount := 0, rpmSum := v.rpmSum + rpm }

/-- The first revolution of a learning counts. -/
def firstRevolution (h : Hw) (c : Nat) : Hw :=
  setF (setF (onServo h c (fun v => v.takeRevolution (getF h SV_SPD_RPM (inst c)))) SV_RCSTAT_REVS (inst c) 1) SV_RCSTAT_BUSY (inst c) 0

/-- The learning ends with the mean of `n` revolutions: the candidate is ready. -/
def candidateReady (h : Hw) (c n : Nat) : Hw :=
  setF (setF (setF (onServo h c (fun v => { v with
    candidate := candidateTable h c ((v.rpmSum : Rat) / (n : Rat))
    candidateOf := (getF h SV_RC_HEAD (inst c), min 47 (getF h SV_RC_ZONE (inst c)))
    acc := [], rpmSum := 0 })) SV_RCSTAT_READY (inst c) 1) SV_IRQS_RCRDY (inst c) 1) SV_RC_ARM (inst c) 0

theorem sv_firstRevolution (h : Hw) (c : Nat) : sv (firstRevolution h c) c = (sv h c).takeRevolution (getF h SV_SPD_RPM (inst c)) := by
  rw [firstRevolution, sv_setF, sv_setF, sv_onServo]

theorem firstRevolution_revs (h : Hw) (c : Nat) : getF (firstRevolution h c) SV_RCSTAT_REVS (inst c) = 1 := by
  rw [firstRevolution, getF_setF_apart _ SV_RCSTAT_BUSY SV_RCSTAT_REVS _ _ (by decide), getF_setF_self _ SV_RCSTAT_REVS _ _ (by decide)]
  rfl

theorem firstRevolution_busy (h : Hw) (c : Nat) : getF (firstRevolution h c) SV_RCSTAT_BUSY (inst c) = 0 :=
  getF_setF_self _ SV_RCSTAT_BUSY _ 0 (by decide)

/-- What the learning names in SV_RC stays. -/
theorem firstRevolution_getF {g : Fld} (h : Hw) (c : Nat) (other : g.key ≠ SV_RCSTAT) :
    getF (firstRevolution h c) g (inst c) = getF h g (inst c) := by
  rw [firstRevolution, getF_setF_key _ _ _ other, getF_setF_key _ _ _ other, onServo_getF]

theorem firstRevolution_mem (h : Hw) (c : Nat) : (firstRevolution h c).mem = h.mem := by
  rw [firstRevolution, setF_mem, setF_mem, onServo_mem]

theorem exec_rcRevolution_first {c : Nat} {s : State} (full : 640 ≤ (sv s.hw c).revCount) (armed : flagF s.hw SV_RC_ARM (inst c) = true)
    (fresh : (sv s.hw c).rpmSum = 0) :
    exec (.rcRevolution c) s = s.run fun h =>
      if 2 ^ getF h SV_RC_NR (inst c) ≤ 1 then candidateReady (firstRevolution h c) c 1 else firstRevolution h c := by
  change execRcRevolution c s = _
  rw [execRcRevolution]
  refine State.run_of (fun h => 640 ≤ (sv h c).revCount ∧ flagF h SV_RC_ARM (inst c) = true ∧ (sv h c).rpmSum = 0) ⟨full, armed, fresh⟩ ?_
  rintro h ⟨full, armed, fresh⟩
  have revs := firstRevolution_revs h c
  have length := firstRevolution_getF (g := SV_RC_NR) h c (by decide)
  rw [if_neg (by simp [full, armed])]
  simp only [fresh, if_true]
  change (if 2 ^ getF (firstRevolution h c) SV_RC_NR (inst c) ≤ getF (firstRevolution h c) SV_RCSTAT_REVS (inst c) then
    candidateReady (firstRevolution h c) c (getF (firstRevolution h c) SV_RCSTAT_REVS (inst c)) else firstRevolution h c) = _
  rw [revs, length]

theorem exec_rcRevolution_further {c : Nat} {s : State} (full : 640 ≤ (sv s.hw c).revCount)
    (armed : flagF s.hw SV_RC_ARM (inst c) = true) (fresh : (sv s.hw c).rpmSum = 0) (several : 1 ≤ getF s.hw SV_RC_NR (inst c)) :
    exec (.rcRevolution c) s = s.run fun h => firstRevolution h c :=
  (exec_rcRevolution_first full armed fresh).trans (State.run_of (fun h => 1 ≤ getF h SV_RC_NR (inst c)) several fun _ several =>
    if_neg (Nat.not_le.mpr (Nat.one_lt_two_pow (Nat.one_le_iff_ne_zero.mp several))))

theorem exec_rcRevolution_only {c : Nat} {s : State} (full : 640 ≤ (sv s.hw c).revCount)
    (armed : flagF s.hw SV_RC_ARM (inst c) = true) (fresh : (sv s.hw c).rpmSum = 0) (one : getF s.hw SV_RC_NR (inst c) = 0) :
    exec (.rcRevolution c) s = s.run fun h => candidateReady (firstRevolution h c) c 1 :=
  (exec_rcRevolution_first full armed fresh).trans (State.run_of (fun h => getF h SV_RC_NR (inst c) = 0) one fun _ one =>
    if_pos (by rw [one]; decide))

/-- The candidate belongs to the head and zone that SV_RC names when it is ready (R354; log entry 97). -/
theorem sv_candidateReady (h : Hw) (c n : Nat) : sv (candidateReady h c n) c =
    { sv h c with
      candidate := candidateTable h c (((sv h c).rpmSum : Rat) / (n : Rat))
      candidateOf := (getF h SV_RC_HEAD (inst c), min 47 (getF h SV_RC_ZONE (inst c)))
      acc := [], rpmSum := 0 } := by
  rw [candidateReady, sv_setF, sv_setF, sv_setF, sv_onServo]

theorem candidateReady_ready (h : Hw) (c n : Nat) : getF (candidateReady h c n) SV_RCSTAT_READY (inst c) = 1 := by
  rw [candidateReady, getF_setF_key _ _ _ (by decide), getF_setF_key _ _ _ (by decide), getF_setF_self _ SV_RCSTAT_READY _ _ (by decide)]
  rfl

theorem candidateReady_irq (h : Hw) (c n : Nat) : getF (candidateReady h c n) SV_IRQS_RCRDY (inst c) = 1 := by
  rw [candidateReady, getF_setF_key _ _ _ (by decide), getF_setF_self _ SV_IRQS_RCRDY _ _ (by decide)]
  rfl

theorem candidateReady_arm (h : Hw) (c n : Nat) : getF (candidateReady h c n) SV_RC_ARM (inst c) = 0 :=
  getF_setF_self _ SV_RC_ARM _ 0 (by decide)

theorem candidateReady_mem (h : Hw) (c n : Nat) : (candidateReady h c n).mem = h.mem := by simp [candidateReady]

/-- After writes at `n` keys in a row each of them reads what was written there. -/
theorem zget_foldl_zset {n w : Nat} (base : Nat) (word : Nat → Nat) (m : SMap Nat) (within : w < n) :
    zget ((List.range n).foldl (fun m w => zset m (base + w) (word w)) m) (base + w) = word w := by
  induction n with
  | zero => exact absurd within (Nat.not_lt_zero w)
  | succ n ih =>
    rw [List.range_succ, List.foldl_append, List.foldl_cons, List.foldl_nil]
    by_cases last : w = n
    · rw [last, zget_zset]
    · rw [zget_zset_ne _ _ (by omega), ih (by omega)]

/-- The table of the candidate's head and zone takes the candidate (R356). -/
def Servo.commitCandidate (v : Servo) : Servo :=
  { v with
    rcDue := false
    tables := (List.range 640).foldl (fun m w => zset m ((48 * v.candidateOf.1 + v.candidateOf.2) * 640 + w) (zget v.candidate w)) v.tables }

theorem commitCandidate_tables {w : Nat} (v : Servo) (wedge : w < 640) :
    zget v.commitCandidate.tables ((48 * v.candidateOf.1 + v.candidateOf.2) * 640 + w) = zget v.candidate w := by
  have read := zget_foldl_zset ((48 * v.candidateOf.1 + v.candidateOf.2) * 640) (zget v.candidate) v.tables wedge
  simpa only [Servo.commitCandidate] using read

theorem exec_rcCommit_due {c : Nat} {s : State} (due : (sv s.hw c).rcDue = true) (closed : runOpen s.hw c = false)
    (free : writeSideFree s.hw c = true) :
    exec (.rcCommit c) s = s.run fun h => setF (onServo h c Servo.commitCandidate) SV_IRQS_RCCMT (inst c) 1 := by
  change execRcCommit c s = _
  rw [execRcCommit]
  refine State.run_of (fun h => (sv h c).rcDue = true ∧ runOpen h c = false ∧ writeSideFree h c = true) ⟨due, closed, free⟩ ?_
  rintro h ⟨due, closed, free⟩
  rw [if_pos (by simp [due, closed, free])]
  rfl

end Sys2Proof.Machine
end

section
/-! The read-clearance law of a head (R359). -/
namespace Sys2Proof.Machine

@[simp] theorem bandOf_onBand (h : Hw) (c hd : Nat) (f : BandLaw → BandLaw) : bandOf (onBand h c hd f) c hd = f (bandOf h c hd) := by
  rw [bandOf, onBand, sv_onServo, mget_mset_self]
  rfl

@[simp] theorem bandOf_setF (h : Hw) (f : Fld) (d v c hd : Nat) : bandOf (setF h f d v) c hd = bandOf h c hd := (rfl)

@[simp] theorem onBand_getF (h : Hw) (c hd : Nat) (f : BandLaw → BandLaw) (g : Fld) (i : Nat) :
    getF (onBand h c hd f) g i = getF h g i := onServo_getF _ _ _ _ _

@[simp] theorem onBand_mem (h : Hw) (c hd : Nat) (f : BandLaw → BandLaw) : (onBand h c hd f).mem = h.mem := onServo_mem _ _ _

theorem bandOf_countBand (h : Hw) (c hd : Nat) : bandOf (countBand h c) c hd = bandOf h c hd := by
  simp only [countBand, addF, bandOf_setF]

theorem countBand_band (h : Hw) (c : Nat) : getF (countBand h c) SV_IRQS_BAND (inst c) = 1 := by
  have apart : SV_IRQS_BAND.key + inst c ≠ SV_CNT_COUNT.key + (inst c + 20) := by
    change 0xa00800 + inst c ≠ 0xa00900 + (inst c + 20)
    omega
  rw [countBand, addF, getF_setF_reg _ _ _ _ _ _ apart, getF_setF_self _ SV_IRQS_BAND _ _ (by decide)]
  rfl

theorem countBand_mem (h : Hw) (c : Nat) : (countBand h c).mem = h.mem := by simp [countBand]

theorem countBand_getF {g : Fld} {c hd : Nat} (h : Hw) (register : g.key = SV_HBCTL) :
    getF (countBand h c) g (svHead c hd) = getF h g (svHead c hd) := by
  have flags : g.key + svHead c hd ≠ SV_IRQS_BAND.key + inst c := by
    rw [register]
    change 0xa00418 + (c * 0x1000 + hd * 0x40) ≠ 0xa00800 + c * 0x1000
    omega
  have counter : g.key + svHead c hd ≠ SV_CNT_COUNT.key + (inst c + 20) := by
    rw [register]
    change 0xa00418 + (c * 0x1000 + hd * 0x40) ≠ 0xa00900 + (c * 0x1000 + 20)
    omega
  rw [countBand, addF, getF_setF_reg _ _ _ _ _ _ counter, getF_setF_reg _ _ _ _ _ _ flags]

/-- HTRR as the read-clearance law sees it: the step that waits, else the level in force (R360). -/
def readLevel (h : Hw) (c hd : Nat) : Nat := (bandOf h c hd).stepDue.getD (getF h PA_HLVL_HTRR (paHead c hd))

/-- The level that the mean of the block asks for (R359). -/
def readLevelAsked (h : Hw) (c hd : Nat) : Nat :=
  bandStep (((bandOf h c hd).rdSum : Rat) / (bandOf h c hd).rdCount) (getF h SV_HBAND0_CRLO (svHead c hd)) (getF h SV_HBAND0_CRHI (svHead c hd))
    (readLevel h c hd) (getF h SV_HBLIM_HMIN (svHead c hd)) (getF h SV_HBLIM_HMAX (svHead c hd))

/-- A block of reads ends, and another level waits to be stepped to. -/
def BandLaw.endRead (level asked : Nat) (b : BandLaw) : BandLaw :=
  { b with rdSum := 0, rdCount := 0, stepDue := if asked = level then b.stepDue else some asked }

/-- The full block of the read-clearance law has ended, with its step counted when there is one (R359). -/
def readBlockEnded (h : Hw) (c hd : Nat) : Hw :=
  let ended := onBand h c hd (BandLaw.endRead (readLevel h c hd) (readLevelAsked h c hd))
  if readLevelAsked h c hd = readLevel h c hd then ended else countBand ended c

theorem readBlock_full {h : Hw} {c hd : Nat} (enabled : flagF h SV_HBCTL_RDEN (svHead c hd) = true)
    (full : 2 ^ getF h SV_HBCTL_NBS (svHead c hd) ≤ (bandOf h c hd).rdCount) : readBlock h c hd = readBlockEnded h c hd := by
  rw [readBlock, if_pos ⟨enabled, full⟩]
  rfl

theorem bandOf_readBlockEnded (h : Hw) (c hd : Nat) :
    bandOf (readBlockEnded h c hd) c hd = (bandOf h c hd).endRead (readLevel h c hd) (readLevelAsked h c hd) := by
  rw [readBlockEnded]
  split
  · rw [bandOf_onBand]
  · rw [bandOf_countBand, bandOf_onBand]

theorem readBlockEnded_getF {g : Fld} (h : Hw) (c hd : Nat) (register : g.key = SV_HBCTL) :
    getF (readBlockEnded h c hd) g (svHead c hd) = getF h g (svHead c hd) := by
  rw [readBlockEnded]
  split
  · rw [onBand_getF]
  · rw [countBand_getF _ register, onBand_getF]

theorem readBlockEnded_band {h : Hw} {c hd : Nat} (step : readLevelAsked h c hd ≠ readLevel h c hd) :
    getF (readBlockEnded h c hd) SV_IRQS_BAND (inst c) = 1 := by
  rw [readBlockEnded, if_neg step, countBand_band]

theorem readBlockEnded_mem (h : Hw) (c hd : Nat) : (readBlockEnded h c hd).mem = h.mem := by
  rw [readBlockEnded]
  split
  · rw [onBand_mem]
  · rw [countBand_mem, onBand_mem]

theorem writeBlock_disabled {h : Hw} {c hd : Nat} (off : flagF h SV_HBCTL_WREN (svHead c hd) = false) : writeBlock h c hd = h := by
  rw [writeBlock, if_neg (by simp [off])]

theorem laserBlock_disabled {h : Hw} {c hd : Nat} (off : flagF h SV_HBCTL_LBEN (svHead c hd) = false) : laserBlock h c hd = h := by
  rw [laserBlock, if_neg (by simp [off])]

/-- Where only the read-clearance law is enabled its full block ends (R359). -/
theorem exec_bandLawBlock_read {c hd : Nat} {s : State} (up : midUp s.hw c = true) (head : headExists s.hw hd = true)
    (bands : bandsEnabled s.hw c hd = true) (read : flagF s.hw SV_HBCTL_RDEN (svHead c hd) = true)
    (noWrite : flagF s.hw SV_HBCTL_WREN (svHead c hd) = false) (noLaser : flagF s.hw SV_HBCTL_LBEN (svHead c hd) = false)
    (full : 2 ^ getF s.hw SV_HBCTL_NBS (svHead c hd) ≤ (bandOf s.hw c hd).rdCount) :
    exec (.bandLawBlock c hd) s = s.run fun h => readBlockEnded h c hd := by
  change execBandLawBlock c hd s = _
  rw [execBandLawBlock]
  refine State.run_of (fun h => (midUp h c = true ∧ headExists h hd = true ∧ bandsEnabled h c hd = true) ∧
    flagF h SV_HBCTL_RDEN (svHead c hd) = true ∧ flagF h SV_HBCTL_WREN (svHead c hd) = false ∧
    flagF h SV_HBCTL_LBEN (svHead c hd) = false ∧ 2 ^ getF h SV_HBCTL_NBS (svHead c hd) ≤ (bandOf h c hd).rdCount)
    ⟨⟨up, head, bands⟩, read, noWrite, noLaser, full⟩ ?_
  rintro h ⟨works, read, noWrite, noLaser, full⟩
  rw [flagF, ← readBlockEnded_getF h c hd rfl, ← flagF] at noWrite noLaser
  rw [if_pos works, readBlock_full read full, writeBlock_disabled noWrite, laserBlock_disabled noLaser]

end Sys2Proof.Machine
end

section
/-! Steps of the read-clearance law and pending outputs that reach the preamplifier's levels (R360, R361). -/
namespace Sys2Proof.Machine

theorem showSync_getF {g : Fld} {i : Nat} (h : Hw) (c hd : Nat) (other : g.key + i ≠ PA_HSTAT_SYNC.key + paHead c hd) :
    getF (showSync h c hd) g i = getF h g i := by
  rw [showSync]
  split
  · rw [getF_setF_reg _ _ _ _ _ _ other]
  · rfl

theorem showSync_level {g : Fld} (h : Hw) (c hd : Nat) (level : g.key = PA_HLVL) :
    getF (showSync h c hd) g (paHead c hd) = getF h g (paHead c hd) := by
  apply showSync_getF
  rw [level]
  exact fun same => absurd (Nat.add_right_cancel same) (by decide)

theorem showSync_outputs {g : Fld} (h : Hw) (c hd : Nat) (output : g.key = SV_HBCTL) :
    getF (showSync h c hd) g (svHead c hd) = getF h g (svHead c hd) := by
  apply showSync_getF
  rw [output]
  change 0xa00418 + (c * 0x1000 + hd * 0x40) ≠ 0xb00408 + (c * 0x1000 + hd * 0x20)
  omega

theorem showSync_carriages (h : Hw) (c hd : Nat) : (showSync h c hd).carriages = h.carriages := by
  rw [showSync]
  split
  · rw [setF_carriages]
  · rfl

theorem showSync_mem (h : Hw) (c hd : Nat) : (showSync h c hd).mem = h.mem := by
  rw [showSync]
  split
  · rw [setF_mem]
  · rfl

/-- A frame that finds the queue empty is the only one in it. -/
theorem queueFrame_sif {h : Hw} {c : Nat} (word data : Nat) (empty : (car h c).fmt.sif = []) :
    (car (queueFrame h c word data) c).fmt.sif = [({ command := word, data := data, again := false } : SifFrame)] := by
  rw [queueFrame, if_pos (by rw [empty]; decide), startFrame_sif, car_onFmt, empty]
  rfl

theorem bandOf_queueFrame (h : Hw) (c word data hd : Nat) : bandOf (queueFrame h c word data) c hd = bandOf h c hd := by
  obtain ⟨w, l, same⟩ := car_queueFrame h c word data
  rw [bandOf, sv, same, bandOf, sv]

/-- The level of a read-clearance step is in force, and its frame is queued. -/
def clearanceStepped (h : Hw) (c hd lvl : Nat) : Hw :=
  showSync (queueFrame (onBand (setF h PA_HLVL_HTRR (paHead c hd) lvl) c hd (fun b => { b with stepDue := none })) c
    (sifWord false hd 0x10 lvl) lvl) c hd

theorem clearanceStepped_level (h : Hw) (c hd lvl : Nat) :
    getF (clearanceStepped h c hd lvl) PA_HLVL_HTRR (paHead c hd) = lvl % 256 := by
  rw [clearanceStepped, showSync_level _ _ _ rfl, queueFrame_getF, onBand_getF, getF_setF_self _ PA_HLVL_HTRR _ _ (by decide)]
  rfl

theorem clearanceStepped_done (h : Hw) (c hd lvl : Nat) : (bandOf (clearanceStepped h c hd lvl) c hd).stepDue = none := by
  rw [clearanceStepped, bandOf, sv, car, showSync_carriages, ← car, ← sv, ← bandOf, bandOf_queueFrame, bandOf_onBand]

theorem clearanceStepped_sif {h : Hw} {c : Nat} (hd lvl : Nat) (empty : (car h c).fmt.sif = []) :
    (car (clearanceStepped h c hd lvl) c).fmt.sif =
      [({ command := sifWord false hd 0x10 lvl, data := lvl, again := false } : SifFrame)] := by
  rw [clearanceStepped, car, showSync_carriages, ← car, queueFrame_sif]
  rw [onBand, car_onServo, car_setF, empty]

theorem clearanceStepped_mem (h : Hw) (c hd lvl : Nat) : (clearanceStepped h c hd lvl).mem = h.mem := by
  obtain ⟨w, l, o, queued⟩ := queueFrame_only (onBand (setF h PA_HLVL_HTRR (paHead c hd) lvl) c hd (fun b => { b with stepDue := none })) c
    (sifWord false hd 0x10 lvl) lvl
  rw [clearanceStepped, showSync_mem, queued]
  rfl

theorem exec_readClearanceStep_due {c hd lvl : Nat} {s : State} (due : (bandOf s.hw c hd).stepDue = some lvl)
    (head : headExists s.hw hd = true) (closed : runOpen s.hw c = false) (empty : (car s.hw c).fmt.sif = []) :
    exec (.readClearanceStep c hd) s = s.run fun h => clearanceStepped h c hd lvl := by
  change execReadClearanceStep c hd s = _
  rw [execReadClearanceStep]
  refine State.run_of (fun h => (bandOf h c hd).stepDue = some lvl ∧ headExists h hd = true ∧ runOpen h c = false ∧ (car h c).fmt.sif = [])
    ⟨due, head, closed, empty⟩ ?_
  rintro h ⟨due, head, closed, empty⟩
  simp only [due]
  rw [if_pos (by simp [head, closed, empty])]
  rfl

/-- The pending heater level of writes is in force (R361). -/
def heaterApplied (h : Hw) (c hd : Nat) : Hw :=
  showSync (setF (setF (setF h PA_HLVL_HTRW (paHead c hd) (getF h SV_HBCTL_PHTRW (svHead c hd))) SV_HBCTL_PWV (svHead c hd) 0)
    SV_HBCTL_APPLY (svHead c hd) 0) c hd

/-- A head's levels and its pending outputs are different registers. -/
theorem level_ne_output {f g : Fld} (c hd : Nat) (level : f.key = PA_HLVL) (output : g.key = SV_HBCTL) :
    f.key + paHead c hd ≠ g.key + svHead c hd := by
  rw [level, output]
  change 0xb00400 + (c * 0x1000 + hd * 0x20) ≠ 0xa00418 + (c * 0x1000 + hd * 0x40)
  omega

theorem heaterApplied_htrw (h : Hw) (c hd : Nat) :
    getF (heaterApplied h c hd) PA_HLVL_HTRW (paHead c hd) = getF h SV_HBCTL_PHTRW (svHead c hd) := by
  rw [heaterApplied, showSync_level _ _ _ rfl, getF_setF_reg _ _ _ _ _ _ (level_ne_output c hd rfl rfl),
    getF_setF_reg _ _ _ _ _ _ (level_ne_output c hd rfl rfl), getF_setF_self _ PA_HLVL_HTRW _ _ (by decide)]
  exact Nat.mod_eq_of_lt (bits_lt 23 16 _)

theorem heaterApplied_lsrb (h : Hw) (c hd : Nat) :
    getF (heaterApplied h c hd) PA_HLVL_LSRB (paHead c hd) = getF h PA_HLVL_LSRB (paHead c hd) := by
  rw [heaterApplied, showSync_level _ _ _ rfl, getF_setF_reg _ _ _ _ _ _ (level_ne_output c hd rfl rfl),
    getF_setF_reg _ _ _ _ _ _ (level_ne_output c hd rfl rfl), getF_setF_apart _ PA_HLVL_HTRW PA_HLVL_LSRB _ _ (by decide)]

theorem heaterApplied_pwv (h : Hw) (c hd : Nat) : getF (heaterApplied h c hd) SV_HBCTL_PWV (svHead c hd) = 0 := by
  rw [heaterApplied, showSync_outputs _ _ _ rfl, getF_setF_apart _ SV_HBCTL_APPLY SV_HBCTL_PWV _ _ (by decide),
    getF_setF_self _ SV_HBCTL_PWV _ _ (by decide)]
  rfl

theorem heaterApplied_apply (h : Hw) (c hd : Nat) : getF (heaterApplied h c hd) SV_HBCTL_APPLY (svHead c hd) = 0 := by
  rw [heaterApplied, showSync_outputs _ _ _ rfl, getF_setF_self _ SV_HBCTL_APPLY _ _ (by decide)]
  rfl

theorem heaterApplied_carriages (h : Hw) (c hd : Nat) : (heaterApplied h c hd).carriages = h.carriages := by
  simp [heaterApplied, showSync_carriages]

theorem heaterApplied_mem (h : Hw) (c hd : Nat) : (heaterApplied h c hd).mem = h.mem := by simp [heaterApplied, showSync_mem]

theorem exec_bandApply_heater {c hd : Nat} {s : State} (head : headExists s.hw hd = true)
    (asked : flagF s.hw SV_HBCTL_APPLY (svHead c hd) = true) (closed : runOpen s.hw c = false) (free : writeSideFree s.hw c = true)
    (heater : flagF s.hw SV_HBCTL_PWV (svHead c hd) = true) (noLaser : flagF s.hw SV_HBCTL_PLV (svHead c hd) = false) :
    exec (.bandApply c hd) s = s.run fun h => heaterApplied h c hd := by
  change execBandApply c hd s = _
  rw [execBandApply]
  refine State.run_of (fun h => headExists h hd = true ∧ flagF h SV_HBCTL_APPLY (svHead c hd) = true ∧ runOpen h c = false ∧
    writeSideFree h c = true ∧ flagF h SV_HBCTL_PWV (svHead c hd) = true ∧ flagF h SV_HBCTL_PLV (svHead c hd) = false)
    ⟨head, asked, closed, free, heater, noLaser⟩ ?_
  rintro h ⟨head, asked, closed, free, heater, noLaser⟩
  have stays : flagF (setF (setF h PA_HLVL_HTRW (paHead c hd) (getF h SV_HBCTL_PHTRW (svHead c hd))) SV_HBCTL_PWV (svHead c hd) 0)
      SV_HBCTL_PLV (svHead c hd) = false := by
    rw [flagF, getF_setF_apart _ SV_HBCTL_PWV SV_HBCTL_PLV _ _ (by decide),
      getF_setF_reg _ _ _ _ _ _ (level_ne_output c hd rfl rfl).symm, ← flagF, noLaser]
  simp only [head, asked, closed, free, heater, stays, Bool.not_false, Bool.false_eq_true, true_or, and_self, if_true, if_false]
  rfl

/-- Settles O15: each event takes the branch of its meaning that the hypotheses leave, and what it leaves is read off that branch. That the
candidate belongs to the head and zone it was learned at, whatever SV_RC names at the commit, is the model's reading (log entry 97). -/
theorem servoLearningCompletes : Obligations.ServoLearningCompletes := by
  refine ⟨?further, ?only, ?commit, ?block, ?step, ?apply⟩
  case further =>
    intro c s full armed fresh several _
    refine ⟨_, exec_rcRevolution_further full armed fresh several, ?_, ?_, ?_, ?speed, firstRevolution_revs _ c, firstRevolution_busy _ c, ?_,
      firstRevolution_mem _ c, rfl, rfl⟩
    case speed =>
      rw [sv_firstRevolution]
      exact (congrArg (· + getF s.hw SV_SPD_RPM (inst c)) fresh).trans (Nat.zero_add _)
    all_goals rw [sv_firstRevolution]; rfl
  case only =>
    intro c s full armed fresh one _
    refine ⟨_, exec_rcRevolution_only full armed fresh one, candidateReady_ready _ c 1, candidateReady_irq _ c 1, candidateReady_arm _ c 1,
      ?_, ?_, ?_, ?_, ?_, rfl, rfl⟩
    · rw [sv_candidateReady, firstRevolution_getF _ _ (by decide), firstRevolution_getF _ _ (by decide)]
      rfl
    · rw [sv_candidateReady]
    · rw [sv_candidateReady]
    · rw [sv_candidateReady, sv_firstRevolution]
      rfl
    · rw [candidateReady_mem, firstRevolution_mem]
  case commit =>
    intro c w s due closed free wedge _
    refine ⟨_, exec_rcCommit_due due closed free, ?_, getF_setF_self _ SV_IRQS_RCCMT _ 1 (by decide), ?_, ?_, rfl, rfl⟩
    · rw [sv_setF, sv_onServo]
      rfl
    · rw [sv_setF, sv_onServo]
      exact commitCandidate_tables (sv s.hw c) wedge
    · rw [setF_mem, onServo_mem]
  case block =>
    intro c hd s up head bands read noWrite noLaser full
    refine ⟨_, exec_bandLawBlock_read up head bands read noWrite noLaser full, ?_, ?_, ?_, ?_, readBlockEnded_mem _ c hd, rfl, rfl⟩
    · rw [bandOf_readBlockEnded]
      rfl
    · rw [bandOf_readBlockEnded]
      rfl
    · rw [bandOf_readBlockEnded]
      rfl
    · exact readBlockEnded_band (h := { s.hw with out := [] })
  case step =>
    intro c hd lvl s due head closed empty _
    exact ⟨_, exec_readClearanceStep_due due head closed empty, clearanceStepped_level _ c hd lvl, clearanceStepped_done _ c hd lvl,
      clearanceStepped_sif hd lvl empty, clearanceStepped_mem _ c hd lvl, rfl, rfl⟩
  case apply =>
    intro c hd s head asked closed free heater noLaser _
    exact ⟨_, exec_bandApply_heater head asked closed free heater noLaser, heaterApplied_htrw _ c hd, heaterApplied_pwv _ c hd,
      heaterApplied_apply _ c hd, heaterApplied_lsrb _ c hd, heaterApplied_carriages _ c hd, heaterApplied_mem _ c hd, rfl, rfl⟩

end Sys2Proof.Machine
end

section
/-! The voice-coil command of a sideband message is a Q15 code (R332, R400): it saturates at 32,767, one code below the +1.0 V of R400's clamp. -/
namespace Sys2Proof.Machine

theorem q15_le (x : Rat) : q15 x ≤ 32767 := max_le (by decide) (min_le_left _ _)

theorem applyCommand_vcm_le (h : Hw) (c : Nat) (m : SbMsg) (follow : Bool) : ((applyCommand h c m follow).drives.get c).vcm ≤ 32767 := by
  rw [applyCommand, onDrive_drives, Quad.get_set_self]
  exact q15_le _

/-- The motor die has taken note of a message (R386, R388, R400), and commands nothing by it yet. -/
def messageHeard (h : Hw) (c : Nat) (m : SbMsg) (sensed : Int) : Hw :=
  let h := setS (onSpindle h (fun p => { p with last := mset (fun _ => {}) p.last c m, ta := zset p.ta c 0 })) AC_STAT_IMEAS (inst c) sensed
  ecalMessage (onDrive h c (fun d => { d with differs := sbCmdv m.flags && decide (32768 < 10 * (sensed - m.vcm).natAbs) })) c m (sbLock m.flags)

/-- A message in a calibration run shows in SP_ECAL and SP_IRQS, below the drives' registers (R388). -/
theorem getReg_ecalMessage {c a : Nat} (car : c < 4) (above : AC_CMD ≤ a) (h : Hw) (m : SbMsg) (lock : Bool) :
    getReg (ecalMessage h c m lock) a = getReg h a := by
  have below {f : Fld} (page : f.key + 16 ≤ AC_CMD) : a ≠ f.key + 4 * c := by omega
  unfold ecalMessage ecalFail addF
  dsimp only
  split_ifs
  · rfl
  · rw [getReg_setF_ne _ _ _ _ (Nat.ne_of_gt (Nat.lt_of_lt_of_le (by decide) above)), getReg_setF_ne _ _ _ _ (below (by decide)),
      getReg_setF_ne _ _ _ _ (below (by decide))]
  · rfl
  · rw [getReg_setF_ne _ _ _ _ (below (by decide)), onSpindle_getReg]
  · rfl

theorem acState_messageHeard {c : Nat} (car : c < 4) (h : Hw) (m : SbMsg) (sensed : Int) :
    acState (messageHeard h c m sensed) c = acState h c := by
  rw [acState, messageHeard, getF, getReg_ecalMessage car (Nat.le_add_right_of_le (by decide)), ← getF, onDrive_getF, setS,
    getF_setF_apart _ AC_STAT_IMEAS AC_STAT_STATE _ _ (by decide), onSpindle_getF, ← acState]

/-- A drive that follows goes on following by a message with CMDV set. -/
theorem exec_actuatorMessage_follows {c flags : Nat} {vcm ma : Int} {s : State} (wedge elph age period : Nat) (sensed : Int)
    (here : populated s.hw c = true) (up : domainUp s.hw 22 = true) (follows : acState s.hw c = 2) (stays : sbRetract flags = false)
    (valid : sbCmdv flags = true) :
    exec (.actuatorMessage c vcm ma wedge elph age period flags sensed) s = s.run fun h =>
      setAc (applyCommand (messageHeard h c ⟨vcm, ma, wedge, elph, age, period, flags⟩ sensed) c ⟨vcm, ma, wedge, elph, age, period, flags⟩ true) c 2 := by
  change execActuatorMessage c vcm ma wedge elph age period flags sensed s = _
  rw [execActuatorMessage]
  refine State.run_of (fun h => populated h c = true ∧ domainUp h 22 = true ∧ acState h c = 2) ⟨here, up, follows⟩ ?_
  rintro h ⟨here, up, follows⟩
  have state := (acState_messageHeard (lt_four_of_populated here) h ⟨vcm, ma, wedge, elph, age, period, flags⟩ sensed).trans follows
  rw [if_neg (by simp [here, up])]
  simp only [messageHeard, stays, valid, Bool.false_eq_true, if_false, if_true] at state ⊢
  rw [state]
  rfl

theorem actuatorMessage_follows_vcm_le {c flags : Nat} {vcm ma : Int} {s : State} (wedge elph age period : Nat) (sensed : Int)
    (here : populated s.hw c = true) (up : domainUp s.hw 22 = true) (follows : acState s.hw c = 2) (stays : sbRetract flags = false)
    (valid : sbCmdv flags = true) :
    ∃ t, exec (.actuatorMessage c vcm ma wedge elph age period flags sensed) s = .next t ∧ (t.hw.drives.get c).vcm ≤ 32767 := by
  refine ⟨_, exec_actuatorMessage_follows wedge elph age period sensed here up follows stays valid, ?_⟩
  dsimp only
  rw [setAc, setF_drives]
  exact applyCommand_vcm_le _ c _ true

/-- Carriage 1 follows, with a command offset of one code. -/
def followsWithOffset : State :=
  { hw := setF (setF (setF { pins := { strap := 0x7C00 } } PW_DOM_ON 0 0xFFFFFF) AC_STAT_STATE (inst 1) 2) AC_CAL_VOFS (inst 1) 1 }

/-- Refutes O17: to a command of 32,767 and an offset of 1 the clause of a followed message gives 32,768, +1.0 V of R400's clamp, but the
model converts to 16 bits with the saturation of R332, and its output is 32,767 at most. -/
theorem not_actuatorComplete : ¬ Obligations.ActuatorComplete := by
  unfold Obligations.ActuatorComplete
  rintro ⟨message, -⟩
  have here : populated followsWithOffset.hw 1 = true := by decide
  have up : domainUp followsWithOffset.hw 22 = true := by decide
  have follows : acState followsWithOffset.hw 1 = 2 := by decide
  have offset : getS followsWithOffset.hw AC_CAL_VOFS (inst 1) = 1 := by decide
  obtain ⟨t, ran, full, -⟩ := message 1 0 0 0 0 1 32767 0 32767 followsWithOffset here up follows (by decide) (by decide)
  obtain ⟨t', ran', code⟩ := actuatorMessage_follows_vcm_le (flags := 1) (vcm := 32767) (ma := 0) 0 0 0 0 32767 here up follows (by decide) (by decide)
  rw [← Host.Outcome.next.inj (ran.symm.trans ran'), full, offset] at code
  exact absurd code (by decide)

end Sys2Proof.Machine
end

section
/-! What the spindle's operations do to the registers of the motor die and to the state of the drive (R376, R378, R380, R388). -/
namespace Sys2Proof.Machine

/-- Two fields, at one displacement, share no bit. -/
def Fld.apart (f g : Fld) : Bool :=
  g.key != f.key ||
    (decide (f.lo ≤ f.hi) && decide (f.hi ≤ 31) && decide (g.lo ≤ g.hi) && (decide (f.hi < g.lo) || decide (g.hi < f.lo)))

theorem getF_setF_of_apart {f g : Fld} (h : Hw) (d v : Nat) (other : f.apart g = true) : getF (setF h f d v) g d = getF h g d := by
  by_cases key : g.key = f.key
  · simp only [Fld.apart, key, bne_self_eq_false, Bool.false_or, Bool.and_eq_true, Bool.or_eq_true, decide_eq_true_eq] at other
    obtain ⟨⟨⟨written, word⟩, read⟩, beside⟩ := other
    exact getF_setF_beside h f g d v key written word read beside
  · exact getF_setF_key h d v key

/-- Fields that neither the end of the calibration runs nor that of the current loops shows in. -/
def Fld.offLoops (g : Fld) : Bool :=
  (decide (g.key < SP_ECAL) || decide (SP_ECAL + 12 < g.key)) && SP_IRQS_ECAL.apart g && SP_STAT_CONF.apart g && SP_STAT_FW.apart g

/-- The drive with the current loops off. -/
def Spindle.stopLoops (p : Spindle) : Spindle :=
  { p with
    gates := false, lowSide := false, loops := false, seeded := false, locked := false, good := 0, bad := 0, agree := 0,
    sd := 0, sq := 0, idRef := 0, iqRef := 0, vd := 0, vq := 0, w := 0, du := 0, dv := 0, dw := 0,
    va := 0, vb := 0, emfA := 0, emfB := 0, epsSum := 0, epsCount := 0, await := false }

/-- The drive as it enters a state. -/
def Spindle.enter (p : Spindle) : Spindle := { p with inState := 0, checkDue := false }

section
variable (h : Hw)

@[simp] theorem ecalFail_spindle (c : Nat) : (ecalFail h c).spindle = h.spindle := by
  unfold ecalFail
  split <;> simp only [setF_spindle]

@[simp] theorem ecalFailAll_spindle : (ecalFailAll h).spindle = h.spindle := foldl_keeps (·.spindle) _ _ ecalFail_spindle h

@[simp] theorem ecalFailAll_mem : (ecalFailAll h).mem = h.mem := congrArg (·.2.1) (hostSide_ecalFailAll h)
@[simp] theorem setSp_mem (st : Nat) : (setSp h st).mem = h.mem := by rw [setSp, setF_mem, onSpindle_mem]
@[simp] theorem loopsOff_mem : (loopsOff h).mem = h.mem := congrArg (·.2.1) (hostSide_loopsOff h)
@[simp] theorem saveAll_mem : (saveAll h).mem = h.mem := congrArg (·.2.1) (hostSide_saveAll h)

@[simp] theorem loopsOff_spindle : (loopsOff h).spindle = h.spindle.stopLoops := by
  unfold loopsOff
  dsimp only
  rw [setF_spindle, setF_spindle, onSpindle_spindle]
  split
  · rw [ecalFailAll_spindle]
    rfl
  · rfl

@[simp] theorem setSp_spindle (st : Nat) : (setSp h st).spindle = h.spindle.enter := by rw [setSp, setF_spindle, onSpindle_spindle]; rfl

theorem spState_setSp {st : Nat} (state : st < 16) : spState (setSp h st) = st := by
  rw [spState, setSp, getF_setF_self _ SP_STAT_STATE _ _ (by decide)]
  exact Nat.mod_eq_of_lt state

variable {g : Fld}

theorem setSp_getF (st : Nat) (other : SP_STAT_STATE.apart g = true) : getF (setSp h st) g 0 = getF h g 0 := by
  rw [setSp, getF_setF_of_apart _ _ _ other, onSpindle_getF]

theorem ecalFail_getF {c : Nat} (car : c < 4) (off : g.offLoops = true) : getF (ecalFail h c) g 0 = getF h g 0 := by
  simp only [Fld.offLoops, Bool.and_eq_true, Bool.or_eq_true, decide_eq_true_eq] at off
  obtain ⟨⟨⟨runs, irq⟩, -⟩, -⟩ := off
  have other {f : Fld} (run : f.key = SP_ECAL) : g.key + 0 ≠ f.key + 4 * c := by omega
  unfold ecalFail
  split
  · rw [getF_setF_of_apart _ _ _ irq, getF_setF_reg _ _ _ _ _ _ (other rfl), getF_setF_reg _ _ _ _ _ _ (other rfl)]
  · rfl

theorem ecalFailAll_getF (off : g.offLoops = true) : getF (ecalFailAll h) g 0 = getF h g 0 :=
  foldl_keeps_of_mem (π := (getF · g 0)) (fun h _ mem => ecalFail_getF h (List.mem_range.mp mem) off) h

theorem loopsOff_getF (off : g.offLoops = true) : getF (loopsOff h) g 0 = getF h g 0 := by
  have apart := off
  simp only [Fld.offLoops, Bool.and_eq_true] at apart
  obtain ⟨⟨⟨-, -⟩, conf⟩, fw⟩ := apart
  unfold loopsOff
  dsimp only
  rw [getF_setF_of_apart _ _ _ fw, getF_setF_of_apart _ _ _ conf, onSpindle_getF]
  split
  · exact ecalFailAll_getF h off
  · rfl

theorem loopsOff_conf : getF (loopsOff h) SP_STAT_CONF 0 = 0 := by
  rw [loopsOff, getF_setF_of_apart _ _ _ (by decide), getF_setF_self _ SP_STAT_CONF _ _ (by decide)]
  rfl

end

end Sys2Proof.Machine
end

section
/-! The spindle's states (R380, R390, R393): what entering each of them leaves. -/
namespace Sys2Proof.Machine

section
variable (h : Hw)

@[simp] theorem spFault_mem : (spFault h).mem = h.mem := by rw [spFault, setSp_mem, loopsOff_mem]

theorem coast_eq : coast h =
    if spState (loopsOff h) = spStopped ∨ spState (loopsOff h) = spFaulted then loopsOff h else setSp (loopsOff h) spCoasting := (rfl)

@[simp] theorem coast_mem : (coast h).mem = h.mem := by
  rw [coast_eq]
  split
  · exact loopsOff_mem h
  · rw [setSp_mem, loopsOff_mem]

@[simp] theorem brake_mem (align : Bool) (ms : Nat) : (brake h align ms).mem = h.mem := by rw [brake, setSp_mem, onSpindle_mem, loopsOff_mem]

@[simp] theorem measure_mem : (measure h).mem = h.mem := by rw [measure, setF_mem, setSp_mem, loopsOff_mem]

@[simp] theorem spFault_spindle : (spFault h).spindle = h.spindle.stopLoops.enter := by rw [spFault, setSp_spindle, loopsOff_spindle]

@[simp] theorem measure_spindle : (measure h).spindle = h.spindle.stopLoops.enter := by rw [measure, setF_spindle, setSp_spindle, loopsOff_spindle]

@[simp] theorem brake_spindle (align : Bool) (ms : Nat) : (brake h align ms).spindle =
    { h.spindle.stopLoops.enter with lowSide := true, brakeThenAlign := align, brakeFor := ms, quiet := 0 } := by
  rw [brake, setSp_spindle, onSpindle_spindle, loopsOff_spindle]
  rfl

theorem spState_spFault : spState (spFault h) = spFaulted := spState_setSp _ (by decide)

theorem spState_brake (align : Bool) (ms : Nat) : spState (brake h align ms) = spBraking := spState_setSp _ (by decide)

theorem spState_measure : spState (measure h) = spMeasuring := by
  rw [spState, measure, getF_setF_of_apart _ _ _ (by decide), ← spState, spState_setSp _ (by decide)]

theorem measure_csrc : getF (measure h) SP_STAT_CSRC 0 = 0 := getF_setF_self _ SP_STAT_CSRC _ 0 (by decide)

/-- A field that no loss of the loops and no change of state shows in. -/
theorem spFault_getF {g : Fld} (off : g.offLoops = true) (other : SP_STAT_STATE.apart g = true) : getF (spFault h) g 0 = getF h g 0 := by
  rw [spFault, setSp_getF _ _ other, loopsOff_getF _ off]

theorem measure_getF {g : Fld} (off : g.offLoops = true) (other : SP_STAT_STATE.apart g = true) (source : SP_STAT_CSRC.apart g = true) :
    getF (measure h) g 0 = getF h g 0 := by
  rw [measure, getF_setF_of_apart _ _ _ source, setSp_getF _ _ other, loopsOff_getF _ off]

theorem spState_loopsOff : spState (loopsOff h) = spState h := loopsOff_getF h (by decide)

/-- A spindle that turns coasts (R393). -/
theorem coast_turning {h : Hw} (turns : spState h ≠ spStopped) (sound : spState h ≠ spFaulted) : coast h = setSp (loopsOff h) spCoasting := by
  rw [coast_eq, if_neg (by rw [spState_loopsOff]; exact not_or.mpr ⟨turns, sound⟩)]

theorem coast_getF {g : Fld} (off : g.offLoops = true) (other : SP_STAT_STATE.apart g = true) : getF (coast h) g 0 = getF h g 0 := by
  rw [coast_eq]
  split
  · exact loopsOff_getF h off
  · rw [setSp_getF _ _ other, loopsOff_getF _ off]

/-- Coasting drives no gate and runs no loop. -/
theorem coast_quiet : (coast h).spindle.gates = false ∧ (coast h).spindle.loops = false := by
  rw [coast_eq]
  split
  · rw [loopsOff_spindle]
    exact ⟨rfl, rfl⟩
  · rw [setSp_spindle, loopsOff_spindle]
    exact ⟨rfl, rfl⟩

end

end Sys2Proof.Machine
end

section
/-! A fault in a unit of the spindle or of the supply monitor (R405, R592): whatever the reaction, the motor die's page and the state of the
drive stay. -/
namespace Sys2Proof.Machine

/-- A register, and the state of the spindle drive. -/
def driveSide (a : Nat) (h : Hw) : Nat × Spindle := (getReg h a, h.spindle)

theorem driveSide_eq_iff {a : Nat} {g h : Hw} : driveSide a g = driveSide a h ↔ getReg g a = getReg h a ∧ g.spindle = h.spindle :=
  Prod.mk.injEq .. ▸ Iff.rfl

section
variable (a : Nat) (h : Hw)

theorem driveSide_onBoot (f : Boot → Boot) : driveSide a (onBoot h f) = driveSide a h := (rfl)
theorem driveSide_onUnit (u : Nat) (f : UnitSt → UnitSt) : driveSide a (onUnit h u f) = driveSide a h := (rfl)
theorem driveSide_onIsland (f : Island → Island) : driveSide a (onIsland h f) = driveSide a h := (rfl)
theorem driveSide_onMgmt (f : Mgmt → Mgmt) : driveSide a (onMgmt h f) = driveSide a h := (rfl)
theorem driveSide_onPath (c : Nat) (f : SectorPath → SectorPath) : driveSide a (onPath h c f) = driveSide a h := (rfl)
theorem driveSide_onDict (f : Dict → Dict) : driveSide a (onDict h f) = driveSide a h := (rfl)
theorem driveSide_onDrive (c : Nat) (f : Drive → Drive) : driveSide a (onDrive h c f) = driveSide a h := (rfl)
theorem driveSide_setF_ne (f : Fld) (d v : Nat) (ne : a ≠ f.key + d) : driveSide a (setF h f d v) = driveSide a h :=
  driveSide_eq_iff.2 ⟨getReg_setF_ne h f d v ne, setF_spindle h f d v⟩

theorem driveSide_txFrame (f : Frame) : driveSide a (txFrame h f) = driveSide a h := by
  unfold txFrame
  split <;> rfl

theorem driveSide_raiseAlert (code detail : Nat) : driveSide a (raiseAlert h code detail) = driveSide a h := by
  unfold raiseAlert
  dsimp only
  rw [apply_ite (driveSide a), driveSide_txFrame, ite_self, driveSide_onMgmt]

/-- What is saved before a stop lies in the carriages and the dictionary. -/
theorem driveSide_saveAll : driveSide a (saveAll h) = driveSide a h := by
  have checkpoints (l : List Nat) (h : Hw) :
      driveSide a (l.foldl (fun h c => if midUp h c then makeCheckpoint h c true else h) h) = driveSide a h := by
    refine foldl_keeps (driveSide a) _ _ (fun h c => ?_) h
    split <;> rfl
  have tables (h : Hw) (c : Nat) : driveSide a (saveTables h c) = driveSide a h := by
    refine foldl_keeps (driveSide a) _ _ (fun h hd => ?_) h
    split
    · exact driveSide_onDict a _ _
    · rfl
  have allTables (l : List Nat) (h : Hw) :
      driveSide a (l.foldl (fun h c => if populated h c then saveTables h c else h) h) = driveSide a h := by
    refine foldl_keeps (driveSide a) _ _ (fun h c => ?_) h
    split
    · exact tables h c
    · rfl
  have sets (l : List Nat) (h : Hw) : driveSide a (l.foldl (fun h c => if populated h c then saveSets h c else h) h) = driveSide a h := by
    refine foldl_keeps (driveSide a) _ _ (fun h c => ?_) h
    split <;> rfl
  rw [saveAll, checkpoints, saveWork, allTables, saveSetsOf, sets]

end

section
variable {a : Nat} (page : regCode a = 12) (h : Hw)
include page

/-- A field of another page is another register. -/
theorem driveSide_setF (f : Fld) (d v : Nat) (other : regCode (f.key + d) ≠ 12) : driveSide a (setF h f d v) = driveSide a h :=
  driveSide_setF_ne a h f d v fun same => other (same ▸ page)

theorem driveSide_raiseRecord (u c v d : Nat) (b : Bool) : driveSide a (raiseRecord h u c v d b) = driveSide a h :=
  driveSide_eq_iff.2 ⟨raiseRecord_getReg h u c v d b fun same => absurd (same ▸ page) (by decide), raiseRecord_spindle h u c v d b⟩

theorem driveSide_ruleRecord (u n v d : Nat) : driveSide a (ruleRecord h u n v d) = driveSide a h := driveSide_raiseRecord page h _ _ _ _ _

theorem driveSide_stopAlive (cause : Nat) : driveSide a (stopAlive h cause) = driveSide a h := by
  unfold stopAlive
  split
  · rw [driveSide_setF page _ _ _ _ (by decide), driveSide_onIsland]
  · rfl

omit page in
theorem driveSide_askStair4 (code : Nat) : driveSide a (askStair4 h code) = driveSide a h := by
  unfold askStair4
  split
  · rfl
  · rw [driveSide_raiseAlert, driveSide_onIsland, driveSide_onBoot]

theorem driveSide_haltStart : driveSide a (haltStart h) = driveSide a h := by
  rw [haltStart, driveSide_raiseAlert, driveSide_stopAlive page, driveSide_setF page _ _ _ _ (by decide),
    driveSide_setF page _ _ _ _ (by decide)]

/-- The registers of the actuator drives stand above the page. -/
theorem driveSide_setF_above (f : Fld) (d v : Nat) (above : AC_CMD ≤ f.key) : driveSide a (setF h f d v) = driveSide a h := by
  simp only [regCode, AC_CMD] at page above
  exact driveSide_setF_ne a h f d v (by omega)

theorem driveSide_startRetract (c : Nat) : driveSide a (startRetract h c) = driveSide a h := by
  unfold startRetract addF
  dsimp only
  split
  · rfl
  · rw [driveSide_setF_above page _ _ _ _ (by decide), driveSide_setF_above page _ _ _ _ (by decide),
      driveSide_setF_above page _ _ _ _ (by decide), driveSide_setF_above page _ _ _ _ (by decide), driveSide_onDrive]

theorem driveSide_retractAll : driveSide a (retractAll h) = driveSide a h := by
  refine foldl_keeps (driveSide a) _ _ (fun h c => ?_) h
  split
  · exact driveSide_startRetract page h c
  · rfl

theorem driveSide_takeReset (cause u : Nat) : driveSide a (takeReset h cause u) = driveSide a h := by
  unfold takeReset
  split
  · rfl
  · split
    · dsimp only
      rw [driveSide_askStair4, driveSide_haltStart page, driveSide_raiseRecord page, driveSide_onBoot,
        driveSide_setF page _ _ _ _ (by decide)]
    · dsimp only
      rw [driveSide_retractAll page, driveSide_setF page _ _ _ _ (by decide), foldl_keeps (driveSide a) _ _ (fun h c => driveSide_onPath a h c _),
        driveSide_ruleRecord page, driveSide_setF page _ _ _ _ (by decide), driveSide_setF page _ _ _ _ (by decide), driveSide_onBoot]
      split <;> rfl

omit page in
theorem beginReinit_loops : beginReinit h 0x6110 = onUnit (resetUnitRegs (cutBlocks h [0x6110] 8) 0x6110) 0x6110 (fun x =>
    { x with busy := true, failed := false, force := 0, summary := x.summary &&& x.cause, faulted := false, degraded := false }) := by
  have noCarriage : carriageOf 0x6110 = none := by decide
  have noDrive : ((0x6110 : Nat) / 0x10 == 0x621) = false := by decide
  have stop (h : Hw) : unitStop h 0x6110 = resetUnitRegs h 0x6110 := by
    simp only [unitStop, noCarriage]
    repeat rw [if_neg (by decide)]
  simp only [beginReinit, noDrive, noCarriage, stop, Bool.false_and, Bool.false_eq_true, if_false]
  repeat rw [if_neg (by decide)]

/-- No register is the current loops' own, so that their re-initialise leaves all of them (R406). -/
theorem driveSide_beginReinit_loops : driveSide a (beginReinit h 0x6110) = driveSide a h := by
  have others : (regLeaf a == 0x6110) = false := by
    simp only [regLeaf, page]
    split <;> rfl
  have kept (h : Hw) : getReg (resetUnitRegs h 0x6110) a = getReg h a := by rw [resetUnitRegs, getReg_resetRegs_of_not_sel _ _ others]
  rw [beginReinit_loops, driveSide_onUnit, driveSide_eq_iff.2 ⟨kept _, resetUnitRegs_spindle _ _⟩, cutBlocks, driveSide_onMgmt]

omit page in
/-- A fence of the current loops is a Stair 3 (R31). -/
theorem fenceIsStair3_loops : fenceIsStair3 h 0x6110 = true := (rfl)

theorem driveSide_s2ByFault_loops : driveSide a (s2ByFault h 0x6110) = driveSide a h := by
  unfold s2ByFault
  dsimp only
  split
  · rw [fenceByFault, if_pos (fenceIsStair3_loops h), driveSide_takeReset page]
  · rw [driveSide_beginReinit_loops page, driveSide_onIsland, driveSide_onUnit]

/-- No reaction but a fence, and a Stair 2 of a unit other than the current loops, reaches the drive. -/
theorem driveSide_react (u k : Nat) {r : Reaction} (noFence : r ≠ .fence) (loops : r = .s2 → u = 0x6110) :
    driveSide a (react h u k r) = driveSide a h := by
  unfold react
  split_ifs
  · rfl
  · exact driveSide_onUnit a h u _
  · cases r with
    | record => rfl
    | faulted => exact driveSide_onUnit a h u _
    | s2 =>
      rw [loops rfl]
      exact driveSide_s2ByFault_loops page h
    | fence => exact absurd rfl noFence
    | s3 =>
      dsimp only
      rw [driveSide_stopAlive page, driveSide_takeReset page]
    | s4 =>
      dsimp only
      rw [driveSide_askStair4, driveSide_stopAlive page, driveSide_onUnit]

/-- Class `k` of unit `u` is answered by a reaction that leaves the drive alone: a record, Faulted or Stair 4, or the Stair 2 of the current
loops. -/
theorem driveSide_raiseFault {u k : Nat}
    (mild : reaction u k = .record ∨ reaction u k = .faulted ∨ reaction u k = .s4 ∨ reaction u k = .s2 ∧ u = 0x6110) (forced : Bool) :
    driveSide a (raiseFault h u k forced) = driveSide a h := by
  have chosen (h : Hw) : effective h u (reaction u k) ≠ .fence ∧ (effective h u (reaction u k) = .s2 → u = 0x6110) := by
    obtain same | same | same | ⟨same, rfl⟩ := mild
    iterate 3 rw [same]; exact ⟨nofun, nofun⟩
    rw [same]
    unfold effective
    dsimp only
    simp only [fenceIsStair3_loops, if_true]
    split_ifs <;> simp
  rw [raiseFault, driveSide_react page _ _ _ (chosen _).1 (chosen _).2, driveSide_raiseRecord page, driveSide_onUnit]

end

end Sys2Proof.Machine
end

section
/-! A control period (R35, R373-R377): what it measures, and what its loops show. -/
namespace Sys2Proof.Machine

/-- The drive one control period later. -/
def Spindle.tick (p : Spindle) : Spindle :=
  { p with
    inState := p.inState + 1, waited := p.waited + 1, lossAge := p.lossAge + 1
    ta := (List.range 4).foldl (fun m c => zset m c (zget m c + 1)) p.ta }

/-- The actuator drives one control period later. -/
def drivesTicked (h : Hw) : Hw :=
  (List.range 4).foldl (fun g c => onDrive g c (fun d => { d with
    age := d.age + 1, turned := d.turned + absR (speedNow h) / 60 * (5 / 1000000), offFor := if d.differs then d.offFor + 1 else 0 })) h

theorem tickMotion_eq (h : Hw) : tickMotion h = onSpindle (drivesTicked h) Spindle.tick := (rfl)

section
variable (h : Hw)

theorem drivesTicked_getF (g : Fld) (i : Nat) : getF (drivesTicked h) g i = getF h g i :=
  foldl_keeps (getF · g i) _ _ (fun _ _ => onDrive_getF _ _ _ _ _) h

theorem drivesTicked_spindle : (drivesTicked h).spindle = h.spindle := foldl_keeps (·.spindle) _ _ (fun _ _ => onDrive_spindle _ _ _) h
theorem drivesTicked_island : (drivesTicked h).island = h.island := foldl_keeps (·.island) _ _ (fun _ _ => onDrive_island _ _ _) h
theorem drivesTicked_out : (drivesTicked h).out = h.out := foldl_keeps (·.out) _ _ (fun _ _ => onDrive_out _ _ _) h
theorem drivesTicked_mem : (drivesTicked h).mem = h.mem := foldl_keeps (·.mem) _ _ (fun _ _ => onDrive_mem _ _ _) h

theorem tickMotion_getF (g : Fld) (i : Nat) : getF (tickMotion h) g i = getF h g i := by
  rw [tickMotion_eq, onSpindle_getF, drivesTicked_getF]

theorem tickMotion_spindle : (tickMotion h).spindle = h.spindle.tick := by rw [tickMotion_eq, onSpindle_spindle, drivesTicked_spindle]

theorem domainUp_tickMotion (d : Nat) : domainUp (tickMotion h) d = domainUp h d := by
  rw [domainUp, domainOn, tickMotion_getF, tickMotion_eq, onSpindle_island, drivesTicked_island, domainUp, domainOn]

variable (iU iV : Rat) (v12 v5 : Nat)

/-- The buses show. -/
def busesShown : Hw := setF (setF h SP_VBUS_V12 0 v12) SP_VBUS_V5 0 v5

omit h in
/-- With no hold-up in progress the least bus voltage of one is not followed (R397). -/
theorem measureMotor_eq {h : Hw} (calm : h.spindle.holdUp = false) : ∃ f : Spindle → Spindle, measureMotor h iU iV v12 v5 =
    onSpindle (busesShown h v12 v5) f ∧ ∀ p, ∃ n q, f p = { p with ocur := n, quiet := q } := by
  have still (n : Nat) : ¬ ((sp (setF (setF h SP_VBUS_V12 0 v12) SP_VBUS_V5 0 v5)).holdUp = true ∧ v12 < n) := fun hold => by
    rw [sp, setF_spindle, setF_spindle, calm] at hold
    exact Bool.false_ne_true hold.1
  unfold measureMotor busesShown
  dsimp only
  rw [if_neg (still _)]
  exact ⟨_, rfl, fun _ => ⟨_, _, rfl⟩⟩

/-- A control period has measured the motor and the buses, and released the clamp where it may (R373, R382). -/
def periodBegun : Hw := releaseClamp (measureMotor (tickMotion h) iU iV v12 v5) v12

theorem releaseClamp_spindle : (releaseClamp h v12).spindle = h.spindle := by
  unfold releaseClamp
  split <;> simp only [setF_spindle]

theorem releaseClamp_out : (releaseClamp h v12).out = h.out := by
  unfold releaseClamp
  split <;> simp only [setF_out]

theorem releaseClamp_mem : (releaseClamp h v12).mem = h.mem := by
  unfold releaseClamp
  split <;> simp only [setF_mem]

theorem releaseClamp_getF {g : Fld} (other : SP_STAT_VCLAMP.apart g = true) : getF (releaseClamp h v12) g 0 = getF h g 0 := by
  unfold releaseClamp
  split
  · exact getF_setF_of_apart _ _ _ other
  · rfl

section
variable {h : Hw} (calm : h.spindle.holdUp = false)
include calm

theorem periodBegun_eq : ∃ f : Spindle → Spindle, periodBegun h iU iV v12 v5 = releaseClamp (onSpindle (busesShown (tickMotion h) v12 v5) f) v12 ∧
    ∀ p, ∃ n q, f p = { p with ocur := n, quiet := q } := by
  obtain ⟨f, same, counts⟩ := measureMotor_eq iU iV v12 v5 (h := tickMotion h) (by rw [tickMotion_spindle]; exact calm)
  exact ⟨f, by rw [periodBegun, same], counts⟩

theorem periodBegun_spindle : ∃ n q, (periodBegun h iU iV v12 v5).spindle = { h.spindle.tick with ocur := n, quiet := q } := by
  obtain ⟨f, same, counts⟩ := periodBegun_eq iU iV v12 v5 calm
  rw [same, releaseClamp_spindle, onSpindle_spindle, busesShown, setF_spindle, setF_spindle, tickMotion_spindle]
  exact counts _

theorem periodBegun_out : (periodBegun h iU iV v12 v5).out = h.out := by
  obtain ⟨f, same, -⟩ := periodBegun_eq iU iV v12 v5 calm
  rw [same, releaseClamp_out, onSpindle_out, busesShown, setF_out, setF_out, tickMotion_eq, onSpindle_out, drivesTicked_out]

theorem periodBegun_mem : (periodBegun h iU iV v12 v5).mem = h.mem := by
  obtain ⟨f, same, -⟩ := periodBegun_eq iU iV v12 v5 calm
  rw [same, releaseClamp_mem, onSpindle_mem, busesShown, setF_mem, setF_mem, tickMotion_eq, onSpindle_mem, drivesTicked_mem]

theorem periodBegun_getF {g : Fld} (buses : g.key ≠ SP_VBUS) (other : SP_STAT_VCLAMP.apart g = true) :
    getF (periodBegun h iU iV v12 v5) g 0 = getF h g 0 := by
  obtain ⟨f, same, -⟩ := periodBegun_eq iU iV v12 v5 calm
  rw [same, releaseClamp_getF _ _ other, onSpindle_getF, busesShown, getF_setF_key _ _ _ buses, getF_setF_key _ _ _ buses, tickMotion_getF]

theorem periodBegun_v12 : getF (periodBegun h iU iV v12 v5) SP_VBUS_V12 0 = v12 % 65536 := by
  obtain ⟨f, same, -⟩ := periodBegun_eq iU iV v12 v5 calm
  rw [same, releaseClamp_getF _ _ (by decide), onSpindle_getF, busesShown, getF_setF_of_apart _ _ _ (by decide),
    getF_setF_self _ SP_VBUS_V12 _ _ (by decide)]
  rfl

theorem periodBegun_v5 : getF (periodBegun h iU iV v12 v5) SP_VBUS_V5 0 = v5 % 65536 := by
  obtain ⟨f, same, -⟩ := periodBegun_eq iU iV v12 v5 calm
  rw [same, releaseClamp_getF _ _ (by decide), onSpindle_getF, busesShown, getF_setF_self _ SP_VBUS_V5 _ _ (by decide)]
  rfl

end

/-- The period of a drive whose loops are off. -/
def idlePeriod : Hw :=
  setF (onSpindle (setF h SP_STAT_WCAR 0 (wedgeSource h)) (fun p => { p with iU := iU, iV := iV })) SP_SPD_RPM 0 0

/-- The observer has taken the samples in, and the phase currents are those of this period (R377). -/
def periodObserved : Hw := observe (setF h SP_STAT_WCAR 0 (wedgeSource h)) iU iV v12

/-- The loops have set the gates (R374-R376). -/
def periodDriven : Hw :=
  currentLoops (onSpindle (periodObserved h iU iV v12) (fun p => { p with iU := iU, iV := iV })) iU iV v12
    (commutationAngle (periodObserved h iU iV v12))

/-- The period of a drive whose loops run. -/
def loopPeriod : Hw :=
  setF (setF (periodDriven h iU iV v12) SP_SPD_RPM 0 (roundR (speedNow (periodDriven h iU iV v12))).natAbs)
    SP_STAT_DIR 0 (decide (speedNow (periodDriven h iU iV v12) < 0)).toNat

/-- The loops turn to `theta`, set the duty cycles and drive the gates by them; the observer is as it was. -/
theorem currentLoops_eq (v theta : Rat) : ∃ (p : Spindle) (w : Nat),
    currentLoops h iU iV v theta = emit (setF (onSpindle h fun _ => p) SP_STAT_FW 0 w) (.gates p.du p.dv p.dw) ∧
    p.theta = theta ∧ p.obsTheta = h.spindle.obsTheta ∧ p.obsRpm = h.spindle.obsRpm ∧ p.epsCount = h.spindle.epsCount := by
  unfold currentLoops
  dsimp only
  exact ⟨_, _, rfl, rfl, rfl, rfl, rfl⟩

theorem observe_spindle (v : Rat) : (observe h iU iV v).spindle.epsCount = h.spindle.epsCount + 1 := (rfl)
theorem observe_out (v : Rat) : (observe h iU iV v).out = h.out := (rfl)
theorem observe_mem (v : Rat) : (observe h iU iV v).mem = h.mem := (rfl)
theorem observe_getF (v : Rat) (g : Fld) (i : Nat) : getF (observe h iU iV v) g i = getF h g i := (rfl)

end

end Sys2Proof.Machine
end

section
/-! The control periods of a drive whose loops are off, and of one that the observer commutates (R373-R377, R379). -/
namespace Sys2Proof.Machine

theorem commutationAngle_observer {h : Hw} (source : getF h SP_STAT_CSRC 0 = 1) (state : spState h ≠ spAligning) :
    commutationAngle h = h.spindle.obsTheta := by
  unfold commutationAngle
  dsimp only
  rw [if_neg state, source, if_neg (by decide), if_neg (by decide), sp]

theorem speedNow_observer {h : Hw} (source : getF h SP_STAT_CSRC 0 = 1) : speedNow h = h.spindle.obsRpm := by
  rw [speedNow, source, if_neg (by decide), if_neg (by decide), sp]

/-- The end of a control period that has begun with `h`: the commutation source shows, and the loops run unless they are off. -/
def periodEnd (h : Hw) (iU iV : Rat) (v12 : Nat) : Hw :=
  let h := setF (if (sp h).loops then rampOpenLoop (sourceLost h) else h) SP_STAT_WCAR 0 (wedgeSource h)
  if !(sp h).loops then setF (onSpindle h (fun p => { p with iU := iU, iV := iV })) SP_SPD_RPM 0 0
  else
    let h := observe h iU iV v12
    let h := currentLoops (onSpindle h (fun p => { p with iU := iU, iV := iV })) iU iV v12 (commutationAngle h)
    setF (setF h SP_SPD_RPM 0 (roundR (speedNow h)).natAbs) SP_STAT_DIR 0 (decide (speedNow h < 0)).toNat

/-- Without a hold-up no drive retracts by its age (R397). -/
theorem exec_controlPeriod_calm {s : State} (u1 u2 v1 v2 : Int) (v12 v5 : Nat) (up : domainUp s.hw 21 = true)
    (calm : s.hw.spindle.holdUp = false) : exec (.controlPeriod u1 u2 v1 v2 v12 v5) s = s.run fun h =>
      periodEnd (periodBegun h (((u1 + u2 : Int) : Rat) / 2) (((v1 + v2 : Int) : Rat) / 2) v12 v5) (((u1 + u2 : Int) : Rat) / 2)
        (((v1 + v2 : Int) : Rat) / 2) v12 := by
  change execControlPeriod u1 u2 v1 v2 v12 v5 s = _
  rw [execControlPeriod]
  refine State.run_of (fun h => domainUp h 21 = true ∧ h.spindle.holdUp = false) ⟨up, calm⟩ ?_
  rintro h ⟨up, calm⟩
  have noRetract : ¬ ((sp (tickMotion h)).holdUp = true ∧ 30 ≤ (sp (tickMotion h)).lossAge) := fun hold => by
    rw [sp, tickMotion_spindle] at hold
    exact Bool.false_ne_true (calm.symm.trans hold.1)
  dsimp only
  rw [if_neg noRetract, domainUp_tickMotion, up, if_neg (by simp)]
  rfl

theorem periodEnd_idle {h : Hw} (iU iV : Rat) (v12 : Nat) (off : h.spindle.loops = false) : periodEnd h iU iV v12 = idlePeriod h iU iV := by
  have resting : (sp h).loops = false := off
  have still (w : Nat) : (sp (setF h SP_STAT_WCAR 0 w)).loops = false := by rw [sp, setF_spindle, off]
  rw [periodEnd, resting]
  simp only [Bool.false_eq_true, if_false, still, Bool.not_false, if_true, idlePeriod]

theorem periodEnd_observer {h : Hw} (iU iV : Rat) (v12 : Nat) (on : h.spindle.loops = true) (source : getF h SP_STAT_CSRC 0 = 1)
    (driven : spState h ≠ spOpenLoop) : periodEnd h iU iV v12 = loopPeriod h iU iV v12 := by
  have running : (sp h).loops = true := on
  have still (w : Nat) : (sp (setF h SP_STAT_WCAR 0 w)).loops = true := by rw [sp, setF_spindle, on]
  have kept : sourceLost h = h := by rw [sourceLost, source, if_neg (by simp)]
  have unramped : rampOpenLoop h = h := by rw [rampOpenLoop, if_neg driven]
  rw [periodEnd, running]
  simp only [if_true, kept, unramped, still, Bool.not_true, Bool.false_eq_true, if_false]
  rfl

section
variable {u1 u2 v1 v2 : Int} {v12 v5 : Nat} {s : State} (up : domainUp s.hw 21 = true) (calm : s.hw.spindle.holdUp = false)
include up calm

theorem exec_controlPeriod_idle (off : s.hw.spindle.loops = false) : exec (.controlPeriod u1 u2 v1 v2 v12 v5) s = s.run fun h =>
    idlePeriod (periodBegun h (((u1 + u2 : Int) : Rat) / 2) (((v1 + v2 : Int) : Rat) / 2) v12 v5) (((u1 + u2 : Int) : Rat) / 2)
      (((v1 + v2 : Int) : Rat) / 2) := by
  refine (exec_controlPeriod_calm u1 u2 v1 v2 v12 v5 up calm).trans
    (State.run_of (fun h => h.spindle.holdUp = false ∧ h.spindle.loops = false) ⟨calm, off⟩ ?_)
  rintro h ⟨calm, off⟩
  obtain ⟨n, q, begun⟩ := periodBegun_spindle (((u1 + u2 : Int) : Rat) / 2) (((v1 + v2 : Int) : Rat) / 2) v12 v5 calm
  exact periodEnd_idle _ _ _ (by rw [begun]; exact off)

theorem exec_controlPeriod_observer (on : s.hw.spindle.loops = true) (source : getF s.hw SP_STAT_CSRC 0 = 1)
    (driven : spState s.hw ≠ spOpenLoop) : exec (.controlPeriod u1 u2 v1 v2 v12 v5) s = s.run fun h =>
      loopPeriod (periodBegun h (((u1 + u2 : Int) : Rat) / 2) (((v1 + v2 : Int) : Rat) / 2) v12 v5) (((u1 + u2 : Int) : Rat) / 2)
        (((v1 + v2 : Int) : Rat) / 2) v12 := by
  refine (exec_controlPeriod_calm u1 u2 v1 v2 v12 v5 up calm).trans (State.run_of (fun h => h.spindle.holdUp = false ∧ h.spindle.loops = true ∧
    getF h SP_STAT_CSRC 0 = 1 ∧ spState h ≠ spOpenLoop) ⟨calm, on, source, driven⟩ ?_)
  rintro h ⟨calm, on, source, driven⟩
  obtain ⟨n, q, begun⟩ := periodBegun_spindle (((u1 + u2 : Int) : Rat) / 2) (((v1 + v2 : Int) : Rat) / 2) v12 v5 calm
  exact periodEnd_observer _ _ _ (by rw [begun]; exact on) (by rw [periodBegun_getF _ _ _ _ calm (by decide) (by decide), source])
    (by rwa [spState, periodBegun_getF _ _ _ _ calm (by decide) (by decide), ← spState])

end

/-- A period with the loops off shows the buses and no speed (R35, R373). -/
theorem idlePeriod_shows {h : Hw} (calm : h.spindle.holdUp = false) (iU iV : Rat) (v12 v5 : Nat) :
    let t := idlePeriod (periodBegun h iU iV v12 v5) iU iV
    getF t SP_VBUS_V12 0 = v12 % 65536 ∧ getF t SP_VBUS_V5 0 = v5 % 65536 ∧ getF t SP_SPD_RPM 0 = 0 ∧ t.spindle.iU = iU ∧
    t.spindle.inState = h.spindle.inState + 1 ∧ t.mem = h.mem := by
  obtain ⟨n, q, begun⟩ := periodBegun_spindle iU iV v12 v5 calm
  refine ⟨?_, ?_, getF_setF_self _ SP_SPD_RPM _ 0 (by decide), ?_, ?_, ?_⟩
  · rw [idlePeriod, getF_setF_of_apart _ _ _ (by decide), onSpindle_getF, getF_setF_of_apart _ _ _ (by decide), periodBegun_v12 _ _ _ _ calm]
  · rw [idlePeriod, getF_setF_of_apart _ _ _ (by decide), onSpindle_getF, getF_setF_of_apart _ _ _ (by decide), periodBegun_v5 _ _ _ _ calm]
  · rw [idlePeriod, setF_spindle, onSpindle_spindle]
  · rw [idlePeriod, setF_spindle, onSpindle_spindle, setF_spindle, begun]
    rfl
  · rw [idlePeriod, setF_mem, onSpindle_mem, setF_mem, periodBegun_mem _ _ _ _ calm]

/-- A period that the observer commutates drives the gates at the observer's angle and shows its speed (R374-R377, R379). -/
theorem loopPeriod_shows {h : Hw} (source : getF h SP_STAT_CSRC 0 = 1) (state : spState h ≠ spAligning) (iU iV : Rat) (v12 : Nat) :
    let t := loopPeriod h iU iV v12
    t.spindle.theta = t.spindle.obsTheta ∧ t.out = h.out ++ [Output.gates t.spindle.du t.spindle.dv t.spindle.dw] ∧
    t.spindle.epsCount = h.spindle.epsCount + 1 ∧ getF t SP_SPD_RPM 0 = (roundR t.spindle.obsRpm).natAbs % 65536 ∧ t.mem = h.mem := by
  have observed {g : Fld} (other : SP_STAT_WCAR.apart g = true) : getF (periodObserved h iU iV v12) g 0 = getF h g 0 := by
    rw [periodObserved, observe_getF, getF_setF_of_apart _ _ _ other]
  obtain ⟨p, w, driven, theta, obsTheta, obsRpm, epsCount⟩ := currentLoops_eq (onSpindle (periodObserved h iU iV v12) fun p =>
    { p with iU := iU, iV := iV }) iU iV v12 (commutationAngle (periodObserved h iU iV v12))
  rw [← periodDriven] at driven
  rw [onSpindle_spindle] at obsTheta obsRpm epsCount
  have angle := commutationAngle_observer (h := periodObserved h iU iV v12) (by rw [observed (by decide), source])
    (by rwa [spState, observed (by decide), ← spState])
  have drive : (periodDriven h iU iV v12).spindle = p := by rw [driven, emit_spindle, setF_spindle, onSpindle_spindle]
  have speed : speedNow (periodDriven h iU iV v12) = p.obsRpm := by
    rw [speedNow_observer, drive]
    rw [driven, emit_getF, getF_setF_of_apart _ _ _ (by decide), onSpindle_getF, onSpindle_getF, observed (by decide), source]
  have shown : (loopPeriod h iU iV v12).spindle = p := by rw [loopPeriod, setF_spindle, setF_spindle, drive]
  dsimp only
  rw [shown]
  refine ⟨?_, ?_, ?_, ?_, ?_⟩
  · rw [theta, angle, obsTheta]
  · rw [loopPeriod, setF_out, setF_out, driven, emit_out, setF_out, onSpindle_out, onSpindle_out, periodObserved, observe_out, setF_out]
  · rw [epsCount, periodObserved, observe_spindle, setF_spindle]
  · rw [loopPeriod, getF_setF_of_apart _ _ _ (by decide), getF_setF_self _ SP_SPD_RPM _ _ (by decide), speed]
    rfl
  · rw [loopPeriod, setF_mem, setF_mem, driven, emit_mem, setF_mem, onSpindle_mem, onSpindle_mem, periodObserved, observe_mem, setF_mem]

end Sys2Proof.Machine
end

section
/-! The observer's evaluation, the speed loop and the demand governor (R378, R381-R384). -/
namespace Sys2Proof.Machine

/-- CONF as the last evaluation periods give it (R378). -/
def observerConf (h : Hw) : Nat :=
  (max 0 (min 255 (roundR (255 * max 0 (1 - 16 * Config.radTurns (h.spindle.epsSum / h.spindle.epsCount)) *
    max 0 (1 - 4 * absR (Config.ln (divBy (norm h.spindle.emfA h.spindle.emfB) (emfAt h (absR h.spindle.obsRpm))))))))).toNat

theorem observerConf_lt (h : Hw) : observerConf h < 256 := by
  have most : max 0 (min 255 (roundR (255 * max 0 (1 - 16 * Config.radTurns (h.spindle.epsSum / h.spindle.epsCount)) *
      max 0 (1 - 4 * absR (Config.ln (divBy (norm h.spindle.emfA h.spindle.emfB) (emfAt h (absR h.spindle.obsRpm)))))))) ≤ 255 :=
    max_le (by decide) (min_le_left _ _)
  unfold observerConf
  omega

/-- The sums of the evaluation start anew, and CONF shows; below 200 it ends the calibration runs (R378, R388). -/
def confShown (h : Hw) : Hw :=
  setF (if observerConf h < 200 then ecalFailAll (onSpindle h (fun p => { p with epsSum := 0, epsCount := 0 }))
    else onSpindle h (fun p => { p with epsSum := 0, epsCount := 0 })) SP_STAT_CONF 0 (observerConf h)

theorem confShown_conf (h : Hw) : getF (confShown h) SP_STAT_CONF 0 = observerConf h := by
  rw [confShown, getF_setF_self _ SP_STAT_CONF _ _ (by decide)]
  exact Nat.mod_eq_of_lt (observerConf_lt h)

theorem confShown_spindle (h : Hw) : (confShown h).spindle = { h.spindle with epsSum := 0, epsCount := 0 } := by
  rw [confShown, setF_spindle]
  split
  · rw [ecalFailAll_spindle, onSpindle_spindle]
  · rw [onSpindle_spindle]

theorem confShown_mem (h : Hw) : (confShown h).mem = h.mem := by
  rw [confShown, setF_mem]
  split
  · rw [ecalFailAll_mem, onSpindle_mem]
  · rw [onSpindle_mem]

/-- The end of an evaluation that gave `conf`: the observer is lost, locks, or gives the commutation back (R378, R394). -/
def evaluationEnd (h : Hw) (conf : Nat) : Hw :=
  let fast := decide (300 ≤ absR (sp h).obsRpm)
  let good := if getF h SP_OBS_CLOCK 0 ≤ conf then (sp h).good + 1 else 0
  let bad := if conf < getF h SP_OBS_CLOST 0 then (sp h).bad + 1 else 0
  let was := (sp h).locked
  let h := onSpindle h (fun p => { p with good := min good 4, bad := min bad 2 })
  let closed := decide ((4 ≤ spState h ∧ spState h ≤ 6) ∨ spState h = spHoldUp)
  if was ∧ (2 ≤ bad ∨ (!fast ∧ closed)) then onLoss h
  else if !was ∧ 4 ≤ good ∧ fast then onLock (onSpindle h (fun p => { p with locked := true, agree := 0 }))
  else if was ∧ getF h SP_STAT_CSRC 0 = 2 then
    let d := frac ((sp h).obsTheta - (sp h).theta)
    let n := if d ≤ 1 / 64 ∨ 63 / 64 ≤ d then (sp h).agree + 1 else 0
    let h := onSpindle h (fun p => { p with agree := n })
    if 4 ≤ n then ruleRecord (setF (useObserver h) SP_IRQS_WSW 0 1) 0x6120 394 3 1 else h
  else h

theorem exec_observerEvaluation (s : State) : exec .observerEvaluation s = s.run fun h =>
    if !(sp h).loops ∨ (sp h).epsCount < 64 then h else evaluationEnd (confShown h) (observerConf h) := (rfl)

/-- An observer that is not locked, and has fewer than three good evaluations behind it, does not lock yet (R378). -/
theorem evaluationEnd_unlocked {h : Hw} (conf : Nat) (free : h.spindle.locked = false) (few : h.spindle.good < 3) :
    ∃ n k, evaluationEnd h conf = onSpindle h (fun p => { p with good := n, bad := k }) := by
  have unlocked : (sp h).locked = false := free
  have few : (sp h).good < 3 := few
  have short : ¬ 4 ≤ (if getF h SP_OBS_CLOCK 0 ≤ conf then (sp h).good + 1 else 0) := by split <;> omega
  unfold evaluationEnd
  dsimp only
  rw [unlocked, if_neg (fun lost => Bool.false_ne_true lost.1), if_neg (fun lock => short lock.2.1), if_neg (fun wedge => Bool.false_ne_true wedge.1)]
  exact ⟨_, _, rfl⟩

theorem exec_observerEvaluation_unlocked {s : State} (on : s.hw.spindle.loops = true) (full : 64 ≤ s.hw.spindle.epsCount) :
    exec .observerEvaluation s = s.run fun h => evaluationEnd (confShown h) (observerConf h) :=
  (exec_observerEvaluation s).trans (State.run_of (fun h => h.spindle.loops = true ∧ 64 ≤ h.spindle.epsCount) ⟨on, full⟩ fun h ⟨on, full⟩ =>
    if_neg (by simp [sp, on, full]))

/-- Registers that no update of SP_STAT, SP_SPD or SP_IRQS changes decide where the reference goes (R381-R383). -/
theorem goalRate_setF_vclamp (h : Hw) (v : Nat) : goalRate (setF h SP_STAT_VCLAMP 0 v) = goalRate h := by
  have key {g : Fld} (other : SP_STAT_VCLAMP.apart g = true) : getF (setF h SP_STAT_VCLAMP 0 v) g 0 = getF h g 0 := getF_setF_of_apart _ _ _ other
  have zones (die : Nat) : dieZone (setF h SP_STAT_VCLAMP 0 v) die = dieZone h die := by
    refine getF_setF_reg _ _ _ _ _ _ ?_
    change 0xf00000 + inst die ≠ 0xc00008
    omega
  have live : liveVal (setF h SP_STAT_VCLAMP 0 v) 0x1A00 0x053 0 = liveVal h 0x1A00 0x053 0 := liveVal_of_dict (setF_dict _ _ _ _) _ _ _
  have ceiling : ceilingInForce (setF h SP_STAT_VCLAMP 0 v) = ceilingInForce h := by
    simp only [ceilingInForce, key (g := SP_GLIM_CEIL) (by decide), zones, live]
  have target : effectiveTarget (setF h SP_STAT_VCLAMP 0 v) = effectiveTarget h := by
    unfold effectiveTarget flagF sp
    rw [key (g := SP_CTL_GOV) (by decide), key (g := SP_TGT_RPM) (by decide), key (g := SP_GLIM_FLOOR) (by decide), ceiling, setF_spindle]
  unfold goalRate spState sp motor motorProfile
  rw [key (g := SP_STAT_STATE) (by decide), key (g := SP_RATE_BRATE) (by decide), key (g := SP_RATE_GRATE) (by decide), target, setF_spindle,
    setF_pins]

/-- A step of the speed loop with the clamp open: the reference moves by its rate (R381). -/
theorem exec_speedLoop_running {s : State} (runs : spState s.hw = spRunning) (on : s.hw.spindle.loops = true)
    (open_ : flagF s.hw SP_STAT_VCLAMP 0 = false) (low : getF s.hw SP_VBUS_V12 0 < getF s.hw SP_HU_VBRK 0) :
    ∃ (iq w : Hw → Rat) (shown : Hw → Nat), exec .speedLoop s = s.run fun h =>
      setF (onSpindle (setF h SP_STAT_VCLAMP 0 0) (fun p => { p with
        ref := stepToward p.ref (goalRate h).1 ((goalRate h).2 / 5000), iqRef := iq h, w := w h })) SP_SPD_REF 0 (shown h) := by
  refine ⟨?iq, ?w, ?shown, ?steps⟩
  case steps =>
    change execSpeedLoop s = _
    rw [execSpeedLoop]
    refine State.run_of (fun h => spState h = spRunning ∧ h.spindle.loops = true ∧ flagF h SP_STAT_VCLAMP 0 = false ∧
      getF h SP_VBUS_V12 0 < getF h SP_HU_VBRK 0) ⟨runs, on, open_, low⟩ ?_
    rintro h ⟨runs, on, open_, low⟩
    have loops : (sp h).loops = true := on
    have free : decide (getF h SP_HU_VBRK 0 ≤ getF h SP_VBUS_V12 0) = false := decide_eq_false (Nat.not_le.mpr low)
    dsimp only
    rw [runs, loops, if_neg (by decide), if_neg (fun falls => absurd falls.1 (by decide)), open_]
    simp only [Bool.false_eq_true, if_false, free, Bool.toNat_false, false_and, goalRate_setF_vclamp]
    rfl

theorem exec_busyReport_reports {c : Nat} {s : State} (here : populated s.hw c = true) (inService : carFenced s.hw c = false) :
    exec (.busyReport c) s = s.run fun h =>
      onSpindle h (fun p => { p with busy := zset p.busy c (ones 1000 (zget h.engine.busyWindow c)) }) := by
  change execBusyReport c s = _
  rw [execBusyReport]
  exact State.run_of (fun h => populated h c = true ∧ carFenced h c = false) ⟨here, inService⟩ fun h ⟨here, inService⟩ =>
    if_pos ⟨here, by simp [inService]⟩

/-- The greatest busy fraction of the carriages in service (R384). -/
def mostBusy (h : Hw) : Nat :=
  (List.range 4).foldl (fun m c => if populated h c ∧ !(carFenced h c) then max m (zget (sp h).busy c) else m) 0

theorem le_mostBusy {h : Hw} {c : Nat} (here : populated h c = true) (inService : carFenced h c = false) :
    zget h.spindle.busy c ≤ mostBusy h := by
  have grows (l : List Nat) (m : Nat) :
      m ≤ l.foldl (fun m c => if populated h c ∧ !(carFenced h c) then max m (zget (sp h).busy c) else m) m := by
    induction l generalizing m with
    | nil => exact Nat.le_refl m
    | cons k l ih =>
      refine Nat.le_trans ?_ (ih _)
      dsimp only
      split
      · exact Nat.le_max_left _ _
      · exact Nat.le_refl m
  have reaches (l : List Nat) (m : Nat) (mem : c ∈ l) : zget h.spindle.busy c ≤
      l.foldl (fun m c => if populated h c ∧ !(carFenced h c) then max m (zget (sp h).busy c) else m) m := by
    induction l generalizing m with
    | nil => exact absurd mem List.not_mem_nil
    | cons k l ih =>
      obtain rfl | later := List.mem_cons.mp mem
      · refine Nat.le_trans ?_ (grows l _)
        dsimp only
        rw [if_pos ⟨here, by simp [inService]⟩]
        exact Nat.le_max_right _ _
      · exact ih _ later
  exact reaches _ 0 (List.mem_range.mpr (lt_four_of_populated here))

/-- A carriage busy above UHI raises the request by its step (R384). -/
theorem exec_demandGovernor_up {c : Nat} {s : State} (runs : spState s.hw = spRunning) (demand : flagF s.hw SP_CTL_GOV 0 = true)
    (here : populated s.hw c = true) (inService : carFenced s.hw c = false) (busy : 10 * getF s.hw SP_GOV_UHI 0 ≤ zget s.hw.spindle.busy c) :
    exec .demandGovernor s = s.run fun h => onSpindle h (fun p => { p with
      request := max (inRange (getF h SP_GLIM_FLOOR 0)) (min (inRange (ceilingInForce h)) (p.request + 100 * getF h SP_GOV_STEPUP 0)), dwell := 0 }) := by
  change execDemandGovernor s = _
  rw [execDemandGovernor]
  refine State.run_of (fun h => spState h = spRunning ∧ flagF h SP_CTL_GOV 0 = true ∧ 10 * getF h SP_GOV_UHI 0 ≤ mostBusy h)
    ⟨runs, demand, Nat.le_trans busy (le_mostBusy (h := { s.hw with out := [] }) here inService)⟩ ?_
  rintro h ⟨runs, demand, high⟩
  rw [if_pos ⟨runs, demand⟩]
  dsimp only
  rw [← mostBusy, if_pos high]

end Sys2Proof.Machine
end

section
/-! The commands of the spindle (R389, R393). -/
namespace Sys2Proof.Machine

theorem refuseCommand_cref (h : Hw) : getF (refuseCommand h) SP_IRQS_CREF 0 = 1 := getF_setF_self _ SP_IRQS_CREF _ 1 (by decide)

theorem refuseCommand_getF {g : Fld} (h : Hw) (other : SP_IRQS_CREF.apart g = true) : getF (refuseCommand h) g 0 = getF h g 0 :=
  getF_setF_of_apart _ _ _ other

@[simp] theorem refuseCommand_spindle (h : Hw) : (refuseCommand h).spindle = h.spindle := setF_spindle _ _ _ _
@[simp] theorem refuseCommand_mem (h : Hw) : (refuseCommand h).mem = h.mem := setF_mem _ _ _ _

theorem spState_refuseCommand (h : Hw) : spState (refuseCommand h) = spState h := refuseCommand_getF h (by decide)

/-- A power loss, or a gate that bars the spindle, refuses a start (R107, R389; log entry 85). -/
theorem exec_spindleStart_refused {s : State} (barred : flagF s.hw SP_PSTAT_PLOSS 0 = true ∨ spindleBarred s.hw = true) :
    exec .spindleStart s = s.run refuseCommand := by
  change execSpindleStart s = _
  rw [execSpindleStart]
  refine State.run_of (fun h => flagF h SP_PSTAT_PLOSS 0 = true ∨ spindleBarred h = true) barred fun h barred => ?_
  dsimp only
  rw [if_pos (.inr (.inr (.inr barred)))]

/-- The start is counted. -/
def startCounted (h : Hw) : Hw := addF h SP_CNT_COUNT 0 1

/-- The first attempt of a start begins. -/
def firstAttempt (h : Hw) : Hw :=
  measure (onSpindle (setF (startCounted h) SP_STAT_ATTEMPT 0 1) (fun p => { p with
    ran := false, stopping := false, retry := false, recatch := false, resumeDecel := false, brakeThenAlign := false }))

theorem senseOffset_startCounted (h : Hw) : senseOffset (startCounted h) = senseOffset h := by
  unfold senseOffset sp
  rw [startCounted, addF_spindle, liveVal_of_dict (addF_dict h SP_CNT_COUNT 0 1)]

theorem exec_spindleStart_stopped {s : State} (stopped : spState s.hw = spStopped) (warm : 0 ≤ getS s.hw TH_TEMP_TEMP (inst 5))
    (power : flagF s.hw SP_PSTAT_PLOSS 0 = false) (free : spindleBarred s.hw = false) : exec .spindleStart s = s.run fun h =>
      if senseOffset h then raiseFault (spFault (refuseCommand (startCounted h))) 0x6110 11 false else firstAttempt h := by
  change execSpindleStart s = _
  rw [execSpindleStart]
  refine State.run_of (fun h => spState h = spStopped ∧ 0 ≤ getS h TH_TEMP_TEMP (inst 5) ∧ flagF h SP_PSTAT_PLOSS 0 = false ∧
    spindleBarred h = false) ⟨stopped, warm, power, free⟩ ?_
  rintro h ⟨stopped, warm, power, free⟩
  dsimp only
  rw [stopped, power, free, if_neg (by simp [spStopped, spFaulted, spHoldUp, warm]), if_neg (by decide), if_neg (by decide), ← startCounted,
    senseOffset_startCounted]
  rfl

theorem firstAttempt_attempt (h : Hw) : getF (firstAttempt h) SP_STAT_ATTEMPT 0 = 1 := by
  rw [firstAttempt, measure_getF _ (by decide) (by decide) (by decide), onSpindle_getF, getF_setF_self _ SP_STAT_ATTEMPT _ _ (by decide)]
  rfl

theorem firstAttempt_gates (h : Hw) : (firstAttempt h).spindle.gates = false := by
  rw [firstAttempt, measure_spindle]
  rfl

theorem firstAttempt_mem (h : Hw) : (firstAttempt h).mem = h.mem := by
  rw [firstAttempt, measure_mem, onSpindle_mem, setF_mem, startCounted, addF_mem]

/-- A fault that the drive does not react to leaves its state. -/
theorem raiseFault_spindle {h : Hw} {u k : Nat}
    (mild : reaction u k = .record ∨ reaction u k = .faulted ∨ reaction u k = .s4 ∨ reaction u k = .s2 ∧ u = 0x6110) (forced : Bool) :
    (raiseFault h u k forced).spindle = h.spindle :=
  (driveSide_eq_iff.1 (driveSide_raiseFault (a := SP_STAT) (by decide) h mild forced)).2

theorem raiseFault_getF {h : Hw} {g : Fld} {u k : Nat} (page : regCode g.key = 12)
    (mild : reaction u k = .record ∨ reaction u k = .faulted ∨ reaction u k = .s4 ∨ reaction u k = .s2 ∧ u = 0x6110) (forced : Bool) :
    getF (raiseFault h u k forced) g 0 = getF h g 0 :=
  getF_of_getReg (driveSide_eq_iff.1 (driveSide_raiseFault (a := g.key + 0) page h mild forced)).1

/-- A start that the sense offset ends: the spindle is Faulted, and the command refused (R405). -/
theorem startFaulted_shows (h : Hw) :
    let t := raiseFault (spFault (refuseCommand (startCounted h))) 0x6110 11 false
    spState t = spFaulted ∧ getF t SP_IRQS_CREF 0 = 1 ∧ t.spindle.gates = false ∧ t.mem = h.mem := by
  have mild : reaction 0x6110 11 = .faulted := by decide
  refine ⟨?_, ?_, ?_, ?_⟩
  · rw [spState, raiseFault_getF (by decide) (.inr (.inl mild)), ← spState, spState_spFault]
  · rw [raiseFault_getF (by decide) (.inr (.inl mild)), spFault_getF _ (by decide) (by decide), refuseCommand_cref]
  · rw [raiseFault_spindle (.inr (.inl mild)), spFault_spindle]
    rfl
  · rw [raiseFault_mem, spFault_mem, refuseCommand_mem, startCounted, addF_mem]

section
variable {s : State}

theorem exec_spindleStop_refused (out : drivesParked s.hw = false) : exec .spindleStop s = s.run refuseCommand := by
  change execSpindleStop s = _
  rw [execSpindleStop]
  exact State.run_of (fun h => drivesParked h = false) out fun h out => if_pos (.inl (by simp [out]))

theorem exec_spindleCoast_refused (out : drivesParked s.hw = false) : exec .spindleCoast s = s.run refuseCommand := by
  change execSpindleCoast s = _
  rw [execSpindleCoast]
  exact State.run_of (fun h => drivesParked h = false) out fun h out => if_pos (.inl (by simp [out]))

variable (parked : drivesParked s.hw = true) (runs : spState s.hw = spRunning)
include parked runs

theorem exec_spindleStop_running : exec .spindleStop s = s.run fun h =>
    setSp (onSpindle (saveAll h) (fun p => { p with stopping := true })) spDecelerating := by
  change execSpindleStop s = _
  rw [execSpindleStop]
  refine State.run_of (fun h => drivesParked h = true ∧ spState h = spRunning) ⟨parked, runs⟩ ?_
  rintro h ⟨parked, runs⟩
  have still : spState (saveAll h) = spRunning :=
    (getF_of_getReg (driveSide_eq_iff.1 (driveSide_saveAll (SP_STAT_STATE.key + 0) h)).1).trans runs
  rw [parked, runs, if_neg (by decide), spindleStop, still, if_neg (by decide), if_pos (by decide)]

theorem exec_spindleCoast_running : exec .spindleCoast s = s.run fun h => setSp (loopsOff h) spCoasting := by
  change execSpindleCoast s = _
  rw [execSpindleCoast]
  refine State.run_of (fun h => drivesParked h = true ∧ spState h = spRunning) ⟨parked, runs⟩ ?_
  rintro h ⟨parked, runs⟩
  rw [parked, runs, if_neg (by decide), if_pos (by decide), coast_turning (by rw [runs]; decide) (by rw [runs]; decide)]

end

end Sys2Proof.Machine
end

section
/-! The phases of a start and of a stop (R390-R393, R655). -/
namespace Sys2Proof.Machine

theorem seed_spindle (h : Hw) (theta rpm : Rat) : (seed h theta rpm).spindle = { h.spindle with
    loops := true, gates := true, seeded := true, obsTheta := frac theta, obsRpm := rpm, theta := frac theta, waited := 0,
    idRef := 0, iqRef := 0, w := 0, ref := rpm, good := 0, bad := 0, locked := false } := by
  rw [seed, setF_spindle, onSpindle_spindle]

theorem seed_csrc (h : Hw) (theta rpm : Rat) : getF (seed h theta rpm) SP_STAT_CSRC 0 = 3 := getF_setF_self _ SP_STAT_CSRC _ 3 (by decide)

theorem seed_getF {g : Fld} (h : Hw) (theta rpm : Rat) (other : SP_STAT_CSRC.apart g = true) :
    getF (seed h theta rpm) g 0 = getF h g 0 := by
  rw [seed, getF_setF_of_apart _ _ _ other, onSpindle_getF]

theorem seed_mem (h : Hw) (theta rpm : Rat) : (seed h theta rpm).mem = h.mem := by rw [seed, setF_mem, onSpindle_mem]

/-- The vector of the alignment stands at angle 0 (R391). -/
def aligning (h : Hw) : Hw :=
  setSp (onSpindle h (fun p => { p with loops := true, gates := true, theta := 0, ref := 0, idRef := (motor h).ialign, iqRef := 0 })) spAligning

section
variable {s : State} (measured : spState s.hw = spMeasuring) (fresh : s.hw.spindle.seeded = false) (full : 4000 ≤ s.hw.spindle.inState)
include measured fresh full

theorem exec_measuringEnd (l : List (Nat × Rat)) : exec (.measuringEnd l) s = s.run fun h =>
    if 300 < (crossingRpm h l).getD 0 then
      seed h (crossingAngle h l ((crossingRpm h l).getD 0) 20000000) ((crossingRpm h l).getD 0)
    else if (crossingRpm h l).getD 0 < -300 then
      setSp (seed h (crossingAngle h l ((crossingRpm h l).getD 0) 20000000) ((crossingRpm h l).getD 0)) spDecelerating
    else if (sp h).stopping then brake (onSpindle h (fun p => { p with stopping := false })) false 100
    else if l ≠ [] then brake h true 100
    else aligning h := by
  change execMeasuringEnd l s = _
  rw [execMeasuringEnd]
  refine State.run_of (fun h => spState h = spMeasuring ∧ h.spindle.seeded = false ∧ 4000 ≤ h.spindle.inState) ⟨measured, fresh, full⟩ ?_
  rintro h ⟨measured, fresh, full⟩
  rw [if_neg (by simp [sp, measured, fresh, full])]
  rfl

theorem exec_measuringEnd_still (goes : s.hw.spindle.stopping = false) : exec (.measuringEnd []) s = s.run aligning := by
  refine (exec_measuringEnd measured fresh full []).trans (State.run_of (fun h => h.spindle.stopping = false) goes fun h goes => ?_)
  have none : crossingRpm h [] = none := rfl
  rw [none, if_neg (by decide), if_neg (by decide), sp, goes, if_neg (by decide), if_neg (by decide)]

theorem exec_measuringEnd_forward (l : List (Nat × Rat)) (fast : 300 < (crossingRpm s.hw l).getD 0) : exec (.measuringEnd l) s =
    s.run fun h => seed h (crossingAngle h l ((crossingRpm h l).getD 0) 20000000) ((crossingRpm h l).getD 0) :=
  (exec_measuringEnd measured fresh full l).trans
    (State.run_of (fun h => 300 < (crossingRpm h l).getD 0) fast fun _ fast => if_pos fast)

theorem exec_measuringEnd_slow (l : List (Nat × Rat)) (some : l ≠ []) (none : crossingRpm s.hw l = none) (goes : s.hw.spindle.stopping = false) :
    exec (.measuringEnd l) s = s.run fun h => brake h true 100 := by
  refine (exec_measuringEnd measured fresh full l).trans
    (State.run_of (fun h => crossingRpm h l = .none ∧ h.spindle.stopping = false) ⟨none, goes⟩ ?_)
  rintro h ⟨none, goes⟩
  rw [none, if_neg (by decide), if_neg (by decide), sp, goes, if_neg (by decide), if_pos some]

end

theorem exec_alignmentEnd_over {s : State} (aligns : spState s.hw = spAligning) (ended : 200 * (motor s.hw).talign ≤ s.hw.spindle.inState) :
    exec .alignmentEnd s = s.run fun h => setF (setSp h spOpenLoop) SP_STAT_CSRC 0 0 := by
  change execAlignmentEnd s = _
  rw [execAlignmentEnd]
  exact State.run_of (fun h => spState h = spAligning ∧ 200 * (motor h).talign ≤ h.spindle.inState) ⟨aligns, ended⟩ fun h both => if_pos both

theorem exec_openLoopSpeedReached_reached {s : State} (open_ : spState s.hw = spOpenLoop) (speed : s.hw.spindle.ref = 300)
    (waits : s.hw.spindle.await = false) :
    exec .openLoopSpeedReached s = s.run fun h => onSpindle h (fun p => { p with await := true, waited := 0 }) := by
  change execOpenLoopSpeedReached s = _
  rw [execOpenLoopSpeedReached]
  exact State.run_of (fun h => spState h = spOpenLoop ∧ h.spindle.ref = 300 ∧ h.spindle.await = false) ⟨open_, speed, waits⟩
    fun h ⟨open_, speed, waits⟩ => if_pos ⟨open_, speed, by simp [sp, waits]⟩

/-- A failed attempt is shown and counted (R392). -/
def attemptCounted (h : Hw) : Hw := addF (setF h SP_IRQS_STFAIL 0 1) SP_CNT_COUNT 4 1

theorem attemptCounted_getF {g : Fld} (h : Hw) (other : SP_IRQS_STFAIL.apart g = true) (counter : g.key + 0 ≠ SP_CNT_COUNT.key + 4) :
    getF (attemptCounted h) g 0 = getF h g 0 := by
  rw [attemptCounted, addF, getF_setF_reg _ _ _ _ _ _ counter, getF_setF_of_apart _ _ _ other]

theorem attemptCounted_stfail (h : Hw) : getF (attemptCounted h) SP_IRQS_STFAIL 0 = 1 := by
  rw [attemptCounted, addF, getF_setF_reg _ _ _ _ _ _ (by decide), getF_setF_self _ SP_IRQS_STFAIL _ _ (by decide)]
  rfl

theorem attemptCounted_mem (h : Hw) : (attemptCounted h).mem = h.mem := by rw [attemptCounted, addF_mem, setF_mem]

theorem exec_startAttemptFail_again {s : State} (failed : attemptFailed s.hw = true) (few : getF s.hw SP_STAT_ATTEMPT 0 < 3) :
    exec .startAttemptFail s = s.run fun h =>
      onSpindle (setSp (loopsOff (attemptCounted h)) spCoasting) (fun p => { p with retry := true }) := by
  change execStartAttemptFail s = _
  rw [execStartAttemptFail]
  refine State.run_of (fun h => attemptFailed h = true ∧ getF h SP_STAT_ATTEMPT 0 < 3) ⟨failed, few⟩ ?_
  rintro h ⟨failed, few⟩
  rw [if_pos failed]
  dsimp only
  rw [← attemptCounted, attemptCounted_getF _ (by decide) (by decide), if_neg (Nat.not_le.mpr few)]

/-- The spindle of a start that has failed three times is Faulted (R392). -/
def startGivenUp (h : Hw) : Hw := raiseFault (spFault (attemptCounted h)) 0x61F0 8 false

theorem askStair4_mediaMs (h : Hw) (code : Nat) : (askStair4 h code).boot.mediaMs = h.boot.mediaMs := by
  unfold askStair4
  split
  · rfl
  · dsimp only
    rw [raiseAlert_boot]
    rfl

theorem react_s4_mediaMs (h : Hw) (u k : Nat) : (react h u k .s4).boot.mediaMs = h.boot.mediaMs := by
  unfold react
  split
  · rfl
  · split
    · rw [onUnit_boot]
    · dsimp only
      rw [askStair4_mediaMs, stopAlive_boot, onUnit_boot]

/-- A Stair 4 by fault asks the host, and the media stay as they are (R119). -/
theorem raiseFault_mediaMs {h : Hw} {u k : Nat} (stair4 : reaction u k = .s4) (forced : Bool) :
    (raiseFault h u k forced).boot.mediaMs = h.boot.mediaMs := by
  have same (h : Hw) : effective h u .s4 = .s4 := rfl
  rw [raiseFault, stair4, same, react_s4_mediaMs, raiseRecord_boot, onUnit_boot]

theorem startGivenUp_mediaMs (h : Hw) : (startGivenUp h).boot.mediaMs = h.boot.mediaMs := by
  have boot : (spFault (attemptCounted h)).boot = (attemptCounted h).boot := by
    rw [spFault]
    exact (hostSide_eq_iff.1 ((hostSide_setSp _ _).trans (hostSide_loopsOff _))).2.2.1
  rw [startGivenUp, raiseFault_mediaMs (by decide), boot, attemptCounted, addF_boot, setF_boot]

theorem exec_startAttemptFail_last {s : State} (failed : attemptFailed s.hw = true) (third : 3 ≤ getF s.hw SP_STAT_ATTEMPT 0)
    (up : inBringUp s.hw = false) : exec .startAttemptFail s = s.run startGivenUp := by
  change execStartAttemptFail s = _
  rw [execStartAttemptFail]
  refine State.run_of (fun h => attemptFailed h = true ∧ 3 ≤ getF h SP_STAT_ATTEMPT 0 ∧ inBringUp h = false) ⟨failed, third, up⟩ ?_
  rintro h ⟨failed, third, up⟩
  have stays : inBringUp (startGivenUp h) = false := by rw [inBringUp, startGivenUp_mediaMs, ← inBringUp, up]
  rw [if_pos failed]
  dsimp only
  rw [← attemptCounted, attemptCounted_getF _ (by decide) (by decide), if_pos third, ← startGivenUp, stays, if_neg Bool.false_ne_true]

theorem startGivenUp_shows (h : Hw) : spState (startGivenUp h) = spFaulted ∧ getF (startGivenUp h) SP_IRQS_STFAIL 0 = 1 ∧
    (startGivenUp h).spindle.gates = false ∧ (startGivenUp h).mem = h.mem := by
  have mild : reaction 0x61F0 8 = .s4 := by decide
  refine ⟨?_, ?_, ?_, ?_⟩
  · rw [spState, startGivenUp, raiseFault_getF (by decide) (.inr (.inr (.inl mild))), ← spState, spState_spFault]
  · rw [startGivenUp, raiseFault_getF (by decide) (.inr (.inr (.inl mild))), spFault_getF _ (by decide) (by decide), attemptCounted_stfail]
  · rw [startGivenUp, raiseFault_spindle (.inr (.inr (.inl mild))), spFault_spindle]
    rfl
  · rw [startGivenUp, raiseFault_mem, spFault_mem, attemptCounted_mem]

theorem exec_atSpeed_reached {s : State} (state : spState s.hw = spAccelerating) (goal : s.hw.spindle.ref = (goalRate s.hw).1)
    (past : getF s.hw PW_BOOT_STAGE 0 ≠ 0x09) : exec .atSpeed s = s.run fun h =>
      setF (onSpindle (setSp h spRunning) (fun p => { p with ran := true, dwell := 0 })) SP_IRQS_ATSPD 0 1 := by
  change execAtSpeed s = _
  rw [execAtSpeed]
  refine State.run_of (fun h => spState h = spAccelerating ∧ h.spindle.ref = (goalRate h).1 ∧ getF h PW_BOOT_STAGE 0 ≠ 0x09)
    ⟨state, goal, past⟩ ?_
  rintro h ⟨state, goal, past⟩
  dsimp only
  rw [if_neg (fun other => other goal), if_pos state, getF_setF_of_apart _ _ _ (by decide), onSpindle_getF, setSp_getF _ _ (by decide),
    if_neg past]

section
variable {s : State} (brakes : spState s.hw = spBraking) (ended : brakingOver s.hw = true)
include brakes ended

theorem exec_brakingEnd_stop (stops : s.hw.spindle.brakeThenAlign = false) : exec .brakingEnd s = s.run fun h =>
    setSp (onSpindle (loopsOff h) (fun p => { p with stopping := false })) spStopped := by
  change execBrakingEnd s = _
  rw [execBrakingEnd]
  refine State.run_of (fun h => (spState h = spBraking ∧ brakingOver h = true) ∧ h.spindle.brakeThenAlign = false) ⟨⟨brakes, ended⟩, stops⟩ ?_
  rintro h ⟨both, stops⟩
  rw [sp, if_pos both, stops, if_neg Bool.false_ne_true]

theorem exec_brakingEnd_align (aligns : s.hw.spindle.brakeThenAlign = true) : exec .brakingEnd s = s.run fun h =>
    setF (setSp (onSpindle h (fun p => { p with
      brakeThenAlign := false, lowSide := false, loops := true, gates := true, theta := 0, ref := 0, idRef := (motor h).ialign })) spAligning)
      SP_STAT_CSRC 0 0 := by
  change execBrakingEnd s = _
  rw [execBrakingEnd]
  refine State.run_of (fun h => (spState h = spBraking ∧ brakingOver h = true) ∧ h.spindle.brakeThenAlign = true) ⟨⟨brakes, ended⟩, aligns⟩ ?_
  rintro h ⟨both, aligns⟩
  rw [sp, if_pos both, aligns, if_pos rfl]

end

section
variable {s : State} (coasts : spState s.hw = spCoasting) (quiet : 100000 ≤ s.hw.spindle.inState)
include coasts quiet

theorem exec_coastToStopped_stop (done : s.hw.spindle.retry = false) : exec .coastToStopped s = s.run fun h =>
    setSp (onSpindle (loopsOff h) (fun p => { p with recatch := false, resumeDecel := false, stopping := false })) spStopped := by
  change execCoastToStopped s = _
  rw [execCoastToStopped]
  refine State.run_of (fun h => (spState h = spCoasting ∧ 100000 ≤ h.spindle.inState) ∧ h.spindle.retry = false) ⟨⟨coasts, quiet⟩, done⟩ ?_
  rintro h ⟨both, done⟩
  rw [sp, if_pos both, done, if_neg Bool.false_ne_true]

theorem exec_coastToStopped_retry (again : s.hw.spindle.retry = true) : exec .coastToStopped s = s.run fun h =>
    measure (onSpindle (addF h SP_STAT_ATTEMPT 0 1) (fun p => { p with retry := false })) := by
  change execCoastToStopped s = _
  rw [execCoastToStopped]
  refine State.run_of (fun h => (spState h = spCoasting ∧ 100000 ≤ h.spindle.inState) ∧ h.spindle.retry = true) ⟨⟨coasts, quiet⟩, again⟩ ?_
  rintro h ⟨both, again⟩
  rw [sp, if_pos both, again, if_pos rfl]

end

section
variable {s : State} (due : s.hw.spindle.checkDue = true)
include due

theorem exec_spindleResetCheck_quiet (coasts : spState s.hw = spCoasting) (off : s.hw.spindle.loops = false) :
    exec (.spindleResetCheck false) s = s.run fun h => setSp (onSpindle h (fun p => { p with checkDue := false })) spStopped := by
  change execSpindleResetCheck false s = _
  rw [execSpindleResetCheck]
  refine State.run_of (fun h => h.spindle.checkDue = true ∧ spState h = spCoasting ∧ h.spindle.loops = false) ⟨due, coasts, off⟩ ?_
  rintro h ⟨due, coasts, off⟩
  rw [if_neg (by simp [sp, due])]
  dsimp only
  rw [if_pos ⟨(onSpindle_getF h _ _ _).trans coasts, by simp [sp, off], rfl⟩]

theorem exec_spindleResetCheck_crossing :
    exec (.spindleResetCheck true) s = s.run fun h => onSpindle h (fun p => { p with checkDue := false }) := by
  change execSpindleResetCheck true s = _
  rw [execSpindleResetCheck]
  refine State.run_of (fun h => h.spindle.checkDue = true) due fun h due => ?_
  rw [if_neg (by simp [sp, due])]
  dsimp only
  rw [if_neg (by simp)]

end

end Sys2Proof.Machine
end

section
/-! The observer replaced by wedge timing, and caught again (R394, R395). -/
namespace Sys2Proof.Machine

/-- The source is a carriage, or 7 (R387). -/
theorem wedgeSource_lt (h : Hw) : wedgeSource h < 8 := by
  unfold wedgeSource
  dsimp only
  split
  · omega
  · split
    next c found =>
      have := List.mem_range.mp (List.mem_of_find?_eq_some found)
      omega
    · decide

/-- Wedge timing commutates (R394). -/
def wedgeTaken (h : Hw) : Hw := setF (setF (setF h SP_STAT_CSRC 0 2) SP_IRQS_WSW 0 1) SP_STAT_WCAR 0 (wedgeSource h)

theorem wedgeTaken_csrc (h : Hw) : getF (wedgeTaken h) SP_STAT_CSRC 0 = 2 := by
  rw [wedgeTaken, getF_setF_of_apart _ _ _ (by decide), getF_setF_of_apart _ _ _ (by decide), getF_setF_self _ SP_STAT_CSRC _ _ (by decide)]
  rfl

theorem wedgeTaken_wsw (h : Hw) : getF (wedgeTaken h) SP_IRQS_WSW 0 = 1 := by
  rw [wedgeTaken, getF_setF_of_apart _ _ _ (by decide), getF_setF_self _ SP_IRQS_WSW _ _ (by decide)]
  rfl

theorem wedgeTaken_wcar (h : Hw) : getF (wedgeTaken h) SP_STAT_WCAR 0 = wedgeSource h := by
  rw [wedgeTaken, getF_setF_self _ SP_STAT_WCAR _ _ (by decide)]
  exact Nat.mod_eq_of_lt (wedgeSource_lt h)

/-- The switch is recorded and counted. -/
def wedgeRecorded (h : Hw) : Hw := ruleRecord (addF (wedgeTaken h) SP_CNT_COUNT 12 1) 0x6120 394 3 2

theorem wedgeRecorded_getF {g : Fld} (h : Hw) (log : g.key + 0 ≠ EV_IRQS_DROP.key) (counter : g.key + 0 ≠ SP_CNT_COUNT.key + 12) :
    getF (wedgeRecorded h) g 0 = getF (wedgeTaken h) g 0 := by
  rw [wedgeRecorded, ruleRecord_getF _ _ _ _ _ _ _ log, addF, getF_setF_reg _ _ _ _ _ _ counter]

theorem wedgeRecorded_spindle (h : Hw) : (wedgeRecorded h).spindle = h.spindle := by
  rw [wedgeRecorded, ruleRecord, raiseRecord_spindle, addF_spindle, wedgeTaken, setF_spindle, setF_spindle, setF_spindle]

theorem wedgeRecorded_mem (h : Hw) : (wedgeRecorded h).mem = h.mem := by
  rw [wedgeRecorded, ruleRecord, raiseRecord_mem, addF_mem, wedgeTaken, setF_mem, setF_mem, setF_mem]

theorem exec_wedgeFallback_available {s : State} (on : s.hw.spindle.loops = true) (lost : s.hw.spindle.locked = false)
    (observer : getF s.hw SP_STAT_CSRC 0 = 1) (loaded : headsLoaded s.hw = true) (available : wedgeAvailable s.hw = true)
    (allowed : flagF s.hw SP_CTL_WFBEN 0 = true) : exec .wedgeFallback s = s.run wedgeRecorded := by
  change execWedgeFallback s = _
  rw [execWedgeFallback]
  refine State.run_of (fun h => h.spindle.loops = true ∧ h.spindle.locked = false ∧ getF h SP_STAT_CSRC 0 = 1 ∧ headsLoaded h = true ∧
    wedgeAvailable h = true ∧ flagF h SP_CTL_WFBEN 0 = true) ⟨on, lost, observer, loaded, available, allowed⟩ ?_
  rintro h ⟨on, lost, observer, loaded, available, allowed⟩
  rw [if_pos ⟨on, by simp [sp, lost], observer⟩, if_pos ⟨loaded, available, allowed⟩]
  dsimp only
  rw [← wedgeTaken, ← wedgeRecorded]

theorem getLast?_isSome_of_turnsAgree {l : List (Nat × Rat)} (agree : turnsAgree l = true) : ∃ x, l.getLast? = some x := by
  have full : l.length = 13 := by
    simp only [turnsAgree, Bool.and_eq_true, beq_iff_eq] at agree
    exact agree.1
  exact Option.ne_none_iff_exists'.mp (by rw [Ne, List.getLast?_eq_none_iff]; rintro rfl; exact absurd full (by decide))

/-- Crossings that agree at 300 rpm or more seed the observer at the last of them (R395). -/
theorem exec_reCatch_seeds {l : List (Nat × Rat)} {s : State} (coasts : spState s.hw = spCoasting) (catching : s.hw.spindle.recatch = true)
    (fresh : s.hw.spindle.seeded = false) (agree : turnsAgree l = true) (given : (crossingRpm s.hw l).isSome = true)
    (fast : 300 ≤ absR ((crossingRpm s.hw l).getD 0)) :
    ∃ angle : Hw → Rat, exec (.reCatch l) s = s.run fun h => seed h (angle h) ((crossingRpm h l).getD 0) := by
  obtain ⟨x, last⟩ := getLast?_isSome_of_turnsAgree agree
  refine ⟨fun h => crossingAngle h l ((crossingRpm h l).getD 0) x.2, ?_⟩
  change execReCatch l s = _
  rw [execReCatch]
  refine State.run_of (fun h => spState h = spCoasting ∧ h.spindle.recatch = true ∧ h.spindle.seeded = false ∧
    (crossingRpm h l).isSome = true ∧ 300 ≤ absR ((crossingRpm h l).getD 0)) ⟨coasts, catching, fresh, given, fast⟩ ?_
  rintro h ⟨coasts, catching, fresh, given, fast⟩
  obtain ⟨rpm, speed⟩ := Option.isSome_iff_exists.mp given
  rw [speed] at fast
  dsimp only
  rw [speed, last]
  exact if_pos ⟨coasts, catching, by simp [sp, fresh], agree, fast⟩

/-- The re-catch has failed (R395). -/
def catchFailed (h : Hw) : Hw := raiseFault (spFault (onSpindle h (fun p => { p with recatch := false }))) 0x6120 8 false

theorem exec_reCatchFail_late {l : List (Nat × Rat)} {s : State} (coasts : spState s.hw = spCoasting) (catching : s.hw.spindle.recatch = true)
    (late : 200000 ≤ s.hw.spindle.inState) : exec (.reCatchFail l) s = s.run catchFailed := by
  change execReCatchFail l s = _
  rw [execReCatchFail]
  refine State.run_of (fun h => spState h = spCoasting ∧ h.spindle.recatch = true ∧ 200000 ≤ h.spindle.inState) ⟨coasts, catching, late⟩ ?_
  rintro h ⟨coasts, catching, late⟩
  exact if_pos ⟨coasts, catching, .inl late⟩

theorem catchFailed_shows (h : Hw) : spState (catchFailed h) = spFaulted ∧ (catchFailed h).spindle.recatch = false ∧
    (catchFailed h).spindle.gates = false ∧ (catchFailed h).mem = h.mem := by
  have mild : reaction 0x6120 8 = .s4 := by decide
  have spindle : (catchFailed h).spindle = { h.spindle with recatch := false }.stopLoops.enter := by
    rw [catchFailed, raiseFault_spindle (.inr (.inr (.inl mild))), spFault_spindle, onSpindle_spindle]
  refine ⟨?_, ?_, ?_, ?_⟩
  · rw [spState, catchFailed, raiseFault_getF (by decide) (.inr (.inr (.inl mild))), ← spState, spState_spFault]
  · rw [spindle]
    rfl
  · rw [spindle]
    rfl
  · rw [catchFailed, raiseFault_mem, spFault_mem, onSpindle_mem]

end Sys2Proof.Machine
end

section
/-! The runs that calibrate EOFS (R388). -/
namespace Sys2Proof.Machine

/-- A run begins. -/
def runBegun (h : Hw) (c : Nat) : Hw :=
  onSpindle (setF (setF (setF (setF h SP_ECAL_START (4 * c) 1) SP_ECAL_DONE (4 * c) 0) SP_ECAL_FAIL (4 * c) 0) SP_ECAL_COUNT (4 * c) 0)
    (fun p => { p with ecalSin := mset (fun _ => 0) p.ecalSin c 0, ecalCos := mset (fun _ => 0) p.ecalCos c 0 })

theorem exec_ecalStart {c : Nat} (car : c < 4) (s : State) : exec (.ecalStart c) s = s.run (runBegun · c) := by
  change execEcalStart c s = _
  rw [execEcalStart]
  exact State.run_of (fun _ => True) trivial fun h _ => if_pos car

theorem runBegun_start (h : Hw) (c : Nat) : getF (runBegun h c) SP_ECAL_START (4 * c) = 1 := by
  rw [runBegun, onSpindle_getF, getF_setF_of_apart _ _ _ (by decide), getF_setF_of_apart _ _ _ (by decide), getF_setF_of_apart _ _ _ (by decide),
    getF_setF_self _ SP_ECAL_START _ _ (by decide)]
  rfl

theorem runBegun_done (h : Hw) (c : Nat) : getF (runBegun h c) SP_ECAL_DONE (4 * c) = 0 := by
  rw [runBegun, onSpindle_getF, getF_setF_of_apart _ _ _ (by decide), getF_setF_of_apart _ _ _ (by decide),
    getF_setF_self _ SP_ECAL_DONE _ _ (by decide)]
  rfl

theorem runBegun_count (h : Hw) (c : Nat) : getF (runBegun h c) SP_ECAL_COUNT (4 * c) = 0 := by
  rw [runBegun, onSpindle_getF, getF_setF_self _ SP_ECAL_COUNT _ _ (by decide)]
  rfl

theorem runBegun_mem (h : Hw) (c : Nat) : (runBegun h c).mem = h.mem := by rw [runBegun, onSpindle_mem, setF_mem, setF_mem, setF_mem, setF_mem]

/-- A run ends: START falls, and the interrupt is raised. -/
def runEnded (h : Hw) (c : Nat) : Hw := setF (setF h SP_ECAL_START (4 * c) 0) SP_IRQS_ECAL 0 1

section
variable {c : Nat} (h : Hw)

theorem runEnded_irq : getF (runEnded h c) SP_IRQS_ECAL 0 = 1 := getF_setF_self _ SP_IRQS_ECAL _ 1 (by decide)
theorem runEnded_mem : (runEnded h c).mem = h.mem := by rw [runEnded, setF_mem, setF_mem]

variable (car : c < 4)
include car

theorem runEnded_getF {g : Fld} (run : g.key = SP_ECAL) : getF (runEnded h c) g (4 * c) = getF (setF h SP_ECAL_START (4 * c) 0) g (4 * c) := by
  refine getF_setF_reg _ _ _ _ _ _ ?_
  simp only [run, SP_ECAL, SP_IRQS_ECAL, SP_IRQS]
  omega

theorem runEnded_start : getF (runEnded h c) SP_ECAL_START (4 * c) = 0 := by
  rw [runEnded_getF h car rfl, getF_setF_self _ SP_ECAL_START _ _ (by decide)]
  rfl

theorem runEnded_other {g : Fld} (run : g.key = SP_ECAL) (other : SP_ECAL_START.apart g = true) :
    getF (runEnded h c) g (4 * c) = getF h g (4 * c) := by
  rw [runEnded_getF h car run, getF_setF_of_apart _ _ _ other]

end

/-- What a good run has found. -/
def runFound (h : Hw) (c : Nat) : Hw :=
  setF (setF h SP_ECAL_DONE (4 * c) 1) SP_ECAL_EOFS (4 * c)
    (roundR (65536 * Config.atanTurns (mget (fun _ => 0) (sp h).ecalSin c) (mget (fun _ => 0) (sp h).ecalCos c)) % 65536).toNat

theorem runFound_done (h : Hw) (c : Nat) : getF (runFound h c) SP_ECAL_DONE (4 * c) = 1 := by
  rw [runFound, getF_setF_of_apart _ _ _ (by decide), getF_setF_self _ SP_ECAL_DONE _ _ (by decide)]
  rfl

theorem runFound_mem (h : Hw) (c : Nat) : (runFound h c).mem = h.mem := by rw [runFound, setF_mem, setF_mem]

theorem runFailed_fail (h : Hw) (c : Nat) : getF (setF h SP_ECAL_FAIL (4 * c) 1) SP_ECAL_FAIL (4 * c) = 1 :=
  getF_setF_self _ SP_ECAL_FAIL _ 1 (by decide)

section
variable {c : Nat} {s : State} (car : c < 4) (runs : flagF s.hw SP_ECAL_START (4 * c) = true) (full : getF s.hw SP_ECAL_COUNT (4 * c) = 640)
include car runs full

theorem exec_ecalEnd_good (good : ecalGood s.hw = true) : exec (.ecalEnd c) s = s.run fun h => runEnded (runFound h c) c := by
  change execEcalEnd c s = _
  rw [execEcalEnd]
  refine State.run_of (fun h => (flagF h SP_ECAL_START (4 * c) = true ∧ getF h SP_ECAL_COUNT (4 * c) = 640) ∧ ecalGood h = true)
    ⟨⟨runs, full⟩, good⟩ ?_
  rintro h ⟨both, good⟩
  dsimp only
  rw [if_pos ⟨car, both⟩, if_pos good, ← runFound, ← runEnded]

theorem exec_ecalEnd_poor (poor : ecalGood s.hw = false) :
    exec (.ecalEnd c) s = s.run fun h => runEnded (setF h SP_ECAL_FAIL (4 * c) 1) c := by
  change execEcalEnd c s = _
  rw [execEcalEnd]
  refine State.run_of (fun h => (flagF h SP_ECAL_START (4 * c) = true ∧ getF h SP_ECAL_COUNT (4 * c) = 640) ∧ ecalGood h = false)
    ⟨⟨runs, full⟩, poor⟩ ?_
  rintro h ⟨both, poor⟩
  dsimp only
  rw [if_pos ⟨car, both⟩, poor, if_neg Bool.false_ne_true, ← runEnded]

end

end Sys2Proof.Machine
end

section
/-! What the drive's own operations leave of the rest of the device. -/
namespace Sys2Proof.Machine

/-- The carriages and their paths, the command engine, the memory, the island and the start. -/
def besideDrive (h : Hw) : Quad Carriage × Engine × List Host.Cell × Island × Boot := (h.carriages, h.engine, h.mem, h.island, h.boot)

theorem besideDrive_eq_iff {g h : Hw} : besideDrive g = besideDrive h ↔
    g.carriages = h.carriages ∧ g.engine = h.engine ∧ g.mem = h.mem ∧ g.island = h.island ∧ g.boot = h.boot := by
  simp only [besideDrive, Prod.mk.injEq]

section
variable (h : Hw)

theorem besideDrive_setF (f : Fld) (d v : Nat) : besideDrive (setF h f d v) = besideDrive h := (rfl)
theorem besideDrive_onSpindle (f : Spindle → Spindle) : besideDrive (onSpindle h f) = besideDrive h := (rfl)

theorem besideDrive_startRetract (c : Nat) : besideDrive (startRetract h c) = besideDrive h :=
  besideDrive_eq_iff.2 ⟨startRetract_carriages h c, startRetract_engine h c, startRetract_mem h c, startRetract_island h c, startRetract_boot h c⟩

theorem besideDrive_setSp (st : Nat) : besideDrive (setSp h st) = besideDrive h := by rw [setSp, besideDrive_setF, besideDrive_onSpindle]

theorem besideDrive_ecalFailAll : besideDrive (ecalFailAll h) = besideDrive h := by
  refine foldl_keeps besideDrive _ _ (fun h c => ?_) h
  unfold ecalFail
  split
  · rw [besideDrive_setF, besideDrive_setF, besideDrive_setF]
  · rfl

theorem besideDrive_loopsOff : besideDrive (loopsOff h) = besideDrive h := by
  unfold loopsOff
  dsimp only
  rw [besideDrive_setF, besideDrive_setF, besideDrive_onSpindle]
  split
  · exact besideDrive_ecalFailAll h
  · rfl

theorem besideDrive_coast : besideDrive (coast h) = besideDrive h := by
  rw [coast_eq]
  split
  · exact besideDrive_loopsOff h
  · rw [besideDrive_setSp, besideDrive_loopsOff]

end

/-- Where the population is what the straps say (R73). -/
theorem populated_of_pins {g h : Hw} (same : g.pins = h.pins) (c : Nat) : populated g c = populated h c := by
  unfold populated population
  rw [same]

theorem car_onCar_ne {h : Hw} {c k : Nat} (there : k < 4) (here : c < 4) (ne : c ≠ k) (f : Carriage → Carriage) : car (onCar h k f) c = car h c :=
  Quad.get_set_ne _ _ there here ne

/-- A fold over the carriages brings about what its step on one of them does, when no step undoes it. -/
theorem foldl_reaches {β : Type} {before after : Hw → Prop} {g : Hw → β → Hw} {l : List β} {c : β} (mem : c ∈ l)
    (waits : ∀ h, ∀ b ∈ l, before h → before (g h b)) (acts : ∀ h, before h → after (g h c)) (stays : ∀ h, ∀ b ∈ l, after h → after (g h b))
    {h : Hw} (start : before h) : after (l.foldl g h) := by
  obtain ⟨l₁, l₂, rfl⟩ := List.append_of_mem mem
  rw [List.foldl_append, List.foldl_cons]
  have reached : before (l₁.foldl g h) :=
    List.foldlRecOn (motive := before) l₁ g start fun h ready b mem => waits h b (List.mem_append_left _ mem) ready
  exact List.foldlRecOn (motive := after) l₂ g (acts _ reached) fun h done b mem =>
    stays h b (List.mem_append_right _ (List.mem_cons_of_mem _ mem)) done

end Sys2Proof.Machine
end

section
/-! A power loss is signalled (R396, R397). -/
namespace Sys2Proof.Machine

/-- The loss as SP_PSTAT shows it. -/
def lossShown (h : Hw) (cause : Nat) : Hw :=
  setF (addF (setF (setF (setF h SP_PSTAT_PLOSS 0 1) SP_PSTAT_CAUSE 0 cause) SP_IRQS_PLOSS 0 1) SP_CNT_COUNT 20 1) CY_MSTAT_PLW 0 0

/-- Carriage `c` raises no further WG. -/
def endWrites (h : Hw) (c : Nat) : Hw := onFmt (onPath h c (fun p => { p with noWrite := true })) c (fun f => { f with ploss := true })

/-- No carriage raises WG. -/
def writesEnded (h : Hw) : Hw := (List.range 4).foldl (fun h c => if populated h c then endWrites h c else h) h

/-- The loss as the rest of the device learns of it. -/
def lossSignalled (h : Hw) (cause : Nat) : Hw :=
  onSpindle (onEngine (onLog (setF (writesEnded (lossShown h cause)) EV_STAT_FLUSH 0 1) (fun l => { l with saved := l.optime }))
    (fun e => { e with lossHold := true })) (fun p => { p with recatch := false, retry := false, resumeDecel := false })

/-- The motor die holds the bus up. -/
def busHeld (h : Hw) : Hw :=
  setSp (onSpindle (setF (setF h SP_PSTAT_HU 0 1) SP_PSTAT_MINV 0 (getF h SP_VBUS_V12 0)) (fun p => { p with
    holdUp := true, holdUps := (p.holdUps + 1) % 2 ^ 32, h := 0, gates := true, lowSide := false, loops := true, lossAge := 0, holdFailed := false }))
    spHoldUp

/-- The carriages whose heads no sector holds retract. -/
def idleRetracted (h : Hw) : Hw := (List.range 4).foldl (fun h c => if populated h c ∧ !(sectorInFlight h c) then startRetract h c else h) h

theorem powerLossSignal_eq (h : Hw) (cause : Nat) : powerLossSignal h cause =
    if drivesParked (lossSignalled h cause) then coast (lossSignalled h cause) else idleRetracted (busHeld (lossSignalled h cause)) := (rfl)

/-- A field that neither a hold-up nor a coasting spindle shows in. -/
def Fld.offHoldUp (g : Fld) : Bool :=
  g.offLoops && SP_STAT_STATE.apart g && SP_PSTAT_HU.apart g && SP_PSTAT_MINV.apart g && decide (g.key < AC_CMD)

theorem startRetract_getF {g : Fld} (h : Hw) (c : Nat) (low : g.key < AC_CMD) : getF (startRetract h c) g 0 = getF h g 0 := by
  have apart {f : Fld} {d : Nat} (above : AC_CMD ≤ f.key) : g.key + 0 ≠ f.key + d := by omega
  unfold startRetract addF
  dsimp only
  split
  · rfl
  · rw [getF_setF_reg _ _ _ _ _ _ (apart (by decide)), getF_setF_reg _ _ _ _ _ _ (apart (by decide)),
      getF_setF_reg _ _ _ _ _ _ (apart (by decide)), getF_setF_reg _ _ _ _ _ _ (apart (by decide)), onDrive_getF]

theorem powerLossSignal_getF {g : Fld} (h : Hw) (cause : Nat) (off : g.offHoldUp = true) :
    getF (powerLossSignal h cause) g 0 = getF (lossSignalled h cause) g 0 := by
  simp only [Fld.offHoldUp, Bool.and_eq_true, decide_eq_true_eq] at off
  obtain ⟨⟨⟨⟨loops, state⟩, hu⟩, minv⟩, low⟩ := off
  rw [powerLossSignal_eq]
  split
  · exact coast_getF _ loops state
  · refine (foldl_keeps (getF · g 0) _ _ (fun h c => ?_) _).trans ?_
    · split
      · exact startRetract_getF h c low
      · rfl
    · rw [busHeld, setSp_getF _ _ state, onSpindle_getF, getF_setF_of_apart _ _ _ minv, getF_setF_of_apart _ _ _ hu]

theorem besideDrive_powerLossSignal (h : Hw) (cause : Nat) : besideDrive (powerLossSignal h cause) = besideDrive (lossSignalled h cause) := by
  rw [powerLossSignal_eq]
  split
  · exact besideDrive_coast _
  · refine (foldl_keeps besideDrive _ _ (fun h c => ?_) _).trans ?_
    · split
      · exact besideDrive_startRetract h c
      · rfl
    · rw [busHeld, besideDrive_setSp, besideDrive_onSpindle, besideDrive_setF, besideDrive_setF]

section
variable (h : Hw) (cause : Nat)

theorem writesEnded_getF (g : Fld) : getF (writesEnded h) g 0 = getF h g 0 := by
  refine foldl_keeps (getF · g 0) _ _ (fun h c => ?_) h
  split <;> rfl

theorem writesEnded_mem : (writesEnded h).mem = h.mem := by
  refine foldl_keeps (·.mem) _ _ (fun h c => ?_) h
  split <;> rfl

theorem writesEnded_carriage {c : Nat} (here : populated h c = true) :
    (path (writesEnded h) c).noWrite = true ∧ (fm (writesEnded h) c).ploss = true := by
  have few := lt_four_of_populated here
  refine foldl_reaches (before := fun h => populated h c = true)
    (after := fun h => (path h c).noWrite = true ∧ (fm h c).ploss = true) (List.mem_range.mpr few) ?_ ?_ ?_ here
  · rintro h k - here
    split
    · exact here
    · exact here
  · intro h here
    rw [if_pos here]
    unfold path fm endWrites
    rw [car_onFmt, car_onPath]
    exact ⟨rfl, rfl⟩
  · intro h k mem done
    split
    · unfold path fm endWrites at *
      by_cases same : c = k
      · subst same
        rw [car_onFmt, car_onPath]
        exact ⟨rfl, rfl⟩
      · rw [onFmt, car_onCar_ne (List.mem_range.mp mem) few same, onPath, car_onCar_ne (List.mem_range.mp mem) few same]
        exact done
    · exact done

theorem lossSignalled_getF {g : Fld} (other : EV_STAT_FLUSH.apart g = true) :
    getF (lossSignalled h cause) g 0 = getF (lossShown h cause) g 0 := by
  rw [lossSignalled, onSpindle_getF, onEngine_getF, onLog_getF, getF_setF_of_apart _ _ _ other, writesEnded_getF]

theorem lossShown_getF {g : Fld} (die : SP_IRQS_PLOSS.apart g = true) (count : g.key + 0 ≠ SP_CNT_COUNT.key + 20) (cluster : CY_MSTAT_PLW.apart g = true) :
    getF (lossShown h cause) g 0 = getF (setF (setF h SP_PSTAT_PLOSS 0 1) SP_PSTAT_CAUSE 0 cause) g 0 := by
  rw [lossShown, getF_setF_of_apart _ _ _ cluster, addF, getF_setF_reg _ _ _ _ _ _ count, getF_setF_of_apart _ _ _ die]

theorem powerLossSignal_ploss : getF (powerLossSignal h cause) SP_PSTAT_PLOSS 0 = 1 := by
  rw [powerLossSignal_getF _ _ (by decide), lossSignalled_getF _ _ (by decide), lossShown_getF _ _ (by decide) (by decide) (by decide),
    getF_setF_of_apart _ _ _ (by decide), getF_setF_self _ SP_PSTAT_PLOSS _ _ (by decide)]
  rfl

theorem powerLossSignal_cause {cause : Nat} (two : cause < 4) : getF (powerLossSignal h cause) SP_PSTAT_CAUSE 0 = cause := by
  rw [powerLossSignal_getF _ _ (by decide), lossSignalled_getF _ _ (by decide), lossShown_getF _ _ (by decide) (by decide) (by decide),
    getF_setF_self _ SP_PSTAT_CAUSE _ _ (by decide)]
  exact Nat.mod_eq_of_lt two

theorem powerLossSignal_flush : getF (powerLossSignal h cause) EV_STAT_FLUSH 0 = 1 := by
  rw [powerLossSignal_getF _ _ (by decide), lossSignalled, onSpindle_getF, onEngine_getF, onLog_getF, getF_setF_self _ EV_STAT_FLUSH _ _ (by decide)]
  rfl

theorem powerLossSignal_lossHold : (powerLossSignal h cause).engine.lossHold = true := by
  rw [(besideDrive_eq_iff.1 (besideDrive_powerLossSignal h cause)).2.1, lossSignalled, onSpindle_engine]
  rfl

theorem powerLossSignal_mem : (powerLossSignal h cause).mem = h.mem := by
  rw [(besideDrive_eq_iff.1 (besideDrive_powerLossSignal h cause)).2.2.1, lossSignalled, onSpindle_mem, onEngine_mem, onLog_mem, setF_mem,
    writesEnded_mem, lossShown, setF_mem, addF_mem, setF_mem, setF_mem, setF_mem]

theorem powerLossSignal_carriages : (powerLossSignal h cause).carriages = (writesEnded (lossShown h cause)).carriages := by
  rw [(besideDrive_eq_iff.1 (besideDrive_powerLossSignal h cause)).1, lossSignalled, onSpindle_carriages, onEngine_carriages, onLog_carriages,
    setF_carriages]

theorem powerLossSignal_carriage {c : Nat} (here : populated h c = true) :
    (path (powerLossSignal h cause) c).noWrite = true ∧ (fm (powerLossSignal h cause) c).ploss = true := by
  have pins : (lossShown h cause).pins = h.pins := by rw [lossShown, setF_pins, addF_pins, setF_pins, setF_pins, setF_pins]
  have ended := writesEnded_carriage (lossShown h cause) ((populated_of_pins pins c).trans here)
  unfold path fm car at *
  rw [powerLossSignal_carriages]
  exact ended

end

theorem showBuses_getF {g : Fld} (h : Hw) (v12 v5 : Nat) (high : SP_VBUS_V12.apart g = true) (low : SP_VBUS_V5.apart g = true) :
    getF (showBuses h v12 v5) g 0 = getF h g 0 := by
  rw [showBuses, getF_setF_of_apart _ _ _ low, getF_setF_of_apart _ _ _ high]

@[simp] theorem showBuses_mem (h : Hw) (v12 v5 : Nat) : (showBuses h v12 v5).mem = h.mem := by rw [showBuses, setF_mem, setF_mem]
@[simp] theorem showBuses_pins (h : Hw) (v12 v5 : Nat) : (showBuses h v12 v5).pins = h.pins := by rw [showBuses, setF_pins, setF_pins]

section
variable {v12 v5 : Nat} {s : State} (powered : domainUp s.hw 23 = true) (before : flagF s.hw SP_PSTAT_PLOSS 0 = false)
include powered before

theorem exec_powerLoss_12 (low : v12 < getF s.hw SP_PLTH_PL12 0) :
    exec (.powerLoss v12 v5) s = s.run fun h => powerLossSignal (showBuses h v12 v5) 1 := by
  change execPowerLoss v12 v5 s = _
  rw [execPowerLoss]
  refine State.run_of (fun h => domainUp h 23 = true ∧ flagF h SP_PSTAT_PLOSS 0 = false ∧ v12 < getF h SP_PLTH_PL12 0) ⟨powered, before, low⟩ ?_
  rintro h ⟨powered, before, low⟩
  rw [powered, if_neg (by decide)]
  dsimp only
  rw [flagF, showBuses_getF _ _ _ (by decide) (by decide), ← flagF, before, showBuses_getF _ _ _ (by decide) (by decide), if_pos low,
    if_neg (by decide)]

theorem exec_powerLoss_5 (enough : getF s.hw SP_PLTH_PL12 0 ≤ v12) (low : v5 < getF s.hw SP_PLTH_PL5 0) :
    exec (.powerLoss v12 v5) s = s.run fun h => powerLossSignal (showBuses h v12 v5) 2 := by
  change execPowerLoss v12 v5 s = _
  rw [execPowerLoss]
  refine State.run_of (fun h => domainUp h 23 = true ∧ flagF h SP_PSTAT_PLOSS 0 = false ∧ getF h SP_PLTH_PL12 0 ≤ v12 ∧ v5 < getF h SP_PLTH_PL5 0)
    ⟨powered, before, enough, low⟩ ?_
  rintro h ⟨powered, before, enough, low⟩
  rw [powered, if_neg (by decide)]
  dsimp only
  rw [flagF, showBuses_getF _ _ _ (by decide) (by decide), ← flagF, before, showBuses_getF _ _ _ (by decide) (by decide),
    showBuses_getF _ _ _ (by decide) (by decide), if_neg (Nat.not_lt.mpr enough), if_pos low, if_neg (by decide)]

end

end Sys2Proof.Machine
end

section
/-! The end of a hold-up, and the return of the supply (R397, R398). -/
namespace Sys2Proof.Machine

section
variable {s : State} (held : s.hw.spindle.holdUp = true)
include held

/-- With every drive Parked the bus is let go and the spindle coasts (R397). -/
theorem exec_holdUpEnd_parked (parked : drivesParked s.hw = true) (stays : s.hw.boot.fallRetract = false)
    (cool : s.hw.island.tripHoldUp = false) :
    exec .holdUpEnd s = s.run fun h => coast (onSpindle h (fun p => { p with holdUp := false, holdFailed := false })) := by
  change execHoldUpEnd s = _
  rw [execHoldUpEnd]
  refine State.run_of (fun h => h.spindle.holdUp = true ∧ drivesParked h = true ∧ h.boot.fallRetract = false ∧ h.island.tripHoldUp = false)
    ⟨held, parked, stays, cool⟩ ?_
  rintro h ⟨held, parked, stays, cool⟩
  obtain ⟨-, -, -, island, boot⟩ :=
    besideDrive_eq_iff.1 ((besideDrive_coast (onSpindle h fun p => { p with holdUp := false, holdFailed := false })).trans (besideDrive_onSpindle h _))
  rw [if_neg (by simp [sp, held]), if_pos parked, endFall, boot, stays, if_neg Bool.false_ne_true]
  dsimp only
  rw [island, cool, if_neg Bool.false_ne_true]

/-- Below 600 rpm the hold-up has failed, and the drives go on (R405). -/
theorem exec_holdUpEnd_failed (out : drivesParked s.hw = false) (slow : absR (speedNow s.hw) < 600) (fresh : s.hw.spindle.holdFailed = false) :
    exec .holdUpEnd s = s.run fun h => raiseFault (onSpindle h (fun p => { p with holdFailed := true })) 0x6320 4 false := by
  change execHoldUpEnd s = _
  rw [execHoldUpEnd]
  refine State.run_of (fun h => h.spindle.holdUp = true ∧ drivesParked h = false ∧ absR (speedNow h) < 600 ∧ h.spindle.holdFailed = false)
    ⟨held, out, slow, fresh⟩ ?_
  rintro h ⟨held, out, slow, fresh⟩
  rw [if_neg (by simp [sp, held]), out, if_neg Bool.false_ne_true, if_pos ⟨slow, by simp [sp, fresh]⟩]

end

/-- The return as SP_PSTAT shows it. -/
def returnShown (h : Hw) : Hw := setF (setF (setF h SP_PSTAT_PLOSS 0 0) SP_PSTAT_HU 0 0) SP_IRQS_PWRBACK 0 1

/-- Carriage `c` may raise WG again, unless the zone of its die forbids it still (R398). -/
def allowWrites (h : Hw) (c : Nat) : Hw :=
  onFmt (onPath h c (fun p => { p with noWrite := decide (3 ≤ getF h TH_TEMP_ZONE (inst (c + 1))) })) c (fun f => { f with ploss := false })

/-- The carriages raise WG again. -/
def writesAllowed (h : Hw) : Hw := (List.range 4).foldl (fun h c => if populated h c then allowWrites h c else h) h

/-- The supply is back. -/
def supplyBack (h : Hw) : Hw := backToGates (onEngine (writesAllowed (returnShown h)) (fun e => { e with lossHold := false }))

theorem exec_supplyReturn_returns {v12 v5 : Nat} {s : State} (powered : domainUp s.hw 23 = true) (high : 11400 ≤ v12) (low : 4750 ≤ v5)
    (lost : flagF s.hw SP_PSTAT_PLOSS 0 = true) (free : s.hw.spindle.holdUp = false) (runs : s.hw.pins.resetIn = true) :
    exec (.supplyReturn v12 v5) s = s.run fun h => supplyBack (showBuses h v12 v5) := by
  change execSupplyReturn v12 v5 s = _
  rw [execSupplyReturn]
  refine State.run_of (fun h => domainUp h 23 = true ∧ flagF h SP_PSTAT_PLOSS 0 = true ∧ h.spindle.holdUp = false ∧ h.pins.resetIn = true)
    ⟨powered, lost, free, runs⟩ ?_
  rintro h ⟨powered, lost, free, runs⟩
  have drive : (sp (showBuses h v12 v5)).holdUp = false := by rw [sp, showBuses, setF_spindle, setF_spindle, free]
  rw [powered, if_neg (by decide)]
  dsimp only
  rw [if_pos ⟨high, low, by rw [flagF, showBuses_getF _ _ _ (by decide) (by decide), ← flagF, lost], by rw [drive]; rfl, by rw [showBuses_pins, runs]⟩]
  rfl

section
variable (h : Hw)

theorem backToGates_getF {g : Fld} (other : PW_BOOT_STAGE.apart g = true) : getF (backToGates h) g 0 = getF h g 0 := by
  unfold backToGates
  dsimp only
  split
  · rw [returnToGates, getF_setF_of_apart _ _ _ other, onBoot_getF]
  · rfl

theorem backToGates_keeps : (backToGates h).carriages = h.carriages ∧ (backToGates h).engine = h.engine ∧ (backToGates h).mem = h.mem := by
  unfold backToGates
  dsimp only
  split
  · rw [returnToGates, setF_carriages, setF_engine, setF_mem, onBoot_carriages, onBoot_engine, onBoot_mem]
    exact ⟨rfl, rfl, rfl⟩
  · exact ⟨rfl, rfl, rfl⟩

theorem writesAllowed_getF (g : Fld) : getF (writesAllowed h) g 0 = getF h g 0 := by
  refine foldl_keeps (getF · g 0) _ _ (fun h c => ?_) h
  split <;> rfl

theorem writesAllowed_mem : (writesAllowed h).mem = h.mem := by
  refine foldl_keeps (·.mem) _ _ (fun h c => ?_) h
  split <;> rfl

theorem writesAllowed_noWrite {c : Nat} (here : populated h c = true) (cool : getF h TH_TEMP_ZONE (inst (c + 1)) < 3) :
    (path (writesAllowed h) c).noWrite = false := by
  have few := lt_four_of_populated here
  have allowed {h : Hw} (cool : getF h TH_TEMP_ZONE (inst (c + 1)) < 3) : (path (allowWrites h c) c).noWrite = false := by
    unfold path allowWrites
    rw [car_onFmt, car_onPath]
    exact decide_eq_false (Nat.not_le.mpr cool)
  refine (foldl_reaches (before := fun h => populated h c = true ∧ getF h TH_TEMP_ZONE (inst (c + 1)) < 3)
    (after := fun h => getF h TH_TEMP_ZONE (inst (c + 1)) < 3 ∧ (path h c).noWrite = false)
    (List.mem_range.mpr few) ?_ ?_ ?_ ⟨here, cool⟩).2
  · intro h k _ ready
    split
    · exact ready
    · exact ready
  · rintro h ⟨here, cool⟩
    rw [if_pos here]
    exact ⟨cool, allowed cool⟩
  · rintro h k mem ⟨cool, done⟩
    refine ⟨?_, ?_⟩
    · split
      · exact cool
      · exact cool
    · split
      · by_cases same : c = k
        · subst same
          exact allowed cool
        · unfold path at *
          rw [allowWrites, onFmt, car_onCar_ne (List.mem_range.mp mem) few same, onPath, car_onCar_ne (List.mem_range.mp mem) few same]
          exact done
      · exact done

theorem supplyBack_getF {g : Fld} (other : PW_BOOT_STAGE.apart g = true) : getF (supplyBack h) g 0 = getF (returnShown h) g 0 := by
  rw [supplyBack, backToGates_getF _ other, onEngine_getF, writesAllowed_getF]

theorem supplyBack_ploss : getF (supplyBack h) SP_PSTAT_PLOSS 0 = 0 := by
  rw [supplyBack_getF _ (by decide), returnShown, getF_setF_of_apart _ _ _ (by decide), getF_setF_of_apart _ _ _ (by decide),
    getF_setF_self _ SP_PSTAT_PLOSS _ _ (by decide)]
  rfl

theorem supplyBack_hu : getF (supplyBack h) SP_PSTAT_HU 0 = 0 := by
  rw [supplyBack_getF _ (by decide), returnShown, getF_setF_of_apart _ _ _ (by decide), getF_setF_self _ SP_PSTAT_HU _ _ (by decide)]
  rfl

theorem supplyBack_irq : getF (supplyBack h) SP_IRQS_PWRBACK 0 = 1 := by
  rw [supplyBack_getF _ (by decide), returnShown, getF_setF_self _ SP_IRQS_PWRBACK _ _ (by decide)]
  rfl

theorem supplyBack_lossHold : (supplyBack h).engine.lossHold = false := by
  rw [supplyBack, (backToGates_keeps _).2.1]
  rfl

theorem supplyBack_mem : (supplyBack h).mem = h.mem := by
  rw [supplyBack, (backToGates_keeps _).2.2, onEngine_mem, writesAllowed_mem, returnShown, setF_mem, setF_mem, setF_mem]

/-- The temperature registers stand above the motor die's. -/
theorem zone_returnShown (v12 v5 c : Nat) :
    getF (returnShown (showBuses h v12 v5)) TH_TEMP_ZONE (inst (c + 1)) = getF h TH_TEMP_ZONE (inst (c + 1)) := by
  have apart {f : Fld} (low : f.key < 0xc01000) : TH_TEMP_ZONE.key + inst (c + 1) ≠ f.key + 0 := by
    have base : 0xc01000 ≤ TH_TEMP_ZONE.key := by decide
    omega
  rw [returnShown, getF_setF_reg _ _ _ _ _ _ (apart (by decide)), getF_setF_reg _ _ _ _ _ _ (apart (by decide)),
    getF_setF_reg _ _ _ _ _ _ (apart (by decide)), showBuses, getF_setF_reg _ _ _ _ _ _ (apart (by decide)),
    getF_setF_reg _ _ _ _ _ _ (apart (by decide))]

theorem supplyBack_noWrite {v12 v5 c : Nat} (here : populated h c = true) (cool : getF h TH_TEMP_ZONE (inst (c + 1)) < 3) :
    (path (supplyBack (showBuses h v12 v5)) c).noWrite = false := by
  have pins : (returnShown (showBuses h v12 v5)).pins = h.pins := by rw [returnShown, setF_pins, setF_pins, setF_pins, showBuses_pins]
  have allowed := writesAllowed_noWrite (returnShown (showBuses h v12 v5)) ((populated_of_pins pins c).trans here)
    (by rw [zone_returnShown]; exact cool)
  unfold path car at *
  rw [supplyBack, (backToGates_keeps _).1, onEngine_carriages]
  exact allowed

end

end Sys2Proof.Machine
end

section
/-! The faults of the drive and of its bus (R405). -/
namespace Sys2Proof.Machine

/-- The spindle coasts after an overcurrent. -/
def overcurrentFault (h : Hw) : Hw := raiseFault (setF (setSp (loopsOff h) spCoasting) SP_IRQS_OCUR 0 1) 0x6110 8 false

theorem exec_overcurrent_twice {s : State} (on : s.hw.spindle.loops = true) (twice : 2 ≤ s.hw.spindle.ocur) :
    exec .overcurrent s = s.run overcurrentFault := by
  change execOvercurrent s = _
  rw [execOvercurrent]
  refine State.run_of (fun h => h.spindle.loops = true ∧ 2 ≤ h.spindle.ocur) ⟨on, twice⟩ ?_
  rintro h ⟨on, twice⟩
  exact if_pos ⟨.inl on, twice⟩

theorem overcurrentFault_shows (h : Hw) : spState (overcurrentFault h) = spCoasting ∧ getF (overcurrentFault h) SP_IRQS_OCUR 0 = 1 ∧
    (overcurrentFault h).spindle.gates = false ∧ (overcurrentFault h).spindle.loops = false ∧ (overcurrentFault h).mem = h.mem := by
  have mild : reaction 0x6110 8 = .s2 := by decide
  have spindle : (overcurrentFault h).spindle = h.spindle.stopLoops.enter := by
    rw [overcurrentFault, raiseFault_spindle (.inr (.inr (.inr ⟨mild, rfl⟩))), setF_spindle, setSp_spindle, loopsOff_spindle]
  refine ⟨?_, ?_, ?_, ?_, ?_⟩
  · rw [spState, overcurrentFault, raiseFault_getF (by decide) (.inr (.inr (.inr ⟨mild, rfl⟩))), getF_setF_of_apart _ _ _ (by decide), ← spState,
      spState_setSp _ (by decide)]
  · rw [overcurrentFault, raiseFault_getF (by decide) (.inr (.inr (.inr ⟨mild, rfl⟩))), getF_setF_self _ SP_IRQS_OCUR _ _ (by decide)]
    rfl
  · rw [spindle]
    rfl
  · rw [spindle]
    rfl
  · rw [overcurrentFault, raiseFault_mem, setF_mem, setSp_mem, loopsOff_mem]

/-- The drives retract and the spindle coasts after a bus overvoltage. -/
def overvoltageFault (h : Hw) (v12 : Nat) : Hw := raiseFault (retractAll (coast (setF h SP_VBUS_V12 0 v12))) 0x6310 4 false

theorem exec_busOvervoltage_high {v12 : Nat} {s : State} (powered : domainUp s.hw 23 = true) (high : 15000 < v12) :
    exec (.busOvervoltage v12) s = s.run (overvoltageFault · v12) := by
  change execBusOvervoltage v12 s = _
  rw [execBusOvervoltage]
  exact State.run_of (fun h => domainUp h 23 = true) powered fun h powered => if_pos ⟨powered, high⟩

theorem overvoltageFault_spindle (h : Hw) (v12 : Nat) : (overvoltageFault h v12).spindle = (coast (setF h SP_VBUS_V12 0 v12)).spindle := by
  rw [overvoltageFault, raiseFault_spindle (.inl (by decide)), retractAll_spindle]

theorem overvoltageFault_mem (h : Hw) (v12 : Nat) : (overvoltageFault h v12).mem = h.mem := by
  rw [overvoltageFault, raiseFault_mem, retractAll_mem, coast_mem, setF_mem]

end Sys2Proof.Machine
end

section
/-! The spindle's events complete. -/
namespace Sys2Proof.Machine

/-- A control period with the loops on and the observer as their source (R374, R377, R378). -/
theorem runningPeriod_shows {h : Hw} (calm : h.spindle.holdUp = false) (source : getF h SP_STAT_CSRC 0 = 1) (state : spState h ≠ spAligning)
    (iU iV : Rat) (v12 v5 : Nat) :
    let t := loopPeriod (periodBegun h iU iV v12 v5) iU iV v12
    t.spindle.theta = t.spindle.obsTheta ∧ t.out = h.out ++ [Output.gates t.spindle.du t.spindle.dv t.spindle.dw] ∧
    t.spindle.epsCount = h.spindle.epsCount + 1 ∧ getF t SP_SPD_RPM 0 = (roundR t.spindle.obsRpm).natAbs % 65536 ∧ t.mem = h.mem := by
  obtain ⟨n, q, begun⟩ := periodBegun_spindle iU iV v12 v5 calm
  have shows := loopPeriod_shows (h := periodBegun h iU iV v12 v5) (by rw [periodBegun_getF _ _ _ _ calm (by decide) (by decide), source])
    (by rwa [spState, periodBegun_getF _ _ _ _ calm (by decide) (by decide), ← spState]) iU iV v12
  rw [begun, periodBegun_out _ _ _ _ calm, periodBegun_mem _ _ _ _ calm] at shows
  exact shows

/-- The bus is let go: the spindle coasts. -/
theorem busLetGo_shows {h : Hw} (state : spState h = spHoldUp) :
    let t := coast (onSpindle h (fun p => { p with holdUp := false, holdFailed := false }))
    spState t = spCoasting ∧ t.spindle.holdUp = false ∧ t.spindle.gates = false ∧ t.mem = h.mem := by
  have kept (f : Spindle → Spindle) : spState (onSpindle h f) = spHoldUp := state
  have coasts := coast_turning (h := onSpindle h (fun p => { p with holdUp := false, holdFailed := false })) (by rw [kept]; decide)
    (by rw [kept]; decide)
  refine ⟨?_, ?_, (coast_quiet _).1, by rw [coast_mem, onSpindle_mem]⟩ <;> rw [coasts]
  · exact spState_setSp _ (by decide)
  · rw [setSp_spindle, loopsOff_spindle, onSpindle_spindle]
    rfl

/-- Settles O16, an equation of `exec` for each clause's branch and what the state it names shows. That a start barred by a gate sets CREF is
the model's choice (log entry 85), and so is that the seeding of a re-catch leaves RECATCH as it was (log entry 120). -/
theorem spindleComplete : Obligations.SpindleComplete := by
  unfold Obligations.SpindleComplete
  refine ⟨?periodIdle, ?periodLoops, ?evaluation, ?speedLoop, ?busy, ?governor, ?start, ?startSense, ?startLoss, ?startBarred, ?stop, ?stopOut,
    ?coast, ?coastOut, ?measuredStill, ?measuredForward, ?measuredSlow, ?aligned, ?openLoop, ?attemptAgain, ?attemptLast, ?atSpeed, ?brakeStop,
    ?brakeAlign, ?coastStop, ?coastRetry, ?checkQuiet, ?checkCrossing, ?wedge, ?reCatch, ?reCatchFail, ?ecalStart, ?ecalGood, ?ecalPoor, ?loss12,
    ?loss5, ?holdParked, ?holdFailed, ?supply, ?overcurrent, ?overvoltage⟩
  case periodIdle =>
    intro u1 u2 v1 v2 v12 v5 s up off calm
    obtain ⟨high, low, rpm, current, age, mem⟩ := idlePeriod_shows (h := { s.hw with out := [] }) calm (((u1 + u2 : Int) : Rat) / 2)
      (((v1 + v2 : Int) : Rat) / 2) v12 v5
    refine ⟨_, exec_controlPeriod_idle up calm off, ?_⟩
    dsimp only
    exact ⟨high, low, rpm, current, age, mem, rfl, rfl⟩
  case periodLoops =>
    intro u1 u2 v1 v2 v12 v5 s up on calm source state driven
    obtain ⟨theta, out, count, rpm, mem⟩ := runningPeriod_shows (h := { s.hw with out := [] }) calm source state (((u1 + u2 : Int) : Rat) / 2)
      (((v1 + v2 : Int) : Rat) / 2) v12 v5
    refine ⟨_, exec_controlPeriod_observer up calm on source driven, ?_⟩
    dsimp only
    exact ⟨theta, out, count, rpm, mem, rfl, rfl⟩
  case evaluation =>
    intro s on full free few
    obtain ⟨n, k, ended⟩ := evaluationEnd_unlocked (h := confShown { s.hw with out := [] }) (observerConf { s.hw with out := [] })
      (by rw [confShown_spindle]; exact free) (by rw [confShown_spindle]; exact few)
    refine ⟨_, exec_observerEvaluation_unlocked on full, ?_, ?_, ?_, ?_, rfl, rfl⟩ <;> dsimp only <;> rw [ended]
    · rw [onSpindle_getF, confShown_conf]
      rfl
    · rw [onSpindle_spindle, confShown_spindle]
      exact free
    · rw [onSpindle_spindle, confShown_spindle]
    · rw [onSpindle_mem, confShown_mem]
  case speedLoop =>
    intro s runs on open_ low
    obtain ⟨iq, w, shown, ran⟩ := exec_speedLoop_running runs on open_ low
    refine ⟨_, ran, ?_, ?_, ?_, ?_, rfl, rfl⟩ <;> dsimp only
    · rw [setF_spindle, onSpindle_spindle, setF_spindle]
      rfl
    · rw [getF_setF_of_apart _ _ _ (by decide), onSpindle_getF, getF_setF_self _ SP_STAT_VCLAMP _ _ (by decide)]
      rfl
    · rw [spState, getF_setF_of_apart _ _ _ (by decide), onSpindle_getF, getF_setF_of_apart _ _ _ (by decide)]
      exact runs
    · rw [setF_mem, onSpindle_mem, setF_mem]
  case busy =>
    intro c s here inService
    refine ⟨_, exec_busyReport_reports here inService, ?_, onSpindle_regs _ _, onSpindle_mem _ _, rfl, rfl⟩
    dsimp only
    rw [onSpindle_spindle, zget_zset]
  case governor =>
    intro c s runs demand here inService high
    exact ⟨_, exec_demandGovernor_up runs demand here inService high, rfl, rfl, rfl, rfl, rfl, rfl⟩
  case start =>
    intro s stopped warm power free sound
    have ran : exec .spindleStart s = s.run firstAttempt := (exec_spindleStart_stopped stopped warm power free).trans
      (State.run_of (fun h => senseOffset h = false) sound fun h sound => if_neg (by simp [sound]))
    exact ⟨_, ran, spState_measure _, firstAttempt_attempt _, measure_csrc _, firstAttempt_gates _, firstAttempt_mem _, rfl, rfl⟩
  case startSense =>
    intro s stopped warm power free offset
    have ran : exec .spindleStart s = s.run fun h => raiseFault (spFault (refuseCommand (startCounted h))) 0x6110 11 false :=
      (exec_spindleStart_stopped stopped warm power free).trans (State.run_of (fun h => senseOffset h = true) offset fun h offset => if_pos offset)
    obtain ⟨state, cref, gates, mem⟩ := startFaulted_shows { s.hw with out := [] }
    refine ⟨_, ran, ?_⟩
    dsimp only
    exact ⟨state, cref, gates, mem, rfl, rfl⟩
  case startLoss =>
    intro s lost
    exact ⟨_, exec_spindleStart_refused (.inl lost), refuseCommand_cref _, refuseCommand_spindle _, spState_refuseCommand _, refuseCommand_mem _,
      rfl, rfl⟩
  case startBarred =>
    intro s barred
    exact ⟨_, exec_spindleStart_refused (.inr barred), refuseCommand_cref _, refuseCommand_spindle _, spState_refuseCommand _, refuseCommand_mem _,
      rfl, rfl⟩
  case stop =>
    intro s parked runs
    refine ⟨_, exec_spindleStop_running parked runs, spState_setSp _ (by decide), ?_, ?_, rfl, rfl⟩ <;> dsimp only
    · rw [setSp_spindle, onSpindle_spindle]
      rfl
    · rw [setSp_mem, onSpindle_mem, saveAll_mem]
  case stopOut =>
    intro s out
    exact ⟨_, exec_spindleStop_refused out, refuseCommand_cref _, refuseCommand_spindle _, refuseCommand_mem _, rfl, rfl⟩
  case coast =>
    intro s parked runs
    refine ⟨_, exec_spindleCoast_running parked runs, spState_setSp _ (by decide), ?_, ?_, ?_, ?_, rfl, rfl⟩ <;> dsimp only
    · rw [setSp_spindle, loopsOff_spindle]
      rfl
    · rw [setSp_spindle, loopsOff_spindle]
      rfl
    · rw [setSp_getF _ _ (by decide), loopsOff_conf]
    · rw [setSp_mem, loopsOff_mem]
  case coastOut =>
    intro s out
    exact ⟨_, exec_spindleCoast_refused out, refuseCommand_cref _, refuseCommand_spindle _, refuseCommand_mem _, rfl, rfl⟩
  case measuredStill =>
    intro s measured fresh full goes
    refine ⟨_, exec_measuringEnd_still measured fresh full goes, spState_setSp _ (by decide), ?_, ?_, ?_, ?_, rfl, rfl⟩ <;> dsimp only
    · rw [aligning, setSp_spindle, onSpindle_spindle]
      rfl
    · rw [aligning, setSp_spindle, onSpindle_spindle]
      rfl
    · rw [aligning, setSp_spindle, onSpindle_spindle]
      rfl
    · rw [aligning, setSp_mem, onSpindle_mem]
  case measuredForward =>
    intro l s measured fresh full fast
    refine ⟨_, exec_measuringEnd_forward measured fresh full l fast, ?_, ?_, seed_csrc _ _ _, ?_, ?_, seed_mem _ _ _, rfl, rfl⟩ <;> dsimp only
    · rw [spState, seed_getF _ _ _ (by decide)]
      exact measured
    · rw [seed_spindle]
    · rw [seed_spindle]
      rfl
    · rw [seed_spindle]
  case measuredSlow =>
    intro l s measured fresh full some none goes
    refine ⟨_, exec_measuringEnd_slow measured fresh full l some none goes, spState_brake _ _ _, ?_, ?_, brake_mem _ _ _, rfl, rfl⟩ <;> dsimp only
    · rw [brake_spindle]
    · rw [brake_spindle]
  case aligned =>
    intro s aligns ended
    refine ⟨_, exec_alignmentEnd_over aligns ended, ?_, getF_setF_self _ SP_STAT_CSRC _ 0 (by decide), ?_, ?_, ?_, rfl, rfl⟩ <;> dsimp only
    · rw [spState, getF_setF_of_apart _ _ _ (by decide), ← spState, spState_setSp _ (by decide)]
    · rw [setF_spindle, setSp_spindle]
      rfl
    · rw [setF_spindle, setSp_spindle]
      rfl
    · rw [setF_mem, setSp_mem]
  case openLoop =>
    intro s open_ speed waits
    exact exec_openLoopSpeedReached_reached open_ speed waits
  case attemptAgain =>
    intro s failed few
    refine ⟨_, exec_startAttemptFail_again failed few, ?_, ?_, ?_, ?_, ?_, rfl, rfl⟩ <;> dsimp only
    · rw [spState, onSpindle_getF, ← spState, spState_setSp _ (by decide)]
    · rw [onSpindle_getF, setSp_getF _ _ (by decide), loopsOff_getF _ (by decide), attemptCounted_stfail]
    · rw [onSpindle_spindle]
    · rw [onSpindle_spindle, setSp_spindle, loopsOff_spindle]
      rfl
    · rw [onSpindle_mem, setSp_mem, loopsOff_mem, attemptCounted_mem]
  case attemptLast =>
    intro s failed third up
    obtain ⟨state, irq, gates, mem⟩ := startGivenUp_shows { s.hw with out := [] }
    refine ⟨_, exec_startAttemptFail_last failed third up, ?_⟩
    dsimp only
    exact ⟨state, irq, gates, mem, rfl, rfl⟩
  case atSpeed =>
    intro s state goal past
    refine ⟨_, exec_atSpeed_reached state goal past, ?_, getF_setF_self _ SP_IRQS_ATSPD _ 1 (by decide), ?_, ?_, rfl, rfl⟩ <;> dsimp only
    · rw [spState, getF_setF_of_apart _ _ _ (by decide), onSpindle_getF, ← spState, spState_setSp _ (by decide)]
    · rw [setF_spindle, onSpindle_spindle]
    · rw [setF_mem, onSpindle_mem, setSp_mem]
  case brakeStop =>
    intro s brakes ended stops
    refine ⟨_, exec_brakingEnd_stop brakes ended stops, spState_setSp _ (by decide), ?_, ?_, ?_, rfl, rfl⟩ <;> dsimp only
    · rw [setSp_spindle, onSpindle_spindle, loopsOff_spindle]
      rfl
    · rw [setSp_spindle, onSpindle_spindle]
      rfl
    · rw [setSp_mem, onSpindle_mem, loopsOff_mem]
  case brakeAlign =>
    intro s brakes ended aligns
    refine ⟨_, exec_brakingEnd_align brakes ended aligns, ?_, ?_, ?_, ?_, rfl, rfl⟩ <;> dsimp only
    · rw [spState, getF_setF_of_apart _ _ _ (by decide), ← spState, spState_setSp _ (by decide)]
    · rw [setF_spindle, setSp_spindle, onSpindle_spindle]
      rfl
    · rw [setF_spindle, setSp_spindle, onSpindle_spindle]
      rfl
    · rw [setF_mem, setSp_mem, onSpindle_mem]
  case coastStop =>
    intro s coasts quiet done
    refine ⟨_, exec_coastToStopped_stop coasts quiet done, spState_setSp _ (by decide), ?_, ?_, rfl, rfl⟩ <;> dsimp only
    · rw [setSp_spindle, onSpindle_spindle, loopsOff_spindle]
      rfl
    · rw [setSp_mem, onSpindle_mem, loopsOff_mem]
  case coastRetry =>
    intro s coasts quiet again few
    refine ⟨_, exec_coastToStopped_retry coasts quiet again, spState_measure _, ?_, ?_, rfl, rfl⟩ <;> dsimp only
    · rw [measure_getF _ (by decide) (by decide) (by decide), onSpindle_getF, addF, getF_setF_self _ SP_STAT_ATTEMPT _ _ (by decide)]
      exact Nat.mod_eq_of_lt (Nat.succ_lt_succ few)
    · rw [measure_mem, onSpindle_mem, addF_mem]
  case checkQuiet =>
    intro s coasts off due
    refine ⟨_, exec_spindleResetCheck_quiet due coasts off, spState_setSp _ (by decide), ?_, ?_, rfl, rfl⟩ <;> dsimp only
    · rw [setSp_spindle]
      rfl
    · rw [setSp_mem, onSpindle_mem]
  case checkCrossing =>
    intro s due
    exact ⟨_, exec_spindleResetCheck_crossing due, onSpindle_getF _ _ _ _, rfl, rfl, rfl, rfl, rfl⟩
  case wedge =>
    intro s on lost observer loaded available allowed
    refine ⟨_, exec_wedgeFallback_available on lost observer loaded available allowed, ?_, ?_, ?_, wedgeRecorded_spindle _, wedgeRecorded_mem _,
      rfl, rfl⟩ <;> dsimp only
    · rw [wedgeRecorded_getF _ (by decide) (by decide), wedgeTaken_csrc]
    · rw [wedgeRecorded_getF _ (by decide) (by decide), wedgeTaken_wsw]
    · rw [wedgeRecorded_getF _ (by decide) (by decide), wedgeTaken_wcar]
      rfl
  case reCatch =>
    intro l s coasts catching fresh agree given fast
    obtain ⟨angle, ran⟩ := exec_reCatch_seeds coasts catching fresh agree given fast
    refine ⟨_, ran, ?_, seed_getF _ _ _ (by decide), seed_csrc _ _ _, ?_, seed_mem _ _ _, rfl, rfl⟩ <;> dsimp only
    · rw [seed_spindle]
    · rw [seed_spindle]
      rfl
  case reCatchFail =>
    intro l s coasts catching late
    obtain ⟨state, recatch, gates, mem⟩ := catchFailed_shows { s.hw with out := [] }
    refine ⟨_, exec_reCatchFail_late coasts catching late, ?_⟩
    dsimp only
    exact ⟨state, recatch, gates, mem, rfl, rfl⟩
  case ecalStart =>
    intro c s car
    exact ⟨_, exec_ecalStart car s, runBegun_start _ _, runBegun_done _ _, runBegun_count _ _, runBegun_mem _ _, rfl, rfl⟩
  case ecalGood =>
    intro c s car runs full good
    refine ⟨_, exec_ecalEnd_good car runs full good, ?_, runEnded_start _ car, runEnded_irq _, ?_, rfl, rfl⟩ <;> dsimp only
    · rw [runEnded_other _ car rfl (by decide), runFound_done]
    · rw [runEnded_mem, runFound_mem]
  case ecalPoor =>
    intro c s car runs full poor
    refine ⟨_, exec_ecalEnd_poor car runs full poor, ?_, runEnded_start _ car, runEnded_irq _, ?_, rfl, rfl⟩ <;> dsimp only
    · rw [runEnded_other _ car rfl (by decide), runFailed_fail]
    · rw [runEnded_mem, setF_mem]
  case loss12 =>
    intro v12 v5 c s powered before low here
    have present : populated (showBuses { s.hw with out := [] } v12 v5) c = true := (populated_of_pins (showBuses_pins _ _ _) c).trans here
    obtain ⟨noWrite, ploss⟩ := powerLossSignal_carriage _ 1 present
    exact ⟨_, exec_powerLoss_12 powered before low, powerLossSignal_ploss _ _, powerLossSignal_cause _ (by decide), powerLossSignal_flush _ _,
      noWrite, ploss, powerLossSignal_lossHold _ _, (powerLossSignal_mem _ _).trans (showBuses_mem _ _ _), rfl, rfl⟩
  case loss5 =>
    intro v12 v5 s powered before enough low
    exact ⟨_, exec_powerLoss_5 powered before enough low, powerLossSignal_ploss _ _, powerLossSignal_cause _ (by decide),
      powerLossSignal_lossHold _ _, (powerLossSignal_mem _ _).trans (showBuses_mem _ _ _), rfl, rfl⟩
  case holdParked =>
    intro s held parked stays cool state
    obtain ⟨coasts, free, gates, mem⟩ := busLetGo_shows (h := { s.hw with out := [] }) state
    refine ⟨_, exec_holdUpEnd_parked held parked stays cool, ?_⟩
    dsimp only
    exact ⟨coasts, free, gates, mem, rfl, rfl⟩
  case holdFailed =>
    intro s held out slow fresh
    have mild : reaction 0x6320 4 = .record := by decide
    refine ⟨_, exec_holdUpEnd_failed held out slow fresh, ?_, ?_, ?_, rfl, rfl⟩ <;> dsimp only
    · rw [raiseFault_spindle (.inl mild), onSpindle_spindle]
    · rw [raiseFault_spindle (.inl mild), onSpindle_spindle]
      exact held
    · rw [raiseFault_mem, onSpindle_mem]
  case supply =>
    intro c v12 v5 s powered high low lost free runs _ here cool
    exact ⟨_, exec_supplyReturn_returns powered high low lost free runs, supplyBack_ploss _, supplyBack_hu _, supplyBack_irq _,
      supplyBack_noWrite _ here cool, supplyBack_lossHold _, (supplyBack_mem _).trans (showBuses_mem _ _ _), rfl, rfl⟩
  case overcurrent =>
    intro s on twice
    obtain ⟨state, irq, gates, loops, mem⟩ := overcurrentFault_shows { s.hw with out := [] }
    refine ⟨_, exec_overcurrent_twice on twice, ?_⟩
    dsimp only
    exact ⟨state, irq, gates, loops, mem, rfl, rfl⟩
  case overvoltage =>
    intro v12 s powered high
    obtain ⟨gates, loops⟩ := coast_quiet (setF { s.hw with out := [] } SP_VBUS_V12 0 v12)
    refine ⟨_, exec_busOvervoltage_high powered high, ?_, ?_, overvoltageFault_mem _ _, rfl, rfl⟩ <;> dsimp only
    · rw [overvoltageFault_spindle, gates]
    · rw [overvoltageFault_spindle, loops]

end Sys2Proof.Machine
end
section
/-! An admin command of a port: its entry is taken from the admin queue, and nothing of the block but that queue's head moves (R421, R423). -/
namespace Sys2Proof.Machine

/-- A part of the block that does not look at the ports is the same after a change of a port. -/
theorem apply_onPort {α : Type} (π : Hw → α) (blind : ∀ h a b, π { h with portA := a, portB := b } = π h) (h : Hw) (p : Nat) (f : Port → Port) :
    π (onPort h p f) = π h := by
  unfold onPort
  split
  · exact blind h _ h.portB
  · exact blind h h.portA _

/-- The block as an admin command of port `p` finds it: its entry is fetched. -/
def taken (h : Hw) (p : Nat) : Hw := fetched { h with out := [] } p

/-- The submission queues once an entry of the admin queue has been fetched. -/
def headMoved (m : SMap (Option SubQ)) : SMap (Option SubQ) :=
  match oget m 0 with
  | some q => oset m 0 (some { q with head := (q.head + 1) % q.size })
  | none => m

theorem fetched_eq (h : Hw) (p : Nat) : fetched h p = onPort h p (fun x => { x with sqs := headMoved x.sqs }) := (rfl)

theorem apply_fetched {α : Type} (π : Hw → α) (blind : ∀ h a b, π { h with portA := a, portB := b } = π h) (h : Hw) (p : Nat) :
    π (fetched h p) = π h := by
  rw [fetched_eq, apply_onPort π blind]

/-- A part of the block that looks neither at the ports nor at the outputs is the same once an entry is fetched. -/
theorem apply_taken {α : Type} (π : Hw → α) (blind : ∀ h o a b, π { h with out := o, portA := a, portB := b } = π h) (h : Hw) (p : Nat) :
    π (taken h p) = π h :=
  (apply_fetched π (fun h a b => blind h h.out a b) { h with out := [] } p).trans (blind h [] h.portA h.portB)

@[simp] theorem taken_regs (h : Hw) (p : Nat) : (taken h p).regs = h.regs := apply_taken (·.regs) (fun _ _ _ _ => rfl) h p
@[simp] theorem taken_mem (h : Hw) (p : Nat) : (taken h p).mem = h.mem := apply_taken (·.mem) (fun _ _ _ _ => rfl) h p
@[simp] theorem taken_engine (h : Hw) (p : Nat) : (taken h p).engine = h.engine := apply_taken (·.engine) (fun _ _ _ _ => rfl) h p
@[simp] theorem taken_twin (h : Hw) (p : Nat) : (taken h p).twin = h.twin := apply_taken (·.twin) (fun _ _ _ _ => rfl) h p
@[simp] theorem taken_cipher (h : Hw) (p : Nat) : (taken h p).cipher = h.cipher := apply_taken (·.cipher) (fun _ _ _ _ => rfl) h p
@[simp] theorem taken_log (h : Hw) (p : Nat) : (taken h p).log = h.log := apply_taken (·.log) (fun _ _ _ _ => rfl) h p
@[simp] theorem taken_freeCtr (h : Hw) (p : Nat) : (taken h p).freeCtr = h.freeCtr := apply_taken (·.freeCtr) (fun _ _ _ _ => rfl) h p
@[simp] theorem taken_out (h : Hw) (p : Nat) : (taken h p).out = [] := apply_fetched (·.out) (fun _ _ _ => rfl) { h with out := [] } p
@[simp] theorem taken_getF (h : Hw) (p : Nat) (g : Fld) (i : Nat) : getF (taken h p) g i = getF h g i := getF_of_regs (taken_regs h p) g i

theorem port_fetched (h : Hw) (p : Nat) : port (fetched h p) p = { port h p with sqs := headMoved (port h p).sqs } := port_onPort h p _

theorem port_taken (h : Hw) (p : Nat) : port (taken h p) p = { port h p with sqs := headMoved (port h p).sqs } := port_fetched { h with out := [] } p

theorem port_taken_eq_fetched (h : Hw) (p : Nat) : port (taken h p) p = port (fetched h p) p := (port_taken h p).trans (port_fetched h p).symm

theorem ports_taken (h : Hw) (p : Nat) : ports (taken h p) = ports (fetched h p) := by
  unfold taken
  rw [fetched_eq, fetched_eq, onPort, onPort]
  split <;> rfl

/-- Fetching from the admin queue leaves every other submission queue. -/
theorem oget_headMoved {k : Nat} (m : SMap (Option SubQ)) (other : k ≠ 0) : oget (headMoved m) k = oget m k := by
  unfold headMoved
  split
  · exact oget_oset_ne m _ other
  · rfl

/-! An update of one key, under a test that does not hold at that key. -/

section
variable {β : Type} (f : Nat × β → Bool) {k : Nat} (blind : ∀ v, f (k, v) = false)
include blind

theorem any_minsert (m : SMap β) (v : β) : (minsert m k v).any f = m.any f := by
  induction m with
  | nil => simp [minsert, blind]
  | cons q m ih =>
    unfold minsert
    split
    · simp [blind]
    · rw [List.any_cons, List.any_cons, ih]

theorem any_mdel (m : SMap β) : (mdel m k).any f = m.any f := by
  rw [mdel, List.any_filter]
  congr 1
  funext q
  obtain ⟨j, v⟩ := q
  by_cases same : j = k
  · subst same
    rw [blind]
    exact Bool.and_false _
  · simp [same]

theorem any_mset [DecidableEq β] (d : Nat → β) (m : SMap β) (v : β) : (mset d m k v).any f = m.any f := by
  unfold mset
  split
  · exact any_mdel f blind m
  · rw [any_minsert f blind, any_mdel f blind]

end

/-- A test of the I/O submission queues gives the same once an admin entry has been fetched. -/
theorem any_headMoved (f : Nat × Option SubQ → Bool) (blind : ∀ v, f (0, v) = false) (m : SMap (Option SubQ)) : (headMoved m).any f = m.any f := by
  unfold headMoved
  split
  · exact any_mset f blind _ m _
  · rfl

end Sys2Proof.Machine
end

section
/-! The end of an admin command (R423, R454). -/
namespace Sys2Proof.Machine

@[simp] theorem adminDone_regs (h : Hw) (p cid st dw0 : Nat) : (adminDone h p cid st dw0).regs = h.regs := (rfl)
@[simp] theorem adminDone_mem (h : Hw) (p cid st dw0 : Nat) : (adminDone h p cid st dw0).mem = h.mem := (rfl)
@[simp] theorem adminDone_twin (h : Hw) (p cid st dw0 : Nat) : (adminDone h p cid st dw0).twin = h.twin := (rfl)
@[simp] theorem adminDone_out (h : Hw) (p cid st dw0 : Nat) : (adminDone h p cid st dw0).out = h.out := (rfl)
@[simp] theorem adminDone_getF (h : Hw) (p cid st dw0 : Nat) (g : Fld) (i : Nat) : getF (adminDone h p cid st dw0) g i = getF h g i := (rfl)
@[simp] theorem adminDone_posting (h : Hw) (p cid st dw0 : Nat) :
    (adminDone h p cid st dw0).engine.posting = h.engine.posting ++ [(p, 0, cid, 0, st, dw0)] := (rfl)
@[simp] theorem port_adminDone (h : Hw) (p cid st dw0 q : Nat) : port (adminDone h p cid st dw0) q = port h q := (rfl)

/-- An admin command of a ready port acts on the block with its entry fetched, and ends with the status it answers. -/
theorem State.run_admin {p cid st dw0 : Nat} {f : Hw → Hw × Nat × Nat} {s : State} {g : Hw} (up : adminUp s.hw p = true)
    (acts : f (taken s.hw p) = (g, st, dw0)) :
    s.run (fun h => admin h p cid f) = .next { s with hw := adminDone g p cid st dw0 } := by
  have up : adminUp { s.hw with out := [] } p = true := up
  have acts : f (fetched { s.hw with out := [] } p) = (g, st, dw0) := acts
  rw [State.run_eq, admin, if_pos up, acts]

/-- A command that a ready port takes acts on the block as it stands, the outputs of the command before dropped. -/
theorem State.run_up {p : Nat} {f : Hw → Hw} {s : State} {g : Hw} (up : adminUp s.hw p = true) (acts : f { s.hw with out := [] } = g) :
    s.run (fun h => if (!(adminUp h p)) = true then h else f h) = .next { s with hw := g } := by
  have up : adminUp { s.hw with out := [] } p = true := up
  rw [State.run_eq, up, Bool.not_true, if_neg Bool.false_ne_true, acts]

/-- Command `cid` of port `p` has ended with status `st` and dword 0 `dw0`, and no register, memory, Hall or waiting command changed. -/
def AdminEnded (s t : State) (p cid st dw0 : Nat) : Prop :=
  t.hw.engine.posting = s.hw.engine.posting ++ [(p, 0, cid, 0, st, dw0)] ∧ t.hw.regs = s.hw.regs ∧ t.hw.mem = s.hw.mem ∧ t.vault = s.vault ∧
  t.pending = s.pending

theorem AdminEnded.of {s : State} {g : Hw} (p cid st dw0 : Nat) (posting : g.engine.posting = s.hw.engine.posting) (regs : g.regs = s.hw.regs)
    (mem : g.mem = s.hw.mem) : AdminEnded s { s with hw := adminDone g p cid st dw0 } p cid st dw0 :=
  ⟨by rw [adminDone_posting, posting], regs, mem, rfl, rfl⟩

theorem AdminEnded.of_taken (s : State) (p cid st dw0 : Nat) : AdminEnded s { s with hw := adminDone (taken s.hw p) p cid st dw0 } p cid st dw0 :=
  .of p cid st dw0 (by rw [taken_engine]) (taken_regs _ _) (taken_mem _ _)

theorem AdminEnded.of_onPort (s : State) (p cid st dw0 : Nat) (f : Port → Port) :
    AdminEnded s { s with hw := adminDone (onPort (taken s.hw p) p f) p cid st dw0 } p cid st dw0 :=
  .of p cid st dw0 (by rw [onPort_engine, taken_engine]) ((onPort_regs _ _ _).trans (taken_regs _ _)) ((onPort_mem _ _ _).trans (taken_mem _ _))

end Sys2Proof.Machine
end

section
/-! Queues, log pages, Identify, Abort, features and asynchronous events (R421, R423-R425, R429, R458, R460). -/
namespace Sys2Proof.Machine

/-! Queues. -/

theorem exec_createIoCq {p cid qid size vector : Nat} {ien : Bool} {s : State} (up : adminUp s.hw p = true) (low : 1 ≤ qid) (high : qid ≤ 64)
    (free : oget (port s.hw p).cqs qid = none) (two : 2 ≤ size) (most : size ≤ 1024) (vectors : vector ≤ 64) :
    exec (.createIoCq p cid qid size vector ien) s =
      .next { s with
        hw := adminDone (onPort (taken s.hw p) p (fun x =>
          { x with cqs := oset x.cqs qid (some { size := size, vector := vector, ien := ien }) })) p cid 0 0 } := by
  refine State.run_admin up ?_
  rw [if_neg, if_neg, if_neg]
  · omega
  · omega
  · simp only [port_taken, free, Option.isSome_none, Bool.false_eq_true, or_false]
    omega

theorem exec_createIoSq {p cid qid size cqid : Nat} {q : ComQ} {s : State} (up : adminUp s.hw p = true) (low : 1 ≤ qid) (high : qid ≤ 64)
    (free : oget (port s.hw p).sqs qid = none) (two : 2 ≤ size) (most : size ≤ 1024) (io : 1 ≤ cqid) (here : oget (port s.hw p).cqs cqid = some q) :
    exec (.createIoSq p cid qid size cqid) s =
      .next { s with
        hw := adminDone (onPort (taken s.hw p) p (fun x =>
          { x with sqs := oset x.sqs qid (some { cq := cqid, size := size }) })) p cid 0 0 } := by
  refine State.run_admin up ?_
  rw [if_neg, if_neg, if_neg]
  · simp only [port_taken, here, Option.isNone_some, Bool.false_eq_true, or_false]
    omega
  · omega
  · simp only [port_taken, oget_headMoved _ (Nat.ne_of_gt low), free, Option.isSome_none, Bool.false_eq_true, or_false]
    omega

theorem exec_deleteIoSq {p cid qid : Nat} {q : SubQ} {s : State} (up : adminUp s.hw p = true) (low : 1 ≤ qid)
    (here : oget (port s.hw p).sqs qid = some q) (idle : s.hw.engine.cmds = []) :
    exec (.deleteIoSq p cid qid) s =
      .next { s with hw := adminDone (onPort (taken s.hw p) p (fun x => { x with sqs := oset x.sqs qid none })) p cid 0 0 } := by
  refine State.run_admin up ?_
  rw [if_neg]
  · rw [taken_engine, idle]
    rfl
  · simp only [port_taken, oget_headMoved _ (Nat.ne_of_gt low), here, Option.isNone_some, Bool.false_eq_true, or_false]
    omega

/-- A submission queue names completion queue `qid`. -/
def namesCq (qid : Nat) (q : Nat × Option SubQ) : Bool := match q.2 with | some x => x.cq == qid && q.1 != 0 | none => false

theorem namesCq_admin (qid : Nat) (v : Option SubQ) : namesCq qid (0, v) = false := by
  cases v with
  | none => rfl
  | some x => exact Bool.and_false _

theorem exec_deleteIoCq_free {p cid qid : Nat} {q : ComQ} {s : State} (up : adminUp s.hw p = true) (low : 1 ≤ qid)
    (here : oget (port s.hw p).cqs qid = some q) (unused : (port s.hw p).sqs.any (namesCq qid) = false) :
    exec (.deleteIoCq p cid qid) s =
      .next { s with hw := adminDone (onPort (taken s.hw p) p (fun x => { x with cqs := oset x.cqs qid none })) p cid 0 0 } := by
  have unused : (port (taken s.hw p) p).sqs.any (namesCq qid) = false := by
    rw [port_taken]
    exact (any_headMoved _ (namesCq_admin qid) _).trans unused
  refine State.run_admin up ?_
  rw [if_neg, if_neg]
  · exact ne_true_of_eq_false unused
  · simp only [port_taken, here, Option.isNone_some, Bool.false_eq_true, or_false]
    omega

theorem exec_deleteIoCq_named {p cid qid : Nat} {q : ComQ} {s : State} (up : adminUp s.hw p = true) (low : 1 ≤ qid)
    (here : oget (port s.hw p).cqs qid = some q) (used : (port s.hw p).sqs.any (namesCq qid) = true) :
    exec (.deleteIoCq p cid qid) s = .next { s with hw := adminDone (taken s.hw p) p cid 0x10C 0 } := by
  have used : (port (taken s.hw p) p).sqs.any (namesCq qid) = true := by
    rw [port_taken]
    exact (any_headMoved _ (namesCq_admin qid) _).trans used
  refine State.run_admin up ?_
  rw [if_neg, if_pos]
  · exact used
  · simp only [port_taken, here, Option.isNone_some, Bool.false_eq_true, or_false]
    omega

/-! Log pages and Identify. -/

@[simp] theorem attachedTo_taken (h : Hw) (p q : Nat) : attachedTo (taken h p) q = attachedTo h q :=
  apply_taken (attachedTo · q) (fun _ _ _ _ => rfl) h p

@[simp] theorem spacesIn_taken (h : Hw) (p : Nat) : spacesIn (taken h p) = spacesIn h := apply_taken spacesIn (fun _ _ _ _ => rfl) h p

theorem exec_getLogPage_refused {p cid lid nsid off len st : Nat} {s : State} (up : adminUp s.hw p = true)
    (refused : logPage (taken s.hw p) p lid nsid off = .inl st) :
    exec (.getLogPage p cid lid nsid off len) s = .next { s with hw := adminDone (taken s.hw p) p cid st 0 } := by
  refine State.run_admin up ?_
  rw [refused]

theorem exec_getLogPage_answers {p cid lid nsid off len : Nat} {g : Hw} {page : List (BitVec 8)} {s : State} (up : adminUp s.hw p = true)
    (answers : logPage (taken s.hw p) p lid nsid off = .inr (g, page)) (long : off ≤ page.length) :
    exec (.getLogPage p cid lid nsid off len) s =
      .next { s with hw := adminDone (drawn (emit g (.page p ((page.drop off).take len)))) p cid 0 0 } := by
  refine State.run_admin up ?_
  rw [answers]
  exact if_neg (Nat.not_lt.mpr long)

theorem logPage_ledger {h : Hw} {p nsid : Nat} (low : 1 ≤ nsid) (high : nsid ≤ 128) (mine : (attachedTo h p).contains nsid = true) :
    logPage h p 0xC0 nsid 0 = .inr (h, ledgerPage h nsid (lget h.cipher.history nsid)) := by
  have fits : ¬ (nsid = 0 ∨ nsid = 0xFFFFFFFF ∨ 0 % 4 ≠ 0) := by omega
  rw [logPage, if_neg (by decide), if_neg (by decide), if_neg (by decide), if_neg (by decide), if_neg (by decide), if_neg (by decide),
    if_neg (by decide), if_pos rfl, if_neg fits, mine]
  rfl

/-- The first bytes of a ledger page are its version (R429). -/
theorem ledgerPage_take (h : Hw) (n : Nat) (l : List Minute) : (ledgerPage h n l).take 4 = leBytes 2 1 ++ zeros 2 := by
  simp only [ledgerPage, padTo, List.append_assoc, List.take_take]
  rfl

theorem exec_identify {p cid cns nsid cntid : Nat} {s : State} (up : adminUp s.hw p = true) :
    (∀ st, identifyPage (taken s.hw p) p cns nsid cntid = .inl st →
      exec (.identify p cid cns nsid cntid) s = .next { s with hw := adminDone (taken s.hw p) p cid st 0 }) ∧
    (∀ page, identifyPage (taken s.hw p) p cns nsid cntid = .inr page →
      exec (.identify p cid cns nsid cntid) s = .next { s with hw := adminDone (drawn (emit (taken s.hw p) (.page p page))) p cid 0 0 }) :=
  ⟨fun _ refused => State.run_admin up (by rw [refused]), fun _ answers => State.run_admin up (by rw [answers]; rfl)⟩

/-! Abort. -/

/-- The test by which an Abort of port `p` finds command `tcid` of queue `sq` (R458). -/
def abortTarget (p sq tcid : Nat) (c : Cmd) : Bool :=
  c.source == .host && c.port == p && c.sq == sq && c.cid == tcid && c.committed.isNone && !c.noPost

/-- What an Abort does once it has looked for its target. -/
def abortFound (h : Hw) (p cid sq tcid : Nat) : Option Cmd → Hw
  | none => adminDone (countEngine h 3 1) p cid 0 1
  | some c =>
    let h := onPort h p (fun x => { x with aborts := x.aborts ++ [(cid, sq, tcid)] })
    if c.pieces.any (fun q => q.sent) then onCmd h c.slot (fun c => { c with abortHeld := true }) else stopCmd (countEngine h 2 1) c.slot

/-- Below the limit of four, an Abort of an I/O command looks for its target among the commands in flight. -/
theorem exec_abort {p cid sq tcid : Nat} {s : State} (up : adminUp s.hw p = true) (few : (port s.hw p).aborts.length < 4) (io : sq ≠ 0) :
    exec (.abort p cid sq tcid) s =
      .next { s with hw := abortFound (taken s.hw p) p cid sq tcid (s.hw.engine.cmds.find? (abortTarget p sq tcid)) } := by
  have few : ¬ 4 ≤ (port (taken s.hw p) p).aborts.length := by rw [port_taken]; exact Nat.not_le.mpr few
  have none : ¬ (sq = 0 ∧ (port (taken s.hw p) p).aers.contains tcid = true) := fun h => io h.1
  rw [← taken_engine s.hw p]
  change execAbort p cid sq tcid s = _
  unfold execAbort
  refine State.run_up up ?_
  exact (if_neg few).trans (if_neg none)

theorem abortFound_unsent {c : Cmd} (h : Hw) (p cid sq tcid : Nat) (unsent : c.pieces.any (fun q => q.sent) = false) :
    abortFound h p cid sq tcid (some c) =
      stopCmd (countEngine (onPort h p (fun x => { x with aborts := x.aborts ++ [(cid, sq, tcid)] })) 2 1) c.slot :=
  if_neg (ne_true_of_eq_false unsent)

@[simp] theorem countEngine_regs (h : Hw) (k n : Nat) : (countEngine h k n).regs = h.regs := (rfl)
@[simp] theorem countEngine_mem (h : Hw) (k n : Nat) : (countEngine h k n).mem = h.mem := (rfl)
@[simp] theorem countEngine_posting (h : Hw) (k n : Nat) : (countEngine h k n).engine.posting = h.engine.posting := (rfl)
@[simp] theorem countEngine_cmds (h : Hw) (k n : Nat) : (countEngine h k n).engine.cmds = h.engine.cmds := (rfl)
@[simp] theorem countEngine_counters (h : Hw) (k n : Nat) :
    zget (countEngine h k n).engine.counters k = (zget h.engine.counters k + n) % 2 ^ 32 := zget_zset _ _ _
@[simp] theorem ports_countEngine (h : Hw) (k n : Nat) : ports (countEngine h k n) = ports h := (rfl)

/-! Commands in flight: a change of the command of a slot, when it is the only one. -/

@[simp] theorem onCmd_regs (h : Hw) (slot : Nat) (f : Cmd → Cmd) : (onCmd h slot f).regs = h.regs := (rfl)
@[simp] theorem onCmd_mem (h : Hw) (slot : Nat) (f : Cmd → Cmd) : (onCmd h slot f).mem = h.mem := (rfl)

theorem onCmd_alone {h : Hw} {x : Cmd} (alone : h.engine.cmds = [x]) (f : Cmd → Cmd) : (onCmd h x.slot f).engine.cmds = [f x] := by
  simp [onCmd, alone]

theorem cmdAt_alone {h : Hw} {x : Cmd} (alone : h.engine.cmds = [x]) : cmdAt h x.slot = some x := by
  simp [cmdAt, alone]

/-- An undecided command takes the status that it ends with. -/
theorem fail_alone {h : Hw} {x : Cmd} (alone : h.engine.cmds = [x]) (undecided : x.verdict = none) (kept : x.committed = none) (st : Nat) :
    (fail h x.slot st).engine.cmds = [{ x with verdict := some st }] := by
  rw [fail, onCmd_alone alone, undecided, kept]
  rfl

@[simp] theorem fail_regs (h : Hw) (slot st : Nat) : (fail h slot st).regs = h.regs := (rfl)
@[simp] theorem fail_mem (h : Hw) (slot st : Nat) : (fail h slot st).mem = h.mem := (rfl)
@[simp] theorem fail_spaces (h : Hw) (slot st : Nat) : (fail h slot st).engine.spaces = h.engine.spaces := (rfl)
@[simp] theorem fail_out (h : Hw) (slot st : Nat) : (fail h slot st).out = h.out := (rfl)

/-- An Abort leaves of an undecided command what of its pieces is pushed or done (R460). -/
theorem stopCmd_alone {h : Hw} {x : Cmd} (alone : h.engine.cmds = [x]) (undecided : x.verdict = none) (kept : x.committed = none) :
    (stopCmd h x.slot).engine.cmds =
      [{ x with verdict := some stAborted, pieces := x.pieces.filter (fun p => p.pushed || p.st == .done), stage := .ready }] :=
  onCmd_alone (fail_alone alone undecided kept stAborted) _

@[simp] theorem stopCmd_regs (h : Hw) (slot : Nat) : (stopCmd h slot).regs = h.regs := (rfl)
@[simp] theorem stopCmd_mem (h : Hw) (slot : Nat) : (stopCmd h slot).mem = h.mem := (rfl)
@[simp] theorem stopCmd_posting (h : Hw) (slot : Nat) : (stopCmd h slot).engine.posting = h.engine.posting := (rfl)
@[simp] theorem stopCmd_counters (h : Hw) (slot : Nat) : (stopCmd h slot).engine.counters = h.engine.counters := (rfl)
@[simp] theorem ports_stopCmd (h : Hw) (slot : Nat) : ports (stopCmd h slot) = ports h := (rfl)

/-! Features. -/

/-- The features of a controller with the value of one of them set. -/
def featureSet (p key value : Nat) (h : Hw) : Hw := onPort h p (fun x => { x with features := mset featureDefault x.features key value })

theorem featureSet_features (p key value : Nat) (h : Hw) :
    mget featureDefault (port (featureSet p key value (taken h p)) p).features key = value ∧
    ∀ k, k ≠ key → mget featureDefault (port (featureSet p key value (taken h p)) p).features k = mget featureDefault (port h p).features k := by
  rw [featureSet, port_onPort, port_taken]
  exact ⟨mget_mset_self _ _ _ _, fun k other => mget_mset_ne _ _ _ other⟩

@[simp] theorem space_taken (h : Hw) (p n : Nat) : space (taken h p) n = space h n := apply_taken (space · n) (fun _ _ _ _ => rfl) h p

/-- A feature whose value is kept as it comes: no special meaning, and for error recovery a namespace of its own, for vectors one that
exists (R424). -/
theorem exec_setFeatures_keeps {p cid fid nsid value : Nat} {s : State} (up : adminUp s.hw p = true)
    (known : fid ∈ [0x01, 0x04, 0x05, 0x08, 0x09, 0x0A, 0x0B, 0x81, 0x82])
    (recovery : fid = 0x05 → (space s.hw nsid).size ≠ 0 ∧ nsid ≠ 0xFFFFFFFF) (vectors : fid = 0x09 → value % 2 ^ 16 ≤ 65) :
    exec (.setFeatures p cid fid nsid value []) s =
      .next { s with hw := adminDone (featureSet p (featureKey fid nsid value) value (taken s.hw p)) p cid 0 0 } := by
  have listed : featureIds.contains fid = true ∧ fid ≠ 0x02 ∧ fid ≠ 0x07 ∧ fid ≠ 0x0C ∧ fid ≠ 0x0E ∧ fid ≠ 0x83 := by
    clear recovery vectors
    revert fid
    decide
  obtain ⟨listed, ps, queues, transitions, time, persist⟩ := listed
  have single : (if fid = 0x05 then (recoveryOf nsid).map (fun n => featureKey fid n value) else [featureKey fid nsid value]) =
      [featureKey fid nsid value] := by
    split
    case isTrue is5 => rw [recoveryOf, if_neg (recovery is5).2]; rfl
    case isFalse => rfl
  have noSpace : ¬ (fid = 0x05 ∧ (nsid ≠ 0xFFFFFFFF ∧ (space (taken s.hw p) nsid).size = 0)) := by
    rw [space_taken]
    exact fun h => (recovery h.1).1 h.2.2
  have noVector : ¬ (fid = 0x09 ∧ 65 < value % 2 ^ 16) := fun h => absurd h.2 (Nat.not_lt.mpr (vectors h.1))
  refine State.run_admin up ?_
  rw [listed, Bool.not_true, if_neg Bool.false_ne_true, if_neg ps, if_neg queues, if_neg transitions, if_neg time, if_neg persist, if_neg noSpace,
    if_neg noVector, single]
  rfl

theorem exec_setFeatures_power {p cid nsid value : Nat} {s : State} (up : adminUp s.hw p = true) (state : value % 32 ≤ 4) :
    exec (.setFeatures p cid 0x02 nsid value []) s = .next { s with
      hw := adminDone (onPort (taken s.hw p) p (fun x =>
        { x with ps := value % 32, lastOp := if value % 32 < 3 then value % 32 else x.lastOp })) p cid 0 0 } :=
  State.run_admin up (if_neg (Nat.not_lt.mpr state))

theorem exec_setFeatures_unknown {p cid fid nsid value : Nat} {l : List Nat} {s : State} (up : adminUp s.hw p = true)
    (unknown : featureIds.contains fid = false) :
    exec (.setFeatures p cid fid nsid value l) s = .next { s with hw := adminDone (taken s.hw p) p cid stField 0 } :=
  State.run_admin up (by rw [unknown]; rfl)

theorem exec_getFeatures {p cid fid nsid sel : Nat} {s : State} (up : adminUp s.hw p = true) (known : featureIds.contains fid = true)
    (described : sel ≤ 1) :
    exec (.getFeatures p cid fid nsid sel) s = .next { s with
      hw := adminDone (taken s.hw p) p cid 0
        (if sel = 1 then defaultFeature (taken s.hw p) (featureKey fid nsid nsid) else featureValue (taken s.hw p) p fid nsid) } := by
  have fits : ¬ ((!(featureIds.contains fid)) = true ∨ 1 < sel) := by
    rw [known]
    simpa using described
  exact State.run_admin up (if_neg fits)

theorem defaultFeature_taken (h : Hw) (p key : Nat) : defaultFeature (taken h p) key = defaultFeature h key :=
  apply_taken (defaultFeature · key) (fun _ _ _ _ => rfl) h p

/-- The present value of a feature that its key alone tells. -/
theorem featureValue_taken {h : Hw} {p fid nsid : Nat} (plain : fid ∈ [0x01, 0x05, 0x08, 0x09, 0x0A, 0x0B, 0x0C, 0x81, 0x82]) :
    featureValue (taken h p) p fid nsid = mget featureDefault (port h p).features (featureKey fid nsid nsid) := by
  have apart : fid ≠ 0x02 ∧ fid ≠ 0x07 ∧ fid ≠ 0x83 ∧ fid ≠ 0x0E ∧ fid ≠ 0x04 ∧ fid < 0x400 := by
    revert fid
    decide
  obtain ⟨ps, queues, persist, time, thresholds, small⟩ := apart
  have key : ¬ (featureKey fid nsid nsid = 0x400 ∨ featureKey fid nsid nsid = 0x410) := by
    unfold featureKey
    split_ifs <;> omega
  rw [featureValue, if_neg ps, if_neg queues, if_neg persist, if_neg time, heldFeature, port_taken, if_neg (fun h => key h.2)]

/-! Asynchronous events. -/

/-- What becomes of an Asynchronous Event Request below the limit of eight: the oldest event answers it, or it waits. -/
def aerTaken (h : Hw) (p cid : Nat) : Hw :=
  match (port h p).events with
  | e :: l => adminDone (onPort h p (fun x => { x with events := l })) p cid 0 e
  | [] => onPort h p (fun x => { x with aers := x.aers ++ [cid] })

theorem exec_asynchronousEventRequest {p cid : Nat} {s : State} (up : adminUp s.hw p = true) :
    exec (.asynchronousEventRequest p cid) s = .next { s with
      hw := if 8 ≤ (port (taken s.hw p) p).aers.length then adminDone (taken s.hw p) p cid 0x105 0 else aerTaken (taken s.hw p) p cid } := by
  change execAsynchronousEventRequest p cid s = _
  unfold execAsynchronousEventRequest
  exact State.run_up up rfl

theorem aerTaken_none {h : Hw} {p : Nat} (cid : Nat) (none : (port h p).events = []) :
    aerTaken h p cid = onPort h p (fun x => { x with aers := x.aers ++ [cid] }) := by
  rw [aerTaken, none]

theorem aerTaken_some {h : Hw} {p e : Nat} {l : List Nat} (cid : Nat) (waits : (port h p).events = e :: l) :
    aerTaken h p cid = adminDone (onPort h p (fun x => { x with events := l })) p cid 0 e := by
  rw [aerTaken, waits]

/-- Settles O19: each command takes the branch of its meaning that its hypotheses leave, and what it answers and leaves is read off that
branch. -/
theorem adminCommandsComplete : Obligations.AdminCommandsComplete := by
  refine ⟨?createCq, ?createSq, ?deleteSq, ?deleteCq, ?deleteNamedCq, ?ledgerPage, ?smartOfOne, ?identifyList, ?identifyNone, ?abortMiss, ?abortHit,
    ?setPlain, ?setRecovery, ?setVector, ?setPower, ?setUnknown, ?getDefault, ?getPresent, ?aerNinth, ?aerWaits, ?aerAnswered⟩
  case createCq =>
    intro p cid qid size vector ien s up low high free two most vectors
    refine ⟨_, exec_createIoCq up low high free two most vectors, ?_, ?_, ?_, AdminEnded.of_onPort s p cid 0 0 _⟩ <;>
      simp only [port_adminDone, port_onPort, port_taken, port_fetched, oget_oset]
    exact fun k other => oget_oset_ne _ _ other
  case createSq =>
    intro p cid qid size cqid q s up low high free two most io here
    refine ⟨_, exec_createIoSq up low high free two most io here, ?_, ?_, ?_, AdminEnded.of_onPort s p cid 0 0 _⟩ <;>
      simp only [port_adminDone, port_onPort, port_taken, port_fetched, oget_oset]
    exact fun k other => oget_oset_ne _ _ other
  case deleteSq =>
    intro p cid qid q s up low here idle
    refine ⟨_, exec_deleteIoSq up low here idle, ?_, ?_, AdminEnded.of_onPort s p cid 0 0 _⟩ <;>
      simp only [port_adminDone, port_onPort, port_taken, oget_oset]
  case deleteCq =>
    intro p cid qid q s up low here unused
    refine ⟨_, exec_deleteIoCq_free up low here unused, ?_, ?_, AdminEnded.of_onPort s p cid 0 0 _⟩ <;>
      simp only [port_adminDone, port_onPort, port_taken, port_fetched, oget_oset]
  case deleteNamedCq =>
    intro p cid qid q s up low here used
    exact ⟨_, exec_deleteIoCq_named up low here used, port_taken_eq_fetched _ _, AdminEnded.of_taken s p cid 0x10C 0⟩
  case ledgerPage =>
    intro p cid nsid s up low high mine none
    have mine : (attachedTo (taken s.hw p) p).contains nsid = true := by rw [attachedTo_taken, mine]
    refine ⟨_, exec_getLogPage_answers up (logPage_ledger low high mine) (Nat.zero_le _), ?_,
      AdminEnded.of p cid 0 0 (by rw [drawn_engine, emit_engine, taken_engine]) (taken_regs _ _) (taken_mem _ _)⟩
    simp only [adminDone_out, drawn_out, emit_out, taken_out, List.drop_zero, ledgerPage_take, List.nil_append]
  case smartOfOne =>
    intro p cid nsid off len s up one
    have ports : ports (adminDone (taken s.hw p) p cid stField 0) = ports (fetched s.hw p) := ports_taken s.hw p
    obtain ⟨posting, rest⟩ := AdminEnded.of_taken s p cid stField 0
    exact ⟨_, exec_getLogPage_refused up (if_pos one), taken_out _ _, posting, congrArg Prod.fst ports, congrArg Prod.snd ports, rest⟩
  case identifyList =>
    intro p cid s up empty
    have list : identifyPage (taken s.hw p) p 0x10 0 0 = .inr (spaceList (spacesIn s.hw) 0) := by rw [← spacesIn_taken s.hw p]; rfl
    have none : spacesIn s.hw = [] := by rw [spacesIn, empty]; rfl
    refine ⟨_, (exec_identify up).2 _ list, ?_,
      AdminEnded.of p cid 0 0 (by rw [drawn_engine, emit_engine, taken_engine]) (taken_regs _ _) (taken_mem _ _)⟩
    rw [adminDone_out, drawn_out, emit_out, taken_out, none]
    rfl
  case identifyNone =>
    intro p cid nsid s up bad
    have refused : identifyPage (taken s.hw p) p 0x00 nsid 0 = .inl stNamespace := by
      rw [identifyPage, if_pos (Or.inl rfl), if_pos (by omega)]
    exact ⟨_, (exec_identify up).1 _ refused, taken_out _ _, AdminEnded.of_taken s p cid stNamespace 0⟩
  case abortMiss =>
    intro p cid sq tcid s up few io idle
    have ports : ports (adminDone (countEngine (taken s.hw p) 3 1) p cid 0 1) = ports (fetched s.hw p) := ports_taken s.hw p
    refine ⟨_, exec_abort up few io, ?_⟩
    rw [idle, List.find?_nil]
    refine ⟨?_, ?_, congrArg Prod.fst ports, congrArg Prod.snd ports, taken_regs _ _, taken_mem _ _, rfl, rfl⟩
    · rw [abortFound, adminDone_posting, countEngine_posting, taken_engine]
    · exact (countEngine_counters _ _ _).trans (by rw [taken_engine])
  case abortHit =>
    intro p cid sq tcid x s up few io alone host ofPort ofQueue ofCid kept posts undecided none
    have hit : abortTarget p sq tcid x = true := by simp [abortTarget, host, ofPort, ofQueue, ofCid, kept, posts]
    have found : s.hw.engine.cmds.find? (abortTarget p sq tcid) = some x := by rw [alone, List.find?_cons_of_pos hit]
    refine ⟨_, exec_abort up few io, ?_⟩
    rw [found, abortFound_unsent _ _ _ _ _ (by rw [none, List.any_nil])]
    refine ⟨?_, ?_, ?_, ?_, ?_, ?_, rfl, rfl⟩
    · rw [stopCmd_alone (by rw [countEngine_cmds, onPort_engine, taken_engine, alone]) undecided kept, none]
      rfl
    · rw [port_of_ports (ports_stopCmd _ _), port_of_ports (ports_countEngine _ _ _), port_onPort, port_taken]
    · rw [stopCmd_counters, countEngine_counters, onPort_engine, taken_engine]
    · rw [stopCmd_posting, countEngine_posting, onPort_engine, taken_engine]
    · rw [stopCmd_regs, countEngine_regs, onPort_regs, taken_regs]
    · rw [stopCmd_mem, countEngine_mem, onPort_mem, taken_mem]
  case setPlain =>
    intro p cid fid nsid value s up plain
    have key : fid ∈ [0x01, 0x04, 0x05, 0x08, 0x09, 0x0A, 0x0B, 0x81, 0x82] ∧ fid ≠ 0x05 ∧ fid ≠ 0x09 ∧ featureKey fid nsid value = fid := by
      revert fid
      simp [featureKey]
    obtain ⟨known, notRecovery, notVector, key⟩ := key
    obtain ⟨set, rest⟩ := featureSet_features p (featureKey fid nsid value) value s.hw
    rw [key] at set rest
    refine ⟨_, exec_setFeatures_keeps up known (fun h => absurd h notRecovery) (fun h => absurd h notVector), ?_⟩
    rw [key]
    exact ⟨set, rest, AdminEnded.of_onPort s p cid 0 0 _⟩
  case setRecovery =>
    intro p cid nsid value s up here one
    obtain ⟨set, rest⟩ := featureSet_features p (featureKey 0x05 nsid value) value s.hw
    exact ⟨_, exec_setFeatures_keeps up (by decide) (fun _ => ⟨here, one⟩) (fun h => absurd h (by decide)), set, rest, AdminEnded.of_onPort s p cid 0 0 _⟩
  case setVector =>
    intro p cid nsid value s up vectors
    obtain ⟨set, rest⟩ := featureSet_features p (featureKey 0x09 nsid value) value s.hw
    exact ⟨_, exec_setFeatures_keeps up (by decide) (fun h => absurd h (by decide)) (fun _ => vectors), set, rest, AdminEnded.of_onPort s p cid 0 0 _⟩
  case setPower =>
    intro p cid nsid value s up state
    refine ⟨_, exec_setFeatures_power up state, ?_, ?_, AdminEnded.of_onPort s p cid 0 0 _⟩ <;>
      simp only [port_adminDone, port_onPort, port_taken]
  case setUnknown =>
    intro p cid fid nsid value l s up unknown
    exact ⟨_, exec_setFeatures_unknown up unknown, port_taken_eq_fetched _ _, AdminEnded.of_taken s p cid stField 0⟩
  case getDefault =>
    intro p cid fid nsid s up known
    refine ⟨_, exec_getFeatures up known (Nat.le_refl 1), port_taken_eq_fetched _ _, ?_⟩
    rw [if_pos rfl, defaultFeature_taken]
    exact AdminEnded.of_taken s p cid 0 _
  case getPresent =>
    intro p cid fid nsid s up plain
    have known : featureIds.contains fid = true := by
      revert fid
      decide
    refine ⟨_, exec_getFeatures up known (Nat.zero_le 1), port_taken_eq_fetched _ _, ?_⟩
    rw [if_neg (by decide), featureValue_taken plain]
    exact AdminEnded.of_taken s p cid 0 _
  case aerNinth =>
    intro p cid s up full
    refine ⟨_, exec_asynchronousEventRequest up, ?_⟩
    rw [if_pos (by rw [port_taken]; exact full)]
    exact ⟨port_taken_eq_fetched _ _, AdminEnded.of_taken s p cid 0x105 0⟩
  case aerWaits =>
    intro p cid s up few none
    refine ⟨_, exec_asynchronousEventRequest up, ?_⟩
    rw [if_neg (by rw [port_taken]; exact Nat.not_le.mpr few), aerTaken_none cid (by rw [port_taken]; exact none), port_onPort, port_taken, onPort_engine,
      onPort_regs, onPort_mem, taken_engine, taken_regs, taken_mem]
    exact ⟨rfl, rfl, rfl, rfl, rfl, rfl⟩
  case aerAnswered =>
    intro p cid e l s up few waits
    refine ⟨_, exec_asynchronousEventRequest up, ?_⟩
    rw [if_neg (by rw [port_taken]; exact Nat.not_le.mpr few), aerTaken_some cid (by rw [port_taken]; exact waits)]
    refine ⟨?_, ?_, AdminEnded.of_onPort s p cid 0 e _⟩ <;> simp only [port_adminDone, port_onPort, port_taken]

end Sys2Proof.Machine
end
section
/-! Sparse maps under a run of changes, the extent map under one change (R442), and namespaces. -/
namespace Sys2Proof.Machine

/-- An entry that does not hold the default is listed. -/
theorem mem_of_mget_ne {β : Type} {d : Nat → β} {m : SMap β} {k : Nat} (set : mget d m k ≠ d k) : (k, mget d m k) ∈ m := by
  induction m with
  | nil => exact absurd rfl set
  | cons q m ih =>
    obtain ⟨a, v⟩ := q
    rw [mget_cons] at set ⊢
    by_cases same : a = k
    · rw [if_pos same, same]
      exact List.mem_cons_self
    · rw [if_neg same] at set ⊢
      exact List.mem_cons_of_mem _ (ih set)

/-- A run of changes, each of one key, leaves every key it does not name. -/
theorem mget_foldl_mset_of_notMem {β : Type} [DecidableEq β] {d : Nat → β} (f : β → β) {l : List Nat} {k : Nat} (other : k ∉ l) (m : SMap β) :
    mget d (l.foldl (fun m e => mset d m e (f (mget d m e))) m) k = mget d m k := by
  induction l generalizing m with
  | nil => rfl
  | cons e l ih =>
    obtain ⟨apart, rest⟩ := not_or.mp (mt List.mem_cons.mpr other)
    rw [List.foldl_cons, ih rest, mget_mset_ne _ _ _ apart]

/-- A key that the run names ends with a value that the change made. -/
theorem mget_foldl_mset_of_mem {β : Type} [DecidableEq β] {d : Nat → β} (f : β → β) {l : List Nat} {k : Nat} (named : k ∈ l) (m : SMap β) :
    ∃ x, mget d (l.foldl (fun m e => mset d m e (f (mget d m e))) m) k = f x := by
  induction l generalizing m with
  | nil => exact absurd named List.not_mem_nil
  | cons e l ih =>
    rw [List.foldl_cons]
    by_cases later : k ∈ l
    · exact ih later _
    · obtain rfl : k = e := (List.mem_cons.mp named).resolve_right later
      rw [mget_foldl_mset_of_notMem f later, mget_mset_self]
      exact ⟨_, rfl⟩

/-! The extent map. -/

@[simp] theorem changeExtents_regs (h : Hw) (es : List Nat) (f : Extent → Extent) : (changeExtents h es f).regs = h.regs := by
  unfold changeExtents; split <;> rfl
@[simp] theorem changeExtents_mem (h : Hw) (es : List Nat) (f : Extent → Extent) : (changeExtents h es f).mem = h.mem := by
  unfold changeExtents; split <;> rfl
@[simp] theorem changeExtents_twin (h : Hw) (es : List Nat) (f : Extent → Extent) : (changeExtents h es f).twin = h.twin := by
  unfold changeExtents; split <;> rfl
@[simp] theorem changeExtents_spaces (h : Hw) (es : List Nat) (f : Extent → Extent) :
    (changeExtents h es f).engine.spaces = h.engine.spaces := by
  unfold changeExtents; split <;> rfl
@[simp] theorem ports_changeExtents (h : Hw) (es : List Nat) (f : Extent → Extent) : ports (changeExtents h es f) = ports h := by
  unfold changeExtents; split <;> rfl

theorem extent_changeExtents_of_notMem {es : List Nat} {e : Nat} (h : Hw) (f : Extent → Extent) (other : e ∉ es) :
    extent (changeExtents h es f) e = extent h e := by
  unfold changeExtents
  split
  · rfl
  · exact mget_foldl_mset_of_notMem (fun x => { f x with mseq := h.engine.mapSeq + 1 }) other _

theorem extent_changeExtents_of_mem {es : List Nat} {e : Nat} (h : Hw) (f : Extent → Extent) (named : e ∈ es) :
    ∃ x, extent (changeExtents h es f) e = { f x with mseq := h.engine.mapSeq + 1 } := by
  unfold changeExtents
  split
  · next empty => exact absurd named (by rw [List.isEmpty_iff.mp empty]; exact List.not_mem_nil)
  · exact mget_foldl_mset_of_mem (fun x => { f x with mseq := h.engine.mapSeq + 1 }) named _

/-- An entry that a test picks out is one of the entries picked from the map, when the test fails for an entry without a band. -/
theorem mem_extents_of {h : Hw} {e : Nat} {pick : Nat × Extent → Bool} (hit : pick (e, extent h e) = true) (none : pick (e, {}) = false) :
    e ∈ (h.engine.extents.filter pick).map (fun p => p.1) := by
  have listed : (e, extent h e) ∈ h.engine.extents := mem_of_mget_ne (fun same => by
    rw [show extent h e = {} from same, none] at hit
    exact Bool.false_ne_true hit)
  exact List.mem_map.mpr ⟨_, List.mem_filter.mpr ⟨listed, hit⟩, rfl⟩

/-- Once a change takes every entry of namespace `n` out of it, no entry is in it. -/
theorem nsid_changeExtents_entriesIn {h : Hw} {n e : Nat} (f : Extent → Extent) (out : ∀ x, (f x).nsid = 0)
    (mine : (extent (changeExtents h (entriesIn h n) f) e).nsid = n) : n = 0 := by
  by_cases named : e ∈ entriesIn h n
  · obtain ⟨x, gone⟩ := extent_changeExtents_of_mem h f named
    rw [gone] at mine
    exact mine.symm.trans (out x)
  · rw [extent_changeExtents_of_notMem h f named] at mine
    by_contra live
    refine named (mem_extents_of (beq_iff_eq.mpr mine) ?_)
    exact beq_false_of_ne (fun zero => live zero.symm)

/-! Namespaces. -/

theorem space_onSpace (h : Hw) (n : Nat) (f : Nspace → Nspace) : space (onSpace h n f) n = f (space h n) := mget_mset_self _ _ _ _
theorem space_onSpace_ne (h : Hw) {n k : Nat} (f : Nspace → Nspace) (other : k ≠ n) : space (onSpace h n f) k = space h k := mget_mset_ne _ _ _ other
@[simp] theorem onSpace_regs (h : Hw) (n : Nat) (f : Nspace → Nspace) : (onSpace h n f).regs = h.regs := (rfl)
@[simp] theorem onSpace_mem (h : Hw) (n : Nat) (f : Nspace → Nspace) : (onSpace h n f).mem = h.mem := (rfl)
@[simp] theorem onSpace_posting (h : Hw) (n : Nat) (f : Nspace → Nspace) : (onSpace h n f).engine.posting = h.engine.posting := (rfl)
@[simp] theorem mirrors_onSpace (h : Hw) (n : Nat) (f : Nspace → Nspace) : mirrors (onSpace h n f) = mirrors h := (rfl)

theorem mirrorState_alone {h : Hw} (alone : mirrors h = false) (n op : Nat) (args : List Nat) : mirrorState h n op args = h := by
  rw [mirrorState, alone, if_neg Bool.false_ne_true]

/-- With no other controller ready, a change of a namespace is told to none. -/
theorem spaceChanged_alone {h : Hw} {p : Nat} (n : Nat) (two : p < 2) (a : (port h 0).rdy = false ∨ p = 0) (b : (port h 1).rdy = false ∨ p ≠ 0) :
    spaceChanged h p n = h := by
  have quiet : ∀ q ∈ [0, 1], q = p ∨ (!(port h q).rdy) = true := by
    simp only [List.mem_cons, List.not_mem_nil, or_false, forall_eq_or_imp, forall_eq, Bool.not_eq_true']
    constructor
    · exact a.symm.imp_left Eq.symm
    · exact b.symm.imp_left (fun other => by omega)
  rw [spaceChanged, List.foldl_cons, if_pos (quiet 0 (by decide)), List.foldl_cons, if_pos (quiet 1 (by decide)), List.foldl_nil]

/-! What an admin command that changes namespaces looks at. -/

@[simp] theorem standby_taken (h : Hw) (p : Nat) : standby (taken h p) = standby h := apply_taken standby (fun _ _ _ _ => rfl) h p
@[simp] theorem operStatus_taken (h : Hw) (p : Nat) : operStatus (taken h p) = operStatus h := apply_taken operStatus (fun _ _ _ _ => rfl) h p
@[simp] theorem mirrors_taken (h : Hw) (p : Nat) : mirrors (taken h p) = mirrors h := apply_taken mirrors (fun _ _ _ _ => rfl) h p
@[simp] theorem freeNsid_taken (h : Hw) (p : Nat) : freeNsid (taken h p) = freeNsid h := apply_taken freeNsid (fun _ _ _ _ => rfl) h p
@[simp] theorem dualPort_taken (h : Hw) (p : Nat) : dualPort (taken h p) = dualPort h := apply_taken dualPort (fun _ _ _ _ => rfl) h p
@[simp] theorem entriesIn_taken (h : Hw) (p n : Nat) : entriesIn (taken h p) n = entriesIn h n :=
  apply_taken (entriesIn · n) (fun _ _ _ _ => rfl) h p
@[simp] theorem entryFenced_taken (h : Hw) (p e : Nat) : entryFenced (taken h p) e = entryFenced h e :=
  apply_taken (entryFenced · e) (fun _ _ _ _ => rfl) h p

@[simp] theorem bandsFor_taken (h : Hw) (p n k i : Nat) (m : SMap Extent) : bandsFor (taken h p) n k i m = bandsFor h n k i m := by
  induction k generalizing i m with
  | zero => rfl
  | succ k ih =>
    have same : bandFor (taken h p) m n i = bandFor h m n i := apply_taken (bandFor · m n i) (fun _ _ _ _ => rfl) h p
    simp only [bandsFor, same, ih]

/-- A command of a ready port that may change the Halls acts on the block with its entry fetched. -/
theorem State.runBoth_taken {p : Nat} {f : Hw → Vault → Hw × Vault} {s : State} {g : Hw} {v : Vault} (up : adminUp s.hw p = true)
    (acts : ∀ h, fetched h p = taken s.hw p → f h s.vault = (g, v)) :
    s.runBoth (fun h v => if (!(adminUp h p)) = true then (h, v) else f h v) = .next { s with hw := g, vault := v } := by
  have up : adminUp { s.hw with out := [] } p = true := up
  rw [State.runBoth_eq, up, Bool.not_true, if_neg Bool.false_ne_true, acts _ rfl]

/-- A command of a ready port acts on the block with its entry fetched. -/
theorem State.run_taken {p : Nat} {f : Hw → Hw} {s : State} {g : Hw} (up : adminUp s.hw p = true)
    (acts : ∀ h, fetched h p = taken s.hw p → f h = g) :
    s.run (fun h => if (!(adminUp h p)) = true then h else f h) = .next { s with hw := g } :=
  State.run_up up (acts _ rfl)

end Sys2Proof.Machine
end
section
/-! Namespace Management and Attachment (R426, R441, R442, R546, R550, R560). -/
namespace Sys2Proof.Machine

/-- Taking an entry leaves it at every port whether its controller is ready. -/
theorem rdy_taken (h : Hw) (p q : Nat) : (port (taken h p) q).rdy = (port h q).rdy := by
  unfold taken fetched onPort port
  split_ifs <;> rfl

/-! An admin command whose map change has to be written first (R442). -/

theorem adminWithMap_due {h : Hw} (due : h.engine.mapDue = true) (p cid st dw0 : Nat) :
    adminWithMap h p cid st dw0 = onEngine h (fun g => { g with mapWait := g.mapWait ++ [(p, 0, cid, 0, st, dw0)] }) := by
  rw [adminWithMap, if_pos due]

/-- A part of the block that looks neither at the completions nor at those that wait for the map is the same after the end of a command. -/
theorem apply_adminWithMap {α : Type} (π : Hw → α)
    (blind : ∀ h w q, π { h with engine := { h.engine with mapWait := w, posting := q } } = π h) (h : Hw) (p cid st dw0 : Nat) :
    π (adminWithMap h p cid st dw0) = π h := by
  unfold adminWithMap
  split
  · exact blind h _ h.engine.posting
  · exact blind h h.engine.mapWait _

/-! Creation. -/

/-- The block after the creation of namespace `n`: the Hall's change is asked for apart. -/
def created (h : Hw) (n size cap fmt pi : Nat) (mset' pil : Bool) (es : List Nat) : Hw :=
  onCipher (onLedger (onSpace (takeBands h n fmt es) n (fun x =>
    { size := size, cap := cap, fmt := fmt, pi := pi, mset := mset', pil := pil, creations := (x.creations + 1) % 2 ^ 32 })) n
    (fun _ => { st := 1, fresh := true })) (fun c => { c with history := lset c.history n [] })

theorem createSpace_eq (h : Hw) (v : Vault) (n size cap fmt pi : Nat) (mset' pil : Bool) (es : List Nat) :
    createSpace h v n size cap fmt pi mset' pil es =
      (created h n size cap fmt pi mset' pil es, changeHall v n { st := 1, epoch := ((nextHall v n).epoch + 1) % 2 ^ 32 }) := (rfl)

theorem created_space (h : Hw) (n size cap fmt pi : Nat) (mset' pil : Bool) (es : List Nat) :
    space (created h n size cap fmt pi mset' pil es) n =
      { size := size, cap := cap, fmt := fmt, pi := pi, mset := mset', pil := pil, creations := ((space h n).creations + 1) % 2 ^ 32 } := by
  refine (space_onSpace (takeBands h n fmt es) n (fun x =>
    { size := size, cap := cap, fmt := fmt, pi := pi, mset := mset', pil := pil, creations := (x.creations + 1) % 2 ^ 32 })).trans ?_
  rfl

theorem created_ledger (h : Hw) (n size cap fmt pi : Nat) (mset' pil : Bool) (es : List Nat) :
    ledger (created h n size cap fmt pi mset' pil es) n = { st := 1, fresh := true } := by
  rw [created, onLedger, ledger, onCipher_cipher, onCipher_cipher, mget_mset_self]

section
variable (h : Hw) (n size cap fmt pi : Nat) (mset' pil : Bool) (es : List Nat)

@[simp] theorem created_regs : (created h n size cap fmt pi mset' pil es).regs = h.regs := by
  rw [created, onCipher_regs, onLedger, onCipher_regs, onSpace_regs, takeBands, onEngine_regs]
@[simp] theorem created_mem : (created h n size cap fmt pi mset' pil es).mem = h.mem := by
  rw [created, onCipher_mem, onLedger, onCipher_mem, onSpace_mem, takeBands, onEngine_mem]
@[simp] theorem created_pins : (created h n size cap fmt pi mset' pil es).pins = h.pins := by
  rw [created, onCipher_pins, onLedger, onCipher_pins, onSpace, onEngine_pins, takeBands, onEngine_pins]

/-- A creation is a map change, and posts nothing. -/
theorem created_engine :
    (created h n size cap fmt pi mset' pil es).engine.mapDue = true ∧
    (created h n size cap fmt pi mset' pil es).engine.mapWait = h.engine.mapWait ∧
    (created h n size cap fmt pi mset' pil es).engine.posting = h.engine.posting := by
  rw [created, onCipher_engine, onLedger, onCipher_engine, onSpace, onEngine_engine, takeBands, onEngine_engine]
  exact ⟨rfl, rfl, rfl⟩

end

theorem mirrors_created (h : Hw) (n size cap fmt pi : Nat) (mset' pil : Bool) (es : List Nat) :
    mirrors (created h n size cap fmt pi mset' pil es) = mirrors h :=
  mirrors_congr (getF_of_regs (created_regs h n size cap fmt pi mset' pil es) HQ_TWIN_STATE 0)
    (congrArg Pins.strap (created_pins h n size cap fmt pi mset' pil es))

theorem exec_createNamespace {p cid nsze fmt pi n : Nat} {mset' pil : Bool} {es : List Nat} {s : State} (up : adminUp s.hw p = true)
    (lead : standby s.hw = false) (idle : operStatus s.hw = 0) (positive : nsze ≠ 0) (whole : nsze % extentBlocks = 0)
    (format : formatStatus fmt pi = 0) (free : freeNsid s.hw = some n)
    (bands : bandsFor s.hw n (nsze / extentBlocks) 0 s.hw.engine.extents = some es) (alone : mirrors s.hw = false) :
    exec (.namespaceManagement p cid 0 0 nsze nsze fmt pi mset' pil) s = .next { s with
      hw := adminWithMap (created (taken s.hw p) n nsze nsze fmt pi mset' pil es) p cid 0 n
      vault := changeHall s.vault n { st := 1, epoch := ((nextHall s.vault n).epoch + 1) % 2 ^ 32 } } := by
  have fits : ¬ (nsze < nsze ∨ nsze = 0 ∨ nsze % extentBlocks ≠ 0 ∨ nsze % extentBlocks ≠ 0) := by
    rw [whole]
    omega
  change execNamespaceManagement _ _ _ _ _ _ _ _ _ _ s = _
  unfold execNamespaceManagement
  refine State.runBoth_taken up fun h entry => ?_
  rw [entry]
  dsimp only
  have quiet : mirrors (created (taken s.hw p) n nsze nsze fmt pi mset' pil es) = false := by
    rw [mirrors_created, mirrors_taken, alone]
  rw [standby_taken, lead, if_neg Bool.false_ne_true, operStatus_taken, idle, if_neg (not_not.mpr rfl), if_pos rfl, if_neg fits, format,
    if_neg (not_not.mpr rfl), freeNsid_taken, free]
  simp only [bandsFor_taken, taken_engine, bands, createSpace_eq, mirrorState_alone quiet]

theorem exec_createNamespace_short {p cid nsid nsze ncap fmt pi : Nat} {mset' pil : Bool} {s : State} (up : adminUp s.hw p = true)
    (lead : standby s.hw = false) (idle : operStatus s.hw = 0) (short : nsze < ncap) :
    exec (.namespaceManagement p cid 0 nsid nsze ncap fmt pi mset' pil) s =
      .next { s with hw := adminDone (taken s.hw p) p cid stField 0 } := by
  change execNamespaceManagement _ _ _ _ _ _ _ _ _ _ s = _
  unfold execNamespaceManagement
  refine State.runBoth_taken up fun h entry => ?_
  rw [entry]
  dsimp only
  rw [standby_taken, lead, if_neg Bool.false_ne_true, operStatus_taken, idle, if_neg (not_not.mpr rfl), if_pos rfl, if_pos (Or.inl short)]

/-! Deletion. -/

/-- The Landing records of namespace `n` are dead. -/
def recordsDead (h : Hw) (n : Nat) : Hw :=
  (List.range 4).foldl (fun h c =>
    let dead := ((path h c).records.filter (fun r => r.nsid == n)).map (fun r => r.seq)
    let h := onBuffer h (fun b => { b with landIndex := lset b.landIndex c ((lget b.landIndex c).filter (fun q => !(dead.contains q))) })
    onPath h c (fun p => { p with records := p.records.map (fun r => if r.nsid = n then { r with nsid := 0 } else r) })) h

/-- A part of the block that looks neither at the buffer nor at the carriages is the same. -/
theorem apply_recordsDead {α : Type} (π : Hw → α) (blind : ∀ h b c, π { h with buffer := b, carriages := c } = π h) (h : Hw) (n : Nat) :
    π (recordsDead h n) = π h :=
  foldl_keeps π _ _ (fun h _ => blind h _ _) h

/-- With no re-key running, only queued ones are abandoned (R550). -/
theorem apply_abandonRekeys {α : Type} (π : Hw → α) (blind : ∀ h q, π { h with cipher := { h.cipher with queued := q } } = π h) {h : Hw}
    (idle : h.cipher.running = []) (n : Nat) : π (abandonRekeys h n) = π h := by
  unfold abandonRekeys
  have keeps : ∀ (l : List Nat) (h : Hw), h.cipher.running = [] → l.foldl (fun h c => match oget h.cipher.running c with
      | some r => if r.nsid = n then endRekey h c else h
      | none => h) h = h := by
    intro l
    induction l with
    | nil => exact fun _ _ => rfl
    | cons c l ih =>
      intro h idle
      rw [List.foldl_cons, idle]
      exact ih h idle
  extract_lets g
  exact (congrArg π (keeps _ g idle)).trans (blind h _)

/-- The entries of namespace `n` are in none. -/
def bandsFreed (h : Hw) (n : Nat) : Hw :=
  changeExtents h (entriesIn h n) (fun x => { x with nsid := 0, mirrored := false, readonly := false, divergent := false, fmt1 := false })

/-- The block after the deletion of namespace `n` while no command is in flight: the Hall's change is asked for apart. -/
def deleted (h : Hw) (n : Nat) : Hw :=
  onLedger (onSpace (recordsDead (bandsFreed (abandonRekeys h n) n) n) n (fun x => { creations := x.creations })) n (fun l => { l with st := 2 })

theorem deleteSpace_idle {h : Hw} (idle : h.engine.cmds = []) (v : Vault) (n : Nat) :
    deleteSpace h v n = (deleted h n, changeHall v n { nextHall v n with st := 0 }) := by
  unfold deleteSpace
  rw [idle]
  rfl

theorem apply_deleted {α : Type} (π : Hw → α) (blindBuffer : ∀ h b c, π { h with buffer := b, carriages := c } = π h)
    (blindQueue : ∀ h q, π { h with cipher := { h.cipher with queued := q } } = π h) (blindMap : ∀ h es f, π (changeExtents h es f) = π h)
    (blindSpaces : ∀ h n f g, π (onLedger (onSpace h n f) n g) = π h) {h : Hw} (idle : h.cipher.running = []) (n : Nat) :
    π (deleted h n) = π h := by
  rw [deleted, blindSpaces, apply_recordsDead π blindBuffer, bandsFreed, blindMap, apply_abandonRekeys π blindQueue idle]

theorem ports_deleted {h : Hw} (idle : h.cipher.running = []) (n : Nat) : ports (deleted h n) = ports h :=
  apply_deleted ports (fun _ _ _ => rfl) (fun _ _ => rfl) ports_changeExtents (fun _ _ _ _ => rfl) idle n

@[simp] theorem space_onLedger (h : Hw) (n k : Nat) (f : Ledger → Ledger) : space (onLedger h n f) k = space h k := (rfl)

theorem space_deleted {h : Hw} (idle : h.cipher.running = []) (n : Nat) : space (deleted h n) n = { creations := (space h n).creations } := by
  rw [deleted, space_onLedger, space_onSpace, apply_recordsDead (space · n) (fun _ _ _ => rfl), bandsFreed, space, changeExtents_spaces, ← space,
    apply_abandonRekeys (space · n) (fun _ _ => rfl) idle]

theorem ledger_deleted (h : Hw) (n : Nat) : (ledger (deleted h n) n).st = 2 := by
  rw [ledger, deleted, onLedger, onCipher_cipher, mget_mset_self]

@[simp] theorem extent_onLedger (h : Hw) (n e : Nat) (f : Ledger → Ledger) : extent (onLedger h n f) e = extent h e := (rfl)
@[simp] theorem extent_onSpace (h : Hw) (n e : Nat) (f : Nspace → Nspace) : extent (onSpace h n f) e = extent h e := (rfl)

/-- No entry is in a deleted namespace (R441). -/
theorem nsid_deleted {h : Hw} {n e : Nat} (mine : (extent (deleted h n) e).nsid = n) : n = 0 := by
  rw [deleted, extent_onLedger, extent_onSpace, apply_recordsDead (extent · e) (fun _ _ _ => rfl)] at mine
  exact nsid_changeExtents_entriesIn _ (fun _ => rfl) mine

/-- The Hall of a deleted namespace will be closed, at its epoch (R550). -/
theorem nextHall_changeHall (v : Vault) (n : Nat) (x : Hall) : nextHall (changeHall v n x) n = { x with seq := (nextHall v n).seq + 1 } := by
  rw [nextHall_eq, duesOf_changeHall, if_pos rfl, List.getLast?_concat, Option.getD_some]

theorem exec_deleteNamespace {p cid n nsze ncap fmt pi : Nat} {mset' pil : Bool} {s : State} (up : adminUp s.hw p = true)
    (lead : standby s.hw = false) (idle : operStatus s.hw = 0) (one : n ≠ 0xFFFFFFFF) (here : (space s.hw n).size ≠ 0)
    (still : s.hw.engine.cmds = []) (a : s.hw.portA.rdy = false ∨ p = 0) (b : s.hw.portB.rdy = false ∨ p ≠ 0) (two : p < 2)
    (alone : mirrors s.hw = false) (noRekey : s.hw.cipher.running = []) :
    exec (.namespaceManagement p cid 1 n nsze ncap fmt pi mset' pil) s = .next { s with
      hw := adminWithMap (deleted (taken s.hw p) n) p cid 0 0, vault := changeHall s.vault n { nextHall s.vault n with st := 0 } } := by
  have running : (taken s.hw p).cipher.running = [] := by rw [taken_cipher, noRekey]
  have ready : ∀ q, (port (deleted (taken s.hw p) n) q).rdy = (port s.hw q).rdy := by
    intro q
    rw [port_of_ports (ports_deleted running n), rdy_taken]
  have told : spaceChanged (deleted (taken s.hw p) n) p n = deleted (taken s.hw p) n :=
    spaceChanged_alone n two (by rw [ready]; exact a) (by rw [ready]; exact b)
  have gone : deleteSpace (taken s.hw p) s.vault n = (deleted (taken s.hw p) n, changeHall s.vault n { nextHall s.vault n with st := 0 }) :=
    deleteSpace_idle (by rw [taken_engine, still]) s.vault n
  change execNamespaceManagement _ _ _ _ _ _ _ _ _ _ s = _
  unfold execNamespaceManagement
  refine State.runBoth_taken up fun h entry => ?_
  rw [entry]
  dsimp only
  rw [standby_taken, lead, if_neg Bool.false_ne_true, operStatus_taken, idle, if_neg (not_not.mpr rfl), if_neg (by decide), if_pos rfl, if_neg one,
    space_taken, if_neg here, if_neg (by simp)]
  simp only [List.foldl_cons, List.foldl_nil, mirrorState_alone ((mirrors_taken s.hw p).trans alone), gone, told]

end Sys2Proof.Machine
end
section
/-! Namespace Attachment (R426). -/
namespace Sys2Proof.Machine

/-- The end of an admin command only adds its completion to the engine. -/
@[simp] theorem adminDone_engine (h : Hw) (p cid st dw0 : Nat) :
    (adminDone h p cid st dw0).engine = { h.engine with posting := h.engine.posting ++ [(p, 0, cid, 0, st, dw0)] } := (rfl)
@[simp] theorem space_adminDone (h : Hw) (p cid st dw0 n : Nat) : space (adminDone h p cid st dw0) n = space h n := (rfl)

section
variable {p cid n ctrls : Nat} {s : State} (up : adminUp s.hw p = true) (here : (space s.hw n).size ≠ 0) (named : ctrls ≠ 0)
  (known : ctrls ≤ (if dualPort s.hw then 3 else 1))
include up here named known

theorem exec_attach (apart : (space s.hw n).attached &&& ctrls = 0) (a : s.hw.portA.rdy = false ∨ p = 0) (b : s.hw.portB.rdy = false ∨ p ≠ 0)
    (two : p < 2) :
    exec (.namespaceAttachment p cid 0 n ctrls) s = .next { s with
      hw := adminDone (onSpace (taken s.hw p) n (fun x => { x with attached := (space s.hw n).attached ||| ctrls })) p cid 0 0 } := by
  refine State.run_admin up ?_
  rw [if_neg (by decide), if_neg (fun h => absurd h.1 (by decide)), space_taken, if_neg here, dualPort_taken,
    if_neg (not_or.mpr ⟨named, Nat.not_lt.mpr known⟩), if_neg (fun h => h.2 apart), if_neg (fun h => absurd h.1 (by decide)), if_pos rfl]
  extract_lets h
  exact congrArg (·, 0, 0) (spaceChanged_alone n two (a.imp_left (rdy_taken s.hw p 0).trans) (b.imp_left (rdy_taken s.hw p 1).trans))

theorem exec_attach_again (already : (space s.hw n).attached &&& ctrls ≠ 0) :
    exec (.namespaceAttachment p cid 0 n ctrls) s = .next { s with hw := adminDone (taken s.hw p) p cid 0x118 0 } := by
  refine State.run_admin up ?_
  rw [if_neg (by decide), if_neg (fun h => absurd h.1 (by decide)), space_taken, if_neg here, dualPort_taken,
    if_neg (not_or.mpr ⟨named, Nat.not_lt.mpr known⟩), if_pos ⟨rfl, already⟩]

end

end Sys2Proof.Machine
end

section
/-! Format NVM and Sanitize (R427, R464-R467). -/
namespace Sys2Proof.Machine

/-! The operation in progress. -/

/-- A part of the block that does not look at the recorder is the same after a progress record. -/
theorem apply_saveOper {α : Type} (π : Hw → α) (blind : ∀ h l, π { h with log := l } = π h) (h : Hw) (o : Oper) : π (saveOper h o) = π h := by
  unfold saveOper writeProgress
  exact blind h _

section
variable (h : Hw) (o : Oper)

@[simp] theorem setOper_engine : (setOper h o).engine = { h.engine with oper := some o } := apply_saveOper (·.engine) (fun _ _ => rfl) _ o
@[simp] theorem setOper_regs : (setOper h o).regs = h.regs := apply_saveOper (·.regs) (fun _ _ => rfl) _ o
@[simp] theorem setOper_mem : (setOper h o).mem = h.mem := apply_saveOper (·.mem) (fun _ _ => rfl) _ o
@[simp] theorem setOper_getF (f : Fld) (i : Nat) : getF (setOper h o) f i = getF h f i := getF_of_regs (setOper_regs h o) f i

end

theorem acceptOper_format (h : Hw) {o : Oper} (format : o.kind = .format) : acceptOper h o = setOper (setF h HQ_STAT_FMT 0 1) o := by
  rw [acceptOper, format]

theorem acceptOper_overwrite (h : Hw) {o : Oper} (overwrite : o.kind = .overwrite) :
    acceptOper h o = setOper (onEngine (setF h HQ_STAT_SANI 0 1) (fun g => { g with sanitize := 2, unrestricted := o.ause })) o := by
  rw [acceptOper, overwrite]

theorem stFormatting_ne : stFormatting ≠ 0 := by decide

theorem operStatus_format {h : Hw} {o : Oper} (running : h.engine.oper = some o) (format : o.kind = .format) : operStatus h = stFormatting := by
  rw [operStatus, running]
  exact if_pos format

theorem exec_formatNvm {p cid n fmt pi ses : Nat} {mset' pil : Bool} {s : State} (up : adminUp s.hw p = true) (lead : standby s.hw = false)
    (idle : operStatus s.hw = 0) (one : n ≠ 0xFFFFFFFF) (erase : ses ≤ 2) (here : (space s.hw n).size ≠ 0)
    (mine : bitAt (space s.hw n).attached p = true) (format : formatStatus fmt pi = 0)
    (whole : (entriesIn s.hw n).any (fun e => entryFenced s.hw e) = false) (alone : mirrors s.hw = false) :
    exec (.formatNvm p cid n fmt pi ses mset' pil) s = .next { s with
      hw := setOper (setF (taken s.hw p) HQ_STAT_FMT 0 1)
        { kind := .format, nsid := n, port := p, cid := cid, fmt := fmt, pi := pi, mset := mset', pil := pil, ses := ses } } := by
  have quiet : mirrors (taken s.hw p) = false := (mirrors_taken s.hw p).trans alone
  change execFormatNvm _ _ _ _ _ _ _ _ s = _
  unfold execFormatNvm
  refine State.run_taken up fun h entry => ?_
  rw [entry]
  dsimp only
  rw [standby_taken, lead, if_neg Bool.false_ne_true, operStatus_taken, idle, if_neg (not_not.mpr rfl),
    if_neg (not_or.mpr ⟨one, Nat.not_lt.mpr erase⟩), space_taken, mine, if_neg (not_or.mpr ⟨here, by decide⟩), format,
    if_neg (not_not.mpr rfl), entriesIn_taken]
  simp only [entryFenced_taken]
  rw [whole, if_neg Bool.false_ne_true, if_neg (not_not.mpr rfl), mirrorState_alone quiet, quiet, if_neg Bool.false_ne_true, acceptOper_format _ rfl]

theorem exec_formatNvm_formatting {p cid n fmt pi ses : Nat} {mset' pil : Bool} {s : State} (up : adminUp s.hw p = true)
    (lead : standby s.hw = false) (formatting : operStatus s.hw = stFormatting) :
    exec (.formatNvm p cid n fmt pi ses mset' pil) s = .next { s with hw := adminDone (taken s.hw p) p cid stFormatting 0 } := by
  change execFormatNvm _ _ _ _ _ _ _ _ s = _
  unfold execFormatNvm
  refine State.run_taken up fun h entry => ?_
  rw [entry]
  dsimp only
  rw [standby_taken, lead, if_neg Bool.false_ne_true, operStatus_taken, formatting, if_pos stFormatting_ne, if_pos stFormatting_ne]

theorem exec_sanitize_overwrite {p cid owpass ovrpat : Nat} {ause oipbp : Bool} {s : State} (up : adminUp s.hw p = true)
    (lead : standby s.hw = false) (idle : operStatus s.hw = 0) (sound : s.hw.engine.sanitize ≠ 3) (alone : mirrors s.hw = false)
    (low : 1 ≤ owpass) (high : owpass < 16) (word : ovrpat < 2 ^ 32) :
    exec (.sanitize p cid 3 ause owpass oipbp ovrpat) s = .next { s with
      hw := setOper (onEngine (setF (taken s.hw p) HQ_STAT_SANI 0 1) (fun g => { g with sanitize := 2, unrestricted := ause }))
        { kind := .overwrite, port := p, cid := cid, passes := owpass, pattern := ovrpat, invert := oipbp, ause := ause } } := by
  have quiet : mirrors (taken s.hw p) = false := (mirrors_taken s.hw p).trans alone
  change execSanitize _ _ _ _ _ _ _ s = _
  unfold execSanitize
  refine State.run_taken up fun h entry => ?_
  rw [entry]
  dsimp only
  rw [standby_taken, lead, if_neg Bool.false_ne_true, if_neg (by decide), operStatus_taken, idle, if_neg (not_not.mpr rfl), if_neg (by decide),
    taken_engine, if_neg (fun h => sound h.1), mirrorState_alone quiet, quiet, if_neg Bool.false_ne_true, Nat.mod_eq_of_lt high,
    Nat.mod_eq_of_lt word, if_pos (by decide), if_neg (by decide), if_neg (by omega), acceptOper_overwrite _ rfl]

theorem exec_sanitize_exitFailure {p cid owpass ovrpat : Nat} {ause oipbp : Bool} {s : State} (up : adminUp s.hw p = true)
    (lead : standby s.hw = false) (idle : operStatus s.hw = 0) (failed : s.hw.engine.sanitize = 3) (restricted : s.hw.engine.unrestricted = false) :
    exec (.sanitize p cid 1 ause owpass oipbp ovrpat) s = .next { s with hw := adminDone (taken s.hw p) p cid stSanitizeFailed 0 } := by
  change execSanitize _ _ _ _ _ _ _ s = _
  unfold execSanitize
  refine State.run_taken up fun h entry => ?_
  rw [entry]
  dsimp only
  rw [standby_taken, lead, if_neg Bool.false_ne_true, if_neg (by decide), operStatus_taken, idle, if_neg (not_not.mpr rfl), if_pos rfl, taken_engine,
    failed, if_neg (not_not.mpr rfl), restricted, if_neg Bool.false_ne_true]

/-! Its units of work. -/

/-- The block with the outputs of the command before dropped. -/
def silent (h : Hw) : Hw := { h with out := [] }

/-- A command acts on the block with the outputs of the command before dropped. -/
theorem State.runBoth_silent {f : Hw → Vault → Hw × Vault} {s : State} {g : Hw} {v : Vault} (acts : f (silent s.hw) s.vault = (g, v)) :
    s.runBoth f = .next { s with hw := g, vault := v } := by
  rw [State.runBoth_eq, ← silent, acts]

theorem mediaReady_silent (h : Hw) : mediaReady (silent h) = mediaReady h := rfl

/-- A Sanitize whose commands in flight have ended starts, and its completion is posted (R465). -/
theorem exec_resume_starts {o : Oper} {s : State} (running : s.hw.engine.oper = some o) (ready : mediaReady s.hw = true)
    (crypto : o.kind = .cryptoErase) (waits : o.started = false) (fresh : o.resumed = false) (own : o.fromTwin = none)
    (idle : s.hw.engine.cmds = []) :
    exec .formatSanitizeResume s = .next { s with
      hw := adminDone (setOper (silent s.hw) { o with started := true }) o.port o.cid 0 0 } := by
  have running : (silent s.hw).engine.oper = some o := running
  have clear : operClear (silent s.hw) o = true := by
    rw [operClear, show (silent s.hw).engine.cmds = [] from idle, List.all_nil]
  have posts : o.kind ≠ .format ∧ (!o.resumed) = true ∧ o.fromTwin.isNone = true := by simp [crypto, fresh, own]
  change execFormatSanitizeResume s = _
  unfold execFormatSanitizeResume
  refine State.runBoth_silent ?_
  rw [running]
  dsimp only
  rw [mediaReady_silent, ready, if_neg (by decide), waits, if_pos (by decide), if_pos clear, if_pos posts]

theorem formatUnit_last {h : Hw} {v : Vault} {o : Oper} (last : o.step = 4) (settled : ¬ (h.engine.mapDue = true ∨ o.ackDue.isSome = true)) :
    formatUnit h v o = (endOper h o, v) := by
  unfold formatUnit
  rw [last]
  exact if_neg settled

theorem endOper_format {h : Hw} {o : Oper} (own : o.fromTwin = none) (format : o.kind = .format) (fresh : o.resumed = false) :
    endOper h o = adminDone (setF (clearProgress (onEngine h (fun g => { g with oper := none })) 1032) HQ_STAT_FMT 0 0) o.port o.cid 0 0 := by
  have posts : ¬ (o.resumed = true ∨ o.fromTwin.isSome = true) := by simp [fresh, own]
  unfold endOper
  rw [own, format]
  exact if_neg (own ▸ posts)

/-- A Format NVM whose steps are done and whose map is written ends (R464 step 5). -/
theorem exec_resume_ends {o : Oper} {s : State} (running : s.hw.engine.oper = some o) (ready : mediaReady s.hw = true)
    (format : o.kind = .format) (started : o.started = true) (last : o.step = 4) (fresh : o.resumed = false) (own : o.fromTwin = none)
    (written : s.hw.engine.mapDue = false) (acked : o.ackDue = none) :
    exec .formatSanitizeResume s = .next { s with
      hw := adminDone (setF (clearProgress (onEngine (silent s.hw) (fun g => { g with oper := none })) 1032) HQ_STAT_FMT 0 0) o.port o.cid 0 0 } := by
  have running : (silent s.hw).engine.oper = some o := running
  have settled : ¬ ((silent s.hw).engine.mapDue = true ∨ o.ackDue.isSome = true) := by
    rw [show (silent s.hw).engine.mapDue = false from written, acked]
    decide
  change execFormatSanitizeResume s = _
  unfold execFormatSanitizeResume
  refine State.runBoth_silent ?_
  rw [running]
  dsimp only
  rw [mediaReady_silent, ready, if_neg (by decide), started, if_neg (by decide), format]
  dsimp only
  rw [formatUnit_last last settled, endOper_format own format fresh]

/-- Settles O20: each command takes the branch of its meaning that its hypotheses leave, and what it changes is read off that branch. -/
theorem namespaceAndSanitizeCommandsComplete : Obligations.NamespaceAndSanitizeCommandsComplete := by
  refine ⟨?create, ?createShort, ?delete, ?attach, ?attachAgain, ?format, ?formatting, ?overwrite, ?exitFailure, ?starts, ?ends⟩
  case create =>
    intro p cid nsze fmt pi n mset' pil es s up lead idle positive whole format free bands alone
    have shown := created_space (taken s.hw p) n nsze nsze fmt pi mset' pil es
    have listed := created_ledger (taken s.hw p) n nsze nsze fmt pi mset' pil es
    obtain ⟨due, waiting, posting⟩ := created_engine (taken s.hw p) n nsze nsze fmt pi mset' pil es
    rw [taken_engine] at waiting posting
    refine ⟨_, exec_createNamespace up lead idle positive whole format free bands alone, ?_⟩
    dsimp only
    rw [apply_adminWithMap (space · n) (fun _ _ _ => rfl), apply_adminWithMap (ledger · n) (fun _ _ _ => rfl),
      apply_adminWithMap (·.regs) (fun _ _ _ => rfl), apply_adminWithMap (·.mem) (fun _ _ _ => rfl), adminWithMap_due due, onEngine_engine, shown,
      listed, created_regs, created_mem, taken_regs, taken_mem]
    refine ⟨rfl, rfl, rfl, ?_, posting, rfl, due, rfl, rfl, rfl, rfl⟩
    rw [waiting]
  case createShort =>
    intro p cid nsid nsze ncap fmt pi mset' pil s up lead idle short
    obtain ⟨posting, rest⟩ := AdminEnded.of_taken s p cid stField 0
    exact ⟨_, exec_createNamespace_short up lead idle short, posting, by rw [adminDone_engine, taken_engine], rest⟩
  case delete =>
    intro p cid n nsze ncap fmt pi mset' pil s up lead idle one here still a b two alone noRekey
    have running : (taken s.hw p).cipher.running = [] := by rw [taken_cipher, noRekey]
    have shown := space_deleted running n
    refine ⟨_, exec_deleteNamespace up lead idle one here still a b two alone noRekey, ?_⟩
    dsimp only
    rw [apply_adminWithMap (space · n) (fun _ _ _ => rfl), apply_adminWithMap (ledger · n) (fun _ _ _ => rfl),
      apply_adminWithMap (·.regs) (fun _ _ _ => rfl), apply_adminWithMap (·.mem) (fun _ _ _ => rfl), shown, space_taken, nextHall_changeHall]
    refine ⟨rfl, rfl, ?_, ledger_deleted _ n, rfl, rfl, ?_, ?_, rfl⟩
    · intro e mine
      rw [apply_adminWithMap (extent · e) (fun _ _ _ => rfl)] at mine
      exact nsid_deleted mine
    · rw [apply_deleted (·.regs) (fun _ _ _ => rfl) (fun _ _ => rfl) changeExtents_regs (fun _ _ _ _ => rfl) running, taken_regs]
    · rw [apply_deleted (·.mem) (fun _ _ _ => rfl) (fun _ _ => rfl) changeExtents_mem (fun _ _ _ _ => rfl) running, taken_mem]
  case attach =>
    intro p cid n ctrls s up here named known apart a b two
    refine ⟨_, exec_attach up here named known apart a b two, ?_, ?_,
      AdminEnded.of p cid 0 0 ?_ (taken_regs s.hw p) (taken_mem s.hw p)⟩
    · rw [space_adminDone, space_onSpace, space_taken]
    · exact fun k other => by rw [space_adminDone, space_onSpace_ne _ _ other, space_taken]
    · rw [onSpace_posting, taken_engine]
  case attachAgain =>
    intro p cid n ctrls s up here named known already
    exact ⟨_, exec_attach_again up here named known already, by rw [adminDone_engine, taken_engine], AdminEnded.of_taken s p cid 0x118 0⟩
  case format =>
    intro p cid n fmt pi ses mset' pil s up lead idle one erase here mine format whole alone
    refine ⟨_, exec_formatNvm up lead idle one erase here mine format whole alone, ?_⟩
    rw [setOper_engine, setOper_getF, setOper_mem, setF_engine, setF_mem, getF_setF_self _ _ _ _ (by decide), taken_engine, taken_mem]
    exact ⟨rfl, rfl, rfl, rfl, rfl, rfl⟩
  case formatting =>
    intro p cid n fmt pi ses mset' pil o s up lead running format
    exact ⟨_, exec_formatNvm_formatting up lead (operStatus_format running format),
      by rw [adminDone_engine, taken_engine, running], AdminEnded.of_taken s p cid stFormatting 0⟩
  case overwrite =>
    intro p cid owpass ovrpat ause oipbp s up lead idle sound alone low high word
    refine ⟨_, exec_sanitize_overwrite up lead idle sound alone low high word, ?_⟩
    rw [setOper_engine, setOper_getF, setOper_mem, onEngine_engine, onEngine_getF, onEngine_mem, setF_engine, setF_mem,
      getF_setF_self _ _ _ _ (by decide), taken_engine, taken_mem]
    exact ⟨rfl, rfl, rfl, rfl, rfl, rfl, rfl, rfl⟩
  case exitFailure =>
    intro p cid owpass ovrpat ause oipbp s up lead idle failed restricted
    exact ⟨_, exec_sanitize_exitFailure up lead idle failed restricted,
      by rw [adminDone_engine, taken_engine, failed], AdminEnded.of_taken s p cid stSanitizeFailed 0⟩
  case starts =>
    intro o s running crypto waits fresh own ready idle
    refine ⟨_, exec_resume_starts running ready crypto waits fresh own idle, ?_⟩
    rw [adminDone_mem, adminDone_posting, setOper_engine, setOper_mem]
    exact ⟨congrArg Engine.oper (setOper_engine (silent s.hw) { o with started := true }), rfl, rfl, rfl, rfl⟩
  case ends =>
    intro o s running format started last fresh own ready written acked
    refine ⟨_, exec_resume_ends running ready format started last fresh own written acked, ?_⟩
    rw [adminDone_getF, adminDone_engine, adminDone_mem, getF_setF_self _ _ _ _ (by decide), setF_engine, setF_mem, clearProgress, onLog_engine,
      onLog_mem, onEngine_engine, onEngine_mem, Nat.zero_mod]
    exact ⟨rfl, rfl, rfl, rfl, rfl, rfl⟩

end Sys2Proof.Machine
end
section
/-! Commands as they are fetched, take their pages and wait for their turn (R435-R437, R440, R449, R478, R479). -/
namespace Sys2Proof.Machine

/-- A command acts on the block with the outputs of the command before dropped. -/
theorem State.run_silent {f : Hw → Hw} {s : State} {g : Hw} (acts : f (silent s.hw) = g) : s.run f = .next { s with hw := g } := by
  rw [State.run_eq, ← silent, acts]

@[simp] theorem silent_engine (h : Hw) : (silent h).engine = h.engine := rfl
@[simp] theorem silent_buffer (h : Hw) : (silent h).buffer = h.buffer := rfl
@[simp] theorem silent_regs (h : Hw) : (silent h).regs = h.regs := rfl
@[simp] theorem silent_mem (h : Hw) : (silent h).mem = h.mem := rfl
@[simp] theorem silent_out (h : Hw) : (silent h).out = [] := rfl

/-! Fetching. -/

/-- A part of the block that looks neither at the ports nor at the turn is the same once a fetch is counted. -/
theorem apply_countFetch {α : Type} (π : Hw → α) (blindPorts : ∀ h a b, π { h with portA := a, portB := b } = π h)
    (blindTurn : ∀ h f, π (onEngine h (fun g => { g with turn := f })) = π h) (h : Hw) (p q : Nat) : π (countFetch h p q) = π h := by
  unfold countFetch
  extract_lets
  rw [apply_onPort π blindPorts, blindTurn, apply_onPort π blindPorts, apply_onPort π blindPorts]

@[simp] theorem countFetch_mem (h : Hw) (p q : Nat) : (countFetch h p q).mem = h.mem :=
  apply_countFetch (·.mem) (fun _ _ _ => rfl) (fun _ _ => rfl) h p q
@[simp] theorem countFetch_cmds (h : Hw) (p q : Nat) : (countFetch h p q).engine.cmds = h.engine.cmds :=
  apply_countFetch (·.engine.cmds) (fun _ _ _ => rfl) (fun _ _ => rfl) h p q
@[simp] theorem countFetch_isn (h : Hw) (p q : Nat) : (countFetch h p q).engine.isn = h.engine.isn :=
  apply_countFetch (·.engine.isn) (fun _ _ _ => rfl) (fun _ _ => rfl) h p q
@[simp] theorem countFetch_buffer (h : Hw) (p q : Nat) : (countFetch h p q).buffer = h.buffer :=
  apply_countFetch (·.buffer) (fun _ _ _ => rfl) (fun _ _ => rfl) h p q

theorem freeSlotOf_countFetch (h : Hw) (p q : Nat) : freeSlotOf (countFetch h p q) = freeSlotOf h := by
  unfold freeSlotOf
  rw [countFetch_cmds, countFetch_buffer]

@[simp] theorem freePages_engine (h : Hw) (slot : Nat) : (freePages h slot).engine = h.engine := by
  unfold freePages; rw [addF_engine, onBuffer_engine]
@[simp] theorem freePages_mem (h : Hw) (slot : Nat) : (freePages h slot).mem = h.mem := by
  unfold freePages; rw [addF_mem, onBuffer_mem]

/-- No page belongs to the slot any more (R479). -/
theorem freePages_owners {h : Hw} {slot : Nat} {q : Nat × Option (Nat × Nat)} (here : q ∈ (freePages h slot).buffer.pages) {o n : Nat}
    (owned : q.2 = some (o, n)) : o ≠ slot := by
  unfold freePages at here
  rw [addF_buffer] at here
  obtain ⟨-, other⟩ := List.mem_filter.mp here
  rw [owned] at other
  simpa using other

theorem takeCmd_engine (h : Hw) (c : Cmd) :
    (takeCmd h c).engine =
      { h.engine with isn := h.engine.isn + 1, cmds := h.engine.cmds ++ [{ c with slot := freeSlotOf h, isn := h.engine.isn }] } := by
  unfold takeCmd
  split <;> simp only [onEngine_engine, onPort_engine, freePages_engine]

@[simp] theorem takeCmd_mem (h : Hw) (c : Cmd) : (takeCmd h c).mem = h.mem := by
  unfold takeCmd
  split <;> simp only [onEngine_mem, onPort_mem, freePages_mem]

@[simp] theorem bumpLive_engine (h : Hw) (u p e n w : Nat) : (bumpLive h u p e n w).engine = h.engine := (rfl)
@[simp] theorem bumpLive_mem (h : Hw) (u p e n w : Nat) : (bumpLive h u p e n w).mem = h.mem := (rfl)
@[simp] theorem bumpLive_buffer (h : Hw) (u p e n w : Nat) : (bumpLive h u p e n w).buffer = h.buffer := (rfl)
@[simp] theorem bumpLive_getF (h : Hw) (u p e n w : Nat) (g : Fld) (i : Nat) : getF (bumpLive h u p e n w) g i = getF h g i := (rfl)

/-- The command of a fetched entry whose intake status is `st` (0: none), before it has its slot and ISN (R435, R437). -/
def fetchedCmd (waiting : Bool) (p sq : Nat) (entry : SqEntry) (st : Nat) : Cmd :=
  let paged : Bool := entry.opc == 1 || entry.opc == 2
  { slot := 0, isn := 0, port := p, sq := sq, cid := entry.cid, opc := entry.opc, nsid := entry.nsid, slba := entry.slba, nlb := entry.nlb
    ordered := entry.ordered, addr := entry.addr, maddr := entry.maddr, prot := entry.prot
    stage := if st ≠ 0 then .ready else if paged then .pages else .order
    verdict := if st ≠ 0 then some st else none
    waited := st == 0 && paged && waiting }

/-- A fetched command is counted, takes its slot, and if it has to wait for pages its wait is counted. -/
def commandTaken (h : Hw) (p sq : Nat) (c : Cmd) : Hw :=
  let h := takeCmd (countFetch h p sq) c
  if c.waited then bumpLive h 0x1420 0x011 0 1 32 else h

theorem commandTaken_engine (h : Hw) (p sq : Nat) (c : Cmd) : (commandTaken h p sq c).engine = (takeCmd (countFetch h p sq) c).engine := by
  unfold commandTaken
  split
  · exact bumpLive_engine _ _ _ _ _ _
  · rfl

@[simp] theorem commandTaken_mem (h : Hw) (p sq : Nat) (c : Cmd) : (commandTaken h p sq c).mem = h.mem := by
  have taken : (takeCmd (countFetch h p sq) c).mem = h.mem := (takeCmd_mem _ _).trans (countFetch_mem _ _ _)
  unfold commandTaken
  split
  · exact (bumpLive_mem _ _ _ _ _ _).trans taken
  · exact taken

theorem commandTaken_cmds (h : Hw) (p sq : Nat) (c : Cmd) :
    (commandTaken h p sq c).engine.cmds = h.engine.cmds ++ [{ c with slot := freeSlotOf h, isn := h.engine.isn }] := by
  rw [commandTaken_engine, takeCmd_engine, freeSlotOf_countFetch, countFetch_isn, countFetch_cmds]

theorem commandTaken_isn (h : Hw) (p sq : Nat) (c : Cmd) : (commandTaken h p sq c).engine.isn = h.engine.isn + 1 := by
  rw [commandTaken_engine, takeCmd_engine, countFetch_isn]

theorem exec_commandFetch {p sq : Nat} {l : List Nat} {e : SqEntry} {s : State} (io : sq ≠ 0) (awake : (port s.hw p).ps < 3)
    (domain : domainPs s.hw < 3) (fetching : getF s.hw HQ_STAT_FETCH 0 = 1) (on : domainUp s.hw 4 = true) (room : s.hw.engine.cmds.length < 4095)
    (chosen : chosenQueue s.hw l = some (p, sq)) :
    exec (.commandFetch p sq l e) s = .next { s with
      hw := commandTaken (silent s.hw) p sq (fetchedCmd s.hw.buffer.waiting p sq e (intakeStatus s.hw p e)) } := by
  have turn : domainPs (silent s.hw) < 3 ∧ getF (silent s.hw) HQ_STAT_FETCH 0 = 1 ∧ domainUp (silent s.hw) 4 = true ∧
      (silent s.hw).engine.cmds.length < 4096 ∧ chosenQueue (silent s.hw) l = some (p, sq) :=
    ⟨domain, fetching, on, Nat.lt_trans room (by decide), chosen⟩
  have awake : ¬ 3 ≤ (port (silent s.hw) p).ps := Nat.not_le.mpr awake
  have roomy : ¬ (commandTaken (silent s.hw) p sq (fetchedCmd s.hw.buffer.waiting p sq e (intakeStatus s.hw p e))).engine.cmds.length = 4096 := by
    rw [commandTaken_cmds, List.length_append, List.length_singleton, silent_engine]
    omega
  have waiting : (countFetch (silent s.hw) p sq).buffer.waiting = s.hw.buffer.waiting := by rw [countFetch_buffer, silent_buffer]
  rw [← waiting] at roomy ⊢
  change execCommandFetch p sq l e s = _
  unfold execCommandFetch
  exact State.run_silent ((if_neg io).trans ((if_neg awake).trans ((if_pos turn).trans (if_neg roomy))))

/-! Pages of the pool. -/

/-- The pages of a command are linked and taken from the count of free ones. -/
def pagesTaken (h : Hw) (x : Cmd) : Hw :=
  setF (onBuffer h (fun b =>
    { b with pages := chainPages x.slot (lowestFree (h.buffer.pages.map (fun p => p.1)) 0 (pagesFor h x)) b.pages, waiting := false }))
    BM_POOL_FREE 0 (getF h BM_POOL_FREE 0 - pagesFor h x)

@[simp] theorem pagesTaken_mem (h : Hw) (x : Cmd) : (pagesTaken h x).mem = h.mem := by rw [pagesTaken, setF_mem, onBuffer_mem]
@[simp] theorem pagesTaken_cmds (h : Hw) (x : Cmd) : (pagesTaken h x).engine.cmds = h.engine.cmds := by rw [pagesTaken, setF_engine, onBuffer_engine]
theorem pagesTaken_waiting (h : Hw) (x : Cmd) : (pagesTaken h x).buffer.waiting = false := by rw [pagesTaken, setF_buffer, onBuffer_buffer]

/-- The pages of a command leave the count of free ones. -/
theorem pagesTaken_free (h : Hw) (x : Cmd) : getF (pagesTaken h x) BM_POOL_FREE 0 = getF h BM_POOL_FREE 0 - pagesFor h x := by
  have most : getF h BM_POOL_FREE 0 < 2 ^ (BM_POOL_FREE.hi + 1 - BM_POOL_FREE.lo) := bits_lt _ _ _
  rw [pagesTaken, getF_setF_self _ _ _ _ (by decide), Nat.mod_eq_of_lt (Nat.lt_of_le_of_lt (Nat.sub_le _ _) most)]

theorem exec_pagesAllocated_enough {x : Cmd} {s : State} (alone : s.hw.engine.cmds = [x]) (paged : x.stage = .pages)
    (enough : pagesFor s.hw x ≤ getF s.hw BM_POOL_FREE 0) :
    exec .pagesAllocated s = .next { s with hw := onCmd (pagesTaken (silent s.hw) x) x.slot (fun c => { c with stage := .order }) } := by
  have found : (silent s.hw).engine.cmds.find? (fun c => c.stage == .pages) = some x := by simp [alone, paged]
  have enough : pagesFor (silent s.hw) x ≤ getF (silent s.hw) BM_POOL_FREE 0 := enough
  change execPagesAllocated s = _
  unfold execPagesAllocated
  refine State.run_silent ?_
  rw [found]
  exact if_pos enough

/-- The commands that want pages wait for them, and the wait of `news` of them is counted. -/
def pagesAwaited (h : Hw) (news : Nat) : Hw :=
  let h := bumpLive (onEngine h (fun g => { g with cmds := g.cmds.map (fun c => if c.stage = .pages then { c with waited := true } else c) }))
    0x1420 0x011 0 news 32
  if h.buffer.waiting then h else setF (onBuffer h (fun b => { b with waiting := true })) BM_IRQS_POOLW 0 1

theorem exec_pagesAllocated_short {x : Cmd} {s : State} (alone : s.hw.engine.cmds = [x]) (paged : x.stage = .pages)
    (short : getF s.hw BM_POOL_FREE 0 < pagesFor s.hw x) :
    ∃ news, exec .pagesAllocated s = .next { s with hw := pagesAwaited (silent s.hw) news } := by
  have found : (silent s.hw).engine.cmds.find? (fun c => c.stage == .pages) = some x := by simp [alone, paged]
  have short : ¬ pagesFor (silent s.hw) x ≤ getF (silent s.hw) BM_POOL_FREE 0 := Nat.not_le.mpr short
  refine ⟨((silent s.hw).engine.cmds.filter (fun c => c.stage == .pages && !c.waited)).length, ?_⟩
  change execPagesAllocated s = _
  unfold execPagesAllocated
  refine State.run_silent ?_
  rw [found]
  exact if_neg short

theorem pagesAwaited_shows {h : Hw} {x : Cmd} (alone : h.engine.cmds = [x]) (paged : x.stage = .pages) (news : Nat) :
    (pagesAwaited h news).engine.cmds = [{ x with waited := true }] ∧ (pagesAwaited h news).buffer.waiting = true ∧
    (pagesAwaited h news).buffer.pages = h.buffer.pages ∧ getF (pagesAwaited h news) BM_POOL_FREE 0 = getF h BM_POOL_FREE 0 ∧
    (pagesAwaited h news).mem = h.mem := by
  unfold pagesAwaited
  extract_lets g
  have cmds : g.engine.cmds = [{ x with waited := true }] := by
    rw [bumpLive_engine, onEngine_engine, alone, List.map_singleton, if_pos paged]
  have mem : g.mem = h.mem := by rw [bumpLive_mem, onEngine_mem]
  have free : getF g BM_POOL_FREE 0 = getF h BM_POOL_FREE 0 := by rw [bumpLive_getF, onEngine_getF]
  have buffer : g.buffer = h.buffer := by rw [bumpLive_buffer, onEngine_buffer]
  split
  case isTrue waits => exact ⟨cmds, waits, by rw [buffer], free, mem⟩
  case isFalse =>
    rw [setF_engine, onBuffer_engine, setF_buffer, onBuffer_buffer, setF_mem, onBuffer_mem, getF_setF_key _ _ _ (by decide), onBuffer_getF, buffer]
    exact ⟨cmds, rfl, rfl, free, mem⟩

theorem exec_pagesFreed_none {slot : Nat} {s : State} (none : cmdAt s.hw slot = none) :
    exec (.pagesFreed slot) s = .next { s with hw := freePages (silent s.hw) slot } := by
  have none : cmdAt (silent s.hw) slot = Option.none := none
  change execPagesFreed slot s = _
  unfold execPagesFreed
  refine State.run_silent ?_
  rw [none]

/-! Order. -/

/-- A lone command has no earlier one. -/
theorem earlier_alone {h : Hw} {x : Cmd} (alone : h.engine.cmds = [x]) : earlier h x = [] := by
  simp [earlier, alone]

theorem released_alone {h : Hw} {x : Cmd} (alone : h.engine.cmds = [x]) : released h x = true := by
  rw [released, earlier_alone alone, List.all_nil]

theorem exec_orderRelease {x : Cmd} {s : State} (alone : s.hw.engine.cmds = [x]) (order : x.stage = .order) (undecided : x.verdict = none) :
    exec (.orderRelease x.slot) s = .next { s with hw := startSteps (silent s.hw) s.vault x } := by
  have alone : (silent s.hw).engine.cmds = [x] := alone
  have goes : x.stage = .order ∧ x.verdict.isNone = true ∧ released (silent s.hw) x = true :=
    ⟨order, by rw [undecided]; rfl, released_alone alone⟩
  change execOrderRelease x.slot s = _
  unfold execOrderRelease
  refine State.runBoth_silent ?_
  rw [cmdAt_alone alone]
  exact if_pos goes

/-- The pieces of a read-type command (R439). -/
def readPieces (h : Hw) (x : Cmd) : List Piece :=
  (split h x.nsid x.slba x.nlb).map (fun q => { entry := q.1, first := q.2.1, count := q.2.2, path := .read })

/-- The command of a slot is ready, and waits for its carriages from now. -/
def stepsStarted (h : Hw) (slot : Nat) : Hw := onCmd h slot (fun c => { c with stage := .ready, since := h.log.optime })

@[simp] theorem stepsStarted_regs (h : Hw) (slot : Nat) : (stepsStarted h slot).regs = h.regs := onCmd_regs h slot _
@[simp] theorem stepsStarted_mem (h : Hw) (slot : Nat) : (stepsStarted h slot).mem = h.mem := onCmd_mem h slot _

theorem startSteps_allFenced {h : Hw} (v : Vault) (x : Cmd) (fenced : allFenced h = true) :
    startSteps h v x = fail (stepsStarted h x.slot) x.slot stFenced := by
  have fenced : allFenced (stepsStarted h x.slot) = true := fenced
  exact if_pos fenced

theorem readPieces_fenced (h : Hw) (x : Cmd) :
    (readPieces h x).any (fun p => entryFenced (stepsStarted h x.slot) p.entry) = (split h x.nsid x.slba x.nlb).any (fun q => entryFenced h q.1) :=
  List.any_map

section
variable {h : Hw} {x : Cmd} (v : Vault) (read : x.opc = 2)
include read

theorem startSteps_fenced (fenced : (split h x.nsid x.slba x.nlb).any (fun q => entryFenced h q.1) = true) :
    startSteps h v x = fail (stepsStarted h x.slot) x.slot stFenced := by
  rw [← readPieces_fenced] at fenced
  have read : writes x = false ∧ reads x = true := by simp [writes, reads, read]
  unfold startSteps
  rw [read.1, read.2, if_neg Bool.false_ne_true, if_pos rfl]
  by_cases all : allFenced (stepsStarted h x.slot) = true
  · exact if_pos all
  · exact (if_neg all).trans (if_pos fenced)

theorem startSteps_read (whole : allFenced h = false) (clear : (split h x.nsid x.slba x.nlb).any (fun q => entryFenced h q.1) = false) :
    startSteps h v x = onCmd (stepsStarted h x.slot) x.slot (fun c => { c with pieces := readPieces h x }) := by
  rw [← readPieces_fenced] at clear
  have whole : allFenced (stepsStarted h x.slot) = false := whole
  have read : writes x = false ∧ reads x = true := by simp [writes, reads, read]
  unfold startSteps
  rw [read.1, read.2, if_neg Bool.false_ne_true, if_pos rfl]
  exact (if_neg (ne_true_of_eq_false whole)).trans ((if_neg (ne_true_of_eq_false clear)).trans rfl)

end

theorem stepsStarted_alone {h : Hw} {x : Cmd} (alone : h.engine.cmds = [x]) :
    (stepsStarted h x.slot).engine.cmds = [{ x with stage := .ready, since := h.log.optime }] := onCmd_alone alone _

/-- A command whose extents are fenced ends Extent Fenced as its steps start (R440). -/
theorem stepsStarted_fenced {h : Hw} {x : Cmd} (alone : h.engine.cmds = [x]) (undecided : x.verdict = none) (kept : x.committed = none) :
    (fail (stepsStarted h x.slot) x.slot stFenced).engine.cmds = [{ x with stage := .ready, since := h.log.optime, verdict := some stFenced }] :=
  fail_alone (x := { x with stage := .ready, since := h.log.optime }) (stepsStarted_alone alone) undecided kept stFenced

end Sys2Proof.Machine
end
section
/-! Write, Write Zeroes, Read, Verify, Flush and reservations of a command that is alone in flight (R423, R427, R443, R446, R451, R452). -/
namespace Sys2Proof.Machine

/-! Writes. -/

/-- A part of the block that does not look at the buffer is the same after blocks are written into a gallery. -/
theorem apply_blockWritten {α : Type} (π : Hw → α) (blind : ∀ h f, π (onBuffer h f) = π h) (h : Hw) (slot i : Nat) :
    π (blockWritten h slot i) = π h := by
  have beat : ∀ (h : Hw) (a : Nat), π (beatWritten h a) = π h := by
    intro h a
    unfold beatWritten
    split
    · exact blind h _
    · exact blind h _
    · rfl
  unfold blockWritten
  split
  · exact foldl_keeps π _ _ (fun h _ => beat h _) h
  · rfl

/-- The first `n` blocks of a slot's gallery are written. -/
def blocksWritten (h : Hw) (slot n : Nat) : Hw := (List.range n).foldl (fun h i => blockWritten h slot i) h

theorem apply_blocksWritten {α : Type} (π : Hw → α) (blind : ∀ h f, π (onBuffer h f) = π h) (h : Hw) (slot n : Nat) :
    π (blocksWritten h slot n) = π h :=
  foldl_keeps π _ _ (fun h i => apply_blockWritten π blind h slot i) h

@[simp] theorem blocksWritten_regs (h : Hw) (slot n : Nat) : (blocksWritten h slot n).regs = h.regs :=
  apply_blocksWritten (·.regs) onBuffer_regs h slot n
@[simp] theorem blocksWritten_mem (h : Hw) (slot n : Nat) : (blocksWritten h slot n).mem = h.mem :=
  apply_blocksWritten (·.mem) onBuffer_mem h slot n
@[simp] theorem blocksWritten_engine (h : Hw) (slot n : Nat) : (blocksWritten h slot n).engine = h.engine :=
  apply_blocksWritten (·.engine) onBuffer_engine h slot n

@[simp] theorem refuseCmd_regs (h : Hw) (slot st : Nat) : (refuseCmd h slot st).regs = h.regs := (rfl)
@[simp] theorem refuseCmd_mem (h : Hw) (slot st : Nat) : (refuseCmd h slot st).mem = h.mem := (rfl)

theorem refuseCmd_alone {h : Hw} {x : Cmd} (alone : h.engine.cmds = [x]) (undecided : x.verdict = none) (kept : x.committed = none) (st : Nat) :
    (refuseCmd h x.slot st).engine.cmds = [{ x with verdict := some st, pieces := [], stage := .ready }] :=
  onCmd_alone (fail_alone alone undecided kept st) _

section
variable {x : Cmd} {s : State} (alone : s.hw.engine.cmds = [x]) (host : x.source = .host) (early : x.inGallery = false)
  (undecided : x.verdict = none) (kept : x.committed = none)
include alone host early undecided kept

section
variable (write : x.opc = 1) (paged : x.stage ≠ .pages) (posts : x.noPost = false)
include write paged posts

theorem exec_writeCommand_failed (l m : List Nat) :
    exec (.writeCommand x.slot l m true) s = .next { s with hw := refuseCmd (silent s.hw) x.slot stTransfer } := by
  have takes : ¬ (x.opc ≠ 1 ∨ x.source ≠ .host ∨ x.stage = .pages ∨ x.inGallery = true ∨ x.verdict.isSome = true ∨ x.committed.isSome = true ∨
      x.noPost = true) := by simp [write, host, paged, early, undecided, kept, posts]
  have alone : (silent s.hw).engine.cmds = [x] := alone
  change execWriteCommand x.slot l m true s = _
  unfold execWriteCommand
  refine State.run_silent ?_
  rw [cmdAt_alone alone]
  exact (if_neg takes).trans (if_pos rfl)

/-- A write's data enter its gallery, unless its protection checks fail: then it ends with their status (R427, R443). -/
theorem exec_writeCommand {l m : List Nat} (whole : l.length = x.nlb)
    (metas : ¬ ((space s.hw x.nsid).fmt = 1 ∧ (!(makesMeta (space s.hw x.nsid) x.prot)) = true ∧ m.length ≠ x.nlb)) {st : Nat}
    (checked : (if makesMeta (space s.hw x.nsid) x.prot then 0 else commandProt (space s.hw x.nsid) (acceptData (space s.hw x.nsid) x l m)) = st) :
    exec (.writeCommand x.slot l m false) s = .next { s with
      hw := if st ≠ 0 then refuseCmd (silent s.hw) x.slot st
        else blocksWritten (onCmd (silent s.hw) x.slot (fun c => acceptData (space s.hw x.nsid) c l m)) x.slot x.nlb } := by
  have takes : ¬ (x.opc ≠ 1 ∨ x.source ≠ .host ∨ x.stage = .pages ∨ x.inGallery = true ∨ x.verdict.isSome = true ∨ x.committed.isSome = true ∨
      x.noPost = true) := by simp [write, host, paged, early, undecided, kept, posts]
  have alone : (silent s.hw).engine.cmds = [x] := alone
  have fits := not_or.mpr ⟨not_not.mpr whole, metas⟩
  subst checked
  change execWriteCommand x.slot l m false s = _
  unfold execWriteCommand
  refine State.run_silent ?_
  rw [cmdAt_alone alone]
  exact (if_neg takes).trans ((if_neg Bool.false_ne_true).trans (if_neg fits))

end

theorem exec_writeZeroes (zeroes : x.opc = 8) :
    exec (.writeZeroes x.slot) s = .next { s with hw := onCmd (silent s.hw) x.slot (fun c => acceptData (space s.hw c.nsid) c [] []) } := by
  have takes : x.opc = 8 ∧ x.source = .host ∧ (!x.inGallery) = true ∧ x.verdict.isNone = true ∧ x.committed.isNone = true := by
    simp [zeroes, host, early, undecided, kept]
  have alone : (silent s.hw).engine.cmds = [x] := alone
  change execWriteZeroes x.slot s = _
  unfold execWriteZeroes
  refine State.run_silent ?_
  rw [cmdAt_alone alone]
  exact if_pos takes

end

/-- Without metadata, a write's data are its blocks (R428). -/
theorem acceptData_plain {n : Nspace} (plain : n.fmt ≠ 1) (c : Cmd) (l m : List Nat) :
    acceptData n c l m = { c with inGallery := true, blocks := byLba c.slba c.nlb (fun i => l.getD i 0 % 2 ^ 32768) } := if_pos plain

theorem makesMeta_plain {n : Nspace} (plain : n.fmt ≠ 1) (q : Prot) : makesMeta n q = false := by
  rw [makesMeta, beq_false_of_ne plain, Bool.false_and, Bool.false_and]

theorem commandProt_plain {n : Nspace} (plain : n.fmt ≠ 1) (c : Cmd) : commandProt n c = 0 := if_pos plain

/-! Reads. -/

section
variable {h : Hw} {x : Cmd} (alone : h.engine.cmds = [x])
include alone

/-- A lone command is the next on every carriage (R446). -/
theorem nextAllows_alone (k : Nat) : nextAllows h k x = true := by
  unfold nextAllows
  split
  case h_1 y found =>
    rw [alone] at found
    rw [List.mem_singleton.mp (List.mem_of_find?_eq_some found), beq_self_eq_true]
  case h_2 =>
    rw [leastAccess, alone, List.all_cons, List.all_nil, Bool.and_true, decide_eq_true (Nat.le_refl _), Bool.or_true]

/-- No gallery holds a block that a lone read wants (R451). -/
theorem galleryOf_alone (a : Nat) : galleryOf h x a = none := by
  rw [galleryOf, earlier_alone alone]
  rfl

theorem fromGallery_alone {p : Piece} (filled : 0 < p.count) : fromGallery h x p = false := by
  obtain ⟨n, count⟩ := Nat.exists_eq_succ_of_ne_zero (Nat.ne_of_gt filled)
  rw [fromGallery, count, List.range_succ_eq_map, List.all_cons, galleryOf_alone alone]
  rfl

/-- What a lone read's only piece becomes, which no gallery serves and no fence stops. -/
def pieceRead (bad : List Nat) (p : Piece) : Piece := if bad.contains 0 then { p with st := .failed stReadError } else { p with st := .started }

/-- The lone read of slot `slot` with its piece sent to the carriage. -/
def readSent (h : Hw) (x : Cmd) (q : Piece) : Hw :=
  onCmd h x.slot (fun c => { c with blocks := x.blocks, metas := x.metas, pieces := [q], inGallery := q.st == .done })

/-- A lone read sends its piece to the carriage (R451). -/
theorem startRead_alone {p : Piece} (one : x.pieces = [p]) (empty : x.blocks = []) (filled : 0 < p.count) (sound : onFencedHead h p = false)
    (bad : List Nat) :
    startRead h x bad =
      if bad.contains 0 then fail (readSent h x (pieceRead bad p)) x.slot stReadError else readSent h x (pieceRead bad p) := by
  unfold startRead
  extract_lets lbas blocks metas whole pieces sent
  have noBlocks : blocks = x.blocks := List.foldl_fixed' (fun a => by rw [galleryBlock, galleryOf_alone alone]; rfl) lbas
  have noMetas : metas = x.metas := by
    simp only [metas]
    split
    · rfl
    · exact List.foldl_fixed' (fun a => by rw [galleryOf_alone alone]) lbas
  have missing : whole p = false := by
    obtain ⟨n, count⟩ := Nat.exists_eq_succ_of_ne_zero (Nat.ne_of_gt filled)
    simp only [whole]
    rw [noBlocks, empty, count, List.range_succ_eq_map, List.all_cons]
    rfl
  have piece : pieces = [pieceRead bad p] := by
    simp only [pieces]
    rw [one, List.mapIdx_singleton, missing, sound, if_neg Bool.false_ne_true, if_neg Bool.false_ne_true, pieceRead]
  have sent : sent = readSent h x (pieceRead bad p) := by
    simp only [sent]
    rw [noBlocks, noMetas, piece, List.all_cons, List.all_nil, Bool.and_true, readSent]
  rw [sent, piece, pieceRead]
  split <;> rfl

/-- A lone read whose carriage is free starts at once (R446-R448). -/
theorem readStart_alone {p : Piece} {opc : Nat} (code : x.opc = opc) (ready : x.stage = .ready) (undecided : x.verdict = none) (one : x.pieces = [p])
    (waits : p.st = .waiting) (filled : 0 < p.count) (idle : (cal h (extent h p.entry).car).step = none)
    (turn : hostTurn h (extent h p.entry).car = true) (room : (!(writes x) || writerFree h (extent h p.entry).car) = true) (bad : List Nat) :
    readStart h opc x.slot bad = noteIssue (startRead h x bad) (extent h p.entry).car false := by
  have starts : x.opc = opc ∧ x.stage = .ready ∧ x.verdict.isNone = true ∧ x.pieces ≠ [] ∧ x.pieces.all (fun p => p.st == .waiting) = true := by
    simp [code, ready, undecided, one, waits]
  have cars : ((x.pieces.filter (fun p => !(fromGallery h x p))).map (fun p => (extent h p.entry).car)).eraseDups = [(extent h p.entry).car] := by
    rw [one, List.filter_cons_of_pos (by rw [fromGallery_alone alone filled]; rfl)]
    rfl
  have issue : mayIssue h (extent h p.entry).car x = true := by rw [mayIssue, nextAllows_alone alone, turn, room]; rfl
  unfold readStart
  rw [cmdAt_alone alone]
  dsimp only
  rw [if_pos starts, cars, List.filter_cons_of_neg (by rw [idle]; decide), List.filter_nil, if_neg (by decide), List.all_cons, issue, List.all_nil,
    if_pos (by decide), List.foldl_cons, List.foldl_nil]

theorem readSent_alone (q : Piece) : (readSent h x q).engine.cmds = [{ x with pieces := [q], inGallery := q.st == .done }] := onCmd_alone alone _

end

@[simp] theorem readSent_regs (h : Hw) (x : Cmd) (q : Piece) : (readSent h x q).regs = h.regs := (rfl)
@[simp] theorem readSent_mem (h : Hw) (x : Cmd) (q : Piece) : (readSent h x q).mem = h.mem := (rfl)

section
variable (h : Hw) (c : Nat) (destage : Bool)

@[simp] theorem noteIssue_regs : (noteIssue h c destage).regs = h.regs := by unfold noteIssue; split <;> rfl
@[simp] theorem noteIssue_mem : (noteIssue h c destage).mem = h.mem := by unfold noteIssue; split <;> rfl
@[simp] theorem noteIssue_cmds : (noteIssue h c destage).engine.cmds = h.engine.cmds := by unfold noteIssue; split <;> rfl

end

/-- What a lone read-type command of opcode `opc` leaves when it starts. -/
theorem readStart_shows {h : Hw} {x : Cmd} {p : Piece} {opc : Nat} (alone : h.engine.cmds = [x]) (code : x.opc = opc) (ready : x.stage = .ready)
    (undecided : x.verdict = none) (one : x.pieces = [p]) (waits : p.st = .waiting) (empty : x.blocks = []) (filled : 0 < p.count)
    (idle : (cal h (extent h p.entry).car).step = none) (turn : hostTurn h (extent h p.entry).car = true)
    (room : (!(writes x) || writerFree h (extent h p.entry).car) = true) (sound : onFencedHead h p = false) :
    ((readStart h opc x.slot []).engine.cmds = [{ x with pieces := [{ p with st := .started }], inGallery := false }] ∧
      (readStart h opc x.slot []).regs = h.regs ∧ (readStart h opc x.slot []).mem = h.mem) ∧
    (x.committed = none →
      (readStart h opc x.slot [0]).engine.cmds =
        [{ x with pieces := [{ p with st := .failed stReadError }], inGallery := false, verdict := some stReadError }] ∧
      (readStart h opc x.slot [0]).regs = h.regs ∧ (readStart h opc x.slot [0]).mem = h.mem) := by
  have starts := readStart_alone alone code ready undecided one waits filled idle turn room
  have sends := startRead_alone alone one empty filled sound
  constructor
  · rw [starts, sends, if_neg (by decide), noteIssue_cmds, noteIssue_regs, noteIssue_mem, readSent_regs, readSent_mem, readSent_alone alone]
    exact ⟨rfl, rfl, rfl⟩
  · intro kept
    rw [starts, sends, if_pos (by decide), noteIssue_cmds, noteIssue_regs, noteIssue_mem, fail_regs, fail_mem, readSent_regs, readSent_mem]
    exact ⟨fail_alone (x := { x with pieces := [pieceRead [0] p], inGallery := (pieceRead [0] p).st == .done }) (readSent_alone alone _) undecided kept
      stReadError, rfl, rfl⟩

theorem exec_readCommand (slot : Nat) (bad : List Nat) (s : State) :
    exec (.readCommand slot bad) s = .next { s with hw := readStart (silent s.hw) 2 slot bad } := by
  change execReadCommand slot bad s = _
  exact State.run_silent rfl

theorem exec_verifyCommand (slot : Nat) (bad : List Nat) (s : State) :
    exec (.verifyCommand slot bad) s = .next { s with hw := readStart (silent s.hw) 0xC slot bad } := by
  change execVerifyCommand slot bad s = _
  exact State.run_silent rfl

/-! Flush. -/

theorem exec_flush {x : Cmd} {s : State} (alone : s.hw.engine.cmds = [x]) (flush : x.opc = 0) (ready : x.stage = .ready) :
    exec (.flush x.slot) s = .next { s with hw := fail (silent s.hw) x.slot stOk } := by
  have alone : (silent s.hw).engine.cmds = [x] := alone
  have ends : x.opc = 0 ∧ x.stage = .ready ∧
      (!((earlier (silent s.hw) x).any (fun e => writes e && e.port == x.port && e.sq == x.sq && e.source == .host))) = true :=
    ⟨flush, ready, by rw [earlier_alone alone]; rfl⟩
  change execFlush x.slot s = _
  unfold execFlush
  refine State.run_silent ?_
  rw [cmdAt_alone alone]
  exact if_pos ends

end Sys2Proof.Machine
end
section
/-! Reservations of a command that is alone in flight (R423 and the NVMe specification). -/
namespace Sys2Proof.Machine

@[simp] theorem space_silent (h : Hw) (n : Nat) : space (silent h) n = space h n := rfl
@[simp] theorem mirrors_silent (h : Hw) : mirrors (silent h) = mirrors h := rfl
@[simp] theorem registrant_silent (h : Hw) (n p : Nat) : registrant (silent h) n p = registrant h n p := rfl
@[simp] theorem holds_silent (h : Hw) (n p : Nat) : holds (silent h) n p = holds h n p := rfl

theorem reservation_alone {h : Hw} {x : Cmd} {opc : Nat} (alone : h.engine.cmds = [x]) (code : x.opc = opc) (ready : x.stage = .ready)
    (undecided : x.verdict = none) (kept : x.committed = none) (f : Hw → Cmd → Hw × Nat) :
    reservation h opc x.slot f = fail (f h x).1 x.slot (f h x).2 := by
  have takes : x.opc = opc ∧ x.stage = .ready ∧ x.verdict.isNone = true ∧ x.committed.isNone = true := by simp [code, ready, undecided, kept]
  rw [reservation, cmdAt_alone alone]
  exact if_pos takes

theorem keyed_registrant {h : Hw} {n p : Nat} {r : Registrant} (here : registrant h n p = some r) : keyed h n p false r.key = true := by
  rw [keyed, here]
  exact beq_self_eq_true _

section
variable {x : Cmd} {s : State} (alone : s.hw.engine.cmds = [x]) (ready : x.stage = .ready) (undecided : x.verdict = none) (kept : x.committed = none)
include alone ready undecided kept

theorem exec_register (code : x.opc = 13) (single : mirrors s.hw = false) (fresh : (space s.hw x.nsid).regs = []) (ck k : Nat) :
    exec (.reservationRegister x.slot 0 false ck k 0) s = .next { s with
      hw := fail (onSpace (silent s.hw) x.nsid (fun n =>
        { n with
          regs := n.regs ++ [{ ctrl := x.port, key := k % 2 ^ 64, hostId := hostIdOf (silent s.hw) x.port }]
          rgen := (n.rgen + 1) % 2 ^ 32 })) x.slot stOk } := by
  have none : registrant (silent s.hw) x.nsid x.port = none := by rw [registrant, space_silent, fresh]; rfl
  change execReservationRegister _ _ _ _ _ _ s = _
  unfold execReservationRegister
  refine State.run_silent ((reservation_alone (h := silent s.hw) alone code ready undecided kept _).trans ?_)
  dsimp only
  rw [none, if_pos rfl]
  dsimp only
  rw [mirrorState_alone (by rw [mirrors_onSpace, mirrors_silent, single])]
  rfl

theorem exec_acquire (code : x.opc = 17) (single : mirrors s.hw = false) (free : (space s.hw x.nsid).rtype = 0) {r : Registrant}
    (here : registrant s.hw x.nsid x.port = some r) :
    exec (.reservationAcquire x.slot 0 false r.key 0 1) s = .next { s with
      hw := fail (onSpace (silent s.hw) x.nsid (fun n => { n with rtype := 1, holder := x.port })) x.slot stOk } := by
  have key : keyed (silent s.hw) x.nsid x.port false r.key = true := keyed_registrant here
  change execReservationAcquire _ _ _ _ _ _ s = _
  unfold execReservationAcquire
  refine State.run_silent ((reservation_alone (h := silent s.hw) alone code ready undecided kept _).trans ?_)
  dsimp only
  rw [if_neg (by decide), key, if_neg (by decide), if_pos rfl, space_silent, if_pos free,
    mirrorState_alone (by rw [mirrors_onSpace, mirrors_silent, single])]

theorem exec_acquire_stranger (code : x.opc = 17) (stranger : registrant s.hw x.nsid x.port = none) (k : Nat) :
    exec (.reservationAcquire x.slot 0 false k 0 1) s = .next { s with hw := fail (silent s.hw) x.slot stReservation } := by
  have key : keyed (silent s.hw) x.nsid x.port false k = false := by rw [keyed, registrant_silent, stranger]
  change execReservationAcquire _ _ _ _ _ _ s = _
  unfold execReservationAcquire
  refine State.run_silent ((reservation_alone (h := silent s.hw) alone code ready undecided kept _).trans ?_)
  dsimp only
  rw [if_neg (by decide), key, if_pos (by decide)]

theorem exec_release (code : x.opc = 21) (single : mirrors s.hw = false) (exclusive : (space s.hw x.nsid).rtype = 1)
    (holder : holds s.hw x.nsid x.port = true) {r : Registrant} (here : registrant s.hw x.nsid x.port = some r) :
    exec (.reservationRelease x.slot 0 false r.key 1) s = .next { s with
      hw := fail (onSpace (silent s.hw) x.nsid (fun n => { n with rtype := 0, holder := 0 })) x.slot stOk } := by
  have key : keyed (silent s.hw) x.nsid x.port false r.key = true := keyed_registrant here
  change execReservationRelease _ _ _ _ _ s = _
  unfold execReservationRelease
  refine State.run_silent ((reservation_alone (h := silent s.hw) alone code ready undecided kept _).trans ?_)
  dsimp only
  rw [if_neg (by decide), key, if_neg (by decide), if_neg (by decide), space_silent, exclusive, holds_silent, holder, if_neg (by decide),
    if_neg (by decide), if_neg (by decide), mirrorState_alone (by rw [mirrors_onSpace, mirrors_silent, single])]

theorem exec_report (code : x.opc = 0x0E) (n : Nat) :
    exec (.reservationReport x.slot n) s = .next { s with
      hw := fail (emit (silent s.hw) (.host x.port x.addr ((reservationBytes (space s.hw x.nsid)).take (4 * (n + 1))))) x.slot stOk } := by
  change execReservationReport _ _ s = _
  unfold execReservationReport
  exact State.run_silent (reservation_alone (h := silent s.hw) alone code ready undecided kept _)

end

/-! The places that a read looks at. -/

theorem positionsOn_silent (h : Hw) (c hd track : Nat) : positionsOn (silent h) c hd track = positionsOn h c hd track := rfl

theorem onTrack_silent (h : Hw) (c track n hd p : Nat) : onTrack (silent h) c track n hd p = onTrack h c track n hd p := by
  induction n generalizing hd p with
  | zero => rfl
  | succ n ih => simp only [onTrack, positionsOn_silent, ih]

theorem landPlaceFrom_silent (h : Hw) (c n track p : Nat) : landPlaceFrom (silent h) c n track p = landPlaceFrom h c n track p := by
  induction n generalizing track p with
  | zero => rfl
  | succ n ih =>
    simp only [landPlaceFrom, positionsOn_silent, onTrack_silent, ih]
    rfl

theorem onFencedHead_silent (h : Hw) (p : Piece) : onFencedHead (silent h) p = onFencedHead h p := by
  have place : ∀ c q, landPlace (silent h) c q = landPlace h c q := fun c q => landPlaceFrom_silent h c (q + 1) 0 q
  simp only [onFencedHead, place]
  rfl

/-- Which slot is free does not depend on the outputs. -/
theorem freeSlotOf_silent (h : Hw) : freeSlotOf (silent h) = freeSlotOf h := by
  unfold freeSlotOf
  rw [silent_engine, silent_buffer]

/-- What a reservation command that changes its namespace leaves. -/
theorem fail_onSpace_shows {h : Hw} {x : Cmd} (alone : h.engine.cmds = [x]) (undecided : x.verdict = none) (kept : x.committed = none)
    (f : Nspace → Nspace) :
    (fail (onSpace (silent h) x.nsid f) x.slot stOk).engine.cmds = [{ x with verdict := some stOk }] ∧
    space (fail (onSpace (silent h) x.nsid f) x.slot stOk) x.nsid = f (space h x.nsid) ∧
    (fail (onSpace (silent h) x.nsid f) x.slot stOk).regs = h.regs ∧ (fail (onSpace (silent h) x.nsid f) x.slot stOk).mem = h.mem :=
  ⟨fail_alone (h := onSpace (silent h) x.nsid f) alone undecided kept stOk, by rw [space, fail_spaces, ← space, space_onSpace, space_silent], by simp, by simp⟩

/-- Settles O21: each command takes the branch of its meaning that its hypotheses leave, and what it leaves is read off that branch. -/
theorem hostCommandsComplete : Obligations.HostCommandsComplete := by
  refine ⟨?fetched, ?refused, ?pages, ?noPages, ?freed, ?readSteps, ?fencedRead, ?allFenced, ?written, ?writeFailed, ?writtenMeta, ?zeroes, ?read, ?verify,
    ?badRead, ?flush, ?register, ?acquire, ?stranger, ?release, ?report⟩
  case fetched =>
    intro p sq l e s io awake domain fetching on room chosen accepted write
    refine ⟨_, exec_commandFetch io awake domain fetching on room chosen, ?_, ?_, ?_, rfl, rfl⟩
    · rw [commandTaken_cmds, accepted, fetchedCmd, write, freeSlotOf_silent]
      rfl
    · rw [commandTaken_isn, silent_engine]
    · rw [commandTaken_mem, silent_mem]
  case refused =>
    intro p sq l e s io awake domain fetching on room chosen refused
    refine ⟨_, exec_commandFetch io awake domain fetching on room chosen, ?_, ?_, ?_, ?_, rfl, rfl⟩
    · rw [commandTaken_cmds, List.map_append, List.map_singleton, List.getLast?_concat, fetchedCmd, if_pos refused, if_pos refused]
    · rw [commandTaken_cmds, List.length_append, List.length_singleton, silent_engine]
    · rw [commandTaken_isn, silent_engine]
    · rw [commandTaken_mem, silent_mem]
  case pages =>
    intro x s alone paged enough
    refine ⟨_, exec_pagesAllocated_enough alone paged enough, onCmd_alone (h := pagesTaken (silent s.hw) x) ?_ _, ?_, ?_, by simp, rfl, rfl⟩
    · rw [pagesTaken_cmds, silent_engine, alone]
    · exact (getF_of_regs (onCmd_regs _ _ _) _ _).trans (pagesTaken_free (silent s.hw) x)
    · exact pagesTaken_waiting (silent s.hw) x
  case noPages =>
    intro x s alone paged short
    obtain ⟨news, run⟩ := exec_pagesAllocated_short alone paged short
    obtain ⟨cmds, waits, pages, free, mem⟩ := pagesAwaited_shows (h := silent s.hw) alone paged news
    exact ⟨_, run, cmds, waits, pages, free, mem, rfl, rfl⟩
  case freed =>
    intro slot s none
    exact ⟨_, exec_pagesFreed_none none, fun q here o n owned => freePages_owners here owned, by simp, by simp, rfl, rfl⟩
  case readSteps =>
    intro x s alone order undecided read whole clear
    refine ⟨_, exec_orderRelease alone order undecided, ?_⟩
    rw [startSteps_read (h := silent s.hw) s.vault read whole clear]
    exact ⟨onCmd_alone (x := { x with stage := .ready, since := s.hw.log.optime }) (stepsStarted_alone (h := silent s.hw) alone) _, by simp, by simp, rfl, rfl⟩
  case fencedRead =>
    intro x s alone order undecided kept read fenced
    refine ⟨_, exec_orderRelease alone order undecided, ?_⟩
    rw [startSteps_fenced (h := silent s.hw) s.vault read fenced]
    exact ⟨stepsStarted_fenced (h := silent s.hw) alone undecided kept, by simp, by simp, rfl, rfl⟩
  case allFenced =>
    intro x s alone order undecided kept fenced
    refine ⟨_, exec_orderRelease alone order undecided, ?_⟩
    rw [startSteps_allFenced (h := silent s.hw) s.vault x fenced]
    exact ⟨stepsStarted_fenced (h := silent s.hw) alone undecided kept, by simp, by simp, rfl, rfl⟩
  case written =>
    intro x l m s alone write host paged early undecided kept posts plain whole
    refine ⟨_, exec_writeCommand alone host early undecided kept write paged posts whole (fun h => plain h.1) (st := 0) ?_, ?_⟩
    · rw [makesMeta_plain plain, if_neg Bool.false_ne_true, commandProt_plain plain]
    · rw [if_neg (not_not.mpr rfl), blocksWritten_engine, blocksWritten_regs, blocksWritten_mem, onCmd_alone (h := silent s.hw) alone,
        acceptData_plain plain]
      exact ⟨rfl, by simp, by simp, rfl, rfl⟩
  case writeFailed =>
    intro x l m s alone write host paged early undecided kept posts
    exact ⟨_, exec_writeCommand_failed alone host early undecided kept write paged posts l m,
      refuseCmd_alone (h := silent s.hw) alone undecided kept stTransfer, by simp, by simp, rfl, rfl⟩
  case writtenMeta =>
    intro x l m s alone write host paged early undecided kept posts format given whole metas
    refine ⟨_, exec_writeCommand alone host early undecided kept write paged posts whole (fun h => h.2.2 metas) rfl, ?_⟩
    rw [given, if_neg Bool.false_ne_true]
    split
    case isTrue failed =>
      refine ⟨fun passed => absurd passed failed, fun _ => refuseCmd_alone (h := silent s.hw) alone undecided kept _, by simp, by simp, rfl, rfl⟩
    case isFalse passed =>
      rw [blocksWritten_engine, blocksWritten_regs, blocksWritten_mem, onCmd_alone (h := silent s.hw) alone]
      exact ⟨fun _ => rfl, fun failed => absurd failed passed, by simp, by simp, rfl, rfl⟩
  case zeroes =>
    intro x s alone zeroes host early undecided kept plain
    refine ⟨_, exec_writeZeroes alone host early undecided kept zeroes, ?_⟩
    rw [onCmd_alone (h := silent s.hw) alone, acceptData_plain plain]
    refine ⟨?_, by simp, by simp, rfl, rfl⟩
    simp only [List.getD_nil, Nat.zero_mod]
  case read =>
    intro x p s alone code ready undecided one waits empty _ filled idle turn room sound
    obtain ⟨⟨cmds, regs, mem⟩, -⟩ := readStart_shows (h := silent s.hw) alone code ready undecided one waits empty filled idle turn room
      ((onFencedHead_silent s.hw p).trans sound)
    exact ⟨_, exec_readCommand _ _ s, cmds, regs, mem, rfl, rfl⟩
  case verify =>
    intro x p s alone code ready undecided one waits empty _ filled idle turn room sound
    obtain ⟨⟨cmds, regs, mem⟩, -⟩ := readStart_shows (h := silent s.hw) alone code ready undecided one waits empty filled idle turn room
      ((onFencedHead_silent s.hw p).trans sound)
    exact ⟨_, exec_verifyCommand _ _ s, cmds, regs, mem, rfl, rfl⟩
  case badRead =>
    intro x p s alone code ready undecided kept one waits empty _ filled idle turn room sound
    obtain ⟨-, bad⟩ := readStart_shows (h := silent s.hw) alone code ready undecided one waits empty filled idle turn room
      ((onFencedHead_silent s.hw p).trans sound)
    obtain ⟨cmds, regs, mem⟩ := bad kept
    exact ⟨_, exec_readCommand _ _ s, cmds, regs, mem, rfl, rfl⟩
  case flush =>
    intro x s alone flush ready undecided kept
    exact ⟨_, exec_flush alone flush ready, fail_alone (h := silent s.hw) alone undecided kept stOk, by simp, by simp, rfl, rfl⟩
  case register =>
    intro x k ck s alone code ready undecided kept single fresh
    obtain ⟨cmds, shown, regs, mem⟩ := fail_onSpace_shows alone undecided kept (fun n =>
      { n with
        regs := n.regs ++ [{ ctrl := x.port, key := k % 2 ^ 64, hostId := hostIdOf (silent s.hw) x.port }]
        rgen := (n.rgen + 1) % 2 ^ 32 })
    rw [fresh, List.nil_append] at shown
    exact ⟨_, exec_register alone ready undecided kept code single fresh ck k, cmds, shown, regs, mem, rfl, rfl⟩
  case acquire =>
    intro x k r s alone code ready undecided kept single free here key
    obtain ⟨cmds, shown, regs, mem⟩ := fail_onSpace_shows alone undecided kept (fun n => { n with rtype := 1, holder := x.port })
    subst key
    exact ⟨_, exec_acquire alone ready undecided kept code single free here, cmds, shown, regs, mem, rfl, rfl⟩
  case stranger =>
    intro x k s alone code ready undecided kept _ stranger
    exact ⟨_, exec_acquire_stranger alone ready undecided kept code stranger k,
      fail_alone (h := silent s.hw) alone undecided kept stReservation, by simp, by simp, by simp, rfl, rfl⟩
  case release =>
    intro x k r s alone code ready undecided kept single exclusive holder here key
    obtain ⟨cmds, shown, regs, mem⟩ := fail_onSpace_shows alone undecided kept (fun n => { n with rtype := 0, holder := 0 })
    subst key
    exact ⟨_, exec_release alone ready undecided kept code single exclusive holder here, cmds, shown, regs, mem, rfl, rfl⟩
  case report =>
    intro x n s alone code ready undecided kept
    refine ⟨_, exec_report alone ready undecided kept code n, fail_alone (h := emit (silent s.hw) _) alone undecided kept stOk, ?_, by simp, by simp, rfl, rfl⟩
    rw [fail_out, emit_out, silent_out, List.nil_append]

end Sys2Proof.Machine
end
section
/-! The twin's state, its messages and the loss of its partner (R568-R573, R579, R581, R583, R584). -/
namespace Sys2Proof.Machine

/-! The state and the pair record. -/

theorem writePairRecord_twin (h : Hw) :
    (writePairRecord h).twin = { h.twin with recState := twinState h, recSolow := flagF h HQ_TWIN_SOLOW 0, recMseq := h.twin.mseqOut } := (rfl)

section
variable (h : Hw) (st : Nat)

@[simp] theorem setTwinState_engine : (setTwinState h st).engine = h.engine := by
  rw [setTwinState, writePairRecord, onTwin_engine, setF_engine]
@[simp] theorem setTwinState_mem : (setTwinState h st).mem = h.mem := by
  rw [setTwinState, writePairRecord, onTwin_mem, setF_mem]

theorem twinState_setF {st : Nat} (small : st < 8) : twinState (setF h HQ_TWIN_STATE 0 st) = st := by
  rw [twinState, getF_setF_self _ _ _ _ (by decide)]
  exact Nat.mod_eq_of_lt small

theorem twinState_setTwinState {st : Nat} (small : st < 8) : twinState (setTwinState h st) = st := by
  rw [twinState, setTwinState, writePairRecord, onTwin_getF]
  exact twinState_setF h small

/-- The state stands apart from the other fields of its register. -/
theorem getF_setF_state {g : Fld} (apart : g ∈ [HQ_TWIN_PEERUP, HQ_TWIN_SOLOW, HQ_TWIN_SRC]) : getF (setF h HQ_TWIN_STATE 0 st) g 0 = getF h g 0 := by
  refine getF_setF_apart h HQ_TWIN_STATE g 0 st ?_
  revert g
  decide

theorem setTwinState_getF {g : Fld} (apart : g ∈ [HQ_TWIN_PEERUP, HQ_TWIN_SOLOW, HQ_TWIN_SRC]) : getF (setTwinState h st) g 0 = getF h g 0 := by
  rw [setTwinState, writePairRecord, onTwin_getF, getF_setF_state h st apart]

theorem setTwinState_twin {st : Nat} (small : st < 8) :
    (setTwinState h st).twin = { h.twin with recState := st, recSolow := flagF h HQ_TWIN_SOLOW 0, recMseq := h.twin.mseqOut } := by
  rw [setTwinState, writePairRecord_twin, twinState_setF h small, flagF, getF_setF_state h st (g := HQ_TWIN_SOLOW) (by decide), setF_twin, flagF]

end

/-- The state is told by the registers alone. -/
theorem twinState_of_regs {g h : Hw} (same : g.regs = h.regs) : twinState g = twinState h := getF_of_regs same HQ_TWIN_STATE 0

@[simp] theorem twinState_silent (h : Hw) : twinState (silent h) = twinState h := rfl
@[simp] theorem twinRole_silent (h : Hw) : twinRole (silent h) = twinRole h := rfl
@[simp] theorem silent_twin (h : Hw) : (silent h).twin = h.twin := rfl
@[simp] theorem twinState_taken (h : Hw) (p : Nat) : twinState (taken h p) = twinState h := twinState_of_regs (taken_regs h p)
@[simp] theorem twinRole_taken (h : Hw) (p : Nat) : twinRole (taken h p) = twinRole h := apply_taken twinRole (fun _ _ _ _ => rfl) h p
@[simp] theorem twinState_onTwin (h : Hw) (f : Twin → Twin) : twinState (onTwin h f) = twinState h := rfl

/-! A pairing that ends without a pair (R433). -/

theorem endPairing_shows (h : Hw) :
    twinState (endPairing h) = 0 ∧ (endPairing h).twin.pdid = 0 ∧ (endPairing h).twin.pairing = none ∧ (endPairing h).engine = h.engine ∧
    (endPairing h).mem = h.mem := by
  rw [endPairing, twinState_setTwinState _ (by decide), setTwinState_twin _ (by decide), setTwinState_engine, setTwinState_mem]
  exact ⟨rfl, rfl, rfl, rfl, rfl⟩

theorem failPair_shows {h : Hw} {cid w : Nat} (pairing : h.twin.pairing = some (cid, w)) (st : Nat) :
    twinState (failPair h st) = 0 ∧ (failPair h st).twin.pdid = 0 ∧ (failPair h st).twin.pairing = none ∧
    (failPair h st).engine.posting = h.engine.posting ++ [(h.twin.port, 0, cid, 0, st, 0)] ∧ (failPair h st).mem = h.mem := by
  obtain ⟨state, pdid, none, engine, mem⟩ := endPairing_shows h
  rw [failPair, pairing]
  dsimp only
  rw [twinState_of_regs (adminDone_regs _ _ _ _ _), adminDone_twin, adminDone_posting, adminDone_mem, engine]
  exact ⟨state, pdid, none, rfl, mem⟩

/-! Messages. -/

/-- What the memory shows comes from the memory, the extent map and the page chain table (R475). -/
theorem memWord_congr {g h : Hw} (engine : g.engine = h.engine) (buffer : g.buffer = h.buffer) (mem : g.mem = h.mem) (a n : Nat) :
    memWord g a n = memWord h a n := by
  have byte : ∀ a, memByte g a = memByte h a := fun a => by
    unfold memByte extent pageWord
    rw [engine, buffer, mem]
  have bytes : ∀ a, memBytes g a n = memBytes h a n := by
    induction n with
    | zero => exact fun _ => rfl
    | succ n ih => exact fun a => by rw [memBytes, memBytes, byte, ih]
  rw [memWord, memWord, bytes]

@[simp] theorem peerWrite_twin (h : Hw) (off : Nat) (bytes : List (BitVec 8)) : (peerWrite h off bytes).twin = h.twin := (rfl)
@[simp] theorem peerWrite_mem (h : Hw) (off : Nat) (bytes : List (BitVec 8)) : (peerWrite h off bytes).mem = h.mem := (rfl)
@[simp] theorem peerWrite_regs (h : Hw) (off : Nat) (bytes : List (BitVec 8)) : (peerWrite h off bytes).regs = h.regs := (rfl)
@[simp] theorem peerWrite_engine (h : Hw) (off : Nat) (bytes : List (BitVec 8)) : (peerWrite h off bytes).engine = h.engine := (rfl)
@[simp] theorem peerWrite_buffer (h : Hw) (off : Nat) (bytes : List (BitVec 8)) : (peerWrite h off bytes).buffer = h.buffer := (rfl)
theorem peerWrite_out (h : Hw) (off : Nat) (bytes : List (BitVec 8)) :
    (peerWrite h off bytes).out = h.out ++ [.peer h.twin.port (h.twin.peerAddr + 0xC00000 + off) bytes] := by
  rw [peerWrite, emit_out]

/-- A part of the block that looks neither at the outputs nor at the outbox and the tail is the same while messages are written. -/
theorem apply_drainOutbox {α : Type} (π : Hw → α) (blindOut : ∀ h off bytes, π (peerWrite h off bytes) = π h)
    (blindTail : ∀ h n, π (onTwin h (fun t => { t with tailOut := n })) = π h)
    (blindBox : ∀ h l, π (onTwin h (fun t => { t with outbox := l })) = π h) (h : Hw) (l : List (Nat × TwinFrame)) :
    π (drainOutbox h l) = π h := by
  induction l generalizing h with
  | nil => exact blindBox h []
  | cons m l ih =>
    obtain ⟨kind, f⟩ := m
    unfold drainOutbox
    extract_lets len tail left pad padded written ended
    have blindPad : π padded = π h := by
      simp only [padded]
      split
      · rfl
      · exact blindOut h _ _
    split
    · rw [ih, blindTail, blindOut, blindOut, blindPad]
    · exact blindBox h _

/-- A message with room before the end of the ring is written without a pad, and then TAIL (R568). -/
theorem drainOutbox_fits {h : Hw} {kind : Nat} {f : TwinFrame} {len : Nat} (length : messageLength f.payload.length = len)
    (straight : h.twin.tailOut % inboxRing + len ≤ inboxRing) (room : h.twin.tailOut + len ≤ partnerHead h + inboxRing) :
    drainOutbox h [(kind, f)] =
      onTwin (onTwin (peerWrite (peerWrite h (0x1000 + h.twin.tailOut % inboxRing) (twinBytes kind (sealFrame h kind f)))
        0 (leBytes 8 (h.twin.tailOut + len))) (fun t => { t with tailOut := h.twin.tailOut + len })) (fun t => { t with outbox := [] }) := by
  have noPad : ¬ inboxRing - h.twin.tailOut % inboxRing < len := by omega
  unfold drainOutbox
  rw [length]
  simp only [if_neg noPad, Nat.add_zero, if_pos room, if_true, drainOutbox]

@[simp] theorem drainOutbox_mem (h : Hw) (l : List (Nat × TwinFrame)) : (drainOutbox h l).mem = h.mem :=
  apply_drainOutbox (·.mem) peerWrite_mem (fun _ _ => rfl) (fun _ _ => rfl) h l
@[simp] theorem drainOutbox_regs (h : Hw) (l : List (Nat × TwinFrame)) : (drainOutbox h l).regs = h.regs :=
  apply_drainOutbox (·.regs) peerWrite_regs (fun _ _ => rfl) (fun _ _ => rfl) h l

/-- Of the twin, only TAIL and the outbox change while messages are written. -/
theorem drainOutbox_twin (h : Hw) (l : List (Nat × TwinFrame)) : ∃ n b, (drainOutbox h l).twin = { h.twin with tailOut := n, outbox := b } := by
  have rest : ({ (drainOutbox h l).twin with tailOut := 0, outbox := [] } : Twin) = { h.twin with tailOut := 0, outbox := [] } :=
    apply_drainOutbox (fun h => ({ h.twin with tailOut := 0, outbox := [] } : Twin)) (fun h off bytes => by rw [peerWrite_twin])
      (fun _ _ => rfl) (fun _ _ => rfl) h l
  exact ⟨(drainOutbox h l).twin.tailOut, (drainOutbox h l).twin.outbox,
    congrArg (fun t : Twin => { t with tailOut := (drainOutbox h l).twin.tailOut, outbox := (drainOutbox h l).twin.outbox }) rest⟩

@[simp] theorem sendMessage_mem (h : Hw) (kind : Nat) (f : TwinFrame) : (sendMessage h kind f).mem = h.mem := by
  rw [sendMessage, drainOutbox_mem, onTwin_mem]
@[simp] theorem sendMessage_regs (h : Hw) (kind : Nat) (f : TwinFrame) : (sendMessage h kind f).regs = h.regs := by
  rw [sendMessage, drainOutbox_regs, onTwin_regs]

/-- A message takes the next number (R569). -/
theorem sendMessage_twin (h : Hw) (kind : Nat) (f : TwinFrame) :
    ∃ n b, (sendMessage h kind f).twin = { h.twin with mseqOut := h.twin.mseqOut + 1, tailOut := n, outbox := b } := by
  rw [sendMessage]
  exact drainOutbox_twin _ _

@[simp] theorem sendConfirm_mem (h : Hw) : (sendConfirm h).mem = h.mem := by rw [sendConfirm, onTwin_mem, sendMessage_mem]
@[simp] theorem sendConfirm_regs (h : Hw) : (sendConfirm h).regs = h.regs := by rw [sendConfirm, onTwin_regs, sendMessage_regs]

theorem sendConfirm_twin (h : Hw) :
    ∃ n b, (sendConfirm h).twin = { h.twin with mseqOut := h.twin.mseqOut + 1, tailOut := n, outbox := b, sentConfirm := true } := by
  obtain ⟨n, b, twin⟩ := sendMessage_twin h 2 (plainFrame [])
  exact ⟨n, b, by rw [sendConfirm, onTwin_twin, twin]⟩

/-! The loss of the partner. -/

@[simp] theorem consume_mem (h : Hw) (len : Nat) : (consume h len).mem = h.mem := (rfl)
@[simp] theorem consume_engine (h : Hw) (len : Nat) : (consume h len).engine = h.engine := (rfl)
theorem consume_twin (h : Hw) (len : Nat) : (consume h len).twin = { h.twin with headOut := h.twin.headOut + len } := (rfl)
@[simp] theorem twinState_consume (h : Hw) (len : Nat) : twinState (consume h len) = twinState h := (rfl)

/-- An extent that a map change marks divergent is divergent after it. -/
theorem divergent_makeDivergent {h : Hw} {es : List Nat} {e : Nat} (named : e ∈ es) : (extent (makeDivergent h es) e).divergent = true := by
  by_cases already : (extent h e).divergent = true
  · rw [makeDivergent, extent_changeExtents_of_notMem, already]
    simp [already]
  · have changed : e ∈ es.filter (fun e => !(extent h e).divergent) := List.mem_filter.mpr ⟨named, by simpa using already⟩
    obtain ⟨x, shown⟩ := extent_changeExtents_of_mem h (fun x => { x with divergent := true }) changed
    rw [makeDivergent, shown]

/-- The parts of the engine that wait for the partner are let go. -/
def waitersFreed (h : Hw) : Hw :=
  let h := onEngine h (fun g => { g with cmds := g.cmds.map (fun c => { c with pieces := c.pieces.map (fun p => { p with waitsAck := [] }) }) })
  onEngine h (fun g => { g with
    cmds := g.cmds.filter (fun c => !(c.source == .resilver)), oper := g.oper.map (fun o => { o with ackDue := none }) })

/-- What a lost partner leaves of the twin (R579). -/
def Twin.lost (t : Twin) : Twin :=
  { t with
    unacked := [], outbox := [], acks := [], inFlight := [], peerLeft := [], stopping := false, losses := (t.losses + 1) % 2 ^ 32, helloAt := none
    sentConfirm := false, gotConfirm := false }

/-- The block with its partner lost, but for the state and the record. -/
def partnerGone (h : Hw) : Hw :=
  showUnacked (setF (setF (onTwin (waitersFreed (makeDivergent h (h.twin.unacked.map (fun u => u.entry)).eraseDups)) Twin.lost)
    HQ_TWIN_SRC 0 0) HQ_TWIN_PEERUP 0 0)

theorem declareLost_eq {h : Hw} (paired : twinState h = 2 ∨ twinState h = 4) :
    declareLost h = ruleRecord (setTwinState (partnerGone h) 3) 0x13F0 579 6 0 := if_pos paired

@[simp] theorem makeDivergent_mem (h : Hw) (es : List Nat) : (makeDivergent h es).mem = h.mem := changeExtents_mem h _ _
@[simp] theorem makeDivergent_twin (h : Hw) (es : List Nat) : (makeDivergent h es).twin = h.twin := changeExtents_twin h _ _

theorem partnerGone_twin (h : Hw) : (partnerGone h).twin = h.twin.lost := by
  rw [partnerGone, showUnacked, setF_twin, setF_twin, setF_twin, onTwin_twin, waitersFreed, onEngine_twin, onEngine_twin, makeDivergent_twin]

theorem partnerGone_mem (h : Hw) : (partnerGone h).mem = h.mem := by
  rw [partnerGone, showUnacked, setF_mem, setF_mem, setF_mem, onTwin_mem, waitersFreed, onEngine_mem, onEngine_mem, makeDivergent_mem]

theorem partnerGone_extent (h : Hw) (e : Nat) :
    extent (partnerGone h) e = extent (makeDivergent h (h.twin.unacked.map (fun u => u.entry)).eraseDups) e := by
  rw [extent, partnerGone, showUnacked, setF_engine, setF_engine, setF_engine, onTwin_engine, waitersFreed, onEngine_engine, onEngine_engine, extent]

theorem partnerGone_peerUp (h : Hw) : getF (partnerGone h) HQ_TWIN_PEERUP 0 = 0 := by
  rw [partnerGone, showUnacked, getF_setF_apart _ _ _ _ _ (by decide), getF_setF_self _ _ _ _ (by decide), Nat.zero_mod]

/-- A pair that has lost its partner is solo; the extents it could not settle diverge (R579). -/
theorem declareLost_shows {h : Hw} (paired : twinState h = 2 ∨ twinState h = 4) :
    twinState (declareLost h) = 3 ∧ getF (declareLost h) HQ_TWIN_PEERUP 0 = 0 ∧
    (declareLost h).twin = { h.twin.lost with recState := 3, recSolow := flagF (partnerGone h) HQ_TWIN_SOLOW 0, recMseq := h.twin.mseqOut } ∧
    (∀ u ∈ h.twin.unacked, (extent (declareLost h) u.entry).divergent = true) ∧ (declareLost h).mem = h.mem := by
  have key : ∀ f : Fld, f.key = HQ_TWIN → getF (declareLost h) f 0 = getF (setTwinState (partnerGone h) 3) f 0 := fun f key => by
    rw [declareLost_eq paired, ruleRecord_getF _ _ _ _ _ _ _ (by rw [key]; decide)]
  refine ⟨?_, ?_, ?_, ?_, ?_⟩
  · exact (key HQ_TWIN_STATE rfl).trans (twinState_setTwinState _ (by decide))
  · rw [key HQ_TWIN_PEERUP rfl, setTwinState_getF _ _ (by decide), partnerGone_peerUp]
  · rw [declareLost_eq paired, ruleRecord_twin, setTwinState_twin _ (by decide), partnerGone_twin]
    rfl
  · intro u mine
    have named : u.entry ∈ (h.twin.unacked.map (fun u => u.entry)).eraseDups := List.mem_eraseDups.mpr (List.mem_map_of_mem mine)
    rw [declareLost_eq paired, extent, ruleRecord_engine, setTwinState_engine, ← extent, partnerGone_extent, divergent_makeDivergent named]
  · rw [declareLost_eq paired, ruleRecord_mem, setTwinState_mem, partnerGone_mem]

end Sys2Proof.Machine
end
section
/-! Twin Identify, Twin Pair and the pairing (R430, R431, R433, R572, R573). -/
namespace Sys2Proof.Machine

/-- A Twin Identify makes its nonce (R430). -/
def nonceMade (h : Hw) : Hw :=
  drawn (onTwin h (fun t => { t with nonce := some { value := Config.random h.freeCtr % 2 ^ 128, made := h.log.optime } }))

theorem exec_twinIdentify {p : Nat} {s : State} (cid : Nat) (up : adminUp s.hw p = true) :
    ∃ page, exec (.twinIdentify p cid) s = .next { s with hw := adminDone (emit (nonceMade (taken s.hw p)) (.page p page)) p cid 0 0 } := by
  change ∃ page, execTwinIdentify p cid s = _
  unfold execTwinIdentify
  exact ⟨_, State.run_admin up rfl⟩

/-- An admin command of the twin that ends with an error leaves the twin. -/
theorem AdminEnded.twin (s : State) (p cid st : Nat) :
    (adminDone (taken s.hw p) p cid st 0).twin = s.hw.twin ∧ AdminEnded s { s with hw := adminDone (taken s.hw p) p cid st 0 } p cid st 0 :=
  ⟨by rw [adminDone_twin, taken_twin], .of_taken s p cid st 0⟩

section
variable {p : Nat} {page : List (BitVec 8)} {s : State} (cid : Nat) (up : adminUp s.hw p = true)
include up

theorem exec_twinPair_roleless (none : twinRole s.hw = 0) :
    exec (.twinPair p cid page) s = .next { s with hw := adminDone (taken s.hw p) p cid twNone 0 } := by
  change execTwinPair p cid page s = _
  unfold execTwinPair
  refine State.run_taken up fun h entry => ?_
  rw [entry]
  dsimp only
  rw [twinRole_taken, if_pos none]

variable (role : twinRole s.hw ≠ 0)
include role

theorem exec_twinPair_paired (paired : twinState s.hw = 2) :
    exec (.twinPair p cid page) s = .next { s with hw := adminDone (taken s.hw p) p cid twPaired 0 } := by
  change execTwinPair p cid page s = _
  unfold execTwinPair
  refine State.run_taken up fun h entry => ?_
  rw [entry]
  dsimp only
  rw [twinRole_taken, if_neg role, twinState_taken, paired, if_neg (by decide), if_pos (by decide)]

variable (alone : twinState s.hw = 0)
include alone

theorem exec_twinPair_unclean (unclean : cleanPage page = false) :
    exec (.twinPair p cid page) s = .next { s with hw := adminDone (taken s.hw p) p cid stField 0 } := by
  change execTwinPair p cid page s = _
  unfold execTwinPair
  refine State.run_taken up fun h entry => ?_
  rw [entry]
  dsimp only
  rw [twinRole_taken, if_neg role, twinState_taken, alone, if_neg (by decide), if_neg (by decide), unclean, if_pos (Or.inl (by decide))]

variable (clean : cleanPage page = true) (aligned : pageField page 0x10 8 % 0x1000000 = 0)
include clean aligned

theorem exec_twinPair_unproved (unasked : s.hw.twin.nonce = none) :
    exec (.twinPair p cid page) s = .next { s with hw := adminDone (taken s.hw p) p cid twAuth 0 } := by
  have fits : ¬ ((!(cleanPage page)) = true ∨ pageField page 0x10 8 % 0x1000000 ≠ 0) := by simp [clean, aligned]
  change execTwinPair p cid page s = _
  unfold execTwinPair
  refine State.run_taken up fun h entry => ?_
  rw [entry]
  dsimp only
  rw [twinRole_taken, if_neg role, twinState_taken, alone, if_neg (by decide), if_neg (by decide), if_neg fits, taken_twin, unasked]
  exact if_pos rfl

/-- The twin while a pairing that port `p` asked for is in progress (R573). -/
def Twin.pairs (t : Twin) (p cid now v : Nat) (page : List (BitVec 8)) : Twin :=
  { t with
    nonce := none, pdid := pageField page 8 8, peerAddr := pageField page 0x10 8, pnode := pageField page 0x18 2, port := p, requester := none
    pairing := some (cid, now), nonceOwn := v, noncePeer := 0, kpair := none, kpairWrapped := none, sentConfirm := false, gotConfirm := false
    mseqOut := 0, mseqIn := 0, unacked := [], outbox := [], acks := [], helloAt := none }

theorem exec_twinPair {v k : Nat} (asked : s.hw.twin.nonce = some { value := v, made := s.hw.log.optime }) (key : roleKey s.hw 2 = some k)
    (proof : pageField page 0x20 16 = tagOf k (pairMessage v Config.deviceId (pageField page 8 8) (pageField page 0x10 8))) :
    exec (.twinPair p cid page) s = .next { s with
      hw := setTwinState (onTwin (taken s.hw p) (fun t => t.pairs p cid s.hw.log.optime v page)) 1 } := by
  have fits : ¬ ((!(cleanPage page)) = true ∨ pageField page 0x10 8 % 0x1000000 ≠ 0) := by simp [clean, aligned]
  have key : roleKey (taken s.hw p) 2 = some k := (apply_taken (roleKey · 2) (fun _ _ _ _ => rfl) s.hw p).trans key
  have fresh : (taken s.hw p).twin.nonce.filter (fun n => decide ((taken s.hw p).log.optime ≤ n.made + 10000)) =
      some { value := v, made := s.hw.log.optime } := by
    rw [taken_twin, taken_log, asked, Option.filter_some, if_pos (decide_eq_true (Nat.le_add_right _ _))]
  change execTwinPair p cid page s = _
  unfold execTwinPair
  refine State.run_taken up fun h entry => ?_
  rw [entry]
  dsimp only
  rw [twinRole_taken, if_neg role, twinState_taken, alone, if_neg (by decide), if_neg (by decide), if_neg fits, fresh, key]
  dsimp only
  rw [proof, if_neg (by rw [beq_self_eq_true]; decide), taken_log]
  rfl

end

theorem exec_pairingTimeout {cid w : Nat} {s : State} (pairs : twinState s.hw = 1) (pairing : s.hw.twin.pairing = some (cid, w))
    (late : w + 2000 ≤ s.hw.log.optime) : exec .pairingTimeout s = .next { s with hw := failPair (silent s.hw) twUnreachable } := by
  change execPairingTimeout s = _
  unfold execPairingTimeout
  refine State.run_silent ?_
  rw [silent_twin, pairing]
  exact if_pos ⟨pairs, late⟩

/-! Hello and Confirm. -/

/-- A solo twin's Hello (R580). -/
def soloHello (h : Hw) : TwinFrame := plainFrame (helloPayload Config.deviceId (twinRole h) h.twin.nonceOwn h.twin.pdid)

theorem soloHello_length (h : Hw) : messageLength (soloHello h).payload.length = 128 := by
  have length : (soloHello h).payload.length = 40 := by
    simp only [soloHello, plainFrame, helloPayload, List.length_append, leBytes_length]
  rw [length]
  decide

theorem exec_helloResend {s : State} (solo : twinState s.hw = 3) (due : s.hw.twin.helloAt = none) :
    exec .helloResend s = .next { s with
      hw := sendMessage (onTwin (silent s.hw) (fun t => { t with helloAt := some s.hw.log.optime })) 1 (soloHello s.hw) } := by
  change execHelloResend s = _
  unfold execHelloResend
  refine State.run_silent ?_
  rw [silent_twin, due]
  exact if_pos ⟨Or.inr solo, rfl⟩

/-- The block with a solo twin's Hello queued, its outbox empty before. -/
def helloQueued (h : Hw) (now : Nat) : Hw :=
  onTwin h (fun t => { t with
    helloAt := some now, mseqOut := h.twin.mseqOut + 1, outbox := [(1, { soloHello h with mseq := h.twin.mseqOut + 1 })] })

theorem helloKey_helloQueued (h : Hw) (now : Nat) : helloKey (helloQueued h now) = helloKey h := rfl

theorem sealFrame_helloQueued (h : Hw) (now : Nat) (f : TwinFrame) : sealFrame (helloQueued h now) 1 f = sealFrame h 1 f := by
  rw [sealFrame, if_pos rfl, helloKey_helloQueued, sealFrame, if_pos rfl]

/-- What a solo twin's Hello writes and leaves when its outbox is empty and there is room (R568, R580). -/
theorem soloHello_shows {h : Hw} (still : h.out = []) (empty : h.twin.outbox = []) (now : Nat)
    (straight : h.twin.tailOut % inboxRing + 128 ≤ inboxRing) (room : h.twin.tailOut + 128 ≤ partnerHead h + inboxRing) :
    ∃ g, sendMessage (onTwin h (fun t => { t with helloAt := some now })) 1 (soloHello h) = g ∧
    g.out = [.peer h.twin.port (h.twin.peerAddr + 0xC00000 + (0x1000 + h.twin.tailOut % inboxRing))
        (twinBytes 1 (sealFrame h 1 { soloHello h with mseq := h.twin.mseqOut + 1 })),
      .peer h.twin.port (h.twin.peerAddr + 0xC00000 + 0) (leBytes 8 (h.twin.tailOut + 128))] ∧
    g.twin.mseqOut = h.twin.mseqOut + 1 ∧ g.twin.tailOut = h.twin.tailOut + 128 ∧ g.twin.helloAt = some now ∧ g.regs = h.regs ∧ g.mem = h.mem := by
  have queued : sendMessage (onTwin h (fun t => { t with helloAt := some now })) 1 (soloHello h) =
      drainOutbox (helloQueued h now) [(1, { soloHello h with mseq := h.twin.mseqOut + 1 })] := by
    rw [sendMessage, helloQueued]
    simp only [onTwin, empty, List.nil_append]
  have head : partnerHead (helloQueued h now) = partnerHead h := memWord_congr rfl rfl rfl _ _
  have drained := drainOutbox_fits (h := helloQueued h now) (kind := 1) (f := { soloHello h with mseq := h.twin.mseqOut + 1 }) (soloHello_length h)
    straight (by rw [head]; exact room)
  refine ⟨_, queued.trans drained, ?_⟩
  rw [onTwin_out, onTwin_out, peerWrite_out, peerWrite_out, sealFrame_helloQueued, onTwin_regs, onTwin_regs, onTwin_mem, onTwin_mem, peerWrite_regs,
    peerWrite_regs, peerWrite_mem, peerWrite_mem, peerWrite_twin, helloQueued, onTwin_out, still]
  exact ⟨rfl, rfl, rfl, rfl, rfl, rfl⟩

/-! A Hello while the pair forms. -/

theorem confirmed_waiting {h : Hw} (waiting : h.twin.gotConfirm = false) (v : Vault) : confirmed h v = (h, v) := by
  rw [confirmed, waiting, Bool.and_false, if_neg Bool.false_ne_true]

theorem gotConfirm_sendConfirm (h : Hw) : (sendConfirm h).twin.gotConfirm = h.twin.gotConfirm := by
  obtain ⟨n, b, twin⟩ := sendConfirm_twin h
  rw [twin]

section
variable {f : TwinFrame} {req k : Nat} {s : State} (pairs : twinState s.hw = 1) (key : helloKey s.hw = some k)
  (partner : pageField f.payload 0 8 = s.hw.twin.pdid)
include pairs key partner

theorem exec_twinHello_wrongTag (wrong : f.tag ≠ helloTag k f) :
    exec (.twinHello f req) s = .next { s with hw := failPair (consume (silent s.hw) 128) twKeys } := by
  have key : helloKey (silent s.hw) = some k := key
  change execTwinHello f req s = _
  unfold execTwinHello
  refine State.runBoth_silent ?_
  rw [twinState_silent, if_pos pairs, key]
  dsimp only
  rw [if_pos (by rw [beq_false_of_ne wrong]; rfl)]
  exact congrArg (·, s.vault) (if_pos partner)

/-- The twin once the partner's Hello has been taken (R573). -/
def Twin.greeted (t : Twin) (req nonce key mseq : Nat) (wrapped : Nat) : Twin :=
  { t with requester := some req, noncePeer := nonce, kpair := some key, kpairWrapped := some wrapped, mseqIn := mseq }

/-- A right Hello is recorded and answered with a Confirm; the pair waits for the partner's. -/
theorem exec_twinHello_right (waits : s.hw.twin.sentConfirm = false) (waiting : s.hw.twin.gotConfirm = false) (tag : f.tag = helloTag k f)
    (mine : pageField f.payload 0x20 8 = Config.deviceId) (other : pageField f.payload 8 1 ≠ twinRole s.hw)
    (role : pageField f.payload 8 1 = 1 ∨ pageField f.payload 8 1 = 2) :
    ∃ key wrapped, exec (.twinHello f req) s = .next { s with
      hw := sendConfirm (onTwin (consume (silent s.hw) 128) (fun t => t.greeted req (pageField f.payload 0x10 16) key f.mseq wrapped)) } := by
  have key : helloKey (silent s.hw) = some k := key
  have right : (pageField f.payload 0 8 == (silent s.hw).twin.pdid && pageField f.payload 0x20 8 == Config.deviceId &&
      pageField f.payload 8 1 != twinRole (silent s.hw) && (pageField f.payload 8 1 == 1 || pageField f.payload 8 1 == 2)) = true := by
    simp [partner, mine, other, role]
  have fresh : ¬ (consume (silent s.hw) 128).twin.sentConfirm = true := ne_true_of_eq_false waits
  change ∃ key wrapped, execTwinHello f req s = _
  unfold execTwinHello
  apply Exists.intro
  apply Exists.intro
  refine State.runBoth_silent ?_
  rw [twinState_silent, if_pos pairs, key]
  dsimp only
  rw [if_neg (by rw [tag, beq_self_eq_true]; decide), if_neg (by rw [right]; decide), if_neg fresh]
  rw [confirmed_waiting (by rw [gotConfirm_sendConfirm, onTwin_twin, consume_twin, silent_twin, waiting])]
  rfl

end

/-- What a right Hello leaves (R573). -/
theorem greeted_shows (h : Hw) (req nonce key mseq wrapped : Nat) :
    ∃ g, sendConfirm (onTwin (consume h 128) (fun t => t.greeted req nonce key mseq wrapped)) = g ∧
    g.twin.requester = some req ∧ g.twin.sentConfirm = true ∧ g.twin.noncePeer = nonce ∧ g.twin.mseqIn = mseq ∧ g.twin.kpair.isSome = true ∧
    twinState g = twinState h ∧ g.twin.mseqOut = h.twin.mseqOut + 1 ∧ g.mem = h.mem := by
  obtain ⟨n, b, twin⟩ := sendConfirm_twin (onTwin (consume h 128) (fun t => t.greeted req nonce key mseq wrapped))
  refine ⟨_, rfl, ?_⟩
  rw [twin, twinState_of_regs (sendConfirm_regs _), sendConfirm_mem, onTwin_mem, consume_mem, twinState_onTwin, twinState_consume, onTwin_twin, consume_twin]
  exact ⟨rfl, rfl, rfl, rfl, rfl, rfl, rfl, rfl⟩

/-- A sealed message that opens, but with a wrong number, is a partner fault (R571). -/
theorem exec_twinConfirm_fault {f : TwinFrame} {s : State} (paired : twinState s.hw = 2 ∨ twinState s.hw = 4) (keyed : s.hw.twin.kpair ≠ none)
    (number : f.mseq ≠ s.hw.twin.mseqIn + 1) :
    exec (.twinConfirm f) s = .next { s with hw := declareLost (consume (silent s.hw) (messageLength f.payload.length)) } := by
  have takes : ¬ (twinState (silent s.hw) = 0 ∨ (silent s.hw).twin.kpair.isNone = true) := by
    rw [twinState_silent, silent_twin, Option.isNone_iff_eq_none]
    exact not_or.mpr ⟨by omega, keyed⟩
  change execTwinConfirm f s = _
  unfold execTwinConfirm
  refine State.runBoth_silent ?_
  rw [takeMessage, if_neg takes]
  dsimp only
  split
  · exact if_neg number
  · rfl

/-- The Confirm that a solo twin waits for resumes the pair (R580, R581). -/
theorem exec_twinConfirm_resumes {f : TwinFrame} {text : List (BitVec 8)} {s : State} (solo : twinState s.hw = 3)
    (opens : openFrame s.hw 2 f = some text) (number : f.mseq = s.hw.twin.mseqIn + 1) (sent : s.hw.twin.sentConfirm = true) :
    exec (.twinConfirm f) s = .next { s with
      hw := resumePair (onTwin (onTwin (consume (silent s.hw) (messageLength f.payload.length)) (fun t => { t with mseqIn := f.mseq }))
        (fun t => { t with gotConfirm := true })) } := by
  have keyed : s.hw.twin.kpair.isNone = false := by
    cases none : s.hw.twin.kpair with
    | none => rw [openFrame, none] at opens; exact absurd opens (by simp)
    | some k => rfl
  have takes : ¬ (twinState (silent s.hw) = 0 ∨ (silent s.hw).twin.kpair.isNone = true) := by
    rw [twinState_silent, silent_twin, keyed, solo]
    decide
  have opens : openFrame (silent s.hw) 2 f = some text := opens
  have resumes : ∀ h : Hw, h.twin.sentConfirm = true → h.twin.gotConfirm = true → twinState h = 3 → ∀ v, confirmed h v = (resumePair h, v) := by
    intro h sent got solo v
    rw [confirmed, sent, got, if_pos (by decide), solo, if_neg (by decide), if_pos rfl]
  change execTwinConfirm f s = _
  unfold execTwinConfirm
  refine State.runBoth_silent ?_
  rw [takeMessage, if_neg takes]
  dsimp only
  rw [opens]
  dsimp only
  rw [silent_twin, if_pos number]
  refine resumes _ ?_ (by rw [onTwin_twin]) ?_ _
  · rw [onTwin_twin, onTwin_twin, consume_twin, silent_twin, sent]
  · rw [twinState_onTwin, twinState_onTwin, twinState_consume, twinState_silent, solo]

/-- The block whose partner's BEAT has just advanced. -/
theorem partnerUp_shows (h : Hw) :
    getF (partnerUp h) HQ_TWIN_PEERUP 0 = 1 ∧ twinState (partnerUp h) = twinState h ∧
    (partnerUp h).twin = { h.twin with beatTime := h.log.optime } ∧ (partnerUp h).mem = h.mem := by
  refine ⟨?_, ?_, ?_, ?_⟩
  · rw [partnerUp, getF_setF_self _ _ _ _ (by decide)]
    rfl
  · rw [partnerUp, twinState, getF_setF_apart _ _ _ _ _ (by decide), onTwin_getF, twinState]
  · rw [partnerUp, setF_twin, onTwin_twin]
  · rw [partnerUp, setF_mem, onTwin_mem]

theorem resumePair_shows (h : Hw) :
    twinState (resumePair h) = 2 ∧ getF (resumePair h) HQ_TWIN_PEERUP 0 = 1 ∧ (resumePair h).twin.helloWait = false ∧
    (resumePair h).twin.mseqIn = h.twin.mseqIn ∧ (resumePair h).twin.recState = 2 ∧ (resumePair h).mem = h.mem := by
  obtain ⟨up, state, twin, mem⟩ := partnerUp_shows
    (setTwinState (onTwin h (fun t => { t with sentConfirm := false, gotConfirm := false, helloWait := false })) 2)
  rw [resumePair, up, state, twin, mem, twinState_setTwinState _ (by decide), setTwinState_twin _ (by decide), setTwinState_mem, onTwin_mem]
  exact ⟨rfl, rfl, rfl, rfl, rfl, rfl⟩

/-! BEAT, losses, the unsettled list and the pair record (R568, R579, R581, R583). -/

/-- What a BEAT read from the own inbox leaves (R568, R586). -/
def beatSeen (h : Hw) (now : Nat) : Hw :=
  let h := if now = h.twin.beatIn then h else partnerUp (onTwin h (fun t => { t with beatIn := now }))
  if h.log.optime ≥ h.twin.beatTime + liveVal h 0x0000 0x021 0 then setF h HQ_TWIN_PEERUP 0 0 else h

theorem beatSeen_shows (h : Hw) (now : Nat) :
    (∃ time, (beatSeen h now).twin = { h.twin with beatIn := now, beatTime := time }) ∧ (beatSeen h now).mem = h.mem := by
  have seen : ∃ g, (if now = h.twin.beatIn then h else partnerUp (onTwin h (fun t => { t with beatIn := now }))) = g ∧
      (∃ time, g.twin = { h.twin with beatIn := now, beatTime := time }) ∧ g.mem = h.mem := by
    refine ⟨_, rfl, ?_⟩
    split
    case isTrue same => exact ⟨⟨h.twin.beatTime, by rw [same]⟩, rfl⟩
    case isFalse =>
      obtain ⟨-, -, twin, mem⟩ := partnerUp_shows (onTwin h (fun t => { t with beatIn := now }))
      exact ⟨⟨h.log.optime, twin⟩, mem⟩
  obtain ⟨g, eq, twin, mem⟩ := seen
  unfold beatSeen
  rw [eq]
  dsimp only
  split
  · rw [setF_twin, setF_mem]
    exact ⟨twin, mem⟩
  · exact ⟨twin, mem⟩

/-- The block with its own BEAT advanced in the partner's inbox. -/
def beatSent (h : Hw) : Hw :=
  let h := onTwin h (fun t => { t with beatOut := (t.beatOut + 1) % 2 ^ 64 })
  peerWrite h 0x80 (leBytes 8 h.twin.beatOut)

/-- The waiting messages are written as far as there is room. -/
def boxWritten (h : Hw) : Hw := drainOutbox h h.twin.outbox

theorem exec_twinBeat {s : State} (paired : twinState s.hw ≠ 0) :
    exec .twinBeat s = .next { s with
      hw := boxWritten (beatSeen (beatSent (silent s.hw)) (memWord (beatSent (silent s.hw)) (inboxBase + 0x80) 8)) } := by
  change execTwinBeat s = _
  unfold execTwinBeat
  refine State.run_silent ((if_neg paired).trans ?_)
  dsimp only [beatSent, beatSeen, boxWritten]

theorem exec_partnerLost {s : State} (still : s.hw.twin.beatTime + liveVal s.hw 0x0000 0x021 0 ≤ s.hw.log.optime) :
    exec (.partnerLost 0) s = .next { s with hw := declareLost (silent s.hw) } := by
  have real : decide ((silent s.hw).twin.beatTime + liveVal (silent s.hw) 0x0000 0x021 0 ≤ (silent s.hw).log.optime) = true := decide_eq_true still
  change execPartnerLost 0 s = _
  unfold execPartnerLost
  exact State.run_silent (if_pos real)

theorem exec_unsettledListLeave {e w : Nat} {s : State} (listed : oget s.hw.twin.unsettled e = some w) (quiet : s.hw.twin.unacked = [])
    (late : w + 1000 ≤ s.hw.log.optime) :
    exec (.unsettledListLeave e) s = .next { s with
      hw := markBitmap (onTwin (silent s.hw) (fun t => { t with unsettled := oset t.unsettled e none })) e false } := by
  have leaves : (!((silent s.hw).twin.unacked.any (fun u => u.entry == e))) = true ∧ w + 1000 ≤ (silent s.hw).log.optime :=
    ⟨by rw [silent_twin, quiet]; rfl, late⟩
  change execUnsettledListLeave e s = _
  unfold execUnsettledListLeave
  refine State.run_silent ?_
  rw [silent_twin, listed]
  exact if_pos leaves

/-! Unpair and Resilver (R432, R433, R582, R584). -/

theorem exec_twinUnpair_unpaired {p : Nat} {s : State} (cid : Nat) (up : adminUp s.hw p = true) (role : twinRole s.hw ≠ 0) (alone : twinState s.hw = 0) :
    exec (.twinUnpair p cid) s = .next { s with hw := adminDone (taken s.hw p) p cid twUnpaired 0 } := by
  change execTwinUnpair p cid s = _
  unfold execTwinUnpair
  refine State.run_taken up fun h entry => ?_
  rw [entry]
  dsimp only
  rw [twinRole_taken, if_neg role, twinState_taken, if_pos alone]

theorem exec_twinUnpair_solo {p : Nat} {s : State} (cid : Nat) (up : adminUp s.hw p = true) (role : twinRole s.hw ≠ 0) (solo : twinState s.hw = 3)
    (down : flagF s.hw HQ_TWIN_PEERUP 0 = false) :
    exec (.twinUnpair p cid) s = .next { s with hw := adminAfterMap (unpair (taken s.hw p)) p cid 0 } := by
  have down : flagF (taken s.hw p) HQ_TWIN_PEERUP 0 = false := (congrArg (· == 1) (taken_getF s.hw p HQ_TWIN_PEERUP 0)).trans down
  change execTwinUnpair p cid s = _
  unfold execTwinUnpair
  refine State.run_taken up fun h entry => ?_
  rw [entry]
  dsimp only
  rw [twinRole_taken, if_neg role, twinState_taken, solo, if_neg (by decide), if_neg (by decide), down, if_neg Bool.false_ne_true]

end Sys2Proof.Machine
end
section
/-! The pair ends (R584), and resilvering starts and stops (R582). -/
namespace Sys2Proof.Machine

/-- A part of the block that looks neither at the completions nor at those that wait for the map is the same after the end of a command. -/
theorem apply_adminAfterMap {α : Type} (π : Hw → α)
    (blind : ∀ h w q, π { h with engine := { h.engine with mapWait := w, posting := q } } = π h) (h : Hw) (p cid st : Nat) :
    π (adminAfterMap h p cid st) = π h := apply_adminWithMap π blind h p cid st 0

/-- The entries that a pair has marked. -/
def pairedEntries (h : Hw) : List Nat := (h.engine.extents.filter (fun p => p.2.mirrored || p.2.divergent)).map (fun p => p.1)

/-- The map once no extent is mirrored. -/
def mapUnpaired (h : Hw) : Hw := changeExtents h (pairedEntries h) (fun e => { e with mirrored := false, divergent := false })

/-- No extent is mirrored or diverges once the pair has ended (R584). -/
theorem mapUnpaired_shows (h : Hw) (e : Nat) : (extent (mapUnpaired h) e).mirrored = false ∧ (extent (mapUnpaired h) e).divergent = false := by
  by_cases named : e ∈ pairedEntries h
  · obtain ⟨x, shown⟩ := extent_changeExtents_of_mem h (fun e => { e with mirrored := false, divergent := false }) named
    rw [mapUnpaired, shown]
    exact ⟨rfl, rfl⟩
  · have plain : ¬ ((extent h e).mirrored || (extent h e).divergent) = true := fun marked =>
      named (mem_extents_of (pick := fun p => p.2.mirrored || p.2.divergent) marked rfl)
    rw [mapUnpaired, extent_changeExtents_of_notMem _ _ named]
    simpa using plain

/-- The twin and the commands in flight once the pair has ended, but for the registers. -/
def pairForgotten (h : Hw) : Hw :=
  let h := onEngine (mapUnpaired h) (fun g => { g with
    cmds := (g.cmds.filter (fun c => match c.source with | .host => true | .rekey _ => true | _ => false)).map (fun c =>
      { c with pieces := c.pieces.map (fun p => { p with waitsAck := [] }) })
    oper := g.oper.map (fun o => { o with ackDue := none }) })
  let h := onLog h (fun l => { l with area := l.area.filter (fun p => decide (p.1 < 1048) || decide (1304 ≤ p.1)) })
  clearProgress (onTwin h (fun t => { nonce := t.nonce, partnerLedger := t.partnerLedger, losses := t.losses })) 1042

theorem unpair_eq (h : Hw) :
    unpair h = showUnacked (setF (setF (setF (setF (pairForgotten h) HQ_TWIN_SOLOW 0 0) HQ_TWIN_SRC 0 0) HQ_TWIN_PEERUP 0 0) HQ_TWIN_STATE 0 0) := by
  unfold unpair pairForgotten mapUnpaired pairedEntries
  rfl

theorem pairForgotten_twin (h : Hw) :
    (pairForgotten h).twin = { nonce := h.twin.nonce, partnerLedger := h.twin.partnerLedger, losses := h.twin.losses } := by
  rw [pairForgotten, clearProgress, onLog_twin, onTwin_twin, onLog_twin, onEngine_twin, mapUnpaired, changeExtents_twin]

theorem pairForgotten_mem (h : Hw) : (pairForgotten h).mem = h.mem := by
  rw [pairForgotten, clearProgress, onLog_mem, onTwin_mem, onLog_mem, onEngine_mem, mapUnpaired, changeExtents_mem]

theorem pairForgotten_extent (h : Hw) (e : Nat) : extent (pairForgotten h) e = extent (mapUnpaired h) e := by
  rw [extent, pairForgotten, clearProgress, onLog_engine, onTwin_engine, onLog_engine, onEngine_engine, extent]

/-- What the end of the pair leaves (R584). -/
theorem unpair_shows (h : Hw) :
    twinState (unpair h) = 0 ∧ (unpair h).twin = { nonce := h.twin.nonce, partnerLedger := h.twin.partnerLedger, losses := h.twin.losses } ∧
    (∀ e, extent (unpair h) e = extent (mapUnpaired h) e) ∧ getF (unpair h) HQ_TWIN_SOLOW 0 = 0 ∧ (unpair h).mem = h.mem := by
  rw [unpair_eq, showUnacked]
  refine ⟨?_, ?_, ?_, ?_, ?_⟩
  · rw [twinState, getF_setF_apart _ _ _ _ _ (by decide), getF_setF_self _ _ _ _ (by decide), Nat.zero_mod]
  · rw [setF_twin, setF_twin, setF_twin, setF_twin, setF_twin, pairForgotten_twin]
  · intro e
    rw [extent, setF_engine, setF_engine, setF_engine, setF_engine, setF_engine, ← extent, pairForgotten_extent]
  · rw [getF_setF_apart _ _ _ _ _ (by decide), getF_setF_apart _ _ _ _ _ (by decide), getF_setF_apart _ _ _ _ _ (by decide),
      getF_setF_apart _ _ _ _ _ (by decide), getF_setF_self _ _ _ _ (by decide), Nat.zero_mod]
  · rw [setF_mem, setF_mem, setF_mem, setF_mem, setF_mem, pairForgotten_mem]

/-! Resilvering. -/

/-- This twin is the source of a resilver whose partner holds SOLOW as `peer` says (R582). -/
def resilverSource (h : Hw) (peer : Bool) : Bool := if flagF h HQ_TWIN_SOLOW 0 == peer then twinRole h == 1 else flagF h HQ_TWIN_SOLOW 0

theorem resilverSource_toNat (h : Hw) (peer : Bool) :
    (resilverSource h peer).toNat =
      if flagF h HQ_TWIN_SOLOW 0 = peer then (if twinRole h = 1 then 1 else 0) else (flagF h HQ_TWIN_SOLOW 0).toNat := by
  unfold resilverSource
  by_cases same : flagF h HQ_TWIN_SOLOW 0 = peer
  · rw [if_pos (beq_iff_eq.mpr same), if_pos same]
    by_cases first : twinRole h = 1
    · rw [if_pos first, beq_iff_eq.mpr first]
      rfl
    · rw [if_neg first, beq_false_of_ne first]
      rfl
  · rw [if_neg (fun h => same (beq_iff_eq.mp h)), if_neg same]

/-- The block in STATE 4, `left` to resilver on the partner. -/
def resilverStarted (h : Hw) (source : Bool) (left : List Nat) : Hw :=
  setTwinState (setF (onTwin h (fun t => { t with peerLeft := left })) HQ_TWIN_SRC 0 source.toNat) 4

/-- The block back in STATE 2. -/
def resilverStopped (h : Hw) : Hw := setTwinState (setF (onTwin h (fun t => { t with peerLeft := [] })) HQ_TWIN_SRC 0 0) 2

theorem resilverStarted_shows (h : Hw) (source : Bool) (left : List Nat) :
    twinState (resilverStarted h source left) = 4 ∧ getF (resilverStarted h source left) HQ_TWIN_SRC 0 = source.toNat ∧
    (resilverStarted h source left).twin.peerLeft = left ∧ (resilverStarted h source left).engine = h.engine ∧
    (resilverStarted h source left).mem = h.mem := by
  have bit : source.toNat % 2 ^ (HQ_TWIN_SRC.hi + 1 - HQ_TWIN_SRC.lo) = source.toNat := by cases source <;> rfl
  rw [resilverStarted, twinState_setTwinState _ (by decide), setTwinState_getF _ _ (by decide), getF_setF_self _ _ _ _ (by decide),
    setTwinState_twin _ (by decide), setTwinState_engine, setTwinState_mem, setF_twin, setF_engine, setF_mem, onTwin_twin, onTwin_engine, onTwin_mem]
  exact ⟨rfl, bit, rfl, rfl, rfl⟩

theorem resilverStopped_shows (h : Hw) :
    twinState (resilverStopped h) = 2 ∧ getF (resilverStopped h) HQ_TWIN_SRC 0 = 0 ∧ (resilverStopped h).twin.peerLeft = [] ∧
    (resilverStopped h).engine = h.engine ∧ (resilverStopped h).mem = h.mem := by
  rw [resilverStopped, twinState_setTwinState _ (by decide), setTwinState_getF _ _ (by decide), getF_setF_self _ _ _ _ (by decide),
    setTwinState_twin _ (by decide), setTwinState_engine, setTwinState_mem, setF_twin, setF_engine, setF_mem, onTwin_twin, onTwin_engine, onTwin_mem]
  exact ⟨rfl, Nat.zero_mod _, rfl, rfl, rfl⟩

/-- With an extent that diverges here, a resilver goes on (R582). -/
theorem resilverDone_divergent {h : Hw} (left : divergentEntries h ≠ []) : resilverDone h = h := by
  refine if_neg fun done => left ?_
  have none : leftToResilver h = [] := List.isEmpty_iff.mp done.2
  exact (List.append_eq_nil_iff.mp none).1

section
variable {p : Nat} {s : State} (cid : Nat) (up : adminUp s.hw p = true) (role : twinRole s.hw ≠ 0)
include up role

theorem exec_twinResilver_starts (peer : Bool) (others : List Nat) (paired : twinState s.hw = 2) (left : divergentEntries s.hw ≠ []) :
    exec (.twinResilver p cid 1 peer others) s = .next { s with
      hw := adminDone (resilverStarted (taken s.hw p) (resilverSource s.hw peer) (if resilverSource s.hw peer then others.eraseDups else []))
        p cid 0 0 } := by
  have source : (if (flagF (taken s.hw p) HQ_TWIN_SOLOW 0 == peer) = true then twinRole s.hw == 1 else flagF (taken s.hw p) HQ_TWIN_SOLOW 0) =
      resilverSource s.hw peer := by
    rw [resilverSource, flagF, flagF, taken_getF]
  have goesOn : ∀ source l, divergentEntries (resilverStarted (taken s.hw p) source l) ≠ [] := by
    intro source l
    obtain ⟨-, -, -, engine, -⟩ := resilverStarted_shows (taken s.hw p) source l
    rw [divergentEntries, engine, taken_engine, ← divergentEntries]
    exact left
  change execTwinResilver _ _ _ _ _ s = _
  unfold execTwinResilver
  refine State.run_admin up ?_
  rw [twinRole_taken, if_neg role, twinState_taken, paired, if_neg (by decide), if_neg (by decide), if_neg (by decide), if_pos rfl,
    if_neg (by decide), if_neg (by decide)]
  dsimp only
  rw [source, ← resilverStarted, resilverDone_divergent (goesOn _ _)]

theorem exec_twinResilver_stops (peer : Bool) (others : List Nat) (resilvers : twinState s.hw = 4) (idle : s.hw.twin.inFlight = []) :
    exec (.twinResilver p cid 0 peer others) s = .next { s with hw := adminDone (resilverStopped (taken s.hw p)) p cid 0 0 } := by
  change execTwinResilver _ _ _ _ _ s = _
  unfold execTwinResilver
  refine State.run_admin up ?_
  rw [twinRole_taken, if_neg role, twinState_taken, resilvers, if_neg (by decide), if_neg (by decide), if_neg (by decide), if_neg (by decide),
    if_neg (by decide), taken_twin, idle, if_pos (by decide), resilverStopped]

theorem exec_twinResilver_solo (peer : Bool) (others : List Nat) (solo : twinState s.hw = 3) :
    exec (.twinResilver p cid 1 peer others) s = .next { s with hw := adminDone (taken s.hw p) p cid twSolo 0 } := by
  change execTwinResilver _ _ _ _ _ s = _
  unfold execTwinResilver
  refine State.run_admin up ?_
  rw [twinRole_taken, if_neg role, twinState_taken, solo, if_neg (by decide), if_neg (by decide), if_neg (by decide), if_pos rfl, if_pos rfl]

end

/-- Settles O29: each command takes the branch of its meaning that its hypotheses leave, and what it leaves is read off that branch. -/
theorem twinCommandsComplete : Obligations.TwinCommandsComplete := by
  refine ⟨?identify, ?roleless, ?paired, ?unproved, ?unclean, ?pairs, ?timeout, ?hello, ?wrongTag, ?greeted, ?resumes, ?fault, ?beat, ?lost, ?settled,
    ?waitEnd, ?record, ?unpaired, ?unpair, ?resilver, ?stop, ?solo⟩
  case identify =>
    intro p cid s up
    obtain ⟨page, run⟩ := exec_twinIdentify cid up
    refine ⟨_, run, ?_⟩
    rw [adminDone_twin, adminDone_posting, adminDone_regs, adminDone_mem, emit_twin, emit_engine, emit_regs, emit_mem, nonceMade, drawn_twin, drawn_engine,
      drawn_regs, drawn_mem, onTwin_twin, onTwin_engine, onTwin_regs, onTwin_mem, taken_twin, taken_engine, taken_regs, taken_mem, taken_freeCtr, taken_log]
    exact ⟨rfl, rfl, rfl, rfl, rfl, rfl, rfl⟩
  case roleless =>
    intro p cid page s up none
    exact ⟨_, exec_twinPair_roleless cid up none, AdminEnded.twin s p cid twNone⟩
  case paired =>
    intro p cid page s up role paired
    exact ⟨_, exec_twinPair_paired cid up role paired, AdminEnded.twin s p cid twPaired⟩
  case unproved =>
    intro p cid page s up role alone clean aligned unasked
    exact ⟨_, exec_twinPair_unproved cid up role alone clean aligned unasked, AdminEnded.twin s p cid twAuth⟩
  case unclean =>
    intro p cid page s up role alone unclean
    exact ⟨_, exec_twinPair_unclean cid up role alone unclean, AdminEnded.twin s p cid stField⟩
  case pairs =>
    intro p cid v k page s up role alone clean aligned asked key proof
    refine ⟨_, exec_twinPair cid up role alone clean aligned asked key proof, ?_⟩
    rw [twinState_setTwinState _ (by decide), setTwinState_twin _ (by decide), setTwinState_engine, setTwinState_mem, onTwin_twin, onTwin_engine, onTwin_mem,
      taken_engine, taken_mem]
    exact ⟨rfl, rfl, rfl, rfl, rfl, rfl, rfl, rfl, rfl, rfl, rfl, rfl, rfl⟩
  case timeout =>
    intro cid w s pairs pairing late
    obtain ⟨state, pdid, none, posting, mem⟩ := failPair_shows (h := silent s.hw) pairing twUnreachable
    exact ⟨_, exec_pairingTimeout pairs pairing late, state, pdid, none, posting, mem, rfl, rfl⟩
  case hello =>
    intro s solo due empty straight room
    have head : partnerHead (silent s.hw) = partnerHead s.hw := memWord_congr rfl rfl rfl _ _
    have shown := soloHello_shows (h := silent s.hw) (silent_out s.hw) empty s.hw.log.optime
    rw [head, silent_twin] at shown
    obtain ⟨g, sent, out, mseq, tail, at', regs, mem⟩ := shown straight room
    refine ⟨_, exec_helloResend solo due, ?_⟩
    dsimp only
    rw [show soloHello s.hw = soloHello (silent s.hw) from rfl, sent]
    exact ⟨out, mseq, tail, at', regs, mem, rfl, rfl⟩
  case wrongTag =>
    intro f req cid w k s pairs pairing key wrong partner
    obtain ⟨state, -, -, posting, mem⟩ := failPair_shows (h := consume (silent s.hw) 128) pairing twKeys
    rw [consume_mem, silent_mem] at mem
    rw [consume_engine, consume_twin, silent_engine, silent_twin] at posting
    exact ⟨_, exec_twinHello_wrongTag pairs key partner wrong, state, posting, mem, rfl, rfl⟩
  case greeted =>
    intro f req k s pairs waits waiting key tag partner mine other role
    obtain ⟨key, wrapped, run⟩ := exec_twinHello_right (req := req) pairs key partner waits waiting tag mine other role
    obtain ⟨g, sent, requester, confirm, nonce, number, keyed, state, mseq, mem⟩ :=
      greeted_shows (silent s.hw) req (pageField f.payload 0x10 16) key f.mseq wrapped
    rw [sent] at run
    exact ⟨_, run, requester, confirm, nonce, number, keyed, state.trans pairs, mseq, mem, rfl, rfl⟩
  case resumes =>
    intro f text s solo opens number sent
    obtain ⟨state, up, wait, taken, record, mem⟩ := resumePair_shows
      (onTwin (onTwin (consume (silent s.hw) (messageLength f.payload.length)) (fun t => { t with mseqIn := f.mseq })) (fun t => { t with gotConfirm := true }))
    rw [onTwin_twin] at taken
    rw [onTwin_mem, onTwin_mem, consume_mem, silent_mem] at mem
    exact ⟨_, exec_twinConfirm_resumes solo opens number sent, state, up, wait, taken, record, mem, rfl, rfl⟩
  case fault =>
    intro f s paired keyed number
    obtain ⟨state, -, twin, divergent, mem⟩ := declareLost_shows (h := consume (silent s.hw) (messageLength f.payload.length)) paired
    rw [consume_twin, silent_twin] at twin
    rw [consume_mem, silent_mem] at mem
    refine ⟨_, exec_twinConfirm_fault paired keyed number, state, ?_, ?_, divergent, mem, rfl, rfl⟩
    · exact congrArg Twin.unacked twin
    · exact congrArg Twin.losses twin
  case beat =>
    intro s paired empty
    obtain ⟨⟨time, twin⟩, mem⟩ := beatSeen_shows (beatSent (silent s.hw)) (memWord (beatSent (silent s.hw)) (inboxBase + 0x80) 8)
    have read : memWord (beatSent (silent s.hw)) (inboxBase + 0x80) 8 = memWord s.hw (inboxBase + 0x80) 8 := by
      refine memWord_congr ?_ ?_ ?_ _ _
      · rw [beatSent, peerWrite_engine, onTwin_engine, silent_engine]
      · rw [beatSent, peerWrite_buffer, onTwin_buffer, silent_buffer]
      · rw [beatSent, peerWrite_mem, onTwin_mem, silent_mem]
    have sent : (beatSent (silent s.hw)).twin = { s.hw.twin with beatOut := (s.hw.twin.beatOut + 1) % 2 ^ 64 } := by
      rw [beatSent, peerWrite_twin, onTwin_twin, silent_twin]
    obtain ⟨n, b, drained⟩ := drainOutbox_twin (beatSeen (beatSent (silent s.hw)) (memWord (beatSent (silent s.hw)) (inboxBase + 0x80) 8))
      (beatSeen (beatSent (silent s.hw)) (memWord (beatSent (silent s.hw)) (inboxBase + 0x80) 8)).twin.outbox
    refine ⟨_, exec_twinBeat paired, ?_⟩
    rw [boxWritten, drained, drainOutbox_mem, twin, mem, sent, read, beatSent, peerWrite_mem, onTwin_mem]
    exact ⟨rfl, rfl, rfl, rfl, rfl⟩
  case lost =>
    intro s paired still
    obtain ⟨state, up, twin, divergent, mem⟩ := declareLost_shows (h := silent s.hw) paired
    exact ⟨_, exec_partnerLost still, state, up, congrArg Twin.recState twin, divergent, mem, rfl, rfl⟩
  case settled =>
    intro e w s listed quiet late
    refine ⟨_, exec_unsettledListLeave listed quiet late, ?_⟩
    rw [markBitmap, onLog_twin, onLog_log, onLog_regs, onLog_mem, onTwin_twin, onTwin_log, onTwin_regs, onTwin_mem, oget_oset, zget_zset, bitAt_putBit]
    exact ⟨rfl, by rw [if_pos rfl], rfl, rfl, rfl, rfl⟩
  case waitEnd =>
    intro s late
    change execStartupHelloWaitEnd s = _
    unfold execStartupHelloWaitEnd
    exact State.run_silent (if_pos late)
  case record =>
    intro s paired
    change execPairRecordWrite s = _
    unfold execPairRecordWrite
    exact State.run_silent (if_neg paired)
  case unpaired =>
    intro p cid s up role alone
    exact ⟨_, exec_twinUnpair_unpaired cid up role alone, AdminEnded.twin s p cid twUnpaired⟩
  case unpair =>
    intro p cid s up role solo down
    obtain ⟨state, twin, map, solow, mem⟩ := unpair_shows (taken s.hw p)
    refine ⟨_, exec_twinUnpair_solo cid up role solo down, ?_⟩
    dsimp only
    rw [apply_adminAfterMap twinState (fun _ _ _ => rfl), apply_adminAfterMap (·.twin) (fun _ _ _ => rfl),
      apply_adminAfterMap (getF · HQ_TWIN_SOLOW 0) (fun _ _ _ => rfl), apply_adminAfterMap (·.mem) (fun _ _ _ => rfl), state, twin, solow, mem, taken_mem,
      taken_twin]
    have shown : ∀ e, extent (adminAfterMap (unpair (taken s.hw p)) p cid 0) e = extent (mapUnpaired (taken s.hw p)) e := fun e =>
      (apply_adminAfterMap (extent · e) (fun _ _ _ => rfl) _ p cid 0).trans (map e)
    refine ⟨rfl, rfl, rfl, rfl, ?_, ?_, rfl, rfl, rfl, rfl⟩
    · exact fun e => by rw [shown]; exact (mapUnpaired_shows _ e).1
    · exact fun e => by rw [shown]; exact (mapUnpaired_shows _ e).2
  case resilver =>
    intro p cid peer others s up role paired left
    obtain ⟨state, src, peerLeft, engine, mem⟩ := resilverStarted_shows (taken s.hw p) (resilverSource s.hw peer)
      (if resilverSource s.hw peer then others.eraseDups else [])
    have source : flagF (adminDone (resilverStarted (taken s.hw p) (resilverSource s.hw peer)
        (if resilverSource s.hw peer then others.eraseDups else [])) p cid 0 0) HQ_TWIN_SRC 0 = resilverSource s.hw peer := by
      rw [flagF, adminDone_getF, src]
      cases resilverSource s.hw peer <;> rfl
    refine ⟨_, exec_twinResilver_starts cid up role peer others paired left, ?_⟩
    rw [source, twinState_of_regs (adminDone_regs _ _ _ _ _), adminDone_getF, adminDone_twin, adminDone_posting, adminDone_mem, state, src, peerLeft,
      engine, mem, taken_engine, taken_mem, resilverSource_toNat]
    exact ⟨rfl, rfl, rfl, rfl, rfl, rfl, rfl⟩
  case stop =>
    intro p cid peer others s up role resilvers idle
    obtain ⟨state, src, left, engine, mem⟩ := resilverStopped_shows (taken s.hw p)
    refine ⟨_, exec_twinResilver_stops cid up role peer others resilvers idle, ?_⟩
    rw [twinState_of_regs (adminDone_regs _ _ _ _ _), adminDone_getF, adminDone_twin, adminDone_posting, adminDone_mem, state, src, left, engine, mem,
      taken_engine, taken_mem]
    exact ⟨rfl, rfl, rfl, rfl, rfl, rfl, rfl⟩
  case solo =>
    intro p cid peer others s up role solo
    exact ⟨_, exec_twinResilver_solo cid up role peer others solo, AdminEnded.twin s p cid twSolo⟩

end Sys2Proof.Machine
end
